-- ==== Sys2Proof/Word.lean ====
section
/-! DEFINITION. The word types of the EG4816 (R6, R8, R9) and nothing else. -/
namespace Sys2Proof

/-- A byte, in memory and on every bus (R6). -/
abbrev Byte := BitVec 8

/-- An object word, a queue half and a memory word (R9). -/
abbrev Word := BitVec 32

/-- A queue entry, a pair of object words, fabric time (R8, R11). -/
abbrev DWord := BitVec 64

end Sys2Proof
end

