-- ==== Sys2Proof/Syntax.lean ====
section
/-! DEFINITION. The commands the block takes: one constructor per row of spec/opcode_table.json, in the table's order,
with the operands the spec gives the row. Every unit number is a `Fin` of the range R7 gives its placeholder. -/
namespace Sys2Proof

/-- The masters that reach the object window (R31, R32, R450). -/
inductive Master where
  /-- engine e in machine mode, or in user mode -/
  | engine (e : Fin 16) (user : Bool)
  | foreman
  | can
  | twb
  | debug
  deriving DecidableEq, Repr

/-- A write that reaches an object word: its master, the length of its transfer in bytes (R447) and its value. -/
structure Wr where
  master : Master
  len : Nat
  value : Word
  deriving DecidableEq, Repr

/-- A read of an object word: its master and its length in bytes (R441, R447). -/
structure Rd where
  master : Master
  len : Nat
  deriving DecidableEq, Repr

/-- The functions that a disable write moves into a stopping phase (R39), one constructor for each kind. -/
inductive StopFn where
  | markUnit
  | sense (c : Fin 64)
  | queue (q : Fin 32)
  | task (t : Fin 64)
  | foreman
  | canChannel (n : Fin 2)
  | twbPort (n : Fin 2)
  | converter (k : Fin 4)
  | sequencer
  | charger
  | powerPath
  | gauge
  | interrupts
  | journal
  | assayer (k : Fin 4)
  | domain (d : Fin 8)
  deriving DecidableEq, Repr

/-- The test of R86 that XI fails: the window's count passes 275, the window ends with fewer than 225, no edge comes for 7
cycles of the backup RC. -/
inductive XiTest where
  | over (edges : Nat)
  | under (edges : Nat)
  | silent (cycles : Nat)
  deriving DecidableEq, Repr

/-- The DOMAIN objects: the message buffer (R507) and the flash banks (R811). -/
inductive DomainObject where
  | message | bankA | bankB
  deriving DecidableEq, Repr

/-- What the stream of a sense channel does: SCKk's period has brought a bit that is captured (R159), SDc has made a
transition as the two-stage synchroniser shows it (R162), or the evaluation in flight reaches the consumers (R174). -/
inductive SenseEvent where
  | captured (bit : Bool)
  | transition (rising : Bool)
  | delivered
  deriving DecidableEq, Repr

/-- The AMO operations of the A extension (R349). -/
inductive AmoOp where
  | swap | add | xor | and | or | min | max | minu | maxu
  deriving DecidableEq, Repr

/-- What the debug module is asked to do (R382): select a hart; a 32-bit system bus access; a data register or a program
buffer word written; the abstract command that accesses a register, with the program buffer run after it, or memory at the
address in data register 1; the error cleared; halt-on-reset of the selected hart. -/
inductive DebugOp where
  | select (e : Fin 16)
  | bus (a : BitVec 32) (write : Bool) (v : BitVec 32)
  | data (n : Fin 2) (v : BitVec 32)
  | progbuf (n : Fin 2) (v : BitVec 32)
  | register (num : BitVec 16) (transfer write postexec : Bool)
  | memory (size : Fin 3) (write increment : Bool)
  | clearError
  | haltOnReset (on : Bool)
  deriving DecidableEq, Repr

/-- The consumers of the pop path (R392). -/
inductive PopPort where
  | can (n : Fin 2)
  | twb (n : Fin 2)
  deriving DecidableEq, Repr

/-- A CAN frame as the channels send and receive it (R469, R481): format 0 CC base, 1 CC extended, 2 FD base,
3 FD extended, 4 XL; the identifier; the bit-rate switch of an FD frame; the SDU type and the acceptance field of an XL
frame; the data bytes. -/
structure Frame where
  format : Fin 5
  ident : BitVec 29
  brs : Bool := false
  sdt : Byte := 0
  acceptance : Word := 0
  data : List Byte := []
  deriving DecidableEq, Repr

/-- A word of the fault collector's checked storage (R711). -/
inductive CollectorWord where
  | action (f : Fin 128)
  | pending (k : Fin 8)
  | log (n : Fin 64)
  deriving DecidableEq, Repr

/-- A byte or event at a port's firmware address (R520, R521): addressed, a byte received, a byte asked for, STOP. -/
inductive TwbByte where
  | addressedWrite
  | addressedRead
  | data (b : Byte)
  | send
  | stop
  deriving DecidableEq, Repr

/-- How the other device ends a controller transfer (R523): every byte acknowledged, with the bytes read and whether the
PEC byte agreed; an address not acknowledged; a data byte not acknowledged after `count` bytes; SCL held low. -/
inductive TwbOutcome where
  | done (read : List Byte) (pecGood : Bool)
  | addressNack
  | dataNack (count : Byte)
  deriving DecidableEq, Repr

/-- What an OTP command met (R747, R830): the junction temperature at its issue in m°C, the lowest and highest VPP during
it in mV, whether the pump settled, and what the bits that it programs read after their pulses. -/
structure OtpRun where
  tj : Int
  vppLow : Nat
  vppHigh : Nat
  settled : Bool
  took : BitVec 3
  deriving DecidableEq, Repr
/-- The commands (opcode_table.json). -/
inductive Instr where
  /-- OBJECT_WRITE, R12. A write to an object word that has no row of its own; its effect follows the object's access code. Object i:j. -/
  | objectWrite (i : BitVec 16) (j : Byte) (w : Wr)
  /-- RC_READ, R12. A read of an RC object returns its value and clears it in the same access. Object i:j; a read of an object of another access code returns its value. -/
  | rcRead (i : BitVec 16) (j : Byte) (r : Rd)
  /-- PAIR_LOW_WRITE, R454. A write of the low word of a 64-bit pair stages that word for the writing master. -/
  | pairLowWrite (i : BitVec 16) (j : Byte) (w : Wr)
  /-- PAIR_HIGH_WRITE, R454. A write of the high word of a pair commits both words, or ends with a pair-sequence result. -/
  | pairHighWrite (i : BitVec 16) (j : Byte) (w : Wr)
  /-- PAIR_READ_SNAPSHOT, R450. A read of one word of a pair returns a buffered word or fills the master's snapshot buffer. -/
  | pairReadSnapshot (i : BitVec 16) (j : Byte) (r : Rd)
  /-- STOPPING_PHASE_END, R39. A disabled function's unit of work in flight completes and the function becomes stopped. -/
  | stoppingPhaseEnd (f : StopFn)
  /-- BEDROCK_RESET, R55. The Bedrock supply falls below its reset threshold and domains D0 to D7 are reset. -/
  | bedrockReset
  /-- POWER_ON_RESET, R55. PORST_N or a VAUX, AON or VCORE supervisor resets domains D1 to D7. The trigger code of R795, and whether PORST_N is still asserted, or VAUX still low, after this command. -/
  | powerOnReset (trigger : Byte) (held : Bool)
  /-- SYSTEM_RESET, R55. A Canary bite, collector action, reset request or debug request resets D2 to D7. The trigger code of R795. -/
  | systemReset (trigger : Byte)
  /-- XI_QUALIFIED, R85. One hundred consecutive XI windows meet the edge count and XI qualifies. The rising edges of XI that the latest 10 µs windows counted, oldest first. -/
  | xiQualified (edges : List Nat)
  /-- XI_QUALIFY_TIMEOUT, R84. XI has not qualified 20 ms after oscillator start and the PLL locks on the backup RC. -/
  | xiQualifyTimeout
  /-- XI_LOSS, R87. XI loss is detected and the PLL reference moves to the backup RC. What the generator's tests saw. -/
  | xiLoss (test : XiTest)
  /-- PLL_UNLOCK, R89. The PLL loses lock and fCLK switches to the backup RC with a fatal fault. -/
  | pllUnlock
  /-- RETURN_REQUEST, R88. A write of 1h to 21B0h:04h requests a return to XI or a relock. -/
  | returnRequest (w : Wr)
  /-- AUTOMATIC_RETURN, R88. XI qualifies in state 2h with return permitted and the generator returns to state 1h. -/
  | automaticReturn
  /-- PLL_RELOCK, R90. The PLL restarted after an unlock locks and the generator enters state 1h or 2h. -/
  | pllRelock
  /-- RETURN_FAILURE, R88. A requested return or relock is not met within its limit and is dropped. -/
  | returnFailure
  /-- MILLISECOND_TICK, R93. Fabric time reaches a multiple of 200 000 and the millisecond tick occurs. -/
  | millisecondTick
  /-- WHEEL_MODE_WRITE, R101. A write to a wheel's mode changes its drive mode and lock state. Wheel u. -/
  | wheelModeWrite (u : Fin 8) (w : Wr)
  /-- OWN_FREQUENCY_COMMIT, R130. A write of 02h commits the word with the staged fraction and direction as F_own. Wheel u. -/
  | ownFrequencyCommit (u : Fin 8) (w : Wr)
  /-- ANGLE_SET, R130. A write of 07h sets the wheel angle and clears its fraction without crossing any angle. Wheel u. -/
  | angleSet (u : Fin 8) (w : Wr)
  /-- TURNS_PER_REFERENCE_WRITE, R112. A write of MULT clears the period start and integral and makes the lock state free. Wheel u. -/
  | turnsPerReferenceWrite (u : Fin 8) (w : Wr)
  /-- SYNCI_EDGE, R126. An edge on SYNCI stable for the deglitch length is accepted as a reference event. The new level after the synchroniser, and the fabric cycles it has been stable. -/
  | synciEdge (rising : Bool) (held : Nat)
  /-- LOCK_LOOP_UPDATE, R108. The wheel loop updates F_app and the integral 40 cycles after a reference event. Wheel u. -/
  | lockLoopUpdate (u : Fin 8)
  /-- REFERENCE_LOST, R111. No loop update arrives within the loss time and the wheel enters glide. Wheel u. -/
  | referenceLost (u : Fin 8)
  /-- ENCODER_COUNT, R113. An accepted edge of A or B moves the encoder position by one count. A sample of the levels of A and B, and the fabric cycles each has been stable. -/
  | encoderCount (k : Fin 4) (a b : Bool) (heldA heldB : Nat)
  /-- INDEX_PULSE, R117. A rising edge of the accepted index level captures, homes or checks the position. The index level has risen and been stable for the cycles given. -/
  | indexPulse (k : Fin 4) (held : Nat)
  /-- ENCODER_STALL, R120. No count arrives for the stall time and the count interval reads 0. -/
  | encoderStall (k : Fin 4)
  /-- ENCODER_ENABLE, R125. A write to the encoder enable starts decoding with cleared state, or stops it. -/
  | encoderEnable (k : Fin 4) (w : Wr)
  /-- SYNCO_PULSE_END, R128. The SYNCO pulse width expires and SYNCO falls. -/
  | syncoPulseEnd
  /-- MARK_FIRE, R136. A wheel crosses an enabled mark's angle in an admitted direction and the mark fires. -/
  | markFire (m : Fin 1024)
  /-- MARK_CATCH_UP, R140. A step mark whose new angle is already reached fires again in the next cycle. -/
  | markCatchUp (m : Fin 1024)
  /-- MARK_CONTROL_WRITE, R142. A write of a mark's control word enables, disables or reconfigures the entry. -/
  | markControlWrite (m : Fin 1024) (w : Wr)
  /-- CONVERTER_TRIGGER, R143. A fired mark triggers each named housekeeping converter in cycle t0 + 2. -/
  | converterTrigger
  /-- SENSE_SNAPSHOT, R184. A fired mark latches fast and precision results of each named channel. -/
  | senseSnapshot
  /-- BAND_APPLY, R262. A fired mark applies the pending demand set of each named rail. -/
  | bandApply
  /-- TABLE_SAMPLE, R271. A fired mark evaluates each named table and delivers it to the bindings. -/
  | tableSample
  /-- MARK_TASK_ACTIVATION, R143. A fired mark places an activation request for a task into the post FIFO. -/
  | markTaskActivation
  /-- MARK_QUEUE_POST, R147. A fired mark places a queue post entry for a task into the post FIFO. -/
  | markQueuePost
  /-- SYNCO_PULSE, R128. A fired mark with the SYNCO pulse action starts a SYNCO pulse. -/
  | syncoPulse
  /-- ANGLE_CAPTURE, R143. A fired mark latches the angle of each named wheel. -/
  | angleCapture
  /-- MARK_FIFO_POST, R148. A request leaves the mark post FIFO when the post network grants the mark unit. -/
  | markFifoPost
  /-- MARK_UNIT_ENABLE, R151. A write to 21A0h:01h starts or stops the mark unit. -/
  | markUnitEnable (w : Wr)
  /-- SCK_ENABLE, R161. A write to a group's SCK enable starts or stops the modulator clock. Group k. -/
  | sckEnable (k : Fin 8) (w : Wr)
  /-- FAST_RESULT_DELIVERY, R174. A channel evaluates the fast filter for a bit and delivers x to its consumers. The bit of channel c is captured or decoded and enters its filters; three cycles later its x is delivered. -/
  | fastResultDelivery (c : Fin 64) (e : SenseEvent)
  /-- MANCHESTER_CODING_ERROR, R162. No mid-bit transition is accepted in time and the decoder leaves sync. -/
  | manchesterCodingError (c : Fin 64)
  /-- STREAM_SILENCE, R166. SDc makes no transition for 4 × N_m cycles and the channel fails. -/
  | streamSilence (c : Fin 64)
  /-- PRECISION_RESULT, R180. At a decimation bit the channel writes y, its engineering value and its time. -/
  | precisionResult (c : Fin 64)
  /-- SENSE_MODE_WRITE, R171. A write to a channel's mode starts acquisition or moves it to stopping. -/
  | senseModeWrite (c : Fin 64) (w : Wr)
  /-- SENSE_RESTART, R170. A write of 1h to the restart subindex restarts a failed channel. -/
  | senseRestart (c : Fin 64) (w : Wr)
  /-- GAIN_COMMIT, R183. A write of the gain commits it together with the staged offset. -/
  | gainCommit (c : Fin 64) (w : Wr)
  /-- PHASE_TRANSITION, R204. A band decision or minimum-time end switches a phase between rising and falling states. -/
  | phaseTransition (p : Fin 48)
  /-- FORCED_EDGE, R207. The maximum hold expires and the phase makes a forced edge. -/
  | forcedEdge (p : Fin 48)
  /-- DEAD_TIME_END, R205. The dead time elapses and the incoming gate command goes to 1. -/
  | deadTimeEnd (p : Fin 48)
  /-- PILOT_ENABLE, R212. A write to the Pilot enable turns the Pilot off, or to acquire or hold. -/
  | pilotEnable (p : Fin 48) (w : Wr)
  /-- MISSING_EDGE, R213. The Pilot wheel crosses the slot angle again with no leading edge in between. -/
  | missingEdge (p : Fin 48)
  /-- GATE_FAULT_INPUT, R218. GFp_N falls below its threshold and the gate-fault latch clears both commands. The low level lasts `ns` nanoseconds at least; from 10 ns it stays low until GATE_RELEASE. -/
  | gateFaultInput (p : Fin 48) (ns : Nat)
  /-- GATE_FAULT_SEEN, R219. The synchronous logic sees the set latch and the phase enters tripped. -/
  | gateFaultSeen (p : Fin 48)
  /-- PHASE_REARM, R226. The re-arm conditions hold and a tripped phase re-arms to its falling state. -/
  | phaseRearm (p : Fin 48)
  /-- REARM_WINDOW_EXPIRY, R228. The phase has run clean for the re-arm window and its record returns to no owner. -/
  | rearmWindowExpiry (p : Fin 48)
  /-- REARM_COMMAND, R230. A write of 1h to 16h clears the fault record and restarts a tripped or locked-out phase. -/
  | rearmCommand (p : Fin 48) (w : Wr)
  /-- PHASE_PARK, R231. A phase with a park request parks at the end of its state or minimum time. -/
  | phasePark (p : Fin 48)
  /-- PHASE_UNPARK, R232. A withdrawn park request returns a parked phase to its falling state. -/
  | phaseUnpark (p : Fin 48)
  /-- PHASE_MODE_WRITE, R238. A write to a phase's mode disables it, makes it idle or enters manual. -/
  | phaseModeWrite (p : Fin 48) (w : Wr)
  /-- MANUAL_COMMANDS_WRITE, R234. A write to 1Ch in manual sets GHp and GLp with dead time. -/
  | manualCommandsWrite (p : Fin 48) (w : Wr)
  /-- RAIL_START, R254. A write of 1h to a stopped rail's mode is judged and, if accepted, starts the rail. -/
  | railStart (r : Fin 12) (w : Wr)
  /-- RAIL_STOP, R257. A write of 0h to a rail's mode withdraws every run grant and stops the rail. -/
  | railStop (r : Fin 12) (w : Wr)
  /-- RAIL_WIND_DOWN, R258. A write of 2h to a running rail's mode starts a wind-down. -/
  | railWindDown (r : Fin 12) (w : Wr)
  /-- DEMAND_COMMIT, R261. A write of 1h to the commit copies the staged set into the pending set. -/
  | demandCommit (r : Fin 12) (w : Wr)
  /-- APPLY_COMMAND, R262. A write of 1h to the apply command applies the pending set. -/
  | applyCommand (r : Fin 12) (w : Wr)
  /-- SWAP_REQUEST, R273. A write of 1h to a table's swap request marks a swap pending. -/
  | swapRequest (f : Fin 8) (w : Wr)
  /-- TABLE_BANK_WRITE, R274. A write to a table bank word takes effect or is refused and counted. Word e of the bank holds entries 2e and 2e + 1. -/
  | tableBankWrite (f : Fin 8) (b : Fin 2) (e : Fin 512) (w : Wr)
  /-- RAMP_TICK, R279. A unit in TAPER or RECALL reaches its ramp tick and its weight moves one step. Unit u of rail r. -/
  | rampTick (r : Fin 12) (u : Fin 16)
  /-- UNIT_SHED, R281. A tapered unit whose members are all parked or stopped enters SHED and frees its slot. Unit u of rail r. -/
  | unitShed (r : Fin 12) (u : Fin 16)
  /-- SHED_DECISION, R283. A shed condition holds for its delay after the dwell and one unit starts to taper. -/
  | shedDecision (r : Fin 12)
  /-- RECALL_DECISION, R283. A recall condition holds for its delay after the dwell and one unit is recalled. -/
  | recallDecision (r : Fin 12)
  /-- SUPERVISION_CLASSIFY, R311. Two cycles after a state ends, the measurement is classified and scores change. Member i of rail r. -/
  | supervisionClassify (r : Fin 12) (i : Fin 16)
  /-- BLIND_GRACE_EXPIRY, R313. A member's phase stays blind for the blind grace time and receives verdict 3h. Member i of rail r. -/
  | blindGraceExpiry (r : Fin 12) (i : Fin 16)
  /-- VOLTAGE_CHANNEL_LOST, R322. A watched channel stays not valid for the blind grace time and the condition qualifies. Watched channel c of rail r. -/
  | voltageChannelLost (r : Fin 12) (c : Fin 64)
  /-- REGULATION_TIMEOUT, R323. The output stays outside the regulation window for the timeout and the condition qualifies. -/
  | regulationTimeout (r : Fin 12)
  /-- RAIL_TAKEOVER, R329. A member's episode time reaches the rail timeout and the rail takes the fault over. Member i of rail r. -/
  | railTakeover (r : Fin 12) (i : Fin 16)
  /-- MEMBER_RELEASE, R334. A write to the release word clears verdicts and exclusions of the named members. -/
  | memberRelease (r : Fin 12) (w : Wr)
  /-- SATURATION_RELEASE, R336. A write of 1h resets every group's saturation cap. -/
  | saturationRelease (r : Fin 12) (w : Wr)
  /-- CLEAR_RECORD, R345. A write of 1h to SV + 2h:0Ch clears the rail fault record and time. -/
  | clearRecord (r : Fin 12) (w : Wr)
  /-- ACTIVATE_COMMAND, R401. A write of 1h to a task's activate command makes an activation request. -/
  | activateCommand (t : Fin 64) (w : Wr)
  /-- TASK_TIMER, R401. A task's period elapses and the timer makes an activation request. -/
  | taskTimer (t : Fin 64)
  /-- DISPATCH, R405. A free eligible engine takes the highest-priority pending activation of its tasks. Engine e. -/
  | dispatch (e : Fin 16)
  /-- END_WRITE, R407. A write of 1h to the end word ends the activation in progress on the engine. Engine e's end word. -/
  | endWrite (e : Fin 16) (w : Wr)
  /-- TASK_HANG, R410. An activation runs X × B cycles without ending and the engine is reset and marked faulty. The activation in progress on engine e. -/
  | taskHang (e : Fin 16)
  /-- TASK_ENABLE, R416. A write to a task's enable starts placement or makes the task stopping. -/
  | taskEnable (t : Fin 64) (w : Wr)
  /-- TASK_PLACED, R416. The code copy and state fill complete and the task becomes placed. -/
  | taskPlaced (t : Fin 64)
  /-- MIGRATION_CUT, R419. The preload is complete with no activation in progress and the state copy begins. -/
  | migrationCut
  /-- MIGRATION_SWAP, R419. The last state word is written and the host changes to the target. -/
  | migrationSwap
  /-- CONSOLIDATION_TIMEOUT, R428. A consolidation does not end within its timeout and is refused. -/
  | consolidationTimeout
  /-- MOVE_COMMAND, R431. A write of an engine number to a task's move command requests a migration. -/
  | moveCommand (t : Fin 64) (w : Wr)
  /-- CLEAR_ENGINE_FAULT, R412. A write to 2780h:06h clears the faulty mark of the named engines. -/
  | clearEngineFault (w : Wr)
  /-- TANG, R359. The instruction reads the angle of a Tide wheel into a register. Engine e. -/
  | tang (e : Fin 16) (rd rs1 : Fin 32)
  /-- TREACH, R359. The instruction tests whether one angle has reached another. Engine e. -/
  | treach (e : Fin 16) (rd rs1 rs2 : Fin 32)
  /-- QMUL, R359. The instruction forms a rounded Q16.16 product. Engine e. -/
  | qmul (e : Fin 16) (rd rs1 rs2 : Fin 32)
  /-- QPUSH, R359. The instruction pushes one 64-bit entry to a queue. Engine e. -/
  | qpush (e : Fin 16) (q rs1 rs2 : Fin 32)
  /-- QPOP, R359. The instruction pops one entry from a queue, or waits under the wait policy. Engine e. -/
  | qpop (e : Fin 16) (rd rs1 : Fin 32)
  /-- QWAIT, R360. The instruction waits for a queue, an interrupt or a timeout. Engine e. -/
  | qwait (e : Fin 16) (rd rs1 rs2 : Fin 32)
  /-- QWAIT_WAKE, R360. A watched queue becomes non-empty or an interrupt pends and a waiting QWAIT or QPOP completes. Engine e. -/
  | qwaitWake (e : Fin 16)
  /-- QWAIT_TIMEOUT, R360. The QWAIT timeout expires and rd takes 21h. Engine e. -/
  | qwaitTimeout (e : Fin 16)
  /-- LR_W, R353. The instruction loads a word and makes a reservation on it. Engine e. -/
  | lrW (e : Fin 16) (rd rs1 : Fin 32)
  /-- SC_W, R353. The instruction stores a word if its reservation still stands. Engine e. -/
  | scW (e : Fin 16) (rd rs1 rs2 : Fin 32)
  /-- AMO, R352. An atomic memory operation reads, modifies and writes one word. Engine e. -/
  | amo (e : Fin 16) (op : AmoOp) (rd rs1 rs2 : Fin 32)
  /-- RESERVATION_TIMEOUT, R353. 256 cycles pass after LR.W and the reservation is cleared. Engine e. -/
  | reservationTimeout (e : Fin 16)
  /-- WFI, R406. The engine waits for an interrupt with its clock stopped. Engine e. -/
  | wfi (e : Fin 16)
  /-- INTERRUPT_TRAP, R361. An enabled machine interrupt pends and the engine takes the trap. Engine e. -/
  | interruptTrap (e : Fin 16)
  /-- ENGINE_FAULT, R378. A TCM double-bit error or the exception score limit raises an engine fault. Engine e reads address a of its own memories by fetch or load; without an address, the fault its exception score has made due. -/
  | engineFault (e : Fin 16) (a : Option (BitVec 32)) (fetch : Bool)
  /-- SCRUB_INTERVAL, R374. A memory's scrub interval elapses and its scrubber reads and corrects one word. The scrubber of I-TCM m, of D-TCM m - 16 or of SRAM bank m - 32. -/
  | scrubInterval (m : Fin 48)
  /-- RUN_CONTROL_WRITE, R380. A write to an engine's run control holds it in unit reset or releases it. Engine e. -/
  | runControlWrite (e : Fin 16) (w : Wr)
  /-- UNIT_RESET, R379. An engine's core state is reset and it fetches from its boot address or stays held. Engine e. -/
  | unitReset (e : Fin 16)
  /-- DEBUG_HALT, R383. The debug module halts an engine. Engine e. -/
  | debugHalt (e : Fin 16)
  /-- DEBUG_RESUME, R382. The debug module resumes a halted engine. Engine e. -/
  | debugResume (e : Fin 16)
  /-- DEBUG_ENGINE_RESET, R383. The debug module requests a unit reset of one engine. Engine e. -/
  | debugEngineReset (e : Fin 16)
  /-- DEBUG_SYSTEM_RESET, R383. The debug module requests a system reset. -/
  | debugSystemReset
  /-- DEBUG_SYSTEM_BUS_ACCESS, R382. The debug module makes a 32-bit system bus access as a master. What the debug module is asked: the access, or an abstract command with what it needs. -/
  | debugSystemBusAccess (op : DebugOp)
  /-- QUEUE_PORT_POP, R390. A read of a queue port's offset 00h pops one entry and holds its high word. -/
  | queuePortPop (m : Master) (q : Fin 32)
  /-- QUEUE_PORT_STAGE, R390. A write of offset 00h stages the low word of a push. -/
  | queuePortStage (m : Master) (q : Fin 32) (v : BitVec 32)
  /-- QUEUE_PORT_PUSH, R390. A write of offset 04h pushes the staged low word with the written high word. -/
  | queuePortPush (m : Master) (q : Fin 32) (v : BitVec 32)
  /-- QUEUE_POST, R387. An entry from the post network is posted to a queue. -/
  | queuePost
  /-- POP_PATH_POP, R392. A CAN channel or two-wire port pops its queue through the pop path. The CAN channel or two-wire port that pops. -/
  | popPathPop (port : PopPort)
  /-- QUEUE_ENABLE, R385. A write to a queue's enable is checked and starts the queue, or stops it. -/
  | queueEnable (q : Fin 32) (w : Wr)
  /-- QUEUE_FLUSH, R394. A write of 1h to a stopped queue's flush empties it. -/
  | queueFlush (q : Fin 32) (w : Wr)
  /-- DOMAIN_DATA_READ, R449. A read of a DOMAIN data subindex returns four bytes and advances the offset. -/
  | domainDataRead (i : DomainObject) (r : Rd)
  /-- DOMAIN_DATA_WRITE, R449. A write of a DOMAIN data subindex stores four bytes and advances the offset. -/
  | domainDataWrite (i : DomainObject) (w : Wr)
  /-- FIRMWARE_TABLE_COMMIT, R459. A write of the entry count starts validation of a new firmware object table. -/
  | firmwareTableCommit (w : Wr)
  /-- FIRMWARE_TABLE_VALIDATED, R459. Validation ends and the new table comes into force or is refused. -/
  | firmwareTableValidated
  /-- FIRMWARE_OBJECT_READ, R461. An access to a firmware object looks up its entry and reads its backing word. Object i:j. -/
  | firmwareObjectRead (i : BitVec 16) (j : Byte) (r : Rd)
  /-- FIRMWARE_OBJECT_WRITE, R462. An accepted write stores a firmware object's backing word and may notify. Object i:j. -/
  | firmwareObjectWrite (i : BitVec 16) (j : Byte) (w : Wr)
  /-- CAN_ENABLE, R471. A write to a channel's enable is checked and starts the channel, or stops it. -/
  | canEnable (n : Fin 2) (w : Wr)
  /-- CAN_FRAME_RECEIVED, R480. A frame is received and consumed by the agent, a bulk session or a raw-frame post. It comes after the receive errors given. -/
  | canFrameReceived (n : Fin 2) (f : Frame) (errs : Fin 64)
  /-- CAN_FRAME_SENT, R479. A frame from the transmit buffer wins arbitration and is sent. It comes after the attempts given that ended in an error. -/
  | canFrameSent (n : Fin 2) (errs : Fin 64)
  /-- BUS_OFF_RECOVERY, R476. After 128 occurrences of 11 recessive bits a bus-off channel recovers. -/
  | busOffRecovery (n : Fin 2)
  /-- RAW_FRAME_POP, R481. A channel pops a raw frame from role 2 of its firmware task for transmission. -/
  | rawFramePop (n : Fin 2)
  /-- NMT_COMMAND, R483. An NMT command changes the agent's NMT state or resets communication. It is the oldest received. -/
  | nmtCommand
  /-- SDO_REQUEST, R446. An SDO or USDO transfer accesses an object and answers or aborts. It is the oldest received. -/
  | sdoRequest
  /-- SDO_TIMEOUT, R482. A segmented transfer has no segment for 1 s and is aborted. -/
  | sdoTimeout
  /-- RPDO_RECEIVED, R486. An RPDO is received and its mapped entries are written. It is the oldest received. -/
  | rpdoReceived
  /-- SYNC_RECEIVED, R486. A SYNC writes synchronous RPDOs and sends synchronous TPDOs. It is the oldest received. -/
  | syncReceived
  /-- SYNC_PRODUCE, R482. The communication cycle period elapses and the agent produces a SYNC. -/
  | syncProduce
  /-- TPDO_EVENT, R487. A TPDO's event or timer fires and it reads its entries and is sent. -/
  | tpdoEvent (k : Fin 16) (timer : Bool)
  /-- HEARTBEAT_PRODUCE, R482. The producer heartbeat time elapses and a heartbeat is sent. -/
  | heartbeatProduce
  /-- HEARTBEAT_TIMEOUT, R490. A consumed heartbeat times out and a communication error acts under 1029h. It is consumer k's. -/
  | heartbeatTimeout (k : Fin 4)
  /-- EMCY_SEND, R489. An EMCY frame leaves the EMCY queue after its inhibit time. -/
  | emcySend
  /-- LSS_SWITCH_STATE_GLOBAL, R482. An LSS switch state global command changes the LSS state. -/
  | lssSwitchStateGlobal
  /-- LSS_SWITCH_STATE_SELECTIVE, R482. An LSS switch state selective command selects this device by identity. -/
  | lssSwitchStateSelective
  /-- LSS_CONFIGURE_NODE_ID, R482. An LSS command sets the pending node-ID. -/
  | lssConfigureNodeId
  /-- LSS_CONFIGURE_BIT_TIMING, R482. An LSS command selects a bit timing from table 0. -/
  | lssConfigureBitTiming
  /-- LSS_ACTIVATE_BIT_TIMING, R482. An LSS command activates the configured bit timing. -/
  | lssActivateBitTiming
  /-- LSS_STORE_CONFIGURATION, R482. An LSS command stores the LSS configuration. -/
  | lssStoreConfiguration
  /-- LSS_INQUIRE, R482. An LSS command inquires the identity or node-ID. -/
  | lssInquire
  /-- LSS_FASTSCAN, R482. An LSS fastscan frame is answered. -/
  | lssFastscan
  /-- LINE_SWITCH_OVER, R493. In standby, the active line goes bus-off or silent and the other line becomes active. -/
  | lineSwitchOver
  /-- BULK_START, R495. A write of 1h to the start begins a bulk session. -/
  | bulkStart (w : Wr)
  /-- BULK_DATA_FRAME, R496. A bulk data frame is taken or discarded by the receiver. It is the oldest received. -/
  | bulkDataFrame
  /-- BULK_ACK_FRAME, R496. A bulk acknowledgement resumes the sender from the acknowledged sequence. It is the oldest received. -/
  | bulkAckFrame
  /-- BULK_END_FRAME, R497. An end frame is checked and the session ends done or failed. It is the oldest received. -/
  | bulkEndFrame
  /-- BULK_ABORT_FRAME, R497. An abort frame ends the session with result 4h. It is the oldest received. -/
  | bulkAbortFrame
  /-- BULK_ABORT, R497. A write of 1h to 2A21h:0Ah ends the session with result 4h. -/
  | bulkAbort (w : Wr)
  /-- BULK_TIMEOUT, R496. No acknowledgement arrives within the timeout and the sender resends or fails. -/
  | bulkTimeout
  /-- COMMAND_SUBMIT, R500. A write to the submit checks an authenticated command message. -/
  | commandSubmit (w : Wr)
  /-- COMMAND_WRITES, R501. After the counter is stored, the command's writes are made in order. -/
  | commandWrites
  /-- AUTH_LOCKOUT_END, R502. The lockout time elapses and the authentication unit accepts commands again. -/
  | authLockoutEnd
  /-- TWB_ENABLE, R531. A write to a port's enable starts or stops the port. -/
  | twbEnable (n : Fin 2) (w : Wr)
  /-- TWB_OBJECT_READ, R515. Command 01h reads an object and returns result, length and value. -/
  | twbObjectRead (n : Fin 2) (i : BitVec 16) (j : Byte)
  /-- TWB_OBJECT_WRITE, R517. Command 02h writes an object once its frame is complete. The frame is every byte that the controller wrote after the address. -/
  | twbObjectWrite (n : Fin 2) (frame : List Byte)
  /-- TWB_LAST_RESULT, R518. Command 03h returns the result of the port's last write. -/
  | twbLastResult (n : Fin 2)
  /-- STRETCH_LIMIT_EXPIRY, R512. The cumulative stretch reaches its limit and the port releases SCL. -/
  | stretchLimitExpiry (n : Fin 2)
  /-- SCL_LOW_TIMEOUT, R513. SCL stays low for the timeout and the port abandons the transfer. SCL has been low for held cycles without a break. -/
  | sclLowTimeout (n : Fin 2) (held : Nat)
  /-- FIRMWARE_TARGET_BYTE, R521. A byte or event at the firmware address is posted or a byte popped and sent. -/
  | firmwareTargetByte (n : Fin 2) (b : TwbByte)
  /-- CONTROLLER_START, R522. A write of 1h to the start begins a controller transfer. -/
  | controllerStart (n : Fin 2) (w : Wr)
  /-- CONTROLLER_TRANSFER_END, R523. A controller transfer ends with its status code. -/
  | controllerTransferEnd (n : Fin 2) (o : TwbOutcome)
  /-- ARBITRATION_LOST, R524. The port loses arbitration, releases SDA and later restarts. It is lost in an address byte of this port when own is true. -/
  | arbitrationLost (n : Fin 2) (own : Bool)
  /-- BUS_CLEAR, R526. The port drives up to nine SCL pulses to free a stuck SDA. SDA has read low with SCL high for held cycles; it reads high within the nine pulses when freed is true. -/
  | busClear (n : Fin 2) (held : Nat) (freed : Bool)
  /-- CLEAR_COMMAND, R526. A write of 1h to 11h requests a bus clear. -/
  | clearCommand (n : Fin 2) (w : Wr)
  /-- REQUEST_WRITE, R527. A write to 0Dh makes or withdraws an in-band request. -/
  | requestWrite (n : Fin 2) (w : Wr)
  /-- REQUEST_PULSE, R527. After the bus is free for 2 × tBUF the port pulls SCL low for the request pulse. The bus has been free for idle cycles since the last STOP; the pulse ends with SDA low when sdaLow is true. -/
  | requestPulse (n : Fin 2) (idle : Nat) (sdaLow : Bool)
  /-- ALERT_RESPONSE, R528. A read of address 0Ch is answered by a requesting port under arbitration. -/
  | alertResponse (n : Fin 2) (won : Bool)
  /-- REQUEST_DETECT, R529. A controller sees a request pulse and reads the requester at its next START. SCL has been low for held cycles on a free bus; the answer is the byte read from 0Ch. -/
  | requestDetect (n : Fin 2) (held : Nat) (answer : Option Byte)
  /-- TWB_SLEEP, R530. A write of 1h to 0Bh puts the port to sleep. -/
  | twbSleep (n : Fin 2) (w : Wr)
  /-- WAKE_MATCH, R530. An asleep port's address matcher sees an enabled address and wakes the port. -/
  | wakeMatch (n : Fin 2) (firmware : Bool)
  /-- SOFTWARE_TRIGGER, R539. A write of 1h to 08h triggers a converter scan. Converter k. -/
  | softwareTrigger (k : Fin 4) (w : Wr)
  /-- CONVERTER_TIMER, R539. The converter timer period elapses and triggers a scan. -/
  | converterTimer (k : Fin 4)
  /-- SCAN_START, R540. The trigger delay ends and the first sampling of a scan begins. -/
  | scanStart (k : Fin 4)
  /-- CONVERSION_RESULT, R541. A conversion ends and its result is written and routed. The voltages, in µV, of the input and of the next input. -/
  | conversionResult (k : Fin 4) (v w : Int)
  /-- CONVERTER_ENABLE, R548. A write to a converter's enable starts or stops it. -/
  | converterEnable (k : Fin 4) (w : Wr)
  /-- TACH_EDGE, R554. A tachometer pin's accepted rising edge records its period. GPIOn; the converter clocks for which its new level has been stable. -/
  | tachEdge (n : Fin 8) (stable : Nat)
  /-- TACH_STALL, R554. No tachometer edge arrives for the stall time and the pin stalls. GPIOn. -/
  | tachStall (n : Fin 8)
  /-- VAUX_WARNING, R572. VAUX falls below the warning threshold and the power-fail action is taken. VAUX has stayed past mv millivolts for held nanoseconds. -/
  | vauxWarning (mv held : Nat)
  /-- VAUX_WARNING_CLEAR, R556. VAUX rises above the warning rising threshold. VAUX has stayed past mv millivolts for held nanoseconds. -/
  | vauxWarningClear (mv held : Nat)
  /-- VAUX_OVERVOLTAGE, R556. VAUX rises above its overvoltage threshold. VAUX has stayed past mv millivolts for held nanoseconds. -/
  | vauxOvervoltage (mv held : Nat)
  /-- VDDIO_UNDERVOLTAGE, R556. VDDIO falls below its supervisor threshold and its pads go inert. VDDIO has stayed past mv millivolts for held nanoseconds. -/
  | vddioUndervoltage (mv held : Nat)
  /-- VDDA_UNDERVOLTAGE, R556. VDDA falls below its supervisor threshold. VDDA has stayed past mv millivolts for held nanoseconds. -/
  | vddaUndervoltage (mv held : Nat)
  /-- REGULATOR_ENABLE, R561. A write to a regulator's enable latch starts or stops it. BKA, BKB or LDA. -/
  | regulatorEnable (r : Fin 3) (w : Wr)
  /-- REGULATOR_GOOD, R559. The soft start ends with the output above 93 % and the regulator is good. The output in thousandths of its nominal value. -/
  | regulatorGood (r : Fin 3) (level : Nat)
  /-- REGULATOR_FAULT, R560. The output stays out of range for 50 µs and the regulator stops. The output, in thousandths of its nominal value, past which it has stayed for held nanoseconds. -/
  | regulatorFault (r : Fin 3) (level held : Nat)
  /-- REGULATOR_RESTART, R560. 20 ms after a fault the regulator restarts, or latches off after the limit. -/
  | regulatorRestart (r : Fin 3)
  /-- DRIVER_ENABLE, R564. A write to a driver enable starts a soft start or puts both ends low. -/
  | driverEnable (w : Wr)
  /-- DRIVER_LIMIT_STOP, R564. Sixteen consecutive limited half-periods stop the gate-supply driver. GDSg and its consecutive limited half-periods. -/
  | driverLimitStop (g : Fin 2) (halves : Nat)
  /-- DOMAIN_REQUEST_WRITE, R569. A write to the requested domain states is checked and starts domain changes. -/
  | domainRequestWrite (w : Wr)
  /-- DOMAIN_CHANGE_COMPLETE, R570. A domain completes its state change. -/
  | domainChangeComplete (d : Fin 8)
  /-- SEQUENCER_UP, R577. Command 1h starts an up sequence. -/
  | sequencerUp (w : Wr)
  /-- SEQUENCER_DOWN, R580. Command 2h, or a down action, starts a down sequence. -/
  | sequencerDown (w : Wr)
  /-- SEQUENCER_CLEAR, R583. Command 3h clears the failure records and failed state. -/
  | sequencerClear (w : Wr)
  /-- SLOT_UP_DELAY_EXPIRY, R577. A slot's up delay elapses and its output is asserted. SQj. -/
  | slotUpDelayExpiry (j : Fin 16)
  /-- SLOT_GOOD, R575. A slot's good input is accepted at 1 after the deglitch time. The good input of SQj at 1 for the cycles given. -/
  | slotGood (j : Fin 16) (held : Nat)
  /-- SLOT_GOOD_TIMEOUT, R577. A slot's good has not risen within its timeout and the slot fails. -/
  | slotGoodTimeout (j : Fin 16)
  /-- SLOT_GOOD_LOST, R579. A good slot's accepted good falls to 0 and the slot fails. The good input of SQj at 0 for the cycles given. -/
  | slotGoodLost (j : Fin 16) (held : Nat)
  /-- SLOT_GLITCH, R575. A good input change reverts within the deglitch time and is counted. The cycles after which the input reverts. -/
  | slotGlitch (j : Fin 16) (held : Nat)
  /-- READY_WAIT_TIMEOUT, R578. RDYLINE does not rise within the ready timeout and the sequencer fails. -/
  | readyWaitTimeout
  /-- READY_RELEASE, R578. RDYLINE reads high for 10 µs and later slots proceed. The cycles for which RDYLINE has read high. -/
  | readyRelease (held : Nat)
  /-- SLOT_DOWN_DELAY_EXPIRY, R580. A slot's down delay elapses and its output is deasserted. -/
  | slotDownDelayExpiry (j : Fin 16)
  /-- SLOT_FALL_TIMEOUT, R580. A slot's good is still 1 at its fall timeout and it receives cause 9h. -/
  | slotFallTimeout (j : Fin 16)
  /-- SEQUENCER_DISABLE, R587. A write of 0 to the sequencer enable drives every slot output to 0. -/
  | sequencerDisable (w : Wr)
  /-- FLTLINE_FAULT, R584. FLTLINE_N reads low for 1 µs while the device is not pulling it. Whether other devices hold FLTLINE_N low, and for how many cycles. -/
  | fltlineFault (low : Bool) (held : Nat)
  /-- FLTLINE_ASSERTION_END, R584. The minimum assertion time ends and FLTLINE_N may be released. -/
  | fltlineAssertionEnd
  /-- READY_LOSS, R585. RDYLINE reads low for 10 µs while the sequencer is up. The cycles for which RDYLINE has read low. -/
  | readyLoss (held : Nat)
  /-- CHEMISTRY_WRITE, R597. A write to the chemistry loads its charge profile. -/
  | chemistryWrite (w : Wr)
  /-- CHARGER_ENABLE, R619. A write to the charger enable enters idle, or turns the charger off. -/
  | chargerEnable (w : Wr)
  /-- CHARGE_STAGE_CHANGE, R602. A stage condition or holding time is met at a millisecond step and the stage changes. -/
  | chargeStageChange
  /-- CHARGER_CLEAR, R604. A write of 1h to the clear moves fault or absent to idle. -/
  | chargerClear (w : Wr)
  /-- CUTBACK_EVALUATION, R607. Every 200th cycle the charger forms the system-priority charge limit. -/
  | cutbackEvaluation
  /-- POWER_PATH_ENABLE, R608. A write to the power path enable enters lost or off. -/
  | powerPathEnable (w : Wr)
  /-- SOURCE_PRESENT, R608. V_in stays above the present voltage for the present time. -/
  | sourcePresent
  /-- SOURCE_LOST, R608. V_in stays below the lost voltage for the lost time and the power path is lost. -/
  | sourceLost
  /-- RETURN_DELAY_EXPIRY, R608. The return delay passes and the power path enters starting. -/
  | returnDelayExpiry
  /-- OUTAGE, R608. The episode time reaches the outage time and the episode sets an outage. -/
  | outage
  /-- CHG_START_DELAY_EXPIRY, R609. The SRC rail has run for the CHG start delay and the CHG rail is started. -/
  | chgStartDelayExpiry
  /-- SEARCH_STEP_PERIOD, R611. A search step period ends and the source limit may rise. -/
  | searchStepPeriod
  /-- SEARCH_HOLD_EXPIRY, R611. The hold time passes without a sag and the search returns to probe. -/
  | searchHoldExpiry
  /-- SWITCH_CLOSE, R614. Bus and battery voltages match for the match time and BATSW closes. -/
  | switchClose
  /-- SWITCH_COMMAND, R613. A write to 2E04h:01h sets or clears the command open reason. -/
  | switchCommand (w : Wr)
  /-- SHUTDOWN_OPENING, R613. V_bat stays at or below the shutdown voltage for the shutdown time. -/
  | shutdownOpening
  /-- STORAGE_COMMAND, R617. A write to the storage command enters or leaves storage. -/
  | storageCommand (w : Wr)
  /-- STORAGE_DELAY_EXPIRY, R617. The storage delay passes and the storage open reason is set. -/
  | storageDelayExpiry
  /-- BUTTON_SHORT_PRESS, R616. A press released before 1.0 s sets the short-press flag. The press, released after the Lighthouse clock periods given. -/
  | buttonShortPress (periods : Nat)
  /-- BUTTON_LONG_PRESS, R616. A press reaches 1.0 s and sets wake pending. The press, held for the Lighthouse clock periods given. -/
  | buttonLongPress (periods : Nat)
  /-- WAKE_TAKEN, R616. With D5 ON the switch machine takes a pending wake. -/
  | wakeTaken
  /-- STORAGE_REQUEST, R617. A press released from 3.0 s to under 10.0 s requests storage. The press, released after the Lighthouse clock periods given. -/
  | storageRequest (periods : Nat)
  /-- BUTTON_HELD_10S, R616. A press reaches 10.0 s and is reported through FS88. The press, held for the Lighthouse clock periods given. -/
  | buttonHeld10s (periods : Nat)
  /-- GAUGE_WINDOW, R636. Every tenth tick a window closes and may update the resistance. -/
  | gaugeWindow
  /-- GAUGE_SECOND_STEP, R648. Every thousandth tick the gauge runs anchors, learning, rescaling and history. -/
  | gaugeSecondStep
  /-- GAUGE_ENABLE, R647. A write to the gauge enable starts or stops integration. -/
  | gaugeEnable (w : Wr)
  /-- GAUGE_WRITE_COMMAND, R646. A write of 1h requests a gauge journal record write. -/
  | gaugeWriteCommand (w : Wr)
  /-- INTERRUPT_CLAIM, R665. A read of a target's claim returns and claims its candidate source. Target x. -/
  | interruptClaim (x : Fin 16) (r : Rd)
  /-- INTERRUPT_COMPLETE, R666. A write of a source number to a target's complete releases its claim. -/
  | interruptComplete (x : Fin 16) (w : Wr)
  /-- SOFTWARE_SET, R662. A write to 3000h:05h asserts software sources. -/
  | softwareSet (w : Wr)
  /-- SOFTWARE_CLEAR, R662. A write to 3000h:06h deasserts software sources. -/
  | softwareClear (w : Wr)
  /-- GROUP_GATHER, R667. A rising member edge starts or advances a coalescing group's gathering. Source n of group g. -/
  | groupGather (g : Fin 32) (n : Fin 256)
  /-- GROUP_TIME_LIMIT, R667. A gathering group's time limit passes and the group opens. -/
  | groupTimeLimit (g : Fin 32)
  /-- LIGHTHOUSE_FIRE, R672. An enabled Lighthouse entry fires and requests its wake domains ON. -/
  | lighthouseFire
  /-- CANARY_SERVICE, R682. A write to 3100h:01h is accepted, refused or bites on a bad key. -/
  | canaryService (w : Wr)
  /-- CANARY_SERVICE_TAKEN, R680. A Lighthouse edge takes an accepted service, judged early or on time. -/
  | canaryServiceTaken
  /-- CANARY_WARNING, R680. The count reaches the limit less the warning lead and D1 event 05h rises. -/
  | canaryWarning
  /-- CANARY_EXPIRY, R680. The count would exceed its limit and the Canary bites. -/
  | canaryExpiry
  /-- CHECK_IN, R684. A write of t to 3101h:03h checks in task t. -/
  | checkIn (w : Wr)
  /-- BITE_DELAY_EXPIRY, R686. The bite delay passes and the Canary applies a system reset. -/
  | biteDelayExpiry
  /-- CANARY_LOCK, R688. A write of 1 to the lock freezes the Canary configuration. -/
  | canaryLock (w : Wr)
  /-- FAULT_REPORT, R694. The collector takes a report, logs it and takes the action for its source and class. -/
  | faultReport
  /-- FAULT_POST, R704. A report leaves the collector's post FIFO to its logging task. -/
  | faultPost
  /-- HARBOUR_RELEASE, R708. A write of 1h to the release leaves Harbour. -/
  | harbourRelease (w : Wr)
  /-- HARBOUR_ENTER_COMMAND, R708. A write of 1h to the enter command enters Harbour with cause 4h. -/
  | harbourEnterCommand (w : Wr)
  /-- HARBOUR_AUTOMATIC_EXIT, R709. No UC or FT report for the quiet time and the collector leaves Harbour. -/
  | harbourAutomaticExit
  /-- RECOVERY_WINDOW_EXPIRY, R709. A recovery window passes out of Harbour and the recovery count drops. -/
  | recoveryWindowExpiry
  /-- COLLECTOR_STORAGE_ERROR, R711. A double-bit error in collector storage enters Harbour with cause 2h. The damaged word; a single-bit error is corrected. -/
  | collectorStorageError (x : CollectorWord) (double : Bool)
  /-- LOG_POP, R714. A read of the log low word removes the oldest entry. -/
  | logPop (r : Rd)
  /-- FIRMWARE_REPORT, R715. A write to 3204h:01h reports a firmware fault source. -/
  | firmwareReport (w : Wr)
  /-- TIMEBASE_SELECT, R717. 500 ms after a Bedrock reset the RTC timebase is chosen. The TCXI oscillator produces edges when crystal is true. -/
  | timebaseSelect (crystal : Bool)
  /-- OSCILLATOR_STOPPED, R721. No timebase edge for 1 ms sets the oscillator-stopped flag. -/
  | oscillatorStopped
  /-- TRIM_APPLY, R718. Every 2^20 count steps the RTC applies its trim. -/
  | trimApply
  /-- SECONDS_SET, R725. A write of the seconds-set high word commits a set. -/
  | secondsSet (w : Wr)
  /-- CALENDAR_SET, R727. A write of the time set checks the calendar and commits a set. -/
  | calendarSet (w : Wr)
  /-- SET_APPLIED, R726. At the next Bedrock edge the held set replaces the count. -/
  | setApplied
  /-- ALARM_FIRE, R731. S equals the alarm with F at 0 and the alarm fires. -/
  | alarmFire
  /-- BEDROCK_SUPPLY_SWITCH, R732. AON falls or rises past its thresholds and Bedrock changes supply. -/
  | bedrockSupplySwitch (toVbak : Bool)
  /-- VBAK_LOW, R733. VBAK falls below 2.20 V and flag bit 3 is set. VBAK has risen above 2.30 V since it was last low when risen is true. -/
  | vbakLow (risen : Bool)
  /-- OTP_PROGRAM_BIT, R746. Command 1h programs one OTP bit. -/
  | otpProgramBit (w : Wr)
  /-- BLOW_WRITE_LOCK, R746. Command 2h blows a region's write-lock fuse. -/
  | blowWriteLock (w : Wr)
  /-- BLOW_READ_LOCK, R746. Command 3h blows a region's read-lock fuse. -/
  | blowReadLock (w : Wr)
  /-- BLOW_DEBUG_FUSE, R746. Command 4h blows the debug fuse. -/
  | blowDebugFuse (w : Wr)
  /-- OTP_RECHECK, R746. Command 5h reads a region into the shadow and judges it. -/
  | otpRecheck (w : Wr)
  /-- OTP_COMMAND_END, R747. An OTP command's pulses and reads finish and it ends with its code. What the command met. -/
  | otpCommandEnd (run : OtpRun)
  /-- JOURNAL_RECORD_WRITE, R751. The controller writes the lowest pending record into its other slot. -/
  | journalRecordWrite
  /-- JOURNAL_WRITE_DONE, R751. A record write passes or fails its read-back. A word of the slot that reads back other than written is bad. -/
  | journalWriteDone (bad : Option (Fin 256 × BitVec 32))
  /-- JOURNAL_REFRESH_HOUR, R755. An hour of fabric time adds to the refresh age and may request every record. -/
  | journalRefreshHour
  /-- JOURNAL_ENABLE, R758. A write to the journal enable starts or stops the controller. -/
  | journalEnable (w : Wr)
  /-- RECORD_LAYOUT_WRITE, R754. A write of a firmware record layout places its slots and starts their judgement. -/
  | recordLayoutWrite (r : Fin 64) (w : Wr)
  /-- RECORD_LAYOUT_JUDGED, R754. Both slots of a new layout are judged and the record state is shown. -/
  | recordLayoutJudged (r : Fin 64)
  /-- FIRMWARE_RECORD_COMMAND, R763. A write of 1h to 3441h:04h requests a firmware record write. -/
  | firmwareRecordCommand (w : Wr)
  /-- ASSAYER_SCAN, R767. Command 1h starts a channel scan of memory. -/
  | assayerScan (k : Fin 4) (w : Wr)
  /-- BEGIN_FEED, R766. Command 2h starts a feed with the writer as owner. -/
  | beginFeed (k : Fin 4) (w : Wr)
  /-- END_FEED, R769. Command 3h appends the alive counter and ends the check. -/
  | endFeed (k : Fin 4) (w : Wr)
  /-- ASSAYER_ABORT, R772. Command 4h aborts a scan or feed. -/
  | assayerAbort (k : Fin 4) (w : Wr)
  /-- FEED_WORD, R768. A write of 09h by the owner adds four bytes to the check. -/
  | feedWord (k : Fin 4) (w : Wr)
  /-- FEED_BYTE, R768. A write of 0Ah by the owner adds one byte to the check. -/
  | feedByte (k : Fin 4) (w : Wr)
  /-- SCAN_READ_RETURN, R767. A scan read returns and its bytes enter the check. -/
  | scanReadReturn (k : Fin 4)
  /-- CHECK_END, R769. A scan's last bytes are taken and the check ends with its outcome. -/
  | checkEnd (k : Fin 4)
  /-- SNAPSHOT_MASK_WRITE, R781. A write to 3600h:01h copies the named blocks' counts to snapshots. -/
  | snapshotMaskWrite (w : Wr)
  /-- COUNTER_EVENT, R778. A counted event occurs and an enabled counter adds it. Its event has occurred k times in the cycle. -/
  | counterEvent (n : Fin 96) (k : BitVec 11)
  /-- LEDGER_STEP, R786. Every thousandth tick the life ledger adds wear to each indicator. -/
  | ledgerStep
  /-- INDICATOR_REPLACE, R791. A write of 1h to 0Fh resets an indicator's wear and ring. Whether it arrives inside an accepted authenticated command (R12). -/
  | indicatorReplace (l : Fin 16) (auth : Bool) (w : Wr)
  /-- INDICATOR_OPERATE, R787. A write of 1h to 12h is one contactor operation for source 0h. -/
  | indicatorOperate (l : Fin 16) (w : Wr)
  /-- LEDGER_WRITE_COMMAND, R792. A write of 1h to 3700h:02h requests a ledger journal write. -/
  | ledgerWriteCommand (w : Wr)
  /-- STARTUP_FUSES, R797. Start-up reads OTP and fuses and loads OTP-default objects. -/
  | startupFuses
  /-- STARTUP_JOURNAL, R757. Start-up restores every device record and loads Journal-default objects. -/
  | startupJournal
  /-- BANK_VERIFY, R802. A bank's image is copied and checked and its result recorded. The SFDP tables give the density and the read mode; mode 0 is no device. -/
  | bankVerify (density : BitVec 32) (mode : Fin 3)
  /-- BANK_CHOICE, R803. The sequence chooses the bank to boot, with fallback on repeated bites. -/
  | bankChoice
  /-- WIDENING_STEP, R807. A widening step's self-test ends and its units are admitted or left out. The four converters' readings of their references, 16 bits each; the units that fail their tests; whether the step's domain is late or fails its march test. -/
  | wideningStep (refs : BitVec 64) (engFail : BitVec 16) (phFail : BitVec 48) (late : Bool)
  /-- STARTUP_RUNNING, R798. Start-up enters running and E0 jumps to the image entry. -/
  | startupRunning
  /-- SERVICE_LOADER, R810. No bank is valid and start-up enters the service loader. -/
  | serviceLoader
  /-- RESET_REQUEST, R796. A write of 1h to 3800h:0Bh causes a system reset four cycles later. -/
  | resetRequest (w : Wr)
  /-- TARGET_LEVEL_WRITE, R809. A write of the target level narrows the level or widens it again. -/
  | targetLevelWrite (w : Wr)
  /-- WIDENING_RETRY, R809. A write of 1h to the retry reruns the level steps. -/
  | wideningRetry (w : Wr)
  /-- BANK_DATA_WRITE, R811. A data write to a bank object erases and programs flash until done. The flash reports done when good is true, a failure otherwise. -/
  | bankDataWrite (b : Fin 2) (w : Wr) (good : Bool)
  /-- SYNCO_TURN_CROSSING, R127. With SYNCO source 1h, the selected wheel makes its Vth forward crossing of angle 0 and a SYNCO pulse is requested. -/
  | syncoTurnCrossing
  /-- GATE_RELEASE, R221. GFp_N rises to read high while an idle phase holds its run grant, and the phase leaves idle for its falling state. -/
  | gateRelease (p : Fin 48)
  /-- BUS_INTEGRATION, R475. An enabled or recovering CAN channel sees 11 recessive bits and integrates to the bus, leaving the integrating state. -/
  | busIntegration (n : Fin 2)
  /-- VDDIO_RESTORED, R556. VDDIO rises above its rising threshold and its pads leave the inert state of R72. VDDIO has stayed past mv millivolts for held nanoseconds. -/
  | vddioRestored (mv held : Nat)
  /-- VDDA_RESTORED, R556. VDDA rises above its rising threshold and its supply status bit returns to good. VDDA has stayed past mv millivolts for held nanoseconds. -/
  | vddaRestored (mv held : Nat)
  /-- VAUX_OVERVOLTAGE_END, R556. VAUX falls below the overvoltage falling threshold and the overvoltage status ends. VAUX has stayed past mv millivolts for held nanoseconds. -/
  | vauxOvervoltageEnd (mv held : Nat)
  /-- DRIVER_SOFT_START_END, R564. A gate-supply driver's soft start ends and its good, used by a sequencer slot under R574, becomes 1. -/
  | driverSoftStartEnd (g : Fin 2)
  /-- SLOT_FALL_COMPLETE, R580. During a down sequence a slot's accepted good falls to 0, ending its fall or, for a slot awaiting its turn, an early fall with cause 8h. The good input of SQj at 0 for the cycles given. -/
  | slotFallComplete (j : Fin 16) (held : Nat)
  /-- RTC_COUNT_STEP, R716. At each Bedrock timebase edge the RTC fraction F adds one, rolling into the seconds S, and the D2 mirror follows. -/
  | rtcCountStep
  deriving DecidableEq, Repr

end Sys2Proof
end

