-- ==== Sys2Proof/Decode.lean ====
section
/-! DEFINITION. The command that a word spells: spec/opcode_table.json gives its rows no bits, so no word spells one. -/
namespace Sys2Proof

/-- The command of a table word: none, since no row of the table gives bits. -/
def decodeTableWord (_ _ : Nat) : Option Instr := none

end Sys2Proof
end

