-- ==== Sys2Proof/Machine/Num.lean ====
section
/-! DEFINITION. The arithmetic the manual uses everywhere: its div and mod (R24), angle differences (R50 to R52),
rounding into an engineering format (R54), saturation (R45) and bit fields. -/
namespace Sys2Proof.Machine

/-- `a div b` of R24: the quotient truncated towards zero. -/
def tdiv (a b : Int) : Int := a.tdiv b

/-- `a mod b` of R24: from 0 to b − 1 for b > 0. -/
def fmod (a b : Int) : Int := a.fmod b

/-- floor(a ÷ b) for b > 0 (R24). -/
def floorDiv (a b : Int) : Int := a.fdiv b

/-- ceil(a ÷ b) of two counts (R24). -/
def ceilDiv (a b : Nat) : Nat := (a + b - 1) / b

/-- `clamp(x, lo, hi)` of the manual's pseudocode. -/
def clampI (x lo hi : Int) : Int := if x < lo then lo else if hi < x then hi else x

/-- The sign of an integer as −1, 0 or 1. -/
def signI (x : Int) : Int := if x < 0 then -1 else if x = 0 then 0 else 1

/-- The magnitude of an integer, as an integer. -/
def absI (x : Int) : Int := if x < 0 then -x else x

/-- R54: a ÷ b (b > 0) rounded to the nearest integer, ties away from zero. -/
def roundDiv (a b : Int) : Int :=
  if a < 0 then -(((-a) * 2 + b).fdiv (2 * b)) else (a * 2 + b).fdiv (2 * b)

/-- R54: a result outside an INTEGER32 format is replaced by the nearest end of its range. -/
def clamp32 (x : Int) : Int := clampI x (-2147483648) 2147483647

/-- R54 for an INTEGER64 format. -/
def clamp64 (x : Int) : Int := clampI x (-9223372036854775808) 9223372036854775807

/-- R45: an unsigned counter of `w` bits holds at its largest value. -/
def satN (w n : Nat) : Nat := min n (2 ^ w - 1)

/-- wrap32 of an integer, as a word. -/
def word32 (x : Int) : Word := BitVec.ofInt 32 x

/-- R50: the angle difference a − b read as signed. -/
def angDiff (a b : Word) : Int := (a - b).toInt

/-- R51: angle `a` has reached angle `b`. -/
def angReached (a b : Word) : Bool := decide (0 ≤ angDiff a b)

/-- R52, forward: a step from `a0` to `a1` crosses `A` upward. -/
def crossesFwd (a0 a1 A : Word) : Bool :=
  let d := angDiff a1 a0
  decide (0 < d) && decide (0 < ((A - a0).toNat : Int)) && decide (((A - a0).toNat : Int) ≤ d)

/-- R52, backward: a step from `a0` to `a1` crosses `A` downward. -/
def crossesBwd (a0 a1 A : Word) : Bool :=
  let d := angDiff a1 a0
  decide (d < 0) && decide (((a0 - A).toNat : Int) < -d)

/-- R52: a step from `a0` to `a1` crosses `A`. -/
def crosses (a0 a1 A : Word) : Bool := crossesFwd a0 a1 A || crossesBwd a0 a1 A

/-- The field of `n` bits of `v` that begins at bit `lo`, as a count. -/
def fieldN (v lo n : Nat) : Nat := v / 2 ^ lo % 2 ^ n

/-- Whether bit `b` of the count `v` is 1. -/
def bitN (v b : Nat) : Bool := v / 2 ^ b % 2 == 1

/-- `v` with its `n`-bit field at `lo` replaced by `x`. -/
def setFieldN (v lo n x : Nat) : Nat := v - fieldN v lo n * 2 ^ lo + x % 2 ^ n * 2 ^ lo

/-- The number of bits set among the low `n` bits of `v`. -/
def popCount : Nat → Nat → Nat
  | 0, _ => 0
  | n + 1, v => v % 2 + popCount n (v / 2)

/-- The positions below `n`, ascending, whose bit of `v` is 1. -/
def bitsSet (n v : Nat) : List Nat := (List.range n).filter (bitN v)

/-- The mask that has the bits of `l` set. -/
def maskOf (l : List Nat) : Nat := l.foldl (fun m b => if bitN m b then m else m + 2 ^ b) 0

/-- The sum of a list of integers. -/
def sumI (l : List Int) : Int := l.foldl (· + ·) 0

/-- The largest of a list of counts, 0 for the empty list. -/
def maxN (l : List Nat) : Nat := l.foldl max 0

/-- Byte `k` of a word, little-endian (R6). -/
def byteOf (v : Word) (k : Nat) : Byte := (v >>> (8 * k)).setWidth 8

/-- The four bytes of a word, lowest first (R6). -/
def wordBytes (v : Word) : List Byte := [byteOf v 0, byteOf v 1, byteOf v 2, byteOf v 3]

/-- The word that four bytes spell, lowest first (R6). -/
def bytesWord (b0 b1 b2 b3 : Byte) : Word := b3 ++ b2 ++ b1 ++ b0

/-- The low word of a double word (R11). -/
def lo32 (v : DWord) : Word := v.setWidth 32

/-- The high word of a double word (R11). -/
def hi32 (v : DWord) : Word := (v >>> 32).setWidth 32

/-- A double word from its two words (R11). -/
def dw (lo hi : Word) : DWord := hi ++ lo

/-- `l` with element `i` replaced by `f` of it; `l` itself beyond its end. -/
def modAt {α : Type} (l : List α) (i : Nat) (f : α → α) : List α :=
  match l, i with
  | [], _ => []
  | a :: t, 0 => f a :: t
  | a :: t, n + 1 => a :: modAt t n f

end Sys2Proof.Machine
end

