-- ==== Sys2Proof/Machine/ObjTable.lean ====
section
/-! DEFINITION. The object dictionary's tables (R12, R15 to R17, R442): for every object of the hardware range its
subindexes with type, access code, default and the values a write may carry. The rows follow the Sub tables of the
chapters, rule by rule. -/
namespace Sys2Proof.Machine

/-- The types of object words (R9 to R11). A 64-bit value is a low and a high word. -/
inductive OTy where
  | bool | u8 | u16 | u24 | u32 | i8 | i16 | i32 | real32 | str | dom
  | lo64 | hi64 | hi48
  deriving DecidableEq, Repr

/-- The access codes of R12. -/
inductive Acc where
  | ro | rw | wo | rwa | w1c | rc | const
  deriving DecidableEq, Repr

/-- The values a write may carry (R18, R22). -/
inductive Rng where
  | any
  | rng (lo hi : Nat)
  | srng (lo hi : Int)
  | oneOf (l : List Nat)
  /-- any value; bits outside `mask` are reserved, ignored and read as zero (R21) -/
  | bits (mask : Nat)
  /-- as `bits`, and each field (lowest bit, width, highest code) carries no code above its highest (R22) -/
  | fields (mask : Nat) (l : List (Nat × Nat × Nat))
  /-- multiples of n -/
  | multOf (n : Nat)
  /-- the field of `w` bits at `lo` is not 0 -/
  | nonzero (lo w : Nat)
  deriving DecidableEq, Repr

/-- One row of an object table (R15). -/
structure ObjRow where
  sub : Nat
  ty : OTy
  acc : Acc
  dflt : Word
  rng : Rng
  deriving DecidableEq, Repr

/-- The bits of the value that one object word of the type holds (R9 to R11). -/
def OTy.width : OTy → Nat
  | .bool => 1
  | .u8 => 8
  | .u16 => 16
  | .u24 => 24
  | .i8 => 8
  | .i16 => 16
  | .hi48 => 16
  | .u32 => 32
  | .i32 => 32
  | .real32 => 32
  | .str => 32
  | .dom => 32
  | .lo64 => 32
  | .hi64 => 32

/-- Whether the type is signed (R10). -/
def OTy.signed : OTy → Bool
  | .i8 => true
  | .i16 => true
  | .i32 => true
  | _ => false

/-- The lengths in bytes that R447 accepts for a CAN or two-wire transfer, beside 4. -/
def OTy.size : OTy → Nat
  | .bool => 1
  | .u8 => 1
  | .i8 => 1
  | .u16 => 2
  | .i16 => 2
  | .u24 => 3
  | _ => 4

/-- R10: the word that a value of the type leaves in 32 bits, its unused bits the sign or zero. -/
def OTy.extend (t : OTy) (v : Word) : Word :=
  match t with
  | .bool => v &&& 1
  | .u8 => (v.setWidth 8).setWidth 32
  | .u16 => (v.setWidth 16).setWidth 32
  | .u24 => (v.setWidth 24).setWidth 32
  | .hi48 => (v.setWidth 16).setWidth 32
  | .i8 => (v.setWidth 8).signExtend 32
  | .i16 => (v.setWidth 16).signExtend 32
  | _ => v

/-- Whether a value is one the description admits (R18, R22). -/
def Rng.admits (r : Rng) (v : Word) : Bool :=
  match r with
  | .any => true
  | .rng lo hi => decide (lo ≤ v.toNat) && decide (v.toNat ≤ hi)
  | .srng lo hi => decide (lo ≤ v.toInt) && decide (v.toInt ≤ hi)
  | .oneOf l => l.contains v.toNat
  | .bits _ => true
  | .fields _ l => l.all (fun f => decide (v.toNat / 2 ^ f.1 % 2 ^ f.2.1 ≤ f.2.2))
  | .multOf n => decide (v.toNat % n = 0)
  | .nonzero lo w => decide (v.toNat / 2 ^ lo % 2 ^ w ≠ 0)

/-- R21: the word without the reserved bits of its layout. -/
def Rng.keep (r : Rng) (v : Word) : Word :=
  match r with
  | .bits mask => v &&& BitVec.ofNat 32 mask
  | .fields mask _ => v &&& BitVec.ofNat 32 mask
  | _ => v

/-- Whether a refused value lies above the stated range (R446). -/
def Rng.isAbove (r : Rng) (v : Word) : Bool :=
  match r with
  | .rng _ hi => decide (hi < v.toNat)
  | .srng _ hi => decide (hi < v.toInt)
  | _ => false

/-- Whether a refused value lies below the stated range (R446). -/
def Rng.isBelow (r : Rng) (v : Word) : Bool :=
  match r with
  | .rng lo _ => decide (v.toNat < lo)
  | .srng lo _ => decide (v.toInt < lo)
  | _ => false

/-- R695: the EMCY code of source FSf; 0 for a number that is not listed, which never reports. -/
def emcyCode (f : Nat) : Nat :=
  if f = 0 then 0x5100 else if f = 1 then 0x7300 else if f = 2 then 0x6100
  else if 8 ≤ f ∧ f ≤ 15 then 0x7310 else if 16 ≤ f ∧ f ≤ 21 then 0x2310 else if 24 ≤ f ∧ f ≤ 35 then 0x3300
  else if 40 ≤ f ∧ f ≤ 56 then 0x5000 else if f = 57 ∨ f = 58 then 0x6100
  else if 60 ≤ f ∧ f ≤ 62 then 0x8100 else if f = 63 then 0x6300 else if f = 64 ∨ f = 65 then 0x8100
  else if 66 ≤ f ∧ f ≤ 69 then 0x7300 else if f = 70 then 0x3100 else if f = 71 then 0x3200 else if f = 72 then 0x9000
  else if f = 73 then 0xFF10 else if f = 74 then 0xFF11 else if f = 75 then 0xFF12 else if f = 76 then 0xFF13
  else if f = 77 then 0x6010 else if f = 78 then 0x5000 else if f = 79 then 0xFF15 else if f = 80 then 0x5000
  else if 81 ≤ f ∧ f ≤ 84 then 0x6300 else if f = 85 then 0xFF16 else if f = 86 then 0xFF14 else if f = 87 then 0x6100
  else if f = 88 then 0xFF17 else if 120 ≤ f ∧ f ≤ 127 then 0x6200 else 0

/-- R696: the reset value of the action word of FSf: its EMCY code, its default UC action, and CEACT 0h. -/
def actionDefault (f : Nat) : Word := BitVec.ofNat 32 (emcyCode f * 65536 + if f = 88 then 0x600 else 0)

/-- R778: the event numbers that a counter may count. -/
def countEvents : List Nat :=
  [0, 1, 2] ++ (List.range 32).map (· + 0x10) ++ (List.range 6).map (· + 0x30) ++ (List.range 9).map (· + 0x40) ++
  [0x50, 0x51, 0x58, 0x59, 0x60, 0x61, 0x62, 0x63, 0x64, 0x65, 0x68, 0x70, 0x71]

/-- R91: Object 21B0h. -/
def clockRows : List ObjRow := [
  ⟨0, .u8, .const, 8, .any⟩, ⟨1, .u8, .ro, 0, .any⟩, ⟨2, .u8, .rw, 0, (.rng 0 1)⟩,
  ⟨3, .bool, .rw, 0, .any⟩, ⟨4, .u8, .wo, 0, (.rng 1 1)⟩, ⟨5, .u16, .rc, 0, .any⟩,
  ⟨6, .u16, .rc, 0, .any⟩, ⟨7, .u16, .rc, 0, .any⟩, ⟨8, .bool, .ro, 0, .any⟩]

/-- R94: object 21B1h, fabric time. -/
def fabricTimeRows : List ObjRow := [
  ⟨0, .u8, .const, 2, .any⟩, ⟨1, .lo64, .ro, 0, .any⟩, ⟨2, .hi64, .ro, 0, .any⟩]

/-- R125: Encoder k has object 21C0h + k. -/
def encoderRows : List ObjRow := [
  ⟨0, .u8, .const, 0x12, .any⟩, ⟨1, .bool, .rw, 0, .any⟩, ⟨2, .u32, .rw, 0x1000, (.rng 4 0x100000)⟩,
  ⟨3, .bool, .rw, 0, .any⟩, ⟨4, .u8, .rw, 2, (.rng 0 0xF)⟩, ⟨5, .u8, .rw, 0, (.rng 0 3)⟩,
  ⟨6, .u8, .rw, 0, (.bits 7)⟩, ⟨7, .u32, .rw, 0, .any⟩, ⟨8, .u16, .rw, 2, (.rng 0 0x3FF)⟩,
  ⟨9, .bool, .rw, 0, .any⟩, ⟨0xA, .u32, .rw, 0x2710, (.rng 1 0xF4240)⟩, ⟨0xB, .u8, .rw, 4, (.rng 1 0xFF)⟩,
  ⟨0xC, .u32, .ro, 0, .any⟩, ⟨0xD, .u32, .ro, 0, .any⟩, ⟨0xE, .i32, .ro, 0, .any⟩,
  ⟨0xF, .u8, .ro, 0, .any⟩, ⟨0x10, .u16, .rc, 0, .any⟩, ⟨0x11, .u16, .rc, 0, .any⟩,
  ⟨0x12, .u8, .ro, 0, .any⟩]

/-- R129: Object 21B2h. -/
def syncRows : List ObjRow := [
  ⟨0, .u8, .const, 7, .any⟩, ⟨1, .u8, .rw, 0, (.rng 0 1)⟩, ⟨2, .u32, .rw, 0x32, (.rng 0xA 0x2710)⟩,
  ⟨3, .u8, .rw, 0, (.rng 0 3)⟩, ⟨4, .u8, .rw, 0, (.rng 0 7)⟩, ⟨5, .u16, .rw, 1, (.rng 1 0xFFFF)⟩,
  ⟨6, .u32, .rw, 0x1F4, (.rng 0xA 0xF4240)⟩, ⟨7, .u32, .rc, 0, .any⟩]

/-- R130: Wheel TIDEw has object 2100h + w × 10h. -/
def wheelRows : List ObjRow := [
  ⟨0, .u8, .const, 0x1E, .any⟩, ⟨1, .u8, .rw, 0, (.rng 0 4)⟩, ⟨2, .u32, .rw, 0, .any⟩,
  ⟨3, .u8, .rw, 0, .any⟩, ⟨4, .bool, .rw, 0, .any⟩, ⟨5, .u32, .rw, 0x37, .any⟩,
  ⟨6, .u32, .ro, 0, .any⟩, ⟨7, .u32, .wo, 0, .any⟩, ⟨8, .i32, .ro, 0, .any⟩,
  ⟨9, .i32, .ro, 0, .any⟩, ⟨0xA, .u8, .ro, 0, .any⟩, ⟨0xB, .u8, .ro, 0, .any⟩,
  ⟨0xC, .u32, .rw, 0, .any⟩, ⟨0xD, .u16, .rw, 1, (.rng 1 0x400)⟩, ⟨0xE, .u8, .rw, 0x40, .any⟩,
  ⟨0xF, .u8, .rw, 8, .any⟩, ⟨0x10, .u16, .rw, 0xCCD, (.rng 1 0x8000)⟩, ⟨0x11, .u32, .rw, 0xB60B61, (.rng 1 0x7FFFFFFF)⟩,
  ⟨0x12, .u8, .rw, 8, (.rng 1 0xFF)⟩, ⟨0x13, .u8, .rw, 0xC, (.rng 9 0xFF)⟩, ⟨0x14, .u8, .rw, 4, (.rng 1 0xFF)⟩,
  ⟨0x15, .u8, .rw, 0x30, (.rng 0 0x3F)⟩, ⟨0x16, .u32, .rw, 0x1000, (.rng 0 0x7FFFFF)⟩, ⟨0x17, .u8, .rw, 0xC0, .any⟩,
  ⟨0x18, .u8, .rw, 0, (.rng 0 3)⟩, ⟨0x19, .u8, .rw, 1, (.rng 1 0x40)⟩, ⟨0x1A, .i32, .ro, 0, .any⟩,
  ⟨0x1B, .u16, .rc, 0, .any⟩, ⟨0x1C, .u16, .rc, 0, .any⟩, ⟨0x1D, .u8, .w1c, 0, .any⟩,
  ⟨0x1E, .u32, .ro, 0, .any⟩]

/-- R151: The mark unit has object 21A0h. -/
def markUnitRows : List ObjRow := [
  ⟨0, .u8, .const, 7, .any⟩, ⟨1, .bool, .rw, 0, .any⟩, ⟨2, .u8, .ro, 0, .any⟩,
  ⟨3, .u8, .ro, 0, .any⟩, ⟨4, .u8, .rc, 0, .any⟩, ⟨5, .u16, .rc, 0, .any⟩,
  ⟨6, .u16, .rc, 0, .any⟩, ⟨7, .u32, .rc, 0, .any⟩]

/-- R463: Object 2000h. -/
def identityRows : List ObjRow := [
  ⟨0, .u8, .const, 0xB, .any⟩, ⟨1, .u32, .const, 0xB4D, .any⟩, ⟨2, .u32, .const, 0x4816, .any⟩,
  ⟨3, .u16, .const, 0x100, .any⟩, ⟨4, .lo64, .ro, 0xFFFFFFFF, .any⟩, ⟨5, .hi64, .ro, 0xFFFFFFFF, .any⟩,
  ⟨6, .u16, .ro, 0, .any⟩, ⟨7, .u8, .const, 1, .any⟩, ⟨8, .str, .const, 0x6E616557, .any⟩,
  ⟨9, .str, .const, 0x696D6F64, .any⟩, ⟨0xA, .str, .const, 0x34474520, .any⟩, ⟨0xB, .str, .const, 0x363138, .any⟩]

/-- R464: Object 2001h. -/
def familyRows : List ObjRow := [
  ⟨0, .u8, .const, 0x10, .any⟩, ⟨1, .u16, .const, 0xE1A, .any⟩, ⟨2, .u16, .const, 0x4816, .any⟩,
  ⟨3, .u8, .ro, 0, .any⟩, ⟨4, .u16, .ro, 0x402, .any⟩, ⟨5, .u8, .ro, 2, .any⟩,
  ⟨6, .u8, .ro, 4, .any⟩, ⟨7, .u16, .ro, 3, .any⟩, ⟨8, .u32, .ro, 0xF, .any⟩,
  ⟨9, .u32, .ro, 0, .any⟩, ⟨0xA, .u8, .ro, 0x8F, .any⟩, ⟨0xB, .bool, .ro, 0, .any⟩,
  ⟨0xC, .u16, .ro, 0, .any⟩, ⟨0xD, .u32, .ro, 0, .any⟩, ⟨0xE, .u32, .ro, 0, .any⟩,
  ⟨0xF, .u16, .rc, 0, .any⟩, ⟨0x10, .u32, .ro, 0, .any⟩]

/-- R465: Object 2010h. -/
def accessRows : List ObjRow := [
  ⟨0, .u8, .const, 5, .any⟩, ⟨1, .u8, .ro, 0, .any⟩, ⟨2, .u32, .ro, 0, .any⟩,
  ⟨3, .u32, .rc, 0, .any⟩, ⟨4, .u16, .rc, 0, .any⟩, ⟨5, .u16, .rc, 0, .any⟩]

/-- R466: Object 2020h. -/
def fwTableRows : List ObjRow := [
  ⟨0, .u8, .const, 8, .any⟩, ⟨1, .u32, .rw, 0, .any⟩, ⟨2, .u16, .rw, 0, (.rng 0 0xFFFF)⟩,
  ⟨3, .u8, .ro, 0, .any⟩, ⟨4, .u8, .ro, 0, .any⟩, ⟨5, .u32, .ro, 0, .any⟩,
  ⟨6, .u16, .ro, 0, .any⟩, ⟨7, .u32, .rc, 0, .any⟩, ⟨8, .u32, .rc, 0, .any⟩]

/-- R467: object 2021h, firmware object changes. -/
def fwChangesRows : List ObjRow := [
  ⟨0, .u8, .const, 0x11, .any⟩, ⟨1, .u32, .w1c, 0, .any⟩, ⟨2, .u32, .w1c, 0, .any⟩,
  ⟨3, .u32, .w1c, 0, .any⟩, ⟨4, .u32, .w1c, 0, .any⟩, ⟨5, .u32, .w1c, 0, .any⟩,
  ⟨6, .u32, .w1c, 0, .any⟩, ⟨7, .u32, .w1c, 0, .any⟩, ⟨8, .u32, .w1c, 0, .any⟩,
  ⟨9, .u32, .w1c, 0, .any⟩, ⟨0xA, .u32, .w1c, 0, .any⟩, ⟨0xB, .u32, .w1c, 0, .any⟩,
  ⟨0xC, .u32, .w1c, 0, .any⟩, ⟨0xD, .u32, .w1c, 0, .any⟩, ⟨0xE, .u32, .w1c, 0, .any⟩,
  ⟨0xF, .u32, .w1c, 0, .any⟩, ⟨0x10, .u32, .w1c, 0, .any⟩, ⟨0x11, .u32, .ro, 0, .any⟩]

/-- R161: Each group has an SCK object. -/
def sckRows : List ObjRow := [
  ⟨0, .u8, .const, 3, .any⟩, ⟨1, .bool, .rw, 0, .any⟩, ⟨2, .u8, .rw, 0xA, (.rng 8 0x28)⟩,
  ⟨3, .u8, .rw, 0, .any⟩]

/-- R195: Sense channel SCc has object 2200h + c. -/
def senseRows : List ObjRow := [
  ⟨0, .u8, .const, 0x1F, .any⟩, ⟨1, .u8, .rw, 0, (.rng 0 2)⟩, ⟨2, .u8, .rw, 4, (.rng 1 0x27)⟩,
  ⟨3, .u8, .rw, 0xA, (.rng 0xA 0x28)⟩, ⟨4, .u8, .rw, 3, (.rng 1 3)⟩, ⟨5, .u8, .rw, 8, (.rng 4 0x20)⟩,
  ⟨6, .u16, .rw, 0x80, (.rng 0x20 0x100)⟩, ⟨7, .u16, .rw, 0x40, (.rng 8 0xFFF)⟩, ⟨8, .u8, .rw, 4, (.rng 1 0xFF)⟩,
  ⟨9, .u32, .rw, 0x7FFFFF, (.rng 1 0x7FFFFF)⟩, ⟨0xA, .i32, .rw, 0, (.srng (-8388607) 8388607)⟩, ⟨0xB, .i32, .rw, 0x10000, .any⟩,
  ⟨0xC, .u8, .rw, 0, (.rng 0 1)⟩, ⟨0xD, .u8, .wo, 0, (.rng 1 1)⟩, ⟨0xE, .u8, .ro, 0, .any⟩,
  ⟨0xF, .u8, .ro, 0, .any⟩, ⟨0x10, .i32, .ro, 0, .any⟩, ⟨0x11, .i32, .ro, 0, .any⟩,
  ⟨0x12, .i32, .ro, 0, .any⟩, ⟨0x13, .u32, .ro, 0, .any⟩, ⟨0x14, .i32, .ro, 0, .any⟩,
  ⟨0x15, .i32, .ro, 0, .any⟩, ⟨0x16, .i32, .ro, 0, .any⟩, ⟨0x17, .i32, .ro, 0, .any⟩,
  ⟨0x18, .u32, .ro, 0, .any⟩, ⟨0x19, .u8, .ro, 0, .any⟩, ⟨0x1A, .u8, .w1c, 0, .any⟩,
  ⟨0x1B, .u16, .rc, 0, .any⟩, ⟨0x1C, .u8, .ro, 0, .any⟩, ⟨0x1D, .u16, .rc, 0, .any⟩,
  ⟨0x1E, .u16, .rc, 0, .any⟩, ⟨0x1F, .u16, .rc, 0, .any⟩]

/-- R196: Object 2248h. -/
def senseSumRows : List ObjRow := [
  ⟨0, .u8, .const, 4, .any⟩, ⟨1, .u32, .ro, 0, .any⟩, ⟨2, .u32, .ro, 0, .any⟩,
  ⟨3, .u32, .ro, 0, .any⟩, ⟨4, .u32, .ro, 0, .any⟩]

/-- R247: Phase PHp has object 2300h + p. -/
def phaseRows (p : Nat) : List ObjRow := [
  ⟨0, .u8, .const, 0x31, .any⟩, ⟨1, .u8, .rw, 0, (.rng 0 2)⟩, ⟨2, .u8, .rw, p, (.rng 0 0x3F)⟩,
  ⟨3, .bool, .rw, 0, .any⟩, ⟨4, .u8, .rw, 0, (.rng 0 2)⟩, ⟨5, .u8, .rw, 0x28, (.rng 0 0xFF)⟩,
  ⟨6, .u8, .rw, 0x28, (.rng 0 0xFF)⟩, ⟨7, .u16, .rw, 0x64, .any⟩, ⟨8, .u16, .rw, 0x64, .any⟩,
  ⟨9, .u16, .rw, 0, .any⟩, ⟨0xA, .u32, .rw, 0x10000, (.rng 0 0x7FFFFF)⟩, ⟨0xB, .u32, .rw, 0x400, (.rng 0 0x7FFFFF)⟩,
  ⟨0xC, .u32, .rw, 0x7FFFFF, (.rng 0 0x7FFFFF)⟩, ⟨0xD, .i32, .ro, 0, .any⟩, ⟨0xE, .u32, .ro, 0x10000, .any⟩,
  ⟨0xF, .i32, .rw, 0x7FFFFF, (.srng (-8388608) 8388608)⟩, ⟨0x10, .i32, .rw, 0xFF800000, (.srng (-8388608) 8388608)⟩, ⟨0x11, .bool, .rw, 1, .any⟩,
  ⟨0x12, .u32, .rw, 0x3E8, (.rng 1 0x989680)⟩, ⟨0x13, .u8, .rw, 3, (.rng 0 0xFF)⟩, ⟨0x14, .u32, .rw, 0x3E8, (.rng 1 0x36EE80)⟩,
  ⟨0x15, .u32, .rw, 0x64, (.rng 1 0xF4240)⟩, ⟨0x16, .u8, .wo, 0, (.rng 1 1)⟩, ⟨0x17, .u8, .ro, 0, .any⟩,
  ⟨0x18, .u32, .ro, 0, .any⟩, ⟨0x19, .u32, .ro, 0, .any⟩, ⟨0x1A, .u8, .w1c, 0, .any⟩,
  ⟨0x1B, .u8, .ro, 0, .any⟩, ⟨0x1C, .u8, .rw, 0, (.bits 3)⟩, ⟨0x1D, .u32, .rc, 0, .any⟩,
  ⟨0x1E, .u16, .rc, 0, .any⟩, ⟨0x1F, .u16, .rc, 0, .any⟩, ⟨0x20, .u16, .rc, 0, .any⟩,
  ⟨0x21, .u16, .rc, 0, .any⟩, ⟨0x22, .u32, .ro, 0, .any⟩, ⟨0x23, .bool, .rw, 0, .any⟩,
  ⟨0x24, .u8, .rw, 0x40, .any⟩, ⟨0x25, .u8, .rw, 8, .any⟩, ⟨0x26, .u32, .rw, 0x40000, (.rng 0 0x7FFFFF)⟩,
  ⟨0x27, .u32, .rw, 0x28F5C29, (.rng 1 0x7FFFFFFF)⟩, ⟨0x28, .u8, .rw, 0x10, (.rng 1 0xFF)⟩, ⟨0x29, .u8, .rw, 8, (.rng 1 0xFF)⟩,
  ⟨0x2A, .u8, .rw, 0, (.bits 1)⟩, ⟨0x2B, .u8, .ro, 0, .any⟩, ⟨0x2C, .u32, .ro, 0, .any⟩,
  ⟨0x2D, .u8, .ro, 0, .any⟩, ⟨0x2E, .i32, .ro, 0, .any⟩, ⟨0x2F, .i32, .ro, 0, .any⟩,
  ⟨0x30, .i32, .ro, 0, .any⟩, ⟨0x31, .u16, .rc, 0, .any⟩]

/-- R248: Object 2330h. -/
def phaseSumRows : List ObjRow := [
  ⟨0, .u8, .const, 6, .any⟩, ⟨1, .u32, .ro, 0, .any⟩, ⟨2, .u32, .ro, 0, .any⟩,
  ⟨3, .u32, .ro, 0, .any⟩, ⟨4, .u32, .ro, 0, .any⟩, ⟨5, .u32, .ro, 0, .any⟩,
  ⟨6, .u32, .ro, 0, .any⟩]

/-- R292: Object B. -/
def railCtlRows (r : Nat) : List ObjRow := [
  ⟨0, .u8, .const, 0xD, .any⟩, ⟨1, .u8, .rw, 0, (.rng 0 2)⟩, ⟨2, .u8, .rw, 1, (.rng 1 5)⟩,
  ⟨3, .u8, .rw, 0, (.rng 0 7)⟩, ⟨4, .u8, .rw, 0, (.rng 0 7)⟩, ⟨5, .u8, .rw, 0x3D, (.rng 0 0x3F)⟩,
  ⟨6, .u8, .rw, (BitVec.ofNat 32 (48 + r)), (.rng 0 0x3F)⟩, ⟨7, .u8, .rw, (BitVec.ofNat 32 (48 + r)), (.rng 0 0x3F)⟩, ⟨8, .u8, .rw, (BitVec.ofNat 32 (48 + r)), (.rng 0 0x3F)⟩,
  ⟨9, .u8, .ro, 0, .any⟩, ⟨0xA, .u8, .ro, 0, .any⟩, ⟨0xB, .u8, .wo, 0, (.rng 1 1)⟩,
  ⟨0xC, .u8, .w1c, 0, .any⟩, ⟨0xD, .u8, .ro, 0, .any⟩]

/-- R293: Object B + 1h. -/
def railMembersRows : List ObjRow := [
  ⟨0, .u8, .const, 0x14, .any⟩, ⟨1, .u8, .rw, 0, (.rng 0 0x10)⟩, ⟨0x12, .u8, .rw, 0, (.rng 0 1)⟩,
  ⟨0x13, .u32, .rw, 0, .any⟩, ⟨0x14, .bool, .rw, 0, .any⟩, ⟨2, .u8, .rw, 0, (.rng 0 47)⟩,
  ⟨3, .u8, .rw, 0, (.rng 0 47)⟩, ⟨4, .u8, .rw, 0, (.rng 0 47)⟩, ⟨5, .u8, .rw, 0, (.rng 0 47)⟩,
  ⟨6, .u8, .rw, 0, (.rng 0 47)⟩, ⟨7, .u8, .rw, 0, (.rng 0 47)⟩, ⟨8, .u8, .rw, 0, (.rng 0 47)⟩,
  ⟨9, .u8, .rw, 0, (.rng 0 47)⟩, ⟨0xA, .u8, .rw, 0, (.rng 0 47)⟩, ⟨0xB, .u8, .rw, 0, (.rng 0 47)⟩,
  ⟨0xC, .u8, .rw, 0, (.rng 0 47)⟩, ⟨0xD, .u8, .rw, 0, (.rng 0 47)⟩, ⟨0xE, .u8, .rw, 0, (.rng 0 47)⟩,
  ⟨0xF, .u8, .rw, 0, (.rng 0 47)⟩, ⟨0x10, .u8, .rw, 0, (.rng 0 47)⟩, ⟨0x11, .u8, .rw, 0, (.rng 0 47)⟩]

/-- R294: fixed slots. -/
def railSlotsRows : List ObjRow := [
  ⟨0, .u8, .const, 0x10, .any⟩, ⟨1, .u32, .rw, 0, .any⟩, ⟨2, .u32, .rw, 0x10000000, .any⟩,
  ⟨3, .u32, .rw, 0x20000000, .any⟩, ⟨4, .u32, .rw, 0x30000000, .any⟩, ⟨5, .u32, .rw, 0x40000000, .any⟩,
  ⟨6, .u32, .rw, 0x50000000, .any⟩, ⟨7, .u32, .rw, 0x60000000, .any⟩, ⟨8, .u32, .rw, 0x70000000, .any⟩,
  ⟨9, .u32, .rw, 0x80000000, .any⟩, ⟨0xA, .u32, .rw, 0x90000000, .any⟩, ⟨0xB, .u32, .rw, 0xA0000000, .any⟩,
  ⟨0xC, .u32, .rw, 0xB0000000, .any⟩, ⟨0xD, .u32, .rw, 0xC0000000, .any⟩, ⟨0xE, .u32, .rw, 0xD0000000, .any⟩,
  ⟨0xF, .u32, .rw, 0xE0000000, .any⟩, ⟨0x10, .u32, .rw, 0xF0000000, .any⟩]

/-- R295: Object B + 3h. -/
def railDemandRows : List ObjRow := [
  ⟨0, .u8, .const, 0xE, .any⟩, ⟨1, .i32, .rw, 0, (.srng (-134217727) (134217727))⟩, ⟨2, .i32, .rw, 0, (.srng (-134217727) (134217727))⟩,
  ⟨3, .i32, .rw, 0, (.srng (-134217727) (134217727))⟩, ⟨4, .u8, .wo, 0, (.rng 1 1)⟩, ⟨5, .i32, .ro, 0, .any⟩,
  ⟨6, .i32, .ro, 0, .any⟩, ⟨7, .i32, .ro, 0, .any⟩, ⟨8, .i32, .ro, 0, .any⟩,
  ⟨9, .i32, .ro, 0, .any⟩, ⟨0xA, .i32, .ro, 0, .any⟩, ⟨0xB, .u32, .rc, 0, .any⟩,
  ⟨0xC, .u16, .rc, 0, .any⟩, ⟨0xD, .u16, .rc, 0, .any⟩, ⟨0xE, .u16, .rc, 0, .any⟩]

/-- R296: Object B + 4h. -/
def railShedRows : List ObjRow := [
  ⟨0, .u8, .const, 0x19, .any⟩, ⟨1, .u8, .rw, 0, (.rng 0 2)⟩, ⟨2, .u8, .rw, 1, (.rng 1 0x10)⟩,
  ⟨3, .u8, .rw, 0x10, (.rng 1 0x10)⟩, ⟨4, .u8, .rw, 0x10, (.rng 1 0x10)⟩, ⟨5, .u32, .rw, 0, (.rng 0 0x7FFFFF)⟩,
  ⟨6, .u32, .rw, 1, (.rng 1 0x7FFFFF)⟩, ⟨7, .u32, .rw, 0, (.rng 0 0x7FFFFF)⟩, ⟨8, .u32, .rw, 0x7D0, (.rng 1 0x989680)⟩,
  ⟨9, .u32, .rw, 0x1F4, (.rng 0 0x989680)⟩, ⟨0xA, .u32, .rw, 0x1388, (.rng 0 0x3938700)⟩, ⟨0xB, .u32, .rw, 0x1F4, (.rng 0 0xF4240)⟩,
  ⟨0xC, .u32, .rw, 0xC8, (.rng 0 0xF4240)⟩, ⟨0xD, .u32, .rw, 0, .any⟩, ⟨0xE, .u8, .rw, 0, (.rng 0 2)⟩,
  ⟨0xF, .i32, .rw, 0, (.srng (-8388607) (8388607))⟩, ⟨0x10, .u16, .rw, 0, .any⟩, ⟨0x11, .u16, .ro, 0, .any⟩,
  ⟨0x12, .u32, .ro, 0, .any⟩, ⟨0x13, .u32, .ro, 0, .any⟩, ⟨0x14, .u8, .ro, 0, .any⟩,
  ⟨0x15, .u8, .ro, 0, .any⟩, ⟨0x16, .u32, .rc, 0, .any⟩, ⟨0x17, .u32, .rc, 0, .any⟩,
  ⟨0x18, .u16, .rc, 0, .any⟩, ⟨0x19, .u16, .rc, 0, .any⟩]

/-- R297: feed-forward bindings. -/
def railBindRows : List ObjRow := [
  ⟨0, .u8, .const, 0x1C, .any⟩, ⟨1, .u8, .rw, 0xFF, (.oneOf [0,1,2,3,4,5,6,7,255])⟩, ⟨2, .u8, .rw, 0, (.rng 0 1)⟩,
  ⟨3, .i32, .rw, 0x10000, .any⟩, ⟨4, .u32, .rw, 0, .any⟩, ⟨5, .u32, .rw, 0, .any⟩,
  ⟨6, .u32, .rw, 0, .any⟩, ⟨7, .u8, .rw, 0xFF, (.oneOf [0,1,2,3,4,5,6,7,255])⟩, ⟨8, .u8, .rw, 0, (.rng 0 1)⟩,
  ⟨9, .i32, .rw, 0x10000, .any⟩, ⟨0xA, .u32, .rw, 0, .any⟩, ⟨0xB, .u32, .rw, 0, .any⟩,
  ⟨0xC, .u32, .rw, 0, .any⟩, ⟨0xD, .u8, .rw, 0xFF, (.oneOf [0,1,2,3,4,5,6,7,255])⟩, ⟨0xE, .u8, .rw, 0, (.rng 0 1)⟩,
  ⟨0xF, .i32, .rw, 0x10000, .any⟩, ⟨0x10, .u32, .rw, 0, .any⟩, ⟨0x11, .u32, .rw, 0, .any⟩,
  ⟨0x12, .u32, .rw, 0, .any⟩, ⟨0x13, .u8, .rw, 0xFF, (.oneOf [0,1,2,3,4,5,6,7,255])⟩, ⟨0x14, .u8, .rw, 0, (.rng 0 1)⟩,
  ⟨0x15, .i32, .rw, 0x10000, .any⟩, ⟨0x16, .u32, .rw, 0, .any⟩, ⟨0x17, .u32, .rw, 0, .any⟩,
  ⟨0x18, .u32, .rw, 0, .any⟩, ⟨0x19, .i32, .ro, 0x10000, .any⟩, ⟨0x1A, .i32, .ro, 0x10000, .any⟩,
  ⟨0x1B, .i32, .ro, 0x10000, .any⟩, ⟨0x1C, .i32, .ro, 0x10000, .any⟩]

/-- R298: weights. -/
def railWeightsRows : List ObjRow := [
  ⟨0, .u8, .const, 0x10, .any⟩, ⟨1, .u16, .ro, 0, .any⟩, ⟨2, .u16, .ro, 0, .any⟩,
  ⟨3, .u16, .ro, 0, .any⟩, ⟨4, .u16, .ro, 0, .any⟩, ⟨5, .u16, .ro, 0, .any⟩,
  ⟨6, .u16, .ro, 0, .any⟩, ⟨7, .u16, .ro, 0, .any⟩, ⟨8, .u16, .ro, 0, .any⟩,
  ⟨9, .u16, .ro, 0, .any⟩, ⟨0xA, .u16, .ro, 0, .any⟩, ⟨0xB, .u16, .ro, 0, .any⟩,
  ⟨0xC, .u16, .ro, 0, .any⟩, ⟨0xD, .u16, .ro, 0, .any⟩, ⟨0xE, .u16, .ro, 0, .any⟩,
  ⟨0xF, .u16, .ro, 0, .any⟩, ⟨0x10, .u16, .ro, 0, .any⟩]

/-- R299: a quarter of a table bank. -/
def tableBankRows : List ObjRow :=
  ⟨0, .u8, .const, 0x80, .any⟩ :: (List.range 128).map (fun j => ⟨1 + j, .u32, .rw, 0, .any⟩)

/-- R300: Object 2508h + f × 10h. -/
def tableCtlRows : List ObjRow := [
  ⟨0, .u8, .const, 0xA, .any⟩, ⟨1, .bool, .rw, 0, .any⟩, ⟨2, .u8, .ro, 0, .any⟩,
  ⟨3, .u8, .wo, 0, (.rng 1 1)⟩, ⟨4, .u8, .rw, 0, (.rng 0 1)⟩, ⟨5, .bool, .ro, 0, .any⟩,
  ⟨6, .u32, .rc, 0, .any⟩, ⟨7, .u16, .rc, 0, .any⟩, ⟨8, .u32, .ro, 0, .any⟩,
  ⟨9, .u16, .rc, 0, .any⟩, ⟨0xA, .u16, .rc, 0, .any⟩]

/-- R343: Object SV. -/
def svModelRows : List ObjRow := [
  ⟨0, .u8, .const, 0x14, .any⟩, ⟨1, .u8, .rw, 0, (.bits 7)⟩, ⟨2, .u32, .rw, 0, .any⟩,
  ⟨3, .u16, .rw, 0x78, (.rng 0 0xFFFF)⟩, ⟨4, .u16, .rw, 0xC8, (.rng 1 0xFFFF)⟩, ⟨5, .u32, .rw, 0x4000, (.rng 1 0x7FFFFF)⟩,
  ⟨6, .u8, .rw, 0x40, .any⟩, ⟨7, .u32, .rw, 0x2000, (.rng 0 0x7FFFFF)⟩, ⟨8, .u8, .rw, 0x20, .any⟩,
  ⟨9, .u32, .rw, 0x10000, (.rng 0 0x7FFFFF)⟩, ⟨0xA, .u8, .rw, 8, (.rng 1 0xFF)⟩, ⟨0xB, .u32, .rw, 0x32, (.rng 1 0x989680)⟩,
  ⟨0xC, .u8, .rw, 0, (.bits 7)⟩, ⟨0xD, .i32, .rw, 0, .any⟩, ⟨0xE, .i32, .rw, 0, .any⟩,
  ⟨0xF, .i32, .rw, 0, .any⟩, ⟨0x10, .u8, .rw, 0, (.rng 0 0xF)⟩, ⟨0x11, .i32, .ro, 0, .any⟩,
  ⟨0x12, .i32, .ro, 0, .any⟩, ⟨0x13, .u32, .ro, 0, .any⟩, ⟨0x14, .u8, .ro, 0, .any⟩]

/-- R344: Object SV + 1h. -/
def svLimitsRows : List ObjRow := [
  ⟨0, .u8, .const, 0xD, .any⟩, ⟨1, .i32, .rw, 0x800000, (.srng (-8388608) (8388608))⟩, ⟨2, .i32, .rw, 0xFF800000, (.srng (-8388608) (8388608))⟩,
  ⟨3, .i32, .rw, 0x800000, (.srng (-8388608) (8388608))⟩, ⟨4, .i32, .rw, 0xFF800000, (.srng (-8388608) (8388608))⟩, ⟨5, .u8, .rw, 4, (.rng 1 0xFF)⟩,
  ⟨6, .i32, .rw, 0x80000000, .any⟩, ⟨7, .i32, .rw, 0x7FFFFFFF, .any⟩, ⟨8, .u32, .rw, 0x64, (.rng 1 0x36EE80)⟩,
  ⟨9, .u32, .rw, 0x32, (.rng 0 0x36EE80)⟩, ⟨0xA, .u32, .rw, 0x2822, (.bits 0x3FFF)⟩, ⟨0xB, .u32, .rw, 0, (.rng 0 0x7FFFFF)⟩,
  ⟨0xC, .u8, .rw, 0xE0, (.rng 1 0xFF)⟩, ⟨0xD, .u32, .rw, 0x7D0, (.rng 0 0x3938700)⟩]

/-- R345: Object SV + 2h. -/
def svStatusRows : List ObjRow := [
  ⟨0, .u8, .const, 0x15, .any⟩, ⟨1, .u32, .ro, 0x7FFFFFF, .any⟩, ⟨2, .u32, .ro, 0x7FFFFFF, .any⟩,
  ⟨3, .u32, .ro, 0x7FFFFFF, .any⟩, ⟨4, .u32, .ro, 0x7FFFFFF, .any⟩, ⟨5, .u32, .ro, 0x7FFFFFF, .any⟩,
  ⟨6, .u32, .ro, 0x7FFFFFF, .any⟩, ⟨7, .u32, .ro, 0, .any⟩, ⟨8, .u32, .ro, 0, .any⟩,
  ⟨9, .u32, .ro, 0, .any⟩, ⟨0xA, .u32, .ro, 0, .any⟩, ⟨0xB, .u32, .ro, 0, .any⟩,
  ⟨0xC, .u8, .wo, 0, (.rng 1 1)⟩, ⟨0xD, .u16, .w1c, 0, (.bits 0x7FF)⟩, ⟨0xE, .u32, .rc, 0, .any⟩,
  ⟨0xF, .u32, .rc, 0, .any⟩, ⟨0x10, .u16, .rc, 0, .any⟩, ⟨0x11, .u16, .rc, 0, .any⟩,
  ⟨0x12, .u16, .rc, 0, .any⟩, ⟨0x13, .u16, .rc, 0, .any⟩, ⟨0x14, .u16, .rc, 0, .any⟩,
  ⟨0x15, .u16, .rc, 0, .any⟩]

/-- R346: member verdicts. -/
def svVerdictRows : List ObjRow := [
  ⟨0, .u8, .const, 0x10, .any⟩, ⟨1, .u32, .ro, 0, .any⟩, ⟨2, .u32, .ro, 0, .any⟩,
  ⟨3, .u32, .ro, 0, .any⟩, ⟨4, .u32, .ro, 0, .any⟩, ⟨5, .u32, .ro, 0, .any⟩,
  ⟨6, .u32, .ro, 0, .any⟩, ⟨7, .u32, .ro, 0, .any⟩, ⟨8, .u32, .ro, 0, .any⟩,
  ⟨9, .u32, .ro, 0, .any⟩, ⟨0xA, .u32, .ro, 0, .any⟩, ⟨0xB, .u32, .ro, 0, .any⟩,
  ⟨0xC, .u32, .ro, 0, .any⟩, ⟨0xD, .u32, .ro, 0, .any⟩, ⟨0xE, .u32, .ro, 0, .any⟩,
  ⟨0xF, .u32, .ro, 0, .any⟩, ⟨0x10, .u32, .ro, 0, .any⟩]

/-- R347: Object SV + 4h. -/
def svReleaseRows : List ObjRow := [
  ⟨0, .u8, .const, 3, .any⟩, ⟨1, .u16, .ro, 0, .any⟩, ⟨2, .u16, .wo, 0, .any⟩,
  ⟨3, .u8, .wo, 0, (.rng 1 1)⟩]

/-- R348: episode times. -/
def svEpisodeRows : List ObjRow := [
  ⟨0, .u8, .const, 0x10, .any⟩, ⟨1, .u32, .ro, 0, .any⟩, ⟨2, .u32, .ro, 0, .any⟩,
  ⟨3, .u32, .ro, 0, .any⟩, ⟨4, .u32, .ro, 0, .any⟩, ⟨5, .u32, .ro, 0, .any⟩,
  ⟨6, .u32, .ro, 0, .any⟩, ⟨7, .u32, .ro, 0, .any⟩, ⟨8, .u32, .ro, 0, .any⟩,
  ⟨9, .u32, .ro, 0, .any⟩, ⟨0xA, .u32, .ro, 0, .any⟩, ⟨0xB, .u32, .ro, 0, .any⟩,
  ⟨0xC, .u32, .ro, 0, .any⟩, ⟨0xD, .u32, .ro, 0, .any⟩, ⟨0xE, .u32, .ro, 0, .any⟩,
  ⟨0xF, .u32, .ro, 0, .any⟩, ⟨0x10, .u32, .ro, 0, .any⟩]

/-- R397: Engine e has object 2700h + e. -/
def engineRows (e : Nat) : List ObjRow := [
  ⟨0, .u8, .const, 0xF, .any⟩, ⟨1, .u8, .rw, (if e < 2 then 1 else 0), (.rng 0 1)⟩, ⟨2, .u8, .ro, 0, .any⟩,
  ⟨3, .u32, .rw, 0x60000000, .any⟩, ⟨4, .u8, .rw, 0x10, (.rng 1 0xFF)⟩, ⟨5, .u8, .ro, 0, .any⟩,
  ⟨6, .u32, .rc, 0, .any⟩, ⟨7, .u16, .rc, 0, .any⟩, ⟨8, .u16, .rc, 0, .any⟩,
  ⟨9, .u16, .rc, 0, .any⟩, ⟨0xA, .u16, .rc, 0, .any⟩, ⟨0xB, .u32, .ro, 0, .any⟩,
  ⟨0xC, .u32, .rw, 0x7D0, (.rng 0 0xFFFFFF)⟩, ⟨0xD, .u8, .w1c, 0, .any⟩, ⟨0xE, .u16, .rc, 0, .any⟩,
  ⟨0xF, .u32, .rc, 0, .any⟩]

/-- R398: Object 2710h. -/
def sysMemRows : List ObjRow := [
  ⟨0, .u8, .const, 7, .any⟩, ⟨1, .u16, .rc, 0, .any⟩, ⟨2, .u16, .rc, 0, .any⟩,
  ⟨3, .u16, .rc, 0, .any⟩, ⟨4, .u32, .ro, 0, .any⟩, ⟨5, .u32, .rw, 0xC8, (.rng 0 0xFFFFFF)⟩,
  ⟨6, .u8, .w1c, 0, .any⟩, ⟨7, .u32, .rc, 0, .any⟩]

/-- R399: Queue q has object 2900h + q. -/
def queueRows : List ObjRow := [
  ⟨0, .u8, .const, 0x13, .any⟩, ⟨1, .bool, .rw, 0, .any⟩, ⟨2, .u16, .rw, 0, (.rng 0 0xFFC)⟩,
  ⟨3, .u16, .rw, 4, (.oneOf [4,8,16,32,64,128,256,512,1024])⟩, ⟨4, .u8, .rw, 0, (.rng 0 1)⟩, ⟨5, .u8, .rw, 0, (.rng 0 1)⟩,
  ⟨6, .u16, .rw, 1, .any⟩, ⟨7, .u8, .wo, 0, (.rng 1 1)⟩, ⟨8, .u8, .ro, 0, .any⟩,
  ⟨9, .u16, .ro, 0, .any⟩, ⟨0xA, .u16, .rc, 0, .any⟩, ⟨0xB, .u32, .rc, 0, .any⟩,
  ⟨0xC, .u32, .rc, 0, .any⟩, ⟨0xD, .u16, .rc, 0, .any⟩, ⟨0xE, .u16, .rc, 0, .any⟩,
  ⟨0xF, .u16, .rc, 0, .any⟩, ⟨0x10, .u16, .rc, 0, .any⟩, ⟨0x11, .u8, .w1c, 0, .any⟩,
  ⟨0x12, .u32, .ro, 0, .any⟩, ⟨0x13, .u32, .ro, 0, .any⟩]

/-- R400: Object 2920h. -/
def poolRows : List ObjRow := [
  ⟨0, .u8, .const, 3, .any⟩, ⟨1, .u32, .ro, 0, .any⟩, ⟨2, .u16, .ro, 0, .any⟩,
  ⟨3, .u16, .rc, 0, .any⟩]

/-- R436: Object 2780h. -/
def foremanRows : List ObjRow := [
  ⟨0, .u8, .const, 0x10, .any⟩, ⟨1, .u8, .rw, 2, (.rng 0 8)⟩, ⟨2, .u8, .ro, 0, .any⟩,
  ⟨3, .u16, .ro, 0, .any⟩, ⟨4, .u16, .rw, 0x333, (.rng 1 0x400)⟩, ⟨5, .u16, .ro, 0, .any⟩,
  ⟨6, .u16, .wo, 0, .any⟩, ⟨7, .bool, .rw, 1, .any⟩, ⟨8, .u8, .ro, 0, .any⟩,
  ⟨9, .u32, .rw, 0x2710, (.rng 1 0x989680)⟩, ⟨0xA, .u16, .rc, 0, .any⟩, ⟨0xB, .u32, .rc, 0, .any⟩,
  ⟨0xC, .u8, .ro, 0, .any⟩, ⟨0xD, .u16, .rc, 0, .any⟩, ⟨0xE, .u8, .w1c, 0, .any⟩,
  ⟨0xF, .u8, .ro, 0xFF, .any⟩, ⟨0x10, .u8, .ro, 0xFF, .any⟩]

/-- R437: Engine e has dispatch object 2790h + e. -/
def dispatchRows : List ObjRow := [
  ⟨0, .u8, .const, 9, .any⟩, ⟨1, .u32, .ro, 0, .any⟩, ⟨2, .u32, .ro, 0, .any⟩,
  ⟨3, .u32, .ro, 0, .any⟩, ⟨4, .u32, .ro, 0, .any⟩, ⟨5, .u8, .wo, 0, .any⟩,
  ⟨6, .u16, .ro, 0, .any⟩, ⟨7, .u8, .ro, 0, .any⟩, ⟨8, .u8, .ro, 0, .any⟩,
  ⟨9, .u8, .ro, 0, .any⟩]

/-- R438: Task Tt has object 2800h + t. -/
def taskRows : List ObjRow := [
  ⟨0, .u8, .const, 0x27, .any⟩, ⟨1, .bool, .rw, 0, .any⟩, ⟨2, .u8, .ro, 0, .any⟩,
  ⟨3, .u8, .ro, 0xFF, .any⟩, ⟨4, .u16, .rw, 0xFFFF, .any⟩, ⟨5, .u8, .rw, 0, (.rng 0 0xF)⟩,
  ⟨6, .bool, .ro, 0, .any⟩, ⟨7, .bool, .rw, 0, .any⟩, ⟨8, .bool, .rw, 0, .any⟩,
  ⟨9, .u32, .rw, 0x7D0, .any⟩, ⟨0xA, .u32, .rw, 0x4E20, (.rng 0xC8 0xFFFFFFFF)⟩, ⟨0xB, .u8, .rw, 4, (.rng 2 0xFF)⟩,
  ⟨0xC, .u32, .rw, 0x10000000, .any⟩, ⟨0xD, .u32, .rw, 0, .any⟩, ⟨0xE, .u16, .rw, 0, (.rng 0 0x2000)⟩,
  ⟨0xF, .u32, .rw, 0, .any⟩, ⟨0x10, .u32, .rw, 0x10000, .any⟩, ⟨0x11, .u16, .rw, 0, (.rng 0 0x800)⟩,
  ⟨0x12, .u32, .rw, 0, .any⟩, ⟨0x13, .u8, .rw, 0xFF, (.oneOf [0,1,2,3,4,5,6,7,8,9,10,11,12,13,14,15,16,17,18,19,20,21,22,23,24,25,26,27,28,29,30,31,255])⟩, ⟨0x14, .u8, .rw, 0xFF, (.oneOf [0,1,2,3,4,5,6,7,8,9,10,11,12,13,14,15,16,17,18,19,20,21,22,23,24,25,26,27,28,29,30,31,255])⟩,
  ⟨0x15, .u8, .rw, 0xFF, (.oneOf [0,1,2,3,4,5,6,7,8,9,10,11,12,13,14,15,16,17,18,19,20,21,22,23,24,25,26,27,28,29,30,31,255])⟩, ⟨0x16, .u8, .rw, 0xFF, (.oneOf [0,1,2,3,4,5,6,7,8,9,10,11,12,13,14,15,16,17,18,19,20,21,22,23,24,25,26,27,28,29,30,31,255])⟩, ⟨0x17, .u8, .rw, 1, (.bits 15)⟩,
  ⟨0x18, .u16, .ro, 0, .any⟩, ⟨0x19, .u8, .wo, 0, (.rng 1 1)⟩, ⟨0x1A, .u8, .wo, 0, .any⟩,
  ⟨0x1B, .u8, .ro, 0, .any⟩, ⟨0x1C, .u8, .ro, 0xFF, .any⟩, ⟨0x1D, .u32, .rc, 0, .any⟩,
  ⟨0x1E, .u16, .rc, 0, .any⟩, ⟨0x1F, .u16, .rc, 0, .any⟩, ⟨0x20, .u16, .rc, 0, .any⟩,
  ⟨0x21, .u16, .rc, 0, .any⟩, ⟨0x22, .u32, .ro, 0, .any⟩, ⟨0x23, .u32, .rc, 0, .any⟩,
  ⟨0x24, .u32, .ro, 0, .any⟩, ⟨0x25, .u16, .rc, 0, .any⟩, ⟨0x26, .u8, .w1c, 0, .any⟩,
  ⟨0x27, .u8, .ro, 0xFF, .any⟩]

/-- R484: the communication objects but for the PDOs, with the subindexes and types of CiA 301. -/
def commRows (i : Nat) : List ObjRow :=
  match i with
  | 0x1000 => [⟨0, .u32, .ro, 0, .any⟩]
  | 0x1001 => [⟨0, .u8, .ro, 0, .any⟩]
  | 0x1003 => [⟨0, .u8, .rw, 0, (.rng 0 0)⟩, ⟨1, .u32, .ro, 0, .any⟩, ⟨2, .u32, .ro, 0, .any⟩, ⟨3, .u32, .ro, 0, .any⟩, ⟨4, .u32, .ro, 0, .any⟩, ⟨5, .u32, .ro, 0, .any⟩, ⟨6, .u32, .ro, 0, .any⟩, ⟨7, .u32, .ro, 0, .any⟩, ⟨8, .u32, .ro, 0, .any⟩]
  | 0x1005 => [⟨0, .u32, .rw, 0x80, .any⟩]
  | 0x1006 => [⟨0, .u32, .rw, 0, .any⟩]
  | 0x1010 => [⟨0, .u8, .const, 1, .any⟩, ⟨1, .u32, .rw, 1, .any⟩]
  | 0x1011 => [⟨0, .u8, .const, 1, .any⟩, ⟨1, .u32, .rw, 1, .any⟩]
  | 0x1014 => [⟨0, .u32, .rw, 0x17F, .any⟩]
  | 0x1015 => [⟨0, .u16, .rw, 0, .any⟩]
  | 0x1016 => [⟨0, .u8, .const, 4, .any⟩, ⟨1, .u32, .rw, 0, .any⟩, ⟨2, .u32, .rw, 0, .any⟩, ⟨3, .u32, .rw, 0, .any⟩, ⟨4, .u32, .rw, 0, .any⟩]
  | 0x1017 => [⟨0, .u16, .rw, 0, .any⟩]
  | 0x1018 => [⟨0, .u8, .const, 4, .any⟩, ⟨1, .u32, .ro, 0xB4D, .any⟩, ⟨2, .u32, .ro, 0x4816, .any⟩, ⟨3, .u32, .ro, 0x100, .any⟩, ⟨4, .u32, .ro, 0xFFFFFFFF, .any⟩]
  | 0x1029 => [⟨0, .u8, .const, 1, .any⟩, ⟨1, .u8, .rw, 0, (.rng 0 2)⟩]
  | 0x1200 => [⟨0, .u8, .const, 2, .any⟩, ⟨1, .u32, .ro, 0x6FF, .any⟩, ⟨2, .u32, .ro, 0x67F, .any⟩]
  | _ => []

/-- R484: the communication parameters of a PDO, k from 0 to 15, with the base of its COB-ID. -/
def pdoCommRows (transmit : Bool) (k base : Nat) : List ObjRow :=
  [⟨0, .u8, .const, if transmit then 5 else 2, .any⟩,
    ⟨1, .u32, .rw, if k < 4 then BitVec.ofNat 32 (base + 0x100 * k + 0xFF) else 0x80000000, .any⟩,
    ⟨2, .u8, .rw, 0xFF, .oneOf (List.range 241 ++ [254, 255])⟩] ++
  (if transmit then [⟨3, .u16, .rw, 0, .any⟩, ⟨5, .u16, .rw, 0, .any⟩] else [])

/-- R484: the mapping of a PDO. -/
def pdoMapRows : List ObjRow :=
  ⟨0, .u8, .rw, 0, .rng 0 16⟩ :: (List.range 16).map (fun k => ⟨1 + k, .u32, .rw, 0, .any⟩)

/-- R504: Channel n has object 2A00h + n × 10h. -/
def canRows : List ObjRow := [
  ⟨0, .u8, .const, 0x23, .any⟩, ⟨1, .bool, .rw, 0, .any⟩, ⟨2, .bool, .rw, 0, .any⟩,
  ⟨3, .bool, .rw, 0, .any⟩, ⟨4, .u8, .rw, 1, (.rng 1 0x40)⟩, ⟨5, .u8, .rw, 0x7F, (.rng 1 0xFF)⟩,
  ⟨6, .u8, .rw, 0x20, (.rng 1 0x80)⟩, ⟨7, .u8, .rw, 0x20, (.rng 1 0x80)⟩, ⟨8, .u8, .rw, 1, (.rng 1 0x20)⟩,
  ⟨9, .u8, .rw, 0x1F, (.rng 1 0x3F)⟩, ⟨0xA, .u8, .rw, 8, (.rng 1 0x20)⟩, ⟨0xB, .u8, .rw, 8, (.rng 1 0x20)⟩,
  ⟨0xC, .u8, .rw, 0x20, (.rng 0 0x7F)⟩, ⟨0xD, .u8, .rw, 1, (.rng 1 0x20)⟩, ⟨0xE, .u8, .rw, 5, (.rng 1 0x3F)⟩,
  ⟨0xF, .u8, .rw, 2, (.rng 1 0x20)⟩, ⟨0x10, .u8, .rw, 2, (.rng 1 0x20)⟩, ⟨0x11, .u8, .rw, 6, (.rng 0 0x7F)⟩,
  ⟨0x12, .bool, .rw, 0, .any⟩, ⟨0x13, .u8, .rw, 2, (.rng 1 0x3F)⟩, ⟨0x14, .u8, .rw, 6, (.rng 1 0x3F)⟩,
  ⟨0x15, .u8, .rw, 0, (.rng 0 0x3F)⟩, ⟨0x16, .bool, .rw, 1, .any⟩, ⟨0x17, .u8, .rw, 0xFF, (.oneOf (List.range 64 ++ [0xFF]))⟩,
  ⟨0x18, .u32, .rw, 0, .any⟩, ⟨0x19, .u32, .rw, 0xFFFFFFFF, .any⟩, ⟨0x1A, .u32, .rw, 0, .any⟩,
  ⟨0x1B, .u32, .rw, 0xFFFFFFFF, .any⟩, ⟨0x1C, .u8, .ro, 0, .any⟩, ⟨0x1D, .u16, .ro, 0, .any⟩,
  ⟨0x1E, .u16, .ro, 0, .any⟩, ⟨0x1F, .u16, .rc, 0, .any⟩, ⟨0x20, .u32, .rc, 0, .any⟩,
  ⟨0x21, .u16, .rc, 0, .any⟩, ⟨0x22, .u32, .rc, 0, .any⟩, ⟨0x23, .u8, .w1c, 0, .any⟩]

/-- R505: Object 2A20h. -/
def canNodeRows : List ObjRow := [
  ⟨0, .u8, .const, 0xF, .any⟩, ⟨1, .u8, .rw, 0, (.rng 0 1)⟩, ⟨2, .u8, .rw, 0xFF, (.oneOf ((List.range 127).map (· + 1) ++ [0xFF]))⟩,
  ⟨3, .u8, .ro, 0xFF, .any⟩, ⟨4, .u8, .ro, 0, .any⟩, ⟨5, .u8, .rw, 0, (.rng 0 2)⟩,
  ⟨6, .u32, .rw, 0x7D0, (.rng 1 0xF4240)⟩, ⟨7, .u32, .rw, 0x64, (.rng 1 0xEA60)⟩, ⟨8, .u8, .ro, 0, .any⟩,
  ⟨9, .u16, .rc, 0, .any⟩, ⟨0xA, .u32, .rc, 0, .any⟩, ⟨0xB, .bool, .rw, 0, .any⟩,
  ⟨0xC, .u32, .rwa, 0, .any⟩, ⟨0xD, .u16, .rc, 0, .any⟩, ⟨0xE, .u16, .rc, 0, .any⟩,
  ⟨0xF, .u8, .w1c, 0, .any⟩]

/-- R506: Object 2A21h. -/
def bulkRows : List ObjRow := [
  ⟨0, .u8, .const, 0x10, .any⟩, ⟨1, .u8, .rw, 1, (.rng 0 1)⟩, ⟨2, .u16, .rw, 0x7F0, (.rng 0 0x7FF)⟩,
  ⟨3, .u16, .rw, 0x7F1, (.rng 0 0x7FF)⟩, ⟨4, .u8, .rw, 0x20, .any⟩, ⟨5, .u16, .rw, 0, .any⟩,
  ⟨6, .u8, .rw, 0, (.rng 0 1)⟩, ⟨7, .u8, .rw, 0x10, (.rng 1 0x40)⟩, ⟨8, .u16, .rw, 0x800, (.oneOf ((List.range 512).map (fun k => 4 * k + 4)))⟩,
  ⟨9, .u8, .wo, 0, (.rng 1 1)⟩, ⟨0xA, .u8, .wo, 0, (.rng 1 1)⟩, ⟨0xB, .u8, .ro, 0, .any⟩,
  ⟨0xC, .u8, .ro, 0, .any⟩, ⟨0xD, .u32, .ro, 0, .any⟩, ⟨0xE, .u8, .ro, 0, .any⟩,
  ⟨0xF, .u32, .rw, 0x64, (.rng 1 0xEA60)⟩, ⟨0x10, .u16, .rc, 0, .any⟩]

/-- R507: Object 2A80h. -/
def authRows : List ObjRow := [
  ⟨0, .u8, .const, 0x10, .any⟩, ⟨1, .u8, .ro, 0, .any⟩, ⟨2, .u16, .wo, 0, .any⟩,
  ⟨3, .u8, .ro, 0, .any⟩, ⟨4, .u8, .ro, 0, .any⟩, ⟨5, .u8, .ro, 0, .any⟩,
  ⟨6, .u32, .ro, 0xFFFFFFFF, .any⟩, ⟨7, .u32, .ro, 0xFFFFFFFF, .any⟩, ⟨8, .u32, .ro, 0xFFFFFFFF, .any⟩,
  ⟨9, .u32, .ro, 0xFFFFFFFF, .any⟩, ⟨0xA, .u32, .rwa, 0x10000, (.rng 1 0xFFFFFFFF)⟩, ⟨0xB, .u8, .rwa, 8, (.rng 1 0xFF)⟩,
  ⟨0xC, .u32, .rwa, 0xA, (.rng 1 0x15180)⟩, ⟨0xD, .u8, .ro, 0, .any⟩, ⟨0xE, .u32, .rc, 0, .any⟩,
  ⟨0xF, .u32, .rc, 0, .any⟩, ⟨0x10, .u8, .ro, 0, .any⟩]

/-- R507: the message buffer. -/
def messageRows : List ObjRow := [
  ⟨0, .u8, .const, 3, .any⟩, ⟨1, .u32, .ro, 0x98, .any⟩, ⟨2, .u32, .rw, 0, (.multOf 4)⟩,
  ⟨3, .dom, .rw, 0, .any⟩]

/-- R533: Port n has object 2B00h + n × 10h. -/
def twbRows : List ObjRow := [
  ⟨0, .u8, .const, 0x18, .any⟩, ⟨1, .bool, .rw, 0, .any⟩, ⟨2, .u8, .rw, 0, (.rng 0 2)⟩,
  ⟨3, .u16, .rw, 0x3E8, (.rng 0x14 0xFFFF)⟩, ⟨4, .u16, .rw, 0x3E8, (.rng 0x14 0xFFFF)⟩, ⟨5, .u8, .rw, 0x38, (.rng 8 0x77)⟩,
  ⟨6, .u8, .rw, 0xFF, (.oneOf ((List.range 112).map (· + 8) ++ [0xFF]))⟩, ⟨7, .u8, .rw, 0xFF, (.oneOf (List.range 64 ++ [0xFF]))⟩, ⟨8, .bool, .rw, 0, .any⟩,
  ⟨9, .u32, .rw, 0x7530, (.rng 0x61A8 0x88B8)⟩, ⟨0xA, .u32, .rw, 0x2710, (.rng 0xA 0x61A8)⟩, ⟨0xB, .u8, .rw, 0, (.rng 0 1)⟩,
  ⟨0xC, .u8, .rw, 1, (.bits 3)⟩, ⟨0xD, .u8, .rw, 0, (.rng 0 1)⟩, ⟨0xE, .u32, .rw, 0x1388, (.rng 0x7D0 0xC350)⟩,
  ⟨0xF, .bool, .rw, 0, .any⟩, ⟨0x10, .u8, .ro, 0, .any⟩, ⟨0x11, .u8, .wo, 0, (.rng 1 1)⟩,
  ⟨0x12, .u8, .w1c, 0, .any⟩, ⟨0x13, .u8, .ro, 0xFF, .any⟩, ⟨0x14, .u16, .rc, 0, .any⟩,
  ⟨0x15, .u16, .rc, 0, .any⟩, ⟨0x16, .u16, .rc, 0, .any⟩, ⟨0x17, .u32, .rc, 0, .any⟩,
  ⟨0x18, .u16, .rc, 0, .any⟩]

/-- R534: Object 2B01h + n × 10h. -/
def twbTransferRows : List ObjRow := [
  ⟨0, .u8, .const, 0x11, .any⟩, ⟨1, .u8, .rw, 0, (.rng 0 0x7F)⟩, ⟨2, .u8, .rw, 0, (.rng 0 0x20)⟩,
  ⟨3, .u8, .rw, 0, (.rng 0 0x20)⟩, ⟨4, .u8, .rw, 0, (.bits 1)⟩, ⟨5, .u8, .wo, 0, (.rng 1 1)⟩,
  ⟨6, .u8, .ro, 0, .any⟩, ⟨7, .u8, .rw, 3, (.rng 0 0xFF)⟩, ⟨8, .u8, .ro, 0, .any⟩,
  ⟨9, .u32, .rw, 0, .any⟩, ⟨0xA, .u32, .rw, 0, .any⟩, ⟨0xB, .u32, .rw, 0, .any⟩,
  ⟨0xC, .u32, .rw, 0, .any⟩, ⟨0xD, .u32, .rw, 0, .any⟩, ⟨0xE, .u32, .rw, 0, .any⟩,
  ⟨0xF, .u32, .rw, 0, .any⟩, ⟨0x10, .u32, .rw, 0, .any⟩, ⟨0x11, .u8, .w1c, 0, .any⟩]

/-- R551: Converter HKAk has object 2C00h + k. -/
def hkaRows : List ObjRow := [
  ⟨0, .u8, .const, 0x15, .any⟩, ⟨1, .bool, .rw, 0, .any⟩, ⟨2, .u8, .rw, 0, (.bits 7)⟩,
  ⟨3, .u32, .rw, 0x9C40, (.rng 0x14 0xFFFFFFFF)⟩, ⟨4, .u16, .rw, 0, .any⟩, ⟨5, .u16, .rw, 0, (.fields 0xFFFF [(1,1,0),(3,1,0),(5,1,0),(7,1,0),(9,1,0),(11,1,0),(13,1,0),(15,1,0)])⟩,
  ⟨6, .u8, .rw, 6, (.rng 4 0xFF)⟩, ⟨7, .u8, .rw, 0, (.rng 0 1)⟩, ⟨8, .u8, .wo, 0, (.rng 1 1)⟩,
  ⟨9, .u16, .rw, 0, .any⟩, ⟨0xA, .u8, .rw, 0xFF, (.oneOf ((List.range 64) ++ [255]))⟩, ⟨0xB, .u32, .rc, 0, .any⟩,
  ⟨0xC, .u8, .rw, 0, (.rng 0 3)⟩, ⟨0xD, .u16, .rc, 0, .any⟩, ⟨0xE, .u16, .rc, 0, .any⟩,
  ⟨0xF, .u16, .rc, 0, .any⟩, ⟨0x10, .u16, .rc, 0, .any⟩, ⟨0x11, .u16, .rw, 0, .any⟩,
  ⟨0x12, .u16, .rw, 0xFC0, (.rng 0 0xFFF)⟩, ⟨0x13, .u16, .rw, 0x3F, (.rng 0 0xFFF)⟩, ⟨0x14, .u16, .ro, 0, .any⟩,
  ⟨0x15, .u8, .w1c, 0, (.bits 7)⟩]

/-- R552: the inputs of a converter. -/
def hkaInputsRows : List ObjRow := [
  ⟨0, .u8, .const, 0x20, .any⟩, ⟨1, .u8, .rw, 0, (.bits 0x0E)⟩, ⟨2, .u8, .rw, 0, (.bits 0x0E)⟩,
  ⟨3, .u8, .rw, 0, (.bits 0x0E)⟩, ⟨4, .u8, .rw, 0, (.bits 0x0E)⟩, ⟨5, .u8, .rw, 0, (.bits 0x0E)⟩,
  ⟨6, .u8, .rw, 0, (.bits 0x0E)⟩, ⟨7, .u8, .rw, 0, (.bits 0x0E)⟩, ⟨8, .u8, .rw, 0, (.bits 0x0E)⟩,
  ⟨9, .u8, .rw, 0, (.bits 0x0E)⟩, ⟨0xA, .u8, .rw, 0, (.bits 0x0E)⟩, ⟨0xB, .u8, .rw, 0, (.bits 0x0E)⟩,
  ⟨0xC, .u8, .rw, 0, (.bits 0x0E)⟩, ⟨0xD, .u8, .rw, 0, (.bits 0x0E)⟩, ⟨0xE, .u8, .rw, 0, (.bits 0x0E)⟩,
  ⟨0xF, .u8, .rw, 0, (.bits 0x0E)⟩, ⟨0x10, .u8, .rw, 0, (.bits 0x0E)⟩, ⟨0x11, .u16, .ro, 0, .any⟩,
  ⟨0x12, .u16, .ro, 0, .any⟩, ⟨0x13, .u16, .ro, 0, .any⟩, ⟨0x14, .u16, .ro, 0, .any⟩,
  ⟨0x15, .u16, .ro, 0, .any⟩, ⟨0x16, .u16, .ro, 0, .any⟩, ⟨0x17, .u16, .ro, 0, .any⟩,
  ⟨0x18, .u16, .ro, 0, .any⟩, ⟨0x19, .u16, .ro, 0, .any⟩, ⟨0x1A, .u16, .ro, 0, .any⟩,
  ⟨0x1B, .u16, .ro, 0, .any⟩, ⟨0x1C, .u16, .ro, 0, .any⟩, ⟨0x1D, .u16, .ro, 0, .any⟩,
  ⟨0x1E, .u16, .ro, 0, .any⟩, ⟨0x1F, .u16, .ro, 0, .any⟩, ⟨0x20, .u16, .ro, 0, .any⟩]

/-- R553: the GPIO object. -/
def gpioRows : List ObjRow := [
  ⟨0, .u8, .const, 0x13, .any⟩, ⟨1, .u8, .rw, 0, (.fields 0x0F [(0,2,3),(2,2,2)])⟩, ⟨2, .u8, .rw, 0, (.fields 0x0F [(0,2,3),(2,2,2)])⟩,
  ⟨3, .u8, .rw, 0, (.fields 0x0F [(0,2,3),(2,2,2)])⟩, ⟨4, .u8, .rw, 0, (.fields 0x0F [(0,2,3),(2,2,2)])⟩, ⟨5, .u8, .rw, 0, (.fields 0x0F [(0,2,3),(2,2,2)])⟩,
  ⟨6, .u8, .rw, 0, (.fields 0x0F [(0,2,3),(2,2,2)])⟩, ⟨7, .u8, .rw, 0, (.fields 0x0F [(0,2,3),(2,2,2)])⟩, ⟨8, .u8, .rw, 0, (.fields 0x0F [(0,2,3),(2,2,2)])⟩,
  ⟨9, .u8, .rw, 0, (.fields 0x0F [(0,2,2),(2,2,2)])⟩, ⟨0xA, .u8, .rw, 0, (.fields 0x0F [(0,2,2),(2,2,2)])⟩, ⟨0xB, .u8, .rw, 0, (.fields 0x0F [(0,2,2),(2,2,2)])⟩,
  ⟨0xC, .u8, .rw, 0, (.fields 0x0F [(0,2,2),(2,2,2)])⟩, ⟨0xD, .u8, .rw, 0, (.fields 0x0F [(0,2,2),(2,2,2)])⟩, ⟨0xE, .u8, .rw, 0, (.fields 0x0F [(0,2,2),(2,2,2)])⟩,
  ⟨0xF, .u8, .rw, 0, (.fields 0x0F [(0,2,2),(2,2,2)])⟩, ⟨0x10, .u8, .rw, 0, (.fields 0x0F [(0,2,2),(2,2,2)])⟩, ⟨0x11, .u16, .ro, 0, .any⟩,
  ⟨0x12, .u16, .rw, 0, .any⟩, ⟨0x13, .u8, .w1c, 0, (.bits 1)⟩]

/-- R554: a tachometer. -/
def tachoRows : List ObjRow := [
  ⟨0, .u8, .const, 4, .any⟩, ⟨1, .u32, .rw, 0x7D0, (.rng 1 60000)⟩, ⟨2, .u32, .ro, 0, .any⟩,
  ⟨3, .u32, .rc, 0, .any⟩, ⟨4, .bool, .ro, 0, .any⟩]

/-- R590: Object 2D00h. -/
def suppliesRows : List ObjRow := [
  ⟨0, .u8, .const, 0x11, .any⟩, ⟨1, .bool, .rw, 0, .any⟩, ⟨2, .bool, .rw, 1, .any⟩,
  ⟨3, .bool, .rw, 0, .any⟩, ⟨4, .u8, .ro, 0, .any⟩, ⟨5, .u8, .rw, 3, (.rng 0 0xF)⟩,
  ⟨6, .u8, .rw, 0, (.bits 3)⟩, ⟨7, .u16, .rw, 0x1F4, (.rng 0x64 0x3E8)⟩, ⟨8, .u8, .rw, 0x14, (.rng 1 0xFA)⟩,
  ⟨9, .u8, .ro, 0, .any⟩, ⟨0xA, .u8, .ro, 0xE, .any⟩, ⟨0xB, .u32, .rw, 0x7D0, (.rng 0xA 0x186A0)⟩,
  ⟨0xC, .i32, .rw, 0x79999, (.srng (498073) (3801088))⟩, ⟨0xD, .u16, .rc, 0, .any⟩, ⟨0xE, .u16, .rc, 0, .any⟩,
  ⟨0xF, .u16, .rc, 0, .any⟩, ⟨0x10, .u16, .rc, 0, .any⟩, ⟨0x11, .u8, .w1c, 0, (.bits 0x3F)⟩]

/-- R591: the domains object. -/
def domainsRows : List ObjRow := [
  ⟨0, .u8, .const, 4, .any⟩, ⟨1, .u32, .rw, 0x80AA, (.fields 0xFFFF [(0,2,2),(2,2,2),(4,2,2),(6,2,2),(8,2,2),(10,2,2),(12,2,2),(14,2,2)])⟩, ⟨2, .u32, .ro, 0x80AA, .any⟩,
  ⟨3, .u8, .ro, 0, .any⟩, ⟨4, .u32, .rc, 0, .any⟩]

/-- R592: Object 2D02h. -/
def sequencerRows : List ObjRow := [
  ⟨0, .u8, .const, 0x10, .any⟩, ⟨1, .bool, .rw, 1, .any⟩, ⟨2, .u8, .wo, 0, (.rng 1 3)⟩,
  ⟨3, .u8, .ro, 0, .any⟩, ⟨4, .u8, .ro, 0, .any⟩, ⟨5, .u8, .rw, 0x10, (.rng 0 0x10)⟩,
  ⟨6, .u32, .rw, 0x1388, (.rng 1 0x927C0)⟩, ⟨7, .u8, .rw, 0, (.rng 0 2)⟩, ⟨8, .u8, .rw, 0, (.rng 0 2)⟩,
  ⟨9, .u8, .rw, 0, (.rng 0 1)⟩, ⟨0xA, .bool, .rw, 0, .any⟩, ⟨0xB, .u16, .ro, 0, .any⟩,
  ⟨0xC, .u16, .ro, 0, .any⟩, ⟨0xD, .u8, .w1c, 0, (.bits 0x3F)⟩, ⟨0xE, .u16, .rc, 0, .any⟩,
  ⟨0xF, .u16, .rc, 0, .any⟩, ⟨0x10, .u16, .rc, 0, .any⟩]

/-- R593: Object 2D03h. -/
def linesRows : List ObjRow := [
  ⟨0, .u8, .const, 7, .any⟩, ⟨1, .u8, .rw, 3, (.bits 15)⟩, ⟨2, .bool, .rw, 0, .any⟩,
  ⟨3, .u32, .rw, 0x64, (.rng 0xA 0xF4240)⟩, ⟨4, .u8, .ro, 1, .any⟩, ⟨5, .u8, .ro, 1, .any⟩,
  ⟨6, .u16, .rc, 0, .any⟩, ⟨7, .u8, .w1c, 0, (.bits 3)⟩]

/-- R594: Slot SQj has object 2D10h + j. -/
def slotRows (slot : Nat) : List ObjRow := [
  ⟨0, .u8, .const, 0x11, .any⟩, ⟨1, .bool, .rw, 0, .any⟩, ⟨2, .u8, .rw, 0, (.rng 0 5)⟩,
  ⟨3, .u8, .rw, BitVec.ofNat 32 slot, (.rng 0 0xF)⟩, ⟨4, .u8, .rw, BitVec.ofNat 32 (15 - slot), (.rng 0 0xF)⟩, ⟨5, .u32, .rw, 0x3E8, (.rng 0 0x989680)⟩,
  ⟨6, .u32, .rw, 0x14, (.rng 1 0xEA60)⟩, ⟨7, .u32, .rw, 0x64, (.rng 1 0x186A0)⟩, ⟨8, .u32, .rw, 0x3E8, (.rng 0 0x989680)⟩,
  ⟨9, .u32, .rw, 0x64, (.rng 0 0xEA60)⟩, ⟨0xA, .u8, .rw, 0, (.rng 0 2)⟩, ⟨0xB, .u8, .rw, 8, (.rng 1 0xFF)⟩,
  ⟨0xC, .u8, .ro, 0, .any⟩, ⟨0xD, .u32, .ro, 0, .any⟩, ⟨0xE, .u32, .ro, 0, .any⟩,
  ⟨0xF, .u8, .ro, 0, .any⟩, ⟨0x10, .u16, .rc, 0, .any⟩, ⟨0x11, .u8, .ro, 0, .any⟩]

/-- R623: Object 2E00h. -/
def chargerRows : List ObjRow := [
  ⟨0, .u8, .const, 0x16, .any⟩, ⟨1, .bool, .rw, 0, .any⟩, ⟨2, .u8, .rw, 0xFF, (.oneOf [0,1,2,3,4,5,6,7,8,9,10,11,255])⟩,
  ⟨3, .u8, .rw, 0, (.rng 0 3)⟩, ⟨4, .u8, .rw, 0, (.rng 0 0xFF)⟩, ⟨5, .u8, .ro, 0, .any⟩,
  ⟨6, .u8, .ro, 0, .any⟩, ⟨7, .u8, .wo, 0, (.rng 1 1)⟩, ⟨8, .i32, .ro, 0x6E0000, .any⟩,
  ⟨9, .i32, .ro, 0, .any⟩, ⟨0xA, .i32, .ro, 0, .any⟩, ⟨0xB, .i32, .ro, 0, .any⟩,
  ⟨0xC, .u8, .rw, 0xFF, (.oneOf ((List.range 64) ++ [255]))⟩, ⟨0xD, .u8, .rw, 0x3E, (.rng 0 0x3F)⟩, ⟨0xE, .u8, .rw, 0x3F, (.rng 0 0x3F)⟩,
  ⟨0xF, .i32, .rw, 0x6E0000, .any⟩, ⟨0x10, .u8, .rw, 0, (.bits 7)⟩, ⟨0x11, .u8, .w1c, 0, .any⟩,
  ⟨0x12, .u32, .rc, 0, .any⟩, ⟨0x13, .u16, .rc, 0, .any⟩, ⟨0x14, .u32, .ro, 0, .any⟩,
  ⟨0x15, .u32, .ro, 0, .any⟩, ⟨0x16, .i32, .ro, 0x190000, .any⟩]

/-- R624: Object 2E01h. -/
def chargeProfileRows : List ObjRow := [
  ⟨1, .i32, .rw, 0, .any⟩, ⟨2, .i32, .rw, 0, .any⟩, ⟨3, .i32, .rw, 0, .any⟩,
  ⟨4, .i32, .rw, 0, .any⟩, ⟨5, .i32, .rw, 0, .any⟩, ⟨6, .i32, .rw, 0, .any⟩,
  ⟨7, .i32, .rw, 0, .any⟩, ⟨8, .i32, .rw, 0, (.srng (0) (2147483647))⟩, ⟨9, .i32, .rw, 0, .any⟩,
  ⟨0xA, .i32, .rw, 0, .any⟩, ⟨0xB, .i32, .rw, 0, .any⟩, ⟨0xC, .i32, .rw, 0, .any⟩,
  ⟨0xD, .u8, .rw, 0x80, (.rng 0 0xFF)⟩, ⟨0xE, .i32, .rw, 0, (.srng (0) (2147483647))⟩, ⟨0xF, .i32, .rw, 0, (.srng (0) (2147483647))⟩,
  ⟨0x10, .i32, .rw, 0, (.srng (0) (2147483647))⟩, ⟨0x11, .i32, .rw, 0, (.srng (0) (2147483647))⟩, ⟨0x12, .i32, .rw, 0x148, .any⟩,
  ⟨0x13, .u32, .rw, 0x64, (.rng 1 0x927C0)⟩, ⟨0x14, .u32, .rw, 0x3E8, (.rng 1 0x927C0)⟩, ⟨0x15, .u32, .rw, 0x3C, (.rng 1 0x15180)⟩,
  ⟨0x16, .u32, .rw, 0x1C20, (.rng 1 0xD2F00)⟩, ⟨0x17, .u32, .rw, 0xE10, (.rng 1 0xD2F00)⟩, ⟨0x18, .u32, .rw, 0x8CA0, (.rng 1 0xD2F00)⟩,
  ⟨0x19, .u32, .rw, 0x3C, (.rng 1 0x15180)⟩, ⟨0x1A, .i32, .rw, 0x50000, .any⟩, ⟨0x1B, .i32, .rw, 0x8000, .any⟩,
  ⟨0x1C, .u32, .rw, 0x1388, (.rng 1 0x927C0)⟩, ⟨0, .u8, .const, 0x1C, .any⟩]

/-- R625: Object 2E02h. -/
def powerPathRows : List ObjRow := [
  ⟨0, .u8, .const, 0x13, .any⟩, ⟨1, .bool, .rw, 0, .any⟩, ⟨2, .u8, .rw, 0xFF, (.oneOf [0,1,2,3,4,5,6,7,8,9,10,11,255])⟩,
  ⟨3, .bool, .rw, 0, .any⟩, ⟨4, .i32, .rw, 0, .any⟩, ⟨5, .i32, .rw, 0, .any⟩,
  ⟨6, .u32, .rw, 0x32, (.rng 1 0xEA60)⟩, ⟨7, .u32, .rw, 0x1F4, (.rng 1 0xF4240)⟩, ⟨8, .u32, .rw, 0x1F4, (.rng 0 0x927C0)⟩,
  ⟨9, .u32, .rw, 0x7D0, (.rng 1 0x36EE80)⟩, ⟨0xA, .u32, .rw, 0x64, (.rng 0 0xEA60)⟩, ⟨0xB, .u8, .rw, 3, (.rng 1 0xFF)⟩,
  ⟨0xC, .u32, .rw, 0x3C, (.rng 1 0x15180)⟩, ⟨0xD, .u8, .ro, 0, .any⟩, ⟨0xE, .u8, .w1c, 0, .any⟩,
  ⟨0xF, .u16, .rc, 0, .any⟩, ⟨0x10, .u16, .rc, 0, .any⟩, ⟨0x11, .u16, .rc, 0, .any⟩,
  ⟨0x12, .u8, .rw, 0xEC, .any⟩, ⟨0x13, .u32, .ro, 0, .any⟩]

/-- R626: Object 2E03h. -/
def searchRows : List ObjRow := [
  ⟨0, .u8, .const, 0xD, .any⟩, ⟨1, .u8, .rw, 0, (.rng 0 2)⟩, ⟨2, .i32, .rw, 0, (.srng (0) (2147483647))⟩,
  ⟨3, .i32, .rw, 0, (.srng (0) (2147483647))⟩, ⟨4, .i32, .rw, 0, (.srng (0) (2147483647))⟩, ⟨5, .i32, .rw, 0, (.srng (0) (2147483647))⟩,
  ⟨6, .u32, .rw, 0x64, (.rng 1 0xEA60)⟩, ⟨7, .i32, .rw, 0, .any⟩, ⟨8, .u8, .rw, 0xE6, .any⟩,
  ⟨9, .u32, .rw, 0x1E, (.rng 1 0x15180)⟩, ⟨0xA, .i32, .ro, 0, .any⟩, ⟨0xB, .u8, .ro, 0, .any⟩,
  ⟨0xC, .u16, .rc, 0, .any⟩, ⟨0xD, .i32, .ro, 0, .any⟩]

/-- R627: Object 2E04h. -/
def switchBtnRows : List ObjRow := [
  ⟨0, .u8, .const, 0xC, .any⟩, ⟨1, .u8, .rw, 0, (.rng 0 1)⟩, ⟨2, .i32, .rw, 0x20000, .any⟩,
  ⟨3, .u32, .rw, 0x64, (.rng 1 0xEA60)⟩, ⟨4, .i32, .rw, 0x140000, .any⟩, ⟨5, .bool, .rw, 0, .any⟩,
  ⟨6, .u8, .ro, 0, .any⟩, ⟨7, .u8, .ro, 2, .any⟩, ⟨8, .bool, .rw, 1, .any⟩,
  ⟨9, .u32, .rw, 0x1388, (.rng 0 0x927C0)⟩, ⟨0xA, .u8, .wo, 0, (.rng 1 2)⟩, ⟨0xB, .u8, .w1c, 0, .any⟩,
  ⟨0xC, .u32, .rc, 0, .any⟩]

/-- R651: Object 2F00h. -/
def gaugeRows : List ObjRow := [
  ⟨0, .u8, .const, 0x14, .any⟩, ⟨1, .bool, .rw, 0, .any⟩, ⟨2, .u8, .rw, 0, (.bits 7)⟩,
  ⟨3, .lo64, .rw, 0, .any⟩, ⟨4, .hi64, .rw, 0, .any⟩, ⟨5, .lo64, .rw, 0, .any⟩,
  ⟨6, .hi64, .rw, 0, .any⟩, ⟨7, .lo64, .ro, 0, .any⟩, ⟨8, .hi64, .ro, 0, .any⟩,
  ⟨9, .u16, .ro, 0, .any⟩, ⟨0xA, .u16, .ro, 0, .any⟩, ⟨0xB, .u16, .ro, 0, .any⟩,
  ⟨0xC, .lo64, .ro, 0, .any⟩, ⟨0xD, .hi64, .ro, 0, .any⟩, ⟨0xE, .u32, .ro, 0xFFFFFFFF, .any⟩,
  ⟨0xF, .i32, .ro, 0, .any⟩, ⟨0x10, .i32, .ro, 0, .any⟩, ⟨0x11, .u8, .ro, 0, .any⟩,
  ⟨0x12, .u16, .w1c, 0, .any⟩, ⟨0x13, .u16, .rc, 0, .any⟩, ⟨0x14, .u16, .rc, 0, .any⟩]

/-- R652: Object 2F01h. -/
def gaugeSetRows : List ObjRow := [
  ⟨0, .u8, .const, 0x19, .any⟩, ⟨1, .lo64, .rw, 0, .any⟩, ⟨2, .hi64, .rw, 0, .any⟩,
  ⟨3, .i32, .rw, 0, (.srng (0) (2147483647))⟩, ⟨4, .i32, .rw, 0xCCD, (.srng (0) (2147483647))⟩, ⟨5, .u32, .rw, 0x10000, (.rng 0x8000 0x10000)⟩,
  ⟨6, .u16, .rw, 0x148, .any⟩, ⟨7, .i32, .rw, 0x50000, (.srng (0) (2147483647))⟩, ⟨8, .u32, .rw, 0, (.rng 0 0x186A0)⟩,
  ⟨9, .i32, .rw, 0xA0000, (.srng (0) (2147483647))⟩, ⟨0xA, .i32, .rw, 0x50000, (.srng (1) (2147483647))⟩, ⟨0xB, .i32, .rw, 0x42, .any⟩,
  ⟨0xC, .i32, .rw, 0x10000, .any⟩, ⟨0xD, .u8, .rw, 0x10, (.rng 1 0xFF)⟩, ⟨0xE, .u32, .rw, 0x3C, (.rng 1 0x15180)⟩,
  ⟨0xF, .i32, .rw, 0x140000, .any⟩, ⟨0x10, .u8, .rw, 8, (.rng 1 0xFF)⟩, ⟨0x11, .i32, .rw, 0x8000, .any⟩,
  ⟨0x12, .u32, .rw, 0x258, (.rng 1 0x15180)⟩, ⟨0x13, .i32, .rw, 0x148, .any⟩, ⟨0x14, .u16, .rw, 0x51F, .any⟩,
  ⟨0x15, .u16, .rw, 0x2328, (.rng 0 0x2710)⟩, ⟨0x16, .u16, .rw, 0xBB8, (.rng 0 0x2710)⟩, ⟨0x17, .u8, .rw, 0x33, .any⟩,
  ⟨0x18, .u8, .rw, 0x40, (.rng 1 0xFF)⟩, ⟨0x19, .u32, .rw, 0x93A80, (.rng 0xE10 0x1E13380)⟩]

/-- R653: Object 2F02h. -/
def gaugeEstRows : List ObjRow := [
  ⟨0, .u8, .const, 0xD, .any⟩, ⟨1, .i32, .ro, 0, .any⟩, ⟨2, .u32, .ro, 0xFFFFFFFF, .any⟩,
  ⟨3, .u32, .rc, 0, .any⟩, ⟨4, .u16, .ro, 0, .any⟩, ⟨5, .u8, .ro, 0, .any⟩,
  ⟨6, .u32, .ro, 0, .any⟩, ⟨7, .u32, .rc, 0, .any⟩, ⟨8, .u8, .ro, 0, .any⟩,
  ⟨9, .u16, .ro, 0, .any⟩, ⟨0xA, .u16, .rc, 0, .any⟩, ⟨0xB, .u16, .rc, 0, .any⟩,
  ⟨0xC, .lo64, .ro, 0, .any⟩, ⟨0xD, .hi64, .ro, 0, .any⟩]

/-- R654: the OCV table. -/
def ocvRows : List ObjRow := [
  ⟨0, .u8, .const, 0x12, .any⟩, ⟨1, .i32, .rw, 0, .any⟩, ⟨2, .i32, .rw, 0, .any⟩,
  ⟨3, .i32, .rw, 0, .any⟩, ⟨4, .i32, .rw, 0, .any⟩, ⟨5, .i32, .rw, 0, .any⟩,
  ⟨6, .i32, .rw, 0, .any⟩, ⟨7, .i32, .rw, 0, .any⟩, ⟨8, .i32, .rw, 0, .any⟩,
  ⟨9, .i32, .rw, 0, .any⟩, ⟨0xA, .i32, .rw, 0, .any⟩, ⟨0xB, .i32, .rw, 0, .any⟩,
  ⟨0xC, .i32, .rw, 0, .any⟩, ⟨0xD, .i32, .rw, 0, .any⟩, ⟨0xE, .i32, .rw, 0, .any⟩,
  ⟨0xF, .i32, .rw, 0, .any⟩, ⟨0x10, .i32, .rw, 0, .any⟩, ⟨0x11, .i32, .rw, 0, .any⟩,
  ⟨0x12, .bool, .ro, 0, .any⟩]

/-- R655: Object 2F04h. -/
def presenceRows : List ObjRow := [
  ⟨0, .u8, .const, 0x13, .any⟩, ⟨1, .u8, .rw, 0xFF, (.oneOf ((List.range 64) ++ [255]))⟩, ⟨2, .u8, .rw, 0xFF, (.oneOf ((List.range 64) ++ [255]))⟩,
  ⟨3, .u16, .rw, 0x3F, (.rng 0 0xFFF)⟩, ⟨4, .u16, .rw, 0xFC0, (.rng 0 0xFFF)⟩, ⟨5, .u16, .rw, 0, (.rng 0 0xFFF)⟩,
  ⟨6, .u16, .rw, 0xFFF, (.rng 0 0xFFF)⟩, ⟨7, .u32, .rw, 0xC8, (.rng 1 0xEA60)⟩, ⟨8, .i32, .rw, 0, .any⟩,
  ⟨9, .i32, .rw, 0, .any⟩, ⟨0xA, .i32, .rw, 0, .any⟩, ⟨0xB, .i32, .rw, 0, .any⟩,
  ⟨0xC, .i32, .rw, 0, .any⟩, ⟨0xD, .i32, .rw, 0, .any⟩, ⟨0xE, .i32, .rw, 0, .any⟩,
  ⟨0xF, .i32, .rw, 0, .any⟩, ⟨0x10, .i32, .rw, 0, .any⟩, ⟨0x11, .i32, .ro, 0x190000, .any⟩,
  ⟨0x12, .u8, .ro, 1, .any⟩, ⟨0x13, .u16, .rc, 0, .any⟩]

/-- R656: Object 2F05h. -/
def historyRows : List ObjRow := [
  ⟨0, .u8, .const, 0x12, .any⟩, ⟨1, .lo64, .ro, 0, .any⟩, ⟨2, .hi64, .ro, 0, .any⟩,
  ⟨3, .lo64, .ro, 0, .any⟩, ⟨4, .hi64, .ro, 0, .any⟩, ⟨5, .lo64, .ro, 0, .any⟩,
  ⟨6, .hi64, .ro, 0, .any⟩, ⟨7, .lo64, .ro, 0, .any⟩, ⟨8, .hi64, .ro, 0, .any⟩,
  ⟨9, .u32, .ro, 0, .any⟩, ⟨0xA, .i32, .ro, 0x80000000, .any⟩, ⟨0xB, .i32, .ro, 0x7FFFFFFF, .any⟩,
  ⟨0xC, .i32, .ro, 0x80000000, .any⟩, ⟨0xD, .i32, .ro, 0x7FFFFFFF, .any⟩, ⟨0xE, .i32, .ro, 0x80000000, .any⟩,
  ⟨0xF, .i32, .ro, 0x7FFFFFFF, .any⟩, ⟨0x10, .u32, .ro, 0, .any⟩, ⟨0x11, .u32, .ro, 0, .any⟩,
  ⟨0x12, .u16, .ro, 0, .any⟩]

/-- R657: the bins. -/
def histogramRows : List ObjRow := [
  ⟨0, .u8, .const, 0x10, .any⟩, ⟨1, .u32, .ro, 0, .any⟩, ⟨2, .u32, .ro, 0, .any⟩,
  ⟨3, .u32, .ro, 0, .any⟩, ⟨4, .u32, .ro, 0, .any⟩, ⟨5, .u32, .ro, 0, .any⟩,
  ⟨6, .u32, .ro, 0, .any⟩, ⟨7, .u32, .ro, 0, .any⟩, ⟨8, .u32, .ro, 0, .any⟩,
  ⟨9, .u32, .ro, 0, .any⟩, ⟨0xA, .u32, .ro, 0, .any⟩, ⟨0xB, .u32, .ro, 0, .any⟩,
  ⟨0xC, .u32, .ro, 0, .any⟩, ⟨0xD, .u32, .ro, 0, .any⟩, ⟨0xE, .u32, .ro, 0, .any⟩,
  ⟨0xF, .u32, .ro, 0, .any⟩, ⟨0x10, .u32, .ro, 0, .any⟩]

/-- R658: Object 2F09h. -/
def writeBackRows : List ObjRow := [
  ⟨0, .u8, .const, 7, .any⟩, ⟨1, .u32, .rw, 0xE10, (.rng 0x3C 0x15180)⟩, ⟨2, .u8, .wo, 0, (.rng 1 1)⟩,
  ⟨3, .u8, .ro, 0, .any⟩, ⟨4, .u32, .rc, 0, .any⟩, ⟨5, .u16, .rc, 0, .any⟩,
  ⟨6, .u16, .rc, 0, .any⟩, ⟨7, .u8, .ro, 0, .any⟩]

/-- R674: object 3000h. -/
def irqRows : List ObjRow := [
  ⟨0, .u8, .const, 7, .any⟩, ⟨1, .bool, .rw, 1, .any⟩, ⟨2, .u32, .rc, 0, .any⟩,
  ⟨3, .u16, .rc, 0, .any⟩, ⟨4, .u32, .rc, 0, .any⟩, ⟨5, .u16, .wo, 0, .any⟩,
  ⟨6, .u16, .wo, 0, .any⟩, ⟨7, .u16, .ro, 0, .any⟩]

/-- R674: object 3001h. -/
def irqMapsRows : List ObjRow := [
  ⟨0, .u8, .const, 2, .any⟩, ⟨1, .dom, .ro, 0, .any⟩, ⟨2, .dom, .ro, 0, .any⟩]

/-- R674: object 3020h. -/
def irqConfigRows : List ObjRow :=
  ⟨0, .u8, .const, 0xFF, .any⟩ :: (List.range 255).map (fun j => ⟨1 + j, .u32, .rw, 0x0FC00000, .bits 0xFFC0FFFF⟩)

/-- R675: Target x has object 3010h + x. -/
def irqTargetRows : List ObjRow := [
  ⟨0, .u8, .const, 7, .any⟩, ⟨1, .u16, .rw, 0, (.fields 0x33F [(8,2,2)])⟩, ⟨2, .u8, .rw, 0, (.rng 0 0xF)⟩,
  ⟨3, .u16, .rc, 0, .any⟩, ⟨4, .u8, .wo, 0, .any⟩, ⟨5, .u8, .ro, 0xFF, .any⟩,
  ⟨6, .u32, .rc, 0, .any⟩, ⟨7, .u16, .rc, 0, .any⟩]

/-- R676: a coalescing group. -/
def irqGroupRows : List ObjRow := [
  ⟨0, .u8, .const, 5, .any⟩, ⟨1, .u8, .rw, 0, .any⟩, ⟨2, .u32, .rw, 0, (.rng 0 10000000)⟩,
  ⟨3, .u8, .ro, 0, .any⟩, ⟨4, .u8, .ro, 0, .any⟩, ⟨5, .u32, .rc, 0, .any⟩]

/-- R677: the Lighthouse. -/
def lighthouseRows : List ObjRow := [
  ⟨0, .u8, .const, 0x25, .any⟩, ⟨1, .u32, .rw, 0, (.bits 0xFC0081FF)⟩, ⟨2, .u32, .rw, 0, (.bits 0xFC0081FF)⟩,
  ⟨3, .u32, .rw, 0, (.bits 0xFC0081FF)⟩, ⟨4, .u32, .rw, 0, (.bits 0xFC0081FF)⟩, ⟨5, .u32, .rw, 0, (.bits 0xFC0081FF)⟩,
  ⟨6, .u32, .rw, 0, (.bits 0xFC0081FF)⟩, ⟨7, .u32, .rw, 0, (.bits 0xFC0081FF)⟩, ⟨8, .u32, .rw, 0, (.bits 0xFC0081FF)⟩,
  ⟨9, .u32, .rw, 0, (.bits 0xFC0081FF)⟩, ⟨0xA, .u32, .rw, 0, (.bits 0xFC0081FF)⟩, ⟨0xB, .u32, .rw, 0, (.bits 0xFC0081FF)⟩,
  ⟨0xC, .u32, .rw, 0, (.bits 0xFC0081FF)⟩, ⟨0xD, .u32, .rw, 0, (.bits 0xFC0081FF)⟩, ⟨0xE, .u32, .rw, 0, (.bits 0xFC0081FF)⟩,
  ⟨0xF, .u32, .rw, 0, (.bits 0xFC0081FF)⟩, ⟨0x10, .u32, .rw, 0, (.bits 0xFC0081FF)⟩, ⟨0x11, .u32, .rw, 0, (.bits 0xFC0081FF)⟩,
  ⟨0x12, .u32, .rw, 0, (.bits 0xFC0081FF)⟩, ⟨0x13, .u32, .rw, 0, (.bits 0xFC0081FF)⟩, ⟨0x14, .u32, .rw, 0, (.bits 0xFC0081FF)⟩,
  ⟨0x15, .u32, .rw, 0, (.bits 0xFC0081FF)⟩, ⟨0x16, .u32, .rw, 0, (.bits 0xFC0081FF)⟩, ⟨0x17, .u32, .rw, 0, (.bits 0xFC0081FF)⟩,
  ⟨0x18, .u32, .rw, 0, (.bits 0xFC0081FF)⟩, ⟨0x19, .u32, .rw, 0, (.bits 0xFC0081FF)⟩, ⟨0x1A, .u32, .rw, 0, (.bits 0xFC0081FF)⟩,
  ⟨0x1B, .u32, .rw, 0, (.bits 0xFC0081FF)⟩, ⟨0x1C, .u32, .rw, 0, (.bits 0xFC0081FF)⟩, ⟨0x1D, .u32, .rw, 0, (.bits 0xFC0081FF)⟩,
  ⟨0x1E, .u32, .rw, 0, (.bits 0xFC0081FF)⟩, ⟨0x1F, .u32, .rw, 0, (.bits 0xFC0081FF)⟩, ⟨0x20, .u32, .rw, 0, (.bits 0xFC0081FF)⟩,
  ⟨0x21, .u8, .ro, 0xFF, .any⟩, ⟨0x22, .u32, .ro, 0, .any⟩, ⟨0x23, .u16, .rc, 0, .any⟩,
  ⟨0x24, .u8, .ro, 0, .any⟩, ⟨0x25, .u8, .ro, 0, .any⟩]

/-- R690: Object 3100h. -/
def canaryRows : List ObjRow := [
  ⟨0, .u8, .const, 0x11, .any⟩, ⟨1, .u16, .wo, 0, .any⟩, ⟨2, .u16, .rw, 0, .any⟩,
  ⟨3, .u16, .rw, 0x4000, (.rng 1 0xFFFF)⟩, ⟨4, .u16, .rw, 0xFFFF, (.rng 1 0xFFFF)⟩, ⟨5, .u16, .rw, 0x400, .any⟩,
  ⟨6, .u8, .rw, 0x20, (.rng 0 0xFF)⟩, ⟨7, .bool, .rw, 0, .any⟩, ⟨8, .bool, .rw, 1, .any⟩,
  ⟨9, .u8, .ro, 0, .any⟩, ⟨0xA, .u16, .ro, 0, .any⟩, ⟨0xB, .u16, .ro, 0x5AA5, .any⟩,
  ⟨0xC, .u32, .rc, 0, .any⟩, ⟨0xD, .u16, .rc, 0, .any⟩, ⟨0xE, .u16, .rc, 0, .any⟩,
  ⟨0xF, .u8, .w1c, 0, .any⟩, ⟨0x10, .u16, .rc, 0, .any⟩, ⟨0x11, .u8, .ro, 0, .any⟩]

/-- R691: Object 3101h. -/
def ledgerRows : List ObjRow := [
  ⟨0, .u8, .const, 0xA, .any⟩, ⟨1, .u32, .rw, 0, .any⟩, ⟨2, .u32, .rw, 0, .any⟩,
  ⟨3, .u8, .wo, 0, .any⟩, ⟨4, .u8, .rw, 0, (.rng 0 2)⟩, ⟨5, .u32, .ro, 0, .any⟩,
  ⟨6, .u32, .ro, 0, .any⟩, ⟨7, .u32, .ro, 0, .any⟩, ⟨8, .u32, .ro, 0, .any⟩,
  ⟨9, .u16, .rc, 0, .any⟩, ⟨0xA, .u8, .rw, 1, (.rng 1 0xFF)⟩]

/-- R692: the bite capture. -/
def captureRows : List ObjRow := [
  ⟨0, .u8, .const, 0x18, .any⟩, ⟨1, .u8, .ro, 0, .any⟩, ⟨2, .u16, .ro, 0, .any⟩,
  ⟨3, .u32, .ro, 0, .any⟩, ⟨4, .u8, .ro, 0, .any⟩, ⟨5, .u8, .ro, 0, .any⟩,
  ⟨6, .u32, .ro, 0, .any⟩, ⟨7, .u32, .ro, 0, .any⟩, ⟨8, .u32, .ro, 0, .any⟩,
  ⟨9, .u32, .ro, 0, .any⟩, ⟨0xA, .u32, .ro, 0, .any⟩, ⟨0xB, .u32, .ro, 0, .any⟩,
  ⟨0xC, .u32, .ro, 0, .any⟩, ⟨0xD, .u32, .ro, 0, .any⟩, ⟨0xE, .u32, .ro, 0, .any⟩,
  ⟨0xF, .u32, .ro, 0, .any⟩, ⟨0x10, .u32, .ro, 0, .any⟩, ⟨0x11, .u32, .ro, 0, .any⟩,
  ⟨0x12, .u32, .ro, 0, .any⟩, ⟨0x13, .u32, .ro, 0, .any⟩, ⟨0x14, .u32, .ro, 0, .any⟩,
  ⟨0x15, .u32, .ro, 0, .any⟩, ⟨0x16, .u32, .ro, 0, .any⟩, ⟨0x17, .u32, .ro, 0, .any⟩,
  ⟨0x18, .u32, .ro, 0, .any⟩]

/-- R713: Object 3200h. -/
def collectorRows : List ObjRow := [
  ⟨0, .u8, .const, 0x14, .any⟩, ⟨1, .u8, .ro, 1, .any⟩, ⟨2, .u8, .ro, 0, .any⟩,
  ⟨3, .u8, .ro, 0xFF, .any⟩, ⟨4, .u32, .ro, 0, .any⟩, ⟨5, .bool, .rw, 0, .any⟩,
  ⟨6, .u32, .rw, 0x3E8, (.rng 1 0x36EE80)⟩, ⟨7, .u8, .rw, 3, (.rng 0 0xFF)⟩, ⟨8, .u32, .rw, 0xE10, (.rng 1 0xD2F00)⟩,
  ⟨9, .u8, .ro, 0, .any⟩, ⟨0xA, .u16, .rc, 0, .any⟩, ⟨0xB, .u8, .wo, 0, (.rng 1 1)⟩,
  ⟨0xC, .u8, .wo, 0, (.rng 1 1)⟩, ⟨0xD, .u8, .rw, 2, (.rng 0 2)⟩, ⟨0xE, .u8, .w1c, 0, .any⟩,
  ⟨0xF, .u16, .rc, 0, .any⟩, ⟨0x10, .u16, .rc, 0, .any⟩, ⟨0x11, .u32, .rc, 0, .any⟩,
  ⟨0x12, .u8, .ro, 0, .any⟩, ⟨0x13, .u8, .rw, 0xFF, (.oneOf (List.range 64 ++ [0xFF]))⟩, ⟨0x14, .u16, .rc, 0, .any⟩]

/-- R714: the action words of the sources. -/
def actionsRows : List ObjRow :=
  ⟨0, .u8, .const, 0x80, .any⟩ :: (List.range 128).map (fun f => ⟨1 + f, .u32, .rw, actionDefault f, .fields 0xFFFF0F0F [(8, 4, 6), (0, 4, 6)]⟩)

/-- R714: the pending bits of the sources. -/
def pendingsRows : List ObjRow := [
  ⟨0, .u8, .const, 8, .any⟩, ⟨1, .u32, .w1c, 0, .any⟩, ⟨2, .u32, .w1c, 0, .any⟩,
  ⟨3, .u32, .w1c, 0, .any⟩, ⟨4, .u32, .w1c, 0, .any⟩, ⟨5, .u32, .w1c, 0, .any⟩,
  ⟨6, .u32, .w1c, 0, .any⟩, ⟨7, .u32, .w1c, 0, .any⟩, ⟨8, .u32, .w1c, 0, .any⟩]

/-- R714: the log. -/
def logRows : List ObjRow := [
  ⟨0, .u8, .const, 2, .any⟩, ⟨1, .lo64, .rc, 0, .any⟩, ⟨2, .hi64, .rc, 0, .any⟩]

/-- R715: the firmware report. -/
def fwReportRows : List ObjRow := [
  ⟨0, .u8, .const, 1, .any⟩, ⟨1, .u32, .wo, 0, (.nonzero 22 2)⟩]

/-- R736: Object 3300h. -/
def rtcRows : List ObjRow := [
  ⟨0, .u8, .const, 0x14, .any⟩, ⟨1, .lo64, .ro, 0, .any⟩, ⟨2, .hi64, .ro, 0, .any⟩,
  ⟨3, .u16, .ro, 0, .any⟩, ⟨4, .lo64, .wo, 0, .any⟩, ⟨5, .hi64, .wo, 0, (.rng 0 0xFF)⟩,
  ⟨6, .u16, .rw, 0, (.multOf 2)⟩, ⟨7, .u32, .ro, 0x7D00101, .any⟩, ⟨8, .u32, .ro, 0x5000000, .any⟩,
  ⟨9, .u32, .rw, 0x7D00101, .any⟩, ⟨0xA, .u32, .rw, 0, .any⟩, ⟨0xB, .u8, .ro, 0, .any⟩,
  ⟨0xC, .lo64, .rw, 0, .any⟩, ⟨0xD, .hi64, .rw, 0, (.rng 0 0xFF)⟩, ⟨0xE, .bool, .rw, 0, .any⟩,
  ⟨0xF, .i16, .rw, 0, (.srng (-255) (255))⟩, ⟨0x10, .u8, .ro, 0, .any⟩, ⟨0x11, .u8, .ro, 2, .any⟩,
  ⟨0x12, .u8, .w1c, 1, .any⟩, ⟨0x13, .u16, .rc, 0, .any⟩, ⟨0x14, .u16, .rc, 0, .any⟩]

/-- R737: the backup bytes. -/
def backupRows : List ObjRow := [
  ⟨0, .u8, .const, 0x10, .any⟩, ⟨1, .u32, .rw, 0, .any⟩, ⟨2, .u32, .rw, 0, .any⟩,
  ⟨3, .u32, .rw, 0, .any⟩, ⟨4, .u32, .rw, 0, .any⟩, ⟨5, .u32, .rw, 0, .any⟩,
  ⟨6, .u32, .rw, 0, .any⟩, ⟨7, .u32, .rw, 0, .any⟩, ⟨8, .u32, .rw, 0, .any⟩,
  ⟨9, .u32, .rw, 0, .any⟩, ⟨0xA, .u32, .rw, 0, .any⟩, ⟨0xB, .u32, .rw, 0, .any⟩,
  ⟨0xC, .u32, .rw, 0, .any⟩, ⟨0xD, .u32, .rw, 0, .any⟩, ⟨0xE, .u32, .rw, 0, .any⟩,
  ⟨0xF, .u32, .rw, 0, .any⟩, ⟨0x10, .u32, .rw, 0, .any⟩]

/-- R759: Object 3400h. -/
def otpStatusRows : List ObjRow := [
  ⟨0, .u8, .const, 6, .any⟩, ⟨1, .u32, .ro, 0xAAAAAAAA, .any⟩, ⟨2, .u32, .ro, 0xFFFFFFFF, .any⟩,
  ⟨3, .u8, .w1c, 0, .any⟩, ⟨4, .bool, .ro, 1, .any⟩, ⟨5, .u16, .rc, 0, .any⟩,
  ⟨6, .u16, .rc, 0, .any⟩]

/-- R760: Object 3401h. -/
def otpProgRows : List ObjRow := [
  ⟨0, .u8, .const, 6, .any⟩, ⟨1, .u8, .rw, 0, (.rng 0 0xF)⟩, ⟨2, .u16, .rw, 0, (.rng 0 0x3FF)⟩,
  ⟨3, .u8, .rw, 0, (.rng 0 1)⟩, ⟨4, .u8, .wo, 0, (.rng 1 5)⟩, ⟨5, .u8, .ro, 0, .any⟩,
  ⟨6, .u32, .rw, 0x14, (.rng 5 0xC8)⟩]

/-- R761: the shadow of a region. -/
def otpRegionRows : List ObjRow := [
  ⟨0, .u8, .const, 0x20, .any⟩, ⟨1, .u32, .ro, 0, .any⟩, ⟨2, .u32, .ro, 0, .any⟩,
  ⟨3, .u32, .ro, 0, .any⟩, ⟨4, .u32, .ro, 0, .any⟩, ⟨5, .u32, .ro, 0, .any⟩,
  ⟨6, .u32, .ro, 0, .any⟩, ⟨7, .u32, .ro, 0, .any⟩, ⟨8, .u32, .ro, 0, .any⟩,
  ⟨9, .u32, .ro, 0, .any⟩, ⟨0xA, .u32, .ro, 0, .any⟩, ⟨0xB, .u32, .ro, 0, .any⟩,
  ⟨0xC, .u32, .ro, 0, .any⟩, ⟨0xD, .u32, .ro, 0, .any⟩, ⟨0xE, .u32, .ro, 0, .any⟩,
  ⟨0xF, .u32, .ro, 0, .any⟩, ⟨0x10, .u32, .ro, 0, .any⟩, ⟨0x11, .u32, .ro, 0, .any⟩,
  ⟨0x12, .u32, .ro, 0, .any⟩, ⟨0x13, .u32, .ro, 0, .any⟩, ⟨0x14, .u32, .ro, 0, .any⟩,
  ⟨0x15, .u32, .ro, 0, .any⟩, ⟨0x16, .u32, .ro, 0, .any⟩, ⟨0x17, .u32, .ro, 0, .any⟩,
  ⟨0x18, .u32, .ro, 0, .any⟩, ⟨0x19, .u32, .ro, 0, .any⟩, ⟨0x1A, .u32, .ro, 0, .any⟩,
  ⟨0x1B, .u32, .ro, 0, .any⟩, ⟨0x1C, .u32, .ro, 0, .any⟩, ⟨0x1D, .u32, .ro, 0, .any⟩,
  ⟨0x1E, .u32, .ro, 0, .any⟩, ⟨0x1F, .u32, .ro, 0, .any⟩, ⟨0x20, .u32, .ro, 0, .any⟩]

/-- R762: Object 3440h. -/
def journalRows : List ObjRow := [
  ⟨0, .u8, .const, 0xD, .any⟩, ⟨1, .bool, .rw, 1, .any⟩, ⟨2, .u32, .rw, 0xA, .any⟩,
  ⟨3, .u32, .rw, 0x4470, (.rng 0x2D0 0x4470)⟩, ⟨4, .u32, .ro, 0, .any⟩, ⟨5, .u32, .rc, 0, .any⟩,
  ⟨6, .u16, .rc, 0, .any⟩, ⟨7, .u16, .rc, 0, .any⟩, ⟨8, .u8, .w1c, 0, .any⟩,
  ⟨9, .u16, .rc, 0, .any⟩, ⟨0xA, .u16, .rc, 0, .any⟩, ⟨0xB, .u32, .ro, 0, .any⟩,
  ⟨0xC, .u32, .rw, 0, .any⟩, ⟨0xD, .u32, .ro, 0, .any⟩]

/-- R763: the firmware record write. -/
def fwRecordRows : List ObjRow := [
  ⟨0, .u8, .const, 5, .any⟩, ⟨1, .u8, .rw, 8, (.rng 8 63)⟩, ⟨2, .u32, .rw, 0x10000000, .any⟩,
  ⟨3, .u16, .rw, 0, .any⟩, ⟨4, .u8, .wo, 0, (.rng 1 1)⟩, ⟨5, .u8, .ro, 0, .any⟩]

/-- R764: the layouts of the firmware records. -/
def layoutsRows : List ObjRow :=
  ⟨0, .u8, .const, 0x40, .any⟩ :: (List.range 64).map (fun r => ⟨1 + r, .u32, if r < 8 then .ro else .rw, 0, .bits 0x3FF03FF⟩)

/-- R764: the record states. -/
def recStatesRows : List ObjRow :=
  ⟨0, .u8, .const, 0x40, .any⟩ :: (List.range 64).map (fun r => ⟨1 + r, .u32, .ro, 0, .any⟩)

/-- R764: the full sequence numbers. -/
def recSeqsRows : List ObjRow :=
  ⟨0, .u8, .const, 0x40, .any⟩ :: (List.range 64).map (fun r => ⟨1 + r, .u32, .ro, 0, .any⟩)

/-- R776: Channel k has object 3500h + k. -/
def assayerRows (k : Nat) : List ObjRow := [
  ⟨0, .u8, .const, 0x11, .any⟩, ⟨1, .u8, .wo, 0, (.rng 1 4)⟩, ⟨2, .u8, .ro, if k = 0 then 4 else 0, .any⟩,
  ⟨3, .u32, .rw, 0, (.multOf 4)⟩, ⟨4, .u32, .rw, 0, (.rng 0 0x4000000)⟩, ⟨5, .u16, .rw, 0, .any⟩,
  ⟨6, .u8, .rw, 0, (.rng 0 1)⟩, ⟨7, .u32, .rw, 0, .any⟩, ⟨8, .u8, .rw, 0, (.rng 0 2)⟩,
  ⟨9, .u32, .wo, 0, .any⟩, ⟨0xA, .u8, .wo, 0, .any⟩, ⟨0xB, .u32, .ro, 0, .any⟩,
  ⟨0xC, .u8, .ro, 0, .any⟩, ⟨0xD, .u32, .ro, 0, .any⟩, ⟨0xE, .u32, .ro, 0, .any⟩,
  ⟨0xF, .u8, .w1c, 0, .any⟩, ⟨0x10, .u32, .rc, 0, .any⟩, ⟨0x11, .u16, .rc, 0, .any⟩]

/-- R784: Object 3600h. -/
def tallymanRows : List ObjRow := [
  ⟨0, .u8, .const, 5, .any⟩, ⟨1, .u16, .wo, 0, (.bits 0x0FFF)⟩, ⟨2, .lo64, .ro, 0, .any⟩,
  ⟨3, .hi64, .ro, 0, .any⟩, ⟨4, .u16, .rw, 0, .any⟩, ⟨5, .u16, .ro, 0, .any⟩]

/-- R785: a counting block. -/
def counterRows : List ObjRow := [
  ⟨0, .u8, .const, 0x2B, .any⟩, ⟨1, .u8, .rw, 0, .any⟩, ⟨2, .u8, .w1c, 0, .any⟩,
  ⟨3, .u8, .rw, 0, .any⟩, ⟨4, .u8, .rw, 0, (.oneOf countEvents)⟩, ⟨5, .u8, .rw, 0, (.oneOf countEvents)⟩,
  ⟨6, .u8, .rw, 0, (.oneOf countEvents)⟩, ⟨7, .u8, .rw, 0, (.oneOf countEvents)⟩, ⟨8, .u8, .rw, 0, (.oneOf countEvents)⟩,
  ⟨9, .u8, .rw, 0, (.oneOf countEvents)⟩, ⟨0xA, .u8, .rw, 0, (.oneOf countEvents)⟩, ⟨0xB, .u8, .rw, 0, (.oneOf countEvents)⟩,
  ⟨0xC, .lo64, .rw, 0, .any⟩, ⟨0xD, .hi48, .rw, 0, .any⟩, ⟨0xE, .lo64, .rw, 0, .any⟩,
  ⟨0xF, .hi48, .rw, 0, .any⟩, ⟨0x10, .lo64, .rw, 0, .any⟩, ⟨0x11, .hi48, .rw, 0, .any⟩,
  ⟨0x12, .lo64, .rw, 0, .any⟩, ⟨0x13, .hi48, .rw, 0, .any⟩, ⟨0x14, .lo64, .rw, 0, .any⟩,
  ⟨0x15, .hi48, .rw, 0, .any⟩, ⟨0x16, .lo64, .rw, 0, .any⟩, ⟨0x17, .hi48, .rw, 0, .any⟩,
  ⟨0x18, .lo64, .rw, 0, .any⟩, ⟨0x19, .hi48, .rw, 0, .any⟩, ⟨0x1A, .lo64, .rw, 0, .any⟩,
  ⟨0x1B, .hi48, .rw, 0, .any⟩, ⟨0x1C, .lo64, .ro, 0, .any⟩, ⟨0x1D, .hi48, .ro, 0, .any⟩,
  ⟨0x1E, .lo64, .ro, 0, .any⟩, ⟨0x1F, .hi48, .ro, 0, .any⟩, ⟨0x20, .lo64, .ro, 0, .any⟩,
  ⟨0x21, .hi48, .ro, 0, .any⟩, ⟨0x22, .lo64, .ro, 0, .any⟩, ⟨0x23, .hi48, .ro, 0, .any⟩,
  ⟨0x24, .lo64, .ro, 0, .any⟩, ⟨0x25, .hi48, .ro, 0, .any⟩, ⟨0x26, .lo64, .ro, 0, .any⟩,
  ⟨0x27, .hi48, .ro, 0, .any⟩, ⟨0x28, .lo64, .ro, 0, .any⟩, ⟨0x29, .hi48, .ro, 0, .any⟩,
  ⟨0x2A, .lo64, .ro, 0, .any⟩, ⟨0x2B, .hi48, .ro, 0, .any⟩]

/-- R793: Object 3700h. -/
def lifeControlRows : List ObjRow := [
  ⟨0, .u8, .const, 6, .any⟩, ⟨1, .bool, .rw, 1, .any⟩, ⟨2, .u8, .wo, 0, (.rng 1 1)⟩,
  ⟨3, .u8, .w1c, 0, .any⟩, ⟨4, .u8, .ro, 0, .any⟩, ⟨5, .u16, .ro, 0, .any⟩,
  ⟨6, .u16, .ro, 0, .any⟩]

/-- R794: Indicator Ll has object 3710h + l. -/
def indicatorRows : List ObjRow := [
  ⟨0, .u8, .const, 0x12, .any⟩, ⟨1, .u8, .rw, 0, (.rng 0 5)⟩, ⟨2, .i32, .rw, 0, .any⟩,
  ⟨3, .u8, .rw, 0, .any⟩, ⟨4, .i32, .rw, 0, .any⟩, ⟨5, .u32, .rw, 0, .any⟩,
  ⟨6, .u8, .rw, 0xA, (.rng 1 0xFF)⟩, ⟨7, .i32, .rw, 0x20000, .any⟩, ⟨8, .i32, .rw, 0, .any⟩,
  ⟨9, .u32, .rw, 0xA, (.rng 1 0x15180)⟩, ⟨0xA, .u8, .rw, 0xE6, .any⟩, ⟨0xB, .u32, .ro, 0, .any⟩,
  ⟨0xC, .lo64, .ro, 0xFFFFFFFF, .any⟩, ⟨0xD, .hi64, .ro, 0xFF, .any⟩, ⟨0xE, .u32, .ro, 0, .any⟩,
  ⟨0xF, .u8, .rwa, 0, .any⟩, ⟨0x10, .u32, .rc, 0, .any⟩, ⟨0x11, .u8, .ro, 0, .any⟩,
  ⟨0x12, .u8, .wo, 0, .any⟩]

/-- R813: Object 3800h. -/
def startupRows : List ObjRow := [
  ⟨0, .u8, .const, 0x10, .any⟩, ⟨1, .u8, .ro, 0, .any⟩, ⟨2, .u8, .ro, 0, .any⟩,
  ⟨3, .u8, .ro, 0, .any⟩, ⟨4, .u8, .ro, 0, .any⟩, ⟨5, .u32, .ro, 0, .any⟩,
  ⟨6, .u8, .ro, 0xFF, .any⟩, ⟨7, .u8, .ro, 0xFF, .any⟩, ⟨8, .u8, .ro, 0x8F, .any⟩,
  ⟨9, .u8, .ro, 4, .any⟩, ⟨0xA, .bool, .ro, 0, .any⟩, ⟨0xB, .u8, .wo, 0, (.rng 1 1)⟩,
  ⟨0xC, .u32, .ro, 0, .any⟩, ⟨0xD, .u32, .ro, 0, .any⟩, ⟨0xE, .u16, .ro, 0, .any⟩,
  ⟨0xF, .u8, .w1c, 0, .any⟩, ⟨0x10, .u8, .ro, 0, .any⟩]

/-- R814: Object 3801h. -/
def wideningRows : List ObjRow := [
  ⟨0, .u8, .const, 8, .any⟩, ⟨1, .u8, .rw, 4, (.rng 0 4)⟩, ⟨2, .u8, .rw, 1, (.bits 3)⟩,
  ⟨3, .u8, .rw, 2, (.rng 1 0xFF)⟩, ⟨4, .u8, .rw, 3, (.rng 1 0xFF)⟩, ⟨5, .u8, .wo, 0, (.rng 1 1)⟩,
  ⟨6, .u8, .ro, 0, .any⟩, ⟨7, .u16, .ro, 0xFFFF, .any⟩, ⟨8, .u16, .rc, 0, .any⟩]

/-- R815: Object 3802h. -/
def flashPortsRows : List ObjRow := [
  ⟨0, .u8, .const, 5, .any⟩, ⟨1, .u8, .rw, 8, (.rng 4 0x40)⟩, ⟨2, .u32, .ro, 0, .any⟩,
  ⟨3, .u32, .ro, 0, .any⟩, ⟨4, .u8, .ro, 0, .any⟩, ⟨5, .u8, .ro, 0, .any⟩]

/-- R811: a bank. -/
def bankRows : List ObjRow := [
  ⟨0, .u8, .const, 3, .any⟩, ⟨1, .u32, .ro, 0, .any⟩, ⟨2, .u32, .rw, 0, (.multOf 4)⟩,
  ⟨3, .dom, .rw, 0, .any⟩]

/-- R133: the four words of a mark entry, repeated through an index of 32 marks. -/
def markRow (j : Nat) : Option ObjRow :=
  if j = 0 then some ⟨0, .u8, .const, 0x80, .any⟩
  else if j ≤ 0x80 then some ⟨j, .u32, .rw, 0, .any⟩
  else none

/-- The objects of block 1000h (R443). -/
def objRows10 (i : Nat) : List ObjRow :=
  if i < 0x1100 then commRows i
  else []

/-- The objects of block 1200h (R443). -/
def objRows12 (i : Nat) : List ObjRow :=
  if i = 0x1200 then commRows i
  else []

/-- The objects of block 1400h (R443). -/
def objRows14 (i : Nat) : List ObjRow :=
  if i ≤ 0x140F then pdoCommRows false (i - 0x1400) 0x200
  else []

/-- The objects of block 1600h (R443). -/
def objRows16 (i : Nat) : List ObjRow :=
  if i ≤ 0x160F then pdoMapRows
  else []

/-- The objects of block 1800h (R443). -/
def objRows18 (i : Nat) : List ObjRow :=
  if i ≤ 0x180F then pdoCommRows true (i - 0x1800) 0x180
  else []

/-- The objects of block 1A00h (R443). -/
def objRows1A (i : Nat) : List ObjRow :=
  if i ≤ 0x1A0F then pdoMapRows
  else []

/-- The objects of block 2000h (R443). -/
def objRows20 (i : Nat) : List ObjRow :=
  if i = 0x2000 then identityRows
  else if i = 0x2001 then familyRows
  else if i = 0x2010 then accessRows
  else if i = 0x2020 then fwTableRows
  else if i = 0x2021 then fwChangesRows
  else []

/-- The objects of block 2100h (R443). -/
def objRows21 (i : Nat) : List ObjRow :=
  if i = 0x21B0 then clockRows
  else if i = 0x21B1 then fabricTimeRows
  else if i = 0x21B2 then syncRows
  else if 0x21C0 ≤ i ∧ i ≤ 0x21C3 then encoderRows
  else if i < 0x2180 ∧ i % 16 = 0 then wheelRows
  else if i = 0x21A0 then markUnitRows
  else []

/-- The objects of block 2200h (R443). -/
def objRows22 (i : Nat) : List ObjRow :=
  if i < 0x2240 then senseRows
  else if i < 0x2248 then sckRows
  else if i = 0x2248 then senseSumRows
  else []

/-- The objects of block 2300h (R443). -/
def objRows23 (i : Nat) : List ObjRow :=
  if i < 0x2330 then phaseRows (i - 0x2300)
  else if i = 0x2330 then phaseSumRows
  else []

/-- The objects of block 2400h (R443). -/
def objRows24 (i : Nat) : List ObjRow :=
  if i < 0x24C0 ∧ i % 16 = 0 then railCtlRows ((i - 0x2400) / 16)
  else if i < 0x24C0 ∧ i % 16 = 1 then railMembersRows
  else if i < 0x24C0 ∧ i % 16 = 2 then railSlotsRows
  else if i < 0x24C0 ∧ i % 16 = 3 then railDemandRows
  else if i < 0x24C0 ∧ i % 16 = 4 then railShedRows
  else if i < 0x24C0 ∧ i % 16 = 5 then railBindRows
  else if i < 0x24C0 ∧ i % 16 = 6 then railWeightsRows
  else []

/-- The objects of block 2500h (R443). -/
def objRows25 (i : Nat) : List ObjRow :=
  if i < 0x2580 ∧ i % 16 < 8 then tableBankRows
  else if i < 0x2580 ∧ i % 16 = 8 then tableCtlRows
  else []

/-- The objects of block 2600h (R443). -/
def objRows26 (i : Nat) : List ObjRow :=
  if i < 0x26C0 ∧ i % 16 = 0 then svModelRows
  else if i < 0x26C0 ∧ i % 16 = 1 then svLimitsRows
  else if i < 0x26C0 ∧ i % 16 = 2 then svStatusRows
  else if i < 0x26C0 ∧ i % 16 = 3 then svVerdictRows
  else if i < 0x26C0 ∧ i % 16 = 4 then svReleaseRows
  else if i < 0x26C0 ∧ i % 16 = 5 then svEpisodeRows
  else []

/-- The objects of block 2700h (R443). -/
def objRows27 (i : Nat) : List ObjRow :=
  if i < 0x2710 then engineRows (i - 0x2700)
  else if i = 0x2710 then sysMemRows
  else if i = 0x2780 then foremanRows
  else if 0x2790 ≤ i ∧ i ≤ 0x279F then dispatchRows
  else []

/-- The objects of block 2800h (R443). -/
def objRows28 (i : Nat) : List ObjRow :=
  if i ≤ 0x283F then taskRows
  else []

/-- The objects of block 2900h (R443). -/
def objRows29 (i : Nat) : List ObjRow :=
  if i < 0x2920 then queueRows
  else if i = 0x2920 then poolRows
  else []

/-- The objects of block 2A00h (R443). -/
def objRows2A (i : Nat) : List ObjRow :=
  if i = 0x2A00 ∨ i = 0x2A10 then canRows
  else if i = 0x2A20 then canNodeRows
  else if i = 0x2A21 then bulkRows
  else if i = 0x2A80 then authRows
  else if i = 0x2A81 then messageRows
  else []

/-- The objects of block 2B00h (R443). -/
def objRows2B (i : Nat) : List ObjRow :=
  if i = 0x2B00 ∨ i = 0x2B10 then twbRows
  else if i = 0x2B01 ∨ i = 0x2B11 then twbTransferRows
  else []

/-- The objects of block 2C00h (R443). -/
def objRows2C (i : Nat) : List ObjRow :=
  if i ≤ 0x2C03 then hkaRows
  else if 0x2C10 ≤ i ∧ i ≤ 0x2C13 then hkaInputsRows
  else if i = 0x2C20 then gpioRows
  else if 0x2C30 ≤ i ∧ i ≤ 0x2C37 then tachoRows
  else []

/-- The objects of block 2D00h (R443). -/
def objRows2D (i : Nat) : List ObjRow :=
  if i = 0x2D00 then suppliesRows
  else if i = 0x2D01 then domainsRows
  else if i = 0x2D02 then sequencerRows
  else if i = 0x2D03 then linesRows
  else if 0x2D10 ≤ i ∧ i ≤ 0x2D1F then slotRows (i - 0x2D10)
  else []

/-- The objects of block 2E00h (R443). -/
def objRows2E (i : Nat) : List ObjRow :=
  if i = 0x2E00 then chargerRows
  else if i = 0x2E01 then chargeProfileRows
  else if i = 0x2E02 then powerPathRows
  else if i = 0x2E03 then searchRows
  else if i = 0x2E04 then switchBtnRows
  else []

/-- The objects of block 2F00h (R443). -/
def objRows2F (i : Nat) : List ObjRow :=
  if i = 0x2F00 then gaugeRows
  else if i = 0x2F01 then gaugeSetRows
  else if i = 0x2F02 then gaugeEstRows
  else if i = 0x2F03 then ocvRows
  else if i = 0x2F04 then presenceRows
  else if i = 0x2F05 then historyRows
  else if i = 0x2F06 then histogramRows
  else if i = 0x2F07 then historyRows
  else if i = 0x2F08 then histogramRows
  else if i = 0x2F09 then writeBackRows
  else []

/-- The objects of block 3000h (R443). -/
def objRows30 (i : Nat) : List ObjRow :=
  if i = 0x3000 then irqRows
  else if i = 0x3001 then irqMapsRows
  else if 0x3010 ≤ i ∧ i ≤ 0x301F then irqTargetRows
  else if i = 0x3020 then irqConfigRows
  else if 0x3040 ≤ i ∧ i ≤ 0x305F then irqGroupRows
  else if i = 0x3080 then lighthouseRows
  else []

/-- The objects of block 3100h (R443). -/
def objRows31 (i : Nat) : List ObjRow :=
  if i = 0x3100 then canaryRows
  else if i = 0x3101 then ledgerRows
  else if i = 0x3102 then captureRows
  else []

/-- The objects of block 3200h (R443). -/
def objRows32 (i : Nat) : List ObjRow :=
  if i = 0x3200 then collectorRows
  else if i = 0x3201 then actionsRows
  else if i = 0x3202 then pendingsRows
  else if i = 0x3203 then logRows
  else if i = 0x3204 then fwReportRows
  else []

/-- The objects of block 3300h (R443). -/
def objRows33 (i : Nat) : List ObjRow :=
  if i = 0x3300 then rtcRows
  else if i = 0x3301 then backupRows
  else []

/-- The objects of block 3400h (R443). -/
def objRows34 (i : Nat) : List ObjRow :=
  if i = 0x3400 then otpStatusRows
  else if i = 0x3401 then otpProgRows
  else if 0x3410 ≤ i ∧ i ≤ 0x341F then otpRegionRows
  else if i = 0x3440 then journalRows
  else if i = 0x3441 then fwRecordRows
  else if i = 0x3450 then layoutsRows
  else if i = 0x3451 then recStatesRows
  else if i = 0x3452 then recSeqsRows
  else []

/-- The objects of block 3500h (R443). -/
def objRows35 (i : Nat) : List ObjRow :=
  if 0x3500 ≤ i ∧ i ≤ 0x3503 then assayerRows (i - 0x3500)
  else []

/-- The objects of block 3600h (R443). -/
def objRows36 (i : Nat) : List ObjRow :=
  if i = 0x3600 then tallymanRows
  else if 0x3610 ≤ i ∧ i ≤ 0x361B then counterRows
  else []

/-- The objects of block 3700h (R443). -/
def objRows37 (i : Nat) : List ObjRow :=
  if i = 0x3700 then lifeControlRows
  else if 0x3710 ≤ i ∧ i ≤ 0x371F then indicatorRows
  else []

/-- The objects of block 3800h (R443). -/
def objRows38 (i : Nat) : List ObjRow :=
  if i = 0x3800 then startupRows
  else if i = 0x3801 then wideningRows
  else if i = 0x3802 then flashPortsRows
  else if i = 0x3808 ∨ i = 0x3809 then bankRows
  else []

/-- R442, R443: the rows of hardware object `i`; none where no chapter defines the index. -/
def objRows (i : Nat) : List ObjRow :=
  match i / 256 with
  | 0x10 => objRows10 i
  | 0x12 => objRows12 i
  | 0x14 => objRows14 i
  | 0x16 => objRows16 i
  | 0x18 => objRows18 i
  | 0x1A => objRows1A i
  | 0x20 => objRows20 i
  | 0x21 => objRows21 i
  | 0x22 => objRows22 i
  | 0x23 => objRows23 i
  | 0x24 => objRows24 i
  | 0x25 => objRows25 i
  | 0x26 => objRows26 i
  | 0x27 => objRows27 i
  | 0x28 => objRows28 i
  | 0x29 => objRows29 i
  | 0x2A => objRows2A i
  | 0x2B => objRows2B i
  | 0x2C => objRows2C i
  | 0x2D => objRows2D i
  | 0x2E => objRows2E i
  | 0x2F => objRows2F i
  | 0x30 => objRows30 i
  | 0x31 => objRows31 i
  | 0x32 => objRows32 i
  | 0x33 => objRows33 i
  | 0x34 => objRows34 i
  | 0x35 => objRows35 i
  | 0x36 => objRows36 i
  | 0x37 => objRows37 i
  | 0x38 => objRows38 i
  | _ => []

/-- R442: the row of object word i:j of the hardware range, if it exists. -/
def objRow (i j : Nat) : Option ObjRow :=
  if 0x2180 ≤ i ∧ i ≤ 0x219F then markRow j
  else (objRows i).find? (fun r => r.sub == j)

/-- R17: what an object word holds after the reset that resets its block. -/
def objDefault (i j : Nat) : Word :=
  match objRow i j with
  | some r => r.dflt
  | none => 0

/-- R456: the writable objects whose default is loaded from a fuse region. -/
def otpHeld (i j : Nat) : Bool := decide (i = 0x2D00 ∧ 1 ≤ j ∧ j ≤ 3)

/-- R456: the writable objects whose default is restored from the journal. -/
def journalHeld (i j : Nat) : Bool :=
  decide (i = 0x2A20 ∧ j = 2) || decide (i = 0x2F00 ∧ 3 ≤ j ∧ j ≤ 6) ||
  decide (0x3710 ≤ i ∧ i ≤ 0x371F ∧ 1 ≤ j ∧ j ≤ 0x0A) || decide (i = 0x3801 ∧ 1 ≤ j ∧ j ≤ 4)

/-- R443: the domain a hardware object belongs to. -/
def objDomain (i : Nat) : Nat :=
  if i = 0x21B0 ∨ i = 0x21B1 then 2
  else if 0x1000 ≤ i ∧ i ≤ 0x1FFF then 7
  else if i = 0x3080 ∨ i = 0x3100 ∨ i = 0x3102 then 1
  else
    match i / 256 with
    | 0x21 => 5
    | 0x22 => 5
    | 0x23 => 5
    | 0x24 => 5
    | 0x25 => 5
    | 0x26 => 5
    | 0x2A => if i < 0x2A80 then 7 else 2
    | 0x2B => 7
    | 0x2C => 6
    | 0x2E => 5
    | 0x33 => 0
    | _ => 2

end Sys2Proof.Machine
end

