-- ==== Sys2Proof/Machine/Sparse.lean ====
section
/-! DEFINITION. Sparse data by key: a list of (key, value) pairs with strictly rising keys, no pair equal to what an
unlisted key reads as. Object words and memory bytes are kept so; equal contents are equal lists. -/
namespace Sys2Proof.Machine

/-- The value listed at key `k`. -/
def Sparse.find {α : Type} : List (Nat × α) → Nat → Option α
  | [], _ => none
  | (a, b) :: t, k => if a = k then some b else Sparse.find t k

/-- The value at key `k`; an unlisted key reads as `d k`. -/
def Sparse.get {α : Type} (d : Nat → α) (l : List (Nat × α)) (k : Nat) : α :=
  match Sparse.find l k with
  | some v => v
  | none => d k

/-- `l` with key `k` listed as `v`, keeping the order. -/
def Sparse.insert {α : Type} : List (Nat × α) → Nat → α → List (Nat × α)
  | [], k, v => [(k, v)]
  | (a, b) :: t, k, v =>
    if k < a then (k, v) :: (a, b) :: t
    else if a = k then (k, v) :: t
    else (a, b) :: Sparse.insert t k v

/-- `l` without key `k`. -/
def Sparse.erase {α : Type} : List (Nat × α) → Nat → List (Nat × α)
  | [], _ => []
  | (a, b) :: t, k => if a = k then Sparse.erase t k else (a, b) :: Sparse.erase t k

/-- `l` with key `k` holding `v`: the value an unlisted key reads as is not listed. -/
def Sparse.put {α : Type} [DecidableEq α] (d : Nat → α) (l : List (Nat × α)) (k : Nat) (v : α) : List (Nat × α) :=
  if v = d k then Sparse.erase l k else Sparse.insert l k v

/-- Every key of `l` is above `k`. -/
def Sparse.above {α : Type} (k : Nat) (l : List (Nat × α)) : Bool := l.all (fun p => decide (k < p.1))

/-- The canonical form: keys strictly rising and no entry equal to what an unlisted key reads as. -/
def Sparse.wf {α : Type} [DecidableEq α] (d : Nat → α) : List (Nat × α) → Bool
  | [] => true
  | (a, b) :: t => decide (b ≠ d a) && Sparse.above a t && Sparse.wf d t

end Sys2Proof.Machine
end

