-- ==== Sys2Proof/Config.lean ====
section
/-! DEFINITION. What an implementation fixes and the values the spec leaves free: constants without a body, so no
proof can see what they are. The State field `free` numbers the draws. -/
namespace Sys2Proof.Config

/-- The n-th word that the spec leaves open (a register or result it calls undefined or does not state). -/
opaque freeWord : Nat → Word

/-- The n-th double word that the spec leaves open. -/
opaque freeDWord : Nat → DWord

/-- The n-th byte that the spec leaves open (memory whose contents it does not state). -/
opaque freeByte : Nat → Byte

/-- The AES-128-CMAC tag of a message under a key, both as bytes; the spec names the standard and does not
restate it. -/
opaque aesCmac (key message : List Byte) : List Byte

/-- The SHA-256 digest of a message; the spec names the standard and does not restate it. -/
opaque sha256 (message : List Byte) : List Byte

/-- Whether an ECDSA P-256 signature over a digest verifies under a public key. -/
opaque ecdsaP256Valid (key digest signature : List Byte) : Bool

/-- What a USDO request frame asks of this server, as (write, index, subindex, data), where CiA 1301 gives it a meaning;
the spec names the protocol and does not restate it. -/
opaque usdoRequest (frame : List Byte) : Option (Bool × Nat × Nat × List Byte)

/-- The USDO answer to a request frame: the abort code, 0 for none, and the value read. -/
opaque usdoAnswer (frame : List Byte) (abort : Nat) (value : List Byte) : List Byte

/-- The bytes of the boot ROM, which the spec does not print. -/
opaque romByte : Nat → Byte

/-- The quotient of a number by 0, where the spec divides by a programmed value and states no result for 0. -/
opaque divZero : Int → Int

end Sys2Proof.Config
end

