-- ==== Sys2Proof/Machine/State.lean ====
section
/-! DEFINITION. The state of the block as plain data. Every object word of the dictionary lives in `od` under the key
index × 256 + subindex; what no object shows lives in one structure per block. A unit of a block is an element of a
list at its unit number. -/
namespace Sys2Proof.Machine

/-- The reasons the block stops. No rule of the spec stops it. -/
inductive Fault where
  /-- Raised by no command: the spec's block reports faults to its collector and runs on. Safe. -/
  | stopped
  deriving DecidableEq, Repr

/-- The reasons a command is refused. -/
inductive Refusal where
  /-- A command whose meaning is not written. Safe: nothing is claimed of it. -/
  | notModelled (mnemonic : String)
  deriving DecidableEq, Repr

/-- The results of an access (R444). -/
inductive Res where
  | accepted | readOnly | authentication | range | state | noObject | domain | privilege | length | pair | hardware
  deriving DecidableEq, Repr

/-- The code of a result (R444). -/
def Res.code : Res → Nat
  | .accepted => 0
  | .readOnly => 1
  | .authentication => 2
  | .range => 3
  | .state => 4
  | .noObject => 5
  | .domain => 6
  | .privilege => 7
  | .length => 8
  | .pair => 9
  | .hardware => 10

/-- The answer to the last access or request: what the master that made it was given, and the bytes that a two-wire
port sent. -/
structure Resp where
  result : Res
  value : Word
  high : Word := 0
  above : Bool := false
  below : Bool := false
  bytes : List Byte := []
  deriving DecidableEq, Repr

/-- What the object logic holds for one master (R450 to R454, R465): the snapshot buffer, the staged low word and the
last write with its result. -/
structure MasterState where
  buffer : List (Nat × Word) := []
  staged : Option (Nat × Word) := none
  lastResult : Nat := 0
  lastObject : Word := 0
  deriving DecidableEq, Repr

/-- The fault classes (R693). -/
inductive FClass where
  | ce | uc | ft
  deriving DecidableEq, Repr

/-- A report that a block has raised and the collector has not taken (R693, R694). -/
structure Report where
  time : Nat
  src : Nat
  cls : FClass
  detail : Nat
  deriving DecidableEq, Repr

/-- An entry on the queue post network: its producer, numbered in R817's order (0 the mark unit, 1 + k HKAk, 5 + n CANn, 7 + n
TWBn, 9 the collector), its resolved queue, and whether it is the collector's, which reports no fault (R34, R148, R704). -/
structure Post where
  src : Nat
  queue : Nat
  entry : DWord
  quiet : Bool := false
  deriving DecidableEq, Repr

/-- What events have added to one counter in the present fabric cycle: the count before the first of them, and what they
make of a count of 0 (R13, R47). -/
structure CycleCount where
  key : Nat
  before : DWord
  alone : DWord
  deriving DecidableEq, Repr

/-- The events of the present fabric cycle: the flag bits they set and the counters they added to, which an access of the
same cycle leaves standing (R13, R47, R48); the queues that a pop, a push or a post has taken, whose entries were pushed, and
the pop path taken (R387, R392); whether the mark unit and the collector have handed a post to the network (R148, R704); the interconnect targets granted as (target, engine) (R33), the words that engines write
through alias ports, and memory as it stood before the engines' accesses (R369). -/
structure CycleEvents where
  bits : List (Nat × Word) := []
  counts : List CycleCount := []
  pops : List Nat := []
  pushes : List Nat := []
  posts : List Nat := []
  fresh : List Nat := []
  path : Bool := false
  markHanded : Bool := false
  faultHanded : Bool := false
  targets : List (Nat × Nat) := []
  viaBus : List (Nat × Word) := []
  old : List Host.Cell := []
  deriving DecidableEq, Repr

/-- The clock generator beyond its objects (R82 to R91); `xiFrom` is the real time from which XI's windows may qualify
it. -/
structure ClockGen where
  xiMode : Nat := 0
  unlocked : Bool := false
  returnAt : Option Nat := none
  relock : Option (Nat × Bool) := none
  lastTick : Option Nat := none
  xiFrom : Nat := 0
  deriving DecidableEq, Repr

/-- The result of a reference event, waiting for its 40 cycles (R108), with the window and the lock count that judge it
(R112). -/
structure LoopResult where
  due : Nat
  period : Int
  fper : Int
  range : Int
  fown : Int
  ep : Int
  kp : Int
  ki : Int
  window : Nat
  lockCount : Nat
  deriving DecidableEq, Repr

/-- A Tide wheel beyond its objects (R95, R96, R108): the 40-bit phase and the one before the present cycle's advance,
the turn count, F_app and F_own in F40 units, and the lock loop with the loss factor, MULT and |F_own| of the last reference
event (R112, R130). -/
structure Wheel where
  phase : BitVec 40 := 0
  prev : BitVec 40 := 0
  turns : Word := 0
  fapp : Int := 0
  fown : Int := 0
  start : Option Nat := none
  integral : Int := 0
  run : Nat := 0
  rejects : Nat := 0
  armed : Bool := false
  lossFactor : Nat := 0
  mult : Nat := 0
  own : Nat := 0
  loop : Option LoopResult := none
  deriving DecidableEq, Repr

/-- An encoder beyond its objects (R113 to R122): the accepted levels, the last count's time and direction, whether the
interval waits for a second count, and the counts since the last index pulse. -/
structure Encoder where
  a : Bool := false
  b : Bool := false
  lastCount : Option Nat := none
  lastFwd : Bool := true
  sinceIndex : Int := 0
  rest : Bool := true
  deriving DecidableEq, Repr

/-- An action of a fired mark, on its way to cycle t0 + 2 (R146). -/
structure MarkAct where
  due : Nat
  mark : Nat
  code : Nat
  target : Word
  arg : Word
  angle : Word
  back : Bool
  wheel : Nat
  deriving DecidableEq, Repr

/-- A mark beyond its four words: the every-Nth count, the cycle of its last firing, a catch-up that is due (R139, R140),
and the words that writes of a cycle have replaced, which act until that cycle ends (R141, R142). -/
structure Mark where
  index : Nat
  count : Nat := 0
  fired : Option Nat := none
  catchUp : Option (Nat × Bool) := none
  written : Nat := 0
  old : List (Nat × Word) := []
  deriving DecidableEq, Repr

/-- The Tide block beyond its objects: wheels, encoders, the marks that carry state, the SYNC pins and the mark unit's
pending actions and post FIFO. -/
structure Tide where
  wheels : List Wheel := List.replicate 8 {}
  encoders : List Encoder := List.replicate 4 {}
  marks : List Mark := []
  acts : List MarkAct := []
  fifo : List MarkAct := []
  synciLevel : Bool := false
  synciLast : Option Nat := none
  syncoRise : Option Nat := none
  syncoEnd : Option Nat := none
  turnCount : Nat := 0
  syncoSource : Nat := 0
  deriving DecidableEq, Repr

/-- A sense channel beyond its objects (R162 to R185): the bits since the filter clear, newest first and as many as the
longest filter holds; their count; the bits since the decimation origin; decoder sync; the run of equal bits; whether the
last evaluation was saturated or over range; the cycle of the newest bit, and of the newest one in the x that consumers see;
the cycle from which SCK rises count (R171); the last transition and the last accepted one; the offset and gain in force and
the cycle of a gain write that they wait for (R183); the error limit and the snapshot mode as the last evaluation took them
(R190); the evaluation in flight as (cycle of delivery, x, saturated, over range); and the precision part that follows it as
(cycle, y with its bit's cycle at a decimation bit, whether the precision-valid bit sets). -/
structure SenseChan where
  hist : List Bool := []
  bits : Nat := 0
  origin : Nat := 0
  sync : Bool := false
  run : Nat := 0
  sat : Bool := false
  overRange : Bool := false
  bitTime : Nat := 0
  seenTime : Nat := 0
  from' : Nat := 0
  edge : Option Nat := none
  taken : Nat := 0
  offset : Int := 0
  gain : Int := 65536
  commit : Option Nat := none
  errLimit : Nat := 4
  snapMode : Nat := 0
  flight : Option (Nat × Int × Bool × Bool) := none
  prec : Option (Nat × Option (Int × Nat) × Bool) := none
  deriving DecidableEq, Repr

/-- A phase beyond its objects (R198 to R237): when its state was entered, the minimum time and maximum hold taken at
that entry (R240), the half-width in force, the two commands at the output latch and the one whose dead time runs, the
gate-fault latch and whether the logic has yet to see it, GFp_N and since when it reads high, what the rail gives, the
park memory, the trip limits met, the disable that R256 counts, the run of the re-arm window, the last leading edge,
the Pilot's runs, the option that its last update took (R215), the cycles in which the latch and the record were set
(R219, R237), the guard that stood before a write of the present cycle (R240), and the measurement in progress (R301, R302). -/
structure Phase where
  entry : Nat := 0
  tmin : Nat := 0
  tmax : Nat := 0
  h : Int := 65536
  gh : Bool := false
  gl : Bool := false
  dead : Option (Nat × Bool) := none
  latch : Bool := false
  unseen : Bool := false
  gf : Bool := true
  gfSince : Nat := 0
  grant : Bool := false
  park : Bool := false
  parkMem : Bool := false
  tripHi : Bool := false
  tripLo : Bool := false
  off : Bool := false
  window : Bool := false
  ran : Nat := 0
  ranFrom : Option Nat := none
  lastEdge : Option Nat := none
  lockRun : Nat := 0
  clampRun : Nat := 0
  clampSaid : Bool := false
  crossed : Bool := false
  crossedAt : Option Nat := none
  clearI : Bool := false
  latchAt : Nat := 0
  faultAt : Option Nat := none
  guardWas : Option Bool := none
  sw : Option Nat := none
  xa : Option Int := none
  deriving DecidableEq, Repr

/-- A condition that must hold for a time in which it can be evaluated: the cycles held so far, and since when it is
counting (R283, R323). -/
structure Held where
  acc : Nat := 0
  since : Option Nat := none
  deriving DecidableEq, Repr

/-- A member of a rail beyond the objects (R313, R328): the episode time in fabric cycles and since when it counts, and
since when its phase has been blind with the time counting, with whether the verdict was given; and its latest measurement
(R343): measured and predicted change, window and class. -/
structure Member where
  epAcc : Nat := 0
  epFrom : Option Nat := none
  blindFrom : Option Nat := none
  blindDone : Bool := false
  dx : Int := 0
  dp : Int := 0
  wn : Nat := 0
  cls : Nat := 0
  deriving DecidableEq, Repr

/-- The voltage watch of one condition on one channel (R321): the run of results that met the test, and whether it has
qualified. -/
structure WatchRun where
  cause : Nat
  chan : Nat
  run : Nat := 0
  done : Bool := false
  deriving DecidableEq, Repr

/-- A rail beyond its objects: the pending set and whether it is new (R261), a commit written in the present cycle and the
set that it brings in this one, an apply command written in the present cycle and the cycle of the last apply (R261 to
R263), the delivered feed-forward values as
3 × binding + group (R271), per unit the next ramp tick with whether it ends the ramp, and the park request (R279,
R281), per unit the cycle from which it may change again (R285), the units seen available, the edges of R267, R284, R318 and R324, the starts of the dwell and of the rail
(R283, R323), the held times, the voltage watch with the lost channels (R321 to R323), the cycle in which the record
was written (R326), the action to take in the next cycle (R325), the verdicts to come into force as (cycle, member, code)
(R311, R330), and its members. -/
structure Rail where
  new : Bool := false
  pend : List Int := List.replicate 3 0
  pendGain : List Int := List.replicate 4 65536
  commit : Bool := false
  coming : Option (List Int × List Int) := none
  applyNext : Bool := false
  appliedAt : Option Nat := none
  ff : List Int := List.replicate 12 0
  ramps : List (Option (Nat × Bool)) := List.replicate 16 none
  parks : List Bool := List.replicate 16 false
  moved : List Nat := List.replicate 16 0
  avail : Nat := 0
  clamped : Bool := false
  limited : List Bool := List.replicate 3 false
  firing : Bool := false
  few : Bool := false
  dwell : Nat := 0
  started : Nat := 0
  shedHeld : Held := {}
  recallHeld : Held := {}
  watch : List WatchRun := []
  lost : List (Nat × Nat × Bool) := []
  reg : Held := {}
  regDone : Bool := false
  recAt : Option Nat := none
  act : Nat := 0
  verdicts : List (Nat × Nat × Nat) := []
  members : List Member := List.replicate 16 {}
  deriving DecidableEq, Repr

/-- A measurement that waits for its classification (R301 to R305, R311). -/
structure Measure where
  rail : Nat
  member : Nat
  d : Nat
  wn : Int
  xa : Int
  xb : Int
  vl : Int
  valid : Bool
  rising : Bool
  forced : Bool
  deriving DecidableEq, Repr

/-- What an engine waits in (R361, R377). -/
inductive Wait where
  | none
  | wfi
  | qwait (rd : Nat) (mask : Word) (timeout : Nat) (since : Nat)
  | qpop (rd : Nat) (q : Nat)
  deriving DecidableEq, Repr

/-- An engine's core state (R349, R355, R356, R365) and its queue-port pair (R390); `inhibit` is mcountinhibit, `readyAt` the
cycle from which the next instruction issues (R354), `waited` the target or queue place that an access waits for and the cycle
in which it arrived (R33, R387, R398). -/
structure Engine where
  pc : Word := 0x60000000
  x : List Word := List.replicate 32 0
  user : Bool := false
  mstatus : Word := 0
  mie : Word := 0
  mtvec : Word := 0
  mscratch : Word := 0
  mepc : Word := 0
  mcause : Word := 0
  mtval : Word := 0
  mcounteren : Word := 0
  menvcfg : Word := 0
  inhibit : Word := 0
  pmpcfg : List Byte := List.replicate 16 0
  pmpaddr : List Word := List.replicate 16 0
  mcycle : DWord := 0
  minstret : DWord := 0
  xtqhi : Word := 0
  xtqst : Word := 0
  xttask : Word := 0
  staged : Word := 0
  mtimecmp : DWord := 0xFFFFFFFFFFFFFFFF
  reservation : Option (Nat × Nat) := none
  wait : Wait := .none
  halted : Bool := false
  faultDue : Bool := false
  dpc : Word := 0
  dcsr : Word := 0x40000003
  tselect : Nat := 0
  tdata1 : List Word := List.replicate 4 0
  tdata2 : List Word := List.replicate 4 0
  readyAt : Nat := 0
  waited : Option (Nat × Nat) := none
  deriving DecidableEq, Repr

/-- The queue-port pair of a master that is no engine (R390). -/
structure PortPair where
  held : Word := 0
  staged : Word := 0
  reject : Bool := false
  empty : Bool := false
  deriving DecidableEq, Repr

/-- The debug module (R382): data registers, program buffer, system bus address and data, the selected hart, the error of
the last abstract command, and the harts that halt at their next reset. -/
structure DebugModule where
  data : List Word := List.replicate 2 0
  progbuf : List Word := List.replicate 2 0
  sbaddress : Word := 0
  sbdata : Word := 0
  hart : Nat := 0
  cmderr : Nat := 0
  resetHalt : List Nat := []
  deriving DecidableEq, Repr

/-- The memories' check bits and scrubbers (R370 to R375): the words that hold a single-bit or a double-bit error, and
for each TCM pair and SRAM bank the next word the scrubber reads. -/
structure Ecc where
  single : List Nat := []
  double : List Nat := []
  scrub : List Nat := List.replicate 48 0
  scrubLast : List Nat := List.replicate 48 0
  deriving DecidableEq, Repr

/-- A task beyond its objects (R401 to R403, R416): the pending record and when it became pending, the bits the next
record carries, the timer, the engine a load fills and when the load began, a disable that waits, and whether placement
has been tried. -/
structure TaskState where
  pending : Option DWord := none
  pendingAt : Nat := 0
  abandoned : Bool := false
  migrated : Bool := false
  damaged : Bool := false
  timer : Option Nat := none
  loadOn : Option Nat := none
  loadAt : Nat := 0
  stop : Bool := false
  tried : Bool := false
  deriving DecidableEq, Repr

/-- Why a migration was asked for, in the order of R426. -/
inductive MoveKind where
  | evacuation | consolidation | command
  deriving DecidableEq, Repr

/-- The migration in progress (R419): accepted at `since`; from the cut cycle with the words the copy carries. -/
structure Migration where
  task : Nat
  dst : Nat
  kind : MoveKind
  since : Nat
  cut : Option Nat := none
  code : List Word := []
  image : List Word := []
  damaged : Bool := false
  deriving DecidableEq, Repr

/-- The Foreman beyond its objects (R405, R416, R419, R425 to R427). `fit` holds the engines that were eligible, draining
aside, and `judged` what the last placements were decided on. -/
structure Foreman where
  tasks : List TaskState := List.replicate 64 {}
  running : List (Option (Nat × Nat)) := List.replicate 16 none
  freeAt : List Nat := List.replicate 16 0
  migration : Option Migration := none
  wanted : List (MoveKind × Nat × Option Nat) := []
  consolidation : Option (Nat × Nat) := none
  unitResets : List (Nat × Bool × Nat) := []
  domainChanges : List (Nat × Nat) := []
  fit : List Nat := []
  judged : List Nat := []
  deriving DecidableEq, Repr

/-- A CAN channel beyond its objects (R475 to R481, R493): its transmit buffer in the order of entry, the frames that
their producers hold back while it has no room, the queue entries popped of a raw frame that is not yet whole, and when
it last received a frame. -/
structure CanChannel where
  tx : List Frame := []
  held : List Frame := []
  raw : List DWord := []
  lastRx : Option Nat := none
  since : Nat := 0
  deriving DecidableEq, Repr

/-- A segmented transfer of the SDO server (R482): whether the host writes, the object, the bytes so far or still to
send, the toggle bit expected, the announced length, and the time of its last frame. -/
structure SdoTransfer where
  download : Bool
  index : Nat
  sub : Nat
  data : List Byte := []
  toggle : Bool := false
  size : Option Nat := none
  last : Nat
  deriving DecidableEq, Repr

/-- The LSS slave (R482): whether it is in configuration, the matching part of a selective switch, the bit timing that
waits for its activation, and the fastscan position. -/
structure Lss where
  configuring : Bool := false
  selected : Nat := 0
  timing : Option Nat := none
  scan : Nat := 0
  scanning : Bool := false
  deriving DecidableEq, Repr

/-- The state of a PDO (R486, R487): a received RPDO's data that waits for SYNC, or for a TPDO the SYNCs since it was
last sent, whether its event waits for SYNC, and when it was last sent. -/
structure Pdo where
  waiting : Option (List Byte) := none
  syncs : Nat := 0
  event : Bool := false
  sent : Nat := 0
  deriving DecidableEq, Repr

/-- The CAN object agent beyond the communication objects (R478, R482 to R493): the network mode in force, received
CANopen frames that wait for their service, taken frames that may still match a duplicate as (line, time, frame), the
EMCY queue and the time of the last EMCY sent, the starts of the heartbeat and SYNC periods, when each consumed heartbeat
was last heard and whether it has timed out, since when the agent's timers hold, the SDO transfer, the LSS slave, the
PDOs, the communication objects stored in the journal, those that the next write of record 2 stores, and the node-ID
stored with them. -/
structure CanAgent where
  mode : Nat := 0
  inbox : List Frame := []
  taken : List (Nat × Nat × Frame) := []
  emcy : List (List Byte) := []
  emcyAt : Option Nat := none
  beat : Nat := 0
  sync : Nat := 0
  heard : List (Option Nat) := List.replicate 4 none
  lost : List Bool := List.replicate 4 false
  holdFrom : Option Nat := none
  sdo : Option SdoTransfer := none
  lss : Lss := {}
  rpdo : List Pdo := List.replicate 16 {}
  tpdo : List Pdo := List.replicate 16 {}
  stored : List (Nat × Word) := []
  toStore : List (Nat × Word) := []
  node : Word := 0xFF
  deriving DecidableEq, Repr

/-- The bulk session beyond its objects (R494 to R497): received frames that wait for their step, whether its data
writes count as authorised, the next sequence to send or to take, the last sequence acknowledged, the frames taken since
the last acknowledgement, the bytes taken and their check so far, the time of the last acknowledgement, and the timeouts
in a row. -/
structure BulkSession where
  inbox : List Frame := []
  authorised : Bool := false
  next : Nat := 0
  acked : Nat := 0
  since : Nat := 0
  total : Nat := 0
  crc : Word := 0xFFFFFFFF
  last : Nat := 0
  timeouts : Nat := 0
  deriving DecidableEq, Repr

/-- The command authentication unit beyond its objects (R500 to R502): the bytes of the message buffer, the submitting
master, the slot and counter that are being stored, and until when it is locked out. -/
structure AuthUnit where
  message : List Byte := List.replicate 152 0
  master : Master := .can
  slot : Nat := 0
  counter : Word := 0
  lockedTo : Option Nat := none
  deriving DecidableEq, Repr

/-- What a two-wire port does in the transfer in progress (R520, R522). -/
inductive TwbPhase where
  | idle
  /-- serving the firmware address; `reading` when the port sends -/
  | firmware (reading : Bool)
  /-- its own transfer -/
  | controller
  deriving DecidableEq, Repr

/-- R522: what a controller transfer was started with: the target address, the write and read lengths, and whether it
carries PEC. -/
structure TwbJob where
  address : Nat := 0
  write : Nat := 0
  read : Nat := 0
  pec : Bool := false
  deriving DecidableEq, Repr

/-- A two-wire port beyond its objects (R512 to R530): what it does, the last write's result and object, whether its own
transfer waits for the bus and how often it has lost arbitration, whether it stretches SCL for an empty queue and whether
the answer of an object read is still to be sent, the time of a request's pulse that may still be answered, whether it
sleeps at the next STOP, since when it stretches and for how long it has stretched before in the transfer, until when the
last pulse holds SCL low, and its own transfer with its beginning. -/
structure TwbPort where
  phase : TwbPhase := .idle
  last : Option (Nat × Nat) := none
  start : Bool := false
  losses : Nat := 0
  waiting : Bool := false
  answering : Bool := false
  pulsed : Option Nat := none
  drowsy : Bool := false
  since : Nat := 0
  stretched : Nat := 0
  pulse : Nat := 0
  job : TwbJob := {}
  begun : Nat := 0
  deriving DecidableEq, Repr

/-- The settings that a scan takes as it starts (R547): router task and role, thresholds, input options. -/
structure ScanSettings where
  task : Nat := 255
  role : Nat := 0
  high : Int := 0
  low : Int := 0
  options : List Nat := []
  deriving DecidableEq, Repr

/-- A converter beyond its objects (R538 to R548): a trigger whose delay runs and the cycle of the last one, the scan in
progress with the inputs left, its settings and whether it is a check scan, the start of the present sampling, the scans
since the enable, the timer's next trigger, the stopping phase, and a result that the result register takes as the cycle
ends. Its times leave clock state 0h out. -/
structure Converter where
  trig : Option Nat := none
  lastTrig : Option Nat := none
  scanning : Bool := false
  todo : List Nat := []
  check : Bool := false
  conv : Nat := 0
  scans : Nat := 0
  timer : Nat := 0
  stop : Bool := false
  set : ScanSettings := {}
  coming : Option Nat := none
  deriving DecidableEq, Repr

/-- A tachometer beyond its objects (R554): the last accepted edge, and since when none is missed. Its
times leave clock state 0h out. -/
structure Tacho where
  last : Option Nat := none
  since : Nat := 0
  deriving DecidableEq, Repr

/-- A board regulator beyond its latch (R558 to R560), its times in real time: whether it is driven, the start of its soft
start, good and since when, the consecutive faults, its restart, and latched. -/
structure Regulator where
  on : Bool := false
  soft : Nat := 0
  good : Bool := false
  goodAt : Nat := 0
  faults : Nat := 0
  restart : Option Nat := none
  latched : Bool := false
  deriving DecidableEq, Repr

/-- A gate-supply driver beyond its enable (R564): whether it is driven, the start of its soft start, good, stopped. -/
structure GateSupply where
  on : Bool := false
  soft : Nat := 0
  good : Bool := false
  stopped : Bool := false
  deriving DecidableEq, Repr

/-- The supplies beyond their objects (R556): the supervisors' levels. -/
structure Supplies where
  regs : List Regulator := List.replicate 3 {}
  warn : Bool := false
  overVolt : Bool := false
  vddioLow : Bool := false
  vddaLow : Bool := false
  deriving DecidableEq, Repr

/-- A sequencer slot beyond its objects (R574 to R582): its output and since when it has that level, and the raw and
accepted good. -/
structure Slot where
  out : Bool := false
  outAt : Nat := 0
  raw : Bool := false
  good : Bool := false
  deriving DecidableEq, Repr

/-- The sequencer and the shared lines beyond their objects (R577 to R585): the slots, the end of the previous position,
a failure that makes the sequencer failed at the end of a down sequence, the wait for RDYLINE and whether it has passed,
the level read on RDYLINE, since when the device releases it, and since when it pulls
FLTLINE_N; whether a fast down sequence runs (R581), whether another device holds FLTLINE_N low, and whether that low level
has been judged or began while the device pulled (R584). -/
structure Sequencer where
  slots : List Slot := List.replicate 16 {}
  posFrom : Nat := 0
  failed : Bool := false
  readyWait : Option Nat := none
  ready : Bool := false
  rdyline : Bool := false
  released : Option Nat := none
  pulling : Option Nat := none
  fast : Bool := false
  others : Bool := false
  judged : Bool := false
  deriving DecidableEq, Repr

/-- The domain control beyond its objects (R567 to R570): the change in progress as (domain, target, the state it
left once it has begun). The changes that follow it wait in the Foreman's list. -/
structure DomainControl where
  change : Option (Nat × Nat × Option Nat) := none
  deriving DecidableEq, Repr

/-- A write to the charger's objects whose effect comes at the next millisecond step (R618): an enable, the search's mode or
maximum, the clear, the switch command, the storage command. -/
inductive ChargeWrite where
  | chargerOn
  | pathOn
  | search
  | clear
  | switch (v : Word)
  | storage (v : Word)
  deriving DecidableEq, Repr

/-- The charger, the power path, the source search and the battery switch beyond their objects (R595 to R617): the
stage's entry and the remembered stage; since when each held test has been met; the charge time in milliseconds; the
last current with its limit; a removal found
and a battery reported absent; an absorb ended by its taper, which the gauge takes as full; the edge of flag bit 2; the present and lost runs; the entry of the path's state, the
episode's start, its outage and its last length; the recent restarts; the bound rails seen running; the search's period
with whether the limit acted, and its hold; the match run; the storage request's time; whether the present episode took the
charger to idle; and, until the next millisecond step, what words written since the last one held before, and the writes
whose effect comes with it. -/
structure Charger where
  entered : Nat := 0
  remembered : Option Nat := none
  held : List (Nat × Nat) := []
  chargeMs : Nat := 0
  lastI : Option Int := none
  lastLim : Int := 0
  removal : Bool := false
  sawAbsent : Bool := false
  full : Bool := false
  short : Bool := false
  presentSince : Option Nat := none
  lostSince : Option Nat := none
  pathEntered : Nat := 0
  episode : Option Nat := none
  episodeMs : Nat := 0
  outage : Bool := false
  chargerOutage : Bool := false
  restarts : List Nat := []
  srcRan : Bool := false
  chgRan : Bool := false
  chgStarted : Bool := false
  periodStart : Nat := 0
  limited : Bool := false
  holdStart : Nat := 0
  storageAt : Option Nat := none
  idleEpisode : Bool := false
  old : List (Nat × Word) := []
  coming : List ChargeWrite := []
  deriving DecidableEq, Repr

/-- What D1 holds of the battery switch, the button and the Lighthouse (R74, R75, R616, R672): the BATSW latch, a pending
wake, whether PORST_N is asserted and since when a press can have begun, the D1 events with the real time at which they came,
and the entries that have fired while their source stayed asserted. -/
structure AlwaysOn where
  batsw : Bool := false
  wake : Bool := false
  porst : Bool := false
  pressFrom : Nat := 0
  events : List (Nat × Nat) := []
  fired : List Nat := []
  deriving DecidableEq, Repr

/-- The battery gauge beyond its objects (R628 to R647). The charges are exact counts of 1/88 473 600 of R631's unit
(2^−16 A × one fabric cycle), so that every increment, the efficiency, the half cycles of clock state 0h, 2 % and the
self-discharge included, is whole; the energies are in half units. Further: the previous covered precision time, the
start of an uncovered interval, the clamp, the window and second sums, the second's full windows, the last minute's seconds, the time of quiet windows in 2.5 ns, the
learning window as (s numerator, s denominator, Q_o, real time), the presence timers, the identity band in force, a swap that
is due, an FCC written since the last second step, the cycle and charge of the last integration, and the counting of
steps. The gap, the learning window and the last record's time are real times. -/
structure Gauge where
  qn : Int := 0
  qe : Int := 0
  rc : Int := 0
  err : Int := 0
  cin : Int := 0
  cout : Int := 0
  ein : Int := 0
  eout : Int := 0
  prev : Option Word := none
  gap : Option Nat := some 0
  clamped : Bool := false
  wCharge : Int := 0
  wVolt : Int := 0
  wCount : Nat := 0
  wOk : Bool := false
  prevWin : Option (Int × Int) := none
  secI : Int := 0
  secV : Int := 0
  secFull : Nat := 0
  secAll : Nat := 0
  wins : List (Int × Int) := []
  minute : List (Int × Nat) := []
  quiet : Nat := 0
  learn : Option (Int × Int × Int × Nat) := none
  therm : Option Nat := none
  ident : Option Nat := none
  band : Option (Nat × Nat) := none
  bandNow : Option Nat := none
  absent : Bool := false
  swap : Bool := false
  bandAtSwap : Option Nat := none
  fcc : Option DWord := none
  lastAdded : Option (Nat × Int) := none
  enabledTick : Nat := 0
  lastWindow : Option Nat := none
  lastSecond : Option Nat := none
  lastWrite : Nat := 0
  deriving DecidableEq, Repr

/-- The interrupt controller beyond its objects (R664 to R667): the claims as (source, target), when each group
began to gather, the levels at the end of each of the last three fabric cycles, newest first, with bit n for source n, and
the rising edges of the present cycle that a group has counted. -/
structure Interrupts where
  claims : List (Nat × Nat) := []
  gatherAt : List Nat := List.replicate 32 0
  levels : List (BitVec 256) := []
  edges : List Nat := []
  deriving DecidableEq, Repr

/-- What an edge of the Lighthouse clock calls for besides the count (R680). -/
inductive CanaryEdge where
  | service
  | warning
  | expiry
  deriving DecidableEq, Repr

/-- The Canary beyond its objects (R678 to R687): the accepted service that waits for its edge as (real time of completion, engine),
the last service taken, what the edge of the present cycle calls for, the Lighthouse clock's phase in units of
1/400 000 000 of its period, the periods left of a bite, the check-in counts, and the
latest check-ins as (cycle, task). -/
structure Canary where
  service : Option (Nat × Nat) := none
  lastTime : Word := 0
  lastEngine : Nat := 0
  edge : Option CanaryEdge := none
  phase : Nat := 0
  biting : Option Nat := none
  checkIns : List Nat := List.replicate 64 0
  recent : List (Nat × Nat) := []
  deriving DecidableEq, Repr

/-- The fault collector beyond its objects (R702 to R709): the log, oldest first; the post FIFO with each post's task; the sources whose
UC and FT bit an FT report set or found; the real times of the entry to Harbour, of the latest UC or FT report taken and of the start of the present
recovery window out of Harbour; the cycle in which reports were last taken; and what the next cycle brings: the actions of
the reports taken as (source, action), the entries to Harbour asked for as (cause, source), a release. -/
structure Collector where
  log : List DWord := []
  posts : List (Nat × DWord) := []
  ft : List Nat := []
  entered : Nat := 0
  lastBad : Nat := 0
  outside : Nat := 0
  taken : Option Nat := none
  acts : List (Nat × Nat) := []
  enter : List (Nat × Nat) := []
  release : Bool := false
  deriving DecidableEq, Repr

/-- What D0 and the RTC hold beyond their objects (R57, R717 to R733): the reset-cause record as class and trigger,
the holding latch as S and F, whether the timebase is chosen, the place among the 125 RC periods, the count steps since
the last trim and the trim steps left, whether the timebase stands still and its last edge, whether an alarm is due,
whether a fall of VBAK is armed, when the timebase is chosen, in real time as the last edge,
and whether D1 has no supply. -/
structure Rtc where
  cause : Nat := 1
  trigger : Nat := 1
  latch : Option (Nat × Nat) := none
  chosen : Bool := false
  period : Nat := 0
  steps : Nat := 0
  trim : Int := 0
  still : Bool := false
  lastEdge : Nat := 0
  alarm : Bool := false
  armed : Bool := true
  chooseAt : Nat := 200000000
  away : Bool := false
  deriving DecidableEq, Repr

/-- An OTP command in progress (R746, R747): its code, region and bit, its start, and whether it draws on the pump. -/
structure OtpCommand where
  code : Nat
  region : Nat
  bit : Nat
  start : Nat
  pump : Bool
  deriving DecidableEq, Repr

/-- The nonvolatile stores beyond their objects (R738 to R757): the programmed OTP bits as 1024 × region + bit, the
programmed fuse bits as 3 × fuse + bit (fuses 0 to 15 the write-locks, 16 to 31 the read-locks, 32 the debug fuse),
whether the fuses have been read, the programming command in progress and whether VAUX fell below its warning
threshold during it, the record being written with whether it is the repeat, whether the journal is stopping, the layouts
that wait for their judgement, and the last refresh hour. The journal's bytes stand in memory at its read window. -/
structure Nonvolatile where
  otp : List Nat := []
  fuses : List Nat := []
  fuseRead : Bool := false
  command : Option OtpCommand := none
  vauxFell : Bool := false
  writing : Option (Nat × Bool) := none
  stopping : Bool := false
  judging : List Nat := []
  hour : Nat := 0
  deriving DecidableEq, Repr

/-- An Assayer channel beyond its objects (R766 to R772): the captured alive counter, the check so far, the bytes taken,
the next address and the bytes left of a scan, the feed's owner, and when the last bytes were taken. -/
structure AssayerChannel where
  alive : Nat := 0
  crc : Word := 0xFFFFFFFF
  count : Nat := 0
  addr : Nat := 0
  left : Nat := 0
  owner : Option Master := none
  lastAt : Nat := 0
  deriving DecidableEq, Repr

/-- An indicator beyond its objects (R786 to R790): the internal wear, the ring of (seconds, wear), newest first, the
real time of the last write of the input, and the last extreme of T with the direction of travel. -/
structure Indicator where
  wear : Nat := 0
  ring : List (Nat × Nat) := []
  written : Nat := 0
  extreme : Option Int := none
  turn : Option Int := none
  rising : Bool := true
  deriving DecidableEq, Repr

/-- The life ledger (R786 to R792): the time of the last step, the steps taken, the indicators; and, of the performance
counters, the blocks whose snapshot the next cycle takes (R781). -/
structure Life where
  last : Option Nat := none
  steps : Nat := 0
  indicators : List Indicator := List.replicate 16 {}
  snapshot : Nat := 0
  deriving DecidableEq, Repr

/-- What start-up holds of a bank it has verified (R801 to R803). -/
structure BankInfo where
  sequence : Word := 0
  load : Nat := 0
  length : Nat := 0
  entry : Nat := 0
  copied : Nat := 0
  deriving DecidableEq, Repr

/-- Start-up beyond its objects (R456, R796, R797, R803, R809): which defaults have been loaded, the next bank to verify,
the banks verified, the banks still valid and whether one is chosen, the cycles spent in clock state 0h, the reset that a
request asked for as (cycle, trigger), the widening steps left, whether the level steps run again, whether the CAN
channels and two-wire ports are released from the hold of R60, and the address of the header copy. -/
structure Startup where
  otpLoaded : Bool := false
  journalLoaded : Bool := false
  bank : Nat := 0
  banks : List BankInfo := List.replicate 2 {}
  valid : List Nat := []
  chosen : Bool := false
  slow : Nat := 0
  due : Option (Nat × Nat) := none
  steps : List Nat := []
  again : Bool := false
  released : Bool := false
  header : Word := 0
  deriving DecidableEq, Repr

/-- The firmware object table beyond its objects (R459): the commit that is being validated, and its cycle. -/
structure FwTable where
  validating : Option (Nat × Nat) := none
  since : Nat := 0
  deriving DecidableEq, Repr

/-- The block: the queue of waiting commands, fabric time, the object words, the memories, and one field per block for
what no object shows; `posted` lists the pool entries that came from the post network (R388). `free` numbers the free values drawn, and `real` is
the time that passes outside the fabric clock, in units of 2.5 ns; both are the model's own. -/
structure State where
  pending : List Instr := []
  now : DWord := 0
  od : List (Nat × Word) := []
  mem : List Host.Cell := []
  free : Nat := 0
  resp : Option Resp := none
  masters : List MasterState := List.replicate 20 {}
  raised : List Report := []
  postNet : List Post := []
  postTurn : Nat := 0
  clk : ClockGen := {}
  tide : Tide := {}
  engines : List Engine := List.replicate 16 {}
  pool : List (Nat × DWord) := []
  posted : List Nat := []
  ports : List PortPair := List.replicate 2 {}
  dbg : DebugModule := {}
  ecc : Ecc := {}
  startup : Startup := {}
  fm : Foreman := {}
  irq : Interrupts := {}
  sense : List SenseChan := List.replicate 64 {}
  phases : List Phase := List.replicate 48 {}
  rails : List Rail := List.replicate 12 {}
  measures : List Measure := []
  chg : Charger := {}
  aon : AlwaysOn := {}
  gauge : Gauge := {}
  nv : Nonvolatile := {}
  hka : List Converter := List.replicate 4 {}
  tacho : List Tacho := List.replicate 8 {}
  sup : Supplies := {}
  gds : List GateSupply := List.replicate 2 {}
  seq : Sequencer := {}
  dom : DomainControl := {}
  can : List CanChannel := List.replicate 2 {}
  agent : CanAgent := {}
  bulk : BulkSession := {}
  auth : AuthUnit := {}
  twb : List TwbPort := List.replicate 2 {}
  canary : Canary := {}
  col : Collector := {}
  rtc : Rtc := {}
  assayer : List AssayerChannel := List.replicate 4 {}
  life : Life := {}
  fwt : FwTable := {}
  cyc : CycleEvents := {}
  real : Nat := 0
  sckFrom : List Nat := List.replicate 8 0
  deriving DecidableEq, Repr

/-- The block right after reset: every field and every object at its reset value, nothing waiting. -/
def State.reset : State := {}

end Sys2Proof.Machine
end

