-- ==== Sys2Proof/Machine/Ops.lean ====
section
/-! DEFINITION. The named operations over the state that every family shares: object words, counters and flags, time,
domains, memory bytes, fault reports and free values. -/
namespace Sys2Proof.Machine

/-! ### Object words -/

/-- The key of object word i:j in the store. -/
def objKey (i j : Nat) : Nat := i * 256 + j

/-- What an unlisted object word reads as: its default (R17). -/
def odDefault (k : Nat) : Word := objDefault (k / 256) (k % 256)

/-- Object word i:j. -/
def State.obj (s : State) (i j : Nat) : Word := Sparse.get odDefault s.od (objKey i j)

/-- `s` with object word i:j holding `v`. -/
def State.put (s : State) (i j : Nat) (v : Word) : State := { s with od := Sparse.put odDefault s.od (objKey i j) v }

/-- Object word i:j as a count. -/
def State.nat (s : State) (i j : Nat) : Nat := (s.obj i j).toNat

/-- Object word i:j as a signed value. -/
def State.int (s : State) (i j : Nat) : Int := (s.obj i j).toInt

/-- Bit b of object word i:j. -/
def State.flag (s : State) (i j b : Nat) : Bool := (s.obj i j).getLsbD b

/-- Object word i:j set to a count. -/
def State.putN (s : State) (i j n : Nat) : State := s.put i j (BitVec.ofNat 32 n)

/-- Object word i:j set to a signed value. -/
def State.putI (s : State) (i j : Nat) (n : Int) : State := s.put i j (word32 n)

/-- The bits of word k that events of the present cycle have set (R13). -/
def State.cycleBits (s : State) (k : Nat) : Word := Sparse.get (fun _ => 0) s.cyc.bits k

/-- R13: the bits of word k that events of the present cycle have set, as `f` leaves them. -/
def State.noteBits (s : State) (k : Nat) (f : Word → Word) : State :=
  { s with cyc := { s.cyc with bits := Sparse.put (fun _ => 0) s.cyc.bits k (f (s.cycleBits k)) } }

/-- What events of the present cycle have added to counter k (R13, R47). -/
def State.cycleCount (s : State) (k : Nat) : Option CycleCount := s.cyc.counts.find? (fun c => c.key == k)

/-- R13, R47: an event of the present cycle takes counter k, which stands at `v`, through `f`. -/
def State.noteCount (s : State) (k : Nat) (v : DWord) (f : DWord → DWord) : State :=
  let c := (s.cycleCount k).getD { key := k, before := v, alone := 0 }
  { s with cyc := { s.cyc with
      counts := { c with alone := f c.alone } :: s.cyc.counts.filter (fun c => c.key != k) } }

/-- Object word i:j with the bits of `mask` set, as an event of the present cycle (R13). -/
def State.setBits (s : State) (i j mask : Nat) : State :=
  (s.put i j (s.obj i j ||| BitVec.ofNat 32 mask)).noteBits (objKey i j) (fun m => m ||| BitVec.ofNat 32 mask)

/-- Object word i:j with the bits of `mask` cleared. -/
def State.clrBits (s : State) (i j mask : Nat) : State :=
  (s.put i j (s.obj i j &&& ~~~ BitVec.ofNat 32 mask)).noteBits (objKey i j) (fun m => m &&& ~~~ BitVec.ofNat 32 mask)

/-- Object word i:j with bit b as given. -/
def State.putBit (s : State) (i j b : Nat) (v : Bool) : State :=
  if v then s.setBits i j (2 ^ b) else s.clrBits i j (2 ^ b)

/-- R45, R47: the counter i:j of `w` bits adds `n` and holds at its largest value. -/
def State.add (s : State) (i j w n : Nat) : State :=
  (s.noteCount (objKey i j) ((s.obj i j).setWidth 64) (fun c => BitVec.ofNat 64 (satN w (c.toNat + n)))).putN i j
    (satN w (s.nat i j + n))

/-- R45: the counter i:j of `w` bits adds one. -/
def State.bump (s : State) (i j w : Nat) : State := s.add i j w 1

/-- A counter that goes down to 0 takes `n` off. -/
def State.sub (s : State) (i j n : Nat) : State := s.putN i j (s.nat i j - n)

/-- A high-water word keeps the larger value. -/
def State.highWater (s : State) (i j n : Nat) : State := if s.nat i j < n then s.putN i j n else s

/-- R11: the 64-bit value in words i:j (low) and i:j + 1. -/
def State.pair (s : State) (i j : Nat) : DWord := dw (s.obj i j) (s.obj i (j + 1))

/-- R11: the 64-bit value in words i:j and i:j + 1, written. -/
def State.putPair (s : State) (i j : Nat) (v : DWord) : State := (s.put i j (lo32 v)).put i (j + 1) (hi32 v)

/-- R10, R19, R21: a word set to a written value as its type and layout hold it. -/
def State.store (s : State) (i j : Nat) (v : Word) : State :=
  match objRow i j with
  | some r => s.put i j (r.rng.keep (r.ty.extend v))
  | none => s

/-- R47: a counter i:j that is written `v` holds it and what events of the present cycle have added. -/
def State.storeCount (s : State) (i j : Nat) (v : Word) : State :=
  match s.cycleCount (objKey i j), objRow i j with
  | some c, some r =>
    let s1 := s.store i j v
    s1.putN i j (satN (8 * r.ty.size) (s1.nat i j + c.alone.toNat))
  | _, _ => s.store i j v

/-- R13, R48: a read clears the RC word i:j, but for what events of the present cycle have added: the value it returns
and the state. -/
def State.takeCount (s : State) (i j : Nat) (shown : Word) : Word × State :=
  match s.cycleCount (objKey i j) with
  | some c =>
    let rest := s.cyc.counts.filter (fun c => c.key != objKey i j)
    (c.before.setWidth 32,
      { s with cyc := { s.cyc with counts := { c with before := 0 } :: rest } }.put i j (c.alone.setWidth 32))
  | none => (shown, s.put i j 0)

/-- R618: the value in force of a word of the charger's objects, which a write changes at the next millisecond step. -/
def State.cobj (s : State) (i j : Nat) : Word := (Sparse.find s.chg.old (objKey i j)).getD (s.obj i j)

/-- The value in force as a count. -/
def State.cnat (s : State) (i j : Nat) : Nat := (s.cobj i j).toNat

/-- The value in force as a signed value. -/
def State.cint (s : State) (i j : Nat) : Int := (s.cobj i j).toInt

/-- Bit b of the value in force. -/
def State.cflag (s : State) (i j b : Nat) : Bool := (s.cobj i j).getLsbD b

/-- R618: `t`, in which word i:j has been written, keeps what `s` held in force until the next millisecond step. -/
def State.keepOld (t s : State) (i j : Nat) : State :=
  { t with chg := { t.chg with old := if (Sparse.find t.chg.old (objKey i j)).isSome then t.chg.old
      else (objKey i j, s.obj i j) :: t.chg.old } }

/-- A write whose effect comes at the next millisecond step (R618). -/
def State.later (s : State) (c : ChargeWrite) : State := { s with chg := { s.chg with coming := s.chg.coming ++ [c] } }

/-- A write of 0 that acts at once takes the place of what was still to come (R620). -/
def State.recall (s : State) (c : ChargeWrite) (i j : Nat) : State :=
  { s with chg := { s.chg with
      coming := s.chg.coming.filter (fun x => x != c), old := s.chg.old.filter (fun p => p.1 != objKey i j) } }

/-! ### Time -/

/-- Whether the millisecond tick of the present cycle has been taken (R93): what changes at a millisecond step may follow. -/
def State.ticked (s : State) : Bool := s.clk.lastTick == some s.now.toNat

/-- Fabric time as a count of cycles (R92). -/
def State.t (s : State) : Nat := s.now.toNat

/-- Fabric time without the cycles of clock state 0h, in which the CAN and converter clocks stop (R478, R548). -/
def State.ct (s : State) : Nat := s.t - s.startup.slow

/-- Fabric cycles in a time of n µs, at 5 ns a cycle (R8). -/
def cyclesUs (n : Nat) : Nat := 200 * n

/-- Fabric cycles in a time of n ms. -/
def cyclesMs (n : Nat) : Nat := 200000 * n

/-- Fabric cycles in a time of n ns, rounded up. -/
def cyclesNs (n : Nat) : Nat := ceilDiv n 5

/-- Real time in n µs. -/
def realUs (n : Nat) : Nat := 400 * n

/-- Real time in n ms. -/
def realMs (n : Nat) : Nat := 400000 * n

/-- Whether the time `since` + `len` has come. -/
def State.passed (s : State) (since len : Nat) : Bool := decide (since + len ≤ s.t)

/-- The clock generator's state, 21B0h:01h (R82). -/
def clockState (s : State) : Nat := s.nat 0x21B0 1

/-- R82: the real time of a fabric cycle: 62.5 ns in clock state 0h, 5 ns in the others. -/
def cycleReal (s : State) : Nat := if clockState s = 0 then 25 else 2

/-! ### Domains and levels -/

/-- The actual state field of domain d in 2D01h:02h (R567): 0 OFF, 1 RETAIN, 2 ON, 3 changing. -/
def State.domainState (s : State) (d : Nat) : Nat := fieldN (s.nat 0x2D01 2) (2 * d) 2

/-- R25, R55, R68: whether D1 to D7 are held in reset: PORST_N is asserted, or D1 has no supply. -/
def State.held (s : State) : Bool := s.aon.porst || s.rtc.away

/-- Whether domain d is ON (R26) and out of reset. -/
def State.on (s : State) (d : Nat) : Bool := s.domainState d == 2 && (d == 0 || !s.held)

/-- Whether engine e is admitted (R464). -/
def State.engineAdmitted (s : State) (e : Nat) : Bool := s.flag 0x2001 7 e

/-- Whether phase p is admitted (R464). -/
def State.phaseAdmitted (s : State) (p : Nat) : Bool :=
  if p < 32 then s.flag 0x2001 8 p else s.flag 0x2001 9 (p - 32)

/-- The domain of engine e: D3 for cluster A, D4 for cluster B (R25). -/
def clusterDomain (e : Nat) : Nat := if e < 8 then 3 else 4

/-! ### Masters -/

/-- The place of a master's state among the twenty that hold one (R450). -/
def masterSlot : Master → Nat
  | .engine e _ => e.val
  | .foreman => 16
  | .can => 17
  | .twb => 18
  | .debug => 19

/-- What the object logic holds for a master. -/
def State.master (s : State) (m : Master) : MasterState := s.masters.getD (masterSlot m) {}

/-- The state with a master's part changed. -/
def State.modMaster (s : State) (m : Master) (f : MasterState → MasterState) : State :=
  { s with masters := modAt s.masters (masterSlot m) f }

/-! ### Reports, free values -/

/-- R693, R694: a block raises a report; the collector has not taken it yet. -/
def State.report (s : State) (src : Nat) (cls : FClass) (detail : Nat := 0) : State :=
  { s with raised := s.raised ++ [{ time := s.t, src := src, cls := cls, detail := detail % 65536 }] }

/-- Reports of one source and class for several members (R694, R695). -/
def State.reportAll (s : State) (src : Nat) (cls : FClass) (details : List Nat) : State :=
  details.foldl (fun s d => s.report src cls d) s

/-- A word the spec leaves open: the next of the free values. -/
def State.freshWord (s : State) : Word × State := (Config.freeWord s.free, { s with free := s.free + 1 })

/-- A byte the spec leaves open. -/
def State.freshByte (s : State) : Byte × State := (Config.freeByte s.free, { s with free := s.free + 1 })

/-- R671, R672: a D1 event has come. -/
def State.d1Event (s : State) (c : Nat) : State := { s with aon := { s.aon with events := s.aon.events ++ [(c, s.real)] } }

/-- R616: a time of n s in Lighthouse clock periods. -/
def pressSeconds (n : Nat) : Nat := 32768 * n

/-- R81, R719: the Lighthouse clock in Hz: the crystal's while it is the source and runs, else the RC's. -/
def lighthouseRate (s : State) : Nat :=
  if s.rtc.chosen = true ∧ s.nat 0x3300 0x10 = 0 ∧ s.rtc.still = false then 32768 else 32000

/-- R75, R616: whether a press of so many Lighthouse clock periods is one that the button logic sees: PORST_N is not
asserted, and the press began no earlier than its release. -/
def pressSeen (s : State) (periods : Nat) : Bool :=
  !s.aon.porst && decide (periods * 400000000 ≤ (s.real - s.aon.pressFrom) * lighthouseRate s)

/-! ### Memory: bytes at the addresses of the engine map (R368) -/

/-- What a byte that nothing has written reads as: the boot ROM holds its image, the external flash its erased value,
and every other memory zero (R375). -/
def memDefault (a : Nat) : Byte :=
  if 0x60000000 ≤ a ∧ a < 0x60010000 then Config.romByte (a - 0x60000000)
  else if 0x70000000 ≤ a ∧ a < 0x78000000 then 0xFF
  else 0

/-- One byte of memory. -/
def State.memByte (s : State) (a : Nat) : Byte := Sparse.get memDefault s.mem a

/-- One byte of memory written. -/
def State.putByte (s : State) (a : Nat) (b : Byte) : State := { s with mem := Sparse.put memDefault s.mem a b }

/-- The word at address a, little-endian (R6). -/
def State.memWord (s : State) (a : Nat) : Word :=
  bytesWord (s.memByte a) (s.memByte (a + 1)) (s.memByte (a + 2)) (s.memByte (a + 3))

/-- The word at address a written, little-endian (R6). -/
def State.putWord (s : State) (a : Nat) (v : Word) : State :=
  (((s.putByte a (byteOf v 0)).putByte (a + 1) (byteOf v 1)).putByte (a + 2) (byteOf v 2)).putByte (a + 3) (byteOf v 3)

/-- `n` bytes from address a. -/
def State.memBytes (s : State) (a n : Nat) : List Byte := (List.range n).map (fun k => s.memByte (a + k))

/-- R72: the byte at address a as a bus reads it: with VDDIO low the flash devices' data lines read 0. -/
def State.seenByte (s : State) (a : Nat) : Byte :=
  if s.sup.vddioLow = true ∧ 0x70000000 ≤ a ∧ a < 0x78000000 then 0 else s.memByte a

/-- R72: the word at address a as a bus reads it. -/
def State.seenWord (s : State) (a : Nat) : Word :=
  bytesWord (s.seenByte a) (s.seenByte (a + 1)) (s.seenByte (a + 2)) (s.seenByte (a + 3))

/-- Bytes written from address a upward. -/
def State.putBytes (s : State) (a : Nat) : List Byte → State
  | [] => s
  | b :: t => (s.putByte a b).putBytes (a + 1) t

/-- The canonical form of memory. -/
def Memory.wf (m : List Host.Cell) : Bool := Sparse.wf memDefault m

/-- The canonical form of the object store. -/
def Objects.wf (l : List (Nat × Word)) : Bool := Sparse.wf odDefault l

/-- Memory without the cells of a region. -/
def State.clearMem (s : State) (lo size : Nat) : State :=
  { s with mem := s.mem.filter (fun c => decide (c.1 < lo) || decide (lo + size ≤ c.1)) }

/-! ### Outcomes -/

/-- Every command of this block answers a next state. -/
abbrev Out := Host.Outcome State Fault Refusal

/-- A command acts when its condition holds; an event that does not come about changes nothing. -/
@[inline] def when (c : Bool) (s t : State) : Out := .next (if c then t else s)

/-- R721: the oscillator-stopped flag is set, counted and reported. -/
def oscillatorStops (s : State) : State := ((s.setBits 0x3300 0x12 1).bump 0x3300 0x14 16).report 79 .uc

end Sys2Proof.Machine
end

