-- ==== Sys2Proof/Machine/EngineOps.lean ====
section
/-! DEFINITION. Shared operations on an engine: its registers, the address map (R368), the PMP (R365), the state code of
R377, taking a trap, the exception score of R378 and unit reset (R379). -/
namespace Sys2Proof.Machine

/-- Engine e. -/
def State.eng (s : State) (e : Nat) : Engine := s.engines.getD e {}

/-- The state with engine e changed. -/
def State.modEng (s : State) (e : Nat) (f : Engine → Engine) : State := { s with engines := modAt s.engines e f }

/-- Register n of an engine; x0 reads as zero. -/
def Engine.reg (g : Engine) (n : Nat) : Word := if n = 0 then 0 else g.x.getD n 0

/-- Register n of an engine written; a write of x0 is discarded. -/
def Engine.setReg (g : Engine) (n : Nat) (v : Word) : Engine :=
  if n = 0 then g else { g with x := modAt g.x n (fun _ => v) }

/-- An instruction counts as retired, unless mcountinhibit bit 2 is set (R355); no access of it waits any more. -/
def Engine.count (g : Engine) : Engine :=
  { g with waited := none, minstret := if g.inhibit.getLsbD 2 then g.minstret else g.minstret + 1 }

/-- An instruction of `n` bytes has completed: the pc moves on and it counts as retired (R355). -/
def Engine.retireBy (g : Engine) (n : Word) : Engine := { g.count with pc := g.pc + n }

/-- An instruction of four bytes has completed. -/
def Engine.retire (g : Engine) : Engine := g.retireBy 4

/-- The run control of engine e reads 1h (R397). It resets to 1h for E0 and E1. -/
def State.runControl (s : State) (e : Nat) : Bool := s.obj (0x2700 + e) 1 == 1

/-- R377, R397: the state code of engine e. -/
def engineCode (s : State) (e : Nat) : Nat :=
  if s.on (clusterDomain e) = false then 4
  else if s.engineAdmitted e = false then 5
  else if s.runControl e = false then 0
  else if (s.eng e).halted then 3
  else if (s.eng e).wait ≠ .none then 2
  else 1

/-- Whether engine e executes instructions. -/
def engineRuns (s : State) (e : Nat) : Bool := engineCode s e == 1 && s.on 2

/-! ### PMP -/

/-- The kinds of access the PMP tells apart. -/
inductive PmpKind where
  | load | store | fetch
  deriving DecidableEq, Repr

/-- The number of consecutive ones from bit 0 of a PMP address. -/
def trailingOnes : Nat → Nat → Nat
  | 0, _ => 0
  | n + 1, v => if v % 2 = 1 then 1 + trailingOnes n (v / 2) else 0

/-- R365: the byte range [lo, hi) of PMP entry n, if it is not OFF. -/
def pmpRange (g : Engine) (n : Nat) : Option (Nat × Nat) :=
  let cfg := (g.pmpcfg.getD n 0).toNat
  let a := (g.pmpaddr.getD n 0).toNat
  match fieldN cfg 3 2 with
  | 0 => none
  | 1 => some ((if n = 0 then 0 else (g.pmpaddr.getD (n - 1) 0).toNat * 4), a * 4)
  | 2 => some (a * 4, a * 4 + 4)
  | _ =>
    let k := trailingOnes 32 a
    let base := a / 2 ^ (k + 1) * 2 ^ (k + 1) * 4
    some (base, base + 8 * 2 ^ k)

/-- Whether PMP entry n covers some byte of the `k` from `a`. -/
def pmpTouches (g : Engine) (n a k : Nat) : Bool :=
  match pmpRange g n with
  | some (lo, hi) => decide (lo < a + k) && decide (a < hi)
  | none => false

/-- R365: whether the PMP lets an access of `k` bytes of a kind at `a` pass; `user` is the effective privilege. -/
def pmpPasses (g : Engine) (user : Bool) (kind : PmpKind) (a k : Nat) : Bool :=
  match (List.range 16).find? (fun n => pmpTouches g n a k) with
  | none => !user
  | some n =>
    let cfg := (g.pmpcfg.getD n 0).toNat
    let whole := match pmpRange g n with
      | some (lo, hi) => decide (lo ≤ a) && decide (a + k ≤ hi)
      | none => false
    let perm := match kind with
      | .load => bitN cfg 0
      | .store => bitN cfg 1
      | .fetch => bitN cfg 2
    whole && ((!user && !bitN cfg 7) || perm)

/-- R365: whether the PMP lets a four-byte access pass. -/
def pmpAllows (g : Engine) (user : Bool) (kind : PmpKind) (a : Nat) : Bool := pmpPasses g user kind a 4

/-- R366: the privilege of a load or store: user mode, or machine mode with MPRV set and MPP user. -/
def Engine.accessUser (g : Engine) : Bool := g.user || (g.mstatus.getLsbD 17 && fieldN g.mstatus.toNat 11 2 == 0)

/-! ### Traps -/

/-- R378: the exception count and score after one more synchronous exception; the change of the score to its limit
makes an engine fault due. -/
def scoreException (s : State) (e : Nat) : State :=
  let before := s.nat (0x2700 + e) 5
  let s := (s.bump (0x2700 + e) 6 32).bump (0x2700 + e) 5 8
  let limit := s.nat (0x2700 + e) 4
  if before < limit ∧ limit ≤ s.nat (0x2700 + e) 5 then s.modEng e (fun g => { g with faultDue := true }) else s

/-- The trap entry of the privileged architecture that R355 names: mepc, mcause and mtval saved, MIE moved to MPIE,
the mode to MPP, machine mode entered at the vector; R353: a trap clears the reservation. -/
def Engine.trap (g : Engine) (interrupt : Bool) (cause : Nat) (tval : Word) : Engine :=
  let ms := g.mstatus.toNat
  let ms := setFieldN ms 7 1 (fieldN ms 3 1)
  let ms := setFieldN ms 3 1 0
  let ms := setFieldN ms 11 2 (if g.user then 0 else 3)
  let base := g.mtvec &&& 0xFFFFFFFC
  let vectored := interrupt && g.mtvec.getLsbD 0
  { g with
    mepc := g.pc, mcause := BitVec.ofNat 32 (cause + (if interrupt then 2147483648 else 0)), mtval := tval,
    mstatus := BitVec.ofNat 32 ms, user := false, reservation := none, wait := .none,
    waited := none, pc := if vectored then base + BitVec.ofNat 32 (4 * cause) else base }

/-- A synchronous exception of engine e (R351, R378): the trap and the score. -/
def raiseException (s : State) (e cause : Nat) (tval : Word) : State :=
  scoreException (s.modEng e (fun g => g.trap false cause tval)) e

/-- Exception causes of the privileged architecture. -/
def causeIllegal : Nat := 2
/-- Load address misaligned. -/
def causeLoadMisaligned : Nat := 4
/-- Load access fault. -/
def causeLoadFault : Nat := 5
/-- Store/AMO address misaligned. -/
def causeStoreMisaligned : Nat := 6
/-- Store/AMO access fault. -/
def causeStoreFault : Nat := 7

/-- R353: a write by any master to a reserved word clears the reservation. -/
def clearReservations (s : State) (a : Nat) : State :=
  { s with engines := s.engines.map (fun g =>
      match g.reservation with
      | some (r, _) => if r = a / 4 * 4 then { g with reservation := none } else g
      | none => g) }

/-! ### Memories (R368, R370 to R372) -/

/-- The regions of R368 that hold memory. -/
inductive Region where
  | itcm (e : Nat) | dtcm (e : Nat) | sram | journal | rom | flash0 | flash1
  deriving DecidableEq, Repr

/-- The region and the global address of an address that engine e puts out; TCMs by their global alias (R368). -/
def regionOf (e a : Nat) : Option (Region × Nat) :=
  if a < 0x8000 then some (.itcm e, 0x30000000 + e * 0x20000 + a)
  else if 0x10000 ≤ a ∧ a < 0x18000 then some (.dtcm e, 0x30000000 + e * 0x20000 + a)
  else if 0x10000000 ≤ a ∧ a < 0x10100000 then some (.sram, a)
  else if 0x20000000 ≤ a ∧ a < 0x20040000 then some (.journal, a)
  else if 0x30000000 ≤ a ∧ a < 0x30200000 then
    let g := (a - 0x30000000) / 0x20000
    let o := (a - 0x30000000) % 0x20000
    if o < 0x8000 then some (.itcm g, a)
    else if 0x10000 ≤ o ∧ o < 0x18000 then some (.dtcm g, a)
    else none
  else if 0x60000000 ≤ a ∧ a < 0x60010000 then some (.rom, a)
  else if 0x70000000 ≤ a ∧ a < 0x74000000 then some (.flash0, a)
  else if 0x74000000 ≤ a ∧ a < 0x78000000 then some (.flash1, a)
  else none

/-- R367: the memory from which engine e fetches at an address. -/
def fetchRegion (e a : Nat) : Option (Region × Nat) :=
  match regionOf e a with
  | some (.itcm o, w) => if a < 0x8000 then some (.itcm o, w) else none
  | some (.dtcm o, w) => if a < 0x18000 then some (.dtcm o, w) else none
  | some (.journal, _) => none
  | o => o

/-- Whether [a, a + n) lies inside system SRAM. -/
def inSram (a n : Nat) : Bool := decide (0x10000000 ≤ a) && decide (a + n ≤ 0x10100000)

/-- R371: a read corrected a single-bit error at word `a` of a region: the word is written back, counted (the boot ROM
has no such count), flagged and reported. -/
def eccCorrected (s : State) (r : Region) (a : Nat) : State :=
  let s := { s with ecc := { s.ecc with single := s.ecc.single.filter (· != a) } }
  match r with
  | .itcm e => (((s.bump (0x2700 + e) 7 16).putN (0x2700 + e) 0x0B a).setBits (0x2700 + e) 0x0D 1).report (40 + e) .ce
  | .dtcm e => (((s.bump (0x2700 + e) 9 16).putN (0x2700 + e) 0x0B a).setBits (0x2700 + e) 0x0D 1).report (40 + e) .ce
  | .sram => (((s.bump 0x2710 1 16).putN 0x2710 4 a).setBits 0x2710 6 1).report 56 .ce
  | .journal => ((s.bump 0x3440 9 16).setBits 0x3440 8 1).report 80 .ce
  | .rom => ((s.putN 0x2710 4 a).setBits 0x2710 6 4).report 56 .ce
  | _ => s

/-- R372: a read found a double-bit error at word `a`: counted, flagged and reported, FT for the boot ROM. -/
def eccUncorrectable (s : State) (r : Region) (a : Nat) : State :=
  match r with
  | .itcm e => (((s.bump (0x2700 + e) 8 16).putN (0x2700 + e) 0x0B a).setBits (0x2700 + e) 0x0D 2).report (40 + e) .uc
  | .dtcm e => (((s.bump (0x2700 + e) 0x0A 16).putN (0x2700 + e) 0x0B a).setBits (0x2700 + e) 0x0D 2).report (40 + e) .uc
  | .sram => (((s.bump 0x2710 2 16).putN 0x2710 4 a).setBits 0x2710 6 2).report 56 .uc
  | .journal => ((s.bump 0x3440 0x0A 16).setBits 0x3440 8 2).report 80 .uc
  | .rom => (((s.bump 0x2710 3 16).putN 0x2710 4 a).setBits 0x2710 6 4).report 56 .ft
  | _ => s

/-- R371, R372: a read of the word at global address `a`: the state after the check bits are judged, and whether data
came back. -/
def eccRead (s : State) (r : Region) (a : Nat) : State × Bool :=
  let w := a / 4 * 4
  if s.ecc.double.contains w then (eccUncorrectable s r w, false)
  else if s.ecc.single.contains w then (eccCorrected s r w, true)
  else (s, true)

/-- A write of a whole word leaves valid check bits (R370). -/
def eccWritten (s : State) (a : Nat) : State :=
  { s with ecc := { s.ecc with single := s.ecc.single.filter (· != a), double := s.ecc.double.filter (· != a) } }

/-- A word of memory written by any master: the bytes, the check bits and the reservations (R353, R370). -/
def memStore (s : State) (a : Nat) (v : Word) : State := clearReservations (eccWritten (s.putWord a v) a) a

/-! ### Unit reset -/

/-- R379, R382: the core state from which engine e runs after a reset: at its boot address in machine mode, halted where
halt-on-reset is asked for. -/
def bootState (s : State) (e : Nat) : Engine :=
  let pc := s.obj (0x2700 + e) 3
  if s.dbg.resetHalt.contains e then { pc := pc, halted := true, dpc := pc, dcsr := 0x40000143 } else { pc := pc }

/-- R379: the core state after a unit reset; the cycle and retired counts, the CSRs and the PMP are reset. Each engine
keeps its staged and held queue words with the rest of its core state. -/
def resetCore (s : State) (e : Nat) : State :=
  (s.modEng e (fun _ => bootState s e)).modMaster (.engine (BitVec.toFin (BitVec.ofNat 4 e)) false)
    (fun m => { m with buffer := [] })

end Sys2Proof.Machine
end

