-- ==== Sys2Proof/Machine/Bus.lean ====
section
/-! DEFINITION. Reads and writes of memory by an interconnect master other than an engine (R29, R32, R368 to R372). -/
namespace Sys2Proof.Machine

/-- R368: the memory region at an address that is no engine's local one, and its global address. -/
def busRegion (a : Nat) : Option (Region × Nat) := if a < 0x10000000 then none else regionOf 16 a

/-- R29: whether the region's domain is ON. -/
def regionOn (s : State) : Region → Bool
  | .itcm e => s.on (clusterDomain e)
  | .dtcm e => s.on (clusterDomain e)
  | .flash0 => s.on 7
  | .flash1 => s.on 7
  | _ => s.on 2

/-- A word read from memory, none where the access is refused. -/
def busRead (s : State) (a : Nat) : State × Option Word :=
  match busRegion a with
  | some (r, w) =>
    if regionOn s r then
      let (s1, ok) := eccRead s r w
      (s1, if ok then some (s.seenWord (w / 4 * 4)) else none)
    else (s, none)
  | none => (s, none)

/-- Whether a region takes writes (R32). -/
def Region.writable : Region → Bool
  | .itcm _ => true
  | .dtcm _ => true
  | .sram => true
  | _ => false

/-- A word written to memory, false where the access is refused. -/
def busWrite (s : State) (a : Nat) (v : Word) : State × Bool :=
  match busRegion a with
  | some (r, w) => if regionOn s r && r.writable then (memStore s (w / 4 * 4) v, true) else (s, false)
  | none => (s, false)

end Sys2Proof.Machine
end

