-- ==== Sys2Proof/Machine/Crc.lean ====
section
/-! DEFINITION. The Assayer check (R765) and the SMBus packet error check (R514). -/
namespace Sys2Proof.Machine

/-- `n` steps of the reflected shift of R765. -/
def crcShift : Nat → Word → Word
  | 0, c => c
  | n + 1, c => crcShift n (if c.getLsbD 0 then (c >>> 1) ^^^ 0x82F63B78 else c >>> 1)

/-- One byte taken into the check. -/
def crcByte (c : Word) (b : Byte) : Word := crcShift 8 (c ^^^ b.setWidth 32)

/-- Bytes taken into the check, in order. -/
def crcBytes (c : Word) (l : List Byte) : Word := l.foldl crcByte c

/-- The value a check starts from. -/
def crcStart : Word := 0xFFFFFFFF

/-- The end of a check: the alive counter, low byte first, and the final inversion. -/
def crcEnd (c : Word) (alive : Nat) : Word :=
  crcBytes c [BitVec.ofNat 8 alive, BitVec.ofNat 8 (alive / 256)] ^^^ 0xFFFFFFFF

/-- The Assayer check of a byte sequence with an alive counter. -/
def assayerCheck (l : List Byte) (alive : Nat) : Word := crcEnd (crcBytes crcStart l) alive

/-- `n` steps of the CRC-8 of R514. -/
def pecShift : Nat → Byte → Byte
  | 0, c => c
  | n + 1, c => pecShift n (if c.getLsbD 7 then (c <<< 1) ^^^ 7 else c <<< 1)

/-- The packet error check of a frame's bytes, its address bytes included. -/
def pec (l : List Byte) : Byte := l.foldl (fun c b => pecShift 8 (c ^^^ b)) 0

end Sys2Proof.Machine
end

