-- ==== Sys2Proof/Machine/ForemanOps.lean ====
section
/-! DEFINITION. Shared operations of the Foreman (R401 to R435): activation requests, eligibility and spares, the
placement choice, activations that end or are abandoned, and the migrations. -/
namespace Sys2Proof.Machine

/-- The object index of task t (R438). -/
def taskIdx (t : Nat) : Nat := 0x2800 + t

/-- Task t beyond its objects. -/
def State.task (s : State) (t : Nat) : TaskState := s.fm.tasks.getD t {}

/-- The Foreman's part changed. -/
def State.modFm (s : State) (f : Foreman → Foreman) : State := { s with fm := f s.fm }

/-- Task t changed. -/
def State.modTask (s : State) (t : Nat) (f : TaskState → TaskState) : State :=
  s.modFm (fun m => { m with tasks := modAt m.tasks t f })

/-- The placement state of task t (R438): 0 disabled, 1 unplaced, 2 loading, 3 placed, 4 in transit, 5 stopping. -/
def placement (s : State) (t : Nat) : Nat := s.nat (taskIdx t) 2

/-- R404: whether a request for task t is taken. -/
def taskTakes (s : State) (t : Nat) : Bool := placement s t == 3 || placement s t == 4

/-- The host of task t, if it has one (FFh reads none). -/
def taskHost (s : State) (t : Nat) : Option Nat := if s.nat (taskIdx t) 3 < 16 then some (s.nat (taskIdx t) 3) else none

/-- R418: the queue that role k of task t is bound to. -/
def roleQueue (s : State) (t k : Nat) : Option Nat :=
  if s.nat (taskIdx t) (0x13 + k) < 32 then some (s.nat (taskIdx t) (0x13 + k)) else none

/-! ### Requests -/

/-- R402: an activation record without its carried bits. -/
def activationRecord (t source : Nat) (data : Word) (mark wheel : Nat) (back : Bool) : DWord :=
  dw (BitVec.ofNat 32 (source * 2 ^ 30 + t * 2 ^ 16 + (if back then 2 ^ 15 else 0) + wheel * 2 ^ 12 + mark)) data

/-- R401, R403, R404: a request from a source: discarded when its mask bit is 0 or the task takes none (counted in
25h, or in 21A0h:06h for a mark), merged into a pending one, or pending from now. -/
def requestActivation (s : State) (t source : Nat) (rec : DWord) : State :=
  if s.flag (taskIdx t) 0x17 source = false then s
  else if taskTakes s t = false then
    if source = 0 then s.bump 0x21A0 6 16 else s.bump (taskIdx t) 0x25 16
  else
    match (s.task t).pending with
    | some _ => (s.modTask t (fun x => { x with pending := some rec })).bump (taskIdx t) 0x1E 16
    | none => s.modTask t (fun x => { x with pending := some rec, pendingAt := s.t })

/-! ### Engines as hosts -/

/-- The activation in progress on engine e: its task and dispatch cycle. -/
def activation (s : State) (e : Nat) : Option (Nat × Nat) := s.fm.running.getD e none

/-- Whether engine e is faulty (R412). -/
def engineFaulty (s : State) (e : Nat) : Bool := s.flag 0x2780 5 e

/-- Whether engine e is draining: its cluster is consolidated (R427). -/
def engineDraining (s : State) (e : Nat) : Bool :=
  match s.fm.consolidation with
  | some (c, _) => e / 8 == c
  | none => false

/-- R413 without the draining condition. -/
def engineFit (s : State) (e : Nat) : Bool :=
  s.engineAdmitted e && s.on (clusterDomain e) && s.runControl e && (engineCode s e == 1 || engineCode s e == 2) &&
    !engineFaulty s e

/-- R413: whether engine e is eligible. -/
def engineEligible (s : State) (e : Nat) : Bool := engineFit s e && !engineDraining s e

/-- R409: the load of task t in 1/1024 of an engine. -/
def taskLoad (s : State) (t : Nat) : Nat := ceilDiv (s.nat (taskIdx t) 9 * 1024) (s.nat (taskIdx t) 0x0A)

/-- Whether task t is placed or reserved on engine e (R409, R419): hosted, being loaded, or a migration's target. -/
def taskOn (s : State) (t e : Nat) : Bool :=
  taskHost s t == some e || (s.task t).loadOn == some e ||
    (match s.fm.migration with
     | some m => m.task == t && m.dst == e
     | none => false)

/-- The tasks placed or reserved on engine e, ascending. -/
def tasksOn (s : State) (e : Nat) : List Nat := (List.range 64).filter (fun t => taskOn s t e)

/-- R409: the load of engine e. -/
def engineLoad (s : State) (e : Nat) : Nat := ((tasksOn s e).map (taskLoad s)).sum

/-- Whether two byte regions share a byte; a region of size 0 shares none. -/
def regionsMeet (a la b lb : Nat) : Bool :=
  decide (0 < la) && decide (0 < lb) && decide (a < b + lb) && decide (b < a + la)

/-- R415: whether the code or state regions of two tasks overlap on one engine. -/
def tasksOverlap (s : State) (t u : Nat) : Bool :=
  regionsMeet (s.nat (taskIdx t) 0x0D) (4 * s.nat (taskIdx t) 0x0E) (s.nat (taskIdx u) 0x0D) (4 * s.nat (taskIdx u) 0x0E) ||
  regionsMeet (s.nat (taskIdx t) 0x10) (4 * s.nat (taskIdx t) 0x11) (s.nat (taskIdx u) 0x10) (4 * s.nat (taskIdx u) 0x11)

/-- R415: whether the load limit admits task t on engine e. -/
def loadAdmits (s : State) (t e : Nat) : Bool :=
  decide ((((tasksOn s e).filter (· != t)).map (taskLoad s)).sum + taskLoad s t ≤ s.nat 0x2780 4)

/-- R415: whether no region of another task on engine e overlaps task t's. -/
def regionsFree (s : State) (t e : Nat) : Bool := ((tasksOn s e).filter (· != t)).all (fun u => !tasksOverlap s t u)

/-- R415: the checks that an engine passes for a task, spares aside. -/
def engineTakes (s : State) (t e : Nat) : Bool :=
  engineEligible s e && s.flag (taskIdx t) 4 e && loadAdmits s t e && regionsFree s t e

/-- Whether engine e is in the spare set, 2780h:03h. -/
def isSpare (s : State) (e : Nat) : Bool := s.flag 0x2780 3 e

/-- Of a list of engines, the one of lowest load and, among equal loads, lowest number. -/
def leastLoaded (s : State) (l : List Nat) : Option Nat :=
  l.foldl (fun best e =>
    match best with
    | none => some e
    | some b => if engineLoad s e < engineLoad s b then some e else some b) none

/-- R415: the engine chosen for task t, other than `skip`. -/
def chooseEngine (s : State) (t : Nat) (skip : Option Nat) : Option Nat :=
  leastLoaded s ((List.range 16).filter (fun e => engineTakes s t e && !isSpare s e && skip != some e))

/-- R415: the refusal code when no engine qualifies. -/
def placementRefusal (s : State) (t : Nat) : Nat :=
  let l := (List.range 16).filter (fun e => engineEligible s e && !isSpare s e && s.flag (taskIdx t) 4 e)
  if l = [] then 1
  else if l.all (fun e => !loadAdmits s t e) then 2
  else 3

/-! ### Spares -/

/-- R414: the spares in force. -/
def spareCount (s : State) : Nat :=
  min (s.nat 0x2780 1) (((List.range 16).filter (engineEligible s)).length - 1)

/-- R414: the spare set: the highest-numbered eligible engines with no task, at most the spares in force. -/
def spareSet (s : State) : List Nat :=
  (((List.range 16).filter (fun e => engineEligible s e && (tasksOn s e).isEmpty)).reverse).take (spareCount s)

/-- R414: the set recomputed; a change from a full set to a short one is a shortfall. -/
def updateSpares (s : State) : State :=
  let wasFull := popCount 16 (s.nat 0x2780 3) == s.nat 0x2780 2
  let n := spareCount s
  let l := spareSet s
  let s1 := (s.putN 0x2780 2 n).putN 0x2780 3 (maskOf l)
  if wasFull && decide (l.length < n) then ((s1.bump 0x2780 0x0D 16).setBits 0x2780 0x0E 4).report 58 .ce else s1

/-- R436: the warden task and its host as they read. -/
def updateWarden (s : State) : State :=
  let w := s.nat 0x2780 0x0F
  s.put 0x2780 0x10 (if w < 64 then s.obj (taskIdx w) 3 else 0xFF)

/-! ### Copies -/

/-- R417: the fewest cycles a copy of W words takes. -/
def copyTime (w : Nat) : Nat := if w = 0 then 0 else 8 + 2 * w

/-- R417: the most cycles a copy of W words takes. -/
def copyLimit (w : Nat) : Nat := if w = 0 then 0 else 8 + 3 * w

/-- The global alias address of local address a of engine e (R368). -/
def aliasAddr (e a : Nat) : Nat := 0x30000000 + e * 0x20000 + a

/-- The `n` words from address a. -/
def wordsFrom (a n : Nat) : List Nat := (List.range n).map (fun k => a + 4 * k)

/-- The `n` words that memory holds from address a. -/
def State.memWords (s : State) (a n : Nat) : List Word := (wordsFrom a n).map s.memWord

/-- Words that the Foreman writes from address a upward; a write that is refused is dropped (R29). -/
def storeWords (s : State) (a : Nat) : List Word → State
  | [] => s
  | v :: t => storeWords (busWrite s a v).1 (a + 4) t

/-- R371, R372, R424: the words that the Foreman reads at the addresses, none once one of them cannot be read. -/
def readCopy (s : State) : List Nat → State × Option (List Word)
  | [] => (s, some [])
  | a :: t =>
    match busRead s a with
    | (s1, some v) =>
      let (s2, l) := readCopy s1 t
      (s2, l.map (fun l => v :: l))
    | (s1, none) => (s1, none)

/-- R371, R372, R416: the words that the Foreman reads from a source. Where one cannot be read the spec states no word;
it is free. -/
def readSource (s : State) : List Nat → State × List Word
  | [] => (s, [])
  | a :: t =>
    let (s1, v) := busRead s a
    let (v, s2) := match v with
      | some v => (v, s1)
      | none => s1.freshWord
    let (s3, l) := readSource s2 t
    (s3, v :: l)

/-- The words of the code source (R416). -/
def codeCopy (s : State) (t : Nat) : State × List Word :=
  readSource s (wordsFrom (s.nat (taskIdx t) 0x0C) (s.nat (taskIdx t) 0x0E))

/-- The words that fill a state region: from the state source, or zeros when it is 0 (R416). -/
def stateFill (s : State) (t : Nat) : State × List Word :=
  if s.nat (taskIdx t) 0x12 = 0 then (s, List.replicate (s.nat (taskIdx t) 0x11) 0)
  else readSource s (wordsFrom (s.nat (taskIdx t) 0x12) (s.nat (taskIdx t) 0x11))

/-- R419, R424: the words of task t's state region on engine a, and whether they had to be taken from the state source
because one of them could not be read. -/
def stateCopy (s : State) (t a : Nat) : State × List Word × Bool :=
  match readCopy s (wordsFrom (aliasAddr a (s.nat (taskIdx t) 0x10)) (s.nat (taskIdx t) 0x11)) with
  | (s1, some l) => (s1, l, false)
  | (s1, none) =>
    let (s2, l) := stateFill s1 t
    (s2, l, true)

/-- Words of code written into the I-TCM of engine e at task t's code address. -/
def storeCode (s : State) (t e : Nat) (l : List Word) : State := storeWords s (aliasAddr e (s.nat (taskIdx t) 0x0D)) l

/-- Words of state written into the D-TCM of engine e at task t's state address. -/
def storeState (s : State) (t e : Nat) (l : List Word) : State := storeWords s (aliasAddr e (s.nat (taskIdx t) 0x10)) l

/-- R416: the two copies of a load of task t into engine e. Both act in the cycle in which the load begins. -/
def loadTask (s : State) (t e : Nat) : State :=
  let (s1, code) := codeCopy s t
  let (s2, fill) := stateFill (storeCode s1 t e code) t
  storeState s2 t e fill

/-! ### Placement -/

/-- R415, R416: an unplaced task chooses its engine and loads, or is refused. -/
def placeTask (s : State) (t : Nat) : State :=
  match chooseEngine s t none with
  | some e =>
    loadTask ((s.putN (taskIdx t) 2 2).modTask t (fun x => { x with loadOn := some e, loadAt := s.t, tried := false })) t e
  | none =>
    ((s.putN (taskIdx t) 0x1B (placementRefusal s t)).setBits (taskIdx t) 0x26 8).modTask t (fun x => { x with tried := true })

/-- R416: the unplaced tasks that have not been tried, or every one of them after a change, are placed. -/
def placeWaiting (changed : Bool) (s : State) : State :=
  (List.range 64).foldl (fun s t => if placement s t = 1 ∧ (changed || !(s.task t).tried) = true then placeTask s t else s) s

/-! ### The end of activations -/

/-- Engine e holds no activation: xttask and XTAIP read 0, the engine is free from cycle `at` (R407, R411). -/
def freeEngine (s : State) (e at' : Nat) : State :=
  (s.modEng e (fun g => { g with xttask := 0 })).modFm (fun m =>
    { m with running := modAt m.running e (fun _ => none), freeAt := modAt m.freeAt e (fun _ => at') })

/-- R432: a stopping task with no activation becomes disabled: host FFh, nothing pending. -/
def disableTask (s : State) (t : Nat) : State :=
  let s1 := ((s.putN (taskIdx t) 2 0).putN (taskIdx t) 3 0xFF).modTask t (fun _ => {})
  updateWarden (if s.flag (taskIdx t) 1 0 then (s1.putN (taskIdx t) 2 1).putN (taskIdx t) 0x18 (taskLoad s t) else s1)

/-- R432: what the end of an activation, a load, a swap or an abort does to a task that is to stop. -/
def finishStop (s : State) (t : Nat) : State :=
  if placement s t = 5 ∧ s.flag (taskIdx t) 6 0 = false then disableTask s t else s

/-- R408: an activation of task t has ended after `run` cycles: the last and the longest run, and the budget. -/
def recordRun (s : State) (t run : Nat) : State :=
  let i := taskIdx t
  let s1 := ((s.putN i 0x22 (satN 32 run)).highWater i 0x23 (satN 32 run)).putN i 6 0
  if s.nat i 9 < run then ((s1.bump i 0x1F 16).setBits i 0x26 4).report 58 .ce else s1

/-- R408, R411: the activation of task t on engine e, dispatched at `since`, is abandoned, and ends. -/
def abandon (s : State) (t e since : Nat) : State :=
  let s1 := (recordRun s t (s.t - since)).bump (taskIdx t) 0x20 16
  finishStop ((freeEngine (s1.setBits (taskIdx t) 0x26 16) e s.t).modTask t (fun x => { x with abandoned := true })) t

/-- R411: a unit reset or hold reaches engine e. -/
def abandonOn (s : State) (e : Nat) : State :=
  match activation s e with
  | some (t, since) => abandon s t e since
  | none => s

/-! ### Migration, evacuation, consolidation -/

/-- R419, R436: the migrations pending: the one in progress and those that wait for it. -/
def countMigrations (s : State) : State :=
  s.putN 0x2780 0x0C ((match s.fm.migration with | some _ => 1 | none => 0) + s.fm.wanted.length)

/-- R419 phases 1 and 2: a migration of task t to engine b is accepted: b is reserved and the preload copies the code
into b. It acts in this cycle; the cut waits for its time. -/
def acceptMigration (s : State) (t b : Nat) (kind : MoveKind) : State :=
  let (s1, code) := codeCopy s t
  let s2 := ((storeCode s1 t b code).putN (taskIdx t) 0x27 b).modFm (fun m =>
    { m with migration := some { task := t, dst := b, kind := kind, since := s.t, code := code } })
  countMigrations (if kind = .evacuation then s2.setBits 0x2780 0x0E 2 else s2)

/-- R425: a task that cannot be moved off its engine is stranded. -/
def strand (s : State) : State := (s.setBits 0x2780 0x0E 1).report 58 .uc

/-- R425: the target of an evacuation: the lowest-numbered spare that can take the task, else the choice of R415. -/
def evacuationTarget (s : State) (t : Nat) : Option Nat :=
  match (List.range 16).find? (fun e => isSpare s e) with
  | some e => if engineTakes s t e && taskHost s t != some e then some e else chooseEngine s t (taskHost s t)
  | none => chooseEngine s t (taskHost s t)

/-- R428: a consolidation is refused: the cluster's domain stays ON, its requested field returns to 2h, and later
changes of the same write are abandoned. -/
def refuseConsolidation (s : State) (c : Nat) : State :=
  let d := 3 + c
  let s1 := ((s.bump 0x2780 0x0A 16).setBits 0x2780 0x0E 8).report 58 .ce
  let s2 := (s1.putN 0x2D01 1 (setFieldN (s1.nat 0x2D01 1) (2 * d) 2 2)).putN 0x2D01 3 4
  let s3 := (s2.putN 0x2780 8 0).modFm (fun m => { m with
    consolidation := none, domainChanges := [], wanted := m.wanted.filter (fun q => q.1 != .consolidation) })
  { s3 with dom := {} }

/-- The rank of a kind in the order of R426. -/
def MoveKind.rank : MoveKind → Nat
  | .evacuation => 0
  | .consolidation => 1
  | .command => 2

/-- R426: the first wanted migration: evacuations, then consolidation, then commands, each in the order requested. -/
def nextWanted (l : List (MoveKind × Nat × Option Nat)) : Option (MoveKind × Nat × Option Nat) :=
  match l.find? (fun q => q.1 == .evacuation) with
  | some q => some q
  | none =>
    match l.find? (fun q => q.1 == .consolidation) with
    | some q => some q
    | none => l.head?

/-- One wanted migration is taken: accepted, stranded, refused or dropped. -/
def startOne (s : State) : State :=
  match s.fm.migration with
  | some _ => s
  | none =>
    match nextWanted s.fm.wanted with
    | none => s
    | some q =>
      let s1 := s.modFm (fun m => { m with wanted := m.wanted.erase q })
      let (kind, t, dst) := q
      if placement s t ≠ 3 then s1
      else
        match kind with
        | .evacuation => match evacuationTarget s1 t with
          | some b => acceptMigration s1 t b kind
          | none => strand s1
        | .consolidation => match chooseEngine s1 t (taskHost s1 t) with
          | some b => acceptMigration s1 t b kind
          | none => refuseConsolidation s1 (match taskHost s1 t with | some e => e / 8 | none => 0)
        | .command => match dst with
          | some b => if engineTakes s1 t b && taskHost s1 t != some b then acceptMigration s1 t b kind else s1
          | none => s1

/-- R426: wanted migrations are taken while none is in progress; at most `n` are judged. -/
def startMigrations : Nat → State → State
  | 0, s => s
  | n + 1, s => if s.fm.migration.isSome ∨ s.fm.wanted = [] then s else startMigrations n (startOne s)

/-- R425: task t, placed on an engine that is evacuated, asks for a migration where it is movable, and is stranded where
it is not. -/
def evacuateTask (s : State) (t : Nat) : State :=
  if s.flag (taskIdx t) 7 0 then
    s.modFm (fun m => { m with wanted := m.wanted.filter (fun q => q.2.1 != t) ++ [(.evacuation, t, none)] })
  else strand s

/-- R425: engine e is evacuated, its tasks in ascending order. -/
def evacuate (s : State) (e : Nat) : State :=
  if s.flag 0x2780 7 0 = false then s
  else
    (List.range 64).foldl (fun s t =>
      if taskHost s t = some e ∧ placement s t = 3 ∧ (s.fm.migration.map (·.task)) ≠ some t then evacuateTask s t
      else s) s

/-- Whether a task's own engine is no longer fit for it (R421). -/
def hostUnfit (s : State) (t : Nat) : Bool :=
  match taskHost s t with
  | some e => !engineFit s e
  | none => false

/-- R421: a migration whose target is no longer eligible is aborted; a move command is dropped, and the task is
evacuated when its own engine is no longer fit. -/
def abortMigration (s : State) : State :=
  match s.fm.migration with
  | none => s
  | some m =>
    if engineEligible s m.dst then s
    else
      let s1 := (s.putN (taskIdx m.task) 0x27 0xFF).modFm (fun f => { f with migration := none })
      let s2 := if placement s1 m.task = 4 then s1.putN (taskIdx m.task) 2 3 else s1
      let again : MoveKind := if m.kind = .command then .evacuation else m.kind
      let s3 := if decide (m.kind ≠ .command) || (hostUnfit s2 m.task && s2.flag 0x2780 7 0) then
          s2.modFm (fun f => { f with wanted := (again, m.task, none) :: f.wanted })
        else s2
      let s4 := if (s3.task m.task).stop then
          finishStop ((s3.putN (taskIdx m.task) 2 5).modTask m.task (fun x => { x with stop := false })) m.task
        else s3
      countMigrations s4

/-- R421, R426, R436: an abort, the migrations that may begin, and the words that show them. -/
def foremanAct (s : State) : State := countMigrations (updateWarden (startMigrations 64 (abortMigration s)))

/-- R412: engine e is marked faulty and evacuated (R425). -/
def markFaulty (s : State) (e : Nat) : State :=
  foremanAct (evacuate ((s.setBits 0x2780 5 (2 ^ e)).modFm (fun m => { m with fit := m.fit.filter (· != e) })) e)

/-- R425: engine e has ceased to be eligible for a reason other than draining. -/
def engineLost (s : State) (e : Nat) : State :=
  foremanAct (evacuate (s.modFm (fun m => { m with fit := m.fit.filter (· != e) })) e)

/-- R413, R425: the engines that were eligible, draining aside, and no longer are, are lost. -/
def lostEngines (s : State) : State :=
  let s1 := (s.fm.fit.filter (fun e => !engineFit s e)).foldl engineLost s
  s1.modFm (fun m => { m with fit := (List.range 16).filter (engineFit s1) })

/-- R416: what decides a placement: the eligible engines, the spares, the load limit, and where each task is placed or
reserved. -/
def placementView (s : State) : List Nat :=
  [maskOf ((List.range 16).filter (engineEligible s)), s.nat 0x2780 2, s.nat 0x2780 3, s.nat 0x2780 4] ++
    (List.range 64).flatMap (fun t =>
      [s.nat (taskIdx t) 3, s.nat (taskIdx t) 0x27, (match (s.task t).loadOn with | some e => e | none => 0xFF)])

/-- R379: a unit reset of engine e is requested; `collector` marks it faulty as well (R412). -/
def requestUnitReset (s : State) (e : Nat) (collector : Bool) : State :=
  s.modFm (fun m => { m with unitResets := m.unitResets ++ [(e, collector, s.t)] })

end Sys2Proof.Machine
end

