-- ==== Sys2Proof/Machine/TideCalc.lean ====
section
/-! DEFINITION. What a Tide wheel's objects derive from its state: the angle, the encoder-derived angle and frequency
(R95, R121 to R123). -/
namespace Sys2Proof.Machine

/-- Wheel u. -/
def State.wheel (s : State) (u : Nat) : Wheel := s.tide.wheels.getD u {}

/-- The state with wheel u changed. -/
def State.modWheel (s : State) (u : Nat) (f : Wheel → Wheel) : State :=
  { s with tide := { s.tide with wheels := modAt s.tide.wheels u f } }

/-- Encoder k. -/
def State.enc (s : State) (k : Nat) : Encoder := s.tide.encoders.getD k {}

/-- The state with encoder k changed. -/
def State.modEnc (s : State) (k : Nat) (f : Encoder → Encoder) : State :=
  { s with tide := { s.tide with encoders := modAt s.tide.encoders k f } }

/-- The object index of wheel u (R130). -/
def wheelIdx (u : Nat) : Nat := 0x2100 + u * 16

/-- The object index of encoder k (R125). -/
def encIdx (k : Nat) : Nat := 0x21C0 + k

/-- R95: a wheel's angle is the upper 32 bits of its phase. -/
def Wheel.angle (w : Wheel) : Word := (w.phase >>> 8).setWidth 32

/-- R95: the angle before the present cycle's advance. -/
def Wheel.prevAngle (w : Wheel) : Word := (w.prev >>> 8).setWidth 32

/-- The phase of an angle with fraction 0. -/
def phaseOf (a : Word) : BitVec 40 := (a.setWidth 40) <<< 8

/-- R122: the interpolation fraction of encoder k as (signed numerator, denominator). -/
def interpolation (s : State) (k : Nat) : Int × Int :=
  let iv := (s.int (encIdx k) 0x0E).natAbs
  match (s.enc k).lastCount with
  | none => (0, 1)
  | some c =>
    if s.flag (encIdx k) 9 0 = false ∨ iv = 0 then (0, 1)
    else
      let el := s.t - c
      let dir : Int := if (s.enc k).lastFwd then 1 else -1
      if el * 65536 ≤ 65535 * iv then (dir * el, iv) else (dir * 65535, 65536)

/-- R121: the angle that a wheel with pole pairs `pp` and reference angle `aref` takes from encoder k. -/
def encoderAngle (s : State) (k pp : Nat) (aref : Word) : Word :=
  let cpr : Int := s.nat (encIdx k) 2
  let pos : Int := s.nat (encIdx k) 0x0C
  let ι := interpolation s k
  aref + word32 (floorDiv ((fmod (pos * pp) cpr * ι.2 + pp * ι.1) * 4294967296) (cpr * ι.2))

/-- The largest magnitude of F_app (R98). -/
def fappMax : Int := 5497558138

/-- R98: a value of F_app held within its largest magnitude. -/
def boundF (f : Int) : Int := clampI f (-fappMax) fappMax

/-- R98, R123: F_app in lock state follow. -/
def encoderF (s : State) (k pp : Nat) : Int :=
  let iv := s.int (encIdx k) 0x0E
  if iv = 0 then 0 else boundF (signI iv * tdiv (pp * 1099511627776) (s.nat (encIdx k) 2 * absI iv))

/-- The encoder that wheel u names. -/
def wheelEnc (s : State) (u : Nat) : Nat := s.nat (wheelIdx u) 0x18

/-- The pole pairs of wheel u. -/
def wheelPP (s : State) (u : Nat) : Nat := s.nat (wheelIdx u) 0x19

/-- The lock state of wheel u (R111). -/
def wheelLock (s : State) (u : Nat) : Nat := s.nat (wheelIdx u) 0x0B

/-- The mode of wheel u (R100). -/
def wheelMode (s : State) (u : Nat) : Nat := s.nat (wheelIdx u) 1

/-- F_app of wheel u as it stands: R123 in lock state follow, the held value otherwise. -/
def wheelF (s : State) (u : Nat) : Int :=
  if wheelLock s u = 5 then encoderF s (wheelEnc s u) (wheelPP s u) else (s.wheel u).fapp

end Sys2Proof.Machine
end

