-- ==== Sys2Proof/Machine/Operands.lean ====
section
/-! DEFINITION. The access path to the hardware objects (R12 to R18, R29 to R38, R440 to R454): the checks in the order
of R444, the record and the counts of 2010h, the snapshot buffers and the staging of pairs. A family gives the effect
that one object's write or read has beyond its access code. -/
namespace Sys2Proof.Machine

/-- The effect of a write that has passed the checks: its result and the state. The value is extended to the type. -/
abbrev WEff := Wr → Bool → State → Res × State

/-- The write has its effect. -/
def acc (s : State) : Res × State := (.accepted, s)

/-- The write is discarded with a result; `s` is the state with what the rule still records. -/
def rej (r : Res) (s : State) : Res × State := (r, s)

/-- Whether the result is one that R445 turns into an access fault. -/
def Res.faults : Res → Bool
  | .noObject => true
  | .domain => true
  | .privilege => true
  | .length => true
  | .hardware => true
  | _ => false

/-- R440: the window address of object i:j. -/
def windowAddr (i j : Nat) : Nat := 0x40000000 + i * 0x400 + j * 4

/-- Whether a master can make an access at all: an engine executes at the privilege that MPRV and
MPP give its accesses (R366), an agent's domain is ON, the debug fuse is not
blown (R38); no master reaches an object while D2 is in RETAIN (R571) or PORST_N holds it in reset (R55). -/
def masterLive (s : State) (m : Master) : Bool :=
  !s.held &&
  match m with
  | .engine e user => engineRuns s e.val && user == (s.eng e.val).accessUser
  | .foreman => s.on 2
  | .can => s.on 2 && s.on 7
  | .twb => s.on 2 && s.on 7
  | .debug => s.on 2 && !s.flag 0x3400 4 0

/-- R36, R32, R365: whether a write by the master to hardware object i:j is refused as privilege. -/
def writePrivileged (s : State) (m : Master) (i j : Nat) : Bool :=
  match m with
  | .engine e user => user || !pmpAllows (s.eng e.val) user .store (windowAddr i j)
  | .foreman => !(decide (0x2780 ≤ i) && decide (i ≤ 0x29FF))
  | _ => false

/-- R32, R365, R782: whether a read by the master of hardware object i:j is refused as privilege. -/
def readPrivileged (s : State) (m : Master) (i j : Nat) : Bool :=
  match m with
  | .engine e user =>
    !pmpAllows (s.eng e.val) user .load (windowAddr i j) ||
      (user && decide (0x3610 ≤ i) && decide (i ≤ 0x361B) && !s.flag 0x3600 4 (i - 0x3610))
  | .foreman => !(decide (0x2780 ≤ i) && decide (i ≤ 0x29FF))
  | _ => false

/-- R744: whether the word belongs to an OTP region whose read-lock is blown. -/
def otpHidden (s : State) (i j : Nat) : Bool :=
  decide (0x3410 ≤ i) && decide (i ≤ 0x341F) && decide (1 ≤ j) && s.flag 0x3400 2 (16 + (i - 0x3410))

/-- R441, R447: whether a read's length is wrong. -/
def readLength (r : Rd) : Bool :=
  match r.master with
  | .can => false
  | .twb => false
  | _ => r.len != 4

/-- R441, R447: whether a transfer's length does not match the object word. -/
def wrongLength (m : Master) (ty : OTy) (len : Nat) : Bool :=
  match m with
  | .can => !(len == 4 || len == ty.size)
  | .twb => !(len == 4 || len == ty.size)
  | _ => !(len == 4)

/-- R11, R454: whether the row is a word of a pair, and its low word's subindex. -/
def OTy.isLow (t : OTy) : Bool := t == .lo64
/-- The high word of a pair. -/
def OTy.isHigh (t : OTy) : Bool := t == .hi64 || t == .hi48

/-- Whether the access code takes writes. -/
def Acc.writable : Acc → Bool
  | .rw => true
  | .wo => true
  | .rwa => true
  | .w1c => true
  | _ => false

/-- R708, R746, R796: the words that the CAN and two-wire object agents write only inside an accepted authenticated
command. -/
def remoteAuth (m : Master) (i j : Nat) : Bool :=
  (match m with
    | .can => true
    | .twb => true
    | _ => false) &&
  (decide (i = 0x3200 ∧ j = 0x0B) || decide (i = 0x3401 ∧ j = 4) || decide (i = 0x3800 ∧ j = 0x0B))

/-- R467, R500: the MASTER code of a master. -/
def masterCode (m : Master) : Nat :=
  match m with
  | .engine _ user => if user then 1 else 0
  | .can => 2
  | .twb => 3
  | _ => 4

/-- R454: whether a write is one of a high word whose low word the master has not staged. A write outside an authenticated
command of a word that takes only those is none. -/
def unpaired (s : State) (w : Wr) (auth : Bool) (r : ObjRow) (i j : Nat) : Bool :=
  r.ty.isHigh && r.acc.writable && !(r.acc == .rwa && !auth) &&
    (s.master w.master).staged.map (·.1) != some (objKey i (j - 1))

/-- R444: the result of a write to a hardware object before the object's own conditions, in the order 5h, 6h, 7h, 8h,
9h, 1h, 2h, 3h, 4h. -/
def checkWrite (s : State) (w : Wr) (auth : Bool) (i j : Nat) : Res :=
  match objRow i j with
  | none => .noObject
  | some r =>
    if s.on (objDomain i) = false then .domain
    else if writePrivileged s w.master i j then .privilege
    else if wrongLength w.master r.ty w.len then .length
    else if unpaired s w auth r i j then .pair
    else if r.acc.writable = false then .readOnly
    else if (r.acc = .rwa ∨ remoteAuth w.master i j) ∧ auth = false then .authentication
    else if r.rng.admits (r.ty.extend w.value) = false then .range
    else if (otpHeld i j && !s.startup.otpLoaded) || (journalHeld i j && !s.startup.journalLoaded) then .state
    else .accepted

/-- R444: the result of a read of a hardware object. -/
def checkRead (s : State) (r : Rd) (i j : Nat) : Res :=
  match objRow i j with
  | none => .noObject
  | some _ =>
    if s.on (objDomain i) = false then .domain
    else if readPrivileged s r.master i j then .privilege
    else if readLength r then .length
    else if otpHidden s i j then .state
    else .accepted

/-- R465: an access with a result other than 0h is counted. -/
def countRefusal (s : State) (res : Res) : State :=
  let s := if res = .accepted then s else s.bump 0x2010 3 32
  let s := if res = .noObject then s.bump 0x2010 4 16 else s
  if res = .domain then s.bump 0x2010 5 16 else s

/-- R445: an engine's access that ends with a faulting result raises an access fault at the window address. -/
def faultAccess (s : State) (m : Master) (res : Res) (cause a : Nat) : State :=
  match m with
  | .engine e _ => if res.faults then raiseException s e.val cause (BitVec.ofNat 32 a) else s
  | _ => s

/-- R465: the master's record of its most recent write. -/
def recordWrite (s : State) (m : Master) (i j : Nat) (res : Res) : State :=
  s.modMaster m (fun x => { x with lastResult := res.code, lastObject := BitVec.ofNat 32 (i * 256 + j) })

/-- The end of a write with its result: recorded, counted, answered, and raised as a fault for an engine. -/
def endWrite (s : State) (m : Master) (i j : Nat) (res : Res) (resp : Resp) : State :=
  let s := countRefusal (recordWrite s m i j res) res
  faultAccess { s with resp := some resp } m res causeStoreFault (windowAddr i j)

/-- The end of a read with its result and value. -/
def endRead (s : State) (m : Master) (i j : Nat) (res : Res) (v : Word) : State :=
  let s := countRefusal s res
  faultAccess { s with resp := some { result := res, value := v } } m res causeLoadFault (windowAddr i j)

/-- Whether a refused value is above or below its stated range, for R446. -/
def rangeResp (i j : Nat) (w : Wr) (res : Res) : Resp :=
  match objRow i j with
  | some r =>
    if res = .range then
      { result := res, value := 0, above := r.rng.isAbove (r.ty.extend w.value), below := r.rng.isBelow (r.ty.extend w.value) }
    else { result := res, value := 0 }
  | none => { result := res, value := 0 }

/-- The value of a write as the object's type holds it (R10). -/
def typedWrite (w : Wr) (i j : Nat) : Wr :=
  match objRow i j with
  | some r => { w with value := r.ty.extend w.value }
  | none => w

/-- R12, R13, R47: the effect of an accepted write that its access code alone gives: a W1C word clears the bits written
1 that no event of the present cycle has set, any other word is set. -/
def plainWrite (i j : Nat) : WEff := fun w _ s =>
  match objRow i j with
  | none => rej .noObject s
  | some r =>
    if r.acc = .w1c then acc (s.put i j (s.obj i j &&& ~~~ w.value ||| s.cycleBits (objKey i j)))
    else if r.acc = .wo then acc s
    else acc (s.storeCount i j w.value)

/-- R454: a low word staged for the writing master. -/
def stageLow (i j : Nat) : WEff := fun w _ s =>
  acc (s.modMaster w.master (fun x => { x with staged := some (objKey i j, w.value) }))

/-- R454: both words committed in one cycle by `eff` with the 64-bit value; the staging is cleared. -/
def commitPair (eff : DWord → WEff) : WEff := fun w auth s =>
  match (s.master w.master).staged with
  | none => rej .pair s
  | some (_, lo) => eff (dw lo w.value) w auth (s.modMaster w.master (fun x => { x with staged := none }))

/-- R47: the value of a pair that is written `v`: a counter keeps what events of the present cycle have added. -/
def pairWritten (s : State) (i j : Nat) (v : DWord) : DWord :=
  match s.cycleCount (objKey i j) with
  | some c => v + c.alone
  | none => v

/-- R47, R454: the plain effect of a committed pair whose low word is i:j. -/
def plainPair (i j : Nat) : DWord → WEff := fun v _ _ s =>
  acc ((s.put i j (lo32 (pairWritten s i j v))).store i (j + 1) (hi32 (pairWritten s i j v)))

/-- The checks and the effect of a write to a hardware object (R12, R14, R444). -/
def accessResult (s : State) (w : Wr) (auth : Bool) (i j : Nat) (eff : WEff) : Res × State :=
  match checkWrite s w auth i j with
  | .accepted => eff (typedWrite w i j) auth s
  | res => (res, s)

/-- One write access to a hardware object, whole: checks, effect, record, answer (R12, R14, R444, R465). -/
def accessWrite (s : State) (w : Wr) (auth : Bool) (i j : Nat) (eff : WEff) : State :=
  if masterLive s w.master = false then s
  else
    let (res, s') := accessResult s w auth i j eff
    endWrite s' w.master i j res (rangeResp i j w res)

end Sys2Proof.Machine
end

