-- ==== Sys2Proof/Machine/Assayer.lean ====
section
/-! DEFINITION. The Assayer check units (R765 to R776). -/
namespace Sys2Proof.Machine

/-- The object index of channel k (R776). -/
def assayerIdx (k : Nat) : Nat := 0x3500 + k

/-- Channel k beyond its objects. -/
def State.asyChan (s : State) (k : Nat) : AssayerChannel := s.assayer.getD k {}

/-- Channel k changed. -/
def State.modAsy (s : State) (k : Nat) (f : AssayerChannel → AssayerChannel) : State :=
  { s with assayer := modAt s.assayer k f }

/-- R766: the state of channel k: 0 idle, 1 scanning, 2 feeding, 3 stopping, 4 held. -/
def chanState (s : State) (k : Nat) : Nat := s.nat (assayerIdx k) 2

/-- R769, R771: a check ends normally with its result and outcome. -/
def endCheck (s : State) (k : Nat) : State :=
  let i := assayerIdx k
  let c := s.asyChan k
  let r := crcEnd c.crc c.alive
  let mode := s.nat i 8
  let bad := mode != 0 && r != s.obj i 7
  let s1 := (((((s.put i 0x0B r).putN i 0x0E c.count).putN i 0x0C (if bad then 2 else 1)).bump i 0x10 32).setBits i 0x0F 1).putN i 2 0
  let s2 := if bad then ((s1.bump i 0x11 16).setBits i 0x0F 2).report (81 + k) (if mode = 1 then .ce else .uc) else s1
  if s.nat i 6 = 1 then s2.putN i 5 ((s2.nat i 5 + 1) % 65536) else s2

/-- R772: an aborted check ends: nothing of it is delivered. -/
def endAbort (s : State) (k : Nat) : State := (s.putN (assayerIdx k) 0x0C 4).putN (assayerIdx k) 2 0

/-- R767, R768: the start of a check: A is captured and nothing counted. -/
def beginCheck (s : State) (k state : Nat) (f : AssayerChannel → AssayerChannel) : State :=
  (s.putN (assayerIdx k) 2 state).modAsy k (fun c =>
    f { c with alive := s.nat (assayerIdx k) 5, crc := crcStart, count := 0, lastAt := s.t })

/-- R766: the effect of a write of a channel's command. -/
def assayerCommandEff (k : Nat) : WEff := fun w _ s =>
  let st := chanState s k
  match w.value.toNat with
  | 1 =>
    if st ≠ 0 then rej .state s
    else acc (beginCheck s k 1 (fun c => { c with addr := s.nat (assayerIdx k) 3, left := s.nat (assayerIdx k) 4, owner := none }))
  | 2 => if st ≠ 0 then rej .state s else acc (beginCheck s k 2 (fun c => { c with owner := some w.master, left := 0 }))
  | 3 => if st ≠ 2 then rej .state s else acc (endCheck s k)
  | _ =>
    if st = 1 ∧ (s.asyChan k).left ≠ 0 then acc (s.putN (assayerIdx k) 2 3)
    else if st = 1 ∨ st = 2 then acc (endAbort s k)
    else rej .state s

/-- The effect of a write of command 1h. -/
def scanEff (k : Nat) : WEff := fun w a s => assayerCommandEff k w a s

/-- ASSAYER_SCAN: a write of 1h to 3500h + k:01h. -/
def execAssayerScan (k : Fin 4) (w : Wr) (s : State) : Out :=
  .next (accessWrite s w false (assayerIdx k.val) 1 (scanEff k.val))

/-- The effect of a write of command 2h. -/
def beginFeedEff (k : Nat) : WEff := fun w a s => assayerCommandEff k w a s

/-- BEGIN_FEED: a write of 2h to 3500h + k:01h. -/
def execBeginFeed (k : Fin 4) (w : Wr) (s : State) : Out :=
  .next (accessWrite s w false (assayerIdx k.val) 1 (beginFeedEff k.val))

/-- The effect of a write of command 3h. -/
def endFeedEff (k : Nat) : WEff := fun w a s => assayerCommandEff k w a s

/-- END_FEED: a write of 3h to 3500h + k:01h. -/
def execEndFeed (k : Fin 4) (w : Wr) (s : State) : Out :=
  .next (accessWrite s w false (assayerIdx k.val) 1 (endFeedEff k.val))

/-- The effect of a write of command 4h. -/
def assayerAbortEff (k : Nat) : WEff := fun w a s => assayerCommandEff k w a s

/-- ASSAYER_ABORT: a write of 4h to 3500h + k:01h. -/
def execAssayerAbort (k : Fin 4) (w : Wr) (s : State) : Out :=
  .next (accessWrite s w false (assayerIdx k.val) 1 (assayerAbortEff k.val))

/-- Bytes taken into a channel's check. -/
def takeBytes (s : State) (k : Nat) (l : List Byte) : State :=
  s.modAsy k (fun c => { c with crc := crcBytes c.crc l, count := c.count + l.length, lastAt := s.t })

/-- R768: whether a master owns the feed in progress. -/
def ownsFeed (s : State) (k : Nat) (m : Master) : Bool :=
  chanState s k == 2 && (s.asyChan k).owner.map masterSlot == some (masterSlot m)

/-- R768: the effect of a write of the feed word. -/
def feedWordEff (k : Nat) : WEff := fun w _ s =>
  if ownsFeed s k w.master then acc (takeBytes s k (wordBytes w.value)) else rej .state s

/-- FEED_WORD: a write of 3500h + k:09h. -/
def execFeedWord (k : Fin 4) (w : Wr) (s : State) : Out :=
  .next (accessWrite s w false (assayerIdx k.val) 9 (feedWordEff k.val))

/-- R768: the effect of a write of the feed byte. -/
def feedByteEff (k : Nat) : WEff := fun w _ s =>
  if ownsFeed s k w.master then acc (takeBytes s k [byteOf w.value 0]) else rej .state s

/-- FEED_BYTE: a write of 3500h + k:0Ah. -/
def execFeedByte (k : Fin 4) (w : Wr) (s : State) : Out :=
  .next (accessWrite s w false (assayerIdx k.val) 0x0A (feedByteEff k.val))

/-- R767, R770: the read of the next word of a scan returns. -/
def scanRead (s : State) (k : Nat) : State :=
  let c := s.asyChan k
  match busRead s c.addr with
  | (s1, some v) =>
    let n := min 4 c.left
    (takeBytes s1 k ((wordBytes v).take n)).modAsy k (fun x => { x with addr := c.addr + 4, left := c.left - n })
  | (s1, none) =>
    (((s1.putN (assayerIdx k) 0x0C 3).putN (assayerIdx k) 0x0D c.addr).setBits (assayerIdx k) 0x0F 4).putN (assayerIdx k) 2 0

/-- R772: the read in flight of a stopping channel has returned. -/
def assayerStopped (s : State) (k : Nat) : State :=
  if chanState s k = 3 then endAbort (busRead s (s.asyChan k).addr).1 k else s

/-- SCAN_READ_RETURN, R767, R770: a scan read returns, at most one in a fabric cycle. -/
def execScanReadReturn (k : Fin 4) (s : State) : Out :=
  when (s.on 2 && decide (chanState s k.val = 1) && decide (0 < (s.asyChan k.val).left) &&
      decide ((s.asyChan k.val).lastAt < s.t)) s (scanRead s k.val)

/-- R767: whether the scan of channel k ends: 8 cycles have passed since its last read, or it has none. -/
def scanEnds (s : State) (k : Nat) : Bool :=
  let c := s.asyChan k
  s.on 2 && decide (chanState s k = 1) && decide (c.left = 0) && (c.count == 0 || s.passed c.lastAt 8)

/-- CHECK_END, R767, R769: a scan's check ends. -/
def execCheckEnd (k : Fin 4) (s : State) : Out := when (scanEnds s k.val) s (endCheck s k.val)

/-- R767: as a cycle ends, the scans that end in it and that no command told end. -/
def assayerEnd (s : State) : State :=
  (List.range 4).foldl (fun s k => if scanEnds s k then endCheck s k else s) s

/-- R773: the effect of a write of a channel's settings. -/
def assayerPlainEff (k j : Nat) : WEff := fun w a s =>
  if 3 ≤ j ∧ j ≤ 8 ∧ chanState s k ≠ 0 then rej .state s else plainWrite (assayerIdx k) j w a s

end Sys2Proof.Machine
end

