-- ==== Sys2Proof/Machine/EmcyOps.lean ====
section
/-! DEFINITION. The EMCY queue of the CAN object agent (R488, R489) and the state of the channels that it reads. -/
namespace Sys2Proof.Machine

/-- The object of channel n (R504). -/
def canIdx (n : Nat) : Nat := 0x2A00 + 16 * n

/-- Channel n beyond its objects. -/
def State.canChan (s : State) (n : Nat) : CanChannel := s.can.getD n {}

/-- Channel n changed. -/
def State.modCan (s : State) (n : Nat) (f : CanChannel → CanChannel) : State := { s with can := modAt s.can n f }

/-- The agent changed. -/
def State.modAgent (s : State) (f : CanAgent → CanAgent) : State := { s with agent := f s.agent }

/-- The error state of channel n (R504): 0 disabled, 1 integrating, 2 active, 3 passive, 4 bus-off, 5 stopping. -/
def canState (s : State) (n : Nat) : Nat := s.nat (canIdx n) 0x1C

/-- The redundancy mode (R491). -/
def redundancy (s : State) : Nat := s.nat 0x2A20 5

/-- The lines that carry CANopen (R491). -/
def canopenLines (s : State) : List Nat := if redundancy s = 0 then [0] else [0, 1]

/-- R488: whether an EMCY condition raised by the agent is in force: error passive or bus-off of a line that carries
CANopen, or a heartbeat that has timed out. -/
def agentCondition (s : State) : Bool :=
  (canopenLines s).any (fun n => canState s n == 3 || canState s n == 4) || s.agent.lost.any id

/-- R488: the error register 1001h. -/
def errorRegister (s : State) : Nat :=
  let own := agentCondition s
  let rep := (List.range 4).any (fun k => s.nat 0x3202 (1 + k) != 0)
  (if own || rep then 1 else 0) + (if own then 16 else 0)

/-- R489: the bytes of an EMCY frame. -/
def emcyBytes (s : State) (code src cls : Nat) : List Byte :=
  let t := lo32 s.now
  [BitVec.ofNat 8 code, BitVec.ofNat 8 (code / 256), BitVec.ofNat 8 (errorRegister s), BitVec.ofNat 8 src,
    BitVec.ofNat 8 cls, byteOf t 1, byteOf t 2, byteOf t 3]

/-- The predefined error field 1003h: the newest error first, eight at most (R484). -/
def noteError (s : State) (code src : Nat) : State :=
  let s1 := (List.range 7).foldl (fun s k => s.put 0x1003 (8 - k) (s.obj 0x1003 (7 - k))) s
  (s1.putN 0x1003 1 (code + src * 65536)).putN 0x1003 0 (min 8 (s.nat 0x1003 0 + 1))

/-- EMCY_PRODUCE, R489: an EMCY enters the queue of eight; one that finds it full is counted as lost. The agent produces
none while D7 is not ON. -/
def emcy (s : State) (code src cls : Nat) : State :=
  if s.on 7 = false then s
  else
    let s1 := if code = 0 then s else noteError s code src
    if s.agent.emcy.length < 8 then s1.modAgent (fun a => { a with emcy := a.emcy ++ [emcyBytes s1 code src cls] })
    else s1.bump 0x2A20 0x0D 16

/-- R489: an EMCY with one of the agent's own codes. A heartbeat timeout is of class UC (R490); no rule states the class
byte of the others. -/
def agentEmcy (s : State) (code : Nat) : State :=
  if code = 0x8130 then emcy s code 0xFF 2
  else
    let (b, s1) := s.freshByte
    emcy s1 code 0xFF b.toNat

end Sys2Proof.Machine
end

