-- ==== Sys2Proof/Machine/FwOps.lean ====
section
/-! DEFINITION. The firmware object table in force (R442, R457 to R462, R466): its entries in system SRAM and the object
rows they give. -/
namespace Sys2Proof.Machine

/-- An entry of the table (R458). -/
structure FwEntry where
  place : Nat
  index : Nat
  highest : Nat
  backing : Nat
  ty : Nat
  acc : Nat
  notify : Nat
  limits : Nat
  deriving DecidableEq, Repr

/-- R458: the entry at a position of the table at address `a`. -/
def fwEntryAt (s : State) (a k : Nat) : FwEntry :=
  let w0 := (s.memWord (a + 16 * k)).toNat
  let w2 := (s.memWord (a + 16 * k + 8)).toNat
  { place := k, index := w0 % 65536, highest := fieldN w0 16 8, backing := (s.memWord (a + 16 * k + 4)).toNat,
    ty := w2 % 256, acc := fieldN w2 8 3, notify := fieldN w2 11 2, limits := (s.memWord (a + 16 * k + 12)).toNat }

/-- R460: the binary search for index i among the positions from lo up to hi of the table in force: the positions whose
entries it reads, and where it finds the index. -/
def fwSearch (s : State) (i : Nat) : Nat → Nat → Nat → List Nat × Option Nat
  | 0, _, _ => ([], none)
  | n + 1, lo, hi =>
    if hi ≤ lo then ([], none)
    else
      let k := (lo + hi) / 2
      let x := (fwEntryAt s (s.nat 0x2020 5) k).index
      if x = i then ([k], some k)
      else
        let (l, r) := if x < i then fwSearch s i n (k + 1) hi else fwSearch s i n lo k
        (k :: l, r)

/-- R460: the search over the whole table, at most 10 reads. -/
def fwFind (s : State) (i : Nat) : List Nat × Option Nat := fwSearch s i 10 0 (s.nat 0x2020 6)

/-- R442, R460: the entry of index i in the table in force. -/
def fwEntry (s : State) (i : Nat) : Option FwEntry := (fwFind s i).2.map (fwEntryAt s (s.nat 0x2020 5))

/-- R460: the table words that the search for index i reads. -/
def fwProbed (s : State) (i : Nat) : List Nat := (fwFind s i).1.map (fun k => s.nat 0x2020 5 + 16 * k)

/-- Whether an index is served from the firmware object table (R439). -/
def isFirmware (i : Nat) : Bool := decide (0x6000 ≤ i) && decide (i ≤ 0xBFFF)

/-- R458: whether the type is a 64-bit one. -/
def fwPair (ty : Nat) : Bool := ty == 0x15 || ty == 0x19 || ty == 0x1B

/-- R458: the type of subindex j. -/
def fwType (ty j : Nat) : OTy :=
  match ty with
  | 0x01 => .bool
  | 0x02 => .i8
  | 0x03 => .i16
  | 0x04 => .i32
  | 0x05 => .u8
  | 0x06 => .u16
  | 0x08 => .real32
  | 0x09 => .str
  | 0x0A => .str
  | 0x16 => .u24
  | 0x15 => if j % 2 = 1 then .lo64 else .hi64
  | 0x1B => if j % 2 = 1 then .lo64 else .hi64
  | 0x19 => if j % 2 = 1 then .lo64 else .hi48
  | _ => .u32

/-- R458: the access code. -/
def fwAcc (a : Nat) : Acc :=
  match a with
  | 1 => .rw
  | 2 => .wo
  | 3 => .rwa
  | 6 => .const
  | _ => .ro

/-- R458: the values a write may carry: signed limits for INTEGER types; strings and 64-bit types have none. -/
def fwRange (s : State) (x : FwEntry) : Rng :=
  if x.limits = 0 ∨ fwPair x.ty = true ∨ x.ty = 9 ∨ x.ty = 10 then .any
  else if 2 ≤ x.ty ∧ x.ty ≤ 4 then .srng (s.memWord x.limits).toInt (s.memWord (x.limits + 4)).toInt
  else .rng (s.memWord x.limits).toNat (s.memWord (x.limits + 4)).toNat

/-- R461: the row of subindex j of an entry. -/
def fwRowOf (s : State) (x : FwEntry) (j : Nat) : Option ObjRow :=
  if j = 0 then some ⟨0, .u8, .const, 0, .any⟩
  else if j ≤ x.highest then some ⟨j, fwType x.ty j, fwAcc x.acc, 0, fwRange s x⟩
  else none

/-- R442: the row of any object word, if it exists. -/
def rowOf (s : State) (i j : Nat) : Option ObjRow :=
  if isFirmware i then (fwEntry s i).bind (fun x => fwRowOf s x j) else objRow i j

/-- The address of the backing word of subindex j (R458). -/
def FwEntry.word (x : FwEntry) (j : Nat) : Nat := x.backing + 4 * (j - 1)

end Sys2Proof.Machine
end

