-- ==== Sys2Proof/Machine/LifeOps.lean ====
section
/-! DEFINITION. The wear of the life ledger's indicators (R786 to R791): the factor terms, the adding of wear and its
thresholds, the contactors, and the ring. -/
namespace Sys2Proof.Machine

/-- The object index of indicator l (R794). -/
def lifeIdx (l : Nat) : Nat := 0x3710 + l

/-- Indicator l beyond its objects. -/
def State.indicator (s : State) (l : Nat) : Indicator := s.life.indicators.getD l {}

/-- Indicator l changed. -/
def State.modIndicator (s : State) (l : Nat) (f : Indicator → Indicator) : State :=
  { s with life := { s.life with indicators := modAt s.life.indicators l f } }

/-! ### Factor terms -/

/-- The roots 2^(2^−k) for k from 1 to 32, in units of 2^−62, rounded. -/
def rootTable : List Nat := [
  0x5A827999FCEF3242, 0x4C1BF828C6DC54B8, 0x45CAE0F1F545EB73, 0x42D561B3E6243D8A,
  0x4166C34C5615D0EC, 0x40B268F9DE0183BA, 0x4058F6A7ECCCD5B6, 0x402C6BE96AF2FB58,
  0x4016321B687027A8, 0x400B18178BA33B14, 0x40058BCE410147E8, 0x4002C5D7BFF71DAF,
  0x400162E807EE7E5B, 0x4000B1730DF6A524, 0x400058B9497B8152, 0x40002C5C955DD701,
  0x4000162E46D6F26C, 0x40000B1722757B1B, 0x4000058B90FD3E0C, 0x400002C5C86F3F26,
  0x40000162E433C79B, 0x400000B17218EDD0, 0x40000058B90C3968, 0x4000002C5C860D54,
  0x400000162E4302D2, 0x4000000B17218073, 0x400000058B90BFFC, 0x40000002C5C85FEF,
  0x4000000162E42FF3, 0x40000000B17217F9, 0x4000000058B90BFC, 0x400000002C5C85FE]

/-- 2^(f ÷ 2^32) for f below 2^32, in units of 2^−62. -/
def powFraction (f : Nat) : Nat :=
  (List.range 32).foldl (fun m k => if bitN f (31 - k) then m * rootTable.getD k 0 / 2 ^ 62 else m) (2 ^ 62)

/-- 2^56 × 2^(n ÷ d) ÷ q, truncated, with the power from a table good to 2^−28; from 2^80 on the power, which is beyond
every wear, no longer grows. -/
def powTwoWear (n : Int) (d q : Nat) : Nat :=
  let e := min (floorDiv n d) 80
  let m := powFraction ((fmod n d).toNat * 2 ^ 32 / d)
  if 6 ≤ e then m * 2 ^ (e - 6).toNat / q else m / (2 ^ (6 - e).toNat * q)

/-- R787: a term computed with a relative error of at most 2^−16, which the spec leaves open. -/
def nearTerm (s : State) (x : Nat) : Nat × State :=
  let (f, s1) := s.freshWord
  ((x + floorDiv (x * f.toInt) (2 ^ 47)).toNat, s1)

/-- A term that the spec does not state. -/
def openTerm (s : State) : Nat × State :=
  ((Config.freeDWord s.free).toNat, { s with free := s.free + 1 })

/-! ### Wear -/

/-- Tr (R794). -/
def lifeRef (s : State) (l : Nat) : Int := s.int (lifeIdx l) 4

/-- R788: the wear 0Bh of an internal value. -/
def showWear (s : State) (l wear : Nat) : State :=
  let v := satN 64 wear
  (s.modIndicator l (fun x => { x with wear := v })).putN (lifeIdx l) 0x0B (v / 2 ^ 32)

/-- R788: the thresholds of indicator l, each acting when its status bit is not yet set. -/
def lifeThresholds (s : State) (l : Nat) : State :=
  let i := lifeIdx l
  let w := s.nat i 0x0B
  let s1 := if s.nat i 0x0A * 65536 ≤ w ∧ s.flag i 0x11 1 = false then
      (((s.setBits i 0x11 2).setBits 0x3700 5 (2 ^ l)).setBits 0x3700 3 1).report 86 .ce l
    else s
  if 0x1000000 ≤ w ∧ s.flag i 0x11 2 = false then
    (((((s1.setBits i 0x11 4).setBits 0x3700 6 (2 ^ l)).setBits 0x3700 3 2).put i 0x0C (s.obj 0x3300 1)).put i 0x0D
      (s.obj 0x3300 2)).report 86 .uc l
  else s1

/-- R787, R788: wear added to indicator l. -/
def addWear (s : State) (l x : Nat) : State := lifeThresholds (showWear s l ((s.indicator l).wear + x)) l

/-! ### Contactors -/

/-- R787: one operation of contactor l: max(1, (I ÷ Tr)²) ÷ R of a life. -/
def contactorWear (s : State) (l : Nat) : State :=
  let i := (s.int (lifeIdx l) 2).natAbs
  let r := (lifeRef s l).natAbs
  let q := s.nat (lifeIdx l) 5
  if q = 0 then s
  else if r = 0 then let (x, s1) := openTerm s; addWear s1 l x
  else
    let (x, s1) := nearTerm s (if i ≤ r then 2 ^ 56 / q else i * i * 2 ^ 56 / (r * r * q))
    addWear s1 l x

/-- Whether the ledger runs (R792). -/
def lifeRuns (s : State) : Bool := s.on 2 && s.flag 0x3700 1 0

/-- R787: an operation of a contactor source. -/
def contactorOps (s : State) (source : Nat) : State :=
  if lifeRuns s then
    (List.range 16).foldl (fun s l =>
      if s.nat (lifeIdx l) 1 = 4 ∧ s.nat (lifeIdx l) 3 = source then contactorWear s l else s) s
  else s

/-! ### The ring -/

/-- R790: no prediction. -/
def noPrediction (s : State) (l : Nat) : State :=
  let i := lifeIdx l
  (((s.put i 0x0C 0xFFFFFFFF).put i 0x0D 0xFF).put i 0x0E 0).clrBits i 0x11 1

/-- R789, R790: indicator l's ring is cleared, and with it the prediction of one that has not reached end of life. -/
def clearRing (s : State) (l : Nat) : State :=
  let s1 := s.modIndicator l (fun x => { x with ring := [] })
  if s.flag (lifeIdx l) 0x11 2 then s1 else noPrediction s1 l

/-- R789: the rings of the indicators that a condition names are cleared. -/
def clearRings (s : State) (c : Nat → Bool) : State :=
  (List.range 16).foldl (fun s l => if c l then clearRing s l else s) s

end Sys2Proof.Machine
end

