-- ==== Sys2Proof/Machine/Flags.lean ====
section
/-! DEFINITION. The levels derived from flags: the interrupt sources (R659), the candidates of the targets (R661 to
R664) and an engine's pending interrupts (R355, R356, R406). -/
namespace Sys2Proof.Machine

/-- Whether any bit of a flags word is set while its domain is ON (R28, R659). -/
def anyFlag (s : State) (i j : Nat) : Bool := s.on (objDomain i) && s.obj i j != 0

/-- R779: source 139: an overflow bit whose interrupt-enable bit is 1. -/
def counterLevel (s : State) : Bool :=
  (List.range 12).any (fun b => s.obj (0x3610 + b) 2 &&& s.obj (0x3610 + b) 3 != 0)

/-- The flags words of the sources that have one of their own (R659). -/
def sourceFlags : Nat → List (Nat × Nat)
  | 111 => (0x2780, 0x0E) :: (List.range 64).map (fun t => (0x2800 + t, 0x26))
  | 112 => (List.range 16).map (fun k => (0x2021, 1 + k))
  | 113 => [(0x2A00, 0x23)]
  | 114 => [(0x2A10, 0x23)]
  | 115 => [(0x2A20, 0x0F)]
  | 117 => [(0x2B00, 0x12), (0x2B01, 0x11)]
  | 118 => [(0x2B10, 0x12), (0x2B11, 0x11)]
  | 119 => [(0x2C00, 0x15)]
  | 120 => [(0x2C01, 0x15)]
  | 121 => [(0x2C02, 0x15)]
  | 122 => [(0x2C03, 0x15)]
  | 123 => [(0x2C20, 0x13)]
  | 124 => [(0x2D00, 0x11)]
  | 125 => [(0x2D02, 0x0D)]
  | 126 => [(0x2D03, 7)]
  | 127 => [(0x2E00, 0x11)]
  | 128 => [(0x2E02, 0x0E)]
  | 129 => [(0x2E04, 0x0B)]
  | 130 => [(0x2F00, 0x12)]
  | 131 => [(0x3100, 0x0F)]
  | 132 => [(0x3200, 0x0E)]
  | 133 => [(0x3300, 0x12)]
  | 134 => [(0x3440, 8), (0x3400, 3)]
  | 135 => [(0x3500, 0x0F)]
  | 136 => [(0x3501, 0x0F)]
  | 137 => [(0x3502, 0x0F)]
  | 138 => [(0x3503, 0x0F)]
  | 140 => [(0x3700, 3)]
  | 141 => [(0x3800, 0x0F)]
  | _ => []

/-- R659: the level of interrupt source n. The spec states no condition for source 116: its level is free. -/
def sourceLevel (s : State) (n : Nat) : Bool :=
  if n = 0 then false
  else if n ≤ 40 then s.on 5 && s.flag (0x2100 + (n - 1) / 5 * 16) 0x1D ((n - 1) % 5)
  else if n ≤ 48 then (List.range 8).any (fun k => anyFlag s (0x2200 + 8 * (n - 41) + k) 0x1A)
  else if n ≤ 54 then (List.range 8).any (fun k => anyFlag s (0x2300 + 8 * (n - 49) + k) 0x1A)
  else if n ≤ 66 then anyFlag s (0x2400 + 16 * (n - 55)) 0x0C
  else if n ≤ 78 then anyFlag s (0x2600 + 16 * (n - 67) + 2) 0x0D
  else if n ≤ 110 then
    let i := 0x2900 + (n - 79)
    s.flag i 1 0 && decide (s.nat i 6 ≤ (s.obj i 0x12 - s.obj i 0x13).toNat)
  else if n = 116 then s.on 2 && (Config.freeWord (s.free + n)).getLsbD 0
  else if n = 139 then counterLevel s
  else if 144 ≤ n ∧ n ≤ 159 then s.flag 0x3000 7 (n - 144)
  else (sourceFlags n).any (fun f => anyFlag s f.1 f.2)

/-- R659, R674: whether number n names a source. -/
def sourceNamed (n : Nat) : Bool := decide (1 ≤ n) && (decide (n ≤ 141) || (decide (144 ≤ n) && decide (n ≤ 159)))

/-- R667: the members of coalescing group g. -/
def groupMembers (s : State) (g : Nat) : List Nat :=
  (List.range 256).filter (fun n => sourceNamed n && fieldN (s.nat 0x3020 n) 22 6 == g)

/-- R660: the configuration word of source n. -/
def sourceConfig (s : State) (n : Nat) : Nat := s.nat 0x3020 n

/-- R666: whether source n is claimed by some target. -/
def sourceClaimed (s : State) (n : Nat) : Bool := s.irq.claims.any (fun c => c.1 == n)

/-- R667: whether coalescing group g has no limit and is always open. -/
def groupFree (s : State) (g : Nat) : Bool := s.nat (0x3040 + g) 1 == 0 && s.nat (0x3040 + g) 2 == 0

/-- R667, R668: the state of group g: an open group is idle again once no member is asserted. -/
def groupState (s : State) (g : Nat) : Nat :=
  if groupFree s g then 2
  else if s.nat (0x3040 + g) 3 = 2 ∧ (groupMembers s g).any (sourceLevel s) = false then 0
  else s.nat (0x3040 + g) 3

/-- R667, R668: whether coalescing group g is open. -/
def groupOpen (s : State) (g : Nat) : Bool := groupState s g == 2

/-- R664: the level of source n as the candidates see it: that of three fabric cycles ago. -/
def seenLevel (s : State) (n : Nat) : Bool := (s.irq.levels.getD 2 0).getLsbD n

/-- R661: whether source n is deliverable. -/
def deliverable (s : State) (n : Nat) : Bool :=
  seenLevel s n && !sourceClaimed s n && decide (0 < fieldN (sourceConfig s n) 28 4) &&
    (fieldN (sourceConfig s n) 22 6 == 0x3F || groupOpen s (fieldN (sourceConfig s n) 22 6))

/-- R664: whether source n may be target x's candidate. -/
def candidateFor (s : State) (x n : Nat) : Bool :=
  bitN (sourceConfig s n) x && decide (s.nat (0x3010 + x) 2 < fieldN (sourceConfig s n) 28 4) && deliverable s n

/-- R664: the candidate of target x: the highest priority, the lowest number among equal priorities. -/
def candidate (s : State) (x : Nat) : Option Nat :=
  (List.range 256).foldl (fun best n =>
    if candidateFor s x n then
      match best with
      | none => some n
      | some b => if fieldN (sourceConfig s b) 28 4 < fieldN (sourceConfig s n) 28 4 then some n else best
    else best) none

/-- R663: the engine that target x resolves to: its bound engine, or its task's host. -/
def resolvedEngine (s : State) (x : Nat) : Option Nat :=
  let b := s.nat (0x3010 + x) 1
  match fieldN b 8 2 with
  | 1 => if fieldN b 0 6 < 16 then some (fieldN b 0 6) else none
  | 2 => taskHost s (fieldN b 0 6)
  | _ => none

/-- R670: the engine to which target x delivers: none outside the level or in a cluster that is not ON. -/
def targetEngine (s : State) (x : Nat) : Option Nat :=
  match resolvedEngine s x with
  | some e => if s.engineAdmitted e && s.on (clusterDomain e) then some e else none
  | none => none

/-- R664, R669: MEIP of engine e. -/
def meip (s : State) (e : Nat) : Bool :=
  s.flag 0x3000 1 0 && (List.range 16).any (fun x => targetEngine s x == some e && (candidate s x).isSome)

/-- R356: MTIP of engine e. -/
def mtip (s : State) (e : Nat) : Bool := decide ((s.eng e).mtimecmp.toNat ≤ s.t)

/-- R406: XTAIP of engine e. -/
def xtaip (s : State) (e : Nat) : Bool := (s.eng e).xttask.getLsbD 31

/-- The codes of the machine interrupts of engine e that are pending and enabled in mie, highest priority first. -/
def pendingInterrupts (s : State) (e : Nat) : List Nat :=
  (if meip s e && (s.eng e).mie.getLsbD 11 then [11] else []) ++
  (if mtip s e && (s.eng e).mie.getLsbD 7 then [7] else []) ++
  (if xtaip s e && (s.eng e).mie.getLsbD 16 then [16] else [])

/-- Whether an engine takes its pending interrupts: mstatus.MIE is 1, or it is in user mode. -/
def Engine.takesInterrupts (g : Engine) : Bool := g.mstatus.getLsbD 3 || g.user

end Sys2Proof.Machine
end

