-- ==== Sys2Proof/Machine/Queues.lean ====
section
/-! DEFINITION. The queues (R384 to R395): push, pop, the policies for full and empty, enable and flush, and the queue
ports (R390). -/
namespace Sys2Proof.Machine

/-- The object index of queue q (R399). -/
def queueIdx (q : Nat) : Nat := 0x2900 + q

/-- R384: the level of queue q. -/
def queueLevel (s : State) (q : Nat) : Nat := (s.obj (queueIdx q) 0x12 - s.obj (queueIdx q) 0x13).toNat

/-- Whether queue q is running (R399). -/
def queueRuns (s : State) (q : Nat) : Bool := s.nat (queueIdx q) 8 == 1

/-- R384: the pool entry of count k of queue q. -/
def poolSlot (s : State) (q : Nat) (k : Word) : Nat := s.nat (queueIdx q) 2 + k.toNat % s.nat (queueIdx q) 3

/-- A pool entry that nothing has written reads as zero. -/
def poolDefault (_ : Nat) : DWord := 0

/-- R401: the tasks whose role 0 queue is q ask for an activation when its level reaches the threshold. -/
def queueRequests (s : State) (q : Nat) : State :=
  (List.range 64).foldl (fun s t =>
    if roleQueue s t 0 = some q then
      requestActivation s t 1 (activationRecord t 1 (BitVec.ofNat 32 (queueLevel s q)) 0 0 false)
    else s) s

/-- The origin of a push: the post network, an instruction or port, or the collector's own post, which reports
nothing (R388, R704). -/
inductive PushFrom where
  | network | master | collector
  deriving DecidableEq, Repr

/-- R388: the report of a drop or an overwrite: uncorrected when the entry lost came from the post network. -/
def reportFull (s : State) (q : Nat) (posted : Bool) : State := s.report 57 (if posted then .uc else .ce) q

/-- R384, R393, R399: the entry is stored and counted; a level that was below the threshold and reaches it is flagged and
requested. `was` is the level before the push. -/
def queueStore (s : State) (q : Nat) (entry : DWord) (posted : Bool) (was : Nat) : State :=
  let i := queueIdx q
  let w := s.obj i 0x12
  let k := poolSlot s q w
  let others := s.posted.filter (fun n => n != k)
  let s0 := { s with pool := Sparse.put poolDefault s.pool k entry, cyc := { s.cyc with fresh := q :: s.cyc.fresh } }
  let s1 := { s0 with posted := if posted then k :: others else others }
  let s2 := (s1.put i 0x12 (w + 1)).bump i 0x0B 32
  let now := queueLevel s2 q
  let s3 := s2.highWater i 0x0A now
  if was < s.nat i 6 ∧ s.nat i 6 ≤ now then queueRequests (s3.setBits i 0x11 1) q else s3

/-- R388, R394: one push: accepted or not, and the state. The entry lost is the pushed one under drop newest and the
oldest one under overwrite oldest; a push of the collector reports nothing (R704). -/
def queuePush (s : State) (q : Nat) (entry : DWord) (src : PushFrom) : Bool × State :=
  let i := queueIdx q
  let lvl := queueLevel s q
  let told (s : State) (posted : Bool) : State := if src = .collector then s else reportFull s q posted
  if queueRuns s q = false then (false, (s.bump i 0x10 16).setBits i 0x11 8)
  else if lvl < s.nat i 3 then (true, queueStore s q entry (src != .master) lvl)
  else if s.nat i 4 = 0 then (false, told ((s.bump i 0x0D 16).setBits i 0x11 2) (src != .master))
  else
    let r := s.obj i 0x13
    let s1 := told (((s.put i 0x13 (r + 1)).bump i 0x0E 16).setBits i 0x11 4) (s.posted.contains (poolSlot s q r))
    (true, queueStore s1 q entry (src != .master) lvl)

/-- R387: the entries of queue q that a pop of the present cycle sees: those pushed in an earlier one. -/
def popLevel (s : State) (q : Nat) : Nat := queueLevel s q - (s.cyc.fresh.filter (· == q)).length

/-- R387: whether the pop place of queue q is taken in the present cycle. -/
def popTaken (s : State) (q : Nat) : Bool := s.cyc.pops.contains q

/-- R387: whether the push place of queue q is taken in the present cycle. -/
def pushTaken (s : State) (q : Nat) : Bool := s.cyc.pushes.contains q

/-- R387: a push of an instruction or a port takes its place in queue q. -/
def takePush (s : State) (q : Nat) : State := { s with cyc := { s.cyc with pushes := q :: s.cyc.pushes } }

/-- R387, R389, R391: one pop, which takes its place: the entry if there is one, and the state. -/
def queuePop (s : State) (q : Nat) : Option DWord × State :=
  let i := queueIdx q
  let s1 := { s with cyc := { s.cyc with pops := q :: s.cyc.pops } }
  if queueRuns s q = false ∨ popLevel s q = 0 then (none, s1.bump i 0x0F 16)
  else
    let r := s.obj i 0x13
    (some (Sparse.get poolDefault s.pool (poolSlot s q r)), (s1.put i 0x13 (r + 1)).bump i 0x0C 32)

/-! ### Ports -/

/-- The port pair of the Foreman (0) or the debug module (1). -/
def State.modPort (s : State) (n : Nat) (f : PortPair → PortPair) : State := { s with ports := modAt s.ports n f }

/-- R355, R390: the record of a pop for its master: the held high word and EMPTY. -/
def notePop (s : State) (m : Master) (v : Option DWord) : State :=
  let hi := match v with | some d => hi32 d | none => 0
  match m with
  | .engine e _ => s.modEng e.val (fun g => { g with xtqhi := hi, xtqst := (g.xtqst &&& 2) ||| (if v.isNone then 1 else 0) })
  | .foreman => s.modPort 0 (fun p => { p with held := hi, empty := v.isNone })
  | .debug => s.modPort 1 (fun p => { p with held := hi, empty := v.isNone })
  | _ => s

/-- R355, R390: the record of a push for its master: REJECT. -/
def notePush (s : State) (m : Master) (ok : Bool) : State :=
  match m with
  | .engine e _ => s.modEng e.val (fun g => { g with xtqst := (g.xtqst &&& 1) ||| (if ok then 0 else 2) })
  | .foreman => s.modPort 0 (fun p => { p with reject := !ok })
  | .debug => s.modPort 1 (fun p => { p with reject := !ok })
  | _ => s

/-- The word a master has staged at a port (R390). -/
def stagedWord (s : State) (m : Master) : Word :=
  match m with
  | .engine e _ => (s.eng e.val).staged
  | .foreman => (s.ports.getD 0 {}).staged
  | .debug => (s.ports.getD 1 {}).staged
  | _ => 0

/-- R390: the low word staged at a port by a master. -/
def stageWord (s : State) (m : Master) (v : Word) : State :=
  match m with
  | .engine e _ => s.modEng e.val (fun g => { g with staged := v })
  | .foreman => s.modPort 0 (fun p => { p with staged := v })
  | .debug => s.modPort 1 (fun p => { p with staged := v })
  | _ => s

/-- R32: the masters that reach the queue ports, the PMP of an engine in user mode included. -/
def portReach (s : State) (m : Master) (q off : Nat) (kind : PmpKind) : Bool :=
  match m with
  | .engine e user => pmpAllows (s.eng e.val) user kind (0x50000000 + q * 0x100 + off)
  | .foreman => true
  | .debug => true
  | _ => false

/-- R390: a port access that its master may not make: an access fault for an engine, nothing for another master. -/
def portRefused (s : State) (m : Master) (q off : Nat) (cause : Nat) : State :=
  match m with
  | .engine e _ => raiseException s e.val cause (BitVec.ofNat 32 (0x50000000 + q * 0x100 + off))
  | _ => s

/-- The answer of a port access. -/
def State.answer (s : State) (lo hi : Word) : State :=
  { s with resp := some { result := .accepted, value := lo, high := hi } }

/-- QUEUE_PORT_POP, R387, R390, R391: a read of offset 00h pops one entry, returns its low word and holds its high word; it
waits while the queue's pop place is taken. -/
def execQueuePortPop (m : Master) (q : Fin 32) (s : State) : Out :=
  if masterLive s m = false ∨ popTaken s q.val = true then .next s
  else if portReach s m q.val 0 .load = false then .next (portRefused s m q.val 0 causeLoadFault)
  else
    let (v, s1) := queuePop s q.val
    let d := v.getD 0
    .next ((notePop s1 m v).answer (lo32 d) (hi32 d))

/-- QUEUE_PORT_STAGE, R390: a write of offset 00h stages the low word. -/
def execQueuePortStage (m : Master) (q : Fin 32) (v : BitVec 32) (s : State) : Out :=
  if masterLive s m = false then .next s
  else if portReach s m q.val 0 .store = false then .next (portRefused s m q.val 0 causeStoreFault)
  else .next (stageWord s m v)

/-- QUEUE_PORT_PUSH, R387, R390: a write of offset 04h pushes the staged low word with the written high word; it waits while
the queue's push place is taken. -/
def execQueuePortPush (m : Master) (q : Fin 32) (v : BitVec 32) (s : State) : Out :=
  if masterLive s m = false ∨ pushTaken s q.val = true then .next s
  else if portReach s m q.val 4 .store = false then .next (portRefused s m q.val 4 causeStoreFault)
  else
    let (ok, s1) := queuePush (takePush s q.val) q.val (dw (stagedWord s m) v) .master
    .next (notePush s1 m ok)

/-! ### The post network -/

/-- R34, R418: producer `src` hands the network a post for role k of task t; an unbound role or a task that is not placed
is discarded (none). -/
def postToRole (s : State) (src t k : Nat) (entry : DWord) : Option State :=
  match roleQueue s t k with
  | some q => if taskTakes s t then some { s with postNet := s.postNet ++ [{ src := src, queue := q, entry := entry }] } else none
  | none => none

/-- R817: the producers in the order in which the network grants them, from the one after the last granted. -/
def grantOrder (s : State) : List Nat := (List.range 10).map (fun k => (s.postTurn + 1 + k) % 10)

/-- R817: the first post of a producer, and the others. -/
def takePost (src : Nat) : List Post → Option (Post × List Post)
  | [] => none
  | p :: t => if p.src = src then some (p, t) else (takePost src t).map (fun r => (r.1, p :: r.2))

/-- R817: the post that the network grants next, and those that wait on. -/
def nextPost (s : State) : Option (Post × List Post) := (grantOrder s).findSome? (fun p => takePost p s.postNet)

/-- R387, R817: the network, which takes one entry in a fabric cycle, grants one post, which reaches its queue. -/
def grantPost (s : State) : State :=
  match nextPost s with
  | none => s
  | some (p, rest) =>
    let s1 := { s with postNet := rest, postTurn := p.src, cyc := { s.cyc with posts := p.queue :: s.cyc.posts } }
    (queuePush s1 p.queue p.entry (if p.quiet then .collector else .network)).2

/-- QUEUE_POST, R387, R817: the network grants the next producer's oldest post, one in a cycle. -/
def execQueuePost (s : State) : Out := when (s.on 2 && s.cyc.posts.isEmpty) s (grantPost s)

/-! ### Enable, flush, settings -/

/-- R385: whether queue q's pool entries overlap those of a queue that is not stopped. -/
def poolOverlap (s : State) (q : Nat) : Bool :=
  (List.range 32).any (fun p => p != q && s.nat (queueIdx p) 8 != 0 &&
    regionsMeet (s.nat (queueIdx p) 2) (s.nat (queueIdx p) 3) (s.nat (queueIdx q) 2) (s.nat (queueIdx q) 3))

/-- R385: whether queue q may be enabled. -/
def queueFits (s : State) (q : Nat) : Bool :=
  let i := queueIdx q
  s.nat i 2 % s.nat i 3 == 0 && decide (s.nat i 2 + s.nat i 3 ≤ 4096) && !poolOverlap s q

/-- R385, R394: the effect of a write of a queue's enable. No push or pop is in flight between two commands, so a
disable stops the queue at once. -/
def queueEnableEff (q : Nat) : WEff := fun w _ s =>
  let i := queueIdx q
  if w.value = 1 then
    if s.nat i 8 = 1 then acc s
    else if queueFits s q then acc ((s.putN i 1 1).putN i 8 1)
    else rej .state (s.bump 0x2920 3 16)
  else acc ((s.putN i 1 0).putN i 8 0)

/-- QUEUE_ENABLE: a write of 2900h + q:01h. -/
def execQueueEnable (q : Fin 32) (w : Wr) (s : State) : Out :=
  .next (accessWrite s w false (queueIdx q.val) 1 (queueEnableEff q.val))

/-- R394: a flush of a stopped queue empties it; in any other state it is discarded. -/
def queueFlushEff (q : Nat) : WEff := fun _ _ s =>
  let i := queueIdx q
  if s.nat i 8 = 0 then acc (s.put i 0x13 (s.obj i 0x12)) else rej .state s

/-- QUEUE_FLUSH: a write of 2900h + q:07h. -/
def execQueueFlush (q : Fin 32) (w : Wr) (s : State) : Out :=
  .next (accessWrite s w false (queueIdx q.val) 7 (queueFlushEff q.val))

/-- R386, R399: base and depth are written only while the queue is stopped and empty; the threshold is at most the
depth. -/
def queuePlainEff (q j : Nat) : WEff := fun w a s =>
  let i := queueIdx q
  if (j = 2 ∨ j = 3) ∧ (s.nat i 8 ≠ 0 ∨ queueLevel s q ≠ 0) then rej .state s
  else if j = 6 ∧ (w.value = 0 ∨ s.nat i 3 < w.value.toNat) then rej .range s
  else plainWrite i j w a s

end Sys2Proof.Machine
end

