-- ==== Sys2Proof/Machine/Engines.lean ====
section
/-! DEFINITION. The engines' own commands (R349 to R383): the Xtide instructions, LR, SC and AMO, waits, traps, engine
faults, the scrubbers, run control, unit reset and debug halts. -/
namespace Sys2Proof.Machine

/-- An instruction of engine e executes: nothing happens while the engine does not run. -/
def instruction (s : State) (e : Nat) (f : Engine → State) : Out :=
  if engineRuns s e then .next (f (s.eng e)) else .next s

/-- An instruction that only writes a register (R354). -/
def writeReg (s : State) (e rd : Nat) (v : Word) : State := s.modEng e (fun g => (g.setReg rd v).retire)

/-- R350, R363: an illegal instruction exception; mtval is a value the spec leaves open. -/
def illegal (s : State) (e : Nat) : State :=
  let (v, s1) := s.freshWord
  raiseException s1 e causeIllegal v

/-! ### Xtide instructions -/

/-- R362: whether an Xtide instruction passes its PMP check, which user mode alone makes. -/
def xtidePasses (g : Engine) (kind : PmpKind) (a : Nat) : Bool := !g.user || pmpAllows g true kind a

/-- The address at which TANG is checked (R362, R364). -/
def tangAddr (w : Nat) : Nat := 0x40840018 + w * 0x4000

/-- TANG, R359, R362, R364: rd := the angle of the wheel named by rs1[2:0]. -/
def execTang (e : Fin 16) (rd rs1 : Fin 32) (s : State) : Out :=
  instruction s e.val fun g =>
    let w := (g.reg rs1.val).toNat % 8
    if s.on 5 = false ∨ xtidePasses g .load (tangAddr w) = false then
      raiseException s e.val causeLoadFault (BitVec.ofNat 32 (tangAddr w))
    else writeReg s e.val rd.val (s.wheel w).angle

/-- TREACH, R359: rd := 1 when diff(rs1, rs2) is at least 0, else 0. -/
def execTreach (e : Fin 16) (rd rs1 rs2 : Fin 32) (s : State) : Out :=
  instruction s e.val fun g =>
    writeReg s e.val rd.val (if angReached (g.reg rs1.val) (g.reg rs2.val) then 1 else 0)

/-- QMUL, R359: the product in Q16.16, rounded and limited under R54. -/
def qmul (a b : Word) : Word := word32 (clamp32 (roundDiv (a.toInt * b.toInt) 65536))

/-- QMUL. -/
def execQmul (e : Fin 16) (rd rs1 rs2 : Fin 32) (s : State) : Out :=
  instruction s e.val fun g => writeReg s e.val rd.val (qmul (g.reg rs1.val) (g.reg rs2.val))

/-- QPUSH, R359, R362, R387, R388: pushes rs1 and rs2 as one entry; REJECT tells whether it was accepted. It waits while the
queue's push place is taken. -/
def execQpush (e : Fin 16) (q rs1 rs2 : Fin 32) (s : State) : Out :=
  instruction s e.val fun g =>
    let a := 0x50000004 + q.val * 0x100
    if xtidePasses g .store a = false then raiseException s e.val causeStoreFault (BitVec.ofNat 32 a)
    else if pushTaken s q.val then s
    else
      let (ok, s1) := queuePush (takePush s q.val) q.val (dw (g.reg rs1.val) (g.reg rs2.val)) .master
      (notePush (stageWord s1 (.engine e g.user) (g.reg rs1.val)) (.engine e g.user) ok).modEng e.val Engine.retire

/-- Whether mstatus.TW turns a wait in user mode into an illegal instruction (R363). -/
def waitForbidden (g : Engine) : Bool := g.user && g.mstatus.getLsbD 21

/-- The end of a pop by instruction: rd and xtqhi take the entry, or zero with EMPTY (R359, R389). -/
def finishPop (s : State) (e : Fin 16) (rd q : Nat) : State :=
  let (v, s1) := queuePop s q
  (notePop s1 (.engine e (s.eng e.val).user) v).modEng e.val (fun g =>
    { (g.setReg rd (lo32 (v.getD 0))).retire with wait := .none })

/-- QPOP, R359, R362, R363, R387, R389: pops one entry; a running empty queue whose empty policy is 1h makes it wait, and so
does a pop place that is taken. -/
def execQpop (e : Fin 16) (rd rs1 : Fin 32) (s : State) : Out :=
  instruction s e.val fun g =>
    let q := (g.reg rs1.val).toNat % 32
    let a := 0x50000000 + q * 0x100
    let waits := s.nat (queueIdx q) 5 == 1
    if waits && waitForbidden g then illegal s e.val
    else if xtidePasses g .load a = false then raiseException s e.val causeLoadFault (BitVec.ofNat 32 a)
    else if popTaken s q then s
    else if waits && queueRuns s q && popLevel s q == 0 then
      s.modEng e.val (fun g => { g with wait := .qpop rd.val q })
    else finishPop s e rd.val q

/-- R360: the lowest queue of a mask that is enabled and not empty. -/
def readyQueue (s : State) (mask : Word) : Option Nat :=
  (List.range 32).find? (fun q => mask.getLsbD q && queueRuns s q && queueLevel s q != 0)

/-- R360: whether an interrupt is pending and enabled in mie while mstatus.MIE is 0. -/
def heldInterrupt (s : State) (e : Nat) : Bool := !(s.eng e).mstatus.getLsbD 3 && !(pendingInterrupts s e).isEmpty

/-- A wait ends with rd written. -/
def endWait (s : State) (e rd : Nat) (v : Word) : State :=
  s.modEng e (fun g => { (g.setReg rd v).retire with wait := .none })

/-- QWAIT, R360, R362, R363: completes at once for a queue that is not empty or a held interrupt, else waits. -/
def execQwait (e : Fin 16) (rd rs1 rs2 : Fin 32) (s : State) : Out :=
  instruction s e.val fun g =>
    let mask := g.reg rs1.val
    if waitForbidden g then illegal s e.val
    else
      match (List.range 32).find? (fun q => mask.getLsbD q && !xtidePasses g .load (0x50000008 + q * 0x100)) with
      | some q => raiseException s e.val causeLoadFault (BitVec.ofNat 32 (0x50000008 + q * 0x100))
      | none =>
        match readyQueue s mask with
        | some q => writeReg s e.val rd.val (BitVec.ofNat 32 q)
        | none =>
          if heldInterrupt s e.val then writeReg s e.val rd.val 0x20
          else s.modEng e.val (fun g => { g with wait := .qwait rd.val mask (g.reg rs2.val).toNat s.t })

/-- QWAIT_WAKE, R360, R361, R389: what a waiting engine waits for has come: a QWAIT takes the queue or 20h, a QPOP
pops or returns empty, a WFI ends for an interrupt that is not taken. -/
def execQwaitWake (e : Fin 16) (s : State) : Out :=
  if engineCode s e.val ≠ 2 then .next s
  else
    match (s.eng e.val).wait with
    | .none => .next s
    | .wfi => when (!(s.eng e.val).takesInterrupts && !(pendingInterrupts s e.val).isEmpty) s
        (s.modEng e.val (fun g => { g with wait := .none }))
    | .qwait rd mask _ _ =>
      match readyQueue s mask with
      | some q => .next (endWait s e.val rd (BitVec.ofNat 32 q))
      | none => when (heldInterrupt s e.val) s (endWait s e.val rd 0x20)
    | .qpop rd q =>
      when ((!(queueRuns s q && popLevel s q == 0) || heldInterrupt s e.val) && !popTaken s q) s (finishPop s e rd q)

/-- QWAIT_TIMEOUT, R360: the timeout has passed since the instruction began to wait, and nothing else ends the wait before it;
rd := 21h. -/
def execQwaitTimeout (e : Fin 16) (s : State) : Out :=
  match (s.eng e.val).wait with
  | .qwait rd mask timeout since =>
    when (engineCode s e.val == 2 && timeout != 0 && s.passed since timeout && (readyQueue s mask).isNone &&
        !heldInterrupt s e.val) s (endWait s e.val rd 0x21)
  | _ => .next s

/-! ### Atomic memory operations -/

/-- R352: the global word address of an atomic operation: the engine's own D-TCM or system SRAM. -/
def atomicTarget (e a : Nat) : Option (Region × Nat) :=
  match regionOf e a with
  | some (.dtcm o, w) => if o = e then some (.dtcm o, w) else none
  | some (.sram, w) => some (.sram, w)
  | _ => none

/-- R373: a double-bit error of an engine's own TCM is an engine fault. -/
def ownTcmError (s : State) (e : Nat) (r : Region) : State :=
  match r with
  | .sram => s
  | _ => s.modEng e (fun g => { g with faultDue := true })

/-- The checks of an atomic operation at address `a` (R351, R352, R365): an exception, or the word to work on. -/
def atomicAt (s : State) (e : Nat) (g : Engine) (a : Word) (misaligned : Nat) (kinds : List PmpKind) (fault : Nat)
    (f : Nat → Region → State) : State :=
  if a.toNat % 4 ≠ 0 then raiseException s e misaligned a
  else
    match atomicTarget e a.toNat with
    | none => raiseException s e causeStoreFault a
    | some (r, w) => if kinds.all (fun k => pmpAllows g g.accessUser k a.toNat) then f w r else raiseException s e fault a

/-- LR.W, R353: loads a word and reserves it. -/
def execLrW (e : Fin 16) (rd rs1 : Fin 32) (s : State) : Out :=
  instruction s e.val fun g =>
    let a := g.reg rs1.val
    atomicAt s e.val g a causeLoadMisaligned [.load] causeLoadFault fun w r =>
      let (s1, ok) := eccRead s r w
      if ok then (s1.modEng e.val (fun g => { g with reservation := some (w, s.t) })).modEng e.val
          (fun g => (g.setReg rd.val (s.memWord w)).retire)
      else raiseException (ownTcmError s1 e.val r) e.val causeLoadFault a

/-- Whether an engine's reservation stands on word w: not cleared, 256 cycles not passed (R353). -/
def reserved (s : State) (e w : Nat) : Bool :=
  match (s.eng e).reservation with
  | some (r, t0) => r == w && !s.passed t0 256
  | none => false

/-- SC.W, R353: stores rs2 when the reservation stands, rd := 0, else rd := 1; the reservation is cleared. -/
def execScW (e : Fin 16) (rd rs1 rs2 : Fin 32) (s : State) : Out :=
  instruction s e.val fun g =>
    let a := g.reg rs1.val
    atomicAt s e.val g a causeStoreMisaligned [.store] causeStoreFault fun w _ =>
      let ok := reserved s e.val w
      let s1 := if ok then memStore s w (g.reg rs2.val) else s
      s1.modEng e.val (fun g => { (g.setReg rd.val (if ok then 0 else 1)).retire with reservation := none })

/-- The value an AMO writes. -/
def amoValue (op : AmoOp) (m r : Word) : Word :=
  match op with
  | .swap => r
  | .add => m + r
  | .xor => m ^^^ r
  | .and => m &&& r
  | .or => m ||| r
  | .min => if m.toInt ≤ r.toInt then m else r
  | .max => if r.toInt ≤ m.toInt then m else r
  | .minu => if m.toNat ≤ r.toNat then m else r
  | .maxu => if r.toNat ≤ m.toNat then m else r

/-- AMO, R352: reads, modifies and writes one word; rd := the word read. -/
def execAmo (e : Fin 16) (op : AmoOp) (rd rs1 rs2 : Fin 32) (s : State) : Out :=
  instruction s e.val fun g =>
    let a := g.reg rs1.val
    atomicAt s e.val g a causeStoreMisaligned [.load, .store] causeStoreFault fun w r =>
      let (s1, ok) := eccRead s r w
      if ok then
        let m := s.memWord w
        (memStore s1 w (amoValue op m (g.reg rs2.val))).modEng e.val (fun g => (g.setReg rd.val m).retire)
      else raiseException (ownTcmError s1 e.val r) e.val causeStoreFault a

/-- RESERVATION_TIMEOUT, R353: 256 cycles after the LR.W the reservation is cleared. -/
def execReservationTimeout (e : Fin 16) (s : State) : Out :=
  match (s.eng e.val).reservation with
  | some (_, t0) => when (s.passed t0 256) s (s.modEng e.val (fun g => { g with reservation := none }))
  | none => .next s

/-! ### Waits, traps, faults -/

/-- WFI, R406: the engine waits with its clock stopped until an interrupt is pending; with one pending it goes on. In
user mode with mstatus.TW at 1 it is an illegal instruction. -/
def execWfi (e : Fin 16) (s : State) : Out :=
  instruction s e.val fun g =>
    if waitForbidden g then illegal s e.val
    else
      let w : Wait := if (pendingInterrupts s e.val).isEmpty then .wfi else .none
      s.modEng e.val (fun g => { g.retire with wait := w })

/-- R360, R361: whether engine e waits in a QWAIT or QPOP that an interrupt with mstatus.MIE at 0 completes. -/
def waitCompletes (s : State) (e : Nat) : Bool :=
  match (s.eng e).wait with
  | .qwait _ _ _ _ => heldInterrupt s e
  | .qpop _ _ => heldInterrupt s e
  | _ => false

/-- INTERRUPT_TRAP, R361, R406: the pending enabled interrupt of highest priority is taken; a wait ends without
writing rd, mepc at the waiting instruction. -/
def execInterruptTrap (e : Fin 16) (s : State) : Out :=
  let c := engineCode s e.val
  match pendingInterrupts s e.val with
  | [] => .next s
  | code :: _ =>
    when ((c == 1 || c == 2) && s.on 2 && (s.eng e.val).takesInterrupts && !waitCompletes s e.val) s
      (s.modEng e.val (fun g => g.trap true code 0))

/-- R378, R412: an engine fault: flag bit 2, a report UC, and the mark of the Foreman. -/
def engineFault (s : State) (e : Nat) : State :=
  let s1 := s.modEng e (fun g => { g with faultDue := false })
  markFaulty ((s1.setBits (0x2700 + e) 0x0D 4).report (40 + e) .uc) e

/-- The cause of an instruction access fault. -/
def causeFetchFault : Nat := 1

/-- ENGINE_FAULT, R372, R373, R378: a fetch or load at address `a` of the engine's own TCM finds a double-bit error;
or the fault that the exception score has made due. -/
def execEngineFault (e : Fin 16) (a : Option (BitVec 32)) (fetch : Bool) (s : State) : Out :=
  match a with
  | none => when ((s.eng e.val).faultDue) s (engineFault s e.val)
  | some a =>
    if engineRuns s e.val = false then .next s
    else
      match regionOf e.val a.toNat with
      | some (r, w) =>
        if r = .itcm e.val ∨ r = .dtcm e.val then
          let (s1, ok) := eccRead s r w
          if ok then .next s1
          else .next (engineFault (raiseException s1 e.val (if fetch then causeFetchFault else causeLoadFault) a) e.val)
        else .next s
      | none => .next s

/-- The region, size in words and first address of scrubber m (R374). -/
def scrubMemory (m : Nat) : Region × Nat × Nat :=
  if m < 16 then (.itcm m, 8192, aliasAddr m 0)
  else if m < 32 then (.dtcm (m - 16), 8192, aliasAddr (m - 16) 0x10000)
  else (.sram, 16384, 0x10000000 + (m - 32) * 0x10000)

/-- The scrub interval of scrubber m, 2700h + e:0Ch or 2710h:05h. -/
def scrubInterval (s : State) (m : Nat) : Nat :=
  if m < 32 then s.nat (0x2700 + m % 16) 0x0C else s.nat 0x2710 5

/-- Whether scrubber m's memory is ON. -/
def scrubOn (s : State) (m : Nat) : Bool := if m < 32 then s.on (clusterDomain (m % 16)) else s.on 2

/-- SCRUB_INTERVAL, R374: the scrubber reads and corrects one word and moves on, in address order. -/
def execScrubInterval (m : Fin 48) (s : State) : Out :=
  let (r, size, base) := scrubMemory m.val
  let p := s.ecc.scrub.getD m.val 0
  let s1 := (eccRead s r (base + 4 * p)).1
  when (scrubOn s m.val && scrubInterval s m.val != 0 && s.passed (s.ecc.scrubLast.getD m.val 0) (scrubInterval s m.val)) s
    { s1 with ecc := { s1.ecc with
        scrub := modAt s1.ecc.scrub m.val (fun _ => (p + 1) % size),
        scrubLast := modAt s1.ecc.scrubLast m.val (fun _ => s.t) } }

/-! ### Run control, reset, debug -/

/-- Whether the Foreman reports a task placed on engine e (R380). -/
def taskPlacedOn (s : State) (e : Nat) : Bool := (List.range 64).any (fun t => taskHost s t == some e)

/-- R379 to R381: the effect of a write of the run control: 0h holds the engine in unit reset unless a task is placed on
it; 1h releases a held engine of the level from its boot address, by a unit reset where its cluster is ON. -/
def runControlEff (e : Nat) : WEff := fun w _ s =>
  if w.value = 0 then
    if taskPlacedOn s e then rej .state s else acc (engineLost ((abandonOn s e).put (0x2700 + e) 1 0) e)
  else if s.engineAdmitted e = false then rej .state s
  else if s.runControl e then acc s
  else if s.on (clusterDomain e) = false then acc (s.put (0x2700 + e) 1 1)
  else acc (foremanAct (resetCore ((s.put (0x2700 + e) 1 1).bump (0x2700 + e) 0x0E 16) e))

/-- RUN_CONTROL_WRITE: a write of 2700h + e:01h. -/
def execRunControlWrite (e : Fin 16) (w : Wr) (s : State) : Out :=
  .next (accessWrite s w false (0x2700 + e.val) 1 (runControlEff e.val))

/-- R379, R411, R412: a unit reset of engine e: the core state, the count, the activation it interrupts; a reset the
collector asked for marks the engine faulty even where its cluster is not ON. -/
def unitReset (s : State) (e : Nat) (collector : Bool) : State :=
  let s1 := if s.on (clusterDomain e) then resetCore ((abandonOn s e).bump (0x2700 + e) 0x0E 16) e else s
  if collector then markFaulty s1 e else foremanAct s1

/-- UNIT_RESET, R379: the unit reset requested for engine e acts, in the cycle after its request. -/
def execUnitReset (e : Fin 16) (s : State) : Out :=
  match s.fm.unitResets.find? (fun r => r.1 == e.val && decide (r.2.2 < s.t)) with
  | some r => .next (unitReset (s.modFm (fun m => { m with unitResets := m.unitResets.erase r })) e.val r.2.1)
  | none => .next s

/-- R361, R382: engine e enters debug mode for a cause, with dpc at the instruction that has not run and its privilege in
dcsr; a wait ends. -/
def enterDebug (s : State) (e cause : Nat) : State :=
  engineLost (s.modEng e (fun g => { g with
    halted := true, dpc := g.pc, wait := Wait.none,
    dcsr := BitVec.ofNat 32 (setFieldN (setFieldN g.dcsr.toNat 6 3 cause) 0 2 (if g.user then 0 else 3)) })) e

/-- DEBUG_HALT, R361, R383: the engine halts; a wait ends with dpc at the waiting instruction. -/
def execDebugHalt (e : Fin 16) (s : State) : Out :=
  when (masterLive s .debug && (engineCode s e.val == 1 || engineCode s e.val == 2)) s (enterDebug s e.val 3)

/-- DEBUG_RESUME, R382: a halted engine resumes at dpc, at the privilege that dcsr holds. -/
def execDebugResume (e : Fin 16) (s : State) : Out :=
  when (masterLive s .debug && engineCode s e.val == 3) s
    (foremanAct (s.modEng e.val (fun g => { g with
      halted := false, pc := g.dpc, user := fieldN g.dcsr.toNat 0 2 != 3, readyAt := s.t })))

/-- DEBUG_ENGINE_RESET, R383: the debug module requests a unit reset of one engine. -/
def execDebugEngineReset (e : Fin 16) (s : State) : Out :=
  when (masterLive s .debug) s (requestUnitReset s e.val false)

/-- R378: an engine's exception score at a millisecond tick. -/
def engineTick (s : State) : State := (List.range 16).foldl (fun s e => s.sub (0x2700 + e) 5 1) s

/-- R355: a fabric cycle counted in mcycle, unless mcountinhibit bit 0 is set. -/
def Engine.tick (g : Engine) : Engine := if g.inhibit.getLsbD 0 then g else { g with mcycle := g.mcycle + 1 }

/-- R355, R397: what a fabric cycle adds to an engine: mcycle while its clock runs, the waiting cycles. -/
def engineCycle (s : State) (e : Nat) : State :=
  match engineCode s e with
  | 1 => s.modEng e Engine.tick
  | 2 => (s.modEng e Engine.tick).bump (0x2700 + e) 0x0F 32
  | _ => s

/-- R397: the conditions of the other engine words: the boot address is even and in a region of R367. -/
def enginePlainEff (e j : Nat) : WEff := fun w a s =>
  if j = 3 then
    if w.value.getLsbD 0 = true ∨ (fetchRegion e w.value.toNat).isNone = true then rej .range s else plainWrite (0x2700 + e) j w a s
  else plainWrite (0x2700 + e) j w a s

end Sys2Proof.Machine
end

