-- ==== Sys2Proof/Machine/Foreman.lean ====
section
/-! DEFINITION. The Foreman's commands (R401 to R432): requests, dispatch and end, hangs, placement, migration and
consolidation. -/
namespace Sys2Proof.Machine

/-- R19, R401: the activate command of a task: 1h requests an activation, pending from the cycle after the write. -/
def activateEff (t : Nat) : WEff := fun _ _ s =>
  let s1 := requestActivation s t 2 (activationRecord t 2 0 0 0 false)
  acc (if (s.task t).pending.isNone then s1.modTask t (fun x => { x with pendingAt := s.t + 1 }) else s1)

/-- ACTIVATE_COMMAND: a write of 2800h + t:19h. -/
def execActivateCommand (t : Fin 64) (w : Wr) (s : State) : Out :=
  .next (accessWrite s w false (taskIdx t.val) 0x19 (activateEff t.val))

/-- TASK_TIMER, R401: the period has elapsed; the timer requests an activation and runs on. -/
def execTaskTimer (t : Fin 64) (s : State) : Out :=
  match (s.task t.val).timer with
  | some due =>
    when (decide (due ≤ s.t)) s
      (requestActivation (s.modTask t.val (fun x => { x with timer := some (due + s.nat (taskIdx t.val) 0x0A) }))
        t.val 3 (activationRecord t.val 3 (lo32 s.now) 0 0 false))
  | none => .next s

/-! ### Dispatch and end -/

/-- Whether a pending activation of task t may be dispatched to engine e: placed there, two cycles old (R405). -/
def dispatchable (s : State) (t e : Nat) : Bool :=
  placement s t == 3 && taskHost s t == some e && (s.task t).pending.isSome && s.passed (s.task t).pendingAt 2

/-- R405: the task dispatched next on engine e: the highest priority, the lowest t among equals. -/
def dispatchChoice (s : State) (e : Nat) : Option Nat :=
  ((List.range 64).filter (fun t => dispatchable s t e)).foldl (fun best t =>
    match best with
    | none => some t
    | some b => if s.nat (taskIdx b) 5 < s.nat (taskIdx t) 5 then some t else best) none

/-- R402, R403: the record as it is dispatched, with the carried bits. -/
def dispatchRecord (x : TaskState) (rec : DWord) : DWord :=
  rec ||| BitVec.ofNat 64 ((if x.abandoned then 2 ^ 29 else 0) + (if x.migrated then 2 ^ 28 else 0) +
    (if x.damaged then 2 ^ 27 else 0))

/-- R405: the dispatch of task t on engine e. -/
def dispatchTask (s : State) (t e : Nat) : State :=
  let x := s.task t
  let r := dispatchRecord x (x.pending.getD 0)
  let d := 0x2790 + e
  let s1 := (((s.put d 1 (lo32 r)).put d 2 (hi32 r)).put d 3 (s.obj (taskIdx t) 0x0F)).put d 4 (s.obj (taskIdx t) 0x10)
  let s2 := (s1.bump (taskIdx t) 0x1D 32).putN (taskIdx t) 6 1
  let s3 := s2.modEng e (fun g => { g with xttask := BitVec.ofNat 32 (2 ^ 31 + t) })
  (s3.modTask t (fun x => { x with pending := none, abandoned := false, migrated := false, damaged := false })).modFm
    (fun m => { m with running := modAt m.running e (fun _ => some (t, s.t)) })

/-- DISPATCH, R405: a free, eligible engine takes the highest-priority pending activation of its tasks. -/
def execDispatch (e : Fin 16) (s : State) : Out :=
  if activation s e.val ≠ none ∨ engineEligible s e.val = false ∨ s.passed (s.fm.freeAt.getD e.val 0) 2 = false then
    .next s
  else
    match dispatchChoice s e.val with
    | some t => .next (dispatchTask s t e.val)
    | none => .next s

/-- R407, R408: the activation of task t, dispatched at `since` on engine e, ends in the cycle after the write. -/
def endActivation (s : State) (t e since : Nat) : State :=
  finishStop (freeEngine (recordRun s t (s.t + 1 - since)) e (s.t + 1)) t

/-- R407: the effect of a write of engine e's end word: 1h by engine e itself in machine mode. -/
def endEff (e : Nat) : WEff := fun w _ s =>
  match w.master, activation s e with
  | .engine g _, some (t, since) => if w.value = 1 ∧ g.val = e then acc (endActivation s t e since) else rej .state s
  | _, _ => rej .state s

/-- END_WRITE: a write of 2790h + e:05h. -/
def execEndWrite (e : Fin 16) (w : Wr) (s : State) : Out :=
  .next (accessWrite s w false (0x2790 + e.val) 5 (endEff e.val))

/-- TASK_HANG, R410: an activation has run X × B cycles: the engine is marked faulty, its unit reset requested and the
activation abandoned; reported UC. -/
def execTaskHang (e : Fin 16) (s : State) : Out :=
  match activation s e.val with
  | some (t, since) =>
    when (s.passed since (s.nat (taskIdx t) 0x0B * s.nat (taskIdx t) 9)) s
      (markFaulty ((abandon (requestUnitReset s e.val false) t e.val since).report 58 .uc) e.val)
  | none => .next s

/-- R412: bits written 1 clear the faulty marks of their engines. -/
def clearFaultEff : WEff := fun w _ s => acc (s.put 0x2780 5 (s.obj 0x2780 5 &&& ~~~ w.value))

/-- CLEAR_ENGINE_FAULT: a write of 2780h:06h. -/
def execClearEngineFault (w : Wr) (s : State) : Out := .next (accessWrite s w false 0x2780 6 clearFaultEff)

/-! ### Placement -/

/-- R416, R432: the effect of a write of a task's enable. -/
def taskEnableEff (t : Nat) : WEff := fun w _ s =>
  let i := taskIdx t
  let s1 := s.put i 1 w.value
  if w.value = 1 then
    if placement s t = 0 then
      acc (((s1.putN i 2 1).putN i 0x18 (taskLoad s t)).modTask t (fun x => { x with tried := false }))
    else acc s1
  else
    match placement s t with
    | 1 => acc (disableTask s1 t)
    | 2 => acc (s1.modTask t (fun x => { x with stop := true }))
    | 3 =>
      let s2 := if (s.task t).pending.isSome then (s1.bump i 0x25 16).modTask t (fun x => { x with pending := none }) else s1
      match s.fm.migration with
      | some m => if m.task = t then acc (s2.modTask t (fun x => { x with stop := true }))
          else acc (finishStop (s2.putN i 2 5) t)
      | none => acc (finishStop (s2.putN i 2 5) t)
    | 4 => acc ((if (s.task t).pending.isSome then s1.bump i 0x25 16 else s1).modTask t
        (fun x => { x with stop := true, pending := none }))
    | _ => acc s1

/-- TASK_ENABLE: a write of 2800h + t:01h. -/
def execTaskEnable (t : Fin 64) (w : Wr) (s : State) : Out :=
  .next (accessWrite s w false (taskIdx t.val) 1 (taskEnableEff t.val))

/-- R425, R427, R428: what becomes of task t, just placed on engine e, where the engine drains or is fit no longer. -/
def settlePlaced (s : State) (t e : Nat) : State :=
  if placement s t ≠ 3 then s
  else if engineFit s e = false then (if s.flag 0x2780 7 0 then evacuateTask s t else s)
  else if engineDraining s e = false then s
  else if s.flag (taskIdx t) 7 0 then s.modFm (fun m => { m with wanted := m.wanted ++ [(.consolidation, t, none)] })
  else refuseConsolidation s (e / 8)

/-- R416: the load of task t into engine e is complete. -/
def placedOn (s : State) (t e : Nat) : State :=
  let i := taskIdx t
  let s3 := (((s.putN i 2 3).putN i 3 e).putN i 0x1B 0).setBits i 0x26 1
  let s4 := s3.modTask t (fun x => { x with
    loadOn := none, migrated := true, timer := some (s.t + s.nat i 0x0A) })
  if (s.task t).stop then finishStop ((s4.putN i 2 5).modTask t (fun x => { x with stop := false })) t
  else settlePlaced s4 t e

/-- R417: whether the load of task t has gone on for as long as `time` gives its two copies. -/
def loadPast (time : Nat → Nat) (s : State) (t : Nat) : Bool :=
  placement s t == 2 && s.passed (s.task t).loadAt (time (s.nat (taskIdx t) 0x0E) + time (s.nat (taskIdx t) 0x11))

/-- R416: a load ends. -/
def endLoad (s : State) (t : Nat) : State :=
  match (s.task t).loadOn with
  | some e => foremanAct (placedOn s t e)
  | none => s

/-- TASK_PLACED, R416, R417: the code copy and the state fill are complete. -/
def execTaskPlaced (t : Fin 64) (s : State) : Out := when (loadPast copyTime s t.val) s (endLoad s t.val)

/-! ### Migration -/

/-- R419: whether the migration in progress may be cut: its preload has had the time that `time` gives it and no activation
of its task is in progress. -/
def cutPast (time : Nat → Nat) (s : State) (m : Migration) : Bool :=
  m.cut.isNone && placement s m.task == 3 && s.flag (taskIdx m.task) 6 0 == false &&
    s.passed m.since (time (s.nat (taskIdx m.task) 0x0E))

/-- R419, R422, R424: the cut: transit begins, and the copy carries the state as it stands on engine a. -/
def cutMigration (s : State) (m : Migration) : State :=
  match taskHost s m.task with
  | some a =>
    let (s1, l, bad) := stateCopy s m.task a
    (s1.putN (taskIdx m.task) 2 4).modFm (fun f => { f with migration := some { m with
      cut := some s.t, damaged := bad, image := l } })
  | none => s

/-- MIGRATION_CUT, R419: the preload is complete and no activation of the task is in progress. -/
def execMigrationCut (s : State) : Out :=
  match s.fm.migration with
  | some m => when (cutPast copyTime s m) s (cutMigration s m)
  | none => .next s

/-- R419, R422, R424: the swap of a migration, cut at `cut`. The regions on the target hold what was copied, whatever the
target wrote there before. -/
def swapHost (s : State) (m : Migration) (cut : Nat) : State :=
  let i := taskIdx m.task
  let s1 := storeState (storeCode s m.task m.dst m.code) m.task m.dst m.image
  let s2 := (((s1.put i 0x1C (s.obj i 3)).putN i 3 m.dst).putN i 0x27 0xFF).putN i 2 3
  let s3 := ((s2.bump 0x2780 0x0B 32).bump i 0x21 16).setBits i 0x26 (if m.damaged then 34 else 2)
  let s4 := (s3.putN i 0x24 (s.t - cut)).report 58 .ce
  let s5 := (s4.modFm (fun f => { f with migration := none })).modTask m.task (fun x => { x with
    migrated := true, damaged := x.damaged || m.damaged })
  foremanAct (if (s.task m.task).stop then
      finishStop ((s5.putN i 2 5).modTask m.task (fun x => { x with stop := false })) m.task
    else s5)

/-- MIGRATION_SWAP, R419: the cycle after the last state word is written, the target is the host. -/
def execMigrationSwap (s : State) : Out :=
  match s.fm.migration with
  | some m =>
    match m.cut with
    | some c => when (s.passed c (copyTime (s.nat (taskIdx m.task) 0x11) + 1)) s (swapHost s m c)
    | none => .next s
  | none => .next s

/-- R417, R419, R420: the loads, the cut and the swap that have had their longest time come to pass. -/
def dueCopies (s : State) : State :=
  let s1 := (List.range 64).foldl (fun s t => if loadPast copyLimit s t then endLoad s t else s) s
  match s1.fm.migration with
  | some m =>
    match m.cut with
    | some c => if s1.passed c (copyLimit (s1.nat (taskIdx m.task) 0x11) + 1) then swapHost s1 m c else s1
    | none => if cutPast copyLimit s1 m then cutMigration s1 m else s1
  | none => s1

/-- What the Foreman does in each cycle, on what the cycle before left: lost engines, the spare set (R414), the placement
of unplaced tasks (R416), the copies that end, and the next migrations (R421, R426). -/
def foremanCycle (s : State) : State :=
  let s1 := lostEngines s
  let view := placementView s1
  let s2 := placeWaiting (view != s1.fm.judged) (updateSpares s1)
  foremanAct (dueCopies (s2.modFm (fun m => { m with judged := view })))

/-- R431: the effect of a move command: a movable placed task and an eligible engine other than the host that passes
the checks of R415. -/
def moveEff (t : Nat) : WEff := fun w _ s =>
  let b := w.value.toNat
  if s.flag (taskIdx t) 7 0 ∧ placement s t = 3 ∧ b < 16 ∧ taskHost s t ≠ some b ∧ engineTakes s t b = true ∧
      (s.fm.migration.map (·.task)) ≠ some t then
    acc (foremanAct (s.modFm (fun m => { m with wanted := m.wanted ++ [(.command, t, some b)] })))
  else rej .state s

/-- MOVE_COMMAND: a write of 2800h + t:1Ah. -/
def execMoveCommand (t : Fin 64) (w : Wr) (s : State) : Out :=
  .next (accessWrite s w false (taskIdx t.val) 0x1A (moveEff t.val))

/-- R427: cluster c is consolidated: its engines drain and their placed tasks ask for a migration; a task that is not
movable refuses it (R428). -/
def consolidate (s : State) (c : Nat) : State :=
  let here := (List.range 64).filter (fun t => match taskHost s t with | some e => e / 8 == c | none => false)
  let s1 := updateSpares ((s.putN 0x2780 8 (1 + c)).modFm (fun m => { m with consolidation := some (c, s.t) }))
  if here.any (fun t => !s.flag (taskIdx t) 7 0) then foremanAct (refuseConsolidation s1 c)
  else
    foremanAct (s1.modFm (fun m => { m with
      wanted := m.wanted ++ (here.filter (fun t => placement s t == 3)).map (fun t => (.consolidation, t, none)) }))

/-- R44, R427: whether the Foreman reports no task placed on cluster c. -/
def clusterEmpty (s : State) (c : Nat) : Bool :=
  (List.range 8).all (fun k => (tasksOn s (8 * c + k)).isEmpty)

/-- CONSOLIDATION_TIMEOUT, R428: the consolidation has not ended within its timeout and is refused. -/
def execConsolidationTimeout (s : State) : Out :=
  match s.fm.consolidation with
  | some (c, t0) => when (s.passed t0 (cyclesUs (s.nat 0x2780 9)) && !clusterEmpty s c) s
      (foremanAct (refuseConsolidation s c))
  | none => .next s

/-! ### Settings -/

/-- The task words that are written only while the task is disabled (R430). -/
def taskFrozen (j : Nat) : Bool :=
  [4, 7, 8, 9, 0x0A, 0x0C, 0x0D, 0x0E, 0x10, 0x11, 0x12, 0x13, 0x14, 0x15, 0x16].contains j

/-- R438: whether a task word's value fits the words it stands with. -/
def taskWordFits (s : State) (t j : Nat) (v : Nat) : Bool :=
  let i := taskIdx t
  match j with
  | 9 => decide (1 ≤ v) && decide (v ≤ s.nat i 0x0A)
  | 0x0A => decide (s.nat i 9 ≤ v)
  | 0x0C => v % 4 == 0 && inSram v (4 * s.nat i 0x0E)
  | 0x0D => v % 4 == 0 && decide (v + 4 * s.nat i 0x0E ≤ 0x8000)
  | 0x0E => decide (s.nat i 0x0D + 4 * v ≤ 0x8000) && inSram (s.nat i 0x0C) (4 * v)
  | 0x10 => v % 4 == 0 && decide (0x10000 ≤ v) && decide (v + 4 * s.nat i 0x11 ≤ 0x18000)
  | 0x11 => decide (s.nat i 0x10 + 4 * v ≤ 0x18000)
  | 0x12 => v == 0 || (v % 4 == 0 && inSram v (4 * s.nat i 0x11))
  | _ => true

/-- R430, R438: the conditions of the other task words; the warden flag is one task's. -/
def taskPlainEff (t j : Nat) : WEff := fun w a s =>
  let i := taskIdx t
  if taskWordFits s t j w.value.toNat = false then rej .range s
  else if taskFrozen j = true ∧ placement s t ≠ 0 then rej .state s
  else if j = 8 then
    if w.value = 1 then
      if s.nat 0x2780 0x0F < 64 ∧ s.nat 0x2780 0x0F ≠ t then rej .state s
      else acc (updateWarden ((s.put i 8 1).putN 0x2780 0x0F t))
    else
      let s1 := s.put i 8 0
      acc (updateWarden (if s.nat 0x2780 0x0F = t then s1.putN 0x2780 0x0F 0xFF else s1))
  else if j = 9 ∨ j = 0x0A then
    let s1 := s.put i j w.value
    acc (s1.putN i 0x18 (taskLoad s1 t))
  else plainWrite i j w a s

end Sys2Proof.Machine
end

