-- ==== Sys2Proof/Machine/Tide.lean ====
section
/-! DEFINITION. The Tide wheels, the lock loop, the encoders and the SYNC pins (R95 to R131). -/
namespace Sys2Proof.Machine

/-! ### Glide and lock state -/

/-- The target of a glide (R103): the signed F_own in modes 1h and 3h, its magnitude in modes 2h and 4h. -/
def glideTarget (s : State) (u : Nat) : Int :=
  if wheelMode s u = 2 ∨ wheelMode s u = 4 then absI (s.wheel u).fown else (s.wheel u).fown

/-- The slew limit S of wheel u. -/
def wheelSlew (s : State) (u : Nat) : Nat := s.nat (wheelIdx u) 5

/-- Whether F_app of wheel u moves under R103: lock state free or glide. -/
def glides (s : State) (u : Nat) : Bool := wheelLock s u == 1 || wheelLock s u == 4

/-- R104: glide ends in free in the cycle in which F_app equals the target. -/
def settleLock (s : State) (u : Nat) : State :=
  if wheelLock s u = 4 ∧ (s.wheel u).fapp = glideTarget s u then s.putN (wheelIdx u) 0x0B 1 else s

/-- R103: with S at 0, F_app holds the target from the cycle in which the target takes effect. -/
def settle (s : State) (u : Nat) : State :=
  if glides s u = true ∧ wheelSlew s u = 0 then
    settleLock (s.modWheel u (fun w => { w with fapp := glideTarget s u })) u
  else settleLock s u

/-- R103: the step of one millisecond tick towards the target. -/
def glideStep (s : State) (u : Nat) : State :=
  if glides s u = false ∨ wheelMode s u = 0 then s
  else
    let t := glideTarget s u
    let S : Int := wheelSlew s u
    let f := (s.wheel u).fapp
    let f' := if S = 0 ∨ absI (t - f) ≤ S then t else f + signI (t - f) * S
    settleLock (s.modWheel u (fun w => { w with fapp := f' })) u

/-- R111: a wheel in acquire or locked loses its reference and glides; reported CE from FS1. -/
def referenceLost (s : State) (u : Nat) : State :=
  let s1 := s.setBits (wheelIdx u) 0x1D (if wheelLock s u = 3 then 6 else 4)
  settle ((s1.putN (wheelIdx u) 0x0B 4).report 1 .ce) u

/-- R124: a following wheel whose encoder is lost or disabled glides from the encoder-derived frequency. -/
def encoderGlide (s : State) (u : Nat) : State :=
  let f := wheelF s u
  let s1 := (s.modWheel u (fun w => { w with fapp := f })).putN (wheelIdx u) 0x0B 4
  settle (s1.setBits (wheelIdx u) 0x1D 16) u

/-- Every wheel that follows encoder k enters glide (R124). -/
def dropFollowers (s : State) (k : Nat) : State :=
  (List.range 8).foldl (fun s u =>
    if wheelLock s u = 5 ∧ wheelEnc s u = k then encoderGlide s u else s) s

/-! ### Writes of a wheel's objects -/

/-- Whether encoder k can drive a wheel of `pp` pole pairs (R101): enabled, not lost, CPR at least 4 × PP. -/
def encoderDrives (s : State) (k pp : Nat) : Bool :=
  s.flag (encIdx k) 1 0 && !s.flag (encIdx k) 0x0F 1 && decide (4 * pp ≤ s.nat (encIdx k) 2)

/-- R101: the effect of a write of the mode. The model's choice: after the loss of its encoder in mode 3h the wheel's
encoder-derived value is the F_app of the glide in progress. -/
def wheelModeEff (u : Nat) : WEff := fun w _ s =>
  let i := wheelIdx u
  let m := wheelMode s u
  let f := wheelF s u
  let own := (s.wheel u).fown
  match w.value.toNat with
  | 0 => acc (((s.putN i 1 0).putN i 0x0B 0).modWheel u
      (fun x => { x with fapp := 0, integral := 0, start := none, loop := none }))
  | 1 =>
    if m = 1 then acc s
    else
      acc (settle (((s.putN i 1 1).putN i 0x0B 1).modWheel u
        (fun x => { x with fapp := if m = 0 then own else f, loop := none })) u)
  | 3 =>
    if encoderDrives s (wheelEnc s u) (wheelPP s u) then
      let a := encoderAngle s (wheelEnc s u) (wheelPP s u) (s.obj i 0x0C)
      acc (((s.putN i 1 3).putN i 0x0B 5).modWheel u (fun x => { x with phase := phaseOf a, prev := phaseOf a, loop := none }))
    else rej .state s
  | v =>
    acc (settle (((s.putN i 1 v).putN i 0x0B 1).modWheel u
      (fun x => { x with
        fapp := if m = 0 then absI own else if m = 3 then absI f else f,
        integral := 0, start := none, run := 0, rejects := 0, armed := false, loop := none })) u)

/-- R99: whether a signed F40 value is one that F_own can hold. -/
def fownValid (mag : Nat) : Bool := mag == 0 || (decide (550 ≤ mag) && decide (mag ≤ 5497558138))

/-- R130: the staging after a discarded commit: 03h and 04h read F_own in force. -/
def dropFrequencyStaging (u : Nat) (s : State) : State :=
  let f := (s.wheel u).fown
  (s.putN (wheelIdx u) 3 (f.natAbs % 256)).putN (wheelIdx u) 4 (if f < 0 then 1 else 0)

/-- R130: a write of the own frequency word commits it with the staged fraction and direction as F_own; outside R99
it is discarded and the staging dropped. -/
def ownFrequencyEff (u : Nat) : WEff := fun w _ s =>
  let i := wheelIdx u
  let mag := w.value.toNat * 256 + s.nat i 3
  if fownValid mag then
    let f : Int := if s.flag i 4 0 then -(mag : Int) else mag
    acc (settle ((s.put i 2 w.value).modWheel u (fun x => { x with fown := f })) u)
  else rej .range (dropFrequencyStaging u s)

/-- OWN_FREQUENCY_COMMIT: a write of 2100h + w × 10h:02h. -/
def execOwnFrequencyCommit (u : Fin 8) (w : Wr) (s : State) : Out :=
  .next (accessWrite s w false (wheelIdx u.val) 2 (ownFrequencyEff u.val))

/-- R130, R138: the angle set jumps without a crossing; discarded in lock state follow. -/
def angleSetEff (u : Nat) : WEff := fun w _ s =>
  if wheelLock s u = 5 then rej .state s
  else acc (s.modWheel u (fun x => { x with phase := phaseOf w.value, prev := phaseOf w.value }))

/-- ANGLE_SET: a write of 2100h + w × 10h:07h. -/
def execAngleSet (u : Fin 8) (w : Wr) (s : State) : Out :=
  .next (accessWrite s w false (wheelIdx u.val) 7 (angleSetEff u.val))

/-- R112: the lock loop starts over: period start and integral cleared, lock state free, F_app kept. The model's choice:
with a slew limit of 0 too, it stands until the next tick moves it. -/
def loopRestart (s : State) (u : Nat) : State :=
  (s.modWheel u (fun x => { x with start := none, integral := 0, run := 0, rejects := 0, loop := none })).putN
    (wheelIdx u) 0x0B 1

/-- R112: a write of MULT; in modes 2h and 4h the loop starts over. -/
def multEff (u : Nat) : WEff := fun w _ s =>
  let s1 := s.store (wheelIdx u) 0x0D w.value
  acc (if wheelMode s u = 2 ∨ wheelMode s u = 4 then loopRestart s1 u else s1)

/-- TURNS_PER_REFERENCE_WRITE: a write of 2100h + w × 10h:0Dh. -/
def execTurnsPerReferenceWrite (u : Fin 8) (w : Wr) (s : State) : Out :=
  .next (accessWrite s w false (wheelIdx u.val) 0x0D (multEff u.val))

/-- R112: a write of the zero-crossing channel; in mode 4h the loop starts over. -/
def zeroChannelEff (u : Nat) : WEff := fun w _ s =>
  let s1 := s.store (wheelIdx u) 0x15 w.value
  acc (if wheelMode s u = 4 then loopRestart (s1.modWheel u (fun x => { x with armed := false })) u else s1)

/-- R130: encoder and pole pairs are not written in mode 3h; a slew limit of 0 acts at once; other words are plain. -/
def wheelPlainEff (u j : Nat) : WEff := fun w a s =>
  if (j = 0x18 ∨ j = 0x19) ∧ wheelMode s u = 3 then rej .state s
  else if j = 5 then acc (settle (s.store (wheelIdx u) 5 w.value) u)
  else plainWrite (wheelIdx u) j w a s

/-! ### The lock loop -/

/-- R108: a reference event on wheel u in the present cycle, back-dated by `L` cycles. A first event starts a period;
a period outside the capture range is a reject; otherwise the loop's result waits its 40 cycles. What R112 and R130 let
take effect at the event is taken here. -/
def referenceEvent (s : State) (u L : Nat) : State :=
  let i := wheelIdx u
  let x := s.wheel u
  let n := s.t
  let s := s.modWheel u (fun x => { x with
    lossFactor := s.nat i 0x13, mult := s.nat i 0x0D, own := x.fown.natAbs })
  match x.start with
  | none => s.modWheel u (fun x => { x with start := some n })
  | some st =>
    let T : Int := (max 1 (n - st) : Nat)
    let own := absI x.fown
    let fper := tdiv ((s.nat i 0x0D : Int) * 1099511627776) T
    let rg := tdiv (own * s.nat i 0x10) 65536
    if fper < own - rg ∨ own + rg < fper then
      let s1 := (s.bump i 0x1B 16).modWheel u (fun x => { x with
        rejects := x.rejects + 1, start := if fper < own - rg then some n else x.start })
      if (wheelLock s u = 2 ∨ wheelLock s u = 3) ∧ s.nat i 0x14 ≤ x.rejects + 1 then referenceLost s1 u else s1
    else
      let cap := x.angle - word32 (tdiv (wheelF s u * L) 256)
      s.modWheel u (fun x => { x with
        start := some n, rejects := 0,
        loop := some { due := n + 40, period := T, fper := fper, range := rg, fown := own,
                       ep := angDiff (s.obj i 0x0C) cap, kp := s.nat i 0x0E, ki := s.nat i 0x0F,
                       window := s.nat i 0x11, lockCount := s.nat i 0x12 } })

/-- R110, R111: the lock state after a loop update `r`, from state `st` (2 acquire, 3 locked). -/
def lockJudge (s : State) (u : Nat) (st : Nat) (run : Nat) (r : LoopResult) : State :=
  let i := wheelIdx u
  let inside := decide (absI r.ep ≤ r.window)
  let run' := if inside = (st == 2) then run + 1 else 0
  if r.lockCount ≤ run' then
    ((s.putN i 0x0B (if st = 2 then 3 else 2)).setBits i 0x1D (if st = 2 then 1 else 2)).modWheel u
      (fun x => { x with run := 0 })
  else (s.putN i 0x0B st).modWheel u (fun x => { x with run := run' })

/-- R98, R108, R110, R111: the loop update: integral, F_app, phase error and lock state. -/
def loopUpdate (s : State) (u : Nat) (r : LoopResult) : State :=
  let i := wheelIdx u
  let st := wheelLock s u
  let fresh := st = 1 ∨ st = 4
  let i0 := if fresh then 0 else (s.wheel u).integral
  let int' := clampI (i0 + tdiv (r.ki * r.ep) r.period) (-r.range) r.range
  let f := boundF (clampI (r.fper + tdiv (r.kp * r.ep) r.period + int') (r.fown - r.range) (r.fown + r.range))
  let s1 := (s.modWheel u (fun x => { x with integral := int', fapp := f, loop := none })).putI i 0x1A r.ep
  let s2 := if fresh then s1.setBits i 0x1D 8 else s1
  lockJudge s2 u (if fresh then 2 else st) (if fresh then 0 else (s.wheel u).run) r

/-- LOCK_LOOP_UPDATE, R97, R108: 40 cycles after an admitted reference event the loop's result takes effect: given in
cycle n + 39, cycle n + 40 is the first to add the new F_app. -/
def execLockLoopUpdate (u : Fin 8) (s : State) : Out :=
  match (s.wheel u.val).loop with
  | some r =>
    when (decide (r.due ≤ s.t + 1) && (wheelMode s u.val == 2 || wheelMode s u.val == 4)) s (loopUpdate s u.val r)
  | none => .next s

/-- R111, R112, R130: no loop update for LF ÷ 8 × T_exp cycles after the period start, with LF and the T_exp of R107 as
the last reference event took them. -/
def referenceOverdue (s : State) (u : Nat) : Bool :=
  let w := s.wheel u
  match w.start with
  | some st => decide (w.lossFactor * w.mult * 1099511627776 ≤ (s.t - st) * 8 * w.own) && w.own != 0
  | none => false

/-- REFERENCE_LOST, R111: a wheel in acquire or locked whose reference is overdue enters glide. -/
def execReferenceLost (u : Fin 8) (s : State) : Out :=
  when ((wheelLock s u.val == 2 || wheelLock s u.val == 3) && referenceOverdue s u.val) s (referenceLost s u.val)

/-- R106, R107: the zero-crossing detector of wheel u sees fast result `x`; `L` is the channel's group delay (R109). The
model's choice: a crossing that the blanking ignores disarms the detector. -/
def zeroCrossing (s : State) (u : Nat) (x : Int) (valid : Bool) (L : Nat) : State :=
  let w := s.wheel u
  if valid = false then s.modWheel u (fun w => { w with armed := false })
  else if x ≤ -(s.nat (wheelIdx u) 0x16 : Int) ∧ ¬(w.armed = true ∧ 0 ≤ x) then
    s.modWheel u (fun w => { w with armed := true })
  else if w.armed = true ∧ 0 ≤ x then
    let s1 := s.modWheel u (fun w => { w with armed := false })
    let blanked := match w.start with
      | some st => decide ((s.t - st) * 256 * w.own < s.nat (wheelIdx u) 0x17 * w.mult * 1099511627776)
      | none => false
    if blanked then s1 else referenceEvent s1 u L
  else s

/-- R106: every wheel in mode 4h on channel c sees a fast result. -/
def zeroCrossings (s : State) (c : Nat) (x : Int) (valid : Bool) (L : Nat) : State :=
  (List.range 8).foldl (fun s u =>
    if wheelMode s u = 4 ∧ s.nat (wheelIdx u) 0x15 = c then zeroCrossing s u x valid L else s) s

/-! ### Encoders -/

/-- R119: the loss score reaches the limit and the encoder is lost; reported UC from FS1, its followers glide. The model's
choice: a limit written at or below the present score is judged when the score next adds one. -/
def encoderLossCheck (s : State) (k : Nat) : State :=
  if s.flag (encIdx k) 0x0F 1 = false ∧ s.nat (encIdx k) 0x0B ≤ s.nat (encIdx k) 0x12 then
    dropFollowers ((s.setBits (encIdx k) 0x0F 2).report 1 .uc) k
  else s

/-- R116 to R119: the loss score adds one. -/
def encoderScore (s : State) (k : Nat) : State := encoderLossCheck (s.bump (encIdx k) 0x12 8) k

/-- R120: the count interval after a count in direction `fwd` at the present cycle. The model's choices: between counts of
opposite directions the interval takes the later one's sign, and a count clears the stalled bit (R125) though the interval
still reads 0. -/
def countInterval (s : State) (k : Nat) (fwd : Bool) : State :=
  let e := s.enc k
  let signed : Int := match e.lastCount with
    | some c => if fwd then ((s.t - c : Nat) : Int) else -((s.t - c : Nat) : Int)
    | none => 0
  let ready := e.lastCount.isSome && (!e.rest || e.lastFwd == fwd)
  let s1 := if ready then s.putI (encIdx k) 0x0E signed else s
  (s1.clrBits (encIdx k) 0x0F 4).modEnc k (fun e => { e with
    lastCount := some s.t, lastFwd := fwd, rest := if ready then false else e.rest })

/-- R117: in index mode 3h, CPR + tolerance counts in one direction without a pulse are an index error. The model's choice:
the counts start over at a turn of direction, at an error and when 3h is written. -/
def indexOverrun (s : State) (k : Nat) (fwd : Bool) : State :=
  let e := s.enc k
  let n : Int := if fwd then (if 0 ≤ e.sinceIndex then e.sinceIndex + 1 else 1)
    else (if e.sinceIndex ≤ 0 then e.sinceIndex - 1 else -1)
  if s.nat (encIdx k) 5 ≠ 3 then s
  else if s.nat (encIdx k) 2 + s.nat (encIdx k) 8 ≤ n.natAbs then
    encoderScore ((s.bump (encIdx k) 0x11 16).modEnc k (fun e => { e with sinceIndex := 0 })) k
  else s.modEnc k (fun e => { e with sinceIndex := n })

/-- R113: one count in direction `fwd`: the position moves modulo CPR. -/
def encoderStep (s : State) (k : Nat) (fwd : Bool) : State :=
  let cpr := s.nat (encIdx k) 2
  let p := s.nat (encIdx k) 0x0C
  let p' := if fwd then (p + 1) % cpr else (p + cpr - 1) % cpr
  indexOverrun (countInterval (s.putN (encIdx k) 0x0C p') k fwd) k fwd

/-- R72, R114: the level that an input filter of setting N accepts: the sampled one once stable for N + 1 cycles. -/
def acceptedLevel (s : State) (k : Nat) (old level : Bool) (held : Nat) : Bool :=
  if s.nat (encIdx k) 4 + 1 ≤ held then level && !s.sup.vddioLow else old

/-- ENCODER_COUNT, R113, R114, R116: a sample of A and B. One accepted change is a count, forward when A leads B and the
invert bit is 0; a change of both is a count error. The model's choice: the accepted levels follow the balls while the
encoder is disabled and while D5 is not ON, so decoding starts from the levels that stand. -/
def execEncoderCount (k : Fin 4) (a b : Bool) (heldA heldB : Nat) (s : State) : Out :=
  let e := s.enc k.val
  let a' := acceptedLevel s k.val e.a a heldA
  let b' := acceptedLevel s k.val e.b b heldB
  let s1 := s.modEnc k.val (fun e => { e with a := a', b := b' })
  if s.on 5 = false ∨ s.flag (encIdx k.val) 1 0 = false then .next s1
  else if e.a != a' && e.b != b' then .next (encoderScore (s1.bump (encIdx k.val) 0x10 16) k.val)
  else if e.a == a' && e.b == b' then .next s1
  else
    let lead := if e.a != a' then a' != b' else a' == b'
    .next (encoderStep s1 k.val (lead != s.flag (encIdx k.val) 3 0))

/-- R117: whether an index pulse counts: the qualifier is off, or A and B are at its levels. -/
def indexQualified (s : State) (k : Nat) : Bool :=
  !s.flag (encIdx k) 6 2 || (s.flag (encIdx k) 6 1 == (s.enc k).b && s.flag (encIdx k) 6 0 == (s.enc k).a)

/-- R117: the distance of two positions modulo CPR. -/
def positionError (cpr p q : Nat) : Nat := min ((p + cpr - q) % cpr) ((q + cpr - p) % cpr)

/-- R117: the effect of a counted index pulse in the present index mode. -/
def indexPulse (s : State) (k : Nat) : State :=
  let i := encIdx k
  let p := s.obj i 0x0C
  let cap := (s.put i 0x0D p).modEnc k (fun e => { e with sinceIndex := 0 })
  let home := (cap.put i 0x0C (s.obj i 7)).setBits i 0x0F 1
  match s.nat i 5 with
  | 0 => s
  | 1 => cap
  | 2 => if s.flag i 0x0F 0 then cap else home
  | _ =>
    if s.flag i 0x0F 0 = false then home
    else if positionError (s.nat i 2) p.toNat (s.nat i 7) ≤ s.nat i 8 then cap.put i 0x0C (s.obj i 7)
    else encoderScore (cap.bump i 0x11 16) k

/-- INDEX_PULSE, R114, R117: a rising edge of the accepted index level. -/
def execIndexPulse (k : Fin 4) (held : Nat) (s : State) : Out :=
  when (s.on 5 && s.flag (encIdx k.val) 1 0 && decide (s.nat (encIdx k.val) 4 + 1 ≤ held) && !s.sup.vddioLow &&
    indexQualified s k.val) s (indexPulse s k.val)

/-- ENCODER_STALL, R120: no count for the stall time; the interval reads 0 until two counts in one direction. The model's
choice: the stalled bit (R125) sets here, never for an encoder that has not counted, and the enable clears it. -/
def execEncoderStall (k : Fin 4) (s : State) : Out :=
  match (s.enc k.val).lastCount with
  | some c =>
    when (s.on 5 && s.flag (encIdx k.val) 1 0 && s.passed c (cyclesUs (s.nat (encIdx k.val) 0x0A))) s
      (((s.putN (encIdx k.val) 0x0E 0).setBits (encIdx k.val) 0x0F 4).modEnc k.val
        (fun e => { e with lastCount := none, rest := true }))
  | none => .next s

/-- R125: the effect of a write of an encoder's enable. -/
def encoderEnableEff (k : Nat) : WEff := fun w _ s =>
  let i := encIdx k
  if w.value = 1 ∧ s.flag i 1 0 = false then
    acc (((((s.putN i 1 1).putN i 0x0C 0).putN i 0x0F 0).putN i 0x12 0).putN i 0x0E 0 |>.modEnc k
      (fun e => { e with lastCount := none, rest := true, sinceIndex := 0 }))
  else if w.value = 0 ∧ s.flag i 1 0 = true then acc ((dropFollowers s k).putN i 1 0)
  else acc s

/-- ENCODER_ENABLE: a write of 21C0h + k:01h. -/
def execEncoderEnable (k : Fin 4) (w : Wr) (s : State) : Out :=
  .next (accessWrite s w false (encIdx k.val) 1 (encoderEnableEff k.val))

/-- R125: the conditions of the other encoder words. -/
def encoderPlainEff (k j : Nat) : WEff := fun w a s =>
  let i := encIdx k
  if (j = 2 ∨ j = 3) ∧ s.flag i 1 0 = true then rej .state s
  else if j = 7 ∧ s.nat i 2 ≤ w.value.toNat then rej .range s
  else if j = 5 ∧ 2 ≤ w.value.toNat then
    acc (((s.store i 5 w.value).clrBits i 0x0F 1).modEnc k (fun e => { e with sinceIndex := 0 }))
  else plainWrite i j w a s

/-! ### SYNCI and SYNCO -/

/-- R126: the deglitch length D in fabric cycles. -/
def synciDeglitch (s : State) : Nat := cyclesNs (s.nat 0x21B2 2)

/-- SYNCI_EDGE, R72, R126: a level stable for D cycles is accepted; an edge of the selected polarity is counted and is a
reference event of every wheel in mode 2h. While D5 is not ON the accepted level is the ball's and gives no edge. -/
def execSynciEdge (rising : Bool) (held : Nat) (s : State) : Out :=
  let level := rising && !s.sup.vddioLow
  if s.tide.synciLevel = level ∨ (s.on 5 = true ∧ held < synciDeglitch s) then .next s
  else
    let s1 := { s with tide := { s.tide with synciLevel := level } }
    if s.on 5 = true ∧ level = (s.obj 0x21B2 1 == 0) then
      .next ((List.range 8).foldl (fun s u =>
        if wheelMode s u = 2 then referenceEvent s u (3 + synciDeglitch s) else s) (s1.bump 0x21B2 7 32))
    else .next s1

/-- R128: a pulse request: SYNCO is high from cycle `rise` for the pulse width; a request while high restarts it. -/
def syncoRequest (s : State) (rise : Nat) : State :=
  { s with tide := { s.tide with
      syncoRise := some (match s.tide.syncoRise with | some r => min r rise | none => rise),
      syncoEnd := some (rise + cyclesNs (s.nat 0x21B2 6)) } }

/-- R127: the level that SYNCO drives. -/
def syncoLevel (s : State) : Bool :=
  if s.on 5 = false then false
  else
    match s.tide.syncoSource with
    | 3 => s.tide.synciLevel
    | 0 => false
    | _ => match s.tide.syncoRise with
      | some r => decide (r ≤ s.t)
      | none => false

/-- SYNCO_PULSE_END, R128, R129: the width has passed; SYNCO falls and a changed source takes effect. -/
def execSyncoPulseEnd (s : State) : Out :=
  match s.tide.syncoEnd with
  | some e =>
    when (decide (e ≤ s.t)) s
      { s with tide := { s.tide with syncoRise := none, syncoEnd := none, syncoSource := s.nat 0x21B2 3 } }
  | none => .next s

/-- SYNCO_TURN_CROSSING, R127: with source 1h, the selected wheel has made V forward crossings of angle 0. -/
def execSyncoTurnCrossing (s : State) : Out :=
  when (s.on 5 && s.tide.syncoSource == 1 && decide (s.nat 0x21B2 5 ≤ s.tide.turnCount)) s
    (syncoRequest { s with tide := { s.tide with turnCount := 0 } } (s.t + 2))

/-- R129: a change of source waits for a pulse in progress; a write of the divider restarts its count. -/
def syncEff (j : Nat) : WEff := fun w a s =>
  if j = 3 then
    let s1 := s.store 0x21B2 3 w.value
    acc (if s.tide.syncoEnd.isSome then s1 else { s1 with tide := { s1.tide with syncoSource := w.value.toNat } })
  else if j = 5 then
    let s1 := s.store 0x21B2 5 w.value
    acc { s1 with tide := { s1.tide with turnCount := 0 } }
  else plainWrite 0x21B2 j w a s

/-! ### The advance of a fabric cycle -/

/-- R97: a phase that adds F_app, and the turn count's change. -/
def advancePhase (w : Wheel) (f : Int) : Wheel :=
  let x := (w.phase.toNat : Int) + f
  let turn : Int := if 1099511627776 ≤ x then 1 else if x < 0 then -1 else 0
  { w with prev := w.phase, phase := BitVec.ofInt 40 x, turns := w.turns + word32 turn }

/-- R121: a following wheel takes angle `a`, turning with its wraps. -/
def followAngle (w : Wheel) (a : Word) : Wheel :=
  let d := angDiff a w.angle
  let turn : Int := if 0 < d ∧ a.toNat < w.angle.toNat then 1 else if d < 0 ∧ w.angle.toNat < a.toNat then -1 else 0
  { w with prev := w.phase, phase := phaseOf a, turns := w.turns + word32 turn }

/-- R97, R121: wheel u in the next fabric cycle. -/
def wheelTick (s : State) (u : Nat) : State :=
  if wheelMode s u = 0 then s.modWheel u (fun w => { w with prev := w.phase })
  else if wheelLock s u = 5 then
    s.modWheel u (fun w => followAngle w (encoderAngle s (wheelEnc s u) (wheelPP s u) (s.obj (wheelIdx u) 0x0C)))
  else s.modWheel u (fun w => advancePhase w w.fapp)

/-- R127: the forward crossings of angle 0 by the wheel that SYNCO names. The model's choice: the count stands while another
source is selected and when the wheel changes. -/
def syncoCount (s : State) : State :=
  let w := s.wheel (s.nat 0x21B2 4)
  if s.tide.syncoSource = 1 ∧ crossesFwd w.prevAngle w.angle 0 = true then
    { s with tide := { s.tide with turnCount := s.tide.turnCount + 1 } }
  else s

/-- The Tide block in the next fabric cycle: every wheel moves, D5 ON. -/
def tideCycle (s : State) : State :=
  if s.on 5 then syncoCount ((List.range 8).foldl wheelTick s) else s

/-- The Tide block at a millisecond tick (R93, R103, R118): glides and encoder loss scores. -/
def tideTick (s : State) : State :=
  if s.on 5 then
    (List.range 4).foldl (fun s k => s.sub (encIdx k) 0x12 1) ((List.range 8).foldl glideStep s)
  else s

end Sys2Proof.Machine
end

