-- ==== Sys2Proof/Machine/Marks.lean ====
section
/-! DEFINITION. Marks (R133 to R151): firing and the repeat rules, the actions on their way to cycle t0 + 2, the post
FIFO and the mark unit. -/
namespace Sys2Proof.Machine

/-- The object index of mark m (R133). -/
def markIdx (m : Nat) : Nat := 0x2180 + m / 32

/-- The subindex of word k of mark m (R133). -/
def markSub (m k : Nat) : Nat := 1 + 4 * (m % 32) + k

/-- Mark m beyond its words. -/
def State.mark (s : State) (m : Nat) : Mark := (s.tide.marks.find? (fun x => x.index == m)).getD { index := m }

/-- Mark m changed; marks are kept in ascending order, one at its reset values is not listed. -/
def State.modMark (s : State) (m : Nat) (f : Mark → Mark) : State :=
  let x := { f (s.mark m) with index := m }
  let rest := s.tide.marks.filter (fun y => y.index != m)
  { s with tide := { s.tide with
      marks := if x = { index := m } then rest
        else rest.filter (fun y => decide (y.index < m)) ++ [x] ++ rest.filter (fun y => decide (m < y.index)) } }

/-- R141, R142: what a write of the present cycle has replaced word k of mark m by, its old content. -/
def oldWord (s : State) (m k : Nat) : Option Word :=
  if (s.mark m).written = s.t then Sparse.find (s.mark m).old k else none

/-- R141, R142: word k of mark m as it acts in the present cycle: a write takes effect in the next one. -/
def markWord (s : State) (m k : Nat) : Word := (oldWord s m k).getD (s.obj (markIdx m) (markSub m k))

/-- R141, R142: word k of mark m written; the word before the cycle's first write of it acts until the cycle ends. -/
def writeMark (s : State) (m k : Nat) (v : Word) : State :=
  let x := s.mark m
  let old := if x.written = s.t then x.old else []
  let v0 := s.obj (markIdx m) (markSub m k)
  (s.put (markIdx m) (markSub m k) v).modMark m (fun x => { x with
    written := s.t, old := if (Sparse.find old k).isSome then old else Sparse.insert old k v0 })

/-- R139, R141, R142: the hardware's own change of word k of mark m; a write of the same cycle stands over it. -/
def rewriteMark (s : State) (m k : Nat) (v : Word) : State :=
  if (oldWord s m k).isSome then s else s.put (markIdx m) (markSub m k) v

/-- The control word of mark m as it acts (R134). -/
def markCtl (s : State) (m : Nat) : Nat := (markWord s m 0).toNat

/-- The mark angle A as it acts. -/
def markAngle (s : State) (m : Nat) : Word := markWord s m 1

/-- The wheel of mark m. -/
def markWheel (s : State) (m : Nat) : Nat := fieldN (markCtl s m) 1 3

/-- The action code of mark m. -/
def markCode (s : State) (m : Nat) : Nat := fieldN (markCtl s m) 4 4

/-- Whether the mark unit is running, 21A0h:02h. -/
def marksRun (s : State) : Bool := s.nat 0x21A0 2 == 1

/-- R136, R137: whether mark m can fire at all: enabled, its action not 0h, its wheel's mode not 0h. -/
def markArmed (s : State) (m : Nat) : Bool :=
  s.on 5 && marksRun s && bitN (markCtl s m) 0 && markCode s m != 0 && wheelMode s (markWheel s m) != 0

/-- R52, R136: the direction of an admitted crossing of mark m in the present cycle: some true for backward. -/
def markCrossing (s : State) (m : Nat) : Option Bool :=
  let w := s.wheel (markWheel s m)
  let dir := fieldN (markCtl s m) 8 2
  if crossesFwd w.prevAngle w.angle (markAngle s m) && dir != 1 then some false
  else if crossesBwd w.prevAngle w.angle (markAngle s m) && dir != 0 then some true
  else none

/-- R145: whether an action's target is missing: D6 not ON for a converter trigger, a task that is not placed. -/
def actionMissing (s : State) (a : MarkAct) : Bool :=
  match a.code with
  | 1 => !s.on 6
  | 5 => !taskTakes s (a.target.toNat % 64)
  | 6 => !taskTakes s (a.target.toNat % 64)
  | _ => false

/-- R143, R145, R146, R151: mark m fires in the present cycle: counted, and its action is discarded or due in two
cycles. -/
def fireMark (s : State) (m : Nat) (back : Bool) : State :=
  let a : MarkAct := {
    due := s.t + 2, mark := m, code := markCode s m, target := markWord s m 2,
    arg := markWord s m 3, angle := (s.wheel (markWheel s m)).angle, back := back, wheel := markWheel s m }
  let s1 := (s.bump 0x21A0 7 32).modMark m (fun x => { x with fired := some s.t })
  if actionMissing s a then s1.bump 0x21A0 6 16
  else { s1 with tide := { s1.tide with acts := s1.tide.acts ++ [a] } }

/-- R139, R140: the step of a step mark after a firing, and the catch-up it may make due in the next cycle. -/
def stepMark (s : State) (m : Nat) (back : Bool) : State :=
  let d := BitVec.ofNat 32 (fieldN (markCtl s m) 12 20 * 4096)
  let A := if back then markAngle s m - d else markAngle s m + d
  let a1 := (s.wheel (markWheel s m)).angle
  let again := if back then angReached A a1 else angReached a1 A
  (rewriteMark s m 1 A).modMark m
    (fun x => { x with catchUp := if again && (oldWord s m 1).isNone then some (s.t + 1, back) else none })

/-- R139: what an admitted crossing does under the repeat rule. -/
def crossMark (s : State) (m : Nat) (back : Bool) : State :=
  let c := markCtl s m
  match fieldN c 10 2 with
  | 0 => rewriteMark (fireMark s m back) m 0 (BitVec.ofNat 32 (c - c % 2))
  | 1 => fireMark s m back
  | 2 =>
    let n := (s.mark m).count + 1
    if n = fieldN c 12 20 then (fireMark s m back).modMark m (fun x => { x with count := 0 })
    else s.modMark m (fun x => { x with count := if (oldWord s m 0).isSome then 0 else n, fired := some s.t })
  | _ => stepMark (fireMark s m back) m back

/-- MARK_FIRE, R136 to R140: the wheel crosses the mark's angle in an admitted direction in the present cycle. -/
def execMarkFire (m : Fin 1024) (s : State) : Out :=
  match markCrossing s m.val with
  | some back =>
    when (markArmed s m.val && (s.mark m.val).fired != some s.t) s (crossMark s m.val back)
  | none => .next s

/-- MARK_CATCH_UP, R140: a step mark whose new angle was already reached fires and steps again, in the cycle after the
firing or not at all. -/
def execMarkCatchUp (m : Fin 1024) (s : State) : Out :=
  match (s.mark m.val).catchUp with
  | some (due, back) =>
    when (markArmed s m.val && fieldN (markCtl s m.val) 10 2 == 3 && due == s.t &&
        (s.mark m.val).fired != some s.t) s
      ((stepMark (fireMark s m.val back) m.val back).bump (wheelIdx (markWheel s m.val)) 0x1C 16)
  | none => .next s

/-- R135, R142, R144: the effect of a write of a mark's control word. -/
def markControlEff (m : Nat) : WEff := fun w _ s =>
  let v := w.value.toNat
  let rep := fieldN v 10 2
  let arg := fieldN v 12 20
  if 8 < fieldN v 4 4 ∨ fieldN v 8 2 = 3 ∨ (rep = 2 ∧ arg = 0) ∨ (rep = 3 ∧ (arg = 0 ∨ 524287 < arg)) then rej .range s
  else acc ((writeMark s m 0 w.value).modMark m (fun x => { x with count := 0 }))

/-- MARK_CONTROL_WRITE: a write of the control word of mark m. -/
def execMarkControlWrite (m : Fin 1024) (w : Wr) (s : State) : Out :=
  .next (accessWrite s w false (markIdx m.val) (markSub m.val 0) (markControlEff m.val))

/-- R141: the effect of a write of a mark's word. -/
def markWordEff (i j : Nat) : WEff := fun w a s =>
  let m := (i - 0x2180) * 32 + (j - 1) / 4
  match (j - 1) % 4 with
  | 0 => markControlEff m w a s
  | k => acc (writeMark s m k w.value)

/-! ### The actions of cycle t0 + 2 -/

/-- R146: the order of the in-place actions within their cycle. -/
def actionRank (code : Nat) : Nat :=
  match code with
  | 8 => 0
  | 2 => 0
  | 4 => 1
  | 3 => 2
  | 1 => 3
  | _ => 4

/-- Whether an action acts in place, not through the post FIFO. -/
def inPlace (a : MarkAct) : Bool := a.code != 5 && a.code != 6

/-- R146: the actions of a code that act now: those of the earliest cycle, when no action that comes before them is
still waiting. -/
def dueActions (s : State) (code : Nat) : List MarkAct :=
  let l := (s.tide.acts.filter (fun a => a.code == code && decide (a.due ≤ s.t)))
  match l with
  | [] => []
  | a0 :: _ =>
    let d := l.foldl (fun d a => min d a.due) a0.due
    let blocked := s.tide.acts.any (fun a =>
      inPlace a && (decide (a.due < d) || (a.due == d && decide (actionRank a.code < actionRank code))))
    if blocked then [] else l.filter (fun a => a.due == d)

/-- The state with those actions taken. -/
def takeActions (s : State) (l : List MarkAct) : State :=
  { s with tide := { s.tide with acts := s.tide.acts.filter (fun a => !l.contains a) } }

/-- The union of the target masks of a batch (R146). -/
def targetMask (l : List MarkAct) : Nat := (l.foldl (fun (m : Word) a => m ||| a.target) 0).toNat

/-- The union of the argument masks of a batch. -/
def argMask (l : List MarkAct) : Nat := (l.foldl (fun (m : Word) a => m ||| a.arg) 0).toNat

/-- A batch of actions of a code acts, or nothing is due. -/
def onActions (s : State) (code : Nat) (f : List MarkAct → State → State) : Out :=
  match dueActions s code with
  | [] => .next s
  | l => .next (f l (takeActions s l))

/-- ANGLE_CAPTURE, R143, R146: each wheel named latches its angle. -/
def execAngleCapture (s : State) : Out :=
  onActions s 8 fun l s =>
    (bitsSet 8 (targetMask l)).foldl (fun s u => s.put (wheelIdx u) 0x1E (s.wheel u).angle) s

/-- SYNCO_PULSE, R127, R128, R143: a pulse begins when the source is 2h; otherwise the action does nothing. -/
def execSyncoPulse (s : State) : Out :=
  onActions s 7 fun _ s => if s.tide.syncoSource = 2 then syncoRequest s s.t else s

/-- R146: the first post or activation that enters the FIFO: the earliest cycle, the lowest mark. -/
def firstPost (s : State) : Option MarkAct :=
  (s.tide.acts.filter (fun a => !inPlace a && decide (a.due ≤ s.t))).foldl (fun best a =>
    match best with
    | none => some a
    | some b => if a.due < b.due ∨ (a.due = b.due ∧ a.mark < b.mark) then some a else best) none

/-- R148, R149: a request enters the FIFO of 64, or is dropped, counted and reported. -/
def enterFifo (s : State) (code : Nat) : Out :=
  match firstPost s with
  | some a =>
    if a.code ≠ code then .next s
    else
      let s1 := takeActions s [a]
      if 64 ≤ s1.tide.fifo.length then .next ((s1.bump 0x21A0 5 16).report 2 .uc)
      else
        let n := s1.tide.fifo.length + 1
        .next (({ s1 with tide := { s1.tide with fifo := s1.tide.fifo ++ [a] } }.putN 0x21A0 3 n).highWater 0x21A0 4 n)
  | none => .next s

/-- MARK_TASK_ACTIVATION: an activation request enters the post FIFO. -/
def execMarkTaskActivation (s : State) : Out := enterFifo s 5

/-- MARK_QUEUE_POST: a queue post enters the post FIFO. -/
def execMarkQueuePost (s : State) : Out := enterFifo s 6

/-- R147: the entry of a queue post. -/
def markEntry (a : MarkAct) : DWord :=
  dw (BitVec.ofNat 32 (a.arg.toNat % 65536 * 65536 + (if a.back then 32768 else 0) + a.wheel * 4096 + a.mark)) a.angle

/-- R148, R150: the oldest request leaves the FIFO: an activation request goes to the Foreman, a post
to the queue its task's role 0 is bound to at this moment; one that resolves to none is counted. -/
def handMark (s : State) : State :=
  match s.tide.fifo with
  | [] => s
  | a :: rest =>
    let s1 := { s with tide := { s.tide with fifo := rest }, cyc := { s.cyc with markHanded := true } }.putN 0x21A0 3 rest.length
    let t := a.target.toNat % 64
    if a.code = 5 then requestActivation s1 t 0 (activationRecord t 0 a.angle a.mark a.wheel a.back)
    else
      match postToRole s1 0 t 0 (markEntry a) with
      | some s2 => s2
      | none => s1.bump 0x21A0 6 16

/-- MARK_FIFO_POST, R148: the FIFO hands over one request in a cycle. -/
def execMarkFifoPost (s : State) : Out := when (s.on 5 && !s.cyc.markHanded) s (handMark s)

/-! ### The mark unit -/

/-- Whether the mark unit has work in flight (R151). -/
def marksBusy (s : State) : Bool := !s.tide.fifo.isEmpty || !s.tide.acts.isEmpty

/-- R39, R42, R151: the effect of a write of the mark unit's enable. -/
def markUnitEff : WEff := fun w _ s =>
  let s1 := s.put 0x21A0 1 w.value
  if w.value = 1 then acc (if s.nat 0x21A0 2 = 0 then s1.putN 0x21A0 2 1 else s1)
  else acc (if s.nat 0x21A0 2 = 1 then s1.putN 0x21A0 2 (if marksBusy s then 2 else 0) else s1)

/-- MARK_UNIT_ENABLE: a write of 21A0h:01h. -/
def execMarkUnitEnable (w : Wr) (s : State) : Out := .next (accessWrite s w false 0x21A0 1 markUnitEff)

/-- R39, R42: the mark unit's stopping phase ends; an enable that waited starts it again. -/
def markUnitStopped (s : State) : State :=
  if s.nat 0x21A0 2 = 2 ∧ marksBusy s = false then s.putN 0x21A0 2 (if s.flag 0x21A0 1 0 then 1 else 0) else s

end Sys2Proof.Machine
end

