-- ==== Sys2Proof/Machine/Sense.lean ====
section
/-! DEFINITION. The sense channels (R156 to R196): modulator clocks, the two filters, the stream monitor, status and
validity, engineering values and snapshots. What consumers do with a fast result stands in their own families. -/
namespace Sys2Proof.Machine

/-- The object index of channel c (R195). -/
def senseIdx (c : Nat) : Nat := 0x2200 + c

/-- The object index of SCK group k (R161). -/
def sckIdx (k : Nat) : Nat := 0x2240 + k

/-- Channel c beyond its objects. -/
def State.chan (s : State) (c : Nat) : SenseChan := s.sense.getD c {}

/-- Channel c changed. -/
def State.modChan (s : State) (c : Nat) (f : SenseChan → SenseChan) : State := { s with sense := modAt s.sense c f }

/-- The status of channel c (R195): 0 off, 1 acquiring, 2 good, 3 failed, 4 stopping. -/
def senseStatus (s : State) (c : Nat) : Nat := s.nat (senseIdx c) 0x0E

/-- The mode of channel c (R156). -/
def senseMode (s : State) (c : Nat) : Nat := s.nat (senseIdx c) 1

/-- The fast result that consumers see. -/
def fastResult (s : State) (c : Nat) : Int := s.int (senseIdx c) 0x10

/-- The fast-valid bit that consumers see; 0 for a channel in mode 0h (R187). -/
def fastValid (s : State) (c : Nat) : Bool := s.flag (senseIdx c) 0x0F 0

/-- The precision-valid bit. -/
def precValid (s : State) (c : Nat) : Bool := s.flag (senseIdx c) 0x0F 1

/-! ### Modulator clocks -/

/-- Whether some channel of group k is in mode 1h (R161). -/
def groupClocked (s : State) (k : Nat) : Bool := (List.range 8).any (fun j => senseMode s (8 * k + j) == 1)

/-- R158, R161: the first cycle after the present one in which SCKk rises. -/
def sckStart (s : State) (k : Nat) : Nat :=
  let n := max (s.nat (sckIdx k) 2) 1
  s.t + 1 + (fmod ((s.nat (sckIdx k) 3 : Int) - ((s.t + 1 : Nat) : Int)) n).toNat

/-- R161: the effect of a write of an SCK enable; SCKk starts at the next cycle in which it rises. -/
def sckEnableEff (k : Nat) : WEff := fun w _ s =>
  if w.value = 0 ∧ groupClocked s k = true then rej .state s
  else if w.value = 1 ∧ s.flag (sckIdx k) 1 0 = false then
    acc { s.put (sckIdx k) 1 w.value with sckFrom := modAt s.sckFrom k (fun _ => sckStart s k) }
  else acc (s.put (sckIdx k) 1 w.value)

/-- SCK_ENABLE: a write of 2240h + k:01h. -/
def execSckEnable (k : Fin 8) (w : Wr) (s : State) : Out :=
  .next (accessWrite s w false (sckIdx k.val) 1 (sckEnableEff k.val))

/-- R161: divider and phase are not written while a channel of the group is in mode 1h; the phase is below N. The model's
choice: a divider at or below the standing phase Z is taken, and R158 goes on with that Z. -/
def sckPlainEff (k j : Nat) : WEff := fun w a s =>
  if j = 3 ∧ s.nat (sckIdx k) 2 ≤ w.value.toNat then rej .range s
  else if groupClocked s k then rej .state s
  else plainWrite (sckIdx k) j w a s

/-- R158: the cycles of SCKk's period that have passed at cycle n. -/
def sckPlace (s : State) (k n : Nat) : Int := fmod ((n : Int) - s.nat (sckIdx k) 3) (s.nat (sckIdx k) 2)

/-- R158, R161: the level that SCKk drives. -/
def sckLevel (s : State) (k : Nat) : Bool :=
  s.on 5 && s.flag (sckIdx k) 1 0 && decide (s.sckFrom.getD k 0 ≤ s.t) &&
    decide (sckPlace s k s.t < (s.nat (sckIdx k) 2 / 2 : Nat))

/-! ### Filters -/

/-- R157: the value of a stream bit. -/
def bitValue (b : Bool) : Int := if b then 1 else -1

/-- The sum of the first n elements. -/
def sumTake : Nat → List Int → Int
  | 0, _ => 0
  | _, [] => 0
  | n + 1, a :: t => a + sumTake n t

/-- R173: one moving sum of length M over a list, newest first. -/
def movingSum (M : Nat) : List Int → List Int
  | [] => []
  | a :: t => if t.length + 1 < M then [] else sumTake M (a :: t) :: movingSum M t

/-- R173: K cascaded moving sums of length M of the bits, bits before the clear counting as 0. -/
def cascade (K M : Nat) (h : List Bool) : Int :=
  let n := K * (M - 1) + 1
  let l := (h.take n).map bitValue
  let l := l ++ List.replicate (n - l.length) 0
  let l := match K with
    | 1 => movingSum M l
    | 2 => movingSum M (movingSum M l)
    | _ => movingSum M (movingSum M (movingSum M l))
  l.headD 0

/-- R173, R178: the result of a filter of order K and length M: scaled, truncated and clamped. -/
def filterResult (K M : Nat) (h : List Bool) : Int :=
  clampI (tdiv (cascade K M h * 8388608) ((M ^ K : Nat) : Int)) (-8388607) 8388607

/-- The fast order K and ratio M of channel c. -/
def fastOrder (s : State) (c : Nat) : Nat := s.nat (senseIdx c) 4
/-- The fast ratio. -/
def fastRatio (s : State) (c : Nat) : Nat := s.nat (senseIdx c) 5
/-- The precision ratio. -/
def precRatio (s : State) (c : Nat) : Nat := s.nat (senseIdx c) 6

/-- R109, R175: the fast group delay in whole fabric cycles, rounded down. -/
def fastDelay (s : State) (c : Nat) : Nat :=
  let half := fastOrder s c * (fastRatio s c - 1)
  if senseMode s c = 2 then half * s.nat (senseIdx c) 3 / 2 + 5
  else half * s.nat (sckIdx (c / 8)) 2 / 2 + s.nat (senseIdx c) 2 + 3

/-- R183: whether the gain and offset written stand committed: the gain's write lies in an earlier cycle. -/
def pairCommitted (s : State) (c : Nat) : Bool :=
  match (s.chan c).commit with
  | some t0 => decide (t0 < s.t)
  | none => false

/-- R183: the offset in force on channel c. -/
def chanOffset (s : State) (c : Nat) : Int := if pairCommitted s c then s.int (senseIdx c) 0x0A else (s.chan c).offset

/-- R183: the gain in force on channel c. -/
def chanGain (s : State) (c : Nat) : Int := if pairCommitted s c then s.int (senseIdx c) 0x0B else (s.chan c).gain

/-- R183: a commit of an earlier cycle taken, before a new write of the pair. -/
def takePair (s : State) (c : Nat) : State :=
  if pairCommitted s c then
    s.modChan c (fun x => { x with offset := chanOffset s c, gain := chanGain s c, commit := none })
  else s

/-- R182: the engineering value of a count on channel c. -/
def engValue (s : State) (c : Nat) (v : Int) : Int := clamp32 (roundDiv ((v - chanOffset s c) * chanGain s c) 65536)

/-- The bits the longest filter needs (R178). -/
def histLimit : Nat := 766

/-- R170, R171: the filters cleared, the error score at 0, the channel acquiring from the next cycle. -/
def startAcquiring (s : State) (c : Nat) : State :=
  ((s.putN (senseIdx c) 0x0E 1).putN (senseIdx c) 0x1C 0).putN (senseIdx c) 0x0F 0 |>.modChan c (fun x => { x with
    hist := [], bits := 0, origin := 0, sync := false, run := 0, sat := false, overRange := false, from' := s.t + 1,
    prec := none })

/-- R168, R169, R194: the channel fails with a flag; both valid bits clear and no precision result follows; reported UC
from its group's source. -/
def senseFail (s : State) (c flags : Nat) : State :=
  ((((s.putN (senseIdx c) 0x0E 3).setBits (senseIdx c) 0x1A (32 + flags)).putN (senseIdx c) 0x0F 0).modChan c
    (fun x => { x with prec := none })).report (8 + c / 8) .uc (c % 8)

/-- R176, R177: the edges into saturation and over range: counted, flagged, reported CE. -/
def rangeEvents (s : State) (c : Nat) (sat wide : Bool) : State :=
  let x := s.chan c
  let newSat := sat && !x.sat
  let newOver := wide && !x.overRange
  let s1 := if newSat then (s.bump (senseIdx c) 0x1D 16).setBits (senseIdx c) 0x1A 2 else s
  let s2 := if newOver then (s1.bump (senseIdx c) 0x1E 16).setBits (senseIdx c) 0x1A 1 else s1
  let s3 := if newSat || newOver then s2.report (8 + c / 8) .ce (c % 8) else s2
  s3.modChan c (fun x => { x with sat := sat, overRange := wide })

/-- A bit enters the filters of channel c in the present cycle (R157, R165, R179); the evaluation takes the settings that
R190 lets take effect with it. -/
def enterBit (s : State) (c : Nat) (bit : Bool) : State :=
  s.modChan c (fun x => { x with
    hist := (bit :: x.hist).take histLimit, bits := x.bits + 1, origin := x.origin + 1,
    run := if x.run != 0 && x.hist.head? == some bit then x.run + 1 else 1, bitTime := s.t,
    errLimit := s.nat (senseIdx c) 8, snapMode := s.nat (senseIdx c) 0x0C })

/-- R171: the status after a bit: good once the fast filter is full. -/
def acquired (s : State) (c : Nat) : State :=
  if fastOrder s c * (fastRatio s c - 1) + 1 ≤ (s.chan c).bits then s.putN (senseIdx c) 0x0E 2 else s

/-- R173, R174, R176, R177: the evaluation of the bit that has entered, in flight for three cycles. -/
def evaluateFast (s : State) (c : Nat) : State :=
  let K := fastOrder s c
  let M := fastRatio s c
  let h := (s.chan c).hist
  let x := filterResult K M h
  s.modChan c (fun y => { y with
    flight := some (s.t + 3, x, (cascade K M h).natAbs == M ^ K, decide (s.int (senseIdx c) 9 ≤ absI x)) })

/-- R172, R179, R180: what follows four cycles after the bit that has entered: y at a decimation bit, and the
precision-valid bit. -/
def evaluatePrecision (s : State) (c : Nat) : State :=
  let x := s.chan c
  let y := if x.origin % precRatio s c = 0 then some (filterResult 3 (precRatio s c) x.hist, x.bitTime) else none
  s.modChan c (fun x => { x with prec := some (s.t + 4, y, decide (3 * (precRatio s c - 1) + 1 ≤ x.bits)) })

/-- R165, R168, R169, R173: one bit of channel c enters in the present cycle; a stuck run fails the channel. -/
def senseBit (s : State) (c : Nat) (bit : Bool) : State :=
  let s1 := evaluatePrecision (evaluateFast (acquired (enterBit s c bit) c) c) c
  if s.nat (senseIdx c) 7 ≤ (s1.chan c).run then senseFail s1 c 16 else s1

/-- Whether channel c takes bits: it is acquiring or good. -/
def senseFeeds (s : State) (c : Nat) : Bool := s.on 5 && (senseStatus s c == 1 || senseStatus s c == 2)

/-- R39, R42, R191: the stopping phase of channel c ends once no evaluation is in flight; a mode written meanwhile starts it
again. -/
def senseStopped (s : State) (c : Nat) : State :=
  if senseStatus s c = 4 ∧ (s.chan c).flight.isNone = true then
    (if senseMode s c = 0 then s.putN (senseIdx c) 0x0E 0 else startAcquiring s c)
  else s

/-- R174, R176, R177, R191: the evaluation in flight reaches the consumers: x, with a fast-valid bit of 1 from a good
channel alone; the stopping phase that waited for it ends. -/
def deliverFast (s : State) (c due : Nat) (x : Int) (sat wide : Bool) : State :=
  let s1 := (s.putI (senseIdx c) 0x10 x).modChan c (fun y => { y with flight := none, seenTime := due - 3 })
  let s2 := if senseStatus s c = 2 then s1.setBits (senseIdx c) 0x0F 1 else s1
  senseStopped (rangeEvents s2 c sat wide) c

/-- R158, R159, R171: whether the present cycle is the capture of a bit of channel c: its SCK period rose Ds cycles ago, no
earlier than the channel became acquiring and the clock started, and no bit of it was captured yet. -/
def captureDue (s : State) (c : Nat) : Bool :=
  let k := c / 8
  let d := s.nat (senseIdx c) 2
  senseMode s c == 1 && decide (d ≤ s.t) && sckPlace s k (s.t - d) == 0 && decide ((s.chan c).from' + d ≤ s.t) &&
    decide (s.sckFrom.getD k 0 + d ≤ s.t) && ((s.chan c).bitTime != s.t || (s.chan c).bits == 0)

/-- R180, R182: the precision result written with its engineering value and its time. -/
def writePrecision (s : State) (c : Nat) (y : Int) (bitTime : Nat) : State :=
  ((s.putI (senseIdx c) 0x11 y).putI (senseIdx c) 0x12 (engValue s c y)).put (senseIdx c) 0x13 (BitVec.ofNat 32 bitTime)

/-- R162, R167, R168, R171, R190: a coding error of an acquiring or good channel: counted, scored and flagged; the decoder
leaves sync and the valid bits clear; at the error limit the channel fails. -/
def codingError (s : State) (c : Nat) : State :=
  let i := senseIdx c
  let s1 := ((s.bump i 0x1B 16).bump i 0x1C 8).setBits i 0x1A 4
  let s2 := ((if senseStatus s1 c = 2 then s1.putN i 0x0E 1 else s1).putN i 0x0F 0).modChan c
    (fun x => { x with sync := false, prec := x.prec.map (fun p => (p.1, p.2.1, false)) })
  if (s.chan c).errLimit ≤ s2.nat i 0x1C then senseFail s2 c 4 else s2

/-- R162: whether channel c's decoder has missed its transition: none accepted by floor(5 × N_m ÷ 4) cycles after the last. -/
def transitionMissed (s : State) (c : Nat) : Bool :=
  senseFeeds s c && (s.chan c).sync && decide ((s.chan c).taken + 5 * s.nat (senseIdx c) 3 / 4 < s.t)

/-- R162, R163: whether a transition in the present cycle is a mid-bit one: floor(3 × N_m ÷ 4) cycles or more after the last
accepted one, or out of sync after the transition before it. With none before it, it is one. -/
def midBit (s : State) (c : Nat) : Bool :=
  let x := s.chan c
  let gap := 3 * s.nat (senseIdx c) 3 / 4
  if x.sync then decide (x.taken + gap ≤ s.t)
  else
    match x.edge with
    | some e => decide (e + gap ≤ s.t)
    | none => true

/-- R162 to R164: a transition of SDc: a mid-bit one of a channel that takes bits is decoded and enters the filters. -/
def senseTransition (s : State) (c : Nat) (rising : Bool) : State :=
  let s1 := if transitionMissed s c then codingError s c else s
  let mid := senseFeeds s1 c && midBit s1 c
  let s2 := s1.modChan c (fun x => { x with edge := some s.t })
  if mid then senseBit (s2.modChan c (fun x => { x with sync := true, taken := s.t })) c rising else s2

/-- R167: the error scores at a millisecond tick. -/
def senseTick (s : State) : State :=
  if s.on 5 then (List.range 64).foldl (fun s c => s.sub (senseIdx c) 0x1C 1) s else s

/-! ### Mode, restart, gain -/

/-- R171, R189, R191: the effect of a write of the mode. -/
def senseModeEff (c : Nat) : WEff := fun w _ s =>
  let i := senseIdx c
  let m := senseMode s c
  match w.value.toNat with
  | 0 =>
    if m = 0 then acc s
    else acc (senseStopped ((((s.putN i 1 0).putN i 0x0E 4).putN i 0x0F 0).modChan c (fun x => { x with prec := none })) c)
  | v =>
    if m ≠ 0 then rej .state s
    else if v = 1 ∧ (s.flag (sckIdx (c / 8)) 1 0 = false ∨ s.nat (sckIdx (c / 8)) 2 ≤ s.nat i 2) then rej .state s
    else
      let s1 := s.putN i 1 v
      acc (if senseStatus s c = 4 then s1 else startAcquiring s1 c)

/-- R170: a restart of a failed channel; ignored in any other status. -/
def senseRestartEff (c : Nat) : WEff := fun _ _ s =>
  acc (if senseStatus s c = 3 then startAcquiring s c else s)

/-- R183: a write of the gain commits it, in the next cycle, with the offset that stands staged then. -/
def gainEff (c : Nat) : WEff := fun w _ s =>
  acc (((takePair s c).put (senseIdx c) 0x0B w.value).modChan c (fun x => { x with commit := some s.t }))

/-- R183, R190: the filter settings are written only in mode 0h; an offset is staged. -/
def sensePlainEff (c j : Nat) : WEff := fun w a s =>
  if 2 ≤ j ∧ j ≤ 7 ∧ senseMode s c ≠ 0 then rej .state s
  else if j = 0x0A then plainWrite (senseIdx c) j w a (takePair s c)
  else plainWrite (senseIdx c) j w a s

/-! ### Snapshots -/

/-- R184, R185: the bits in the x that consumers see: without the one whose evaluation is in flight. -/
def seenBits (x : SenseChan) : List Bool := if x.flight.isSome then x.hist.drop 1 else x.hist

/-- R185: the newest bit that consumers see becomes a decimation bit and the new origin; one that is a decimation bit
already makes no second result. -/
def realigned (s : State) (x : SenseChan) (ratio : Nat) (y : Int) : SenseChan :=
  let ahead := if x.flight.isSome then 1 else 0
  let valid := (x.prec.map (·.2.2)).getD false
  if (x.origin - ahead) % ratio = 0 ∧ ahead < x.origin then { x with origin := ahead }
  else { x with origin := ahead, prec := some (s.t + 1, some (y, x.seenTime), valid) }

/-- R184 to R186: the snapshot of one channel. -/
def snapshotChannel (s : State) (c : Nat) : State :=
  let i := senseIdx c
  let x := s.chan c
  if senseStatus s c = 0 ∨ senseStatus s c = 4 then s.bump i 0x1F 16
  else
    let realign := x.snapMode = 1 ∧ senseStatus s c = 2
    let y := filterResult 3 (precRatio s c) (seenBits x)
    let p := if realign then y else s.int i 0x11
    let s1 := ((s.put i 0x14 (s.obj i 0x10)).putI i 0x16 (engValue s c (fastResult s c))).putI i 0x15 p
    let s2 := ((s1.putI i 0x17 (engValue s c p)).put i 0x18 (BitVec.ofNat 32 x.seenTime)).put i 0x19 (s.obj i 0x0F)
    if realign then s2.modChan c (fun x => realigned s x (precRatio s c) y) else s2

/-- SENSE_SNAPSHOT, R146, R184: a fired mark latches each named channel once. -/
def execSenseSnapshot (s : State) : Out :=
  onActions s 2 fun l s =>
    (bitsSet 64 (targetMask l + argMask l * 4294967296)).foldl snapshotChannel s

end Sys2Proof.Machine
end

