-- ==== Sys2Proof/Machine/PhaseOps.lean ====
section
/-! DEFINITION. What a phase does by itself (R197 to R246): its states and commands, the Pilot, the trip comparator, the
fault record and its owner, blind running, park and grant. The rows of the phases stand in Phases.lean. -/
namespace Sys2Proof.Machine

/-- The object index of phase p (R247). -/
def phaseIdx (p : Nat) : Nat := 0x2300 + p

/-- Phase p beyond its objects. -/
def State.phase (s : State) (p : Nat) : Phase := s.phases.getD p {}

/-- Phase p changed. -/
def State.modPhase (s : State) (p : Nat) (f : Phase → Phase) : State := { s with phases := modAt s.phases p f }

/-- The state code of R236: 0 disabled, 1 idle, 2 ON, 3 OFF, 4 parked, 5 blind, 6 tripped, 7 locked out, 8 manual. -/
def phaseState (s : State) (p : Nat) : Nat := s.nat (phaseIdx p) 0x17

/-- The mode 2300h + p:01h (R238). -/
def phaseMode (s : State) (p : Nat) : Nat := s.nat (phaseIdx p) 1

/-- The sense channel of phase p (R197). -/
def phaseChan (s : State) (p : Nat) : Nat := s.nat (phaseIdx p) 2

/-- The fast result x that phase p sees (R197). -/
def phaseX (s : State) (p : Nat) : Int := fastResult s (phaseChan s p)

/-- The fast-valid bit that phase p sees. -/
def phaseValid (s : State) (p : Nat) : Bool := fastValid s (phaseChan s p)

/-- R199: the rising state. -/
def risingState (s : State) (p : Nat) : Nat := if s.flag (phaseIdx p) 3 0 then 3 else 2

/-- R199: the falling state. -/
def fallingState (s : State) (p : Nat) : Nat := if s.flag (phaseIdx p) 3 0 then 2 else 3

/-- The gate usage (R200). -/
def gateUse (s : State) (p : Nat) : Nat := s.nat (phaseIdx p) 4

/-- R205: the dead time before the command of a state; 0 for a command held at 0. -/
def deadTime (s : State) (p st : Nat) : Nat :=
  if st = 2 then (if gateUse s p = 2 then 0 else s.nat (phaseIdx p) 5)
  else if st = 3 then (if gateUse s p = 1 then 0 else s.nat (phaseIdx p) 6)
  else 0

/-- R201: the effective half-width. -/
def halfWidth (s : State) (p : Nat) : Int :=
  clampI ((s.phase p).h + s.int (phaseIdx p) 0x2E) (s.nat (phaseIdx p) 0x0B) (s.nat (phaseIdx p) 0x0C)

/-- The centre C as delivered (R198). -/
def phaseC (s : State) (p : Nat) : Int := s.int (phaseIdx p) 0x0D

/-- Whether a state is ON or OFF. -/
def switching (st : Nat) : Bool := st == 2 || st == 3

/-- Whether the collector holds every gate command off (R705). -/
def inHarbour (s : State) : Bool := s.nat 0x3200 1 == 1

/-- R68, R218, R236, R705: the level of GHp at the ball. -/
def gateHigh (s : State) (p : Nat) : Bool :=
  s.on 5 && (s.phase p).gh && !(s.phase p).latch && !inHarbour s && !s.sup.vddioLow

/-- R68, R218, R236, R705: the level of GLp at the ball. -/
def gateLow (s : State) (p : Nat) : Bool :=
  s.on 5 && (s.phase p).gl && !(s.phase p).latch && !inHarbour s && !s.sup.vddioLow

/-- A report of phase p (R246). -/
def phaseReport (s : State) (p : Nat) (c : FClass) : State := s.report (16 + p / 8) c (p % 8)

/-! ### Membership -/

/-- The object index B of rail r (R292). -/
def railIdx (r : Nat) : Nat := 0x2400 + 16 * r

/-- The supervision index SV of rail r (R343). -/
def svIdx (r : Nat) : Nat := 0x2600 + 16 * r

/-- Rail r beyond its objects. -/
def State.rail (s : State) (r : Nat) : Rail := s.rails.getD r {}

/-- Rail r changed. -/
def State.modRail (s : State) (r : Nat) (f : Rail → Rail) : State := { s with rails := modAt s.rails r f }

/-- The status of rail r (R292): 0 stopped, 1 running, 2 winding down. -/
def railStatus (s : State) (r : Nat) : Nat := s.nat (railIdx r) 9

/-- The member count of rail r. -/
def memberCount (s : State) (r : Nat) : Nat := s.nat (railIdx r + 1) 1

/-- The phase at position i of rail r. -/
def memberPhase (s : State) (r i : Nat) : Nat := s.nat (railIdx r + 1) (2 + i)

/-- The members of rail r, by position. -/
def railMembers (s : State) (r : Nat) : List Nat := (List.range (memberCount s r)).map (memberPhase s r)

/-- The (rail, position) pairs that list phase p. -/
def membershipsOf (s : State) (p : Nat) : List (Nat × Nat) :=
  (List.range 12).flatMap fun r =>
    ((List.range (memberCount s r)).filter (fun i => memberPhase s r i == p)).map (fun i => (r, i))

/-- The running or winding-down rail that owns phase p, with the position (R198, R254). -/
def memberOf (s : State) (p : Nat) : Option (Nat × Nat) :=
  (membershipsOf s p).find? (fun m => railStatus s m.1 != 0)

/-- Whether the slope model of the rail that owns phase p runs (R301, R343). -/
def slopeRuns (s : State) (p : Nat) : Option Nat :=
  match memberOf s p with
  | some (r, _) => if s.flag (svIdx r) 1 0 then some r else none
  | none => none

/-! ### The Pilot -/

/-- The Pilot state (R212): 0 off, 1 hold, 2 acquire, 3 locked. -/
def pilotState (s : State) (p : Nat) : Nat := s.nat (phaseIdx p) 0x2D

/-- R212: a change of Pilot state restarts the lock count; `flags` are set with it. -/
def pilotTo (s : State) (p st flags : Nat) : State :=
  ((s.putN (phaseIdx p) 0x2D st).setBits (phaseIdx p) 0x1A flags).modPhase p (fun x => { x with lockRun := 0 })

/-- R212: the lock lost flag when the Pilot leaves locked. -/
def lostIfLocked (s : State) (p : Nat) : Nat := if pilotState s p = 3 then 64 else 0

/-- Whether the Pilot wheel of phase p turns. -/
def pilotWheelOn (s : State) (p : Nat) : Bool := wheelMode s (s.nat (phaseIdx p) 0x2B) != 0

/-- R212: hold and acquire as the phase's state and the Pilot wheel call for. The options are those that the last update
took (R215). -/
def pilotSettle (s : State) (p : Nat) : State :=
  let st := pilotState s p
  let go := switching (phaseState s p) && pilotWheelOn s p
  if (st = 2 ∨ st = 3) ∧ go = false then pilotTo s p 1 (lostIfLocked s p)
  else if st = 1 ∧ go = true then
    let s1 := pilotTo s p 2 0
    if (s.phase p).clearI then (s1.put (phaseIdx p) 0x2E 0).put (phaseIdx p) 0x2F 0 else s1
  else s

/-- R212: the Pilot goes off. -/
def pilotOff (s : State) (p : Nat) : State :=
  (((pilotTo s p 0 0).put (phaseIdx p) 0x2E 0).put (phaseIdx p) 0x2F 0).modPhase p
    (fun x => { x with clampRun := 0, clampSaid := false })

/-- R214: the run of clamped updates. -/
def pilotClamp (s : State) (p : Nat) (inside : Bool) : State :=
  if inside then s.modPhase p (fun x => { x with clampRun := 0, clampSaid := false })
  else
    let n := (s.phase p).clampRun + 1
    let s1 := s.modPhase p (fun x => { x with clampRun := n })
    if s.nat (phaseIdx p) 0x29 ≤ n ∧ (s.phase p).clampSaid = false then
      phaseReport ((s1.setBits (phaseIdx p) 0x1A 128).modPhase p (fun x => { x with clampSaid := true })) p .ce
    else s1

/-- R212: the lock count and the state after an update with error e. -/
def pilotLock (s : State) (p : Nat) (e : Int) (inside : Bool) : State :=
  let near := decide (absI e ≤ s.nat (phaseIdx p) 0x27)
  let lc := s.nat (phaseIdx p) 0x28
  let n := (s.phase p).lockRun + 1
  let run (k : Nat) := s.modPhase p (fun x => { x with lockRun := k })
  if pilotState s p = 2 then
    if near && inside then (if lc ≤ n then pilotTo s p 3 32 else run n) else run 0
  else if inside = false then pilotTo s p 2 64
  else if near then run 0
  else if lc ≤ n then pilotTo s p 2 64
  else run n

/-- PILOT_UPDATE, R211, R215: the update at a leading edge decided in the present cycle. -/
def pilotUpdate (s : State) (p : Nat) : State :=
  let i := phaseIdx p
  if pilotState s p = 2 ∨ pilotState s p = 3 then
    let he := halfWidth s p
    let hmin : Int := s.nat i 0x0B
    let hmax : Int := s.nat i 0x0C
    let pmax : Int := s.nat i 0x26
    let e := angDiff (s.wheel (s.nat i 0x2B)).angle (s.obj i 0x2C)
    let iup := tdiv (s.nat i 0x25 * he * e) 1099511627776
    let I0 := s.int i 0x2F
    let I := if (he = hmin ∧ 0 < iup) ∨ (he = hmax ∧ iup < 0) then I0 else clampI (I0 - iup) (-pmax) pmax
    let pil := clampI (I - tdiv (s.nat i 0x24 * he * e) 1099511627776) (-pmax) pmax
    let inside := decide (hmin < he) && decide (he < hmax)
    let s1 := s.modPhase p (fun x => { x with clearI := s.flag i 0x2A 0 })
    pilotLock (pilotClamp (((s1.putI i 0x2F I).putI i 0x2E pil).putI i 0x30 e) p inside) p e inside
  else s

/-- R198, R212, R213: the rail gives the phase a Pilot wheel and a slot angle. -/
def setSlot (s : State) (p w : Nat) (a : Word) : State :=
  let i := phaseIdx p
  if s.nat i 0x2B = w ∧ s.obj i 0x2C = a then s
  else
    let s1 := ((s.putN i 0x2B w).put i 0x2C a).modPhase p (fun x => { x with crossed := false })
    let s2 := if pilotState s p = 2 ∨ pilotState s p = 3 then pilotTo s1 p 2 (lostIfLocked s p) else s1
    pilotSettle s2 p

/-- R215: a new Pilot limit clamps I and Pil at once. -/
def pilotLimit (s : State) (p : Nat) : State :=
  let i := phaseIdx p
  let m : Int := s.nat i 0x26
  (s.putI i 0x2E (clampI (s.int i 0x2E) (-m) m)).putI i 0x2F (clampI (s.int i 0x2F) (-m) m)

/-! ### States and commands -/

/-- R228: the run of the re-arm window up to cycle e. -/
def ranUntil (x : Phase) (e : Nat) : Nat :=
  match x.ranFrom with
  | some f => x.ran + (e - f)
  | none => x.ran

/-- R205: the command that a state drives after its dead time, from cycle e; true for GHp. -/
def incoming (s : State) (p st e : Nat) : Option (Nat × Bool) :=
  if st = 2 ∧ gateUse s p ≠ 2 then some (e + deadTime s p 2, true)
  else if st = 3 ∧ gateUse s p ≠ 1 then some (e + deadTime s p 3, false)
  else none

/-- R205, R206, R210, R217, R222, R240, R302: the phase enters a state from the next cycle: both commands at 0, the
incoming command after its dead time, the times of the state taken, and the window of a measurement placed. -/
def enterPhase (s : State) (p st : Nat) : State :=
  let e := s.t + 1
  let i := phaseIdx p
  let win := match slopeRuns s p with
    | some r => if switching st then some (e + deadTime s p st + s.nat (svIdx r) 3) else none
    | none => none
  let s1 := (s.putN i 0x17 st).modPhase p (fun x => { x with
    entry := e, gh := false, gl := false, dead := incoming s p st e,
    tmin := if st = 2 then s.nat i 7 else if st = 3 then s.nat i 8 else x.tmin,
    tmax := if switching st then 64 * s.nat i 9 else x.tmax,
    ran := ranUntil x e, ranFrom := if x.window && (switching st || st == 4 || st == 5) then some e else none,
    sw := win, xa := none })
  pilotSettle s1 p

/-- R200, R205, R234: the commands of manual mode from the cycle after the write; 11b, which no write leaves, would drive
GHp alone. -/
def manualCommands (s : State) (p : Nat) (v : Nat) : State :=
  let up := bitN v 0 && gateUse s p != 2
  let lo := bitN v 1 && !bitN v 0 && gateUse s p != 1
  let x := s.phase p
  let e := s.t + 1
  s.modPhase p (fun y => { y with
    gh := y.gh && up, gl := y.gl && lo,
    dead := if up && !x.gh then (if x.dead.map (·.2) = some true then x.dead else some (e + deadTime s p 2, true))
      else if lo && !x.gl then (if x.dead.map (·.2) = some false then x.dead else some (e + deadTime s p 3, false))
      else none })

/-- R206: whether the minimum time of the phase's state has elapsed. -/
def minElapsed (s : State) (p : Nat) : Bool :=
  let x := s.phase p
  decide (x.entry + deadTime s p (phaseState s p) + x.tmin ≤ s.t)

/-- R202, R203: whether the band condition that ends the present state holds. -/
def bandMet (s : State) (p : Nat) : Bool :=
  if phaseState s p = risingState s p then decide (phaseC s p + halfWidth s p ≤ phaseX s p)
  else decide (phaseX s p ≤ phaseC s p - halfWidth s p)

/-- R207: whether the maximum hold has passed. -/
def holdPassed (s : State) (p : Nat) : Bool :=
  let x := s.phase p
  x.tmax != 0 && decide (x.entry + x.tmax ≤ s.t)

/-- R223, R226, R230, R233: where a phase goes when it resumes: parked with a park request standing or remembered,
its falling state otherwise. -/
def resumePhase (s : State) (p : Nat) : State :=
  let x := s.phase p
  enterPhase (s.modPhase p (fun x => { x with parkMem := false })) p
    (if x.parkMem || x.park then 4 else fallingState s p)

/-- R221, R231: a phase in idle with a grant leaves idle while GFp_N reads high. -/
def idleCheck (s : State) (p : Nat) : State :=
  let x := s.phase p
  if phaseState s p = 1 ∧ x.grant = true ∧ x.gf = true then
    enterPhase s p (if x.park then 4 else fallingState s p)
  else s

/-! ### The fault record -/

/-- The fault record of phase p (R224). -/
def faultRec (s : State) (p : Nat) : Nat := s.nat (phaseIdx p) 0x18

/-- OWNER: 0 none, 1 phase re-arm, 2 rail. -/
def recOwner (s : State) (p : Nat) : Nat := fieldN (faultRec s p) 28 4

/-- CAUSE. -/
def recCause (s : State) (p : Nat) : Nat := fieldN (faultRec s p) 24 4

/-- ATTEMPTS. -/
def recAttempts (s : State) (p : Nat) : Nat := fieldN (faultRec s p) 16 8

/-- A field of the record set. -/
def setRec (s : State) (p lo n v : Nat) : State := s.putN (phaseIdx p) 0x18 (setFieldN (faultRec s p) lo n v)

/-- R328: the episode times of the members that list phase p start at 0. -/
def startEpisodes (s : State) (p : Nat) : State :=
  (membershipsOf s p).foldl (fun s m =>
    s.modRail m.1 (fun r => { r with members := modAt r.members m.2 (fun x => { x with epAcc := 0, epFrom := none }) })) s

/-- The verdict of member i of rail r (R346). -/
def verdict (s : State) (r i : Nat) : Nat := fieldN (s.nat (svIdx r + 3) (1 + i)) 28 4

/-- R314, R342: a verdict from 1h to 5h takes force. -/
def giveVerdict (s : State) (r i code : Nat) : State :=
  let v := verdict s r i
  let s1 := ((s.putN (svIdx r + 3) (1 + i) ((if v = 0 then code else v) * 268435456)).setBits (svIdx r + 4) 1 (2 ^ i)).setBits
    (svIdx r + 2) 0x0D (if code ≤ 3 then 1 else 2)
  if code = 5 then s1 else s1.report (24 + r) .uc i

/-- R311, R335: member i of rail r has earned a verdict, in force from cycle `due`, after any release of that cycle. -/
def noteVerdict (s : State) (r i code due : Nat) : State :=
  s.modRail r (fun x => { x with verdicts := x.verdicts ++ [(due, i, code)] })

/-- R311, R330: a verdict comes into force; verdict 5h only where the member holds none. -/
def enforceVerdict (s : State) (r i code : Nat) : State :=
  if code = 5 ∧ verdict s r i ≠ 0 then s else giveVerdict s r i code

/-- PHASE_LOCK_OUT, R227, R330: a tripped phase whose OWNER is 2h enters locked out; in the cycle after that entry a member
without a verdict receives verdict 5h. -/
def lockOut (s : State) (p : Nat) : State :=
  if phaseState s p = 6 ∧ recOwner s p = 2 then
    let s1 := enterPhase (phaseReport ((setRec s p 15 1 1).setBits (phaseIdx p) 0x1A 16) p .uc) p 7
    (membershipsOf s1 p).foldl (fun s m => noteVerdict s m.1 m.2 5 (s.t + 2)) s1
  else s

/-- R225, R229, R234, R237, R328: a fault of the phase: the record, when it holds none, where a gate fault displaces the
trip of its own cycle; then tripped. An OWNER of 2h stays: ownership moves only upward (R229, R332). -/
def phaseFault (s : State) (p cause : Nat) : State :=
  let s1 :=
    if recCause s p ≠ 0 then
      (if cause = 3 ∧ (s.phase p).faultAt = some s.t then setRec s p 24 4 3 else s)
    else
      let own := if recOwner s p = 2 ∨ phaseMode s p = 2 ∨ s.nat (phaseIdx p) 0x13 ≤ recAttempts s p then 2 else 1
      let s2 := (setRec (setRec s p 24 4 cause) p 28 4 own).put (phaseIdx p) 0x19 (lo32 s.now)
      let s3 := s2.modPhase p (fun x => { x with window := false, ran := 0, ranFrom := none, faultAt := some s.t })
      if recOwner s p = 0 ∧ own = 1 then startEpisodes s3 p else s3
  if phaseState s p = 6 ∨ phaseState s p = 7 then s1 else lockOut (enterPhase s1 p 6) p

/-- R329, R331, R699: OWNER goes from 1h to 2h, and the phase acts under R227. -/
def takeOwner (s : State) (p : Nat) : State :=
  if recOwner s p = 1 then
    lockOut ((setRec s p 28 4 2).modPhase p (fun x => { x with window := false, ran := 0, ranFrom := none })) p
  else s

/-- R226, R230: the conditions of a re-arm other than the delay. -/
def rearmReady (s : State) (p : Nat) : Bool :=
  let x := s.phase p
  x.gf && decide (x.gfSince + cyclesUs (s.nat (phaseIdx p) 0x15) ≤ s.t) && phaseValid s p &&
    decide (s.int (phaseIdx p) 0x10 < phaseX s p) && decide (phaseX s p < s.int (phaseIdx p) 0x0F) && x.grant

/-- R230, R242: every field of the record cleared, with the latch. -/
def clearPhaseRecord (s : State) (p : Nat) : State :=
  (s.put (phaseIdx p) 0x18 0).modPhase p (fun x => { x with
    latch := false, unseen := false, window := false, ran := 0, ranFrom := none })

/-- R212, R242: the disable path; the Pilot of a disabled phase goes off too. -/
def disablePhase (s : State) (p : Nat) : State :=
  if phaseState s p = 0 then pilotOff s p
  else
    let s1 := (clearPhaseRecord s p).modPhase p (fun x => { x with
      parkMem := false, tripHi := false, tripLo := false, off := true })
    enterPhase ((pilotOff s1 p).put (phaseIdx p) 1 0) p 0

/-- R218: a low GFp_N sets the latch while the phase is not disabled. -/
def latchGateFault (s : State) (p : Nat) : State :=
  if phaseState s p = 0 ∨ (s.phase p).latch = true then s
  else s.modPhase p (fun x => { x with latch := true, unseen := true, latchAt := s.t })

/-- R218: the level of GFp_N acts on a phase that has just left disabled or cleared its latch. -/
def latchIfLow (s : State) (p : Nat) : State := if (s.phase p).gf then s else latchGateFault s p

/-! ### Trip and blind -/

/-- R217, R225: a trip of one side, counted at its onset. -/
def tripOnset (s : State) (p cause : Nat) : State :=
  phaseFault (phaseReport ((s.bump (phaseIdx p) 0x1F 16).setBits (phaseIdx p) 0x1A 1) p .uc) p cause

/-- PHASE_TRIP, R216: the comparison of x with the trip limits. -/
def tripCheck (s : State) (p : Nat) : State :=
  let hi := phaseValid s p && decide (s.int (phaseIdx p) 0x0F ≤ phaseX s p)
  let lo := phaseValid s p && decide (phaseX s p ≤ s.int (phaseIdx p) 0x10)
  let x := s.phase p
  let s1 := s.modPhase p (fun x => { x with tripHi := hi, tripLo := lo })
  let s2 := if hi && !x.tripHi then tripOnset s1 p 1 else s1
  if lo && !x.tripLo then tripOnset s2 p 2 else s2

/-- R222, R240: the blind condition, with the guard that stood before a write of the present cycle. -/
def blindMet (s : State) (p : Nat) : Bool :=
  !phaseValid s p || ((s.phase p).guardWas.getD (s.flag (phaseIdx p) 0x11 0) && absI (phaseX s p) == 8388607)

/-- R222, R237: whether a phase that is in ON or OFF in the present cycle meets its blind condition, which displaces its
park request and its band. -/
def blindDue (s : State) (p : Nat) : Bool :=
  switching (phaseState s p) && decide ((s.phase p).entry ≤ s.t) && blindMet s p

/-- PHASE_BLIND and BLIND_RESUME, R222, R223, R237: at the end of the cycle, after the events that would displace it. -/
def blindCheck (s : State) (p : Nat) : State :=
  if blindDue s p then
    enterPhase (phaseReport ((s.bump (phaseIdx p) 0x21 16).setBits (phaseIdx p) 0x1A 8) p .ce) p 5
  else if phaseState s p = 5 ∧ (s.phase p).entry ≤ s.t ∧ blindMet s p = false then
    if (s.phase p).grant then resumePhase s p
    else enterPhase (s.modPhase p (fun x => { x with parkMem := false })) p 1
  else s

/-- R216: the trip comparison of a phase that is not disabled. -/
def phaseWatch (s : State) (p : Nat) : State :=
  if s.on 5 = false ∨ phaseState s p = 0 then s else tripCheck s p

/-- R222, R223, R237: what ends a fabric cycle for the phases: their blind conditions. -/
def phasesEnd (s : State) : State :=
  if s.on 5 then
    (List.range 48).foldl (fun s p => (blindCheck s p).modPhase p (fun x => { x with guardWas := none })) s
  else s

/-- R216, R240: every phase's trip comparison in a new cycle. -/
def phasesBegin (s : State) : State := (List.range 48).foldl phaseWatch s

/-! ### What the rail gives -/

/-- R198, R210, R235, R257: the run grant of phase p. -/
def setGrant (s : State) (p : Nat) (b : Bool) : State :=
  let st := phaseState s p
  if b then (if st = 8 then s else idleCheck (s.modPhase p (fun x => { x with grant := true })) p)
  else
    let s1 := s.modPhase p (fun x => { x with grant := false })
    if st = 2 ∨ st = 3 ∨ st = 4 then enterPhase s1 p 1 else s1

/-- R231, R233: the park request of phase p. -/
def setPark (s : State) (p : Nat) (b : Bool) : State :=
  let st := phaseState s p
  s.modPhase p (fun x => { x with park := b, parkMem := x.parkMem || (b && (st == 5 || st == 6 || st == 7)) })

/-- LEVEL_FALL_DISABLE, R243: every phase outside the admitted level takes the disable path. -/
def disableUnadmitted (s : State) : State :=
  (List.range 48).foldl (fun s p => if s.phaseAdmitted p then s else disablePhase s p) s

end Sys2Proof.Machine
end

