-- ==== Sys2Proof/Machine/RailOps.lean ====
section
/-! DEFINITION. What a rail and its supervisor do by themselves (R249 to R340): units and weights, sharing, slots, the
recall detector, derating, the voltage watch, start, wind-down and stop. `settleRail` brings a rail to what its rules
call for in the cycle; the rows stand in Rails.lean and Supervision.lean. -/
namespace Sys2Proof.Machine

/-- The kind of rail r (R249). -/
def railKind (s : State) (r : Nat) : Nat := s.nat (railIdx r) 2

/-- The groups of rail r, which are also the members of one of its units (R249, R250). -/
def railGroups (s : State) (r : Nat) : Nat := if railKind s r = 2 ∨ railKind s r = 3 then 3 else 1

/-- The group of the member at position i (R250). -/
def groupOf (s : State) (r i : Nat) : Nat := i % railGroups s r

/-- The unit of the member at position i (R250). -/
def unitOf (s : State) (r i : Nat) : Nat := i / railGroups s r

/-- The units of rail r. -/
def unitCount (s : State) (r : Nat) : Nat := ceilDiv (memberCount s r) (railGroups s r)

/-- The positions of the members of unit u. -/
def unitMembers (s : State) (r u : Nat) : List Nat :=
  (List.range (memberCount s r)).filter (fun i => unitOf s r i == u)

/-- The state of unit u in 4h:13h (R281, R296): 0 SHED, 1 RECALL, 2 ACTIVE, 3 TAPER. -/
def unitState (s : State) (r u : Nat) : Nat := fieldN (s.nat (railIdx r + 4) 0x13) (2 * (u * railGroups s r)) 2

/-- The weight of member i (R298). -/
def weightOf (s : State) (r i : Nat) : Nat := s.nat (railIdx r + 6) (1 + i)

/-- Rail flags 0h:0Ch set. -/
def railFlag (s : State) (r mask : Nat) : State := s.setBits (railIdx r) 0x0C mask

/-- Whether a member has an exclusion cause of its own (R256). -/
def memberCause (s : State) (r i : Nat) : Bool :=
  let p := memberPhase s r i
  s.flag (railIdx r + 4) 0x10 i || s.flag (svIdx r + 4) 1 i ||
    (phaseState s p == 0 && ((s.phase p).off || !s.phaseAdmitted p))

/-- Whether unit u is available (R256). -/
def unitAvail (s : State) (r u : Nat) : Bool := !(unitMembers s r u).any (memberCause s r)

/-- Whether member i is excluded, with its triple (R256). -/
def memberExcluded (s : State) (r i : Nat) : Bool := !unitAvail s r (unitOf s r i)

/-- The units that hold a slot, by position (R275). -/
def slotHolders (s : State) (r : Nat) : List Nat :=
  (List.range (unitCount s r)).filter (fun u => unitState s r u != 0)

/-- The units in a state. -/
def unitsIn (s : State) (r st : Nat) : List Nat :=
  (List.range (unitCount s r)).filter (fun u => unitState s r u == st)

/-- The available units. -/
def availUnits (s : State) (r : Nat) : List Nat := (List.range (unitCount s r)).filter (unitAvail s r)

/-! ### Units -/

/-- R281, R282: the park request of unit u to its members' phases. -/
def setUnitPark (s : State) (r u : Nat) (b : Bool) : State :=
  let s1 := s.modRail r (fun x => { x with parks := modAt x.parks u (fun _ => b) })
  (unitMembers s1 r u).foldl (fun s i => setPark s (memberPhase s r i) b) s1

/-- The weight of every member of unit u. -/
def setUnitWeight (s : State) (r u w : Nat) : State :=
  (unitMembers s r u).foldl (fun s i => s.putN (railIdx r + 6) (1 + i) w) s

/-- R279: the ramp period of a unit in RECALL or TAPER. -/
def rampPeriod (s : State) (r st : Nat) : Nat :=
  ceilDiv (s.nat (railIdx r + 4) (if st = 3 then 0x0B else 0x0C) * 200) 256

/-- R259: the wheels of a rail that runs or winds down, in mode 0h: bit 0 the rail wheel, bit 1 the carrier wheel. -/
def railWheels (s : State) (r : Nat) : Nat :=
  if railStatus s r = 0 then 0
  else (if wheelMode s (s.nat (railIdx r) 3) = 0 then 1 else 0) +
    (if railGroups s r = 3 ∧ wheelMode s (s.nat (railIdx r) 4) = 0 then 2 else 0)

/-- R279: the next ramp tick after cycle e; with a ramp time of 0 it ends the ramp. -/
def nextRamp (s : State) (r st e : Nat) : Option (Nat × Bool) :=
  let p := rampPeriod s r st
  some (e + max p 1, p == 0)

/-- R285: whether unit u has not changed in the present cycle. -/
def mayMove (s : State) (r u : Nat) : Bool := decide ((s.rail r).moved.getD u 0 ≤ s.t)

/-- R281: unit u enters a state from the next cycle; at weight 0 or 256 no ramp runs. -/
def enterUnit (s : State) (r u st : Nat) : State :=
  let e := s.t + 1
  let s1 := (unitMembers s r u).foldl (fun s i =>
    s.putN (railIdx r + 4) 0x13 (setFieldN (s.nat (railIdx r + 4) 0x13) (2 * i) 2 st)) s
  let w := weightOf s1 r (u * railGroups s1 r)
  let done := st == 0 || st == 2 || (st == 3 && w == 0) || (st == 1 && w == 256)
  let s2 := s1.modRail r (fun x => { x with
    ramps := modAt x.ramps u (fun _ => if done then none else nextRamp s r st e),
    moved := modAt x.moved u (fun _ => e),
    dwell := if st == 0 || st == 2 then e else x.dwell })
  if st = 0 then setUnitPark (setUnitWeight s2 r u 0) r u true
  else if st = 3 then s2
  else setUnitPark s2 r u false

/-- R281, R285: the completions: a unit whose weight has reached 256 in RECALL becomes ACTIVE, and a unit in TAPER whose
weight reached 0 in an earlier cycle asks its members to park. -/
def completeUnit (s : State) (r u : Nat) : State :=
  let w := weightOf s r (u * railGroups s r)
  if mayMove s r u = false then s
  else if unitState s r u = 1 ∧ w = 256 then railFlag (enterUnit s r u 2) r 4
  else if unitState s r u = 3 ∧ w = 0 ∧ (s.rail r).parks.getD u false = false then setUnitPark s r u true
  else s

/-- R285: the completions of rail r. -/
def completeUnits (s : State) (r : Nat) : State :=
  (List.range (unitCount s r)).foldl (fun s u => completeUnit s r u) s

/-- R281: unit u is recalled from SHED or from TAPER. -/
def recallUnit (s : State) (r u : Nat) : State :=
  if unitState s r u = 0 then enterUnit (setUnitWeight (s.bump (railIdx r + 4) 0x17 32) r u 0) r u 1
  else enterUnit (s.bump (railIdx r + 4) 0x19 16) r u 1

/-- UNIT_UNAVAILABLE, R281: units that stop being available go to SHED. -/
def dropUnavailable (s : State) (r : Nat) : State :=
  let seen := (s.rail r).avail
  let s1 := (List.range (unitCount s r)).foldl (fun s u =>
    if unitAvail s r u then s
    else if unitState s r u ≠ 0 then railFlag (enterUnit s r u 0) r 64
    else if bitN seen u then railFlag s r 64
    else s) s
  s1.modRail r (fun x => { x with avail := maskOf (availUnits s1 r) })

/-! ### Slots -/

/-- R252: the Pilot wheel of the rail's members. -/
def pilotWheelOf (s : State) (r : Nat) : Nat := s.nat (railIdx r) (if railGroups s r = 3 then 4 else 3)

/-- R275: the slot angle of a member of group h of the slot-holding unit of rank z among N. -/
def slotAngle (s : State) (r z h N : Nat) : Word :=
  let a0 := s.obj (railIdx r + 1) 0x13
  if railGroups s r = 3 ∧ s.flag (railIdx r + 1) 0x14 0 then
    a0 + BitVec.ofNat 32 ((3 * z + h) * 4294967296 / (3 * N))
  else a0 + BitVec.ofNat 32 (z * 4294967296 / N)

/-- SLOT_RESPACE, R252, R275 to R277: every member's Pilot wheel and slot angle. -/
def respace (s : State) (r : Nat) : State :=
  let hs := slotHolders s r
  let wp := pilotWheelOf s r
  (List.range (memberCount s r)).foldl (fun s i =>
    let p := memberPhase s r i
    if s.nat (railIdx r + 1) 0x12 = 1 then setSlot s p wp (s.obj (railIdx r + 2) (1 + i))
    else match hs.findIdx? (fun u => u == unitOf s r i) with
      | some z => setSlot s p wp (slotAngle s r z (groupOf s r i) hs.length)
      | none => setSlot s p wp (s.obj (phaseIdx p) 0x2C)) s

/-! ### Totals and centres -/

/-- R265, R266: the sum of the delivered values of the bindings of a target, for group h. -/
def bindingSum (s : State) (r target h : Nat) : Int :=
  sumI ((List.range 4).map fun b =>
    if s.nat (railIdx r + 5) (1 + 6 * b) ≠ 255 ∧ s.nat (railIdx r + 5) (2 + 6 * b) = target then
      (s.rail r).ff.getD (3 * b + h) 0 else 0)

/-- The largest group total (R265). -/
def totMax : Int := 134217727

/-- R607, R612: floor(x × 65 536 ÷ G); for a gain of 0 the spec states no result, and the value is free. -/
def countsOf (x G : Int) : Int := if G = 0 then Config.divZero (x * 65536) else Int.fdiv (x * 65536) G

/-- The gain of the channel of a rail's member 0. -/
def railGain (s : State) (r : Nat) : Int := chanGain s (phaseChan s (memberPhase s r 0))

/-- R612: the limit that the source search puts on the group total of rail r. -/
def sourceLimit (s : State) (r : Nat) : Option Int :=
  if railKind s r = 5 ∧ s.cnat 0x2E02 2 = r ∧ s.cnat 0x2E03 1 ≠ 0 then some (countsOf (s.int 0x2E03 0x0A) (railGain s r))
  else none

/-- R607: the limit that the charger puts on the group total of rail r. -/
def chargeLimit (s : State) (r : Nat) : Option Int :=
  if railKind s r = 4 ∧ s.cnat 0x2E00 2 = r ∧ s.nat 0x2E00 5 ≠ 0 then some (countsOf (s.int 0x2E00 0x0A) (railGain s r))
  else none

/-- A total under an optional upper limit. -/
def capTot (t : Int) : Option Int → Int
  | some l => min t l
  | none => t

/-- R316: W″, the weights of the members of group h that carry current. -/
def carryingWeight (s : State) (r h : Nat) : Nat :=
  ((List.range (memberCount s r)).map fun i =>
    let st := phaseState s (memberPhase s r i)
    if groupOf s r i = h ∧ memberExcluded s r i = false ∧ st ≠ 6 ∧ st ≠ 7 then weightOf s r i else 0).sum

/-- R316: the derating limit Lim_h. -/
def derateLimit (s : State) (r h : Nat) : Int :=
  if railStatus s r ≠ 0 ∧ s.flag (svIdx r) 1 2 then
    let ileg := s.nat (svIdx r + 1) 0x0B
    let lleg : Int := if ileg = 0 then totMax else ((ileg * carryingWeight s r h / 256 : Nat) : Int)
    min lleg (s.nat (svIdx r + 2) (4 + h))
  else totMax

/-- R265: the total of group h before its clamp. -/
def rawTotal (s : State) (r h : Nat) : Int := s.int (railIdx r + 3) (5 + h) + bindingSum s r 0 h

/-- R265, R607, R612: the total of group h before derating. -/
def demandTotal (s : State) (r h : Nat) : Int :=
  let t := clampI (rawTotal s r h) (-totMax) totMax
  if h = 0 then capTot (capTot t (chargeLimit s r)) (sourceLimit s r) else t

/-- R317: Tot_h. -/
def groupTotal (s : State) (r h : Nat) : Int :=
  clampI (demandTotal s r h) (-derateLimit s r h) (derateLimit s r h)

/-- R320: the shadow current of group h. -/
def shadowCurrent (s : State) (r h : Nat) : Nat :=
  if railStatus s r = 0 then 0
  else
    let l := (List.range (memberCount s r)).filter (fun i => groupOf s r i == h)
    let lost := l.filter (fun i =>
      memberExcluded s r i || phaseState s (memberPhase s r i) == 6 || phaseState s (memberPhase s r i) == 7)
    if l.length = 0 then 0 else (s.int (railIdx r + 3) (8 + h)).natAbs * lost.length / l.length

/-- R265, R317, R318: the group totals formed, with the derate onsets; the source search sees its limit act (R611). -/
def formTotals (s : State) (r : Nat) : State :=
  let s1 := (List.range (railGroups s r)).foldl (fun s h =>
    let lim := decide (groupTotal s r h ≠ demandTotal s r h)
    let was := (s.rail r).limited.getD h false
    let s2 := (s.putI (railIdx r + 3) (8 + h) (groupTotal s r h)).modRail r (fun x => { x with
      limited := modAt x.limited h (fun _ => lim) })
    if lim && !was then ((s2.bump (svIdx r + 2) 0x12 16).setBits (svIdx r + 2) 0x0D 8).report (24 + r) .ce else s2) s
  match sourceLimit s1 r with
  | some l =>
    if l < clampI (rawTotal s1 r 0) (-totMax) totMax then { s1 with chg := { s1.chg with limited := true } } else s1
  | none => s1

/-- R266: the centre of member i, before its clamp. -/
def rawCentre (s : State) (r i : Nat) : Int :=
  let p := memberPhase s r i
  let o := chanOffset s (phaseChan s p)
  if unitState s r (unitOf s r i) = 0 then o
  else
    let h := groupOf s r i
    let w : Int := weightOf s r i
    let W : Nat := ((List.range (memberCount s r)).map (fun k => if groupOf s r k = h then weightOf s r k else 0)).sum
    o + tdiv (s.int (railIdx r + 3) (8 + h) * w) ((max W 256 : Nat) : Int) + tdiv (bindingSum s r 1 h * w) 256

/-- R266: the centre of member i. -/
def centreOf (s : State) (r i : Nat) : Int := clampI (rawCentre s r i) (-8388607) 8388607

/-- R266, R267: every member's centre delivered; a change into a clamp is counted. -/
def formCentres (s : State) (r : Nat) : State :=
  let hit := (List.range (railGroups s r)).any (fun h =>
      decide (rawTotal s r h ≠ clampI (rawTotal s r h) (-totMax) totMax)) ||
    (List.range (memberCount s r)).any (fun i =>
      unitState s r (unitOf s r i) != 0 && decide (rawCentre s r i ≠ centreOf s r i))
  let s1 := (List.range (memberCount s r)).foldl (fun s i =>
    s.putI (phaseIdx (memberPhase s r i)) 0x0D
      (if unitState s r (unitOf s r i) = 0 then rawCentre s r i else centreOf s r i)) s
  let s2 := if hit && !(s.rail r).clamped then railFlag (s1.bump (railIdx r + 3) 0x0E 16) r 16 else s1
  s2.modRail r (fun x => { x with clamped := hit })

/-- R280: the load measure M. -/
def loadNow (s : State) (r : Nat) : Nat :=
  maxN ((List.range (railGroups s r)).map (fun h => (s.int (railIdx r + 3) (8 + h)).natAbs))

/-- R280: the held load L in a cycle. -/
def holdLoad (s : State) (r : Nat) : State :=
  let m := loadNow s r
  s.putN (railIdx r + 4) 0x12 (if s.nat (railIdx r + 4) 0x0D = 0 then m else max (s.nat (railIdx r + 4) 0x12) m)

/-- R280: the held load at a millisecond tick. -/
def railTick (s : State) (r : Nat) : State :=
  if railStatus s r = 0 ∨ s.nat (railIdx r + 4) 0x0D = 0 then s
  else s.putN (railIdx r + 4) 0x12
    (max (loadNow s r) (s.nat (railIdx r + 4) 0x12 - s.nat (railIdx r + 4) 0x0D))

/-! ### Recall detector and slow decisions -/

/-- R284: whether the droop test holds. -/
def droopMet (s : State) (r : Nat) : Bool :=
  let c := s.nat (railIdx r) 6
  let th := s.int (railIdx r + 4) 0x0F
  match s.nat (railIdx r + 4) 0x0E with
  | 1 => fastValid s c && decide (fastResult s c ≤ th)
  | 2 => fastValid s c && decide (th ≤ fastResult s c)
  | _ => false

/-- R284: whether the burst test holds. -/
def burstMet (s : State) (r : Nat) : Bool :=
  let lb := s.nat (railIdx r + 4) 7
  lb != 0 && decide (lb * (slotHolders s r).length ≤ s.nat (railIdx r + 4) 0x12)

/-- RECALL_DETECTOR, R284: every available SHED unit and every TAPER unit is recalled while the detector fires. -/
def recallDetector (s : State) (r : Nat) : State :=
  let mode := s.nat (railIdx r + 4) 1
  let fire := railStatus s r == 1 && (mode == 1 || mode == 2) && (burstMet s r || droopMet s r)
  let s1 := if fire && !(s.rail r).firing then railFlag (s.bump (railIdx r + 4) 0x18 16) r 8 else s
  let s2 := s1.modRail r (fun x => { x with firing := fire })
  if fire then
    (List.range (unitCount s2 r)).foldl (fun s u =>
      if mayMove s r u = true ∧ (unitState s r u = 3 ∨ (unitState s r u = 0 ∧ unitAvail s r u = true)) then recallUnit s r u else s) s2
  else s2

/-- R283: the condition of a shed decision, without its delay. -/
def shedWanted (s : State) (r : Nat) : Bool :=
  let b := railIdx r + 4
  let an := (unitsIn s r 2).length
  match s.nat b 1 with
  | 1 => decide (s.nat b 2 < an) && decide (s.nat b 0x12 < s.nat b 5 * (an - 1))
  | 2 => decide (max (s.nat b 4) (s.nat b 2) < an)
  | _ => false

/-- The available units in SHED, by position. -/
def shedAvailable (s : State) (r : Nat) : List Nat := (unitsIn s r 0).filter (unitAvail s r)

/-- R283: the condition of a recall decision of shed modes 1h and 2h, without its delay. -/
def recallWanted (s : State) (r : Nat) : Bool :=
  let b := railIdx r + 4
  let an := (unitsIn s r 2).length
  match s.nat b 1 with
  | 1 => !(shedAvailable s r).isEmpty && decide (s.nat b 6 * an < s.nat b 0x12)
  | 2 => decide (an < s.nat b 4) && !(shedAvailable s r).isEmpty
  | _ => false

/-- R283: whether the slow decisions are evaluated, but for the dwell. -/
def slowReady (s : State) (r : Nat) : Bool :=
  railStatus s r == 1 && (unitsIn s r 3).isEmpty && (unitsIn s r 1).isEmpty

/-- R283: the cycle in which the dwell expires. -/
def dwellEnd (s : State) (r : Nat) : Nat := (s.rail r).dwell + cyclesUs (s.nat (railIdx r + 4) 0x0A)

/-- A held condition brought to the present: it counts while `run`, keeps what it has while only `cond` holds, and restarts
when `cond` breaks (R283, R323). -/
def Held.settle (h : Held) (cond run : Bool) (now : Nat) : Held :=
  if cond = false then {}
  else match run, h.since with
    | true, none => { h with since := some now }
    | true, some _ => h
    | false, some f => { acc := h.acc + (now - f), since := none }
    | false, none => h

/-- The cycles a held condition has held. -/
def Held.held (h : Held) (now : Nat) : Nat :=
  match h.since with
  | some f => h.acc + (now - f)
  | none => h.acc

/-- R283: the times held by the two slow conditions. -/
def settleSlow (s : State) (r : Nat) : State :=
  let go := slowReady s r && decide (dwellEnd s r ≤ s.t)
  s.modRail r (fun x => { x with
    shedHeld := x.shedHeld.settle (shedWanted s r) go s.t,
    recallHeld := x.recallHeld.settle (recallWanted s r) go s.t })

/-! ### Supervision timers -/

/-- R313, R328: the episode time and the blind time of member i brought to the present. -/
def settleMember (s : State) (r i : Nat) : State :=
  let p := memberPhase s r i
  let at' := max s.t (s.phase p).entry
  let on := railStatus s r ≠ 0
  let counts := decide on && phaseState s p == 6 && recOwner s p == 1
  let blind := decide on && s.flag (svIdx r) 1 0 && phaseState s p == 5
  s.modRail r (fun x => { x with members := modAt x.members i (fun m => { m with
    epAcc := match counts, m.epFrom with
      | false, some f => m.epAcc + (at' - f)
      | _, _ => m.epAcc,
    epFrom := if counts then (match m.epFrom with | some f => some f | none => some at') else none,
    blindFrom := if blind then (match m.blindFrom with | some f => some f | none => some at') else none,
    blindDone := blind && m.blindDone }) })

/-- R328: the episode time of member i, in microseconds. -/
def episodeUs (s : State) (r i : Nat) : Nat :=
  let m := (s.rail r).members.getD i {}
  satN 32 ((match m.epFrom with | some f => m.epAcc + (s.t - f) | none => m.epAcc) / 200)

/-- Whether the voltage watch of rail r runs (R321). -/
def watchRuns (s : State) (r : Nat) : Bool := railStatus s r != 0 && s.flag (svIdx r) 1 1

/-- R321: the output channels that the watch tests. -/
def watchOutputs (s : State) (r : Nat) : List Nat :=
  if railGroups s r = 1 then [s.nat (railIdx r) 6]
  else ((List.range 3).filter (fun h => !s.flag (svIdx r) 0x0C h)).map (fun h => s.nat (railIdx r) (6 + h))

/-- R322: the channels whose loss the watch times. -/
def watchChannels (s : State) (r : Nat) : List Nat := (s.nat (railIdx r) 5 :: watchOutputs s r).eraseDups

/-- R322: since when each watched channel has been without a valid result. -/
def settleLost (s : State) (r : Nat) : State :=
  let old := (s.rail r).lost
  let l := if watchRuns s r then
      ((watchChannels s r).filter (fun c => !fastValid s c)).map (fun c =>
        match old.find? (fun e => e.1 == c) with
        | some e => e
        | none => (c, s.t, false))
    else []
  s.modRail r (fun x => { x with lost := l })

/-- R323: whether the regulated value lies outside its window. -/
def regOutside (s : State) (r : Nat) : Bool :=
  let c := s.nat (railIdx r) 6
  let v := s.int (senseIdx c) 0x12
  watchRuns s r && precValid s c &&
    (decide (v < s.int (svIdx r + 1) 6) || decide (s.int (svIdx r + 1) 7 < v))

/-- R323: the run of the regulation timeout. -/
def settleReg (s : State) (r : Nat) : State :=
  let out := regOutside s r
  let start := (s.rail r).started + cyclesMs (s.nat (svIdx r + 1) 9)
  s.modRail r (fun x => { x with
    reg := x.reg.settle out (railStatus s r == 1 && decide (start ≤ s.t)) s.t, regDone := out && x.regDone })

/-- R337: the voltage watch's counts and timers restart. -/
def restartWatch (s : State) (r : Nat) : State :=
  s.modRail r (fun x => { x with watch := [], lost := [], reg := {}, regDone := false })

/-! ### Stop and wind-down -/

/-- R255, R257: what a stopped rail's units hold. -/
def shedAll (s : State) (r : Nat) : State :=
  let s1 := (List.range 16).foldl (fun s i => s.put (railIdx r + 6) (1 + i) 0) (s.put (railIdx r + 4) 0x13 0)
  s1.modRail r (fun x => { x with ramps := List.replicate 16 none, parks := List.replicate 16 false })

/-- R257: the rail stops: grants withdrawn, units shed, delivered values and centres 0. -/
def stopRail (s : State) (r : Nat) : State :=
  if railStatus s r = 0 then s
  else
    let ps := railMembers s r
    let s1 := ((s.putN (railIdx r) 9 0).put (railIdx r) 1 0).put (railIdx r + 4) 0x12 0
    let s2 := ps.foldl (fun s p => ((setPark (setGrant s p false) p false).put (phaseIdx p) 0x0D 0)) s1
    let s3 := (shedAll s2 r).modRail r (fun x => { x with
      ff := List.replicate 12 0, clamped := false, limited := List.replicate 3 false, firing := false, few := false,
      shedHeld := {}, recallHeld := {} })
    restartWatch ((List.range (memberCount s3 r)).foldl (fun s i => settleMember s r i) s3) r

/-- R258: a running rail starts to wind down. -/
def windRail (s : State) (r : Nat) : State :=
  if railStatus s r ≠ 1 then s
  else
    let s1 := ((s.putN (railIdx r) 9 2).putN (railIdx r) 1 2).modRail r (fun x => { x with
      shedHeld := {}, recallHeld := {}, firing := false })
    (unitsIn s1 r 1).foldl (fun s u => enterUnit s r u 3) s1

/-- R258: during a wind-down the highest slot holder tapers whenever no unit does; with no slot held the rail stops. -/
def windStep (s : State) (r : Nat) : State :=
  if railStatus s r ≠ 2 then s
  else if (slotHolders s r).isEmpty then railFlag (stopRail s r) r 128
  else if (unitsIn s r 3).isEmpty then
    match (slotHolders s r).getLast? with
    | some u => enterUnit s r u 3
    | none => s
  else s

/-! ### Conditions of the supervisor -/

/-- The action of a cause (R327). -/
def condAction (s : State) (r cause : Nat) : Nat := fieldN (s.nat (svIdx r + 1) 0x0A) (2 * (cause - 1)) 2

/-- R325, R331: the rail's own action. -/
def railAction (s : State) (r action : Nat) : State :=
  if action = 0 then s
  else
    let s1 := (railMembers s r).foldl takeOwner s
    if action = 2 then stopRail s1 r else windRail s1 r

/-- VOLTAGE_CONDITION, TOO_FEW_UNITS, R325, R326, R342: conditions that qualify in one cycle, whose strongest action the
rail takes in the next; a record written in the present cycle takes the strongest action and the lowest cause among those
that qualify in it. -/
def qualify (s : State) (r : Nat) (causes : List Nat) : State :=
  match causes with
  | [] => s
  | c0 :: _ =>
    let s1 := causes.foldl (fun s c =>
      let a := condAction s r c
      let s2 := (s.setBits (svIdx r + 2) 0x0D (2 ^ (c + 3))).bump (svIdx r + 2) 0x14 16
      if a ≠ 0 then s2.report (24 + r) .uc else if c = 7 then s2 else s2.report (24 + r) .ce) s
    let best := maxN (causes.map (condAction s r))
    let low := causes.foldl min c0
    let old := s1.nat (svIdx r + 2) 0x0A
    let s3 := if fieldN old 0 4 = 0 then
        ((s1.putN (svIdx r + 2) 0x0A (best * 16 + low)).put (svIdx r + 2) 0x0B (lo32 s.now)).modRail r
          (fun x => { x with recAt := some s.t })
      else if (s.rail r).recAt = some s.t then
        s1.putN (svIdx r + 2) 0x0A (max best (fieldN old 4 4) * 16 + min low (fieldN old 0 4))
      else s1
    s3.modRail r (fun x => { x with act := max x.act best })

/-- TOO_FEW_UNITS, R324: the first cycle of a run of cycles with too few units. -/
def fewCheck (s : State) (r : Nat) : State :=
  let n := (availUnits s r).length
  let mode := s.nat (railIdx r + 4) 1
  let few := railStatus s r == 1 &&
    (if mode == 0 then n == 0 else decide (n < s.nat (railIdx r + 4) 2))
  let was := (s.rail r).few
  let s1 := s.modRail r (fun x => { x with few := few })
  if few && !was then qualify s1 r [7] else s1

/-! ### A rail brought to what its rules call for -/

/-- R285: loss of availability, completions, the detector, the wind-down, slots, centres, and the supervisor's timers. -/
def settleRail (s : State) (r : Nat) : State :=
  if railStatus s r = 0 then (List.range (memberCount s r)).foldl (fun s i => settleMember s r i) s
  else
    let s1 := holdLoad (formTotals (completeUnits (dropUnavailable s r) r) r) r
    let s2 := windStep (recallDetector s1 r) r
    if railStatus s2 r = 0 then s2
    else
      let s3 := fewCheck (formCentres (respace s2 r) r) r
      settleReg (settleLost (settleSlow
        ((List.range (memberCount s3 r)).foldl (fun s i => settleMember s r i) s3) r) r) r

/-- Every rail brought to what its rules call for. -/
def settleRails (s : State) : State :=
  if s.on 5 then (List.range 12).foldl settleRail s else s

/-! ### Start -/

/-- The member counts that a kind accepts (R249). -/
def countAccepted (kind n : Nat) : Bool :=
  if kind = 2 ∨ kind = 3 then n == 3 || n == 6 || n == 9 || n == 12 || n == 15 else decide (1 ≤ n) && decide (n ≤ 16)

/-- R610: condition 7h for a CHG or SRC rail r: it holds while the power path is disabled and for a rail that is not bound;
a bound rail may start in starting and line, the CHG rail only while the SRC rail runs or none is bound. -/
def pathAllows (s : State) (r : Nat) : Bool :=
  let st := s.nat 0x2E02 0x0D
  let src := s.cnat 0x2E02 2
  if (railKind s r ≠ 4 ∧ railKind s r ≠ 5) ∨ s.cflag 0x2E02 1 0 = false then true
  else if src = r then st == 3 || st == 4
  else if s.cnat 0x2E00 2 = r then (st == 3 || st == 4) && (src == 255 || railStatus s src != 0)
  else true

/-- R254: the code of the first failing condition of a start, 0 when none fails. -/
def startCode (s : State) (r : Nat) : Nat :=
  let ms := railMembers s r
  let others := (List.range 12).filter (fun o => o != r && railStatus s o != 0)
  let three := railGroups s r == 3
  let mode := s.nat (railIdx r + 4) 1
  let n := (availUnits s r).length
  if countAccepted (railKind s r) (memberCount s r) = false then 1
  else if ms.any (fun p => !s.phaseAdmitted p || phaseMode s p != 1) then 2
  else if ms.eraseDups.length ≠ ms.length ∨ others.any (fun o => (railMembers s o).any ms.contains) = true then 3
  else if others.any (fun o => s.nat (railIdx o) 3 == s.nat (railIdx r) 3) = true then 4
  else if wheelMode s (s.nat (railIdx r) 3) = 0 ∨ (three = true ∧ wheelMode s (s.nat (railIdx r) 4) = 0) then 5
  else if n = 0 ∨ (mode ≠ 0 ∧ n < s.nat (railIdx r + 4) 2) then 6
  else if pathAllows s r = false then 7
  else 0

/-- R255: the units that a start recalls. -/
def startUnits (s : State) (r : Nat) : List Nat :=
  let l := availUnits s r
  match s.nat (railIdx r + 4) 1 with
  | 1 => l.take (s.nat (railIdx r + 4) 3)
  | 2 => l.take (s.nat (railIdx r + 4) 4)
  | _ => l

/-- R611, R612: the source search restarts at I_start in probe; in fixed mode the limit is I_max. -/
def restartSearch (s : State) : State :=
  let m := s.cnat 0x2E03 1
  let s1 := match m with
    | 1 => (s.put 0x2E03 0x0A (s.cobj 0x2E03 2)).putN 0x2E03 0x0B 1
    | 2 => (s.put 0x2E03 0x0A (s.cobj 0x2E03 4)).putN 0x2E03 0x0B 2
    | _ => (s.putN 0x2E03 0x0A 0).putN 0x2E03 0x0B 0
  { s1 with chg := { s1.chg with periodStart := s.t, limited := false } }

/-- R255: an accepted start. -/
def startRail (s : State) (r : Nat) : State :=
  let us := startUnits s r
  let s1 := (((s.putN (railIdx r) 9 1).putN (railIdx r) 1 1).put (railIdx r) 0x0A 0)
  let s2 := (List.range 3).foldl (fun s h => (s.put (railIdx r + 3) (5 + h) 0)) s1
  let s3 := (List.range 4).foldl (fun s b => s.put (railIdx r + 5) (0x19 + b) (s.obj (railIdx r + 5) (3 + 6 * b))) s2
  let s4 := (shedAll s3 r).modRail r (fun x => { x with
    ff := List.replicate 12 0, clamped := false, limited := List.replicate 3 false, firing := false, few := false,
    avail := maskOf (availUnits s3 r), dwell := s.t + 1, started := s.t + 1, shedHeld := {}, recallHeld := {},
    watch := [], lost := [], reg := {}, regDone := false })
  let s5 := (List.range (unitCount s4 r)).foldl (fun s u =>
    if us.contains u then recallUnit s r u else setUnitPark s r u true) s4
  let s6 := (railMembers s5 r).foldl (fun s p => setGrant s p true) (respace s5 r)
  settleRail (if railKind s r = 5 ∧ s.cnat 0x2E02 2 = r then restartSearch s6 else s6) r

/-- R254, R706: a write of 1h to the mode of a stopped rail, judged: whether it started. -/
def tryStart (s : State) (r : Nat) : Bool × State :=
  if inHarbour s then (false, s)
  else
    match startCode s r with
    | 0 => (true, startRail s r)
    | c => (false, railFlag (s.putN (railIdx r) 0x0A c) r 1)

/-! ### Demand -/

/-- R261: the staged set as it stands in the present cycle. -/
def stagedSet (s : State) (r : Nat) : List Int × List Int :=
  ((List.range 3).map (fun h => s.int (railIdx r + 3) (1 + h)),
    (List.range 4).map (fun b => s.int (railIdx r + 5) (3 + 6 * b)))

/-- R261, R263: at the end of the cycle of a commit, after any apply of that cycle, its set becomes pending. -/
def commitEnd (s : State) (r : Nat) : State :=
  match (s.rail r).coming with
  | some (d, g) =>
    (if (s.rail r).new then s.bump (railIdx r + 3) 0x0D 16 else s).modRail r
      (fun x => { x with new := true, pend := d, pendGain := g, coming := none })
  | none => s

/-- R262 to R264: an apply; a second one of the same cycle acts with the first. -/
def applyDemand (s : State) (r : Nat) : State :=
  if railStatus s r = 0 ∨ (s.rail r).appliedAt = some s.t then s
  else
    let x := s.rail r
    let s1 := (List.range 3).foldl (fun s h => s.putI (railIdx r + 3) (5 + h) (x.pend.getD h 0)) s
    let s2 := (List.range 4).foldl (fun s b => s.putI (railIdx r + 5) (0x19 + b) (x.pendGain.getD b 0)) s1
    let s3 := s2.bump (railIdx r + 3) 0x0B 32
    let s4 := if x.new then s3 else railFlag (s3.bump (railIdx r + 3) 0x0C 16) r 32
    s4.modRail r (fun x => { x with new := false, appliedAt := some s.t })

/-- R261, R262, R311, R325, R330: what the writes and decisions of earlier cycles bring to rail r in a new one: the commit's
set is taken, the action acts, the apply acts, and verdicts come into force. -/
def railBegin (s : State) (r : Nat) : State :=
  let x := s.rail r
  let s1 := s.modRail r (fun y => { y with
    commit := false, coming := if x.commit then some (stagedSet s r) else x.coming, act := 0, applyNext := false,
    verdicts := x.verdicts.filter (fun v => decide (s.t < v.1)) })
  let s2 := railAction s1 r x.act
  let s3 := if x.applyNext then applyDemand s2 r else s2
  (x.verdicts.filter (fun v => decide (v.1 ≤ s.t))).foldl (fun s v => enforceVerdict s r v.2.1 v.2.2) s3

/-- Every rail at the beginning of a cycle. -/
def railsBegin (s : State) : State := (List.range 12).foldl railBegin s

/-- Every rail at the end of a cycle. -/
def railsEnd (s : State) : State := (List.range 12).foldl commitEnd s

/-! ### Tables -/

/-- The control index of table f (R300). -/
def tableIdx (f : Nat) : Nat := 0x2508 + 16 * f

/-- R299: entry i of bank b of table f. -/
def tableEntry (s : State) (f b i : Nat) : Int :=
  let w := s.obj (0x2500 + 16 * f + 4 * b + i / 256) (1 + i % 256 / 2)
  ((if i % 2 = 0 then w.setWidth 16 else (w >>> 16).setWidth 16 : BitVec 16)).toInt

/-- R270: table f evaluated at angle a. -/
def tableAt (s : State) (f : Nat) (a : Word) : Int :=
  let b := s.nat (tableIdx f) 2
  let i := a.toNat / 4194304
  let u : Int := a.toNat / 16384 % 256
  let e0 := tableEntry s f b i
  e0 * 256 + (tableEntry s f b ((i + 1) % 1024) - e0) * u

/-- TABLE_BANK_SWAP, R273: the other bank becomes active. -/
def swapBank (s : State) (f : Nat) : State :=
  ((s.putN (tableIdx f) 2 (1 - s.nat (tableIdx f) 2)).put (tableIdx f) 5 0).bump (tableIdx f) 7 16

/-- R271: the values that a sample of table f at angle a1 delivers to the bindings of rail r. -/
def deliverTable (s : State) (f r : Nat) (a1 : Word) : State :=
  if railStatus s r = 0 then s
  else
    (List.range 4).foldl (fun s b =>
      if s.nat (railIdx r + 5) (1 + 6 * b) = f then
        (List.range (railGroups s r)).foldl (fun s h =>
          let v := tableAt s f (a1 + s.obj (railIdx r + 5) (4 + 6 * b + h))
          let F := clampI (tdiv (v * s.int (railIdx r + 5) (0x19 + b)) 65536) (-8388607) 8388607
          s.modRail r (fun x => { x with ff := modAt x.ff (3 * b + h) (fun _ => F) })) s
      else s) s

/-- R271 to R273: a sample of table f at angle a1. -/
def sampleTable (s : State) (f : Nat) (a1 : Word) : State :=
  let i := tableIdx f
  if s.flag i 1 0 = false then (s.put i 8 a1).bump i 0x0A 16
  else
    let turn := decide (a1.toNat / 4194304 < s.nat i 8 / 4194304)
    let s1 := if s.flag i 5 0 ∧ (s.nat i 4 = 0 ∨ turn = true) then swapBank s f else s
    let s2 := (s1.put i 8 a1).bump i 6 32
    (List.range 12).foldl (fun s r => deliverTable s f r a1) s2

end Sys2Proof.Machine
end

