-- ==== Sys2Proof/Machine/ChargeOps.lean ====
section
/-! DEFINITION. What the charger, the power path, the source search and the battery switch do by themselves (R595 to
R615). `settleAll` brings phases, rails, power path and switch to what their rules call for after a command. -/
namespace Sys2Proof.Machine

/-- The precision value of channel c, none while its precision-valid bit is 0 (R595). -/
def precOf (s : State) (c : Nat) : Option Int := if precValid s c then some (s.int (senseIdx c) 0x12) else none

/-- V_bat (R595). -/
def vBat (s : State) : Option Int := precOf s (s.cnat 0x2E00 0x0D)
/-- I_bat (R595). -/
def iBat (s : State) : Option Int := precOf s (s.cnat 0x2E00 0x0E)
/-- V_bus: output channel U of the CHG rail (R595). -/
def vBus (s : State) : Option Int :=
  let r := s.cnat 0x2E00 2
  if r < 12 then precOf s (s.nat (railIdx r) 6) else none
/-- The channel of V_in: the input channel of the SRC rail (R595). -/
def vInChan (s : State) : Option Nat :=
  let r := s.cnat 0x2E02 2
  if r < 12 then some (s.nat (railIdx r) 5) else none
/-- V_in (R595). -/
def vIn (s : State) : Option Int := (vInChan s).bind (precOf s)

/-- Whether an optional value meets a test; none makes it not met (R595). -/
def metBy (v : Option Int) (f : Int → Bool) : Bool :=
  match v with
  | some x => f x
  | none => false

/-- The stage of R600. -/
def chargeStage (s : State) : Nat := s.nat 0x2E00 5
/-- The cell count. -/
def cells (s : State) : Int := s.cnat 0x2E00 4
/-- Option bit b of 2E00h:10h. -/
def chargeOption (s : State) (b : Nat) : Bool := s.cflag 0x2E00 0x10 b
/-- The state of the power path (R608): 0 off, 1 lost, 2 returning, 3 starting, 4 line, 5 blocked. -/
def pathState (s : State) : Nat := s.nat 0x2E02 0x0D
/-- The state of the switch machine (R613): 0 open, 1 matching, 2 closed. -/
def switchState (s : State) : Nat := s.nat 0x2E04 6

/-! ### Temperature, targets and limits -/

/-- Whether the battery temperature is valid (R599, R641). -/
def tempValid (s : State) : Bool := s.flag 0x2F04 0x12 1
/-- R599: the temperature in use. -/
def tempInUse (s : State) : Int := if tempValid s then s.int 0x2F04 0x11 else 1638400
/-- R599, R602: whether the temperature in use lies outside the charge window widened by −`m`. -/
def outsideWindow (s : State) (m : Int) : Bool :=
  if tempValid s then
    decide (tempInUse s < s.cint 0x2E01 9 + m) || decide (s.cint 0x2E01 0x0A - m < tempInUse s)
  else !chargeOption s 0
/-- R600: a current in the reduced zone. -/
def reducedCurrent (s : State) (i : Int) : Int :=
  if tempValid s ∧ (tempInUse s < s.cint 0x2E01 0x0B ∨ s.cint 0x2E01 0x0C < tempInUse s) then
    roundDiv (i * s.cnat 0x2E01 0x0D) 256
  else i
/-- R598: the voltage of a per-cell entry j, compensated, for the whole battery. -/
def compensated (s : State) (j : Nat) : Int :=
  let C := s.cint 0x2E01 8
  cells s * (s.cint 0x2E01 j + clampI (roundDiv (s.cint 0x2E01 7 * (tempInUse s - 1638400)) 1000000) (-C) C)
/-- R600: the voltage target. -/
def voltageTarget (s : State) : Int :=
  match chargeStage s with
  | 1 => if pathState s = 4 ∧ switchState s = 1 then (match vBat s with | some v => v | none => s.cint 0x2E00 0x0F)
      else s.cint 0x2E00 0x0F
  | 3 => compensated s 1
  | 4 => compensated s 1
  | 5 => compensated s 1
  | 6 => compensated s 2
  | 7 => compensated s 2
  | _ => s.cint 0x2E00 0x0F
/-- R600: the battery current limit. -/
def batteryLimit (s : State) : Int :=
  match chargeStage s with
  | 3 => s.cint 0x2E01 0x0F
  | 4 => reducedCurrent s (s.cint 0x2E01 0x0E)
  | 5 => reducedCurrent s (s.cint 0x2E01 0x0E)
  | 6 => s.cint 0x2E01 0x11
  | _ => 0

/-! ### Stages -/

/-- R601: whether the charger is to be in idle. -/
def idleCalled (s : State) : Bool := !(pathState s == 4 && switchState s == 2)

/-- The tests that must hold for a time, by the row of R602; 20 is the shutdown test of R613, 21 the match of R614. -/
def chargeTest (s : State) (id : Nat) : Bool :=
  let st := chargeStage s
  let above (v : Int) := decide (cells s * s.cint 0x2E01 5 ≤ v)
  match id with
  | 2 => decide (2 ≤ st) && decide (st ≤ 8) && metBy (vBat s) above
  | 6 => st == 2 && !outsideWindow s 0 && metBy (vBat s) (fun v => !above v)
  | 8 => st == 3 && metBy (vBat s) (fun v => decide (cells s * s.cint 0x2E01 4 ≤ v))
  | 11 => st == 4 && metBy (vBat s) (fun v => decide (voltageTarget s - cells s * s.cint 0x2E01 0x12 ≤ v))
  | 12 => st == 5 && metBy (iBat s) (fun i => decide (i ≤ s.cint 0x2E01 0x10))
  | 13 => st == 6 && metBy (iBat s) (fun i => decide (s.cint 0x2E01 0x11 ≤ i))
  | 14 => st == 7 && metBy (vBat s) (fun v => decide (v ≤ cells s * s.cint 0x2E01 3))
  | 20 => s.cflag 0x2E00 1 0 && pathState s != 4 && metBy (vBat s) (fun v => decide (v ≤ cells s * s.cint 0x2E01 6))
  | 21 => switchState s == 1 && (match vBus s, vBat s with
      | some a, some b => decide (absI (a - b) ≤ s.cint 0x2E04 2)
      | _, _ => false)
  | _ => false

/-- The tests that the charger times. -/
def chargeTests : List Nat := [2, 6, 8, 11, 12, 13, 14, 20, 21]

/-- R596: the time, in fabric cycles, for which a test must hold. -/
def chargeHold (s : State) (id : Nat) : Nat :=
  match id with
  | 2 => cyclesMs 10
  | 6 => cyclesMs (s.cnat 0x2E01 0x13)
  | 8 => cyclesMs (s.cnat 0x2E01 0x14)
  | 11 => cyclesMs (s.cnat 0x2E01 0x14)
  | 12 => cyclesMs (1000 * s.cnat 0x2E01 0x15)
  | 13 => cyclesMs (1000 * s.cnat 0x2E01 0x19)
  | 14 => cyclesMs (1000 * s.cnat 0x2E01 0x19)
  | 20 => cyclesMs (s.cnat 0x2E01 0x1C)
  | _ => cyclesMs (s.cnat 0x2E04 3)

/-- R596: whether a test holds for its time. -/
def chargeHeld (s : State) (id : Nat) : Bool :=
  chargeTest s id && (match Sparse.find s.chg.held id with
    | some f => decide (f + chargeHold s id ≤ s.t)
    | none => false)

/-- Whether the gauge reports the battery present (R642). -/
def batteryPresent (s : State) : Bool := s.flag 0x2F04 0x12 0

/-- R602, R605: the second test of a removal, at a millisecond step. -/
def currentLost (s : State) : Bool :=
  let st := chargeStage s
  decide (3 ≤ st) && decide (st ≤ 5) && decide (s.chg.lastLim ≤ batteryLimit s) &&
    metBy s.chg.lastI (fun i => decide (s.cint 0x2E01 0x1A ≤ i)) &&
    metBy (iBat s) (fun i => decide (i ≤ s.cint 0x2E01 0x1B))

/-- R596: the charger's millisecond step: tests timed, the charge time, and the removal test. -/
def chargeTick (s : State) : State :=
  if s.on 5 = false then s
  else
    let st := chargeStage s
    let held := (chargeTests.filter (chargeTest s)).map (fun id => (id, (Sparse.find s.chg.held id).getD s.t))
    { s with chg := { s.chg with
        held := held, chargeMs := if 3 ≤ st ∧ st ≤ 5 then s.chg.chargeMs + 1 else s.chg.chargeMs,
        removal := s.chg.removal || currentLost s, lastI := iBat s, lastLim := batteryLimit s,
        sawAbsent := st == 10 && (s.chg.sawAbsent || !batteryPresent s) } }

/-- R602: the charger enters a stage: counted, timed from now. -/
def toStage (s : State) (st : Nat) : State :=
  let s1 := ((s.putN 0x2E00 5 st).bump 0x2E00 0x12 32).setBits 0x2E00 0x11 2
  { s1 with chg := { s1.chg with
      entered := s.t, held := s1.chg.held.filter (fun e => e.1 == 2 || e.1 == 20 || e.1 == 21),
      removal := false, sawAbsent := st == 10 && !batteryPresent s } }

/-- R602, R622: the charger enters fault. -/
def chargeFault (s : State) (cause : Nat) : State :=
  let s1 := (toStage s 9).setBits 0x2E00 0x11 16
  (if s1.nat 0x2E00 6 = 0 then s1.putN 0x2E00 6 cause else s1).report 73 .uc

/-- The charge time set to 0. -/
def zeroChargeTime (s : State) : State := { s with chg := { s.chg with chargeMs := 0 } }

/-- R603: the stage that follows qualify. -/
def afterQualify (s : State) : State :=
  let r := s.chg.remembered
  let s1 := { s with chg := { s.chg with remembered := none } }
  match r with
  | some st => if s.chg.chargerOutage = false then toStage s1 st else freshCharge s1
  | none => freshCharge s1
where
  /-- R603, last row. -/
  freshCharge (s : State) : State :=
    zeroChargeTime (toStage s (if metBy (vBat s) (fun v => decide (v < cells s * s.cint 0x2E01 4)) then 3 else 4))

/-- R601, R603: the charger goes to idle and remembers the stage it leaves, and whether a hand-over episode took it there. -/
def chargeIdle (s : State) : State :=
  let st := chargeStage s
  let s1 := toStage s 1
  if 3 ≤ st ∧ st ≤ 7 then
    { s1 with chg := { s1.chg with
        remembered := some st, idleEpisode := s.chg.episode.isSome,
        chargerOutage := s.chg.episode.isSome && s.chg.outage } }
  else s1

/-! ### The battery switch -/

/-- R613, R614: open reasons set. -/
def setReason (s : State) (mask : Nat) : State := s.setBits 0x2E04 7 mask

/-- SWITCH_OPEN, R613, R614, R74, R787: the switch machine opens while a reason is set, and matches when none is. -/
def switchSettle (s : State) : State :=
  if s.on 5 = false then s
  else if s.obj 0x2E04 7 ≠ 0 then
    match switchState s with
    | 0 => s
    | 1 => s.putN 0x2E04 6 0
    | _ => contactorOps { (s.putN 0x2E04 6 0).bump 0x2E04 0x0C 32 with aon := { s.aon with batsw := false } } 1
  else if switchState s = 0 then s.putN 0x2E04 6 1
  else s

/-- BATTERY_REMOVAL, R602, R605, R613, R622: the charger enters absent. -/
def chargeAbsent (s : State) : State :=
  let s1 := (((toStage s 10).setBits 0x2E00 0x11 32).bump 0x2E00 0x13 16).report 73 .uc
  if chargeOption s1 1 then setReason s1 16 else s1

/-- R615: the switch machine when D5 leaves OFF. -/
def switchInit (s : State) : State :=
  if s.aon.batsw then (s.putN 0x2E04 6 2).putN 0x2E04 7 0 else (s.putN 0x2E04 6 0).putN 0x2E04 7 2

/-! ### Power path -/

/-- R608: the power path enters a state. -/
def pathTo (s : State) (st : Nat) : State :=
  { s.putN 0x2E02 0x0D st with chg := { s.chg with pathEntered := s.t } }

/-- R608: a rail bound to the power path runs. -/
def boundRuns (s : State) (r : Nat) : Bool := decide (r < 12) && railStatus s r == 1

/-- The SRC rail and the CHG rail as seen running. -/
def noteBound (s : State) : State :=
  { s with chg := { s.chg with
      srcRan := decide (s.cnat 0x2E02 2 < 12) && railStatus s (s.cnat 0x2E02 2) != 0,
      chgRan := decide (s.cnat 0x2E00 2 < 12) && railStatus s (s.cnat 0x2E00 2) != 0 } }

/-- R608: a restart, and the block when they are too many. -/
def pathRestart (s : State) : State :=
  let w := cyclesMs (1000 * s.cnat 0x2E02 0x0C)
  let l := (s.chg.restarts.filter (fun f => decide (s.t < f + w))) ++ [s.t]
  let s1 := { (pathTo s 2).bump 0x2E02 0x11 16 with chg := { s.chg with restarts := l, pathEntered := s.t } }
  if s1.cnat 0x2E02 0x0B ≤ l.length then ((pathTo s1 5).setBits 0x2E02 0x0E 8).report 74 .uc else s1

/-- RAIL_REACHES_LINE, R608, R613: the bound rails run, and the power path enters line. -/
def pathLine (s : State) : State := ((pathTo s 4).setBits 0x2E02 0x0E 4).clrBits 0x2E04 7 10

/-- R608: V_in has been at or above the present voltage for the present time. -/
def sourceHere (s : State) : Bool :=
  match s.chg.presentSince with
  | some f => decide (f + cyclesMs (s.cnat 0x2E02 6) ≤ s.t)
  | none => false

/-- R609: a refused start counts as a stop of the rail: a restart while the source is present (R608). -/
def refusedStart (s : State) : State := if sourceHere s then pathRestart s else s

/-- R608: line when the bound rails run, a restart when one has stopped of another cause; and the run of a lost V_in
whose channel is not valid. -/
def pathSettle (s : State) : State :=
  let st := pathState s
  let src := s.cnat 0x2E02 2
  let chg := s.cnat 0x2E00 2
  let s0 := if (vIn s).isNone ∧ s.chg.lostSince.isNone then
      { s with chg := { s.chg with lostSince := some s.t, presentSince := none } } else s
  let stopped := (s.chg.srcRan && !(decide (src < 12) && railStatus s src != 0)) ||
    (s.chg.chgRan && !(decide (chg < 12) && railStatus s chg != 0))
  if (st = 3 ∨ st = 4) ∧ stopped = true ∧ sourceHere s = true then noteBound (pathRestart s0)
  else if st = 3 ∧ boundRuns s chg = true ∧ (src = 255 ∨ boundRuns s src = true) then noteBound (pathLine s0)
  else noteBound s0

/-- After a command: rails, power path, rails again, and the switch. -/
def settleAll (s : State) : State :=
  if s.on 5 then switchSettle (settleRails (pathSettle (settleRails s))) else s

/-- R609: the power path stops a bound rail. -/
def pathStop (s : State) (r : Nat) : State := if r < 12 then stopRail s r else s

/-- R608, R609: the path enters lost, with a new episode unless it was returning; with auto start, both rails stop. Flag
bit 0 tells a loss and not the enable (DESIGN CHOICE, safe: no rule says when it sets). -/
def pathLose (s : State) : State :=
  let st := pathState s
  let s1 := if st = 0 then pathTo s 1 else (pathTo s 1).setBits 0x2E02 0x0E 1
  if st = 2 then s1
  else
    let s2 := { s1 with chg := { s1.chg with episode := some s.t, outage := false, idleEpisode := false } }
    if (st = 3 ∨ st = 4) ∧ s.cflag 0x2E02 3 0 then noteBound (pathStop (pathStop s2 (s.cnat 0x2E02 2)) (s.cnat 0x2E00 2))
    else s2

/-- R608, R609, R612: the power path enters starting: the episode ends, the search restarts, and with auto start the
SRC rail is started; a refused start counts as a stop. -/
def pathStart (s : State) : State :=
  let ms := match s.chg.episode with | some f => (s.t - f) / 200000 | none => s.chg.episodeMs
  let s1 := restartSearch ((pathTo s 3).bump 0x2E02 0x10 16)
  let s2 := { s1 with chg := { s1.chg with episode := none, episodeMs := ms, chgStarted := false } }
  let src := s.cnat 0x2E02 2
  if s.cflag 0x2E02 3 0 ∧ src < 12 ∧ railStatus s2 src = 0 then
    match tryStart s2 src with
    | (true, t) => noteBound t
    | (false, t) => refusedStart t
  else s2

/-- R608: the tests of a precision result of V_in. -/
def pathPrecision (s : State) (c : Nat) : State :=
  if vInChan s ≠ some c then s
  else
    let here := metBy (vIn s) (fun v => decide (s.cint 0x2E02 4 ≤ v))
    let gone := match vIn s with | some v => decide (v < s.cint 0x2E02 5) | none => true
    { s with chg := { s.chg with
        presentSince := if here then (match s.chg.presentSince with | some f => some f | none => some s.t) else none,
        lostSince := if gone then (match s.chg.lostSince with | some f => some f | none => some s.t) else none } }

/-- SOURCE_SAG, R611, R622: a precision result of V_in below the sag voltage. -/
def sagCheck (s : State) (c : Nat) : State :=
  let st := s.nat 0x2E03 0x0B
  if vInChan s = some c ∧ s.cnat 0x2E03 1 = 2 ∧ (st = 2 ∨ st = 3) ∧
      metBy (vIn s) (fun v => decide (v < s.cint 0x2E03 7)) = true then
    let l := max (s.cint 0x2E03 3) (floorDiv (s.int 0x2E03 0x0A * s.cnat 0x2E03 8) 256)
    let s1 := (((s.putI 0x2E03 0x0A l).putI 0x2E03 0x0D l).bump 0x2E03 0x0C 16).putN 0x2E03 0x0B 3
    { s1.report 74 .ce with chg := { s1.chg with holdStart := s.t } }
  else s

/-- The episode time of R608, in milliseconds. -/
def episodeTime (s : State) : Nat :=
  match s.chg.episode with
  | some f => satN 32 ((s.t - f) / 200000)
  | none => satN 32 s.chg.episodeMs

end Sys2Proof.Machine
end

