-- ==== Sys2Proof/Machine/JournalOps.lean ====
section
/-! DEFINITION. The journal's requests (R753, R756, R758): the pending bit of a record, its abandonment and what its
holder is told. -/
namespace Sys2Proof.Machine

/-- The object word and bit of record r's pending bit (R762). -/
def pendingSub (r : Nat) : Nat := if r < 32 then 0x0B else 0x0D

/-- Whether record r is pending. -/
def recPending (s : State) (r : Nat) : Bool := s.flag 0x3440 (pendingSub r) (r % 32)

/-- The pending bit of record r. -/
def setPending (s : State) (r : Nat) (b : Bool) : State := s.putBit 0x3440 (pendingSub r) (r % 32) b

/-- R500, R502, R508: a command ends with its code: counted, and a rejected one reported; failures in a row lock the
unit out. -/
def endCommand (s : State) (code : Nat) : State :=
  let s1 := (s.putN 0x2A80 3 code).putN 0x2A80 1 0
  if code = 0 then (s1.bump 0x2A80 0x0E 32).putN 0x2A80 0x0D 0
  else
    let s2 := (s1.bump 0x2A80 0x0F 32).report 63 .ce
    if 4 ≤ code ∧ code ≤ 6 then
      if s2.nat 0x2A80 0x0B ≤ s2.nat 0x2A80 0x0D + 1 then
        { s2.putN 0x2A80 0x0D 0 with
          auth := { s2.auth with lockedTo := some ((s2.t / cyclesMs 1 + 1000 * s2.nat 0x2A80 0x0C) * cyclesMs 1) } }
      else s2.bump 0x2A80 0x0D 8
    else s2

/-- R500, R646, R756, R758, R763: the holder of record r is told that its write was abandoned. -/
def tellAbandoned (s : State) (r : Nat) : State :=
  if r = 3 then s.bump 0x2F09 5 16
  else if r = 1 ∧ s.nat 0x2A80 1 = 2 then endCommand s 0x0A
  else if 8 ≤ r ∧ s.nat 0x3441 1 = r ∧ s.nat 0x3441 5 = 1 then s.putN 0x3441 5 4
  else s

/-- R756, R758: a pending request is abandoned. -/
def abandonRecord (s : State) (r : Nat) : State :=
  if recPending s r then tellAbandoned (setPending s r false) r else s

/-- R42, R758: whether the journal is enabled and no disable is still stopping it. -/
def journalRuns (s : State) : Bool := s.flag 0x3440 1 0 && !s.nv.stopping

/-- R753, R758: a request for a record: its pending bit, or abandoned at once while the journal is disabled. -/
def requestRecord (s : State) (r : Nat) : State :=
  if journalRuns s then setPending s r true else tellAbandoned s r

end Sys2Proof.Machine
end

