-- ==== Sys2Proof/Machine/CanOps.lean ====
section
/-! DEFINITION. The CAN channels (R469 to R481) and what the CAN object agent does with its state (R482 to R493). -/
namespace Sys2Proof.Machine

/-! ### Frames -/

/-- Whether a frame has an extended identifier. -/
def frameExtended (f : Frame) : Bool := f.format.val == 1 || f.format.val == 3

/-- R479: the rank of a frame on the bus, lowest first. -/
def frameKey (f : Frame) : Nat :=
  if frameExtended f then f.ident.toNat / 2 ^ 18 * 2 ^ 20 + 2 ^ 19 + f.ident.toNat % 2 ^ 18
  else f.ident.toNat % 2048 * 2 ^ 20

/-- R479: the frame of a buffer that wins arbitration; of equal ones the first. -/
def bestFrame : List Frame → Option Frame
  | [] => none
  | f :: t =>
    match bestFrame t with
    | none => some f
    | some g => if frameKey g < frameKey f then some g else some f

/-- The lengths an FD frame carries. -/
def fdLengths : List Nat := [0, 1, 2, 3, 4, 5, 6, 7, 8, 12, 16, 20, 24, 32, 48, 64]

/-- The smallest FD length that holds n bytes. -/
def fdLength (n : Nat) : Nat := (fdLengths.find? (fun l => decide (n ≤ l))).getD 64

/-! ### Channels -/

/-- Whether channel n is enabled. -/
def canOn (s : State) (n : Nat) : Bool := s.flag (canIdx n) 1 0

/-- Whether channel n can send and receive: active or passive, with the CAN clock running (R476, R478). -/
def canLive (s : State) (n : Nat) : Bool := (canState s n == 2 || canState s n == 3) && clockState s != 0

/-- R72: whether the channels see the bus: with VDDIO low CANn_RX reads 0, dominant, for good. -/
def canSees (s : State) : Bool := s.on 7 && clockState s != 0 && !s.sup.vddioLow

/-- R479: frames held back by their producers enter while the buffer has room. -/
def CanChannel.refill (c : CanChannel) : CanChannel :=
  { c with tx := c.tx ++ c.held.take (32 - c.tx.length), held := c.held.drop (32 - c.tx.length) }

/-- R45, R47: the 16-bit field at bit `lo` of a count word adds n and holds at its largest value. -/
def addField (s : State) (i j lo n : Nat) : State :=
  let f := fun x => setFieldN x lo 16 (satN 16 (fieldN x lo 16 + n))
  (s.noteCount (objKey i j) ((s.obj i j).setWidth 64) (fun c => BitVec.ofNat 64 (f c.toNat))).putN i j (f (s.nat i j))

/-- R40, R477: n frames that were not sent are discarded and counted. -/
def sendDrop (s : State) (n k : Nat) : State := addField s (canIdx n) 0x22 16 k

/-- R40, R479: a producer offers a frame to channel n; a stopping channel discards it. -/
def offerFrame (s : State) (n : Nat) (f : Frame) : State :=
  if canState s n = 5 then sendDrop s n 1
  else if canOn s n then s.modCan n (fun c => ({ c with held := c.held ++ [f] } : CanChannel).refill)
  else s

/-- R470, in CAN clock cycles: the length of a bit of the timing set at subindex j. -/
def bitLength (s : State) (n j : Nat) : Nat :=
  s.nat (canIdx n) j * (1 + s.nat (canIdx n) (j + 1) + s.nat (canIdx n) (j + 2))

/-- R470, in CAN clock cycles: where a bit of the timing set at subindex j is sampled, and how far a resynchronisation
moves it at most. -/
def samplePoint (s : State) (n j : Nat) : Nat × Nat :=
  (s.nat (canIdx n) j * (1 + s.nat (canIdx n) (j + 1)), s.nat (canIdx n) j * s.nat (canIdx n) (j + 3))

/-- R473, in CAN clock cycles: the secondary sample point of a data phase whose offset is at subindex j, after a
transmitter delay; none while the offset of 0 switches the compensation off. -/
def secondarySample (s : State) (n j delay : Nat) : Option Nat :=
  if s.nat (canIdx n) j = 0 then none else some (delay + s.nat (canIdx n) j)

/-- R474: whether channel n switches the transceiver's mode for XL data. -/
def modeSwitching (s : State) (n : Nat) : Bool := s.flag (canIdx n) 0x12 0

/-- R474: the PWM symbols of channel n's XL data phase, as short phase, long phase and offset in CAN clock cycles; none
where it is coded NRZ. -/
def xlSymbols (s : State) (n : Nat) : Option (Nat × Nat × Nat) :=
  if modeSwitching s n then some (s.nat (canIdx n) 0x13, s.nat (canIdx n) 0x14, s.nat (canIdx n) 0x15) else none

/-- R474, R476: whether errors in a frame on channel n are signalled and counted. -/
def errorSignalled (s : State) (n : Nat) (f : Frame) : Bool := !(f.format.val == 4 && modeSwitching s n)

/-- R471: whether the SJW of the timing set at subindex j exceeds its TSEG2. -/
def sjwExceeds (s : State) (n j : Nat) : Bool := decide (s.nat (canIdx n) (j + 2) < s.nat (canIdx n) (j + 3))

/-- R471: whether channel n may not be enabled: 1 Mbit/s, 8 Mbit/s and 20 Mbit/s are 80, 10 and 4 cycles of 80 MHz. -/
def canUnready (s : State) (n : Nat) : Bool :=
  let nom := bitLength s n 4
  decide (nom < 80) ||
    (s.flag (canIdx n) 2 0 && (decide (bitLength s n 8 < 10) || decide (nom < bitLength s n 8))) ||
    (s.flag (canIdx n) 3 0 && (decide (bitLength s n 0x0D < 4) || decide (nom < bitLength s n 0x0D))) ||
    sjwExceeds s n 4 || sjwExceeds s n 8 || sjwExceeds s n 0x0D

/-- R475: channel n begins to integrate. -/
def canIntegrate (s : State) (n : Nat) : State :=
  (s.putN (canIdx n) 0x1C 1).modCan n (fun c => { c with since := s.ct })

/-- R470, R475, R476: whether `bits` nominal bits, in CAN clock cycles of 2.5 fabric cycles, have passed on channel n since
it began to integrate or went bus-off. -/
def bitsPassed (s : State) (n bits : Nat) : Bool :=
  decide (5 * (bits * bitLength s n 4) ≤ 2 * (s.ct - (s.canChan n).since))

/-- R475: an enabled channel that start-up no longer holds (R60) begins to integrate, with its error counters at 0. -/
def canStart (s : State) (n : Nat) : State :=
  if canOn s n ∧ canState s n = 0 ∧ s.startup.released = true then
    ((canIntegrate s n).putN (canIdx n) 0x1D 0).putN (canIdx n) 0x1E 0
  else s

/-- R42, R477: channel n has stopped; an enable written meanwhile takes effect. -/
def canStopped (s : State) (n : Nat) : State :=
  canStart ((s.putN (canIdx n) 0x1C 0).modCan n (fun c => { c with tx := [], held := [], raw := [] })) n

/-- R40: the frames of channel n that have not started: in the buffer, held back, and one that is being popped. -/
def unsent (c : CanChannel) : Nat := c.tx.length + c.held.length + (if c.raw = [] then 0 else 1)

/-- R39, R40, R477: channel n is disabled: the frame in transmission goes on, the others are discarded and counted. A
channel that stops already goes on stopping. -/
def canDisable (s : State) (n : Nat) : State :=
  let s1 := s.putN (canIdx n) 1 0
  if canOn s n = false ∨ canState s n = 5 then s1
  else
    match (if canLive s n then bestFrame (s.canChan n).tx else none) with
    | some f =>
      (sendDrop (s1.putN (canIdx n) 0x1C 5) n (unsent (s.canChan n) - 1)).modCan n
        (fun c => { c with tx := [f], held := [], raw := [] })
    | none => canStopped (sendDrop s1 n (unsent (s.canChan n))) n

/-! ### The agent's state -/

/-- The active node-ID (R484). -/
def nodeId (s : State) : Nat := s.nat 0x2A20 3

/-- The NMT state (R505). -/
def nmt (s : State) : Nat := s.nat 0x2A20 4

/-- R483: whether every channel that carries CANopen is enabled. -/
def linesEnabled (s : State) : Bool := (canopenLines s).all (canOn s)

/-- R483: whether the agent runs CANopen. -/
def agentRuns (s : State) : Bool := s.on 7 && decide (1 ≤ nodeId s) && decide (nodeId s ≤ 127) && linesEnabled s

/-- R505: the NMT state changes, with its flag. -/
def setNmt (s : State) (v : Nat) : State := if nmt s = v then s else (s.putN 0x2A20 4 v).setBits 0x2A20 0x0F 2

/-- R490: a communication error acts under 1029h and is reported. -/
def commError (s : State) : State :=
  let s1 := match s.nat 0x1029 1 with
    | 0 => if nmt s = 5 then setNmt s 0x7F else s
    | 2 => setNmt s 4
    | _ => s
  s1.report 62 .uc

/-- R482: the frame of the agent's generation with an identifier of 11 bits; an FD frame is padded to a length it can
carry. -/
def agentFrame (s : State) (id : Nat) (data : List Byte) : Frame :=
  if s.agent.mode = 0 then { format := 0, ident := BitVec.ofNat 29 id, data := data }
  else
    { format := 2, ident := BitVec.ofNat 29 id, brs := true,
      data := data ++ List.replicate (fdLength data.length - data.length) 0 }

/-- The agent's frame under a COB-ID: bit 29 makes the identifier extended. -/
def cobFrame (s : State) (cob : Word) (data : List Byte) : Frame :=
  let f := agentFrame s (cob.toNat % 2048) data
  if cob.getLsbD 29 then
    { f with format := if s.agent.mode = 0 then 1 else 3, ident := cob.setWidth 29 }
  else f

/-- R491: the lines on which the agent sends. -/
def sendLines (s : State) : List Nat :=
  match redundancy s with
  | 0 => [0]
  | 1 => [0, 1]
  | _ => [s.nat 0x2A20 8]

/-- R491: the agent sends a frame. -/
def agentSend (s : State) (f : Frame) : State := (sendLines s).foldl (fun s n => offerFrame s n f) s

/-- The objects 1000h to 1FFFh. -/
def isComm (k : Nat) : Bool := decide (objKey 0x1000 0 ≤ k) && decide (k < objKey 0x2000 0)

/-- R484: the COB-IDs that hold the node-ID. -/
def nodeCobs (s : State) : State :=
  let n := nodeId s
  let s1 := ((s.putN 0x1014 0 (0x80 + n)).putN 0x1200 1 (0x600 + n)).putN 0x1200 2 (0x580 + n)
  (List.range 4).foldl (fun s k =>
    (s.putN (0x1400 + k) 1 (0x200 + 0x100 * k + n)).putN (0x1800 + k) 1 (0x180 + 0x100 * k + n)) s1

/-- R484: the communication objects take their defaults and then the values last stored. -/
def loadComm (s : State) : State :=
  let s1 := nodeCobs { s with od := s.od.filter (fun p => !isComm p.1) }
  s.agent.stored.foldl (fun s p => if isComm p.1 then s.put (p.1 / 256) (p.1 % 256) p.2 else s) s1

/-- R484: the agent's timers, consumers, PDOs and SDO transfer begin anew in the network mode written. -/
def freshAgent (s : State) : State :=
  s.modAgent (fun a => { a with
    mode := s.nat 0x2A20 1, inbox := [], taken := [], beat := s.t, sync := s.t, heard := List.replicate 4 none,
    lost := List.replicate 4 false, sdo := none, rpdo := List.replicate 16 {},
    tpdo := List.replicate 16 { sent := s.t } })

/-- RESET_COMMUNICATION, R484: defaults and stored values, the pending node-ID becomes active, and the boot-up message
is sent; then the node is pre-operational. -/
def resetCommunication (s : State) : State :=
  let s1 := loadComm (freshAgent (s.put 0x2A20 3 (s.obj 0x2A20 2)))
  if agentRuns s1 then setNmt (agentSend s1 (agentFrame s1 (0x700 + nodeId s1) [0])) 0x7F else setNmt s1 0

/-- R483: the agent starts once every line that carries CANopen has integrated. -/
def agentStart (s : State) : State :=
  if nmt s = 0 ∧ (canopenLines s).all (fun n => canState s n == 2 || canState s n == 3) then resetCommunication s else s

/-! ### Errors -/

/-- CAN_BUS_OFF, R476, R490, R508: channel n goes bus-off. -/
def busOff (s : State) (n : Nat) : State :=
  let i := canIdx n
  let s0 := s.modCan n (fun c => { c with since := s.ct })
  let s1 := (((s0.putN i 0x1C 4).bump i 0x1F 16).setBits i 0x23 2).report (60 + n) .uc
  if (canopenLines s1).contains n ∧ (canopenLines s1).all (fun m => canState s1 m == 4) then commError s1 else s1

/-- R476: whether the error counters of channel n make it passive: one of them above 127. -/
def countersPassive (s : State) (n : Nat) : Bool :=
  decide (127 < s.nat (canIdx n) 0x1D) || decide (127 < s.nat (canIdx n) 0x1E)

/-- R476, R489: the error state follows the counters: passive above 127, bus-off from 256. -/
def judgeErrors (s : State) (n : Nat) : State :=
  let i := canIdx n
  let passive := countersPassive s n
  if canState s n ≠ 2 ∧ canState s n ≠ 3 then s
  else if 256 ≤ s.nat i 0x1D then busOff s n
  else if passive = true ∧ canState s n = 2 then
    let s1 := (s.putN i 0x1C 3).setBits i 0x23 1
    if (canopenLines s1).contains n then agentEmcy s1 0x8120 else s1
  else if passive = false ∧ canState s n = 3 then s.putN i 0x1C 2
  else s

/-- R474, R476, R477, R479: the winning frame of channel n is sent after `errs` attempts that ended in an error; the
attempt of a stopping channel is its last. -/
def sendBest (s : State) (n errs : Nat) : State :=
  match bestFrame (s.canChan n).tx with
  | none => s
  | some f =>
    let i := canIdx n
    let counted := errorSignalled s n f
    let errors := if canState s n = 5 then min errs 1 else errs
    let s1 := if counted then s.add i 0x1D 16 (8 * errors) else s
    let sent := fun (s : State) => addField (if counted then s.sub i 0x1D 1 else s) i 0x20 16 1
    if canState s n = 5 then (if errs = 0 then canStopped (sent s1) n else canStopped (sendDrop s1 n 1) n)
    else if 256 ≤ s1.nat i 0x1D then busOff s1 n
    else judgeErrors ((sent s1).modCan n (fun c => ({ c with tx := c.tx.erase f } : CanChannel).refill)) n

/-! ### Raw frames -/

/-- R481: the queue entries of a frame whose header is `d`. -/
def rawNeed (d : DWord) : Nat :=
  1 + (if fieldN d.toNat 44 3 = 4 then 1 else 0) + ceilDiv (fieldN d.toNat 32 12) 8

/-- R480: the header entry of a frame of channel n. -/
def rawHeader (n : Nat) (f : Frame) : DWord :=
  BitVec.ofNat 64 (n * 2 ^ 56 + f.sdt.toNat * 2 ^ 48 + (if f.brs then 2 ^ 47 else 0) + f.format.val * 2 ^ 44 +
    f.data.length % 4096 * 2 ^ 32 + f.ident.toNat)

/-- Up to eight bytes as a queue entry, the first lowest (R480). -/
def packEntry (l : List Byte) : DWord :=
  (List.range 8).foldl (fun d k => d ||| ((l.getD k 0).setWidth 64 <<< (8 * k))) 0

/-- R480: the data entries of n bytes. -/
def packData (l : List Byte) : List DWord :=
  (List.range (ceilDiv l.length 8)).map (fun j => packEntry (l.drop (8 * j)))

/-- R480: the entries of a received frame. -/
def rawEntries (n : Nat) (f : Frame) : List DWord :=
  rawHeader n f :: ((if f.format.val = 4 then [f.acceptance.setWidth 64] else []) ++ packData f.data)

/-- The eight bytes of a queue entry. -/
def entryBytes (d : DWord) : List Byte := (List.range 8).map (fun k => (d >>> (8 * k)).setWidth 8)

/-- R481: whether a header is valid for channel n: its channel, a listed format and a length that the format carries. -/
def rawValid (n : Nat) (d : DWord) : Bool :=
  let len := fieldN d.toNat 32 12
  fieldN d.toNat 56 1 == n &&
    (match fieldN d.toNat 44 3 with
     | 0 => decide (len ≤ 8)
     | 1 => decide (len ≤ 8)
     | 2 => fdLengths.contains len
     | 3 => fdLengths.contains len
     | 4 => decide (1 ≤ len) && decide (len ≤ 2048)
     | _ => false)

/-- R481: the frame that whole entries spell; none where the header is not valid. -/
def rawFrame (n : Nat) (l : List DWord) : Option Frame :=
  match l with
  | [] => none
  | d :: rest =>
    if rawValid n d then
      let fmt := fieldN d.toNat 44 3
      let body := if fmt = 4 then rest.drop 1 else rest
      let ext := fmt = 1 ∨ fmt = 3
      some {
        format := ⟨fmt % 5, Nat.mod_lt _ (by decide)⟩
        ident := if ext then d.setWidth 29 else (d.setWidth 11).setWidth 29
        brs := d.getLsbD 47 && (fmt == 2 || fmt == 3)
        sdt := if fmt = 4 then BitVec.ofNat 8 (fieldN d.toNat 48 8) else 0
        acceptance := if fmt = 4 then lo32 (rest.headD 0) else 0
        data := (body.flatMap entryBytes).take (fieldN d.toNat 32 12) }
    else none

/-- R481: the queue that channel n pops, while its firmware task is placed. -/
def rawQueue (s : State) (n : Nat) : Option Nat :=
  let t := s.nat (canIdx n) 0x17
  if t < 64 ∧ taskTakes s t = true then roleQueue s t 2 else none

/-- The entry at the front of a queue. -/
def queuePeek (s : State) (q : Nat) : DWord := Sparse.get poolDefault s.pool (poolSlot s q (s.obj (queueIdx q) 0x13))

/-- R392: whether the pop path and the pop place of queue q are free in the present cycle. -/
def pathFree (s : State) (q : Nat) : Bool := !s.cyc.path && !popTaken s q

/-- R392: one pop of queue q on the pop path. -/
def pathPop (s : State) (q : Nat) : DWord × State :=
  let (d, s1) := queuePop { s with cyc := { s.cyc with path := true } } q
  (d.getD 0, s1)

/-- R481: the header of the next raw frame of channel n and the entries at hand, popped and queued. -/
def rawNext (s : State) (n q : Nat) : Option (DWord × Nat) :=
  let l := if queueRuns s q then popLevel s q else 0
  match (s.canChan n).raw with
  | d :: t => some (d, 1 + t.length + l)
  | [] => if l = 0 then none else some (queuePeek s q, l)

/-- R479, R481: whether channel n takes raw frames: enabled, with room in its buffer. -/
def rawRoom (s : State) (n : Nat) : Bool :=
  canOn s n && canState s n != 5 && s.on 7 && decide ((s.canChan n).tx.length < 32) && (s.canChan n).held.isEmpty

/-- R392, R481: channel n pops the next entry of its raw frame, one in a cycle; the entries of an XL frame only once it is
whole in the queue. A frame whose last entry is popped is offered, or discarded and counted. -/
def popRaw (s : State) (n : Nat) : State :=
  match rawQueue s n with
  | none => s
  | some q =>
    match rawNext s n q with
    | none => s
    | some (d, have') =>
      let old := (s.canChan n).raw
      if rawRoom s n = false ∨ pathFree s q = false ∨ have' = old.length ∨
          (fieldN d.toNat 44 3 = 4 ∧ have' < rawNeed d) then s
      else
        let (x, s1) := pathPop s q
        let l := old ++ [x]
        if l.length < rawNeed d then s1.modCan n (fun c => { c with raw := l })
        else
          let s2 := s1.modCan n (fun c => { c with raw := [] })
          match rawFrame n l with
          | some f => offerFrame s2 n f
          | none => sendDrop s2 n 1

/-- R480: the entries of queue q that are free, those on the post network taken off. -/
def freeEntries (s : State) (q : Nat) : Nat :=
  s.nat (queueIdx q) 3 - queueLevel s q - (s.postNet.filter (fun p => p.queue == q)).length

/-- R480: whether a frame matches a filter at subindex j: the 29 identifier bits that the mask names, and the extended flag
that bit 29 of the filter identifier holds (DEDUCED: bits 31:29 of the mask play no part). -/
def filterMatches (s : State) (n j : Nat) (f : Frame) : Bool :=
  let fid := s.obj (canIdx n) j
  ((f.ident ^^^ fid.setWidth 29) &&& (s.obj (canIdx n) (j + 1)).setWidth 29) == 0 && (frameExtended f == fid.getLsbD 29)

/-- R480: a frame is dropped for want of room or of a queue. -/
def receiveDrop (s : State) (n : Nat) : State := (addField s (canIdx n) 0x22 0 1).setBits (canIdx n) 0x23 8

/-- R480: a frame that nothing else consumes is posted for firmware where a filter matches. -/
def postRaw (s : State) (n : Nat) (f : Frame) : State :=
  let t := s.nat (canIdx n) 0x17
  if 64 ≤ t ∨ (filterMatches s n 0x18 f || filterMatches s n 0x1A f) = false then s
  else
    match (if taskTakes s t then roleQueue s t 1 else none) with
    | none => receiveDrop s n
    | some q =>
      let l := rawEntries n f
      if freeEntries s q < l.length then receiveDrop s n
      else { s with postNet := s.postNet ++ l.map (fun d => { src := 5 + n, queue := q, entry := d }) }

/-! ### What the agent consumes -/

/-- The services a received CANopen frame belongs to (R482). -/
inductive CanService where
  | nmt | sync | sdo | rpdo (k : Nat) | beat (k : Nat) | lss
  deriving DecidableEq, Repr

/-- Whether a frame carries a COB-ID. -/
def cobMatches (cob : Word) (f : Frame) : Bool :=
  if cob.getLsbD 29 then frameExtended f && f.ident == cob.setWidth 29
  else !(frameExtended f) && f.ident == (cob.setWidth 11).setWidth 29

/-- The node that consumer k watches (R484: 1016h), 0 for none. -/
def watched (s : State) (k : Nat) : Nat := if s.nat 0x1016 (1 + k) % 65536 = 0 then 0 else fieldN (s.nat 0x1016 (1 + k)) 16 8

/-- R482, R484: the service of a frame of the agent's generation. -/
def serviceOf (s : State) (f : Frame) : Option CanService :=
  let id := if frameExtended f then 0x800 else f.ident.toNat
  if id = 0x7E5 then some .lss
  else if agentRuns s = false then none
  else if id = 0 then some .nmt
  else if cobMatches (s.obj 0x1005 0) f then some .sync
  else if id = 0x600 + nodeId s then some .sdo
  else
    match (List.range 16).find? (fun k => !(s.obj (0x1400 + k) 1).getLsbD 31 && cobMatches (s.obj (0x1400 + k) 1) f) with
    | some k => some (.rpdo k)
    | none => ((List.range 4).find? (fun k => watched s k != 0 && id == 0x700 + watched s k)).map .beat

/-- R482: whether a frame is of the generation in force. -/
def agentGeneration (s : State) (f : Frame) : Bool :=
  if s.agent.mode = 0 then decide (f.format.val < 2) else f.format.val == 2 || f.format.val == 3

/-- R482, R483, R491: what the agent takes a frame of line n for. -/
def agentService (s : State) (n : Nat) (f : Frame) : Option CanService :=
  if (canopenLines s).contains n ∧ linesEnabled s = true ∧ agentGeneration s f = true then serviceOf s f else none

/-- R492: whether a frame duplicates one taken from the other line, and what is then left to match. -/
def findDuplicate (s : State) (n : Nat) (f : Frame) : Option (Nat × Nat × Frame) :=
  s.agent.taken.find? (fun x => x.1 != n && x.2.2 == f && decide (s.t ≤ x.2.1 + cyclesUs (s.nat 0x2A20 6)))

/-- A taken frame waits for its service; a heartbeat is heard at once (R490). -/
def agentTake (s : State) (f : Frame) (v : CanService) : State :=
  match v with
  | .beat k => s.modAgent (fun a => { a with
      heard := modAt a.heard k (fun _ => some s.t), lost := modAt a.lost k (fun _ => false) })
  | _ => s.modAgent (fun a => { a with inbox := a.inbox ++ [f] })

/-- R482, R492: the agent consumes a frame of line n: a duplicate is discarded. -/
def agentConsume (s : State) (n : Nat) (f : Frame) (v : CanService) : State :=
  if redundancy s = 1 then
    match findDuplicate s n f with
    | some x => (s.bump 0x2A20 0x0A 32).modAgent (fun a => { a with taken := a.taken.erase x })
    | none =>
      let w := cyclesUs (s.nat 0x2A20 6)
      agentTake (s.modAgent (fun a => { a with
        taken := a.taken.filter (fun x => decide (s.t ≤ x.2.1 + w)) ++ [(n, s.t, f)] })) f v
  else agentTake s f v

/-- R494: whether a frame of channel n carries the bulk SDT on the session's channel. -/
def isBulk (s : State) (n : Nat) (f : Frame) : Bool :=
  f.format.val == 4 && s.nat 0x2A21 1 == n && f.sdt.toNat == s.nat 0x2A21 4

/-- Whether a bulk session runs (R506). -/
def bulkRuns (s : State) : Bool := s.nat 0x2A21 0x0B == 1 || s.nat 0x2A21 0x0B == 2

/-- R494: a bulk frame: another tag is discarded; one of the session from the host waits for its step. -/
def bulkConsume (s : State) (n : Nat) (f : Frame) : State :=
  if fieldN f.acceptance.toNat 24 4 ≠ s.nat 0x2A21 0x0C then s
  else if bulkRuns s ∧ f.ident.toNat = s.nat 0x2A21 2 then { s with bulk := { s.bulk with inbox := s.bulk.inbox ++ [f] } }
  else postRaw s n f

/-- R476: the receive error counter after a frame received without error. -/
def recAfter (s : State) (n : Nat) : State :=
  let i := canIdx n
  if s.nat i 0x1E ≤ 127 then s.sub i 0x1E 1
  else
    let (b, s1) := s.freshByte
    s1.putN i 0x1E (119 + b.toNat % 9)

/-- R472, R474, R480: a frame is received on channel n after `errs` receive errors. -/
def receiveFrame (s : State) (n : Nat) (f : Frame) (errs : Nat) : State :=
  let i := canIdx n
  let counted := errorSignalled s n f
  let s1 := if counted then s.add i 0x1E 16 errs else s
  if (s.flag i 2 0 = false ∧ (f.format.val = 2 ∨ f.format.val = 3)) ∨ (s.flag i 3 0 = false ∧ f.format.val = 4) then
    canIntegrate ((s1.bump i 0x21 16).setBits i 0x23 4) n
  else
    let s2 := if counted then judgeErrors (recAfter (judgeErrors s1 n) n) n else s1
    let s3 := (addField s2 i 0x20 0 1).modCan n (fun c => { c with lastRx := some s.t })
    if isBulk s3 n f then bulkConsume s3 n f
    else
      match agentService s3 n f with
      | some v => agentConsume s3 n f v
      | none => postRaw s3 n f

/-! ### The CAN clock (R478) -/

/-- CAN_CLOCK_STOP, R478: the CAN clock stops: the agent's timers hold. -/
def canClockStop (s : State) : State :=
  s.modAgent (fun a => { a with holdFrom := some (a.holdFrom.getD s.t) })

/-- A timer that held for d cycles. -/
def shiftPdo (d : Nat) (x : Pdo) : Pdo := { x with sent := x.sent + d }

/-- R478: the CAN clock runs again: each enabled channel integrates and the timers run on. -/
def canClockStart (s : State) : State :=
  let d := s.t - s.agent.holdFrom.getD s.t
  let s1 := s.modAgent (fun a => { a with
    holdFrom := none, beat := a.beat + d, sync := a.sync + d, heard := a.heard.map (fun h => h.map (· + d)),
    tpdo := a.tpdo.map (shiftPdo d) })
  [0, 1].foldl (fun s n => if canState s n = 2 ∨ canState s n = 3 then canIntegrate s n else s) s1

end Sys2Proof.Machine
end

