-- ==== Sys2Proof/Machine/DomainData.lean ====
section
/-! DEFINITION. The DOMAIN objects of R449: the message buffer 2A81h (R507) and the flash banks 3808h and 3809h
(R811). -/
namespace Sys2Proof.Machine

/-- Whether an index is a DOMAIN object with size, offset and data. -/
def isDomain (i : Nat) : Bool := i == 0x2A81 || i == 0x3808 || i == 0x3809

/-- The index of a DOMAIN object. -/
def domainIndex : DomainObject → Nat
  | .message => 0x2A81
  | .bankA => 0x3808
  | .bankB => 0x3809

/-- The flash window of a bank (R368, R811). -/
def bankBase (i : Nat) : Nat := if i = 0x3808 then 0x70000000 else 0x74000000

/-- The size of a bank: the device density, at most 64 MiB (R811). -/
def bankSize (s : State) (i : Nat) : Nat := min (s.nat 0x3802 (if i = 0x3808 then 2 else 3)) 0x4000000

/-- The size in bytes of a DOMAIN object. -/
def domainSize (s : State) (i : Nat) : Nat := if i = 0x2A81 then 152 else bankSize s i

/-- Byte k of a DOMAIN object. -/
def domainByte (s : State) (i k : Nat) : Byte :=
  if i = 0x2A81 then s.auth.message.getD k 0 else s.seenByte (bankBase i + k)

/-- The four bytes at an offset, as a word. -/
def domainWord (s : State) (i k : Nat) : Word :=
  bytesWord (domainByte s i k) (domainByte s i (k + 1)) (domainByte s i (k + 2)) (domainByte s i (k + 3))

/-- The bytes of a DOMAIN object from k on. -/
def domainBytes (s : State) (i k n : Nat) : List Byte := (List.range n).map (fun b => domainByte s i (k + b))

/-- The offset of a DOMAIN object. -/
def domainOffset (s : State) (i : Nat) : Nat := s.nat i 2

end Sys2Proof.Machine
end

