-- ==== Sys2Proof/Machine/Can.lean ====
section
/-! DEFINITION. The rows of the field network that no object access lies behind (R471 to R506): the channels, NMT,
heartbeat, EMCY, LSS, line redundancy, and the starts of bulk sessions. -/
namespace Sys2Proof.Machine

/-! ### Channels -/

/-- R471, R475, R477: the effect of a write of a channel's enable. -/
def canEnableEff (n : Nat) : WEff := fun w _ s =>
  if w.value = 0 then acc (canDisable s n)
  else if canOn s n then acc s
  else if canUnready s n then rej .state s
  else acc (canStart (s.putN (canIdx n) 1 1) n)

/-- CAN_ENABLE: a write of 2A00h + n × 10h:01h. -/
def execCanEnable (n : Fin 2) (w : Wr) (s : State) : Out :=
  .next (accessWrite s w false (canIdx n.val) 1 (canEnableEff n.val))

/-- R471: while the channel is enabled, its timing, FD, XL and PWM words are not written. -/
def canPlainEff (n j : Nat) : WEff := fun w a s =>
  if 2 ≤ j ∧ j ≤ 0x15 ∧ canOn s n = true then rej .state s else plainWrite (canIdx n) j w a s

/-- CAN_FRAME_RECEIVED, R472, R480: a frame is received on channel n after `errs` receive errors. -/
def execCanFrameReceived (n : Fin 2) (f : Frame) (errs : Fin 64) (s : State) : Out :=
  when (canSees s && canLive s n.val) s (receiveFrame s n.val f errs.val)

/-- BUS_INTEGRATION, R475, R478: an enabled channel has seen 11 recessive bits; it takes part in the bus again in the error
state that its counters give. -/
def execBusIntegration (n : Fin 2) (s : State) : Out :=
  let s1 := s.putN (canIdx n.val) 0x1C (if countersPassive s n.val then 3 else 2)
  when (canSees s && canState s n.val == 1 && bitsPassed s n.val 11) s (agentStart s1)

/-- BUS_OFF_RECOVERY, R476: a bus-off channel with automatic recovery is active again, its counters at 0. -/
def execBusOffRecovery (n : Fin 2) (s : State) : Out :=
  let i := canIdx n.val
  let s1 := ((s.putN i 0x1C 2).putN i 0x1D 0).putN i 0x1E 0
  when (canSees s && canState s n.val == 4 && s.flag i 0x16 0 && bitsPassed s n.val (128 * 11)) s
    (if (canopenLines s).contains n.val then agentEmcy s1 0x8140 else s1)

/-- RAW_FRAME_POP, R481: a channel takes the next raw frame of its firmware task. -/
def execRawFramePop (n : Fin 2) (s : State) : Out := .next (popRaw s n.val)

/-! ### NMT, heartbeat, EMCY -/

/-- The oldest waiting frame of a service. -/
def nextFrame (s : State) (p : CanService → Frame → Bool) : Option Frame :=
  s.agent.inbox.find? (fun f => match serviceOf s f with | some v => p v f | none => false)

/-- A waiting frame is taken. -/
def takeFrame (s : State) (f : Frame) : State := s.modAgent (fun a => { a with inbox := a.inbox.erase f })

/-- R482, R483: an NMT command, addressed to every node or to this one. -/
def nmtCommand (s : State) (f : Frame) : State :=
  let cs := (f.data.getD 0 0).toNat
  let node := (f.data.getD 1 0).toNat
  if f.data.length < 2 ∨ (node ≠ 0 ∧ node ≠ nodeId s) then s
  else
    match cs with
    | 0x01 => setNmt s 5
    | 0x02 => setNmt s 4
    | 0x80 => setNmt s 0x7F
    | 0x81 => resetCommunication (s.setBits 0x2A20 0x0F 1)
    | 0x82 => resetCommunication s
    | _ => s

/-- NMT_COMMAND, R483: the oldest NMT command received. -/
def execNmtCommand (s : State) : Out :=
  match nextFrame s (fun v _ => v == .nmt) with
  | some f => .next (nmtCommand (takeFrame s f) f)
  | none => .next s

/-- HEARTBEAT_PRODUCE, R482: the producer heartbeat time has elapsed. -/
def execHeartbeatProduce (s : State) : Out :=
  let ms := s.nat 0x1017 0
  when (agentRuns s && nmt s != 0 && ms != 0 && s.agent.holdFrom.isNone && s.passed s.agent.beat (cyclesMs ms)) s
    (agentSend (s.modAgent (fun a => { a with beat := s.t })) (agentFrame s (0x700 + nodeId s) [BitVec.ofNat 8 (nmt s)]))

/-- HEARTBEAT_TIMEOUT, R490: consumer k has heard nothing for its time. -/
def execHeartbeatTimeout (k : Fin 4) (s : State) : Out :=
  match s.agent.heard.getD k.val none with
  | none => .next s
  | some h =>
    let due := agentRuns s && watched s k.val != 0 && s.agent.holdFrom.isNone && !s.agent.lost.getD k.val false &&
      s.passed h (cyclesMs (s.nat 0x1016 (1 + k.val) % 65536))
    let s1 := s.modAgent (fun a => { a with lost := modAt a.lost k.val (fun _ => true) })
    when due s (agentEmcy ((commError s1).setBits 0x2A20 0x0F 8) 0x8130)

/-- R479: whether every line that the agent sends on has room. -/
def agentRoom (s : State) : Bool :=
  (sendLines s).all (fun n => decide ((s.canChan n).tx.length < 32) && (s.canChan n).held.isEmpty)

/-- EMCY_SEND, R489: the oldest EMCY leaves the queue once its inhibit time has passed. -/
def execEmcySend (s : State) : Out :=
  match s.agent.emcy with
  | [] => .next s
  | e :: rest =>
    let free := match s.agent.emcyAt with | some f => s.passed f (cyclesUs (100 * s.nat 0x1015 0)) | none => true
    when (agentRuns s && (nmt s == 5 || nmt s == 0x7F) && free && agentRoom s && !(s.obj 0x1014 0).getLsbD 31) s
      (agentSend (s.modAgent (fun a => { a with emcy := rest, emcyAt := some s.t })) (cobFrame s (s.obj 0x1014 0) e))

/-! ### Line redundancy -/

/-- R493: whether line n has received no frame for the silence time. -/
def lineSilent (s : State) (n : Nat) : Bool :=
  decide (((s.canChan n).lastRx.getD 0) + cyclesMs (s.nat 0x2A20 7) ≤ s.t)

/-- LINE_SWITCH_OVER, R493: in standby the active line is bus-off or silent and the other is not. -/
def execLineSwitchOver (s : State) : Out :=
  let a := s.nat 0x2A20 8
  let b := 1 - a
  let off := canState s a == 4 && canState s b != 4
  let silent := lineSilent s a && (s.canChan b).lastRx.isSome && !lineSilent s b
  when (s.on 7 && redundancy s == 2 && (off || silent)) s
    (agentEmcy (((s.putN 0x2A20 8 b).bump 0x2A20 9 16).setBits 0x2A20 0x0F 4) 0xFF02)

/-! ### LSS (R482; CiA 305) -/

/-- Bytes of a frame as a little-endian count. -/
def leNat : List Byte → Nat
  | [] => 0
  | b :: t => b.toNat + 256 * leNat t

/-- Four little-endian bytes of a frame from byte k. -/
def frameWord (f : Frame) (k : Nat) : Nat := leNat ((f.data.drop k).take 4)

/-- Byte k of a frame. -/
def frameByte (f : Frame) (k : Nat) : Nat := (f.data.getD k 0).toNat

/-- The oldest waiting LSS frame with one of the commands named. -/
def nextLss (s : State) (cs : List Nat) : Option Frame := nextFrame s (fun v f => v == .lss && cs.contains (frameByte f 0))

/-- The LSS slave changed. -/
def modLss (s : State) (f : Lss → Lss) : State := s.modAgent (fun a => { a with lss := f a.lss })

/-- The LSS slave answers. -/
def lssReply (s : State) (l : List Nat) : State :=
  agentSend s (agentFrame s 0x7E4 ((l ++ List.replicate (8 - l.length) 0).map (BitVec.ofNat 8)))

/-- The word k of the LSS address: vendor, product, revision, serial number (1018h, R484). -/
def lssIdent (s : State) (k : Nat) : Nat := if k < 3 then s.nat 0x1018 (1 + k) else s.nat 0x2000 4

/-- One LSS command served while it waits; a command for another state leaves without an answer. -/
def serveLss (s : State) (cs : List Nat) (f : Frame → State → State) : Out :=
  match nextLss s cs with
  | some x => .next (f x (takeFrame s x))
  | none => .next s

/-- LSS_SWITCH_STATE_GLOBAL: to configuration or to waiting; a node without a node-ID that has been given one then
starts. -/
def execLssSwitchStateGlobal (s : State) : Out :=
  serveLss s [0x04] (fun f s =>
    if frameByte f 1 = 1 then modLss s (fun l => { l with configuring := true })
    else if frameByte f 1 = 0 then
      let s1 := modLss s (fun l => { l with configuring := false, selected := 0, scanning := false })
      if s.agent.lss.configuring ∧ nodeId s = 0xFF ∧ s.nat 0x2A20 2 ≠ 0xFF then resetCommunication s1 else s1
    else s)

/-- LSS_SWITCH_STATE_SELECTIVE: vendor, product, revision and serial number in turn; the last match selects. -/
def execLssSwitchStateSelective (s : State) : Out :=
  serveLss s [0x40, 0x41, 0x42, 0x43] (fun f s =>
    let k := frameByte f 0 - 0x40
    let got := frameWord f 1 == lssIdent s k && (k == 0 || s.agent.lss.selected == k)
    if got ∧ k = 3 then lssReply (modLss s (fun l => { l with configuring := true, selected := 0 })) [0x44]
    else modLss s (fun l => { l with selected := if got then k + 1 else 0 }))

/-- LSS_CONFIGURE_NODE_ID: 1 to 127, or FFh. -/
def execLssConfigureNodeId (s : State) : Out :=
  serveLss s [0x11] (fun f s =>
    let n := frameByte f 1
    if s.agent.lss.configuring = false then s
    else if (1 ≤ n ∧ n ≤ 127) ∨ n = 0xFF then lssReply (s.putN 0x2A20 2 n) [0x11, 0, 0]
    else lssReply s [0x11, 1, 0])

/-- The bit time of entry k of table 0, in CAN clock cycles of 80 MHz. -/
def lssBit (k : Nat) : Option Nat :=
  match k with
  | 0 => some 80
  | 1 => some 100
  | 2 => some 160
  | 3 => some 320
  | 4 => some 640
  | 6 => some 1600
  | 7 => some 4000
  | 8 => some 8000
  | _ => none

/-- LSS_CONFIGURE_BIT_TIMING: table 0, entries 0 to 4 and 6 to 8. -/
def execLssConfigureBitTiming (s : State) : Out :=
  serveLss s [0x13] (fun f s =>
    if s.agent.lss.configuring = false then s
    else if frameByte f 1 = 0 ∧ (lssBit (frameByte f 2)).isSome then
      lssReply (modLss s (fun l => { l with timing := some (frameByte f 2) })) [0x13, 0, 0]
    else lssReply s [0x13, 1, 0])

/-- One of a list, picked by a free value; 0 for the empty list. -/
def pick (l : List Nat) (k : Nat) : Nat := l.getD (k % l.length) 0

/-- The values BRP may take for a bit of q cycles. -/
def brpChoices (q : Nat) : List Nat :=
  (List.range 65).filter (fun b => b != 0 && q % b == 0 && decide (3 ≤ q / b) && decide (q / b ≤ 384))

/-- The values TSEG2 may take for a bit of q time quanta. -/
def tsegChoices (q : Nat) : List Nat :=
  (List.range 129).filter (fun t => t != 0 && decide (2 + t ≤ q) && decide (q ≤ 256 + t))

/-- A channel's nominal timing set to a bit of q cycles; the spec does not say how the quanta are shared out. -/
def setBitTime (s : State) (n q : Nat) : State :=
  let (a, s1) := s.freshWord
  let (b, s2) := s1.freshWord
  let (c, s3) := s2.freshWord
  let brp := pick (brpChoices q) a.toNat
  let t2 := pick (tsegChoices (q / brp)) b.toNat
  let i := canIdx n
  (((s3.putN i 4 brp).putN i 5 (q / brp - 1 - t2)).putN i 6 t2).putN i 7 (1 + c.toNat % t2)

/-- LSS_ACTIVATE_BIT_TIMING: the configured timing comes into force on the lines that carry CANopen, which integrate
again. -/
def execLssActivateBitTiming (s : State) : Out :=
  serveLss s [0x15] (fun _ s =>
    match (if s.agent.lss.configuring then s.agent.lss.timing.bind lssBit else none) with
    | none => s
    | some q => (canopenLines s).foldl (fun s n =>
        let s1 := setBitTime s n q
        if canState s n = 2 ∨ canState s n = 3 then canIntegrate s1 n else s1) s)

/-- LSS_STORE_CONFIGURATION: the pending node-ID is stored with journal record 2. -/
def execLssStoreConfiguration (s : State) : Out :=
  serveLss s [0x17] (fun _ s =>
    if s.agent.lss.configuring = false then s else lssReply (requestRecord s 2) [0x17, 0, 0])

/-- LSS_INQUIRE: one word of the LSS address, or the node-ID. -/
def execLssInquire (s : State) : Out :=
  serveLss s [0x5A, 0x5B, 0x5C, 0x5D, 0x5E] (fun f s =>
    let cs := frameByte f 0
    if s.agent.lss.configuring = false then s
    else if cs = 0x5E then lssReply s [cs, nodeId s]
    else
      let v := lssIdent s (cs - 0x5A)
      lssReply s [cs, v % 256, v / 256 % 256, v / 65536 % 256, v / 16777216])

/-- LSS_FASTSCAN: a node without a node-ID answers while its address matches the bits checked so far. -/
def execLssFastscan (s : State) : Out :=
  serveLss s [0x51] (fun f s =>
    let bit := frameByte f 5
    let sub := frameByte f 6
    let l := s.agent.lss
    if nodeId s ≠ 0xFF ∨ l.configuring = true then s
    else if bit = 0x80 then lssReply (modLss s (fun l => { l with scanning := true, scan := 0 })) [0x4F]
    else if l.scanning = false ∨ sub ≠ l.scan ∨ 3 < sub ∨ 31 < bit ∨
        lssIdent s sub / 2 ^ bit ≠ frameWord f 1 / 2 ^ bit then s
    else
      let s1 := lssReply s [0x4F]
      if bit ≠ 0 then s1
      else if sub = 3 then modLss s1 (fun l => { l with configuring := true, scanning := false })
      else modLss s1 (fun l => { l with scan := frameByte f 7 }))

/-! ### Bulk sessions: start and abort -/

/-- The session changed. -/
def State.modBulk (s : State) (f : BulkSession → BulkSession) : State := { s with bulk := f s.bulk }

/-- R495: the effect of a write of 1h to the start. -/
def bulkStartEff : WEff := fun _ auth s =>
  let t := s.nat 0x2A21 5
  if bulkRuns s ∨ isDomain t = false then rej .state s
  else if s.nat 0x2A21 6 = 1 ∧ (rowOf s t 3).map (·.acc) = some .rwa ∧ auth = false then rej .authentication s
  else
    let s1 := ((s.put t 2 0).putN 0x2A21 0x0C ((s.nat 0x2A21 0x0C + 1) % 16)).putN 0x2A21 0x0B 1
    acc { (s1.putN 0x2A21 0x0D 0).putN 0x2A21 0x0E 0 with bulk := { authorised := auth, last := s.t } }

/-- R494: a frame of the session to the host. -/
def bulkFrame (s : State) (type seq : Nat) (data : List Byte) : Frame :=
  { format := 4, ident := BitVec.ofNat 29 (s.nat 0x2A21 3), sdt := BitVec.ofNat 8 (s.nat 0x2A21 4),
    acceptance := BitVec.ofNat 32 (type * 2 ^ 28 + s.nat 0x2A21 0x0C * 2 ^ 24 + seq % 2 ^ 24), data := data }

/-- R494: a frame of the session is offered on its channel. -/
def bulkSend (s : State) (type seq : Nat) (data : List Byte) : State :=
  offerFrame s (s.nat 0x2A21 1) (bulkFrame s type seq data)

/-- R496, R497: the session ends with a result: done for 0h, failed otherwise. -/
def bulkEnd (s : State) (result : Nat) : State :=
  ((s.putN 0x2A21 0x0B (if result = 0 then 3 else 4)).putN 0x2A21 0x0E result).modBulk (fun b => { b with inbox := [] })

/-- R497: the effect of a write of 1h to the abort: the host is sent an abort frame. -/
def bulkAbortEff : WEff := fun _ _ s =>
  acc (if bulkRuns s then bulkEnd (bulkSend s 3 0 [0]) 4 else s)

/-- BULK_ABORT: a write of 2A21h:0Ah. -/
def execBulkAbort (w : Wr) (s : State) : Out := .next (accessWrite s w false 0x2A21 0x0A bulkAbortEff)

/-- R506: while a session runs, its settings are not written. -/
def bulkPlainEff (j : Nat) : WEff := fun w a s =>
  if 1 ≤ j ∧ j ≤ 8 ∧ bulkRuns s = true then rej .state s else plainWrite 0x2A21 j w a s

/-! ### Communication objects -/

/-- The communication objects that the store command keeps: the writable ones but for the error list. -/
def storedComm (s : State) : List (Nat × Word) :=
  s.od.filter (fun p => isComm p.1 && (objRow (p.1 / 256) (p.1 % 256)).map (·.acc) == some .rw &&
    p.1 / 256 != 0x1003 && p.1 / 256 != 0x1010 && p.1 / 256 != 0x1011)

/-- R484 (CiA 301): the effect of a write of the store command: the signature "save" asks for journal record 2, whose
slot holds at most 125 objects with their numbers (R748). -/
def storeEff : WEff := fun w _ s =>
  if w.value = 0x65766173 ∧ 125 < (storedComm s).length then rej .hardware s
  else if w.value = 0x65766173 then acc (requestRecord (s.modAgent (fun a => { a with toStore := storedComm s })) 2)
  else rej .state s

/-- R484 (CiA 301): the effect of a write of the restore command: the signature "load" gives up what was stored. -/
def restoreEff : WEff := fun w _ s =>
  if w.value = 0x64616F6C then acc (requestRecord (s.modAgent (fun a => { a with toStore := [] })) 2) else rej .state s

/-- R484: the effect of a write of 0 to 1003h:00h: the error list is empty. -/
def errorListEff : WEff := fun _ _ s => acc ((List.range 9).foldl (fun s k => s.putN 0x1003 k 0) s)

/-- R485: the object that a mapping entry names, with its length in bits; none where it may not be mapped so. -/
def mappable (s : State) (transmit : Bool) (v : Nat) : Option Nat :=
  let len := v % 256
  (rowOf s (v / 65536) (fieldN v 8 8)).bind (fun r =>
    if len ≠ 8 * r.ty.size ∧ len ≠ 32 then none
    else if transmit = false ∧ (r.acc = .rwa ∨ r.acc = .ro ∨ r.acc = .const) then none
    else if transmit = true ∧ r.acc = .wo then none
    else some len)

/-- The most bits a PDO holds in the network mode in force (R485). -/
def pdoBits (s : State) : Nat := if s.agent.mode = 0 then 64 else 512

/-- R485: the SDO abort code of a mapping write, 0 where it is taken: `j` = 0 writes the count. -/
def mapRefusal (s : State) (i j : Nat) (v : Word) : Nat :=
  let transmit := decide (0x1A00 ≤ i)
  let n := if j = 0 then v.toNat else s.nat i 0
  let entry := fun k => if k = j then v.toNat else s.nat i k
  let used := (List.range n).map (fun k => entry (1 + k))
  if j ≠ 0 ∧ v ≠ 0 ∧ mappable s transmit v.toNat = none then 0x06040041
  else if j = 0 ∧ used.any (fun x => (mappable s transmit x).isNone) then 0x06040041
  else if pdoBits s < (used.map (· % 256)).sum then 0x06040042
  else 0

/-- R485: the effect of a write of a mapping word. -/
def mapEff (i j : Nat) : WEff := fun w a s =>
  if mapRefusal s i j w.value = 0 then plainWrite i j w a s else rej .state s

/-- R484: the effect of a write of a communication object; a heartbeat time starts its period anew. -/
def commEff (i j : Nat) : WEff := fun w a s =>
  if i = 0x1003 then errorListEff w a s
  else if i = 0x1010 then storeEff w a s
  else if i = 0x1011 then restoreEff w a s
  else if i = 0x1016 then
    plainWrite i j w a (s.modAgent (fun x => { x with
      heard := modAt x.heard (j - 1) (fun _ => none), lost := modAt x.lost (j - 1) (fun _ => false) }))
  else if i = 0x1017 then plainWrite i j w a (s.modAgent (fun x => { x with beat := s.t }))
  else if i = 0x1006 ∨ i = 0x1005 then plainWrite i j w a (s.modAgent (fun x => { x with sync := s.t }))
  else if (0x1600 ≤ i ∧ i ≤ 0x160F) ∨ (0x1A00 ≤ i ∧ i ≤ 0x1A0F) then mapEff i j w a s
  else plainWrite i j w a s

end Sys2Proof.Machine
end

