-- ==== Sys2Proof/Machine/Auth.lean ====
section
/-! DEFINITION. The command authentication unit up to the writes of a command (R498 to R503). -/
namespace Sys2Proof.Machine

/-- Byte k of the message buffer, as a count. -/
def msgByte (s : State) (k : Nat) : Nat := (s.auth.message.getD k 0).toNat

/-- The little-endian word at byte k of the message buffer. -/
def msgWord (s : State) (k : Nat) : Word :=
  let b := fun n => s.auth.message.getD n 0
  bytesWord (b k) (b (k + 1)) (b (k + 2)) (b (k + 3))

/-- The state code of an OTP region in 3400h:01h (R759): 0 blank, 1 good, 2 failed. -/
def otpState (s : State) (n : Nat) : Nat := fieldN (s.nat 0x3400 1) (2 * n) 2

/-- Word j of a region's shadow (R761). -/
def shadowWord (s : State) (n j : Nat) : Word := s.obj (0x3410 + n) (1 + j)

/-- Bit b of a region's shadow. -/
def shadowBit (s : State) (n b : Nat) : Bool := (shadowWord s n (b / 32)).getLsbD (b % 32)

/-- R499: the key of slot k. -/
def authKey (s : State) (k : Nat) : List Byte := (List.range 4).flatMap (fun j => wordBytes (shadowWord s 2 (4 * k + j)))

/-- R499: whether slot k is usable. -/
def slotUsable (s : State) (k : Nat) : Bool :=
  decide (k < 4) && otpState s 2 == 1 && shadowBit s 2 (512 + k) && !shadowBit s 2 (516 + k)

/-- The number of writes that the message announces. -/
def msgWrites (s : State) : Nat := msgByte s 2

/-- R500: the code of the first check that a message of L bytes fails, 0 where every check up to 9h passes. -/
def checkMessage (s : State) (L : Nat) : Nat :=
  let w := msgWrites s
  let k := msgByte s 1
  let c := (msgWord s 12).toNat
  let stored := s.nat 0x2A80 (6 + k)
  if s.auth.lockedTo.isSome then 1
  else if w = 0 ∨ 16 < w ∨ L ≠ 24 + 8 * w then 2
  else if msgByte s 0 ≠ 1 ∨ msgByte s 3 ≠ 0 ∨ (List.range w).any (fun j => msgByte s (19 + 8 * j) != 0) then 3
  else if slotUsable s k = false then 4
  else if msgWord s 4 ≠ s.obj 0x2000 4 ∨ msgWord s 8 ≠ s.obj 0x2000 5 ∨ otpState s 0 ≠ 1 then 5
  else if (Config.aesCmac (authKey s k) (s.auth.message.take (16 + 8 * w))).take 8 ≠
      (s.auth.message.drop (16 + 8 * w)).take 8 then 6
  else if stored = 0xFFFFFFFF then 7
  else if c ≤ stored then 8
  else if stored + s.nat 0x2A80 0x0A < c then 9
  else 0

/-- R500, R501: the effect of a write of the submit: the message is checked, and its counter is stored before any
write is made. -/
def submitEff : WEff := fun w _ s =>
  if s.nat 0x2A80 1 ≠ 0 ∨ s.startup.journalLoaded = false then rej .state s
  else
    let s1 := s.putN 0x2A80 5 (masterCode w.master)
    match checkMessage s1 w.value.toNat with
    | 0 =>
      let s2 := { s1.putN 0x2A80 1 2 with
        auth := { s1.auth with master := w.master, slot := msgByte s1 1, counter := msgWord s1 12 } }
      acc (requestRecord s2 1)
    | code => acc (endCommand s1 code)

/-- COMMAND_SUBMIT: a write of 2A80h:02h. -/
def execCommandSubmit (w : Wr) (s : State) : Out := .next (accessWrite s w false 0x2A80 2 submitEff)

/-- AUTH_LOCKOUT_END, R502: the lockout time has passed. -/
def execAuthLockoutEnd (s : State) : Out :=
  match s.auth.lockedTo with
  | some f => when (decide (f ≤ s.t)) s { s with auth := { s.auth with lockedTo := none } }
  | none => .next s

/-- R501: the counter of the command's slot is stored; its writes follow. -/
def counterStored (s : State) : State :=
  if s.nat 0x2A80 1 = 2 then (s.put 0x2A80 (6 + s.auth.slot) s.auth.counter).putN 0x2A80 1 3 else s

end Sys2Proof.Machine
end

