-- ==== Sys2Proof/Machine/GaugeOps.lean ====
section
/-! DEFINITION. The battery gauge (R628 to R650): integration, windows, anchors, learning, rescaling, presence, swaps
and history. The rows stand in Gauge.lean; the integration is part of a precision result. -/
namespace Sys2Proof.Machine

/-- The exact charge units in 2^−8 A·s (R631). -/
def chargeUnit : Int := 51200000000 * 88473600

/-- The energy units in one joule (R631). -/
def energyUnit : Int := 4294967296 * 400000000

/-- A hidden accumulator changed. -/
def State.modGauge (s : State) (f : Gauge → Gauge) : State := { s with gauge := f s.gauge }

/-- A 64-bit value of a pair, as a signed number. -/
def State.int64 (s : State) (i j : Nat) : Int := (s.pair i j).toInt

/-- A 64-bit signed value written, limited to its format (R45, R54). -/
def State.putInt64 (s : State) (i j : Nat) (v : Int) : State := s.putPair i j (BitVec.ofInt 64 (clamp64 v))

/-- FCC, in 2^−8 A·s. -/
def gaugeFcc (s : State) : Int := s.int64 0x2F00 5

/-- The resistance R. -/
def gaugeR (s : State) : Int := s.int 0x2F02 1

/-- R628: whether the current channel is covered. -/
def gaugeCovered (s : State) : Bool := s.flag 0x2F00 1 0 && s.on 5 && precValid s (s.cnat 0x2E00 0x0E)

/-- The charges shown (R631, R651, R656). -/
def showGauge (s : State) : State :=
  let g := s.gauge
  (((((s.putInt64 0x2F00 3 (tdiv g.rc chargeUnit)).putInt64 0x2F00 7 (tdiv g.err chargeUnit)).putInt64 0x2F05 1
    (tdiv g.cin chargeUnit)).putInt64 0x2F05 3 (tdiv g.cout chargeUnit)).putInt64 0x2F05 5
    (tdiv g.ein energyUnit)).putInt64 0x2F05 7 (tdiv g.eout energyUnit)

/-- An accumulator that holds at the largest 64-bit value of its unit (R45, R631). -/
def holdAt (unit v : Int) : Int := clampI v (-9223372036854775808 * unit) (9223372036854775807 * unit + (unit - 1))

/-- R631, R632: RC with an increment, clamped to 0 to FCC; a change into the clamp is counted. -/
def addRc (s : State) (d : Int) : State :=
  let top := gaugeFcc s * chargeUnit
  let v := s.gauge.rc + d
  let c := clampI v 0 top
  let hit := decide (c ≠ v)
  let s1 := if hit && !s.gauge.clamped then s.bump 0x2F00 0x14 16 else s
  s1.modGauge (fun g => { g with rc := c, clamped := hit })

/-- R633: E with an increment, held at most at FCC. -/
def addErr (s : State) (d : Int) : State :=
  s.modGauge (fun g => { g with err := min (g.err + d) (gaugeFcc s * chargeUnit) })

/-- GAUGE_INTEGRATION, R630, R631, R633: `dt2` is twice Δt. -/
def integrate (s : State) (raw : Int) (dt2 : Nat) : State :=
  let i := if absI raw ≤ s.int 0x2F01 4 then 0 else raw
  let full := i * dt2 * 44236800
  let eff := if 0 < i then i * dt2 * (s.nat 0x2F01 5 * 675) else full
  let e := (absI i * s.nat 0x2F01 6 + s.int 0x2F01 4 * 65536) * dt2 * 675 +
    (if clockState s = 2 then absI i * dt2 * 884736 else 0)
  let v := s.int (senseIdx (s.cnat 0x2E00 0x0D)) 0x12
  let en := v * i * dt2
  let s1 := s.modGauge (fun g => { g with
    qn := holdAt chargeUnit (g.qn + full), qe := holdAt chargeUnit (g.qe + eff),
    cin := if 0 < i then holdAt chargeUnit (g.cin + full) else g.cin,
    cout := if i < 0 then holdAt chargeUnit (g.cout - full) else g.cout,
    ein := if 0 < i then holdAt energyUnit (g.ein + en) else g.ein,
    eout := if i < 0 then holdAt energyUnit (g.eout + -en) else g.eout,
    wCharge := g.wCharge + i * dt2, lastAdded := some (s.t, eff) })
  addErr (addRc s1 eff) e

/-- R634: a covered result ends an uncovered interval. -/
def endGap (s : State) : State :=
  match s.gauge.gap with
  | none => s
  | some f =>
    let s1 := (((s.bump 0x2F00 0x13 16).setBits 0x2F00 0x12 2).report 76 .ce).modGauge (fun g => { g with
      gap := none, learn := none })
    addErr (s1.put 0x2F02 8 0) (s.int 0x2F01 7 * (s.real - f : Nat) * 44236800)

/-- R628, R634: the covered state followed: an uncovered interval begins, and a window is not full. -/
def gaugeCover (s : State) : State :=
  if gaugeCovered s then s
  else s.modGauge (fun g => { g with prev := none, wOk := false, gap := some (g.gap.getD s.real) })

/-- R629 to R634: the gauge at a precision result of channel c. -/
def gaugePrecision (s : State) (c : Nat) : State :=
  let s0 := gaugeCover s
  if s.flag 0x2F00 1 0 = false then s0
  else
    let s1 := if c = s.cnat 0x2E00 0x0D ∧ precValid s c = true then
        s0.modGauge (fun g => { g with
          wVolt := g.wVolt + s.int (senseIdx c) 0x12, wCount := g.wCount + 1 })
      else s0
    if c = s.cnat 0x2E00 0x0E ∧ gaugeCovered s = true then
      let now := s.obj (senseIdx c) 0x13
      let s2 := endGap s1
      let s3 := match s2.gauge.prev with
        | some p =>
          let dt := (now - p).toNat
          integrate s2 (s.int (senseIdx c) 0x12) (if clockState s = 0 then dt * 25 else dt * 2)
        | none => s2
      showGauge (s3.modGauge (fun g => { g with prev := some now }))
    else s1

/-- R630: the current channel was cleared or restarted: the next result only records its time. -/
def gaugeRestart (s : State) (c : Nat) : State :=
  if c = s.cnat 0x2E00 0x0E then s.modGauge (fun g => { g with prev := none }) else s

/-! ### Windows -/

/-- R636: a resistance sample from two full windows. -/
def resistanceStep (s : State) (a b : Int × Int) : State :=
  let di := b.1 - a.1
  let dv := b.2 - a.2
  if absI di < s.int 0x2F01 0x0A ∨ di = 0 then s
  else
    let rs := clamp32 (roundDiv (if di < 0 then -dv * 65536 else dv * 65536) (absI di))
    if rs < s.int 0x2F01 0x0B ∨ s.int 0x2F01 0x0C < rs then s
    else
      let r := gaugeR s
      ((s.putI 0x2F02 1 (r + tdiv ((rs - r) * s.nat 0x2F01 0x0D) 256)).put 0x2F02 2 0).bump 0x2F02 3 32

/-- R645: an extreme kept: the larger in sub j, the smaller in sub j + 1. -/
def keepExtremes (s : State) (j : Nat) (v : Int) : State :=
  let s1 := if s.int 0x2F05 j < v then s.putI 0x2F05 j v else s
  if v < s1.int 0x2F05 (j + 1) then s1.putI 0x2F05 (j + 1) v else s1

/-- R629, R636, R638: a window closes; `len2` is twice its length in fabric cycles. -/
def gaugeWindow (s : State) (len2 : Nat) : State :=
  let g := s.gauge
  let full := g.wOk && g.wCount != 0 && gaugeCovered s
  let i10 := roundDiv g.wCharge len2
  let v10 := roundDiv g.wVolt (max g.wCount 1 : Nat)
  let s1 := match full, g.prevWin with
    | true, some a => resistanceStep s a (i10, v10)
    | _, _ => s
  s1.modGauge (fun g => { g with
    wCharge := 0, wVolt := 0, wCount := 0, wOk := gaugeCovered s, prevWin := if full then some (i10, v10) else none,
    secI := if full then g.secI + i10 else g.secI, secV := if full then g.secV + v10 else g.secV,
    secFull := if full then g.secFull + 1 else g.secFull, secAll := g.secAll + 1,
    wins := if full then g.wins ++ [(i10, v10)] else g.wins,
    quiet := if full && decide (absI i10 ≤ s.int 0x2F01 0x11) then g.quiet + len2 else 0 })

/-! ### The OCV table -/

/-- Entry j of the OCV table. -/
def ocv (s : State) (j : Nat) : Int := s.int 0x2F03 (1 + j)

/-- R637: the table is valid while its entries ascend. -/
def ocvValid (s : State) : Bool := (List.range 16).all (fun j => decide (ocv s j < ocv s (j + 1)))

/-- R637: the segment of a per-cell voltage num ÷ den (den > 0); none below the table and at or above its end. -/
def ocvSegment (s : State) (num den : Int) : Option Nat :=
  (List.range 16).find? (fun j => decide (ocv s j * den ≤ num) && decide (num < ocv s (j + 1) * den))

/-- R637: s(v) of a per-cell voltage num ÷ den, as a fraction. -/
def ocvInverse (s : State) (num den : Int) : Int × Int :=
  match ocvSegment s num den with
  | some j =>
    let w := ocv s (j + 1) - ocv s j
    (j * w * den + (num - ocv s j * den), 16 * w * den)
  | none => if num < ocv s 0 * den then (0, 1) else (1, 1)

/-- R637: whether the segment of a per-cell voltage is readable. -/
def ocvReadable (s : State) (num den : Int) : Bool :=
  match ocvSegment s num den with
  | some j => decide (s.int 0x2F01 0x13 ≤ ocv s (j + 1) - ocv s j)
  | none => false

/-- A fraction in units of 0.01 %, rounded and held to 0 to 100 %. -/
def percent (n d : Int) : Int := if d = 0 then 0 else clampI (roundDiv (n * 10000) d) 0 10000

/-! ### The second step -/

/-- R635: self-discharge over a number of seconds. E, reduced and then raised by the same amount, is left as it stands. -/
def selfDischarge (s : State) (secs : Nat) : State :=
  let d := gaugeFcc s * s.nat 0x2F01 8 * 52428800 * secs
  (addRc s (-d)).modGauge (fun g => { g with qe := holdAt chargeUnit (g.qe - d) })

/-- Whether R is valid (R636). -/
def gaugeRValid (s : State) : Bool := decide (s.nat 0x2F02 2 ≤ s.nat 0x2F01 0x0E)

/-- R638: the anchor of a second step, as its kind, s and gain. -/
def anchorOf (s : State) (i v : Int) : Option (Nat × (Int × Int) × Int) :=
  let g := s.gauge
  let cells : Int := s.cnat 0x2E00 4
  let den := cells * 65536
  let ir := v * 65536 - i * gaugeR s
  if s.chg.full then some (3, (1, 1), 256)
  else if cells = 0 ∨ ocvValid s = false ∨ g.secFull = 0 then none
  else if realMs (1000 * s.nat 0x2F01 0x12) ≤ g.quiet ∧ ocvReadable s v cells = true then some (2, ocvInverse s v cells, 256)
  else if s.flag 0x2F00 2 0 = false ∧ gaugeRValid s = true ∧ absI i ≤ s.int 0x2F01 0x0F ∧ g.secFull = g.secAll ∧
      ocvReadable s ir den = true then
    some (1, ocvInverse s ir den, s.nat 0x2F01 0x10)
  else none

/-- R638: an anchor taken. -/
def takeAnchor (s : State) (kind : Nat) (sc : Int × Int) (K : Int) : State :=
  let fcc := gaugeFcc s
  let d := tdiv ((sc.1 * fcc * chargeUnit - s.gauge.rc * sc.2) * K) (256 * sc.2 * chargeUnit)
  let e := tdiv (s.gauge.err * (256 - K)) (256 * chargeUnit) + tdiv (fcc * s.nat 0x2F01 0x14 * K) (65536 * 256)
  let s1 := (addRc s (d * chargeUnit)).modGauge (fun g => { g with err := if kind = 3 then 0 else e * chargeUnit })
  ((((s1.putI 0x2F02 4 (percent sc.1 sc.2)).putN 0x2F02 5 kind).put 0x2F02 6 (s1.obj 0x2F05 0x10)).bump 0x2F02 7 32).setBits
    0x2F00 0x12 (if kind = 3 then 1 else 4)

/-- R639: capacity learning at an anchor with state of charge sc. -/
def learnAt (s : State) (sc : Int × Int) : State :=
  let hi : Int := s.nat 0x2F01 0x15
  let lo : Int := s.nat 0x2F01 0x16
  if hi * sc.2 ≤ sc.1 * 10000 then
    ((s.putN 0x2F02 8 1).putI 0x2F02 9 (percent sc.1 sc.2)).modGauge (fun g => { g with
      learn := some (sc.1, sc.2, g.qe, s.real) })
  else if sc.1 * 10000 ≤ lo * sc.2 then
    match s.gauge.learn with
    | none => s
    | some (n, d, q, _) =>
      let s1 := (s.put 0x2F02 8 0).modGauge (fun g => { g with learn := none })
      let ds := n * sc.2 - sc.1 * d
      if ds ≤ 0 then s1
      else
        let F := roundDiv ((q - s.gauge.qe) * d * sc.2) (ds * chargeUnit)
        let fcc := gaugeFcc s
        let s2 := s1.putInt64 0x2F02 0x0C F
        if absI (F - fcc) * 256 ≤ fcc * s.nat 0x2F01 0x17 then
          let s3 := s2.putInt64 0x2F00 5 (fcc + tdiv ((F - fcc) * s.nat 0x2F01 0x18) 256)
          requestRecord ((addRc (s3.bump 0x2F02 0x0A 16) 0).setBits 0x2F00 0x12 8) 3
        else (s2.bump 0x2F02 0x0B 16).setBits 0x2F00 0x12 16
  else s

/-- R639: a learning window older than its maximum age closes, without a sample. -/
def learnAge (s : State) : State :=
  match s.gauge.learn with
  | some (_, _, _, at') =>
    if at' + realMs (1000 * s.nat 0x2F01 0x19) < s.real then
      (s.put 0x2F02 8 0).modGauge (fun g => { g with learn := none })
    else s
  | none => s

/-- R640: the rescaling to the shutdown voltage. An empty point of 1 leaves the relative state of charge 0 ÷ 0, a value
the spec does not state (`Config.divZero`). -/
def rescale (s : State) : State :=
  let fcc := gaugeFcc s
  let g := s.gauge
  let n : Nat := (g.minute.map (·.2)).sum
  let i60 := roundDiv (sumI (g.minute.map (·.1))) (max n 1 : Nat)
  if fcc = 0 then
    emptied s ((((s.put 0x2F00 9 0).put 0x2F00 0x0A 0).put 0x2F00 0x0B 0).putInt64 0x2F00 0x0C 0 |>.put 0x2F00 0x0E 0xFFFFFFFF)
  else
    let id := min i60 (-s.int 0x2F01 9)
    let cells : Int := s.cnat 0x2E00 4
    let vsd := cells * s.cint 0x2E01 6
    let se := if ocvValid s ∧ cells ≠ 0 then ocvInverse s (vsd * 65536 - id * gaugeR s) (cells * 65536) else (0, 1)
    let top := fcc * chargeUnit
    -- RC − s_e × FCC, over se.2
    let left := g.rc * se.2 - se.1 * top
    let usable := if left < 0 then 0 else roundDiv left (se.2 * chargeUnit)
    let room := (se.2 - se.1) * top
    let rel := if room = 0 then (if left < 0 then 0 else clampI (Config.divZero left) 0 10000) else percent left room
    let tte : Int :=
      if i60 < 0 then clampI (roundDiv (max 0 left * 256) (se.2 * chargeUnit * absI i60)) 0 4294967295 else 4294967295
    let s1 := ((((s.putI 0x2F00 9 (percent g.rc top)).putI 0x2F00 0x0A rel).putI 0x2F00 0x0B
      (percent se.1 se.2)).putInt64 0x2F00 0x0C usable).putI 0x2F00 0x0E tte
    emptied s s1
where
  /-- A change of the relative state of charge to 0 is a deep discharge. -/
  emptied (s t : State) : State :=
    if s.nat 0x2F00 0x0A ≠ 0 ∧ t.nat 0x2F00 0x0A = 0 then t.bump 0x2F05 0x12 16 else t

/-- The bin of a valid temperature (R645). -/
def tempBin (t : Int) : Nat :=
  let c := floorDiv t 65536
  if c < -20 then 1 else if c < 0 then 2 else if c < 10 then 3 else if c < 20 then 4
  else if c < 30 then 5 else if c < 40 then 6 else if c < 50 then 7 else 8

/-- R645: the history of a second. With a design capacity of 0 the equivalent cycles are a value the spec does not
state. -/
def historyStep (s : State) : State :=
  if s.flag 0x2F04 0x12 0 = false then s
  else
    let t := s.int 0x2F04 0x11
    let s0 := s.gauge.wins.foldl (fun s w => keepExtremes (keepExtremes s 0x0A w.2) 0x0C w.1) s
    let s1 := if s.flag 0x2F04 0x12 1 then (keepExtremes s0 0x0E t).bump 0x2F06 (tempBin t) 32 else s0
    let top := gaugeFcc s * chargeUnit
    let eighth := if top ≤ 0 then 0 else (floorDiv (8 * s.gauge.rc) top).toNat
    let design := s.int64 0x2F01 1
    let s2 := (s1.bump 0x2F05 0x10 32).bump 0x2F06 (min 0x10 (9 + eighth)) 32
    let out := s2.int64 0x2F05 3 * 256
    s2.putI 0x2F05 9 (clampI (if design = 0 then Config.divZero out else tdiv out design) 0 4294967295)

/-! ### Presence and swaps -/

/-- R641: the input's code and whether its converter feeds it. -/
def gaugeInput (s : State) (n : Nat) : Nat := s.nat (0x2C10 + n / 16) (0x11 + n % 16)

/-- R54, R641: the temperature of a code. -/
def tempOf (s : State) (x : Nat) : Int :=
  let j := x / 512
  let t0 := s.int 0x2F04 (8 + j)
  roundDiv (t0 * 512 + (s.int 0x2F04 (9 + j) - t0) * (x % 512 : Nat)) 512

/-- R642: since when a condition has held. -/
def sinceWhen (c : Bool) (f : Option Nat) (t : Nat) : Option Nat := if c then some (f.getD t) else none

/-- R641 to R643: the temperature, the presence and the identity band brought to the present. The first band that a
configured identity input shows is no change of band (DESIGN CHOICE, unsafe: no rule gives a band before it). -/
def gaugePresence (s : State) : State :=
  let nT := s.nat 0x2F04 1
  let nI := s.nat 0x2F04 2
  let hold := cyclesMs (s.nat 0x2F04 7)
  let xT := gaugeInput s nT
  let xI := gaugeInput s nI
  let cT := nT < 64 && (decide (xT ≤ s.nat 0x2F04 3) || decide (s.nat 0x2F04 4 ≤ xT) ||
    s.flag (0x2C00 + nT / 16) 0x14 (nT % 16))
  let cI := nI < 64 && (decide (xI < s.nat 0x2F04 5) || decide (s.nat 0x2F04 6 < xI))
  let th := sinceWhen cT s.gauge.therm s.t
  let idn := sinceWhen cI s.gauge.ident s.t
  let absT := match th with | some f => decide (f + hold ≤ s.t) | none => false
  let absI' := match idn with | some f => decide (f + hold ≤ s.t) | none => false
  let absent := absT || absI'
  let fed := s.on 6 && s.flag (0x2C00 + nT / 16) 1 0 && s.flag (0x2C00 + nT / 16) 4 (nT % 16)
  let valid := decide (nT < 64) && fed && !absT
  let nb := xI / 256
  let band := match s.gauge.bandNow with
    | some old => if nI < 64 ∧ nb ≠ old ∧ absent = false then
        (match s.gauge.band with
          | some (b, f) => if b = nb then some (b, f) else some (nb, s.t)
          | none => some (nb, s.t))
      else none
    | none => none
  let moved := match band with | some (_, f) => decide (f + hold ≤ s.t) | none => false
  let newBand := if nI ≥ 64 then none
    else if moved = true ∨ s.gauge.bandNow.isNone then (if absent then s.gauge.bandNow else some nb)
    else s.gauge.bandNow
  let came := s.gauge.absent && !absent
  let s1 := if valid then s.putI 0x2F04 0x11 (tempOf s xT) else s
  let s2 := s1.putN 0x2F04 0x12 ((if nI < 64 then nb % 16 * 16 else 0) + (if valid then 2 else 0) + (if absent then 0 else 1))
  let s3 := if absent && !s.gauge.absent then (s2.setBits 0x2F00 0x12 32).report 76 .uc else s2
  s3.modGauge (fun g => { g with
    therm := th, ident := idn, band := if moved then none else band, bandNow := newBand, absent := absent,
    swap := g.swap || came || moved })

/-- The history's fallbacks (R656, R657). -/
def freshHistory (s : State) : State :=
  let zero := (List.range 0x12).foldl (fun s k => s.put 0x2F05 (1 + k) 0) s
  let s1 := [0x0A, 0x0C, 0x0E].foldl (fun s j => (s.putI 0x2F05 j (-2147483648)).putI 0x2F05 (j + 1) 2147483647) zero
  let s2 := (List.range 16).foldl (fun s k => s.put 0x2F06 (1 + k) 0) s1
  (s2.put 0x2F05 0x11 (s2.obj 0x3300 1)).modGauge (fun g => { g with cin := 0, cout := 0, ein := 0, eout := 0 })

/-- R643, R789: a swap, in one step. -/
def gaugeSwap (s : State) : State :=
  if s.gauge.swap = false then s
  else
    let band := s.gauge.bandNow
    let keep := s.flag 0x2F00 2 1 && band == s.gauge.bandAtSwap
    let s1 := ((s.bump 0x2F04 0x13 16).setBits 0x2F00 0x12 64).report 76 .ce
    let s2 := if keep then s1
      else
        let c := (List.range 0x12).foldl (fun s k => s.put 0x2F07 (1 + k) (s.obj 0x2F05 (1 + k))) s1
        let c := (List.range 16).foldl (fun s k => s.put 0x2F08 (1 + k) (s.obj 0x2F06 (1 + k))) c
        (((freshHistory c).putPair 0x2F00 5 (s.pair 0x2F01 1)).put 0x2F02 1 (s.obj 0x2F01 3)).put 0x2F02 2 0xFFFFFFFF
    let half := tdiv (gaugeFcc s2) 2
    let s3 := clearRings s2 (fun l => s2.nat (lifeIdx l) 1 == 5)
    requestRecord ((s3.put 0x2F02 8 0).modGauge (fun g => { g with
      rc := half * chargeUnit, err := gaugeFcc s2 * chargeUnit, learn := none, swap := false, bandAtSwap := band })) 3

/-- R644: a removal passed by the charger. -/
def gaugeRemoval (s : State) : State :=
  ((s.setBits 0x2F00 0x12 128).put 0x2F02 8 0).modGauge (fun g => { g with
    err := gaugeFcc s * chargeUnit, learn := none, swap := g.swap || s.flag 0x2F00 2 2 })

/-- R628, R634, R641 to R643: what the gauge follows in every cycle: the coverage, the temperature and the presence. -/
def gaugeCycle (s : State) : State := if s.on 2 then gaugePresence (gaugeCover s) else s

/-- R648: an FCC written since the last second step takes effect. -/
def takeFcc (s : State) : State :=
  match s.gauge.fcc with
  | some v => addRc ((s.putPair 0x2F00 5 v).modGauge (fun g => { g with fcc := none })) 0
  | none => s

/-- R648: one second step, in its order. -/
def gaugeSecond (s : State) : State :=
  let g0 := s.gauge
  let i := roundDiv g0.secI (max g0.secFull 1 : Nat)
  let v := roundDiv g0.secV (max g0.secFull 1 : Nat)
  let s1 := if g0.secFull = 0 then s else (s.putI 0x2F00 0x0F i).putI 0x2F00 0x10 v
  let s1 := s1.modGauge (fun g => { g with minute := ((g.secI, g.secFull) :: g.minute).take 60 })
  let s2 := selfDischarge (gaugeSwap (gaugePresence (takeFcc s1))) 1
  let s3 := match anchorOf s2 i v with
    | some (k, sc, K) => learnAt (takeAnchor (learnAge s2) k sc K) sc
    | none => learnAge s2
  let s4 := historyStep (rescale s3)
  let s5 := { s4.bump 0x2F02 2 32 with chg := { s4.chg with full := false } }
  let s6 := if s5.gauge.lastWrite + realMs (1000 * s5.nat 0x2F09 1) ≤ s5.real then
      requestRecord (s5.modGauge (fun g => { g with lastWrite := s.real })) 3
    else s5
  showGauge (s6.modGauge (fun g => { g with secI := 0, secV := 0, secFull := 0, secAll := 0, wins := [] }))

end Sys2Proof.Machine
end

