-- ==== Sys2Proof/Machine/Phases.lean ====
section
/-! DEFINITION. The rows of the phase channels (R197 to R248). -/
namespace Sys2Proof.Machine

/-! ### Transitions -/

/-- R304, R305: V_in of a rail with its valid bit. -/
def slopeIn (s : State) (r : Nat) : Int × Bool :=
  let c := s.nat (railIdx r) 5
  (s.int (senseIdx c) 0x12, precValid s c)

/-- R305: V_o for a member of group h. -/
def slopeOut (s : State) (r h : Nat) : Int × Bool :=
  if s.flag (svIdx r) 0x0C h then (s.int (svIdx r) (0x0D + h), true)
  else
    let c := s.nat (railIdx r) (6 + h)
    (s.int (senseIdx c) 0x12, precValid s c)

/-- R304: the inductor voltage by polarity and state. -/
def inductorVoltage (polarity rising : Bool) (vin vo : Int) : Int :=
  match polarity, rising with
  | false, true => vin - vo
  | false, false => -vo
  | true, true => vin
  | true, false => vin - vo

/-- R301, R302, R305: the measurement that a band decision or a forced edge ends in the present cycle. -/
def captureMeasure (s : State) (p : Nat) (forced : Bool) : State :=
  let x := s.phase p
  match slopeRuns s p, memberOf s p, x.sw with
  | some r, some (_, i), some sw =>
    let vin := slopeIn s r
    let vo := slopeOut s r (groupOf s r i)
    let rising := phaseState s p == risingState s p
    let m : Measure := {
      rail := r, member := i, d := s.t, wn := (s.t : Int) - sw, xa := x.xa.getD (phaseX s p), xb := phaseX s p,
      vl := inductorVoltage (s.flag (phaseIdx p) 3 0) rising vin.1 vo.1, valid := vin.2 && vo.2, rising := rising,
      forced := forced }
    { s with measures := s.measures ++ [m] }
  | _, _, _ => s

/-- R209, R211, R240, R247: a leading edge decided in the present cycle. -/
def leadingEdge (s : State) (p : Nat) (forced : Bool) : State :=
  let i := phaseIdx p
  let s1 := s.bump i 0x1D 32
  let s2 := match (s.phase p).lastEdge with
    | some d => s1.putN i 0x22 (satN 32 (s.t - d))
    | none => s1
  let s3 := s2.modPhase p (fun x => { x with lastEdge := some s.t, crossed := false })
  (if forced then s3 else pilotUpdate s3 p).modPhase p (fun x => { x with h := s.nat i 0x0A })

/-- R204, R205, R231: a switching state ends at its band or at a forced edge. -/
def endState (s : State) (p : Nat) (forced : Bool) : State :=
  if phaseState s p = risingState s p then
    if (s.phase p).park then enterPhase s p 4 else enterPhase (captureMeasure s p forced) p (fallingState s p)
  else enterPhase (leadingEdge (captureMeasure s p forced) p forced) p (risingState s p)

/-- Whether a park request ends the present falling state before its band (R231, R237). -/
def parkFirst (s : State) (p : Nat) : Bool := (s.phase p).park && phaseState s p == fallingState s p

/-- R206, R231, R237: whether a switching state can end in the present cycle: its minimum time has elapsed, and neither a
blind condition nor the park request of a falling state displaces its end. -/
def mayEnd (s : State) (p : Nat) : Bool :=
  s.on 5 && switching (phaseState s p) && minElapsed s p && !blindDue s p && !parkFirst s p

/-- PHASE_TRANSITION, R202 to R206: the band condition holds and the minimum time has elapsed. -/
def execPhaseTransition (p : Fin 48) (s : State) : Out :=
  when (mayEnd s p && bandMet s p) s (settleAll (endState s p false))

/-- R207, R231, R237: a forced edge is counted and flagged, unless a park request takes its place. -/
def countForced (s : State) (p : Nat) : State :=
  if (s.phase p).park then s else (s.bump (phaseIdx p) 0x1E 16).setBits (phaseIdx p) 0x1A 4

/-- FORCED_EDGE, R207 to R209: the maximum hold has passed and the band condition does not hold. -/
def execForcedEdge (p : Fin 48) (s : State) : Out :=
  when (mayEnd s p && holdPassed s p && !bandMet s p) s (settleAll (endState (countForced s p) p true))

/-- DEAD_TIME_END, R68, R205: the incoming command goes to 1. -/
def execDeadTimeEnd (p : Fin 48) (s : State) : Out :=
  match (s.phase p).dead with
  | some (due, up) =>
    when (s.on 5 && decide (due ≤ s.t)) s (s.modPhase p (fun x => { x with
      gh := x.gh || up, gl := x.gl || !up, dead := none }))
  | none => .next s

/-- PHASE_PARK, R231: a phase with a park request parks at the end of its minimum time or of its rising state. -/
def execPhasePark (p : Fin 48) (s : State) : Out :=
  when (s.on 5 && (s.phase p).park && switching (phaseState s p) && minElapsed s p && !blindDue s p &&
      (phaseState s p == fallingState s p || bandMet s p || holdPassed s p)) s
    (settleAll (enterPhase s p 4))

/-- PHASE_UNPARK, R232: the park request is withdrawn while the grant stands. -/
def execPhaseUnpark (p : Fin 48) (s : State) : Out :=
  when (s.on 5 && phaseState s p == 4 && !(s.phase p).park && (s.phase p).grant) s
    (settleAll (enterPhase s p (fallingState s p)))

/-! ### The Pilot -/

/-- R212: the effect of a write of the Pilot enable. -/
def pilotEnableEff (p : Nat) : WEff := fun w _ s =>
  let s1 := s.put (phaseIdx p) 0x23 w.value
  if w.value = 0 then acc (pilotOff s1 p)
  else if pilotState s p = 0 then acc (pilotSettle (pilotTo s1 p (if switching (phaseState s p) then 2 else 1) 0) p)
  else acc s1

/-- PILOT_ENABLE: a write of 2300h + p:23h. -/
def execPilotEnable (p : Fin 48) (w : Wr) (s : State) : Out :=
  .next (accessWrite s w false (phaseIdx p) 0x23 (pilotEnableEff p))

/-- MISSING_EDGE, R212, R213: a forward crossing of the slot angle; without a leading edge since the one before, it is a
missing edge. -/
def execMissingEdge (p : Fin 48) (s : State) : Out :=
  let i := phaseIdx p
  let w := s.wheel (s.nat i 0x2B)
  let st := pilotState s p
  let miss := (s.phase p).crossed && switching (phaseState s p) && (st == 2 || st == 3)
  let s1 := s.modPhase p (fun x => { x with crossed := true, crossedAt := some s.t })
  when (s.on 5 && crossesFwd w.prevAngle w.angle (s.obj i 0x2C) &&
      (s.phase p).crossedAt != some s.t) s
    (if miss then pilotTo (s1.bump i 0x31 16) p 2 (lostIfLocked s p) else s1)

/-! ### Gate fault -/

/-- GATE_FAULT_INPUT, R218, R220: GFp_N goes low for `ns` nanoseconds; from 10 ns it always sets the latch, below 2 ns
never; between, a free bit decides, and the level has passed. -/
def execGateFaultInput (p : Fin 48) (ns : Nat) (s : State) : Out :=
  if 10 ≤ ns then .next (latchGateFault (s.modPhase p (fun x => { x with gf := false })) p)
  else if 2 ≤ ns then
    let (v, s1) := s.freshWord
    .next (if v.getLsbD 0 then latchGateFault s1 p else s1)
  else .next s

/-- GATE_FAULT_SEEN, R219, R225: the logic sees the latch, from the cycle after it was set. -/
def execGateFaultSeen (p : Fin 48) (s : State) : Out :=
  when (s.on 5 && (s.phase p).unseen && decide ((s.phase p).latchAt < s.t)) s
    (settleAll (phaseFault (phaseReport (((s.modPhase p (fun x => { x with unseen := false })).bump (phaseIdx p) 0x20 16
      ).setBits (phaseIdx p) 0x1A 2) p .uc) p 3))

/-- GATE_RELEASE, R221: GFp_N reads high again. -/
def execGateRelease (p : Fin 48) (s : State) : Out :=
  let s1 := s.modPhase p (fun x => { x with gf := true, gfSince := s.t })
  when (!(s.phase p).gf && !s.sup.vddioLow) s (if s.on 5 then settleAll (idleCheck s1 p) else s1)

/-! ### Re-arm -/

/-- R329: whether the rail takes over the fault of member i in the present cycle. -/
def takeoverDue (s : State) (r i : Nat) : Bool :=
  let T := s.nat (svIdx r + 1) 0x0D
  let p := memberPhase s r i
  T != 0 && decide (i < memberCount s r) && railStatus s r != 0 && recOwner s p == 1 &&
    decide (T ≤ episodeUs s r i)

/-- PHASE_REARM, R226, R332, R333: a tripped phase whose OWNER is 1h re-arms. -/
def execPhaseRearm (p : Fin 48) (s : State) : Out :=
  let x := s.phase p
  let s1 := (setRec (setRec s p 16 8 (min 255 (recAttempts s p + 1))) p 24 4 0).modPhase p (fun x => { x with
    latch := false, unseen := false, window := true, ran := 0, ranFrom := none })
  when (s.on 5 && phaseState s p == 6 && recOwner s p == 1 &&
      decide (x.entry + cyclesUs (s.nat (phaseIdx p) 0x12) ≤ s.t) && rearmReady s p &&
      !(membershipsOf s p).any (fun m => takeoverDue s m.1 m.2)) s
    (settleAll (resumePhase s1 p))

/-- REARM_WINDOW_EXPIRY, R228: the phase has run clean for the re-arm window. -/
def execRearmWindowExpiry (p : Fin 48) (s : State) : Out :=
  let x := s.phase p
  when (s.on 5 && x.window && decide (cyclesMs (s.nat (phaseIdx p) 0x14) ≤ ranUntil x s.t)) s
    (settleAll ((setRec (setRec s p 16 8 0) p 28 4 0).modPhase p (fun x => { x with
      window := false, ran := 0, ranFrom := none })))

/-- R230: the effect of the re-arm command. -/
def rearmCommandEff (p : Nat) : WEff := fun _ _ s =>
  if (phaseState s p = 6 ∨ phaseState s p = 7) ∧ rearmReady s p = true then
    acc (settleAll (resumePhase (clearPhaseRecord s p) p))
  else rej .state s

/-- REARM_COMMAND: a write of 2300h + p:16h. -/
def execRearmCommand (p : Fin 48) (w : Wr) (s : State) : Out :=
  .next (accessWrite s w false (phaseIdx p) 0x16 (rearmCommandEff p))

/-! ### Mode and other writes -/

/-- R218, R234, R238, R243: the phase leaves disabled for idle or manual. -/
def leaveDisabled (s : State) (p mode : Nat) : State :=
  let s1 := (s.putN (phaseIdx p) 1 mode).modPhase p (fun x => { x with off := false })
  let s2 := if mode = 1 then enterPhase s1 p 1 else manualCommands (enterPhase s1 p 8) p (s.nat (phaseIdx p) 0x1C)
  idleCheck (latchIfLow s2 p) p

/-- R234, R238, R242, R243: the effect of a write of the mode. -/
def phaseModeEff (p : Nat) : WEff := fun w _ s =>
  match w.value.toNat with
  | 0 => acc (settleAll (disablePhase s p))
  | m =>
    if phaseState s p ≠ 0 ∨ s.phaseAdmitted p = false ∨ (m = 2 ∧ (memberOf s p).isSome) then rej .state s
    else acc (settleAll (leaveDisabled s p m))

/-- PHASE_MODE_WRITE: a write of 2300h + p:01h. -/
def execPhaseModeWrite (p : Fin 48) (w : Wr) (s : State) : Out :=
  .next (accessWrite s w false (phaseIdx p) 1 (phaseModeEff p))

/-- R234: the effect of a write of the manual commands. -/
def manualEff (p : Nat) : WEff := fun w _ s =>
  if w.value.toNat % 4 = 3 then rej .range s
  else
    let s1 := s.store (phaseIdx p) 0x1C w.value
    acc (if phaseState s p = 8 then manualCommands s1 p (w.value.toNat % 4) else s1)

/-- MANUAL_COMMANDS_WRITE: a write of 2300h + p:1Ch. -/
def execManualCommandsWrite (p : Fin 48) (w : Wr) (s : State) : Out :=
  .next (accessWrite s w false (phaseIdx p) 0x1C (manualEff p))

/-- R215, R239, R240: the effect of a write of a phase's other objects; trip limits and guard act from the next cycle. -/
def phasePlainEff (p j : Nat) : WEff := fun w a s =>
  let i := phaseIdx p
  if 2 ≤ j ∧ j ≤ 6 ∧ phaseState s p ≠ 0 then rej .state s
  else if j = 0x0B ∧ s.nat i 0x0C < w.value.toNat then rej .state s
  else if j = 0x0C ∧ w.value.toNat < s.nat i 0x0B then rej .state s
  else
    let (r, s1) := plainWrite i j w a s
    if j = 0x11 then (r, s1.modPhase p (fun x => { x with guardWas := some (x.guardWas.getD (s.flag i 0x11 0)) }))
    else if j = 0x26 then (r, pilotLimit s1 p)
    else (r, s1)

end Sys2Proof.Machine
end

