-- ==== Sys2Proof/Machine/Rails.lean ====
section
/-! DEFINITION. The rows of the rails and the feed-forward tables (R249 to R300). -/
namespace Sys2Proof.Machine

/-- R254, R257, R258, R706: the effect of a write of a rail's mode. -/
def railModeEff (r : Nat) : WEff := fun w _ s =>
  let st := railStatus s r
  match w.value.toNat with
  | 0 => acc (settleAll (stopRail s r))
  | 1 =>
    if inHarbour s then rej .state s
    else if st = 0 then
      match tryStart s r with
      | (true, t) => acc (settleAll t)
      | (false, t) => rej .state t
    else if st = 2 then
      acc (settleAll (((s.putN (railIdx r) 9 1).putN (railIdx r) 1 1).modRail r (fun x => { x with
        shedHeld := {}, recallHeld := {} })))
    else acc s
  | _ =>
    if inHarbour s ∨ st = 0 then rej .state s
    else acc (settleAll (windRail s r))

/-- RAIL_START: a write of 1h to the mode of rail r. -/
def execRailStart (r : Fin 12) (w : Wr) (s : State) : Out :=
  .next (accessWrite s w false (railIdx r) 1 (railModeEff r))

/-- RAIL_STOP: a write of 0h to the mode of rail r. -/
def execRailStop (r : Fin 12) (w : Wr) (s : State) : Out :=
  .next (accessWrite s w false (railIdx r) 1 (railModeEff r))

/-- RAIL_WIND_DOWN: a write of 2h to the mode of rail r. -/
def execRailWindDown (r : Fin 12) (w : Wr) (s : State) : Out :=
  .next (accessWrite s w false (railIdx r) 1 (railModeEff r))

/-- R261: the effect of the commit, in the next cycle. -/
def commitEff (r : Nat) : WEff := fun _ _ s => acc (s.modRail r (fun x => { x with commit := true }))

/-- DEMAND_COMMIT: a write of 1h to 3h:04h of rail r. -/
def execDemandCommit (r : Fin 12) (w : Wr) (s : State) : Out :=
  .next (accessWrite s w false (railIdx r + 3) 4 (commitEff r))

/-- R262: the effect of the apply command, in the next cycle. -/
def applyEff (r : Nat) : WEff := fun _ _ s => acc (s.modRail r (fun x => { x with applyNext := true }))

/-- APPLY_COMMAND: a write of 1h to 0h:0Bh of rail r. -/
def execApplyCommand (r : Fin 12) (w : Wr) (s : State) : Out :=
  .next (accessWrite s w false (railIdx r) 0x0B (applyEff r))

/-- BAND_APPLY, R146, R262: a fired mark applies the pending set of each named rail, once each. -/
def execBandApply (s : State) : Out :=
  onActions s 3 fun l s => settleAll ((bitsSet 12 (targetMask l)).foldl applyDemand s)

/-! ### Tables -/

/-- R146, R271: the angle that a sample of table f uses. Where marks of one cycle on different wheels name the same table,
the model's choice is the angle of the lowest mark. -/
def sampleAngle (l : List MarkAct) (f : Nat) : Word :=
  match l.foldl (fun best a =>
      if a.target.getLsbD f then
        match best with
        | some (b : MarkAct) => if a.mark < b.mark then some a else some b
        | none => some a
      else best) none with
  | some a => a.angle
  | none => 0

/-- TABLE_SAMPLE, R271 to R273: each named table delivers to its bindings. -/
def execTableSample (s : State) : Out :=
  onActions s 4 fun l s =>
    settleAll ((bitsSet 8 (targetMask l)).foldl (fun s f => sampleTable s f (sampleAngle l f)) s)

/-- R273: the effect of the swap request. -/
def swapEff (f : Nat) : WEff := fun _ _ s =>
  if s.flag (tableIdx f) 5 0 then acc s
  else
    let s1 := s.putN (tableIdx f) 5 1
    acc (if s.flag (tableIdx f) 1 0 then s1 else swapBank s1 f)

/-- SWAP_REQUEST: a write of 2508h + f × 10h:03h. -/
def execSwapRequest (f : Fin 8) (w : Wr) (s : State) : Out :=
  .next (accessWrite s w false (tableIdx f) 3 (swapEff f))

/-- R274: the effect of a write of a bank word. -/
def bankEff (f b i j : Nat) : WEff := fun w a s =>
  let refused := s.flag (tableIdx f) 5 0 || (s.flag (tableIdx f) 1 0 && s.nat (tableIdx f) 2 == b)
  if refused then rej .state (s.bump (tableIdx f) 9 16) else plainWrite i j w a s

/-- TABLE_BANK_WRITE: a write of word e of bank b of table f (R299). -/
def execTableBankWrite (f : Fin 8) (b : Fin 2) (e : Fin 512) (w : Wr) (s : State) : Out :=
  let i := 0x2500 + 16 * f.val + 4 * b.val + e.val / 128
  let j := 1 + e.val % 128
  .next (accessWrite s w false i j (bankEff f b i j))

/-- R273: the effect of a write of a table's other objects; a pending swap acts once the enable is 0. -/
def tablePlainEff (f j : Nat) : WEff := fun w a s =>
  let (r, s1) := plainWrite (tableIdx f) j w a s
  (r, if j = 1 ∧ w.value = 0 ∧ s1.flag (tableIdx f) 5 0 then swapBank s1 f else s1)

/-! ### Units -/

/-- RAMP_TICK, R279, R285: the weight of unit u moves one step, or to its end with a ramp time of 0. -/
def execRampTick (r : Fin 12) (u : Fin 16) (s : State) : Out :=
  match (s.rail r).ramps.getD u none with
  | none => .next s
  | some (due, jump) =>
    let st := unitState s r u
    let w := weightOf s r (u * railGroups s r)
    let goal := if st = 3 then 0 else 256
    let w' := if jump then goal else if st = 3 then w - 1 else w + 1
    let s1 := (setUnitWeight s r u w').modRail r (fun x => { x with
      moved := modAt x.moved u (fun _ => s.t + 1),
      ramps := modAt x.ramps u (fun _ => if w' = goal then none else nextRamp s r st due) })
    when (s.on 5 && railStatus s r != 0 && (st == 1 || st == 3) && mayMove s r u && decide (due ≤ s.t)) s (settleAll s1)

/-- UNIT_SHED, R281: a tapered unit whose members are all parked, idle, blind, tripped or locked out. -/
def execUnitShed (r : Fin 12) (u : Fin 16) (s : State) : Out :=
  let quiet := (unitMembers s r u).all (fun i =>
    let st := phaseState s (memberPhase s r i)
    st == 4 || st == 1 || st == 5 || st == 6 || st == 7)
  when (s.on 5 && railStatus s r != 0 && unitState s r u == 3 && (s.rail r).parks.getD u false && mayMove s r u &&
      quiet) s
    (settleAll (railFlag (enterUnit (s.bump (railIdx r + 4) 0x16 32) r u 0) r 2))

/-- SHED_DECISION, R283: a shed condition has held for its delay, and the highest ACTIVE unit tapers. -/
def execShedDecision (r : Fin 12) (s : State) : Out :=
  let delay := if s.nat (railIdx r + 4) 1 = 1 then cyclesUs (s.nat (railIdx r + 4) 8) else 0
  match (unitsIn s r 2).getLast? with
  | none => .next s
  | some u =>
    when (s.on 5 && slowReady s r && decide (dwellEnd s r ≤ s.t) && shedWanted s r && mayMove s r u &&
        decide (delay ≤ (s.rail r).shedHeld.held s.t)) s
      (settleAll ((enterUnit s r u 3).modRail r (fun x => { x with shedHeld := {} })))

/-- RECALL_DECISION, R283: a recall condition has held for its delay, and the lowest available unit in SHED is recalled;
in shed mode 0h every available unit in SHED or TAPER. -/
def execRecallDecision (r : Fin 12) (s : State) : Out :=
  if s.nat (railIdx r + 4) 1 = 0 then
    let us := (unitsIn s r 0 ++ unitsIn s r 3).filter (fun u => unitAvail s r u && mayMove s r u)
    when (s.on 5 && railStatus s r == 1 && !us.isEmpty) s (settleAll (us.foldl (fun s u => recallUnit s r u) s))
  else
    let delay := if s.nat (railIdx r + 4) 1 = 1 then cyclesUs (s.nat (railIdx r + 4) 9) else 0
    match (shedAvailable s r).head? with
    | none => .next s
    | some u =>
      when (s.on 5 && slowReady s r && decide (dwellEnd s r ≤ s.t) && recallWanted s r && mayMove s r u &&
          decide (delay ≤ (s.rail r).recallHeld.held s.t)) s
        (settleAll ((recallUnit s r u).modRail r (fun x => { x with recallHeld := {} })))

/-! ### Other writes -/

/-- R253, R286, R287: the effect of a write of a rail's other objects; k is the object's place after B. -/
def railPlainEff (r k j : Nat) : WEff := fun w a s =>
  let b := railIdx r
  let running := railStatus s r ≠ 0
  let v := w.value.toNat
  let fixed := (k = 0 ∧ 2 ≤ j ∧ j ≤ 8) ∨ (k = 1 ∧ j ≤ 0x12) ∨
    (k = 5 ∧ j ≤ 0x18 ∧ ((j - 1) % 6 = 0 ∨ (j - 1) % 6 = 1))
  if fixed ∧ running then rej .state s
  else if k = 4 ∧ j = 5 ∧ s.nat (b + 4) 6 ≤ v then rej .state s
  else if k = 4 ∧ j = 6 ∧ v ≤ s.nat (b + 4) 5 then rej .state s
  else
    let (res, s1) := plainWrite (b + k) j w a s
    if k = 0 ∧ j = 2 then
      (res, (s1.putN b 5 (if v = 5 then 60 else 61)).putN b 6 (if v = 5 then 61 else 48 + r))
    else if k = 3 ∨ k = 5 then (res, s1)
    else (res, settleAll s1)

end Sys2Proof.Machine
end

