-- ==== Sys2Proof/Machine/Supervision.lean ====
section
/-! DEFINITION. The rows of the rail supervision (R301 to R348): classification, verdicts, the voltage watch, takeover
and release. -/
namespace Sys2Proof.Machine

/-! ### Classification -/

/-- R304: the predicted change of a measurement. -/
def predicted (s : State) (m : Measure) : Int := tdiv (m.vl * s.nat (svIdx m.rail) 2 * m.wn) 1099511627776

/-- R302, R306: whether a measurement is skipped. -/
def skipped (s : State) (m : Measure) : Bool :=
  let sv := svIdx m.rail
  let dp := predicted s m
  s.nat sv 2 == 0 || decide (m.wn < max 1 (s.nat sv 4 : Int)) || !m.valid || dp == 0 ||
    (if m.rising then decide (dp < 0) else decide (0 < dp)) || decide (absI dp < s.nat sv 5)

/-- R307: the class of a measurement that is not skipped. -/
def classOf (s : State) (m : Measure) : Nat :=
  let sv := svIdx m.rail
  let dx := m.xb - m.xa
  let dp := predicted s m
  let P := absI dp
  let D := absI dx
  let flat := floorDiv (s.nat sv 8 * P) 256
  let tol := floorDiv (s.nat sv 6 * P) 256 + s.nat sv 7
  let o := chanOffset s (phaseChan s (memberPhase s m.rail m.member))
  if dx ≠ 0 ∧ signI dx ≠ signI dp ∧ flat < D then 6
  else if D ≤ flat then (if absI (m.xb - o) ≤ s.nat sv 9 then 4 else 5)
  else if P + tol < D then 3
  else if D < P - tol then 2
  else 1

/-- A score of member i (R346): lo is 0 for open, 8 for sense, 16 for steep. -/
def score (s : State) (r i lo : Nat) : Nat := fieldN (s.nat (svIdx r + 3) (1 + i)) lo 8

/-- A score set. -/
def setScore (s : State) (r i lo v : Nat) : State :=
  s.putN (svIdx r + 3) (1 + i) (setFieldN (s.nat (svIdx r + 3) (1 + i)) lo 8 v)

/-- R308, R309: the scores after a class. -/
def applyClass (s : State) (m : Measure) (c : Nat) : State :=
  let r := m.rail
  let i := m.member
  let up (lo : Nat) (flat : Bool) : State :=
    setScore s r i lo (if flat && m.forced then s.nat (svIdx r) 0x0A else satN 8 (score s r i lo + 1))
  match c with
  | 4 => up 0 true
  | 5 => up 8 true
  | 6 => up 8 false
  | 3 => if m.rising then up 16 false else s
  | 1 => [0, 8, 16].foldl (fun s lo => setScore s r i lo (score s r i lo - 1)) s
  | _ => s

/-- STEEP_VERDICT, R315: the saturation cap of the member's group. -/
def steepVerdict (s : State) (r i : Nat) : State :=
  let h := groupOf s r i
  let cap := (s.int (railIdx r + 3) (8 + h)).natAbs * s.nat (svIdx r + 1) 0x0C / 256
  let s1 := s.putN (svIdx r + 2) (4 + h) (min (s.nat (svIdx r + 2) (4 + h)) cap)
  ((setScore s1 r i 16 0).setBits (svIdx r + 2) 0x0D 4).report (24 + r) .ce i

/-- MEMBER_VERDICT, R311, R312, R337: the verdicts of the scores that have reached the limit, at a change of score. -/
def verdictsDue (s : State) (r i : Nat) : State :=
  let lim := s.nat (svIdx r) 0x0A
  let steep := decide (lim ≤ score s r i 16)
  let s1 := if lim ≤ score s r i 0 then noteVerdict s r i 1 (s.t + 1)
    else if lim ≤ score s r i 8 then noteVerdict s r i 2 (s.t + 1) else s
  if steep then steepVerdict s1 r i else s1

/-- R343: member i's latest measurement, which the trace shows. -/
def traceMeasure (s : State) (m : Measure) (c : Nat) : State :=
  s.modRail m.rail (fun x => { x with members := modAt x.members m.member (fun y => { y with
    dx := clamp32 (m.xb - m.xa), dp := clamp32 (predicted s m), wn := (clampI m.wn 0 4294967295).toNat, cls := c }) })

/-- R306 to R315: one measurement classified. -/
def classify (s : State) (m : Measure) : State :=
  let sv2 := svIdx m.rail + 2
  if skipped s m then traceMeasure (s.bump sv2 0x0F 32) m 7
  else
    let c := classOf s m
    let s1 := traceMeasure (s.bump sv2 0x0E 32) m c
    let s2 := if c = 2 then s1.bump sv2 0x11 16 else if c = 1 then s1 else s1.bump sv2 0x10 16
    let s3 := applyClass s2 m c
    let scored := c == 4 || c == 5 || c == 6 || (c == 3 && m.rising)
    if scored = false ∧ s3.obj (svIdx m.rail + 3) (1 + m.member) = s2.obj (svIdx m.rail + 3) (1 + m.member) then s3
    else verdictsDue s3 m.rail m.member

/-- SUPERVISION_CLASSIFY, R311: two cycles after its end, the oldest measurement of member i is classified. -/
def execSupervisionClassify (r : Fin 12) (i : Fin 16) (s : State) : Out :=
  match s.measures.find? (fun m => m.rail == r.val && m.member == i.val && decide (m.d + 2 ≤ s.t)) with
  | some m => .next (settleAll (classify { s with measures := s.measures.erase m } m))
  | none => .next s

/-! ### Timers -/

/-- BLIND_GRACE_EXPIRY, R313, R314: a member's phase has been blind for the blind grace. -/
def execBlindGraceExpiry (r : Fin 12) (i : Fin 16) (s : State) : Out :=
  let m := (s.rail r).members.getD i {}
  match m.blindFrom with
  | some f =>
    when (s.on 5 && !m.blindDone && decide (i.val < memberCount s r) &&
        decide (f + cyclesUs (s.nat (svIdx r) 0x0B) ≤ s.t)) s
      (noteVerdict (s.modRail r (fun x => { x with
        members := modAt x.members i (fun m => { m with blindDone := true }) })) r i 3 (s.t + 1))
  | none => .next s

/-- VOLTAGE_CHANNEL_LOST, R322: a watched channel has been without a valid result for the blind grace. -/
def execVoltageChannelLost (r : Fin 12) (c : Fin 64) (s : State) : Out :=
  match (s.rail r).lost.find? (fun e => e.1 == c.val) with
  | some (_, f, false) =>
    when (s.on 5 && watchRuns s r && decide (f + cyclesUs (s.nat (svIdx r) 0x0B) ≤ s.t)) s
      (settleAll (qualify (s.modRail r (fun x => { x with
        lost := x.lost.map (fun e => if e.1 = c.val then (e.1, e.2.1, true) else e) })) r [6]))
  | _ => .next s

/-- REGULATION_TIMEOUT, R323: the output has lain outside its window for the timeout. -/
def execRegulationTimeout (r : Fin 12) (s : State) : Out :=
  when (s.on 5 && regOutside s r && railStatus s r == 1 && !(s.rail r).regDone &&
      decide (cyclesMs (s.nat (svIdx r + 1) 8) ≤ (s.rail r).reg.held s.t)) s
    (settleAll (qualify (s.modRail r (fun x => { x with regDone := true })) r [5]))

/-- RAIL_TAKEOVER, R329: the episode time has reached the rail timeout. -/
def execRailTakeover (r : Fin 12) (i : Fin 16) (s : State) : Out :=
  when (s.on 5 && takeoverDue s r i) s
    (settleAll (takeOwner ((noteVerdict s r i 4 (s.t + 1)).bump (svIdx r + 2) 0x13 16) (memberPhase s r i)))

/-- R321, R326: the tests of one fast result of channel c on rail r: the causes that qualify. -/
def watchResult (s : State) (r c : Nat) : State :=
  if watchRuns s r = false then s
  else
    let x := fastResult s c
    let v := fastValid s c
    let b := svIdx r + 1
    let tests : List (Nat × Bool) :=
      (if s.nat (railIdx r) 5 = c then [(1, decide (s.int b 1 ≤ x)), (2, decide (x ≤ s.int b 2))] else []) ++
      (if (watchOutputs s r).contains c then [(3, decide (s.int b 3 ≤ x)), (4, decide (x ≤ s.int b 4))] else [])
    let q := s.nat b 5
    let run (cause : Nat) (met : Bool) : WatchRun :=
      let old := ((s.rail r).watch.find? (fun e => e.cause == cause && e.chan == c)).getD { cause := cause, chan := c }
      if met && v then { old with run := old.run + 1, done := old.done || decide (q ≤ old.run + 1) }
      else { old with run := 0, done := false }
    let was (cause : Nat) : Bool :=
      match (s.rail r).watch.find? (fun e => e.cause == cause && e.chan == c) with
      | some e => e.done
      | none => false
    let new := tests.map (fun t => run t.1 t.2)
    let causes := (new.filter (fun e => e.done && !was e.cause)).map (·.cause)
    qualify (s.modRail r (fun x => { x with
      watch := x.watch.filter (fun e => !(e.chan == c && tests.any (fun t => t.1 == e.cause))) ++ new })) r causes

/-! ### Release -/

/-- R334: the release of member i. -/
def releaseMember (s : State) (r i : Nat) : State :=
  let p := memberPhase s r i
  let held := verdict s r i ≠ 0 ∨ s.flag (svIdx r + 4) 1 i = true
  let owned := i < memberCount s r ∧ (phaseState s p = 6 ∨ phaseState s p = 7) ∧ recOwner s p = 2
  let free (s : State) : State :=
    ((s.put (svIdx r + 3) (1 + i) 0).clrBits (svIdx r + 4) 1 (2 ^ i)).modRail r (fun x => { x with
      members := modAt x.members i (fun m => { m with epAcc := 0, epFrom := none }) })
  if ¬ held then s
  else if owned then
    if rearmReady s p then free (resumePhase (clearPhaseRecord s p) p) else s.bump (svIdx r + 2) 0x15 16
  else free s

/-- R334: the effect of a write of the release word. -/
def releaseEff (r : Nat) : WEff := fun w _ s =>
  acc (settleAll ((bitsSet 16 w.value.toNat).foldl (fun s i => releaseMember s r i) s))

/-- MEMBER_RELEASE: a write of SV + 4h:02h. -/
def execMemberRelease (r : Fin 12) (w : Wr) (s : State) : Out :=
  .next (accessWrite s w false (svIdx r + 4) 2 (releaseEff r))

/-- R336: the effect of the saturation release. -/
def satReleaseEff (r : Nat) : WEff := fun _ _ s =>
  acc (settleAll ((List.range 3).foldl (fun s h => s.putN (svIdx r + 2) (4 + h) 134217727) s))

/-- SATURATION_RELEASE: a write of 1h to SV + 4h:03h. -/
def execSaturationRelease (r : Fin 12) (w : Wr) (s : State) : Out :=
  .next (accessWrite s w false (svIdx r + 4) 3 (satReleaseEff r))

/-- R345: the effect of the clear of the rail fault record. -/
def clearRecordEff (r : Nat) : WEff := fun _ _ s =>
  acc ((s.put (svIdx r + 2) 0x0A 0).put (svIdx r + 2) 0x0B 0)

/-- CLEAR_RECORD: a write of 1h to SV + 2h:0Ch. -/
def execClearRecord (r : Fin 12) (w : Wr) (s : State) : Out :=
  .next (accessWrite s w false (svIdx r + 2) 0x0C (clearRecordEff r))

/-! ### Other writes -/

/-- R338: the slope model of rail r stops: no state in progress of a phase that the rail owns yields a measurement. -/
def stopSlope (s : State) (r : Nat) : State :=
  if railStatus s r = 0 then s
  else (railMembers s r).foldl (fun s p => s.modPhase p (fun x => { x with sw := none })) s

/-- R327, R337, R338, R344: the effect of a write of the supervision's other objects; k is the place after SV. -/
def svPlainEff (r k j : Nat) : WEff := fun w a s =>
  let b := svIdx r
  let acts := (List.range 7).any (fun n => fieldN w.value.toNat (2 * n) 2 == 3)
  if k = 1 ∧ j = 6 ∧ s.int (b + 1) 7 < w.value.toInt then rej .state s
  else if k = 1 ∧ j = 7 ∧ w.value.toInt < s.int (b + 1) 6 then rej .state s
  else if k = 1 ∧ j = 0x0A ∧ acts = true then rej .range s
  else
    let old := s.nat b 1
    let (res, s1) := plainWrite (b + k) j w a s
    let s2 :=
      if k = 0 ∧ j = 1 then
        let s3 := if bitN old 0 && !bitN w.value.toNat 0 then stopSlope s1 r else s1
        if bitN old 1 == bitN w.value.toNat 1 then s3 else restartWatch s3 r
      else if (k = 0 ∧ j = 0x0B) ∨ (k = 1 ∧ j ≤ 0x0A) then restartWatch s1 r
      else s1
    (res, settleAll s2)

end Sys2Proof.Machine
end

