-- ==== Sys2Proof/Machine/Deliver.lean ====
section
/-! DEFINITION. What the consumers of a sense channel do with its results (R174, R180), and the rows of the sense
channels and wheels whose effect reaches phases, rails, the charger and the gauge. -/
namespace Sys2Proof.Machine

/-- R302: a measurement whose window has opened takes the x before the present result. -/
def markWindows (s : State) (c : Nat) : State :=
  (List.range 48).foldl (fun s p =>
    let x := s.phase p
    match x.sw, x.xa with
    | some sw, none =>
      if phaseChan s p = c ∧ sw < s.t then s.modPhase p (fun y => { y with xa := some (phaseX s p) }) else s
    | _, _ => s) s

/-- R174, R216, R222, R237: every phase on channel c sees its result and its fast-valid bit. -/
def phasesWatch (s : State) (c : Nat) : State :=
  (List.range 48).foldl (fun s p => if phaseChan s p = c then phaseWatch s p else s) s

/-- R174: the fast-valid bit of channel c has changed without a result: detectors, phases and rails follow. -/
def validChanged (s : State) (c : Nat) : State :=
  settleAll (gaugeCover (phasesWatch (zeroCrossings s c (fastResult s c) (fastValid s c) (fastDelay s c)) c))

/-- R174: x reaches the wheels, the phases and the voltage watches. -/
def toConsumers (s : State) (c : Nat) : State :=
  let s2 := zeroCrossings s c (fastResult s c) (fastValid s c) (fastDelay s c)
  let s3 := (List.range 12).foldl (fun s r => watchResult s r c) (phasesWatch s2 c)
  settleAll (gaugeCover s3)

/-- R169, R171: a bit has entered or a transition was seen; consumers follow a fast-valid bit that it cleared. -/
def afterBit (s t : State) (c : Nat) : State := if fastValid s c && !fastValid t c then validChanged t c else t

/-- FAST_RESULT_DELIVERY, R72, R159, R162, R169, R174: a bit of channel c is captured in its cycle, or decoded from a
transition, and its x is evaluated; three cycles later x reaches its consumers. A pad without its supply reads 0. -/
def execFastResultDelivery (c : Fin 64) (e : SenseEvent) (s : State) : Out :=
  match e with
  | .captured bit =>
    when (senseFeeds s c && captureDue s c) s (afterBit s (senseBit s c (bit && !s.sup.vddioLow)) c)
  | .transition rising =>
    when (s.on 5 && senseMode s c == 2 && !s.sup.vddioLow) s (afterBit s (senseTransition s c rising) c)
  | .delivered =>
    match (s.chan c).flight with
    | some (due, x, sat, wide) =>
      when (s.on 5 && decide (due ≤ s.t)) s (toConsumers (deliverFast (markWindows s c) c due x sat wide) c)
    | none => .next s

/-- MANCHESTER_CODING_ERROR, R162, R167: no transition was accepted in time. -/
def execManchesterCodingError (c : Fin 64) (s : State) : Out :=
  when (senseMode s c == 2 && transitionMissed s c) s (afterBit s (codingError s c) c)

/-- STREAM_SILENCE, R166, R168: the stream has made no transition for 4 × N_m cycles, counted from no earlier than the
channel began to acquire. -/
def execStreamSilence (c : Fin 64) (s : State) : Out :=
  let last := max ((s.chan c).edge.getD 0) (s.chan c).from'
  when (senseFeeds s c && senseMode s c == 2 && decide (last + 4 * s.nat (senseIdx c) 3 ≤ s.t)) s
    (afterBit s (senseFail s c 8) c)

/-- PRECISION_RESULT, R172, R180: four cycles after a bit the precision result of a decimation bit is written, and the power
path, the source search and the gauge take it; the precision-valid bit sets with the bit that completes the filter. -/
def execPrecisionResult (c : Fin 64) (s : State) : Out :=
  match (s.chan c).prec with
  | some (at', y, valid) =>
    let s1 := s.modChan c (fun x => { x with prec := none })
    let s2 := if valid then s1.setBits (senseIdx c) 0x0F 2 else s1
    when (s.on 5 && decide (at' ≤ s.t)) s
      (match y with
        | some (y, bt) => settleAll (gaugePrecision (sagCheck (pathPrecision (writePrecision s2 c y bt) c) c) c)
        | none => s2)
  | none => .next s

/-- SENSE_MODE_WRITE, R171, R191: a write of 2200h + c:01h. -/
def senseModeAll (c : Nat) : WEff := fun w a s =>
  match senseModeEff c w a s with
  | (.accepted, s1) => acc (validChanged (gaugeRestart s1 c) c)
  | o => o

/-- SENSE_MODE_WRITE: a write of 2200h + c:01h. -/
def execSenseModeWrite (c : Fin 64) (w : Wr) (s : State) : Out :=
  .next (accessWrite s w false (senseIdx c.val) 1 (senseModeAll c.val))

/-- R170, R174: the effect of a restart on the channel and its consumers. -/
def senseRestartAll (c : Nat) : WEff := fun w a s =>
  match senseRestartEff c w a s with
  | (.accepted, s1) => acc (if senseStatus s c = 3 then validChanged (gaugeRestart s1 c) c else s1)
  | o => o

/-- SENSE_RESTART: a write of 2200h + c:0Dh. -/
def execSenseRestart (c : Fin 64) (w : Wr) (s : State) : Out :=
  .next (accessWrite s w false (senseIdx c.val) 0x0D (senseRestartAll c.val))

/-- R183: the effect of a gain commit, with the rails whose totals use the gain. -/
def gainAll (c : Nat) : WEff := fun w a s =>
  match gainEff c w a s with
  | (.accepted, s1) => acc (settleAll s1)
  | o => o

/-- GAIN_COMMIT: a write of 2200h + c:0Bh. -/
def execGainCommit (c : Fin 64) (w : Wr) (s : State) : Out :=
  .next (accessWrite s w false (senseIdx c.val) 0x0B (gainAll c.val))

/-- R103, R212: the effect of a wheel's mode, which the Pilots of its phases follow. -/
def wheelModeAll (u : Nat) : WEff := fun w a s =>
  match wheelModeEff u w a s with
  | (.accepted, s1) => acc (settleAll ((List.range 48).foldl pilotSettle s1))
  | o => o

/-- WHEEL_MODE_WRITE: a write of the mode of wheel u. -/
def execWheelModeWrite (u : Fin 8) (w : Wr) (s : State) : Out :=
  .next (accessWrite s w false (wheelIdx u.val) 1 (wheelModeAll u.val))

end Sys2Proof.Machine
end

