-- ==== Sys2Proof/Machine/Charger.lean ====
section
/-! DEFINITION. The rows of the charger, the power path, the source search, the battery switch and the button (R595 to
R627), but for storage, which acts on the sequencer. -/
namespace Sys2Proof.Machine

/-! ### Chemistry and enable -/

/-- A value in thousandths as Q16.16 (R54). -/
def milli (m : Int) : Int := roundDiv (m * 65536) 1000

/-- R597: cells, the entries 01h to 0Ch of the profile in thousandths, the absorb limit and option bit 2. -/
def chemistryRow : Nat → Option (Nat × List Int × Nat × Bool)
  | 1 => some (84, [1450, 1400, 1300, 900, 1600, 1000, -3000, 100, -20000, 45000, 0, 40000], 14400, true)
  | 2 => some (34, [3550, 3400, 3300, 2500, 3650, 2800, 0, 0, 0, 45000, 10000, 40000], 7200, false)
  | 3 => some (48, [2700, 2550, 2450, 1500, 2850, 1800, 0, 0, -30000, 55000, -10000, 45000], 7200, false)
  | _ => none

/-- R597: the entries loaded; the compensation is in µV and no Q16.16 value. -/
def loadProfile (s : State) : List Int → Nat → State
  | [], _ => s
  | v :: t, j => loadProfile (s.putI 0x2E01 j (if j = 7 then v else milli v)) t (j + 1)

/-- R597, R618: the effect of a write of the chemistry. -/
def chemistryEff : WEff := fun w _ s =>
  if s.flag 0x2E00 1 0 then rej .state s
  else
    let s1 := s.put 0x2E00 3 w.value
    match chemistryRow w.value.toNat with
    | none => acc s1
    | some (n, l, absorb, fl) =>
      acc ((((loadProfile s1 l 1).putN 0x2E00 4 n).putN 0x2E01 0x16 absorb).putBit 0x2E00 0x10 2 fl)

/-- CHEMISTRY_WRITE: a write of 2E00h:03h. -/
def execChemistryWrite (w : Wr) (s : State) : Out := .next (accessWrite s w false 0x2E00 3 chemistryEff)

/-- R619: whether an enable of the charger is refused. -/
def chargerUnready (s : State) : Bool :=
  s.nat 0x2E00 2 == 255 || s.nat 0x2E00 3 == 0 || s.nat 0x2E00 4 == 0 || decide (s.int 0x2E01 0x0E ≤ 0) ||
    decide (s.int 0x2E01 0x0F ≤ 0)

/-- R619, R620: the effect of a write of the charger enable. -/
def chargerEnableEff : WEff := fun w _ s =>
  if w.value = 0 then
    let s1 := (s.put 0x2E00 1 0).recall .chargerOn 0x2E00 1
    acc (if chargeStage s = 0 then s1 else settleAll (toStage s1 0))
  else if chargerUnready s then rej .state s
  else acc (((s.put 0x2E00 1 1).keepOld s 0x2E00 1).later .chargerOn)

/-- CHARGER_ENABLE: a write of 2E00h:01h. -/
def execChargerEnable (w : Wr) (s : State) : Out := .next (accessWrite s w false 0x2E00 1 chargerEnableEff)

/-- R604, R618: the effect of the clear. -/
def chargerClearEff : WEff := fun _ _ s => acc (s.later .clear)

/-- CHARGER_CLEAR: a write of 2E00h:07h. -/
def execChargerClear (w : Wr) (s : State) : Out := .next (accessWrite s w false 0x2E00 7 chargerClearEff)

/-! ### Stages -/

/-- Whole seconds in the present stage (R602). -/
def stageSeconds (s : State) : Nat := if chargeStage s = 0 then 0 else (s.t - s.chg.entered) / cyclesMs 1000

/-- R602 row 12, R638: absorb has ended; its taper is a full anchor for the gauge. -/
def absorbEnd (s : State) (taper : Bool) : State :=
  { s.setBits 0x2E00 0x11 1 with chg := { s.chg with full := s.chg.full || taper } }

/-- R602, rows 4 to 14, and R606: the change of stage, none when no row applies. -/
def stageRow (s : State) : Option State :=
  let st := chargeStage s
  if 3 ≤ st ∧ st ≤ 7 ∧ outsideWindow s 0 = true then some ((toStage s 8).setBits 0x2E00 0x11 8)
  else if st = 1 ∧ idleCalled s = false then some (toStage s 2)
  else if st = 2 ∧ chargeHeld s 6 = true then some (afterQualify s)
  else if st = 8 ∧ outsideWindow s 131072 = false then some (toStage s 2)
  else if st = 3 ∧ chargeHeld s 8 = true then some (toStage s 4)
  else if st = 3 ∧ s.cnat 0x2E01 0x17 ≤ stageSeconds s then some (chargeFault s 1)
  else if 3 ≤ st ∧ st ≤ 5 ∧ s.cnat 0x2E01 0x18 * 1000 ≤ s.chg.chargeMs then some (chargeFault s 2)
  else if st = 4 ∧ chargeHeld s 11 = true then some (toStage s 5)
  else if st = 5 ∧ (chargeHeld s 12 = true ∨ s.cnat 0x2E01 0x16 ≤ stageSeconds s) then
    some (absorbEnd (toStage s (if chargeOption s 2 then 6 else 7)) (chargeHeld s 12))
  else if st = 6 ∧ chargeHeld s 13 = true then some (zeroChargeTime (toStage s 4))
  else if st = 7 ∧ chargeHeld s 14 = true then some (zeroChargeTime (toStage s 4))
  else if st = 10 ∧ s.chg.sawAbsent = true ∧ batteryPresent s = true then some (toStage s 1)
  else none

/-- R602, R605, R606: the change of stage at a millisecond step, by the first row that applies. -/
def stageChange (s : State) : Option State :=
  let st := chargeStage s
  if 2 ≤ st ∧ st ≤ 8 then
    if s.chg.removal then some (gaugeRemoval (chargeAbsent s))
    else if batteryPresent s = false then some (chargeAbsent s)
    else if chargeHeld s 2 then some (setReason (chargeFault s 3) 32)
    else if idleCalled s then some (chargeIdle s)
    else stageRow s
  else stageRow s

/-- CHARGE_STAGE_CHANGE, R602: at a millisecond step the first row of the table that applies. -/
def execChargeStageChange (s : State) : Out :=
  match stageChange s with
  | some t => when (s.on 5 && s.ticked && s.chg.entered != s.t && s.cflag 0x2E00 1 0) s (settleAll t)
  | none => .next s

/-! ### Cut-back -/

/-- R607: I_sys, with whether every channel it uses is valid. -/
def systemCurrent (s : State) : Int × Bool :=
  let c := s.cnat 0x2E00 0x0C
  if c < 64 then
    match precOf s c with
    | some i => (max 0 i, true)
    | none => (0, false)
  else
    let r := s.cnat 0x2E00 2
    match iBat s with
    | some i => (max 0 (clamp32 (roundDiv (s.int (railIdx r + 3) 8 * railGain s r) 65536 - i)), true)
    | none => (0, false)

/-- R607: I_avail, with whether every channel it uses is valid. -/
def availableCurrent (s : State) : Int × Bool :=
  if s.cnat 0x2E02 2 = 255 ∨ s.cnat 0x2E03 1 = 0 then (2147483647, true)
  else
    match vIn s, vBus s with
    | some v, some b =>
      (clamp32 (floorDiv (v * s.int 0x2E03 0x0A * s.cnat 0x2E02 0x12) (256 * max b 65536)), true)
    | _, _ => (0, false)

/-- CUTBACK_EVALUATION, R607: the charge limit formed at every 200th cycle; one that uses an invalid channel is 0. -/
def execCutbackEvaluation (s : State) : Out :=
  let sys := systemCurrent s
  let av := availableCurrent s
  let need := sys.1 + batteryLimit s
  let good := sys.2 && av.2
  let lc := if good then max 0 (min need av.1) else 0
  let short := good && decide (av.1 < need)
  let s1 := (s.putI 0x2E00 0x0A (clamp32 lc)).putI 0x2E00 0x0B sys.1
  let s2 := if short && !s.chg.short then s1.setBits 0x2E00 0x11 4 else s1
  when (s.on 5 && s.cflag 0x2E00 1 0 && s.t % 200 == 0) s (settleAll { s2 with chg := { s2.chg with short := short } })

/-! ### Power path -/

/-- R608, R618, R620: the effect of a write of the power path enable. -/
def pathEnableEff : WEff := fun w _ s =>
  if w.value = 0 then
    let s1 := (pathTo (s.put 0x2E02 1 0) 0).recall .pathOn 0x2E02 1
    acc (settleAll { s1 with chg := { s1.chg with episode := none, episodeMs := episodeTime s } })
  else acc (((s.put 0x2E02 1 w.value).keepOld s 0x2E02 1).later .pathOn)

/-- POWER_PATH_ENABLE: a write of 2E02h:01h. -/
def execPowerPathEnable (w : Wr) (s : State) : Out := .next (accessWrite s w false 0x2E02 1 pathEnableEff)

/-- Whether a run that began at `f` has lasted `len` cycles. -/
def lasted (s : State) (f : Option Nat) (len : Nat) : Bool :=
  match f with
  | some x => decide (x + len ≤ s.t)
  | none => false

/-- SOURCE_PRESENT, R608: V_in has been present for the present time. -/
def execSourcePresent (s : State) : Out :=
  when (s.on 5 && pathState s == 1 && sourceHere s) s (settleAll (pathTo s 2))

/-- SOURCE_LOST, R608: V_in has been lost for the lost time. -/
def execSourceLost (s : State) : Out :=
  when (s.on 5 && decide (2 ≤ pathState s) && decide (pathState s ≤ 4) &&
      lasted s s.chg.lostSince (cyclesUs (s.cnat 0x2E02 7))) s
    (settleAll (pathLose s))

/-- RETURN_DELAY_EXPIRY, R608, R707: the return delay has passed, and the collector is not in Harbour. -/
def execReturnDelayExpiry (s : State) : Out :=
  when (s.on 5 && pathState s == 2 && decide (s.chg.pathEntered + cyclesMs (s.cnat 0x2E02 8) ≤ s.t) && !inHarbour s) s
    (settleAll (pathStart s))

/-- OUTAGE, R608, R622: the episode time has reached the outage time. -/
def execOutage (s : State) : Out :=
  let s1 := (((s.setBits 0x2E02 0x0E 2).bump 0x2E02 0x0F 16).report 74 .ce)
  when (s.on 5 && !s.chg.outage && lasted s s.chg.episode (cyclesMs (s.cnat 0x2E02 9))) s
    (settleAll { s1 with chg := { s1.chg with outage := true, chargerOutage := s.chg.chargerOutage || s.chg.idleEpisode } })

/-- R609: since when the CHG start delay runs: since the SRC rail's start, or since starting with none bound. -/
def chgDelayFrom (s : State) : Option Nat :=
  let src := s.cnat 0x2E02 2
  if src = 255 then some s.chg.pathEntered
  else if boundRuns s src then some (s.rail src).started
  else none

/-- CHG_START_DELAY_EXPIRY, R609: the CHG rail is started; a refused start counts as a stop. -/
def execChgStartDelayExpiry (s : State) : Out :=
  let r := s.cnat 0x2E00 2
  let s1 := { s with chg := { s.chg with chgStarted := true } }
  let s2 := match tryStart s1 r with
    | (true, t) => noteBound t
    | (false, t) => refusedStart t
  when (s.on 5 && pathState s == 3 && s.cflag 0x2E02 3 0 && !s.chg.chgStarted && decide (r < 12) &&
      railStatus s r == 0 && lasted s (chgDelayFrom s) (cyclesMs (s.cnat 0x2E02 0x0A))) s
    (settleAll s2)

/-! ### Source search -/

/-- SEARCH_STEP_PERIOD, R611: a step period in which the limit acted raises it. -/
def execSearchStepPeriod (s : State) : Out :=
  let l := if s.chg.limited then min (s.cint 0x2E03 2) (s.int 0x2E03 0x0A + s.cint 0x2E03 5) else s.int 0x2E03 0x0A
  let s1 := { s.putI 0x2E03 0x0A l with chg := { s.chg with periodStart := s.t, limited := false } }
  when (s.on 5 && s.nat 0x2E03 0x0B == 2 && decide (s.chg.periodStart + cyclesMs (s.cnat 0x2E03 6) ≤ s.t)) s
    (settleAll s1)

/-- SEARCH_HOLD_EXPIRY, R611: the hold time has passed without a sag. -/
def execSearchHoldExpiry (s : State) : Out :=
  when (s.on 5 && s.nat 0x2E03 0x0B == 3 && decide (s.chg.holdStart + cyclesMs (1000 * s.cnat 0x2E03 9) ≤ s.t)) s
    (settleAll { s.putN 0x2E03 0x0B 2 with chg := { s.chg with periodStart := s.t, limited := false } })

/-! ### Switch -/

/-- SWITCH_CLOSE, R614, R787: the bus matches the battery for the match time, or the dead-bus close applies. -/
def execSwitchClose (s : State) : Out :=
  let dead := s.cflag 0x2E04 5 0 && metBy (vBus s) (fun v => decide (v < s.cint 0x2E04 4))
  when (s.on 5 && s.ticked && switchState s == 1 && s.obj 0x2E04 7 == 0 && (dead || chargeHeld s 21)) s
    (settleAll (contactorOps { (s.putN 0x2E04 6 2).bump 0x2E04 0x0C 32 with aon := { s.aon with batsw := true } } 1))

/-- R613, R618: the effect of a write of the switch command. -/
def switchCommandEff : WEff := fun w _ s => acc (((s.put 0x2E04 1 w.value).keepOld s 0x2E04 1).later (.switch w.value))

/-- SWITCH_COMMAND: a write of 2E04h:01h. -/
def execSwitchCommand (w : Wr) (s : State) : Out := .next (accessWrite s w false 0x2E04 1 switchCommandEff)

/-- SHUTDOWN_OPENING, R613, R622: V_bat has been at or below the shutdown voltage for the shutdown time. -/
def execShutdownOpening (s : State) : Out :=
  when (s.on 5 && s.ticked && chargeHeld s 20 && !s.flag 0x2E04 7 3) s
    (settleAll (((setReason s 8).setBits 0x2E04 0x0B 8).report 75 .uc))

/-! ### Button -/

/-- BUTTON_SHORT_PRESS, R75, R616: a press released before 1.0 s; with D5 ON, the short-press flag. -/
def execButtonShortPress (periods : Nat) (s : State) : Out :=
  when (s.on 5 && pressSeen s periods && decide (periods < pressSeconds 1)) s (s.setBits 0x2E04 0x0B 1)

/-- BUTTON_LONG_PRESS, R75, R616: a press reaches 1.0 s: wake pending, and a D1 event. -/
def execButtonLongPress (periods : Nat) (s : State) : Out :=
  when (pressSeen s periods && decide (pressSeconds 1 ≤ periods)) s
    (({ s with aon := { s.aon with wake := true } } : State).d1Event 1)

/-- WAKE_TAKEN, R613, R616: the switch machine takes a pending wake. -/
def execWakeTaken (s : State) : Out :=
  let s1 := { s with aon := { s.aon with wake := false } }
  when (s.on 5 && s.aon.wake) s
    (if s.cflag 0x2E04 8 0 then settleAll ((s1.clrBits 0x2E04 7 6).setBits 0x2E04 0x0B 2) else s1)

/-- BUTTON_HELD_10S, R75, R616: a press reaches 10.0 s while held: reported through FS88. -/
def execButtonHeld10s (periods : Nat) (s : State) : Out :=
  when (pressSeen s periods && decide (pressSeconds 10 ≤ periods)) s (s.report 88 .uc)

/-! ### Other writes -/

/-- A word of the charger's objects that keeps what is written to it. -/
def chargeSetting (i j : Nat) : Bool :=
  match objRow i j with
  | some r => r.acc == .rw
  | none => false

/-- R611, R618, R620, R625: the effect of a write of the other objects of 2E00h to 2E04h: at the next millisecond step, but
for a write of 0 to the search's mode. -/
def chargerPlainEff (i j : Nat) : WEff := fun w a s =>
  if i = 0x2E00 ∧ (j = 2 ∨ j = 4 ∨ j = 0x0C ∨ j = 0x0D ∨ j = 0x0E) ∧ s.flag 0x2E00 1 0 = true then rej .state s
  else if i = 0x2E02 ∧ j = 2 ∧ s.flag 0x2E02 1 0 = true then rej .state s
  else if i = 0x2E02 ∧ j = 4 ∧ w.value.toInt < s.int 0x2E02 5 then rej .state s
  else if i = 0x2E02 ∧ j = 5 ∧ s.int 0x2E02 4 < w.value.toInt then rej .state s
  else
    let (res, s1) := plainWrite i j w a s
    if i = 0x2E03 ∧ j = 1 ∧ w.value = 0 then (res, settleAll (restartSearch (s1.recall .search 0x2E03 1)))
    else if chargeSetting i j = false then (res, s1)
    else
      let s2 := s1.keepOld s i j
      (res, if i = 0x2E03 ∧ (j = 1 ∨ j = 2) then s2.later .search else s2)

end Sys2Proof.Machine
end

