-- ==== Sys2Proof/Machine/Gauge.lean ====
section
/-! DEFINITION. The rows of the battery gauge (R628 to R658). -/
namespace Sys2Proof.Machine

/-- The number of the present millisecond tick. -/
def tickNo (s : State) : Nat := s.t / 200000

/-- GAUGE_WINDOW, R629: every tenth tick a window closes, and every tick in clock state 0h. -/
def execGaugeWindow (s : State) : Out :=
  let slow := clockState s == 0
  let s1 := gaugeWindow s (if slow then 5000000 else 4000000)
  when (s.on 2 && s.flag 0x2F00 1 0 && s.t % 200000 == 0 && (slow || tickNo s % 10 == 0) &&
      s.gauge.lastWindow != some s.t) s
    (s1.modGauge (fun g => { g with lastWindow := some s.t }))

/-- GAUGE_SECOND_STEP, R629, R648: every thousandth tick from the enable, and every 80th in clock state 0h. -/
def execGaugeSecondStep (s : State) : Out :=
  let n := if clockState s = 0 then 80 else 1000
  when (s.on 2 && s.flag 0x2F00 1 0 && s.t % 200000 == 0 && decide (s.gauge.enabledTick < tickNo s) &&
      (tickNo s - s.gauge.enabledTick) % n == 0 && s.gauge.lastSecond != some s.t) s
    ((gaugeSecond s).modGauge (fun g => { g with lastSecond := some s.t }))

/-- R647: what an enable finds missing. -/
def gaugeFallback (s : State) : State :=
  let s1 := if gaugeFcc s = 0 then
      let f := s.int64 0x2F01 1
      (s.putInt64 0x2F00 5 f).modGauge (fun g => { g with rc := tdiv f 2 * chargeUnit, err := f * chargeUnit })
    else s
  if gaugeR s1 = 0 then s1.put 0x2F02 1 (s1.obj 0x2F01 3) else s1

/-- R634, R647, R649: the effect of a write of the gauge enable. -/
def gaugeEnableEff : WEff := fun w _ s =>
  let s1 := s.put 0x2F00 1 w.value
  if w.value = 0 then acc (showGauge (setPending (gaugeCover s1) 3 false))
  else if s.flag 0x2F00 1 0 then acc s1
  else acc (showGauge ((gaugeFallback s1).modGauge (fun g => { g with
    enabledTick := tickNo s, lastWrite := s.real, prev := none, wCharge := 0, wVolt := 0, wCount := 0,
    wOk := gaugeCovered s1, prevWin := none, secI := 0, secV := 0, secFull := 0, secAll := 0, wins := [], quiet := 0 })))

/-- GAUGE_ENABLE: a write of 2F00h:01h. -/
def execGaugeEnable (w : Wr) (s : State) : Out := .next (accessWrite s w false 0x2F00 1 gaugeEnableEff)

/-- R646, R649: the effect of the write command; a gauge that is disabled starts no write. -/
def gaugeWriteEff : WEff := fun _ _ s => acc (if s.flag 0x2F00 1 0 then requestRecord s 3 else s)

/-- GAUGE_WRITE_COMMAND: a write of 1h to 2F09h:02h. -/
def execGaugeWriteCommand (w : Wr) (s : State) : Out := .next (accessWrite s w false 0x2F09 2 gaugeWriteEff)

/-- R47, R648, R651, R652: the effect of a committed pair of the gauge: RC at once, with the charge of an integration of the
same cycle; FCC at the next second step; or the design capacity. -/
def gaugePairEff (i j : Nat) : DWord → WEff := fun v w a s =>
  if i = 0x2F00 ∧ j = 3 then
    let s1 := s.modGauge (fun g => { g with rc := clampI v.toInt 0 (gaugeFcc s) * chargeUnit })
    acc (showGauge (match s.gauge.lastAdded with
      | some (f, d) => if f = s.t then addRc s1 d else s1
      | none => s1))
  else if i = 0x2F00 ∧ j = 5 then
    if v.toInt < 0 ∨ 1099511627776 < v.toInt then rej .range s
    else acc (s.modGauge (fun g => { g with fcc := some v }))
  else if v.toInt < 0 then rej .range s
  else plainPair i j v w a s

/-- R652, R654: the effect of a write of the gauge's other objects. -/
def gaugePlainEff (i j : Nat) : WEff := fun w a s =>
  if i = 0x2F01 ∧ j = 0x0B ∧ s.int 0x2F01 0x0C ≤ w.value.toInt then rej .state s
  else if i = 0x2F01 ∧ j = 0x0C ∧ w.value.toInt ≤ s.int 0x2F01 0x0B then rej .state s
  else if i = 0x2F01 ∧ j = 0x15 ∧ w.value.toNat ≤ s.nat 0x2F01 0x16 then rej .state s
  else if i = 0x2F01 ∧ j = 0x16 ∧ s.nat 0x2F01 0x15 ≤ w.value.toNat then rej .state s
  else
    let (res, s1) := plainWrite i j w a s
    (res, if i = 0x2F04 ∧ j ≤ 0x10 then gaugePresence s1 else s1)

end Sys2Proof.Machine
end

