-- ==== Sys2Proof/Machine/Housekeeping.lean ====
section
/-! DEFINITION. The housekeeping converters, the GPIO pins and the tachometers (R535 to R554). -/
namespace Sys2Proof.Machine

/-- The object of converter k (R551). -/
def hkaIdx (k : Nat) : Nat := 0x2C00 + k

/-- Converter k beyond its objects. -/
def State.conv (s : State) (k : Nat) : Converter := s.hka.getD k {}

/-- Converter k changed. -/
def State.modConv (s : State) (k : Nat) (f : Converter → Converter) : State := { s with hka := modAt s.hka k f }

/-- Fabric cycles in a converter clock of 25 ns (R535). -/
def convClock : Nat := 5

/-- Whether converter k is enabled and not stopping. -/
def convRuns (s : State) (k : Nat) : Bool := s.on 6 && s.flag (hkaIdx k) 1 0 && !(s.conv k).stop

/-- Whether input i of converter k is converted with input i + 1 (R538). -/
def isPair (s : State) (k i : Nat) : Bool := i % 2 == 0 && s.flag (hkaIdx k) 5 i

/-- R538: the inputs a scan converts, in order. -/
def scanList (s : State) (k : Nat) : List Nat :=
  (List.range 16).filter (fun i => s.flag (hkaIdx k) 4 i && !(i % 2 == 1 && isPair s k (i - 1) && s.flag (hkaIdx k) 4 (i - 1)))

/-- The option word of input i (R552). -/
def inputOption (s : State) (k i : Nat) : Nat := s.nat (0x2C10 + k) (1 + i)

/-- R546: whether input i's open-wire source is enabled. -/
def sourceOn (s : State) (k i : Nat) : Bool := fieldN (inputOption s k i) 2 2 != 0

/-- R540, R548: a trigger that starts nothing. -/
def triggerMissed (s : State) (k : Nat) : State := s.bump (hkaIdx k) 0x0F 16

/-- R40, R539, R540, R548: converter k receives a trigger from the source of `bit`. -/
def trigger (s : State) (k bit : Nat) : State :=
  if (convRuns s k || (s.conv k).stop) = false ∨ s.flag (hkaIdx k) 2 bit = false ∨ (s.conv k).lastTrig = some s.t then s
  else
    let s1 := s.modConv k (fun c => { c with lastTrig := some s.t })
    if clockState s = 0 ∨ (s.conv k).trig.isSome = true ∨ (s.conv k).scanning = true ∨ (s.conv k).stop = true ∨
        scanList s k = [] then triggerMissed s1 k
    else s1.modConv k (fun c => { c with trig := some s.ct })

/-- R539: the effect of the software trigger. -/
def softTriggerEff (k : Nat) : WEff := fun _ _ s => acc (trigger s k 0)

/-- SOFTWARE_TRIGGER: a write of 1h to 2C00h + k:08h. -/
def execSoftwareTrigger (k : Fin 4) (w : Wr) (s : State) : Out :=
  .next (accessWrite s w false (hkaIdx k.val) 8 (softTriggerEff k.val))

/-- CONVERTER_TIMER, R539: the timer period has passed. -/
def execConverterTimer (k : Fin 4) (s : State) : Out :=
  let s1 := s.modConv k (fun c => { c with timer := c.timer + convClock * s.nat (hkaIdx k) 3 })
  when (convRuns s k && clockState s != 0 && decide ((s.conv k).timer ≤ s.ct)) s (trigger s1 k 1)

/-- CONVERTER_TRIGGER, R143, R539: a fired mark triggers each converter named. -/
def execConverterTrigger (s : State) : Out :=
  onActions s 1 fun l s => (bitsSet 4 (targetMask l)).foldl (fun s k => trigger s k 2) s

/-- R547: the settings that a scan of converter k takes as it starts. -/
def scanSettings (s : State) (k : Nat) : ScanSettings :=
  { task := s.nat (hkaIdx k) 0x0A, role := s.nat (hkaIdx k) 0x0C, high := s.int (hkaIdx k) 0x12,
    low := s.int (hkaIdx k) 0x13, options := (List.range 16).map (inputOption s k) }

/-- SCAN_START, R540, R546: the trigger delay has ended and the first sampling begins. -/
def execScanStart (k : Fin 4) (s : State) : Out :=
  let i := hkaIdx k
  let C := s.nat i 0x11
  let n := (s.conv k).scans + 1
  let check := C != 0 && n % C == 0
  let l := if check then (scanList s k).filter (sourceOn s k) else scanList s k
  match (s.conv k).trig with
  | some f =>
    when (convRuns s k && clockState s != 0 && decide (f + convClock * (1 + s.nat i 9) ≤ s.ct)) s
      (s.modConv k (fun c => { c with
        trig := none, scanning := !l.isEmpty, todo := l, check := check, conv := s.ct, scans := n, set := scanSettings s k }))
  | none => .next s

/-- R545: the source that is connected to input i of converter k in the present cycle, as its current code of R552 and
whether it pulls up. -/
def sourceConnected (s : State) (k i : Nat) : Option (Nat × Bool) :=
  let c := s.conv k
  let o := c.set.options.getD i 0
  if s.on 6 && clockState s != 0 && c.scanning && c.check && c.todo.head? == some i &&
      decide (s.ct < c.conv + convClock * s.nat (hkaIdx k) 6) then some (fieldN o 2 2, bitN o 1)
  else none

/-- R536: the code of a conversion of input voltages in µV. -/
def convCode (pair : Bool) (v w : Int) : Int :=
  if pair then clampI (floorDiv ((v - w) * 2048) 3000000) (-2048) 2047
  else clampI (floorDiv (v * 4096) 3000000) 0 4095

/-- R537: VALUE of a code. -/
def convValue (s : State) (k : Nat) (code : Int) : BitVec 16 :=
  BitVec.ofInt 16 (if s.nat (hkaIdx k) 7 = 1 then code * 16 else code)

/-- R541: the layout of a result without NEW and OVR. -/
def resultWord (k i : Nat) (last pair : Bool) (v : BitVec 16) : Nat :=
  k * 268435456 + i * 16777216 + (if last then 8388608 else 0) + (if pair then 4194304 else 0) + v.toNat

/-- R543, R544: a result goes to the result register, as the cycle ends, or to the router task's queue. -/
def routeResult (s : State) (k word sampled : Nat) : State :=
  let x := (s.conv k).set
  if x.task = 255 then s.modConv k (fun c => { c with coming := some word })
  else
    match postToRole s (1 + k) x.task x.role (dw (BitVec.ofNat 32 word) (BitVec.ofNat 32 sampled)) with
    | some s1 => s1
    | none => s.bump (hkaIdx k) 0x10 16

/-- R543: the result register of converter k takes a result; one that has not been read is overwritten. -/
def resultLands (s : State) (k : Nat) : State :=
  match (s.conv k).coming with
  | none => s
  | some word =>
    let i := hkaIdx k
    let s1 := s.modConv k (fun c => { c with coming := none })
    if s.flag i 0x0B 31 then
      (((s1.putN i 0x0B (word + 2147483648 + 1073741824)).bump i 0x0E 16).setBits i 0x15 2).report (66 + k) .ce
    else s1.putN i 0x0B (word + 2147483648)

/-- R543: the results of the cycle that ends reach the result registers. A read in that cycle has taken the old word. -/
def resultsLand (s : State) : State := (List.range 4).foldl resultLands s

/-- OPEN_WIRE_CHECK, R546: a check result of input i. -/
def openCheck (s : State) (k i : Nat) (code : Int) : State :=
  let o := hkaIdx k
  let x := (s.conv k).set
  let up := bitN (x.options.getD i 0) 1
  let met := if up then decide (x.high ≤ code) else decide (code ≤ x.low)
  if met then ((s.setBits o 0x14 (2 ^ i)).setBits o 0x15 4).report (66 + k) .uc else s.clrBits o 0x14 (2 ^ i)

/-- R539, R546: converter k starts. -/
def startConv (s : State) (k : Nat) : State :=
  s.modConv k (fun c => { coming := c.coming, timer := s.ct + convClock * s.nat (hkaIdx k) 3 })

/-- R39, R42: converter k has stopped; an enable written meanwhile takes effect. -/
def convStopped (s : State) (k : Nat) : State :=
  if (s.conv k).stop = true ∧ (s.conv k).scanning = false then
    let s1 := s.modConv k (fun c => { c with stop := false })
    if s.flag (hkaIdx k) 1 0 then startConv s1 k else s1
  else s

/-- R540, R548: the next sampling begins, or the scan ends. -/
def scanNext (s : State) (k : Nat) (rest : List Nat) : State :=
  if rest = [] ∨ (s.conv k).stop = true then
    convStopped ((if rest = [] then s.setBits (hkaIdx k) 0x15 1 else s).modConv k
      (fun c => { c with scanning := false, todo := [] })) k
  else s.modConv k (fun c => { c with todo := rest, conv := c.conv + convClock * (s.nat (hkaIdx k) 6 + 14) })

/-- CONVERSION_RESULT, R541 to R546: a conversion of the voltages `v` and `w`, in µV, of its input and the next input
ends. -/
def execConversionResult (k : Fin 4) (v w : Int) (s : State) : Out :=
  let c := s.conv k
  match c.todo with
  | [] => .next s
  | i :: rest =>
    let pair := isPair s k i
    let code := convCode pair v w
    let value := convValue s k code
    let S := s.nat (hkaIdx k) 6
    let s1 := if c.check then openCheck s k i code
      else routeResult (s.putN (0x2C10 + k.val) (0x11 + i) value.toNat) k
        (resultWord k i (rest == []) pair value) (s.t - s.ct + c.conv + convClock * S)
    when (s.on 6 && c.scanning && clockState s != 0 && decide (c.conv + convClock * (S + 15) ≤ s.ct)) s
      (gaugePresence (scanNext s1 k rest))

/-- R548: one scan of converter k is aborted. -/
def scanAborted (s : State) (k : Nat) : State := s.bump (hkaIdx k) 0x0D 16

/-- R40, R548: converter k is disabled: a trigger in its delay and the rest of a scan are discarded and counted; the
conversion in flight goes on. A converter that stops already goes on stopping. -/
def convDisable (s : State) (k : Nat) : State :=
  let c := s.conv k
  let s1 := s.putN (hkaIdx k) 1 0
  if s.flag (hkaIdx k) 1 0 = false ∨ c.stop = true then s1
  else
    let s2 := (if c.trig.isSome || decide (1 < c.todo.length) then scanAborted s1 k else s1).modConv k
      (fun c => { c with trig := none })
    if c.scanning then s2.modConv k (fun c => { c with stop := true }) else s2

/-- R42, R548: the effect of a write of a converter's enable. -/
def convEnableEff (k : Nat) : WEff := fun w _ s =>
  if w.value = 0 then acc (convDisable s k)
  else
    let s1 := s.put (hkaIdx k) 1 w.value
    acc (if s.flag (hkaIdx k) 1 0 = true ∨ (s.conv k).stop = true then s1 else startConv s1 k)

/-- CONVERTER_ENABLE: a write of 2C00h + k:01h. -/
def execConverterEnable (k : Fin 4) (w : Wr) (s : State) : Out :=
  .next (accessWrite s w false (hkaIdx k.val) 1 (convEnableEff k.val))

/-- R548: the converter clock stops; a scan in progress is aborted, and the conversion that held a stopping phase open is
gone. -/
def convertersAbort (s : State) : State :=
  (List.range 4).foldl (fun s k =>
    if (s.conv k).scanning then
      convStopped ((if (s.conv k).stop then s else scanAborted s k).modConv k (fun c => { c with scanning := false, todo := [] })) k
    else s) s

/-- R547: the effect of a write of a converter's other objects. -/
def convPlainEff (k j : Nat) : WEff := fun w a s =>
  if 2 ≤ j ∧ j ≤ 7 ∧ s.flag (hkaIdx k) 1 0 = true then rej .state s else plainWrite (hkaIdx k) j w a s

/-! ### GPIO and tachometers -/

/-- The function of GPIOn (R553). -/
def gpioFunction (s : State) (n : Nat) : Nat := fieldN (s.nat 0x2C20 (1 + n)) 0 2

/-- R68, R71: the pull of GPIOn, 50 kΩ up for 1, down for 0, none for 2; the pull-down of its reset state while D6 is not
ON. -/
def gpioPull (s : State) (n : Nat) : Nat := if s.on 6 then fieldN (s.nat 0x2C20 (1 + n)) 2 2 else 0

/-- R66, R68, R553: the level that GPIOn drives, none for an input and for an open-drain output at 1. -/
def gpioDrives (s : State) (n : Nat) : Option Bool :=
  if s.on 6 = false ∨ s.sup.vddioLow = true then none
  else match gpioFunction s n with
    | 1 => some (s.flag 0x2C20 0x12 n)
    | 2 => if s.flag 0x2C20 0x12 n then none else some false
    | _ => none

/-- R71, R72, R553: the level of GPIOn as it reads. No row tells what the board drives: a pin that the device does not
drive is at a free level where the board drives it, itself free, and at its pull elsewhere. While VDDIO is low it reads
0. -/
def gpioLevel (s : State) (n : Nat) : Bool :=
  let board := Config.freeWord (s.free + n)
  if s.sup.vddioLow then false
  else match gpioDrives s n with
    | some b => b
    | none => if board.getLsbD 0 || gpioPull s n == 2 then board.getLsbD 1 else gpioPull s n == 1

/-- Tachometer n beyond its objects. -/
def State.tach (s : State) (n : Nat) : Tacho := s.tacho.getD n {}

/-- Tachometer n changed. -/
def State.modTach (s : State) (n : Nat) (f : Tacho → Tacho) : State := { s with tacho := modAt s.tacho n f }

/-- The object of tachometer n (R554). -/
def tachIdx (n : Nat) : Nat := 0x2C30 + n

/-- R554: tachometer n stalls. -/
def tachStall (s : State) (n : Nat) : State :=
  (((s.put (tachIdx n) 2 0).put (tachIdx n) 4 1).setBits 0x2C20 0x13 1)

/-- R554: whether tachometer n measures. -/
def tachRuns (s : State) (n : Nat) : Bool := s.on 6 && clockState s != 0 && gpioFunction s n == 3

/-- TACH_EDGE, R72, R554: a rising edge whose new level has been stable for `stable` converter clocks; 40 accept it. -/
def execTachEdge (n : Fin 8) (stable : Nat) (s : State) : Out :=
  let s1 := (s.bump (tachIdx n) 3 32).modTach n (fun _ => { last := some s.ct, since := s.ct })
  let s2 := match (s.tach n).last with
    | some f =>
      let p := (s.ct - f) / convClock
      if 4294967295 < p then tachStall s1 n else (s1.putN (tachIdx n) 2 p).put (tachIdx n) 4 0
    | none => s1
  when (tachRuns s n && !s.sup.vddioLow && decide (40 ≤ stable)) s s2

/-- TACH_STALL, R554: no edge has arrived for the stall time. -/
def execTachStall (n : Fin 8) (s : State) : Out :=
  when (tachRuns s n && !s.flag (tachIdx n) 4 0 &&
      decide ((s.tach n).since + cyclesMs (s.nat (tachIdx n) 1) ≤ s.ct)) s
    ((tachStall s n).modTach n (fun _ => { since := s.ct }))

/-- R553, R554: the effect of a write of a GPIO object; a pin that takes the tachometer function starts to time. -/
def gpioPlainEff (j : Nat) : WEff := fun w a s =>
  let (res, s1) := plainWrite 0x2C20 j w a s
  if 1 ≤ j ∧ j ≤ 8 ∧ gpioFunction s (j - 1) ≠ 3 ∧ gpioFunction s1 (j - 1) = 3 then
    (res, s1.modTach (j - 1) (fun _ => { since := s.ct }))
  else (res, s1)

end Sys2Proof.Machine
end

