-- ==== Sys2Proof/Machine/SequencerOps.lean ====
section
/-! DEFINITION. The board regulators, the gate-supply drivers, the sequencer's slots and the shared lines, as they act
by themselves (R558 to R587). The rows stand in Supplies.lean. -/
namespace Sys2Proof.Machine

/-- The object of slot j (R594). -/
def slotIdx (j : Nat) : Nat := 0x2D10 + j

/-- Slot j beyond its objects. -/
def State.slot (s : State) (j : Nat) : Slot := s.seq.slots.getD j {}

/-- The sequencer changed. -/
def State.modSeq (s : State) (f : Sequencer → Sequencer) : State := { s with seq := f s.seq }

/-- Slot j changed. -/
def State.modSlot (s : State) (j : Nat) (f : Slot → Slot) : State :=
  s.modSeq (fun q => { q with slots := modAt q.slots j f })

/-- Regulator r beyond its latch. -/
def State.reg (s : State) (r : Nat) : Regulator := s.sup.regs.getD r {}

/-- Regulator r changed. -/
def State.modReg (s : State) (r : Nat) (f : Regulator → Regulator) : State :=
  { s with sup := { s.sup with regs := modAt s.sup.regs r f } }

/-- Driver g beyond its enable. -/
def State.gateSupply (s : State) (g : Nat) : GateSupply := s.gds.getD g {}

/-- Driver g changed. -/
def State.modGds (s : State) (g : Nat) (f : GateSupply → GateSupply) : State := { s with gds := modAt s.gds g f }

/-- The sequencer state (R592): 0 off, 1 rising, 2 up, 3 falling, 4 failed, 5 waiting for RDYLINE. -/
def seqState (s : State) : Nat := s.nat 0x2D02 3

/-- The state of slot j (R594): 0 off, 1 waiting, 2 rising, 3 good, 4 falling, 5 failed. -/
def slotState (s : State) (j : Nat) : Nat := s.nat (slotIdx j) 0x0C

/-- The target of slot j (R574). -/
def slotTarget (s : State) (j : Nat) : Nat := s.nat (slotIdx j) 2

/-- Whether slot j is in sequence. -/
def inSequence (s : State) (j : Nat) : Bool := s.flag (slotIdx j) 1 0

/-- The slots in sequence. -/
def seqSlots (s : State) : List Nat := (List.range 16).filter (inSequence s)

/-- The slots whose output is asserted. -/
def assertedSlots (s : State) : List Nat := (List.range 16).filter (fun j => (s.slot j).out)

/-- R574: the level of SEQENj. -/
def seqEnable (s : State) (j : Nat) : Bool :=
  s.on 2 && inSequence s j && (s.slot j).out && slotTarget s j == 0 && !s.sup.vddioLow

/-- R72, R575: whether a level of a good input, stable for `held` fabric cycles, has stood for slot j's deglitch time, in the
microsecond ticks of R586. -/
def deglitched (s : State) (j held : Nat) : Bool := decide (cyclesUs (s.nat (slotIdx j) 7) ≤ held)

/-! ### Regulators and drivers -/

/-- R28, R561, R562, R574: whether a target is driven: by its slots in sequence while D2 is ON, or by its own enable. -/
def targetDriven (s : State) (target : Nat) (own : Bool) : Bool :=
  let l := (seqSlots s).filter (fun j => slotTarget s j == target)
  if l = [] ∨ s.on 2 = false then own else l.any (fun j => (s.slot j).out)

/-- Whether regulator r is driven. -/
def regDriven (s : State) (r : Nat) : Bool := targetDriven s (1 + r) (s.flag 0x2D00 (1 + r) 0)

/-- Whether driver g is driven (R566). -/
def gdsDriven (s : State) (g : Nat) : Bool := s.on 6 && targetDriven s (4 + g) (s.flag 0x2D00 6 g)

/-- R559, R560: regulator r starts, or stops and leaves its latched state. -/
def followReg (s : State) (r : Nat) : State :=
  let d := regDriven s r
  let x := s.reg r
  if d = x.on then s
  else if d then s.modReg r (fun _ => { on := true, soft := s.real })
  else s.modReg r (fun _ => {})

/-- R564, R566: driver g starts, or stops with both ends low. -/
def followGds (s : State) (g : Nat) : State :=
  let d := gdsDriven s g
  let x := s.gateSupply g
  if d = x.on then s
  else if d then s.modGds g (fun _ => { on := true, soft := s.t })
  else s.modGds g (fun _ => {})

/-- The accepted good of slot j (R574, R575). -/
def slotGood (s : State) (j : Nat) : Bool :=
  match slotTarget s j with
  | 0 => (s.slot j).good
  | 1 => (s.reg 0).good
  | 2 => (s.reg 1).good
  | 3 => (s.reg 2).good
  | 4 => (s.gateSupply 0).good && !(s.gateSupply 0).stopped
  | _ => (s.gateSupply 1).good && !(s.gateSupply 1).stopped

/-- Regulators and drivers follow their enables and slots. -/
def followTargets (s : State) : State := followGds (followGds (followReg (followReg (followReg s 0) 1) 2) 0) 1

/-- R563, R564: the ends A and B of driver g, from the start of its soft start. -/
def gdsEnds (s : State) (g : Nat) : Bool × Bool :=
  let x := s.gateSupply g
  let div := s.nat 0x2D00 7
  let dt := s.nat 0x2D00 8
  let ss := cyclesUs (s.nat 0x2D00 0x0B)
  let run := s.t - x.soft
  let high := if x.good then div - dt else dt + (div - 2 * dt) * min run ss / max ss 1
  let ph := (s.t + (if g = 1 then 2 * div - div / 2 else 0)) % (2 * div)
  if x.on = false ∨ x.stopped = true ∨ clockState s = 0 then (false, false)
  else (decide (ph < high), decide (div ≤ ph) && decide (ph < div + high))

/-! ### Lines -/

/-- R585: whether the device releases RDYLINE. -/
def releasesReady (s : State) : Bool :=
  let st := seqState s
  s.on 2 && (st == 1 || st == 2 || st == 5) && s.flag 0x2D02 0x0A 0 &&
    (seqSlots s).all (fun j => decide (s.nat 0x2D02 5 ≤ s.nat (slotIdx j) 3) || slotState s j == 3)

/-- R584: whether a source enabled pulls FLTLINE_N. -/
def faultLineWanted (s : State) : Bool :=
  let m := s.nat 0x2D03 1
  (bitN m 0 && s.nat 0x3200 1 == 1 && s.nat 0x3200 2 != 0) || (bitN m 1 && seqState s == 4) ||
    (bitN m 2 && s.sup.warn) || (bitN m 3 && s.flag 0x2D03 2 0)

/-- R584: the minimum assertion of FLTLINE_N. -/
def minAssertion (s : State) : Nat := cyclesUs (s.nat 0x2D03 3)

/-- R68, R584, R585: with D2 ON both lines follow their sources; FLTLINE_N is held for its minimum assertion. -/
def settleLines (s : State) : State :=
  if s.on 2 = false then s else
  let s1 := match s.seq.pulling with
    | none => if faultLineWanted s then
        (s.modSeq (fun q => { q with pulling := some s.t })).setBits 0x2D03 7 1 else s
    | some f => if !faultLineWanted s && decide (f + minAssertion s ≤ s.t) then
        s.modSeq (fun q => { q with pulling := none }) else s
  if releasesReady s1 then s1.modSeq (fun q => { q with released := some (q.released.getD s.t) })
  else
    let s2 := s1.modSeq (fun q => { q with released := none, rdyline := false })
    if s1.seq.rdyline then s2.setBits 0x2D03 7 2 else s2

/-! ### Slots -/

/-- The slot summary words and what follows the slots. -/
def settleSlots (s : State) : State :=
  let s1 := followTargets s
  let fail := maskOf ((List.range 16).filter (fun j => slotState s1 j == 5))
  let good := maskOf ((List.range 16).filter (fun j => slotState s1 j == 3))
  settleLines ((s1.putN 0x2D02 0x0B fail).putN 0x2D02 0x0C good)

/-- R576: a cause written into slot j's failure record when it holds none. -/
def slotCause (s : State) (j cause : Nat) : State :=
  if fieldN (s.nat (slotIdx j) 0x0D) 0 4 = 0 then
    (s.putN (slotIdx j) 0x0D (cause + (if seqState s = 3 then 128 else 0))).put (slotIdx j) 0x0E (lo32 s.now)
  else s

/-- The slots of the up position in progress. -/
def upSlots (s : State) : List Nat := (seqSlots s).filter (fun j => s.nat (slotIdx j) 3 == s.nat 0x2D02 4)

/-- R617: reason 2 is set once the sequencer is off or failed while a storage request stands. -/
def storageCheck (s : State) : State :=
  if s.chg.storageAt.isSome ∧ (seqState s = 0 ∨ seqState s = 4) then
    setReason { s with chg := { s.chg with storageAt := none } } 4
  else s

/-- R578: the sequence reaches position P and waits for RDYLINE, or takes the position up. -/
def takePosition (s : State) (p : Nat) : State :=
  let s1 := (s.putN 0x2D02 4 p).modSeq (fun q => { q with posFrom := s.t })
  if s.nat 0x2D02 5 ≤ p ∧ s.nat 0x2D02 5 < 16 ∧ s.seq.ready = false then
    (s1.putN 0x2D02 3 5).modSeq (fun q => { q with readyWait := some s.t })
  else s1.putN 0x2D02 3 1

/-- R577: the next up position that some slot in sequence has. -/
def nextUp (s : State) (from' : Nat) : Option Nat :=
  (List.range 16).find? (fun p => decide (from' ≤ p) && (seqSlots s).any (fun j => s.nat (slotIdx j) 3 == p))

/-- R577: the up sequence goes on when every slot of its position is good or failed. -/
def upSettle (s : State) : State :=
  if seqState s = 1 ∧ (upSlots s).all (fun j => slotState s j == 3 || slotState s j == 5) = true then
    match nextUp s (s.nat 0x2D02 4 + 1) with
    | some p => takePosition s p
    | none => (s.putN 0x2D02 3 2).setBits 0x2D02 0x0D 2
  else s

/-- R577: the up sequence starts. -/
def startUp (s : State) : State :=
  let s1 := (seqSlots s).foldl (fun s j => s.putN (slotIdx j) 0x0C 1) (s.bump 0x2D02 0x0E 16)
  let s2 := s1.modSeq (fun q => { q with ready := false, failed := false, readyWait := none })
  match nextUp s2 0 with
  | some p => takePosition s2 p
  | none => (s2.putN 0x2D02 3 2).setBits 0x2D02 0x0D 2

/-- R580: a slot still waiting is never asserted. -/
def dropWaiting (s : State) : State :=
  (List.range 16).foldl (fun s j => if slotState s j = 1 then s.putN (slotIdx j) 0x0C 0 else s) s

/-- R580: the next down position among the asserted slots. -/
def nextDown (s : State) : Option Nat :=
  (List.range 16).find? (fun p => (assertedSlots s).any (fun j => s.nat (slotIdx j) 4 == p))

/-- R583: the down sequence has ended. -/
def finishDown (s : State) : State :=
  storageCheck (((s.putN 0x2D02 3 (if s.seq.failed then 4 else 0)).setBits 0x2D02 0x0D 4).modSeq (fun q => { q with fast := false }))

/-- R580: the down sequence goes on when no slot of its position is asserted or falling. -/
def downSettle (s : State) : State :=
  let p := s.nat 0x2D02 4
  let busy := (List.range 16).any (fun j =>
    slotState s j == 4 || ((s.slot j).out && s.nat (slotIdx j) 4 == p))
  if seqState s ≠ 3 ∨ busy = true then s
  else
    match nextDown s with
    | some q => (s.putN 0x2D02 4 q).modSeq (fun x => { x with posFrom := s.t })
    | none => finishDown s

/-- R579, R580, R787: a slot's output goes to a level; a change is an operation of the contactors on it. -/
def setOutput (s : State) (j : Nat) (v : Bool) : State :=
  let s1 := s.modSlot j (fun x => { x with out := v, outAt := s.t })
  if (s.slot j).out = v then s1 else contactorOps s1 (16 + j)

/-- A slot's output goes to 0 (R579, R580). -/
def dropOutput (s : State) (j : Nat) : State := setOutput s j false

/-- R581: the next position of a fast down sequence: every output of it deasserted, no fall awaited; with none left the
sequence ends. -/
def fastPosition (s : State) : State :=
  match nextDown s with
  | some p =>
    ((assertedSlots s).filter (fun j => s.nat (slotIdx j) 4 == p)).foldl
      (fun s j => (dropOutput s j).putN (slotIdx j) 0x0C 0) (s.putN 0x2D02 4 p)
  | none => finishDown s

/-- R581: a fast down sequence takes one position in a fabric cycle. -/
def fastCycle (s : State) : State := if s.on 2 && s.seq.fast && seqState s == 3 then settleSlots (fastPosition s) else s

/-- R580, R581: a down action; a fast one takes its first position at once. -/
def startDown (s : State) (fast : Bool) : State :=
  if seqState s = 0 then s
  else if seqState s = 3 then s.bump 0x2D02 0x0F 16
  else
    let s1 := (dropWaiting (s.bump 0x2D02 0x0F 16)).putN 0x2D02 3 3
    let s2 := s1.modSeq (fun q => { q with
      failed := q.failed || seqState s == 4, readyWait := none, posFrom := s.t })
    if fast then settleSlots (fastPosition (s2.modSeq (fun q => { q with fast := true })))
    else
      let s3 := match nextDown s2 with
        | some p => s2.putN 0x2D02 4 p
        | none => finishDown s2
      settleSlots s3

/-- R572, R584: a coded down action: 0h nothing, 1h down, 2h fast down. -/
def downAction (s : State) (code : Nat) : State :=
  match code with
  | 1 => startDown s false
  | 2 => startDown s true
  | _ => s

/-- R579: slot j fails with a cause; its output goes to 0 and its failure action is taken. -/
def failSlot (s : State) (j cause : Nat) : State :=
  let s1 := (dropOutput (slotCause s j cause) j).putN (slotIdx j) 0x0C 5
  let s2 := ((s1.setBits 0x2D02 0x0D 1).bump 0x2D02 0x10 16).report 71 .uc
  let s3 := match s.nat (slotIdx j) 0x0A with
    | 0 => (dropWaiting (s2.putN 0x2D02 3 4)).modSeq (fun q => { q with failed := true, readyWait := none })
    | 1 => upSettle s2
    | _ => startDown (s2.modSeq (fun q => { q with failed := true })) false
  settleSlots (storageCheck s3)

/-- R577: slot j, rising, is good. -/
def slotIsGood (s : State) (j : Nat) : State := settleSlots (upSettle (s.putN (slotIdx j) 0x0C 3))

/-- R579, R582: the slots on a target whose regulator or driver has faulted fail with cause 5h, outside a down
sequence. -/
def targetFault (s : State) (target : Nat) : State :=
  if seqState s = 3 then settleSlots s
  else
    settleSlots ((seqSlots s).foldl (fun s j =>
      if slotTarget s j = target ∧ slotState s j = 3 then failSlot s j 5 else s) s)

/-- R577: the rising slots on a target that has become good are good. -/
def targetGood (s : State) (target : Nat) : State :=
  settleSlots ((seqSlots s).foldl (fun s j =>
    if slotTarget s j = target ∧ slotState s j = 2 then slotIsGood s j else s) s)

/-- R565: both drivers restart with a soft start when the clock generator leaves state 0h. -/
def restartDrivers (s : State) : State :=
  settleSlots ((List.range 2).foldl (fun s g =>
    if (s.gateSupply g).on && !(s.gateSupply g).stopped then
      s.modGds g (fun x => { x with soft := s.t, good := false }) else s) s)

/-- R575: the glitch scores at a millisecond tick. -/
def seqTick (s : State) : State :=
  if s.on 2 then (List.range 16).foldl (fun s j => s.sub (slotIdx j) 0x0F 1) s else s

/-- R587: the sequencer is disabled: every output at 0 with no order. -/
def seqOff (s : State) : State :=
  let s1 := (List.range 16).foldl (fun s j => (dropOutput s j).putN (slotIdx j) 0x0C 0) s
  settleSlots (storageCheck ((s1.putN 0x2D02 3 0).modSeq (fun q => { q with failed := false, readyWait := none, fast := false })))

end Sys2Proof.Machine
end

