-- ==== Sys2Proof/Machine/Supplies.lean ====
section
/-! DEFINITION. The rows of the supervisors, the board regulators, the gate-supply drivers, the sequencer, the shared
lines and the storage request (R556 to R594, R617). -/
namespace Sys2Proof.Machine

/-- The supervisors' levels changed. -/
def State.modSup (s : State) (f : Supplies → Supplies) : State := { s with sup := f s.sup }

/-- R556: whether a supply that has stayed below `mv` millivolts for `held` ns counts as below a threshold of `at'` within
its tolerance. -/
def fallsBelow (at' tol mv held : Nat) : Bool := decide (mv ≤ at' + tol) && decide (2000 ≤ held)

/-- R556: the same above a threshold. -/
def risesAbove (at' tol mv held : Nat) : Bool := decide (at' ≤ mv + tol) && decide (2000 ≤ held)

/-- R556: the VAUX warning threshold in mV. -/
def warningMillivolts (s : State) : Nat := s.nat 0x2D00 0x0C * 1000 / 65536

/-- R589: a supplies flag, set while D2 is ON. -/
def supplyFlag (s : State) (mask : Nat) : State := if s.on 2 then s.setBits 0x2D00 0x11 mask else s

/-- R556: a supervisor event other than the warning: counted, flagged, reported UC. -/
def supervisorEvent (s : State) (mask : Nat) : State :=
  if s.on 2 then ((s.bump 0x2D00 0x0E 16).setBits 0x2D00 0x11 mask).report 70 .uc else s

/-- R572: VAUX falls below the warning threshold: flag, count, report, power-fail action; the line follows. -/
def vauxWarned (s : State) : State :=
  let s1 := (s.modSup (fun x => { x with warn := true })).d1Event 2
  if s.on 2 then
    settleLines (downAction (((s1.setBits 0x2D00 0x11 4).bump 0x2D00 0x10 16).report 70 .ce) (s.nat 0x2D02 7))
  else s1

/-- VAUX_WARNING_CLEAR, R556: VAUX rises above the warning threshold; no down sequence stops (R572). -/
def execVauxWarningClear (mv held : Nat) (s : State) : Out :=
  let t := warningMillivolts s + 300
  when (s.sup.warn && risesAbove t (t / 50) mv held) s (settleLines ((s.modSup (fun x => { x with warn := false })).d1Event 3))

/-- VAUX_OVERVOLTAGE, R556. -/
def execVauxOvervoltage (mv held : Nat) (s : State) : Out :=
  when (!s.sup.overVolt && risesAbove 61000 1000 mv held) s (supervisorEvent (s.modSup (fun x => { x with overVolt := true })) 8)

/-- VAUX_OVERVOLTAGE_END, R556. -/
def execVauxOvervoltageEnd (mv held : Nat) (s : State) : Out :=
  when (fallsBelow 59500 1000 mv held) s (s.modSup (fun x => { x with overVolt := false }))

/-- VDDIO_UNDERVOLTAGE, R72, R556: the pads go inert; every GFp_N reads 0. -/
def execVddioUndervoltage (mv held : Nat) (s : State) : Out :=
  let s1 := supervisorEvent (s.modSup (fun x => { x with vddioLow := true })) 16
  when (!s.sup.vddioLow && fallsBelow 2900 50 mv held) s
    ((List.range 48).foldl (fun s p => latchGateFault (s.modPhase p (fun x => { x with gf := false })) p) s1)

/-- VDDIO_RESTORED, R556. -/
def execVddioRestored (mv held : Nat) (s : State) : Out :=
  when (risesAbove 3000 50 mv held) s (s.modSup (fun x => { x with vddioLow := false }))

/-- VDDA_UNDERVOLTAGE, R556. -/
def execVddaUndervoltage (mv held : Nat) (s : State) : Out :=
  when (!s.sup.vddaLow && fallsBelow 2900 50 mv held) s (supervisorEvent (s.modSup (fun x => { x with vddaLow := true })) 32)

/-- VDDA_RESTORED, R556. -/
def execVddaRestored (mv held : Nat) (s : State) : Out :=
  when (risesAbove 3000 50 mv held) s (s.modSup (fun x => { x with vddaLow := false }))

/-! ### Regulators -/

/-- R560, R561: the effect of a write of a regulator's latch. -/
def regulatorEff (r : Nat) : WEff := fun w _ s => acc (settleSlots (s.put 0x2D00 (1 + r) w.value))

/-- REGULATOR_ENABLE: a write of 2D00h:01h + r. -/
def execRegulatorEnable (r : Fin 3) (w : Wr) (s : State) : Out :=
  .next (accessWrite s w false 0x2D00 (1 + r.val) (regulatorEff r.val))

/-- REGULATOR_GOOD, R559: the soft start has ended with the output at or above 93 % of nominal. -/
def execRegulatorGood (r : Fin 3) (level : Nat) (s : State) : Out :=
  let x := s.reg r
  let s1 := s.modReg r (fun y => { y with good := true, goodAt := s.real })
  when (x.on && x.restart.isNone && !x.latched && !x.good && decide (930 ≤ level) && decide (x.soft + realMs 1 ≤ s.real)) s
    (if s.on 2 then targetGood s1 (1 + r.val) else s1)

/-- REGULATOR_FAULT, R559, R560: the output has stayed below 90 % or above 110 % of nominal for 50 µs: the regulator stops, restarts after 20 ms or stays latched; its good slots fail (R579). -/
def execRegulatorFault (r : Fin 3) (level held : Nat) (s : State) : Out :=
  let x := s.reg r
  let n := if x.good && decide (x.goodAt + realMs 100 ≤ s.real) then 1 else x.faults + 1
  let stay := decide (s.nat 0x2D00 5 ≤ n)
  let s1 := s.modReg r (fun y => { y with
    good := false, faults := n, latched := stay, restart := if stay then none else some (s.real + realMs 20) })
  let s2 := ((s1.bump 0x2D00 0x0F 16).setBits 0x2D00 0x11 1).report 70 .uc
  when (x.on && x.restart.isNone && !x.latched && (decide (level < 900) || decide (1100 < level)) &&
      decide (50000 ≤ held) && decide (x.soft + realMs 1 + realUs 50 ≤ s.real)) s
    (if s.on 2 then targetFault s2 (1 + r.val) else s1)

/-- REGULATOR_RESTART, R560: 20 ms after its fault the regulator restarts with a soft start. -/
def execRegulatorRestart (r : Fin 3) (s : State) : Out :=
  match (s.reg r).restart with
  | some f => when (decide (f ≤ s.real)) s (s.modReg r (fun y => { y with restart := none, soft := s.real }))
  | none => .next s

/-! ### Drivers -/

/-- R564, R566: the effect of a write of the driver enables. -/
def driverEff : WEff := fun w _ s => acc (settleSlots (s.store 0x2D00 6 w.value))

/-- DRIVER_ENABLE: a write of 2D00h:06h. -/
def execDriverEnable (w : Wr) (s : State) : Out := .next (accessWrite s w false 0x2D00 6 driverEff)

/-- DRIVER_SOFT_START_END, R564: the driver's good becomes 1. -/
def execDriverSoftStartEnd (g : Fin 2) (s : State) : Out :=
  let x := s.gateSupply g
  when (x.on && !x.stopped && !x.good && clockState s != 0 &&
      decide (x.soft + cyclesUs (s.nat 0x2D00 0x0B) ≤ s.t)) s
    (targetGood (s.modGds g (fun y => { y with good := true })) (4 + g.val))

/-- DRIVER_LIMIT_STOP, R564: consecutive half-periods of the driver were limited; after 16 of them it stops with both ends
low. -/
def execDriverLimitStop (g : Fin 2) (halves : Nat) (s : State) : Out :=
  let x := s.gateSupply g
  let s1 := s.add 0x2D00 0x0D 16 halves
  when (x.on && !x.stopped && clockState s != 0 && decide (x.soft + halves * s.nat 0x2D00 7 ≤ s.t)) s
    (if halves < 16 then s1
      else targetFault (((s1.setBits 0x2D00 0x11 2).report 70 .uc).modGds g (fun y => { y with
        stopped := true, good := false })) (4 + g.val))

/-- R557, R563: the effect of a write of the other supply words. -/
def suppliesPlainEff (j : Nat) : WEff := fun w a s =>
  if j = 7 ∧ w.value.toNat / 4 < s.nat 0x2D00 8 then rej .range s
  else if j = 8 ∧ s.nat 0x2D00 7 / 4 < w.value.toNat then rej .range s
  else if (j = 7 ∨ j = 8) ∧ (s.obj 0x2D00 6 ≠ 0 ∨ (s.gateSupply 0).on = true ∨ (s.gateSupply 1).on = true) then
    rej .state s
  else plainWrite 0x2D00 j w a s

/-! ### Commands -/

/-- R583: whether a clear is accepted: off, or failed with no output asserted. -/
def seqIdle (s : State) : Bool := seqState s == 0 || (seqState s == 4 && (assertedSlots s).isEmpty)

/-- R583: the failure records, the failed slots and the failed state cleared. -/
def clearSequencer (s : State) : State :=
  let s1 := (List.range 16).foldl (fun s j =>
    let t := s.put (slotIdx j) 0x0D 0
    if slotState s j = 5 then t.putN (slotIdx j) 0x0C 0 else t) s
  settleSlots ((s1.putN 0x2D02 3 0).modSeq (fun q => { q with failed := false }))

/-- R577, R580, R583, R587: the effect of a write of the sequencer command. -/
def sequencerEff : WEff := fun w _ s =>
  if s.flag 0x2D02 1 0 = false then rej .state s
  else
    match w.value.toNat with
    | 1 => if seqState s = 0 then acc (settleSlots (startUp s)) else rej .state s
    | 2 => if seqState s = 0 then rej .state s else acc (settleAll (startDown s false))
    | _ => if seqIdle s then acc (clearSequencer s) else rej .state s

/-- SEQUENCER_UP: a write of 1h to 2D02h:02h. -/
def execSequencerUp (w : Wr) (s : State) : Out := .next (accessWrite s w false 0x2D02 2 sequencerEff)

/-- R580: the effect of a write of 2D02h:02h as the down command. -/
def sequencerDownEff : WEff := fun w a s => sequencerEff w a s

/-- SEQUENCER_DOWN: a write of 2h to 2D02h:02h. -/
def execSequencerDown (w : Wr) (s : State) : Out := .next (accessWrite s w false 0x2D02 2 sequencerDownEff)

/-- R583: the effect of a write of 2D02h:02h as the clear. -/
def sequencerClearEff : WEff := fun w a s => sequencerEff w a s

/-- SEQUENCER_CLEAR: a write of 3h to 2D02h:02h. -/
def execSequencerClear (w : Wr) (s : State) : Out := .next (accessWrite s w false 0x2D02 2 sequencerClearEff)

/-- R587: the effect of a write of the sequencer enable. -/
def sequencerEnableEff : WEff := fun w _ s =>
  let s1 := s.put 0x2D02 1 w.value
  acc (if w.value = 0 then settleAll (seqOff s1) else s1)

/-- SEQUENCER_DISABLE: a write of 2D02h:01h. -/
def execSequencerDisable (w : Wr) (s : State) : Out := .next (accessWrite s w false 0x2D02 1 sequencerEnableEff)

/-! ### Up sequence -/

/-- Whether slot j's target lies in a domain that is ON (R577). -/
def targetAvailable (s : State) (j : Nat) : Bool :=
  match slotTarget s j with
  | 4 => s.on 6
  | 5 => s.on 6
  | _ => true

/-- SLOT_UP_DELAY_EXPIRY, R577: the slot's output is asserted, or the slot fails with cause 4h. -/
def execSlotUpDelayExpiry (j : Fin 16) (s : State) : Out :=
  let s1 := settleSlots ((setOutput s j true).putN (slotIdx j) 0x0C 2)
  when (s.on 2 && seqState s == 1 && slotState s j == 1 && (upSlots s).contains j.val &&
      decide (s.seq.posFrom + cyclesUs (s.nat (slotIdx j) 5) ≤ s.t)) s
    (settleAll (if targetAvailable s j then (if slotGood s1 j then slotIsGood s1 j else s1) else failSlot s j 4))

/-- SLOT_GOOD, R72, R575, R577, R582: the good input of SQj has risen and stood at 1 for `held` cycles; after the deglitch
time it is accepted. -/
def execSlotGood (j : Fin 16) (held : Nat) (s : State) : Out :=
  let s1 := s.modSlot j (fun x => { x with raw := true, good := true })
  when (s.on 2 && slotTarget s j == 0 && !(s.slot j).good && !s.sup.vddioLow) s
    (if deglitched s j held = false then s.modSlot j (fun x => { x with raw := true })
      else if slotState s j = 2 then slotIsGood s1 j
      else if seqState s = 3 ∧ inSequence s j = true ∧ (s.slot j).out = false then s1.bump (slotIdx j) 0x10 16 else s1)

/-- SLOT_GOOD_TIMEOUT, R577, R579: the good has not become 1 within its timeout. -/
def execSlotGoodTimeout (j : Fin 16) (s : State) : Out :=
  when (s.on 2 && seqState s != 3 && slotState s j == 2 &&
      decide ((s.slot j).outAt + cyclesMs (s.nat (slotIdx j) 6) ≤ s.t)) s
    (settleAll (failSlot s j 1))

/-- R574, R575: whether slot j's accepted good falls: its input has stood at 0 for `held` cycles, or its regulator or driver,
which was good, no longer is. -/
def goodFalls (s : State) (j held : Nat) : Bool :=
  if slotTarget s j = 0 then (s.slot j).good && deglitched s j held
  else !slotGood s j && (slotState s j == 3 || slotState s j == 4)

/-- SLOT_GOOD_LOST, R575, R579: the accepted good of a good slot falls to 0. -/
def execSlotGoodLost (j : Fin 16) (held : Nat) (s : State) : Out :=
  let s1 := s.modSlot j (fun x => { x with raw := false, good := false })
  when (s.on 2 && goodFalls s j held && seqState s != 3) s (settleAll (if slotState s j = 3 then failSlot s1 j 2 else s1))

/-- SLOT_GLITCH, R575: a good input change reverts after `held` cycles, within the deglitch time. -/
def execSlotGlitch (j : Fin 16) (held : Nat) (s : State) : Out :=
  let s1 := s.bump (slotIdx j) 0x10 16
  let s2 := s1.bump (slotIdx j) 0x0F 8
  when (s.on 2 && inSequence s j && slotTarget s j == 0 && !deglitched s j held) s
    (if slotState s j = 3 ∧ (s.slot j).good = true then
        (if s.nat (slotIdx j) 0x0B ≤ s2.nat (slotIdx j) 0x0F ∧ seqState s ≠ 3 then settleAll (failSlot s2 j 3) else s2)
      else s)

/-- READY_WAIT_TIMEOUT, R578: the wait for RDYLINE has lasted the ready timeout. -/
def execReadyWaitTimeout (s : State) : Out :=
  match s.seq.readyWait with
  | some f =>
    when (s.on 2 && seqState s == 5 && decide (f + cyclesMs (s.nat 0x2D02 6) ≤ s.t)) s
      (settleAll (settleSlots (storageCheck ((((dropWaiting (s.putN 0x2D02 3 4)).modSeq (fun q => { q with
        failed := true, readyWait := none })).setBits 0x2D02 0x0D 8).report 71 .uc))))
  | none => .next s

/-- READY_RELEASE, R72, R578: RDYLINE has read high for `held` cycles; after 10 µs later slots proceed. -/
def execReadyRelease (held : Nat) (s : State) : Out :=
  match s.seq.released with
  | some f =>
    let s1 := (s.modSeq (fun q => { q with rdyline := true })).setBits 0x2D03 7 (if s.seq.rdyline then 0 else 2)
    let s2 := (s1.putN 0x2D02 3 1).modSeq (fun q => { q with ready := true, readyWait := none, posFrom := s.t })
    when (s.on 2 && decide (f + cyclesUs 10 ≤ s.t) && decide (cyclesUs 10 ≤ held) && !s.sup.vddioLow) s (settleSlots (if seqState s = 5 then s2 else s1))
  | none => .next s

/-- READY_LOSS, R585: RDYLINE has read low for `held` cycles, 10 µs or more, while the sequencer is up. -/
def execReadyLoss (held : Nat) (s : State) : Out :=
  let s1 := ((s.modSeq (fun q => { q with rdyline := false })).setBits 0x2D03 7 2).setBits 0x2D02 0x0D 32
  when (s.on 2 && seqState s == 2 && s.seq.rdyline && decide (cyclesUs 10 ≤ held)) s
    (settleAll (if s.nat 0x2D02 9 = 1 then startDown s1 false else s1))

/-! ### Down sequence -/

/-- SLOT_DOWN_DELAY_EXPIRY, R580: the slot's output is deasserted, and its fall awaited. -/
def execSlotDownDelayExpiry (j : Fin 16) (s : State) : Out :=
  let s1 := settleSlots ((dropOutput s j).putN (slotIdx j) 0x0C 4)
  let ended := s.nat (slotIdx j) 9 == 0 || !slotGood s1 j
  when (s.on 2 && seqState s == 3 && (s.slot j).out && s.nat (slotIdx j) 4 == s.nat 0x2D02 4 &&
      decide (s.seq.posFrom + cyclesUs (s.nat (slotIdx j) 8) ≤ s.t)) s
    (settleAll (settleSlots (if ended then downSettle (s1.putN (slotIdx j) 0x0C 0) else s1)))

/-- SLOT_FALL_COMPLETE, R580, R582: the accepted good falls to 0; a slot awaiting its turn ends with cause 8h. -/
def execSlotFallComplete (j : Fin 16) (held : Nat) (s : State) : Out :=
  let s1 := s.modSlot j (fun x => { x with raw := false, good := false })
  let s2 := if slotState s j = 4 then s1.putN (slotIdx j) 0x0C 0
    else if (s.slot j).out then (dropOutput (slotCause s1 j 8) j).putN (slotIdx j) 0x0C 0
    else s1
  when (s.on 2 && seqState s == 3 && goodFalls s j held) s
    (settleAll (settleSlots (downSettle s2)))

/-- SLOT_FALL_TIMEOUT, R580: the good is still 1 at the fall timeout; cause 9h with DOWN. -/
def execSlotFallTimeout (j : Fin 16) (s : State) : Out :=
  when (s.on 2 && seqState s == 3 && slotState s j == 4 && slotGood s j &&
      decide ((s.slot j).outAt + cyclesMs (s.nat (slotIdx j) 9) ≤ s.t)) s
    (settleAll (settleSlots (downSettle ((slotCause s j 9).putN (slotIdx j) 0x0C 0))))

/-! ### FLTLINE_N -/

/-- FLTLINE_FAULT, R72, R73, R584: other devices hold FLTLINE_N low or have let it go, and the level has stood for `held`
cycles. A low level of 1 µs that began while the device was not pulling is one line fault. -/
def execFltlineFault (low : Bool) (held : Nat) (s : State) : Out :=
  let reads := low || s.sup.vddioLow
  let judged := if reads then (if s.seq.others then s.seq.judged else s.seq.pulling.isSome) else false
  let fault := s.on 2 && reads && !judged && decide (cyclesUs 1 ≤ held)
  let s1 := s.modSeq (fun q => { q with others := reads, judged := judged || fault })
  let s2 := (((s1.bump 0x2D03 6 16).setBits 0x2D03 7 1).setBits 0x2D02 0x0D 16).report 72 .uc
  .next (if fault then settleAll (settleLines (downAction s2 (s.nat 0x2D02 8))) else s1)

/-- FLTLINE_ASSERTION_END, R584: the minimum assertion has ended; the line is released when no source is in force. -/
def execFltlineAssertionEnd (s : State) : Out :=
  match s.seq.pulling with
  | some f => when (s.on 2 && decide (f + minAssertion s ≤ s.t)) s (settleLines s)
  | none => .next s

/-! ### Storage -/

/-- R617: a storage request: the flag, and a down sequence as by the command. -/
def storageRequest (s : State) : State :=
  let s1 := { s.setBits 0x2E04 0x0B 4 with chg := { s.chg with storageAt := some s.t } }
  storageCheck (if s.flag 0x2D02 1 0 then startDown s1 false else s1)

/-- R617, R618: the effect of a write of the storage command. -/
def storageEff : WEff := fun w _ s => acc (s.later (.storage w.value))

/-- R618: what a write that waited for the millisecond step does at it. -/
def chargeCommand (s : State) (c : ChargeWrite) : State :=
  let st := chargeStage s
  match c with
  | .chargerOn => if st = 0 then toStage s 1 else s
  | .pathOn => if pathState s = 0 then pathLose s else s
  | .search => if s.nat 0x2E03 1 = 2 ∧ 2 ≤ s.nat 0x2E03 0x0B then s else restartSearch s
  | .clear => ((if st = 9 ∨ st = 10 then toStage s 1 else s).put 0x2E00 6 0).clrBits 0x2E04 7 48
  | .switch v => if v = 0 then s.clrBits 0x2E04 7 1 else setReason s 1
  | .storage v =>
    if v = 1 then storageRequest s
    else { s.clrBits 0x2E04 7 4 with chg := { s.chg with storageAt := none } }

/-- R618: the writes since the last millisecond step take effect, in their order. -/
def chargeArrive (s : State) : State :=
  if s.on 5 then
    s.chg.coming.foldl chargeCommand { s with chg := { s.chg with old := [], coming := [] } }
  else s

/-- STORAGE_COMMAND: a write of 2E04h:0Ah. -/
def execStorageCommand (w : Wr) (s : State) : Out := .next (accessWrite s w false 0x2E04 0x0A storageEff)

/-- STORAGE_REQUEST, R75, R616, R617: a press released from 3.0 s to under 10.0 s, with D5 ON. -/
def execStorageRequest (periods : Nat) (s : State) : Out :=
  when (s.on 5 && pressSeen s periods && decide (pressSeconds 3 ≤ periods) && decide (periods < pressSeconds 10)) s
    (settleAll (storageRequest s))

/-- STORAGE_DELAY_EXPIRY, R617: the storage delay has passed. -/
def execStorageDelayExpiry (s : State) : Out :=
  when (s.on 5 && lasted s s.chg.storageAt (cyclesMs (s.cnat 0x2E04 9))) s
    (settleAll (setReason { s with chg := { s.chg with storageAt := none } } 4))

/-! ### Other writes -/

/-- R574: whether the slots' settings may be written. -/
def slotPlainEff (slot j : Nat) : WEff := fun w a s =>
  if 1 ≤ j ∧ j ≤ 0x0B ∧ seqIdle s = false then rej .state s
  else
    let (res, s1) := plainWrite (slotIdx slot) j w a s
    (res, settleSlots s1)

/-- R578, R584, R585: the effect of a write of the other sequencer and line words. -/
def sequencerPlainEff (i j : Nat) : WEff := fun w a s =>
  let (res, s1) := plainWrite i j w a s
  (res, settleSlots s1)

end Sys2Proof.Machine
end

