-- ==== Sys2Proof/Machine/Resets.lean ====
section
/-! DEFINITION. The reset classes (R55 to R58, R66 to R75, R92, R375, R588, R673, R689, R707, R795): what each domain's
reset clears, and the rows that reset. -/
namespace Sys2Proof.Machine

/-- Object words of domain d take their defaults (R17). -/
def clearObjects (s : State) (d : Nat) : State :=
  { s with od := s.od.filter (fun p => objDomain (p.1 / 256) != d) }

/-- R561: the regulator latches, which belong to D1. -/
def isSupplyLatch (k : Nat) : Bool := decide (objKey 0x2D00 1 ≤ k) && decide (k ≤ objKey 0x2D00 3)

/-- The elements of `l` from place `lo` on, `n` of them, replaced by `a`. -/
def resetSlice {α : Type} (l : List α) (lo n : Nat) (a : α) : List α :=
  l.mapIdx (fun k x => if lo ≤ k ∧ k < lo + n then a else x)

/-- D0, Bedrock: the RTC, the backup bytes and the reset-cause record (R57, R735). -/
def resetD0 (s : State) : State := { clearObjects s 0 with rtc := { chooseAt := s.real + realMs 500 } }

/-- D1, Lighthouse: the wake set, the Canary's counter and capture, BATSW, a pending wake and the regulator latches
(R74, R561, R673, R689). -/
def resetD1 (s : State) : State :=
  let s1 := clearObjects s 1
  { s1 with od := s1.od.filter (fun p => !isSupplyLatch p.1), canary := {}, aon := { porst := s.aon.porst, pressFrom := s.real }, sup := { s1.sup with regs := List.replicate 3 {} } }

/-- R678: the Canary after a system reset. -/
def restartCanary (s : State) : State :=
  { (((s.putN 0x3100 9 0).putN 0x3100 0x0A 0).putN 0x3100 0x0B 0x5AA5) with
    canary := { s.canary with service := none, edge := none, biting := none, checkIns := List.replicate 64 0, recent := [] } }

/-- D2, System, but for the regulator latches: fabric time restarts at 0, system SRAM is zero with valid check bits, and
every block of the domain is at its reset state (R92, R375, R395, R452, R457, R588, R670, R694, R707, R774, R783). -/
def resetD2 (s : State) : State :=
  let s2 := { s with od := s.od.filter (fun p => objDomain (p.1 / 256) != 2 || isSupplyLatch p.1) }
  let s3 := s2.clearMem 0x10000000 0x100000
  { s3 with
    now := 0
    cyc := {}
    masters := List.replicate 20 {}
    raised := []
    postNet := []
    postTurn := 0
    clk := { xiFrom := s.real }
    pool := []
    posted := []
    ports := List.replicate 2 {}
    dbg := {}
    ecc := { s.ecc with
      single := s.ecc.single.filter (fun a => !inSram a 4), double := s.ecc.double.filter (fun a => !inSram a 4) }
    startup := {}
    fm := {}
    irq := {}
    gauge := { gap := some s.real }
    nv := { otp := s.nv.otp, fuses := s.nv.fuses }
    seq := { others := s.seq.others, judged := s.seq.others, slots := s.seq.slots.map (fun (x : Slot) => { raw := x.raw }) }
    dom := {}
    col := {}
    auth := {}
    assayer := List.replicate 4 {}
    life := { indicators := List.replicate 16 { written := s.real } }
    fwt := {} }

/-- R375: the TCMs of cluster c hold zero with valid check bits. -/
def clearTcm (s : State) (c : Nat) : State :=
  let lo := 0x30000000 + c * 0x100000
  let out := fun a => decide (a < lo) || decide (lo + 0x100000 ≤ a)
  let s1 := s.clearMem lo 0x100000
  { s1 with ecc := { s1.ecc with single := s1.ecc.single.filter out, double := s1.ecc.double.filter out } }

/-- D3 and D4, cluster c: the engines' core state; each runs from its boot address (R379). -/
def resetCluster (s : State) (c : Nat) : State :=
  let s1 := clearObjects s (3 + c)
  let s2 := { s1 with engines := resetSlice s1.engines (8 * c) 8 {} }
  (List.range 8).foldl (fun s k => s.modEng (8 * c + k) (fun _ => bootState s (8 * c + k))) s2

/-- D5, Fabric. The levels on GFp_N, SYNCI and the encoder inputs are the balls' (R68). -/
def resetD5 (s : State) : State :=
  let s1 := clearObjects s 5
  { s1 with
    tide := { synciLevel := s.tide.synciLevel, encoders := s.tide.encoders.map (fun e => { a := e.a, b := e.b }) }
    sense := List.replicate 64 {}
    sckFrom := List.replicate 8 0
    phases := s.phases.map (fun (x : Phase) => { gf := x.gf })
    rails := List.replicate 12 {}
    measures := []
    chg := {} }

/-- D6, Analogue. -/
def resetD6 (s : State) : State :=
  let s1 := clearObjects s 6
  { s1 with hka := List.replicate 4 {}, tacho := List.replicate 8 {}, gds := List.replicate 2 {} }

/-- D7, Field I/O: the channels, the ports and the agent; what 1010h stored stands in the journal. -/
def resetD7 (s : State) : State :=
  let s1 := clearObjects s 7
  { s1 with
    can := List.replicate 2 {}, agent := { stored := s.agent.stored, toStore := s.agent.toStore, node := s.agent.node }, bulk := {}, twb := List.replicate 2 {} }

/-- DOMAIN_RESET, R28, R55, R375: domain d resets on leaving OFF; the switch machine starts from
BATSW (R615). -/
def domainReset (s : State) (d : Nat) : State :=
  match d with
  | 3 => resetCluster (clearTcm s 0) 0
  | 4 => resetCluster (clearTcm s 1) 1
  | 5 => switchInit (resetD5 s)
  | 6 => resetD6 s
  | 7 => (resetD7 s).put 0x2A20 2 s.agent.node
  | _ => s

/-- R55, R56: D2 and every domain that depends on it reset; the device is at the seed configuration (R58, R60), and
regulators and drivers follow. -/
def resetFromD2 (s : State) : State :=
  let s1 := resetD7 (resetD6 (resetD5 (resetCluster (resetCluster (resetD2 s) 0) 1)))
  followTargets { s1 with agent := {} }

/-- RESET_CAUSE_RECORD, R57: the record in D0 takes the class and trigger. -/
def recordCause (s : State) (cls trigger : Nat) : State :=
  { s with rtc := { s.rtc with cause := cls, trigger := trigger } }

/-- R795, R813: in its first cycle start-up copies the record of the last reset's cause. -/
def copyCause (s : State) : State :=
  if s.nat 0x3800 1 = 0 ∧ s.nat 0x3800 2 = 0 then (s.putN 0x3800 2 s.rtc.cause).putN 0x3800 3 s.rtc.trigger else s

/-- The answer of an access that a reset cuts off is lost. -/
def dropAnswer (s : State) : State := { s with resp := none }

/-- R55: a system reset of D2 to D7 with its trigger; D0, D1 and the regulator latches are kept. -/
def systemReset (s : State) (trigger : Nat) : State :=
  dropAnswer (recordCause (restartCanary (resetFromD2 s)) 3 trigger)

/-- R25, R26, R375: every TCM loses its supply with D1, and holds zero when its domain leaves OFF. -/
def clearTcms (s : State) : State := clearTcm (clearTcm s 0) 1

/-- R55: a power-on reset of D1 to D7. -/
def powerOnReset (s : State) (trigger : Nat) : State :=
  dropAnswer (recordCause (clearTcms (resetFromD2 (resetD1 s))) 2 trigger)

/-- R720: D1 is present again, or has gone where `away` says so. A timebase that is the RC of D1 has stopped meanwhile. -/
def d1Present (s : State) (away lost : Bool) : State :=
  let s1 : State := { s with rtc := { s.rtc with away := away } }
  if away = false ∧ (lost || s.rtc.away) = true ∧ s.rtc.chosen = true ∧ s.nat 0x3300 0x10 = 1 then oscillatorStops s1 else s1

/-- R55, R721: a Bedrock reset of D0 to D7; the record's reset value names it, and the oscillator-stopped flag it sets is
counted and reported. -/
def bedrockReset (s : State) : State :=
  dropAnswer (((recordCause (clearTcms (resetFromD2 (resetD1 (resetD0 s)))) 1 1).bump 0x3300 0x14 16).report 79 .uc)

/-- BEDROCK_RESET, R55, R734: the Bedrock supply has fallen below its reset threshold. -/
def execBedrockReset (s : State) : Out := .next (bedrockReset s)

/-- R75: the level of PORST_N, and the earliest real time at which a press can have begun. -/
def setPorst (s : State) (v : Bool) : State := { s with aon := { s.aon with porst := v, pressFrom := s.real } }

/-- POWER_ON_RESET, R25, R55, R75, R720: PORST_N or a supervisor resets D1 to D7; the VAUX supervisor takes D1's supply
away as well, until a second command where it is held. -/
def execPowerOnReset (trigger : Byte) (held : Bool) (s : State) : Out :=
  .next (d1Present (setPorst (powerOnReset s trigger.toNat) (held && trigger == 1)) (held && trigger == 2) (trigger == 2))

/-- SYSTEM_RESET, R55: a system reset of the named trigger asserts. -/
def execSystemReset (trigger : Byte) (s : State) : Out := .next (systemReset s trigger.toNat)

/-- R383, R796: a system reset is due four fabric cycles from now. -/
def askReset (s : State) (trigger : Nat) : State :=
  { s with startup := { s.startup with due := some (s.t + 4, trigger) } }

/-- R796: the effect of a write of 1h to the reset request. -/
def resetRequestEff : WEff := fun w auth s =>
  acc (askReset s (if auth then 4 else match w.master with | .debug => 5 | _ => 3))

/-- RESET_REQUEST, R796: a write of 3800h:0Bh. -/
def execResetRequest (w : Wr) (s : State) : Out := .next (accessWrite s w false 0x3800 0x0B resetRequestEff)

/-- DEBUG_SYSTEM_RESET, R383: the debug module, while open, requests a system reset. -/
def execDebugSystemReset (s : State) : Out := when (masterLive s .debug) s (systemReset s 5)

/-- A reset that was asked for asserts when its cycle comes (R796). -/
def dueReset (s : State) : State :=
  match s.startup.due with
  | some (f, trigger) => if f ≤ s.t then systemReset s trigger else s
  | none => s

end Sys2Proof.Machine
end

