-- ==== Sys2Proof/Machine/Canary.lean ====
section
/-! DEFINITION. The Canary watchdog (R678 to R692). -/
namespace Sys2Proof.Machine

/-- The Canary beyond its objects changed. -/
def State.modCanary (s : State) (f : Canary → Canary) : State := { s with canary := f s.canary }

/-- Its state (R690): 0 first window, 1 closed, 2 open, 3 biting. -/
def canaryState (s : State) : Nat := s.nat 0x3100 9

/-- The count C. -/
def canaryCount (s : State) : Nat := s.nat 0x3100 0x0A

/-- R680: the limit in force. -/
def canaryLimit (s : State) : Nat := if canaryState s = 0 then s.nat 0x3100 4 else s.nat 0x3100 3

/-- R680: outside the first window, closed below Wlo and open from it. -/
def canaryWindow (s : State) : State :=
  if canaryState s = 1 ∨ canaryState s = 2 then s.putN 0x3100 9 (if canaryCount s < s.nat 0x3100 2 then 1 else 2) else s

/-- R680: an engine halted by the debug module pauses the count. -/
def canaryPaused (s : State) : Bool := s.flag 0x3100 8 0 && (List.range 16).any (fun e => engineCode s e == 3)

/-- R679: whether the waiting service is taken at an edge: 200 ns have passed since its write completed. -/
def serviceReady (s : State) : Bool :=
  match s.canary.service with
  | some (f, _) => decide (f + 80 ≤ s.real)
  | none => false

/-- R680: whether the next count reaches the warning. -/
def warningNext (s : State) : Bool :=
  let lw := s.nat 0x3100 5
  decide (0 < lw) && decide (lw < canaryLimit s) && canaryCount s + 1 == canaryLimit s - lw

/-- R680 row 6: the count adds one. -/
def canaryStep (s : State) : State := canaryWindow (s.putN 0x3100 0x0A (canaryCount s + 1))

/-- One edge of the Lighthouse clock (R680): a bite's delay runs, or the count steps; what an edge that takes a service,
warns or bites does is the effect of its own command in the same cycle. -/
def canaryEdge (s : State) : State :=
  match s.canary.biting with
  | some k => s.modCanary (fun c => { c with biting := some (k - 1) })
  | none =>
    if canaryPaused s then s
    else if serviceReady s then s.modCanary (fun c => { c with edge := some .service })
    else if canaryLimit s < canaryCount s + 1 then s.modCanary (fun c => { c with edge := some .expiry })
    else if warningNext s then s.modCanary (fun c => { c with edge := some .warning })
    else canaryStep s

/-- R678: the Lighthouse clock over one fabric cycle. -/
def canaryClock (s : State) : State :=
  let p := s.canary.phase + lighthouseRate s * cycleReal s
  if 400000000 ≤ p then canaryEdge (s.modCanary (fun c => { c with phase := p - 400000000 }))
  else s.modCanary (fun c => { c with phase := p })

/-! ### The bite -/

/-- R681: the warden host as 2780h:10h reports it; E0 while no task is the warden. -/
def wardenHost (s : State) : Nat := if s.nat 0x2780 0x0F < 64 then s.nat 0x2780 0x10 else 0

/-- R687: the program counter of an engine that runs or waits. -/
def captureCounter (s : State) (e : Nat) : Word :=
  if s.on 2 ∧ (engineCode s e = 1 ∨ engineCode s e = 2) then (s.eng e).pc else 0xFFFFFFFF

/-- R692: the capture. -/
def canaryCapture (s : State) (cause : Nat) : State :=
  let d2 := fun (v : Word) => if s.on 2 then v else 0xFFFFFFFF
  let s1 := ((s.putN 0x3102 1 cause).putN 0x3102 2 (canaryCount s)).put 0x3102 3 s.canary.lastTime
  let s2 := (s1.putN 0x3102 4 s.canary.lastEngine).put 0x3102 5 (if s.on 2 then BitVec.ofNat 32 (wardenHost s) else 0xFF)
  let s3 := ((s2.put 0x3102 6 (d2 (s.obj 0x3101 5))).put 0x3102 7 (d2 (s.obj 0x3101 6))).put 0x3102 8 (d2 (lo32 s.now))
  (List.range 16).foldl (fun x e => x.put 0x3102 (9 + e) (captureCounter s e)) s3

/-- CANARY_BITE, R686: the Canary enters biting, captures and reports a fatal fault. -/
def canaryBite (s : State) (cause : Nat) : State :=
  ((canaryCapture (s.putN 0x3100 9 3) cause).report 77 .ft).modCanary
    (fun c => { c with biting := some (s.nat 0x3100 6), service := none, edge := none })

/-- R680 rows 3 and 4: the edge takes the waiting service, early or on time. -/
def takeService (s : State) : State :=
  let e := (s.canary.service.map (·.2)).getD 0
  let s1 := s.modCanary (fun c => { c with service := none, edge := none, lastTime := lo32 s.now, lastEngine := e })
  let key : Word := if s.obj 0x3100 0x0B = 0x5AA5 then 0xA55A else 0x5AA5
  let s2 := (((s1.putN 0x3100 0x0A 0).put 0x3100 0x0B key).bump 0x3100 0x0C 32).putN 0x3100 9
    (if s.nat 0x3100 2 = 0 then 2 else 1)
  let s3 := if s.nat 0x3800 1 = 5 then s2.putN 0x3100 0x11 0 else s2
  if canaryCount s < s.nat 0x3100 2 ∧ canaryState s ≠ 0 then canaryBite s1 2 else s3

/-- CANARY_SERVICE_TAKEN, R680: the edge of the present cycle takes the waiting service. -/
def execCanaryServiceTaken (s : State) : Out := when (s.canary.edge == some .service) s (takeService s)

/-- R680 row 6: the count reaches the limit less the warning lead. -/
def canaryWarn (s : State) : State :=
  (((canaryStep s).setBits 0x3100 0x0F 4).d1Event 5).modCanary (fun c => { c with edge := none })

/-- CANARY_WARNING, R680: the edge of the present cycle warns. -/
def execCanaryWarning (s : State) : Out := when (s.canary.edge == some .warning) s (canaryWarn s)

/-- CANARY_EXPIRY, R680 row 5: at the edge of the present cycle the count would exceed its limit. -/
def execCanaryExpiry (s : State) : Out := when (s.canary.edge == some .expiry) s (canaryBite s 1)

/-- R686: the bite's delay has passed: a system reset. -/
def biteReset (s : State) : State :=
  systemReset (((s.bump 0x3100 0x10 16).bump 0x3100 0x11 8).setBits 0x3100 0x0F 16) 1

/-- BITE_DELAY_EXPIRY, R686: the delay has passed. -/
def execBiteDelayExpiry (s : State) : Out :=
  when (canaryState s == 3 && s.canary.biting == some 0) s (biteReset s)

/-- R680, R686: as a cycle ends, what its edge calls for happens if no command told it. -/
def canaryEnd (s : State) : State :=
  match s.canary.edge with
  | some .service => takeService s
  | some .warning => canaryWarn s
  | some .expiry => canaryBite s 1
  | none => if canaryState s = 3 ∧ s.canary.biting = some 0 then biteReset s else s

/-! ### Services and the ledger -/

/-- R684: whether task t is watched. -/
def taskWatched (s : State) (t : Nat) : Bool := s.flag 0x3101 (1 + t / 32) (t % 32) && taskTakes s t

/-- R685: the check-ins of task t in the present cycle, which count towards the next window. -/
def freshCheckIns (s : State) (t : Nat) : Nat := (s.canary.recent.filter (fun p => p == (s.t, t))).length

/-- The check-in count of task t for a judgement of the present cycle. -/
def checkIns (s : State) (t : Nat) : Nat := s.canary.checkIns.getD t 0 - freshCheckIns s t

/-- LEDGER_JUDGEMENT, R685: the missing and the double tasks are recorded and every count becomes 0, but for the check-ins of
the present cycle; whether there is any. -/
def ledgerJudge (s : State) : Bool × State :=
  let missing := (List.range 64).filter (fun t => taskWatched s t && checkIns s t == 0)
  let double := (List.range 64).filter (fun t => taskWatched s t && decide (s.nat 0x3101 0x0A < checkIns s t))
  let m := BitVec.ofNat 64 (maskOf missing)
  let d := BitVec.ofNat 64 (maskOf double)
  (!missing.isEmpty || !double.isEmpty,
    ((s.putPair 0x3101 5 m).putPair 0x3101 7 d).modCanary (fun c => { c with checkIns := (List.range 64).map (freshCheckIns s) }))

/-- R682, R683, R685: the effect of a write of the service. -/
def canaryServiceEff : WEff := fun w _ s =>
  match w.master with
  | .engine e _ =>
    if e.val ≠ wardenHost s ∨ canaryState s = 3 then rej .state ((s.bump 0x3100 0x0D 16).setBits 0x3100 0x0F 2)
    else if w.value ≠ s.obj 0x3100 0x0B then acc (canaryBite s 3)
    else if s.canary.service.isSome then rej .state ((s.bump 0x3100 0x0E 16).setBits 0x3100 0x0F 1)
    else
      let (bad, s1) := ledgerJudge s
      let s2 := s1.modCanary (fun c => { c with service := some (s.real, e.val) })
      if bad = false then acc s2
      else
        match s.nat 0x3101 4 with
        | 0 => acc ((s2.setBits 0x3100 0x0F 8).report 77 .ce)
        | 1 => rej .state (s1.setBits 0x3100 0x0F 8)
        | _ => acc (canaryBite (s1.setBits 0x3100 0x0F 8) 4)
  | _ => rej .state ((s.bump 0x3100 0x0D 16).setBits 0x3100 0x0F 2)

/-- CANARY_SERVICE: a write of 3100h:01h. -/
def execCanaryService (w : Wr) (s : State) : Out := .next (accessWrite s w false 0x3100 1 canaryServiceEff)

/-- R684: the effect of a check-in. -/
def checkInEff : WEff := fun w _ s =>
  let t := w.value.toNat
  let own := match w.master with
    | .engine e _ => (s.eng e.val).xttask.getLsbD 31 && fieldN (s.eng e.val).xttask.toNat 0 6 == t
    | _ => false
  if own then acc (s.modCanary (fun c => { c with 
    checkIns := modAt c.checkIns t (fun n => satN 8 (n + 1)),
    recent := (s.t, t) :: c.recent.filter (fun p => p.1 == s.t) }))
  else rej .state (s.bump 0x3101 9 16)

/-- CHECK_IN: a write of 3101h:03h. -/
def execCheckIn (w : Wr) (s : State) : Out := .next (accessWrite s w false 0x3101 3 checkInEff)

/-- R688: the effect of a write of the lock. -/
def lockEff : WEff := fun w _ s =>
  if w.value = 0 ∧ s.flag 0x3100 7 0 = true then rej .state s else acc (s.put 0x3100 7 w.value)

/-- CANARY_LOCK: a write of 3100h:07h. -/
def execCanaryLock (w : Wr) (s : State) : Out := .next (accessWrite s w false 0x3100 7 lockEff)

/-- R688, R690: the effect of a write of the Canary's other settings. -/
def canaryPlainEff (i j : Nat) : WEff := fun w a s =>
  let locked := s.flag 0x3100 7 0
  if locked = true ∧ i = 0x3100 ∧ ((2 ≤ j ∧ j ≤ 6) ∨ j = 8) then rej .state s
  else if locked = true ∧ i = 0x3101 ∧ (j = 1 ∨ j = 2 ∨ j = 4 ∨ j = 0x0A) then rej .state s
  else if i = 0x3100 ∧ j = 2 ∧ s.nat 0x3100 3 ≤ w.value.toNat then rej .state s
  else if i = 0x3100 ∧ j = 3 ∧ w.value.toNat ≤ s.nat 0x3100 2 then rej .state s
  else
    let (r, s1) := plainWrite i j w a s
    (r, if i = 0x3100 ∧ (j = 2 ∨ j = 3) then canaryWindow s1 else s1)

end Sys2Proof.Machine
end

