-- ==== Sys2Proof/Machine/Clock.lean ====
section
/-! DEFINITION. The clock generator (R81 to R91): its three states, the qualification and loss of XI, the PLL's loss of
lock and the returns. -/
namespace Sys2Proof.Machine

/-- Whether the most recent windows qualify XI, 21B0h:08h (R85). -/
def xiGood (s : State) : Bool := s.flag 0x21B0 8 0

/-- The clock generator's part changed. -/
def State.modClk (s : State) (f : ClockGen → ClockGen) : State := { s with clk := f s.clk }

/-- Backup RC cycles that start-up waits for XI (R84): 20 ms timed as 320 000 of them, each a fabric cycle in state 0h. -/
def xiQualifyLimit : Nat := 320000

/-- R797: the clock runs at start-up: the fuses follow. -/
def clockStarted (s : State) : State := if s.nat 0x3800 1 = 0 then (copyCause s).putN 0x3800 1 1 else s

/-- R85: 100 windows that follow one another, of 160 cycles of the backup RC each, have counted 225 to 275 edges. -/
def xiQualifies (s : State) (edges : List Nat) : Bool :=
  decide (100 ≤ edges.length) && (edges.drop (edges.length - 100)).all (fun n => decide (225 ≤ n) && decide (n ≤ 275)) &&
  decide (s.clk.xiFrom + realUs 1000 ≤ s.real)

/-- XI_QUALIFIED, R84, R85: XI qualifies; in start-up within 20 ms the PLL locks to it and state 1h is entered. -/
def execXiQualified (edges : List Nat) (s : State) : Out :=
  let s1 := s.putN 0x21B0 8 1
  when (xiQualifies s edges) s
    (if clockState s = 0 ∧ s.clk.unlocked = false ∧ s.t ≤ xiQualifyLimit then clockStarted (s1.putN 0x21B0 1 1) else s1)

/-- XI_QUALIFY_TIMEOUT, R84: start-up has waited 20 ms and the PLL locks on the backup RC. -/
def execXiQualifyTimeout (s : State) : Out :=
  when (clockState s == 0 && !s.clk.unlocked && decide (xiQualifyLimit ≤ s.t)) s (clockStarted (s.putN 0x21B0 1 2))

/-- R86: whether a test finds XI lost. -/
def xiLost : XiTest → Bool
  | .over n => decide (276 ≤ n)
  | .under n => decide (n < 225)
  | .silent k => decide (7 ≤ k)

/-- XI_LOSS, R86, R87: in state 1h the reference moves to the backup RC, state 2h is entered, the loss is counted and
reported UC from FS0. In any state XI no longer reads qualified, and its windows start anew (R85). -/
def execXiLoss (test : XiTest) (s : State) : Out :=
  let s1 := (s.putN 0x21B0 8 0).modClk (fun c => { c with xiFrom := s.real })
  when (xiLost test) s (if clockState s = 1 then
      (((s1.putN 0x21B0 1 2).bump 0x21B0 5 16).modClk (fun c => { c with returnAt := none })).report 0 .uc
    else s1)

/-- PLL_UNLOCK, R89: fCLK moves to the backup RC, state 0h is entered, the CAN clock (R478) and the converter clock (R548)
stop, the loss is counted and reported FT from FS0. The model's choice: a return that waits is dropped and not counted. -/
def execPllUnlock (s : State) : Out :=
  when (clockState s == 1 || clockState s == 2) s
    ((convertersAbort (canClockStop (((s.putN 0x21B0 1 0).bump 0x21B0 6 16).modClk (fun c => { c with
      unlocked := true, relock := none, returnAt := none })))).report 0 .ft)

/-- R88, R90, R91: the effect of a write of 1h to the return request. In state 2h it returns at once when XI has
qualified and otherwise waits; in state 0h entered under R89 it restarts the PLL; elsewhere it is ignored. The model's
choices: a second request while one waits starts its 100 ms anew, and one during a relock is ignored. -/
def returnEff : WEff := fun _ _ s =>
  if clockState s = 2 then
    let s1 := s.modClk (fun c => { c with xiMode := s.nat 0x21B0 2 })
    acc (if xiGood s then (s1.putN 0x21B0 1 1).modClk (fun c => { c with returnAt := none })
      else s1.modClk (fun c => { c with returnAt := some s.t }))
  else if clockState s = 0 ∧ s.clk.unlocked = true ∧ s.clk.relock = none then
    acc (s.modClk (fun c => { c with relock := some (s.t, xiGood s), xiMode := s.nat 0x21B0 2 }))
  else acc s

/-- RETURN_REQUEST: a write of 21B0h:04h. -/
def execReturnRequest (w : Wr) (s : State) : Out := .next (accessWrite s w false 0x21B0 4 returnEff)

/-- AUTOMATIC_RETURN, R88: in state 2h with XI qualified, automatic return 1 or a return requested, state 1h. -/
def execAutomaticReturn (s : State) : Out :=
  when (clockState s == 2 && xiGood s && (s.flag 0x21B0 3 0 || s.clk.returnAt.isSome)) s
    ((s.putN 0x21B0 1 1).modClk (fun c => { c with returnAt := none }))

/-- The cycles within which a restarted PLL locks or fails (R90): 100 µs of state 0h, whose fCLK is 16 MHz (R82). -/
def relockLimit : Nat := 1600

/-- The cycles after which a requested return is dropped (R88): 100 ms. -/
def returnLimit : Nat := cyclesMs 100

/-- PLL_RELOCK, R90: the restarted PLL locks; state 1h when XI qualified at the request, state 2h otherwise; the CAN clock
and the drivers start (R478, R565). -/
def execPllRelock (s : State) : Out :=
  match s.clk.relock with
  | some (t0, q) =>
    when (clockState s == 0 && !s.passed t0 (relockLimit + 1)) s
      (restartDrivers (canClockStart ((s.putN 0x21B0 1 (if q then 1 else 2)).modClk
        (fun c => { c with unlocked := false, relock := none, returnAt := none }))))
  | none => .next s

/-- RETURN_FAILURE, R88, R90: a return not met within 100 ms, or a relock within 100 µs, is counted and dropped. -/
def execReturnFailure (s : State) : Out :=
  match s.clk.relock, s.clk.returnAt with
  | some (t0, _), _ =>
    when (s.passed t0 relockLimit) s ((s.bump 0x21B0 7 16).modClk (fun c => { c with relock := none }))
  | none, some t0 =>
    when (s.passed t0 returnLimit) s ((s.bump 0x21B0 7 16).modClk (fun c => { c with returnAt := none }))
  | none, none => .next s

end Sys2Proof.Machine
end

