-- ==== Sys2Proof/Machine/Collector.lean ====
section
/-! DEFINITION. The fault collector and Harbour (R693 to R715, R849). -/
namespace Sys2Proof.Machine

/-- The collector changed. -/
def State.modCol (s : State) (f : Collector → Collector) : State := { s with col := f s.col }

/-- The class codes of the log (R703). -/
def FClass.code : FClass → Nat
  | .ce => 1
  | .uc => 2
  | .ft => 3

/-- R694: the order within one source: FT, UC, CE. -/
def FClass.rank : FClass → Nat
  | .ft => 0
  | .uc => 1
  | .ce => 2

/-- R694, R695: the sources whose reports go in ascending order of member: groups, indexed sources and FS57. -/
def sourceIndexed (f : Nat) : Bool :=
  (decide (8 ≤ f) && decide (f ≤ 15)) || (decide (16 ≤ f) && decide (f ≤ 21)) || (decide (24 ≤ f) && decide (f ≤ 35)) ||
    f == 57 || f == 71 || f == 80 || f == 85 || f == 86

/-- The place of a report among those of its cycle. -/
def reportKey (r : Report) : Nat :=
  (r.src * 4 + r.cls.rank) * 65536 + (if sourceIndexed r.src then r.detail else 0)

/-- A report put behind those that go before it or stand equal. -/
def insertReport (r : Report) : List Report → List Report
  | [] => [r]
  | a :: t => if reportKey r < reportKey a then r :: a :: t else a :: insertReport r t

/-- The reports of one cycle in their order. -/
def sortReports (l : List Report) : List Report := l.foldl (fun acc r => insertReport r acc) []

/-- R694: of the reports of one cycle in their order, the first of each source and class; the others follow a cycle
later. -/
def splitReports : List Report → List Report × List Report
  | [] => ([], [])
  | r :: t =>
    let p := splitReports t
    let dup := p.1.filter (fun a => a.src == r.src && a.cls == r.cls)
    (r :: p.1.filter (fun a => !(a.src == r.src && a.cls == r.cls)),
      dup.map (fun a => { a with time := a.time + 1 }) ++ p.2)

/-- R694: the reports that the collector takes together, and those that remain. -/
def nextReports (l : List Report) : List Report × List Report :=
  match l with
  | [] => ([], [])
  | r :: t =>
    let t0 := t.foldl (fun m a => min m a.time) r.time
    let p := splitReports (sortReports (l.filter (fun a => a.time == t0)))
    (p.1, p.2 ++ l.filter (fun a => a.time != t0))

/-- The action word of FSf (R696). -/
def actionWord (s : State) (f : Nat) : Nat := s.nat 0x3201 (1 + f)

/-- R697, R698, R711: the action code of a report; Fh is the Harbour entry of an FT report. -/
def actionOf (s : State) (r : Report) : Nat :=
  match r.cls with
  | .ft => 15
  | .uc => fieldN (actionWord s r.src) 8 4
  | .ce => if r.src = 78 then 0 else fieldN (actionWord s r.src) 0 4

/-- R703: the log entry of a report. -/
def logEntry (s : State) (r : Report) : DWord :=
  dw (BitVec.ofNat 32 (r.src % 128 * 2 ^ 24 + r.cls.code * 2 ^ 22 + actionOf s r * 2 ^ 18 + r.detail % 65536)) (lo32 s.now)

/-- R702: the pending bit of a report, and the collector's memory of an FT report. -/
def setReportPending (s : State) (r : Report) : State :=
  match r.cls with
  | .ce => s.setBits 0x3202 (5 + r.src / 32) (2 ^ (r.src % 32))
  | .uc => s.setBits 0x3202 (1 + r.src / 32) (2 ^ (r.src % 32))
  | .ft => (s.setBits 0x3202 (1 + r.src / 32) (2 ^ (r.src % 32))).modCol (fun c =>
      { c with ft := if c.ft.contains r.src then c.ft else r.src :: c.ft })

/-- R703: the report is logged, or counted where the log is full. -/
def logReport (s : State) (e : DWord) : State :=
  if s.col.log.length < 64 then (s.modCol (fun c => { c with log := c.log ++ [e] })).setBits 0x3200 0x0E 1
  else s.bump 0x3200 0x0F 16

/-- R704: the report enters the post FIFO, or is counted where that is full. -/
def queueReportPost (s : State) (e : DWord) : State :=
  let t := s.nat 0x3200 0x13
  if t = 0xFF then s
  else if s.col.posts.length < 16 then s.modCol (fun c => { c with posts := c.posts ++ [(t, e)] })
  else s.bump 0x3200 0x14 16

/-- R489: the EMCY of a report. -/
def reportEmcy (s : State) (r : Report) : State :=
  if r.cls = .ce ∧ s.flag 0x2A20 0x0B 0 = false then s else emcy s (actionWord s r.src / 65536) r.src r.cls.code

/-- R694, R702 to R704, R489: one report is taken. -/
def takeReport (s : State) (r : Report) : State :=
  let e := logEntry s r
  let s1 := setReportPending (s.bump 0x3200 0x11 32) r
  let s2 := if r.cls = .ce then s1 else s1.modCol (fun c => { c with lastBad := s.real })
  reportEmcy (queueReportPost (logReport s2 e) e) r

/-! ### Harbour -/

/-- R699: the fault records with OWNER 1h of rail r's members go to its supervisor level. -/
def ownMembers (s : State) (r : Nat) : State := (railMembers s r).foldl takeOwner s

/-- The rails that run or wind down. -/
def activeRails (s : State) : List Nat := (List.range 12).filter (fun r => railStatus s r != 0)

/-- R697 action 2h, R699: every rail stops. -/
def stopRails (s : State) : State :=
  if s.on 5 then settleAll ((activeRails s).foldl (fun s r => stopRail (ownMembers s r) r) s) else s

/-- R697 action 1h, R699: every running rail winds down. -/
def windRails (s : State) : State :=
  if s.on 5 then
    settleAll (((activeRails s).filter (fun r => railStatus s r == 1)).foldl (fun s r => windRail (ownMembers s r) r) s)
  else s

/-- R705, R706: what Harbour does on entry from normal: rails stop as if by the power path, and the sequencer acts. -/
def harbourOutputs (s : State) : State :=
  let s1 := if s.on 5 then
      settleAll (noteBound ((activeRails s).foldl (fun s r => stopRail (ownMembers s r) r) s)) else s
  settleLines (downAction s1 (s.nat 0x3200 0x0D))

/-- HARBOUR_ENTRY, R698, R705, R849: an entry with its cause and source. -/
def enterHarbour (s : State) (cause src : Nat) : State :=
  if inHarbour s ∧ s.nat 0x3200 2 ≠ 0 then s
  else
    let s1 := ((((s.putN 0x3200 1 1).putN 0x3200 2 cause).putN 0x3200 3 src).put 0x3200 4 (lo32 s.now)).bump 0x3200 0x0A 16
    let s2 := (s1.setBits 0x3200 0x0E 2).modCol (fun c => { c with entered := s.real, lastBad := s.real })
    if inHarbour s then settleLines s2 else harbourOutputs s2

/-- R710: the collector leaves Harbour. -/
def leaveHarbour (s : State) : State :=
  let s1 := ((s.putN 0x3200 1 0).setBits 0x3200 0x0E 4).modCol (fun c => { c with outside := s.real })
  settleAll (settleLines (emcy s1 0 0xFF 0))

/-! ### Reports -/

/-- R412, R697 action 4h: unit resets of the engines named. -/
def resetEngines (s : State) (l : List (Nat × Nat)) : State :=
  l.foldl (fun s p => if p.2 = 4 ∧ 40 ≤ p.1 ∧ p.1 ≤ 55 then requestUnitReset s (p.1 - 40) true else s) s

/-- R697, R706: the actions 1h to 4h among those of one cycle, as (source, action); Harbour displaces the first two, and
in Harbour none has an effect. -/
def lesserActs (s : State) (l : List (Nat × Nat)) (harbour : Bool) : State :=
  let has := fun a => l.any (fun p => p.2 == a)
  if inHarbour s then s
  else
    let s1 := if harbour then s else if has 2 then stopRails s else if has 1 then windRails s else s
    resetEngines (if has 3 then startDown s1 false else s1) l

/-- R697, R698, R708, R711: the entries to Harbour that a cycle calls for, as (cause, source): the lowest cause acts. -/
def harbourCalls (c : Collector) : Option (Nat × Nat) :=
  let l := (c.acts.filter (fun p => p.2 == 15)).map (fun p => (1, p.1)) ++ c.enter.filter (fun p => p.1 == 2) ++
    (c.acts.filter (fun p => p.2 == 5)).map (fun p => (3, p.1)) ++ c.enter.filter (fun p => p.1 != 2)
  l.head?

/-- R697, R700, R708: in the cycle after, a system reset, or the actions with an entry to Harbour, or else a release. -/
def collectorBegin (s : State) : State :=
  let c := s.col
  let s1 := s.modCol (fun c => { c with acts := [], enter := [], release := false })
  if c.acts = [] ∧ c.enter = [] ∧ c.release = false then s
  else if c.acts.any (fun p => p.2 == 6) then systemReset s1 2
  else
    let s2 := lesserActs s1 c.acts (harbourCalls c).isSome
    match harbourCalls c with
    | some (cause, src) => enterHarbour s2 cause src
    | none => if c.release = true ∧ inHarbour s2 = true then leaveHarbour s2 else s2

/-- R694: the collector takes the reports that reach it in one cycle; their actions follow in the next (R697). -/
def takeReports (s : State) : State :=
  let p := nextReports s.raised
  let acts := p.1.map (fun r => (r.src, actionOf s r))
  (p.1.foldl takeReport { s with raised := p.2 }).modCol (fun c => { c with taken := some s.t, acts := c.acts ++ acts })

/-- FAULT_REPORT, R694: the reports raised in one cycle reach the collector, once a cycle. -/
def execFaultReport (s : State) : Out :=
  when (s.on 2 && s.col.taken != some s.t && (nextReports s.raised).1.any (fun r => decide (r.time ≤ s.t))) s
    (takeReports s)

/-- R694: as a cycle ends, reports raised three cycles ago are taken if no command told it. -/
def collectorEnd (s : State) : State :=
  if s.on 2 = true ∧ s.col.taken ≠ some s.t ∧ (nextReports s.raised).1.any (fun r => decide (r.time + 3 ≤ s.t)) = true then
    takeReports s
  else s

/-- R704: the oldest post leaves the FIFO for role 0 of its task, or is discarded. -/
def handFault (s : State) : State :=
  match s.col.posts with
  | [] => s
  | (t, e) :: rest =>
    let s1 := { s.modCol (fun c => { c with posts := rest }) with cyc := { s.cyc with faultHanded := true } }
    match roleQueue s t 0 with
    | some q =>
      if taskTakes s t then { s1 with postNet := s1.postNet ++ [{ src := 9, queue := q, entry := e, quiet := true }] }
      else s1.bump 0x3200 0x14 16
    | none => s1.bump 0x3200 0x14 16

/-- FAULT_POST, R704: the FIFO hands over one post in a cycle. -/
def execFaultPost (s : State) : Out := when (s.on 2 && !s.cyc.faultHanded) s (handFault s)

/-! ### Commands and times -/

/-- R708: the effect of a write of 1h to the release, which leaves Harbour in the next cycle; R708's authentication stands
with the access checks. -/
def releaseHarbourEff : WEff := fun _ _ s =>
  if s.col.ft ≠ [] then rej .state s
  else acc ((s.putN 0x3200 9 0).modCol (fun c => { c with release := inHarbour s }))

/-- HARBOUR_RELEASE: a write of 3200h:0Bh. -/
def execHarbourRelease (w : Wr) (s : State) : Out := .next (accessWrite s w false 0x3200 0x0B releaseHarbourEff)

/-- R708: the effect of a write of 1h to the enter command, which acts in the next cycle. -/
def enterHarbourEff : WEff := fun _ _ s => acc (s.modCol (fun c => { c with enter := c.enter ++ [(4, 0xFF)] }))

/-- HARBOUR_ENTER_COMMAND: a write of 3200h:0Ch. -/
def execHarbourEnterCommand (w : Wr) (s : State) : Out := .next (accessWrite s w false 0x3200 0x0C enterHarbourEff)

/-- HARBOUR_AUTOMATIC_EXIT, R709: no UC or FT report for the quiet time. -/
def execHarbourAutomaticExit (s : State) : Out :=
  let cause := s.nat 0x3200 2
  when (s.on 2 && inHarbour s && (cause == 1 || cause == 3) && s.flag 0x3200 5 0 &&
      decide (s.nat 0x3200 9 < s.nat 0x3200 7) &&
      decide (max s.col.entered s.col.lastBad + realMs (s.nat 0x3200 6) ≤ s.real) && (harbourCalls s.col).isNone) s
    (leaveHarbour (s.bump 0x3200 9 8))

/-- RECOVERY_WINDOW_EXPIRY, R709: a recovery window spent out of Harbour. -/
def execRecoveryWindowExpiry (s : State) : Out :=
  let w := realMs (1000 * s.nat 0x3200 8)
  when (s.on 2 && !inHarbour s && decide (s.col.outside + w ≤ s.real)) s
    ((s.sub 0x3200 9 1).modCol (fun c => { c with outside := c.outside + w }))

/-- R711: a damaged word of the collector's storage is rewritten with its reset value, or with zero. -/
def rewriteStore (s : State) : CollectorWord → State
  | .action f => s.put 0x3201 (1 + f.val) (actionDefault f.val)
  | .pending k => (s.put 0x3202 (1 + k.val) 0).modCol (fun c =>
      { c with ft := if k.val < 4 then c.ft.filter (fun f => f / 32 != k.val) else c.ft })
  | .log n => s.modCol (fun c => { c with log := modAt c.log n.val (fun _ => 0) })

/-- COLLECTOR_STORAGE_ERROR, R711: a single-bit error is corrected and reported; a double-bit error enters Harbour with
cause 2h in the next cycle. -/
def execCollectorStorageError (x : CollectorWord) (double : Bool) (s : State) : Out :=
  when (s.on 2) s
    (if double then ((rewriteStore s x).setBits 0x3200 0x0E 8).modCol (fun c => { c with enter := c.enter ++ [(2, 0xFF)] })
     else (s.bump 0x3200 0x10 16).report 78 .ce)

/-- R715: the effect of a write of the firmware report. -/
def firmwareReportEff : WEff := fun w _ s =>
  let v := w.value.toNat
  let cls : FClass := match fieldN v 22 2 with
    | 1 => .ce
    | 2 => .uc
    | _ => .ft
  acc (s.report (120 + fieldN v 16 3) cls (fieldN v 0 16))

/-- FIRMWARE_REPORT: a write of 3204h:01h. -/
def execFirmwareReport (w : Wr) (s : State) : Out := .next (accessWrite s w false 0x3204 1 firmwareReportEff)

/-- R702, R709, R713, R714: the effect of a write of the collector's other objects; clearing a UC and FT bit clears the
memory of an FT report with it. -/
def collectorPlainEff (i j : Nat) : WEff := fun w a s =>
  let (res, s1) := plainWrite i j w a s
  if i = 0x3202 ∧ j ≤ 4 then
    (res, s1.modCol (fun c => { c with ft := c.ft.filter (fun f => !(f / 32 == j - 1 && w.value.getLsbD (f % 32))) }))
  else (res, s1)

/-- R714: the oldest entry leaves the log. -/
def popLog (s : State) : State := s.modCol (fun c => { c with log := c.log.tail })

end Sys2Proof.Machine
end

