-- ==== Sys2Proof/Machine/Counters.lean ====
section
/-! DEFINITION. The performance counters (R777 to R785). -/
namespace Sys2Proof.Machine

/-- The object of counting block b (R785). -/
def blockIdx (b : Nat) : Nat := 0x3610 + b

/-- R778: the event number of counter n. -/
def counterEvent (s : State) (n : Nat) : Nat := s.nat (blockIdx (n / 8)) (4 + n % 8)

/-- R777: counter n's count. -/
def counterValue (s : State) (n : Nat) : Nat := (s.pair (blockIdx (n / 8)) (0x0C + 2 * (n % 8))).toNat

/-- R778: an engine whose events can occur. -/
def engineCounts (s : State) (e : Nat) : Bool := s.engineAdmitted e && s.on (clusterDomain e)

/-- R778: the phases from a list whose events can occur. -/
def phasesCount (s : State) (l : List Nat) : Nat := if s.on 5 then (l.filter s.phaseAdmitted).length else 0

/-- R778: how often event v can occur in one fabric cycle. -/
def eventMax (s : State) (v : Nat) : Nat :=
  let d := fun k n => if s.on k then n else 0
  if v = 1 ∨ v = 2 then 1
  else if 0x10 ≤ v ∧ v < 0x30 then (if engineCounts s (v % 16) then 1 else 0)
  else if v = 0x30 then ((List.range 16).filter (engineCounts s)).length
  else if v = 0x31 ∨ v = 0x32 ∨ v = 0x34 then 1
  else if v = 0x33 then 31
  else if v = 0x35 then 32
  else if 0x40 ≤ v ∧ v ≤ 0x45 then phasesCount s ((List.range 8).map (fun k => 8 * (v - 0x40) + k))
  else if 0x46 ≤ v ∧ v ≤ 0x48 then phasesCount s (List.range 48)
  else if v = 0x50 then d 5 1024
  else if v = 0x51 then d 5 1
  else if v = 0x58 ∨ v = 0x59 then d 5 64
  else if 0x60 ≤ v ∧ v ≤ 0x63 then d 7 1
  else if v = 0x64 ∨ v = 0x65 then 5
  else if v = 0x68 then d 6 4
  else if v = 0x70 then 384
  else if v = 0x71 then 40
  else 0

/-- R47, R779: counter n adds k and wraps with its overflow bit and a report. -/
def addCount (s : State) (n k : Nat) : State :=
  let i := blockIdx (n / 8)
  let v := counterValue s n + k
  let s1 := (s.noteCount (objKey i (0x0C + 2 * (n % 8))) (s.pair i (0x0C + 2 * (n % 8)))
    (fun c => BitVec.ofNat 64 ((c.toNat + k) % 2 ^ 48))).putPair i (0x0C + 2 * (n % 8)) (BitVec.ofNat 64 (v % 2 ^ 48))
  if v < 2 ^ 48 then s1 else (s1.setBits i 2 (2 ^ (n % 8))).report 85 .ce n

/-- R47, R780: a count written as a pair takes the value and what the cycle's events have added to it, and may wrap. -/
def countWriteEff (i j : Nat) : DWord → WEff := fun v w a s =>
  match s.cycleCount (objKey i j) with
  | some c =>
    let n := (v.toNat % 2 ^ 48) + c.alone.toNat
    let s1 := s.putPair i j (BitVec.ofNat 64 (n % 2 ^ 48))
    acc (if n < 2 ^ 48 then s1 else (s1.setBits i 2 (2 ^ ((j - 0x0C) / 2))).report 85 .ce ((i - 0x3610) * 8 + (j - 0x0C) / 2))
  | none => plainPair i j v w a s

/-- R778: how much counter n has counted in the present cycle. -/
def countedNow (s : State) (n : Nat) : Nat :=
  match s.cycleCount (objKey (blockIdx (n / 8)) (0x0C + 2 * (n % 8))) with
  | some c => c.alone.toNat
  | none => 0

/-- R777, R780: whether counter n is enabled. -/
def counterOn (s : State) (n : Nat) : Bool := s.on 2 && s.flag (blockIdx (n / 8)) 1 (n % 8)

/-- COUNTER_EVENT, R778, R779: counter n's event has occurred k times more in the cycle. -/
def execCounterEvent (n : Fin 96) (k : BitVec 11) (s : State) : Out :=
  when (counterOn s n && decide (countedNow s n + k.toNat ≤ eventMax s (counterEvent s n.val))) s (addCount s n.val k.toNat)

/-- R778: the events that are a level of the whole cycle: the cycle itself, its tick, an engine that waits. -/
def levelEvent (s : State) (v : Nat) : Bool :=
  v == 1 || (v == 2 && s.ticked) ||
    (decide (0x20 ≤ v) && decide (v < 0x30) && engineCounts s (v - 0x20) && engineCode s (v - 0x20) == 2)

/-- R778: as a cycle ends, what no command has told of it is counted. -/
def countersEnd (s : State) : State :=
  (List.range 96).foldl (fun s n =>
    if counterOn s n && levelEvent s (counterEvent s n) && countedNow s n == 0 then addCount s n 1 else s) s

/-- R781: the counts of block b copied to its snapshots. -/
def snapshotBlock (s : State) (b : Nat) : State :=
  (List.range 16).foldl (fun s k => s.put (blockIdx b) (0x1C + k) (s.obj (blockIdx b) (0x0C + k))) s

/-- R781: the effect of a write of the snapshot mask, which acts in the next cycle. -/
def snapshotEff : WEff := fun w _ s =>
  acc { s with life := { s.life with snapshot := s.life.snapshot ||| w.value.toNat % 4096 } }

/-- R781: the snapshots that a write of the last cycle asked for. -/
def snapshotBegin (s : State) : State :=
  if s.life.snapshot = 0 then s
  else
    let s1 := (bitsSet 12 s.life.snapshot).foldl snapshotBlock (s.putPair 0x3600 2 s.now)
    { s1 with life := { s1.life with snapshot := 0 } }

/-- SNAPSHOT_MASK_WRITE: a write of 3600h:01h. -/
def execSnapshotMaskWrite (w : Wr) (s : State) : Out := .next (accessWrite s w false 0x3600 1 snapshotEff)

end Sys2Proof.Machine
end

