-- ==== Sys2Proof/Machine/Interrupts.lean ====
section
/-! DEFINITION. The interrupt controller (R659 to R670): claims, completes, software sources and coalescing. -/
namespace Sys2Proof.Machine

/-- The object of target x (R675). -/
def targetIdx (x : Nat) : Nat := 0x3010 + x

/-- The object of group g (R676). -/
def groupIdx (g : Nat) : Nat := 0x3040 + g

/-- The controller beyond its objects changed. -/
def State.modIrq (s : State) (f : Interrupts → Interrupts) : State := { s with irq := f s.irq }

/-- R665, R669: what a read of target x's claim returns and does. -/
def claimRead (s : State) (x : Nat) : Word × State :=
  if s.flag 0x3000 1 0 = false then (0, s)
  else
    match candidate s x with
    | some n =>
      (BitVec.ofNat 32 (fieldN (sourceConfig s n) 28 4 * 256 + n),
        ((s.bump 0x3000 4 32).bump (targetIdx x) 6 32).modIrq (fun q => { q with claims := q.claims ++ [(n, x)] }))
    | none => (0, (s.bump 0x3000 2 32).bump (targetIdx x) 7 16)

/-- R666: the effect of a complete. -/
def completeEff (x : Nat) : WEff := fun w _ s =>
  let n := w.value.toNat
  if s.irq.claims.contains (n, x) then acc (s.modIrq (fun q => { q with claims := q.claims.erase (n, x) }))
  else rej .state (s.bump 0x3000 3 16)

/-- INTERRUPT_COMPLETE: a write of 3010h + x:04h. -/
def execInterruptComplete (x : Fin 16) (w : Wr) (s : State) : Out :=
  .next (accessWrite s w false (targetIdx x.val) 4 (completeEff x.val))

/-- R662: the effect of a software set. -/
def softSetEff : WEff := fun w _ s => acc (s.setBits 0x3000 7 (w.value.toNat % 65536))

/-- SOFTWARE_SET: a write of 3000h:05h. -/
def execSoftwareSet (w : Wr) (s : State) : Out := .next (accessWrite s w false 0x3000 5 softSetEff)

/-- R662: the effect of a software clear; what a set of the same cycle has asserted stays. -/
def softClearEff : WEff := fun w _ s =>
  acc (s.put 0x3000 7 (s.obj 0x3000 7 &&& ~~~ w.value ||| s.cycleBits (objKey 0x3000 7)))

/-- SOFTWARE_CLEAR: a write of 3000h:06h. -/
def execSoftwareClear (w : Wr) (s : State) : Out := .next (accessWrite s w false 0x3000 6 softClearEff)

/-- R667, R668: group g opens. -/
def openGroup (s : State) (g : Nat) : State := (s.putN (groupIdx g) 3 2).bump (groupIdx g) 5 32

/-- GROUP_GATHER, R667, R668: the level of member n of group g has risen. -/
def execGroupGather (g : Fin 32) (n : Fin 256) (s : State) : Out :=
  let i := groupIdx g
  let others := ((groupMembers s g).filter (· != n.val)).any (sourceLevel s)
  let idle := s.nat i 3 == 0 || (s.nat i 3 == 2 && !others)
  let k := if idle then 1 else satN 8 (s.nat i 4 + 1)
  let rises := sourceLevel s n && !(s.irq.levels.headD 0).getLsbD n && !s.irq.edges.contains n.val
  let s1 := ((s.putN i 3 1).putN i 4 k).modIrq (fun q => { q with edges := n.val :: q.edges })
  let s2 := if idle then s1.modIrq (fun q => { q with gatherAt := q.gatherAt.set g.val s.t }) else s1
  when (s.on 2 && !groupFree s g && sourceNamed n && rises && (groupMembers s g).contains n.val &&
      (idle || s.nat i 3 == 1)) s
    (if s.nat i 1 ≠ 0 ∧ s.nat i 1 ≤ k then openGroup s2 g else s2)

/-- R664, R668: the controller as a fabric cycle ends: the levels are noted, and an open group without an asserted member
is idle again. -/
def irqEnd (s : State) : State :=
  if s.on 2 = false then s
  else
    let l := BitVec.ofNat 256 (maskOf ((List.range 256).filter (sourceLevel s)))
    let s1 := (List.range 32).foldl (fun s g =>
      if s.nat (groupIdx g) 3 = 2 ∧ groupState s g = 0 then s.putN (groupIdx g) 3 0 else s) s
    s1.modIrq (fun q => { q with levels := (l :: q.levels).take 3, edges := [] })

/-- GROUP_TIME_LIMIT, R667: the time limit of a gathering group has passed. -/
def execGroupTimeLimit (g : Fin 32) (s : State) : Out :=
  let i := groupIdx g
  when (s.on 2 && s.nat i 3 == 1 && s.nat i 2 != 0 &&
      decide (s.irq.gatherAt.getD g.val 0 + cyclesUs (s.nat i 2) ≤ s.t)) s
    (openGroup s g)

/-- R660, R668, R671, R674, R675: the effect of a write of the controller's other objects and of the Lighthouse. -/
def irqPlainEff (i j : Nat) : WEff := fun w a s =>
  let v := w.value.toNat
  if i = 0x3020 ∧ (0x20 ≤ fieldN v 22 6 ∧ fieldN v 22 6 ≤ 0x3E) then rej .range s
  else if i = 0x3020 ∧ sourceNamed j = false then rej .state s
  else if 0x3010 ≤ i ∧ i ≤ 0x301F ∧ j = 1 ∧ fieldN v 8 2 = 1 ∧ 16 ≤ fieldN v 0 6 then rej .range s
  else if i = 0x3080 ∧ j ≤ 0x20 ∧ bitN v 8 = true ∧ ¬(1 ≤ fieldN v 0 8 ∧ fieldN v 0 8 ≤ 5) then rej .range s
  else
    let (res, s1) := plainWrite i j w a s
    if 0x3040 ≤ i ∧ i ≤ 0x305F ∧ s.nat i 3 = 1 then
      (res, (s1.putN i 4 0).modIrq (fun q => { q with gatherAt := q.gatherAt.set (i - 0x3040) s.t }))
    else (res, s1)

end Sys2Proof.Machine
end

