-- ==== Sys2Proof/Machine/JournalSlots.lean ====
section
/-! DEFINITION. The journal's slots (R748 to R750), what each holder puts into its record and takes from it (R456, R646,
R647, R753, R757, R792, R797). -/
namespace Sys2Proof.Machine

/-- R748, R754: the address and the size in bytes of a slot of record r, B where `b`; a firmware record without a layout
has none. -/
def slotPlace (s : State) (r : Nat) (b : Bool) : Nat × Nat :=
  if r < 8 then (0x20000000 + 256 * (8 * r + if b then 4 else 0), 1024)
  else
    let l := s.nat 0x3450 (1 + r)
    let size := fieldN l 0 10
    (0x20000000 + 256 * (fieldN l 16 10 + if b then size else 0), 256 * size)

/-- R749: LENGTH of the slot at address a. -/
def slotLength (s : State) (a : Nat) : Nat := fieldN (s.memWord a).toNat 16 16

/-- R749: SEQUENCE of the slot at address a. -/
def slotSequence (s : State) (a : Nat) : Word := s.memWord (a + 4)

/-- R749: the check that belongs to a slot's payload and first two words. -/
def slotCheck (s : State) (a : Nat) : Word :=
  assayerCheck (s.memBytes (a + 16) (slotLength s a) ++ s.memBytes a 8) ((slotSequence s a).toNat % 65536)

/-- R750: whether a slot of record r is complete. -/
def slotComplete (s : State) (r : Nat) (b : Bool) : Bool :=
  let (a, size) := slotPlace s r b
  decide (0 < size) && decide (fieldN (s.memWord a).toNat 0 8 = r) && decide (slotLength s a ≤ size - 16) &&
  decide (s.memWord (a + 8) = slotCheck s a) && decide (s.memWord (a + 12) = ~~~ s.memWord (a + 8)) &&
  !s.ecc.double.any (fun w => decide (a ≤ w) && decide (w < a + size))

/-- R750: the newer slot of record r, B where true, none where the record holds nothing. -/
def newerSlot (s : State) (r : Nat) : Option Bool :=
  match slotComplete s r false, slotComplete s r true with
  | false, false => none
  | true, false => some false
  | false, true => some true
  | true, true =>
    some (decide (0 < angDiff (slotSequence s (slotPlace s r true).1) (slotSequence s (slotPlace s r false).1)))

/-- The address of record r's newer slot. -/
def newerPlace (s : State) (r : Nat) : Option Nat := (newerSlot s r).map (fun b => (slotPlace s r b).1)

/-- The payload words of the slot at address a (R749). -/
def slotPayload (s : State) (a : Nat) : List Word :=
  (List.range (slotLength s a / 4)).map (fun k => s.memWord (a + 16 + 4 * k))

/-- R371, R372: the errors that the words of record r's slots give as they are read. -/
def readSlots (s : State) (r : Nat) : State :=
  let hit := fun (b : Bool) (w : Nat) =>
    decide ((slotPlace s r b).1 ≤ w) && decide (w < (slotPlace s r b).1 + (slotPlace s r b).2)
  ((s.ecc.single ++ s.ecc.double).filter (fun w => hit false w || hit true w)).foldl
    (fun x w => (eccRead x .journal w).1) s

/-- R764: the state words of record r. -/
def showRecord (s : State) (r : Nat) : State :=
  match newerSlot s r with
  | none => (s.putN 0x3451 (1 + r) 0).putN 0x3452 (1 + r) 0
  | some b =>
    let q := slotSequence s (slotPlace s r b).1
    (s.putN 0x3451 (1 + r) ((if b then 2 else 1) * 2 ^ 30 + q.toNat % 65536)).put 0x3452 (1 + r) q

/-! ### Payloads -/

/-- The words of an object from subindex j on. -/
def objWords (s : State) (i j n : Nat) : List Word := (List.range n).map (fun k => s.obj i (j + k))

/-- The words of an object from subindex j on, loaded from a payload that begins at word p. -/
def loadWords (s : State) (i j n : Nat) (l : List Word) (p : Nat) : State :=
  (List.range n).foldl (fun s k => s.put i (j + k) (l.getD (p + k) 0)) s

/-- The Journal-default subindexes of an indicator (R794). -/
def indicatorSubs : List Nat := [1, 3, 4, 5, 6, 7, 8, 9, 0x0A, 0x0B, 0x0C, 0x0D, 0x0E, 0x11]

/-- R646: what the gauge puts into record 3. -/
def gaugePayload (s : State) : List Word :=
  let qe := BitVec.ofInt 64 (clamp64 (tdiv s.gauge.qe chargeUnit))
  objWords s 0x2F00 3 6 ++ [s.obj 0x2F02 1] ++ objWords s 0x2F05 1 18 ++ objWords s 0x2F06 1 16 ++
    [lo32 qe, hi32 qe, s.obj 0x3300 1] ++ objWords s 0x2F07 1 18 ++ objWords s 0x2F08 1 16

/-- R753: what the holder of device record r puts into it. -/
def devicePayload (s : State) (r : Nat) : List Word :=
  match r with
  | 0 => [s.obj 0x3440 4]
  | 1 => (List.range 4).map (fun k =>
      if s.nat 0x2A80 1 = 2 ∧ s.auth.slot = k then s.auth.counter else s.obj 0x2A80 (6 + k))
  | 2 => s.obj 0x2A20 2 :: (s.agent.toStore.flatMap (fun p => [BitVec.ofNat 32 p.1, p.2]))
  | 3 => gaugePayload s
  | 4 => (List.range 16).flatMap (fun l => indicatorSubs.map (s.obj (0x3710 + l)))
  | 5 => s.obj 0x3800 0x0D :: s.obj 0x3800 0x0E :: s.obj 0x3800 0x10 :: objWords s 0x3801 1 4
  | _ => []

/-- R754: the payload that firmware asked for, read from system SRAM; a word that the read refuses is left open. -/
def firmwarePayload (s : State) : Nat → Nat → State × List Word
  | 0, _ => (s, [])
  | n + 1, a =>
    let (s1, v) := if inSram a 4 then busRead s a else (s, none)
    let (x, s2) := match v with
      | some x => (x, s1)
      | none => s1.freshWord
    let (s3, l) := firmwarePayload s2 n (a + 4)
    (s3, x :: l)

/-- R753 to R755: the payload of a write of record r: its holder's, firmware's, or the newer slot's again. -/
def recordPayload (s : State) (r : Nat) : State × List Word :=
  if r < 8 then (s, devicePayload s r)
  else if s.nat 0x3441 1 = r ∧ s.nat 0x3441 5 = 1 then firmwarePayload s (s.nat 0x3441 3 / 4) (s.nat 0x3441 2)
  else (s, match newerPlace s r with
    | some a => slotPayload s a
    | none => [])

/-! ### Restore -/

/-- R647: the gauge restored from record 3. -/
def restoreGauge (s : State) (l : List Word) : State :=
  let s1 := loadWords (loadWords (loadWords (loadWords s 0x2F00 3 6 l 0) 0x2F02 1 1 l 6) 0x2F05 1 18 l 7) 0x2F06 1 16 l 25
  let s1 := loadWords (loadWords s1 0x2F07 1 18 l 44) 0x2F08 1 16 l 62
  let s2 := s1.modGauge (fun g => { g with
    rc := s1.int64 0x2F00 3 * chargeUnit, err := s1.int64 0x2F00 7 * chargeUnit,
    qe := (dw (l.getD 41 0) (l.getD 42 0)).toInt * chargeUnit,
    cin := s1.int64 0x2F05 1 * chargeUnit, cout := s1.int64 0x2F05 3 * chargeUnit,
    ein := s1.int64 0x2F05 5 * energyUnit, eout := s1.int64 0x2F05 7 * energyUnit })
  let e := angDiff (s.obj 0x3300 1) (l.getD 43 0)
  if s.flag 0x3300 0x12 0 = false ∧ 0 ≤ e then showGauge ((selfDischarge s2 e.toNat).putN 0x2F09 7 1)
  else showGauge (((s2.modGauge (fun g => { g with err := gaugeFcc s2 * chargeUnit })).putN 0x2F09 7 2).setBits 0x2F00 0x12 256)

/-- R792: one indicator of record 4. -/
def restoreIndicator (l : List Word) (s : State) (k : Nat) : State :=
  let s1 := (List.range 14).foldl (fun s n => s.put (0x3710 + k) (indicatorSubs.getD n 0) (l.getD (14 * k + n) 0)) s
  { s1 with life := { s1.life with indicators := modAt s1.life.indicators k (fun x => { x with
      wear := s1.nat (0x3710 + k) 0x0B * 2 ^ 32, ring := [] }) } }

/-- R790, R792, R793: which indicators stand at warning and at the end of life. -/
def showLife (s : State) : State :=
  let m := fun b => maskOf ((List.range 16).filter (fun l => s.flag (0x3710 + l) 0x11 b))
  (s.putN 0x3700 5 (m 1)).putN 0x3700 6 (m 2)

/-- The pairs of record 2 after its first word. -/
def commPairs : List Word → List (Nat × Word)
  | k :: v :: t => (k.toNat, v) :: commPairs t
  | _ => []

/-- R456, R501, R503, R646, R757, R792, R797: the holder of device record r loads from the payload of its newer slot;
with none it keeps its fallbacks. -/
def restoreDevice (s : State) (r : Nat) (p : Option (List Word)) : State :=
  match r, p with
  | 0, some l => loadWords s 0x3440 4 1 l 0
  | 1, some l => loadWords s 0x2A80 6 4 l 0
  | 1, none => loadWords s 0x2A80 6 4 (List.replicate 4 0xFFFFFFFF) 0
  | 2, some l =>
    let s1 := loadWords s 0x2A20 2 1 l 0
    { s1 with agent := { s1.agent with
        stored := commPairs l.tail, toStore := commPairs l.tail, node := l.headD 0xFF } }
  | 3, some l => restoreGauge s l
  | 4, some l => showLife (((List.range 16).foldl (restoreIndicator l) s).putN 0x3700 4 1)
  | 5, some l =>
    loadWords ((((s.put 0x3800 0x0D (l.getD 0 0)).put 0x3800 0x0E (l.getD 1 0)).put 0x3800 0x10 (l.getD 2 0))) 0x3801 1 4 l 3
  | _, _ => s

/-- R757: whether a slot of record r is an interrupted write. -/
def interruptedWrite (s : State) (r : Nat) (b : Bool) : Bool :=
  match newerPlace s r with
  | none => false
  | some a =>
    let x := (slotPlace s r b).1
    !slotComplete s r b && decide (fieldN (s.memWord x).toNat 0 8 = r) &&
      decide (slotSequence s x = slotSequence s a + 1)

/-- R757: record r judged and restored at start-up. -/
def restoreRecord (s : State) (r : Nat) : State :=
  let n := ((if interruptedWrite s r false then 1 else 0) + (if interruptedWrite s r true then 1 else 0) : Nat)
  let s1 := showRecord (readSlots s r) r
  let s2 := if n = 0 then s1 else ((s1.add 0x3440 7 16 n).setBits 0x3440 8 4).report 80 .ce
  restoreDevice s2 r ((newerPlace s r).map (slotPayload s))

end Sys2Proof.Machine
end

