-- ==== Sys2Proof/Machine/Otp.lean ====
section
/-! DEFINITION. The OTP controller (R738 to R747): the bits, the locks, the judgement of a region and the programming
commands. -/
namespace Sys2Proof.Machine

/-- The state with the nonvolatile stores' part changed. -/
def State.modNv (s : State) (f : Nonvolatile → Nonvolatile) : State := { s with nv := f s.nv }

/-- R738: word j of region n as its bits read. -/
def otpWord (s : State) (n j : Nat) : Nat :=
  maskOf ((List.range 32).filter (fun b => s.nv.otp.contains (1024 * n + 32 * j + b)))

/-- R743: whether one of the three bits of fuse f reads programmed: f from 0 is a region's write-lock, from 16 its
read-lock, 32 the debug fuse. -/
def fuseBlown (s : State) (f : Nat) : Bool := (List.range 3).any (fun m => s.nv.fuses.contains (3 * f + m))

/-- R743, R759: the locks and the debug fuse as they read once the fuses have been read. -/
def showFuses (s : State) : State :=
  if s.nv.fuseRead then
    (s.putN 0x3400 2 (maskOf ((List.range 32).filter (fuseBlown s)))).putN 0x3400 4 (if fuseBlown s 32 then 1 else 0)
  else s

/-- R741: region n read into its shadow. -/
def readShadow (s : State) (n : Nat) : State :=
  (List.range 32).foldl (fun x j => x.putN (0x3410 + n) (1 + j) (otpWord s n j)) s

/-- R740: the state code of region n by its shadow: 0 blank, 1 good, 2 failed. -/
def judgeRegion (s : State) (n : Nat) : Nat :=
  let words := (List.range 32).map (shadowWord s n)
  if words.all (fun v => v == 0) then 0
  else if shadowWord s n 31 = assayerCheck ((words.take 16).flatMap wordBytes) n then 1
  else 2

/-- R741, R746: region n is read into the shadow and judged; a failed one is reported. -/
def recheckRegion (s : State) (n : Nat) : State :=
  let s1 := readShadow s n
  let c := judgeRegion s1 n
  let s2 := s1.putN 0x3400 1 (setFieldN (s1.nat 0x3400 1) (2 * n) 2 c)
  if c = 2 then (s2.setBits 0x3400 3 1).report 80 .uc n else s2

/-- R746: the effect of a write of the command 3401h:04h. -/
def otpCommandEff : WEff := fun w _ s =>
  if s.nv.command.isSome ∨ s.sup.warn = true then rej .state s
  else
    let s1 := s.modNv (fun x => { x with
      command := some { code := w.value.toNat, region := s.nat 0x3401 1, bit := s.nat 0x3401 2, start := s.t, pump := s.flag 0x3401 3 0 }
      vauxFell := false })
    acc ((s1.putN 0x3401 5 0xFF).bump 0x3400 5 16)

/-- The effect of a write of command 1h. -/
def programBitEff : WEff := fun w a s => otpCommandEff w a s

/-- OTP_PROGRAM_BIT: a write of 1h to 3401h:04h. -/
def execOtpProgramBit (w : Wr) (s : State) : Out := .next (accessWrite s w false 0x3401 4 programBitEff)

/-- The effect of a write of command 2h. -/
def blowWriteLockEff : WEff := fun w a s => otpCommandEff w a s

/-- BLOW_WRITE_LOCK: a write of 2h to 3401h:04h. -/
def execBlowWriteLock (w : Wr) (s : State) : Out := .next (accessWrite s w false 0x3401 4 blowWriteLockEff)

/-- The effect of a write of command 3h. -/
def blowReadLockEff : WEff := fun w a s => otpCommandEff w a s

/-- BLOW_READ_LOCK: a write of 3h to 3401h:04h. -/
def execBlowReadLock (w : Wr) (s : State) : Out := .next (accessWrite s w false 0x3401 4 blowReadLockEff)

/-- The effect of a write of command 4h. -/
def blowDebugFuseEff : WEff := fun w a s => otpCommandEff w a s

/-- BLOW_DEBUG_FUSE: a write of 4h to 3401h:04h. -/
def execBlowDebugFuse (w : Wr) (s : State) : Out := .next (accessWrite s w false 0x3401 4 blowDebugFuseEff)

/-- The effect of a write of command 5h. -/
def otpRecheckEff : WEff := fun w a s => otpCommandEff w a s

/-- OTP_RECHECK: a write of 5h to 3401h:04h. -/
def execOtpRecheck (w : Wr) (s : State) : Out := .next (accessWrite s w false 0x3401 4 otpRecheckEff)

/-- R745: whether the write-lock refuses bit b of region n. -/
def writeLocked (s : State) (n b : Nat) : Bool :=
  s.flag 0x3400 2 n && !(n == 2 && decide (516 ≤ b) && decide (b ≤ 519))

/-- R747: what the pulses of a command add to the programmed bits. A bit that reads programmed takes no pulse, and the first
that does not program ends the command. -/
def pulses (old : List Nat) : List (Nat × Bool) → List Nat
  | [] => []
  | (b, took) :: t =>
    if old.contains b then pulses old t
    else if took then b :: pulses old t
    else []

/-- R747, R830: whether the junction temperature and the supply in use allow a command. -/
def otpWarm (r : OtpRun) : Bool := decide (0 ≤ r.tj) && decide (r.tj ≤ 85000)

/-- R747: whether the supply of a command held: VPP at 6.0 V, ±0.2 V, or the pump settled. -/
def otpSupplied (c : OtpCommand) (r : OtpRun) : Bool :=
  if c.pump then r.settled else decide (5800 ≤ r.vppLow) && decide (r.vppHigh ≤ 6200)

/-- R747, R830: the bits that a command programs among its targets: none where the temperature or the pump forbids a
pulse. -/
def otpPulses (c : OtpCommand) (r : OtpRun) (old targets : List Nat) : List Nat :=
  if otpWarm r = false ∨ (c.pump && !r.settled) = true then []
  else pulses old ((List.range targets.length).map (fun m => (targets.getD m 0, r.took.getLsbD m)))

/-- R747, R830: the code that a programming command ends with, from the bits it was to program and those that read so. -/
def programCode (s : State) (c : OtpCommand) (r : OtpRun) (all now : List Nat) : Nat :=
  if otpWarm r = false then 2
  else if s.nv.vauxFell then 4
  else if otpSupplied c r = false then 2
  else if all.all (fun b => now.contains b) then 0
  else 3

/-- R746, R747: an OTP command ends with its code. -/
def otpEnd (s : State) (code : Nat) : State :=
  ((s.modNv (fun x => { x with command := none })).putN 0x3401 5 code).setBits 0x3400 3 2

/-- R745, R747: the end of a command of code 1h; the region is checked again where the bit is in a part that the check
covers, or in the check word. -/
def endProgramBit (s : State) (c : OtpCommand) (r : OtpRun) : State :=
  let again := fun (x : State) => if c.bit < 512 ∨ 992 ≤ c.bit then recheckRegion x c.region else x
  let target := 1024 * c.region + c.bit
  if otpWarm r = true ∧ writeLocked s c.region c.bit = true then again (otpEnd s 1)
  else
    let new := otpPulses c r s.nv.otp [target]
    let s1 := (s.modNv (fun x => { x with otp := x.otp ++ new })).add 0x3400 6 16 new.length
    again (otpEnd s1 (programCode s c r [target] s1.nv.otp))

/-- R746, R747: the end of a command of codes 2h to 4h, on the three bits of fuse f. -/
def endBlowFuse (s : State) (f : Nat) (c : OtpCommand) (r : OtpRun) : State :=
  let bits := [3 * f, 3 * f + 1, 3 * f + 2]
  let new := otpPulses c r s.nv.fuses bits
  let s1 := (s.modNv (fun x => { x with fuses := x.fuses ++ new })).add 0x3400 6 16 new.length
  otpEnd (showFuses s1) (programCode s c r bits s1.nv.fuses)

/-- R747: how many pulses a command makes on its targets: one for a bit that takes at once, three for the bit that ends it. -/
def pulseCount (old : List Nat) : List (Nat × Bool) → Nat
  | [] => 0
  | (b, took) :: t => if old.contains b then pulseCount old t else if took then 1 + pulseCount old t else 3

/-- The bits that a command programs, among the OTP bits (code 1h) or the fuse bits. -/
def otpTargets (c : OtpCommand) : List Nat :=
  let f := fun n => [3 * n, 3 * n + 1, 3 * n + 2]
  match c.code with
  | 1 => [1024 * c.region + c.bit]
  | 2 => f c.region
  | 3 => f (16 + c.region)
  | 4 => f 32
  | _ => []

/-- R747: the least time of a command, in microseconds: the pump's settling and the pulses at their width, for a command whose
pulses nothing forbids or cuts short. -/
def otpLeast (s : State) (c : OtpCommand) (r : OtpRun) : Nat :=
  let l := otpTargets c
  let old := if c.code = 1 then s.nv.otp else s.nv.fuses
  let n := pulseCount old ((List.range l.length).map (fun m => (l.getD m 0, r.took.getLsbD m)))
  if otpWarm r = false ∨ otpSupplied c r = false ∨ s.nv.vauxFell = true ∨ n = 0 ∨
      (c.code = 1 ∧ writeLocked s c.region c.bit = true) then 0
  else (if c.pump then 100 else 0) + n * s.nat 0x3401 6

/-- OTP_COMMAND_END, R747, R830: the command in progress has made its pulses and reads. -/
def execOtpCommandEnd (run : OtpRun) (s : State) : Out :=
  match s.nv.command with
  | none => .next s
  | some c =>
    when (s.passed c.start (cyclesUs (otpLeast s c run))) s
      (match c.code with
        | 1 => endProgramBit s c run
        | 2 => endBlowFuse s c.region c run
        | 3 => endBlowFuse s (16 + c.region) c run
        | 4 => endBlowFuse s 32 c run
        | _ => if otpWarm run then recheckRegion (otpEnd s 0) c.region else otpEnd s 2)

/-- R760: the effect of a write of the other words of 3401h. -/
def otpPlainEff (j : Nat) : WEff := fun w a s => plainWrite 0x3401 j w a s

end Sys2Proof.Machine
end

