-- ==== Sys2Proof/Machine/Journal.lean ====
section
/-! DEFINITION. The rows of the journal (R748 to R764). -/
namespace Sys2Proof.Machine

/-- R749: words written from address a upward, as the journal writes them. -/
def putWords (s : State) (a : Nat) : List Word → State
  | [] => s
  | v :: t => putWords (memStore s a v) (a + 4) t

/-- R751, steps 1 to 5 but for COMMIT: record r written into the slot that is not the newer one. -/
def writeSlot (s : State) (r : Nat) : State :=
  let b := match newerSlot s r with
    | some b => !b
    | none => false
  let a := (slotPlace s r b).1
  let q : Word := match newerPlace s r with
    | some n => slotSequence s n + 1
    | none => 1
  let (s1, l) := recordPayload (memStore s (a + 12) 0) r
  let s2 := putWords s1 (a + 16) l
  let s3 := putWords s2 a [BitVec.ofNat 32 (4 * l.length * 65536 + r), q]
  memStore s3 (a + 8) (slotCheck s3 a)

/-- R649, R753: the record that the controller takes next. -/
def nextRecord (s : State) : Option Nat :=
  (List.range 64).find? (fun r => recPending s r && !(r == 3 && !s.flag 0x2F00 1 0))

/-- JOURNAL_RECORD_WRITE, R751, R753: the lowest pending record is written into its other slot. -/
def execJournalRecordWrite (s : State) : Out :=
  match nextRecord s with
  | some r =>
    when (s.on 2 && journalRuns s && s.startup.journalLoaded && s.nv.writing.isNone) s
      ((writeSlot (readSlots (setPending s r false) r) r).modNv (fun x => { x with writing := some (r, false) }))
  | none => .next s

/-- R751: the target of the write in progress: the slot that is not the newer one. -/
def targetPlace (s : State) (r : Nat) : Nat :=
  (slotPlace s r (match newerSlot s r with
    | some b => !b
    | none => false)).1

/-- R484, R501, R646, R658, R763: the holder of record r is told that its write is done; a request that came during the
write waits for its own. -/
def tellDone (s : State) (r : Nat) : State :=
  if r ≠ 3 ∧ recPending s r = true then s
  else if r = 1 then counterStored s
  else if r = 2 then s.modAgent (fun a => { a with
    stored := a.toStore, node := match newerPlace s 2 with
      | some p => (slotPayload s p).headD 0xFF
      | none => 0xFF })
  else if r = 3 then s.bump 0x2F09 4 32
  else if 8 ≤ r ∧ s.nat 0x3441 1 = r ∧ s.nat 0x3441 5 = 1 then s.putN 0x3441 5 2
  else s

/-- R500, R646, R763: the holder of record r is told that its write failed. -/
def tellFailed (s : State) (r : Nat) : State :=
  if r ≠ 3 ∧ recPending s r = true then s
  else if r = 1 ∧ s.nat 0x2A80 1 = 2 then endCommand s 0x0A
  else if r = 3 then ((s.bump 0x2F09 6 16).setBits 0x2F00 0x12 512).report 76 .uc
  else if 8 ≤ r ∧ s.nat 0x3441 1 = r ∧ s.nat 0x3441 5 = 1 then s.putN 0x3441 5 3
  else s

/-- R751: a write has ended well. -/
def recordDone (s : State) (r : Nat) : State :=
  tellDone ((showRecord s r).bump 0x3440 5 32) r

/-- R751: a write has failed twice. -/
def recordFailed (s : State) (r : Nat) : State :=
  tellFailed ((((showRecord s r).bump 0x3440 6 16).setBits 0x3440 8 8).report 80 .uc (0x100 + r)) r

/-- JOURNAL_WRITE_DONE, R751: COMMIT is written and the slot read back; `bad` is a word of it that reads back other than
written, as its number in the slot and what it reads. A first failure repeats the write on the same target. -/
def execJournalWriteDone (bad : Option (Fin 256 × BitVec 32)) (s : State) : Out :=
  match s.nv.writing with
  | none => .next s
  | some (r, again) =>
    let a := targetPlace s r
    let b := match newerSlot s r with
      | some b => !b
      | none => false
    let s1 := memStore s (a + 12) (~~~ s.memWord (a + 8))
    let s2 := match bad with
      | some (k, v) => if 4 * k.val < (slotPlace s r b).2 then memStore s1 (a + 4 * k.val) v else s1
      | none => s1
    let s3 := readSlots s2 r
    let idle := fun (x : State) => x.modNv (fun n => { n with writing := none, stopping := false })
    if slotComplete s2 r b then .next (idle (recordDone s3 r))
    else if again then .next (idle (recordFailed s3 r))
    else .next ((writeSlot (memStore s3 (a + 12) 0) r).modNv (fun n => { n with writing := some (r, true) }))

/-- R755: every record that holds something is requested. -/
def refreshAll (s : State) : State :=
  (List.range 64).foldl (fun x r => if (newerSlot s r).isSome then requestRecord x r else x) s

/-- JOURNAL_REFRESH_HOUR, R755: an hour of fabric time has passed while D2 is ON. -/
def execJournalRefreshHour (s : State) : Out :=
  let s1 := (s.modNv (fun x => { x with hour := s.t / 720000000000 })).bump 0x3440 4 32
  let s2 := requestRecord s1 0
  when (s.on 2 && decide ((s.nv.hour + 1) * 720000000000 ≤ s.t)) s
    (if s.nat 0x3440 3 ≤ s2.nat 0x3440 4 then (refreshAll s2).putN 0x3440 4 0 else s2)

/-- R42, R758: the effect of a write of the enable: 0 abandons every request; a slot write in progress completes, and the
journal is stopping until then whatever is written meanwhile. -/
def journalEnableEff : WEff := fun w _ s =>
  let s1 := (s.put 0x3440 1 w.value).modNv (fun x => { x with
    stopping := x.stopping || (w.value == 0 && x.writing.isSome) })
  acc (if w.value = 0 then (List.range 64).foldl abandonRecord s1 else s1)

/-- JOURNAL_ENABLE: a write of 3440h:01h. -/
def execJournalEnable (w : Wr) (s : State) : Out := .next (accessWrite s w false 0x3440 1 journalEnableEff)

/-- R754: whether two runs of blocks share a block. -/
def blocksMeet (a n b m : Nat) : Bool := decide (a < b + m) && decide (b < a + n)

/-- R754: the effect of a write of firmware record r's layout. -/
def layoutEff (r : Nat) : WEff := fun w _ s =>
  let base := fieldN w.value.toNat 16 10
  let size := fieldN w.value.toNat 0 10
  let busy := recPending s r || s.nv.writing.map (·.1) == some r
  let other := (List.range 64).any (fun q =>
    let m := fieldN (s.nat 0x3450 (1 + q)) 0 10
    decide (8 ≤ q) && q != r && m != 0 && size != 0 &&
      blocksMeet base (2 * size) (fieldN (s.nat 0x3450 (1 + q)) 16 10) (2 * m))
  if busy = true ∨ base < 64 ∨ 1024 < base + 2 * size ∨ other = true then rej .state s
  else acc ((s.store 0x3450 (1 + r) w.value).modNv (fun x => { x with judging := r :: x.judging.filter (· != r) }))

/-- RECORD_LAYOUT_WRITE: a write of 3450h:01h + r. -/
def execRecordLayoutWrite (r : Fin 64) (w : Wr) (s : State) : Out :=
  .next (accessWrite s w false 0x3450 (1 + r.val) (layoutEff r.val))

/-- RECORD_LAYOUT_JUDGED, R754: both slots of a new layout are judged. -/
def execRecordLayoutJudged (r : Fin 64) (s : State) : Out :=
  when (s.nv.judging.contains r.val) s
    ((showRecord (readSlots s r.val) r.val).modNv (fun x => { x with judging := x.judging.filter (· != r.val) }))

/-- R763: the bytes that a slot of record r holds. -/
def recordRoom (s : State) (r : Nat) : Nat := (slotPlace s r false).2 - 16

/-- R753, R763: the effect of a write of 1h to the firmware record command. -/
def firmwareRecordEff : WEff := fun _ _ s =>
  let r := s.nat 0x3441 1
  if (slotPlace s r false).2 = 0 ∨ recordRoom s r < s.nat 0x3441 3 then rej .state s
  else acc (requestRecord (s.putN 0x3441 5 1) r)

/-- FIRMWARE_RECORD_COMMAND: a write of 3441h:04h. -/
def execFirmwareRecordCommand (w : Wr) (s : State) : Out := .next (accessWrite s w false 0x3441 4 firmwareRecordEff)

/-- R763: the effect of a write of the firmware record's record, source and length. -/
def fwRecordPlainEff (j : Nat) : WEff := fun w a s =>
  let v := w.value.toNat
  if j = 2 ∧ (v % 4 ≠ 0 ∨ inSram v 4 = false) then rej .range s
  else if j = 3 ∧ (v % 4 ≠ 0 ∨ recordRoom s (s.nat 0x3441 1) < v) then rej .range s
  else if s.nat 0x3441 5 = 1 then rej .state s
  else plainWrite 0x3441 j w a s

/-! ### Power fail -/

/-- R756: whether record r is still written after VAUX has fallen. -/
def powerFailKeeps (s : State) (r : Nat) : Bool := s.flag 0x3440 (if r < 32 then 2 else 0x0C) (r % 32)

/-- R646, R747, R756: what the nonvolatile stores and the gauge do as VAUX falls below its warning threshold. -/
def powerFailStores (s : State) : State :=
  let s1 := (if s.flag 0x2F00 1 0 then requestRecord s 3 else s).modNv (fun x => { x with vauxFell := x.command.isSome })
  (List.range 64).foldl (fun x r => if powerFailKeeps x r then x else abandonRecord x r) s1

/-- VAUX_WARNING, R556, R572, R756: VAUX falls below the warning threshold. -/
def execVauxWarning (mv held : Nat) (s : State) : Out :=
  let s1 := vauxWarned s
  let t := warningMillivolts s
  when (!s.sup.warn && fallsBelow t (t / 50) mv held) s (if s.on 2 then powerFailStores s1 else s1)

end Sys2Proof.Machine
end

