-- ==== Sys2Proof/Machine/Rtc.lean ====
section
/-! DEFINITION. The real-time clock and the Bedrock supply (R716 to R737). -/
namespace Sys2Proof.Machine

/-- The RTC beyond its objects changed. -/
def State.modRtc (s : State) (f : Rtc → Rtc) : State := { s with rtc := f s.rtc }

/-- The seconds S. -/
def rtcSeconds (s : State) : Nat := (s.pair 0x3300 1).toNat

/-- The fraction F of 1/32 768 s. -/
def rtcFraction (s : State) : Nat := s.nat 0x3300 3 / 2

/-- S and F shown (R716). -/
def putTime (s : State) (sec f : Nat) : State := (s.putPair 0x3300 1 (BitVec.ofNat 64 sec)).putN 0x3300 3 (2 * f)

/-- The largest S (R730). -/
def maxSeconds : Nat := 2 ^ 40 - 1

/-- R716, R730: one count step. -/
def countStep (s : State) : State :=
  let s1 := s.modRtc (fun r => { r with steps := r.steps + 1 })
  if rtcFraction s < 32767 then putTime s1 (rtcSeconds s) (rtcFraction s + 1)
  else if rtcSeconds s = maxSeconds then s1
  else putTime s1 (rtcSeconds s + 1) 0

/-- `n` count steps. -/
def countSteps : Nat → State → State
  | 0, s => s
  | n + 1, s => countSteps n (countStep s)

/-- R717, R718: the count steps of one edge: two at the end of RC periods 42, 84 and 125, one more or less while a trim
runs. -/
def edgeSteps (s : State) : Nat :=
  let p := s.rtc.period + 1
  let base := if s.nat 0x3300 0x10 = 1 ∧ (p = 42 ∨ p = 84 ∨ p = 125) then 2 else 1
  if 0 < s.rtc.trim then base + 1 else if s.rtc.trim < 0 then base - 1 else base

/-- R731: whether the alarm fires at an edge that leaves S and F so. -/
def alarmMet (s : State) : Bool :=
  s.flag 0x3300 0x0E 0 && s.pair 0x3300 1 == s.pair 0x3300 0x0C && rtcFraction s == 0

/-- What every edge of the timebase does beside the count. -/
def edgeSeen (s : State) : State :=
  s.modRtc (fun r => { r with
    lastEdge := s.real, still := false, period := (r.period + 1) % 125, alarm := r.alarm || alarmMet s })

/-- R717, R720: whether the timebase makes edges: chosen, and for the RC of D1 with D1 present. -/
def timebaseRuns (s : State) : Bool := s.rtc.chosen && !(s.nat 0x3300 0x10 == 1 && s.rtc.away)

/-- RTC_COUNT_STEP, R716 to R718, R720: an edge of the timebase with no set in the holding latch. -/
def execRtcCountStep (s : State) : Out :=
  let s1 := (countSteps (edgeSteps s) s).modRtc (fun r => { r with trim := r.trim - signI r.trim })
  when (timebaseRuns s && s.rtc.latch.isNone) s (edgeSeen s1)

/-- SET_APPLIED, R726, R789: the edge that applies the set in the holding latch in place of its count step. -/
def execSetApplied (s : State) : Out :=
  match s.rtc.latch with
  | none => .next s
  | some (sec, f) =>
    when (timebaseRuns s) s (clearRings (edgeSeen (((putTime s sec f).clrBits 0x3300 0x12 1).modRtc (fun r => { r with
      latch := none }))) (fun _ => true))

/-- TRIM_APPLY, R718: 2^20 count steps have been taken. -/
def execTrimApply (s : State) : Out :=
  when (decide (2 ^ 20 ≤ s.rtc.steps)) s
    (s.modRtc (fun r => { r with steps := r.steps - 2 ^ 20, trim := s.int 0x3300 0x0F }))

/-- TIMEBASE_SELECT, R717: the crystal has produced edges within 500 ms of a Bedrock reset, or the 500 ms have passed
without one. -/
def execTimebaseSelect (crystal : Bool) (s : State) : Out :=
  when (!s.rtc.chosen && (crystal || decide (s.rtc.chooseAt ≤ s.real))) s
    ((s.putN 0x3300 0x10 (if crystal then 0 else 1)).modRtc (fun r => { r with chosen := true, lastEdge := s.real }))

/-- OSCILLATOR_STOPPED, R719, R721: no edge of the timebase has arrived for the detector's time, at the least 0.5 ms; it
counts and reports where it sets the flag. -/
def execOscillatorStopped (s : State) : Out :=
  let s1 := if s.flag 0x3300 0x12 0 then s else oscillatorStops s
  when (s.rtc.chosen && !(s.flag 0x3300 0x12 0 && s.rtc.still) && decide (s.rtc.lastEdge + realUs 500 ≤ s.real)) s
    (s1.modRtc (fun r => { r with still := true }))

/-- ALARM_FIRE, R731. -/
def execAlarmFire (s : State) : Out :=
  when s.rtc.alarm s (((s.setBits 0x3300 0x12 2).d1Event 4).modRtc (fun r => { r with alarm := false }))

/-! ### Setting -/

/-- R726: a set enters the holding latch. -/
def latchSet (s : State) (sec f : Nat) : State := s.modRtc (fun r => { r with latch := some (sec, f) })

/-- R725: the effect of a committed seconds-set pair. -/
def secondsSetEff : WEff := commitPair (fun v _ _ s => acc (latchSet s v.toNat (s.nat 0x3300 6 / 2)))

/-- SECONDS_SET: a write of 3300h:05h. -/
def execSecondsSet (w : Wr) (s : State) : Out := .next (accessWrite s w false 0x3300 5 secondsSetEff)

/-- R727: whether a year is a leap year. -/
def leapYear (y : Nat) : Bool := (y % 4 == 0 && y % 100 != 0) || y % 400 == 0

/-- R727: the days of a month. -/
def monthDays (y m : Nat) : Nat :=
  if m = 2 then (if leapYear y then 29 else 28)
  else if m = 4 ∨ m = 6 ∨ m = 9 ∨ m = 11 then 30 else 31

/-- R728: days from 2000-01-01 to a date, counted from March in cycles of 400 years that began at 1600-03-01. -/
def dateDays (y m d : Nat) : Nat :=
  let y1 := (if m ≤ 2 then y - 1 else y) - 1600
  let doy := (153 * (if 2 < m then m - 3 else m + 9) + 2) / 5 + d - 1
  y1 / 400 * 146097 + (y1 % 400 * 365 + y1 % 400 / 4 - y1 % 400 / 100 + doy) + 60 - 146097

/-- R728: the date a number of days after 2000-01-01. -/
def dateOf (n : Nat) : Nat × Nat × Nat :=
  let z := n + 146097 - 60
  let doe := z % 146097
  let yoe := (doe - doe / 1460 + doe / 36524 - doe / 146096) / 365
  let doy := doe - (365 * yoe + yoe / 4 - yoe / 100)
  let mp := (5 * doy + 2) / 153
  let m := if mp < 10 then mp + 3 else mp - 9
  (1600 + yoe + z / 146097 * 400 + (if m ≤ 2 then 1 else 0), m, doy - (153 * mp + 2) / 5 + 1)

/-- R727: the code of the first condition that fails for a date word and a time word, 0 for none. -/
def calendarCheck (date time : Nat) : Nat :=
  let y := fieldN date 16 16
  let m := fieldN date 8 8
  let d := fieldN date 0 8
  if y < 2000 ∨ 9999 < y then 1
  else if m < 1 ∨ 12 < m then 2
  else if d < 1 ∨ monthDays y m < d then 3
  else if 23 < fieldN time 16 5 ∨ 59 < fieldN time 8 6 ∨ 59 < fieldN time 0 6 then 4
  else 0

/-- R725: the seconds of a calendar value. -/
def calendarSeconds (date time : Nat) : Nat :=
  dateDays (fieldN date 16 16) (fieldN date 8 8) (fieldN date 0 8) * 86400 + fieldN time 16 5 * 3600 +
    fieldN time 8 6 * 60 + fieldN time 0 6

/-- R725, R727: the effect of a write of the time set. -/
def timeSetEff : WEff := fun w _ s =>
  let date := s.nat 0x3300 9
  match calendarCheck date w.value.toNat with
  | 0 =>
    acc (latchSet ((s.put 0x3300 0x0A w.value).putN 0x3300 0x0B 0) (calendarSeconds date w.value.toNat)
      (s.nat 0x3300 6 / 2))
  | code => rej .range ((s.putN 0x3300 0x0B code).setBits 0x3300 0x12 16)

/-- CALENDAR_SET: a write of 3300h:0Ah. -/
def execCalendarSet (w : Wr) (s : State) : Out := .next (accessWrite s w false 0x3300 0x0A timeSetEff)

/-! ### Calendar view and status -/

/-- R728: the last second of 9999. -/
def lastCalendar : Nat := 252455615999

/-- R728, R729: the date word. -/
def dateWord (s : State) : Nat :=
  if rtcSeconds s ≤ lastCalendar then
    let (y, m, d) := dateOf (rtcSeconds s / 86400)
    y * 65536 + m * 256 + d
  else 0

/-- R728, R729: the time word. -/
def timeWord (s : State) : Nat :=
  if rtcSeconds s ≤ lastCalendar then
    let n := rtcSeconds s
    (5 + n / 86400) % 7 * 2 ^ 24 + n % 86400 / 3600 * 65536 + n % 3600 / 60 * 256 + n % 60
  else 0

/-- R736: the status word. -/
def rtcStatus (s : State) : Nat :=
  s.nat 0x3300 0x11 / 4 % 2 * 4 + (if rtcSeconds s ≤ lastCalendar then 2 else 0) + (if s.rtc.latch.isSome then 1 else 0)

/-! ### Supply -/

/-- BEDROCK_SUPPLY_SWITCH, R732: AON has fallen or risen past its threshold. -/
def execBedrockSupplySwitch (toVbak : Bool) (s : State) : Out :=
  let on := s.flag 0x3300 0x11 2
  when (toVbak != on) s
    (if toVbak then ((s.setBits 0x3300 0x11 4).bump 0x3300 0x13 16).setBits 0x3300 0x12 4 else s.clrBits 0x3300 0x11 4)

/-- VBAK_LOW, R733: VBAK falls below 2.20 V; after the first time only once it has risen above 2.30 V. -/
def execVbakLow (risen : Bool) (s : State) : Out :=
  let s1 := (s.setBits 0x3300 0x12 8).modRtc (fun r => { r with armed := false })
  when (s.rtc.armed || risen) s (if s.on 2 then s1.report 79 .ce else s1)

end Sys2Proof.Machine
end

