-- ==== Sys2Proof/Machine/Life.lean ====
section
/-! DEFINITION. The life ledger (R786 to R794). -/
namespace Sys2Proof.Machine

/-- R786: whether indicator l's input is stale. -/
def inputStale (s : State) (l : Nat) : Bool := 
  decide ((s.indicator l).written + realMs (1000 * s.nat (lifeIdx l) 9) ≤ s.real)

/-- R786: indicator l's stress, which may be the fallback. -/
def lifeStress (s : State) (l : Nat) : Int × State :=
  if inputStale s l then (s.int (lifeIdx l) 8, s.bump (lifeIdx l) 0x10 32) else (s.int (lifeIdx l) 2, s)

/-- R787: the wear of a step at temperature T for a capacitor or a fan. -/
def ageWear (s : State) (l : Nat) (T : Int) : State :=
  let r := s.nat (lifeIdx l) 5
  let p := s.nat (lifeIdx l) 6
  if r = 0 then s
  else if p = 0 then let (x, s1) := openTerm s; addWear s1 l x
  else let (x, s1) := nearTerm s (powTwoWear (T - lifeRef s l) (65536 * p) (r * 3600)); addWear s1 l x

/-- R787: the wear of a swing ΔT of a semiconductor. -/
def swingWear (s : State) (l : Nat) (swing : Int) : State :=
  let r := s.nat (lifeIdx l) 5
  let p := s.nat (lifeIdx l) 6
  let tr := lifeRef s l
  if r = 0 then s
  else if tr ≤ 0 then let (x, s1) := openTerm s; addWear s1 l x
  else let (x, s1) := nearTerm s (2 ^ 55 * swing.natAbs ^ p / (tr.natAbs ^ p * r)); addWear s1 l x

/-- R787: a semiconductor's step at temperature T: a reversal by more than the hysteresis makes the last extreme a turn. -/
def cycleStep (s : State) (l : Nat) (T : Int) : State :=
  let x := s.indicator l
  let h := s.int (lifeIdx l) 7
  match x.extreme with
  | none => s.modIndicator l (fun y => { y with extreme := some T })
  | some m =>
    if (x.rising = true ∧ m ≤ T) ∨ (x.rising = false ∧ T ≤ m) then s.modIndicator l (fun y => { y with extreme := some T })
    else if absI (T - m) ≤ h then s
    else
      let s1 := s.modIndicator l (fun y => { y with extreme := some T, turn := some m, rising := !x.rising })
      match x.turn with
      | some o => swingWear s1 l (m - o)
      | none => s1

/-- R787: whether the tachometer that a fan names turns. -/
def fanTurns (s : State) (l : Nat) : Bool :=
  let n := s.nat (lifeIdx l) 3
  decide (n < 8) && !s.flag (tachIdx n) 4 0 && s.nat (tachIdx n) 2 != 0

/-- R787: a battery's wear, which follows its capacity. -/
def batteryWear (s : State) (l : Nat) : State :=
  let d := s.int64 0x2F01 1
  let f := gaugeFcc s
  let tr := lifeRef s l
  if d = 0 then lifeThresholds (showWear s l 0) l
  else if 65536 ≤ tr then let (x, s1) := openTerm s; lifeThresholds (showWear s1 l x) l
  else
    let (x, s1) := nearTerm s ((tdiv ((d - f) * 65536 * 2 ^ 56) (d * (65536 - tr))).toNat)
    lifeThresholds (showWear s1 l x) l

/-- R728, R729: the date word of a number of RTC seconds. -/
def dateWordOf (n : Nat) : Nat :=
  if n ≤ lastCalendar then
    let (y, m, d) := dateOf (n / 86400)
    y * 65536 + m * 256 + d
  else 0

/-- R790: the prediction at a daily point. -/
def predict (s : State) (l : Nat) : State :=
  let i := lifeIdx l
  let ring := (s.indicator l).ring
  match ring.head?, ring.getLast? with
  | some (sn, wn), some (so, wo) =>
    if s.flag i 0x11 2 then s
    else if ring.length < 2 ∨ wn ≤ wo then noPrediction s l
    else
      let e := min (sn + ceilDiv ((0x1000000 - wn) * (sn - so)) (wn - wo)) (2 ^ 40 - 1)
      ((s.putPair i 0x0C (BitVec.ofNat 64 e)).putN i 0x0E (dateWordOf e)).setBits i 0x11 1
  | _, _ => s

/-- R789: whether a daily point is due. -/
def pointDue (s : State) (l : Nat) : Bool :=
  !s.flag 0x3300 0x12 0 &&
  match (s.indicator l).ring.head? with
  | some (sn, _) => decide (sn + 86400 ≤ rtcSeconds s)
  | none => true

/-- R789, R790: indicator l's daily point. -/
def dailyPoint (s : State) (l : Nat) : State :=
  if pointDue s l then
    requestRecord (predict (s.modIndicator l (fun x => { x with
      ring := ((rtcSeconds s, s.nat (lifeIdx l) 0x0B) :: x.ring).take 32 })) l) 4
  else s

/-- R786 to R790: indicator l's part of a step. -/
def indicatorStep (s : State) (l : Nat) : State :=
  let (T, s1) := lifeStress s l
  match s.nat (lifeIdx l) 1 with
  | 1 => dailyPoint (ageWear s1 l T) l
  | 2 => dailyPoint (cycleStep s1 l T) l
  | 3 => dailyPoint (if fanTurns s1 l then ageWear s1 l T else s1) l
  | 4 => dailyPoint s l
  | 5 => dailyPoint (batteryWear s l) l
  | _ => s

/-- R786, R792: one step of the ledger. -/
def ledgerStep (s : State) : State :=
  let s1 := (List.range 16).foldl indicatorStep s
  let n := s.life.steps + 1
  let s2 := { s1 with life := { s1.life with last := some s.t, steps := n } }
  if n % 3600 = 0 then requestRecord s2 4 else s2

/-- LEDGER_STEP, R786: every 1000th millisecond tick, and every 80th in clock state 0h. -/
def execLedgerStep (s : State) : Out :=
  when (lifeRuns s && s.t % 200000 == 0 && decide (0 < s.t) &&
      tickNo s % (if clockState s = 0 then 80 else 1000) == 0 && s.life.last != some s.t) s (ledgerStep s)

/-- R791: the effect of a write of 1h to an indicator's replace. -/
def replaceEff (l : Nat) : WEff := fun w _ s =>
  if w.value = 1 then
    let s1 := s.modIndicator l (fun x => { x with wear := 0, ring := [] })
    let s2 := ((s1.put (lifeIdx l) 0x0B 0).put (lifeIdx l) 0x10 0).put (lifeIdx l) 0x11 0
    acc (requestRecord (showLife (noPrediction s2 l)) 4)
  else acc s

/-- INDICATOR_REPLACE: a write of 3710h + l:0Fh, an RWA word (R12). -/
def execIndicatorReplace (l : Fin 16) (auth : Bool) (w : Wr) (s : State) : Out :=
  .next (accessWrite s w auth (lifeIdx l.val) 0x0F (replaceEff l.val))

/-- R787: the effect of a write of 1h to an indicator's operate: one operation for source 0h. -/
def operateEff (l : Nat) : WEff := fun w _ s =>
  if w.value = 1 ∧ lifeRuns s = true ∧ s.nat (lifeIdx l) 1 = 4 ∧ s.nat (lifeIdx l) 3 = 0 then acc (contactorWear s l)
  else acc s

/-- INDICATOR_OPERATE: a write of 3710h + l:12h. -/
def execIndicatorOperate (l : Fin 16) (w : Wr) (s : State) : Out :=
  .next (accessWrite s w false (lifeIdx l.val) 0x12 (operateEff l.val))

/-- R792: the effect of a write of 1h to the write command. -/
def ledgerWriteEff : WEff := fun _ _ s => acc (requestRecord s 4)

/-- LEDGER_WRITE_COMMAND: a write of 3700h:02h. -/
def execLedgerWriteCommand (w : Wr) (s : State) : Out := .next (accessWrite s w false 0x3700 2 ledgerWriteEff)

/-- R786, R791, R794: the effect of a write of an indicator's other words. -/
def lifePlainEff (l j : Nat) : WEff := fun w a s =>
  let v := w.value.toNat
  if j = 3 ∧ 8 ≤ v ∧ (v < 16 ∨ 32 ≤ v) then rej .range s
  else if j = 1 ∧ s.obj (lifeIdx l) 0x0B ≠ 0 then rej .state s
  else
    let (res, s1) := plainWrite (lifeIdx l) j w a s
    (res, if j = 2 then s1.modIndicator l (fun x => { x with written := s.real }) else s1)

end Sys2Proof.Machine
end

