-- ==== Sys2Proof/Machine/TwoWire.lean ====
section
/-! DEFINITION. The two-wire ports (R509 to R534) but for the object transfer itself. -/
namespace Sys2Proof.Machine

/-- The object of port n (R533). -/
def twbIdx (n : Nat) : Nat := 0x2B00 + 16 * n

/-- The controller object of port n (R534). -/
def twbCtl (n : Nat) : Nat := 0x2B01 + 16 * n

/-- Port n beyond its objects. -/
def State.port (s : State) (n : Nat) : TwbPort := s.twb.getD n {}

/-- Port n changed. -/
def State.modTwb (s : State) (n : Nat) (f : TwbPort → TwbPort) : State := { s with twb := modAt s.twb n f }

/-- The state of port n (R533): 0 disabled, 1 idle, 2 target, 3 controller, 4 clearing, 5 asleep, 6 stopping. -/
def twbState (s : State) (n : Nat) : Nat := s.nat (twbIdx n) 0x10

/-- R72: whether the ports see what the lines do: with VDDIO low both lines of a port read 0 for good. -/
def twbSees (s : State) : Bool := s.on 7 && !s.sup.vddioLow

/-- Whether port n takes part in transfers as a target: enabled, awake and not in a transfer of its own. -/
def twbTarget (s : State) (n : Nat) : Bool := twbSees s && (twbState s n == 1 || twbState s n == 2)

/-- R523, R531: an enabled port that start-up no longer holds (R60) is idle, or asleep where 0Bh says so; no transfer has
been made since. -/
def twbStart (s : State) (n : Nat) : State :=
  if s.flag (twbIdx n) 1 0 ∧ twbState s n = 0 ∧ s.startup.released = true then
    ((s.putN (twbIdx n) 0x10 (if s.nat (twbIdx n) 0x0B = 1 then 5 else 1)).putN (twbCtl n) 6 0).modTwb n (fun _ => {})
  else s

/-- R42, R531: port n has stopped and released both lines. -/
def twbStopped (s : State) (n : Nat) : State := twbStart ((s.putN (twbIdx n) 0x10 0).modTwb n (fun _ => {})) n

/-- The end of a transfer of port n (R530, R531): a disable or a sleep that waited takes effect, a waiting start begins,
or the port is idle, or asleep where 0Bh says so. -/
def twbEnd (s : State) (n : Nat) : State :=
  let s1 := s.modTwb n (fun p => { p with phase := .idle, waiting := false, stretched := 0 })
  if twbState s n = 6 then twbStopped s1 n
  else if (s.port n).drowsy then (s1.putN (twbIdx n) 0x10 5).modTwb n (fun p => { p with drowsy := false })
  else if (s.port n).start then
    (s1.putN (twbIdx n) 0x10 3).modTwb n (fun p => { p with start := false, phase := .controller, begun := s.t })
  else s1.putN (twbIdx n) 0x10 1

/-- R531: the effect of a write of a port's enable. -/
def twbEnableEff (n : Nat) : WEff := fun w _ s =>
  let i := twbIdx n
  if w.value = 1 then acc (twbStart (s.putN i 1 1) n)
  else if s.flag i 1 0 = false then acc s
  else
    let s1 := s.putN i 1 0
    let s2 := if (s.port n).start then (s1.putN (twbCtl n) 6 0).modTwb n (fun p => { p with start := false }) else s1
    acc (if (s.port n).phase = .idle ∧ twbState s n ≠ 4 then twbStopped s2 n else s2.putN i 0x10 6)

/-- TWB_ENABLE: a write of 2B00h + n × 10h:01h. -/
def execTwbEnable (n : Fin 2) (w : Wr) (s : State) : Out :=
  .next (accessWrite s w false (twbIdx n.val) 1 (twbEnableEff n.val))

/-- R510: the L and H that a speed sets. -/
def speedTimes (v : Nat) : Nat × Nat :=
  match v with
  | 0 => (1000, 1000)
  | 1 => (300, 200)
  | _ => (110, 90)

/-- R510, R511, R531: the settings of a port, written while it is disabled. -/
def twbPlainEff (n j : Nat) : WEff := fun w a s =>
  let i := twbIdx n
  if 2 ≤ j ∧ j ≤ 6 ∧ s.flag i 1 0 = true then rej .state s
  else if (j = 5 ∧ w.value = s.obj i 6) ∨ (j = 6 ∧ w.value = s.obj i 5) then rej .state s
  else if j = 2 then
    let t := speedTimes w.value.toNat
    acc (((s.put i 2 w.value).putN i 3 t.1).putN i 4 t.2)
  else plainWrite i j w a s

/-- R534: a data word is not written while a transfer is busy. -/
def twbCtlPlainEff (n j : Nat) : WEff := fun w a s =>
  if 9 ≤ j ∧ j ≤ 0x10 ∧ s.nat (twbCtl n) 6 = 1 then rej .state s else plainWrite (twbCtl n) j w a s

/-! ### Object transfer: results and limits -/

/-- The PEC byte of a frame where 08h asks for one (R514). -/
def twbPec (s : State) (n : Nat) (l : List Byte) : List Byte := if s.flag (twbIdx n) 8 0 then [pec l] else []

/-- The object address byte of port n, with the read bit. -/
def twbAddress (s : State) (n : Nat) (read : Bool) : Byte :=
  BitVec.ofNat 8 (2 * s.nat (twbIdx n) 5 + (if read then 1 else 0))

/-- R514, R528: the port answers with bytes, its PEC over the whole frame behind them. -/
def twbAnswer (s : State) (n : Nat) (sent answer : List Byte) : State :=
  { s with resp := some { result := .accepted, value := 0, bytes := answer ++ twbPec s n (sent ++ answer) } }

/-- R514, R518: the result and object of the port's last write. -/
def lastResultBytes (s : State) (n : Nat) : List Byte :=
  match (s.port n).last with
  | none => [0xFF, 0, 0, 0]
  | some (r, o) => [BitVec.ofNat 8 r, BitVec.ofNat 8 (o / 256), BitVec.ofNat 8 (o / 65536), BitVec.ofNat 8 o]

/-- A command at the object address is served (R533). -/
def twbServed (s : State) (n : Nat) : State := twbEnd (s.bump (twbIdx n) 0x17 32) n

/-- TWB_LAST_RESULT, R518: command 03h. -/
def execTwbLastResult (n : Fin 2) (s : State) : Out :=
  let sent := [twbAddress s n.val false, 0x03, twbAddress s n.val true]
  when (twbTarget s n.val) s
    (twbServed ((twbAnswer s n.val sent (lastResultBytes s n.val)).modTwb n.val (fun p => { p with answering := false }))
      n.val)

/-- R512, R513, R532: a timeout is counted and reported. -/
def twbTimeout (s : State) (n : Nat) : State := (s.bump (twbIdx n) 0x15 16).report (64 + n) .ce

/-- R512: whether the port has stretched SCL for the stretch limit since the START. -/
def stretchOver (s : State) (n : Nat) : Bool :=
  decide (cyclesUs (s.nat (twbIdx n) 0x0A) ≤ (s.port n).stretched + (s.t - (s.port n).since))

/-- The port begins to stretch SCL. -/
def stretchFrom (s : State) (n : Nat) : State := s.modTwb n (fun p => { p with since := s.t })

/-- STRETCH_LIMIT_EXPIRY, R512, R516, R521: the port releases SCL; an object read answers FFh throughout, and a byte that
no queue entry came for is FFh. -/
def execStretchLimitExpiry (n : Fin 2) (s : State) : Out :=
  let p := s.port n.val
  when (s.on 7 && (p.waiting || p.answering) && stretchOver s n.val) s
    (({ twbTimeout s n.val with resp := some { result := .accepted, value := 0xFFFFFFFF, bytes := [0xFF] } }).modTwb
      n.val (fun p => { p with waiting := false, answering := false }))

/-- R523: the controller transfer ends with a code. -/
def ctlEnd (s : State) (n code : Nat) : State := (s.putN (twbCtl n) 6 code).setBits (twbCtl n) 0x11 1

/-- SCL_LOW_TIMEOUT, R513, R523: SCL has been low for the timeout: the transfer is abandoned. -/
def execSclLowTimeout (n : Fin 2) (held : Nat) (s : State) : Out :=
  let s1 := (twbTimeout s n.val).setBits (twbIdx n.val) 0x12 8
  let s2 := if (s.port n.val).phase = .controller then ctlEnd s1 n.val 7 else s1
  when (s.on 7 && twbState s n.val != 0 && twbState s n.val != 5 &&
    decide (cyclesUs (s.nat (twbIdx n.val) 9) ≤ held)) s (twbEnd s2 n.val)

/-! ### Firmware target -/

/-- The role 1 queue of port n's firmware task, with room for an entry and its end (R521). -/
def twbQueue (s : State) (n room : Nat) : Option Nat :=
  let t := s.nat (twbIdx n) 7
  match (if t < 64 ∧ taskTakes s t = true then roleQueue s t 1 else none) with
  | some q => if room ≤ freeEntries s q then some q else none
  | none => none

/-- R520: an entry of a kind is posted by port n. -/
def twbPost (s : State) (n q kind : Nat) (b : Byte) : State :=
  { s with postNet := s.postNet ++ [{ src := 7 + n, queue := q, entry := dw (BitVec.ofNat 32 (kind * 2 ^ 24 + b.toNat)) (lo32 s.now) }] }

/-- Whether the port acknowledged the byte. -/
def twbAck (s : State) (ok : Bool) : State :=
  { s with resp := some { result := if ok then .accepted else .state, value := 0 } }

/-- The firmware address matches (R511, R521). -/
def twbAddressed (s : State) (n : Nat) (reading : Bool) : State :=
  if twbTarget s n = false ∨ s.nat (twbIdx n) 6 = 0xFF then s
  else
    match twbQueue s n 2 with
    | none => twbAck s false
    | some q =>
      twbAck ((twbPost (s.putN (twbIdx n) 0x10 2) n q (if reading then 2 else 1) 0).modTwb n
        (fun p => { p with phase := .firmware reading, answering := false, stretched := 0 })) true

/-- R512, R521: the port waits for an entry to send, and stretches SCL. -/
def twbWait (s : State) (n : Nat) : State :=
  if (s.port n).waiting then s else (stretchFrom s n).modTwb n (fun p => { p with waiting := true })

/-- R392, R521: one entry of the role 2 queue is popped and its byte sent; where there is none, or the path is
taken, the port stretches SCL. -/
def twbSend (s : State) (n : Nat) : State :=
  let t := s.nat (twbIdx n) 7
  match (if t < 64 ∧ taskTakes s t = true then roleQueue s t 2 else none) with
  | none => twbWait s n
  | some q =>
    if queueRuns s q = false ∨ popLevel s q = 0 ∨ pathFree s q = false then twbWait s n
    else
      let (d, s1) := pathPop s q
      let b : Byte := d.setWidth 8
      let spent := if (s.port n).waiting then s.t - (s.port n).since else 0
      { s1.modTwb n (fun p => { p with waiting := false, stretched := p.stretched + spent }) with
        resp := some { result := .accepted, value := b.setWidth 32, bytes := [b] } }

/-- FIRMWARE_TARGET_BYTE, R520, R521: a byte or event at the firmware address. -/
def execFirmwareTargetByte (n : Fin 2) (b : TwbByte) (s : State) : Out :=
  if twbSees s = false then .next s
  else
    match b, (s.port n.val).phase with
    | .addressedWrite, _ => .next (twbAddressed s n.val false)
    | .addressedRead, _ => .next (twbAddressed s n.val true)
    | .data x, .firmware false =>
      match twbQueue s n.val 2 with
      | some q => .next (twbAck (twbPost s n.val q 0 x) true)
      | none => .next (twbAck s false)
    | .send, .firmware true => .next (twbSend s n.val)
    | .stop, .firmware _ =>
      match twbQueue s n.val 1 with
      | some q => .next (twbEnd (twbPost s n.val q 3 0) n.val)
      | none => .next (twbEnd s n.val)
    | _, _ => .next s

/-- POP_PATH_POP, R392: a CAN channel pops an entry of a raw frame, a port the entry of the byte it is to send. -/
def execPopPathPop (port : PopPort) (s : State) : Out :=
  match port with
  | .can n => .next (popRaw s n.val)
  | .twb n => when (s.on 7 && (s.port n.val).waiting) s (twbSend s n.val)

/-! ### Controller -/

/-- R522: the transfer that the controller object asks for. -/
def twbJob (s : State) (n : Nat) : TwbJob :=
  { address := s.nat (twbCtl n) 1, write := s.nat (twbCtl n) 2, read := s.nat (twbCtl n) 3, pec := s.flag (twbCtl n) 4 0 }

/-- R522: the effect of a write of 1h to the start. -/
def ctlStartEff (n : Nat) : WEff := fun _ _ s =>
  if s.nat (twbCtl n) 6 = 1 ∨ s.flag (twbIdx n) 1 0 = false then rej .state s
  else
    let s1 := ((s.putN (twbCtl n) 6 1).putN (twbCtl n) 8 0).modTwb n (fun p => { p with losses := 0, job := twbJob s n })
    if twbState s n = 1 then
      acc ((s1.putN (twbIdx n) 0x10 3).modTwb n (fun p => { p with phase := .controller, begun := s.t }))
    else acc (s1.modTwb n (fun p => { p with start := true }))

/-- CONTROLLER_START: a write of 2B01h + n × 10h:05h. -/
def execControllerStart (n : Fin 2) (w : Wr) (s : State) : Out :=
  .next (accessWrite s w false (twbCtl n.val) 5 (ctlStartEff n.val))

/-- R522: byte k of the data words replaced. -/
def putDataByte (s : State) (n k : Nat) (b : Byte) : State :=
  s.putN (twbCtl n) (9 + k / 4) (setFieldN (s.nat (twbCtl n) (9 + k / 4)) (8 * (k % 4)) 8 b.toNat)

/-- R522: the bytes read are stored from byte k on. -/
def putDataBytes (s : State) (n k : Nat) : List Byte → State
  | [] => s
  | b :: t => putDataBytes (putDataByte s n k b) n (k + 1) t

/-- R522: the bytes on the bus of a whole transfer, those of addresses and PEC among them. -/
def TwbJob.bytes (j : TwbJob) : Nat :=
  let p := if j.pec then 1 else 0
  (if 0 < j.write ∨ j.read = 0 then 1 + j.write + (if 0 < j.write then p else 0) else 0) +
    (if 0 < j.read then 1 + j.read + p else 0)

/-- R510: the cycles that k bytes with their ACK bits take at least. -/
def byteCycles (s : State) (n k : Nat) : Nat := 9 * k * (s.nat (twbIdx n) 3 + s.nat (twbIdx n) 4)

/-- R510, R522: the bytes that a transfer with this end has taken at least. -/
def outcomeBytes (j : TwbJob) : TwbOutcome → Nat
  | .done _ _ => j.bytes
  | .addressNack => 1
  | .dataNack k => 1 + k.toNat

/-- CONTROLLER_TRANSFER_END, R522, R523: the transfer in progress ends. -/
def execControllerTransferEnd (n : Fin 2) (o : TwbOutcome) (s : State) : Out :=
  let c := twbCtl n.val
  let j := (s.port n.val).job
  let fin := match o with
    | .done l good =>
      let s1 := (putDataBytes s n.val 0 (l.take j.read)).putN c 8 (j.write + j.read)
      ctlEnd s1 n.val (if j.pec && decide (0 < j.read) && !good then 8 else 2)
    | .addressNack => ctlEnd s n.val 3
    | .dataNack k => ctlEnd (s.putN c 8 k.toNat) n.val 4
  when (twbSees s && decide ((s.port n.val).phase = .controller) &&
    s.passed (s.port n.val).begun (byteCycles s n.val (outcomeBytes j o))) s (twbEnd fin n.val)

/-- ARBITRATION_LOST, R524, R525: the port releases SDA; it restarts its transfer, or ends it when it has lost too often;
in an address byte of its own it serves as target. -/
def execArbitrationLost (n : Fin 2) (own : Bool) (s : State) : Out :=
  let i := twbIdx n.val
  let lost := (s.port n.val).losses + 1
  let s1 := ((s.bump i 0x14 16).setBits i 0x12 2).modTwb n.val (fun p => { p with losses := lost, phase := .idle })
  let s2 := if s.nat (twbCtl n.val) 7 < lost then ctlEnd s1 n.val 5 else s1.modTwb n.val (fun p => { p with start := true })
  let s3 := if own then (s2.setBits i 0x12 64).putN i 0x10 2 else twbEnd s2 n.val
  when (twbSees s && decide ((s.port n.val).phase = .controller)) s s3

/-- BUS_CLEAR, R72, R526: up to nine pulses free SDA, or the bus is stuck. -/
def execBusClear (n : Fin 2) (held : Nat) (freed : Bool) (s : State) : Out :=
  let i := twbIdx n.val
  let own := decide ((s.port n.val).phase = .controller) || (s.port n.val).start
  let stuck := ((s.setBits i 0x12 16).report (64 + n.val) .uc).modTwb n.val (fun p => { p with start := false })
  let s1 := if freed && !s.sup.vddioLow then
      (if own then (s.bump i 0x18 16).modTwb n.val (fun p => { p with begun := s.t }) else twbEnd (s.bump i 0x18 16) n.val)
    else twbEnd (if own then ctlEnd stuck n.val 6 else stuck) n.val
  when (s.on 7 && ((own && decide (cyclesUs (s.nat i 9) ≤ held)) || twbState s n.val == 4)) s s1

/-- R526: the effect of a write of 1h to the clear command. -/
def clearBusEff (n : Nat) : WEff := fun _ _ s =>
  if s.nat (twbCtl n) 6 = 1 ∨ twbState s n ≠ 1 then rej .state s else acc (s.putN (twbIdx n) 0x10 4)

/-- CLEAR_COMMAND: a write of 2B00h + n × 10h:11h. -/
def execClearCommand (n : Fin 2) (w : Wr) (s : State) : Out :=
  .next (accessWrite s w false (twbIdx n.val) 0x11 (clearBusEff n.val))

/-! ### Requests and sleep -/

/-- R530: the port wakes. -/
def twbWake (s : State) (n : Nat) : State :=
  let s1 := (s.putN (twbIdx n) 0x0B 0).modTwb n (fun p => { p with drowsy := false })
  if twbState s n = 5 then s1.putN (twbIdx n) 0x10 1 else s1

/-- R527, R530: the effect of a write of the request. -/
def requestEff (n : Nat) : WEff := fun w _ s =>
  let s1 := (s.put (twbIdx n) 0x0D w.value).modTwb n (fun p => { p with pulsed := none })
  acc (if w.value = 1 then twbWake s1 n else s1)

/-- REQUEST_WRITE: a write of 2B00h + n × 10h:0Dh. -/
def execRequestWrite (n : Fin 2) (w : Wr) (s : State) : Out :=
  .next (accessWrite s w false (twbIdx n.val) 0x0D (requestEff n.val))

/-- Whether a request is pending on an enabled, awake port. -/
def requestPending (s : State) (n : Nat) : Bool := s.on 7 && s.nat (twbIdx n) 0x0D == 1 && twbTarget s n

/-- R510: the time that the bus must be free before a START. -/
def busFreeCycles (s : State) (n : Nat) : Nat :=
  match s.nat (twbIdx n) 2 with
  | 0 => 940
  | 1 => 260
  | _ => 100

/-- REQUEST_PULSE, R527, R528: a pending request is made as a pulse on a free bus; one that ends with SDA low is lost,
and one that nothing answers is repeated after the timeout. -/
def execRequestPulse (n : Fin 2) (idle : Nat) (sdaLow : Bool) (s : State) : Out :=
  let due := match (s.port n.val).pulsed with
    | none => true
    | some f => s.passed f (cyclesUs (s.nat (twbIdx n.val) 9))
  when (requestPending s n.val && twbState s n.val == 1 && due && decide (2 * busFreeCycles s n.val ≤ idle)) s
    (s.modTwb n.val (fun p => { p with
      pulsed := if sdaLow then none else some s.t, pulse := s.t + cyclesNs (s.nat (twbIdx n.val) 0x0E) }))

/-- ALERT_RESPONSE, R528: a read of address 0Ch is answered with the object address; the winner's request is cleared. -/
def execAlertResponse (n : Fin 2) (won : Bool) (s : State) : Out :=
  let a := twbAddress s n.val false
  let s1 := if won then (twbAnswer s n.val [0x19] [a]).putN (twbIdx n.val) 0x0D 0 else s
  when (requestPending s n.val) s (s1.modTwb n.val (fun p => { p with pulsed := none }))

/-- REQUEST_DETECT, R529: a controller has seen SCL low for 1 µs on a free bus, and reads the requester. -/
def execRequestDetect (n : Fin 2) (held : Nat) (answer : Option Byte) (s : State) : Out :=
  let i := twbIdx n.val
  let s1 := s.setBits i 0x12 1
  let s2 := match answer with
    | some b => (s1.putN i 0x13 (b.toNat / 2)).setBits i 0x12 128
    | none => s1.putN i 0x13 0xFF
  when (twbSees s && s.flag i 1 0 && (twbState s n.val == 1 || twbState s n.val == 3) && s.flag i 0x0F 0 &&
    decide (cyclesUs 1 ≤ held)) s s2

/-- R530: the effect of a write of the sleep word. -/
def sleepEff (n : Nat) : WEff := fun w _ s =>
  let i := twbIdx n
  if w.value = 0 then acc (twbWake s n)
  else if twbState s n = 1 then acc ((s.putN i 0x0B 1).putN i 0x10 5)
  else if twbState s n = 0 ∨ twbState s n = 5 then acc (s.putN i 0x0B 1)
  else acc ((s.putN i 0x0B 1).modTwb n (fun p => { p with drowsy := true }))

/-- TWB_SLEEP: a write of 2B00h + n × 10h:0Bh. -/
def execTwbSleep (n : Fin 2) (w : Wr) (s : State) : Out :=
  .next (accessWrite s w false (twbIdx n.val) 0x0B (sleepEff n.val))

/-- WAKE_MATCH, R530: an asleep port's matcher sees an address that the wake mask enables. -/
def execWakeMatch (n : Fin 2) (firmware : Bool) (s : State) : Out :=
  let i := twbIdx n.val
  let enabled := if firmware then s.flag i 0x0C 1 && s.nat i 6 != 0xFF else s.flag i 0x0C 0
  when (twbSees s && twbState s n.val == 5 && enabled) s (((s.putN i 0x0B 0).setBits i 0x12 32).putN i 0x10 2)

end Sys2Proof.Machine
end

