-- ==== Sys2Proof/Machine/Stops.lean ====
section
/-! DEFINITION. The functions of each domain that a request to leave ON disables, and when they have stopped (R39 to
R43). -/
namespace Sys2Proof.Machine

/-- R43: a function is disabled as the write of 0 to the word of this effect disables it. -/
def offBy (e : WEff) (s : State) : State := (e { master := .foreman, len := 4, value := 0 } false s).2

/-- The functions numbered below `n` are disabled. -/
def offEach (n : Nat) (e : Nat → WEff) (s : State) : State := (List.range n).foldl (fun s k => offBy (e k) s) s

/-- R43, R772: a channel of the Assayer that works is aborted. -/
def abortCheck (s : State) (k : Nat) : State :=
  (assayerCommandEff k { master := .foreman, len := 4, value := 4 } false s).2

/-- R43: the functions of D2: journal, sequencer, gauge, ledger, interrupt controller, tasks, queues and Assayer. -/
def stopSystem (s : State) : State :=
  let s1 := offEach 32 queueEnableEff (offEach 64 taskEnableEff (offBy sequencerEnableEff (offBy gaugeEnableEff s)))
  let s2 := offBy journalEnableEff (offBy (plainWrite 0x3700 1) (offBy (irqPlainEff 0x3000 1) s1))
  (List.range 4).foldl abortCheck s2

/-- R43: the functions of D5: mark unit, charger, power path, search, rails, supervision, tables, phases with their Pilots,
sense channels, SCK groups, encoders and wheels. -/
def stopFabric (s : State) : State :=
  let s1 := offBy (chargerPlainEff 0x2E03 1) (offBy pathEnableEff (offBy chargerEnableEff (offBy markUnitEff s)))
  let s2 := offEach 12 (fun r => svPlainEff r 0 1) (offEach 12 railModeEff s1)
  let s3 := offEach 48 phaseModeEff (offEach 16 (fun f => tablePlainEff f 1) s2)
  let s4 := offEach 4 encoderEnableEff (offEach 8 sckEnableEff (offEach 64 senseModeAll s3))
  offEach 8 wheelModeAll s4

/-- R43: the functions of D7: the bulk session, the CAN channels and the two-wire ports. -/
def stopField (s : State) : State := offEach 2 twbEnableEff (offEach 2 canEnableEff (offBy bulkAbortEff s))

/-- R43: every function of domain d is disabled. The engines of D3 and D4 have stopped their work when no task is placed
on them (R44); the gate-supply drivers of D6 take their safe level with the domain (R566). -/
def stopDomain (s : State) (d : Nat) : State :=
  match d with
  | 2 => stopSystem s
  | 5 => stopFabric s
  | 6 => offEach 4 convEnableEff s
  | 7 => stopField s
  | _ => s

/-- R43, R44: whether every function of domain d has stopped. -/
def domainStopped (s : State) (d : Nat) : Bool :=
  match d with
  | 2 => s.nv.writing.isNone && s.nv.command.isNone && (List.range 4).all (fun k => chanState s k == 0) &&
      (List.range 64).all (fun t => placement s t == 0)
  | 3 => clusterEmpty s 0
  | 4 => clusterEmpty s 1
  | 5 => s.nat 0x21A0 2 != 2 && (List.range 64).all (fun c => senseStatus s c != 4)
  | 6 => (List.range 4).all (fun k => !(s.conv k).scanning)
  | 7 => (List.range 2).all (fun n => canState s n != 5 && twbState s n != 6)
  | _ => true

end Sys2Proof.Machine
end

