-- ==== Sys2Proof/Machine/Domains.lean ====
section
/-! DEFINITION. The power domains (R26 to R28, R43, R44, R567 to R571) and the Lighthouse (R671 to R673). -/
namespace Sys2Proof.Machine

/-- A cycle in which any of the family descriptor's words 03h to 0Eh changes adds one to its sequence, which wraps (R46,
R464). -/
def withDescriptor (s : State) (f : State → State) : State :=
  let s1 := f s
  let k := objKey 0x2001 0x10
  if (List.range 12).any (fun n => s1.obj 0x2001 (3 + n) != s.obj 0x2001 (3 + n)) && (s1.cycleCount k).isNone then
    (s1.noteCount k ((s1.obj 0x2001 0x10).setWidth 64) (fun c => c + 1)).put 0x2001 0x10 (s1.obj 0x2001 0x10 + 1)
  else s1

/-- R464: the domains that are ON. -/
def domainsOn (s : State) : Nat := maskOf ((List.range 8).filter s.on)

/-- The actual state of domain d, with the descriptor's mask. -/
def setDomain (s : State) (d v : Nat) : State :=
  withDescriptor s (fun s =>
    let s1 := s.putN 0x2D01 2 (setFieldN (s.nat 0x2D01 2) (2 * d) 2 v)
    s1.putN 0x2001 0x0A (domainsOn s1))

/-- R569: whether a write is still being carried out. -/
def domainsBusy (s : State) : Bool := s.dom.change.isSome || !s.fm.domainChanges.isEmpty

/-- R569: the changes that lead from the actual states to the requested ones: the domains that leave ON in descending
order, those that move between OFF and RETAIN, those that enter ON in ascending order. -/
def domainPlan (actual want : Nat) : List (Nat × Nat) :=
  let a := fun d => fieldN actual (2 * d) 2
  let w := fun d => fieldN want (2 * d) 2
  let ds := List.range 8
  ((ds.reverse.filter (fun d => a d == 2 && w d != 2)) ++ (ds.filter (fun d => a d != 2 && w d != 2 && a d != w d)) ++
    (ds.filter (fun d => a d != 2 && w d == 2))).map (fun d => (d, w d))

/-- R568: the code of the first condition that a requested word meets, 0 for none. -/
def domainRefusal (s : State) (v : Nat) : Nat :=
  let w := fun d => fieldN v (2 * d) 2
  if w 2 ≠ 2 ∧ [3, 4, 5, 6, 7].any (fun d => w d == 2) then 1
  else if (List.range 8).any (fun d => w d == 2 && !s.flag 0x3800 8 d) then 2
  else if w 0 ≠ 2 ∨ w 1 ≠ 2 ∨ w 2 = 0 ∨ w 5 = 1 ∨ w 6 = 1 ∨ w 7 = 1 then 3
  else 0

/-- R28, R41, R68: as a domain begins to leave ON, its outputs with a safe level take it, and what its signals drive in
other domains sees their reset values. -/
def domainSafe (s : State) (d : Nat) : State :=
  if d = 5 then { s with phases := s.phases.map (fun (x : Phase) => { x with gh := false, gl := false, dead := none }) }
  else if d = 6 then settleSlots s
  else if d = 2 then followTargets s
  else s

/-- R43, R44: whether the change of domain d to `target` may begin: a domain that leaves ON has stopped. -/
def mayChange (s : State) (d target : Nat) : Bool := target == 2 || s.domainState d != 2 || domainStopped s d

/-- R44, R567: the change in progress begins: the domain is changing state. -/
def beginChange (s : State) (d target : Nat) : State :=
  let old := s.domainState d
  let s1 := { s with dom := { change := some (d, target, some old) } }
  let s2 := if s1.fm.consolidation.map (·.1) = some (d - 3) ∧ (d = 3 ∨ d = 4) then
      (s1.putN 0x2780 8 0).modFm (fun m => { m with consolidation := none })
    else s1
  domainSafe (setDomain s2 d 3) d

/-- R43, R44, R427, R569: a change of domain d to `target` is taken up: one that leaves ON disables the functions of the
domain and waits, and a cluster with tasks is consolidated; any other begins at once. -/
def takeChange (s : State) (d target : Nat) : State :=
  let s1 : State := { s with dom := { change := some (d, target, none) } }
  if target = 2 ∨ s.domainState d ≠ 2 then beginChange s1 d target
  else if (d = 3 ∨ d = 4) ∧ clusterEmpty s (d - 3) = false then consolidate s1 (d - 3)
  else stopDomain s1 d

/-- R43, R44, R569: the change taken up begins once it may; the next of an accepted write is taken up after it. -/
def settleDomains (s : State) : State :=
  match s.dom.change with
  | some (_, _, some _) => s
  | some (d, target, none) => if mayChange s d target then beginChange s d target else s
  | none =>
    match s.fm.domainChanges with
    | [] => s
    | (d, target) :: rest => takeChange (s.modFm (fun m => { m with domainChanges := rest })) d target

/-- R569: a request for domain states that has passed its checks. -/
def acceptDomains (s : State) (v : Nat) : State :=
  let s1 := (s.putN 0x2D01 1 v).modFm (fun m => { m with domainChanges := domainPlan (s.nat 0x2D01 2) v })
  settleDomains s1

/-- R567 to R569: the effect of a write of the requested states. -/
def domainRequestEff : WEff := fun w _ s =>
  let v := w.value.toNat % 65536
  if domainsBusy s then rej .state s
  else match domainRefusal s v with
    | 0 => acc (acceptDomains s v)
    | c => rej .state (s.putN 0x2D01 3 c)

/-- DOMAIN_REQUEST_WRITE: a write of 2D01h:01h. -/
def execDomainRequestWrite (w : Wr) (s : State) : Out := .next (accessWrite s w false 0x2D01 1 domainRequestEff)

/-- R26, R28, R375, R484: the contents of a domain that has changed state: lost in OFF, reset on leaving it, kept through
RETAIN. -/
def domainContents (s : State) (d old new : Nat) : State :=
  if new = 0 then (if d = 5 then resetD5 s else domainReset s d)
  else if old = 0 then (if d = 7 then resetCommunication (domainReset s d) else domainReset s d)
  else s

/-- DOMAIN_CHANGE_COMPLETE, R570, R591: domain d has reached its state. -/
def execDomainChangeComplete (d : Fin 8) (s : State) : Out :=
  match s.dom.change with
  | some (c, target, some old) =>
    let s1 := domainContents ((setDomain { s with dom := {} } c target).bump 0x2D01 4 32) c old target
    when (c == d.val) s (settleDomains (settleAll (settleSlots (foremanAct s1))))
  | _ => .next s

/-! ### Lighthouse -/

/-- The real time within which a Lighthouse clock edge sees a D1 event (R672): one period of that clock. -/
def lighthousePeriod (s : State) : Nat := ceilDiv 400000000 (lighthouseRate s)

/-- R672: whether a D1 event has come since the last edge. -/
def eventRecent (s : State) (c : Nat) : Bool :=
  s.aon.events.any (fun e => e.1 == c && decide (s.real ≤ e.2 + lighthousePeriod s))

/-- R672: whether source n is asserted as the Lighthouse sees it. -/
def wakeLevel (s : State) (n : Nat) : Bool := sourceLevel s n && (s.on 2 || n == 131 || n == 133)

/-- R671: Lighthouse entry n. -/
def wakeEntry (s : State) (n : Nat) : Nat := s.nat 0x3080 (1 + n)

/-- R672: whether entry n fires at this edge. -/
def entryFires (s : State) (n : Nat) : Bool :=
  let e := wakeEntry s n
  bitN e 15 && (if bitN e 8 then eventRecent s (fieldN e 0 8)
    else wakeLevel s (fieldN e 0 8) && !s.aon.fired.contains n)

/-- R672: entries whose source is no longer asserted may fire again. -/
def releaseEntries (s : State) : State :=
  let keep := s.aon.fired.filter (fun n =>
    let e := wakeEntry s n
    bitN e 15 && !bitN e 8 && wakeLevel s (fieldN e 0 8))
  { s with aon := { s.aon with fired := keep, events := s.aon.events.filter (fun e => decide (s.real ≤ e.2 + lighthousePeriod s)) } }

/-- R571, R672: the request of the entries that fire: D2 returns to ON, and the domains of the union of WAKE enter ON. -/
def wakeDomains (s : State) (wake : Nat) : State :=
  let now := s.nat 0x2D01 1
  let v := (bitsSet 8 wake).foldl (fun v d => setFieldN v (2 * d) 2 2) now
  let asleep := s.domainState 2 == 1
  let v2 := if asleep then setFieldN v 4 2 2 else v
  let back := if asleep then setFieldN now 4 2 2 else now
  if domainsBusy s ∨ (wake = 0 ∧ asleep = false) then s
  else match domainRefusal s v2 with
    | 0 => acceptDomains s v2
    | c => let s1 := s.putN 0x3080 0x25 c
      if asleep then acceptDomains s1 back else s1

/-- LIGHTHOUSE_FIRE, R672: a Lighthouse clock edge at which entries fire. -/
def execLighthouseFire (s : State) : Out :=
  match (List.range 32).filter (entryFires s) with
  | [] => .next s
  | n :: t =>
    let fire := n :: t
    let wake := fire.foldl (fun m k => m ||| fieldN (wakeEntry s k) 26 6 * 4) 0
    let s1 := ((s.putN 0x3080 0x21 n).put 0x3080 0x22 (lo32 s.now)).bump 0x3080 0x23 16
    let level := fire.filter (fun k => !bitN (wakeEntry s k) 8)
    let s2 := { s1 with aon := { s1.aon with events := [], fired := s1.aon.fired ++ level } }
    .next (wakeDomains s2 wake)

end Sys2Proof.Machine
end

