-- ==== Sys2Proof/Machine/Live.lean ====
section
/-! DEFINITION. The value an object word shows (R12): the stored word, or for a live value what the state derives. -/
namespace Sys2Proof.Machine

/-- Whether index i is a wheel's object, and which wheel's (R130). -/
def isWheel (i : Nat) : Bool := decide (0x2100 ≤ i) && decide (i < 0x2180) && i % 16 == 0
/-- The wheel of an index. -/
def wheelOf (i : Nat) : Nat := (i - 0x2100) / 16

/-- R451: the subindexes that a read of i:j latches. -/
def latches (i j : Nat) : List Nat :=
  if isWheel i ∧ j = 6 then [8, 9, 0x0A]
  else if i = 0x3300 ∧ j = 1 then [3]
  else if i = 0x3300 ∧ j = 7 then [8]
  else []

/-- R451: the subindex whose read latches i:j. -/
def latchedBy (i j : Nat) : Option Nat :=
  if isWheel i ∧ (j = 8 ∨ j = 9 ∨ j = 0x0A) then some 6
  else if i = 0x3300 ∧ j = 3 then some 1
  else if i = 0x3300 ∧ j = 8 then some 7
  else none

/-- The live words of block 1000h. -/
def live10 (s : State) (_ : Master) (i j : Nat) : Word :=
  if i = 0x1000 ∧ j = 0 then s.obj 0x2A20 0x0C -- R484
  else if i = 0x1001 ∧ j = 0 then BitVec.ofNat 32 (errorRegister s) -- R488
  else if i = 0x1018 ∧ j = 4 then s.obj 0x2000 4 -- R484
  else s.obj i j

/-- The live words of block 2000h. -/
def live20 (s : State) (m : Master) (i j : Nat) : Word :=
  if i = 0x2010 ∧ j = 1 then BitVec.ofNat 32 (s.master m).lastResult -- R465
  else if i = 0x2010 ∧ j = 2 then (s.master m).lastObject -- R465
  else s.obj i j

/-- R21, R143: the bits of a mark's target word that are not reserved: the field that its action names. The model's choice:
where the action names none, the word reads as written. -/
def targetField (code : Nat) : Word :=
  match code with
  | 1 => 0xF
  | 3 => 0xFFF
  | 4 => 0xFF
  | 5 => 0x3F
  | 6 => 0x3F
  | 8 => 0xFF
  | _ => 0xFFFFFFFF

/-- The live words of block 2100h. -/
def live21 (s : State) (_ : Master) (i j : Nat) : Word :=
  if i = 0x21B1 ∧ j = 1 then lo32 s.now -- R94
  else if i = 0x21B1 ∧ j = 2 then hi32 s.now -- R94
  else if isWheel i ∧ j = 6 then (s.wheel (wheelOf i)).angle -- R130
  else if isWheel i ∧ j = 8 then (s.wheel (wheelOf i)).turns -- R130
  else if isWheel i ∧ j = 9 then word32 (floorDiv (wheelF s (wheelOf i)) 256) -- R130
  else if isWheel i ∧ j = 0x0A then word32 (fmod (wheelF s (wheelOf i)) 256) -- R130
  else if 0x2180 ≤ i ∧ i < 0x21A0 ∧ 1 ≤ j ∧ j % 4 = 3 then s.obj i j &&& targetField (fieldN (s.nat i (j - 2)) 4 4) -- R143
  else s.obj i j

/-- The live words of block 2200h. -/
def live22 (s : State) (_ : Master) (i j : Nat) : Word :=
  if i = 0x2248 ∧ j = 1 then BitVec.ofNat 32 (maskOf ((List.range 32).filter (fun c => s.nat (0x2200 + (c + 0)) 0x0E == 3))) -- R196
  else if i = 0x2248 ∧ j = 2 then BitVec.ofNat 32 (maskOf ((List.range 32).filter (fun c => s.nat (0x2200 + (c + 32)) 0x0E == 3))) -- R196
  else if i = 0x2248 ∧ j = 3 then BitVec.ofNat 32 (maskOf ((List.range 32).filter (fun c => s.flag (0x2200 + (c + 0)) 0x0F 0))) -- R196
  else if i = 0x2248 ∧ j = 4 then BitVec.ofNat 32 (maskOf ((List.range 32).filter (fun c => s.flag (0x2200 + (c + 32)) 0x0F 0))) -- R196
  else s.obj i j

/-- The live words of block 2300h. -/
def live23 (s : State) (_ : Master) (i j : Nat) : Word :=
  if 0x2300 ≤ i ∧ i < 0x2330 ∧ j = 0x0E then word32 (halfWidth s (i - 0x2300)) -- R210
  else if 0x2300 ≤ i ∧ i < 0x2330 ∧ j = 0x1B then BitVec.ofNat 32 ((if (s.phase (i - 0x2300)).latch then 2 else 0) + (if (s.phase (i - 0x2300)).gf then 1 else 0)) -- R220
  else if i = 0x2330 ∧ j = 1 then BitVec.ofNat 32 (maskOf ((List.range 32).filter (fun p => switching (phaseState s p)))) -- R248
  else if i = 0x2330 ∧ j = 2 then BitVec.ofNat 32 (maskOf ((List.range 16).filter (fun p => switching (phaseState s (p + 32))))) -- R248
  else if i = 0x2330 ∧ j = 3 then BitVec.ofNat 32 (maskOf ((List.range 32).filter (fun p => (phaseState s p == 6 || phaseState s p == 7)))) -- R248
  else if i = 0x2330 ∧ j = 4 then BitVec.ofNat 32 (maskOf ((List.range 16).filter (fun p => (phaseState s (p + 32) == 6 || phaseState s (p + 32) == 7)))) -- R248
  else if i = 0x2330 ∧ j = 5 then BitVec.ofNat 32 (maskOf ((List.range 32).filter (fun p => pilotState s p == 3))) -- R248
  else if i = 0x2330 ∧ j = 6 then BitVec.ofNat 32 (maskOf ((List.range 16).filter (fun p => pilotState s (p + 32) == 3))) -- R248
  else s.obj i j

/-- The live words of block 2400h. -/
def live24 (s : State) (_ : Master) (i j : Nat) : Word :=
  if 0x2400 ≤ i ∧ i < 0x24C0 ∧ i % 16 = 0 ∧ j = 0x0D then BitVec.ofNat 32 (railWheels s ((i - 0x2400) / 16)) -- R292
  else if 0x2400 ≤ i ∧ i < 0x24C0 ∧ i % 16 = 4 ∧ j = 0x11 then BitVec.ofNat 32 (maskOf ((List.range (memberCount s ((i - 0x2400) / 16))).filter (memberExcluded s ((i - 0x2400) / 16)))) -- R256
  else if 0x2400 ≤ i ∧ i < 0x24C0 ∧ i % 16 = 4 ∧ j = 0x14 then BitVec.ofNat 32 (slotHolders s ((i - 0x2400) / 16)).length -- R296
  else if 0x2400 ≤ i ∧ i < 0x24C0 ∧ i % 16 = 4 ∧ j = 0x15 then BitVec.ofNat 32 (unitsIn s ((i - 0x2400) / 16) 2).length -- R296
  else s.obj i j

/-- R343: the trace words of rail r: the traced member's latest measurement. -/
def tracedWord (s : State) (r j : Nat) : Word :=
  let m := (s.rail r).members.getD (s.nat (svIdx r) 0x10) {}
  if j = 0x11 then word32 m.dx
  else if j = 0x12 then word32 m.dp
  else if j = 0x13 then BitVec.ofNat 32 m.wn
  else BitVec.ofNat 32 m.cls

/-- The live words of block 2600h. -/
def live26 (s : State) (_ : Master) (i j : Nat) : Word :=
  if 0x2600 ≤ i ∧ i < 0x26C0 ∧ i % 16 = 2 ∧ 1 ≤ j ∧ j ≤ 3 then word32 (derateLimit s ((i - 0x2600) / 16) (j - 1)) -- R316
  else if 0x2600 ≤ i ∧ i < 0x26C0 ∧ i % 16 = 2 ∧ 7 ≤ j ∧ j ≤ 9 then BitVec.ofNat 32 (shadowCurrent s ((i - 0x2600) / 16) (j - 7)) -- R320
  else if 0x2600 ≤ i ∧ i < 0x26C0 ∧ i % 16 = 0 ∧ 0x11 ≤ j ∧ j ≤ 0x14 then tracedWord s ((i - 0x2600) / 16) j -- R343
  else if 0x2600 ≤ i ∧ i < 0x26C0 ∧ i % 16 = 5 ∧ 1 ≤ j then BitVec.ofNat 32 (episodeUs s ((i - 0x2600) / 16) (j - 1)) -- R328
  else s.obj i j

/-- The live words of block 2700h. -/
def live27 (s : State) (_ : Master) (i j : Nat) : Word :=
  if 0x2700 ≤ i ∧ i ≤ 0x270F ∧ j = 2 then BitVec.ofNat 32 (engineCode s (i - 0x2700)) -- R377
  else if 0x2790 ≤ i ∧ i ≤ 0x279F ∧ j = 6 then BitVec.ofNat 32 (engineLoad s (i - 0x2790)) -- R409
  else if 0x2790 ≤ i ∧ i ≤ 0x279F ∧ j = 7 then BitVec.ofNat 32 (tasksOn s (i - 0x2790)).length -- R437
  else if 0x2790 ≤ i ∧ i ≤ 0x279F ∧ j = 8 then BitVec.ofNat 32 (if engineFaulty s (i - 0x2790) then 3 else if engineFit s (i - 0x2790) = false then 0 else if engineDraining s (i - 0x2790) then 4 else if isSpare s (i - 0x2790) then 2 else 1) -- R437
  else if 0x2790 ≤ i ∧ i ≤ 0x279F ∧ j = 9 then BitVec.ofNat 32 ((List.range 64).filter (fun t => taskHost s t == some (i - 0x2790) && (s.task t).pending.isSome)).length -- R437
  else s.obj i j

/-- The live words of block 2900h. -/
def live29 (s : State) (_ : Master) (i j : Nat) : Word :=
  if 0x2900 ≤ i ∧ i ≤ 0x291F ∧ j = 9 then s.obj i 0x12 - s.obj i 0x13 -- R384
  else if i = 0x2920 ∧ j = 1 then BitVec.ofNat 32 (maskOf ((List.range 32).filter (fun q => s.nat (0x2900 + q) 8 != 0))) -- R400
  else if i = 0x2920 ∧ j = 2 then BitVec.ofNat 32 (((List.range 32).filter (fun q => s.nat (0x2900 + q) 8 != 0)).map (fun q => s.nat (0x2900 + q) 3)).sum -- R400
  else s.obj i j

/-- The live words of block 2A00h. -/
def live2A (s : State) (_ : Master) (i j : Nat) : Word :=
  if i = 0x2A81 ∧ j = 1 then BitVec.ofNat 32 (domainSize s i) -- R507
  else if i = 0x2A81 ∧ j = 3 then domainWord s i (domainOffset s i) -- R449
  else if i = 0x2A80 ∧ j = 0x10 then BitVec.ofNat 32 (maskOf ((List.range 4).filter (slotUsable s))) -- R499
  else s.obj i j

/-- The live words of block 2C00h. -/
def live2C (s : State) (_ : Master) (i j : Nat) : Word :=
  if i = 0x2C20 ∧ j = 0x11 then BitVec.ofNat 32 (maskOf ((List.range 16).filter (gpioLevel s))) -- R553
  else s.obj i j

/-- The live words of block 2D00h. -/
def live2D (s : State) (_ : Master) (i j : Nat) : Word :=
  if i = 0x2D00 ∧ j = 4 then BitVec.ofNat 32 (maskOf ((List.range 3).filter (fun r => (s.reg r).good)) + 16 * maskOf ((List.range 3).filter (fun r => (s.reg r).latched))) -- R590
  else if i = 0x2D00 ∧ j = 9 then BitVec.ofNat 32 (maskOf ((List.range 2).filter (fun g => (s.gateSupply g).good)) + 4 * maskOf ((List.range 2).filter (fun g => (s.gateSupply g).stopped))) -- R590
  else if i = 0x2D00 ∧ j = 0x0A then BitVec.ofNat 32 ((if s.sup.vddaLow then 0 else 8) + (if s.sup.vddioLow then 0 else 4) + (if s.sup.warn then 0 else 2) + (if s.sup.overVolt then 1 else 0)) -- R590
  else if i = 0x2D03 ∧ j = 4 then BitVec.ofNat 32 ((if s.seq.rdyline && !s.sup.vddioLow then 2 else 0) + (if s.seq.pulling.isNone && !s.seq.others && !s.sup.vddioLow then 1 else 0)) -- R593
  else if i = 0x2D03 ∧ j = 5 then BitVec.ofNat 32 ((if s.seq.pulling.isSome then 2 else 0) + (if releasesReady s then 0 else 1)) -- R593
  else if 0x2D10 ≤ i ∧ i ≤ 0x2D1F ∧ j = 0x11 then BitVec.ofNat 32 (if slotTarget s (i - 0x2D10) = 0 then (if (s.slot (i - 0x2D10)).raw && !s.sup.vddioLow then 2 else 0) + (if (s.slot (i - 0x2D10)).good then 1 else 0) else if slotGood s (i - 0x2D10) then 3 else 0) -- R594
  else s.obj i j

/-- The live words of block 2E00h. -/
def live2E (s : State) (_ : Master) (i j : Nat) : Word :=
  if i = 0x2E00 ∧ j = 8 then word32 (clamp32 (voltageTarget s)) -- R600
  else if i = 0x2E00 ∧ j = 9 then word32 (clamp32 (batteryLimit s)) -- R600
  else if i = 0x2E00 ∧ j = 0x14 then BitVec.ofNat 32 (satN 32 (stageSeconds s)) -- R602
  else if i = 0x2E00 ∧ j = 0x15 then BitVec.ofNat 32 (satN 32 (s.chg.chargeMs / 1000)) -- R602
  else if i = 0x2E00 ∧ j = 0x16 then word32 (tempInUse s) -- R599
  else if i = 0x2E02 ∧ j = 0x13 then BitVec.ofNat 32 (episodeTime s) -- R608
  else s.obj i j

/-- The live words of block 2F00h. -/
def live2F (s : State) (_ : Master) (i j : Nat) : Word :=
  if i = 0x2F00 ∧ j = 0x11 then BitVec.ofNat 32 ((if s.obj 0x2F09 7 = 0 then 0 else 1) + (if ocvValid s then 2 else 0) + (if gaugeRValid s then 4 else 0) + (if gaugeCovered s then 8 else 0)) -- R651
  else if i = 0x2F03 ∧ j = 0x12 then BitVec.ofNat 32 (if ocvValid s then 1 else 0) -- R637
  else if i = 0x2F09 ∧ j = 3 then BitVec.ofNat 32 (if s.nv.writing.map (·.1) = some 3 then (if recPending s 3 then 2 else 1) else 0) -- R658
  else s.obj i j

/-- The live words of block 3000h. -/
def live30 (s : State) (_ : Master) (i j : Nat) : Word :=
  if 0x3010 ≤ i ∧ i ≤ 0x301F ∧ j = 5 then BitVec.ofNat 32 ((resolvedEngine s (i - 0x3010)).getD 0xFF) -- R675
  else if 0x3040 ≤ i ∧ i ≤ 0x305F ∧ j = 3 then BitVec.ofNat 32 (groupState s (i - 0x3040)) -- R676
  else if i = 0x3001 ∧ j = 1 then BitVec.ofNat 32 (maskOf ((List.range 32).filter (sourceLevel s))) -- R674
  else if i = 0x3001 ∧ j = 2 then BitVec.ofNat 32 (maskOf ((List.range 32).filter (fun n => s.irq.claims.any (fun c => c.1 == n)))) -- R674
  else if i = 0x3080 ∧ j = 0x24 then BitVec.ofNat 32 ((if eventRecent s 1 then 1 else 0) + (if s.sup.warn then 2 else 4) + (if s.flag 0x3300 0x12 1 then 8 else 0) + (if s.flag 0x3100 0x0F 2 then 16 else 0)) -- R677
  else s.obj i j

/-- The live words of block 3200h. -/
def live32 (s : State) (_ : Master) (i j : Nat) : Word :=
  if i = 0x3200 ∧ j = 0x12 then BitVec.ofNat 32 s.col.log.length -- R713
  else if i = 0x3203 ∧ j = 1 then lo32 (s.col.log.headD 0) -- R714
  else if i = 0x3203 ∧ j = 2 then hi32 (s.col.log.headD 0) -- R714
  else s.obj i j

/-- The live words of block 3300h. -/
def live33 (s : State) (_ : Master) (i j : Nat) : Word :=
  if i = 0x3300 ∧ j = 7 then BitVec.ofNat 32 (dateWord s) -- R728
  else if i = 0x3300 ∧ j = 8 then BitVec.ofNat 32 (timeWord s) -- R728
  else if i = 0x3300 ∧ j = 0x11 then BitVec.ofNat 32 (rtcStatus s) -- R736
  else s.obj i j

/-- The live words of block 3400h. -/
def live34 (s : State) (_ : Master) (i j : Nat) : Word :=
  if i = 0x3451 ∧ 1 ≤ j then (s.obj i j &&& 0xDFFFFFFF) ||| (if recPending s (j - 1) then 0x20000000 else 0) -- R764
  else s.obj i j

/-- The live words of block 3600h. -/
def live36 (s : State) (_ : Master) (i j : Nat) : Word :=
  if i = 0x3600 ∧ j = 5 then BitVec.ofNat 32 (maskOf ((List.range 12).filter (fun b => s.nat (0x3610 + b) 2 != 0))) -- R784
  else s.obj i j

/-- The live words of block 3800h. -/
def live38 (s : State) (_ : Master) (i j : Nat) : Word :=
  if (i = 0x3808 ∨ i = 0x3809) ∧ j = 1 then BitVec.ofNat 32 (domainSize s i) -- R811
  else s.obj i j

/-- The value that word i:j shows to master m. -/
def live (s : State) (m : Master) (i j : Nat) : Word :=
  match i / 256 with
  | 0x10 => live10 s m i j
  | 0x20 => live20 s m i j
  | 0x21 => live21 s m i j
  | 0x22 => live22 s m i j
  | 0x23 => live23 s m i j
  | 0x24 => live24 s m i j
  | 0x26 => live26 s m i j
  | 0x27 => live27 s m i j
  | 0x29 => live29 s m i j
  | 0x2A => live2A s m i j
  | 0x2C => live2C s m i j
  | 0x2D => live2D s m i j
  | 0x2E => live2E s m i j
  | 0x2F => live2F s m i j
  | 0x30 => live30 s m i j
  | 0x32 => live32 s m i j
  | 0x33 => live33 s m i j
  | 0x34 => live34 s m i j
  | 0x36 => live36 s m i j
  | 0x38 => live38 s m i j
  | _ => s.obj i j

end Sys2Proof.Machine
end

