-- ==== Sys2Proof/Machine/Reads.lean ====
section
/-! DEFINITION. The reading side of the access path (R12, R13, R440, R450 to R453). -/
namespace Sys2Proof.Machine

/-- The effect of a read beyond returning the value: the value and the state. -/
abbrev REff := Rd → State → Word × State

/-- The other word of a pair. -/
def pairOther (r : ObjRow) (j : Nat) : Nat := if r.ty.isHigh then j - 1 else j + 1

/-- R12, R13, R450 to R453: the value that a read of word i:j returns to a master, and what it clears and buffers. -/
def readWord (i j : Nat) : REff := fun rd s =>
  match objRow i j with
  | none => (0, s)
  | some r =>
    if r.ty.isLow || r.ty.isHigh then
      match Sparse.find (s.master rd.master).buffer (objKey i j) with
      | some v => (v, s.modMaster rd.master (fun x => { x with buffer := x.buffer.filter (fun p => p.1 != objKey i j) }))
      | none =>
        let o := pairOther r j
        let v := live s rd.master i j
        let s' := s.modMaster rd.master (fun x => { x with buffer :=
          (objKey i o, live s rd.master i o) :: (latches i j).map (fun k => (objKey i k, live s rd.master i k)) })
        (v, if r.acc = .rc then (s'.put i j 0).put i o 0 else s')
    else if (latchedBy i j).isSome then
      match Sparse.find (s.master rd.master).buffer (objKey i j) with
      | some v => (v, s)
      | none => (live s rd.master i j, s)
    else
      match latches i j with
      | [] =>
        match r.acc with
        | .wo => (0, s)
        | .rc => s.takeCount i j (live s rd.master i j)
        | _ => (live s rd.master i j, s)
      | l =>
        (live s rd.master i j,
          s.modMaster rd.master (fun x => { x with buffer := l.map (fun k => (objKey i k, live s rd.master i k)) }))

/-- One read access to a hardware object, whole. -/
def accessRead (s : State) (r : Rd) (i j : Nat) (eff : REff) : State :=
  if masterLive s r.master = false then s
  else
    match checkRead s r i j with
    | .accepted => let (v, s') := eff r s; endRead s' r.master i j .accepted v
    | res => endRead s r.master i j res 0

end Sys2Proof.Machine
end

