-- ==== Sys2Proof/Machine/FwAccess.lean ====
section
/-! DEFINITION. The firmware object table's commit and validation, and the access path to the firmware objects (R457 to
R462, R466 to R468). -/
namespace Sys2Proof.Machine

/-! ### Commit and validation -/

/-- R459, R466, R467: a table comes into force. -/
def tableInForce (s : State) (a n : Nat) : State :=
  let s1 := (((s.putN 0x2020 5 a).putN 0x2020 6 n).putN 0x2020 3 (if n = 0 then 0 else 1))
  { (List.range 16).foldl (fun s k => s.putN 0x2021 (1 + k) 0) s1 with fwt := { validating := none } }

/-- R459: the effect of a write of the entry count; a count of 0 empties the table without validation. -/
def tableCommitEff : WEff := fun w _ s =>
  if s.fwt.validating.isSome then rej .state s
  else
    let n := w.value.toNat
    let s1 := s.putN 0x2020 2 n
    if n = 0 then acc (tableInForce s1 (s.nat 0x2020 1) 0)
    else acc { s1.putN 0x2020 3 2 with fwt := { validating := some (s.nat 0x2020 1, n), since := s.t } }

/-- FIRMWARE_TABLE_COMMIT: a write of 2020h:02h. -/
def execFirmwareTableCommit (w : Wr) (s : State) : Out := .next (accessWrite s w false 0x2020 2 tableCommitEff)

/-- R459: whether `n` bytes from a word-aligned address lie inside system SRAM. -/
def sramWords (a n : Nat) : Bool := a % 4 == 0 && inSram a n

/-- R458: the types of the table. -/
def fwTypes : List Nat := [1, 2, 3, 4, 5, 6, 7, 8, 9, 10, 0x15, 0x16, 0x19, 0x1B]

/-- R458: whether the limits address of an entry counts. -/
def FwEntry.limited (x : FwEntry) : Bool := x.limits != 0 && !fwPair x.ty && x.ty != 9 && x.ty != 10

/-- R459: the code of the first condition that an entry fails, 0 for none; `prev` is the index of the entry before. -/
def entryFault (x : FwEntry) (prev : Option Nat) : Nat :=
  if (match prev with | some p => decide (x.index ≤ p) | none => false) = true then 3
  else if isFirmware x.index = false then 4
  else if fwTypes.contains x.ty = false ∨ [0, 1, 2, 3, 6].contains x.acc = false ∨ x.notify = 3 then 5
  else if sramWords x.backing (4 * x.highest) = false ∨ (x.limited = true ∧ sramWords x.limits 8 = false) then 6
  else if x.highest = 0 ∨ (fwPair x.ty = true ∧ x.highest % 2 = 1) then 7
  else 0

/-- R459: the first failing condition of `n` entries from entry `k` of the table at `a`. -/
def entriesFault (s : State) (a : Nat) : Nat → Nat → Option Nat → Nat
  | 0, _, _ => 0
  | n + 1, k, prev =>
    let x := fwEntryAt s a k
    match entryFault x prev with
    | 0 => entriesFault s a n (k + 1) (some x.index)
    | c => c

/-- R459: the code of a table, 0 where the validation passes. -/
def tableFault (s : State) (a n : Nat) : Nat :=
  if 512 < n then 1
  else if sramWords a (16 * n) = false then 2
  else entriesFault s a n 0 none

/-- The object logic reads words of system SRAM (R371, R372, R459): false where one holds a double-bit error. -/
def readWords (s : State) : List Nat → State × Bool
  | [] => (s, true)
  | a :: t =>
    let (s1, ok) := eccRead s .sram a
    if ok then readWords s1 t else (s1, false)

/-- The words of the table and of its limits that the validation reads. -/
def tableWords (s : State) (a n : Nat) : List Nat :=
  (List.range (4 * n)).map (fun k => a + 4 * k) ++
    ((List.range n).map (fwEntryAt s a)).flatMap (fun x => if x.limited then [x.limits, x.limits + 4] else [])

/-- R459: the validation ends. A word that cannot be read fails it; the spec gives no code for that. -/
def validateTable (s : State) (a n : Nat) : State :=
  let fail := fun (s : State) (c : Nat) =>
    { (s.putN 0x2020 4 c).putN 0x2020 3 (if s.nat 0x2020 6 = 0 then 0 else 1) with fwt := { validating := none } }
  match tableFault s a n with
  | 0 =>
    let (s1, ok) := readWords s (tableWords s a n)
    if ok then (tableInForce s1 a n).putN 0x2020 4 0
    else
      let (b, s2) := s1.freshByte
      fail s2 b.toNat
  | c => fail s c

/-- R459: whether the validation can have ended: a table that passes takes a grant, a cycle each, for every word read. -/
def validationOver (s : State) (a n : Nat) : Bool :=
  tableFault s a n != 0 || s.passed s.fwt.since (tableWords s a n).length

/-- FIRMWARE_TABLE_VALIDATED, R459. -/
def execFirmwareTableValidated (s : State) : Out :=
  match s.fwt.validating with
  | some (a, n) => when (s.on 2 && validationOver s a n) s (validateTable s a n)
  | none => .next s

/-! ### Accesses -/

/-- R32, R36, R462: whether a master may not make the access: an engine in user mode writes A000h to BFFFh only, and both
ways as its PMP allows; the Foreman reaches no firmware object. -/
def fwPrivileged (s : State) (m : Master) (store : Bool) (i j : Nat) : Bool :=
  match m with
  | .engine e user =>
    (user && store && decide (i < 0xA000)) || !pmpAllows (s.eng e.val) user (if store then .store else .load) (windowAddr i j)
  | .foreman => true
  | _ => false

/-- R460, R462: the words an access reads or writes: those of the search, its entry's, and the backing word or pair. -/
def fwTouched (s : State) (x : FwEntry) (j : Nat) (r : ObjRow) : List Nat :=
  let e := s.nat 0x2020 5 + 16 * x.place
  fwProbed s x.index ++ [e + 4, e + 8, e + 12] ++
    (if j = 0 then [] else if r.ty.isLow then [x.word j, x.word (j + 1)] else if r.ty.isHigh then [x.word (j - 1), x.word j]
      else [x.word j])

/-- R461: what word j of a firmware object reads as. -/
def fwValue (s : State) (x : FwEntry) (j : Nat) (r : ObjRow) : Word :=
  if j = 0 then BitVec.ofNat 32 x.highest else r.ty.extend (s.memWord (x.word j))

/-- R450, R461: the value that a read returns to a master. -/
def fwReadValue (s : State) (m : Master) (x : FwEntry) (i j : Nat) (r : ObjRow) : Word × State :=
  if r.acc = .wo then (0, s)
  else if r.ty.isLow || r.ty.isHigh then
    match Sparse.find (s.master m).buffer (objKey i j) with
    | some v => (v, s.modMaster m (fun y => { y with buffer := y.buffer.filter (fun p => p.1 != objKey i j) }))
    | none =>
      let o := pairOther r j
      let ro := { r with ty := if r.ty.isHigh then .lo64 else fwType x.ty o }
      (fwValue s x j r, s.modMaster m (fun y => { y with buffer := [(objKey i o, fwValue s x o ro)] }))
  else (fwValue s x j r, s)

/-- R444: the result of a read of a firmware object; `ok` says that its words could be read. -/
def fwCheckRead (s : State) (rd : Rd) (i j : Nat) (ok : Bool) : Res :=
  if fwPrivileged s rd.master false i j then .privilege
  else if ok = false then .hardware
  else if readLength rd then .length
  else .accepted

/-- One read access to a firmware object, whole (R460, R461). -/
def fwRead (s : State) (rd : Rd) (i j : Nat) : State :=
  if masterLive s rd.master = false then s
  else
    let s0 := s.bump 0x2020 8 32
    match fwEntry s i with
    | none => endRead (readWords s0 (fwProbed s i)).1 rd.master i j .noObject 0
    | some x =>
      match fwRowOf s x j with
      | none => endRead s0 rd.master i j .noObject 0
      | some r =>
        let (s1, ok) := if fwPrivileged s rd.master false i j then (s0, true) else readWords s0 (fwTouched s x j r)
        match fwCheckRead s rd i j ok with
        | .accepted => let (v, s2) := fwReadValue s1 rd.master x i j r; endRead s2 rd.master i j .accepted v
        | res => endRead s1 rd.master i j res 0

/-- R444, R462: the result of a write of a firmware object. -/
def fwCheckWrite (s : State) (w : Wr) (auth : Bool) (i j : Nat) (r : ObjRow) (ok : Bool) : Res :=
  if fwPrivileged s w.master true i j then .privilege
  else if ok = false then .hardware
  else if wrongLength w.master r.ty w.len then .length
  else if unpaired s w auth r i j then .pair
  else if r.acc.writable = false then .readOnly
  else if r.acc = .rwa ∧ auth = false then .authentication
  else if r.rng.admits (r.ty.extend w.value) = false then .range
  else .accepted

/-- R462: whether NOTIFY admits the write: 1h those not made by an engine in machine mode, 2h all. -/
def notifies (x : FwEntry) (m : Master) : Bool := x.notify == 2 || (x.notify == 1 && masterCode m != 0)

/-- R462, R467: the entry's bit and the last write record. -/
def fwNotify (s : State) (x : FwEntry) (m : Master) (i j : Nat) (pair : Bool) : State :=
  let e := match m with
    | .engine e _ => e.val
    | _ => 0
  if notifies x m then
    (s.setBits 0x2021 (1 + x.place / 32) (2 ^ (x.place % 32))).putN 0x2021 0x11
      (masterCode m * 2 ^ 29 + (if pair then 2 ^ 28 else 0) + e * 2 ^ 24 + i * 256 + j)
  else s

/-- R454, R462: the effect of an accepted write: a low word is staged, a high word commits its pair, any other word is
stored. -/
def fwStore (s : State) (x : FwEntry) (w : Wr) (i j : Nat) (r : ObjRow) : State :=
  let v := r.ty.extend w.value
  if r.ty.isLow then s.modMaster w.master (fun y => { y with staged := some (objKey i j, v) })
  else if r.ty.isHigh then
    let lo := ((s.master w.master).staged.map (·.2)).getD 0
    let s1 := s.modMaster w.master (fun y => { y with staged := none })
    fwNotify ((memStore (memStore s1 (x.word (j - 1)) lo) (x.word j) v).bump 0x2020 7 32) x w.master i j true
  else fwNotify ((memStore s (x.word j) v).bump 0x2020 7 32) x w.master i j false

/-- The answer to a write, with whether a refused value is above or below its limits (R446). -/
def fwResp (r : ObjRow) (w : Wr) (res : Res) : Resp :=
  let v := r.ty.extend w.value
  { result := res, value := 0, above := res == .range && r.rng.isAbove v, below := res == .range && r.rng.isBelow v }

/-- The checks and the effect of a write to a firmware object (R460, R462), with its answer. -/
def fwResult (s : State) (w : Wr) (auth : Bool) (i j : Nat) : Resp × State :=
  let s0 := s.bump 0x2020 8 32
  match (fwEntry s i).bind (fun x => (fwRowOf s x j).map (fun r => (x, r))) with
  | none => ({ result := .noObject, value := 0 }, (readWords s0 (fwProbed s i)).1)
  | some (x, r) =>
    let (s1, ok) := if fwPrivileged s w.master true i j then (s0, true) else readWords s0 (fwTouched s x j r)
    match fwCheckWrite s w auth i j r ok with
    | .accepted => ({ result := .accepted, value := 0 }, fwStore s1 x w i j r)
    | res => (fwResp r w res, s1)

/-- One write access to a firmware object, whole (R460, R462). -/
def fwWrite (s : State) (w : Wr) (auth : Bool) (i j : Nat) : State :=
  if masterLive s w.master = false then s
  else
    let (a, s1) := fwResult s w auth i j
    endWrite s1 w.master i j a.result a

/-- FIRMWARE_OBJECT_READ, R460, R461: a read of a word of 6000h to BFFFh. -/
def execFirmwareObjectRead (i : BitVec 16) (j : Byte) (rd : Rd) (s : State) : Out :=
  when (isFirmware i.toNat) s (fwRead s rd i.toNat j.toNat)

/-- FIRMWARE_OBJECT_WRITE, R460, R462: a write of a word of 6000h to BFFFh. -/
def execFirmwareObjectWrite (i : BitVec 16) (j : Byte) (w : Wr) (s : State) : Out :=
  when (isFirmware i.toNat) s (fwWrite s w false i.toNat j.toNat)

end Sys2Proof.Machine
end

