-- ==== Sys2Proof/Machine/Startup.lean ====
section
/-! DEFINITION. Start-up: fuses, journal, images, widening, and the service loader (R797 to R815). -/
namespace Sys2Proof.Machine

/-- Start-up changed. -/
def State.modStart (s : State) (f : Startup → Startup) : State := { s with startup := f s.startup }

/-- The state of start-up, 3800h:01h (R797). -/
def startState (s : State) : Nat := s.nat 0x3800 1

/-- R797: E0 serves the Canary with the expected key after a step, in a window in which the service is not early. -/
def bootService (s : State) : State :=
  if s.canary.service.isNone ∧ canaryState s ≠ 3 ∧ (canaryState s = 0 ∨ s.nat 0x3100 2 ≤ canaryCount s) then
    (canaryServiceEff { master := .engine 0 false, len := 4, value := s.obj 0x3100 0x0B } false s).2
  else s

/-! ### Fuses and journal -/

/-- R561: the regulator latches that the supply word sets. -/
def loadLatches (s : State) : State :=
  let v := if otpState s 1 = 1 then (shadowWord s 1 0).toNat else 2
  let s1 := (List.range 3).foldl (fun s r => s.putN 0x2D00 (1 + r) (fieldN v r 1)) s
  settleSlots s1

/-- R456, R742: the identity that OTP0 gives, while it is good. -/
def loadIdentity (s : State) : State :=
  if otpState s 0 = 1 then
    ((s.put 0x2000 4 (shadowWord s 0 0)).put 0x2000 5 (shadowWord s 0 1)).putN 0x2000 6 ((shadowWord s 0 2).toNat % 65536)
  else s

/-- STARTUP_FUSES, R561, R741, R743, R797: OTP and the fuses are read and the OTP defaults loaded. -/
def execStartupFuses (s : State) : Out :=
  let s1 := showFuses (s.modNv (fun x => { x with fuseRead := true }))
  let s2 := loadIdentity ((List.range 16).foldl recheckRegion s1)
  let s3 := if s.rtc.cause = 3 then s2 else loadLatches s2
  when (s.on 2 && startState s == 1) s
    (bootService ((s3.modStart (fun x => { x with otpLoaded := true })).putN 0x3800 1 2))

/-- STARTUP_JOURNAL, R757, R797: every device record is restored and the Journal defaults loaded. -/
def execStartupJournal (s : State) : Out :=
  let s1 := loadComm ((List.range 8).foldl restoreRecord s)
  when (s.on 2 && startState s == 2) s
    (bootService ((s1.modStart (fun x => { x with journalLoaded := true })).putN 0x3800 1 3))

/-! ### Images -/

/-- The index of the object of bank b: 0 for A, 1 for B. -/
def bankIdx (b : Nat) : Nat := 0x3808 + b

/-- A byte of bank b's flash window. -/
def flashByte (s : State) (b k : Nat) : Byte := s.seenByte (bankBase (bankIdx b) + k)

/-- Bytes of bank b's flash window. -/
def flashBytes (s : State) (b k n : Nat) : List Byte := (List.range n).map (fun j => flashByte s b (k + j))

/-- A little-endian word of bank b's header (R801). -/
def headerWord (s : State) (b k : Nat) : Word := s.seenWord (bankBase (bankIdx b) + k)

/-- R802 check 2h: magic, format, part and reserved bytes. -/
def headerFormed (s : State) (b : Nat) : Bool :=
  flashBytes s b 0 8 == [0x42, 0x52, 0x4A, 0x52, 0x01, 0x00, 0x16, 0x48] &&
    (flashBytes s b 160 92).all (fun x => x == 0)

/-- R801: what the header of bank b says. -/
def bankHeader (s : State) (b : Nat) : BankInfo :=
  { sequence := headerWord s b 8, length := (headerWord s b 16).toNat, load := (headerWord s b 20).toNat,
    entry := (headerWord s b 24).toNat }

/-- Bytes stored in system SRAM with valid check bits. -/
def storeBytes (s : State) (a : Nat) (l : List Byte) : State :=
  let inside := fun w => decide (a < w + 4) && decide (w < a + l.length)
  let s1 := s.putBytes a l
  { s1 with
    ecc := { s1.ecc with single := s1.ecc.single.filter (fun w => !inside w), double := s1.ecc.double.filter (fun w => !inside w) }
    engines := s1.engines.map (fun g => match g.reservation with
      | some (w, _) => if inside w then { g with reservation := none } else g
      | none => g) }

/-- R802: the payload of bank b copied to its load address. -/
def copyPayload (s : State) (b : Nat) : State :=
  let h := bankHeader s b
  storeBytes s h.load (flashBytes s b 256 h.length)

/-- R802 check 5h on the copy, made with Assayer channel 0. -/
def payloadGood (s : State) (b : Nat) : Bool :=
  let h := bankHeader s b
  assayerCheck (s.memBytes h.load h.length) (h.sequence.toNat % 65536) == headerWord s b 28

/-- R769, R774: what a check by start-up leaves in Assayer channel 0; the settings it uses are not stated. -/
def startCheck (s : State) (b : Nat) : State :=
  let h := bankHeader s b
  let r := assayerCheck (s.memBytes h.load h.length) (h.sequence.toNat % 65536)
  let s1 := [(3, 0xFFFFFFFC), (4, 0x3FFFFFF), (5, 0xFFFF), (6, 1), (7, 0xFFFFFFFF), (8, 1)].foldl
    (fun (s : State) (p : Nat × Nat) => let (v, t) := s.freshWord; t.put 0x3500 p.1 (v &&& BitVec.ofNat 32 p.2)) s
  (((s1.put 0x3500 0x0B r).putN 0x3500 0x0E h.length).bump 0x3500 0x10 32).setBits 0x3500 0x0F 1

/-- R800: the minimum security version. -/
def minimumVersion (s : State) : Nat := ((List.range 480).filter (fun b => shadowBit s 3 (512 + b))).length

/-- R802: checks 6h to 9h on the copy: the code of the first that fails, 0 for none. -/
def signatureCheck (s : State) (b : Nat) : Nat :=
  let h := bankHeader s b
  let key := flashBytes s b 32 64
  let digest := Config.sha256 (flashBytes s b 0 96 ++ s.memBytes h.load h.length)
  if otpState s 3 = 2 then 6
  else if otpState s 3 = 1 ∧ Config.sha256 key ≠ (List.range 8).flatMap (fun j => wordBytes (shadowWord s 3 j)) then 7
  else if Config.ecdsaP256Valid key digest (flashBytes s b 96 64) = false then 8
  else if (headerWord s b 12).toNat < minimumVersion s then 9
  else 0

/-- R802: checks 1h to 4h, before the copy. -/
def headerCheck (s : State) (b : Nat) (mode : Nat) : Nat :=
  let h := bankHeader s b
  if mode = 0 then 1
  else if headerFormed s b = false then 2
  else if headerWord s b 252 ≠ assayerCheck (flashBytes s b 0 252) 0 then 3
  else if inSram h.load h.length = false ∨ h.entry < h.load ∨ h.load + h.length ≤ h.entry then 4
  else 0

/-- R802: bank b has failed with a code. -/
def bankFails (s : State) (b code : Nat) : State :=
  ((s.putN 0x3800 (6 + b) code).setBits 0x3800 0x0F 2).report 87 .ce (0x301 + b)

/-- R799 to R802: bank b copied and checked: the code and the state. -/
def verifyBank (s : State) (b mode : Nat) : Nat × State :=
  match headerCheck s b mode with
  | 0 =>
    let s1 := copyPayload s b
    let s2 := startCheck s1 b
    let s3 := s2.modStart (fun x => { x with banks := modAt x.banks b (fun _ => { bankHeader s b with copied := 1 }) })
    let s4 := if otpState s3 3 = 0 ∧ payloadGood s1 b = true then s3.putN 0x3800 0x0A 1 else s3
    if payloadGood s1 b = false then (5, s4) else (signatureCheck s4 b, s4)
  | c => (c, s)

/-- BANK_VERIFY, R799, R802: the next bank, A then B; its port found a device of a density and a read mode (0h none,
1h 1-1-1, 2h 1-1-4). -/
def execBankVerify (density : BitVec 32) (mode : Fin 3) (s : State) : Out :=
  let b := s.startup.bank
  let s0 := (s.put 0x3802 (2 + b) (if mode.val = 0 then 0 else density)).putN 0x3802 (4 + b) mode.val
  let (c, s1) := verifyBank s0 b mode.val
  let s2 := if c = 0 then (s1.putN 0x3800 (6 + b) 0).modStart (fun x => { x with valid := x.valid ++ [b] })
    else bankFails s1 b c
  when (s.on 2 && startState s == 3 && decide (b < 2)) s
    (bootService (s2.modStart (fun x => { x with bank := b + 1 })))

/-- What start-up knows of bank b. -/
def bankInfo (s : State) (b : Nat) : BankInfo := s.startup.banks.getD b {}

/-- R803: the valid bank with the newer sequence, A where they are equal. -/
def newerBank (s : State) : Option Nat :=
  match s.startup.valid with
  | [] => none
  | [b] => some b
  | _ => some (if 0 < angDiff (bankInfo s 1).sequence (bankInfo s 0).sequence then 1 else 0)

/-- R803: the other bank that repeated bites choose, if there is one. -/
def fallbackBank (s : State) : Option Nat :=
  let last := s.nat 0x3800 0x10
  if s.nat 0x3801 3 ≤ s.nat 0x3100 0x11 ∧ last ≠ 0 then s.startup.valid.find? (fun b => b + 1 != last) else none

/-- R803: whether the payload of bank 0 must be copied again: bank 1 was copied after it over its load region. -/
def copiedOver (s : State) (b : Nat) : Bool :=
  b == 0 && (bankInfo s 1).copied == 1 && decide ((bankInfo s 0).load < (bankInfo s 1).load + (bankInfo s 1).length) &&
    decide ((bankInfo s 1).load < (bankInfo s 0).load + (bankInfo s 0).length)

/-- R803: one choice among the valid banks: the bank and the state. -/
def chooseBank (s : State) : Option (Nat × State) :=
  match fallbackBank s, newerBank s with
  | some b, _ => some (b, (s.setBits 0x3800 0x0F 4).bump 0x3800 0x0E 16)
  | none, some b => some (b, s)
  | none, none => none

/-- R803: the chosen bank copied again where it must be; whether its repeated check passes. -/
def placeBank (s : State) (b : Nat) : State × Bool :=
  if copiedOver s b then
    let s1 := copyPayload s b
    (startCheck s1 b, payloadGood s1 b)
  else (s, true)

/-- R774: Assayer channel 0 is released. -/
def releaseAssayer (s : State) : State := (s.putN 0x3500 2 0).putN 0x3500 0x0C 0

/-- R805: the level ceiling of this start-up. -/
def setCeiling (s : State) : State :=
  let n := s.nat 0x3100 0x11
  let f := s.nat 0x3801 4
  if f ≤ n then (s.putN 0x3800 9 (4 - (n - f + 1))).setBits 0x3800 0x0F 8 else s.putN 0x3800 9 4

/-- R805: the effective target. -/
def targetLevel (s : State) : Nat := min (s.nat 0x3801 1) (s.nat 0x3800 9)

/-- R568, R804, R805: domain d is admitted and turned ON. -/
def admitDomain (s : State) (d : Nat) : State :=
  let s1 := (s.setBits 0x3800 8 (2 ^ d)).putN 0x2D01 1 (setFieldN (s.nat 0x2D01 1) (2 * d) 2 2)
  if s1.domainState d = 0 ∧ !s1.fm.domainChanges.contains (d, 2) ∧ (s1.dom.change.map (·.1)) ≠ some d then
    settleDomains (s1.modFm (fun m => { m with domainChanges := m.domainChanges ++ [(d, 2)] }))
  else s1

/-- R805: a widening step begins: its number is shown and the domain it acts on is admitted. -/
def beginStep (s : State) : State :=
  match s.startup.steps with
  | [] => s.putN 0x3801 6 0
  | 1 :: _ => admitDomain (s.putN 0x3801 6 1) 6
  | 2 :: _ => admitDomain (s.putN 0x3801 6 2) 5
  | 6 :: _ => admitDomain (s.putN 0x3801 6 6) 4
  | n :: _ => s.putN 0x3801 6 n

/-- The level steps up to level n: L1 is step 4. -/
def levelSteps (n : Nat) : List Nat := (List.range n).map (fun k => 4 + k)

/-- R803: the bank to boot is chosen; what a choice records, and the start of widening. -/
def bankChosen (s : State) (b : Nat) : State :=
  let s1 := ((s.putN 0x3800 4 (b + 1)).put 0x3800 5 (bankInfo s b).sequence).putN 0x3800 0x10 (b + 1)
  let s2 := setCeiling (releaseAssayer s1)
  beginStep ((s2.putN 0x3800 1 4).modStart (fun x => { x with chosen := true, steps := [1, 2, 3] ++ levelSteps (targetLevel s2) }))

/-- R803: the choice, and the choice again where the repeated check fails. -/
def chooseAgain : Nat → State → State
  | 0, s => s
  | n + 1, s =>
    match chooseBank s with
    | none => s
    | some (b, s1) =>
      match placeBank s1 b with
      | (s2, true) => bankChosen s2 b
      | (s2, false) => chooseAgain n ((bankFails s2 b 5).modStart (fun x => { x with valid := x.valid.filter (· != b) }))

/-- BANK_CHOICE, R803: both banks are verified, and one is valid. -/
def execBankChoice (s : State) : Out :=
  when (s.on 2 && startState s == 3 && s.startup.bank == 2 && !s.startup.valid.isEmpty) s (bootService (chooseAgain 2 s))

/-! ### Widening -/

/-- R805: the engines of level step n (L1 is 4). -/
def stepEngines (n : Nat) : List Nat :=
  match n with
  | 4 => [2, 3]
  | 5 => [4, 5, 6, 7]
  | 6 => [8, 9, 10, 11]
  | 7 => [12, 13, 14, 15]
  | _ => []

/-- R805: the phases of level step n. -/
def stepPhases (n : Nat) : List Nat :=
  match n with
  | 4 => (List.range 8).map (· + 4)
  | 5 => (List.range 12).map (· + 12)
  | 6 => (List.range 12).map (· + 24)
  | 7 => (List.range 12).map (· + 36)
  | _ => []

/-- Whether phase p is left out (R464). -/
def phaseLeftOut (s : State) (p : Nat) : Bool := if p < 32 then s.flag 0x2001 0x0D p else s.flag 0x2001 0x0E (p - 32)

/-- R59: whether every unit of level n is admitted. -/
def levelWhole (s : State) (n : Nat) : Bool :=
  if n = 0 then [0, 1].all s.engineAdmitted && [0, 1, 2, 3].all s.phaseAdmitted
  else (stepEngines (3 + n)).all s.engineAdmitted && (stepPhases (3 + n)).all s.phaseAdmitted

/-- R59: the level whose units, and those of every lower one, are all admitted; 0 where there is none. -/
def levelReached (s : State) : Nat :=
  (List.range 5).foldl (fun m n => if (List.range (n + 1)).all (levelWhole s) then n else m) 0

/-- R464: the equivalent member of a level. -/
def memberOfLevel (n : Nat) : Nat := [0x0402, 0x1204, 0x2408, 0x3612, 0x4816].getD n 0x0402

/-- R59: the units that the levels up to n count. -/
def levelEngines (n : Nat) : Nat := [2, 4, 8, 12, 16].getD n 2
/-- The phases that the levels up to n count. -/
def levelPhases (n : Nat) : Nat := [4, 12, 24, 36, 48].getD n 4

/-- R464, R807: the level and what follows from the masks. -/
def showLevel (s : State) : State :=
  let n := levelReached s
  let es := (List.range 16).filter s.engineAdmitted
  let ps := (List.range 48).filter s.phaseAdmitted
  let beyond := es.any (fun e => decide (levelEngines n ≤ e)) || ps.any (fun p => decide (levelPhases n ≤ p))
  let s1 := if s.nat 0x2001 3 = n then s else s.bump 0x2001 0x0F 16
  ((((s1.putN 0x2001 3 n).putN 0x2001 4 (memberOfLevel n)).putN 0x2001 5 es.length).putN 0x2001 6 ps.length).putN 0x2001 0x0B
    (if beyond then 1 else 0)

/-- The bit of phase p set in the pair of mask words that begins at subindex j. -/
def setPhaseBit (s : State) (j p : Nat) (v : Bool) : State :=
  if p < 32 then s.putBit 0x2001 j p v else s.putBit 0x2001 (j + 1) (p - 32) v

/-- R807: units admitted: the mask bits, and each engine runs from its boot address. -/
def admitUnits (s : State) (es ps : List Nat) : State :=
  let s1 := es.foldl (fun s e =>
    let x := (s.putBit 0x2001 7 e true).put (0x2700 + e) 1 1
    if s.on (clusterDomain e) then resetCore (x.bump (0x2700 + e) 0x0E 16) e else x) s
  ps.foldl (fun s p => setPhaseBit s 8 p true) s1

/-- R807: units left out: their mask bits. -/
def leaveOut (s : State) (es ps : List Nat) : State :=
  let s1 := es.foldl (fun s e => s.putBit 0x2001 0x0C e true) s
  ps.foldl (fun s p => setPhaseBit s 0x0D p true) s1

/-- R807: the failure of the unit with a code: counted, shown, flagged and reported. -/
def unitFailed (s : State) (code : Nat) : State :=
  (((s.bump 0x3801 8 16).putN 0x3801 7 code).setBits 0x3800 0x0F 16).report 87 .uc code

/-- R807: domain d has failed its step: recorded, and turned OFF. -/
def domainFailed (s : State) (d : Nat) : State :=
  let s1 := unitFailed s (0x200 + d)
  let s2 := (s1.clrBits 0x3800 8 (2 ^ d)).putN 0x2D01 1 (setFieldN (s1.nat 0x2D01 1) (2 * d) 2 0)
  let s3 := s2.modFm (fun m => { m with domainChanges := m.domainChanges.filter (fun c => c.1 != d) })
  if s3.domainState d = 0 then s3
  else settleDomains (s3.modFm (fun m => { m with domainChanges := m.domainChanges ++ [(d, 0)] }))

/-- R805 to R808: level step n ends with the tests of the units not yet admitted and not left out. -/
def levelStepEnd (s : State) (n : Nat) (engFail : BitVec 16) (phFail : BitVec 48) (domFail : Bool) : State :=
  let lost := decide (6 ≤ n) && (!s.flag 0x3800 8 4 || (n == 6 && domFail))
  let es := (stepEngines n).filter (fun e => !s.engineAdmitted e && !s.flag 0x2001 0x0C e)
  let ps := (stepPhases n).filter (fun p => !s.phaseAdmitted p && !phaseLeftOut s p)
  let badE := es.filter (fun e => lost || engFail.getLsbD e)
  let badP := ps.filter (fun p => phFail.getLsbD p)
  let s1 := badP.foldl (fun s p => unitFailed s (0x100 + p)) s
  let s2 := badE.foldl unitFailed (if n = 6 ∧ domFail = true then domainFailed s1 4 else s1)
  let all := admitUnits s2 (es.filter (fun e => !badE.contains e)) (ps.filter (fun p => !badP.contains p))
  if s.flag 0x3801 2 0 then leaveOut all badE badP
  else if n ≤ 3 + levelReached all then leaveOut all badE badP
  else s2

/-- R60, R805: the CAN channels and the two-wire ports are released from the hold. -/
def releaseField (s : State) : State :=
  let s1 := s.modStart (fun x => { x with released := true })
  twbStart (twbStart (canStart (canStart s1 0) 1) 0) 1

/-- R805 to R808: the widening step in progress ends. -/
def stepEnd (s : State) (n : Nat) (engFail : BitVec 16) (phFail : BitVec 48) (domFail : Bool) : State :=
  match n with
  | 1 => if domFail then domainFailed s 6 else s
  | 2 => if domFail then (domainFailed s 5).modStart (fun x => { x with steps := x.steps.filter (fun k => decide (k ≤ 3)) }) else s
  | 3 => releaseField s
  | _ => levelStepEnd s n engFail phFail domFail

/-- R805: whether the domain of step n is ON, where the step has one that has not failed. -/
def stepReady (s : State) (n : Nat) (domFail : Bool) : Bool :=
  domFail || (match n with
    | 1 => s.on 6
    | 2 => s.on 5
    | 6 => s.on 4
    | _ => true)

/-- R809: the last step has ended. -/
def finishSteps (s : State) : State :=
  if s.startup.steps.isEmpty then s.modStart (fun x => { x with again := false }) else s

/-- R805: whether each housekeeping converter reads its 1.200 V reference as 1630 to 1646. -/
def referencesGood (refs : BitVec 64) : Bool :=
  (List.range 4).all (fun k => decide (1630 ≤ fieldN refs.toNat (16 * k) 16) && decide (fieldN refs.toNat (16 * k) 16 ≤ 1646))

/-- WIDENING_STEP, R805 to R808: the self-test of the step in progress ends: the converters' readings of their references,
which engines and phases failed their tests, and whether the step's domain was late or failed its march test. -/
def execWideningStep (refs : BitVec 64) (engFail : BitVec 16) (phFail : BitVec 48) (late : Bool) (s : State) : Out :=
  match s.startup.steps with
  | [] => .next s
  | n :: t =>
    let domFail := late || (n == 1 && !referencesGood refs)
    let s1 := withDescriptor (s.modStart (fun x => { x with steps := t })) (fun x => showLevel (stepEnd x n engFail phFail domFail))
    let s2 := finishSteps (beginStep (settleAll (foremanAct s1)))
    when (s.on 2 && (startState s == 4 || s.startup.again) && stepReady s n domFail) s
      (if startState s = 4 then bootService s2 else s2)

/-- R797: the time since the reset ended, in microseconds. -/
def startTime (s : State) : Nat := s.startup.slow / 16 + (s.t - s.startup.slow) / 200

/-- R798: E0 enters the image with its arguments; the header's copy lies where the boot ROM put it, apart from the
payload. -/
def enterImage (s : State) (b : Nat) : State :=
  let (h, s1) := s.freshWord
  let p := bankInfo s b
  let free := inSram h.toNat 256 && (decide (h.toNat + 256 ≤ p.load) || decide (p.load + p.length ≤ h.toNat))
  let s2 := if free then storeBytes s1 h.toNat (flashBytes s b 0 256) else s1
  (s2.modStart (fun x => { x with header := h })).modEng 0 (fun g => { ((g.setReg 10 (s.obj 0x3800 4)).setReg 11 h) with
    pc := BitVec.ofNat 32 p.entry, user := false })

/-- STARTUP_RUNNING, R797, R798: widening is over and E0 enters the image. -/
def execStartupRunning (s : State) : Out :=
  let s1 := enterImage s (s.nat 0x3800 4 - 1)
  let s2 := (((s1.putN 0x3800 1 5).putN 0x3800 0x0C (startTime s)).setBits 0x3800 0x0F 1).bump 0x3800 0x0D 32
  let s3 := requestRecord s2 5
  let s4 := if s.flag 0x3801 2 1 ∧ s.col.ft = [] then
      (releaseHarbourEff { master := .engine 0 false, len := 4, value := 1 } false s3).2 else s3
  when (s.on 2 && startState s == 4 && s.startup.steps.isEmpty) s s4

/-- SERVICE_LOADER, R810: no bank is valid. -/
def execServiceLoader (s : State) : Out :=
  let s1 := releaseField (releaseAssayer (s.putN 0x3800 1 6))
  let s2 := twbStart (s1.putN (twbIdx 0) 1 1) 0
  let s3 := canStart (s2.putN (canIdx 0) 1 1) 0
  when (s.on 2 && startState s == 3 && s.startup.bank == 2 && s.startup.valid.isEmpty) s
    (bootService (s3.report 87 .uc 0))

/-- R810: in the service loader, E0 serves the Canary every 0.25 s. -/
def loaderService (s : State) : State :=
  if startState s = 6 ∧ s.real / realMs 250 ≠ (s.real - cycleReal s) / realMs 250 then bootService s else s

/-! ### Levels -/

/-- R381, R433: engine e is held as the level falls below it. -/
def removeEngine (s : State) (e : Nat) : State := engineLost ((abandonOn s e).putBit 0x2001 7 e false) e

/-- R243, R381, R433, R809: the units of the levels above n leave the masks. -/
def narrowTo (s : State) (n : Nat) : State :=
  let es := (List.range 16).filter (fun e => s.engineAdmitted e && decide (levelEngines n ≤ e))
  let ps := (List.range 48).filter (fun p => s.phaseAdmitted p && decide (levelPhases n ≤ p))
  let s1 := ps.foldl (fun s p =>
    (fun (x : State) => if s.on 5 then disablePhase x p else x) (setPhaseBit s 8 p false)) s
  es.foldl removeEngine s1

/-- R809: whether widening is in progress. -/
def widening (s : State) : Bool := startState s == 4 || !s.startup.steps.isEmpty

/-- R809: the level steps run again from L1. -/
def widenAgain (s : State) : State :=
  beginStep (s.modStart (fun x => { x with steps := levelSteps (targetLevel s), again := decide (0 < targetLevel s) }))

/-- R809: the effect of a write of the target level. -/
def targetEff : WEff := fun w _ s =>
  if widening s then rej .state s
  else
    let s1 := requestRecord (s.put 0x3801 1 w.value) 5
    let level := s.nat 0x2001 3
    if w.value.toNat < level then
      acc (settleAll (foremanAct (withDescriptor s1 (fun x => showLevel (narrowTo x w.value.toNat)))))
    else if level < w.value.toNat ∧ startState s = 5 then acc (widenAgain s1)
    else acc s1

/-- TARGET_LEVEL_WRITE: a write of 3801h:01h. -/
def execTargetLevelWrite (w : Wr) (s : State) : Out := .next (accessWrite s w false 0x3801 1 targetEff)

/-- R809: the effect of a write of 1h to the retry. -/
def retryEff : WEff := fun _ _ s =>
  if widening s then rej .state s
  else if startState s ≠ 5 then acc s
  else
    acc (widenAgain (withDescriptor s (fun x => ((x.putN 0x2001 0x0C 0).putN 0x2001 0x0D 0).putN 0x2001 0x0E 0)))

/-- WIDENING_RETRY: a write of 3801h:05h. -/
def execWideningRetry (w : Wr) (s : State) : Out := .next (accessWrite s w false 0x3801 5 retryEff)

/-- R809: the effect of a write of the other widening settings: journal record 5 is requested. -/
def wideningPlainEff (j : Nat) : WEff := fun w a s =>
  let (res, s1) := plainWrite 0x3801 j w a s
  (res, if 2 ≤ j ∧ j ≤ 4 ∧ res = .accepted then requestRecord s1 5 else s1)

end Sys2Proof.Machine
end

