-- ==== Sys2Proof/Machine/Access.lean ====
section
/-! DEFINITION. One access to any object word, with the effect its block gives it: what the remote agents, the debug module
and the rows for objects without a row of their own use (R12, R439 to R454). -/
namespace Sys2Proof.Machine

/-! ### DOMAIN objects (R449, R507, R811) -/

/-- R449: the effect of a read of a DOMAIN's data word: four bytes, and the offset on by 4; beyond the size 0. -/
def domainReadEff (i : Nat) : REff := fun _ s =>
  let k := domainOffset s i
  if k < domainSize s i then (domainWord s i k, s.putN i 2 (k + 4)) else (0, s)

/-- R507: four bytes of the message buffer. -/
def storeMessage (s : State) (k : Nat) (v : Word) : State :=
  let l := s.auth.message.take k ++ (wordBytes v ++ s.auth.message.drop (k + 4))
  { s with auth := { s.auth with message := l } }

/-- Bytes that a failed flash command leaves open, from address a on. -/
def flashUnknown (s : State) (a : Nat) : Nat → State
  | 0 => s
  | n + 1 =>
    let (b, s1) := s.freshByte
    flashUnknown (s1.putByte a b) (a + 1) n

/-- R811: a page program of four bytes clears bits; a write at the start of a sector erases it first. `good` says that the
flash reports done; what a failed command leaves in the flash is open. With VDDIO low no command reaches the flash
(R72). -/
def flashWrite (s : State) (a : Nat) (v : Word) (good : Bool) : State :=
  let s1 := if a % 4096 = 0 then s.clearMem a 4096 else s
  if s.sup.vddioLow then s
  else if good then s1.putWord a (s1.memWord a &&& v)
  else if a % 4096 = 0 then flashUnknown s1 a 4096
  else flashUnknown s1 a 4

/-- R449, R811: the effect of a write of a bank's data word. -/
def bankDataEff (i : Nat) (good : Bool) : WEff := fun w _ s =>
  let k := domainOffset s i
  if s.on 7 = false then rej .domain s
  else if domainSize s i ≤ k then rej .range s
  else if s.nat 0x3800 4 = i - 0x3807 then rej .state s
  else
    let s1 := flashWrite s (bankBase i + k) w.value good
    if good then acc (s1.putN i 2 (k + 4)) else rej .hardware s1

/-- R449, R507: the effect of a write of the message buffer's data word. -/
def messageDataEff : WEff := fun w _ s =>
  let k := domainOffset s 0x2A81
  if 152 ≤ k then rej .range s
  else if s.nat 0x2A80 1 ≠ 0 then rej .state s
  else acc ((storeMessage s k w.value).putN 0x2A81 2 (k + 4))

/-- R507, R811: the effect of a write of a DOMAIN's offset. -/
def domainOffsetEff (i : Nat) : WEff := fun w a s =>
  if i = 0x2A81 then (if s.nat 0x2A80 1 ≠ 0 then rej .state s else plainWrite i 2 w a s)
  else if w.value.toNat % 4096 = 0 then plainWrite i 2 w a s
  else rej .state s

/-- The effect of a write of a DOMAIN word. -/
def domainEff (i j : Nat) : WEff :=
  if j = 2 then domainOffsetEff i
  else if i = 0x2A81 then messageDataEff
  else bankDataEff i true

/-! ### Reads with an effect of their own -/

/-- R714: the effect of a read of the log: a read that no buffered word answers takes the oldest entry. -/
def logReadEff (j : Nat) : REff := fun rd s =>
  let buffered := (Sparse.find (s.master rd.master).buffer (objKey 0x3203 j)).isSome
  let (v, s1) := readWord 0x3203 j rd s
  (v, if buffered then s1 else popLog s1)

/-- The effect of a read of hardware object word i:j. -/
def readEff (i j : Nat) : REff :=
  if isDomain i ∧ j = 3 then domainReadEff i
  else if 0x3010 ≤ i ∧ i ≤ 0x301F ∧ j = 3 then fun _ s => claimRead s (i - 0x3010)
  else if i = 0x3203 ∧ (j = 1 ∨ j = 2) then logReadEff j
  else readWord i j

/-- R811, R29: whether a read reaches for a flash whose domain is not ON. -/
def flashOff (s : State) (i j : Nat) : Bool := (i == 0x3808 || i == 0x3809) && j == 3 && !s.on 7

/-- One read access to any object word. -/
def readObject (s : State) (rd : Rd) (i j : Nat) : State :=
  if isFirmware i then fwRead s rd i j
  else if flashOff s i j = true ∧ masterLive s rd.master = true then endRead s rd.master i j .domain 0
  else accessRead s rd i j (readEff i j)

/-! ### Writes, block by block (R443) -/

/-- Identity, object access, firmware object table. -/
def writeEff20 (i j : Nat) : WEff :=
  if i = 0x2020 ∧ j = 2 then tableCommitEff
  else plainWrite i j

/-- Tide and clocking. -/
def writeEff21 (i j : Nat) : WEff :=
  let u := (i - 0x2100) / 16
  if i < 0x2180 ∧ j = 1 then wheelModeAll u
  else if i < 0x2180 ∧ j = 2 then ownFrequencyEff u
  else if i < 0x2180 ∧ j = 7 then angleSetEff u
  else if i < 0x2180 ∧ j = 0x0D then multEff u
  else if i < 0x2180 ∧ j = 0x15 then zeroChannelEff u
  else if i < 0x2180 then wheelPlainEff u j
  else if i < 0x21A0 then markWordEff i j
  else if i = 0x21A0 ∧ j = 1 then markUnitEff
  else if i = 0x21B0 ∧ j = 4 then returnEff
  else if i = 0x21B2 then syncEff j
  else if 0x21C0 ≤ i ∧ j = 1 then encoderEnableEff (i - 0x21C0)
  else if 0x21C0 ≤ i then encoderPlainEff (i - 0x21C0) j
  else plainWrite i j

/-- Sense. -/
def writeEff22 (i j : Nat) : WEff :=
  if i < 0x2240 ∧ j = 1 then senseModeAll (i - 0x2200)
  else if i < 0x2240 ∧ j = 0x0D then senseRestartAll (i - 0x2200)
  else if i < 0x2240 ∧ j = 0x0B then gainAll (i - 0x2200)
  else if i < 0x2240 then sensePlainEff (i - 0x2200) j
  else if i < 0x2248 ∧ j = 1 then sckEnableEff (i - 0x2240)
  else if i < 0x2248 then sckPlainEff (i - 0x2240) j
  else plainWrite i j

/-- Phases. -/
def writeEff23 (i j : Nat) : WEff :=
  let p := i - 0x2300
  if 0x2330 ≤ i then plainWrite i j
  else if j = 1 then phaseModeEff p
  else if j = 0x16 then rearmCommandEff p
  else if j = 0x1C then manualEff p
  else if j = 0x23 then pilotEnableEff p
  else phasePlainEff p j

/-- Rails. -/
def writeEff24 (i j : Nat) : WEff :=
  let r := (i - 0x2400) / 16
  let k := i % 16
  if k = 0 ∧ j = 1 then railModeEff r
  else if k = 0 ∧ j = 0x0B then applyEff r
  else if k = 3 ∧ j = 4 then commitEff r
  else railPlainEff r k j

/-- Feed-forward tables. -/
def writeEff25 (i j : Nat) : WEff :=
  let f := (i - 0x2500) / 16
  if i % 16 < 8 then bankEff f (i % 16 / 4) i j
  else if j = 3 then swapEff f
  else tablePlainEff f j

/-- Rail supervision. -/
def writeEff26 (i j : Nat) : WEff :=
  let r := (i - 0x2600) / 16
  let k := i % 16
  if k = 4 ∧ j = 2 then releaseEff r
  else if k = 4 ∧ j = 3 then satReleaseEff r
  else if k = 2 ∧ j = 0x0C then clearRecordEff r
  else svPlainEff r k j

/-- Engines and Foreman. -/
def writeEff27 (i j : Nat) : WEff :=
  if i < 0x2710 ∧ j = 1 then runControlEff (i - 0x2700)
  else if i < 0x2710 then enginePlainEff (i - 0x2700) j
  else if i = 0x2780 ∧ j = 6 then clearFaultEff
  else if 0x2790 ≤ i ∧ j = 5 then endEff (i - 0x2790)
  else plainWrite i j

/-- Tasks. -/
def writeEff28 (i j : Nat) : WEff :=
  let t := i - 0x2800
  if j = 1 then taskEnableEff t
  else if j = 0x19 then activateEff t
  else if j = 0x1A then moveEff t
  else taskPlainEff t j

/-- Queues. -/
def writeEff29 (i j : Nat) : WEff :=
  let q := i - 0x2900
  if 0x2920 ≤ i then plainWrite i j
  else if j = 1 then queueEnableEff q
  else if j = 7 then queueFlushEff q
  else queuePlainEff q j

/-- CAN, bulk sessions, command authentication. -/
def writeEff2A (i j : Nat) : WEff :=
  let n := (i - 0x2A00) / 16
  if i < 0x2A20 ∧ j = 1 then canEnableEff n
  else if i < 0x2A20 then canPlainEff n j
  else if i = 0x2A21 ∧ j = 9 then bulkStartEff
  else if i = 0x2A21 ∧ j = 0x0A then bulkAbortEff
  else if i = 0x2A21 then bulkPlainEff j
  else if i = 0x2A80 ∧ j = 2 then submitEff
  else if i = 0x2A81 then domainEff i j
  else plainWrite i j

/-- Two-wire ports. -/
def writeEff2B (i j : Nat) : WEff :=
  let n := (i - 0x2B00) / 16
  if i % 16 = 0 ∧ j = 1 then twbEnableEff n
  else if i % 16 = 0 ∧ j = 0x0B then sleepEff n
  else if i % 16 = 0 ∧ j = 0x0D then requestEff n
  else if i % 16 = 0 ∧ j = 0x11 then clearBusEff n
  else if i % 16 = 0 then twbPlainEff n j
  else if j = 5 then ctlStartEff n
  else twbCtlPlainEff n j

/-- Housekeeping converters and GPIO. -/
def writeEff2C (i j : Nat) : WEff :=
  let k := i - 0x2C00
  if i < 0x2C10 ∧ j = 1 then convEnableEff k
  else if i < 0x2C10 ∧ j = 8 then softTriggerEff k
  else if i < 0x2C10 then convPlainEff k j
  else if i = 0x2C20 then gpioPlainEff j
  else plainWrite i j

/-- Supplies, domains, sequencer. -/
def writeEff2D (i j : Nat) : WEff :=
  if i = 0x2D00 ∧ 1 ≤ j ∧ j ≤ 3 then regulatorEff (j - 1)
  else if i = 0x2D00 ∧ j = 6 then driverEff
  else if i = 0x2D00 then suppliesPlainEff j
  else if i = 0x2D01 ∧ j = 1 then domainRequestEff
  else if i = 0x2D01 then plainWrite i j
  else if i = 0x2D02 ∧ j = 1 then sequencerEnableEff
  else if i = 0x2D02 ∧ j = 2 then sequencerEff
  else if 0x2D10 ≤ i then slotPlainEff (i - 0x2D10) j
  else sequencerPlainEff i j

/-- Charger and power path. -/
def writeEff2E (i j : Nat) : WEff :=
  if i = 0x2E00 ∧ j = 1 then chargerEnableEff
  else if i = 0x2E00 ∧ j = 3 then chemistryEff
  else if i = 0x2E00 ∧ j = 7 then chargerClearEff
  else if i = 0x2E02 ∧ j = 1 then pathEnableEff
  else if i = 0x2E04 ∧ j = 1 then switchCommandEff
  else if i = 0x2E04 ∧ j = 0x0A then storageEff
  else chargerPlainEff i j

/-- Battery gauge. -/
def writeEff2F (i j : Nat) : WEff :=
  if i = 0x2F00 ∧ j = 1 then gaugeEnableEff
  else if i = 0x2F09 ∧ j = 2 then gaugeWriteEff
  else gaugePlainEff i j

/-- Interrupts and Lighthouse. -/
def writeEff30 (i j : Nat) : WEff :=
  if i = 0x3000 ∧ j = 5 then softSetEff
  else if i = 0x3000 ∧ j = 6 then softClearEff
  else if 0x3010 ≤ i ∧ i ≤ 0x301F ∧ j = 4 then completeEff (i - 0x3010)
  else irqPlainEff i j

/-- Canary. -/
def writeEff31 (i j : Nat) : WEff :=
  if i = 0x3100 ∧ j = 1 then canaryServiceEff
  else if i = 0x3100 ∧ j = 7 then lockEff
  else if i = 0x3101 ∧ j = 3 then checkInEff
  else canaryPlainEff i j

/-- Fault collector. -/
def writeEff32 (i j : Nat) : WEff :=
  if i = 0x3200 ∧ j = 0x0B then releaseHarbourEff
  else if i = 0x3200 ∧ j = 0x0C then enterHarbourEff
  else if i = 0x3204 ∧ j = 1 then firmwareReportEff
  else collectorPlainEff i j

/-- RTC. -/
def writeEff33 (i j : Nat) : WEff :=
  if i = 0x3300 ∧ j = 0x0A then timeSetEff
  else plainWrite i j

/-- OTP and journal. -/
def writeEff34 (i j : Nat) : WEff :=
  if i = 0x3401 ∧ j = 4 then otpCommandEff
  else if i = 0x3401 then otpPlainEff j
  else if i = 0x3440 ∧ j = 1 then journalEnableEff
  else if i = 0x3441 ∧ j = 4 then firmwareRecordEff
  else if i = 0x3441 then fwRecordPlainEff j
  else if i = 0x3450 then layoutEff (j - 1)
  else plainWrite i j

/-- Assayer. -/
def writeEff35 (i j : Nat) : WEff :=
  let k := i - 0x3500
  if j = 1 then assayerCommandEff k
  else if j = 9 then feedWordEff k
  else if j = 0x0A then feedByteEff k
  else assayerPlainEff k j

/-- Counters. -/
def writeEff36 (i j : Nat) : WEff :=
  if i = 0x3600 ∧ j = 1 then snapshotEff
  else plainWrite i j

/-- Life ledger. -/
def writeEff37 (i j : Nat) : WEff :=
  let l := i - 0x3710
  if i = 0x3700 ∧ j = 2 then ledgerWriteEff
  else if i = 0x3700 then plainWrite i j
  else if j = 0x0F then replaceEff l
  else if j = 0x12 then operateEff l
  else lifePlainEff l j

/-- Start-up and images. -/
def writeEff38 (i j : Nat) : WEff :=
  if i = 0x3800 ∧ j = 0x0B then resetRequestEff
  else if i = 0x3801 ∧ j = 1 then targetEff
  else if i = 0x3801 ∧ j = 5 then retryEff
  else if i = 0x3801 then wideningPlainEff j
  else if i = 0x3808 ∨ i = 0x3809 then domainEff i j
  else plainWrite i j

/-- The effect of a write of a hardware object word that is not of a pair. -/
def wordEff (i j : Nat) : WEff :=
  match i / 256 with
  | 0x20 => writeEff20 i j
  | 0x21 => writeEff21 i j
  | 0x22 => writeEff22 i j
  | 0x23 => writeEff23 i j
  | 0x24 => writeEff24 i j
  | 0x25 => writeEff25 i j
  | 0x26 => writeEff26 i j
  | 0x27 => writeEff27 i j
  | 0x28 => writeEff28 i j
  | 0x29 => writeEff29 i j
  | 0x2A => writeEff2A i j
  | 0x2B => writeEff2B i j
  | 0x2C => writeEff2C i j
  | 0x2D => writeEff2D i j
  | 0x2E => writeEff2E i j
  | 0x2F => writeEff2F i j
  | 0x30 => writeEff30 i j
  | 0x31 => writeEff31 i j
  | 0x32 => writeEff32 i j
  | 0x33 => writeEff33 i j
  | 0x34 => writeEff34 i j
  | 0x35 => writeEff35 i j
  | 0x36 => writeEff36 i j
  | 0x37 => writeEff37 i j
  | 0x38 => writeEff38 i j
  | _ => commEff i j

/-- The effect of the commit of a pair whose low word is i:j. -/
def pairEff (i j : Nat) : DWord → WEff :=
  if i / 256 = 0x2F then gaugePairEff i j else if i / 256 = 0x36 then countWriteEff i j else plainPair i j

/-- The effect of a write of hardware object word i:j: a low word of a pair is staged, its high word commits both
(R454). -/
def writeEff (i j : Nat) : WEff :=
  match objRow i j with
  | none => plainWrite i j
  | some r =>
    if r.ty.isLow then stageLow i j
    else if r.ty.isHigh then (if i = 0x3300 then (if j = 5 then secondsSetEff else commitPair (plainPair i (j - 1)))
      else commitPair (pairEff i (j - 1)))
    else wordEff i j

/-- One write access to any object word. -/
def writeObject (s : State) (w : Wr) (auth : Bool) (i j : Nat) : State :=
  if isFirmware i then fwWrite s w auth i j else accessWrite s w auth i j (writeEff i j)

/-- R501: one write of an accepted command, made by the object logic on behalf of its master: the result, with no
exception raised in an engine that made no access. -/
def commandWrite (s : State) (w : Wr) (i j : Nat) : Res × State :=
  let (res, s1) := if isFirmware i then ((fwResult s w true i j).1.result, (fwResult s w true i j).2)
    else accessResult s w true i j (writeEff i j)
  (res, countRefusal (recordWrite s1 w.master i j res) res)

/-! ### Rows -/

/-- OBJECT_WRITE, R12: a write of object word i:j. -/
def execObjectWrite (i : BitVec 16) (j : Byte) (w : Wr) (s : State) : Out := .next (writeObject s w false i.toNat j.toNat)

/-- RC_READ, R12, R13: a read of object word i:j; one whose access code is RC is cleared. -/
def execRcRead (i : BitVec 16) (j : Byte) (r : Rd) (s : State) : Out := .next (readObject s r i.toNat j.toNat)

/-- PAIR_LOW_WRITE, R454: a write of a pair's low word. -/
def execPairLowWrite (i : BitVec 16) (j : Byte) (w : Wr) (s : State) : Out := .next (writeObject s w false i.toNat j.toNat)

/-- PAIR_HIGH_WRITE, R454: a write of a pair's high word. -/
def execPairHighWrite (i : BitVec 16) (j : Byte) (w : Wr) (s : State) : Out := .next (writeObject s w false i.toNat j.toNat)

/-- PAIR_READ_SNAPSHOT, R450: a read of a word of a pair. -/
def execPairReadSnapshot (i : BitVec 16) (j : Byte) (r : Rd) (s : State) : Out := .next (readObject s r i.toNat j.toNat)

/-- DOMAIN_DATA_READ, R449: a read of the data word of a DOMAIN object. -/
def execDomainDataRead (i : DomainObject) (r : Rd) (s : State) : Out := .next (readObject s r (domainIndex i) 3)

/-- DOMAIN_DATA_WRITE, R449: a write of the data word of a DOMAIN object. -/
def execDomainDataWrite (i : DomainObject) (w : Wr) (s : State) : Out := .next (writeObject s w false (domainIndex i) 3)

/-- BANK_DATA_WRITE, R811: a write of the data word of bank b; the flash reports done, or a failure. -/
def execBankDataWrite (b : Fin 2) (w : Wr) (good : Bool) (s : State) : Out :=
  .next (accessWrite s w false (bankIdx b.val) 3 (bankDataEff (bankIdx b.val) good))

/-- INTERRUPT_CLAIM, R665: a read of 3010h + x:03h. -/
def execInterruptClaim (x : Fin 16) (r : Rd) (s : State) : Out := .next (readObject s r (0x3010 + x.val) 3)

/-- LOG_POP, R714: a read of 3203h:01h. -/
def execLogPop (r : Rd) (s : State) : Out := .next (readObject s r 0x3203 1)

end Sys2Proof.Machine
end

