-- ==== Sys2Proof/Machine/Agents.lean ====
section
/-! DEFINITION. What makes accesses to objects beside the engines and the CAN object agent: the writes of an authenticated
command (R501) and the object transfer of the two-wire ports (R514 to R519); and the ends of stopping phases (R39, R42). -/
namespace Sys2Proof.Machine

/-! ### Authenticated commands -/

/-- R501: the writes of the command from number `j` on, `n` of them left: it stops at the first that is refused. -/
def commandWrites : Nat → State → Nat → State
  | 0, s, _ => endCommand s 0
  | n + 1, s, j =>
    let w : Wr := { master := s.auth.master, len := 4, value := msgWord s (20 + 8 * j) }
    let (res, s1) := commandWrite s w (msgByte s (16 + 8 * j) + 256 * msgByte s (17 + 8 * j)) (msgByte s (18 + 8 * j))
    if res = .accepted then commandWrites n s1 (j + 1) else endCommand (s1.putN 0x2A80 4 j) 0x0B

/-- COMMAND_WRITES, R501: the counter is stored; the writes are made in order. -/
def execCommandWrites (s : State) : Out :=
  when (s.on 2 && decide (s.nat 0x2A80 1 = 3)) s (commandWrites (msgWrites s) s 0)

/-! ### Two-wire object transfer -/

/-- The bytes of a value, least significant first (R514). -/
def valueBytes (v : Word) (n : Nat) : List Byte := (wordBytes v).take n

/-- R515: the answer to a read: the result, its length and its value, no value where it is refused. -/
def readAnswer (s : State) (i j : Nat) : List Byte :=
  match s.resp, rowOf s i j with
  | some r, some row =>
    if r.result = .accepted then [0, BitVec.ofNat 8 row.ty.size] ++ valueBytes r.value row.ty.size
    else [BitVec.ofNat 8 r.result.code, 0]
  | some r, none => [BitVec.ofNat 8 r.result.code, 0]
  | none, _ => []

/-- TWB_OBJECT_READ, R514, R515: command 01h. -/
def execTwbObjectRead (n : Fin 2) (i : BitVec 16) (j : Byte) (s : State) : Out :=
  let sent := [twbAddress s n.val false, 0x01, i.setWidth 8, (i >>> 8).setWidth 8, j, twbAddress s n.val true]
  let s1 := readObject s { master := .twb, len := 4 } i.toNat j.toNat
  when (twbTarget s n.val && masterLive s .twb) s
    (twbServed ((twbAnswer s1 n.val sent (readAnswer s1 i.toNat j.toNat)).modTwb n.val (fun p => { p with answering := true, since := s.t }))
      n.val)

/-- R517: the whole frame that a controller's bytes begin with, as index, subindex and value bytes, and whether bytes are
left over; none where the frame is not valid. -/
def writeFrame (s : State) (n : Nat) (l : List Byte) : Option (Nat × Nat × List Byte × Bool) :=
  let b := fun k => (l.getD k 0).toNat
  let len := b 4
  let whole := 5 + len
  let sized := s.flag (twbIdx n) 8 0
  if b 0 ≠ 2 ∨ len = 0 ∨ 4 < len ∨ l.length < whole + (if sized then 1 else 0) then none
  else if sized = true ∧ pec (twbAddress s n false :: l.take whole) ≠ l.getD whole 0 then none
  else some (b 1 + 256 * b 2, b 3, (l.drop 5).take len, decide (whole + (if sized then 1 else 0) < l.length))

/-- TWB_FRAME_ERROR, R517: counted and flagged. -/
def frameError (s : State) (n : Nat) : State := (s.bump (twbIdx n) 0x16 16).setBits (twbIdx n) 0x12 4

/-- R517, R518: the object write of a whole frame, with its result kept. -/
def twbWrite (s : State) (n i j : Nat) (l : List Byte) : State :=
  let w : Wr := { master := .twb, len := l.length, value := BitVec.ofNat 32 (leNat l) }
  let s1 := writeObject s w false i j
  let res := (s1.resp.map (·.result.code)).getD 0
  (s1.modTwb n (fun p => { p with last := some (res, i * 256 + j), answering := false })).bump (twbIdx n) 0x17 32

/-- TWB_OBJECT_WRITE, R514, R517: command 02h, or a frame that is none. -/
def execTwbObjectWrite (n : Fin 2) (frame : List Byte) (s : State) : Out :=
  let s1 := match writeFrame s n.val frame with
    | some (i, j, l, more) => let s2 := twbWrite s n.val i j l; if more then frameError s2 n.val else s2
    | none => frameError s n.val
  when (twbTarget s n.val && masterLive s .twb) s (twbEnd s1 n.val)

/-! ### Stopping phases -/

/-- STOPPING_PHASE_END, R39, R42: the work in flight of a function that was disabled has completed. A function whose units
of work are whole commands here has none in flight when it is disabled, and has stopped with the disable. -/
def execStoppingPhaseEnd (f : StopFn) (s : State) : Out :=
  match f with
  | .markUnit => when (s.on 5) s (markUnitStopped s)
  | .sense c => when (s.on 5) s (senseStopped s c.val)
  | .task t => when (s.on 2) s (foremanAct (finishStop s t.val))
  | .canChannel n => when (s.on 7 && canState s n.val == 5) s (sendBest s n.val 0)
  | .twbPort n => when (s.on 7 && twbState s n.val == 6) s (twbEnd s n.val)
  | .converter k => when (s.on 6) s (convStopped s k.val)
  | .assayer k => when (s.on 2) s (assayerStopped s k.val)
  | .domain _ => .next (settleDomains s)
  | .queue _ => .next s
  | .foreman => .next s
  | .sequencer => .next s
  | .charger => .next s
  | .powerPath => .next s
  | .gauge => .next s
  | .interrupts => .next s
  | .journal => .next s

end Sys2Proof.Machine
end

