-- ==== Sys2Proof/Machine/Bulk.lean ====
section
/-! DEFINITION. The frames of a bulk session over CAN XL (R494 to R497), and the frames that a channel sends (R479). -/
namespace Sys2Proof.Machine

/-! ### The device sends -/

/-- The target of the session. -/
def bulkTarget (s : State) : Nat := s.nat 0x2A21 5

/-- The payload size P. -/
def bulkPayload (s : State) : Nat := s.nat 0x2A21 8

/-- Whether the device sends. -/
def bulkSends (s : State) : Bool := s.nat 0x2A21 6 == 0

/-- R496: the number of data frames of a transfer from the device. -/
def bulkCount (s : State) : Nat := ceilDiv (domainSize s (bulkTarget s)) (bulkPayload s)

/-- The session has reached byte k of the target: its offset and the bytes moved. -/
def bulkAt (s : State) (k : Nat) : State := (s.putN (bulkTarget s) 2 k).putN 0x2A21 0x0D k

/-- R479: whether the session's channel takes a frame. -/
def bulkRoom (s : State) : Bool :=
  let n := s.nat 0x2A21 1
  canOn s n && decide ((s.canChan n).tx.length < 32) && (s.canChan n).held.isEmpty

/-- R496: the next data frame. -/
def bulkData (s : State) : State :=
  let p := bulkPayload s
  let k := s.bulk.next
  let l := domainBytes s (bulkTarget s) (k * p) (min p (domainSize s (bulkTarget s) - k * p))
  (bulkAt (bulkSend s 0 k l) (k * p + l.length)).modBulk (fun b => { b with next := k + 1 })

/-- R497: the end frame: the total length and the check over the whole transfer. -/
def bulkFinish (s : State) : State :=
  let size := domainSize s (bulkTarget s)
  let n := bulkCount s
  let check := assayerCheck (domainBytes s (bulkTarget s) 0 size) (n % 65536)
  (bulkSend s 2 n (wordBytes (BitVec.ofNat 32 size) ++ wordBytes check)).putN 0x2A21 0x0B 2

/-- One frame of the sender, where it may send one. -/
def bulkFrameOut (s : State) : State :=
  if bulkSends s = false ∨ s.nat 0x2A21 0x0B ≠ 1 ∨ bulkRoom s = false then s
  else if s.bulk.next < bulkCount s then
    (if s.bulk.next < s.bulk.acked + s.nat 0x2A21 7 then bulkData s else s)
  else bulkFinish s

/-- R496: the sender runs up to B frames beyond the last sequence acknowledged while its channel has room. -/
def bulkPump (s : State) : State := (List.range 65).foldl (fun s _ => bulkFrameOut s) s

/-- R496: the sender resumes from a sequence. -/
def bulkResume (s : State) (seq : Nat) : State :=
  (bulkAt (s.putN 0x2A21 0x0B 1) (seq * bulkPayload s)).modBulk (fun b => { b with next := seq, acked := seq, last := s.t })

/-- BULK_START: a write of 2A21h:09h. -/
def execBulkStart (w : Wr) (s : State) : Out := .next (bulkPump (accessWrite s w false 0x2A21 9 bulkStartEff))

/-- BULK_TIMEOUT, R496: no acknowledgement within the timeout: the sender resends, and fails at the third in a row. -/
def execBulkTimeout (s : State) : Out :=
  let s1 := s.bump 0x2A21 0x10 16
  when (s.on 7 && bulkRuns s && bulkSends s && s.passed s.bulk.last (cyclesMs (s.nat 0x2A21 0x0F))) s
    (if 2 ≤ s.bulk.timeouts then bulkEnd s 2
     else bulkPump ((bulkResume s1 s.bulk.acked).modBulk (fun b => { b with timeouts := b.timeouts + 1 })))

/-! ### Received frames -/

/-- The type and the sequence of a frame (R494). -/
def bulkType (f : Frame) : Nat := fieldN f.acceptance.toNat 28 4
/-- The sequence. -/
def bulkSeq (f : Frame) : Nat := f.acceptance.toNat % 2 ^ 24

/-- The oldest frame of a type is taken while the session runs. -/
def serveBulk (s : State) (type : Nat) (f : Frame → State → State) : Out :=
  if s.on 7 = false ∨ bulkRuns s = false then .next s
  else
    match s.bulk.inbox.find? (fun x => bulkType x == type) with
    | some x => .next (f x (s.modBulk (fun b => { b with inbox := b.inbox.erase x })))
    | none => .next s

/-- R496, R497: an acknowledgement: the answer to the end frame ends the session; any other resumes the sender. -/
def bulkAcked (s : State) (f : Frame) : State :=
  let status := leNat (f.data.take 4)
  if bulkSends s = false then s
  else if s.nat 0x2A21 0x0B = 2 ∧ bulkSeq f = bulkCount s % 2 ^ 24 then bulkEnd s (if status = 0 then 0 else 1)
  else if bulkCount s < bulkSeq f then s
  else bulkPump ((bulkResume s (bulkSeq f)).modBulk (fun b => { b with timeouts := 0 }))

/-- BULK_ACK_FRAME. -/
def execBulkAckFrame (s : State) : Out := serveBulk s 1 (fun f s => bulkAcked s f)

/-- R496: the receiver acknowledges with the next expected sequence and a status. -/
def bulkAck (s : State) (status : Nat) : State :=
  (bulkSend s 1 s.bulk.next (wordBytes (BitVec.ofNat 32 status))).modBulk (fun b => { b with since := 0 })

/-- Four bytes of a frame as a word; bytes that the frame does not hold are free values. -/
def paddedWord (s : State) (l : List Byte) : Word × State :=
  let (v, s1) := s.freshWord
  let b := fun k => l.getD k (byteOf v k)
  (bytesWord (b 0) (b 1) (b 2) (b 3), if l.length < 4 then s1 else s)

/-- R496, R497: the data of a frame written to the target, word by word on behalf of the CAN object agent; false at the
first word that is refused. -/
def bulkStore : Nat → State → List Byte → State × Bool
  | 0, s, _ => (s, true)
  | n + 1, s, l =>
    let (v, s1) := paddedWord s l
    let s2 := writeObject s1 { master := .can, len := 4, value := v } s.bulk.authorised (bulkTarget s) 3
    if (s2.resp.map (·.result)) = some .accepted then bulkStore n s2 (l.drop 4) else (s2, false)

/-- R496, R497: a data frame from the host. -/
def bulkTaken (s : State) (f : Frame) : State :=
  let b := s.bulk
  if bulkSends s ∨ s.nat 0x2A21 0x0B ≠ 1 then s
  else if bulkSeq f ≠ b.next % 2 ^ 24 then bulkAck (s.bump 0x2A21 0x10 16) 0
  else if domainSize s (bulkTarget s) < b.total + f.data.length then bulkEnd s 5
  else
    let (s1, ok) := bulkStore (ceilDiv f.data.length 4) s f.data
    if ok = false then bulkEnd s1 3
    else
      let s2 := (s1.putN 0x2A21 0x0D (b.total + f.data.length)).modBulk (fun x => { x with
        next := b.next + 1, since := b.since + 1, total := b.total + f.data.length, crc := crcBytes b.crc f.data })
      if s.nat 0x2A21 7 ≤ b.since + 1 then bulkAck s2 0 else s2

/-- BULK_DATA_FRAME. -/
def execBulkDataFrame (s : State) : Out := serveBulk s 0 (fun f s => bulkTaken s f)

/-- R497: an end frame from the host: the length and the check are compared, and the session ends. -/
def bulkClosed (s : State) (f : Frame) : State :=
  if bulkSends s then s
  else
    let same := leNat (f.data.take 4) == s.bulk.total &&
      leNat ((f.data.drop 4).take 4) == (crcEnd s.bulk.crc (s.bulk.next % 65536)).toNat
    bulkEnd (bulkAck s (if same then 0 else 1)) (if same then 0 else 1)

/-- BULK_END_FRAME. -/
def execBulkEndFrame (s : State) : Out := serveBulk s 2 (fun f s => bulkClosed s f)

/-- BULK_ABORT_FRAME. -/
def execBulkAbortFrame (s : State) : Out := serveBulk s 3 (fun _ s => bulkEnd s 4)

/-- CAN_FRAME_SENT, R479: the frame of channel n that wins arbitration is sent, after `errs` attempts that ended in an
error. -/
def execCanFrameSent (n : Fin 2) (errs : Fin 64) (s : State) : Out :=
  when (canSees s && (canLive s n.val || canState s n.val == 5)) s
    (bulkPump (sendBest s n.val errs.val))

end Sys2Proof.Machine
end

