-- ==== Sys2Proof/Machine/CanServices.lean ====
section
/-! DEFINITION. The services of the CAN object agent that access objects: SDO and USDO, PDO and SYNC (R446, R482, R485 to
R487; CiA 301). -/
namespace Sys2Proof.Machine

/-- Whether the agent may access objects: it runs CANopen and D2 is ON. -/
def agentServes (s : State) : Bool := agentRuns s && s.on 2

/-! ### SDO -/

/-- R446: the abort code of a result; `i` is the index accessed and `a` the answer. -/
def abortCode (s : State) (i : Nat) (a : Resp) : Nat :=
  match a.result with
  | .accepted => 0
  | .readOnly => 0x06010002
  | .authentication => 0x06010000
  | .range => if a.above then 0x06090031 else if a.below then 0x06090032 else 0x06090030
  | .state => 0x08000022
  | .domain => 0x08000022
  | .noObject => if (rowOf s i 0).isSome then 0x06090011 else 0x06020000
  | .length => 0x06070010
  | .pair => 0x08000020
  | .hardware => 0x06060000
  | .privilege => 0x08000020

/-- The answer to the last access. -/
def lastAnswer (s : State) : Resp := s.resp.getD { result := .noObject, value := 0 }

/-- R446, R447, R485: a download: the abort code, 0 where it was accepted. -/
def sdoWrite (s : State) (i j : Nat) (l : List Byte) : Nat × State :=
  let w : Wr := { master := .can, len := l.length, value := BitVec.ofNat 32 (leNat (l.take 4)) }
  let s1 := writeObject s w false i j
  let mapping := (0x1600 ≤ i ∧ i ≤ 0x160F) ∨ (0x1A00 ≤ i ∧ i ≤ 0x1A0F)
  let code := if (lastAnswer s1).result = .state ∧ mapping then mapRefusal s i j w.value else 0
  (if code ≠ 0 then code else abortCode s i (lastAnswer s1), s1)

/-- R674: the 256 bits of the sources asserted (subindex 1) or claimed (subindex 2), as 32 bytes. -/
def sourceBytes (s : State) (j : Nat) : List Byte :=
  let on := fun n => if j = 1 then sourceLevel s n else s.irq.claims.any (fun c => c.1 == n)
  (List.range 32).map (fun k => BitVec.ofNat 8 (maskOf ((List.range 8).filter (fun b => on (8 * k + b)))))

/-- R446, R447: an upload: the abort code, 0 where it was accepted, and the bytes. -/
def sdoRead (s : State) (i j : Nat) : Nat × List Byte × State :=
  let s1 := readObject s { master := .can, len := 4 } i j
  let size := ((rowOf s i j).map (·.ty.size)).getD 4
  let l := if i = 0x3001 ∧ (j = 1 ∨ j = 2) then sourceBytes s j else (wordBytes (lastAnswer s1).value).take size
  (abortCode s i (lastAnswer s1), l, s1)

/-- A frame of the server, padded with zeros to 8 bytes. -/
def sdoSend (s : State) (l : List Byte) : State :=
  agentSend s (agentFrame s (0x580 + nodeId s) (l ++ List.replicate (8 - l.length) 0))

/-- The bytes that name an object in a frame. -/
def sdoObject (i j : Nat) : List Byte := [BitVec.ofNat 8 i, BitVec.ofNat 8 (i / 256), BitVec.ofNat 8 j]

/-- The transfer in progress, or none. -/
def setSdo (s : State) (x : Option SdoTransfer) : State := s.modAgent (fun a => { a with sdo := x })

/-- An abort, which ends the transfer in progress. -/
def sdoAbort (s : State) (i j code : Nat) : State :=
  sdoSend (setSdo s none) (0x80 :: (sdoObject i j ++ wordBytes (BitVec.ofNat 32 code)))

/-- The end of a download: its confirmation `ok`, or an abort. -/
def sdoWritten (s : State) (i j : Nat) (l ok : List Byte) : State :=
  let (code, s1) := sdoWrite s i j l
  if code = 0 then sdoSend (setSdo s1 none) ok else sdoAbort s1 i j code

/-- Initiate download: expedited, or the start of a segmented transfer. -/
def sdoInitDownload (s : State) (f : Frame) (i j : Nat) : State :=
  let c := frameByte f 0
  let ok := 0x60 :: sdoObject i j
  if bitN c 1 then
    let len := if bitN c 0 then 4 - fieldN c 2 2 else 4
    sdoWritten s i j ((f.data.drop 4).take len) ok
  else
    let size := if bitN c 0 then some (frameWord f 4) else none
    sdoSend (setSdo s (some { download := true, index := i, sub := j, last := s.t, size := size })) ok

/-- Download segment. -/
def sdoDownload (s : State) (f : Frame) (x : SdoTransfer) : State :=
  let c := frameByte f 0
  let l := x.data ++ (f.data.drop 1).take (7 - fieldN c 1 3)
  let ok : List Byte := [BitVec.ofNat 8 (0x20 + (if bitN c 4 then 0x10 else 0))]
  if bitN c 4 ≠ x.toggle then sdoAbort s x.index x.sub 0x05030000
  else if bitN c 0 = false then
    sdoSend (setSdo s (some { x with data := l, toggle := !x.toggle, last := s.t })) ok
  else if x.size.isSome ∧ x.size ≠ some l.length then sdoAbort s x.index x.sub 0x06070010
  else sdoWritten s x.index x.sub l ok

/-- Initiate upload: an expedited answer, or the start of a segmented transfer. -/
def sdoInitUpload (s : State) (i j : Nat) : State :=
  let (code, l, s1) := sdoRead s i j
  if code ≠ 0 then sdoAbort s1 i j code
  else if l.length ≤ 4 then
    sdoSend (setSdo s1 none) (BitVec.ofNat 8 (0x43 + 4 * (4 - l.length)) :: (sdoObject i j ++ l))
  else
    sdoSend (setSdo s1 (some { download := false, index := i, sub := j, data := l, last := s.t }))
      (0x41 :: (sdoObject i j ++ wordBytes (BitVec.ofNat 32 l.length)))

/-- Upload segment. -/
def sdoUpload (s : State) (f : Frame) (x : SdoTransfer) : State :=
  let c := frameByte f 0
  let l := x.data.take 7
  let rest := x.data.drop 7
  let head : Byte := BitVec.ofNat 8
    ((if bitN c 4 then 0x10 else 0) + 2 * (7 - l.length) + (if rest.isEmpty then 1 else 0))
  if bitN c 4 ≠ x.toggle then sdoAbort s x.index x.sub 0x05030000
  else
    sdoSend (setSdo s (if rest.isEmpty then none else some { x with data := rest, toggle := !x.toggle, last := s.t }))
      (head :: l)

/-- One request of the SDO host (CiA 301). -/
def sdoServe (s : State) (f : Frame) : State :=
  let i := frameByte f 1 + 256 * frameByte f 2
  let j := frameByte f 3
  match frameByte f 0 / 32, s.agent.sdo with
  | 0, some x => if x.download then sdoDownload s f x else sdoAbort s i j 0x05040001
  | 1, _ => sdoInitDownload s f i j
  | 2, _ => sdoInitUpload s i j
  | 3, some x => if x.download then sdoAbort s i j 0x05040001 else sdoUpload s f x
  | 4, _ => setSdo s none
  | _, _ => sdoAbort s i j 0x05040001

/-- One USDO request (CiA 1301): what the frame asks for and how it is answered the standard says. -/
def usdoServe (s : State) (f : Frame) : State :=
  match Config.usdoRequest f.data with
  | none => s
  | some (write, i, j, l) =>
    let (code, v, s1) := if write then ((sdoWrite s i j l).1, [], (sdoWrite s i j l).2) else sdoRead s i j
    agentSend s1 (agentFrame s1 (0x580 + nodeId s1) ((Config.usdoAnswer f.data code v).take 64))

/-- SDO_REQUEST, R446, R482: the oldest request is served in pre-operational and operational. -/
def execSdoRequest (s : State) : Out :=
  match nextFrame s (fun v _ => v == .sdo) with
  | none => .next s
  | some f =>
    let s1 := takeFrame s f
    if agentServes s = false ∨ (nmt s ≠ 5 ∧ nmt s ≠ 0x7F) then .next s1
    else if s.agent.mode = 0 then .next (sdoServe s1 f)
    else .next (usdoServe s1 f)

/-- SDO_TIMEOUT, R482: a segmented transfer has seen no segment for 1 s. -/
def execSdoTimeout (s : State) : Out :=
  match s.agent.sdo with
  | none => .next s
  | some x => when (agentRuns s && s.passed x.last (cyclesMs 1000)) s (sdoAbort s x.index x.sub 0x05040000)

/-! ### PDO and SYNC -/

/-- The mapping entries of a PDO: index, subindex and bytes. -/
def mapped (s : State) (i : Nat) : List (Nat × Nat × Nat) :=
  (List.range (s.nat i 0)).map (fun k =>
    let v := s.nat i (1 + k)
    (v / 65536, fieldN v 8 8, v % 256 / 8))

/-- The bytes that a PDO's mapping gives its frame; an FD frame is padded to a length it can carry. -/
def mappedLength (s : State) (i : Nat) : Nat :=
  let n := ((mapped s i).map (·.2.2)).sum
  if s.agent.mode = 0 then n else fdLength n

/-- R486: the entries of an RPDO are written in order; a refused one is skipped. -/
def writeEntries : State → List (Nat × Nat × Nat) → List Byte → State
  | s, [], _ => s
  | s, (i, j, n) :: t, l =>
    let s1 := writeObject s { master := .can, len := n, value := BitVec.ofNat 32 (leNat (l.take n)) } false i j
    let s2 := if (lastAnswer s1).result = .accepted then s1 else agentEmcy (s1.bump 0x2A20 0x0E 16) 0xFF01
    writeEntries s2 t (l.drop n)

/-- RPDO k changed. -/
def modRpdo (s : State) (k : Nat) (f : Pdo → Pdo) : State := s.modAgent (fun a => { a with rpdo := modAt a.rpdo k f })

/-- TPDO k changed. -/
def modTpdo (s : State) (k : Nat) (f : Pdo → Pdo) : State := s.modAgent (fun a => { a with tpdo := modAt a.tpdo k f })

/-- R486: an RPDO is received: written at once, or kept for SYNC. -/
def rpdoTake (s : State) (k : Nat) (l : List Byte) : State :=
  if l.length ≠ mappedLength s (0x1600 + k) then agentEmcy s 0x8210
  else if s.nat (0x1400 + k) 2 ≤ 240 then modRpdo s k (fun p => { p with waiting := some l })
  else writeEntries s (mapped s (0x1600 + k)) l

/-- The oldest waiting RPDO and its number. -/
def nextRpdo (s : State) : Option (Frame × Nat) :=
  s.agent.inbox.findSome? (fun f => match serviceOf s f with | some (.rpdo k) => some (f, k) | _ => none)

/-- RPDO_RECEIVED, R486: processed in operational only. -/
def execRpdoReceived (s : State) : Out :=
  match nextRpdo s with
  | none => .next s
  | some (f, k) =>
    let s1 := takeFrame s f
    when (agentServes s && nmt s == 5) s1 (rpdoTake s1 k f.data)

/-- R487: the bytes of a TPDO's entries, read in order; the spec gives no value for an entry that cannot be read. -/
def readEntries : State → List (Nat × Nat × Nat) → List Byte × State
  | s, [] => ([], s)
  | s, (i, j, n) :: t =>
    let s1 := readObject s { master := .can, len := 4 } i j
    let (v, s2) := if (lastAnswer s1).result = .accepted then ((lastAnswer s1).value, s1) else s1.freshWord
    let (l, s3) := readEntries s2 t
    ((wordBytes v).take n ++ l, s3)

/-- R487: TPDO k reads its entries and is sent. -/
def sendTpdo (s : State) (k : Nat) : State :=
  let (l, s1) := readEntries s (mapped s (0x1A00 + k))
  modTpdo (agentSend s1 (cobFrame s1 (s1.obj (0x1800 + k) 1) l)) k (fun p => { p with syncs := 0, event := false, sent := s.t })

/-- Whether TPDO k is valid. -/
def tpdoValid (s : State) (k : Nat) : Bool := !(s.obj (0x1800 + k) 1).getLsbD 31

/-- R487: TPDO k at a SYNC: sent at every nth for types 1 to 240, after its event for type 0. -/
def syncTpdo (s : State) (k : Nat) : State :=
  let p := s.agent.tpdo.getD k {}
  let t := s.nat (0x1800 + k) 2
  if tpdoValid s k = false ∨ 240 < t then s
  else if t = 0 then (if p.event then sendTpdo s k else s)
  else if t ≤ p.syncs + 1 then sendTpdo s k
  else modTpdo s k (fun p => { p with syncs := p.syncs + 1 })

/-- R486: RPDO k at a SYNC: what waits is written. -/
def syncRpdo (s : State) (k : Nat) : State :=
  match (s.agent.rpdo.getD k {}).waiting with
  | some l => writeEntries (modRpdo s k (fun p => { p with waiting := none })) (mapped s (0x1600 + k)) l
  | none => s

/-- R486, R487: a SYNC writes the synchronous RPDOs and sends the synchronous TPDOs, in operational only. -/
def syncAct (s : State) : State :=
  if agentServes s = false ∨ nmt s ≠ 5 then s
  else (List.range 16).foldl syncTpdo ((List.range 16).foldl syncRpdo s)

/-- SYNC_RECEIVED, R486, R487. -/
def execSyncReceived (s : State) : Out :=
  match nextFrame s (fun v _ => v == .sync) with
  | some f => .next (syncAct (takeFrame s f))
  | none => .next s

/-- SYNC_PRODUCE, R482: the communication cycle period has elapsed: the agent sends a SYNC, which acts on the node too. -/
def execSyncProduce (s : State) : Out :=
  let us := s.nat 0x1006 0
  when (agentRuns s && (nmt s == 5 || nmt s == 0x7F) && s.flag 0x1005 0 30 && us != 0 && s.agent.holdFrom.isNone &&
      s.passed s.agent.sync (cyclesUs us)) s
    (syncAct (agentSend (s.modAgent (fun a => { a with sync := s.t })) (cobFrame s (s.obj 0x1005 0) [])))

/-- R484 (CiA 301): whether the event timer of TPDO k has run out: 05h ms since the PDO was last sent, 0 for no timer. -/
def timerOver (s : State) (k : Nat) : Bool :=
  s.nat (0x1800 + k) 5 != 0 && s.passed (s.agent.tpdo.getD k {}).sent (cyclesMs (s.nat (0x1800 + k) 5))

/-- TPDO_EVENT, R487: the event or the timer of TPDO k fires: type 0 waits for SYNC, types 254 and 255 are sent once
their inhibit time has passed. -/
def execTpdoEvent (k : Fin 16) (timer : Bool) (s : State) : Out :=
  let i := 0x1800 + k.val
  let t := s.nat i 2
  let free := s.passed (s.agent.tpdo.getD k.val {}).sent (cyclesUs (100 * s.nat i 3))
  if agentServes s = false ∨ nmt s ≠ 5 ∨ tpdoValid s k.val = false ∨ s.agent.holdFrom.isSome ∨
      (timer = true ∧ timerOver s k.val = false) then .next s
  else if t = 0 then .next (modTpdo s k.val (fun p => { p with event := true }))
  else when (decide (254 ≤ t) && free) s (sendTpdo s k.val)

end Sys2Proof.Machine
end

