-- ==== Sys2Proof/Machine/Rv32.lean ====
section
/-! DEFINITION. The instruction set profile of an engine (R349, R350, R358): RV32I with M, A, C, Zicsr, Zba, Zbb and Xtide.
What a word decodes to, none for an encoding that the profile does not cover, and what the register operations compute. -/
namespace Sys2Proof.Machine

/-- The operations between two register values. -/
inductive AluOp where
  | add | sub | sll | slt | sltu | xor | srl | sra | or | and
  | mul | mulh | mulhsu | mulhu | div | divu | rem | remu
  | sh1add | sh2add | sh3add
  | andn | orn | xnor | max | maxu | min | minu | rol | ror | zexth
  deriving DecidableEq, Repr

/-- The Zbb operations on one register value. -/
inductive UnaryOp where
  | clz | ctz | cpop | sextb | sexth | orcb | rev8
  deriving DecidableEq, Repr

/-- The conditions of a branch. -/
inductive BranchOp where
  | eq | ne | lt | ge | ltu | geu
  deriving DecidableEq, Repr

/-- What a CSR instruction does to the CSR. -/
inductive CsrOp where
  | write | set | clear
  deriving DecidableEq, Repr

/-- An instruction of the profile; register fields are numbers below 32, offsets are sign-extended words. -/
inductive RvOp where
  | lui (rd : Nat) (imm : Word)
  | auipc (rd : Nat) (imm : Word)
  | jal (rd : Nat) (off : Word)
  | jalr (rd rs1 : Nat) (off : Word)
  | branch (c : BranchOp) (rs1 rs2 : Nat) (off : Word)
  | load (size : Nat) (signed : Bool) (rd rs1 : Nat) (off : Word)
  | store (size : Nat) (rs1 rs2 : Nat) (off : Word)
  | aluImm (op : AluOp) (rd rs1 : Nat) (imm : Word)
  | alu (op : AluOp) (rd rs1 rs2 : Nat)
  | unary (op : UnaryOp) (rd rs1 : Nat)
  | fence
  | ecall
  | ebreak
  | mret
  | wfi
  | csr (op : CsrOp) (imm : Bool) (rd rs1 num : Nat)
  | lr (rd rs1 : Nat)
  | sc (rd rs1 rs2 : Nat)
  | amo (op : AmoOp) (rd rs1 rs2 : Nat)
  | tang (rd rs1 : Nat)
  | treach (rd rs1 rs2 : Nat)
  | qmul (rd rs1 rs2 : Nat)
  | qpush (q rs1 rs2 : Nat)
  | qpop (rd rs1 : Nat)
  | qwait (rd rs1 rs2 : Nat)
  deriving DecidableEq, Repr

/-! ### Decoding of the 32-bit encodings -/

/-- A field of `n` bits, sign-extended to a word. -/
def sext (n v : Nat) : Word := (BitVec.ofNat n v).signExtend 32

/-- The immediate of the I format. -/
def immI (w : Nat) : Word := sext 12 (fieldN w 20 12)

/-- The immediate of the S format. -/
def immS (w : Nat) : Word := sext 12 (fieldN w 25 7 * 32 + fieldN w 7 5)

/-- The offset of the B format. -/
def immB (w : Nat) : Word :=
  sext 13 (fieldN w 31 1 * 4096 + fieldN w 7 1 * 2048 + fieldN w 25 6 * 32 + fieldN w 8 4 * 2)

/-- The immediate of the U format. -/
def immU (w : Nat) : Word := BitVec.ofNat 32 (fieldN w 12 20 * 4096)

/-- The offset of the J format. -/
def immJ (w : Nat) : Word :=
  sext 21 (fieldN w 31 1 * 1048576 + fieldN w 12 8 * 4096 + fieldN w 20 1 * 2048 + fieldN w 21 10 * 2)

/-- The branch condition of a funct3. -/
def branchOf : Nat → Option BranchOp
  | 0 => some .eq
  | 1 => some .ne
  | 4 => some .lt
  | 5 => some .ge
  | 6 => some .ltu
  | 7 => some .geu
  | _ => none

/-- The size and sign of a load's funct3. -/
def loadOf : Nat → Option (Nat × Bool)
  | 0 => some (1, true)
  | 1 => some (2, true)
  | 2 => some (4, true)
  | 4 => some (1, false)
  | 5 => some (2, false)
  | _ => none

/-- The operation of opcode 33h by funct7 and funct3: RV32I, M, Zba and Zbb. -/
def opOf (f7 f3 rs2 : Nat) : Option AluOp :=
  match f7, f3 with
  | 0, 0 => some .add
  | 0, 1 => some .sll
  | 0, 2 => some .slt
  | 0, 3 => some .sltu
  | 0, 4 => some .xor
  | 0, 5 => some .srl
  | 0, 6 => some .or
  | 0, 7 => some .and
  | 32, 0 => some .sub
  | 32, 5 => some .sra
  | 1, 0 => some .mul
  | 1, 1 => some .mulh
  | 1, 2 => some .mulhsu
  | 1, 3 => some .mulhu
  | 1, 4 => some .div
  | 1, 5 => some .divu
  | 1, 6 => some .rem
  | 1, 7 => some .remu
  | 16, 2 => some .sh1add
  | 16, 4 => some .sh2add
  | 16, 6 => some .sh3add
  | 32, 7 => some .andn
  | 32, 6 => some .orn
  | 32, 4 => some .xnor
  | 5, 6 => some .max
  | 5, 7 => some .maxu
  | 5, 4 => some .min
  | 5, 5 => some .minu
  | 48, 1 => some .rol
  | 48, 5 => some .ror
  | 4, 4 => if rs2 = 0 then some .zexth else none
  | _, _ => none

/-- The instruction of opcode 13h. -/
def opImmOf (w rd rs1 f3 : Nat) : Option RvOp :=
  let f7 := fieldN w 25 7
  let sh := fieldN w 20 5
  let shift (op : AluOp) : Option RvOp := some (.aluImm op rd rs1 (BitVec.ofNat 32 sh))
  match f3 with
  | 0 => some (.aluImm .add rd rs1 (immI w))
  | 2 => some (.aluImm .slt rd rs1 (immI w))
  | 3 => some (.aluImm .sltu rd rs1 (immI w))
  | 4 => some (.aluImm .xor rd rs1 (immI w))
  | 6 => some (.aluImm .or rd rs1 (immI w))
  | 7 => some (.aluImm .and rd rs1 (immI w))
  | 1 =>
    match f7, sh with
    | 0, _ => shift .sll
    | 48, 0 => some (.unary .clz rd rs1)
    | 48, 1 => some (.unary .ctz rd rs1)
    | 48, 2 => some (.unary .cpop rd rs1)
    | 48, 4 => some (.unary .sextb rd rs1)
    | 48, 5 => some (.unary .sexth rd rs1)
    | _, _ => none
  | _ =>
    match f7, sh with
    | 0, _ => shift .srl
    | 32, _ => shift .sra
    | 48, _ => shift .ror
    | 20, 7 => some (.unary .orcb rd rs1)
    | 52, 24 => some (.unary .rev8 rd rs1)
    | _, _ => none

/-- The AMO of a funct5. -/
def amoOf : Nat → Option AmoOp
  | 0 => some .add
  | 1 => some .swap
  | 4 => some .xor
  | 8 => some .or
  | 12 => some .and
  | 16 => some .min
  | 20 => some .max
  | 24 => some .minu
  | 28 => some .maxu
  | _ => none

/-- The instruction of opcode 73h. -/
def systemOf (w rd rs1 f3 : Nat) : Option RvOp :=
  let num := fieldN w 20 12
  match f3 with
  | 0 =>
    if rd ≠ 0 ∨ rs1 ≠ 0 then none
    else
      match num with
      | 0 => some .ecall
      | 1 => some .ebreak
      | 0x302 => some .mret
      | 0x105 => some .wfi
      | _ => none
  | 1 => some (.csr .write false rd rs1 num)
  | 2 => some (.csr .set false rd rs1 num)
  | 3 => some (.csr .clear false rd rs1 num)
  | 5 => some (.csr .write true rd rs1 num)
  | 6 => some (.csr .set true rd rs1 num)
  | 7 => some (.csr .clear true rd rs1 num)
  | _ => none

/-- R358, R359: the Xtide instruction of a funct3 with funct7 0000000b. -/
def xtideOf (rd rs1 rs2 f3 : Nat) : Option RvOp :=
  match f3 with
  | 0 => some (.tang rd rs1)
  | 1 => some (.treach rd rs1 rs2)
  | 2 => some (.qmul rd rs1 rs2)
  | 3 => some (.qpush rd rs1 rs2)
  | 4 => some (.qpop rd rs1)
  | 5 => some (.qwait rd rs1 rs2)
  | _ => none

/-- R349, R350, R358: the instruction of a 32-bit encoding. -/
def decodeWide (w : Nat) : Option RvOp :=
  let rd := fieldN w 7 5
  let f3 := fieldN w 12 3
  let rs1 := fieldN w 15 5
  let rs2 := fieldN w 20 5
  match fieldN w 0 7 with
  | 0x37 => some (.lui rd (immU w))
  | 0x17 => some (.auipc rd (immU w))
  | 0x6F => some (.jal rd (immJ w))
  | 0x67 => if f3 = 0 then some (.jalr rd rs1 (immI w)) else none
  | 0x63 => (branchOf f3).map (fun c => .branch c rs1 rs2 (immB w))
  | 0x03 => (loadOf f3).map (fun l => .load l.1 l.2 rd rs1 (immI w))
  | 0x23 => if f3 ≤ 2 then some (.store (2 ^ f3) rs1 rs2 (immS w)) else none
  | 0x13 => opImmOf w rd rs1 f3
  | 0x33 => (opOf (fieldN w 25 7) f3 rs2).map (fun op => .alu op rd rs1 rs2)
  | 0x0F => if f3 = 0 then some .fence else none
  | 0x73 => systemOf w rd rs1 f3
  | 0x2F =>
    if f3 ≠ 2 then none
    else if fieldN w 27 5 = 2 then (if rs2 = 0 then some (.lr rd rs1) else none)
    else if fieldN w 27 5 = 3 then some (.sc rd rs1 rs2)
    else (amoOf (fieldN w 27 5)).map (fun op => .amo op rd rs1 rs2)
  | 0x0B => if fieldN w 25 7 = 0 then xtideOf rd rs1 rs2 f3 else none
  | _ => none

/-! ### Decoding of the 16-bit encodings -/

/-- The offset of C.J and C.JAL. -/
def cjOffset (h : Nat) : Word :=
  sext 12 (fieldN h 12 1 * 2048 + fieldN h 8 1 * 1024 + fieldN h 9 2 * 256 + fieldN h 6 1 * 128 + fieldN h 7 1 * 64 +
    fieldN h 2 1 * 32 + fieldN h 11 1 * 16 + fieldN h 3 3 * 2)

/-- The offset of C.BEQZ and C.BNEZ. -/
def cbOffset (h : Nat) : Word :=
  sext 9 (fieldN h 12 1 * 256 + fieldN h 5 2 * 64 + fieldN h 2 1 * 32 + fieldN h 10 2 * 8 + fieldN h 3 2 * 2)

/-- The sign-extended immediate of bits 12 and 6:2. -/
def ciImm (h : Nat) : Word := sext 6 (fieldN h 12 1 * 32 + fieldN h 2 5)

/-- Quadrant 0 of the C extension: C.ADDI4SPN, C.LW and C.SW. -/
def decodeC0 (h : Nat) : Option RvOp :=
  let rd := 8 + fieldN h 2 3
  let rs1 := 8 + fieldN h 7 3
  let off := BitVec.ofNat 32 (fieldN h 5 1 * 64 + fieldN h 10 3 * 8 + fieldN h 6 1 * 4)
  match fieldN h 13 3 with
  | 0 =>
    let n := fieldN h 7 4 * 64 + fieldN h 11 2 * 16 + fieldN h 5 1 * 8 + fieldN h 6 1 * 4
    if n = 0 then none else some (.aluImm .add rd 2 (BitVec.ofNat 32 n))
  | 2 => some (.load 4 true rd rs1 off)
  | 6 => some (.store 4 rs1 rd off)
  | _ => none

/-- The register operations of quadrant 1, funct3 4: shifts with bit 12 set are reserved in RV32C. -/
def decodeC1Alu (h : Nat) : Option RvOp :=
  let rd := 8 + fieldN h 7 3
  let rs2 := 8 + fieldN h 2 3
  let sh := BitVec.ofNat 32 (fieldN h 2 5)
  match fieldN h 10 2, fieldN h 12 1 with
  | 0, 0 => some (.aluImm .srl rd rd sh)
  | 1, 0 => some (.aluImm .sra rd rd sh)
  | 2, _ => some (.aluImm .and rd rd (ciImm h))
  | 3, 0 =>
    match fieldN h 5 2 with
    | 0 => some (.alu .sub rd rd rs2)
    | 1 => some (.alu .xor rd rd rs2)
    | 2 => some (.alu .or rd rd rs2)
    | _ => some (.alu .and rd rd rs2)
  | _, _ => none

/-- Quadrant 1 of the C extension. -/
def decodeC1 (h : Nat) : Option RvOp :=
  let rd := fieldN h 7 5
  match fieldN h 13 3 with
  | 0 => some (.aluImm .add rd rd (ciImm h))
  | 1 => some (.jal 1 (cjOffset h))
  | 2 => some (.aluImm .add rd 0 (ciImm h))
  | 3 =>
    if rd = 2 then
      let n := fieldN h 12 1 * 512 + fieldN h 3 2 * 128 + fieldN h 5 1 * 64 + fieldN h 2 1 * 32 + fieldN h 6 1 * 16
      if n = 0 then none else some (.aluImm .add 2 2 (sext 10 n))
    else if ciImm h = 0 then none
    else some (.lui rd (ciImm h <<< 12))
  | 4 => decodeC1Alu h
  | 5 => some (.jal 0 (cjOffset h))
  | 6 => some (.branch .eq (8 + fieldN h 7 3) 0 (cbOffset h))
  | _ => some (.branch .ne (8 + fieldN h 7 3) 0 (cbOffset h))

/-- Quadrant 2 of the C extension: C.SLLI, C.LWSP, C.JR, C.MV, C.EBREAK, C.JALR, C.ADD and C.SWSP. -/
def decodeC2 (h : Nat) : Option RvOp :=
  let rd := fieldN h 7 5
  let rs2 := fieldN h 2 5
  match fieldN h 13 3, fieldN h 12 1 with
  | 0, 0 => some (.aluImm .sll rd rd (BitVec.ofNat 32 rs2))
  | 2, b =>
    if rd = 0 then none
    else some (.load 4 true rd 2 (BitVec.ofNat 32 (fieldN h 2 2 * 64 + b * 32 + fieldN h 4 3 * 4)))
  | 4, 0 =>
    if rs2 ≠ 0 then some (.alu .add rd 0 rs2)
    else if rd = 0 then none
    else some (.jalr 0 rd 0)
  | 4, _ =>
    if rs2 ≠ 0 then some (.alu .add rd rd rs2)
    else if rd = 0 then some .ebreak
    else some (.jalr 1 rd 0)
  | 6, _ => some (.store 4 2 rs2 (BitVec.ofNat 32 (fieldN h 7 2 * 64 + fieldN h 9 4 * 4)))
  | _, _ => none

/-- R349, R350: the instruction of a 16-bit encoding. -/
def decodeNarrow (h : Nat) : Option RvOp :=
  match fieldN h 0 2 with
  | 0 => decodeC0 h
  | 1 => decodeC1 h
  | _ => decodeC2 h

/-- Whether the first 16 bits of an instruction belong to a 32-bit encoding. -/
def isWide (h : Nat) : Bool := fieldN h 0 2 == 3

/-! ### What the register operations compute -/

/-- The bit number of the first bit that is 1, counted from an end; 32 where there is none. -/
def firstOne (f : Nat → Bool) : Nat := ((List.range 32).find? f).getD 32

/-- The result of an operation between two values. -/
def aluValue (op : AluOp) (a b : Word) : Word :=
  let sh := b.toNat % 32
  match op with
  | .add => a + b
  | .sub => a - b
  | .sll => a <<< sh
  | .slt => if a.toInt < b.toInt then 1 else 0
  | .sltu => if a.toNat < b.toNat then 1 else 0
  | .xor => a ^^^ b
  | .srl => a >>> sh
  | .sra => a.sshiftRight sh
  | .or => a ||| b
  | .and => a &&& b
  | .mul => a * b
  | .mulh => word32 (floorDiv (a.toInt * b.toInt) 4294967296)
  | .mulhsu => word32 (floorDiv (a.toInt * b.toNat) 4294967296)
  | .mulhu => BitVec.ofNat 32 (a.toNat * b.toNat / 4294967296)
  | .div => if b = 0 then 0xFFFFFFFF else word32 (tdiv a.toInt b.toInt)
  | .divu => if b = 0 then 0xFFFFFFFF else BitVec.ofNat 32 (a.toNat / b.toNat)
  | .rem => if b = 0 then a else word32 (a.toInt - b.toInt * tdiv a.toInt b.toInt)
  | .remu => if b = 0 then a else BitVec.ofNat 32 (a.toNat % b.toNat)
  | .sh1add => b + (a <<< 1)
  | .sh2add => b + (a <<< 2)
  | .sh3add => b + (a <<< 3)
  | .andn => a &&& ~~~ b
  | .orn => a ||| ~~~ b
  | .xnor => ~~~ (a ^^^ b)
  | .max => if a.toInt < b.toInt then b else a
  | .maxu => if a.toNat < b.toNat then b else a
  | .min => if a.toInt < b.toInt then a else b
  | .minu => if a.toNat < b.toNat then a else b
  | .rol => (a <<< sh) ||| (a >>> (32 - sh))
  | .ror => (a >>> sh) ||| (a <<< (32 - sh))
  | .zexth => (a.setWidth 16).setWidth 32

/-- The result of an operation on one value. -/
def unaryValue (op : UnaryOp) (a : Word) : Word :=
  match op with
  | .clz => BitVec.ofNat 32 (firstOne (fun k => a.getLsbD (31 - k)))
  | .ctz => BitVec.ofNat 32 (firstOne (fun k => a.getLsbD k))
  | .cpop => BitVec.ofNat 32 (popCount 32 a.toNat)
  | .sextb => (a.setWidth 8).signExtend 32
  | .sexth => (a.setWidth 16).signExtend 32
  | .orcb => bytesWord (if byteOf a 0 = 0 then 0 else 0xFF) (if byteOf a 1 = 0 then 0 else 0xFF)
      (if byteOf a 2 = 0 then 0 else 0xFF) (if byteOf a 3 = 0 then 0 else 0xFF)
  | .rev8 => bytesWord (byteOf a 3) (byteOf a 2) (byteOf a 1) (byteOf a 0)

/-- Whether a branch is taken. -/
def branchTaken (c : BranchOp) (a b : Word) : Bool :=
  match c with
  | .eq => a == b
  | .ne => a != b
  | .lt => decide (a.toInt < b.toInt)
  | .ge => decide (b.toInt ≤ a.toInt)
  | .ltu => decide (a.toNat < b.toNat)
  | .geu => decide (b.toNat ≤ a.toNat)

/-- What a CSR instruction writes to a CSR that holds `old`. -/
def csrValue (op : CsrOp) (old v : Word) : Word :=
  match op with
  | .write => v
  | .set => old ||| v
  | .clear => old &&& ~~~ v

end Sys2Proof.Machine
end

