-- ==== Sys2Proof/Machine/RvMem.lean ====
section
/-! DEFINITION. The loads, stores and fetches of an engine over the address map (R32, R33, R351, R354, R356, R357, R362 to
R373, R390), and its CSRs (R355, R365). -/
namespace Sys2Proof.Machine

/-! ### Targets of the interconnect -/

/-- R33, R376: the interconnect target of an address that engine e puts out; none for its local ports and its private
space. -/
def busTarget (e a : Nat) : Option Nat :=
  if 0x40000000 ≤ a ∧ a < 0x44000000 then some 100
  else if 0x50000000 ≤ a ∧ a < 0x50002000 then some (200 + (a - 0x50000000) / 0x100)
  else
    match regionOf e a with
    | some (.itcm o, _) => if a < 0x30000000 then none else some (300 + 2 * o)
    | some (.dtcm o, _) => if a < 0x30000000 then none else some (301 + 2 * o)
    | some (.sram, w) => some ((w - 0x10000000) / 0x10000)
    | some (.journal, _) => some 101
    | some (.rom, _) => some 102
    | some (.flash0, _) => some 103
    | some (.flash1, _) => some 104
    | none => none

/-- R33: whether another engine's access has been granted at a target in the present cycle. -/
def targetBusy (s : State) (e n : Nat) : Bool := s.cyc.targets.any (fun g => g.1 == n && g.2 != e)

/-- R33: a target is granted to engine e in the present cycle. -/
def grantTarget (s : State) (e n : Nat) : State :=
  { s with cyc := { s.cyc with targets := (n, e) :: s.cyc.targets } }.modEng e (fun g =>
    { g with waited := g.waited.filter (fun p => p.1 != n) })

/-- R33, R387, R398: an access of engine e waits for a target or a queue's place and keeps the cycle in which it arrived;
one that waits for an SRAM bank is counted once. -/
def waitTarget (s : State) (e n : Nat) : State :=
  match (s.eng e).waited.filter (fun p => p.1 == n) with
  | some _ => s
  | none => (if n < 16 then s.bump 0x2710 7 32 else s).modEng e (fun g => { g with waited := some (n, s.t) })

/-- R387: the pop place of queue q as a thing that an access waits for. -/
def popPlace (q : Nat) : Nat := 400 + q

/-- R387: the push place of queue q as a thing that an access waits for. -/
def pushPlace (q : Nat) : Nat := 500 + q

/-! ### Words -/

/-- The word at global address w as it stood before the engines' accesses of the cycle (R369). -/
def oldWord' (s : State) (w : Nat) : Word :=
  let b := fun k => Sparse.get memDefault s.cyc.old (w + k)
  bytesWord (b 0) (b 1) (b 2) (b 3)

/-- Whether an address reaches a TCM through its alias port. -/
def aliasPort (a : Nat) (r : Region) : Bool :=
  match r with
  | .itcm _ => decide (0x30000000 ≤ a)
  | .dtcm _ => decide (0x30000000 ≤ a)
  | _ => false

/-- R369: the word that an engine's access at address a reads. -/
def portWord (s : State) (a : Nat) (r : Region) (w : Nat) : Word := if aliasPort a r then oldWord' s w else s.seenWord w

/-- R369: a word that an engine writes: at once through its local port, after the local writes of the cycle through an
alias port. -/
def portStore (s : State) (a : Nat) (r : Region) (w : Nat) (v : Word) : State :=
  if aliasPort a r then { s with cyc := { s.cyc with viaBus := s.cyc.viaBus ++ [(w, v)] } } else memStore s w v

/-- R369: the alias writes of the cycle act. -/
def aliasWrites (s : State) : State :=
  let s1 := s.cyc.viaBus.foldl (fun s p => memStore s p.1 p.2) s
  { s1 with cyc := { s1.cyc with viaBus := [], old := [] } }

/-- The `n` bytes of a word from byte k, as a load gives them. -/
def loadValue (v : Word) (k n : Nat) (signed : Bool) : Word :=
  let x := v >>> (8 * k)
  if n = 1 then (if signed then (x.setWidth 8).signExtend 32 else (x.setWidth 8).setWidth 32)
  else if n = 2 then (if signed then (x.setWidth 16).signExtend 32 else (x.setWidth 16).setWidth 32)
  else v

/-- R370: a word with `n` bytes from byte k replaced. -/
def mergeValue (old v : Word) (k n : Nat) : Word :=
  let mask := BitVec.ofNat 32 ((2 ^ (8 * n) - 1) * 2 ^ (8 * k))
  (old &&& ~~~ mask) ||| ((v <<< (8 * k)) &&& mask)

/-! ### Loads -/

/-- What an access of an engine comes to: it is done with a value, it has raised its exception, or it waits. -/
inductive Access where
  | done (v : Word) (s : State)
  | trapped (s : State)
  | waits (s : State)
  deriving DecidableEq, Repr

/-- R445: what an object access comes to for the engine that made it. -/
def objectOutcome (before s : State) : Access :=
  match s.resp with
  | some r =>
    if r.result.faults then .trapped { s with resp := before.resp } else .done r.value { s with resp := before.resp }
  | none => .trapped s

/-- R390: a read of a word of a queue port. -/
def portRead (s : State) (e : Fin 16) (user : Bool) (q off : Nat) (a : Word) : Access :=
  let g := s.eng e.val
  match off with
  | 0 =>
    if popTaken s q then .waits (waitTarget s e.val (popPlace q))
    else
      let (v, s1) := queuePop s q
      .done (lo32 (v.getD 0)) (notePop s1 (.engine e user) v)
  | 4 => .done g.xtqhi s
  | 8 => .done (BitVec.ofNat 32 (queueLevel s q)) s
  | 12 => .done (g.xtqst &&& 3) s
  | _ => .trapped (raiseException s e.val causeLoadFault a)

/-- R371 to R373: a load of `n` bytes from memory. -/
def memRead (s : State) (e : Nat) (a : Word) (n : Nat) (signed : Bool) (r : Region) (w : Nat) : Access :=
  if regionOn s r = false then .trapped (raiseException s e causeLoadFault a)
  else
    let (s1, ok) := eccRead s r w
    if ok then .done (loadValue (portWord s a.toNat r (w / 4 * 4)) (a.toNat % 4) n signed) s1
    else
      let s2 := if r = .itcm e ∨ r = .dtcm e then s1.modEng e (fun g => { g with faultDue := true }) else s1
      .trapped (raiseException s2 e causeLoadFault a)

/-- R351, R356, R357, R365, R368: a load of `n` bytes at address a by engine e, its target granted. -/
def loadAt (s : State) (e : Fin 16) (a : Word) (n : Nat) (signed : Bool) : Access :=
  let g := s.eng e.val
  let user := g.accessUser
  let k := a.toNat
  if 0x40000000 ≤ k ∧ k < 0x44000000 then
    objectOutcome s (readObject s { master := .engine e user, len := n } ((k - 0x40000000) / 0x400) ((k - 0x40000000) % 0x400 / 4))
  else if 0x50000000 ≤ k ∧ k < 0x50002000 ∧ n = 4 then portRead s e user ((k - 0x50000000) / 0x100) (k % 0x100) a
  else if k = 0xE0000000 ∧ n = 4 ∧ user = false then .done (lo32 g.mtimecmp) s
  else if k = 0xE0000004 ∧ n = 4 ∧ user = false then .done (hi32 g.mtimecmp) s
  else
    match regionOf e.val k with
    | some (r, w) => memRead s e.val a n signed r w
    | none => .trapped (raiseException s e.val causeLoadFault a)

/-- Whether an access of `n` bytes of a kind at address a is refused before it reaches its target: the exception of R351,
then that of R365. -/
def accessFault (g : Engine) (kind : PmpKind) (a : Word) (n misaligned fault : Nat) : Option Nat :=
  if a.toNat % n ≠ 0 then some misaligned
  else if pmpPasses g g.accessUser kind a.toNat n = false then some fault
  else none

/-- R33: an access that needs a target waits while it is granted to another engine in the cycle. -/
def withTarget (s : State) (e : Nat) (a : Word) (f : State → Access) : Access :=
  match busTarget e a.toNat with
  | some n => if targetBusy s e n then .waits (waitTarget s e n) else f (grantTarget s e n)
  | none => f s

/-- A load by engine e. -/
def rvLoad (s : State) (e : Fin 16) (a : Word) (n : Nat) (signed : Bool) : Access :=
  match accessFault (s.eng e.val) .load a n causeLoadMisaligned causeLoadFault with
  | some c => .trapped (raiseException s e.val c a)
  | none => withTarget s e.val a (fun s => loadAt s e a n signed)

/-! ### Stores -/

/-- R390: a write of a word of a queue port. -/
def portWrite (s : State) (e : Fin 16) (user : Bool) (q off : Nat) (a v : Word) : Access :=
  match off with
  | 0 => .done 0 (stageWord s (.engine e user) v)
  | 4 =>
    if pushTaken s q then .waits (waitTarget s e.val (pushPlace q))
    else
      let (ok, s1) := queuePush (takePush s q) q (dw (stagedWord s (.engine e user)) v) .master
      .done 0 (notePush s1 (.engine e user) ok)
  | _ => .trapped (raiseException s e.val causeStoreFault a)

/-- R370, R372: a store of `n` bytes to memory: a whole word, or a read of the word, a merge and a write. -/
def memWrite (s : State) (e : Nat) (a v : Word) (n : Nat) (r : Region) (w : Nat) : Access :=
  let w4 := w / 4 * 4
  if (regionOn s r && r.writable) = false then .trapped (raiseException s e causeStoreFault a)
  else if n = 4 then .done 0 (portStore s a.toNat r w4 v)
  else
    let (s1, ok) := eccRead s r w
    if ok then .done 0 (portStore s1 a.toNat r w4 (mergeValue (portWord s a.toNat r w4) v (a.toNat % 4) n))
    else .trapped (raiseException s1 e causeStoreFault a)

/-- R356, R357, R368: a store of `n` bytes at address a by engine e, its target granted. -/
def storeAt (s : State) (e : Fin 16) (a v : Word) (n : Nat) : Access :=
  let g := s.eng e.val
  let user := g.accessUser
  let k := a.toNat
  let cmp (f : DWord → DWord) : Access := .done 0 (s.modEng e.val (fun g => { g with mtimecmp := f g.mtimecmp }))
  if 0x40000000 ≤ k ∧ k < 0x44000000 then
    objectOutcome s (writeObject s { master := .engine e user, len := n, value := v } false
      ((k - 0x40000000) / 0x400) ((k - 0x40000000) % 0x400 / 4))
  else if 0x50000000 ≤ k ∧ k < 0x50002000 ∧ n = 4 then portWrite s e user ((k - 0x50000000) / 0x100) (k % 0x100) a v
  else if k = 0xE0000000 ∧ n = 4 ∧ user = false then cmp (fun d => dw v (hi32 d))
  else if k = 0xE0000004 ∧ n = 4 ∧ user = false then cmp (fun d => dw (lo32 d) v)
  else
    match regionOf e.val k with
    | some (r, w) => memWrite s e.val a v n r w
    | none => .trapped (raiseException s e.val causeStoreFault a)

/-- A store by engine e. -/
def rvStore (s : State) (e : Fin 16) (a v : Word) (n : Nat) : Access :=
  match accessFault (s.eng e.val) .store a n causeStoreMisaligned causeStoreFault with
  | some c => .trapped (raiseException s e.val c a)
  | none => withTarget s e.val a (fun s => storeAt s e a v n)

/-! ### Fetches -/

/-- R365, R367, R372, R373: 16 bits fetched at address a. -/
def fetchHalf (s : State) (e : Fin 16) (a : Word) : Access :=
  let g := s.eng e.val
  let fault (s : State) : Access := .trapped (raiseException s e.val causeFetchFault a)
  if pmpPasses g g.user .fetch a.toNat 2 = false then fault s
  else
    match fetchRegion e.val a.toNat with
    | none => fault s
    | some (r, w) =>
      if regionOn s r = false then fault s
      else
        let (s1, ok) := eccRead s r w
        if ok then .done ((s.seenWord (w / 4 * 4) >>> (8 * (w % 4))).setWidth 16 |>.setWidth 32) s1
        else fault (if r = .sram ∨ r = .rom then s1 else s1.modEng e.val (fun g => { g with faultDue := true }))

/-- The instruction at engine e's pc: its bits in a word, the low 16 alone for a 16-bit encoding. -/
def fetchInstr (s : State) (e : Fin 16) : Access :=
  let pc := (s.eng e.val).pc
  withTarget s e.val pc fun s =>
    match fetchHalf s e pc with
    | .done lo s1 =>
      if isWide lo.toNat then
        match fetchHalf s1 e (pc + 2) with
        | .done hi s2 => .done (lo ||| (hi <<< 16)) s2
        | o => o
      else .done lo s1
    | o => o

/-! ### CSRs -/

/-- R355: mstatus keeps MIE, MPIE, MPP, MPRV and TW; MPP takes user and machine mode alone. -/
def writeMstatus (g : Engine) (v : Word) : Engine :=
  let mpp := fieldN v.toNat 11 2
  let keep := v &&& 0x00221888
  { g with mstatus := if mpp = 0 ∨ mpp = 3 then keep else (keep &&& ~~~ 0x1800) ||| (g.mstatus &&& 0x1800) }

/-- R365: a PMP configuration byte written; a locked entry keeps its own, and W without R is not kept. -/
def writePmpcfg (g : Engine) (n : Nat) (b : Byte) : Engine :=
  if (g.pmpcfg.getD n 0).getLsbD 7 then g
  else
    let b := b &&& 0x9F
    { g with pmpcfg := modAt g.pmpcfg n (fun _ => if b.getLsbD 0 then b else b &&& 0xFD) }

/-- R365: a PMP address written, unless its entry is locked or bounds a locked TOR entry. -/
def writePmpaddr (g : Engine) (n : Nat) (v : Word) : Engine :=
  let next := (g.pmpcfg.getD (n + 1) 0).toNat
  if (g.pmpcfg.getD n 0).getLsbD 7 = true ∨ (bitN next 7 = true ∧ fieldN next 3 2 = 1) then g
  else { g with pmpaddr := modAt g.pmpaddr n (fun _ => v) }

/-- R355, R356, R406: mip: MEIP, MTIP and XTAIP; MSIP is hardwired to 0. -/
def mipWord (s : State) (e : Nat) : Word :=
  BitVec.ofNat 32 ((if meip s e then 2048 else 0) + (if mtip s e then 128 else 0) + (if xtaip s e then 65536 else 0))

/-- The word of four PMP configuration bytes. -/
def pmpcfgWord (g : Engine) (k : Nat) : Word :=
  let b := fun n => g.pmpcfg.getD (4 * k + n) 0
  bytesWord (b 0) (b 1) (b 2) (b 3)

/-- R355, R382: what CSR `n` of engine e reads as, none where it is not implemented. -/
def csrRead (s : State) (e n : Nat) : Option Word :=
  let g := s.eng e
  let now : DWord := s.now
  match n with
  | 0x300 => some g.mstatus
  | 0x301 => some 0x40101105
  | 0x304 => some g.mie
  | 0x305 => some g.mtvec
  | 0x306 => some g.mcounteren
  | 0x30A => some g.menvcfg
  | 0x310 => some 0
  | 0x31A => some 0
  | 0x320 => some g.inhibit
  | 0x340 => some g.mscratch
  | 0x341 => some g.mepc
  | 0x342 => some g.mcause
  | 0x343 => some g.mtval
  | 0x344 => some (mipWord s e)
  | 0x7A0 => some (BitVec.ofNat 32 g.tselect)
  | 0x7A1 => some (g.tdata1.getD g.tselect 0)
  | 0x7A2 => some (g.tdata2.getD g.tselect 0)
  | 0x7A4 => some 4
  | 0x7B0 => if g.halted then some g.dcsr else none
  | 0x7B1 => if g.halted then some g.dpc else none
  | 0x7C0 => some g.xtqhi
  | 0x7C1 => some g.xtqst
  | 0xB00 => some (lo32 g.mcycle)
  | 0xB02 => some (lo32 g.minstret)
  | 0xB80 => some (hi32 g.mcycle)
  | 0xB82 => some (hi32 g.minstret)
  | 0xC00 => some (lo32 g.mcycle)
  | 0xC01 => some (lo32 now)
  | 0xC02 => some (lo32 g.minstret)
  | 0xC80 => some (hi32 g.mcycle)
  | 0xC81 => some (hi32 now)
  | 0xC82 => some (hi32 g.minstret)
  | 0xF11 => some 0
  | 0xF12 => some 0
  | 0xF13 => some 0
  | 0xF14 => some (BitVec.ofNat 32 e)
  | 0xF15 => some 0
  | 0xFC0 => some (BitVec.ofNat 32 (e / 8 * 16 + e))
  | 0xFC1 => some g.xttask
  | n =>
    if 0x3A0 ≤ n ∧ n ≤ 0x3A3 then some (pmpcfgWord g (n - 0x3A0))
    else if 0x3B0 ≤ n ∧ n ≤ 0x3BF then some (g.pmpaddr.getD (n - 0x3B0) 0)
    else if (0x323 ≤ n ∧ n ≤ 0x33F) ∨ (0xB03 ≤ n ∧ n ≤ 0xB1F) ∨ (0xB83 ≤ n ∧ n ≤ 0xB9F) ∨
        (0xC03 ≤ n ∧ n ≤ 0xC1F) ∨ (0xC83 ≤ n ∧ n ≤ 0xC9F) then some 0
    else none

/-- R382: tdata1 of an address trigger: type 2, with action, mode, match on equality and the access kinds. -/
def triggerWord (v : Word) : Word := (v &&& 0x0800104F) ||| 0x20000000

/-- R355, R382: CSR `n` written; a CSR whose bits are all read-only keeps its value. -/
def csrWrite (g : Engine) (n : Nat) (v : Word) : Engine :=
  match n with
  | 0x300 => writeMstatus g v
  | 0x304 => { g with mie := v &&& 0x00010888 }
  | 0x305 => { g with mtvec := v &&& 0xFFFFFFFD }
  | 0x306 => { g with mcounteren := v &&& 7 }
  | 0x30A => { g with menvcfg := v &&& 1 }
  | 0x320 => { g with inhibit := v &&& 5 }
  | 0x340 => { g with mscratch := v }
  | 0x341 => { g with mepc := v &&& 0xFFFFFFFE }
  | 0x342 => { g with mcause := v }
  | 0x343 => { g with mtval := v }
  | 0x7A0 => { g with tselect := v.toNat % 4 }
  | 0x7A1 => if (g.tdata1.getD g.tselect 0).getLsbD 27 = true ∧ g.halted = false then g
      else { g with tdata1 := modAt g.tdata1 g.tselect (fun _ => triggerWord (if g.halted then v else v &&& 0xF7FFFFFF)) }
  | 0x7A2 => if (g.tdata1.getD g.tselect 0).getLsbD 27 = true ∧ g.halted = false then g
      else { g with tdata2 := modAt g.tdata2 g.tselect (fun _ => v) }
  | 0x7B0 => { g with dcsr := ((v &&& 0x00009207) ||| (g.dcsr &&& 0x400001C0)) }
  | 0x7B1 => { g with dpc := v &&& 0xFFFFFFFE }
  | 0x7C0 => { g with xtqhi := v }
  | 0x7C1 => { g with xtqst := v &&& 3 }
  | 0xB00 => { g with mcycle := dw v (hi32 g.mcycle) }
  | 0xB02 => { g with minstret := dw v (hi32 g.minstret) }
  | 0xB80 => { g with mcycle := dw (lo32 g.mcycle) v }
  | 0xB82 => { g with minstret := dw (lo32 g.minstret) v }
  | n =>
    if 0x3A0 ≤ n ∧ n ≤ 0x3A3 then
      (List.range 4).foldl (fun g k => writePmpcfg g (4 * (n - 0x3A0) + k) (byteOf v k)) g
    else if 0x3B0 ≤ n ∧ n ≤ 0x3BF then writePmpaddr g (n - 0x3B0) v
    else g

/-- R355: whether CSR `n` refuses a write: its number is a read-only one, or it is misa. -/
def csrReadOnly (n : Nat) : Bool := fieldN n 10 2 == 3 || n == 0x301

/-- R355: whether an engine may reach CSR `n`: in user mode the user CSRs that mcounteren opens. -/
def csrReach (g : Engine) (n : Nat) : Bool :=
  if g.user then
    fieldN n 8 2 == 0 && ((n != 0xC00 && n != 0xC80) || g.mcounteren.getLsbD 0) &&
      ((n != 0xC01 && n != 0xC81) || g.mcounteren.getLsbD 1) && ((n != 0xC02 && n != 0xC82) || g.mcounteren.getLsbD 2) &&
      !(decide (0xC03 ≤ n) && decide (n ≤ 0xC1F)) && !(decide (0xC83 ≤ n) && decide (n ≤ 0xC9F))
  else true

end Sys2Proof.Machine
end

