-- ==== Sys2Proof/Machine/RvExec.lean ====
section
/-! DEFINITION. What an engine does in a fabric cycle by itself: it takes an interrupt, ends a wait, or fetches, decodes and
executes the instruction at its pc (R349 to R367), with the debug triggers and single step (R382). -/
namespace Sys2Proof.Machine

/-- The state that a command leaves. -/
def outState (o : Out) (s : State) : State :=
  match o with
  | .next t => t
  | _ => s

/-- What an instruction leaves: the state, the cycles until the next one issues (R354), and whether it completed. -/
structure RvDone where
  s : State
  cycles : Nat := 1
  ok : Bool := true

/-- A register number as an operand. -/
def regNo (n : Nat) : Fin 32 := ⟨n % 32, Nat.mod_lt _ (by decide)⟩

/-- An instruction of `len` bytes writes a register and completes. -/
def rvWrite (s : State) (e : Nat) (rd : Nat) (v : Word) (len : Nat) : State :=
  s.modEng e (fun g => (g.setReg rd v).retireBy (BitVec.ofNat 32 len))

/-- An instruction completes with the pc at a target, 2 cycles (R354). -/
def rvJump (s : State) (e : Nat) (target : Word) : RvDone :=
  { s := s.modEng e (fun g => { g.count with pc := target }), cycles := 2 }

/-- An exception of an instruction. -/
def rvTrap (s : State) : RvDone := { s := s, ok := false }

/-- R354: the cycles of a load from an address: 2 from an own TCM, 4 from elsewhere. -/
def loadCycles (e a : Nat) : Nat := if (busTarget e a).isSome then 4 else 2

/-- An access whose value goes to a register. -/
def rvAccess (r : Access) (e rd len cycles : Nat) : RvDone :=
  match r with
  | .done v s => { s := rvWrite s e rd v len, cycles := cycles }
  | .trapped s => rvTrap s
  | .waits s => rvTrap s

/-- Whether the operation is a division, of 2 to 34 cycles (R354). -/
def AluOp.divides : AluOp → Bool
  | .div => true
  | .divu => true
  | .rem => true
  | .remu => true
  | _ => false

/-- R354: an operation between two values; how many of its 2 to 34 cycles a division takes is open. -/
def rvAlu (s : State) (e : Nat) (op : AluOp) (rd : Nat) (a b : Word) (len : Nat) : RvDone :=
  if op.divides then
    let (v, s1) := s.freshWord
    { s := rvWrite s1 e rd (aluValue op a b) len, cycles := 2 + v.toNat % 33 }
  else { s := rvWrite s e rd (aluValue op a b) len }

/-- R349, R355: a CSR instruction: it writes unless it is a set or clear with source 0. -/
def rvCsr (s : State) (e : Nat) (op : CsrOp) (imm : Bool) (rd rs1 num len : Nat) : RvDone :=
  let g := s.eng e
  let v := if imm then BitVec.ofNat 32 rs1 else g.reg rs1
  let writes := op == .write || rs1 != 0
  match csrRead s e num with
  | none => rvTrap (illegal s e)
  | some old =>
    if csrReach g num = false ∨ (writes = true ∧ csrReadOnly num = true) then rvTrap (illegal s e)
    else
      { s := s.modEng e (fun g =>
          ((if writes then csrWrite g num (csrValue op old v) else g).setReg rd old).retireBy (BitVec.ofNat 32 len)) }

/-- MRET: the mode and MIE that the trap saved; an illegal instruction in user mode. -/
def rvMret (s : State) (e : Nat) : RvDone :=
  if (s.eng e).user then rvTrap (illegal s e)
  else
    { s := s.modEng e (fun g =>
        let ms := g.mstatus.toNat
        let mpp := fieldN ms 11 2
        let ms := setFieldN (setFieldN (setFieldN ms 3 1 (fieldN ms 7 1)) 7 1 1) 11 2 0
        let ms := if mpp = 3 then ms else setFieldN ms 17 1 0
        { g.count with pc := g.mepc, user := mpp != 3, mstatus := BitVec.ofNat 32 ms }), cycles := 2 }

/-- The cause of a breakpoint exception. -/
def causeBreakpoint : Nat := 3

/-- EBREAK: debug mode where dcsr asks for it, a breakpoint exception elsewhere. -/
def rvEbreak (s : State) (e : Nat) : RvDone :=
  let g := s.eng e
  if g.dcsr.getLsbD (if g.user then 12 else 15) = true ∧ masterLive s .debug = true then rvTrap (enterDebug s e 1)
  else rvTrap (raiseException s e causeBreakpoint g.pc)

/-- An instruction that has a command of its own executes as that command does. -/
def rvCommand (s : State) (e : Nat) (o : Out) (cycles : Nat) : RvDone :=
  let t := outState o s
  let ok := (t.eng e).pc == (s.eng e).pc + 4
  { s := t, cycles := if ok then cycles else 1, ok := ok }

/-- R387: a QPUSH or QPOP whose place in its queue is taken keeps its arrival. -/
def rvPlace (s : State) (e n : Nat) (taken : Bool) (d : RvDone) : RvDone :=
  if taken && !d.ok && (d.s.eng e).pc == (s.eng e).pc then { d with s := waitTarget d.s e n } else d

/-- An atomic operation at the address in rs1, once its target is granted. -/
def rvAtomic (s : State) (e : Fin 16) (rs1 : Nat) (f : State → Out) : RvDone :=
  let a := (s.eng e.val).reg rs1
  match withTarget s e.val a (fun s => .done 0 s) with
  | .done _ s1 => rvCommand s1 e.val (f s1) (loadCycles e.val a.toNat)
  | .trapped s1 => rvTrap s1
  | .waits s1 => rvTrap s1

/-- R349 to R367: one instruction of `len` bytes of engine e. -/
def rvExec (s : State) (e : Fin 16) (op : RvOp) (len : Nat) : RvDone :=
  let g := s.eng e.val
  let next := g.pc + BitVec.ofNat 32 len
  match op with
  | .lui rd imm => { s := rvWrite s e rd imm len }
  | .auipc rd imm => { s := rvWrite s e rd (g.pc + imm) len }
  | .jal rd off => rvJump (s.modEng e (fun g => g.setReg rd next)) e (g.pc + off)
  | .jalr rd rs1 off => rvJump (s.modEng e (fun g => g.setReg rd next)) e ((g.reg rs1 + off) &&& 0xFFFFFFFE)
  | .branch c rs1 rs2 off =>
    if branchTaken c (g.reg rs1) (g.reg rs2) then rvJump s e (g.pc + off)
    else { s := s.modEng e (fun g => g.retireBy (BitVec.ofNat 32 len)) }
  | .load size signed rd rs1 off =>
    let a := g.reg rs1 + off
    rvAccess (rvLoad s e a size signed) e rd len (loadCycles e a.toNat)
  | .store size rs1 rs2 off => rvAccess (rvStore s e (g.reg rs1 + off) (g.reg rs2) size) e 0 len 1
  | .aluImm op rd rs1 imm => rvAlu s e op rd (g.reg rs1) imm len
  | .alu op rd rs1 rs2 => rvAlu s e op rd (g.reg rs1) (g.reg rs2) len
  | .unary op rd rs1 => { s := rvWrite s e rd (unaryValue op (g.reg rs1)) len }
  | .fence => { s := s.modEng e (fun g => g.retireBy (BitVec.ofNat 32 len)) }
  | .ecall => rvTrap (raiseException s e (if g.user then 8 else 11) 0)
  | .ebreak => rvEbreak s e
  | .mret => rvMret s e
  | .wfi => rvCommand s e (execWfi e s) 1
  | .csr op imm rd rs1 num => rvCsr s e op imm rd rs1 num len
  | .lr rd rs1 => rvAtomic s e rs1 (execLrW e (regNo rd) (regNo rs1))
  | .sc rd rs1 rs2 => rvAtomic s e rs1 (execScW e (regNo rd) (regNo rs1) (regNo rs2))
  | .amo op rd rs1 rs2 => rvAtomic s e rs1 (execAmo e op (regNo rd) (regNo rs1) (regNo rs2))
  | .tang rd rs1 => rvCommand s e (execTang e (regNo rd) (regNo rs1) s) 4
  | .treach rd rs1 rs2 => rvCommand s e (execTreach e (regNo rd) (regNo rs1) (regNo rs2) s) 2
  | .qmul rd rs1 rs2 => rvCommand s e (execQmul e (regNo rd) (regNo rs1) (regNo rs2) s) 2
  | .qpush q rs1 rs2 =>
    rvPlace s e (pushPlace (q % 32)) (pushTaken s (q % 32)) (rvCommand s e (execQpush e (regNo q) (regNo rs1) (regNo rs2) s) 2)
  | .qpop rd rs1 =>
    let q := (g.reg rs1).toNat % 32
    rvPlace s e (popPlace q) (popTaken s q) (rvCommand s e (execQpop e (regNo rd) (regNo rs1) s) 4)
  | .qwait rd rs1 rs2 => rvCommand s e (execQwait e (regNo rd) (regNo rs1) (regNo rs2) s) 1

/-! ### Triggers -/

/-- R382: the action of the first trigger that matches an access of a kind at address a: 1 debug mode, 0 a breakpoint
exception. -/
def triggerHit (g : Engine) (kind : PmpKind) (a : Word) : Option Nat :=
  let bit := match kind with
    | .fetch => 2
    | .store => 1
    | .load => 0
  match (List.range 4).find? (fun k =>
      (g.tdata1.getD k 0).getLsbD bit && (g.tdata1.getD k 0).getLsbD (if g.user then 3 else 6) && g.tdata2.getD k 0 == a) with
  | some k => some (if (g.tdata1.getD k 0).getLsbD 27 && (g.tdata1.getD k 0).getLsbD 12 then 1 else 0)
  | none => none

/-- The data accesses that an instruction makes: kind and address. -/
def dataAccesses (g : Engine) : RvOp → List (PmpKind × Word)
  | .load _ _ _ rs1 off => [(.load, g.reg rs1 + off)]
  | .store _ rs1 _ off => [(.store, g.reg rs1 + off)]
  | .lr _ rs1 => [(.load, g.reg rs1)]
  | .sc _ rs1 _ => [(.store, g.reg rs1)]
  | .amo _ _ rs1 _ => [(.load, g.reg rs1), (.store, g.reg rs1)]
  | _ => []

/-- R382: a trigger that matches an access acts before it. -/
def triggerAct (s : State) (e action : Nat) (a : Word) : State :=
  if action = 1 ∧ masterLive s .debug = true then enterDebug s e 2 else raiseException s e causeBreakpoint a

/-! ### One cycle -/

/-- The instruction in the bits of a fetch, and its length in bytes. -/
def decodeBits (w : Word) : Option RvOp × Nat :=
  if isWide w.toNat then (decodeWide w.toNat, 4) else (decodeNarrow w.toNat, 2)

/-- R350, R382: the instruction in fetched bits: a trigger, an illegal instruction, or its effect. -/
def rvIssue (s : State) (e : Fin 16) (w : Word) : RvDone :=
  let g := s.eng e.val
  match decodeBits w with
  | (none, _) => rvTrap (illegal s e)
  | (some op, len) =>
    match (dataAccesses g op).findSome? (fun p => (triggerHit g p.1 p.2).map (fun c => (c, p.2))) with
    | some (c, a) => rvTrap (triggerAct s e c a)
    | none => rvExec s e op len

/-- Engine e fetches and executes the instruction at its pc; single step halts it afterwards (R382). -/
def rvRun (s : State) (e : Fin 16) : State :=
  let g := s.eng e.val
  let d : RvDone := match triggerHit g .fetch g.pc with
    | some c => rvTrap (triggerAct s e c g.pc)
    | none =>
      match fetchInstr s e with
      | .done w s1 => rvIssue s1 e w
      | .trapped s1 => rvTrap s1
      | .waits s1 => rvTrap s1
  let s2 := d.s.modEng e (fun x => { x with readyAt := s.t + d.cycles })
  if g.dcsr.getLsbD 2 = true ∧ (s2.eng e.val).halted = false ∧ masterLive s .debug = true ∧ ((s2.eng e.val).pc ≠ g.pc ∨ d.ok) then
    enterDebug s2 e 4
  else s2

/-- Whether engine e's pc lies in the boot ROM, whose words the spec does not print. -/
def inRom (s : State) (e : Nat) : Bool :=
  decide (0x60000000 ≤ (s.eng e).pc.toNat) && decide ((s.eng e).pc.toNat < 0x60010000)

/-! ### The resident dispatcher -/

/-- R397, R798: the resident dispatcher's loop, at the default boot address. -/
def dispatcherLoop : Word := 0x60000000

/-- R407: where the resident dispatcher goes on after its call. The model's choice: the address lies in the boot ROM. -/
def dispatcherEnd : Word := 0x60000004

/-- R798: whether engine e is in the resident dispatcher; E0 is in start-up's own program until the state running. -/
def resident (s : State) (e : Nat) : Bool :=
  ((s.eng e).pc == dispatcherLoop || (s.eng e).pc == dispatcherEnd) && (e != 0 || s.nat 0x3800 1 == 5)

/-- R407: the resident dispatcher in a cycle: with XTAIE at 1 and MIE at 0 it waits for an activation, calls its entry with
the state address and the record, and after the return writes 1h to the end word. -/
def rvResident (s : State) (e : Fin 16) : State :=
  let g := s.eng e.val
  let d := 0x2790 + e.val
  if g.pc = dispatcherEnd then
    match rvStore s e (BitVec.ofNat 32 (0x40000000 + d * 0x400 + 5 * 4)) 1 4 with
    | .done _ s1 => s1.modEng e (fun g => { g with pc := dispatcherLoop, waited := none })
    | .trapped s1 => s1
    | .waits s1 => s1
  else if g.xttask.getLsbD 31 then
    s.modEng e (fun g =>
      { (((g.setReg 1 dispatcherEnd).setReg 10 (s.obj d 4)).setReg 11 (s.obj d 1)).setReg 12 (s.obj d 2) with pc := s.obj d 3 })
  else s.modEng e (fun g => { g with mie := g.mie ||| 0x10000, mstatus := g.mstatus &&& 0xFFFFFFF7, wait := .wfi })

/-- R360, R361, R389: a waiting engine in a cycle: what it waits for, its timeout, an interrupt. -/
def rvWait (s : State) (e : Fin 16) : State :=
  let s1 := outState (execQwaitWake e s) s
  let s2 := outState (execQwaitTimeout e s1) s1
  outState (execInterruptTrap e s2) s2

/-- R387, R389: an engine that waits in a QPOP keeps the cycle in which it arrived until its wait ends. -/
def popArrival (t : Nat) (s : State) (e : Nat) : State :=
  match (s.eng e).wait with
  | .qpop _ q => if (s.eng e).waited.isNone then s.modEng e (fun g => { g with waited := some (popPlace q, t) }) else s
  | _ => s

/-- Engine e in a fabric cycle: an engine fault that is due (R373, R378), a pending interrupt that it takes, the end of its
wait, or its next instruction; in the boot ROM, the resident dispatcher. -/
def rvEngine (s : State) (e : Fin 16) : State :=
  if s.on 2 = false ∨ (inRom s e.val && !resident s e.val) = true then s
  else if (s.eng e.val).faultDue then engineFault s e.val
  else
    match engineCode s e.val with
    | 1 =>
      if s.t < (s.eng e.val).readyAt then s
      else if (s.eng e.val).takesInterrupts && !(pendingInterrupts s e.val).isEmpty then outState (execInterruptTrap e s) s
      else if resident s e.val then rvResident s e
      else popArrival s.t (rvRun s e) e.val
    | 2 => popArrival s.t (rvWait s e) e.val
    | _ => s

/-- R387: the cycle in which an access to a queue that engine e makes in the present cycle arrived; none where it makes none. -/
def queueArrival (s : State) (e : Fin 16) : Option Nat :=
  let g := s.eng e.val
  let arrived := some (match g.waited with
    | some (_, a) => a
    | none => s.t)
  let inPort (a : Word) : Bool := decide (0x50000000 ≤ a.toNat) && decide (a.toNat < 0x50002000)
  if inRom s e.val || !s.on 2 then none
  else
    match engineCode s e.val, g.wait with
    | 2, .qpop _ _ => arrived
    | 1, _ =>
      if s.t < g.readyAt then none
      else
        match fetchInstr s e with
        | .done w _ =>
          match decodeBits w with
          | (some (.qpush _ _ _), _) => arrived
          | (some (.qpop _ _), _) => arrived
          | (some op, _) => if (dataAccesses g op).any (fun p => inPort p.2) then arrived else none
          | (none, _) => none
        | _ => none
    | _, _ => none

/-- Inserted by arrival, behind those that arrived in the same cycle. -/
def insertArrival (x : Nat × Fin 16) : List (Nat × Fin 16) → List (Nat × Fin 16)
  | [] => [x]
  | y :: r => if x.1 < y.1 then x :: y :: r else y :: insertArrival x r

/-- The engines in `xs` whose place holds a member of `ys` take the members of `ys` in their order. -/
def reseat (all : List (Fin 16)) : List (Fin 16) → List (Fin 16) → List (Fin 16)
  | [], _ => []
  | x :: xs, [] => x :: reseat all xs []
  | x :: xs, y :: ys => if all.contains x then y :: reseat all xs ys else x :: reseat all xs (y :: ys)

/-- The engines in the order in which they are served in a cycle: round robin at the interconnect (R33), and at the queues
those that arrived first, of one cycle in ascending order (R387). -/
def serveOrder (s : State) : List (Fin 16) :=
  let turn (k : Nat) : Fin 16 := ⟨k % 16, Nat.mod_lt _ (by decide)⟩
  let waiting := (List.range 16).filterMap (fun e => (queueArrival s (turn e)).map (fun a => (a, turn e)))
  let queue := (waiting.foldl (fun l x => insertArrival x l) []).map (fun p => p.2)
  reseat queue ((List.range 16).map (fun k => turn (s.t + k))) queue

/-- R33, R369: every engine in a fabric cycle; alias writes act after the local ones. -/
def enginesRun (s : State) : State :=
  let s1 := { s with cyc := { s.cyc with old := s.mem } }
  aliasWrites ((serveOrder s).foldl rvEngine s1)

end Sys2Proof.Machine
end

