-- ==== Sys2Proof/Machine/Debug.lean ====
section
/-! DEFINITION. The debug module (R32, R382, R383): its system bus, the abstract commands on a halted engine and the program
buffer. -/
namespace Sys2Proof.Machine

/-- The answer to a system bus access that reached no target. -/
def busRefused (s : State) : State := { s with resp := some { result := .noObject, value := 0 } }

/-- R387, R390: the debug module at a queue port; an access whose place is taken waits and has no answer yet. -/
def debugPort (s : State) (q off : Nat) (write : Bool) (v : Word) : State :=
  match off, write with
  | 0, false =>
    if popTaken s q then s
    else
      let (d, s1) := queuePop s q
      (notePop s1 .debug d).answer (lo32 (d.getD 0)) (hi32 (d.getD 0))
  | 4, false => s.answer (s.ports.getD 1 {}).held 0
  | 8, false => s.answer (BitVec.ofNat 32 (queueLevel s q)) 0
  | 12, false =>
    let p := s.ports.getD 1 {}
    s.answer (BitVec.ofNat 32 ((if p.reject then 2 else 0) + (if p.empty then 1 else 0))) 0
  | 0, true => stageWord s .debug v
  | 4, true =>
    if pushTaken s q then s
    else
      let (ok, s1) := queuePush (takePush s q) q (dw (stagedWord s .debug) v) .master
      notePush s1 .debug ok
  | _, _ => busRefused s

/-- R32, R356: the compare register of the selected engine, while it is halted. -/
def debugPrivate (s : State) (a : Nat) (write : Bool) (v : Word) : State :=
  let e := s.dbg.hart
  let d := (s.eng e).mtimecmp
  if engineCode s e ≠ 3 then busRefused s
  else if write then
    (s.modEng e (fun g => { g with mtimecmp := if a = 0xE0000000 then dw v (hi32 d) else dw (lo32 d) v })).answer 0 0
  else s.answer (if a = 0xE0000000 then lo32 d else hi32 d) 0

/-- R32, R368, R382: the debug module's access to the address map. -/
def debugBus (s : State) (a : Nat) (write : Bool) (v : Word) : State :=
  if a % 4 ≠ 0 then busRefused s
  else if 0x40000000 ≤ a ∧ a < 0x44000000 then
    let i := (a - 0x40000000) / 0x400
    let j := (a - 0x40000000) % 0x400 / 4
    if write then writeObject s { master := .debug, len := 4, value := v } false i j
    else readObject s { master := .debug, len := 4 } i j
  else if 0x50000000 ≤ a ∧ a < 0x50002000 then debugPort s ((a - 0x50000000) / 0x100) ((a - 0x50000000) % 0x100) write v
  else if a = 0xE0000000 ∨ a = 0xE0000004 then debugPrivate s a write v
  else if write then
    let (s1, ok) := busWrite s a v
    if ok then s1.answer 0 0 else busRefused s1
  else
    match busRead s a with
    | (s1, some d) => s1.answer d 0
    | (s1, none) => busRefused s1

/-- The answer that stood before. -/
def State.dropResp (s old : State) : State := { s with resp := old.resp }

/-- The debug module changed. -/
def State.modDbg (s : State) (f : DebugModule → DebugModule) : State := { s with dbg := f s.dbg }

/-- A system bus access, with the address and the data that it leaves. -/
def systemBus (s : State) (a : Word) (write : Bool) (v : Word) : State :=
  let s1 := debugBus (s.modDbg (fun d => { d with sbaddress := a })) a.toNat write v
  let data := if write then v else (s1.resp.map (·.value)).getD 0
  s1.modDbg (fun d => { d with sbdata := data })

/-! ### Abstract commands -/

/-- An abstract command ends with an error: 3 an exception or a register that is not there, 4 a hart that is not halted. -/
def cmdError (s : State) (c : Nat) : State := s.modDbg (fun d => { d with cmderr := c })

/-- A data register written by an abstract command. -/
def setData (s : State) (n : Nat) (v : Word) : State := s.modDbg (fun d => { d with data := modAt d.data n (fun _ => v) })

/-- A register of halted engine e by its abstract number: the CSRs from 0, x0 to x31 from 1000h. -/
def debugRegister (s : State) (e num : Nat) : Option Word :=
  if num < 0x1000 then csrRead s e num
  else if num < 0x1020 then some ((s.eng e).reg (num - 0x1000))
  else none

/-- A register of halted engine e written; none where it is read-only. -/
def debugSetRegister (s : State) (e num : Nat) (v : Word) : Option State :=
  if num < 0x1000 then (if csrReadOnly num then none else some (s.modEng e (fun g => csrWrite g num v)))
  else some (s.modEng e (fun g => g.setReg (num - 0x1000) v))

/-- The transfer of an abstract register access. -/
def registerTransfer (s : State) (e num : Nat) (write : Bool) : State :=
  match debugRegister s e num with
  | none => cmdError s 3
  | some v =>
    if write then (debugSetRegister s e num (s.dbg.data.getD 0 0)).getD (cmdError s 3) else setData s 0 v

/-- The instruction bits of the program buffer from byte k. -/
def progBits (s : State) (k : Nat) : Word :=
  let b := s.dbg.progbuf.flatMap wordBytes
  bytesWord (b.getD k 0) (b.getD (k + 1) 0) (b.getD (k + 2) 0) (b.getD (k + 3) 0)

/-- One instruction of the program buffer on halted engine e: it runs in machine mode with the pc kept; an exception leaves
the engine as it was and ends the command with error 3. -/
def progStep (s : State) (e : Fin 16) (op : RvOp) (len : Nat) : State × Bool :=
  let g := s.eng e.val
  let d := rvExec (s.modEng e (fun x => { x with halted := false, user := false })) e op len
  if d.ok ∧ (d.s.eng e.val).pc = g.pc + BitVec.ofNat 32 len then
    (d.s.modEng e (fun x => { x with halted := true, pc := g.pc, user := g.user, wait := .none }), true)
  else (cmdError (d.s.modEng e (fun _ => g)) 3, false)

/-- The program buffer from byte k: it ends at EBREAK or at its end. -/
def progRun : Nat → State → Fin 16 → Nat → State
  | 0, s, _, _ => s
  | n + 1, s, e, k =>
    if 8 ≤ k then s
    else
      match decodeBits (progBits s k) with
      | (some .ebreak, _) => s
      | (some op, len) =>
        match progStep s e op len with
        | (t, true) => progRun n t e (k + len)
        | (t, false) => t
      | (none, _) => cmdError s 3

/-- R382: the abstract register access. -/
def abstractRegister (s : State) (e : Fin 16) (num : Nat) (transfer write postexec : Bool) : State :=
  let s1 := if transfer then registerTransfer s e num write else s
  if postexec = true ∧ s1.dbg.cmderr = 0 then progRun 4 s1 e 0 else s1

/-- R368: the global address of an address of engine e. -/
def globalAddr (e a : Nat) : Nat :=
  match regionOf e a with
  | some (_, w) => w
  | none => a

/-- R382: the abstract memory access of `n` bytes of engine e at the address in data register 1; a part of a word is read,
merged and written as a word (R370). -/
def abstractMemory (s : State) (e : Nat) (n : Nat) (write increment : Bool) : State :=
  let a := (s.dbg.data.getD 1 0).toNat
  let k := a % 4
  let w := globalAddr e (a - k)
  let read := debugBus { s with resp := none } w false 0
  let old := (read.resp.map (·.value)).getD 0
  let plain := (busRegion w).isSome
  let done (t : State) : State := (if increment then setData t 1 (BitVec.ofNat 32 (a + n)) else t).dropResp s
  if a % n ≠ 0 ∨ (n ≠ 4 ∧ plain = false) then cmdError s 3
  else if write = false then
    (if (read.resp.map (·.result)) = some .accepted then done (setData read 0 (loadValue old k n false)) else cmdError (read.dropResp s) 3)
  else
    let base := if n = 4 then { s with resp := none } else { read with resp := none }
    let t := debugBus base w true (if n = 4 then s.dbg.data.getD 0 0 else mergeValue old (s.dbg.data.getD 0 0) k n)
    let ok := (t.resp.map (·.result)).getD .accepted = .accepted ∧ (n = 4 ∨ (read.resp.map (·.result)) = some .accepted)
    if ok then done t else cmdError (t.dropResp s) 3

/-- R382: an abstract command on the selected hart, once it is halted and no earlier error stands. -/
def abstractCommand (s : State) (f : Fin 16 → State) : State :=
  let e : Fin 16 := ⟨s.dbg.hart % 16, Nat.mod_lt _ (by decide)⟩
  if s.dbg.cmderr ≠ 0 then s
  else if engineCode s e.val ≠ 3 then cmdError s 4
  else f e

/-- What the debug module does. -/
def debugDo (s : State) (op : DebugOp) : State :=
  match op with
  | .select e => s.modDbg (fun d => { d with hart := e.val })
  | .bus a write v => systemBus s a write v
  | .data n v => setData s n.val v
  | .progbuf n v => s.modDbg (fun d => { d with progbuf := modAt d.progbuf n.val (fun _ => v) })
  | .register num transfer write postexec =>
    abstractCommand s (fun e => abstractRegister s e num.toNat transfer write postexec)
  | .memory size write increment => abstractCommand s (fun e => abstractMemory s e.val (2 ^ size.val) write increment)
  | .clearError => cmdError s 0
  | .haltOnReset on => s.modDbg (fun d => { d with
      resetHalt := if on then d.hart :: d.resetHalt.filter (· != d.hart) else d.resetHalt.filter (· != d.hart) })

/-- DEBUG_SYSTEM_BUS_ACCESS, R382: what the debug module is asked to do. -/
def execDebugSystemBusAccess (op : DebugOp) (s : State) : Out := when (masterLive s .debug) s (debugDo s op)

end Sys2Proof.Machine
end

