-- ==== Sys2Proof/Machine/Pads.lean ====
section
/-! DEFINITION. The output pads (R66 to R74): the domain and pad supply of each, its reset state, and what it drives. -/
namespace Sys2Proof.Machine

/-- The pads that the device drives or may drive (R66), but the analogue ones. -/
inductive Pad where
  | gh (p : Fin 48)
  | gl (p : Fin 48)
  | sck (k : Fin 8)
  | synco
  | canTx (n : Fin 2)
  | canStb (n : Fin 2)
  | scl (n : Fin 2)
  | sda (n : Fin 2)
  | qspiClk (b : Fin 2)
  | qspiCs (b : Fin 2)
  | qspiIo (b : Fin 2) (n : Fin 4)
  | seqen (j : Fin 16)
  | fltline
  | rdyline
  | harbour
  | batsw
  | gpio (n : Fin 16)
  | tdo
  | gdsA (g : Fin 2)
  | gdsB (g : Fin 2)
  deriving DecidableEq, Repr

/-- The supplies that pads run from (R67), but VDDA and Bedrock's, which no pad of `Pad` uses. -/
inductive PadSupply where
  | vddio
  | aon
  | gdsvs
  deriving DecidableEq, Repr

/-- R66: the pad supply. -/
def Pad.supply : Pad → PadSupply
  | .harbour => .aon
  | .batsw => .aon
  | .gdsA _ => .gdsvs
  | .gdsB _ => .gdsvs
  | _ => .vddio

/-- R66: the owning domain. -/
def Pad.domain : Pad → Nat
  | .gh _ => 5
  | .gl _ => 5
  | .sck _ => 5
  | .synco => 5
  | .canTx _ => 7
  | .canStb _ => 7
  | .scl _ => 7
  | .sda _ => 7
  | .qspiClk _ => 7
  | .qspiCs _ => 7
  | .qspiIo _ _ => 7
  | .seqen _ => 2
  | .fltline => 2
  | .rdyline => 2
  | .harbour => 2
  | .batsw => 1
  | .gpio _ => 6
  | .tdo => 2
  | .gdsA _ => 6
  | .gdsB _ => 6

/-- R66: the level driven in the reset state, none for an input, a released or a high-impedance pad. BATSW's is the 0 of
R74's resets. -/
def Pad.resetLevel : Pad → Option Bool
  | .canTx _ => some true
  | .canStb _ => some true
  | .qspiCs _ => some true
  | .scl _ => none
  | .sda _ => none
  | .qspiIo _ _ => none
  | .fltline => none
  | .gpio _ => none
  | .tdo => none
  | _ => some false

/-- R70: the pads with a passive pull-down, which holds the ball low whenever the pad does not drive it. -/
def Pad.pulledDown : Pad → Bool
  | .gh _ => true
  | .gl _ => true
  | .seqen _ => true
  | .harbour => true
  | .batsw => true
  | _ => false

/-- R67: whether the pad's supply is valid: VDDIO above its supervisor threshold, AON while D1 is present; GDSVS is the
board's, and a driver whose supply fails has stopped (R565). -/
def padPowered (s : State) (p : Pad) : Bool :=
  match p.supply with
  | .vddio => !s.sup.vddioLow
  | .aon => !s.rtc.away
  | .gdsvs => true

/-- A level that depends on what travels on a bus at this moment, which no row tells: free. -/
def busLevel (s : State) : Bool := (Config.freeWord s.free).getLsbD 0

/-- R472, R479: the level on CANn_TX: recessive unless the channel takes part in the bus and its clock runs, where the
frames on the bus decide. -/
def canTxLevel (s : State) (n : Nat) : Bool :=
  if (canState s n == 2 || canState s n == 3 || canState s n == 5) && clockState s != 0 then busLevel s else true

/-- R475, R477: CANn_STB is low while the channel is enabled or stops. -/
def canStbLevel (s : State) (n : Nat) : Bool := canState s n == 0

/-- R512, R527, R531: what port n drives on SCL: low while it stretches or pulses, released while it takes no part in a transfer. -/
def sclDrives (s : State) (n : Nat) : Option Bool :=
  if (s.port n).waiting = true ∨ s.t < (s.port n).pulse then some false
  else if twbState s n = 3 ∨ twbState s n = 4 then (if busLevel s then none else some false)
  else none

/-- R514, R528, R531: what port n drives on SDA: released while it takes no part in a transfer. -/
def sdaDrives (s : State) (n : Nat) : Option Bool :=
  if 2 ≤ twbState s n ∧ twbState s n ≠ 5 then (if busLevel s then none else some false) else none

/-- What the pad drives of its own once its block is in use, none where it is released or an input. The flash devices are
idle between commands, and no row runs the test access port. -/
def padOwn (s : State) : Pad → Option Bool
  | .gh p => some (gateHigh s p.val)
  | .gl p => some (gateLow s p.val)
  | .sck k => some (sckLevel s k.val)
  | .synco => some (syncoLevel s)
  | .canTx n => some (canTxLevel s n.val)
  | .canStb n => some (canStbLevel s n.val)
  | .scl n => sclDrives s n.val
  | .sda n => sdaDrives s n.val
  | .qspiClk _ => some false
  | .qspiCs _ => some true
  | .qspiIo _ _ => none
  | .seqen j => some (seqEnable s j.val)
  | .fltline => if s.seq.pulling.isSome then some false else none
  | .rdyline => if s.seq.released.isSome then none else some false
  | .harbour => some (!inHarbour s)
  | .batsw => some s.aon.batsw
  | .gpio n => gpioDrives s n.val
  | .tdo => none
  | .gdsA g => some (gdsEnds s g.val).1
  | .gdsB g => some (gdsEnds s g.val).2

/-- R66, R68, R72, R74: what the device drives on a pad: nothing without the pad's supply, its reset state while the owning
domain is not ON, its own level otherwise. BATSW holds its latch's level. -/
def padDrive (s : State) (p : Pad) : Option Bool :=
  if padPowered s p = false then none
  else if p = .batsw then padOwn s p
  else if s.on p.domain = false then p.resetLevel
  else padOwn s p

/-- R70: the level of a ball that nothing on the board drives: the pad's, or its passive pull-down's; none where the
board's own parts decide. -/
def ballLevel (s : State) (p : Pad) : Option Bool :=
  match padDrive s p with
  | some b => some b
  | none => if p.pulledDown then some false else none

/-- R66: the voltage on HKREFk in mV: 3000 while D6 is ON, discharged otherwise. -/
def hkRefMillivolts (s : State) : Nat := if s.on 6 && !s.sup.vddaLow then 3000 else 0

end Sys2Proof.Machine
end

