-- ==== Sys2Proof/Machine/Ticks.lean ====
section
/-! DEFINITION. The millisecond tick (R93) and what one fabric cycle does while no command waits (R92). -/
namespace Sys2Proof.Machine

/-- Whether the present cycle is a tick that has not been taken. -/
def tickDue (s : State) : Bool := decide (s.t % 200000 = 0) && s.clk.lastTick != some s.t

/-- R93: what a tick does: glides and encoder scores (R103, R118), sense error scores (R167), held loads (R280), exception
scores (R378), glitch scores (R575), what was
written to the charger's objects since the last (R618), and the charger's step (R596). -/
def millisecondTick (s : State) : State :=
  let s1 := senseTick (tideTick { s with clk := { s.clk with lastTick := some s.t } })
  let s2 := (List.range 12).foldl railTick s1
  settleAll (chargeTick (chargeArrive (seqTick (if s.on 2 then engineTick s2 else s2))))

/-- MILLISECOND_TICK, R93: fabric time is a multiple of 200 000. -/
def execMillisecondTick (s : State) : Out := when (tickDue s) s (millisecondTick s)

/-- R797: the cycles of start-up's real time that pass in clock state 0h. -/
def countSlow (s : State) : State :=
  if clockState s = 0 then { s with startup := { s.startup with slow := s.startup.slow + 1 } } else s

/-- Fabric time adds one (R92), and real time a cycle of the clock in use (R82); the events of the cycle that ends stand. -/
def advance (s : State) : State := { s with now := s.now + 1, real := s.real + cycleReal s, cyc := {} }

/-- What the phases and rails do in a new fabric cycle whatever is commanded: the effects of the last cycle's writes, the
trip comparisons, and what the rules of rails, power path and switch call for. -/
def powerCycle (s : State) : State := if s.on 5 then settleAll (phasesBegin (railsBegin s)) else s

/-- R148, R704, R817: as a cycle ends, the mark unit and the collector hand over a request each, and the network grants one
post, unless commands have told so. -/
def postsEnd (s : State) : State :=
  let s1 := if s.on 5 && !s.cyc.markHanded then handMark s else s
  let s2 := if s1.on 2 && !s1.cyc.faultHanded then handFault s1 else s1
  if s2.on 2 && s2.cyc.posts.isEmpty then grantPost s2 else s2

/-- While D1 to D7 are held in reset only real time passes (R55, R57). -/
def heldCycle (s : State) : State := { s with real := s.real + cycleReal s, cyc := {} }

/-- One fabric cycle with no command, the device out of reset: the blind decisions and commits of the one that ends, fabric time, the wheels, the
phases and rails, the engines and the Foreman, the Lighthouse clock, and what
waits only for its cycle. -/
def runCycle (s : State) : State :=
  let s0 := countersEnd (postsEnd (assayerEnd (collectorEnd (canaryEnd (irqEnd (railsEnd (phasesEnd (resultsLand (countSlow s)))))))))
  let s1 := powerCycle (tideCycle (collectorBegin (snapshotBegin (copyCause (advance s0)))))
  let s1 := gaugeCycle s1
  let s2 := if s1.on 2 then foremanCycle (enginesRun ((List.range 16).foldl engineCycle s1)) else s1
  let s3 := loaderService (canaryClock s2)
  let s4 := releaseEntries (settleDomains (fastCycle s3))
  dueReset (if s4.on 7 then bulkPump s4 else s4)

/-- One fabric cycle with no command. -/
def fabricCycle (s : State) : State := if s.held then heldCycle s else runCycle s

end Sys2Proof.Machine
end

