-- ==== Sys2Proof/Machine/Dispatch.lean ====
section
/-! DEFINITION. One arm per command: each calls the command's meaning. -/
namespace Sys2Proof.Machine

/-- What a command does to everything but the queue of waiting commands. -/
def exec (i : Instr) (s : State) : Host.Outcome State Fault Refusal :=
  match i with
  | .objectWrite ix j w => Sys2Proof.Machine.execObjectWrite ix j w s
  | .rcRead ix j r => Sys2Proof.Machine.execRcRead ix j r s
  | .pairLowWrite ix j w => Sys2Proof.Machine.execPairLowWrite ix j w s
  | .pairHighWrite ix j w => Sys2Proof.Machine.execPairHighWrite ix j w s
  | .pairReadSnapshot ix j r => Sys2Proof.Machine.execPairReadSnapshot ix j r s
  | .stoppingPhaseEnd f => Sys2Proof.Machine.execStoppingPhaseEnd f s
  | .bedrockReset => Sys2Proof.Machine.execBedrockReset s
  | .powerOnReset trigger held => Sys2Proof.Machine.execPowerOnReset trigger held s
  | .systemReset trigger => Sys2Proof.Machine.execSystemReset trigger s
  | .xiQualified edges => Sys2Proof.Machine.execXiQualified edges s
  | .xiQualifyTimeout => Sys2Proof.Machine.execXiQualifyTimeout s
  | .xiLoss test => Sys2Proof.Machine.execXiLoss test s
  | .pllUnlock => Sys2Proof.Machine.execPllUnlock s
  | .returnRequest w => Sys2Proof.Machine.execReturnRequest w s
  | .automaticReturn => Sys2Proof.Machine.execAutomaticReturn s
  | .pllRelock => Sys2Proof.Machine.execPllRelock s
  | .returnFailure => Sys2Proof.Machine.execReturnFailure s
  | .millisecondTick => Sys2Proof.Machine.execMillisecondTick s
  | .wheelModeWrite u w => Sys2Proof.Machine.execWheelModeWrite u w s
  | .ownFrequencyCommit u w => Sys2Proof.Machine.execOwnFrequencyCommit u w s
  | .angleSet u w => Sys2Proof.Machine.execAngleSet u w s
  | .turnsPerReferenceWrite u w => Sys2Proof.Machine.execTurnsPerReferenceWrite u w s
  | .synciEdge rising held => Sys2Proof.Machine.execSynciEdge rising held s
  | .lockLoopUpdate u => Sys2Proof.Machine.execLockLoopUpdate u s
  | .referenceLost u => Sys2Proof.Machine.execReferenceLost u s
  | .encoderCount k a b heldA heldB => Sys2Proof.Machine.execEncoderCount k a b heldA heldB s
  | .indexPulse k held => Sys2Proof.Machine.execIndexPulse k held s
  | .encoderStall k => Sys2Proof.Machine.execEncoderStall k s
  | .encoderEnable k w => Sys2Proof.Machine.execEncoderEnable k w s
  | .syncoPulseEnd => Sys2Proof.Machine.execSyncoPulseEnd s
  | .markFire m => Sys2Proof.Machine.execMarkFire m s
  | .markCatchUp m => Sys2Proof.Machine.execMarkCatchUp m s
  | .markControlWrite m w => Sys2Proof.Machine.execMarkControlWrite m w s
  | .converterTrigger => Sys2Proof.Machine.execConverterTrigger s
  | .senseSnapshot => Sys2Proof.Machine.execSenseSnapshot s
  | .bandApply => Sys2Proof.Machine.execBandApply s
  | .tableSample => Sys2Proof.Machine.execTableSample s
  | .markTaskActivation => Sys2Proof.Machine.execMarkTaskActivation s
  | .markQueuePost => Sys2Proof.Machine.execMarkQueuePost s
  | .syncoPulse => Sys2Proof.Machine.execSyncoPulse s
  | .angleCapture => Sys2Proof.Machine.execAngleCapture s
  | .markFifoPost => Sys2Proof.Machine.execMarkFifoPost s
  | .markUnitEnable w => Sys2Proof.Machine.execMarkUnitEnable w s
  | .sckEnable k w => Sys2Proof.Machine.execSckEnable k w s
  | .fastResultDelivery c e => Sys2Proof.Machine.execFastResultDelivery c e s
  | .manchesterCodingError c => Sys2Proof.Machine.execManchesterCodingError c s
  | .streamSilence c => Sys2Proof.Machine.execStreamSilence c s
  | .precisionResult c => Sys2Proof.Machine.execPrecisionResult c s
  | .senseModeWrite c w => Sys2Proof.Machine.execSenseModeWrite c w s
  | .senseRestart c w => Sys2Proof.Machine.execSenseRestart c w s
  | .gainCommit c w => Sys2Proof.Machine.execGainCommit c w s
  | .phaseTransition p => Sys2Proof.Machine.execPhaseTransition p s
  | .forcedEdge p => Sys2Proof.Machine.execForcedEdge p s
  | .deadTimeEnd p => Sys2Proof.Machine.execDeadTimeEnd p s
  | .pilotEnable p w => Sys2Proof.Machine.execPilotEnable p w s
  | .missingEdge p => Sys2Proof.Machine.execMissingEdge p s
  | .gateFaultInput p ns => Sys2Proof.Machine.execGateFaultInput p ns s
  | .gateFaultSeen p => Sys2Proof.Machine.execGateFaultSeen p s
  | .phaseRearm p => Sys2Proof.Machine.execPhaseRearm p s
  | .rearmWindowExpiry p => Sys2Proof.Machine.execRearmWindowExpiry p s
  | .rearmCommand p w => Sys2Proof.Machine.execRearmCommand p w s
  | .phasePark p => Sys2Proof.Machine.execPhasePark p s
  | .phaseUnpark p => Sys2Proof.Machine.execPhaseUnpark p s
  | .phaseModeWrite p w => Sys2Proof.Machine.execPhaseModeWrite p w s
  | .manualCommandsWrite p w => Sys2Proof.Machine.execManualCommandsWrite p w s
  | .railStart r w => Sys2Proof.Machine.execRailStart r w s
  | .railStop r w => Sys2Proof.Machine.execRailStop r w s
  | .railWindDown r w => Sys2Proof.Machine.execRailWindDown r w s
  | .demandCommit r w => Sys2Proof.Machine.execDemandCommit r w s
  | .applyCommand r w => Sys2Proof.Machine.execApplyCommand r w s
  | .swapRequest f w => Sys2Proof.Machine.execSwapRequest f w s
  | .tableBankWrite f b e w => Sys2Proof.Machine.execTableBankWrite f b e w s
  | .rampTick r u => Sys2Proof.Machine.execRampTick r u s
  | .unitShed r u => Sys2Proof.Machine.execUnitShed r u s
  | .shedDecision r => Sys2Proof.Machine.execShedDecision r s
  | .recallDecision r => Sys2Proof.Machine.execRecallDecision r s
  | .supervisionClassify r ix => Sys2Proof.Machine.execSupervisionClassify r ix s
  | .blindGraceExpiry r ix => Sys2Proof.Machine.execBlindGraceExpiry r ix s
  | .voltageChannelLost r c => Sys2Proof.Machine.execVoltageChannelLost r c s
  | .regulationTimeout r => Sys2Proof.Machine.execRegulationTimeout r s
  | .railTakeover r ix => Sys2Proof.Machine.execRailTakeover r ix s
  | .memberRelease r w => Sys2Proof.Machine.execMemberRelease r w s
  | .saturationRelease r w => Sys2Proof.Machine.execSaturationRelease r w s
  | .clearRecord r w => Sys2Proof.Machine.execClearRecord r w s
  | .activateCommand t w => Sys2Proof.Machine.execActivateCommand t w s
  | .taskTimer t => Sys2Proof.Machine.execTaskTimer t s
  | .dispatch e => Sys2Proof.Machine.execDispatch e s
  | .endWrite e w => Sys2Proof.Machine.execEndWrite e w s
  | .taskHang e => Sys2Proof.Machine.execTaskHang e s
  | .taskEnable t w => Sys2Proof.Machine.execTaskEnable t w s
  | .taskPlaced t => Sys2Proof.Machine.execTaskPlaced t s
  | .migrationCut => Sys2Proof.Machine.execMigrationCut s
  | .migrationSwap => Sys2Proof.Machine.execMigrationSwap s
  | .consolidationTimeout => Sys2Proof.Machine.execConsolidationTimeout s
  | .moveCommand t w => Sys2Proof.Machine.execMoveCommand t w s
  | .clearEngineFault w => Sys2Proof.Machine.execClearEngineFault w s
  | .tang e rd rs1 => Sys2Proof.Machine.execTang e rd rs1 s
  | .treach e rd rs1 rs2 => Sys2Proof.Machine.execTreach e rd rs1 rs2 s
  | .qmul e rd rs1 rs2 => Sys2Proof.Machine.execQmul e rd rs1 rs2 s
  | .qpush e q rs1 rs2 => Sys2Proof.Machine.execQpush e q rs1 rs2 s
  | .qpop e rd rs1 => Sys2Proof.Machine.execQpop e rd rs1 s
  | .qwait e rd rs1 rs2 => Sys2Proof.Machine.execQwait e rd rs1 rs2 s
  | .qwaitWake e => Sys2Proof.Machine.execQwaitWake e s
  | .qwaitTimeout e => Sys2Proof.Machine.execQwaitTimeout e s
  | .lrW e rd rs1 => Sys2Proof.Machine.execLrW e rd rs1 s
  | .scW e rd rs1 rs2 => Sys2Proof.Machine.execScW e rd rs1 rs2 s
  | .amo e op rd rs1 rs2 => Sys2Proof.Machine.execAmo e op rd rs1 rs2 s
  | .reservationTimeout e => Sys2Proof.Machine.execReservationTimeout e s
  | .wfi e => Sys2Proof.Machine.execWfi e s
  | .interruptTrap e => Sys2Proof.Machine.execInterruptTrap e s
  | .engineFault e a fetch => Sys2Proof.Machine.execEngineFault e a fetch s
  | .scrubInterval m => Sys2Proof.Machine.execScrubInterval m s
  | .runControlWrite e w => Sys2Proof.Machine.execRunControlWrite e w s
  | .unitReset e => Sys2Proof.Machine.execUnitReset e s
  | .debugHalt e => Sys2Proof.Machine.execDebugHalt e s
  | .debugResume e => Sys2Proof.Machine.execDebugResume e s
  | .debugEngineReset e => Sys2Proof.Machine.execDebugEngineReset e s
  | .debugSystemReset => Sys2Proof.Machine.execDebugSystemReset s
  | .debugSystemBusAccess op => Sys2Proof.Machine.execDebugSystemBusAccess op s
  | .queuePortPop m q => Sys2Proof.Machine.execQueuePortPop m q s
  | .queuePortStage m q v => Sys2Proof.Machine.execQueuePortStage m q v s
  | .queuePortPush m q v => Sys2Proof.Machine.execQueuePortPush m q v s
  | .queuePost => Sys2Proof.Machine.execQueuePost s
  | .popPathPop port => Sys2Proof.Machine.execPopPathPop port s
  | .queueEnable q w => Sys2Proof.Machine.execQueueEnable q w s
  | .queueFlush q w => Sys2Proof.Machine.execQueueFlush q w s
  | .domainDataRead ix r => Sys2Proof.Machine.execDomainDataRead ix r s
  | .domainDataWrite ix w => Sys2Proof.Machine.execDomainDataWrite ix w s
  | .firmwareTableCommit w => Sys2Proof.Machine.execFirmwareTableCommit w s
  | .firmwareTableValidated => Sys2Proof.Machine.execFirmwareTableValidated s
  | .firmwareObjectRead ix j r => Sys2Proof.Machine.execFirmwareObjectRead ix j r s
  | .firmwareObjectWrite ix j w => Sys2Proof.Machine.execFirmwareObjectWrite ix j w s
  | .canEnable n w => Sys2Proof.Machine.execCanEnable n w s
  | .canFrameReceived n f errs => Sys2Proof.Machine.execCanFrameReceived n f errs s
  | .canFrameSent n errs => Sys2Proof.Machine.execCanFrameSent n errs s
  | .busOffRecovery n => Sys2Proof.Machine.execBusOffRecovery n s
  | .rawFramePop n => Sys2Proof.Machine.execRawFramePop n s
  | .nmtCommand => Sys2Proof.Machine.execNmtCommand s
  | .sdoRequest => Sys2Proof.Machine.execSdoRequest s
  | .sdoTimeout => Sys2Proof.Machine.execSdoTimeout s
  | .rpdoReceived => Sys2Proof.Machine.execRpdoReceived s
  | .syncReceived => Sys2Proof.Machine.execSyncReceived s
  | .syncProduce => Sys2Proof.Machine.execSyncProduce s
  | .tpdoEvent k timer => Sys2Proof.Machine.execTpdoEvent k timer s
  | .heartbeatProduce => Sys2Proof.Machine.execHeartbeatProduce s
  | .heartbeatTimeout k => Sys2Proof.Machine.execHeartbeatTimeout k s
  | .emcySend => Sys2Proof.Machine.execEmcySend s
  | .lssSwitchStateGlobal => Sys2Proof.Machine.execLssSwitchStateGlobal s
  | .lssSwitchStateSelective => Sys2Proof.Machine.execLssSwitchStateSelective s
  | .lssConfigureNodeId => Sys2Proof.Machine.execLssConfigureNodeId s
  | .lssConfigureBitTiming => Sys2Proof.Machine.execLssConfigureBitTiming s
  | .lssActivateBitTiming => Sys2Proof.Machine.execLssActivateBitTiming s
  | .lssStoreConfiguration => Sys2Proof.Machine.execLssStoreConfiguration s
  | .lssInquire => Sys2Proof.Machine.execLssInquire s
  | .lssFastscan => Sys2Proof.Machine.execLssFastscan s
  | .lineSwitchOver => Sys2Proof.Machine.execLineSwitchOver s
  | .bulkStart w => Sys2Proof.Machine.execBulkStart w s
  | .bulkDataFrame => Sys2Proof.Machine.execBulkDataFrame s
  | .bulkAckFrame => Sys2Proof.Machine.execBulkAckFrame s
  | .bulkEndFrame => Sys2Proof.Machine.execBulkEndFrame s
  | .bulkAbortFrame => Sys2Proof.Machine.execBulkAbortFrame s
  | .bulkAbort w => Sys2Proof.Machine.execBulkAbort w s
  | .bulkTimeout => Sys2Proof.Machine.execBulkTimeout s
  | .commandSubmit w => Sys2Proof.Machine.execCommandSubmit w s
  | .commandWrites => Sys2Proof.Machine.execCommandWrites s
  | .authLockoutEnd => Sys2Proof.Machine.execAuthLockoutEnd s
  | .twbEnable n w => Sys2Proof.Machine.execTwbEnable n w s
  | .twbObjectRead n ix j => Sys2Proof.Machine.execTwbObjectRead n ix j s
  | .twbObjectWrite n frame => Sys2Proof.Machine.execTwbObjectWrite n frame s
  | .twbLastResult n => Sys2Proof.Machine.execTwbLastResult n s
  | .stretchLimitExpiry n => Sys2Proof.Machine.execStretchLimitExpiry n s
  | .sclLowTimeout n held => Sys2Proof.Machine.execSclLowTimeout n held s
  | .firmwareTargetByte n b => Sys2Proof.Machine.execFirmwareTargetByte n b s
  | .controllerStart n w => Sys2Proof.Machine.execControllerStart n w s
  | .controllerTransferEnd n o => Sys2Proof.Machine.execControllerTransferEnd n o s
  | .arbitrationLost n own => Sys2Proof.Machine.execArbitrationLost n own s
  | .busClear n held freed => Sys2Proof.Machine.execBusClear n held freed s
  | .clearCommand n w => Sys2Proof.Machine.execClearCommand n w s
  | .requestWrite n w => Sys2Proof.Machine.execRequestWrite n w s
  | .requestPulse n idle sdaLow => Sys2Proof.Machine.execRequestPulse n idle sdaLow s
  | .alertResponse n won => Sys2Proof.Machine.execAlertResponse n won s
  | .requestDetect n held answer => Sys2Proof.Machine.execRequestDetect n held answer s
  | .twbSleep n w => Sys2Proof.Machine.execTwbSleep n w s
  | .wakeMatch n firmware => Sys2Proof.Machine.execWakeMatch n firmware s
  | .softwareTrigger k w => Sys2Proof.Machine.execSoftwareTrigger k w s
  | .converterTimer k => Sys2Proof.Machine.execConverterTimer k s
  | .scanStart k => Sys2Proof.Machine.execScanStart k s
  | .conversionResult k v w => Sys2Proof.Machine.execConversionResult k v w s
  | .converterEnable k w => Sys2Proof.Machine.execConverterEnable k w s
  | .tachEdge n stable => Sys2Proof.Machine.execTachEdge n stable s
  | .tachStall n => Sys2Proof.Machine.execTachStall n s
  | .vauxWarning mv held => Sys2Proof.Machine.execVauxWarning mv held s
  | .vauxWarningClear mv held => Sys2Proof.Machine.execVauxWarningClear mv held s
  | .vauxOvervoltage mv held => Sys2Proof.Machine.execVauxOvervoltage mv held s
  | .vddioUndervoltage mv held => Sys2Proof.Machine.execVddioUndervoltage mv held s
  | .vddaUndervoltage mv held => Sys2Proof.Machine.execVddaUndervoltage mv held s
  | .regulatorEnable r w => Sys2Proof.Machine.execRegulatorEnable r w s
  | .regulatorGood r level => Sys2Proof.Machine.execRegulatorGood r level s
  | .regulatorFault r level held => Sys2Proof.Machine.execRegulatorFault r level held s
  | .regulatorRestart r => Sys2Proof.Machine.execRegulatorRestart r s
  | .driverEnable w => Sys2Proof.Machine.execDriverEnable w s
  | .driverLimitStop g halves => Sys2Proof.Machine.execDriverLimitStop g halves s
  | .domainRequestWrite w => Sys2Proof.Machine.execDomainRequestWrite w s
  | .domainChangeComplete d => Sys2Proof.Machine.execDomainChangeComplete d s
  | .sequencerUp w => Sys2Proof.Machine.execSequencerUp w s
  | .sequencerDown w => Sys2Proof.Machine.execSequencerDown w s
  | .sequencerClear w => Sys2Proof.Machine.execSequencerClear w s
  | .slotUpDelayExpiry j => Sys2Proof.Machine.execSlotUpDelayExpiry j s
  | .slotGood j held => Sys2Proof.Machine.execSlotGood j held s
  | .slotGoodTimeout j => Sys2Proof.Machine.execSlotGoodTimeout j s
  | .slotGoodLost j held => Sys2Proof.Machine.execSlotGoodLost j held s
  | .slotGlitch j held => Sys2Proof.Machine.execSlotGlitch j held s
  | .readyWaitTimeout => Sys2Proof.Machine.execReadyWaitTimeout s
  | .readyRelease held => Sys2Proof.Machine.execReadyRelease held s
  | .slotDownDelayExpiry j => Sys2Proof.Machine.execSlotDownDelayExpiry j s
  | .slotFallTimeout j => Sys2Proof.Machine.execSlotFallTimeout j s
  | .sequencerDisable w => Sys2Proof.Machine.execSequencerDisable w s
  | .fltlineFault low held => Sys2Proof.Machine.execFltlineFault low held s
  | .fltlineAssertionEnd => Sys2Proof.Machine.execFltlineAssertionEnd s
  | .readyLoss held => Sys2Proof.Machine.execReadyLoss held s
  | .chemistryWrite w => Sys2Proof.Machine.execChemistryWrite w s
  | .chargerEnable w => Sys2Proof.Machine.execChargerEnable w s
  | .chargeStageChange => Sys2Proof.Machine.execChargeStageChange s
  | .chargerClear w => Sys2Proof.Machine.execChargerClear w s
  | .cutbackEvaluation => Sys2Proof.Machine.execCutbackEvaluation s
  | .powerPathEnable w => Sys2Proof.Machine.execPowerPathEnable w s
  | .sourcePresent => Sys2Proof.Machine.execSourcePresent s
  | .sourceLost => Sys2Proof.Machine.execSourceLost s
  | .returnDelayExpiry => Sys2Proof.Machine.execReturnDelayExpiry s
  | .outage => Sys2Proof.Machine.execOutage s
  | .chgStartDelayExpiry => Sys2Proof.Machine.execChgStartDelayExpiry s
  | .searchStepPeriod => Sys2Proof.Machine.execSearchStepPeriod s
  | .searchHoldExpiry => Sys2Proof.Machine.execSearchHoldExpiry s
  | .switchClose => Sys2Proof.Machine.execSwitchClose s
  | .switchCommand w => Sys2Proof.Machine.execSwitchCommand w s
  | .shutdownOpening => Sys2Proof.Machine.execShutdownOpening s
  | .storageCommand w => Sys2Proof.Machine.execStorageCommand w s
  | .storageDelayExpiry => Sys2Proof.Machine.execStorageDelayExpiry s
  | .buttonShortPress periods => Sys2Proof.Machine.execButtonShortPress periods s
  | .buttonLongPress periods => Sys2Proof.Machine.execButtonLongPress periods s
  | .wakeTaken => Sys2Proof.Machine.execWakeTaken s
  | .storageRequest periods => Sys2Proof.Machine.execStorageRequest periods s
  | .buttonHeld10s periods => Sys2Proof.Machine.execButtonHeld10s periods s
  | .gaugeWindow => Sys2Proof.Machine.execGaugeWindow s
  | .gaugeSecondStep => Sys2Proof.Machine.execGaugeSecondStep s
  | .gaugeEnable w => Sys2Proof.Machine.execGaugeEnable w s
  | .gaugeWriteCommand w => Sys2Proof.Machine.execGaugeWriteCommand w s
  | .interruptClaim x r => Sys2Proof.Machine.execInterruptClaim x r s
  | .interruptComplete x w => Sys2Proof.Machine.execInterruptComplete x w s
  | .softwareSet w => Sys2Proof.Machine.execSoftwareSet w s
  | .softwareClear w => Sys2Proof.Machine.execSoftwareClear w s
  | .groupGather g n => Sys2Proof.Machine.execGroupGather g n s
  | .groupTimeLimit g => Sys2Proof.Machine.execGroupTimeLimit g s
  | .lighthouseFire => Sys2Proof.Machine.execLighthouseFire s
  | .canaryService w => Sys2Proof.Machine.execCanaryService w s
  | .canaryServiceTaken => Sys2Proof.Machine.execCanaryServiceTaken s
  | .canaryWarning => Sys2Proof.Machine.execCanaryWarning s
  | .canaryExpiry => Sys2Proof.Machine.execCanaryExpiry s
  | .checkIn w => Sys2Proof.Machine.execCheckIn w s
  | .biteDelayExpiry => Sys2Proof.Machine.execBiteDelayExpiry s
  | .canaryLock w => Sys2Proof.Machine.execCanaryLock w s
  | .faultReport => Sys2Proof.Machine.execFaultReport s
  | .faultPost => Sys2Proof.Machine.execFaultPost s
  | .harbourRelease w => Sys2Proof.Machine.execHarbourRelease w s
  | .harbourEnterCommand w => Sys2Proof.Machine.execHarbourEnterCommand w s
  | .harbourAutomaticExit => Sys2Proof.Machine.execHarbourAutomaticExit s
  | .recoveryWindowExpiry => Sys2Proof.Machine.execRecoveryWindowExpiry s
  | .collectorStorageError x double => Sys2Proof.Machine.execCollectorStorageError x double s
  | .logPop r => Sys2Proof.Machine.execLogPop r s
  | .firmwareReport w => Sys2Proof.Machine.execFirmwareReport w s
  | .timebaseSelect crystal => Sys2Proof.Machine.execTimebaseSelect crystal s
  | .oscillatorStopped => Sys2Proof.Machine.execOscillatorStopped s
  | .trimApply => Sys2Proof.Machine.execTrimApply s
  | .secondsSet w => Sys2Proof.Machine.execSecondsSet w s
  | .calendarSet w => Sys2Proof.Machine.execCalendarSet w s
  | .setApplied => Sys2Proof.Machine.execSetApplied s
  | .alarmFire => Sys2Proof.Machine.execAlarmFire s
  | .bedrockSupplySwitch toVbak => Sys2Proof.Machine.execBedrockSupplySwitch toVbak s
  | .vbakLow risen => Sys2Proof.Machine.execVbakLow risen s
  | .otpProgramBit w => Sys2Proof.Machine.execOtpProgramBit w s
  | .blowWriteLock w => Sys2Proof.Machine.execBlowWriteLock w s
  | .blowReadLock w => Sys2Proof.Machine.execBlowReadLock w s
  | .blowDebugFuse w => Sys2Proof.Machine.execBlowDebugFuse w s
  | .otpRecheck w => Sys2Proof.Machine.execOtpRecheck w s
  | .otpCommandEnd run => Sys2Proof.Machine.execOtpCommandEnd run s
  | .journalRecordWrite => Sys2Proof.Machine.execJournalRecordWrite s
  | .journalWriteDone bad => Sys2Proof.Machine.execJournalWriteDone bad s
  | .journalRefreshHour => Sys2Proof.Machine.execJournalRefreshHour s
  | .journalEnable w => Sys2Proof.Machine.execJournalEnable w s
  | .recordLayoutWrite r w => Sys2Proof.Machine.execRecordLayoutWrite r w s
  | .recordLayoutJudged r => Sys2Proof.Machine.execRecordLayoutJudged r s
  | .firmwareRecordCommand w => Sys2Proof.Machine.execFirmwareRecordCommand w s
  | .assayerScan k w => Sys2Proof.Machine.execAssayerScan k w s
  | .beginFeed k w => Sys2Proof.Machine.execBeginFeed k w s
  | .endFeed k w => Sys2Proof.Machine.execEndFeed k w s
  | .assayerAbort k w => Sys2Proof.Machine.execAssayerAbort k w s
  | .feedWord k w => Sys2Proof.Machine.execFeedWord k w s
  | .feedByte k w => Sys2Proof.Machine.execFeedByte k w s
  | .scanReadReturn k => Sys2Proof.Machine.execScanReadReturn k s
  | .checkEnd k => Sys2Proof.Machine.execCheckEnd k s
  | .snapshotMaskWrite w => Sys2Proof.Machine.execSnapshotMaskWrite w s
  | .counterEvent n k => Sys2Proof.Machine.execCounterEvent n k s
  | .ledgerStep => Sys2Proof.Machine.execLedgerStep s
  | .indicatorReplace l auth w => Sys2Proof.Machine.execIndicatorReplace l auth w s
  | .indicatorOperate l w => Sys2Proof.Machine.execIndicatorOperate l w s
  | .ledgerWriteCommand w => Sys2Proof.Machine.execLedgerWriteCommand w s
  | .startupFuses => Sys2Proof.Machine.execStartupFuses s
  | .startupJournal => Sys2Proof.Machine.execStartupJournal s
  | .bankVerify density mode => Sys2Proof.Machine.execBankVerify density mode s
  | .bankChoice => Sys2Proof.Machine.execBankChoice s
  | .wideningStep refs engFail phFail late => Sys2Proof.Machine.execWideningStep refs engFail phFail late s
  | .startupRunning => Sys2Proof.Machine.execStartupRunning s
  | .serviceLoader => Sys2Proof.Machine.execServiceLoader s
  | .resetRequest w => Sys2Proof.Machine.execResetRequest w s
  | .targetLevelWrite w => Sys2Proof.Machine.execTargetLevelWrite w s
  | .wideningRetry w => Sys2Proof.Machine.execWideningRetry w s
  | .bankDataWrite b w good => Sys2Proof.Machine.execBankDataWrite b w good s
  | .syncoTurnCrossing => Sys2Proof.Machine.execSyncoTurnCrossing s
  | .gateRelease p => Sys2Proof.Machine.execGateRelease p s
  | .busIntegration n => Sys2Proof.Machine.execBusIntegration n s
  | .vddioRestored mv held => Sys2Proof.Machine.execVddioRestored mv held s
  | .vddaRestored mv held => Sys2Proof.Machine.execVddaRestored mv held s
  | .vauxOvervoltageEnd mv held => Sys2Proof.Machine.execVauxOvervoltageEnd mv held s
  | .driverSoftStartEnd g => Sys2Proof.Machine.execDriverSoftStartEnd g s
  | .slotFallComplete j held => Sys2Proof.Machine.execSlotFallComplete j held s
  | .rtcCountStep => Sys2Proof.Machine.execRtcCountStep s

end Sys2Proof.Machine
end

