-- ==== Sys2Proof/Safety.lean ====
section
/-! DEFINITION. The terms that statements use: canonical stores, gates that never conduct together, an access that passes
the checks, what an accepted access records, and what a command leaves alone. -/
namespace Sys2Proof.Machine

/-- Object store and memory are in their canonical form. -/
def State.canonical (s : State) : Bool := Objects.wf s.od && Memory.wf s.mem

/-- Not both gate commands are asserted, and a command that waits out its dead time finds the other side at 0. -/
def Phase.apart (x : Phase) : Bool :=
  !(x.gh && x.gl) &&
  (match x.dead with
    | some (_, up) => if up then !x.gl else !x.gh
    | none => true)

/-- The gate commands of every phase are apart (R205). -/
def State.gatesApart (s : State) : Bool := s.phases.all Phase.apart

/-- Every list of units holds one element for each unit of its block. -/
def State.shaped (s : State) : Bool :=
  s.masters.length == 20 && s.tide.wheels.length == 8 && s.tide.encoders.length == 4 && s.engines.length == 16 &&
  s.ports.length == 2 && s.fm.tasks.length == 64 && s.sense.length == 64 && s.phases.length == 48 && s.rails.length == 12 &&
  s.hka.length == 4 && s.tacho.length == 8 && s.sup.regs.length == 3 && s.gds.length == 2 && s.seq.slots.length == 16 &&
  s.can.length == 2 && s.twb.length == 2 && s.assayer.length == 4 && s.life.indicators.length == 16 &&
  s.sckFrom.length == 8 && s.irq.gatherAt.length == 32 && s.canary.checkIns.length == 64

/-- R444: a write by its master reaches object word i:j and meets none of the conditions checked before the object's
own. -/
def writePasses (s : State) (w : Wr) (i j : Nat) : Prop := masterLive s w.master = true ∧ checkWrite s w false i j = .accepted

/-- R444: a read by its master reaches object word i:j and is not refused. -/
def readPasses (s : State) (r : Rd) (i j : Nat) : Prop := masterLive s r.master = true ∧ checkRead s r i j = .accepted

/-- R10: the word that a write carries, as the object's type holds it. -/
def carried (w : Wr) (i j : Nat) : Word := (typedWrite w i j).value

/-- R465: `s` after an accepted write of i:j by the master: its record of the last write, and the answer. -/
def State.accepted (s : State) (m : Master) (i j : Nat) : State :=
  { s.modMaster m (fun x => { x with lastResult := 0, lastObject := BitVec.ofNat 32 (i * 256 + j) }) with
    resp := some { result := .accepted, value := 0 } }

/-- `s` after an accepted read that returned `v`. -/
def State.returned (s : State) (v : Word) : State := { s with resp := some { result := .accepted, value := v } }

/-- Every object word outside the list reads in `t` as in `s`. -/
def State.keepsWords (s t : State) (l : List (Nat × Nat)) : Prop :=
  ∀ i j, j < 256 → (i, j) ∉ l → t.obj i j = s.obj i j

/-- Every byte of memory reads in `t` as in `s`. -/
def State.keepsBytes (s t : State) : Prop := ∀ a, t.memByte a = s.memByte a

/-- `t` differs from `s` in object words, the access records, the answer, the raised reports and the record of the present
cycle's events alone. -/
def State.keepsRest (s t : State) : Prop :=
  { t with od := s.od, masters := s.masters, resp := s.resp, raised := s.raised, cyc := s.cyc } = s

end Sys2Proof.Machine
end

