-- ==== Sys2Proof/Certificates/Slice0/Obligations.lean ====
section
/-! DEFINITION. The statements for the provers. -/
namespace Sys2Proof.Machine

end Sys2Proof.Machine

open Sys2Proof Sys2Proof.Machine

/-- For every command c, every rest of the queue and every state, a step with c at the front of the queue is exec of c on
the state with the rest of the queue. (95_what_each_step_holds.md) -/
def Obligations.StepRunsFrontCommand : Prop :=
  ∀ (c : Instr) (rest : List Instr) (s : State), step { s with pending := c :: rest } = exec c { s with pending := rest }

/-- For every state with an empty queue a step answers a next state whose queue is empty. Out of reset, fabric time is one
more than before, or it is 0 or 1, where a system reset that fell due in the cycle has started it at 0. While PORST_N
or the absence of D1 holds the device in reset, fabric time stands, and only real time passes. That an idle step is
one fabric cycle is the model's choice (the assumption log names it); R92 gives the count. (R92, R55) -/
def Obligations.IdleStepCountsFabricTime : Prop :=
  ∀ s : State, s.pending = [] →
    ∃ t, step s = .next t ∧ t.pending = [] ∧
      (s.held = false → t.now = s.now + 1 ∨ t.now = 0 ∨ t.now = 1) ∧
      (s.held = true → t.now = s.now ∧ t.real = s.real + cycleReal s ∧ t.od = s.od ∧ t.mem = s.mem)

/-- For every state whose object store and memory are in canonical form (keys strictly rising, no entry equal to what an
unlisted key reads as), if a step answers a next state, then that state's object store and memory are in canonical
form. The canonical form is the model's own. (R375, R449, R17) -/
def Obligations.StepKeepsCanonicalStores : Prop :=
  ∀ s t : State, s.canonical = true → step s = .next t → t.canonical = true

/-- The state right after reset meets the invariants that the step statements keep: canonical stores, gates apart, one
element for each unit of a block. The invariants are the model's own words for what the spec gives. (R17, R375) -/
def Obligations.ResetMeetsTheInvariants : Prop :=
  State.reset.canonical = true ∧ State.reset.gatesApart = true ∧ State.reset.shaped = true

/-- For every state in which every list of units holds one element for each unit of its block (R7's ranges), if a step
answers a next state, then it does so there. The lists are the model's own form. (R7) -/
def Obligations.StepKeepsShape : Prop :=
  ∀ s t : State, s.shaped = true → step s = .next t → t.shaped = true

/-- For every state in which no phase has both gate commands asserted and none waits out its dead time with the other side
still asserted, if a step answers a next state, then that state is so too. (R198, R199, R200) -/
def Obligations.StepKeepsGatesApart : Prop :=
  ∀ s t : State, s.gatesApart = true → step s = .next t → t.gatesApart = true

/-- For every command and every state, exec answers a next state: the block has no fault and no refusal of its own (a
refused access ends with a result code, and an event whose condition does not hold changes nothing). In it the queue
of waiting commands is as before, and fabric time is as before or, after a reset of D2, 0. (R92,
95_what_each_step_holds.md) -/
def Obligations.EveryCommandAnswersNextAndKeepsTheQueue : Prop :=
  ∀ (c : Instr) (s : State), ∃ t, exec c s = .next t ∧ t.pending = s.pending ∧ (t.now = s.now ∨ t.now = 0)

/-- For every command and every state, resets included, if exec answers a next state, then every programmed OTP bit and
every programmed fuse bit is still programmed. (R738, R745) -/
def Obligations.ProgrammedBitsStay : Prop :=
  ∀ (c : Instr) (s t : State), exec c s = .next t →
    (∀ b ∈ s.nv.otp, b ∈ t.nv.otp) ∧ (∀ b ∈ s.nv.fuses, b ∈ t.nv.fuses)

/-- For every state, write and hardware object word: with no such word the result is 5h; otherwise with its domain not ON
6h; otherwise for a master that may not write it 7h; otherwise for a wrong length 8h; otherwise for a high word of a
pair that takes writes outside commands, without its staged low word, 9h; otherwise for an access code that takes no
writes 1h; otherwise for a word that needs an authenticated command 2h; otherwise for a value outside those admitted
3h; otherwise for an OTP or Journal default that has not been loaded 4h; otherwise the checks are passed. (R444, R29,
R36, R441, R447, R454, R12, R18) -/
def Obligations.AccessChecksInTableOrder : Prop :=
  ∀ (s : State) (w : Wr) (i j : Nat),
    (objRow i j = none → checkWrite s w false i j = .noObject) ∧
    (∀ r, objRow i j = some r →
      let v := r.ty.extend w.value
      let lone := r.ty.isHigh = true ∧ r.acc.writable = true ∧ r.acc ≠ .rwa ∧
        ∀ lo, (s.master w.master).staged ≠ some (objKey i (j - 1), lo)
      (s.on (objDomain i) = false → checkWrite s w false i j = .domain) ∧
      (s.on (objDomain i) = true →
        (writePrivileged s w.master i j = true → checkWrite s w false i j = .privilege) ∧
        (writePrivileged s w.master i j = false →
          (wrongLength w.master r.ty w.len = true → checkWrite s w false i j = .length) ∧
          (wrongLength w.master r.ty w.len = false →
            (lone → checkWrite s w false i j = .pair) ∧
            (¬ lone →
              (r.acc.writable = false → checkWrite s w false i j = .readOnly) ∧
              (r.acc.writable = true →
                ((r.acc = .rwa ∨ remoteAuth w.master i j = true) → checkWrite s w false i j = .authentication) ∧
                (¬ (r.acc = .rwa ∨ remoteAuth w.master i j = true) →
                  (r.rng.admits v = false → checkWrite s w false i j = .range) ∧
                  (r.rng.admits v = true →
                    checkWrite s w false i j =
                      if (otpHeld i j && !s.startup.otpLoaded) || (journalHeld i j && !s.startup.journalLoaded)
                      then .state else .accepted))))))))

/-- For every object word outside the firmware range, every master that is no engine and can make an access, and every
write that the checks refuse, OBJECT_WRITE answers a next state in which the answer carries the result, the master's
last result and last object are it and the word, 2010h:03h has counted it, and nothing but 2010h:03h to 05h, the
record and the answer has changed. (R14, R444, R465) -/
def Obligations.RefusedWriteChangesNothing : Prop :=
  ∀ (i : BitVec 16) (j : Byte) (w : Wr) (s : State), isFirmware i.toNat = false → masterLive s w.master = true →
    (∀ e u, w.master ≠ .engine e u) → checkWrite s w false i.toNat j.toNat ≠ .accepted →
    ∃ t, exec (.objectWrite i j w) s = .next t ∧
      t.resp.map (·.result) = some (checkWrite s w false i.toNat j.toNat) ∧
      (t.master w.master).lastResult = (checkWrite s w false i.toNat j.toNat).code ∧
      (t.master w.master).lastObject = BitVec.ofNat 32 (i.toNat * 256 + j.toNat) ∧
      t.nat 0x2010 3 = min (s.nat 0x2010 3 + 1) 4294967295 ∧
      s.keepsWords t [(0x2010, 3), (0x2010, 4), (0x2010, 5)] ∧ s.keepsBytes t ∧ s.keepsRest t

/-- For every object word outside the firmware range that is no word of a pair and whose block gives it no effect of its
own, and every write that passes the checks: OBJECT_WRITE of an RW or RWA word sets it to the value without the
reserved bits, and a counter that events of the same cycle moved holds the value and what they added; of a W1C word it
clears the bits written 1 that no event of the same cycle has set; of a WO word it changes no word; the write is
answered and recorded as accepted, and nothing else changes. (R12, R13, R21, R47, R465) -/
def Obligations.ObjectWriteByAccessCode : Prop :=
  ∀ (i : BitVec 16) (j : Byte) (w : Wr) (s : State) (r : ObjRow),
    isFirmware i.toNat = false → objRow i.toNat j.toNat = some r → r.ty.isLow = false → r.ty.isHigh = false →
    wordEff i.toNat j.toNat = plainWrite i.toNat j.toNat → writePasses s w i.toNat j.toNat →
    let v := carried w i.toNat j.toNat
    let x := s.put i.toNat j.toNat (r.rng.keep (r.ty.extend v))
    ((r.acc = .rw ∨ r.acc = .rwa) →
      (s.cycleCount (objKey i.toNat j.toNat) = none → exec (.objectWrite i j w) s =
        .next (x.accepted w.master i.toNat j.toNat)) ∧
      (∀ c, s.cycleCount (objKey i.toNat j.toNat) = some c → exec (.objectWrite i j w) s =
        .next ((x.putN i.toNat j.toNat (satN (8 * r.ty.size) (x.nat i.toNat j.toNat + c.alone.toNat))).accepted
          w.master i.toNat j.toNat))) ∧
    (r.acc = .w1c → exec (.objectWrite i j w) s =
      .next ((s.put i.toNat j.toNat (s.obj i.toNat j.toNat &&& ~~~ v ||| s.cycleBits (objKey i.toNat j.toNat))).accepted
        w.master i.toNat j.toNat)) ∧
    (r.acc = .wo → exec (.objectWrite i j w) s = .next (s.accepted w.master i.toNat j.toNat))

/-- For every pair of object words outside the firmware range: an accepted PAIR_LOW_WRITE stages the word, tagged with the
pair, for the writing master and changes no object word. An accepted PAIR_HIGH_WRITE that finds the staged low word
sets both words and clears the staging, for the pairs whose block adds no effect of its own (all but those of the
gauge and the RTC's seconds set) while no event of the cycle has counted in it. Both are answered and recorded as
accepted. (R454) -/
def Obligations.PairWritesStageAndCommit : Prop :=
  ∀ (i : BitVec 16) (j : Byte) (w : Wr) (s : State) (r : ObjRow),
    isFirmware i.toNat = false → objRow i.toNat j.toNat = some r → writePasses s w i.toNat j.toNat →
    let v := carried w i.toNat j.toNat
    (r.ty.isLow = true → exec (.pairLowWrite i j w) s =
      .next ((s.modMaster w.master (fun x => { x with staged := some (objKey i.toNat j.toNat, v) })).accepted
        w.master i.toNat j.toNat)) ∧
    (∀ lo, r.ty.isHigh = true → 1 ≤ j.toNat → (i.toNat / 256 ≠ 0x2F ∨ (i.toNat = 0x2F01 ∧ 0 ≤ (dw lo v).toInt)) → ¬ (i.toNat = 0x3300 ∧ j.toNat = 5) →
      (s.master w.master).staged = some (objKey i.toNat (j.toNat - 1), lo) →
      s.cycleCount (objKey i.toNat (j.toNat - 1)) = none →
      exec (.pairHighWrite i j w) s =
        .next ((((s.modMaster w.master (fun x => { x with staged := none })).put i.toNat (j.toNat - 1) lo).put
          i.toNat j.toNat (r.rng.keep (r.ty.extend v))).accepted w.master i.toNat j.toNat))

/-- For every object word outside the firmware range whose read has no effect of its own, and every read that is not
refused: RC_READ of an RC word returns its value and sets it to 0; one that events of the same cycle have moved
returns what it held before them and keeps what they added. PAIR_READ_SNAPSHOT of a word of a pair that the master has
not buffered returns its value and fills the master's buffer with the other word; one of a buffered word returns the
buffered value and takes it out of the buffer. (R12, R13, R450, R451) -/
def Obligations.ReadsClearAndBuffer : Prop :=
  ∀ (i : BitVec 16) (j : Byte) (rd : Rd) (s : State) (r : ObjRow),
    isFirmware i.toNat = false → flashOff s i.toNat j.toNat = false → readEff i.toNat j.toNat = readWord i.toNat j.toNat →
    objRow i.toNat j.toNat = some r → readPasses s rd i.toNat j.toNat →
    let v := live s rd.master i.toNat j.toNat
    let o := pairOther r j.toNat
    let b := Sparse.find (s.master rd.master).buffer (objKey i.toNat j.toNat)
    (r.acc = .rc → r.ty.isLow = false → r.ty.isHigh = false → latches i.toNat j.toNat = [] →
      latchedBy i.toNat j.toNat = none →
      (s.cycleCount (objKey i.toNat j.toNat) = none →
        exec (.rcRead i j rd) s = .next ((s.put i.toNat j.toNat 0).returned v)) ∧
      (∀ c, s.cycleCount (objKey i.toNat j.toNat) = some c →
        ∃ t, exec (.rcRead i j rd) s = .next t ∧ t.resp = some { result := .accepted, value := c.before.setWidth 32 } ∧
          t.obj i.toNat j.toNat = c.alone.setWidth 32 ∧ s.keepsWords t [(i.toNat, j.toNat)] ∧ s.keepsBytes t)) ∧
    ((r.ty.isLow = true ∨ r.ty.isHigh = true) → r.acc ≠ .rc →
      (b = none → latches i.toNat j.toNat = [] → exec (.pairReadSnapshot i j rd) s =
        .next ((s.modMaster rd.master (fun x => { x with buffer := [(objKey i.toNat o, live s rd.master i.toNat o)] })).returned v)) ∧
      (∀ u, b = some u → exec (.pairReadSnapshot i j rd) s =
        .next ((s.modMaster rd.master
          (fun x => { x with buffer := x.buffer.filter (fun p => p.1 != objKey i.toNat j.toNat) })).returned u)))

/-- DOMAIN_DATA_READ within the size returns the four bytes at the offset and adds 4 to the offset. DOMAIN_DATA_WRITE of
the message buffer within its 152 bytes, while no message is being judged, stores four bytes there and adds 4.
DOMAIN_DATA_WRITE and a successful BANK_DATA_WRITE of a bank that is not the running one, with D7 ON and the offset
within the bank and not at the start of a sector, VDDIO good, clear the bits of the flash word that are 0 in the value
and add 4. (R449, R507, R811) -/
def Obligations.DomainObjectTransfers : Prop :=
  (∀ (d : DomainObject) (rd : Rd) (s : State), readPasses s rd (domainIndex d) 3 → flashOff s (domainIndex d) 3 = false →
    domainOffset s (domainIndex d) < domainSize s (domainIndex d) →
    exec (.domainDataRead d rd) s =
      .next ((s.putN (domainIndex d) 2 (domainOffset s (domainIndex d) + 4)).returned
        (domainWord s (domainIndex d) (domainOffset s (domainIndex d))))) ∧
  (∀ (w : Wr) (s : State), writePasses s w 0x2A81 3 → domainOffset s 0x2A81 < 152 → s.nat 0x2A80 1 = 0 →
    exec (.domainDataWrite .message w) s =
      .next (((storeMessage s (domainOffset s 0x2A81) (carried w 0x2A81 3)).putN 0x2A81 2
        (domainOffset s 0x2A81 + 4)).accepted w.master 0x2A81 3)) ∧
  (∀ (b : Fin 2) (w : Wr) (s : State), writePasses s w (0x3808 + b.val) 3 → s.on 7 = true →
    domainOffset s (0x3808 + b.val) < domainSize s (0x3808 + b.val) → s.nat 0x3800 4 ≠ b.val + 1 → s.sup.vddioLow = false →
    (bankBase (0x3808 + b.val) + domainOffset s (0x3808 + b.val)) % 4096 ≠ 0 →
    let a := bankBase (0x3808 + b.val) + domainOffset s (0x3808 + b.val)
    let t := ((s.putWord a (s.memWord a &&& carried w (0x3808 + b.val) 3)).putN (0x3808 + b.val) 2
      (domainOffset s (0x3808 + b.val) + 4)).accepted w.master (0x3808 + b.val) 3
    exec (.bankDataWrite b w true) s = .next t ∧
    exec (.domainDataWrite (if b = 0 then .bankA else .bankB) w) s = .next t)

/-- An accepted FIRMWARE_TABLE_COMMIT with no validation running and a count other than 0 starts one with the staged
address; FIRMWARE_TABLE_VALIDATED of a table without a failing condition whose words can be read, a cycle for each
passed, puts it in force with code 0. FIRMWARE_OBJECT_READ of a word of an entry returns the backing word as its type
shows it, 0 for a write-only one, and a pair's words by the master's buffer; FIRMWARE_OBJECT_WRITE stages a pair's low
word, and of any other word stores the value and adds one to 2020h:07h, and where NOTIFY admits it sets the entry's
bit of 2021h. Each access adds one to 2020h:08h. (R459, R460, R461, R462, R467) -/
def Obligations.FirmwareTableAndObjects : Prop :=
  (∀ (w : Wr) (s : State), writePasses s w 0x2020 2 → s.fwt.validating = none → carried w 0x2020 2 ≠ 0 →
    ∃ t, exec (.firmwareTableCommit w) s = .next t ∧
      t.fwt.validating = some (s.nat 0x2020 1, (carried w 0x2020 2).toNat) ∧ t.nat 0x2020 3 = 2 ∧
      t.nat 0x2020 2 = (carried w 0x2020 2).toNat ∧ s.keepsWords t [(0x2020, 2), (0x2020, 3)] ∧ s.keepsBytes t) ∧
  (∀ (s s1 : State) (a n : Nat), s.on 2 = true → s.fwt.validating = some (a, n) → 0 < n → n ≤ 512 → a < 4294967296 →
    tableFault s a n = 0 → readWords s (tableWords s a n) = (s1, true) → s.fwt.since + (tableWords s a n).length ≤ s.t →
    ∃ t, exec .firmwareTableValidated s = .next t ∧ t.nat 0x2020 5 = a ∧ t.nat 0x2020 6 = n ∧ t.nat 0x2020 3 = 1 ∧
      t.nat 0x2020 4 = 0 ∧ t.fwt.validating = none) ∧
  (∀ (i : BitVec 16) (j : Byte) (rd : Rd) (s s1 : State) (x : FwEntry) (r : ObjRow),
    isFirmware i.toNat = true → masterLive s rd.master = true → fwEntry s i.toNat = some x →
    fwRowOf s x j.toNat = some r → fwPrivileged s rd.master false i.toNat j.toNat = false →
    readWords (s.bump 0x2020 8 32) (fwTouched s x j.toNat r) = (s1, true) → readLength rd = false →
    exec (.firmwareObjectRead i j rd) s =
      .next ((fwReadValue s1 rd.master x i.toNat j.toNat r).2.returned (fwReadValue s1 rd.master x i.toNat j.toNat r).1) ∧
    (r.ty.isLow = false → r.ty.isHigh = false →
      fwReadValue s1 rd.master x i.toNat j.toNat r = (if r.acc = .wo then 0 else fwValue s1 x j.toNat r, s1))) ∧
  (∀ (i : BitVec 16) (j : Byte) (w : Wr) (s s1 : State) (x : FwEntry) (r : ObjRow), s.nat 0x2020 6 ≤ 512 →
    isFirmware i.toNat = true → masterLive s w.master = true → fwEntry s i.toNat = some x →
    fwRowOf s x j.toNat = some r → fwPrivileged s w.master true i.toNat j.toNat = false →
    readWords (s.bump 0x2020 8 32) (fwTouched s x j.toNat r) = (s1, true) →
    fwCheckWrite s w false i.toNat j.toNat r true = .accepted →
    let t := fwStore s1 x w i.toNat j.toNat r
    exec (.firmwareObjectWrite i j w) s = .next (t.accepted w.master i.toNat j.toNat) ∧
    (r.ty.isLow = true → t = s1.modMaster w.master (fun y => { y with
      staged := some (objKey i.toNat j.toNat, r.ty.extend w.value) })) ∧
    (r.ty.isLow = false → t.memWord (x.word j.toNat) = r.ty.extend w.value ∧
      t.nat 0x2020 7 = min (s.nat 0x2020 7 + 1) 4294967295 ∧
      (notifies x w.master = true → (t.obj 0x2021 (1 + x.place / 32)).getLsbD (x.place % 32) = true)))

/-- For every state, BEDROCK_RESET, POWER_ON_RESET and SYSTEM_RESET answer a next state with fabric time 0, the record of
class and trigger (1h and 01h; 2h and the command's trigger; 3h and the command's trigger), start-up state 0h, empty
queues and every byte of system SRAM 0. A system reset keeps every RTC word, every wake entry and the three regulator
latches, and leaves no report; a power-on reset of a trigger other than the VAUX supervisor's keeps every RTC word,
leaves no report, and leaves PORST_N asserted only where trigger 01h is held; a Bedrock reset sets the RTC words but
3300h:14h, which counts the stop it records, to their defaults. DEBUG_SYSTEM_RESET while the debug module may act is
the system reset with trigger 05h. An accepted RESET_REQUEST makes one due four cycles later, with trigger 05h from
the debug module and 03h from another master. (R55, R56, R57, R75, R92, R375, R561, R795) -/
def Obligations.ResetsRecordCauseAndRestart : Prop :=
  (∀ (s : State) (tr : Byte), ∃ t, exec (.systemReset tr) s = .next t ∧ t.now = 0 ∧ t.rtc.cause = 3 ∧ t.rtc.trigger = tr.toNat ∧
      t.obj 0x3800 1 = 0 ∧ t.raised = [] ∧ t.pool = [] ∧ (∀ a, 0x10000000 ≤ a → a < 0x10100000 → t.memByte a = 0) ∧
      (∀ j, j < 256 → t.obj 0x3300 j = s.obj 0x3300 j ∧ t.obj 0x3080 j = s.obj 0x3080 j) ∧
      (∀ j, 1 ≤ j → j ≤ 3 → t.obj 0x2D00 j = s.obj 0x2D00 j)) ∧
  (∀ (s : State) (tr : Byte) (held : Bool), ∃ t, exec (.powerOnReset tr held) s = .next t ∧ t.now = 0 ∧ t.rtc.cause = 2 ∧
      t.rtc.trigger = tr.toNat ∧ t.obj 0x3800 1 = 0 ∧ t.pool = [] ∧
      (∀ a, 0x10000000 ≤ a → a < 0x10100000 → t.memByte a = 0) ∧ t.aon.porst = (held && tr == 1) ∧
      (tr ≠ 2 → s.rtc.away = false → t.raised = [] ∧ ∀ j, j < 256 → t.obj 0x3300 j = s.obj 0x3300 j)) ∧
  (∀ s : State, ∃ t, exec .bedrockReset s = .next t ∧ t.now = 0 ∧ t.rtc.cause = 1 ∧ t.rtc.trigger = 1 ∧
      t.obj 0x3800 1 = 0 ∧ t.pool = [] ∧ (∀ a, 0x10000000 ≤ a → a < 0x10100000 → t.memByte a = 0) ∧
      (∀ j, j < 256 → j ≠ 0x14 → t.obj 0x3300 j = objDefault 0x3300 j)) ∧
  (∀ s : State, masterLive s .debug = true → ∃ t, exec .debugSystemReset s = .next t ∧ exec (.systemReset 5) s = .next t) ∧
  (∀ (w : Wr) (s : State), writePasses s w 0x3800 0x0B → exec (.resetRequest w) s =
      .next (State.accepted { s with startup := { s.startup with due := some (s.t + 4, if w.master = .debug then 5 else 3) } }
        w.master 0x3800 0x0B))

/-- XI_QUALIFIED of 100 windows in a row with 225 to 275 edges each, a millisecond after the windows began, sets
21B0h:08h; in start-up within the 20 ms it enters state 1h, XI_QUALIFY_TIMEOUT after them state 2h, and start-up is in
its state 1h. XI_LOSS of a test that fails clears 08h; in state 1h it enters state 2h, counts 21B0h:05h and reports UC
from FS0. PLL_UNLOCK in state 1h or 2h enters state 0h, counts 06h, stops the CAN and converter clocks and reports FT
from FS0. RETURN_REQUEST in state 2h returns at once when XI is qualified and is pending otherwise; in state 0h after
a loss of lock it restarts the PLL. AUTOMATIC_RETURN in state 2h with XI qualified and a return permitted or requested
enters state 1h. PLL_RELOCK within 100 µs of its request enters state 1h or 2h as XI was qualified at the request, and
starts the CAN clock and the drivers. RETURN_FAILURE of a relock past 100 µs of state 0h or a return past 100 ms
counts 07h and drops it. (R84, R85, R86, R87, R88, R89, R90) -/
def Obligations.ClockGeneratorChangesState : Prop :=
  (∀ (s : State) (edges : List Nat), 100 ≤ edges.length → (∀ n ∈ edges.drop (edges.length - 100), 225 ≤ n ∧ n ≤ 275) →
    s.clk.xiFrom + 400000 ≤ s.real →
    (clockState s = 0 → s.clk.unlocked = false → s.t ≤ 320000 → exec (.xiQualified edges) s =
      .next (clockStarted ((s.putN 0x21B0 8 1).putN 0x21B0 1 1))) ∧
    (clockState s ≠ 0 ∨ s.clk.unlocked = true ∨ 320000 < s.t → exec (.xiQualified edges) s = .next (s.putN 0x21B0 8 1))) ∧
  (∀ s : State, clockState s = 0 → s.clk.unlocked = false → 320000 ≤ s.t →
    exec .xiQualifyTimeout s = .next (clockStarted (s.putN 0x21B0 1 2))) ∧
  (∀ s : State, s.nat 0x3800 1 = 0 → (clockStarted s).nat 0x3800 1 = 1 ∧ s.keepsBytes (clockStarted s) ∧
    s.keepsWords (clockStarted s) [(0x3800, 1), (0x3800, 2), (0x3800, 3)]) ∧
  (∀ (s : State) (test : XiTest), (∀ n, test = .over n → 276 ≤ n) → (∀ n, test = .under n → n < 225) →
    (∀ n, test = .silent n → 7 ≤ n) →
    ∃ t, exec (.xiLoss test) s = .next t ∧ t.obj 0x21B0 8 = 0 ∧ t.clk.xiFrom = s.real ∧
      (clockState s = 1 → t.obj 0x21B0 1 = 2 ∧ t.nat 0x21B0 5 = min (s.nat 0x21B0 5 + 1) 65535 ∧
        t.raised = s.raised ++ [⟨s.t, 0, .uc, 0⟩]) ∧
      (clockState s ≠ 1 → s.keepsWords t [(0x21B0, 8)] ∧ t.raised = s.raised) ∧
      s.keepsWords t [(0x21B0, 8), (0x21B0, 1), (0x21B0, 5)] ∧ s.keepsBytes t) ∧
  (∀ s : State, clockState s = 1 ∨ clockState s = 2 →
    let x := ((s.putN 0x21B0 1 0).bump 0x21B0 6 16).modClk (fun c => { c with unlocked := true, relock := none, returnAt := none })
    exec .pllUnlock s = .next ((convertersAbort (canClockStop x)).report 0 .ft)) ∧
  (∀ (w : Wr) (s : State), writePasses s w 0x21B0 4 →
    let x := s.modClk (fun c => { c with xiMode := s.nat 0x21B0 2 })
    (clockState s = 2 → xiGood s = true → exec (.returnRequest w) s =
      .next (((x.putN 0x21B0 1 1).modClk (fun c => { c with returnAt := none })).accepted w.master 0x21B0 4)) ∧
    (clockState s = 2 → xiGood s = false → exec (.returnRequest w) s =
      .next ((x.modClk (fun c => { c with returnAt := some s.t })).accepted w.master 0x21B0 4)) ∧
    (clockState s = 0 → s.clk.unlocked = true → s.clk.relock = none → exec (.returnRequest w) s =
      .next ((s.modClk (fun c => { c with relock := some (s.t, xiGood s), xiMode := s.nat 0x21B0 2 })).accepted w.master 0x21B0 4))) ∧
  (∀ s : State, clockState s = 2 → xiGood s = true → (s.flag 0x21B0 3 0 = true ∨ s.clk.returnAt.isSome = true) →
    exec .automaticReturn s = .next ((s.putN 0x21B0 1 1).modClk (fun c => { c with returnAt := none }))) ∧
  (∀ (s : State) (t0 : Nat) (q : Bool), clockState s = 0 → s.clk.relock = some (t0, q) → s.t ≤ t0 + 1600 →
    exec .pllRelock s = .next (restartDrivers (canClockStart ((s.putN 0x21B0 1 (if q then 1 else 2)).modClk
      (fun c => { c with unlocked := false, relock := none, returnAt := none }))))) ∧
  (∀ (s : State) (t0 : Nat), ((∃ q, s.clk.relock = some (t0, q) ∧ t0 + 1600 ≤ s.t) ∨
      (s.clk.relock = none ∧ s.clk.returnAt = some t0 ∧ t0 + 20000000 ≤ s.t)) →
    ∃ t, exec .returnFailure s = .next t ∧ t.nat 0x21B0 7 = min (s.nat 0x21B0 7 + 1) 65535 ∧
      ((∃ q, s.clk.relock = some (t0, q)) → t.clk.relock = none) ∧ (s.clk.relock = none → t.clk.returnAt = none) ∧
      s.keepsWords t [(0x21B0, 7)] ∧ s.keepsBytes t)

/-- For every wheel and every write that passes the checks. Mode 0h stops the wheel: F_app, integral and period start
cleared, lock state off, angle kept. Mode 1h from another mode makes the lock state free, F_app being F_own from off
and the present F_app otherwise. Mode 3h with an encoder that can drive the wheel jumps to the encoder-derived angle
in lock state follow. Modes 2h and 4h make the lock state free with |F_own| from off, the encoder-derived magnitude
from encoder, F_app otherwise, and clear the loop. After each the Pilots and rails settle. A write of the frequency
word commits F_own where R99 admits it. An angle set outside follow sets angle and fraction and leaves no crossing.
MULT in modes 2h and 4h starts the loop over. S at 0 is settled within the write. (R101, R103, R112, R130, R138) -/
def Obligations.WheelWritesTakeEffect : Prop :=
  ∀ (u : Fin 8) (w : Wr) (s : State),
    (writePasses s w (wheelIdx u) 1 →
      let i := wheelIdx u
      let done := fun x : State => (settleAll ((List.range 48).foldl pilotSettle x)).accepted w.master i 1
      ((carried w i 1).toNat = 0 → exec (.wheelModeWrite u w) s = .next (done (((s.putN i 1 0).putN i 0x0B 0).modWheel u
        (fun x => { x with fapp := 0, integral := 0, start := none, loop := none })))) ∧
      ((carried w i 1).toNat = 1 → wheelMode s u ≠ 1 → exec (.wheelModeWrite u w) s = .next (done (settle
        (((s.putN i 1 1).putN i 0x0B 1).modWheel u (fun x => { x with
          fapp := if wheelMode s u = 0 then (s.wheel u).fown else wheelF s u, loop := none })) u))) ∧
      ((carried w i 1).toNat = 3 → encoderDrives s (wheelEnc s u) (wheelPP s u) = true →
        let a := phaseOf (encoderAngle s (wheelEnc s u) (wheelPP s u) (s.obj i 0x0C))
        exec (.wheelModeWrite u w) s = .next (done (((s.putN i 1 3).putN i 0x0B 5).modWheel u
          (fun x => { x with phase := a, prev := a, loop := none })))) ∧
      (∀ v, (carried w i 1).toNat = v → v = 2 ∨ v = 4 → exec (.wheelModeWrite u w) s = .next (done (settle
        (((s.putN i 1 v).putN i 0x0B 1).modWheel u (fun x => { x with
          fapp := if wheelMode s u = 0 then absI (s.wheel u).fown
            else if wheelMode s u = 3 then absI (wheelF s u) else wheelF s u,
          integral := 0, start := none, run := 0, rejects := 0, armed := false, loop := none })) u)))) ∧
    (writePasses s w (wheelIdx u) 2 →
      let i := wheelIdx u
      let v := carried w i 2
      let mag := v.toNat * 256 + s.nat i 3
      (mag = 0 ∨ (550 ≤ mag ∧ mag ≤ 5497558138)) →
      exec (.ownFrequencyCommit u w) s = .next ((settle ((s.put i 2 v).modWheel u (fun x => { x with
        fown := if s.flag i 4 0 then -(mag : Int) else mag })) u).accepted w.master i 2)) ∧
    (writePasses s w (wheelIdx u) 7 → wheelLock s u ≠ 5 → exec (.angleSet u w) s =
      .next ((s.modWheel u (fun x => { x with
        phase := phaseOf (carried w (wheelIdx u) 7), prev := phaseOf (carried w (wheelIdx u) 7) })).accepted
        w.master (wheelIdx u) 7)) ∧
    (writePasses s w (wheelIdx u) 0x0D →
      let i := wheelIdx u
      let x := s.store i 0x0D (carried w i 0x0D)
      exec (.turnsPerReferenceWrite u w) s = .next ((if wheelMode s u = 2 ∨ wheelMode s u = 4 then
        (x.modWheel u (fun y => { y with start := none, integral := 0, run := 0, rejects := 0, loop := none })).putN i 0x0B 1
        else x).accepted w.master i 0x0D))

/-- SYNCI_EDGE of a level held for the D cycles of R126 that is not the accepted one: the level is accepted (a ball below
the I/O supply's threshold reads low); of the selected polarity it counts and is a reference event, back-dated 3 + D,
of every wheel in mode 2h; of the other polarity it only sets the level. LOCK_LOOP_UPDATE of a result whose time has
come, in mode 2h or 4h, writes the phase error, the integral with its increment held to the range, F_app as R108 gives
it within the bound of R98, and the lock state: from free or glide acquire, with flag reference regained and the
integral started at 0. REFERENCE_LOST of a wheel in acquire or locked for which LF ÷ 8 × T_exp cycles have passed
since the period start, LF, MULT and |F_own| as at the last reference event, enters glide, with flag reference lost
and, from locked, lock lost, reported CE from FS1. (R98, R103, R108, R110, R111, R112, R126) -/
def Obligations.LockLoopFollowsItsReference : Prop :=
  (∀ (s : State) (rising : Bool) (held : Nat), s.on 5 = true → synciDeglitch s ≤ held →
    s.tide.synciLevel ≠ (rising && !s.sup.vddioLow) →
    let level := rising && !s.sup.vddioLow
    let x : State := { s with tide := { s.tide with synciLevel := level } }
    (level = (s.obj 0x21B2 1 == 0) → exec (.synciEdge rising held) s = .next ((List.range 8).foldl (fun y u =>
      if wheelMode y u = 2 then referenceEvent y u (3 + synciDeglitch y) else y) (x.bump 0x21B2 7 32))) ∧
    (level ≠ (s.obj 0x21B2 1 == 0) → exec (.synciEdge rising held) s = .next x)) ∧
  (∀ (u : Fin 8) (s : State) (r : LoopResult), s.shaped = true → (s.wheel u).loop = some r → r.due ≤ s.t + 1 →
    wheelMode s u = 2 ∨ wheelMode s u = 4 →
    let fresh := wheelLock s u = 1 ∨ wheelLock s u = 4
    let i0 := if wheelLock s u = 1 ∨ wheelLock s u = 4 then 0 else (s.wheel u).integral
    let int := clampI (i0 + tdiv (r.ki * r.ep) r.period) (-r.range) r.range
    ∃ t, exec (.lockLoopUpdate u) s = .next t ∧ t.obj (wheelIdx u) 0x1A = word32 r.ep ∧ (t.wheel u).integral = int ∧
      (t.wheel u).fapp = clampI (clampI (r.fper + tdiv (r.kp * r.ep) r.period + int) (r.fown - r.range) (r.fown + r.range))
        (-5497558138) 5497558138 ∧
      (t.wheel u).loop = none ∧ (t.wheel u).phase = (s.wheel u).phase ∧
      (fresh → t.flag (wheelIdx u) 0x1D 3 = true ∧ (1 < r.lockCount → wheelLock t u = 2)) ∧
      s.keepsWords t [(wheelIdx u, 0x0B), (wheelIdx u, 0x1A), (wheelIdx u, 0x1D)] ∧ s.keepsBytes t) ∧
  (∀ (u : Fin 8) (s : State) (st : Nat), (wheelLock s u = 2 ∨ wheelLock s u = 3) → (s.wheel u).start = some st →
    (s.wheel u).own ≠ 0 → (s.wheel u).lossFactor * (s.wheel u).mult * 1099511627776 ≤ (s.t - st) * 8 * (s.wheel u).own →
    exec (.referenceLost u) s = .next (settle (((s.setBits (wheelIdx u) 0x1D (if wheelLock s u = 3 then 6 else 4)).putN
      (wheelIdx u) 0x0B 4).report 1 .ce) u))

/-- ENCODER_COUNT tells levels of A and B and for how many cycles each has been stable; a level is accepted after N + 1
cycles (R114), and reads low with the I/O supply low. While the encoder is disabled or D5 is not ON the accepted
levels follow and nothing is counted. Otherwise a change of both is a count error and adds to the loss score, the
position kept; one change moves the position by one modulo CPR, forward when A leads B and the invert bit is 0. A
counted index pulse does nothing in mode 0h; captures the position in mode 1h; homes an unhomed encoder in modes 2h
and 3h; in mode 3h restores a homed position within the tolerance and is otherwise an index error that adds to the
loss score. No count for the stall time sets the count interval to 0 and the stalled flag. Enabling a disabled encoder
clears position, flags, loss score and interval; disabling it makes the wheels that follow it glide. (R113, R114,
R116, R117, R119, R120, R124, R125) -/
def Obligations.EncodersCountAndJudge : Prop :=
  (∀ (k : Fin 4) (a b : Bool) (ha hb : Nat) (s : State),
    let n := s.nat (encIdx k) 4 + 1
    let a1 := if n ≤ ha then a && !s.sup.vddioLow else (s.enc k).a
    let b1 := if n ≤ hb then b && !s.sup.vddioLow else (s.enc k).b
    let x := s.modEnc k (fun e => { e with a := a1, b := b1 })
    (s.on 5 = false ∨ s.flag (encIdx k) 1 0 = false → exec (.encoderCount k a b ha hb) s = .next x) ∧
    (s.on 5 = true → s.flag (encIdx k) 1 0 = true →
      (a1 = (s.enc k).a → b1 = (s.enc k).b → exec (.encoderCount k a b ha hb) s = .next x) ∧
      (a1 ≠ (s.enc k).a → b1 ≠ (s.enc k).b → exec (.encoderCount k a b ha hb) s =
        .next (encoderScore (x.bump (encIdx k) 0x10 16) k)) ∧
      (a1 ≠ (s.enc k).a → b1 = (s.enc k).b → exec (.encoderCount k a b ha hb) s =
        .next (encoderStep x k ((a1 != b1) != s.flag (encIdx k) 3 0))) ∧
      (a1 = (s.enc k).a → b1 ≠ (s.enc k).b → exec (.encoderCount k a b ha hb) s =
        .next (encoderStep x k ((a1 == b1) != s.flag (encIdx k) 3 0))))) ∧
  (∀ (k : Nat) (fwd : Bool) (s : State), k < 4 →
    let t := encoderStep s k fwd
    t.nat (encIdx k) 0x0C = (if fwd then (s.nat (encIdx k) 0x0C + 1) % s.nat (encIdx k) 2
      else (s.nat (encIdx k) 0x0C + s.nat (encIdx k) 2 - 1) % s.nat (encIdx k) 2) % 4294967296) ∧
  (∀ (k : Fin 4) (held : Nat) (s : State), s.on 5 = true → s.flag (encIdx k) 1 0 = true → s.sup.vddioLow = false →
    s.nat (encIdx k) 4 + 1 ≤ held → indexQualified s k = true →
    let i := encIdx k
    let cap := (s.put i 0x0D (s.obj i 0x0C)).modEnc k (fun e => { e with sinceIndex := 0 })
    let away := positionError (s.nat i 2) (s.nat i 0x0C) (s.nat i 7)
    (s.nat i 5 = 0 → exec (.indexPulse k held) s = .next s) ∧
    (s.nat i 5 = 1 ∨ (s.nat i 5 = 2 ∧ s.flag i 0x0F 0 = true) → exec (.indexPulse k held) s = .next cap) ∧
    (s.nat i 5 = 2 ∨ s.nat i 5 = 3 → s.flag i 0x0F 0 = false →
      exec (.indexPulse k held) s = .next ((cap.put i 0x0C (s.obj i 7)).setBits i 0x0F 1)) ∧
    (s.nat i 5 = 3 → s.flag i 0x0F 0 = true → away ≤ s.nat i 8 →
      exec (.indexPulse k held) s = .next (cap.put i 0x0C (s.obj i 7))) ∧
    (s.nat i 5 = 3 → s.flag i 0x0F 0 = true → s.nat i 8 < away →
      exec (.indexPulse k held) s = .next (encoderScore (cap.bump i 0x11 16) k))) ∧
  (∀ (k : Fin 4) (s : State) (c : Nat), s.on 5 = true → s.flag (encIdx k) 1 0 = true → (s.enc k).lastCount = some c →
    c + 200 * s.nat (encIdx k) 0x0A ≤ s.t → exec (.encoderStall k) s =
      .next (((s.putN (encIdx k) 0x0E 0).setBits (encIdx k) 0x0F 4).modEnc k
        (fun e => { e with lastCount := none, rest := true }))) ∧
  (∀ (k : Fin 4) (w : Wr) (s : State), writePasses s w (encIdx k) 1 →
    let i := encIdx k
    (carried w i 1 = 1 → s.flag i 1 0 = false → ∃ t, exec (.encoderEnable k w) s = .next t ∧ t.nat i 1 = 1 ∧
      t.nat i 0x0C = 0 ∧ t.nat i 0x0F = 0 ∧ t.nat i 0x12 = 0 ∧ t.nat i 0x0E = 0 ∧
      s.keepsWords t [(i, 1), (i, 0x0C), (i, 0x0F), (i, 0x12), (i, 0x0E)] ∧ s.keepsBytes t) ∧
    (carried w i 1 = 0 → s.flag i 1 0 = true → exec (.encoderEnable k w) s =
      .next (((dropFollowers s k).putN i 1 0).accepted w.master i 1)))

/-- MARK_FIRE of an armed mark that its wheel crosses in an admitted direction and that has not fired in this cycle fires
it by its repeat rule: once clears EN, every crossing keeps it, every Nth fires at the Nth crossing only, step
advances A. A firing counts, and its action is due two cycles later, or is discarded and counted where its target is
missing. MARK_CATCH_UP that is due fires and steps again and counts the wheel's catch-ups. A control word that R135
and R144 admit is stored, restarts the repeat count and acts from the next cycle: the old word acts in this one.
ANGLE_CAPTURE that is due latches the angle of each wheel named. MARK_UNIT_ENABLE sets the enable; 1 starts a stopped
unit, 0 stops a running one, at once when nothing is in flight. (R134, R136, R138, R139, R140, R141, R142, R143, R145,
R146, R151) -/
def Obligations.MarksFireAndAct : Prop :=
  (∀ (m : Fin 1024) (s : State) (back : Bool), markArmed s m = true → markCrossing s m = some back →
    (s.mark m).fired ≠ some s.t →
    (fieldN (markCtl s m) 10 2 = 0 → exec (.markFire m) s =
      .next (rewriteMark (fireMark s m back) m 0 (BitVec.ofNat 32 (markCtl s m - markCtl s m % 2)))) ∧
    (fieldN (markCtl s m) 10 2 = 1 → exec (.markFire m) s = .next (fireMark s m back)) ∧
    (fieldN (markCtl s m) 10 2 = 2 → (s.mark m).count + 1 = fieldN (markCtl s m) 12 20 → exec (.markFire m) s =
      .next ((fireMark s m back).modMark m (fun x => { x with count := 0 }))) ∧
    (fieldN (markCtl s m) 10 2 = 2 → (s.mark m).count + 1 ≠ fieldN (markCtl s m) 12 20 → (s.mark m).written ≠ s.t →
      exec (.markFire m) s =
      .next (s.modMark m (fun x => { x with count := (s.mark m).count + 1, fired := some s.t }))) ∧
    (fieldN (markCtl s m) 10 2 = 3 → exec (.markFire m) s = .next (stepMark (fireMark s m back) m back))) ∧
  (∀ (m : Nat) (s : State) (back : Bool), m < 1024 →
    let a : MarkAct := {
      due := s.t + 2, mark := m, code := markCode s m, target := markWord s m 2,
      arg := markWord s m 3, angle := (s.wheel (markWheel s m)).angle, back := back, wheel := markWheel s m }
    let t := fireMark s m back
    t.nat 0x21A0 7 = min (s.nat 0x21A0 7 + 1) 4294967295 ∧ (t.mark m).fired = some s.t ∧
    (actionMissing s a = false → t.tide.acts = s.tide.acts ++ [a] ∧ s.keepsWords t [(0x21A0, 7)]) ∧
    (actionMissing s a = true → t.tide.acts = s.tide.acts ∧ t.nat 0x21A0 6 = min (s.nat 0x21A0 6 + 1) 65535 ∧
      s.keepsWords t [(0x21A0, 7), (0x21A0, 6)]) ∧ s.keepsBytes t) ∧
  (∀ (m : Fin 1024) (s : State) (back : Bool), markArmed s m = true → fieldN (markCtl s m) 10 2 = 3 →
    (s.mark m).catchUp = some (s.t, back) → (s.mark m).fired ≠ some s.t → exec (.markCatchUp m) s =
      .next ((stepMark (fireMark s m back) m back).bump (wheelIdx (markWheel s m)) 0x1C 16)) ∧
  (∀ (m : Fin 1024) (w : Wr) (s : State), writePasses s w (markIdx m) (markSub m 0) →
    let v := carried w (markIdx m) (markSub m 0)
    let rep := fieldN v.toNat 10 2
    let arg := fieldN v.toNat 12 20
    fieldN v.toNat 4 4 ≤ 8 → fieldN v.toNat 8 2 ≠ 3 → (rep = 2 → arg ≠ 0) → (rep = 3 → 1 ≤ arg ∧ arg ≤ 524287) →
    exec (.markControlWrite m w) s = .next (((writeMark s m 0 v).modMark m
      (fun x => { x with count := 0 })).accepted w.master (markIdx m) (markSub m 0))) ∧
  (∀ (m : Nat) (k : Nat) (v : Word) (s : State), m < 1024 → k < 4 → (s.mark m).written ≠ s.t →
    let t := writeMark s m k v
    t.obj (markIdx m) (markSub m k) = v ∧ markWord t m k = s.obj (markIdx m) (markSub m k) ∧
      s.keepsWords t [(markIdx m, markSub m k)]) ∧
  (∀ s : State, dueActions s 8 ≠ [] →
    let x := takeActions s (dueActions s 8)
    exec .angleCapture s = .next ((bitsSet 8 (targetMask (dueActions s 8))).foldl
      (fun y u => y.put (wheelIdx u) 0x1E (y.wheel u).angle) x)) ∧
  (∀ (w : Wr) (s : State), writePasses s w 0x21A0 1 →
    (carried w 0x21A0 1 = 1 → s.nat 0x21A0 2 = 0 → exec (.markUnitEnable w) s =
      .next (((s.put 0x21A0 1 1).putN 0x21A0 2 1).accepted w.master 0x21A0 1)) ∧
    (carried w 0x21A0 1 = 0 → s.nat 0x21A0 2 = 1 → exec (.markUnitEnable w) s =
      .next (((s.put 0x21A0 1 0).putN 0x21A0 2 (if s.tide.fifo = [] ∧ s.tide.acts = [] then 0 else 2)).accepted
        w.master 0x21A0 1)))

/-- When actions of a code are due and no action that comes before them waits, the command of that code takes them all and
acts once on each unit that the union of their masks names: converters, channels, rails, tables; with none due it
changes nothing. The first request due enters the FIFO of 64, whose fill and high water follow (MARK_TASK_ACTIVATION,
MARK_QUEUE_POST). MARK_FIFO_POST takes the oldest out: an activation goes to the Foreman as a request of source 0, a
post to the queue bound to role 0 of its task, and is counted where there is none. A SYNCO action with source 2h
starts a pulse in this cycle; SYNCO_TURN_CROSSING with source 1h and V crossings made, one that rises two cycles
later; SYNCO_PULSE_END once the width has passed ends it and puts a changed source in force. (R127, R128, R129, R143,
R146, R147, R148, R184, R262, R271) -/
def Obligations.MarkActionsReachTheirUnits : Prop :=
  (∀ s : State,
    let x := fun k : Nat => takeActions s (dueActions s k)
    let mask := fun k : Nat => targetMask (dueActions s k)
    (dueActions s 1 ≠ [] → exec .converterTrigger s = .next ((bitsSet 4 (mask 1)).foldl (fun y k => trigger y k 2) (x 1))) ∧
    (dueActions s 2 ≠ [] → exec .senseSnapshot s = .next ((bitsSet 64 (mask 2 +
      argMask (dueActions s 2) * 4294967296)).foldl snapshotChannel (x 2))) ∧
    (dueActions s 3 ≠ [] → exec .bandApply s = .next (settleAll ((bitsSet 12 (mask 3)).foldl applyDemand (x 3)))) ∧
    (dueActions s 4 ≠ [] → exec .tableSample s = .next (settleAll ((bitsSet 8 (mask 4)).foldl
      (fun y f => sampleTable y f (sampleAngle (dueActions s 4) f)) (x 4)))) ∧
    (dueActions s 1 = [] → exec .converterTrigger s = .next s) ∧ (dueActions s 2 = [] → exec .senseSnapshot s = .next s) ∧
    (dueActions s 3 = [] → exec .bandApply s = .next s) ∧ (dueActions s 4 = [] → exec .tableSample s = .next s) ∧
    (dueActions s 7 ≠ [] →
      (s.tide.syncoSource = 2 → s.tide.syncoRise = none → exec .syncoPulse s = .next { x 7 with tide := { (x 7).tide with
        syncoRise := some s.t, syncoEnd := some (s.t + ceilDiv (s.nat 0x21B2 6) 5) } }) ∧
      (s.tide.syncoSource ≠ 2 → exec .syncoPulse s = .next (x 7)))) ∧
  (∀ s : State, s.on 5 = true → s.tide.syncoSource = 1 → s.nat 0x21B2 5 ≤ s.tide.turnCount → s.tide.syncoRise = none →
    exec .syncoTurnCrossing s = .next { s with tide := { s.tide with
      turnCount := 0, syncoRise := some (s.t + 2),
      syncoEnd := some (s.t + 2 + ceilDiv (s.nat 0x21B2 6) 5) } }) ∧
  (∀ (s : State) (e : Nat), s.tide.syncoEnd = some e → e ≤ s.t → exec .syncoPulseEnd s =
    .next { s with tide := { s.tide with syncoRise := none, syncoEnd := none, syncoSource := s.nat 0x21B2 3 } }) ∧
  (∀ (s : State) (a : MarkAct), firstPost s = some a → s.tide.fifo.length < 64 →
    let x := takeActions s [a]
    let n := s.tide.fifo.length + 1
    let inn := (({ x with tide := { x.tide with fifo := s.tide.fifo ++ [a] } } : State).putN 0x21A0 3 n).highWater 0x21A0 4 n
    (a.code = 5 → exec .markTaskActivation s = .next inn) ∧ (a.code = 6 → exec .markQueuePost s = .next inn)) ∧
  (∀ (s : State) (a : MarkAct) (rest : List MarkAct), s.on 5 = true → s.cyc.markHanded = false → s.tide.fifo = a :: rest →
    let x := ({ s with tide := { s.tide with fifo := rest }, cyc := { s.cyc with markHanded := true } } : State).putN 0x21A0 3 rest.length
    let task := a.target.toNat % 64
    (a.code = 5 → exec .markFifoPost s = .next (requestActivation x task 0 (activationRecord task 0 a.angle a.mark a.wheel a.back))) ∧
    (a.code ≠ 5 → postToRole x 0 task 0 (markEntry a) = none → exec .markFifoPost s = .next (x.bump 0x21A0 6 16)) ∧
    (∀ y, a.code ≠ 5 → postToRole x 0 task 0 (markEntry a) = some y → exec .markFifoPost s = .next y))

/-- For every state whose mark FIFO holds 64 requests, the first post or activation request that is due is taken from the
actions and does not enter the FIFO: 21A0h:05h adds one, and a report of source FS2 is raised in the class R132 gives
it, uncorrected and contained. Nothing else changes. (R149) -/
def Obligations.FullMarkFifoDropsRequests : Prop :=
  ∀ (s : State) (a : MarkAct), firstPost s = some a → 64 ≤ s.tide.fifo.length →
    (a.code = 5 ∨ a.code = 6) →
    ∃ t, exec (if a.code = 5 then .markTaskActivation else .markQueuePost) s = .next t ∧ t.tide.fifo = s.tide.fifo ∧
      t.tide.acts = s.tide.acts.filter (fun b => !([a].contains b)) ∧
      t.nat 0x21A0 5 = min (s.nat 0x21A0 5 + 1) 65535 ∧ t.raised = s.raised ++ [⟨s.t, 2, .uc, 0⟩] ∧
      s.keepsWords t [(0x21A0, 5)] ∧ s.keepsBytes t ∧ { t with od := s.od, raised := s.raised, tide := s.tide, cyc := s.cyc } = s

/-- FAST_RESULT_DELIVERY on a channel that acquires or is good: in mode 1h the bit captured D cycles after its SCK period
rose, in mode 2h the value of a mid-bit transition, enters the filters (a pad without its supply reads 0). x of the
fast order and ratio over the newest 766 bits is in flight for three cycles; the delivery due then writes it, sets the
fast-valid bit of a good channel and hands it to the zero-crossing detectors, phases and voltage watches before rails
settle. PRECISION_RESULT, four cycles after the bit, writes y of a decimation bit, its engineering value and its time,
and sets the precision-valid bit where the filter is full. MANCHESTER_CODING_ERROR with no transition accepted for
more than 1.25 bit times counts, scores and flags the error, and at the error limit fails the channel. STREAM_SILENCE
past four bit times fails it with its flags, its valid bits cleared, reported UC from its group's source. (R158, R159,
R162, R166, R167, R168, R173, R174, R180, R182) -/
def Obligations.SenseChannelsConvertBits : Prop :=
  (∀ (c : Fin 64) (bit : Bool) (s : State), s.on 5 = true → (senseStatus s c = 1 ∨ senseStatus s c = 2) → senseMode s c = 1 →
    let d := s.nat (senseIdx c) 2
    let k := c.val / 8
    d ≤ s.t → sckPlace s k (s.t - d) = 0 → (s.chan c).from' + d ≤ s.t → s.sckFrom.getD k 0 + d ≤ s.t →
    (s.chan c).bitTime ≠ s.t →
    exec (.fastResultDelivery c (.captured bit)) s = .next (afterBit s (senseBit s c (bit && !s.sup.vddioLow)) c)) ∧
  (∀ (c : Fin 64) (rising : Bool) (s : State), s.on 5 = true → senseMode s c = 2 → s.sup.vddioLow = false →
    (senseStatus s c = 1 ∨ senseStatus s c = 2) → transitionMissed s c = false →
    let x := s.modChan c (fun z => { z with edge := some s.t })
    (midBit s c = true → exec (.fastResultDelivery c (.transition rising)) s = .next (afterBit s
      (senseBit (x.modChan c (fun z => { z with sync := true, taken := s.t })) c rising) c)) ∧
    (midBit s c = false → exec (.fastResultDelivery c (.transition rising)) s = .next (afterBit s x c))) ∧
  (∀ (c : Fin 64) (s : State) (due : Nat) (x : Int) (sat wide : Bool), s.on 5 = true →
    (s.chan c).flight = some (due, x, sat, wide) → due ≤ s.t →
    exec (.fastResultDelivery c .delivered) s = .next (toConsumers (deliverFast (markWindows s c) c due x sat wide) c)) ∧
  (∀ (c : Nat) (bit : Bool) (s : State), c < 64 → s.sense.length = 64 →
    let h := (bit :: (s.chan c).hist).take 766
    let t := senseBit s c bit
    (t.chan c).hist = h ∧ (t.chan c).bits = (s.chan c).bits + 1 ∧ (t.chan c).bitTime = s.t ∧
    (t.chan c).flight.map (fun f => (f.1, f.2.1)) = some (s.t + 3, filterResult (fastOrder s c) (fastRatio s c) h)) ∧
  (∀ (c due : Nat) (x : Int) (sat wide : Bool) (s : State), c < 64 → s.sense.length = 64 →
    let t := deliverFast s c due x sat wide
    t.obj (senseIdx c) 0x10 = word32 x ∧ (t.chan c).flight = none ∧
    (senseStatus s c = 2 → t.flag (senseIdx c) 0x0F 0 = true)) ∧
  (∀ (c : Fin 64) (s : State) (y : Int) (bt at' : Nat) (valid : Bool), s.on 5 = true →
    (s.chan c).prec = some (at', some (y, bt), valid) → at' ≤ s.t →
    let x := s.modChan c (fun z => { z with prec := none })
    let x := if valid then x.setBits (senseIdx c) 0x0F 2 else x
    let x := ((x.putI (senseIdx c) 0x11 y).putI (senseIdx c) 0x12 (engValue x c y)).put (senseIdx c) 0x13 (BitVec.ofNat 32 bt)
    exec (.precisionResult c) s = .next (settleAll (gaugePrecision (sagCheck (pathPrecision x c) c) c))) ∧
  (∀ (c : Fin 64) (s : State), s.on 5 = true → senseMode s c = 2 → (senseStatus s c = 1 ∨ senseStatus s c = 2) →
    (s.chan c).sync = true → (s.chan c).taken + 5 * s.nat (senseIdx c) 3 / 4 < s.t →
    exec (.manchesterCodingError c) s = .next (afterBit s (codingError s c) c)) ∧
  (∀ (c : Nat) (s : State), c < 64 → s.sense.length = 64 →
    let t := codingError s c
    t.nat (senseIdx c) 0x1B = min (s.nat (senseIdx c) 0x1B + 1) 65535 ∧ t.flag (senseIdx c) 0x1A 2 = true ∧
    t.nat (senseIdx c) 0x0F = 0 ∧ (t.chan c).sync = false ∧
    ((s.chan c).errLimit ≤ min (s.nat (senseIdx c) 0x1C + 1) 255 → senseStatus t c = 3 ∧ t.flag (senseIdx c) 0x1A 5 = true)) ∧
  (∀ (c : Fin 64) (s : State), s.on 5 = true → senseMode s c = 2 → (senseStatus s c = 1 ∨ senseStatus s c = 2) →
    max ((s.chan c).edge.getD 0) (s.chan c).from' + 4 * s.nat (senseIdx c) 3 ≤ s.t →
    exec (.streamSilence c) s = .next (afterBit s (((((s.putN (senseIdx c) 0x0E 3).setBits (senseIdx c) 0x1A 40).putN
      (senseIdx c) 0x0F 0).modChan c (fun z => { z with prec := none })).report (8 + c / 8) .uc (c % 8)) c))

/-- SCK_ENABLE of 1 to a stopped group stores it, and SCKk starts at the next cycle in which it rises; of 0 with no
channel of the group in mode 1h it is stored. SENSE_MODE_WRITE of 0h moves a channel to stopping with its valid bits
clear, and on to off when no evaluation is in flight; of 1h or 2h starts a channel in mode 0h with cleared filters,
mode 1h needing a running group clock and a capture delay below N. SENSE_RESTART restarts a failed channel and is
ignored otherwise. GAIN_COMMIT stores the gain, which takes effect with the staged offset from the next cycle. A zero
written to the SCK enable while a channel of the group runs is discarded with result 4h. (R158, R161, R170, R171,
R183, R191) -/
def Obligations.SenseWritesTakeEffect : Prop :=
  (∀ (k : Fin 8) (w : Wr) (s : State), writePasses s w (sckIdx k) 1 →
    let v := carried w (sckIdx k) 1
    (v = 1 → s.flag (sckIdx k) 1 0 = false → exec (.sckEnable k w) s =
      .next (({ s.put (sckIdx k) 1 1 with sckFrom := modAt s.sckFrom k (fun _ => sckStart s k) } : State).accepted
        w.master (sckIdx k) 1)) ∧
    (v = 1 → s.flag (sckIdx k) 1 0 = true → exec (.sckEnable k w) s =
      .next ((s.put (sckIdx k) 1 1).accepted w.master (sckIdx k) 1)) ∧
    (v = 0 → groupClocked s k = false → exec (.sckEnable k w) s =
      .next ((s.put (sckIdx k) 1 0).accepted w.master (sckIdx k) 1)) ∧
    (v = 0 → groupClocked s k = true → exec (.sckEnable k w) s =
      .next (endWrite s w.master (sckIdx k) 1 .state { result := .state, value := 0 }))) ∧
  (∀ (k : Nat) (s : State), 0 < s.nat (sckIdx k) 2 → s.t < sckStart s k ∧ sckPlace s k (sckStart s k) = 0 ∧
    sckStart s k ≤ s.t + s.nat (sckIdx k) 2) ∧
  (∀ (c : Fin 64) (w : Wr) (s : State), writePasses s w (senseIdx c) 1 →
    let i := senseIdx c
    let v := (carried w i 1).toNat
    let done := fun x : State => (validChanged (gaugeRestart x c) c).accepted w.master i 1
    (v = 0 → senseMode s c ≠ 0 → exec (.senseModeWrite c w) s =
      .next (done (senseStopped ((((s.putN i 1 0).putN i 0x0E 4).putN i 0x0F 0).modChan c (fun x => { x with prec := none })) c))) ∧
    (v = 1 ∨ v = 2 → senseMode s c = 0 → senseStatus s c ≠ 4 →
      (v = 1 → s.flag (sckIdx (c / 8)) 1 0 = true ∧ s.nat i 2 < s.nat (sckIdx (c / 8)) 2) →
      exec (.senseModeWrite c w) s = .next (done (startAcquiring (s.putN i 1 v) c)))) ∧
  (∀ (c : Nat) (s : State), c < 64 → s.sense.length = 64 →
    let t := startAcquiring s c
    senseStatus t c = 1 ∧ t.nat (senseIdx c) 0x0F = 0 ∧ (t.chan c).hist = [] ∧ (t.chan c).bits = 0 ∧
    s.keepsWords t [(senseIdx c, 0x0E), (senseIdx c, 0x0F), (senseIdx c, 0x1C)] ∧ s.keepsBytes t) ∧
  (∀ (c : Fin 64) (w : Wr) (s : State), writePasses s w (senseIdx c) 0x0D →
    (senseStatus s c = 3 → exec (.senseRestart c w) s =
      .next ((validChanged (gaugeRestart (startAcquiring s c) c) c).accepted w.master (senseIdx c) 0x0D)) ∧
    (senseStatus s c ≠ 3 → exec (.senseRestart c w) s = .next (s.accepted w.master (senseIdx c) 0x0D))) ∧
  (∀ (c : Fin 64) (w : Wr) (s : State), writePasses s w (senseIdx c) 0x0B →
    exec (.gainCommit c w) s = .next ((settleAll (((takePair s c).put (senseIdx c) 0x0B (carried w (senseIdx c) 0x0B)).modChan c
      (fun x => { x with commit := some s.t }))).accepted w.master (senseIdx c) 0x0B)) ∧
  (∀ (c : Nat) (s : State) (t0 : Nat), (s.chan c).commit = some t0 → t0 < s.t →
    chanOffset s c = s.int (senseIdx c) 0x0A ∧ chanGain s c = s.int (senseIdx c) 0x0B)

/-- With D5 ON, the minimum time elapsed, no blind condition due and no park ending a falling state: PHASE_TRANSITION with
the band condition met ends the state; FORCED_EDGE past the maximum hold with the band condition unmet ends it too,
counted and flagged unless a park request takes the edge's place. Without a park request the state that ends is
followed by the other one of rising and falling. PHASE_PARK parks a phase with a park request from its falling state,
or from its rising state at the band or the maximum hold; PHASE_UNPARK returns a parked phase whose request is
withdrawn and whose grant stands to its falling state. Entering a state puts both gate commands at 0, and the incoming
command after the dead time, which DEAD_TIME_END asserts. Rails and path settle after each. (R202, R203, R204, R205,
R206, R207, R208, R231, R232, R237) -/
def Obligations.PhasesSwitchByTheirBands : Prop :=
  (∀ (p : Fin 48) (s : State), s.on 5 = true → switching (phaseState s p) = true → minElapsed s p = true →
    blindDue s p = false → ((s.phase p).park = false ∨ phaseState s p ≠ fallingState s p) →
    (bandMet s p = true → exec (.phaseTransition p) s = .next (settleAll (endState s p false))) ∧
    (bandMet s p = false → holdPassed s p = true →
      ((s.phase p).park = false → exec (.forcedEdge p) s =
        .next (settleAll (endState ((s.bump (phaseIdx p) 0x1E 16).setBits (phaseIdx p) 0x1A 4) p true))) ∧
      ((s.phase p).park = true → exec (.forcedEdge p) s = .next (settleAll (endState s p true))))) ∧
  (∀ (p : Nat) (forced : Bool) (s : State), p < 48 → s.phases.length = 48 → (s.phase p).park = false →
    (phaseState s p = risingState s p → phaseState (endState s p forced) p = fallingState s p) ∧
    (phaseState s p ≠ risingState s p → phaseState (endState s p forced) p = risingState s p)) ∧
  (∀ (p : Fin 48) (s : State), s.on 5 = true → (s.phase p).park = true → switching (phaseState s p) = true →
    minElapsed s p = true → blindDue s p = false →
    phaseState s p = fallingState s p ∨ bandMet s p = true ∨ holdPassed s p = true →
    exec (.phasePark p) s = .next (settleAll (enterPhase s p 4))) ∧
  (∀ (p : Fin 48) (s : State), s.on 5 = true → phaseState s p = 4 → (s.phase p).park = false → (s.phase p).grant = true →
    exec (.phaseUnpark p) s = .next (settleAll (enterPhase s p (fallingState s p)))) ∧
  (∀ (p : Nat) (st : Nat) (s : State), p < 48 → s.phases.length = 48 → st < 9 →
    let t := enterPhase s p st
    phaseState t p = st ∧ (t.phase p).gh = false ∧ (t.phase p).gl = false ∧ (t.phase p).entry = s.t + 1 ∧
    (t.phase p).dead = (if st = 2 ∧ gateUse s p ≠ 2 then some (s.t + 1 + s.nat (phaseIdx p) 5, true)
      else if st = 3 ∧ gateUse s p ≠ 1 then some (s.t + 1 + s.nat (phaseIdx p) 6, false) else none)) ∧
  (∀ (p : Fin 48) (s : State) (due : Nat) (up : Bool), s.on 5 = true → (s.phase p).dead = some (due, up) → due ≤ s.t →
    exec (.deadTimeEnd p) s = .next (s.modPhase p (fun x => { x with gh := x.gh || up, gl := x.gl || !up, dead := none })))

/-- GATE_FAULT_INPUT of 10 ns or more holds GFp_N low and sets the latch of a phase that is not disabled; below 2 ns it
does nothing; between, the spec leaves the outcome open and a free value decides. GATE_FAULT_SEEN from the next cycle
counts, flags and reports the fault UC and gives the phase cause 3h: with an empty record CAUSE is set and the phase
trips. GATE_RELEASE with VDDIO good reads GFp_N high from now, and with D5 ON an idle phase with a grant may leave
idle. PHASE_REARM of a tripped phase with OWNER 1h whose delay has passed and conditions hold, no rail taking it over,
clears the latch, adds an attempt, clears CAUSE and resumes. REARM_WINDOW_EXPIRY clears attempts and owner.
REARM_COMMAND of a tripped or locked-out phase with the conditions met clears the record and resumes it. (R218, R219,
R221, R224, R225, R226, R228, R230) -/
def Obligations.GateFaultsTripAndRearm : Prop :=
  (∀ (p : Fin 48) (ns : Nat) (s : State),
    (10 ≤ ns → exec (.gateFaultInput p ns) s = .next (latchGateFault (s.modPhase p (fun x => { x with gf := false })) p)) ∧
    (ns < 2 → exec (.gateFaultInput p ns) s = .next s) ∧
    (2 ≤ ns → ns < 10 → exec (.gateFaultInput p ns) s =
      .next (if s.freshWord.1.getLsbD 0 then latchGateFault s.freshWord.2 p else s.freshWord.2))) ∧
  (∀ (p : Nat) (s : State), p < 48 → s.phases.length = 48 → phaseState s p ≠ 0 →
    ((latchGateFault s p).phase p).latch = true ∧ gateHigh (latchGateFault s p) p = false ∧
    gateLow (latchGateFault s p) p = false) ∧
  (∀ (p : Fin 48) (s : State), s.on 5 = true → (s.phase p).unseen = true → (s.phase p).latchAt < s.t →
    let x := ((s.modPhase p (fun x => { x with unseen := false })).bump (phaseIdx p) 0x20 16).setBits (phaseIdx p) 0x1A 2
    exec (.gateFaultSeen p) s = .next (settleAll (phaseFault (x.report (16 + p / 8) .uc (p % 8)) p 3))) ∧
  (∀ (p c : Nat) (s : State), p < 48 → 0 < c → c < 16 → switching (phaseState s p) = true → recCause s p = 0 →
    recOwner s p < 2 → phaseMode s p ≠ 2 → recAttempts s p < s.nat (phaseIdx p) 0x13 →
    let t := phaseFault s p c
    phaseState t p = 6 ∧ recCause t p = c ∧ recOwner t p = 1 ∧ t.obj (phaseIdx p) 0x19 = lo32 s.now) ∧
  (∀ (p : Fin 48) (s : State), (s.phase p).gf = false → s.sup.vddioLow = false →
    let x := s.modPhase p (fun x => { x with gf := true, gfSince := s.t })
    (s.on 5 = true → exec (.gateRelease p) s = .next (settleAll (idleCheck x p))) ∧
    (s.on 5 = false → exec (.gateRelease p) s = .next x)) ∧
  (∀ (p : Fin 48) (s : State), s.on 5 = true → phaseState s p = 6 → recOwner s p = 1 →
    (s.phase p).entry + 200 * s.nat (phaseIdx p) 0x12 ≤ s.t → rearmReady s p = true →
    (∀ m ∈ membershipsOf s p, takeoverDue s m.1 m.2 = false) →
    exec (.phaseRearm p) s = .next (settleAll (resumePhase
      ((setRec (setRec s p 16 8 (min 255 (recAttempts s p + 1))) p 24 4 0).modPhase p (fun x => { x with
        latch := false, unseen := false, window := true, ran := 0, ranFrom := none })) p))) ∧
  (∀ (p : Fin 48) (s : State), s.on 5 = true → (s.phase p).window = true →
    200000 * s.nat (phaseIdx p) 0x14 ≤ ranUntil (s.phase p) s.t → exec (.rearmWindowExpiry p) s =
    .next (settleAll ((setRec (setRec s p 16 8 0) p 28 4 0).modPhase p (fun x => { x with
      window := false, ran := 0, ranFrom := none })))) ∧
  (∀ (p : Fin 48) (w : Wr) (s : State), writePasses s w (phaseIdx p) 0x16 → phaseState s p = 6 ∨ phaseState s p = 7 →
    rearmReady s p = true → exec (.rearmCommand p w) s =
      .next ((settleAll (resumePhase (clearPhaseRecord s p) p)).accepted w.master (phaseIdx p) 0x16))

/-- PHASE_MODE_WRITE of 0h takes the disable path; of 1h or 2h on a disabled, admitted phase, manual only for a phase of
no running rail, enters idle or manual, and is discarded with result 4h on a phase that is not disabled.
MANUAL_COMMANDS_WRITE stores the commands and in manual puts them in force; it never stores both. PILOT_ENABLE of 0
turns the Pilot off with its trim and integral at 0; of 1 on a Pilot that is off it enters acquire, or hold while the
phase does not switch. MISSING_EDGE at a forward crossing of the slot angle after one without a leading edge between
counts it, and a Pilot in acquire or locked goes to acquire. (R212, R213, R234, R238, R242, R243) -/
def Obligations.PhaseModeAndPilot : Prop :=
  (∀ (p : Fin 48) (w : Wr) (s : State), writePasses s w (phaseIdx p) 1 →
    let i := phaseIdx p
    let v := (carried w i 1).toNat
    (v = 0 → exec (.phaseModeWrite p w) s = .next ((settleAll (disablePhase s p)).accepted w.master i 1)) ∧
    (v ≠ 0 → phaseState s p = 0 → s.phaseAdmitted p = true → (v = 2 → memberOf s p = none) →
      exec (.phaseModeWrite p w) s = .next ((settleAll (leaveDisabled s p v)).accepted w.master i 1)) ∧
    (v ≠ 0 → phaseState s p ≠ 0 → exec (.phaseModeWrite p w) s =
      .next (endWrite s w.master i 1 .state { result := .state, value := 0 }))) ∧
  (∀ (p : Nat) (s : State), p < 48 → s.phases.length = 48 → phaseState s p ≠ 0 →
    let t := disablePhase s p
    phaseState t p = 0 ∧ phaseMode t p = 0 ∧ pilotState t p = 0 ∧ t.obj (phaseIdx p) 0x18 = 0 ∧
    (t.phase p).gh = false ∧ (t.phase p).gl = false ∧ (t.phase p).latch = false) ∧
  (∀ (p : Fin 48) (w : Wr) (s : State), writePasses s w (phaseIdx p) 0x1C →
    let i := phaseIdx p
    let v := carried w i 0x1C
    v.toNat % 4 ≠ 3 → exec (.manualCommandsWrite p w) s = .next ((if phaseState s p = 8 then
      manualCommands (s.store i 0x1C v) p (v.toNat % 4) else s.store i 0x1C v).accepted w.master i 0x1C)) ∧
  (∀ (p : Fin 48) (w : Wr) (s : State), writePasses s w (phaseIdx p) 0x23 →
    let i := phaseIdx p
    let x := s.put i 0x23 (carried w i 0x23)
    (carried w i 0x23 = 0 → exec (.pilotEnable p w) s = .next ((((pilotTo x p 0 0).put i 0x2E 0).put i 0x2F 0 |>.modPhase p
      (fun y => { y with clampRun := 0, clampSaid := false })).accepted w.master i 0x23)) ∧
    (carried w i 0x23 ≠ 0 → pilotState s p = 0 → exec (.pilotEnable p w) s = .next ((pilotSettle (pilotTo x p
      (if switching (phaseState s p) then 2 else 1) 0) p).accepted w.master i 0x23))) ∧
  (∀ (p : Fin 48) (s : State), s.on 5 = true →
    crossesFwd (s.wheel (s.nat (phaseIdx p) 0x2B)).prevAngle (s.wheel (s.nat (phaseIdx p) 0x2B)).angle
      (s.obj (phaseIdx p) 0x2C) = true → (s.phase p).crossedAt ≠ some s.t →
    let x := s.modPhase p (fun y => { y with crossed := true, crossedAt := some s.t })
    (((s.phase p).crossed = false ∨ switching (phaseState s p) = false ∨ pilotState s p < 2) →
      exec (.missingEdge p) s = .next x) ∧
    ((s.phase p).crossed = true → switching (phaseState s p) = true → pilotState s p = 2 ∨ pilotState s p = 3 →
      exec (.missingEdge p) s = .next (pilotTo (x.bump (phaseIdx p) 0x31 16) p 2 (if pilotState s p = 3 then 64 else 0))))

/-- Out of Harbour, RAIL_START of a stopped rail with no failing condition starts it; with a failing condition the first
one's code is shown with its flag and the write ends with 4h. Code 0 means: an accepted member count, every member
admitted and in mode 1h, no wheel of it off, a unit available. RAIL_STOP stops the rail: status and mode 0h, every
unit SHED with weight 0. RAIL_WIND_DOWN of a running rail, out of Harbour, makes it wind down, and a start of a rail
that winds down makes it run again. A start of a running rail is accepted without effect; a start in Harbour, and a
wind-down in Harbour or of a stopped rail, end with 4h. Rails and path settle after each. (R254, R255, R257, R258,
R706) -/
def Obligations.RailsStartStopAndWindDown : Prop :=
  (∀ (r : Fin 12) (w : Wr) (s : State), writePasses s w (railIdx r) 1 →
    let i := railIdx r
    let v := (carried w i 1).toNat
    (v = 1 → inHarbour s = false → railStatus s r = 0 → startCode s r = 0 → exec (.railStart r w) s =
      .next ((settleAll (startRail s r)).accepted w.master i 1)) ∧
    (∀ c, v = 1 → inHarbour s = false → railStatus s r = 0 → startCode s r = c → c ≠ 0 → exec (.railStart r w) s =
      .next (endWrite ((s.putN i 0x0A c).setBits i 0x0C 1) w.master i 1 .state { result := .state, value := 0 })) ∧
    (v = 1 → inHarbour s = false → railStatus s r = 1 → exec (.railStart r w) s = .next (s.accepted w.master i 1)) ∧
    (v = 1 → inHarbour s = false → railStatus s r = 2 → exec (.railStart r w) s = .next ((settleAll
      (((s.putN i 9 1).putN i 1 1).modRail r (fun x => { x with shedHeld := {}, recallHeld := {} }))).accepted w.master i 1)) ∧
    (v = 1 → inHarbour s = true → exec (.railStart r w) s =
      .next (endWrite s w.master i 1 .state { result := .state, value := 0 })) ∧
    (v = 2 → inHarbour s = true ∨ railStatus s r = 0 → exec (.railWindDown r w) s =
      .next (endWrite s w.master i 1 .state { result := .state, value := 0 })) ∧
    (v = 0 → exec (.railStop r w) s = .next ((settleAll (stopRail s r)).accepted w.master i 1)) ∧
    (v = 2 → inHarbour s = false → railStatus s r ≠ 0 → exec (.railWindDown r w) s =
      .next ((settleAll (windRail s r)).accepted w.master i 1))) ∧
  (∀ (r : Nat) (s : State), startCode s r = 0 →
    countAccepted (railKind s r) (memberCount s r) = true ∧
    (∀ p ∈ railMembers s r, s.phaseAdmitted p = true ∧ phaseMode s p = 1) ∧ wheelMode s (s.nat (railIdx r) 3) ≠ 0 ∧
    availUnits s r ≠ [] ∧ pathAllows s r = true) ∧
  (∀ (r : Nat) (s : State), r < 12 → railStatus s r ≠ 0 →
    let t := stopRail s r
    railStatus t r = 0 ∧ t.nat (railIdx r) 1 = 0 ∧ t.obj (railIdx r + 4) 0x13 = 0 ∧ (∀ i, i < 16 → weightOf t r i = 0)) ∧
  (∀ (r : Nat) (s : State), r < 12 → railStatus s r = 1 → railStatus (windRail s r) r = 2)

/-- DEMAND_COMMIT is noted; the next cycle takes the set staged then, and its end makes that set pending and new, counting
an overwritten one. APPLY_COMMAND acts in the next cycle: of a rail that is not stopped it applies the pending totals
and gains, counts the apply and, when the set was not new, flags and counts it as stale; a second apply of the cycle
adds nothing. SWAP_REQUEST with none pending swaps a disabled table's banks at once, counted, and marks the swap
pending on an enabled table; with one pending it does nothing. TABLE_BANK_WRITE of a word outside the active bank of
an enabled table with no swap pending is stored; otherwise it is counted and ends with 4h. (R261, R262, R264, R273,
R274) -/
def Obligations.DemandSetsAndTables : Prop :=
  (∀ (r : Fin 12) (w : Wr) (s : State), writePasses s w (railIdx r + 3) 4 →
    exec (.demandCommit r w) s = .next ((s.modRail r (fun y => { y with commit := true })).accepted w.master (railIdx r + 3) 4)) ∧
  (∀ (r : Fin 12) (w : Wr) (s : State), writePasses s w (railIdx r) 0x0B →
    exec (.applyCommand r w) s = .next ((s.modRail r (fun y => { y with applyNext := true })).accepted w.master (railIdx r) 0x0B)) ∧
  (∀ (r : Nat) (s : State), (s.rail r).act = 0 → (s.rail r).verdicts = [] →
    let x := fun set : Option (List Int × List Int) => s.modRail r (fun y => { y with
      commit := false, coming := set, act := 0, applyNext := false, verdicts := [] })
    ((s.rail r).commit = true → (s.rail r).applyNext = false → railBegin s r = x (some
      ((List.range 3).map (fun h => s.int (railIdx r + 3) (1 + h)),
       (List.range 4).map (fun b => s.int (railIdx r + 5) (3 + 6 * b))))) ∧
    ((s.rail r).commit = false → (s.rail r).applyNext = true → railBegin s r = applyDemand (x (s.rail r).coming) r)) ∧
  (∀ (r : Nat) (s : State) (d g : List Int), r < 12 → s.rails.length = 12 → (s.rail r).coming = some (d, g) →
    let t := commitEnd s r
    (t.rail r).new = true ∧ (t.rail r).pend = d ∧ (t.rail r).pendGain = g ∧ (t.rail r).coming = none ∧
    t.nat (railIdx r + 3) 0x0D = (if (s.rail r).new then min (s.nat (railIdx r + 3) 0x0D + 1) 65535 else s.nat (railIdx r + 3) 0x0D)) ∧
  (∀ (r : Nat) (s : State), r < 12 → s.rails.length = 12 → railStatus s r ≠ 0 →
    ((s.rail r).appliedAt = some s.t → applyDemand s r = s) ∧
    ((s.rail r).appliedAt ≠ some s.t →
      let t := applyDemand s r
      (∀ h, h < 3 → t.obj (railIdx r + 3) (5 + h) = word32 ((s.rail r).pend.getD h 0)) ∧
      (∀ b, b < 4 → t.obj (railIdx r + 5) (0x19 + b) = word32 ((s.rail r).pendGain.getD b 0)) ∧
      t.nat (railIdx r + 3) 0x0B = min (s.nat (railIdx r + 3) 0x0B + 1) 4294967295 ∧ (t.rail r).new = false ∧
      ((s.rail r).new = false → t.flag (railIdx r) 0x0C 5 = true))) ∧
  (∀ (f : Fin 8) (w : Wr) (s : State), writePasses s w (tableIdx f) 3 → s.flag (tableIdx f) 5 0 = true →
    exec (.swapRequest f w) s = .next (s.accepted w.master (tableIdx f) 3)) ∧
  (∀ (f : Fin 8) (w : Wr) (s : State), writePasses s w (tableIdx f) 3 → s.flag (tableIdx f) 5 0 = false →
    (s.flag (tableIdx f) 1 0 = true → exec (.swapRequest f w) s =
      .next ((s.putN (tableIdx f) 5 1).accepted w.master (tableIdx f) 3)) ∧
    (s.flag (tableIdx f) 1 0 = false → ∃ t, exec (.swapRequest f w) s = .next t ∧
      t.nat (tableIdx f) 2 = 1 - s.nat (tableIdx f) 2 ∧ t.obj (tableIdx f) 5 = 0 ∧
      t.nat (tableIdx f) 7 = min (s.nat (tableIdx f) 7 + 1) 65535 ∧
      s.keepsWords t [(tableIdx f, 2), (tableIdx f, 5), (tableIdx f, 7)] ∧ s.keepsBytes t ∧ s.keepsRest t)) ∧
  (∀ (f : Fin 8) (b : Fin 2) (e : Fin 512) (w : Wr) (s : State) (row : ObjRow),
    let i := 0x2500 + 16 * f.val + 4 * b.val + e.val / 128
    let j := 1 + e.val % 128
    writePasses s w i j → objRow i j = some row → row.acc = .rw → s.cycleCount (objKey i j) = none →
    let refused := s.flag (tableIdx f) 5 0 = true ∨ (s.flag (tableIdx f) 1 0 = true ∧ s.nat (tableIdx f) 2 = b.val)
    (¬ refused → exec (.tableBankWrite f b e w) s = .next ((s.store i j (carried w i j)).accepted w.master i j)) ∧
    (refused → exec (.tableBankWrite f b e w) s =
      .next (endWrite (s.bump (tableIdx f) 9 16) w.master i j .state { result := .state, value := 0 })))

/-- A unit moves at most once in a cycle. RAMP_TICK that is due moves the weight of a unit in RECALL up by one, or of a
unit in TAPER down by one, or with a ramp time of 0 to the end of its ramp, and schedules the next; at weight 256 a
recalled unit becomes ACTIVE, and at weight 0 a tapered unit asks its members to park. UNIT_SHED of a TAPER unit that
has asked and whose members all rest counts it and enters SHED. SHED_DECISION with its condition held through its
delay after the dwell starts to taper the highest ACTIVE unit; RECALL_DECISION so recalls the lowest available unit in
SHED, and in shed mode 0h every available unit of SHED or TAPER. Entering a unit state sets its members' codes, and
SHED their weights to 0. (R279, R281, R283, R285) -/
def Obligations.UnitsShedAndReturn : Prop :=
  (∀ (r : Fin 12) (u : Fin 16) (s : State) (due : Nat) (jump : Bool), s.on 5 = true → railStatus s r ≠ 0 →
    mayMove s r u = true → (s.rail r).ramps.getD u none = some (due, jump) → due ≤ s.t →
    let w := weightOf s r (u * railGroups s r)
    let x := fun st goal w' : Nat => settleAll ((setUnitWeight s r u w').modRail r (fun x => { x with
      moved := modAt x.moved u (fun _ => s.t + 1),
      ramps := modAt x.ramps u (fun _ => if w' = goal then none else nextRamp s r st due) }))
    (unitState s r u = 1 → exec (.rampTick r u) s = .next (x 1 256 (if jump then 256 else w + 1))) ∧
    (unitState s r u = 3 → exec (.rampTick r u) s = .next (x 3 0 (if jump then 0 else w - 1)))) ∧
  (∀ (r u : Nat) (s : State), mayMove s r u = true →
    (unitState s r u = 1 → weightOf s r (u * railGroups s r) = 256 →
      completeUnit s r u = (enterUnit s r u 2).setBits (railIdx r) 0x0C 4) ∧
    (unitState s r u = 3 → weightOf s r (u * railGroups s r) = 0 → (s.rail r).parks.getD u false = false →
      completeUnit s r u = setUnitPark s r u true)) ∧
  (∀ (r : Fin 12) (u : Fin 16) (s : State), s.on 5 = true → railStatus s r ≠ 0 → unitState s r u = 3 →
    mayMove s r u = true → (s.rail r).parks.getD u false = true →
    (∀ i ∈ unitMembers s r u, phaseState s (memberPhase s r i) ∈ [1, 4, 5, 6, 7]) →
    exec (.unitShed r u) s = .next (settleAll ((enterUnit (s.bump (railIdx r + 4) 0x16 32) r u 0).setBits (railIdx r) 0x0C 2))) ∧
  (∀ (r : Fin 12) (u : Nat) (s : State), s.on 5 = true → slowReady s r = true → dwellEnd s r ≤ s.t → mayMove s r u = true →
    let delay := fun j : Nat => if s.nat (railIdx r + 4) 1 = 1 then 200 * s.nat (railIdx r + 4) j else 0
    ((unitsIn s r 2).getLast? = some u → shedWanted s r = true → delay 8 ≤ (s.rail r).shedHeld.held s.t →
      exec (.shedDecision r) s = .next (settleAll ((enterUnit s r u 3).modRail r (fun x => { x with shedHeld := {} })))) ∧
    (s.nat (railIdx r + 4) 1 ≠ 0 → (shedAvailable s r).head? = some u → recallWanted s r = true →
      delay 9 ≤ (s.rail r).recallHeld.held s.t →
      exec (.recallDecision r) s = .next (settleAll ((recallUnit s r u).modRail r (fun x => { x with recallHeld := {} }))))) ∧
  (∀ (r : Fin 12) (s : State), s.on 5 = true → railStatus s r = 1 → s.nat (railIdx r + 4) 1 = 0 →
    let us := (unitsIn s r 0 ++ unitsIn s r 3).filter (fun u => unitAvail s r u && mayMove s r u)
    us ≠ [] → exec (.recallDecision r) s = .next (settleAll (us.foldl (fun y u => recallUnit y r u) s))) ∧
  (∀ (r u st : Nat) (s : State), r < 12 → st < 4 → memberCount s r ≤ 16 →
    (∀ i ∈ unitMembers s r u, fieldN ((enterUnit s r u st).nat (railIdx r + 4) 0x13) (2 * i) 2 = st) ∧
    (st = 0 → ∀ i ∈ unitMembers s r u, weightOf (enterUnit s r u st) r i = 0))

/-- SUPERVISION_CLASSIFY takes the member's oldest measurement that is two cycles old, classifies it and lets the rails
settle; with none it changes nothing. With Δx the measured and Δp the predicted change, and the flat and tolerance
bounds of R307: a change against the prediction beyond the flat bound is class 6h; within the flat bound 4h or 5h as
the result lies near the offset or not; above the upper bound 3h; below the lower bound 2h; otherwise 1h. Class 1h
takes one off each score, down to 0; class 4h of a state that was not forced adds one to the open score. (R304, R307,
R308, R309, R311) -/
def Obligations.MeasurementsAreClassified : Prop :=
  (∀ (r : Fin 12) (i : Fin 16) (s : State) (m : Measure),
    s.measures.find? (fun m => m.rail == r.val && m.member == i.val && decide (m.d + 2 ≤ s.t)) = some m →
    exec (.supervisionClassify r i) s = .next (settleAll (classify { s with measures := s.measures.erase m } m))) ∧
  (∀ (r : Fin 12) (i : Fin 16) (s : State), (∀ m ∈ s.measures, m.rail = r.val → m.member = i.val → s.t < m.d + 2) →
    exec (.supervisionClassify r i) s = .next s) ∧
  (∀ (s : State) (m : Measure),
    let dx := m.xb - m.xa
    let dp := (m.vl * s.nat (svIdx m.rail) 2 * m.wn).tdiv (2 ^ 40)
    let P : Int := dp.natAbs
    let D : Int := dx.natAbs
    let flat := (s.nat (svIdx m.rail) 8 * P) / 256
    let tol := (s.nat (svIdx m.rail) 6 * P) / 256 + s.nat (svIdx m.rail) 7
    let o := chanOffset s (phaseChan s (memberPhase s m.rail m.member))
    let against := dx ≠ 0 ∧ signI dx ≠ signI dp ∧ flat < D
    (against → classOf s m = 6) ∧
    (¬ against → D ≤ flat → classOf s m = if ((m.xb - o).natAbs : Int) ≤ s.nat (svIdx m.rail) 9 then 4 else 5) ∧
    (¬ against → flat < D → P + tol < D → classOf s m = 3) ∧
    (¬ against → flat < D → D ≤ P + tol → D < P - tol → classOf s m = 2) ∧
    (¬ against → flat < D → D ≤ P + tol → P - tol ≤ D → classOf s m = 1)) ∧
  (∀ (s : State) (m : Measure), m.rail < 12 → m.member < 16 →
    (∀ k, k ∈ [0, 8, 16] → score (applyClass s m 1) m.rail m.member k = score s m.rail m.member k - 1) ∧
    (m.forced = false → score (applyClass s m 4) m.rail m.member 0 = min (score s m.rail m.member 0 + 1) 255) ∧
    (applyClass s m 2 = s))

/-- BLIND_GRACE_EXPIRY earns a blind member verdict 3h once per run. VOLTAGE_CHANNEL_LOST past the grace qualifies cause
6h once; REGULATION_TIMEOUT past its time qualifies cause 5h once. RAIL_TAKEOVER that is due earns verdict 4h, counts
it and makes the rail the owner of the phase's fault. MEMBER_RELEASE releases each named member in order of position;
CLEAR_RECORD clears the rail fault record and its time and nothing else. A verdict earned in one cycle comes into
force in the next: it stands in its word, excludes the member, and is reported UC. (R311, R313, R322, R323, R329,
R334, R345) -/
def Obligations.SupervisionActsAndReleases : Prop :=
  (∀ (r : Fin 12) (i : Fin 16) (s : State) (f : Nat), s.on 5 = true → i.val < memberCount s r →
    ((s.rail r).members.getD i {}).blindFrom = some f → ((s.rail r).members.getD i {}).blindDone = false →
    f + 200 * s.nat (svIdx r) 0x0B ≤ s.t → exec (.blindGraceExpiry r i) s =
    .next (noteVerdict (s.modRail r (fun x => { x with
      members := modAt x.members i (fun m => { m with blindDone := true }) })) r i 3 (s.t + 1))) ∧
  (∀ (r : Fin 12) (c : Fin 64) (s : State) (f : Nat), s.on 5 = true → watchRuns s r = true →
    (s.rail r).lost.find? (fun e => e.1 == c.val) = some (c.val, f, false) → f + 200 * s.nat (svIdx r) 0x0B ≤ s.t →
    exec (.voltageChannelLost r c) s = .next (settleAll (qualify (s.modRail r (fun x => { x with
      lost := x.lost.map (fun e => if e.1 = c.val then (e.1, e.2.1, true) else e) })) r [6]))) ∧
  (∀ (r : Fin 12) (s : State), s.on 5 = true → regOutside s r = true → railStatus s r = 1 → (s.rail r).regDone = false →
    200000 * s.nat (svIdx r + 1) 8 ≤ (s.rail r).reg.held s.t → exec (.regulationTimeout r) s =
    .next (settleAll (qualify (s.modRail r (fun x => { x with regDone := true })) r [5]))) ∧
  (∀ (r : Fin 12) (i : Fin 16) (s : State), s.on 5 = true → takeoverDue s r i = true → exec (.railTakeover r i) s =
    .next (settleAll (takeOwner ((noteVerdict s r i 4 (s.t + 1)).bump (svIdx r + 2) 0x13 16) (memberPhase s r i)))) ∧
  (∀ (r : Fin 12) (w : Wr) (s : State),
    (writePasses s w (svIdx r + 4) 2 → exec (.memberRelease r w) s = .next ((settleAll
      ((bitsSet 16 (carried w (svIdx r + 4) 2).toNat).foldl (fun y i => releaseMember y r i) s)).accepted
      w.master (svIdx r + 4) 2)) ∧
    (writePasses s w (svIdx r + 2) 0x0C → exec (.clearRecord r w) s = .next (((s.put (svIdx r + 2) 0x0A 0).put
      (svIdx r + 2) 0x0B 0).accepted w.master (svIdx r + 2) 0x0C))) ∧
  (∀ (r i c d : Nat) (s : State), (s.rail r).act = 0 → (s.rail r).applyNext = false → (s.rail r).commit = false →
    (s.rail r).verdicts = [(d, i, c)] → d ≤ s.t → c ≠ 5 →
    railBegin s r = giveVerdict (s.modRail r (fun y => { y with
      commit := false, coming := (s.rail r).coming, act := 0, applyNext := false, verdicts := [] })) r i c) ∧
  (∀ (r i c : Nat) (s : State), r < 12 → i < 16 → 1 ≤ c → c ≤ 4 → verdict s r i = 0 →
    let t := giveVerdict s r i c
    verdict t r i = c ∧ t.flag (svIdx r + 4) 1 i = true ∧ t.raised = s.raised ++ [⟨s.t, 24 + r, .uc, i⟩] ∧
    s.keepsWords t [(svIdx r + 3, 1 + i), (svIdx r + 4, 1), (svIdx r + 2, 0x0D)] ∧ s.keepsBytes t)

/-- For every rail, write and state: a write of 1h to SV + 4h:03h that meets no condition of R444 sets the saturation cap
of every group to 134 217 727, and rails and power path then settle; a write of any other value that its master can
make changes no object word but the counts of 2010h, and no byte of memory, for a master that is no engine. The cycle
after the write is the model's next command. (R336) -/
def Obligations.SaturationReleaseSetsTheCaps : Prop :=
  ∀ (r : Fin 12) (w : Wr) (s : State),
    (writePasses s w (svIdx r + 4) 3 → carried w (svIdx r + 4) 3 = 1 ∧
      exec (.saturationRelease r w) s = .next ((settleAll
        (((s.putN (svIdx r + 2) 4 134217727).putN (svIdx r + 2) 5 134217727).putN (svIdx r + 2) 6 134217727)).accepted
        w.master (svIdx r + 4) 3) ∧
      ∀ h, h < 3 → ((((s.putN (svIdx r + 2) 4 134217727).putN (svIdx r + 2) 5 134217727).putN (svIdx r + 2) 6 134217727).nat
        (svIdx r + 2) (4 + h) = 134217727)) ∧
    (carried w (svIdx r + 4) 3 ≠ 1 → (∀ e u, w.master ≠ .engine e u) → ∃ t, exec (.saturationRelease r w) s = .next t ∧
      s.keepsWords t [(0x2010, 3), (0x2010, 4), (0x2010, 5)] ∧ s.keepsBytes t ∧ s.keepsRest t)

/-- On an engine that executes: TANG writes the angle of wheel rs1[2:0] when D5 is ON and, in user mode, the PMP lets the
load pass, and otherwise takes a load access fault at the angle's address; TREACH writes 1 when rs1 − rs2, read as
signed, is at least 0, and 0 otherwise; QMUL writes the product of two Q16.16 values, rounded to nearest with ties
away from zero and limited to 32 bits. Each changes no engine but its own, adds 4 to the pc and, unless mcountinhibit
stops it, one to the retired count. A write of x0 is discarded, and x0 reads as zero. (R349, R354, R355, R359, R362,
R364, R54) -/
def Obligations.EngineInstructionsWriteTheirRegister : Prop :=
  (∀ (e : Fin 16) (rd rs1 rs2 : Fin 32) (s : State), engineRuns s e = true →
    let g := s.eng e
    let a := g.reg rs1
    let b := g.reg rs2
    let w := a.toNat % 8
    let puts := fun v : Word => s.modEng e (fun g => { g.setReg rd v with
      pc := g.pc + 4, minstret := if g.inhibit.getLsbD 2 then g.minstret else g.minstret + 1 })
    (s.on 5 = true → (g.user = true → pmpAllows g true .load (0x40840018 + w * 0x4000) = true) →
      exec (.tang e rd rs1) s = .next (puts (s.wheel w).angle)) ∧
    (s.on 5 = false ∨ (g.user = true ∧ pmpAllows g true .load (0x40840018 + w * 0x4000) = false) →
      exec (.tang e rd rs1) s = .next (raiseException s e 5 (BitVec.ofNat 32 (0x40840018 + w * 0x4000)))) ∧
    exec (.treach e rd rs1 rs2) s = .next (puts (if 0 ≤ (a - b).toInt then 1 else 0)) ∧
    exec (.qmul e rd rs1 rs2) s = .next (puts (word32 (clamp32 (roundDiv (a.toInt * b.toInt) 65536))))) ∧
  (∀ (g : Engine) (v : Word), g.setReg 0 v = g ∧ g.reg 0 = 0) ∧
  (∀ (g : Engine) (v : Word) (n : Nat), 0 < n → n < g.x.length → (g.setReg n v).reg n = v ∧
    ∀ m, m ≠ n → (g.setReg n v).reg m = g.reg m) ∧
  (∀ n : Int, |2 * (roundDiv n 65536 * 65536 - n)| ≤ 65536)

/-- For every engine, taking a trap saves the pc in mepc, the cause (with bit 31 for an interrupt) in mcause and the value
in mtval, moves MIE to MPIE and clears it, puts the mode in MPP, enters machine mode at the base of mtvec (for an
interrupt with mode 1 at base + 4 × cause), and clears the reservation and any wait. INTERRUPT_TRAP of an engine that
executes or waits, D2 ON, with an interrupt pending and taken, which its wait does not complete on, traps on the first
pending cause with mtval 0. A synchronous exception also counts one in 2700h + e:06h. (R355, R353, R361, R378, R406) -/
def Obligations.EngineTrapSavesAndVectors : Prop :=
  (∀ (g : Engine) (interrupt : Bool) (cause : Nat) (v : Word), cause < 2147483648 →
    let t := g.trap interrupt cause v
    t.mepc = g.pc ∧ t.mcause.toNat = cause + (if interrupt then 2147483648 else 0) ∧ t.mtval = v ∧ t.user = false ∧
    t.mstatus.getLsbD 7 = g.mstatus.getLsbD 3 ∧ t.mstatus.getLsbD 3 = false ∧
    fieldN t.mstatus.toNat 11 2 = (if g.user then 0 else 3) ∧ t.reservation = none ∧ t.wait = .none ∧ t.x = g.x ∧
    t.pc = (if interrupt = true ∧ g.mtvec.getLsbD 0 = true then (g.mtvec &&& 0xFFFFFFFC) + BitVec.ofNat 32 (4 * cause)
      else g.mtvec &&& 0xFFFFFFFC)) ∧
  (∀ (e : Fin 16) (s : State) (c : Nat) (l : List Nat), s.on 2 = true → engineCode s e = 1 ∨ engineCode s e = 2 →
    (s.eng e).takesInterrupts = true → waitCompletes s e = false → pendingInterrupts s e = c :: l →
    exec (.interruptTrap e) s = .next (s.modEng e (fun g => g.trap true c 0))) ∧
  (∀ (e : Nat) (cause : Nat) (v : Word) (s : State), e < 16 →
    let t := raiseException s e cause v
    t.nat (0x2700 + e) 6 = min (s.nat (0x2700 + e) 6 + 1) 4294967295 ∧
    s.keepsWords t [(0x2700 + e, 5), (0x2700 + e, 6)] ∧ s.keepsBytes t ∧
    ∀ k, k ≠ e → t.eng k = s.eng k)

/-- On an engine that executes, at an aligned address in its own D-TCM or system SRAM that the PMP lets pass and whose
word reads without error: LR.W loads the word and reserves it; SC.W with a standing reservation stores rs2 and writes
0, otherwise writes 1 and stores nothing, and in both cases ends the reservation; an AMO writes its operation's result
of the word and rs2, with rd the word read. A misaligned address is an exception of cause 4 (LR) or 6, an aligned
address elsewhere one of cause 7. RESERVATION_TIMEOUT 256 cycles after the LR.W ends the reservation. A word written
by any master ends every reservation of it. (R349, R351, R352, R353) -/
def Obligations.AtomicOperationsWork : Prop :=
  (∀ (e : Fin 16) (rd rs1 rs2 : Fin 32) (op : AmoOp) (s : State) (r : Region) (a : Nat), engineRuns s e = true →
    let g := s.eng e
    let p := (g.reg rs1).toNat
    p % 4 = 0 → atomicTarget e p = some (r, a) →
    (pmpAllows g g.accessUser .load p = true → eccRead s r a = (s, true) → exec (.lrW e rd rs1) s =
      .next ((s.modEng e (fun g => { g with reservation := some (a, s.t) })).modEng e
        (fun g => (g.setReg rd (s.memWord a)).retire))) ∧
    (pmpAllows g g.accessUser .store p = true →
      (reserved s e a = true → exec (.scW e rd rs1 rs2) s = .next ((memStore s a (g.reg rs2)).modEng e
        (fun g => { (g.setReg rd 0).retire with reservation := none }))) ∧
      (reserved s e a = false → exec (.scW e rd rs1 rs2) s = .next (s.modEng e
        (fun g => { (g.setReg rd 1).retire with reservation := none })))) ∧
    (pmpAllows g g.accessUser .load p = true → pmpAllows g g.accessUser .store p = true → eccRead s r a = (s, true) →
      exec (.amo e op rd rs1 rs2) s = .next ((memStore s a (amoValue op (s.memWord a) (g.reg rs2))).modEng e
        (fun g => (g.setReg rd (s.memWord a)).retire)))) ∧
  (∀ (e : Fin 16) (rd rs1 rs2 : Fin 32) (op : AmoOp) (s : State), engineRuns s e = true →
    let v := (s.eng e).reg rs1
    (v.toNat % 4 ≠ 0 → exec (.lrW e rd rs1) s = .next (raiseException s e 4 v) ∧
      exec (.scW e rd rs1 rs2) s = .next (raiseException s e 6 v) ∧
      exec (.amo e op rd rs1 rs2) s = .next (raiseException s e 6 v)) ∧
    (v.toNat % 4 = 0 → atomicTarget e v.toNat = none → exec (.lrW e rd rs1) s = .next (raiseException s e 7 v) ∧
      exec (.scW e rd rs1 rs2) s = .next (raiseException s e 7 v) ∧
      exec (.amo e op rd rs1 rs2) s = .next (raiseException s e 7 v))) ∧
  (∀ (e : Fin 16) (s : State) (a t0 : Nat), (s.eng e).reservation = some (a, t0) → t0 + 256 ≤ s.t →
    exec (.reservationTimeout e) s = .next (s.modEng e (fun g => { g with reservation := none }))) ∧
  (∀ (s : State) (a : Nat) (v : Word), a % 4 = 0 →
    (memStore s a v).memWord a = v ∧ (∀ x, x < a ∨ a + 4 ≤ x → (memStore s a v).memByte x = s.memByte x) ∧
    (∀ g ∈ (memStore s a v).engines, ∀ t0, g.reservation ≠ some (a, t0)))

/-- On an engine that executes and may wait: QWAIT, whose queues the PMP in user mode lets it read, writes the lowest
running queue of its mask that holds an entry, or 20h with an interrupt pending while MIE is 0, or waits from now; WFI
retires and waits until an interrupt is pending. QWAIT_WAKE gives a waiting QWAIT the ready queue or 20h, lets a
waiting QPOP pop once its queue has an entry, stops running, or an interrupt is held, and ends a waiting WFI for an
interrupt that is not taken. QWAIT_TIMEOUT past a timeout other than 0, with nothing else to end the wait, gives 21h.
In user mode with TW at 1 both are illegal instructions. (R359, R360, R361, R362, R363, R389, R406) -/
def Obligations.EnginesWaitAndWake : Prop :=
  (∀ (e : Fin 16) (rd rs1 rs2 : Fin 32) (s : State), engineRuns s e = true → waitForbidden (s.eng e) = false →
    let g := s.eng e
    let mask := g.reg rs1
    (g.user = true → ∀ q, q < 32 → mask.getLsbD q = true → pmpAllows g true .load (0x50000008 + q * 0x100) = true) →
    (∀ q, readyQueue s mask = some q → exec (.qwait e rd rs1 rs2) s =
      .next (s.modEng e (fun g => (g.setReg rd (BitVec.ofNat 32 q)).retire))) ∧
    (readyQueue s mask = none → heldInterrupt s e = true → exec (.qwait e rd rs1 rs2) s =
      .next (s.modEng e (fun g => (g.setReg rd 0x20).retire))) ∧
    (readyQueue s mask = none → heldInterrupt s e = false → exec (.qwait e rd rs1 rs2) s =
      .next (s.modEng e (fun g => { g with wait := .qwait rd mask (g.reg rs2).toNat s.t })))) ∧
  (∀ (e : Fin 16) (s : State), engineRuns s e = true → waitForbidden (s.eng e) = false → exec (.wfi e) s =
    .next (s.modEng e (fun g => { g.retire with wait := if pendingInterrupts s e = [] then .wfi else .none }))) ∧
  (∀ (e : Fin 16) (rd rs1 rs2 : Fin 32) (s : State), engineRuns s e = true → waitForbidden (s.eng e) = true →
    exec (.wfi e) s = .next (raiseException s.freshWord.2 e 2 s.freshWord.1) ∧
    exec (.qwait e rd rs1 rs2) s = .next (raiseException s.freshWord.2 e 2 s.freshWord.1)) ∧
  (∀ (e : Fin 16) (s : State), engineCode s e = 2 →
    (∀ rd mask n since, (s.eng e).wait = .qwait rd mask n since →
      (∀ q, readyQueue s mask = some q → exec (.qwaitWake e) s =
        .next (s.modEng e (fun g => { (g.setReg rd (BitVec.ofNat 32 q)).retire with wait := .none }))) ∧
      (readyQueue s mask = none → heldInterrupt s e = true → exec (.qwaitWake e) s =
        .next (s.modEng e (fun g => { (g.setReg rd 0x20).retire with wait := .none }))) ∧
      (readyQueue s mask = none → heldInterrupt s e = false → n ≠ 0 → since + n ≤ s.t → exec (.qwaitTimeout e) s =
        .next (s.modEng e (fun g => { (g.setReg rd 0x21).retire with wait := .none })))) ∧
    (∀ rd q, (s.eng e).wait = .qpop rd q → popTaken s q = false →
      queueRuns s q = false ∨ popLevel s q ≠ 0 ∨ heldInterrupt s e = true → exec (.qwaitWake e) s =
        .next (finishPop s e rd q)) ∧
    ((s.eng e).wait = .wfi → (s.eng e).takesInterrupts = false → pendingInterrupts s e ≠ [] → exec (.qwaitWake e) s =
      .next (s.modEng e (fun g => { g with wait := .none })))) ∧
  (∀ (s : State) (mask : Word) (q : Nat), readyQueue s mask = some q →
    q < 32 ∧ mask.getLsbD q = true ∧ queueRuns s q = true ∧ queueLevel s q ≠ 0 ∧
    ∀ p, p < q → mask.getLsbD p = true → queueRuns s p = true → queueLevel s p = 0)

/-- A push onto a running queue with room is accepted, stores the entry in the pool at the write count and adds one to the
count; onto a full one it is dropped, or under the overwrite policy takes the place of the oldest entry, and the loss
is counted and flagged; a queue that does not run rejects it, counted and flagged. A pop of a running queue with an
entry pushed in an earlier cycle returns the entry at the read count and adds one to it; a pop of another queue
returns nothing and is counted. QUEUE_POST, once in a cycle, pushes the oldest post of the producer whose turn it is.
QUEUE_ENABLE of 1 on a stopped queue that fits starts it, of 0 stops it; one that does not fit is counted and ends
with 4h. QUEUE_FLUSH empties a stopped queue and is refused otherwise. (R384, R385, R387, R388, R389, R394, R817) -/
def Obligations.QueuesHoldEntriesInOrder : Prop :=
  (∀ (s : State) (q : Nat) (d : DWord) (f : PushFrom), q < 32 →
    let o := queuePush s q d f
    let i := queueIdx q
    (queueRuns s q = true → queueLevel s q < s.nat i 3 → o.1 = true ∧ o.2.obj i 0x12 = s.obj i 0x12 + 1 ∧
      o.2.obj i 0x13 = s.obj i 0x13 ∧ Sparse.get poolDefault o.2.pool (poolSlot s q (s.obj i 0x12)) = d ∧
      (∀ k, k ≠ poolSlot s q (s.obj i 0x12) → Sparse.get poolDefault o.2.pool k = Sparse.get poolDefault s.pool k)) ∧
    (queueRuns s q = true → s.nat i 3 ≤ queueLevel s q →
      (s.nat i 4 = 0 → o.1 = false ∧ o.2.pool = s.pool ∧ o.2.flag i 0x11 1 = true ∧ s.keepsWords o.2 [(i, 0x0D), (i, 0x11)]) ∧
      (s.nat i 4 ≠ 0 → o.1 = true ∧ o.2.obj i 0x12 = s.obj i 0x12 + 1 ∧ o.2.obj i 0x13 = s.obj i 0x13 + 1 ∧
        o.2.flag i 0x11 2 = true ∧ Sparse.get poolDefault o.2.pool (poolSlot s q (s.obj i 0x12)) = d)) ∧
    (queueRuns s q = false → o.1 = false ∧ o.2.flag i 0x11 3 = true ∧ o.2.pool = s.pool ∧
      s.keepsWords o.2 [(i, 0x10), (i, 0x11)])) ∧
  (∀ (s : State) (q : Nat), q < 32 →
    let o := queuePop s q
    let i := queueIdx q
    (queueRuns s q = true → popLevel s q ≠ 0 → o.1 = some (Sparse.get poolDefault s.pool (poolSlot s q (s.obj i 0x13))) ∧
      o.2.obj i 0x13 = s.obj i 0x13 + 1 ∧ o.2.pool = s.pool ∧ s.keepsWords o.2 [(i, 0x13), (i, 0x0C)]) ∧
    (queueRuns s q = false ∨ popLevel s q = 0 → o.1 = none ∧ o.2.nat i 0x0F = min (s.nat i 0x0F + 1) 65535 ∧
      o.2.pool = s.pool ∧ s.keepsWords o.2 [(i, 0x0F)])) ∧
  (∀ (s : State) (p : Post) (rest : List Post), s.on 2 = true → s.cyc.posts = [] → nextPost s = some (p, rest) →
    exec .queuePost s = .next (queuePush { s with
      postNet := rest, postTurn := p.src, cyc := { s.cyc with posts := [p.queue] } } p.queue p.entry
        (if p.quiet then .collector else .network)).2) ∧
  (∀ (s : State) (p : Post) (rest : List Post), s.postNet = p :: rest → p.src < 10 → (∀ x ∈ rest, x.src = p.src) →
    nextPost s = some (p, rest)) ∧
  (∀ (q : Fin 32) (w : Wr) (s : State),
    (writePasses s w (queueIdx q) 1 →
      (carried w (queueIdx q) 1 = 1 → s.nat (queueIdx q) 8 = 1 → exec (.queueEnable q w) s =
        .next (s.accepted w.master (queueIdx q) 1)) ∧
      (carried w (queueIdx q) 1 = 1 → s.nat (queueIdx q) 8 ≠ 1 → queueFits s q = true → exec (.queueEnable q w) s =
        .next (((s.putN (queueIdx q) 1 1).putN (queueIdx q) 8 1).accepted w.master (queueIdx q) 1)) ∧
      (carried w (queueIdx q) 1 = 1 → s.nat (queueIdx q) 8 ≠ 1 → queueFits s q = false → exec (.queueEnable q w) s =
        .next (endWrite (s.bump 0x2920 3 16) w.master (queueIdx q) 1 .state { result := .state, value := 0 })) ∧
      (carried w (queueIdx q) 1 = 0 → exec (.queueEnable q w) s =
        .next (((s.putN (queueIdx q) 1 0).putN (queueIdx q) 8 0).accepted w.master (queueIdx q) 1))) ∧
    (writePasses s w (queueIdx q) 7 →
      (s.nat (queueIdx q) 8 = 0 → exec (.queueFlush q w) s =
        .next ((s.put (queueIdx q) 0x13 (s.obj (queueIdx q) 0x12)).accepted w.master (queueIdx q) 7)) ∧
      (s.nat (queueIdx q) 8 ≠ 0 → exec (.queueFlush q w) s =
        .next (endWrite s w.master (queueIdx q) 7 .state { result := .state, value := 0 }))))

/-- A queue takes one push and one pop of an instruction or port in a cycle; while its place is taken the access waits,
and the command changes nothing. On an engine that executes and, in user mode, whose PMP lets it: QPUSH pushes rs1
(low) and rs2 (high), stages rs1 and notes REJECT; QPOP of a queue that does not make it wait pops, and rd, xtqhi and
EMPTY take the entry; with the wait policy and an empty running queue it waits. At a queue port, a master that can
make accesses and reaches the queue: QUEUE_PORT_POP pops and answers both words and holds the high one,
QUEUE_PORT_STAGE stages the low word, QUEUE_PORT_PUSH pushes the staged low word with the written high word. (R359,
R362, R387, R388, R389, R390, R391) -/
def Obligations.MastersPushAndPop : Prop :=
  (∀ (e : Fin 16) (q rs1 rs2 : Fin 32) (s : State), engineRuns s e = true →
    let g := s.eng e
    let o := queuePush (takePush s q) q (dw (g.reg rs1) (g.reg rs2)) .master
    let free := g.user = true → pmpAllows g true .store (0x50000004 + q.val * 0x100) = true
    (free → pushTaken s q = false → exec (.qpush e q rs1 rs2) s =
      .next ((notePush (stageWord o.2 (.engine e g.user) (g.reg rs1)) (.engine e g.user) o.1).modEng e Engine.retire)) ∧
    (free → pushTaken s q = true → exec (.qpush e q rs1 rs2) s = .next s)) ∧
  (∀ (e : Fin 16) (rd rs1 : Fin 32) (s : State), engineRuns s e = true →
    let g := s.eng e
    let q := (g.reg rs1).toNat % 32
    let o := queuePop s q
    (g.user = true → pmpAllows g true .load (0x50000000 + q * 0x100) = true) →
    (s.nat (queueIdx q) 5 = 1 → waitForbidden g = false) →
    let waits := s.nat (queueIdx q) 5 = 1 ∧ queueRuns s q = true ∧ popLevel s q = 0
    (popTaken s q = true → exec (.qpop e rd rs1) s = .next s) ∧
    (popTaken s q = false → waits → exec (.qpop e rd rs1) s = .next (s.modEng e (fun g => { g with wait := .qpop rd q }))) ∧
    (popTaken s q = false → ¬ waits → exec (.qpop e rd rs1) s = .next ((notePop o.2 (.engine e g.user) o.1).modEng e
      (fun g => { (g.setReg rd (lo32 (o.1.getD 0))).retire with wait := .none })))) ∧
  (∀ (m : Master) (q : Fin 32) (v : BitVec 32) (s : State), masterLive s m = true →
    (popTaken s q = false → portReach s m q 0 .load = true → exec (.queuePortPop m q) s =
      .next ((notePop (queuePop s q).2 m (queuePop s q).1).answer (lo32 ((queuePop s q).1.getD 0))
        (hi32 ((queuePop s q).1.getD 0)))) ∧
    (portReach s m q 0 .store = true → exec (.queuePortStage m q v) s = .next (stageWord s m v)) ∧
    (pushTaken s q = false → portReach s m q 4 .store = true → exec (.queuePortPush m q v) s =
      .next (notePush (queuePush (takePush s q) q (dw (stagedWord s m) v) .master).2 m
        (queuePush (takePush s q) q (dw (stagedWord s m) v) .master).1)) ∧
    (popTaken s q = true → exec (.queuePortPop m q) s = .next s) ∧
    (pushTaken s q = true → exec (.queuePortPush m q v) s = .next s))

/-- A request from a source that is enabled, for a task that is placed or in transit, makes the task pending with the
record and this time, or merges into a pending one and is counted; for another task it is discarded and counted.
ACTIVATE_COMMAND requests with source 2h, pending from the next cycle; TASK_TIMER that is due requests with source 3h
and runs on by the period. DISPATCH of a free, eligible engine gives it the task with the highest priority among those
pending two cycles on it, with its record in 2790h + e. END_WRITE of 1h by the engine itself ends its activation; any
other write of the word ends with 4h. TASK_HANG past X × B cycles requests a unit reset, abandons the activation,
reports UC and marks the engine faulty. (R401, R402, R403, R405, R407, R408, R410) -/
def Obligations.TasksAreActivatedAndEnd : Prop :=
  (∀ (s : State) (t src : Nat) (rec : DWord), t < 64 → s.fm.tasks.length = 64 → s.flag (taskIdx t) 0x17 src = true →
    taskTakes s t = true →
    ((s.task t).pending = none → ((requestActivation s t src rec).task t).pending = some rec ∧
      ((requestActivation s t src rec).task t).pendingAt = s.t ∧ (requestActivation s t src rec).od = s.od) ∧
    (∀ old, (s.task t).pending = some old → ((requestActivation s t src rec).task t).pending = some rec ∧
      (requestActivation s t src rec).nat (taskIdx t) 0x1E = min (s.nat (taskIdx t) 0x1E + 1) 65535)) ∧
  (∀ (s : State) (t src : Nat) (rec : DWord),
    (s.flag (taskIdx t) 0x17 src = false → requestActivation s t src rec = s) ∧
    (s.flag (taskIdx t) 0x17 src = true → taskTakes s t = false → requestActivation s t src rec =
      if src = 0 then s.bump 0x21A0 6 16 else s.bump (taskIdx t) 0x25 16)) ∧
  (∀ (t : Fin 64) (w : Wr) (s : State), writePasses s w (taskIdx t) 0x19 → (s.task t).pending = none →
    exec (.activateCommand t w) s = .next (((requestActivation s t 2 (activationRecord t 2 0 0 0 false)).modTask t
      (fun x => { x with pendingAt := s.t + 1 })).accepted w.master (taskIdx t) 0x19)) ∧
  (∀ (t : Fin 64) (s : State) (due : Nat), (s.task t).timer = some due → due ≤ s.t → exec (.taskTimer t) s =
    .next (requestActivation (s.modTask t (fun x => { x with timer := some (due + s.nat (taskIdx t) 0x0A) })) t 3
      (activationRecord t 3 (lo32 s.now) 0 0 false))) ∧
  (∀ (e : Fin 16) (s : State) (t : Nat), activation s e = none → engineEligible s e = true →
    s.fm.freeAt.getD e 0 + 2 ≤ s.t → dispatchChoice s e = some t → exec (.dispatch e) s = .next (dispatchTask s t e)) ∧
  (∀ (s : State) (e t : Nat), dispatchChoice s e = some t →
    dispatchable s t e = true ∧ ∀ u, u < 64 → dispatchable s u e = true →
      s.nat (taskIdx u) 5 < s.nat (taskIdx t) 5 ∨ (s.nat (taskIdx u) 5 = s.nat (taskIdx t) 5 ∧ t ≤ u)) ∧
  (∀ (e : Fin 16) (w : Wr) (s : State), writePasses s w (0x2790 + e.val) 5 →
    (∀ u t since, w.master = .engine e u → carried w (0x2790 + e.val) 5 = 1 → activation s e = some (t, since) →
      exec (.endWrite e w) s = .next ((endActivation s t e since).accepted w.master (0x2790 + e.val) 5)) ∧
    ((∀ u, w.master ≠ .engine e u) ∨ carried w (0x2790 + e.val) 5 ≠ 1 ∨ activation s e = none → exec (.endWrite e w) s =
      .next (endWrite s w.master (0x2790 + e.val) 5 .state { result := .state, value := 0 }))) ∧
  (∀ (e : Fin 16) (s : State) (t since : Nat), activation s e = some (t, since) →
    since + s.nat (taskIdx t) 0x0B * s.nat (taskIdx t) 9 ≤ s.t → exec (.taskHang e) s =
    .next (markFaulty ((abandon (requestUnitReset s e false) t e since).report 58 .uc) e))

/-- TASK_ENABLE of 1 on a disabled task makes it unplaced, untried, with its load shown; of 0 on an unplaced task disables
it, on a loading one waits for the load, on a placed one that does not migrate makes it stopping, and disabled when no
activation runs. TASK_PLACED once the copies of code and state have had their cycles places the task on the engine.
MIGRATION_CUT, with the preload complete and no activation running, puts the task in transit with the state the copy
carries, which is what memory holds where every word can be read; MIGRATION_SWAP after the copy makes the target the
host. MOVE_COMMAND of a movable placed task to an engine that takes it is queued; otherwise it ends with 4h.
CONSOLIDATION_TIMEOUT refuses a consolidation that has not emptied its cluster. CLEAR_ENGINE_FAULT clears the bits
written 1. What the Foreman may do next it does at once. (R412, R416, R417, R419, R424, R428, R431, R432) -/
def Obligations.ForemanPlacesAndMoves : Prop :=
  (∀ (t : Fin 64) (w : Wr) (s : State), writePasses s w (taskIdx t) 1 →
    let i := taskIdx t
    (carried w i 1 = 1 → placement s t = 0 → exec (.taskEnable t w) s = .next (((((s.put i 1 1).putN i 2 1).putN i 0x18
      (taskLoad s t)).modTask t (fun x => { x with tried := false })).accepted w.master i 1)) ∧
    (carried w i 1 = 1 → placement s t ≠ 0 → exec (.taskEnable t w) s = .next ((s.put i 1 1).accepted w.master i 1)) ∧
    (carried w i 1 = 0 → placement s t = 1 → exec (.taskEnable t w) s =
      .next ((disableTask (s.put i 1 0) t).accepted w.master i 1)) ∧
    (carried w i 1 = 0 → placement s t = 2 → exec (.taskEnable t w) s =
      .next (((s.put i 1 0).modTask t (fun x => { x with stop := true })).accepted w.master i 1)) ∧
    (carried w i 1 = 0 → placement s t = 3 → (s.task t).pending = none → (∀ m, s.fm.migration = some m → m.task ≠ t.val) →
      exec (.taskEnable t w) s = .next ((finishStop ((s.put i 1 0).putN i 2 5) t).accepted w.master i 1))) ∧
  (∀ (t : Fin 64) (s : State) (e : Nat), placement s t = 2 → (s.task t).loadOn = some e →
    (s.task t).loadAt + (copyTime (s.nat (taskIdx t) 0x0E) + copyTime (s.nat (taskIdx t) 0x11)) ≤ s.t →
    exec (.taskPlaced t) s = .next (foremanAct (placedOn s t e))) ∧
  (∀ n : Nat, copyTime 0 = 0 ∧ copyTime (n + 1) = 10 + 2 * n ∧ copyLimit 0 = 0 ∧ copyLimit (n + 1) = 11 + 3 * n) ∧
  (∀ (s s1 : State) (m : Migration) (a : Nat) (l : List Word) (bad : Bool), s.fm.migration = some m → m.cut = none →
    taskHost s m.task = some a → placement s m.task = 3 → s.flag (taskIdx m.task) 6 0 = false →
    m.since + copyTime (s.nat (taskIdx m.task) 0x0E) ≤ s.t → stateCopy s m.task a = (s1, l, bad) →
    exec .migrationCut s = .next ((s1.putN (taskIdx m.task) 2 4).modFm (fun f => { f with migration := some { m with
      cut := some s.t, damaged := bad, image := l } }))) ∧
  (∀ (s : State) (t a : Nat),
    (∀ x ∈ wordsFrom (aliasAddr a (s.nat (taskIdx t) 0x10)) (s.nat (taskIdx t) 0x11), busRead s x = (s, some (s.memWord x))) →
    stateCopy s t a = (s, s.memWords (aliasAddr a (s.nat (taskIdx t) 0x10)) (s.nat (taskIdx t) 0x11), false)) ∧
  (∀ (s : State) (m : Migration) (c : Nat), s.fm.migration = some m → m.cut = some c →
    c + (copyTime (s.nat (taskIdx m.task) 0x11) + 1) ≤ s.t → exec .migrationSwap s = .next (swapHost s m c)) ∧
  (∀ (t : Fin 64) (w : Wr) (s : State), writePasses s w (taskIdx t) 0x1A →
    let b := (carried w (taskIdx t) 0x1A).toNat
    let fit := s.flag (taskIdx t) 7 0 = true ∧ placement s t = 3 ∧ b < 16 ∧ taskHost s t ≠ some b ∧ engineTakes s t b = true ∧
      (∀ m, s.fm.migration = some m → m.task ≠ t.val)
    (fit → exec (.moveCommand t w) s = .next ((foremanAct (s.modFm (fun m => { m with
      wanted := m.wanted ++ [(MoveKind.command, t.val, some b)] }))).accepted w.master (taskIdx t) 0x1A)) ∧
    (¬ fit → exec (.moveCommand t w) s =
      .next (endWrite s w.master (taskIdx t) 0x1A .state { result := .state, value := 0 }))) ∧
  (∀ (s : State) (c t0 : Nat), s.fm.consolidation = some (c, t0) → t0 + 200 * s.nat 0x2780 9 ≤ s.t →
    clusterEmpty s c = false → exec .consolidationTimeout s = .next (foremanAct (refuseConsolidation s c))) ∧
  (∀ (w : Wr) (s : State), writePasses s w 0x2780 6 → exec (.clearEngineFault w) s =
    .next ((s.put 0x2780 5 (s.obj 0x2780 5 &&& ~~~ carried w 0x2780 6)).accepted w.master 0x2780 6))

/-- RUN_CONTROL_WRITE of 0h on an engine with no task placed holds it; of 1h on a held engine of the level releases it, by
a unit reset that is counted where its cluster is ON. A unit reset starts the core at its boot address in machine
mode. UNIT_RESET performs a unit reset requested in an earlier cycle. ENGINE_FAULT that is due, or a double-bit error
in a fetch or load of the engine's own TCM, sets flag bit 2, reports UC and marks the engine faulty. SCRUB_INTERVAL of
a memory that is ON reads one word, corrects it and moves to the next. With the debug module live: DEBUG_HALT halts an
engine that executes or waits with dpc at its pc, DEBUG_RESUME goes on at dpc, DEBUG_ENGINE_RESET requests a unit
reset, and DEBUG_SYSTEM_BUS_ACCESS selects a hart, writes the data registers, program buffer and halt-on-reset
requests, accesses the address map and keeps address and data, and reads registers of the selected hart while it is
halted. (R371, R372, R373, R374, R378, R379, R380, R382, R383) -/
def Obligations.EnginesAreHeldResetAndDebugged : Prop :=
  (∀ (e : Fin 16) (w : Wr) (s : State), writePasses s w (0x2700 + e.val) 1 →
    let i := 0x2700 + e.val
    let no := endWrite s w.master i 1 .state { result := .state, value := 0 }
    (carried w i 1 = 0 → taskPlacedOn s e = false → exec (.runControlWrite e w) s =
      .next ((engineLost ((abandonOn s e).put i 1 0) e).accepted w.master i 1)) ∧
    (carried w i 1 = 0 → taskPlacedOn s e = true → exec (.runControlWrite e w) s = .next no) ∧
    (carried w i 1 = 1 → s.engineAdmitted e = false → exec (.runControlWrite e w) s = .next no) ∧
    (carried w i 1 = 1 → s.engineAdmitted e = true → s.runControl e = true → exec (.runControlWrite e w) s =
      .next (s.accepted w.master i 1)) ∧
    (carried w i 1 = 1 → s.engineAdmitted e = true → s.runControl e = false →
      (s.on (clusterDomain e) = true → exec (.runControlWrite e w) s =
        .next ((foremanAct (resetCore ((s.put i 1 1).bump i 0x0E 16) e)).accepted w.master i 1)) ∧
      (s.on (clusterDomain e) = false → exec (.runControlWrite e w) s = .next ((s.put i 1 1).accepted w.master i 1)))) ∧
  (∀ (e : Nat) (s : State), e < 16 → s.engines.length = 16 → ((resetCore s e).eng e).pc = s.obj (0x2700 + e) 3 ∧
    ((resetCore s e).eng e).user = false ∧ ((resetCore s e).eng e).mcycle = 0 ∧
    ((resetCore s e).eng e).halted = s.dbg.resetHalt.contains e ∧ (resetCore s e).od = s.od) ∧
  (∀ (e : Fin 16) (s : State) (r : Nat × Bool × Nat),
    s.fm.unitResets.find? (fun r => r.1 == e.val && decide (r.2.2 < s.t)) = some r →
    exec (.unitReset e) s = .next (unitReset (s.modFm (fun m => { m with unitResets := m.unitResets.erase r })) e r.2.1)) ∧
  (∀ (e : Fin 16) (f : Bool) (s : State), (s.eng e).faultDue = true → exec (.engineFault e none f) s =
    .next (markFaulty (((s.modEng e (fun g => { g with faultDue := false })).setBits (0x2700 + e.val) 0x0D 4).report
      (40 + e.val) .uc) e)) ∧
  (∀ (e : Fin 16) (a : BitVec 32) (f : Bool) (s s1 : State) (r : Region) (x : Nat), engineRuns s e = true →
    regionOf e a.toNat = some (r, x) → (r = .itcm e ∨ r = .dtcm e) → eccRead s r x = (s1, false) →
    exec (.engineFault e (some a) f) s = .next (engineFault (raiseException s1 e (if f then 1 else 5) a) e)) ∧
  (∀ (m : Fin 48) (s : State), scrubOn s m = true → scrubInterval s m ≠ 0 →
    s.ecc.scrubLast.getD m 0 + scrubInterval s m ≤ s.t →
    let p := s.ecc.scrub.getD m 0
    let x := (eccRead s (scrubMemory m).1 ((scrubMemory m).2.2 + 4 * p)).1
    exec (.scrubInterval m) s = .next { x with ecc := { x.ecc with
      scrub := modAt x.ecc.scrub m (fun _ => (p + 1) % (scrubMemory m).2.1),
      scrubLast := modAt x.ecc.scrubLast m (fun _ => s.t) } }) ∧
  (∀ (e : Fin 16) (s : State), masterLive s .debug = true →
    (engineCode s e = 1 ∨ engineCode s e = 2 → exec (.debugHalt e) s = .next (engineLost (s.modEng e (fun g => { g with
      halted := true, dpc := g.pc, wait := Wait.none,
      dcsr := BitVec.ofNat 32 (setFieldN (setFieldN g.dcsr.toNat 6 3 3) 0 2 (if g.user then 0 else 3)) })) e)) ∧
    (engineCode s e = 3 → exec (.debugResume e) s = .next (foremanAct (s.modEng e (fun g => { g with
      halted := false, pc := g.dpc, user := fieldN g.dcsr.toNat 0 2 != 3, readyAt := s.t })))) ∧
    exec (.debugEngineReset e) s = .next (s.modFm (fun m => { m with unitResets := m.unitResets ++ [(e.val, false, s.t)] }))) ∧
  (∀ (a v : BitVec 32) (write : Bool) (e : Fin 16) (n : Fin 2) (num : BitVec 16) (s : State), masterLive s .debug = true →
    let x := debugBus { s with dbg := { s.dbg with sbaddress := a } } a.toNat write v
    exec (.debugSystemBusAccess (.bus a write v)) s = .next { x with dbg := { x.dbg with
      sbdata := if write then v else (x.resp.map (·.value)).getD 0 } } ∧
    exec (.debugSystemBusAccess (.select e)) s = .next { s with dbg := { s.dbg with hart := e.val } } ∧
    exec (.debugSystemBusAccess (.data n v)) s =
      .next { s with dbg := { s.dbg with data := modAt s.dbg.data n (fun _ => v) } } ∧
    exec (.debugSystemBusAccess (.progbuf n v)) s =
      .next { s with dbg := { s.dbg with progbuf := modAt s.dbg.progbuf n (fun _ => v) } } ∧
    exec (.debugSystemBusAccess .clearError) s = .next { s with dbg := { s.dbg with cmderr := 0 } } ∧
    (∀ d, s.dbg.cmderr = 0 → engineCode s (s.dbg.hart % 16) = 3 → debugRegister s (s.dbg.hart % 16) num.toNat = some d →
      exec (.debugSystemBusAccess (.register num true false false)) s =
        .next { s with dbg := { s.dbg with data := modAt s.dbg.data 0 (fun _ => d) } }) ∧
    (s.dbg.cmderr = 0 → engineCode s (s.dbg.hart % 16) ≠ 3 →
      exec (.debugSystemBusAccess (.register num true write false)) s = .next { s with dbg := { s.dbg with cmderr := 4 } }))

/-- MILLISECOND_TICK in a cycle whose fabric time is a multiple of 200 000 and whose tick has not been taken takes it: it
records the tick, then glides and encoder scores, sense error scores, held loads, exception scores, glitch scores,
what was written to the charger's objects since the last tick and the charger step, in that order, and rails and power
path settle. With D5 ON a tick takes one off each sense error score and encoder loss score. STOPPING_PHASE_END of a
sense channel in stopping with no evaluation in flight: mode 0h makes it off, a mode written meanwhile starts it
again; of the mark unit with nothing in flight, stopped or, with its enable written again, running; of a CAN channel,
port, converter or Assayer channel its own stop; of a domain the settling of the domains; of a function whose unit of
work is one command nothing, since it has stopped with its disable. (R39, R42, R93, R103, R118, R167, R191, R378) -/
def Obligations.TicksAndStoppingPhases : Prop :=
  (∀ s : State, s.t % 200000 = 0 → s.clk.lastTick ≠ some s.t →
    let x := (List.range 12).foldl railTick (senseTick (tideTick { s with clk := { s.clk with lastTick := some s.t } }))
    exec .millisecondTick s =
      .next (settleAll (chargeTick (chargeArrive (seqTick (if s.on 2 then engineTick x else x)))))) ∧
  (∀ s : State, s.t % 200000 ≠ 0 ∨ s.clk.lastTick = some s.t → exec .millisecondTick s = .next s) ∧
  (∀ (s : State) (c : Nat), s.on 5 = true → c < 64 →
    (senseTick s).nat (senseIdx c) 0x1C = s.nat (senseIdx c) 0x1C - 1) ∧
  (∀ (s : State) (k : Nat), s.on 5 = true → k < 4 → (tideTick s).nat (encIdx k) 0x12 = s.nat (encIdx k) 0x12 - 1) ∧
  (∀ (s : State) (e : Nat), e < 16 → (engineTick s).nat (0x2700 + e) 5 = s.nat (0x2700 + e) 5 - 1) ∧
  (∀ (c : Fin 64) (s : State), s.on 5 = true → senseStatus s c = 4 →
    ((s.chan c).flight = none → exec (.stoppingPhaseEnd (.sense c)) s =
      .next (if senseMode s c = 0 then s.putN (senseIdx c) 0x0E 0 else startAcquiring s c)) ∧
    ((s.chan c).flight ≠ none → exec (.stoppingPhaseEnd (.sense c)) s = .next s)) ∧
  (∀ s : State, s.on 5 = true → s.nat 0x21A0 2 = 2 → s.tide.fifo = [] → s.tide.acts = [] →
    exec (.stoppingPhaseEnd .markUnit) s = .next (s.putN 0x21A0 2 (if s.flag 0x21A0 1 0 then 1 else 0))) ∧
  (∀ (n : Fin 2) (k : Fin 4) (t : Fin 64) (s : State),
    (s.on 2 = true → exec (.stoppingPhaseEnd (.task t)) s = .next (foremanAct (finishStop s t))) ∧
    (s.on 7 = true → canState s n = 5 → exec (.stoppingPhaseEnd (.canChannel n)) s = .next (sendBest s n 0)) ∧
    (s.on 7 = true → twbState s n = 6 → exec (.stoppingPhaseEnd (.twbPort n)) s = .next (twbEnd s n)) ∧
    (s.on 6 = true → exec (.stoppingPhaseEnd (.converter k)) s = .next (convStopped s k)) ∧
    (s.on 2 = true → exec (.stoppingPhaseEnd (.assayer k)) s = .next (assayerStopped s k))) ∧
  (∀ (f : StopFn) (s : State), f ∈ [.foreman, .sequencer, .charger, .powerPath, .gauge, .interrupts, .journal] →
    exec (.stoppingPhaseEnd f) s = .next s) ∧
  (∀ (s : State) q d, exec (.stoppingPhaseEnd (.queue q)) s = .next s ∧
    exec (.stoppingPhaseEnd (.domain d)) s = .next (settleDomains s))

/-- CAN_ENABLE of 1 on a disabled channel whose rates R471 admits enables it, and once start-up has released the channels
it integrates with counters 0; rates not admitted end with 4h; 1 on an enabled channel changes nothing; 0 disables it.
BUS_INTEGRATION after 11 bits, with the bus seen, takes part again in the state that the counters give, and may start
the agent. CAN_FRAME_RECEIVED on a live channel: a frame of a generation that is off is a protocol exception, counted
and flagged, and the channel integrates; another frame is counted and goes to the bulk session, to the agent, or to
firmware's queue. CAN_FRAME_SENT sends the frame that wins arbitration. BUS_OFF_RECOVERY after 128 times 11 bits with
automatic recovery makes the channel active with its counters 0. RAW_FRAME_POP and POP_PATH_POP of a channel pop the
next entry of the firmware task's frame, and the last entry makes the frame. POP_PATH_POP of a waiting port sends its
next piece. LINE_SWITCH_OVER in mode 2h with the active line bus-off or silent and the other not changes the line,
counts and flags it. (R45, R471, R472, R474, R475, R476, R477, R479, R480, R481, R493) -/
def Obligations.CanChannelsSendAndReceive : Prop :=
  (∀ (n : Fin 2) (w : Wr) (s : State), writePasses s w (canIdx n) 1 →
    (carried w (canIdx n) 1 ≠ 0 → canOn s n = false → canUnready s n = false → exec (.canEnable n w) s =
      .next ((canStart (s.putN (canIdx n) 1 1) n).accepted w.master (canIdx n) 1)) ∧
    (carried w (canIdx n) 1 ≠ 0 → canOn s n = false → canUnready s n = true → exec (.canEnable n w) s =
      .next (endWrite s w.master (canIdx n) 1 .state { result := .state, value := 0 })) ∧
    (carried w (canIdx n) 1 ≠ 0 → canOn s n = true → exec (.canEnable n w) s = .next (s.accepted w.master (canIdx n) 1)) ∧
    (carried w (canIdx n) 1 = 0 → exec (.canEnable n w) s = .next ((canDisable s n).accepted w.master (canIdx n) 1))) ∧
  (∀ (n : Fin 2) (s : State), canSees s = true → canState s n = 1 → bitsPassed s n 11 = true → exec (.busIntegration n) s =
    .next (agentStart (s.putN (canIdx n) 0x1C (if countersPassive s n then 3 else 2)))) ∧
  (∀ (n : Fin 2) (f : Frame) (errs : Fin 64) (s : State), canSees s = true → canLive s n = true →
    let x := if errorSignalled s n f then s.add (canIdx n) 0x1E 16 errs else s
    let off := (s.flag (canIdx n) 2 0 = false ∧ (f.format = 2 ∨ f.format = 3)) ∨ (s.flag (canIdx n) 3 0 = false ∧ f.format = 4)
    (off → exec (.canFrameReceived n f errs) s =
      .next (canIntegrate ((x.bump (canIdx n) 0x21 16).setBits (canIdx n) 0x23 4) n)) ∧
    (¬ off →
      let z := if errorSignalled s n f then judgeErrors (recAfter (judgeErrors x n) n) n else x
      let y := (addField z (canIdx n) 0x20 0 1).modCan n (fun c => { c with lastRx := some s.t })
      (isBulk y n f = true → exec (.canFrameReceived n f errs) s = .next (bulkConsume y n f)) ∧
      (isBulk y n f = false → agentService y n f = none → exec (.canFrameReceived n f errs) s = .next (postRaw y n f)) ∧
      (∀ v, isBulk y n f = false → agentService y n f = some v → exec (.canFrameReceived n f errs) s =
        .next (agentConsume y n f v)))) ∧
  (∀ (n : Fin 2) (errs : Fin 64) (s : State), canSees s = true → canLive s n = true ∨ canState s n = 5 →
    exec (.canFrameSent n errs) s = .next (bulkPump (sendBest s n errs))) ∧
  (∀ (n errs : Nat) (s : State) (f : Frame), bestFrame (s.canChan n).tx = some f → canState s n ≠ 5 →
    let x := if errorSignalled s n f then s.add (canIdx n) 0x1D 16 (8 * errs) else s
    let y := if errorSignalled s n f then x.sub (canIdx n) 0x1D 1 else x
    x.nat (canIdx n) 0x1D < 256 → sendBest s n errs = judgeErrors ((addField y (canIdx n) 0x20 16 1).modCan n
      (fun c => ({ c with tx := c.tx.erase f } : CanChannel).refill)) n) ∧
  (∀ (l : List Frame) (f : Frame), bestFrame l = some f → f ∈ l ∧ ∀ g ∈ l, frameKey f ≤ frameKey g) ∧
  (∀ (n : Fin 2) (s : State), canSees s = true → canState s n = 4 → s.flag (canIdx n) 0x16 0 = true →
    bitsPassed s n (128 * 11) = true →
    let x := ((s.putN (canIdx n) 0x1C 2).putN (canIdx n) 0x1D 0).putN (canIdx n) 0x1E 0
    exec (.busOffRecovery n) s = .next (if n.val ∈ canopenLines s then agentEmcy x 0x8140 else x)) ∧
  (∀ (n : Fin 2) (s : State) (q : Nat) (d : DWord) (k : Nat), rawQueue s n = some q → rawNext s n q = some (d, k) →
    rawRoom s n = true → pathFree s q = true → (s.canChan n).raw.length < k → (fieldN d.toNat 44 3 = 4 → rawNeed d ≤ k) →
    let l := (s.canChan n).raw ++ [(pathPop s q).1]
    let x := (pathPop s q).2
    let t := if l.length < rawNeed d then x.modCan n (fun c => { c with raw := l })
      else
        let y := x.modCan n (fun c => { c with raw := [] })
        match rawFrame n l with
        | some f => offerFrame y n f
        | none => addField y (canIdx n) 0x22 16 1
    exec (.rawFramePop n) s = .next t ∧ exec (.popPathPop (.can n)) s = .next t) ∧
  (∀ (n : Fin 2) (s : State), s.on 7 = true → (s.port n).waiting = true →
    exec (.popPathPop (.twb n)) s = .next (twbSend s n)) ∧
  (∀ s : State, s.on 7 = true → redundancy s = 2 →
    let a := s.nat 0x2A20 8
    ((canState s a = 4 ∧ canState s (1 - a) ≠ 4) ∨
      (lineSilent s a = true ∧ (s.canChan (1 - a)).lastRx ≠ none ∧ lineSilent s (1 - a) = false)) →
    exec .lineSwitchOver s = .next (agentEmcy (((s.putN 0x2A20 8 (1 - a)).bump 0x2A20 9 16).setBits
      0x2A20 0x0F 4) 0xFF02))

/-- NMT_COMMAND takes the oldest command: start, stop and enter pre-operational addressed to this node or to all set the
NMT state; reset node flags and resets communication, reset communication does that alone. SDO_REQUEST serves the
oldest request in pre-operational or operational, and drops it in another state; SDO_TIMEOUT 1 s after a segment
aborts with 0504_0000h. RPDO_RECEIVED in operational takes the oldest RPDO; one of another length writes nothing and
produces EMCY 8210h; in another state it is dropped. SYNC_RECEIVED and a SYNC_PRODUCE that is due act on the
synchronous PDOs; TPDO_EVENT of type 0 waits for SYNC and of 254 or 255 sends after the inhibit time; the timer's
event needs the timer run out. HEARTBEAT_PRODUCE sends the NMT state on time; HEARTBEAT_TIMEOUT is a communication
error with its flag and EMCY 8130h. EMCY_SEND sends the oldest EMCY after the inhibit time. (R446, R482, R483, R484,
R486, R487, R489, R490) -/
def Obligations.CanopenServices : Prop :=
  (∀ (s : State) (f : Frame), nextFrame s (fun v _ => v == .nmt) = some f →
    exec .nmtCommand s = .next (nmtCommand (takeFrame s f) f)) ∧
  (∀ (s : State) (f : Frame), 2 ≤ f.data.length → (frameByte f 1 = 0 ∨ frameByte f 1 = nodeId s) →
    (frameByte f 0 = 1 → nmt (nmtCommand s f) = 5) ∧ (frameByte f 0 = 2 → nmt (nmtCommand s f) = 4) ∧
    (frameByte f 0 = 0x80 → nmt (nmtCommand s f) = 0x7F) ∧
    (frameByte f 0 = 0x81 → nmtCommand s f = resetCommunication (s.setBits 0x2A20 0x0F 1)) ∧
    (frameByte f 0 = 0x82 → nmtCommand s f = resetCommunication s)) ∧
  (∀ (s : State) (f : Frame), nextFrame s (fun v _ => v == .sdo) = some f → 
    (agentServes s = true → nmt s = 5 ∨ nmt s = 0x7F →
      (s.agent.mode = 0 → exec .sdoRequest s = .next (sdoServe (takeFrame s f) f)) ∧
      (s.agent.mode ≠ 0 → exec .sdoRequest s = .next (usdoServe (takeFrame s f) f))) ∧
    (agentServes s = false ∨ (nmt s ≠ 5 ∧ nmt s ≠ 0x7F) → exec .sdoRequest s = .next (takeFrame s f))) ∧
  (∀ (s : State) (x : SdoTransfer), s.agent.sdo = some x → agentRuns s = true → s.passed x.last 200000000 = true →
    exec .sdoTimeout s = .next (sdoAbort s x.index x.sub 0x05040000)) ∧
  (∀ (s : State) (f : Frame) (k : Nat), nextRpdo s = some (f, k) →
    (agentServes s = false ∨ nmt s ≠ 5 → exec .rpdoReceived s = .next (takeFrame s f)) ∧ (agentServes s = true → nmt s = 5 →
    (f.data.length ≠ mappedLength s (0x1600 + k) → exec .rpdoReceived s = .next (agentEmcy (takeFrame s f) 0x8210)) ∧
    (f.data.length = mappedLength s (0x1600 + k) → s.nat (0x1400 + k) 2 ≤ 240 → exec .rpdoReceived s =
      .next (modRpdo (takeFrame s f) k (fun p => { p with waiting := some f.data }))) ∧
    (f.data.length = mappedLength s (0x1600 + k) → 240 < s.nat (0x1400 + k) 2 → exec .rpdoReceived s =
      .next (writeEntries (takeFrame s f) (mapped s (0x1600 + k)) f.data)))) ∧
  (∀ (s : State) (f : Frame), nextFrame s (fun v _ => v == .sync) = some f →
    exec .syncReceived s = .next (syncAct (takeFrame s f))) ∧
  (∀ s : State, agentRuns s = true → s.agent.holdFrom = none →
    (nmt s = 5 ∨ nmt s = 0x7F → s.flag 0x1005 0 30 = true → s.nat 0x1006 0 ≠ 0 →
      s.passed s.agent.sync (200 * s.nat 0x1006 0) = true → exec .syncProduce s =
      .next (syncAct (agentSend (s.modAgent (fun a => { a with sync := s.t })) (cobFrame s (s.obj 0x1005 0) [])))) ∧
    (nmt s ≠ 0 → s.nat 0x1017 0 ≠ 0 → s.passed s.agent.beat (200000 * s.nat 0x1017 0) = true → exec .heartbeatProduce s =
      .next (agentSend (s.modAgent (fun a => { a with beat := s.t })) (agentFrame s (0x700 + nodeId s) [BitVec.ofNat 8 (nmt s)]))) ∧
    (∀ (k : Fin 4) (h : Nat), s.agent.heard.getD k none = some h → watched s k ≠ 0 → s.agent.lost.getD k false = false →
      s.passed h (200000 * (s.nat 0x1016 (1 + k) % 65536)) = true → exec (.heartbeatTimeout k) s =
        .next (agentEmcy ((commError (s.modAgent (fun a => { a with lost := modAt a.lost k (fun _ => true) }))).setBits
          0x2A20 0x0F 8) 0x8130)) ∧
    (∀ (e : List Byte) (rest : List (List Byte)), nmt s = 5 ∨ nmt s = 0x7F → s.agent.emcy = e :: rest → (s.agent.emcyAt = none ∨
        ∃ f, s.agent.emcyAt = some f ∧ s.passed f (200 * (100 * s.nat 0x1015 0)) = true) → agentRoom s = true → s.flag 0x1014 0 31 = false →
      exec .emcySend s = .next (agentSend (s.modAgent (fun a => { a with emcy := rest, emcyAt := some s.t }))
        (cobFrame s (s.obj 0x1014 0) e)))) ∧
  (∀ (k : Fin 16) (timer : Bool) (s : State), agentServes s = true → nmt s = 5 → tpdoValid s k = true → s.agent.holdFrom = none →
    (timer = true → timerOver s k = true) →
    (s.nat (0x1800 + k.val) 2 = 0 → exec (.tpdoEvent k timer) s = .next (modTpdo s k (fun p => { p with event := true }))) ∧
    (254 ≤ s.nat (0x1800 + k.val) 2 → s.passed (s.agent.tpdo.getD k {}).sent (200 * (100 * s.nat (0x1800 + k.val) 3)) = true →
      exec (.tpdoEvent k timer) s = .next (sendTpdo s k)))

/-- With the oldest LSS frame of the command's code waiting, each LSS command takes it and serves it. Switch state global
enters configuration at mode 1. The selective switch enters configuration and answers 44h at a matching serial number
after the three other parts matched. In configuration: a node-ID of 1 to 127 or FFh becomes the pending one, answered
0; table 0 with a listed entry keeps the bit timing; activation sets the lines' timing; store requests journal record
2; an inquiry answers the identity word or the node-ID. Fastscan of a node without a node-ID answers 4Fh to the start
and to a matching part. That frames of CiA 305 have this layout is outside the spec. (R482, R483, R484) -/
def Obligations.LssSlaveServes : Prop :=
  (∀ (s : State) (f : Frame), nextLss s [0x04] = some f → frameByte f 1 = 1 → exec .lssSwitchStateGlobal s =
    .next (modLss (takeFrame s f) (fun l => { l with configuring := true }))) ∧
  (∀ (s : State) (f : Frame) (k : Nat), nextLss s [0x40, 0x41, 0x42, 0x43] = some f → frameByte f 0 = 0x40 + k → k < 4 →
    let got := frameWord f 1 = lssIdent s k ∧ (k = 0 ∨ s.agent.lss.selected = k)
    (got → k = 3 → exec .lssSwitchStateSelective s = .next (lssReply (modLss (takeFrame s f)
      (fun l => { l with configuring := true, selected := 0 })) [0x44])) ∧
    (got → k < 3 → exec .lssSwitchStateSelective s = .next (modLss (takeFrame s f) (fun l => { l with selected := k + 1 }))) ∧
    (¬ got → exec .lssSwitchStateSelective s = .next (modLss (takeFrame s f) (fun l => { l with selected := 0 })))) ∧
  (∀ (s : State) (f : Frame), s.agent.lss.configuring = true →
    (nextLss s [0x11] = some f → (1 ≤ frameByte f 1 ∧ frameByte f 1 ≤ 127) ∨ frameByte f 1 = 0xFF →
      exec .lssConfigureNodeId s = .next (lssReply ((takeFrame s f).putN 0x2A20 2 (frameByte f 1)) [0x11, 0, 0])) ∧
    (nextLss s [0x13] = some f → frameByte f 1 = 0 → frameByte f 2 ∈ [0, 1, 2, 3, 4, 6, 7, 8] →
      exec .lssConfigureBitTiming s = .next (lssReply (modLss (takeFrame s f)
        (fun l => { l with timing := some (frameByte f 2) })) [0x13, 0, 0])) ∧
    (∀ k q, nextLss s [0x15] = some f → s.agent.lss.timing = some k → lssBit k = some q →
      exec .lssActivateBitTiming s = .next ((canopenLines s).foldl (fun y n =>
        if canState y n = 2 ∨ canState y n = 3 then canIntegrate (setBitTime y n q) n else setBitTime y n q)
        (takeFrame s f))) ∧
    (nextLss s [0x17] = some f → exec .lssStoreConfiguration s =
      .next (lssReply (requestRecord (takeFrame s f) 2) [0x17, 0, 0])) ∧
    (nextLss s [0x5A, 0x5B, 0x5C, 0x5D, 0x5E] = some f → frameByte f 0 = 0x5E → exec .lssInquire s =
      .next (lssReply (takeFrame s f) [0x5E, nodeId s]))) ∧
  (∀ (s : State) (f : Frame), nextLss s [0x51] = some f → nodeId s = 0xFF → s.agent.lss.configuring = false →
    (frameByte f 5 = 0x80 → exec .lssFastscan s =
      .next (lssReply (modLss (takeFrame s f) (fun l => { l with scanning := true, scan := 0 })) [0x4F])) ∧
    (frameByte f 5 ≠ 0x80 → s.agent.lss.scanning = false → exec .lssFastscan s = .next (takeFrame s f)))

/-- BULK_START with a session running or a target that is no DOMAIN object ends with 4h; else it sets the offset to 0,
adds one to the tag modulo 16 and the state running, and needs no authenticated command, since the data subindex of
every DOMAIN object is RW. While a session runs, with D7 ON, the oldest frame of its type is taken: data,
acknowledgement, end, and an abort frame ends the session with 4h, as BULK_ABORT does. BULK_TIMEOUT past the timeout
resends from the last sequence acknowledged, and fails the session with 2h at the third in a row. COMMAND_SUBMIT in
another state than idle, or before the counters are loaded, ends with 4h; else it records the master; a message that
passes the checks goes on to the store of its counter, one that fails ends with the first failing code. COMMAND_WRITES
makes the writes in order. AUTH_LOCKOUT_END ends the lockout at its time. (R495, R496, R497, R500, R501, R502) -/
def Obligations.BulkSessionsAndAuthenticatedCommands : Prop :=
  (∀ (w : Wr) (s : State), writePasses s w 0x2A21 9 → bulkRuns s = true ∨ isDomain (s.nat 0x2A21 5) = false →
    exec (.bulkStart w) s = .next (bulkPump (endWrite s w.master 0x2A21 9 .state { result := .state, value := 0 }))) ∧
  (∀ (w : Wr) (s : State), writePasses s w 0x2A21 9 → bulkRuns s = false → isDomain (s.nat 0x2A21 5) = true →
    exec (.bulkStart w) s = .next (bulkPump
      (State.accepted { (((((s.put (s.nat 0x2A21 5) 2 0).putN 0x2A21 0x0C ((s.nat 0x2A21 0x0C + 1) % 16)).putN 0x2A21 0x0B 1).putN
        0x2A21 0x0D 0).putN 0x2A21 0x0E 0) with bulk := { authorised := false, last := s.t } } w.master 0x2A21 9))) ∧
  (∀ (s : State) (i : Nat), isDomain i = true → (rowOf s i 3).map (·.acc) = some .rw) ∧
  (∀ (s : State) (f : Frame), s.on 7 = true → bulkRuns s = true →
    let took := s.modBulk (fun b => { b with inbox := b.inbox.erase f })
    let next := fun k => s.bulk.inbox.find? (fun x => bulkType x == k)
    (next 0 = some f → exec .bulkDataFrame s = .next (bulkTaken took f)) ∧
    (next 1 = some f → exec .bulkAckFrame s = .next (bulkAcked took f)) ∧
    (next 2 = some f → exec .bulkEndFrame s = .next (bulkClosed took f)) ∧
    (next 3 = some f → exec .bulkAbortFrame s = .next (bulkEnd took 4))) ∧
  (∀ (s : State) (v : Nat), (bulkEnd s v).nat 0x2A21 0x0B = (if v = 0 then 3 else 4) ∧
    (v < 256 → (bulkEnd s v).nat 0x2A21 0x0E = v) ∧ s.keepsWords (bulkEnd s v) [(0x2A21, 0x0B), (0x2A21, 0x0E)]) ∧
  (∀ (w : Wr) (s : State), writePasses s w 0x2A21 0x0A → exec (.bulkAbort w) s =
    .next ((if bulkRuns s then bulkEnd (bulkSend s 3 0 [0]) 4 else s).accepted w.master 0x2A21 0x0A)) ∧
  (∀ s : State, s.on 7 = true → bulkRuns s = true → bulkSends s = true → s.passed s.bulk.last (200000 * s.nat 0x2A21 0x0F) = true →
    (2 ≤ s.bulk.timeouts → exec .bulkTimeout s = .next (bulkEnd s 2)) ∧
    (s.bulk.timeouts < 2 → exec .bulkTimeout s = .next (bulkPump ((bulkResume (s.bump 0x2A21 0x10 16) s.bulk.acked).modBulk
      (fun b => { b with timeouts := b.timeouts + 1 }))))) ∧
  (∀ (w : Wr) (s : State), writePasses s w 0x2A80 2 → s.nat 0x2A80 1 ≠ 0 ∨ s.startup.journalLoaded = false →
    exec (.commandSubmit w) s = .next (endWrite s w.master 0x2A80 2 .state { result := .state, value := 0 })) ∧
  (∀ (w : Wr) (s : State), writePasses s w 0x2A80 2 → s.nat 0x2A80 1 = 0 → s.startup.journalLoaded = true →
    let x := s.putN 0x2A80 5 (masterCode w.master)
    let L := (carried w 0x2A80 2).toNat
    (checkMessage x L ≠ 0 → exec (.commandSubmit w) s =
      .next ((endCommand x (checkMessage x L)).accepted w.master 0x2A80 2)) ∧
    (checkMessage x L = 0 → exec (.commandSubmit w) s = .next ((requestRecord { x.putN 0x2A80 1 2 with
      auth := { x.auth with master := w.master, slot := msgByte x 1, counter := msgWord x 12 } } 1).accepted
      w.master 0x2A80 2))) ∧
  (∀ s : State, s.on 2 = true → s.nat 0x2A80 1 = 3 → exec .commandWrites s = .next (commandWrites (msgWrites s) s 0)) ∧
  (∀ (s : State) (f : Nat), s.auth.lockedTo = some f → f ≤ s.t →
    exec .authLockoutEnd s = .next { s with auth := { s.auth with lockedTo := none } })

/-- A released port whose enable is written 1 is idle, or asleep where its sleep word says so; written 0 with no transfer,
it stops at once, and with a transfer in progress it is stopping. TWB_OBJECT_READ and TWB_LAST_RESULT answer their
frame, with the PEC where 08h asks for it, and count a command served; TWB_OBJECT_WRITE makes the write of a whole
frame and keeps its result, and counts left-over bytes, or a frame that is none, as a frame error.
STRETCH_LIMIT_EXPIRY and SCL_LOW_TIMEOUT, past their times, are counted and reported as CE. FIRMWARE_TARGET_BYTE posts
to role 1 with two entries free. CONTROLLER_START of an idle port begins; CONTROLLER_TRANSFER_END, not before the
bytes can have passed, stores them and the status; ARBITRATION_LOST restarts, or ends with 5h past the retries;
BUS_CLEAR counts, or reports UC and ends a transfer with 6h; CLEAR_COMMAND acts on an idle port and ends with 4h on a
busy one. REQUEST_WRITE, REQUEST_PULSE, ALERT_RESPONSE, REQUEST_DETECT, TWB_SLEEP and WAKE_MATCH act as their rules
say. (R513, R514, R515, R518, R520, R521, R522, R523, R524, R526, R528, R530) -/
def Obligations.TwoWirePortsServeAndControl : Prop :=
  (∀ (n : Fin 2) (w : Wr) (s : State), writePasses s w (twbIdx n) 1 →
    let i := twbIdx n
    (carried w i 1 = 1 → exec (.twbEnable n w) s = .next ((twbStart (s.putN i 1 1) n).accepted w.master i 1)) ∧
    (carried w i 1 ≠ 1 → s.flag i 1 0 = false → exec (.twbEnable n w) s = .next (s.accepted w.master i 1)) ∧
    (carried w i 1 ≠ 1 → s.flag i 1 0 = true →
      let y := if (s.port n).start then ((s.putN i 1 0).putN (twbCtl n) 6 0).modTwb n (fun p => { p with start := false })
        else s.putN i 1 0
      ((s.port n).phase = .idle → twbState s n ≠ 4 → exec (.twbEnable n w) s =
        .next ((twbStopped y n).accepted w.master i 1)) ∧
      ((s.port n).phase ≠ .idle ∨ twbState s n = 4 → exec (.twbEnable n w) s =
        .next ((y.putN i 0x10 6).accepted w.master i 1)))) ∧
  (∀ (n : Nat) (s : State), s.flag (twbIdx n) 1 0 = true → twbState s n = 0 → s.startup.released = true → twbStart s n =
    ((s.putN (twbIdx n) 0x10 (if s.nat (twbIdx n) 0x0B = 1 then 5 else 1)).putN (twbCtl n) 6 0).modTwb n (fun _ => {})) ∧
  (∀ (n : Fin 2) (s : State), twbTarget s n = true →
    (∀ (i : BitVec 16) (j : Byte), masterLive s .twb = true →
      let x := readObject s { master := .twb, len := 4 } i.toNat j.toNat
      let sent := [twbAddress s n false, 0x01, i.setWidth 8, (i >>> 8).setWidth 8, j, twbAddress s n true]
      exec (.twbObjectRead n i j) s = .next (twbServed ((twbAnswer x n sent (readAnswer x i.toNat j.toNat)).modTwb n
        (fun p => { p with answering := true, since := s.t })) n)) ∧
    (∀ frame : List Byte, masterLive s .twb = true →
      let bad := fun (x : State) => (x.bump (twbIdx n) 0x16 16).setBits (twbIdx n) 0x12 4
      (∀ i j l, writeFrame s n frame = some (i, j, l, false) →
        exec (.twbObjectWrite n frame) s = .next (twbEnd (twbWrite s n i j l) n)) ∧
      (∀ i j l, writeFrame s n frame = some (i, j, l, true) →
        exec (.twbObjectWrite n frame) s = .next (twbEnd (bad (twbWrite s n i j l)) n)) ∧
      (writeFrame s n frame = none → exec (.twbObjectWrite n frame) s = .next (twbEnd (bad s) n))) ∧
    exec (.twbLastResult n) s = .next (twbServed ((twbAnswer s n [twbAddress s n false, 0x03, twbAddress s n true]
      (lastResultBytes s n)).modTwb n (fun p => { p with answering := false })) n) ∧
    ((s.port n).last = none → lastResultBytes s n = [0xFF, 0, 0, 0]) ∧
    (∀ q, s.nat (twbIdx n) 6 ≠ 0xFF → twbQueue s n 2 = some q → exec (.firmwareTargetByte n .addressedWrite) s =
      .next (twbAck ((twbPost (s.putN (twbIdx n) 0x10 2) n q 1 0).modTwb n
        (fun p => { p with phase := .firmware false, answering := false, stretched := 0 })) true)) ∧
    (s.nat (twbIdx n) 6 ≠ 0xFF → twbQueue s n 2 = none →
      exec (.firmwareTargetByte n .addressedRead) s = .next (twbAck s false))) ∧
  (∀ (s : State) (n q k : Nat) (b : Byte), (twbPost s n q k b).postNet = s.postNet ++
    [{ src := 7 + n, queue := q, entry := dw (BitVec.ofNat 32 (k * 2 ^ 24 + b.toNat)) (lo32 s.now) }]) ∧
  (∀ (n : Fin 2) (s : State), twbSees s = true →
    (∀ (b : Byte) (q : Nat), (s.port n).phase = .firmware false → twbQueue s n 2 = some q →
      exec (.firmwareTargetByte n (.data b)) s = .next (twbAck (twbPost s n q 0 b) true)) ∧
    ((s.port n).phase = .firmware true → exec (.firmwareTargetByte n .send) s = .next (twbSend s n))) ∧
  (∀ (n : Fin 2) (s : State), s.on 7 = true →
    let i := twbIdx n
    let p := s.port n
    let out := (s.bump i 0x15 16).report (64 + n.val) .ce
    ((p.waiting || p.answering) = true → stretchOver s n = true → exec (.stretchLimitExpiry n) s =
      .next (({ out with resp := some { result := .accepted, value := 0xFFFFFFFF, bytes := [0xFF] } }).modTwb n
          (fun x => { x with waiting := false, answering := false }))) ∧
    (∀ held, twbState s n ≠ 0 → twbState s n ≠ 5 → 200 * s.nat i 9 ≤ held →
      (p.phase ≠ .controller → exec (.sclLowTimeout n held) s = .next (twbEnd (out.setBits i 0x12 8) n)) ∧
      (p.phase = .controller → exec (.sclLowTimeout n held) s = .next (twbEnd (ctlEnd (out.setBits i 0x12 8) n 7) n)))) ∧
  (∀ (n : Fin 2) (s : State), twbSees s = true → (s.port n).phase = .controller →
    let i := twbIdx n
    let p := s.port n
    let past := fun k => s.passed p.begun (byteCycles s n k) = true
    (past 1 → exec (.controllerTransferEnd n .addressNack) s = .next (twbEnd (ctlEnd s n 3) n)) ∧
    (∀ k, past (1 + k.toNat) → exec (.controllerTransferEnd n (.dataNack k)) s =
      .next (twbEnd (ctlEnd (s.putN (twbCtl n) 8 k.toNat) n 4) n)) ∧
    (∀ (l : List Byte) (good : Bool), past p.job.bytes →
      let x := (putDataBytes s n 0 (l.take p.job.read)).putN (twbCtl n) 8 (p.job.write + p.job.read)
      (p.job.pec = false ∨ p.job.read = 0 ∨ good = true → exec (.controllerTransferEnd n (.done l good)) s =
        .next (twbEnd (ctlEnd x n 2) n)) ∧
      (p.job.pec = true → 0 < p.job.read → good = false → exec (.controllerTransferEnd n (.done l good)) s =
        .next (twbEnd (ctlEnd x n 8) n))) ∧
    (let x := ((s.bump i 0x14 16).setBits i 0x12 2).modTwb n (fun y => { y with losses := p.losses + 1, phase := .idle })
     let z := if s.nat (twbCtl n) 7 < p.losses + 1 then ctlEnd x n 5 else x.modTwb n (fun y => { y with start := true })
     exec (.arbitrationLost n false) s = .next (twbEnd z n) ∧
     exec (.arbitrationLost n true) s = .next ((z.setBits i 0x12 64).putN i 0x10 2)) ∧
    (∀ held, 200 * s.nat i 9 ≤ held →
      exec (.busClear n held true) s = .next ((s.bump i 0x18 16).modTwb n (fun y => { y with begun := s.t })) ∧
      exec (.busClear n held false) s = .next (twbEnd (ctlEnd (((s.setBits i 0x12 16).report (64 + n.val) .uc).modTwb n
        (fun y => { y with start := false })) n 6) n))) ∧
  (∀ (n : Fin 2) (held : Nat) (s : State), twbSees s = true → twbState s n = 4 → (s.port n).phase ≠ .controller →
    (s.port n).start = false →
    let i := twbIdx n
    exec (.busClear n held true) s = .next (twbEnd (s.bump i 0x18 16) n) ∧
    exec (.busClear n held false) s = .next (twbEnd (((s.setBits i 0x12 16).report (64 + n.val) .uc).modTwb n
        (fun y => { y with start := false })) n)) ∧
  (∀ (n : Fin 2) (s : State), requestPending s n = true →
    let i := twbIdx n
    (∀ idle low, twbState s n = 1 → 2 * busFreeCycles s n ≤ idle → ((s.port n).pulsed = none ∨
        ∃ f, (s.port n).pulsed = some f ∧ s.passed f (200 * s.nat i 9) = true) →
      exec (.requestPulse n idle low) s = .next (s.modTwb n (fun y => { y with
        pulsed := if low then none else some s.t, pulse := s.t + cyclesNs (s.nat i 0x0E) }))) ∧
    exec (.alertResponse n true) s = .next (((twbAnswer s n [0x19] [twbAddress s n false]).putN i 0x0D 0).modTwb n
      (fun y => { y with pulsed := none })) ∧
    exec (.alertResponse n false) s = .next (s.modTwb n (fun y => { y with pulsed := none }))) ∧
  (∀ (n : Fin 2) (s : State), twbSees s = true →
    let i := twbIdx n
    (∀ held, s.flag i 1 0 = true → twbState s n = 1 ∨ twbState s n = 3 → s.flag i 0x0F 0 = true → 200 ≤ held →
      (∀ b : Byte, exec (.requestDetect n held (some b)) s =
        .next (((s.setBits i 0x12 1).putN i 0x13 (b.toNat / 2)).setBits i 0x12 128)) ∧
      exec (.requestDetect n held none) s = .next ((s.setBits i 0x12 1).putN i 0x13 0xFF)) ∧
    (twbState s n = 5 → s.flag i 0x0C 0 = true →
      exec (.wakeMatch n false) s = .next (((s.putN i 0x0B 0).setBits i 0x12 32).putN i 0x10 2)) ∧
    (twbState s n = 5 → s.flag i 0x0C 1 = true → s.nat i 6 ≠ 0xFF →
      exec (.wakeMatch n true) s = .next (((s.putN i 0x0B 0).setBits i 0x12 32).putN i 0x10 2))) ∧
  (∀ (s : State) (n c : Nat), ctlEnd s n c = (s.putN (twbCtl n) 6 c).setBits (twbCtl n) 0x11 1) ∧
  (∀ (n : Fin 2) (w : Wr) (s : State),
    let i := twbIdx n
    let c := twbCtl n
    (writePasses s w c 5 →
      let x := ((s.putN c 6 1).putN c 8 0).modTwb n (fun p => { p with losses := 0, job := twbJob s n })
      (s.nat c 6 ≠ 1 → s.flag i 1 0 = true → twbState s n = 1 → exec (.controllerStart n w) s = .next (((x.putN i 0x10 3).modTwb n
        (fun p => { p with phase := .controller, begun := s.t })).accepted w.master c 5)) ∧
      (s.nat c 6 ≠ 1 → s.flag i 1 0 = true → twbState s n ≠ 1 → exec (.controllerStart n w) s =
        .next ((x.modTwb n (fun p => { p with start := true })).accepted w.master c 5)) ∧
      (s.nat c 6 = 1 ∨ s.flag i 1 0 = false → exec (.controllerStart n w) s =
        .next (endWrite s w.master c 5 .state { result := .state, value := 0 }))) ∧
    (writePasses s w i 0x11 → s.nat c 6 ≠ 1 → twbState s n = 1 → exec (.clearCommand n w) s =
      .next ((s.putN i 0x10 4).accepted w.master i 0x11)) ∧
    (writePasses s w i 0x11 → s.nat c 6 = 1 ∨ twbState s n ≠ 1 → exec (.clearCommand n w) s =
      .next (endWrite s w.master i 0x11 .state { result := .state, value := 0 })) ∧
    (writePasses s w i 0x0D →
      let x := (s.put i 0x0D (carried w i 0x0D)).modTwb n (fun p => { p with pulsed := none })
      exec (.requestWrite n w) s =
        .next ((if carried w i 0x0D = 1 then twbWake x n else x).accepted w.master i 0x0D)) ∧
    (writePasses s w i 0x0B →
      (carried w i 0x0B = 0 → exec (.twbSleep n w) s = .next ((twbWake s n).accepted w.master i 0x0B)) ∧
      (carried w i 0x0B ≠ 0 → twbState s n = 1 → exec (.twbSleep n w) s =
        .next (((s.putN i 0x0B 1).putN i 0x10 5).accepted w.master i 0x0B)) ∧
      (carried w i 0x0B ≠ 0 → twbState s n = 0 ∨ twbState s n = 5 → exec (.twbSleep n w) s =
        .next ((s.putN i 0x0B 1).accepted w.master i 0x0B)) ∧
      (carried w i 0x0B ≠ 0 → twbState s n ≠ 0 → twbState s n ≠ 1 → twbState s n ≠ 5 → exec (.twbSleep n w) s =
        .next (((s.putN i 0x0B 1).modTwb n (fun p => { p with drowsy := true })).accepted w.master i 0x0B))))

/-- A trigger accepted by a running converter with inputs to scan waits out its delay; one that finds a delay, a scan or a
stop adds one to the triggers missed. SOFTWARE_TRIGGER triggers from source 0, CONVERTER_TIMER from source 1 each
period. SCAN_START takes the settings and begins the scan of the inputs of the mask in ascending order, a pair at its
even input; each C-th scan checks the inputs with a source. CONVERSION_RESULT delivers VALUE to the last result of its
input and to the result register, as an overrun where the old one was unread, goes on to the next input, and sets flag
bit 0 with the last. A check result past its threshold marks the input open. CONVERTER_ENABLE of 1 starts the timer;
of 0 discards a trigger in its delay or the rest of a scan, counted. TACH_EDGE of a level stable for 40 clocks counts
an edge and times it in converter clocks; TACH_STALL clears the period and sets stalled. (R535, R536, R537, R538,
R539, R540, R542, R543, R546, R547, R548, R554) -/
def Obligations.ConvertersScanAndTachometersTime : Prop :=
  (∀ v w : Int, 0 ≤ v → v < 3000000 → convCode false v w = v * 4096 / 3000000) ∧
  convCode true (-150000) 0 = -103 ∧ convCode false 1234000 0 = 1684 ∧
  (∀ (s : State) (k : Nat) (code : Int), (s.nat (hkaIdx k) 7 = 0 → convValue s k code = BitVec.ofInt 16 code) ∧
    (s.nat (hkaIdx k) 7 = 1 → convValue s k code = BitVec.ofInt 16 (code * 16))) ∧
  (∀ (k : Fin 4) (s : State) (bit : Nat), convRuns s k = true ∨ (s.conv k).stop = true → s.flag (hkaIdx k) 2 bit = true →
    (s.conv k).lastTrig ≠ some s.t →
    let x := s.modConv k (fun c => { c with lastTrig := some s.t })
    let free := clockState s ≠ 0 ∧ (s.conv k).trig = none ∧ (s.conv k).scanning = false ∧ (s.conv k).stop = false ∧
      scanList s k ≠ []
    (free → trigger s k bit = x.modConv k (fun c => { c with trig := some s.ct })) ∧
    (¬ free → trigger s k bit = x.bump (hkaIdx k) 0x0F 16)) ∧
  (∀ (s : State) (k bit : Nat), (convRuns s k = false ∧ (s.conv k).stop = false) ∨ s.flag (hkaIdx k) 2 bit = false →
    trigger s k bit = s) ∧
  (∀ (k : Fin 4) (s : State),
    let i := hkaIdx k
    let c := s.conv k
    let S := s.nat i 6
    (∀ w, writePasses s w i 8 → exec (.softwareTrigger k w) s = .next ((trigger s k 0).accepted w.master i 8)) ∧
    (convRuns s k = true → clockState s ≠ 0 → c.timer ≤ s.ct → exec (.converterTimer k) s =
      .next (trigger (s.modConv k (fun x => { x with timer := c.timer + 5 * s.nat i 3 })) k 1)) ∧
    (∀ f, c.trig = some f → convRuns s k = true → clockState s ≠ 0 → f + 5 * (1 + s.nat i 9) ≤ s.ct →
      let check := s.nat i 0x11 ≠ 0 ∧ (c.scans + 1) % s.nat i 0x11 = 0
      (¬ check → exec (.scanStart k) s = .next (s.modConv k (fun x => { x with
        trig := none, scanning := !(scanList s k).isEmpty, todo := scanList s k, check := false, conv := s.ct,
        scans := c.scans + 1, set := scanSettings s k }))) ∧
      (check → let l := (scanList s k).filter (sourceOn s k)
        exec (.scanStart k) s = .next (s.modConv k (fun x => { x with
        trig := none, scanning := !l.isEmpty, todo := l, check := true, conv := s.ct,
        scans := c.scans + 1, set := scanSettings s k })))) ∧
    (∀ n, n < 16 → (n ∈ scanList s k ↔ s.flag i 4 n = true ∧
      ¬ (n % 2 = 1 ∧ s.flag i 5 (n - 1) = true ∧ s.flag i 4 (n - 1) = true))) ∧
    (∀ (n : Nat) (rest : List Nat) (v w : Int), s.on 6 = true → c.scanning = true → clockState s ≠ 0 →
      c.conv + 5 * (S + 15) ≤ s.ct → c.todo = n :: rest →
      let code := convCode (isPair s k n) v w
      let d := s.putN (0x2C10 + k.val) (0x11 + n) (convValue s k code).toNat
      (c.check = false → exec (.conversionResult k v w) s = .next (gaugePresence (scanNext (routeResult d k
        (resultWord k n (rest == []) (isPair s k n) (convValue s k code)) (s.t - s.ct + c.conv + 5 * S)) k rest))) ∧
      (c.check = true → exec (.conversionResult k v w) s = .next (gaugePresence (scanNext (openCheck s k n code) k rest)))) ∧
    (∀ word f, c.set.task = 255 → routeResult s k word f = s.modConv k (fun x => { x with coming := some word })) ∧
    (∀ word, c.coming = some word →
      let x := s.modConv k (fun y => { y with coming := none })
      (s.flag i 0x0B 31 = false → resultLands s k = x.putN i 0x0B (word + 2147483648)) ∧
      (s.flag i 0x0B 31 = true → resultLands s k =
        (((x.putN i 0x0B (word + 2147483648 + 1073741824)).bump i 0x0E 16).setBits i 0x15 2).report (66 + k) .ce)) ∧
    (c.stop = false → ∀ n rest, scanNext s k (n :: rest) = s.modConv k (fun x => { x with
      todo := n :: rest, conv := x.conv + 5 * (S + 14) })) ∧
    (c.stop = false → scanNext s k [] = (s.setBits i 0x15 1).modConv k (fun x => { x with scanning := false, todo := [] })) ∧
    (∀ w, writePasses s w i 1 →
      (carried w i 1 ≠ 0 → s.flag i 1 0 = false → c.stop = false → exec (.converterEnable k w) s =
        .next (((s.put i 1 (carried w i 1)).modConv k (fun _ => { coming := c.coming, timer := s.ct + 5 * s.nat i 3 })).accepted
          w.master i 1)) ∧
      (carried w i 1 ≠ 0 → s.flag i 1 0 = true ∨ c.stop = true → exec (.converterEnable k w) s =
        .next ((s.put i 1 (carried w i 1)).accepted w.master i 1)) ∧
      (carried w i 1 = 0 → s.flag i 1 0 = true → c.stop = false →
        let y := s.putN i 1 0
        let x := (if c.trig ≠ none ∨ 1 < c.todo.length then y.bump i 0x0D 16 else y).modConv k (fun x => { x with trig := none })
        (c.scanning = true → exec (.converterEnable k w) s =
          .next ((x.modConv k (fun x => { x with stop := true })).accepted w.master i 1)) ∧
        (c.scanning = false → exec (.converterEnable k w) s = .next (x.accepted w.master i 1))))) ∧
  (∀ (n : Fin 8) (s : State), tachRuns s n = true →
    (∀ stable, s.sup.vddioLow = false → 40 ≤ stable →
      let x := (s.bump (tachIdx n) 3 32).modTach n (fun _ => { last := some s.ct, since := s.ct })
      (∀ f, (s.tach n).last = some f → (s.ct - f) / 5 ≤ 4294967295 → exec (.tachEdge n stable) s =
        .next ((x.putN (tachIdx n) 2 ((s.ct - f) / 5)).put (tachIdx n) 4 0)) ∧
      (∀ f, (s.tach n).last = some f → 4294967295 < (s.ct - f) / 5 → exec (.tachEdge n stable) s =
        .next (((x.put (tachIdx n) 2 0).put (tachIdx n) 4 1).setBits 0x2C20 0x13 1)) ∧
      ((s.tach n).last = none → exec (.tachEdge n stable) s = .next x)) ∧
    (s.flag (tachIdx n) 4 0 = false → (s.tach n).since + cyclesMs (s.nat (tachIdx n) 1) ≤ s.ct → exec (.tachStall n) s =
      .next ((((s.put (tachIdx n) 2 0).put (tachIdx n) 4 1).setBits 0x2C20 0x13 1).modTach n (fun _ => { since := s.ct }))))

/-- Each supervisor event needs the level past its threshold, tolerance included, for 2 µs. VAUX below the warning sets
flag bit 2, is counted and reported CE, raises the Lighthouse event and takes the power-fail action; its clearing
stops nothing. Overvoltage, VDDIO and VDDA events are counted, flagged and reported UC, and with VDDIO low every GFp_N
reads 0. A write of a regulator's latch or of the driver enables lets what it drives follow. REGULATOR_GOOD and
DRIVER_SOFT_START_END make the good 1 and their slots good. REGULATOR_FAULT, out of 90 % to 110 % for 50 µs, is
counted, flagged and reported UC, and the regulator restarts 20 ms later or, at the restart limit, stays latched;
REGULATOR_RESTART soft-starts it. DRIVER_LIMIT_STOP counts the limited half-periods, and from 16 stops the driver,
flagged and reported UC. (R556, R559, R560, R561, R564, R566, R572) -/
def Obligations.SuppliesAreSupervised : Prop :=
  (∀ mv held : Nat, 2000 ≤ held → ∀ s : State,
    (s.sup.warn = false → mv ≤ warningMillivolts s + warningMillivolts s / 50 →
      exec (.vauxWarning mv held) s = .next (if s.on 2 then powerFailStores (vauxWarned s) else vauxWarned s)) ∧
    (s.sup.warn = true → warningMillivolts s + 300 ≤ mv + (warningMillivolts s + 300) / 50 →
      exec (.vauxWarningClear mv held) s =
        .next (settleLines (({ s with sup := { s.sup with warn := false } } : State).d1Event 3))) ∧
    (s.sup.overVolt = false → 61000 ≤ mv + 1000 → exec (.vauxOvervoltage mv held) s =
      .next (supervisorEvent { s with sup := { s.sup with overVolt := true } } 8)) ∧
    (mv ≤ 59500 + 1000 → exec (.vauxOvervoltageEnd mv held) s = .next { s with sup := { s.sup with overVolt := false } }) ∧
    (s.sup.vddaLow = false → mv ≤ 2900 + 50 → exec (.vddaUndervoltage mv held) s =
      .next (supervisorEvent { s with sup := { s.sup with vddaLow := true } } 32)) ∧
    (3000 ≤ mv + 50 → exec (.vddaRestored mv held) s = .next { s with sup := { s.sup with vddaLow := false } }) ∧
    (s.sup.vddioLow = false → mv ≤ 2900 + 50 → exec (.vddioUndervoltage mv held) s = .next ((List.range 48).foldl
      (fun x p => latchGateFault (x.modPhase p (fun y => { y with gf := false })) p)
      (supervisorEvent { s with sup := { s.sup with vddioLow := true } } 16))) ∧
    (3000 ≤ mv + 50 → exec (.vddioRestored mv held) s = .next { s with sup := { s.sup with vddioLow := false } })) ∧
  (∀ (s : State) (mask : Nat), supervisorEvent s mask =
    if s.on 2 then ((s.bump 0x2D00 0x0E 16).setBits 0x2D00 0x11 mask).report 70 .uc else s) ∧
  (∀ s : State, s.on 2 = true → vauxWarned s = settleLines (downAction
    (((((({ s with sup := { s.sup with warn := true } } : State).d1Event 2).setBits 0x2D00 0x11 4).bump 0x2D00 0x10 16).report 70 .ce))
      (s.nat 0x2D02 7))) ∧
  (∀ s : State,
    (∀ k, k ≠ 1 → k ≠ 2 → downAction s k = s) ∧ downAction s 1 = startDown s false ∧ downAction s 2 = startDown s true) ∧
  (∀ (r : Fin 3) (w : Wr) (s : State), writePasses s w 0x2D00 (1 + r.val) → exec (.regulatorEnable r w) s =
    .next ((settleSlots (s.put 0x2D00 (1 + r.val) (carried w 0x2D00 (1 + r.val)))).accepted w.master 0x2D00 (1 + r.val))) ∧
  (∀ (w : Wr) (s : State), writePasses s w 0x2D00 6 → exec (.driverEnable w) s =
    .next ((settleSlots (s.store 0x2D00 6 (carried w 0x2D00 6))).accepted w.master 0x2D00 6)) ∧
  (∀ (r : Fin 3) (s : State),
    let x := s.reg r
    (∀ level, x.on = true → x.restart = none → x.latched = false → x.good = false → 930 ≤ level → x.soft + realMs 1 ≤ s.real →
      let y := s.modReg r (fun y => { y with good := true, goodAt := s.real })
      exec (.regulatorGood r level) s = .next (if s.on 2 then targetGood y (1 + r.val) else y)) ∧
    (∀ level held, x.on = true → x.restart = none → x.latched = false → level < 900 ∨ 1100 < level → 50000 ≤ held →
      x.soft + realMs 1 + realUs 50 ≤ s.real →
      let n := if x.good = true ∧ x.goodAt + realMs 100 ≤ s.real then 1 else x.faults + 1
      let fell := fun stay : Bool => s.modReg r (fun y => { y with
        good := false, faults := n, latched := stay, restart := if stay then none else some (s.real + realMs 20) })
      let told := fun y : State => if s.on 2 then targetFault (((y.bump 0x2D00 0x0F 16).setBits 0x2D00 0x11 1).report 70 .uc) (1 + r.val) else y
      (n < s.nat 0x2D00 5 → exec (.regulatorFault r level held) s = .next (told (fell false))) ∧
      (s.nat 0x2D00 5 ≤ n → exec (.regulatorFault r level held) s = .next (told (fell true)))) ∧
    (∀ f, x.restart = some f → f ≤ s.real → exec (.regulatorRestart r) s =
      .next (s.modReg r (fun y => { y with restart := none, soft := s.real })))) ∧
  (∀ (g : Fin 2) (s : State),
    let x := s.gateSupply g
    x.on = true → x.stopped = false → clockState s ≠ 0 →
    (x.good = false → x.soft + cyclesUs (s.nat 0x2D00 0x0B) ≤ s.t → exec (.driverSoftStartEnd g) s =
      .next (targetGood (s.modGds g (fun y => { y with good := true })) (4 + g.val))) ∧
    (∀ halves, x.soft + halves * s.nat 0x2D00 7 ≤ s.t →
      let y := s.add 0x2D00 0x0D 16 halves
      (halves < 16 → exec (.driverLimitStop g halves) s = .next y) ∧
      (16 ≤ halves → exec (.driverLimitStop g halves) s = .next (targetFault (((y.setBits 0x2D00 0x11 2).report 70 .uc).modGds g
        (fun y => { y with stopped := true, good := false })) (4 + g.val)))))

/-- DOMAIN_REQUEST_WRITE with no write in progress is carried out, or refused with the first condition's code;
DOMAIN_CHANGE_COMPLETE takes the domain to its state, counted. SEQUENCER_UP starts from off alone, SEQUENCER_DOWN from
any state but off, SEQUENCER_CLEAR is accepted in off, or failed with all slots off; SEQUENCER_DISABLE puts every
output to 0. A slot whose up delay has passed is asserted, or fails with cause 4h; it is good after the deglitch time,
or fails by timeout (1h), loss (2h) or chatter (3h), and its failure sets flag bit 0, is counted, reported UC and
acts. READY_WAIT_TIMEOUT makes the sequencer failed; READY_RELEASE after 10 µs lets later slots proceed; READY_LOSS
sets flag bit 5. A slot whose down delay has passed is deasserted; its fall completes, or times out with cause 9h.
FLTLINE_FAULT of a low level of 1 µs is counted and acts; a pulled line is let go after its minimum assertion. (R568,
R569, R577, R578, R579, R580, R583, R584, R585, R587) -/
def Obligations.DomainsChangeAndTheSequencerSteps : Prop :=
  (∀ (w : Wr) (s : State), writePasses s w 0x2D01 1 →
    let v := (carried w 0x2D01 1).toNat % 65536
    (domainsBusy s = false → domainRefusal s v = 0 → exec (.domainRequestWrite w) s = .next ((settleDomains
      ((s.putN 0x2D01 1 v).modFm (fun m => { m with domainChanges := domainPlan (s.nat 0x2D01 2) v }))).accepted w.master 0x2D01 1)) ∧
    (domainsBusy s = false → domainRefusal s v ≠ 0 → exec (.domainRequestWrite w) s = .next (endWrite
      (s.putN 0x2D01 3 (domainRefusal s v)) w.master 0x2D01 1 .state { result := .state, value := 0 })) ∧
    (domainsBusy s = true → exec (.domainRequestWrite w) s =
      .next (endWrite s w.master 0x2D01 1 .state { result := .state, value := 0 }))) ∧
  (∀ (d : Fin 8) (s : State) (v old : Nat), s.dom.change = some (d.val, v, some old) → exec (.domainChangeComplete d) s =
    .next (settleDomains (settleAll (settleSlots (foremanAct
      (domainContents ((setDomain { s with dom := {} } d v).bump 0x2D01 4 32) d old v)))))) ∧
  (∀ (w : Wr) (s : State), writePasses s w 0x2D02 2 →
    let no := endWrite s w.master 0x2D02 2 .state { result := .state, value := 0 }
    (s.flag 0x2D02 1 0 = true →
      (carried w 0x2D02 2 = 1 → seqState s = 0 → exec (.sequencerUp w) s =
        .next ((settleSlots (startUp s)).accepted w.master 0x2D02 2)) ∧
      (carried w 0x2D02 2 = 1 → seqState s ≠ 0 → exec (.sequencerUp w) s = .next no) ∧
      (carried w 0x2D02 2 = 2 → seqState s ≠ 0 → exec (.sequencerDown w) s =
        .next ((settleAll (startDown s false)).accepted w.master 0x2D02 2)) ∧
      (carried w 0x2D02 2 = 2 → seqState s = 0 → exec (.sequencerDown w) s = .next no) ∧
      (carried w 0x2D02 2 = 3 → seqIdle s = true → exec (.sequencerClear w) s =
        .next ((clearSequencer s).accepted w.master 0x2D02 2)) ∧
      (carried w 0x2D02 2 = 3 → seqIdle s = false → exec (.sequencerClear w) s = .next no)) ∧
    (s.flag 0x2D02 1 0 = false → exec (.sequencerUp w) s = .next no ∧ exec (.sequencerDown w) s = .next no ∧
      exec (.sequencerClear w) s = .next no)) ∧
  (∀ (w : Wr) (s : State), writePasses s w 0x2D02 1 →
    (carried w 0x2D02 1 = 0 → exec (.sequencerDisable w) s =
      .next ((settleAll (seqOff (s.put 0x2D02 1 0))).accepted w.master 0x2D02 1)) ∧
    (carried w 0x2D02 1 ≠ 0 → exec (.sequencerDisable w) s =
      .next ((s.put 0x2D02 1 (carried w 0x2D02 1)).accepted w.master 0x2D02 1))) ∧
  (∀ s : State, seqState s = 3 → ∀ f, startDown s f = s.bump 0x2D02 0x0F 16) ∧
  (∀ (s : State) (j k : Nat), s.nat (slotIdx j) 0x0A = 0 → failSlot s j k = settleSlots (storageCheck ((dropWaiting
    (((((dropOutput (slotCause s j k) j).putN (slotIdx j) 0x0C 5).setBits 0x2D02 0x0D 1).bump 0x2D02 0x10 16).report 71 .uc |>.putN
      0x2D02 3 4)).modSeq (fun q => { q with failed := true, readyWait := none })))) ∧
  (∀ (j : Fin 16) (s : State), s.on 2 = true →
    let i := slotIdx j
    let x := s.slot j
    let up := settleSlots ((setOutput s j true).putN i 0x0C 2)
    let down := settleSlots ((dropOutput s j).putN i 0x0C 4)
    let low := s.modSlot j (fun y => { y with raw := false, good := false })
    (seqState s = 1 → slotState s j = 1 → j.val ∈ upSlots s → s.seq.posFrom + cyclesUs (s.nat i 5) ≤ s.t →
      (targetAvailable s j = true → slotGood up j = true → exec (.slotUpDelayExpiry j) s = .next (settleAll (slotIsGood up j))) ∧
      (targetAvailable s j = true → slotGood up j = false → exec (.slotUpDelayExpiry j) s = .next (settleAll up)) ∧
      (targetAvailable s j = false → exec (.slotUpDelayExpiry j) s = .next (settleAll (failSlot s j 4)))) ∧
    (∀ held, slotTarget s j = 0 → x.good = false → s.sup.vddioLow = false →
      (cyclesUs (s.nat i 7) ≤ held → slotState s j = 2 → exec (.slotGood j held) s =
        .next (slotIsGood (s.modSlot j (fun y => { y with raw := true, good := true })) j)) ∧
      (held < cyclesUs (s.nat i 7) → exec (.slotGood j held) s = .next (s.modSlot j (fun y => { y with raw := true })))) ∧
    (seqState s ≠ 3 → slotState s j = 2 → x.outAt + cyclesMs (s.nat i 6) ≤ s.t →
      exec (.slotGoodTimeout j) s = .next (settleAll (failSlot s j 1))) ∧
    (∀ held, seqState s ≠ 3 → goodFalls s j held = true → slotState s j = 3 →
      exec (.slotGoodLost j held) s = .next (settleAll (failSlot low j 2))) ∧
    (∀ held, inSequence s j = true → slotTarget s j = 0 → held < cyclesUs (s.nat i 7) → slotState s j = 3 → x.good = true →
      let g := (s.bump i 0x10 16).bump i 0x0F 8
      (g.nat i 0x0F < s.nat i 0x0B ∨ seqState s = 3 → exec (.slotGlitch j held) s = .next g) ∧
      (s.nat i 0x0B ≤ g.nat i 0x0F → seqState s ≠ 3 → exec (.slotGlitch j held) s = .next (settleAll (failSlot g j 3)))) ∧
    (seqState s = 3 → x.out = true → s.nat i 4 = s.nat 0x2D02 4 → s.seq.posFrom + cyclesUs (s.nat i 8) ≤ s.t →
      (s.nat i 9 ≠ 0 → slotGood down j = true → exec (.slotDownDelayExpiry j) s = .next (settleAll (settleSlots down))) ∧
      (s.nat i 9 = 0 ∨ slotGood down j = false → exec (.slotDownDelayExpiry j) s =
        .next (settleAll (settleSlots (downSettle (down.putN i 0x0C 0)))))) ∧
    (∀ held, seqState s = 3 → goodFalls s j held = true →
      (slotState s j = 4 → exec (.slotFallComplete j held) s =
        .next (settleAll (settleSlots (downSettle (low.putN i 0x0C 0))))) ∧
      (slotState s j ≠ 4 → x.out = true → exec (.slotFallComplete j held) s =
        .next (settleAll (settleSlots (downSettle ((dropOutput (slotCause low j 8) j).putN i 0x0C 0)))))) ∧
    (seqState s = 3 → slotState s j = 4 → slotGood s j = true → x.outAt + cyclesMs (s.nat i 9) ≤ s.t →
      exec (.slotFallTimeout j) s = .next (settleAll (settleSlots (downSettle ((slotCause s j 9).putN i 0x0C 0)))))) ∧
  (∀ s : State, s.on 2 = true →
    (∀ f, s.seq.readyWait = some f → seqState s = 5 → f + cyclesMs (s.nat 0x2D02 6) ≤ s.t → exec .readyWaitTimeout s =
      .next (settleAll (settleSlots (storageCheck ((((dropWaiting (s.putN 0x2D02 3 4)).modSeq (fun q => { q with
        failed := true, readyWait := none })).setBits 0x2D02 0x0D 8).report 71 .uc))))) ∧
    (∀ f held, s.seq.released = some f → f + 2000 ≤ s.t → 2000 ≤ held → s.sup.vddioLow = false →
      let x := (s.modSeq (fun q => { q with rdyline := true })).setBits 0x2D03 7 (if s.seq.rdyline then 0 else 2)
      (seqState s = 5 → exec (.readyRelease held) s = .next (settleSlots ((x.putN 0x2D02 3 1).modSeq
        (fun q => { q with ready := true, readyWait := none, posFrom := s.t })))) ∧
      (seqState s ≠ 5 → exec (.readyRelease held) s = .next (settleSlots x))) ∧
    (∀ held, seqState s = 2 → s.seq.rdyline = true → 2000 ≤ held →
      let x := ((s.modSeq (fun q => { q with rdyline := false })).setBits 0x2D03 7 2).setBits 0x2D02 0x0D 32
      (s.nat 0x2D02 9 ≠ 1 → exec (.readyLoss held) s = .next (settleAll x)) ∧
      (s.nat 0x2D02 9 = 1 → exec (.readyLoss held) s = .next (settleAll (startDown x false)))) ∧
    (∀ held, s.seq.pulling = none → s.seq.others = false → 200 ≤ held → exec (.fltlineFault true held) s =
      .next (settleAll (settleLines (downAction
        (((((s.modSeq (fun q => { q with others := true, judged := true })).bump 0x2D03 6 16).setBits 0x2D03 7 1).setBits
          0x2D02 0x0D 16).report 72 .uc) (s.nat 0x2D02 8))))) ∧
    (∀ held, s.sup.vddioLow = false → exec (.fltlineFault false held) s =
      .next (s.modSeq (fun q => { q with others := false, judged := false }))) ∧
    (∀ f, s.seq.pulling = some f → f + minAssertion s ≤ s.t → exec .fltlineAssertionEnd s = .next (settleLines s)))

/-- CHEMISTRY_WRITE on a disabled charger loads the profile; on an enabled one it ends with 4h. CHARGER_ENABLE of 1 on a
ready charger takes effect at the next millisecond step, where a charger in stage off enters idle, and otherwise ends
with 4h; of 0 the stage is off at once. CHARGE_STAGE_CHANGE at a millisecond step takes the first row of the table
that applies; each entry to a stage is counted and sets flag bit 1. CHARGER_CLEAR, at the next step, frees fault and
absent, the cause and reasons 4 and 5. CUTBACK_EVALUATION forms Lc := max(0, min(I_sys + I_bat,lim, I_avail)) and
I_sys. POWER_PATH_ENABLE of 1 goes from off to lost with a new episode at the next step, of 0 to off at once.
SOURCE_PRESENT goes to returning, SOURCE_LOST to lost, RETURN_DELAY_EXPIRY to starting; OUTAGE sets flag bit 1, is
counted and reported CE; CHG_START_DELAY_EXPIRY starts the CHG rail. The search raises its limit by the step after a
period with limiting; the hold returns to probe. (R597, R600, R602, R604, R607, R608, R611, R618, R619, R620) -/
def Obligations.ChargerAndPowerPathFollowTheirTables : Prop :=
  (∀ (w : Wr) (s : State), writePasses s w 0x2E00 3 →
    (s.flag 0x2E00 1 0 = true → exec (.chemistryWrite w) s =
      .next (endWrite s w.master 0x2E00 3 .state { result := .state, value := 0 })) ∧
    (s.flag 0x2E00 1 0 = false → chemistryRow (carried w 0x2E00 3).toNat = none → exec (.chemistryWrite w) s =
      .next ((s.put 0x2E00 3 (carried w 0x2E00 3)).accepted w.master 0x2E00 3)) ∧
    (∀ n l absorb fl, s.flag 0x2E00 1 0 = false → chemistryRow (carried w 0x2E00 3).toNat = some (n, l, absorb, fl) →
      exec (.chemistryWrite w) s = .next ((((((loadProfile (s.put 0x2E00 3 (carried w 0x2E00 3)) l 1).putN 0x2E00 4 n).putN
        0x2E01 0x16 absorb).putBit 0x2E00 0x10 2 fl)).accepted w.master 0x2E00 3))) ∧
  (∀ (w : Wr) (s : State), writePasses s w 0x2E00 1 →
    (carried w 0x2E00 1 ≠ 0 → chargerUnready s = true → exec (.chargerEnable w) s =
      .next (endWrite s w.master 0x2E00 1 .state { result := .state, value := 0 })) ∧
    (carried w 0x2E00 1 ≠ 0 → chargerUnready s = false → exec (.chargerEnable w) s =
      .next ((((s.put 0x2E00 1 1).keepOld s 0x2E00 1).later .chargerOn).accepted w.master 0x2E00 1)) ∧
    (carried w 0x2E00 1 = 0 → chargeStage s ≠ 0 → exec (.chargerEnable w) s =
      .next ((settleAll (toStage ((s.put 0x2E00 1 0).recall .chargerOn 0x2E00 1) 0)).accepted w.master 0x2E00 1)) ∧
    (carried w 0x2E00 1 = 0 → chargeStage s = 0 → exec (.chargerEnable w) s =
      .next (((s.put 0x2E00 1 0).recall .chargerOn 0x2E00 1).accepted w.master 0x2E00 1))) ∧
  (∀ s : State, s.on 5 = true →
    chargeArrive s = s.chg.coming.foldl chargeCommand { s with chg := { s.chg with old := [], coming := [] } }) ∧
  (∀ s : State,
    (chargeStage s = 0 → chargeCommand s .chargerOn = toStage s 1) ∧
    (pathState s = 0 → chargeCommand s .pathOn = pathLose s) ∧
    (chargeStage s = 9 ∨ chargeStage s = 10 →
      chargeCommand s .clear = ((toStage s 1).put 0x2E00 6 0).clrBits 0x2E04 7 48) ∧
    (chargeStage s ≠ 9 → chargeStage s ≠ 10 → chargeCommand s .clear = (s.put 0x2E00 6 0).clrBits 0x2E04 7 48)) ∧
  (∀ s : State, chargerUnready s = true ↔ s.nat 0x2E00 2 = 255 ∨ s.nat 0x2E00 3 = 0 ∨ s.nat 0x2E00 4 = 0 ∨
    s.int 0x2E01 0x0E ≤ 0 ∨ s.int 0x2E01 0x0F ≤ 0) ∧
  (∀ s t : State, s.on 5 = true → s.ticked = true → s.chg.entered ≠ s.t → s.cflag 0x2E00 1 0 = true → stageChange s = some t →
    exec .chargeStageChange s = .next (settleAll t)) ∧
  (∀ s : State, 2 ≤ chargeStage s → chargeStage s ≤ 8 →
    (s.chg.removal = true → stageChange s = some (gaugeRemoval (chargeAbsent s))) ∧
    (s.chg.removal = false → batteryPresent s = false → stageChange s = some (chargeAbsent s)) ∧
    (s.chg.removal = false → batteryPresent s = true → chargeHeld s 2 = true →
      stageChange s = some (setReason (chargeFault s 3) 32)) ∧
    (s.chg.removal = false → batteryPresent s = true → chargeHeld s 2 = false → idleCalled s = true →
      stageChange s = some (chargeIdle s)) ∧
    (s.chg.removal = false → batteryPresent s = true → chargeHeld s 2 = false → idleCalled s = false →
      stageChange s = stageRow s)) ∧
  (∀ (s : State) (k : Nat), k < 11 → chargeStage (toStage s k) = k ∧ (toStage s k).flag 0x2E00 0x11 1 = true ∧
    (toStage s k).nat 0x2E00 0x12 = min (s.nat 0x2E00 0x12 + 1) 4294967295) ∧
  (∀ (w : Wr) (s : State), writePasses s w 0x2E00 7 → exec (.chargerClear w) s =
      .next ((s.later .clear).accepted w.master 0x2E00 7)) ∧
  (∀ s : State, s.on 5 = true → s.cflag 0x2E00 1 0 = true → s.t % 200 = 0 →
    (∀ i a : Int, systemCurrent s = (i, true) → availableCurrent s = (a, true) →
      let x := (s.putI 0x2E00 0x0A (clamp32 (max 0 (min (i + batteryLimit s) a)))).putI 0x2E00 0x0B i
      (i + batteryLimit s ≤ a → exec .cutbackEvaluation s = .next (settleAll { x with chg := { x.chg with short := false } })) ∧
      (a < i + batteryLimit s → s.chg.short = true →
        exec .cutbackEvaluation s = .next (settleAll { x with chg := { x.chg with short := true } })) ∧
      (a < i + batteryLimit s → s.chg.short = false → exec .cutbackEvaluation s =
        .next (settleAll { (x.setBits 0x2E00 0x11 4) with chg := { x.chg with short := true } }))) ∧
    ((systemCurrent s).2 = false ∨ (availableCurrent s).2 = false → exec .cutbackEvaluation s = .next (settleAll
      { (s.putI 0x2E00 0x0A 0).putI 0x2E00 0x0B (systemCurrent s).1 with chg := { s.chg with short := false } }))) ∧
  (∀ (w : Wr) (s : State), writePasses s w 0x2E02 1 →
    (carried w 0x2E02 1 ≠ 0 → exec (.powerPathEnable w) s =
      .next ((((s.put 0x2E02 1 (carried w 0x2E02 1)).keepOld s 0x2E02 1).later .pathOn).accepted w.master 0x2E02 1)) ∧
    (carried w 0x2E02 1 = 0 →
      let x := (pathTo (s.put 0x2E02 1 0) 0).recall .pathOn 0x2E02 1
      exec (.powerPathEnable w) s = .next ((settleAll { x with
        chg := { x.chg with episode := none, episodeMs := episodeTime s } }).accepted w.master 0x2E02 1))) ∧
  (∀ s : State, pathState s = 0 → (pathLose s).chg.episode = some s.t ∧ (pathLose s).chg.outage = false ∧
    pathState (pathLose s) = 1) ∧
  (∀ s : State, s.on 5 = true →
    (pathState s = 1 → sourceHere s = true → exec .sourcePresent s = .next (settleAll (pathTo s 2))) ∧
    (2 ≤ pathState s → pathState s ≤ 4 → lasted s s.chg.lostSince (cyclesUs (s.cnat 0x2E02 7)) = true →
      exec .sourceLost s = .next (settleAll (pathLose s))) ∧
    (pathState s = 2 → s.chg.pathEntered + cyclesMs (s.cnat 0x2E02 8) ≤ s.t → inHarbour s = false →
      exec .returnDelayExpiry s = .next (settleAll (pathStart s))) ∧
    (s.chg.outage = false → lasted s s.chg.episode (cyclesMs (s.cnat 0x2E02 9)) = true →
      let x := ((s.setBits 0x2E02 0x0E 2).bump 0x2E02 0x0F 16).report 74 .ce
      exec .outage s = .next (settleAll { x with chg := { x.chg with
        outage := true, chargerOutage := s.chg.chargerOutage || s.chg.idleEpisode } })) ∧
    (pathState s = 3 → s.cflag 0x2E02 3 0 = true → s.chg.chgStarted = false → s.cnat 0x2E00 2 < 12 →
      railStatus s (s.cnat 0x2E00 2) = 0 → lasted s (chgDelayFrom s) (cyclesMs (s.cnat 0x2E02 0x0A)) = true →
      ∀ ok t, tryStart { s with chg := { s.chg with chgStarted := true } } (s.cnat 0x2E00 2) = (ok, t) →
      exec .chgStartDelayExpiry s = .next (settleAll (if ok then noteBound t else refusedStart t))) ∧
    (s.nat 0x2E03 0x0B = 2 → s.chg.periodStart + cyclesMs (s.cnat 0x2E03 6) ≤ s.t →
      let x := s.putI 0x2E03 0x0A (if s.chg.limited then min (s.cint 0x2E03 2) (s.int 0x2E03 0x0A + s.cint 0x2E03 5)
        else s.int 0x2E03 0x0A)
      exec .searchStepPeriod s =
        .next (settleAll { x with chg := { s.chg with periodStart := s.t, limited := false } })) ∧
    (s.nat 0x2E03 0x0B = 3 → s.chg.holdStart + cyclesMs (1000 * s.cnat 0x2E03 9) ≤ s.t → exec .searchHoldExpiry s =
      .next (settleAll { s.putN 0x2E03 0x0B 2 with chg := { s.chg with periodStart := s.t, limited := false } })))

/-- SWITCH_CLOSE at a millisecond step from matching, when the bus has matched for its time or the dead-bus close applies,
closes BATSW, counted as an operation. SWITCH_COMMAND and STORAGE_COMMAND take effect at the next step: 1h sets open
reason 0, 0h clears it; 1h requests a down sequence and storage, 2h clears reason 2. SHUTDOWN_OPENING sets reason 3
and flag bit 3 and reports UC. STORAGE_REQUEST of a press of 3 s to 10 s requests storage; STORAGE_DELAY_EXPIRY sets
reason 2. A short press sets flag bit 0; a long one sets wake pending and is a D1 event; a pending wake, enabled,
clears reasons 1 and 2 and sets flag bit 1; ten seconds are reported through FS88 as UC. The gauge closes its window
at every tenth tick, takes its second step at every thousandth from its enable, starts at its enable with its tick and
requests a record at a write command while enabled. (R75, R613, R614, R616, R617, R618, R629, R646, R649) -/
def Obligations.SwitchButtonStorageAndGaugeAct : Prop :=
  (∀ s : State, s.on 5 = true → s.ticked = true →
    (switchState s = 1 → s.obj 0x2E04 7 = 0 →
      chargeHeld s 21 = true ∨ (s.cflag 0x2E04 5 0 = true ∧ metBy (vBus s) (fun v => decide (v < s.cint 0x2E04 4)) = true) →
      let x := (s.putN 0x2E04 6 2).bump 0x2E04 0x0C 32
      exec .switchClose s = .next (settleAll (contactorOps { x with aon := { s.aon with batsw := true } } 1))) ∧
    (chargeHeld s 20 = true → s.flag 0x2E04 7 3 = false → exec .shutdownOpening s =
      .next (settleAll (((s.setBits 0x2E04 7 8).setBits 0x2E04 0x0B 8).report 75 .uc)))) ∧
  (∀ s : State, s.on 5 = true →
    (∀ p, pressSeen s p = true → pressSeconds 3 ≤ p → p < pressSeconds 10 →
      exec (.storageRequest p) s = .next (settleAll (storageRequest s))) ∧
    (lasted s s.chg.storageAt (cyclesMs (s.cnat 0x2E04 9)) = true → exec .storageDelayExpiry s =
      .next (settleAll (({ s with chg := { s.chg with storageAt := none } } : State).setBits 0x2E04 7 4))) ∧
    (∀ p, pressSeen s p = true → p < pressSeconds 1 → exec (.buttonShortPress p) s = .next (s.setBits 0x2E04 0x0B 1)) ∧
    (s.aon.wake = true → s.cflag 0x2E04 8 0 = false →
      exec .wakeTaken s = .next { s with aon := { s.aon with wake := false } }) ∧
    (s.aon.wake = true → s.cflag 0x2E04 8 0 = true → exec .wakeTaken s = .next (settleAll
      (((({ s with aon := { s.aon with wake := false } } : State).clrBits 0x2E04 7 6)).setBits 0x2E04 0x0B 2)))) ∧
  (∀ (s : State) (p : Nat), pressSeen s p = true →
    (pressSeconds 1 ≤ p → exec (.buttonLongPress p) s =
      .next (({ s with aon := { s.aon with wake := true } } : State).d1Event 1)) ∧
    (pressSeconds 10 ≤ p → exec (.buttonHeld10s p) s = .next (s.report 88 .uc))) ∧
  (∀ s : State, s.flag 0x2D02 1 0 = true → storageRequest s = storageCheck (startDown
    { s.setBits 0x2E04 0x0B 4 with chg := { s.chg with storageAt := some s.t } } false)) ∧
  (∀ s : State,
    (s.chg.storageAt ≠ none → seqState s = 0 ∨ seqState s = 4 → storageCheck s =
      ({ s with chg := { s.chg with storageAt := none } } : State).setBits 0x2E04 7 4) ∧
    (s.chg.storageAt = none ∨ (seqState s ≠ 0 ∧ seqState s ≠ 4) → storageCheck s = s)) ∧
  (∀ s : State, s.on 5 = true →
    (s.obj 0x2E04 7 ≠ 0 → switchState s = 2 → ∃ t, switchSettle s = contactorOps t 1 ∧ switchState t = 0 ∧
      t.aon.batsw = false ∧ t.nat 0x2E04 0x0C = min (s.nat 0x2E04 0x0C + 1) 4294967295) ∧
    (s.obj 0x2E04 7 ≠ 0 → switchState s = 1 → switchSettle s = s.putN 0x2E04 6 0) ∧
    (s.obj 0x2E04 7 = 0 → switchState s = 0 → switchSettle s = s.putN 0x2E04 6 1)) ∧
  (∀ (w : Wr) (s : State),
    (writePasses s w 0x2E04 1 → exec (.switchCommand w) s = .next
      ((((s.put 0x2E04 1 (carried w 0x2E04 1)).keepOld s 0x2E04 1).later (.switch (carried w 0x2E04 1))).accepted
        w.master 0x2E04 1)) ∧
    (writePasses s w 0x2E04 0x0A → exec (.storageCommand w) s =
      .next ((s.later (.storage (carried w 0x2E04 0x0A))).accepted w.master 0x2E04 0x0A)) ∧
    (writePasses s w 0x2F09 2 → exec (.gaugeWriteCommand w) s =
      .next ((if s.flag 0x2F00 1 0 then requestRecord s 3 else s).accepted w.master 0x2F09 2)) ∧
    (writePasses s w 0x2F00 1 →
      let x := s.put 0x2F00 1 (carried w 0x2F00 1)
      (carried w 0x2F00 1 = 0 → exec (.gaugeEnable w) s =
        .next ((showGauge (setPending (gaugeCover x) 3 false)).accepted w.master 0x2F00 1)) ∧
      (carried w 0x2F00 1 ≠ 0 → s.flag 0x2F00 1 0 = true → exec (.gaugeEnable w) s = .next (x.accepted w.master 0x2F00 1)) ∧
      (carried w 0x2F00 1 ≠ 0 → s.flag 0x2F00 1 0 = false → exec (.gaugeEnable w) s =
        .next ((showGauge ((gaugeFallback x).modGauge (fun g => { g with
          enabledTick := tickNo s, lastWrite := s.real, prev := none, wCharge := 0, wVolt := 0, wCount := 0,
          wOk := gaugeCovered x, prevWin := none, secI := 0, secV := 0, secFull := 0, secAll := 0, wins := [],
          quiet := 0 }))).accepted w.master 0x2F00 1)))) ∧
  (∀ s : State,
    (∀ v, chargeCommand s (.switch v) = if v = 0 then s.clrBits 0x2E04 7 1 else s.setBits 0x2E04 7 1) ∧
    chargeCommand s (.storage 1) = storageRequest s ∧
    chargeCommand s (.storage 2) = { s.clrBits 0x2E04 7 4 with chg := { s.chg with storageAt := none } }) ∧
  (∀ s : State, s.on 2 = true → s.flag 0x2F00 1 0 = true → s.t % 200000 = 0 →
    (clockState s ≠ 0 → tickNo s % 10 = 0 → s.gauge.lastWindow ≠ some s.t → exec .gaugeWindow s =
      .next ((gaugeWindow s 4000000).modGauge (fun g => { g with lastWindow := some s.t }))) ∧
    (clockState s = 0 → s.gauge.lastWindow ≠ some s.t → exec .gaugeWindow s =
      .next ((gaugeWindow s 5000000).modGauge (fun g => { g with lastWindow := some s.t }))) ∧
    (s.gauge.enabledTick < tickNo s → (tickNo s - s.gauge.enabledTick) % (if clockState s = 0 then 80 else 1000) = 0 →
      s.gauge.lastSecond ≠ some s.t → exec .gaugeSecondStep s =
        .next ((gaugeSecond s).modGauge (fun g => { g with lastSecond := some s.t }))))

/-- INTERRUPT_CLAIM returns the candidate with its priority and marks it claimed; with none it returns 0, counted as
spurious; while the controller is disabled it returns 0. INTERRUPT_COMPLETE of a source that the target holds frees
it; another ends with 4h, counted. SOFTWARE_SET and SOFTWARE_CLEAR set and clear levels. GROUP_GATHER counts a rise
and opens the group at its count, GROUP_TIME_LIMIT at its time. LIGHTHOUSE_FIRE records the lowest firing entry and
requests the union of WAKE. CANARY_SERVICE from the warden host with the key waits for its edge once the ledger has
passed or its action is 0h; with another key it bites; from another engine it ends with 4h. An edge takes a ready
service, expires, warns or counts; CANARY_SERVICE_TAKEN in the window clears the count and turns the key; before it,
and at CANARY_EXPIRY, the Canary bites; CANARY_WARNING sets flag bit 2. BITE_DELAY_EXPIRY resets the system. CHECK_IN
counts for the task's own engine alone. CANARY_LOCK holds until reset. (R662, R665, R666, R667, R680, R682, R683,
R684, R685, R686, R688) -/
def Obligations.InterruptsLighthouseAndCanaryAct : Prop :=
  (∀ (x : Fin 16) (rd : Rd) (s : State), readPasses s rd (0x3010 + x.val) 3 → s.flag 0x3000 1 0 = false →
    exec (.interruptClaim x rd) s = .next (s.returned 0)) ∧
  (∀ (x : Fin 16) (rd : Rd) (s : State), readPasses s rd (0x3010 + x.val) 3 → s.flag 0x3000 1 0 = true →
    (∀ n, candidate s x = some n → exec (.interruptClaim x rd) s = .next ((((s.bump 0x3000 4 32).bump (targetIdx x) 6 32).modIrq
      (fun q => { q with claims := q.claims ++ [(n, x.val)] })).returned
        (BitVec.ofNat 32 (fieldN (sourceConfig s n) 28 4 * 256 + n)))) ∧
    (candidate s x = none → exec (.interruptClaim x rd) s =
      .next (((s.bump 0x3000 2 32).bump (targetIdx x) 7 16).returned 0))) ∧
  (∀ (x : Fin 16) (w : Wr) (s : State), writePasses s w (targetIdx x) 4 →
    let n := (carried w (targetIdx x) 4).toNat
    ((n, x.val) ∈ s.irq.claims → exec (.interruptComplete x w) s =
      .next ((s.modIrq (fun q => { q with claims := q.claims.erase (n, x.val) })).accepted w.master (targetIdx x) 4)) ∧
    ((n, x.val) ∉ s.irq.claims → exec (.interruptComplete x w) s =
      .next (endWrite (s.bump 0x3000 3 16) w.master (targetIdx x) 4 .state { result := .state, value := 0 }))) ∧
  (∀ (w : Wr) (s : State),
    (writePasses s w 0x3000 5 → exec (.softwareSet w) s =
      .next ((s.setBits 0x3000 7 ((carried w 0x3000 5).toNat % 65536)).accepted w.master 0x3000 5)) ∧
    (writePasses s w 0x3000 6 → exec (.softwareClear w) s =
      .next ((s.put 0x3000 7 (s.obj 0x3000 7 &&& ~~~ carried w 0x3000 6 ||| s.cycleBits (objKey 0x3000 7))).accepted w.master 0x3000 6))) ∧
  (∀ (g : Fin 32) (n : Fin 256) (s : State), s.on 2 = true → groupFree s g = false → sourceNamed n = true → sourceLevel s n = true →
    (s.irq.levels.headD 0).getLsbD n = false → n.val ∉ s.irq.edges → n.val ∈ groupMembers s g →
    let i := groupIdx g
    let seen := fun (k : Nat) => ((s.putN i 3 1).putN i 4 k).modIrq (fun q => { q with edges := n.val :: q.edges })
    let first := (seen 1).modIrq (fun q => { q with gatherAt := q.gatherAt.set g.val s.t })
    let k := satN 8 (s.nat i 4 + 1)
    let idle := s.nat i 3 = 0 ∨ (s.nat i 3 = 2 ∧ ((groupMembers s g).filter (· != n.val)).any (sourceLevel s) = false)
    (idle → s.nat i 1 ≠ 1 → exec (.groupGather g n) s = .next first) ∧
    (idle → s.nat i 1 = 1 → exec (.groupGather g n) s = .next (openGroup first g)) ∧
    (s.nat i 3 = 1 → s.nat i 1 = 0 ∨ k < s.nat i 1 → exec (.groupGather g n) s = .next (seen k)) ∧
    (s.nat i 3 = 1 → s.nat i 1 ≠ 0 → s.nat i 1 ≤ k → exec (.groupGather g n) s = .next (openGroup (seen k) g))) ∧
  (∀ (g : Fin 32) (s : State), s.on 2 = true → s.nat (groupIdx g) 3 = 1 → s.nat (groupIdx g) 2 ≠ 0 →
    s.irq.gatherAt.getD g.val 0 + cyclesUs (s.nat (groupIdx g) 2) ≤ s.t →
    exec (.groupTimeLimit g) s = .next ((s.putN (groupIdx g) 3 2).bump (groupIdx g) 5 32)) ∧
  (∀ (s : State) (n : Nat) (l : List Nat), (List.range 32).filter (entryFires s) = n :: l →
    let wake := (n :: l).foldl (fun m k => m ||| fieldN (wakeEntry s k) 26 6 * 4) 0
    let x := ((s.putN 0x3080 0x21 n).put 0x3080 0x22 (lo32 s.now)).bump 0x3080 0x23 16
    exec .lighthouseFire s = .next (wakeDomains { x with aon := { x.aon with
      events := [], fired := x.aon.fired ++ (n :: l).filter (fun k => !bitN (wakeEntry s k) 8) } } wake)) ∧
  (∀ (w : Wr) (s : State), writePasses s w 0x3100 1 →
    let no := endWrite ((s.bump 0x3100 0x0D 16).setBits 0x3100 0x0F 2) w.master 0x3100 1 .state { result := .state, value := 0 }
    (∀ e u, w.master = .engine e u → e.val = wardenHost s → canaryState s ≠ 3 →
      (carried w 0x3100 1 ≠ s.obj 0x3100 0x0B → exec (.canaryService w) s =
        .next ((canaryBite s 3).accepted w.master 0x3100 1)) ∧
      (carried w 0x3100 1 = s.obj 0x3100 0x0B → s.canary.service.isSome = true → exec (.canaryService w) s =
        .next (endWrite ((s.bump 0x3100 0x0E 16).setBits 0x3100 0x0F 1) w.master 0x3100 1 .state
          { result := .state, value := 0 })) ∧
      (∀ x, carried w 0x3100 1 = s.obj 0x3100 0x0B → s.canary.service = none → ledgerJudge s = (false, x) →
        exec (.canaryService w) s = .next ((x.modCanary (fun c => { c with service := some (s.real, e.val) })).accepted
          w.master 0x3100 1)) ∧
      (∀ x, carried w 0x3100 1 = s.obj 0x3100 0x0B → s.canary.service = none → ledgerJudge s = (true, x) →
        let y := (x.modCanary (fun c => { c with service := some (s.real, e.val) }))
        (s.nat 0x3101 4 = 0 → exec (.canaryService w) s =
          .next (((y.setBits 0x3100 0x0F 8).report 77 .ce).accepted w.master 0x3100 1)) ∧
        (s.nat 0x3101 4 = 1 → exec (.canaryService w) s = .next (endWrite (x.setBits 0x3100 0x0F 8) w.master 0x3100 1 .state
          { result := .state, value := 0 })) ∧
        (s.nat 0x3101 4 = 2 → exec (.canaryService w) s =
          .next ((canaryBite (x.setBits 0x3100 0x0F 8) 4).accepted w.master 0x3100 1)))) ∧
    (∀ e u, w.master = .engine e u → e.val ≠ wardenHost s ∨ canaryState s = 3 → exec (.canaryService w) s = .next no) ∧
    (w.master = .can ∨ w.master = .twb ∨ w.master = .debug → exec (.canaryService w) s = .next no)) ∧
  (∀ (s : State) (k : Nat), canaryBite s k = ((canaryCapture (s.putN 0x3100 9 3) k).report 77 .ft).modCanary
    (fun c => { c with biting := some (s.nat 0x3100 6), service := none, edge := none })) ∧
  (∀ s : State,
    (∀ f e, s.canary.edge = some .service → s.canary.service = some (f, e) →
      let x := s.modCanary (fun c => { c with service := none, edge := none, lastTime := lo32 s.now, lastEngine := e })
      (canaryState s ≠ 0 → canaryCount s < s.nat 0x3100 2 → exec .canaryServiceTaken s = .next (canaryBite x 2)) ∧
      (canaryState s = 0 ∨ s.nat 0x3100 2 ≤ canaryCount s → ∃ t, exec .canaryServiceTaken s = .next t ∧
        canaryCount t = 0 ∧ t.obj 0x3100 0x0B = (if s.obj 0x3100 0x0B = 0x5AA5 then 0xA55A else 0x5AA5) ∧
        t.nat 0x3100 0x0C = min (s.nat 0x3100 0x0C + 1) 4294967295 ∧
        canaryState t = (if s.nat 0x3100 2 = 0 then 2 else 1) ∧
        t.nat 0x3100 0x11 = (if s.nat 0x3800 1 = 5 then 0 else s.nat 0x3100 0x11) ∧ t.canary = x.canary ∧
        s.keepsWords t [(0x3100, 0x0A), (0x3100, 0x0B), (0x3100, 0x0C), (0x3100, 9), (0x3100, 0x11)])) ∧
    (s.canary.edge = some .expiry → exec .canaryExpiry s = .next (canaryBite s 1)) ∧
    (s.canary.edge = some .warning → exec .canaryWarning s = .next
      ((((canaryStep s).setBits 0x3100 0x0F 4).d1Event 5).modCanary (fun c => { c with edge := none })))) ∧
  (∀ s : State, s.canary.biting = none → canaryPaused s = false →
    (serviceReady s = true → canaryEdge s = s.modCanary (fun c => { c with edge := some .service })) ∧
    (serviceReady s = false → canaryLimit s < canaryCount s + 1 →
      canaryEdge s = s.modCanary (fun c => { c with edge := some .expiry })) ∧
    (serviceReady s = false → canaryCount s + 1 ≤ canaryLimit s → warningNext s = true →
      canaryEdge s = s.modCanary (fun c => { c with edge := some .warning })) ∧
    (serviceReady s = false → canaryCount s + 1 ≤ canaryLimit s → warningNext s = false → canaryEdge s = canaryStep s)) ∧
  (∀ s : State, canaryState s = 3 → s.canary.biting = some 0 → exec .biteDelayExpiry s =
    .next (systemReset (((s.bump 0x3100 0x10 16).bump 0x3100 0x11 8).setBits 0x3100 0x0F 16) 1)) ∧
  (∀ (w : Wr) (s : State), writePasses s w 0x3101 3 → (w.master = .can ∨ w.master = .twb ∨ w.master = .debug) →
    exec (.checkIn w) s = .next (endWrite (s.bump 0x3101 9 16) w.master 0x3101 3 .state { result := .state, value := 0 })) ∧
  (∀ (w : Wr) (s : State), writePasses s w 0x3101 3 → ∀ e u, w.master = .engine e u →
    let t := (carried w 0x3101 3).toNat
    let own := (s.eng e).xttask.getLsbD 31 = true ∧ fieldN (s.eng e).xttask.toNat 0 6 = t
    (own → exec (.checkIn w) s = .next ((s.modCanary (fun c => { c with
      checkIns := modAt c.checkIns t (fun n => satN 8 (n + 1)),
      recent := (s.t, t) :: c.recent.filter (fun p => p.1 == s.t) })).accepted w.master 0x3101 3)) ∧
    (¬ own → exec (.checkIn w) s = .next (endWrite (s.bump 0x3101 9 16) w.master 0x3101 3 .state
      { result := .state, value := 0 }))) ∧
  (∀ (w : Wr) (s : State), writePasses s w 0x3100 7 →
    (carried w 0x3100 7 ≠ 0 ∨ s.flag 0x3100 7 0 = false → exec (.canaryLock w) s = .next ((s.put 0x3100 7 (carried w 0x3100 7)).accepted w.master 0x3100 7)) ∧
    (carried w 0x3100 7 = 0 → s.flag 0x3100 7 0 = true → exec (.canaryLock w) s =
      .next (endWrite s w.master 0x3100 7 .state { result := .state, value := 0 })))

/-- FAULT_REPORT with D2 ON takes the reports that reach the collector together: each is counted, pending, logged or
counted as lost, offered to the posts, and their actions follow in the next cycle: action 6h resets the system, the
lowest cause enters Harbour, else a release leaves it. FAULT_POST moves the oldest post to role 0 of its task, or
discards it counted. HARBOUR_RELEASE with no FT report remembered leaves Harbour in the next cycle, otherwise ends
with 4h; HARBOUR_ENTER_COMMAND enters then with cause 4h. HARBOUR_AUTOMATIC_EXIT past the quiet time leaves, counted;
RECOVERY_WINDOW_EXPIRY takes one off. COLLECTOR_STORAGE_ERROR of one bit is counted and reported CE, of two bits
rewrites the word and enters Harbour with cause 2h. LOG_POP takes the oldest entry. FIRMWARE_REPORT raises a report of
source FS120 to FS127. (R694, R696, R697, R698, R703, R704, R705, R708, R709, R711, R714, R715) -/
def Obligations.CollectorReportsLogsAndHarbours : Prop :=
  (∀ (s : State) (l rest : List Report), s.on 2 = true → s.col.taken ≠ some s.t → nextReports s.raised = (l, rest) →
    (∃ r ∈ l, r.time ≤ s.t) → exec .faultReport s = .next ((l.foldl takeReport { s with raised := rest }).modCol
      (fun c => { c with taken := some s.t, acts := c.acts ++ l.map (fun r => (r.src, actionOf s r)) }))) ∧
  (∀ (s : State) (r : Report), actionOf s r = match r.cls with
    | .ft => 15
    | .uc => fieldN (s.nat 0x3201 (1 + r.src)) 8 4
    | .ce => if r.src = 78 then 0 else fieldN (s.nat 0x3201 (1 + r.src)) 0 4) ∧
  (∀ (s : State) (e : DWord),
    (s.col.log.length < 64 → (logReport s e).col = { s.col with log := s.col.log ++ [e] }) ∧
    (s.col.log.length = 64 → logReport s e = s.bump 0x3200 0x0F 16)) ∧
  (∀ s : State, s.col.acts ≠ [] ∨ s.col.enter ≠ [] ∨ s.col.release = true →
    let x := s.modCol (fun c => { c with acts := [], enter := [], release := false })
    (s.col.acts.any (fun p => p.2 == 6) = true → collectorBegin s = systemReset x 2) ∧
    (s.col.acts.any (fun p => p.2 == 6) = false →
      let y := lesserActs x s.col.acts (harbourCalls s.col).isSome
      (∀ cause src, harbourCalls s.col = some (cause, src) → collectorBegin s = enterHarbour y cause src) ∧
      (harbourCalls s.col = none → s.col.release = true → inHarbour y = true → collectorBegin s = leaveHarbour y))) ∧
  (∀ (c : Collector) (f : Nat), c.acts = [(f, 15)] → harbourCalls c = some (1, f)) ∧
  (∀ (s : State) (l : List (Nat × Nat)) (b : Bool), inHarbour s = true → lesserActs s l b = s) ∧
  (∀ (s : State) (cause src : Nat), inHarbour s = true → s.nat 0x3200 2 ≠ 0 → enterHarbour s cause src = s) ∧
  (∀ (s : State) (cause src : Nat), inHarbour s = false → cause < 256 → src < 256 →
    ∃ x, enterHarbour s cause src = harbourOutputs x ∧ x.nat 0x3200 1 = 1 ∧ x.nat 0x3200 2 = cause ∧ x.nat 0x3200 3 = src ∧
      x.obj 0x3200 4 = lo32 s.now ∧ x.col = { s.col with entered := s.real, lastBad := s.real } ∧
      s.keepsWords x [(0x3200, 1), (0x3200, 2), (0x3200, 3), (0x3200, 4), (0x3200, 0x0A), (0x3200, 0x0E)]) ∧
  (∀ (s : State) (t : Nat) (e : DWord) (rest : List (Nat × DWord)), s.on 2 = true → s.cyc.faultHanded = false →
    s.col.posts = (t, e) :: rest →
    let x : State := { s.modCol (fun c => { c with posts := rest }) with cyc := { s.cyc with faultHanded := true } }
    (∀ q, roleQueue s t 0 = some q → taskTakes s t = true → exec .faultPost s =
      .next { x with postNet := x.postNet ++ [{ src := 9, queue := q, entry := e, quiet := true }] }) ∧
    (roleQueue s t 0 = none ∨ taskTakes s t = false → exec .faultPost s = .next (x.bump 0x3200 0x14 16))) ∧
  (∀ (w : Wr) (s : State),
    (writePasses s w 0x3200 0x0B →
      (s.col.ft = [] → exec (.harbourRelease w) s = .next
        (((s.putN 0x3200 9 0).modCol (fun c => { c with release := inHarbour s })).accepted w.master 0x3200 0x0B)) ∧
      (s.col.ft ≠ [] → exec (.harbourRelease w) s =
        .next (endWrite s w.master 0x3200 0x0B .state { result := .state, value := 0 }))) ∧
    (writePasses s w 0x3200 0x0C → exec (.harbourEnterCommand w) s =
      .next ((s.modCol (fun c => { c with enter := c.enter ++ [(4, 0xFF)] })).accepted w.master 0x3200 0x0C)) ∧
    (writePasses s w 0x3204 1 →
      let v := (carried w 0x3204 1).toNat
      let src := 120 + fieldN v 16 3
      (fieldN v 22 2 = 1 → exec (.firmwareReport w) s = .next ((s.report src .ce (fieldN v 0 16)).accepted w.master 0x3204 1)) ∧
      (fieldN v 22 2 = 2 → exec (.firmwareReport w) s = .next ((s.report src .uc (fieldN v 0 16)).accepted w.master 0x3204 1)) ∧
      (fieldN v 22 2 = 3 →
        exec (.firmwareReport w) s = .next ((s.report src .ft (fieldN v 0 16)).accepted w.master 0x3204 1)))) ∧
  (∀ s : State, s.on 2 = true →
    (inHarbour s = true → s.nat 0x3200 2 = 1 ∨ s.nat 0x3200 2 = 3 → s.flag 0x3200 5 0 = true →
      s.nat 0x3200 9 < s.nat 0x3200 7 → max s.col.entered s.col.lastBad + realMs (s.nat 0x3200 6) ≤ s.real → harbourCalls s.col = none →
      exec .harbourAutomaticExit s = .next (leaveHarbour (s.bump 0x3200 9 8))) ∧
    (inHarbour s = false → s.col.outside + realMs (1000 * s.nat 0x3200 8) ≤ s.real → exec .recoveryWindowExpiry s =
      .next ((s.sub 0x3200 9 1).modCol (fun c => { c with
        outside := c.outside + realMs (1000 * s.nat 0x3200 8) }))) ∧
    (∀ x, exec (.collectorStorageError x false) s = .next ((s.bump 0x3200 0x10 16).report 78 .ce) ∧
      exec (.collectorStorageError x true) s = .next (((rewriteStore s x).setBits 0x3200 0x0E 8).modCol
        (fun c => { c with enter := c.enter ++ [(2, 0xFF)] })))) ∧
  (∀ (rd : Rd) (s : State), readPasses s rd 0x3203 1 →
    let p := readWord 0x3203 1 rd s
    (Sparse.find (s.master rd.master).buffer (objKey 0x3203 1) = none →
      exec (.logPop rd) s = .next ((popLog p.2).returned (lo32 (s.col.log.headD 0))) ∧ p.2.col = s.col ∧ s.keepsWords p.2 []) ∧
    (∀ v, Sparse.find (s.master rd.master).buffer (objKey 0x3203 1) = some v →
      exec (.logPop rd) s = .next (p.2.returned v) ∧ p.2.col = s.col)) ∧
  (∀ s : State, (popLog s).col.log = s.col.log.tail)

/-- TIMEBASE_SELECT chooses the crystal at once, or the RC once 500 ms have passed. RTC_COUNT_STEP of a timebase that
runs, with no set waiting, takes the steps of its edge: one on the crystal without a trim, two at the end of RC
periods 42, 84 and 125, one more or less while a trim runs. A step adds one to F, or 0 to F and one to S after 32 767,
up to 2^40 - 1; a met alarm is due. TRIM_APPLY after 2^20 steps takes the trim. OSCILLATOR_STOPPED after 0.5 ms with
no edge sets flag bit 0, counted and reported UC where it was clear. SECONDS_SET with its low word staged and
CALENDAR_SET of a valid value put the set into the holding latch; an invalid calendar value ends with 3h and its code.
SET_APPLIED sets S and F at the next edge and clears flag bit 0. ALARM_FIRE sets flag bit 1 and is a D1 event.
BEDROCK_SUPPLY_SWITCH and VBAK_LOW set their flags, counted or reported. (R716, R717, R718, R721, R725, R727, R730,
R731, R732, R733) -/
def Obligations.RealTimeClockCountsSetsAndAlarms : Prop :=
  (∀ (c : Bool) (s : State), s.rtc.chosen = false → c = true ∨ s.rtc.chooseAt ≤ s.real → exec (.timebaseSelect c) s =
    .next ((s.putN 0x3300 0x10 (if c then 0 else 1)).modRtc (fun r => { r with chosen := true, lastEdge := s.real }))) ∧
  (∀ s : State, timebaseRuns s = true ↔ s.rtc.chosen = true ∧ (s.nat 0x3300 0x10 ≠ 1 ∨ s.rtc.away = false)) ∧
  (∀ s : State, timebaseRuns s = true → s.rtc.latch = none →
    exec .rtcCountStep s = .next (edgeSeen ((countSteps (edgeSteps s) s).modRtc (fun r => { r with trim := r.trim - signI r.trim }))) ∧
    (s.rtc.trim = 0 → s.nat 0x3300 0x10 = 0 → edgeSteps s = 1) ∧
    (s.rtc.trim = 0 → s.nat 0x3300 0x10 = 1 → edgeSteps s =
      if s.rtc.period = 41 ∨ s.rtc.period = 83 ∨ s.rtc.period = 124 then 2 else 1) ∧
    (0 < s.rtc.trim → s.nat 0x3300 0x10 = 0 → edgeSteps s = 2) ∧ (s.rtc.trim < 0 → s.nat 0x3300 0x10 = 0 → edgeSteps s = 0)) ∧
  (∀ s : State, rtcSeconds s ≤ maxSeconds → rtcFraction s ≤ 32767 →
    (countStep s).rtc = { s.rtc with steps := s.rtc.steps + 1 } ∧
    (rtcFraction s < 32767 → rtcFraction (countStep s) = rtcFraction s + 1 ∧ rtcSeconds (countStep s) = rtcSeconds s) ∧
    (rtcFraction s = 32767 → rtcSeconds s < maxSeconds →
      rtcFraction (countStep s) = 0 ∧ rtcSeconds (countStep s) = rtcSeconds s + 1) ∧
    (rtcFraction s = 32767 → rtcSeconds s = maxSeconds → (countStep s).od = s.od) ∧
    s.keepsWords (countStep s) [(0x3300, 1), (0x3300, 2), (0x3300, 3)]) ∧
  (∀ s : State, (edgeSeen s).rtc.alarm = (s.rtc.alarm || (s.flag 0x3300 0x0E 0 && s.pair 0x3300 1 == s.pair 0x3300 0x0C &&
    rtcFraction s == 0)) ∧ (edgeSeen s).od = s.od) ∧
  (∀ s : State, 2 ^ 20 ≤ s.rtc.steps → exec .trimApply s =
    .next (s.modRtc (fun r => { r with steps := s.rtc.steps - 2 ^ 20, trim := s.int 0x3300 0x0F }))) ∧
  (∀ s : State, s.rtc.chosen = true → s.rtc.lastEdge + 400 * 500 ≤ s.real →
    (s.flag 0x3300 0x12 0 = false → exec .oscillatorStopped s = .next ((((s.setBits 0x3300 0x12 1).bump 0x3300 0x14 16).report 79 .uc).modRtc
      (fun r => { r with still := true }))) ∧
    (s.flag 0x3300 0x12 0 = true → s.rtc.still = false →
      exec .oscillatorStopped s = .next (s.modRtc (fun r => { r with still := true })))) ∧
  (∀ (w : Wr) (s : State) (lo : Word), writePasses s w 0x3300 5 →
    (s.master w.master).staged = some (objKey 0x3300 4, lo) → exec (.secondsSet w) s =
    .next (((s.modMaster w.master (fun x => { x with staged := none })).modRtc (fun r => { r with
      latch := some ((dw lo (carried w 0x3300 5)).toNat, s.nat 0x3300 6 / 2) })).accepted w.master 0x3300 5)) ∧
  (∀ (w : Wr) (s : State), writePasses s w 0x3300 0x0A →
    let v := carried w 0x3300 0x0A
    let k := calendarCheck (s.nat 0x3300 9) v.toNat
    (k = 0 → exec (.calendarSet w) s = .next ((((s.put 0x3300 0x0A v).putN 0x3300 0x0B 0).modRtc (fun r => { r with
      latch := some (calendarSeconds (s.nat 0x3300 9) v.toNat, s.nat 0x3300 6 / 2) })).accepted w.master 0x3300 0x0A)) ∧
    (k ≠ 0 → ∃ rp, rp.result = .range ∧ exec (.calendarSet w) s = .next (endWrite
      ((s.putN 0x3300 0x0B k).setBits 0x3300 0x12 16) w.master 0x3300 0x0A .range rp))) ∧
  (∀ y m d H M S : Nat, y < 65536 → m < 256 → d < 256 → H < 32 → M < 64 → S < 64 →
    calendarCheck (y * 65536 + m * 256 + d) (H * 65536 + M * 256 + S) =
      if y < 2000 ∨ 9999 < y then 1 else if m < 1 ∨ 12 < m then 2 else if d < 1 ∨ monthDays y m < d then 3
      else if 23 < H ∨ 59 < M ∨ 59 < S then 4 else 0) ∧
  calendarSeconds 0x07E8021D 0x000C0000 = 762523200 ∧
  (∀ (s : State) (n f : Nat), s.rtc.latch = some (n, f) → timebaseRuns s = true → exec .setApplied s =
    .next (clearRings (edgeSeen (((putTime s n f).clrBits 0x3300 0x12 1).modRtc (fun r => { r with latch := none })))
      (fun _ => true))) ∧
  (∀ s : State, s.rtc.alarm = true → exec .alarmFire s =
    .next (((s.setBits 0x3300 0x12 2).d1Event 4).modRtc (fun r => { r with alarm := false }))) ∧
  (∀ s : State,
    (s.flag 0x3300 0x11 2 = false → exec (.bedrockSupplySwitch true) s =
      .next (((s.setBits 0x3300 0x11 4).bump 0x3300 0x13 16).setBits 0x3300 0x12 4)) ∧
    (s.flag 0x3300 0x11 2 = true → exec (.bedrockSupplySwitch false) s = .next (s.clrBits 0x3300 0x11 4)) ∧
    (∀ risen, s.rtc.armed = true ∨ risen = true →
      let x := (s.setBits 0x3300 0x12 8).modRtc (fun r => { r with armed := false })
      exec (.vbakLow risen) s = .next (if s.on 2 then x.report 79 .ce else x)))

/-- OTP_PROGRAM_BIT, BLOW_WRITE_LOCK, BLOW_READ_LOCK, BLOW_DEBUG_FUSE and OTP_RECHECK with none in progress and VAUX above
its warning start their command with FFh shown, counted; otherwise they end with 4h. OTP_COMMAND_END, not before its
pulses can have been made, ends it with its code, the bits programmed counted, and rechecks the region; a junction
temperature outside 0 to 85 °C programs nothing and ends with 2h. JOURNAL_RECORD_WRITE begins the lowest pending
record's write. JOURNAL_WRITE_DONE with the slot reading back complete is counted and told; a first failure writes the
target again, a second is counted, flagged and reported UC. JOURNAL_REFRESH_HOUR ages record 0 and requests it.
JOURNAL_ENABLE of 0 abandons every request and stops, a slot write in progress completing. RECORD_LAYOUT_WRITE of a
free place is taken, otherwise ends with 4h; RECORD_LAYOUT_JUDGED shows the record. FIRMWARE_RECORD_COMMAND requests
the record, pending. (R743, R745, R746, R747, R751, R753, R754, R755, R756, R758, R763, R830) -/
def Obligations.FusesAreProgrammedAndRecordsWritten : Prop :=
  (∀ (w : Wr) (s : State), writePasses s w 0x3401 4 →
    let c := (carried w 0x3401 4).toNat
    let run : OtpCommand := { code := c, region := s.nat 0x3401 1, bit := s.nat 0x3401 2, start := s.t, pump := s.flag 0x3401 3 0 }
    let go := (((s.modNv (fun x => { x with command := some run, vauxFell := false })).putN 0x3401 5 0xFF).bump
      0x3400 5 16).accepted w.master 0x3401 4
    let no := endWrite s w.master 0x3401 4 .state { result := .state, value := 0 }
    (s.nv.command = none → s.sup.warn = false → exec (.otpProgramBit w) s = .next go ∧ exec (.blowWriteLock w) s = .next go ∧
      exec (.blowReadLock w) s = .next go ∧ exec (.blowDebugFuse w) s = .next go ∧ exec (.otpRecheck w) s = .next go) ∧
    (s.nv.command ≠ none ∨ s.sup.warn = true → exec (.otpProgramBit w) s = .next no ∧ exec (.blowWriteLock w) s = .next no ∧
      exec (.blowReadLock w) s = .next no ∧ exec (.blowDebugFuse w) s = .next no ∧ exec (.otpRecheck w) s = .next no)) ∧
  (∀ (s : State) (r : OtpRun) (c : OtpCommand), s.nv.command = some c → s.passed c.start (200 * otpLeast s c r) = true →
    let out := exec (.otpCommandEnd r) s
    let bit := 1024 * c.region + c.bit
    (c.code = 1 → out = .next (endProgramBit s c r)) ∧ (c.code = 2 → out = .next (endBlowFuse s c.region c r)) ∧
    (c.code = 3 → out = .next (endBlowFuse s (16 + c.region) c r)) ∧ (c.code = 4 → out = .next (endBlowFuse s 32 c r)) ∧
    (c.code = 5 → otpWarm r = true → out = .next (recheckRegion (otpEnd s 0) c.region)) ∧
    (c.code = 5 → otpWarm r = false → out = .next (otpEnd s 2)) ∧
    (512 ≤ c.bit → c.bit < 992 →
      (otpWarm r = true → writeLocked s c.region c.bit = true → endProgramBit s c r = otpEnd s 1) ∧
      (writeLocked s c.region c.bit = false → s.nv.vauxFell = false → otpWarm r = true → otpSupplied c r = true →
        bit ∉ s.nv.otp →
        (r.took.getLsbD 0 = true → endProgramBit s c r = otpEnd
          ((s.modNv (fun x => { x with otp := s.nv.otp ++ [bit] })).add 0x3400 6 16 1) 0) ∧
        (r.took.getLsbD 0 = false → endProgramBit s c r = otpEnd (s.add 0x3400 6 16 0) 3)))) ∧
  (∀ (s : State) (code : Nat), otpEnd s code =
    ((s.modNv (fun x => { x with command := none })).putN 0x3401 5 code).setBits 0x3400 3 2) ∧
  (∀ r : OtpRun, otpWarm r = true ↔ 0 ≤ r.tj ∧ r.tj ≤ 85000) ∧
  (∀ (s : State) (f m : Nat), m < 3 → 3 * f + m ∈ s.nv.fuses → fuseBlown s f = true) ∧
  (∀ (s : State) (n b : Nat), (writeLocked s n b = true ↔ s.flag 0x3400 2 n = true ∧ ¬ (n = 2 ∧ 516 ≤ b ∧ b ≤ 519))) ∧
  (∀ (s : State) (r : Nat), nextRecord s = some r → s.on 2 = true → journalRuns s = true → s.startup.journalLoaded = true →
    s.nv.writing = none → exec .journalRecordWrite s =
      .next ((writeSlot (readSlots (setPending s r false) r) r).modNv (fun x => { x with writing := some (r, false) }))) ∧
  (∀ (s : State) (r : Nat) (again : Bool), s.nv.writing = some (r, again) →
    let a := targetPlace s r
    let b := (newerSlot s r).elim false not
    let x := memStore s (a + 12) (~~~ s.memWord (a + 8))
    let idle := fun (y : State) => y.modNv (fun n => { n with writing := none, stopping := false })
    (∀ bad, let y := match bad with
        | some (k, v) => if 4 * k.val < (slotPlace s r b).2 then memStore x (a + 4 * k.val) v else x
        | none => x
      (slotComplete y r b = true → exec (.journalWriteDone bad) s = .next (idle (recordDone (readSlots y r) r))) ∧
      (slotComplete y r b = false → again = true → exec (.journalWriteDone bad) s =
        .next (idle (recordFailed (readSlots y r) r))) ∧
      (slotComplete y r b = false → again = false → exec (.journalWriteDone bad) s =
        .next ((writeSlot (memStore (readSlots y r) (a + 12) 0) r).modNv (fun n => { n with writing := some (r, true) }))))) ∧
  (∀ s : State, s.on 2 = true → (s.nv.hour + 1) * 720000000000 ≤ s.t →
    let x := requestRecord ((s.modNv (fun n => { n with hour := s.t / 720000000000 })).bump 0x3440 4 32) 0
    (x.nat 0x3440 4 < s.nat 0x3440 3 → exec .journalRefreshHour s = .next x) ∧
    (s.nat 0x3440 3 ≤ x.nat 0x3440 4 → exec .journalRefreshHour s = .next ((refreshAll x).putN 0x3440 4 0))) ∧
  (∀ (w : Wr) (s : State), writePasses s w 0x3440 1 →
    (carried w 0x3440 1 = 0 → exec (.journalEnable w) s = .next (((List.range 64).foldl abandonRecord ((s.put 0x3440 1 0).modNv
      (fun x => { x with stopping := x.stopping || x.writing.isSome }))).accepted w.master 0x3440 1)) ∧
    (carried w 0x3440 1 ≠ 0 → exec (.journalEnable w) s = .next ((s.put 0x3440 1 (carried w 0x3440 1)).accepted
      w.master 0x3440 1))) ∧
  (∀ (s : State) (r : Nat), (recPending s r = false → abandonRecord s r = s) ∧
    (journalRuns s = true → requestRecord s r = setPending s r true) ∧
    (journalRuns s = false → requestRecord s r = tellAbandoned s r)) ∧
  (∀ (r : Fin 64) (w : Wr) (s : State), writePasses s w 0x3450 (1 + r.val) →
    let v := (carried w 0x3450 (1 + r.val)).toNat
    let base := fieldN v 16 10
    let size := fieldN v 0 10
    let meets := ∃ q, 8 ≤ q ∧ q < 64 ∧ q ≠ r.val ∧ fieldN (s.nat 0x3450 (1 + q)) 0 10 ≠ 0 ∧ size ≠ 0 ∧
      base < fieldN (s.nat 0x3450 (1 + q)) 16 10 + 2 * fieldN (s.nat 0x3450 (1 + q)) 0 10 ∧
      fieldN (s.nat 0x3450 (1 + q)) 16 10 < base + 2 * size
    let bad := recPending s r = true ∨ s.nv.writing.map (·.1) = some r.val ∨ base < 64 ∨ 1024 < base + 2 * size ∨ meets
    (¬ bad → exec (.recordLayoutWrite r w) s = .next (((s.store 0x3450 (1 + r.val) (carried w 0x3450 (1 + r.val))).modNv
      (fun x => { x with judging := r.val :: x.judging.filter (· != r.val) })).accepted w.master 0x3450 (1 + r.val))) ∧
    (bad → exec (.recordLayoutWrite r w) s = .next (endWrite s w.master 0x3450 (1 + r.val) .state
      { result := .state, value := 0 }))) ∧
  (∀ (r : Fin 64) (s : State), r.val ∈ s.nv.judging → exec (.recordLayoutJudged r) s =
    .next ((showRecord (readSlots s r) r).modNv (fun x => { x with judging := x.judging.filter (· != r.val) }))) ∧
  (∀ (w : Wr) (s : State), writePasses s w 0x3441 4 →
    let r := s.nat 0x3441 1
    ((slotPlace s r false).2 ≠ 0 → s.nat 0x3441 3 ≤ recordRoom s r → exec (.firmwareRecordCommand w) s =
      .next ((requestRecord (s.putN 0x3441 5 1) r).accepted w.master 0x3441 4)) ∧
    ((slotPlace s r false).2 = 0 ∨ recordRoom s r < s.nat 0x3441 3 → exec (.firmwareRecordCommand w) s =
      .next (endWrite s w.master 0x3441 4 .state { result := .state, value := 0 })))

/-- ASSAYER_SCAN and BEGIN_FEED of an idle channel begin a check with its alive counter, and end with 4h otherwise.
FEED_WORD and FEED_BYTE of the feed's owner take their bytes; from another master they end with 4h. SCAN_READ_RETURN
takes the bytes of the word read, or ends with a read error. CHECK_END and END_FEED end the check with its result and
outcome, counted. ASSAYER_ABORT stops a scan or ends a feed as aborted. COUNTER_EVENT adds its count, and wraps past
2^48 - 1 with the overflow bit and a CE report. SNAPSHOT_MASK_WRITE asks for the blocks named, which the next cycle
copies with its time. LEDGER_STEP at a second, with the ledger running, steps the indicators and requests record 4
each hour. INDICATOR_REPLACE inside an accepted command clears an indicator; INDICATOR_OPERATE is an operation of a
contactor of source 0; LEDGER_WRITE_COMMAND requests record 4. (R766, R767, R768, R769, R770, R771, R779, R781, R786,
R791, R792) -/
def Obligations.ChecksCountersAndLedgerRun : Prop :=
  (∀ (k : Fin 4) (w : Wr) (s : State), writePasses s w (assayerIdx k) 1 →
    let i := assayerIdx k
    let v := carried w i 1
    let no := endWrite s w.master i 1 .state { result := .state, value := 0 }
    let start := fun (c : AssayerChannel) => { c with alive := s.nat i 5, crc := crcStart, count := 0, lastAt := s.t }
    (v = 1 → chanState s k = 0 → exec (.assayerScan k w) s = .next (((s.putN i 2 1).modAsy k (fun c =>
      { start c with addr := s.nat i 3, left := s.nat i 4, owner := none })).accepted w.master i 1)) ∧
    (v = 1 → chanState s k ≠ 0 → exec (.assayerScan k w) s = .next no) ∧
    (v = 2 → chanState s k = 0 → exec (.beginFeed k w) s = .next (((s.putN i 2 2).modAsy k (fun c =>
      { start c with owner := some w.master, left := 0 })).accepted w.master i 1)) ∧
    (v = 2 → chanState s k ≠ 0 → exec (.beginFeed k w) s = .next no) ∧
    (v = 3 → chanState s k = 2 → exec (.endFeed k w) s = .next ((endCheck s k).accepted w.master i 1)) ∧
    (v = 3 → chanState s k ≠ 2 → exec (.endFeed k w) s = .next no) ∧
    (v = 4 → chanState s k = 1 → (s.asyChan k).left ≠ 0 → exec (.assayerAbort k w) s =
      .next ((s.putN i 2 3).accepted w.master i 1)) ∧
    (v = 4 → (chanState s k = 1 ∧ (s.asyChan k).left = 0) ∨ chanState s k = 2 → exec (.assayerAbort k w) s =
      .next (((s.putN i 0x0C 4).putN i 2 0).accepted w.master i 1)) ∧
    (v = 4 → chanState s k ≠ 1 → chanState s k ≠ 2 → exec (.assayerAbort k w) s = .next no)) ∧
  (∀ (k : Fin 4) (w : Wr) (s : State),
    let i := assayerIdx k
    let own := chanState s k = 2 ∧ ∃ m, (s.asyChan k).owner = some m ∧ masterSlot m = masterSlot w.master
    (writePasses s w i 9 →
      (own → exec (.feedWord k w) s = .next ((takeBytes s k (wordBytes (carried w i 9))).accepted w.master i 9)) ∧
      (¬ own → exec (.feedWord k w) s = .next (endWrite s w.master i 9 .state { result := .state, value := 0 }))) ∧
    (writePasses s w i 0x0A →
      (own → exec (.feedByte k w) s = .next ((takeBytes s k [byteOf (carried w i 0x0A) 0]).accepted w.master i 0x0A)) ∧
      (¬ own → exec (.feedByte k w) s = .next (endWrite s w.master i 0x0A .state { result := .state, value := 0 })))) ∧
  (∀ (k : Fin 4) (s : State), s.on 2 = true → chanState s k = 1 →
    let c := s.asyChan k
    (∀ x v, 0 < c.left → c.lastAt < s.t → busRead s c.addr = (x, some v) → exec (.scanReadReturn k) s =
      .next ((takeBytes x k ((wordBytes v).take (min 4 c.left))).modAsy k (fun y => { y with
        addr := c.addr + 4, left := c.left - min 4 c.left }))) ∧
    (∀ x, 0 < c.left → c.lastAt < s.t → busRead s c.addr = (x, none) → exec (.scanReadReturn k) s =
      .next ((((x.putN (assayerIdx k) 0x0C 3).putN (assayerIdx k) 0x0D c.addr).setBits (assayerIdx k) 0x0F 4).putN
        (assayerIdx k) 2 0)) ∧
    (c.left = 0 → c.count = 0 ∨ c.lastAt + 8 ≤ s.t → exec (.checkEnd k) s = .next (endCheck s k))) ∧
  (∀ (s : State) (k : Fin 4),
    let i := assayerIdx k
    let r := crcEnd (s.asyChan k).crc (s.asyChan k).alive
    (endCheck s k).obj i 0x0B = r ∧ (endCheck s k).nat i 2 = 0 ∧ (endCheck s k).assayer = s.assayer ∧
    ((endCheck s k).nat i 0x0C = if s.nat i 8 ≠ 0 ∧ r ≠ s.obj i 7 then 2 else 1) ∧
    (s.nat i 6 = 0 → (endCheck s k).obj i 5 = s.obj i 5) ∧
    (s.nat i 6 = 1 → (endCheck s k).nat i 5 = (s.nat i 5 + 1) % 65536)) ∧
  assayerCheck (List.replicate 30 0) 0 = 0x8A9136AA ∧
  assayerCheck ((List.range 30).map (BitVec.ofNat 8)) 0x1F1E = 0x46DD794E ∧
  (∀ (n : Fin 96) (k : BitVec 11) (s : State), s.on 2 = true →
    let i := blockIdx (n.val / 8)
    let v := counterValue s n + k.toNat
    s.flag i 1 (n.val % 8) = true → countedNow s n + k.toNat ≤ eventMax s (counterEvent s n) →
    let j := 0x0C + 2 * (n.val % 8)
    let x := (s.noteCount (objKey i j) (s.pair i j) (fun c => BitVec.ofNat 64 ((c.toNat + k.toNat) % 2 ^ 48))).putPair i j
      (BitVec.ofNat 64 (v % 2 ^ 48))
    (v < 2 ^ 48 → exec (.counterEvent n k) s = .next x) ∧
    (2 ^ 48 ≤ v → exec (.counterEvent n k) s = .next ((x.setBits i 2 (2 ^ (n.val % 8))).report 85 .ce n))) ∧
  (∀ (w : Wr) (s : State), writePasses s w 0x3600 1 → exec (.snapshotMaskWrite w) s =
    .next ({ s with life := { s.life with
      snapshot := s.life.snapshot ||| (carried w 0x3600 1).toNat % 4096 } }.accepted w.master 0x3600 1)) ∧
  (∀ s : State, s.life.snapshot ≠ 0 →
    (snapshotBegin s).pair 0x3600 2 = s.now ∧ (snapshotBegin s).life.snapshot = 0) ∧
  (∀ s : State, s.on 2 = true → s.flag 0x3700 1 0 = true → s.t % 200000 = 0 → 0 < s.t →
    tickNo s % (if clockState s = 0 then 80 else 1000) = 0 → s.life.last ≠ some s.t →
    let x := (List.range 16).foldl indicatorStep s
    let y := { x with life := { x.life with last := some s.t, steps := s.life.steps + 1 } }
    ((s.life.steps + 1) % 3600 ≠ 0 → exec .ledgerStep s = .next y) ∧
    ((s.life.steps + 1) % 3600 = 0 → exec .ledgerStep s = .next (requestRecord y 4))) ∧
  (∀ (l : Fin 16) (w : Wr) (s : State), masterLive s w.master = true →
    checkWrite s w true (lifeIdx l) 0x0F = .accepted → carried w (lifeIdx l) 0x0F = 1 →
    exec (.indicatorReplace l true w) s = .next ((requestRecord (showLife (noPrediction
      ((((s.modIndicator l (fun x => { x with wear := 0, ring := [] })).put (lifeIdx l) 0x0B 0).put (lifeIdx l) 0x10 0).put
        (lifeIdx l) 0x11 0) l)) 4).accepted w.master (lifeIdx l) 0x0F)) ∧
  (∀ (l : Fin 16) (w : Wr) (s : State), writePasses s w (lifeIdx l) 0x12 → carried w (lifeIdx l) 0x12 = 1 →
    (lifeRuns s = true → s.nat (lifeIdx l) 1 = 4 → s.nat (lifeIdx l) 3 = 0 → exec (.indicatorOperate l w) s =
      .next ((contactorWear s l).accepted w.master (lifeIdx l) 0x12)) ∧
    (lifeRuns s = false ∨ s.nat (lifeIdx l) 1 ≠ 4 ∨ s.nat (lifeIdx l) 3 ≠ 0 → exec (.indicatorOperate l w) s =
      .next (s.accepted w.master (lifeIdx l) 0x12))) ∧
  (∀ (w : Wr) (s : State), writePasses s w 0x3700 2 → exec (.ledgerWriteCommand w) s =
    .next ((requestRecord s 4).accepted w.master 0x3700 2))

/-- STARTUP_FUSES in state 1h reads the fuses and every region, loads identity and, unless a system reset began start-up,
the supply latches, and state 2h follows; STARTUP_JOURNAL in state 2h restores every device record, and state 3h
follows. BANK_VERIFY checks the next bank, A then B, and keeps its code, a failed one flagged and reported CE.
BANK_CHOICE with a valid bank chooses and starts widening. WIDENING_STEP ends the step in progress once its domain is
ON or has failed. STARTUP_RUNNING after the last step enters the image, state 5h, with flag bit 0 and a boot counted.
SERVICE_LOADER with no valid bank is state 6h and reports UC. TARGET_LEVEL_WRITE and WIDENING_RETRY end with 4h while
widening is in progress; otherwise a lower target leaves the level at once, and a higher one in running, or a retry,
runs the level steps again. (R741, R743, R757, R797, R802, R803, R805, R807, R809, R810) -/
def Obligations.StartUpRunsItsStates : Prop :=
  (∀ s : State, s.on 2 = true → startState s = 1 →
    let x := loadIdentity ((List.range 16).foldl recheckRegion
      (showFuses (s.modNv (fun n => { n with fuseRead := true }))))
    let y := fun (z : State) => bootService ((z.modStart (fun u => { u with otpLoaded := true })).putN 0x3800 1 2)
    (s.rtc.cause = 3 → exec .startupFuses s = .next (y x)) ∧
    (s.rtc.cause ≠ 3 → exec .startupFuses s = .next (y (loadLatches x)))) ∧
  (∀ (s : State) (n : Nat),
    (judgeRegion s n = 0 ↔ ∀ j, j < 32 → shadowWord s n j = 0) ∧
    (judgeRegion s n = 1 → shadowWord s n 31 =
      assayerCheck (((List.range 32).map (shadowWord s n)).take 16 |>.flatMap wordBytes) n)) ∧
  (∀ s : State, s.on 2 = true → startState s = 2 → exec .startupJournal s = .next (bootService
    (((loadComm ((List.range 8).foldl restoreRecord s)).modStart (fun u => { u with journalLoaded := true })).putN 0x3800 1 3))) ∧
  (∀ (s : State) (density : BitVec 32) (mode : Fin 3), s.on 2 = true → startState s = 3 →
    let b := s.startup.bank
    b < 2 →
    let p := (s.put 0x3802 (2 + b) (if mode.val = 0 then 0 else density)).putN 0x3802 (4 + b) mode.val
    (∀ x, verifyBank p b mode = (0, x) → exec (.bankVerify density mode) s = .next (bootService
      (((x.putN 0x3800 (6 + b) 0).modStart (fun u => { u with valid := u.valid ++ [b] })).modStart
        (fun u => { u with bank := b + 1 })))) ∧
    (∀ k x, k ≠ 0 → verifyBank p b mode = (k, x) → exec (.bankVerify density mode) s = .next (bootService
      ((((x.putN 0x3800 (6 + b) k).setBits 0x3800 0x0F 2).report 87 .ce (0x301 + b)).modStart
        (fun u => { u with bank := b + 1 })))) ∧
    (mode.val = 0 → verifyBank p b mode = (1, p))) ∧
  (∀ s : State, s.on 2 = true → startState s = 3 → s.startup.bank = 2 →
    (s.startup.valid ≠ [] → exec .bankChoice s = .next (bootService (chooseAgain 2 s))) ∧
    (s.startup.valid = [] → exec .serviceLoader s = .next (bootService ((canStart ((twbStart ((releaseField (releaseAssayer
      (s.putN 0x3800 1 6))).putN (twbIdx 0) 1 1) 0).putN (canIdx 0) 1 1) 0).report 87 .uc 0)))) ∧
  (∀ (s : State) (b : Nat), s.startup.valid = [b] → b < 2 → fallbackBank s = none → copiedOver s b = false →
    chooseAgain 2 s = bankChosen s b) ∧
  (∀ s : State, s.startup.valid = [0, 1] →
    (0 < angDiff (bankInfo s 1).sequence (bankInfo s 0).sequence → newerBank s = some 1) ∧
    (angDiff (bankInfo s 1).sequence (bankInfo s 0).sequence ≤ 0 → newerBank s = some 0)) ∧
  (∀ (s : State) (n : Nat) (l : List Nat) (refs : BitVec 64) (ef : BitVec 16) (pf : BitVec 48) (late : Bool), s.on 2 = true →
    let df := late || (n == 1 && !referencesGood refs)
    s.startup.steps = n :: l → stepReady s n df = true →
    let x := withDescriptor (s.modStart (fun u => { u with steps := l })) (fun u => showLevel (stepEnd u n ef pf df))
    let y := finishSteps (beginStep (settleAll (foremanAct x)))
    (startState s = 4 → exec (.wideningStep refs ef pf late) s = .next (bootService y)) ∧
    (startState s = 5 → s.startup.again = true → exec (.wideningStep refs ef pf late) s = .next y)) ∧
  (∀ s : State, s.on 2 = true → startState s = 4 → s.startup.steps = [] → s.flag 0x3801 2 1 = false →
    exec .startupRunning s = .next (requestRecord (((((enterImage s (s.nat 0x3800 4 - 1)).putN 0x3800 1 5).putN 0x3800 0x0C
      (startTime s)).setBits 0x3800 0x0F 1).bump 0x3800 0x0D 32) 5)) ∧
  (∀ (s : State) (b : Nat), s.engines.length = 16 → ((enterImage s b).eng 0).pc = BitVec.ofNat 32 (bankInfo s b).entry ∧
    ((enterImage s b).eng 0).user = false ∧ (enterImage s b).od = s.od) ∧
  (∀ (w : Wr) (s : State),
    (writePasses s w 0x3801 1 →
      let v := carried w 0x3801 1
      let x := requestRecord (s.put 0x3801 1 v) 5
      (widening s = true → exec (.targetLevelWrite w) s =
        .next (endWrite s w.master 0x3801 1 .state { result := .state, value := 0 })) ∧
      (widening s = false → v.toNat < s.nat 0x2001 3 → exec (.targetLevelWrite w) s = .next ((settleAll (foremanAct
        (withDescriptor x (fun y => showLevel (narrowTo y v.toNat))))).accepted w.master 0x3801 1)) ∧
      (widening s = false → v.toNat = s.nat 0x2001 3 ∨ (s.nat 0x2001 3 < v.toNat ∧ startState s ≠ 5) → exec (.targetLevelWrite w) s = .next (x.accepted w.master 0x3801 1)) ∧
      (widening s = false → s.nat 0x2001 3 < v.toNat → startState s = 5 → exec (.targetLevelWrite w) s =
        .next ((widenAgain x).accepted w.master 0x3801 1))) ∧
    (writePasses s w 0x3801 5 →
      (widening s = true → exec (.wideningRetry w) s =
        .next (endWrite s w.master 0x3801 5 .state { result := .state, value := 0 })) ∧
      (widening s = false → startState s ≠ 5 → exec (.wideningRetry w) s = .next (s.accepted w.master 0x3801 5)) ∧
      (widening s = false → startState s = 5 → exec (.wideningRetry w) s = .next ((widenAgain (withDescriptor s
        (fun x => ((x.putN 0x2001 0x0C 0).putN 0x2001 0x0D 0).putN 0x2001 0x0E 0))).accepted w.master 0x3801 5))))
end

