-- ==== Sys2Proof/Laws/Sparse.lean ====
section
/-! SUPPORT. Sparse data: what a key reads as after a key was written, and that every operation keeps the canonical
form. -/
namespace Sys2Proof.Machine

variable {α : Type}

theorem Sparse.find_insert_self (l : List (Nat × α)) (k : Nat) (v : α) : Sparse.find (Sparse.insert l k v) k = some v := by
  induction l with
  | nil => simp [Sparse.insert, Sparse.find]
  | cons p t ih =>
    obtain ⟨a, b⟩ := p
    by_cases h1 : k < a
    · simp [Sparse.insert, Sparse.find, h1]
    · by_cases h2 : a = k <;> simp [Sparse.insert, Sparse.find, h1, h2, ih]

theorem Sparse.find_insert_other (l : List (Nat × α)) (k k' : Nat) (v : α) (h : k' ≠ k) :
    Sparse.find (Sparse.insert l k v) k' = Sparse.find l k' := by
  induction l with
  | nil => simp [Sparse.insert, Sparse.find, Ne.symm h]
  | cons p t ih =>
    obtain ⟨a, b⟩ := p
    by_cases h1 : k < a
    · simp [Sparse.insert, Sparse.find, h1, Ne.symm h]
    · by_cases h2 : a = k
      · subst h2; simp [Sparse.insert, Sparse.find, Ne.symm h]
      · simp [Sparse.insert, Sparse.find, h1, h2, ih]

theorem Sparse.find_erase_self (l : List (Nat × α)) (k : Nat) : Sparse.find (Sparse.erase l k) k = none := by
  induction l with
  | nil => rfl
  | cons p t ih =>
    obtain ⟨a, b⟩ := p
    by_cases h : a = k <;> simp [Sparse.erase, Sparse.find, h, ih]

theorem Sparse.find_erase_other (l : List (Nat × α)) (k k' : Nat) (h : k' ≠ k) :
    Sparse.find (Sparse.erase l k) k' = Sparse.find l k' := by
  induction l with
  | nil => rfl
  | cons p t ih =>
    obtain ⟨a, b⟩ := p
    by_cases h1 : a = k
    · subst h1; simp [Sparse.erase, Sparse.find, ih, Ne.symm h]
    · simp [Sparse.erase, Sparse.find, h1, ih]

/-- A key reads as what was last put there. -/
@[simp] theorem Sparse.get_put_self [DecidableEq α] (d : Nat → α) (l : List (Nat × α)) (k : Nat) (v : α) :
    Sparse.get d (Sparse.put d l k v) k = v := by
  by_cases h : v = d k
  · simp [Sparse.get, Sparse.put, h, Sparse.find_erase_self]
  · simp [Sparse.get, Sparse.put, h, Sparse.find_insert_self]

/-- Every other key reads as before. -/
theorem Sparse.get_put_other [DecidableEq α] (d : Nat → α) (l : List (Nat × α)) (k k' : Nat) (v : α) (h : k' ≠ k) :
    Sparse.get d (Sparse.put d l k v) k' = Sparse.get d l k' := by
  by_cases hv : v = d k
  · subst hv; simp [Sparse.get, Sparse.put, Sparse.find_erase_other l k k' h]
  · simp [Sparse.get, Sparse.put, hv, Sparse.find_insert_other l k k' v h]

theorem Sparse.find_filter (p : Nat → Bool) (l : List (Nat × α)) (k : Nat) :
    Sparse.find (l.filter (fun c => p c.1)) k = if p k then Sparse.find l k else none := by
  induction l with
  | nil => simp [Sparse.find]
  | cons q t ih =>
    obtain ⟨a, b⟩ := q
    by_cases h1 : p a
    · by_cases h2 : a = k
      · subst h2; simp [Sparse.find, h1]
      · simp [Sparse.find, h1, h2, ih]
    · by_cases h2 : a = k
      · subst h2; simp [h1, ih]
      · simp [Sparse.find, h1, h2, ih]

/-- A key taken out of the store reads as its default, and every key that stays as before. -/
theorem Sparse.get_filter (d : Nat → α) (p : Nat → Bool) (l : List (Nat × α)) (k : Nat) :
    Sparse.get d (l.filter (fun c => p c.1)) k = if p k then Sparse.get d l k else d k := by
  unfold Sparse.get
  rw [Sparse.find_filter]
  by_cases h : p k <;> simp [h]

/-! ### The canonical form -/

theorem Sparse.above_insert (l : List (Nat × α)) (a k : Nat) (v : α) (h : Sparse.above a l = true) (hk : a < k) :
    Sparse.above a (Sparse.insert l k v) = true := by
  induction l with
  | nil => simp [Sparse.insert, Sparse.above, hk]
  | cons p t ih =>
    obtain ⟨x, y⟩ := p
    simp only [Sparse.above, List.all_cons, Bool.and_eq_true, decide_eq_true_eq] at h ih ⊢
    simp only [Sparse.insert]
    split
    · simp [hk, h]
    · split
      · simp [hk, h]
      · simp [h.1, ih h.2]

theorem Sparse.above_erase (l : List (Nat × α)) (a k : Nat) (h : Sparse.above a l = true) :
    Sparse.above a (Sparse.erase l k) = true := by
  induction l with
  | nil => rfl
  | cons p t ih =>
    obtain ⟨x, y⟩ := p
    simp only [Sparse.above, List.all_cons, Bool.and_eq_true, decide_eq_true_eq] at h ih ⊢
    simp only [Sparse.erase]
    split
    · exact ih h.2
    · simp [h.1, ih h.2]

theorem Sparse.above_trans (l : List (Nat × α)) (a b : Nat) (hab : a < b) (h : Sparse.above b l = true) :
    Sparse.above a l = true := by
  simp only [Sparse.above, List.all_eq_true, decide_eq_true_eq] at h ⊢
  intro p hp
  exact Nat.lt_trans hab (h p hp)

theorem Sparse.wf_insert [DecidableEq α] (d : Nat → α) (l : List (Nat × α)) (k : Nat) (v : α)
    (h : Sparse.wf d l = true) (hv : v ≠ d k) : Sparse.wf d (Sparse.insert l k v) = true := by
  induction l with
  | nil => simp [Sparse.insert, Sparse.wf, Sparse.above, hv]
  | cons p t ih =>
    obtain ⟨a, b⟩ := p
    simp only [Sparse.wf, Bool.and_eq_true, decide_eq_true_eq] at h
    obtain ⟨⟨hb, ha⟩, ht⟩ := h
    simp only [Sparse.insert]
    split
    · rename_i hk
      have := Sparse.above_trans t k a hk ha
      simp only [Sparse.wf, Bool.and_eq_true, decide_eq_true_eq]
      refine ⟨⟨hv, ?_⟩, ⟨hb, ha⟩, ht⟩
      simp only [Sparse.above, List.all_cons, Bool.and_eq_true, decide_eq_true_eq] at this ⊢
      exact ⟨hk, this⟩
    · split
      · rename_i hk
        subst hk
        simp [Sparse.wf, hv, ha, ht]
      · rename_i h1 h2
        have : a < k := by omega
        simp [Sparse.wf, hb, Sparse.above_insert t a k v ha this, ih ht]

theorem Sparse.wf_erase [DecidableEq α] (d : Nat → α) (l : List (Nat × α)) (k : Nat) (h : Sparse.wf d l = true) :
    Sparse.wf d (Sparse.erase l k) = true := by
  induction l with
  | nil => rfl
  | cons p t ih =>
    obtain ⟨a, b⟩ := p
    simp only [Sparse.wf, Bool.and_eq_true, decide_eq_true_eq] at h
    obtain ⟨⟨hb, ha⟩, ht⟩ := h
    simp only [Sparse.erase]
    split
    · exact ih ht
    · simp [Sparse.wf, hb, Sparse.above_erase t a k ha, ih ht]

/-- Writing one key keeps the canonical form. -/
theorem Sparse.wf_put [DecidableEq α] (d : Nat → α) (l : List (Nat × α)) (k : Nat) (v : α) (h : Sparse.wf d l = true) :
    Sparse.wf d (Sparse.put d l k v) = true := by
  unfold Sparse.put
  split
  · exact Sparse.wf_erase d l k h
  · exact Sparse.wf_insert d l k v h ‹_›

/-- Taking keys out of the store keeps the canonical form. -/
theorem Sparse.wf_filter [DecidableEq α] (d : Nat → α) (p : Nat × α → Bool) (l : List (Nat × α))
    (h : Sparse.wf d l = true) : Sparse.wf d (l.filter p) = true := by
  induction l with
  | nil => rfl
  | cons q t ih =>
    obtain ⟨a, b⟩ := q
    simp only [Sparse.wf, Bool.and_eq_true, decide_eq_true_eq] at h
    obtain ⟨⟨hb, ha⟩, ht⟩ := h
    rw [List.filter_cons]
    split
    · simp only [Sparse.wf, Bool.and_eq_true, decide_eq_true_eq]
      refine ⟨⟨hb, ?_⟩, ih ht⟩
      simp only [Sparse.above, List.all_eq_true, decide_eq_true_eq] at ha ⊢
      intro x hx
      exact ha x (List.mem_of_mem_filter hx)
    · exact ih ht

end Sys2Proof.Machine
end

