-- ==== Sys2Proof/Laws/State.lean ====
section
/-! SUPPORT. One lemma per named update and field of State that the update does not touch: the field stays. -/
namespace Sys2Proof.Machine

variable (s : State)

/-! `State.put` changes `od` alone. -/

@[simp] theorem State.put_pending (i j : Nat) (v : Word) : (s.put i j v).pending = s.pending := rfl
@[simp] theorem State.put_now (i j : Nat) (v : Word) : (s.put i j v).now = s.now := rfl
@[simp] theorem State.put_mem (i j : Nat) (v : Word) : (s.put i j v).mem = s.mem := rfl
@[simp] theorem State.put_free (i j : Nat) (v : Word) : (s.put i j v).free = s.free := rfl
@[simp] theorem State.put_resp (i j : Nat) (v : Word) : (s.put i j v).resp = s.resp := rfl
@[simp] theorem State.put_masters (i j : Nat) (v : Word) : (s.put i j v).masters = s.masters := rfl
@[simp] theorem State.put_raised (i j : Nat) (v : Word) : (s.put i j v).raised = s.raised := rfl
@[simp] theorem State.put_postNet (i j : Nat) (v : Word) : (s.put i j v).postNet = s.postNet := rfl
@[simp] theorem State.put_postTurn (i j : Nat) (v : Word) : (s.put i j v).postTurn = s.postTurn := rfl
@[simp] theorem State.put_clk (i j : Nat) (v : Word) : (s.put i j v).clk = s.clk := rfl
@[simp] theorem State.put_tide (i j : Nat) (v : Word) : (s.put i j v).tide = s.tide := rfl
@[simp] theorem State.put_engines (i j : Nat) (v : Word) : (s.put i j v).engines = s.engines := rfl
@[simp] theorem State.put_pool (i j : Nat) (v : Word) : (s.put i j v).pool = s.pool := rfl
@[simp] theorem State.put_posted (i j : Nat) (v : Word) : (s.put i j v).posted = s.posted := rfl
@[simp] theorem State.put_ports (i j : Nat) (v : Word) : (s.put i j v).ports = s.ports := rfl
@[simp] theorem State.put_dbg (i j : Nat) (v : Word) : (s.put i j v).dbg = s.dbg := rfl
@[simp] theorem State.put_ecc (i j : Nat) (v : Word) : (s.put i j v).ecc = s.ecc := rfl
@[simp] theorem State.put_startup (i j : Nat) (v : Word) : (s.put i j v).startup = s.startup := rfl
@[simp] theorem State.put_fm (i j : Nat) (v : Word) : (s.put i j v).fm = s.fm := rfl
@[simp] theorem State.put_irq (i j : Nat) (v : Word) : (s.put i j v).irq = s.irq := rfl
@[simp] theorem State.put_sense (i j : Nat) (v : Word) : (s.put i j v).sense = s.sense := rfl
@[simp] theorem State.put_phases (i j : Nat) (v : Word) : (s.put i j v).phases = s.phases := rfl
@[simp] theorem State.put_rails (i j : Nat) (v : Word) : (s.put i j v).rails = s.rails := rfl
@[simp] theorem State.put_measures (i j : Nat) (v : Word) : (s.put i j v).measures = s.measures := rfl
@[simp] theorem State.put_chg (i j : Nat) (v : Word) : (s.put i j v).chg = s.chg := rfl
@[simp] theorem State.put_aon (i j : Nat) (v : Word) : (s.put i j v).aon = s.aon := rfl
@[simp] theorem State.put_gauge (i j : Nat) (v : Word) : (s.put i j v).gauge = s.gauge := rfl
@[simp] theorem State.put_nv (i j : Nat) (v : Word) : (s.put i j v).nv = s.nv := rfl
@[simp] theorem State.put_hka (i j : Nat) (v : Word) : (s.put i j v).hka = s.hka := rfl
@[simp] theorem State.put_tacho (i j : Nat) (v : Word) : (s.put i j v).tacho = s.tacho := rfl
@[simp] theorem State.put_sup (i j : Nat) (v : Word) : (s.put i j v).sup = s.sup := rfl
@[simp] theorem State.put_gds (i j : Nat) (v : Word) : (s.put i j v).gds = s.gds := rfl
@[simp] theorem State.put_seq (i j : Nat) (v : Word) : (s.put i j v).seq = s.seq := rfl
@[simp] theorem State.put_dom (i j : Nat) (v : Word) : (s.put i j v).dom = s.dom := rfl
@[simp] theorem State.put_can (i j : Nat) (v : Word) : (s.put i j v).can = s.can := rfl
@[simp] theorem State.put_agent (i j : Nat) (v : Word) : (s.put i j v).agent = s.agent := rfl
@[simp] theorem State.put_bulk (i j : Nat) (v : Word) : (s.put i j v).bulk = s.bulk := rfl
@[simp] theorem State.put_auth (i j : Nat) (v : Word) : (s.put i j v).auth = s.auth := rfl
@[simp] theorem State.put_twb (i j : Nat) (v : Word) : (s.put i j v).twb = s.twb := rfl
@[simp] theorem State.put_canary (i j : Nat) (v : Word) : (s.put i j v).canary = s.canary := rfl
@[simp] theorem State.put_col (i j : Nat) (v : Word) : (s.put i j v).col = s.col := rfl
@[simp] theorem State.put_rtc (i j : Nat) (v : Word) : (s.put i j v).rtc = s.rtc := rfl
@[simp] theorem State.put_assayer (i j : Nat) (v : Word) : (s.put i j v).assayer = s.assayer := rfl
@[simp] theorem State.put_life (i j : Nat) (v : Word) : (s.put i j v).life = s.life := rfl
@[simp] theorem State.put_fwt (i j : Nat) (v : Word) : (s.put i j v).fwt = s.fwt := rfl
@[simp] theorem State.put_cyc (i j : Nat) (v : Word) : (s.put i j v).cyc = s.cyc := rfl
@[simp] theorem State.put_real (i j : Nat) (v : Word) : (s.put i j v).real = s.real := rfl
@[simp] theorem State.put_sckFrom (i j : Nat) (v : Word) : (s.put i j v).sckFrom = s.sckFrom := rfl
@[simp] theorem State.put_memByte (i j : Nat) (v : Word) (x : Nat) : (s.put i j v).memByte x = s.memByte x := rfl
@[simp] theorem State.put_master (i j : Nat) (v : Word) (x : Master) : (s.put i j v).master x = s.master x := rfl
@[simp] theorem State.put_t (i j : Nat) (v : Word) : (s.put i j v).t = s.t := rfl

/-! `State.putByte` changes `mem` alone. -/

@[simp] theorem State.putByte_pending (a : Nat) (b : Byte) : (s.putByte a b).pending = s.pending := rfl
@[simp] theorem State.putByte_now (a : Nat) (b : Byte) : (s.putByte a b).now = s.now := rfl
@[simp] theorem State.putByte_od (a : Nat) (b : Byte) : (s.putByte a b).od = s.od := rfl
@[simp] theorem State.putByte_free (a : Nat) (b : Byte) : (s.putByte a b).free = s.free := rfl
@[simp] theorem State.putByte_resp (a : Nat) (b : Byte) : (s.putByte a b).resp = s.resp := rfl
@[simp] theorem State.putByte_masters (a : Nat) (b : Byte) : (s.putByte a b).masters = s.masters := rfl
@[simp] theorem State.putByte_raised (a : Nat) (b : Byte) : (s.putByte a b).raised = s.raised := rfl
@[simp] theorem State.putByte_postNet (a : Nat) (b : Byte) : (s.putByte a b).postNet = s.postNet := rfl
@[simp] theorem State.putByte_postTurn (a : Nat) (b : Byte) : (s.putByte a b).postTurn = s.postTurn := rfl
@[simp] theorem State.putByte_clk (a : Nat) (b : Byte) : (s.putByte a b).clk = s.clk := rfl
@[simp] theorem State.putByte_tide (a : Nat) (b : Byte) : (s.putByte a b).tide = s.tide := rfl
@[simp] theorem State.putByte_engines (a : Nat) (b : Byte) : (s.putByte a b).engines = s.engines := rfl
@[simp] theorem State.putByte_pool (a : Nat) (b : Byte) : (s.putByte a b).pool = s.pool := rfl
@[simp] theorem State.putByte_posted (a : Nat) (b : Byte) : (s.putByte a b).posted = s.posted := rfl
@[simp] theorem State.putByte_ports (a : Nat) (b : Byte) : (s.putByte a b).ports = s.ports := rfl
@[simp] theorem State.putByte_dbg (a : Nat) (b : Byte) : (s.putByte a b).dbg = s.dbg := rfl
@[simp] theorem State.putByte_ecc (a : Nat) (b : Byte) : (s.putByte a b).ecc = s.ecc := rfl
@[simp] theorem State.putByte_startup (a : Nat) (b : Byte) : (s.putByte a b).startup = s.startup := rfl
@[simp] theorem State.putByte_fm (a : Nat) (b : Byte) : (s.putByte a b).fm = s.fm := rfl
@[simp] theorem State.putByte_irq (a : Nat) (b : Byte) : (s.putByte a b).irq = s.irq := rfl
@[simp] theorem State.putByte_sense (a : Nat) (b : Byte) : (s.putByte a b).sense = s.sense := rfl
@[simp] theorem State.putByte_phases (a : Nat) (b : Byte) : (s.putByte a b).phases = s.phases := rfl
@[simp] theorem State.putByte_rails (a : Nat) (b : Byte) : (s.putByte a b).rails = s.rails := rfl
@[simp] theorem State.putByte_measures (a : Nat) (b : Byte) : (s.putByte a b).measures = s.measures := rfl
@[simp] theorem State.putByte_chg (a : Nat) (b : Byte) : (s.putByte a b).chg = s.chg := rfl
@[simp] theorem State.putByte_aon (a : Nat) (b : Byte) : (s.putByte a b).aon = s.aon := rfl
@[simp] theorem State.putByte_gauge (a : Nat) (b : Byte) : (s.putByte a b).gauge = s.gauge := rfl
@[simp] theorem State.putByte_nv (a : Nat) (b : Byte) : (s.putByte a b).nv = s.nv := rfl
@[simp] theorem State.putByte_hka (a : Nat) (b : Byte) : (s.putByte a b).hka = s.hka := rfl
@[simp] theorem State.putByte_tacho (a : Nat) (b : Byte) : (s.putByte a b).tacho = s.tacho := rfl
@[simp] theorem State.putByte_sup (a : Nat) (b : Byte) : (s.putByte a b).sup = s.sup := rfl
@[simp] theorem State.putByte_gds (a : Nat) (b : Byte) : (s.putByte a b).gds = s.gds := rfl
@[simp] theorem State.putByte_seq (a : Nat) (b : Byte) : (s.putByte a b).seq = s.seq := rfl
@[simp] theorem State.putByte_dom (a : Nat) (b : Byte) : (s.putByte a b).dom = s.dom := rfl
@[simp] theorem State.putByte_can (a : Nat) (b : Byte) : (s.putByte a b).can = s.can := rfl
@[simp] theorem State.putByte_agent (a : Nat) (b : Byte) : (s.putByte a b).agent = s.agent := rfl
@[simp] theorem State.putByte_bulk (a : Nat) (b : Byte) : (s.putByte a b).bulk = s.bulk := rfl
@[simp] theorem State.putByte_auth (a : Nat) (b : Byte) : (s.putByte a b).auth = s.auth := rfl
@[simp] theorem State.putByte_twb (a : Nat) (b : Byte) : (s.putByte a b).twb = s.twb := rfl
@[simp] theorem State.putByte_canary (a : Nat) (b : Byte) : (s.putByte a b).canary = s.canary := rfl
@[simp] theorem State.putByte_col (a : Nat) (b : Byte) : (s.putByte a b).col = s.col := rfl
@[simp] theorem State.putByte_rtc (a : Nat) (b : Byte) : (s.putByte a b).rtc = s.rtc := rfl
@[simp] theorem State.putByte_assayer (a : Nat) (b : Byte) : (s.putByte a b).assayer = s.assayer := rfl
@[simp] theorem State.putByte_life (a : Nat) (b : Byte) : (s.putByte a b).life = s.life := rfl
@[simp] theorem State.putByte_fwt (a : Nat) (b : Byte) : (s.putByte a b).fwt = s.fwt := rfl
@[simp] theorem State.putByte_cyc (a : Nat) (b : Byte) : (s.putByte a b).cyc = s.cyc := rfl
@[simp] theorem State.putByte_real (a : Nat) (b : Byte) : (s.putByte a b).real = s.real := rfl
@[simp] theorem State.putByte_sckFrom (a : Nat) (b : Byte) : (s.putByte a b).sckFrom = s.sckFrom := rfl
@[simp] theorem State.putByte_obj (a : Nat) (b : Byte) (x y : Nat) : (s.putByte a b).obj x y = s.obj x y := rfl
@[simp] theorem State.putByte_master (a : Nat) (b : Byte) (x : Master) : (s.putByte a b).master x = s.master x := rfl
@[simp] theorem State.putByte_t (a : Nat) (b : Byte) : (s.putByte a b).t = s.t := rfl

/-! `State.clearMem` changes `mem` alone. -/

@[simp] theorem State.clearMem_pending (lo size : Nat) : (s.clearMem lo size).pending = s.pending := rfl
@[simp] theorem State.clearMem_now (lo size : Nat) : (s.clearMem lo size).now = s.now := rfl
@[simp] theorem State.clearMem_od (lo size : Nat) : (s.clearMem lo size).od = s.od := rfl
@[simp] theorem State.clearMem_free (lo size : Nat) : (s.clearMem lo size).free = s.free := rfl
@[simp] theorem State.clearMem_resp (lo size : Nat) : (s.clearMem lo size).resp = s.resp := rfl
@[simp] theorem State.clearMem_masters (lo size : Nat) : (s.clearMem lo size).masters = s.masters := rfl
@[simp] theorem State.clearMem_raised (lo size : Nat) : (s.clearMem lo size).raised = s.raised := rfl
@[simp] theorem State.clearMem_postNet (lo size : Nat) : (s.clearMem lo size).postNet = s.postNet := rfl
@[simp] theorem State.clearMem_postTurn (lo size : Nat) : (s.clearMem lo size).postTurn = s.postTurn := rfl
@[simp] theorem State.clearMem_clk (lo size : Nat) : (s.clearMem lo size).clk = s.clk := rfl
@[simp] theorem State.clearMem_tide (lo size : Nat) : (s.clearMem lo size).tide = s.tide := rfl
@[simp] theorem State.clearMem_engines (lo size : Nat) : (s.clearMem lo size).engines = s.engines := rfl
@[simp] theorem State.clearMem_pool (lo size : Nat) : (s.clearMem lo size).pool = s.pool := rfl
@[simp] theorem State.clearMem_posted (lo size : Nat) : (s.clearMem lo size).posted = s.posted := rfl
@[simp] theorem State.clearMem_ports (lo size : Nat) : (s.clearMem lo size).ports = s.ports := rfl
@[simp] theorem State.clearMem_dbg (lo size : Nat) : (s.clearMem lo size).dbg = s.dbg := rfl
@[simp] theorem State.clearMem_ecc (lo size : Nat) : (s.clearMem lo size).ecc = s.ecc := rfl
@[simp] theorem State.clearMem_startup (lo size : Nat) : (s.clearMem lo size).startup = s.startup := rfl
@[simp] theorem State.clearMem_fm (lo size : Nat) : (s.clearMem lo size).fm = s.fm := rfl
@[simp] theorem State.clearMem_irq (lo size : Nat) : (s.clearMem lo size).irq = s.irq := rfl
@[simp] theorem State.clearMem_sense (lo size : Nat) : (s.clearMem lo size).sense = s.sense := rfl
@[simp] theorem State.clearMem_phases (lo size : Nat) : (s.clearMem lo size).phases = s.phases := rfl
@[simp] theorem State.clearMem_rails (lo size : Nat) : (s.clearMem lo size).rails = s.rails := rfl
@[simp] theorem State.clearMem_measures (lo size : Nat) : (s.clearMem lo size).measures = s.measures := rfl
@[simp] theorem State.clearMem_chg (lo size : Nat) : (s.clearMem lo size).chg = s.chg := rfl
@[simp] theorem State.clearMem_aon (lo size : Nat) : (s.clearMem lo size).aon = s.aon := rfl
@[simp] theorem State.clearMem_gauge (lo size : Nat) : (s.clearMem lo size).gauge = s.gauge := rfl
@[simp] theorem State.clearMem_nv (lo size : Nat) : (s.clearMem lo size).nv = s.nv := rfl
@[simp] theorem State.clearMem_hka (lo size : Nat) : (s.clearMem lo size).hka = s.hka := rfl
@[simp] theorem State.clearMem_tacho (lo size : Nat) : (s.clearMem lo size).tacho = s.tacho := rfl
@[simp] theorem State.clearMem_sup (lo size : Nat) : (s.clearMem lo size).sup = s.sup := rfl
@[simp] theorem State.clearMem_gds (lo size : Nat) : (s.clearMem lo size).gds = s.gds := rfl
@[simp] theorem State.clearMem_seq (lo size : Nat) : (s.clearMem lo size).seq = s.seq := rfl
@[simp] theorem State.clearMem_dom (lo size : Nat) : (s.clearMem lo size).dom = s.dom := rfl
@[simp] theorem State.clearMem_can (lo size : Nat) : (s.clearMem lo size).can = s.can := rfl
@[simp] theorem State.clearMem_agent (lo size : Nat) : (s.clearMem lo size).agent = s.agent := rfl
@[simp] theorem State.clearMem_bulk (lo size : Nat) : (s.clearMem lo size).bulk = s.bulk := rfl
@[simp] theorem State.clearMem_auth (lo size : Nat) : (s.clearMem lo size).auth = s.auth := rfl
@[simp] theorem State.clearMem_twb (lo size : Nat) : (s.clearMem lo size).twb = s.twb := rfl
@[simp] theorem State.clearMem_canary (lo size : Nat) : (s.clearMem lo size).canary = s.canary := rfl
@[simp] theorem State.clearMem_col (lo size : Nat) : (s.clearMem lo size).col = s.col := rfl
@[simp] theorem State.clearMem_rtc (lo size : Nat) : (s.clearMem lo size).rtc = s.rtc := rfl
@[simp] theorem State.clearMem_assayer (lo size : Nat) : (s.clearMem lo size).assayer = s.assayer := rfl
@[simp] theorem State.clearMem_life (lo size : Nat) : (s.clearMem lo size).life = s.life := rfl
@[simp] theorem State.clearMem_fwt (lo size : Nat) : (s.clearMem lo size).fwt = s.fwt := rfl
@[simp] theorem State.clearMem_cyc (lo size : Nat) : (s.clearMem lo size).cyc = s.cyc := rfl
@[simp] theorem State.clearMem_real (lo size : Nat) : (s.clearMem lo size).real = s.real := rfl
@[simp] theorem State.clearMem_sckFrom (lo size : Nat) : (s.clearMem lo size).sckFrom = s.sckFrom := rfl
@[simp] theorem State.clearMem_obj (lo size : Nat) (x y : Nat) : (s.clearMem lo size).obj x y = s.obj x y := rfl
@[simp] theorem State.clearMem_master (lo size : Nat) (x : Master) : (s.clearMem lo size).master x = s.master x := rfl
@[simp] theorem State.clearMem_t (lo size : Nat) : (s.clearMem lo size).t = s.t := rfl

/-! `State.report` changes `raised` alone. -/

@[simp] theorem State.report_pending (src : Nat) (cls : FClass) (d : Nat) : (s.report src cls d).pending = s.pending := rfl
@[simp] theorem State.report_now (src : Nat) (cls : FClass) (d : Nat) : (s.report src cls d).now = s.now := rfl
@[simp] theorem State.report_od (src : Nat) (cls : FClass) (d : Nat) : (s.report src cls d).od = s.od := rfl
@[simp] theorem State.report_mem (src : Nat) (cls : FClass) (d : Nat) : (s.report src cls d).mem = s.mem := rfl
@[simp] theorem State.report_free (src : Nat) (cls : FClass) (d : Nat) : (s.report src cls d).free = s.free := rfl
@[simp] theorem State.report_resp (src : Nat) (cls : FClass) (d : Nat) : (s.report src cls d).resp = s.resp := rfl
@[simp] theorem State.report_masters (src : Nat) (cls : FClass) (d : Nat) : (s.report src cls d).masters = s.masters := rfl
@[simp] theorem State.report_postNet (src : Nat) (cls : FClass) (d : Nat) : (s.report src cls d).postNet = s.postNet := rfl
@[simp] theorem State.report_postTurn (src : Nat) (cls : FClass) (d : Nat) : (s.report src cls d).postTurn = s.postTurn := rfl
@[simp] theorem State.report_clk (src : Nat) (cls : FClass) (d : Nat) : (s.report src cls d).clk = s.clk := rfl
@[simp] theorem State.report_tide (src : Nat) (cls : FClass) (d : Nat) : (s.report src cls d).tide = s.tide := rfl
@[simp] theorem State.report_engines (src : Nat) (cls : FClass) (d : Nat) : (s.report src cls d).engines = s.engines := rfl
@[simp] theorem State.report_pool (src : Nat) (cls : FClass) (d : Nat) : (s.report src cls d).pool = s.pool := rfl
@[simp] theorem State.report_posted (src : Nat) (cls : FClass) (d : Nat) : (s.report src cls d).posted = s.posted := rfl
@[simp] theorem State.report_ports (src : Nat) (cls : FClass) (d : Nat) : (s.report src cls d).ports = s.ports := rfl
@[simp] theorem State.report_dbg (src : Nat) (cls : FClass) (d : Nat) : (s.report src cls d).dbg = s.dbg := rfl
@[simp] theorem State.report_ecc (src : Nat) (cls : FClass) (d : Nat) : (s.report src cls d).ecc = s.ecc := rfl
@[simp] theorem State.report_startup (src : Nat) (cls : FClass) (d : Nat) : (s.report src cls d).startup = s.startup := rfl
@[simp] theorem State.report_fm (src : Nat) (cls : FClass) (d : Nat) : (s.report src cls d).fm = s.fm := rfl
@[simp] theorem State.report_irq (src : Nat) (cls : FClass) (d : Nat) : (s.report src cls d).irq = s.irq := rfl
@[simp] theorem State.report_sense (src : Nat) (cls : FClass) (d : Nat) : (s.report src cls d).sense = s.sense := rfl
@[simp] theorem State.report_phases (src : Nat) (cls : FClass) (d : Nat) : (s.report src cls d).phases = s.phases := rfl
@[simp] theorem State.report_rails (src : Nat) (cls : FClass) (d : Nat) : (s.report src cls d).rails = s.rails := rfl
@[simp] theorem State.report_measures (src : Nat) (cls : FClass) (d : Nat) : (s.report src cls d).measures = s.measures := rfl
@[simp] theorem State.report_chg (src : Nat) (cls : FClass) (d : Nat) : (s.report src cls d).chg = s.chg := rfl
@[simp] theorem State.report_aon (src : Nat) (cls : FClass) (d : Nat) : (s.report src cls d).aon = s.aon := rfl
@[simp] theorem State.report_gauge (src : Nat) (cls : FClass) (d : Nat) : (s.report src cls d).gauge = s.gauge := rfl
@[simp] theorem State.report_nv (src : Nat) (cls : FClass) (d : Nat) : (s.report src cls d).nv = s.nv := rfl
@[simp] theorem State.report_hka (src : Nat) (cls : FClass) (d : Nat) : (s.report src cls d).hka = s.hka := rfl
@[simp] theorem State.report_tacho (src : Nat) (cls : FClass) (d : Nat) : (s.report src cls d).tacho = s.tacho := rfl
@[simp] theorem State.report_sup (src : Nat) (cls : FClass) (d : Nat) : (s.report src cls d).sup = s.sup := rfl
@[simp] theorem State.report_gds (src : Nat) (cls : FClass) (d : Nat) : (s.report src cls d).gds = s.gds := rfl
@[simp] theorem State.report_seq (src : Nat) (cls : FClass) (d : Nat) : (s.report src cls d).seq = s.seq := rfl
@[simp] theorem State.report_dom (src : Nat) (cls : FClass) (d : Nat) : (s.report src cls d).dom = s.dom := rfl
@[simp] theorem State.report_can (src : Nat) (cls : FClass) (d : Nat) : (s.report src cls d).can = s.can := rfl
@[simp] theorem State.report_agent (src : Nat) (cls : FClass) (d : Nat) : (s.report src cls d).agent = s.agent := rfl
@[simp] theorem State.report_bulk (src : Nat) (cls : FClass) (d : Nat) : (s.report src cls d).bulk = s.bulk := rfl
@[simp] theorem State.report_auth (src : Nat) (cls : FClass) (d : Nat) : (s.report src cls d).auth = s.auth := rfl
@[simp] theorem State.report_twb (src : Nat) (cls : FClass) (d : Nat) : (s.report src cls d).twb = s.twb := rfl
@[simp] theorem State.report_canary (src : Nat) (cls : FClass) (d : Nat) : (s.report src cls d).canary = s.canary := rfl
@[simp] theorem State.report_col (src : Nat) (cls : FClass) (d : Nat) : (s.report src cls d).col = s.col := rfl
@[simp] theorem State.report_rtc (src : Nat) (cls : FClass) (d : Nat) : (s.report src cls d).rtc = s.rtc := rfl
@[simp] theorem State.report_assayer (src : Nat) (cls : FClass) (d : Nat) : (s.report src cls d).assayer = s.assayer := rfl
@[simp] theorem State.report_life (src : Nat) (cls : FClass) (d : Nat) : (s.report src cls d).life = s.life := rfl
@[simp] theorem State.report_fwt (src : Nat) (cls : FClass) (d : Nat) : (s.report src cls d).fwt = s.fwt := rfl
@[simp] theorem State.report_cyc (src : Nat) (cls : FClass) (d : Nat) : (s.report src cls d).cyc = s.cyc := rfl
@[simp] theorem State.report_real (src : Nat) (cls : FClass) (d : Nat) : (s.report src cls d).real = s.real := rfl
@[simp] theorem State.report_sckFrom (src : Nat) (cls : FClass) (d : Nat) : (s.report src cls d).sckFrom = s.sckFrom := rfl
@[simp] theorem State.report_obj (src : Nat) (cls : FClass) (d : Nat) (x y : Nat) : (s.report src cls d).obj x y = s.obj x y := rfl
@[simp] theorem State.report_memByte (src : Nat) (cls : FClass) (d : Nat) (x : Nat) : (s.report src cls d).memByte x = s.memByte x := rfl
@[simp] theorem State.report_master (src : Nat) (cls : FClass) (d : Nat) (x : Master) : (s.report src cls d).master x = s.master x := rfl
@[simp] theorem State.report_t (src : Nat) (cls : FClass) (d : Nat) : (s.report src cls d).t = s.t := rfl

/-! `State.modMaster` changes `masters` alone. -/

@[simp] theorem State.modMaster_pending (m : Master) (f : MasterState → MasterState) : (s.modMaster m f).pending = s.pending := rfl
@[simp] theorem State.modMaster_now (m : Master) (f : MasterState → MasterState) : (s.modMaster m f).now = s.now := rfl
@[simp] theorem State.modMaster_od (m : Master) (f : MasterState → MasterState) : (s.modMaster m f).od = s.od := rfl
@[simp] theorem State.modMaster_mem (m : Master) (f : MasterState → MasterState) : (s.modMaster m f).mem = s.mem := rfl
@[simp] theorem State.modMaster_free (m : Master) (f : MasterState → MasterState) : (s.modMaster m f).free = s.free := rfl
@[simp] theorem State.modMaster_resp (m : Master) (f : MasterState → MasterState) : (s.modMaster m f).resp = s.resp := rfl
@[simp] theorem State.modMaster_raised (m : Master) (f : MasterState → MasterState) : (s.modMaster m f).raised = s.raised := rfl
@[simp] theorem State.modMaster_postNet (m : Master) (f : MasterState → MasterState) : (s.modMaster m f).postNet = s.postNet := rfl
@[simp] theorem State.modMaster_postTurn (m : Master) (f : MasterState → MasterState) : (s.modMaster m f).postTurn = s.postTurn := rfl
@[simp] theorem State.modMaster_clk (m : Master) (f : MasterState → MasterState) : (s.modMaster m f).clk = s.clk := rfl
@[simp] theorem State.modMaster_tide (m : Master) (f : MasterState → MasterState) : (s.modMaster m f).tide = s.tide := rfl
@[simp] theorem State.modMaster_engines (m : Master) (f : MasterState → MasterState) : (s.modMaster m f).engines = s.engines := rfl
@[simp] theorem State.modMaster_pool (m : Master) (f : MasterState → MasterState) : (s.modMaster m f).pool = s.pool := rfl
@[simp] theorem State.modMaster_posted (m : Master) (f : MasterState → MasterState) : (s.modMaster m f).posted = s.posted := rfl
@[simp] theorem State.modMaster_ports (m : Master) (f : MasterState → MasterState) : (s.modMaster m f).ports = s.ports := rfl
@[simp] theorem State.modMaster_dbg (m : Master) (f : MasterState → MasterState) : (s.modMaster m f).dbg = s.dbg := rfl
@[simp] theorem State.modMaster_ecc (m : Master) (f : MasterState → MasterState) : (s.modMaster m f).ecc = s.ecc := rfl
@[simp] theorem State.modMaster_startup (m : Master) (f : MasterState → MasterState) : (s.modMaster m f).startup = s.startup := rfl
@[simp] theorem State.modMaster_fm (m : Master) (f : MasterState → MasterState) : (s.modMaster m f).fm = s.fm := rfl
@[simp] theorem State.modMaster_irq (m : Master) (f : MasterState → MasterState) : (s.modMaster m f).irq = s.irq := rfl
@[simp] theorem State.modMaster_sense (m : Master) (f : MasterState → MasterState) : (s.modMaster m f).sense = s.sense := rfl
@[simp] theorem State.modMaster_phases (m : Master) (f : MasterState → MasterState) : (s.modMaster m f).phases = s.phases := rfl
@[simp] theorem State.modMaster_rails (m : Master) (f : MasterState → MasterState) : (s.modMaster m f).rails = s.rails := rfl
@[simp] theorem State.modMaster_measures (m : Master) (f : MasterState → MasterState) : (s.modMaster m f).measures = s.measures := rfl
@[simp] theorem State.modMaster_chg (m : Master) (f : MasterState → MasterState) : (s.modMaster m f).chg = s.chg := rfl
@[simp] theorem State.modMaster_aon (m : Master) (f : MasterState → MasterState) : (s.modMaster m f).aon = s.aon := rfl
@[simp] theorem State.modMaster_gauge (m : Master) (f : MasterState → MasterState) : (s.modMaster m f).gauge = s.gauge := rfl
@[simp] theorem State.modMaster_nv (m : Master) (f : MasterState → MasterState) : (s.modMaster m f).nv = s.nv := rfl
@[simp] theorem State.modMaster_hka (m : Master) (f : MasterState → MasterState) : (s.modMaster m f).hka = s.hka := rfl
@[simp] theorem State.modMaster_tacho (m : Master) (f : MasterState → MasterState) : (s.modMaster m f).tacho = s.tacho := rfl
@[simp] theorem State.modMaster_sup (m : Master) (f : MasterState → MasterState) : (s.modMaster m f).sup = s.sup := rfl
@[simp] theorem State.modMaster_gds (m : Master) (f : MasterState → MasterState) : (s.modMaster m f).gds = s.gds := rfl
@[simp] theorem State.modMaster_seq (m : Master) (f : MasterState → MasterState) : (s.modMaster m f).seq = s.seq := rfl
@[simp] theorem State.modMaster_dom (m : Master) (f : MasterState → MasterState) : (s.modMaster m f).dom = s.dom := rfl
@[simp] theorem State.modMaster_can (m : Master) (f : MasterState → MasterState) : (s.modMaster m f).can = s.can := rfl
@[simp] theorem State.modMaster_agent (m : Master) (f : MasterState → MasterState) : (s.modMaster m f).agent = s.agent := rfl
@[simp] theorem State.modMaster_bulk (m : Master) (f : MasterState → MasterState) : (s.modMaster m f).bulk = s.bulk := rfl
@[simp] theorem State.modMaster_auth (m : Master) (f : MasterState → MasterState) : (s.modMaster m f).auth = s.auth := rfl
@[simp] theorem State.modMaster_twb (m : Master) (f : MasterState → MasterState) : (s.modMaster m f).twb = s.twb := rfl
@[simp] theorem State.modMaster_canary (m : Master) (f : MasterState → MasterState) : (s.modMaster m f).canary = s.canary := rfl
@[simp] theorem State.modMaster_col (m : Master) (f : MasterState → MasterState) : (s.modMaster m f).col = s.col := rfl
@[simp] theorem State.modMaster_rtc (m : Master) (f : MasterState → MasterState) : (s.modMaster m f).rtc = s.rtc := rfl
@[simp] theorem State.modMaster_assayer (m : Master) (f : MasterState → MasterState) : (s.modMaster m f).assayer = s.assayer := rfl
@[simp] theorem State.modMaster_life (m : Master) (f : MasterState → MasterState) : (s.modMaster m f).life = s.life := rfl
@[simp] theorem State.modMaster_fwt (m : Master) (f : MasterState → MasterState) : (s.modMaster m f).fwt = s.fwt := rfl
@[simp] theorem State.modMaster_cyc (m : Master) (f : MasterState → MasterState) : (s.modMaster m f).cyc = s.cyc := rfl
@[simp] theorem State.modMaster_real (m : Master) (f : MasterState → MasterState) : (s.modMaster m f).real = s.real := rfl
@[simp] theorem State.modMaster_sckFrom (m : Master) (f : MasterState → MasterState) : (s.modMaster m f).sckFrom = s.sckFrom := rfl
@[simp] theorem State.modMaster_obj (m : Master) (f : MasterState → MasterState) (x y : Nat) : (s.modMaster m f).obj x y = s.obj x y := rfl
@[simp] theorem State.modMaster_memByte (m : Master) (f : MasterState → MasterState) (x : Nat) : (s.modMaster m f).memByte x = s.memByte x := rfl
@[simp] theorem State.modMaster_t (m : Master) (f : MasterState → MasterState) : (s.modMaster m f).t = s.t := rfl

/-! `State.d1Event` changes `aon` alone. -/

@[simp] theorem State.d1Event_pending (c : Nat) : (s.d1Event c).pending = s.pending := rfl
@[simp] theorem State.d1Event_now (c : Nat) : (s.d1Event c).now = s.now := rfl
@[simp] theorem State.d1Event_od (c : Nat) : (s.d1Event c).od = s.od := rfl
@[simp] theorem State.d1Event_mem (c : Nat) : (s.d1Event c).mem = s.mem := rfl
@[simp] theorem State.d1Event_free (c : Nat) : (s.d1Event c).free = s.free := rfl
@[simp] theorem State.d1Event_resp (c : Nat) : (s.d1Event c).resp = s.resp := rfl
@[simp] theorem State.d1Event_masters (c : Nat) : (s.d1Event c).masters = s.masters := rfl
@[simp] theorem State.d1Event_raised (c : Nat) : (s.d1Event c).raised = s.raised := rfl
@[simp] theorem State.d1Event_postNet (c : Nat) : (s.d1Event c).postNet = s.postNet := rfl
@[simp] theorem State.d1Event_postTurn (c : Nat) : (s.d1Event c).postTurn = s.postTurn := rfl
@[simp] theorem State.d1Event_clk (c : Nat) : (s.d1Event c).clk = s.clk := rfl
@[simp] theorem State.d1Event_tide (c : Nat) : (s.d1Event c).tide = s.tide := rfl
@[simp] theorem State.d1Event_engines (c : Nat) : (s.d1Event c).engines = s.engines := rfl
@[simp] theorem State.d1Event_pool (c : Nat) : (s.d1Event c).pool = s.pool := rfl
@[simp] theorem State.d1Event_posted (c : Nat) : (s.d1Event c).posted = s.posted := rfl
@[simp] theorem State.d1Event_ports (c : Nat) : (s.d1Event c).ports = s.ports := rfl
@[simp] theorem State.d1Event_dbg (c : Nat) : (s.d1Event c).dbg = s.dbg := rfl
@[simp] theorem State.d1Event_ecc (c : Nat) : (s.d1Event c).ecc = s.ecc := rfl
@[simp] theorem State.d1Event_startup (c : Nat) : (s.d1Event c).startup = s.startup := rfl
@[simp] theorem State.d1Event_fm (c : Nat) : (s.d1Event c).fm = s.fm := rfl
@[simp] theorem State.d1Event_irq (c : Nat) : (s.d1Event c).irq = s.irq := rfl
@[simp] theorem State.d1Event_sense (c : Nat) : (s.d1Event c).sense = s.sense := rfl
@[simp] theorem State.d1Event_phases (c : Nat) : (s.d1Event c).phases = s.phases := rfl
@[simp] theorem State.d1Event_rails (c : Nat) : (s.d1Event c).rails = s.rails := rfl
@[simp] theorem State.d1Event_measures (c : Nat) : (s.d1Event c).measures = s.measures := rfl
@[simp] theorem State.d1Event_chg (c : Nat) : (s.d1Event c).chg = s.chg := rfl
@[simp] theorem State.d1Event_gauge (c : Nat) : (s.d1Event c).gauge = s.gauge := rfl
@[simp] theorem State.d1Event_nv (c : Nat) : (s.d1Event c).nv = s.nv := rfl
@[simp] theorem State.d1Event_hka (c : Nat) : (s.d1Event c).hka = s.hka := rfl
@[simp] theorem State.d1Event_tacho (c : Nat) : (s.d1Event c).tacho = s.tacho := rfl
@[simp] theorem State.d1Event_sup (c : Nat) : (s.d1Event c).sup = s.sup := rfl
@[simp] theorem State.d1Event_gds (c : Nat) : (s.d1Event c).gds = s.gds := rfl
@[simp] theorem State.d1Event_seq (c : Nat) : (s.d1Event c).seq = s.seq := rfl
@[simp] theorem State.d1Event_dom (c : Nat) : (s.d1Event c).dom = s.dom := rfl
@[simp] theorem State.d1Event_can (c : Nat) : (s.d1Event c).can = s.can := rfl
@[simp] theorem State.d1Event_agent (c : Nat) : (s.d1Event c).agent = s.agent := rfl
@[simp] theorem State.d1Event_bulk (c : Nat) : (s.d1Event c).bulk = s.bulk := rfl
@[simp] theorem State.d1Event_auth (c : Nat) : (s.d1Event c).auth = s.auth := rfl
@[simp] theorem State.d1Event_twb (c : Nat) : (s.d1Event c).twb = s.twb := rfl
@[simp] theorem State.d1Event_canary (c : Nat) : (s.d1Event c).canary = s.canary := rfl
@[simp] theorem State.d1Event_col (c : Nat) : (s.d1Event c).col = s.col := rfl
@[simp] theorem State.d1Event_rtc (c : Nat) : (s.d1Event c).rtc = s.rtc := rfl
@[simp] theorem State.d1Event_assayer (c : Nat) : (s.d1Event c).assayer = s.assayer := rfl
@[simp] theorem State.d1Event_life (c : Nat) : (s.d1Event c).life = s.life := rfl
@[simp] theorem State.d1Event_fwt (c : Nat) : (s.d1Event c).fwt = s.fwt := rfl
@[simp] theorem State.d1Event_cyc (c : Nat) : (s.d1Event c).cyc = s.cyc := rfl
@[simp] theorem State.d1Event_real (c : Nat) : (s.d1Event c).real = s.real := rfl
@[simp] theorem State.d1Event_sckFrom (c : Nat) : (s.d1Event c).sckFrom = s.sckFrom := rfl
@[simp] theorem State.d1Event_obj (c : Nat) (x y : Nat) : (s.d1Event c).obj x y = s.obj x y := rfl
@[simp] theorem State.d1Event_memByte (c : Nat) (x : Nat) : (s.d1Event c).memByte x = s.memByte x := rfl
@[simp] theorem State.d1Event_master (c : Nat) (x : Master) : (s.d1Event c).master x = s.master x := rfl
@[simp] theorem State.d1Event_t (c : Nat) : (s.d1Event c).t = s.t := rfl

/-! `State.answer` changes `resp` alone. -/

@[simp] theorem State.answer_pending (lo hi : Word) : (s.answer lo hi).pending = s.pending := rfl
@[simp] theorem State.answer_now (lo hi : Word) : (s.answer lo hi).now = s.now := rfl
@[simp] theorem State.answer_od (lo hi : Word) : (s.answer lo hi).od = s.od := rfl
@[simp] theorem State.answer_mem (lo hi : Word) : (s.answer lo hi).mem = s.mem := rfl
@[simp] theorem State.answer_free (lo hi : Word) : (s.answer lo hi).free = s.free := rfl
@[simp] theorem State.answer_masters (lo hi : Word) : (s.answer lo hi).masters = s.masters := rfl
@[simp] theorem State.answer_raised (lo hi : Word) : (s.answer lo hi).raised = s.raised := rfl
@[simp] theorem State.answer_postNet (lo hi : Word) : (s.answer lo hi).postNet = s.postNet := rfl
@[simp] theorem State.answer_postTurn (lo hi : Word) : (s.answer lo hi).postTurn = s.postTurn := rfl
@[simp] theorem State.answer_clk (lo hi : Word) : (s.answer lo hi).clk = s.clk := rfl
@[simp] theorem State.answer_tide (lo hi : Word) : (s.answer lo hi).tide = s.tide := rfl
@[simp] theorem State.answer_engines (lo hi : Word) : (s.answer lo hi).engines = s.engines := rfl
@[simp] theorem State.answer_pool (lo hi : Word) : (s.answer lo hi).pool = s.pool := rfl
@[simp] theorem State.answer_posted (lo hi : Word) : (s.answer lo hi).posted = s.posted := rfl
@[simp] theorem State.answer_ports (lo hi : Word) : (s.answer lo hi).ports = s.ports := rfl
@[simp] theorem State.answer_dbg (lo hi : Word) : (s.answer lo hi).dbg = s.dbg := rfl
@[simp] theorem State.answer_ecc (lo hi : Word) : (s.answer lo hi).ecc = s.ecc := rfl
@[simp] theorem State.answer_startup (lo hi : Word) : (s.answer lo hi).startup = s.startup := rfl
@[simp] theorem State.answer_fm (lo hi : Word) : (s.answer lo hi).fm = s.fm := rfl
@[simp] theorem State.answer_irq (lo hi : Word) : (s.answer lo hi).irq = s.irq := rfl
@[simp] theorem State.answer_sense (lo hi : Word) : (s.answer lo hi).sense = s.sense := rfl
@[simp] theorem State.answer_phases (lo hi : Word) : (s.answer lo hi).phases = s.phases := rfl
@[simp] theorem State.answer_rails (lo hi : Word) : (s.answer lo hi).rails = s.rails := rfl
@[simp] theorem State.answer_measures (lo hi : Word) : (s.answer lo hi).measures = s.measures := rfl
@[simp] theorem State.answer_chg (lo hi : Word) : (s.answer lo hi).chg = s.chg := rfl
@[simp] theorem State.answer_aon (lo hi : Word) : (s.answer lo hi).aon = s.aon := rfl
@[simp] theorem State.answer_gauge (lo hi : Word) : (s.answer lo hi).gauge = s.gauge := rfl
@[simp] theorem State.answer_nv (lo hi : Word) : (s.answer lo hi).nv = s.nv := rfl
@[simp] theorem State.answer_hka (lo hi : Word) : (s.answer lo hi).hka = s.hka := rfl
@[simp] theorem State.answer_tacho (lo hi : Word) : (s.answer lo hi).tacho = s.tacho := rfl
@[simp] theorem State.answer_sup (lo hi : Word) : (s.answer lo hi).sup = s.sup := rfl
@[simp] theorem State.answer_gds (lo hi : Word) : (s.answer lo hi).gds = s.gds := rfl
@[simp] theorem State.answer_seq (lo hi : Word) : (s.answer lo hi).seq = s.seq := rfl
@[simp] theorem State.answer_dom (lo hi : Word) : (s.answer lo hi).dom = s.dom := rfl
@[simp] theorem State.answer_can (lo hi : Word) : (s.answer lo hi).can = s.can := rfl
@[simp] theorem State.answer_agent (lo hi : Word) : (s.answer lo hi).agent = s.agent := rfl
@[simp] theorem State.answer_bulk (lo hi : Word) : (s.answer lo hi).bulk = s.bulk := rfl
@[simp] theorem State.answer_auth (lo hi : Word) : (s.answer lo hi).auth = s.auth := rfl
@[simp] theorem State.answer_twb (lo hi : Word) : (s.answer lo hi).twb = s.twb := rfl
@[simp] theorem State.answer_canary (lo hi : Word) : (s.answer lo hi).canary = s.canary := rfl
@[simp] theorem State.answer_col (lo hi : Word) : (s.answer lo hi).col = s.col := rfl
@[simp] theorem State.answer_rtc (lo hi : Word) : (s.answer lo hi).rtc = s.rtc := rfl
@[simp] theorem State.answer_assayer (lo hi : Word) : (s.answer lo hi).assayer = s.assayer := rfl
@[simp] theorem State.answer_life (lo hi : Word) : (s.answer lo hi).life = s.life := rfl
@[simp] theorem State.answer_fwt (lo hi : Word) : (s.answer lo hi).fwt = s.fwt := rfl
@[simp] theorem State.answer_cyc (lo hi : Word) : (s.answer lo hi).cyc = s.cyc := rfl
@[simp] theorem State.answer_real (lo hi : Word) : (s.answer lo hi).real = s.real := rfl
@[simp] theorem State.answer_sckFrom (lo hi : Word) : (s.answer lo hi).sckFrom = s.sckFrom := rfl
@[simp] theorem State.answer_obj (lo hi : Word) (x y : Nat) : (s.answer lo hi).obj x y = s.obj x y := rfl
@[simp] theorem State.answer_memByte (lo hi : Word) (x : Nat) : (s.answer lo hi).memByte x = s.memByte x := rfl
@[simp] theorem State.answer_master (lo hi : Word) (x : Master) : (s.answer lo hi).master x = s.master x := rfl
@[simp] theorem State.answer_t (lo hi : Word) : (s.answer lo hi).t = s.t := rfl

/-! `State.putN` changes `od` alone. -/

@[simp] theorem State.putN_pending (i j n : Nat) : (s.putN i j n).pending = s.pending := rfl
@[simp] theorem State.putN_now (i j n : Nat) : (s.putN i j n).now = s.now := rfl
@[simp] theorem State.putN_mem (i j n : Nat) : (s.putN i j n).mem = s.mem := rfl
@[simp] theorem State.putN_free (i j n : Nat) : (s.putN i j n).free = s.free := rfl
@[simp] theorem State.putN_resp (i j n : Nat) : (s.putN i j n).resp = s.resp := rfl
@[simp] theorem State.putN_masters (i j n : Nat) : (s.putN i j n).masters = s.masters := rfl
@[simp] theorem State.putN_raised (i j n : Nat) : (s.putN i j n).raised = s.raised := rfl
@[simp] theorem State.putN_postNet (i j n : Nat) : (s.putN i j n).postNet = s.postNet := rfl
@[simp] theorem State.putN_postTurn (i j n : Nat) : (s.putN i j n).postTurn = s.postTurn := rfl
@[simp] theorem State.putN_clk (i j n : Nat) : (s.putN i j n).clk = s.clk := rfl
@[simp] theorem State.putN_tide (i j n : Nat) : (s.putN i j n).tide = s.tide := rfl
@[simp] theorem State.putN_engines (i j n : Nat) : (s.putN i j n).engines = s.engines := rfl
@[simp] theorem State.putN_pool (i j n : Nat) : (s.putN i j n).pool = s.pool := rfl
@[simp] theorem State.putN_posted (i j n : Nat) : (s.putN i j n).posted = s.posted := rfl
@[simp] theorem State.putN_ports (i j n : Nat) : (s.putN i j n).ports = s.ports := rfl
@[simp] theorem State.putN_dbg (i j n : Nat) : (s.putN i j n).dbg = s.dbg := rfl
@[simp] theorem State.putN_ecc (i j n : Nat) : (s.putN i j n).ecc = s.ecc := rfl
@[simp] theorem State.putN_startup (i j n : Nat) : (s.putN i j n).startup = s.startup := rfl
@[simp] theorem State.putN_fm (i j n : Nat) : (s.putN i j n).fm = s.fm := rfl
@[simp] theorem State.putN_irq (i j n : Nat) : (s.putN i j n).irq = s.irq := rfl
@[simp] theorem State.putN_sense (i j n : Nat) : (s.putN i j n).sense = s.sense := rfl
@[simp] theorem State.putN_phases (i j n : Nat) : (s.putN i j n).phases = s.phases := rfl
@[simp] theorem State.putN_rails (i j n : Nat) : (s.putN i j n).rails = s.rails := rfl
@[simp] theorem State.putN_measures (i j n : Nat) : (s.putN i j n).measures = s.measures := rfl
@[simp] theorem State.putN_chg (i j n : Nat) : (s.putN i j n).chg = s.chg := rfl
@[simp] theorem State.putN_aon (i j n : Nat) : (s.putN i j n).aon = s.aon := rfl
@[simp] theorem State.putN_gauge (i j n : Nat) : (s.putN i j n).gauge = s.gauge := rfl
@[simp] theorem State.putN_nv (i j n : Nat) : (s.putN i j n).nv = s.nv := rfl
@[simp] theorem State.putN_hka (i j n : Nat) : (s.putN i j n).hka = s.hka := rfl
@[simp] theorem State.putN_tacho (i j n : Nat) : (s.putN i j n).tacho = s.tacho := rfl
@[simp] theorem State.putN_sup (i j n : Nat) : (s.putN i j n).sup = s.sup := rfl
@[simp] theorem State.putN_gds (i j n : Nat) : (s.putN i j n).gds = s.gds := rfl
@[simp] theorem State.putN_seq (i j n : Nat) : (s.putN i j n).seq = s.seq := rfl
@[simp] theorem State.putN_dom (i j n : Nat) : (s.putN i j n).dom = s.dom := rfl
@[simp] theorem State.putN_can (i j n : Nat) : (s.putN i j n).can = s.can := rfl
@[simp] theorem State.putN_agent (i j n : Nat) : (s.putN i j n).agent = s.agent := rfl
@[simp] theorem State.putN_bulk (i j n : Nat) : (s.putN i j n).bulk = s.bulk := rfl
@[simp] theorem State.putN_auth (i j n : Nat) : (s.putN i j n).auth = s.auth := rfl
@[simp] theorem State.putN_twb (i j n : Nat) : (s.putN i j n).twb = s.twb := rfl
@[simp] theorem State.putN_canary (i j n : Nat) : (s.putN i j n).canary = s.canary := rfl
@[simp] theorem State.putN_col (i j n : Nat) : (s.putN i j n).col = s.col := rfl
@[simp] theorem State.putN_rtc (i j n : Nat) : (s.putN i j n).rtc = s.rtc := rfl
@[simp] theorem State.putN_assayer (i j n : Nat) : (s.putN i j n).assayer = s.assayer := rfl
@[simp] theorem State.putN_life (i j n : Nat) : (s.putN i j n).life = s.life := rfl
@[simp] theorem State.putN_fwt (i j n : Nat) : (s.putN i j n).fwt = s.fwt := rfl
@[simp] theorem State.putN_cyc (i j n : Nat) : (s.putN i j n).cyc = s.cyc := rfl
@[simp] theorem State.putN_real (i j n : Nat) : (s.putN i j n).real = s.real := rfl
@[simp] theorem State.putN_sckFrom (i j n : Nat) : (s.putN i j n).sckFrom = s.sckFrom := rfl
@[simp] theorem State.putN_memByte (i j n : Nat) (x : Nat) : (s.putN i j n).memByte x = s.memByte x := rfl
@[simp] theorem State.putN_master (i j n : Nat) (x : Master) : (s.putN i j n).master x = s.master x := rfl
@[simp] theorem State.putN_t (i j n : Nat) : (s.putN i j n).t = s.t := rfl

/-! `State.putI` changes `od` alone. -/

@[simp] theorem State.putI_pending (i j : Nat) (n : Int) : (s.putI i j n).pending = s.pending := rfl
@[simp] theorem State.putI_now (i j : Nat) (n : Int) : (s.putI i j n).now = s.now := rfl
@[simp] theorem State.putI_mem (i j : Nat) (n : Int) : (s.putI i j n).mem = s.mem := rfl
@[simp] theorem State.putI_free (i j : Nat) (n : Int) : (s.putI i j n).free = s.free := rfl
@[simp] theorem State.putI_resp (i j : Nat) (n : Int) : (s.putI i j n).resp = s.resp := rfl
@[simp] theorem State.putI_masters (i j : Nat) (n : Int) : (s.putI i j n).masters = s.masters := rfl
@[simp] theorem State.putI_raised (i j : Nat) (n : Int) : (s.putI i j n).raised = s.raised := rfl
@[simp] theorem State.putI_postNet (i j : Nat) (n : Int) : (s.putI i j n).postNet = s.postNet := rfl
@[simp] theorem State.putI_postTurn (i j : Nat) (n : Int) : (s.putI i j n).postTurn = s.postTurn := rfl
@[simp] theorem State.putI_clk (i j : Nat) (n : Int) : (s.putI i j n).clk = s.clk := rfl
@[simp] theorem State.putI_tide (i j : Nat) (n : Int) : (s.putI i j n).tide = s.tide := rfl
@[simp] theorem State.putI_engines (i j : Nat) (n : Int) : (s.putI i j n).engines = s.engines := rfl
@[simp] theorem State.putI_pool (i j : Nat) (n : Int) : (s.putI i j n).pool = s.pool := rfl
@[simp] theorem State.putI_posted (i j : Nat) (n : Int) : (s.putI i j n).posted = s.posted := rfl
@[simp] theorem State.putI_ports (i j : Nat) (n : Int) : (s.putI i j n).ports = s.ports := rfl
@[simp] theorem State.putI_dbg (i j : Nat) (n : Int) : (s.putI i j n).dbg = s.dbg := rfl
@[simp] theorem State.putI_ecc (i j : Nat) (n : Int) : (s.putI i j n).ecc = s.ecc := rfl
@[simp] theorem State.putI_startup (i j : Nat) (n : Int) : (s.putI i j n).startup = s.startup := rfl
@[simp] theorem State.putI_fm (i j : Nat) (n : Int) : (s.putI i j n).fm = s.fm := rfl
@[simp] theorem State.putI_irq (i j : Nat) (n : Int) : (s.putI i j n).irq = s.irq := rfl
@[simp] theorem State.putI_sense (i j : Nat) (n : Int) : (s.putI i j n).sense = s.sense := rfl
@[simp] theorem State.putI_phases (i j : Nat) (n : Int) : (s.putI i j n).phases = s.phases := rfl
@[simp] theorem State.putI_rails (i j : Nat) (n : Int) : (s.putI i j n).rails = s.rails := rfl
@[simp] theorem State.putI_measures (i j : Nat) (n : Int) : (s.putI i j n).measures = s.measures := rfl
@[simp] theorem State.putI_chg (i j : Nat) (n : Int) : (s.putI i j n).chg = s.chg := rfl
@[simp] theorem State.putI_aon (i j : Nat) (n : Int) : (s.putI i j n).aon = s.aon := rfl
@[simp] theorem State.putI_gauge (i j : Nat) (n : Int) : (s.putI i j n).gauge = s.gauge := rfl
@[simp] theorem State.putI_nv (i j : Nat) (n : Int) : (s.putI i j n).nv = s.nv := rfl
@[simp] theorem State.putI_hka (i j : Nat) (n : Int) : (s.putI i j n).hka = s.hka := rfl
@[simp] theorem State.putI_tacho (i j : Nat) (n : Int) : (s.putI i j n).tacho = s.tacho := rfl
@[simp] theorem State.putI_sup (i j : Nat) (n : Int) : (s.putI i j n).sup = s.sup := rfl
@[simp] theorem State.putI_gds (i j : Nat) (n : Int) : (s.putI i j n).gds = s.gds := rfl
@[simp] theorem State.putI_seq (i j : Nat) (n : Int) : (s.putI i j n).seq = s.seq := rfl
@[simp] theorem State.putI_dom (i j : Nat) (n : Int) : (s.putI i j n).dom = s.dom := rfl
@[simp] theorem State.putI_can (i j : Nat) (n : Int) : (s.putI i j n).can = s.can := rfl
@[simp] theorem State.putI_agent (i j : Nat) (n : Int) : (s.putI i j n).agent = s.agent := rfl
@[simp] theorem State.putI_bulk (i j : Nat) (n : Int) : (s.putI i j n).bulk = s.bulk := rfl
@[simp] theorem State.putI_auth (i j : Nat) (n : Int) : (s.putI i j n).auth = s.auth := rfl
@[simp] theorem State.putI_twb (i j : Nat) (n : Int) : (s.putI i j n).twb = s.twb := rfl
@[simp] theorem State.putI_canary (i j : Nat) (n : Int) : (s.putI i j n).canary = s.canary := rfl
@[simp] theorem State.putI_col (i j : Nat) (n : Int) : (s.putI i j n).col = s.col := rfl
@[simp] theorem State.putI_rtc (i j : Nat) (n : Int) : (s.putI i j n).rtc = s.rtc := rfl
@[simp] theorem State.putI_assayer (i j : Nat) (n : Int) : (s.putI i j n).assayer = s.assayer := rfl
@[simp] theorem State.putI_life (i j : Nat) (n : Int) : (s.putI i j n).life = s.life := rfl
@[simp] theorem State.putI_fwt (i j : Nat) (n : Int) : (s.putI i j n).fwt = s.fwt := rfl
@[simp] theorem State.putI_cyc (i j : Nat) (n : Int) : (s.putI i j n).cyc = s.cyc := rfl
@[simp] theorem State.putI_real (i j : Nat) (n : Int) : (s.putI i j n).real = s.real := rfl
@[simp] theorem State.putI_sckFrom (i j : Nat) (n : Int) : (s.putI i j n).sckFrom = s.sckFrom := rfl
@[simp] theorem State.putI_memByte (i j : Nat) (n : Int) (x : Nat) : (s.putI i j n).memByte x = s.memByte x := rfl
@[simp] theorem State.putI_master (i j : Nat) (n : Int) (x : Master) : (s.putI i j n).master x = s.master x := rfl
@[simp] theorem State.putI_t (i j : Nat) (n : Int) : (s.putI i j n).t = s.t := rfl

/-! `State.setBits` changes `od` and `cyc` alone. -/

@[simp] theorem State.setBits_pending (i j m : Nat) : (s.setBits i j m).pending = s.pending := rfl
@[simp] theorem State.setBits_now (i j m : Nat) : (s.setBits i j m).now = s.now := rfl
@[simp] theorem State.setBits_mem (i j m : Nat) : (s.setBits i j m).mem = s.mem := rfl
@[simp] theorem State.setBits_free (i j m : Nat) : (s.setBits i j m).free = s.free := rfl
@[simp] theorem State.setBits_resp (i j m : Nat) : (s.setBits i j m).resp = s.resp := rfl
@[simp] theorem State.setBits_masters (i j m : Nat) : (s.setBits i j m).masters = s.masters := rfl
@[simp] theorem State.setBits_raised (i j m : Nat) : (s.setBits i j m).raised = s.raised := rfl
@[simp] theorem State.setBits_postNet (i j m : Nat) : (s.setBits i j m).postNet = s.postNet := rfl
@[simp] theorem State.setBits_postTurn (i j m : Nat) : (s.setBits i j m).postTurn = s.postTurn := rfl
@[simp] theorem State.setBits_clk (i j m : Nat) : (s.setBits i j m).clk = s.clk := rfl
@[simp] theorem State.setBits_tide (i j m : Nat) : (s.setBits i j m).tide = s.tide := rfl
@[simp] theorem State.setBits_engines (i j m : Nat) : (s.setBits i j m).engines = s.engines := rfl
@[simp] theorem State.setBits_pool (i j m : Nat) : (s.setBits i j m).pool = s.pool := rfl
@[simp] theorem State.setBits_posted (i j m : Nat) : (s.setBits i j m).posted = s.posted := rfl
@[simp] theorem State.setBits_ports (i j m : Nat) : (s.setBits i j m).ports = s.ports := rfl
@[simp] theorem State.setBits_dbg (i j m : Nat) : (s.setBits i j m).dbg = s.dbg := rfl
@[simp] theorem State.setBits_ecc (i j m : Nat) : (s.setBits i j m).ecc = s.ecc := rfl
@[simp] theorem State.setBits_startup (i j m : Nat) : (s.setBits i j m).startup = s.startup := rfl
@[simp] theorem State.setBits_fm (i j m : Nat) : (s.setBits i j m).fm = s.fm := rfl
@[simp] theorem State.setBits_irq (i j m : Nat) : (s.setBits i j m).irq = s.irq := rfl
@[simp] theorem State.setBits_sense (i j m : Nat) : (s.setBits i j m).sense = s.sense := rfl
@[simp] theorem State.setBits_phases (i j m : Nat) : (s.setBits i j m).phases = s.phases := rfl
@[simp] theorem State.setBits_rails (i j m : Nat) : (s.setBits i j m).rails = s.rails := rfl
@[simp] theorem State.setBits_measures (i j m : Nat) : (s.setBits i j m).measures = s.measures := rfl
@[simp] theorem State.setBits_chg (i j m : Nat) : (s.setBits i j m).chg = s.chg := rfl
@[simp] theorem State.setBits_aon (i j m : Nat) : (s.setBits i j m).aon = s.aon := rfl
@[simp] theorem State.setBits_gauge (i j m : Nat) : (s.setBits i j m).gauge = s.gauge := rfl
@[simp] theorem State.setBits_nv (i j m : Nat) : (s.setBits i j m).nv = s.nv := rfl
@[simp] theorem State.setBits_hka (i j m : Nat) : (s.setBits i j m).hka = s.hka := rfl
@[simp] theorem State.setBits_tacho (i j m : Nat) : (s.setBits i j m).tacho = s.tacho := rfl
@[simp] theorem State.setBits_sup (i j m : Nat) : (s.setBits i j m).sup = s.sup := rfl
@[simp] theorem State.setBits_gds (i j m : Nat) : (s.setBits i j m).gds = s.gds := rfl
@[simp] theorem State.setBits_seq (i j m : Nat) : (s.setBits i j m).seq = s.seq := rfl
@[simp] theorem State.setBits_dom (i j m : Nat) : (s.setBits i j m).dom = s.dom := rfl
@[simp] theorem State.setBits_can (i j m : Nat) : (s.setBits i j m).can = s.can := rfl
@[simp] theorem State.setBits_agent (i j m : Nat) : (s.setBits i j m).agent = s.agent := rfl
@[simp] theorem State.setBits_bulk (i j m : Nat) : (s.setBits i j m).bulk = s.bulk := rfl
@[simp] theorem State.setBits_auth (i j m : Nat) : (s.setBits i j m).auth = s.auth := rfl
@[simp] theorem State.setBits_twb (i j m : Nat) : (s.setBits i j m).twb = s.twb := rfl
@[simp] theorem State.setBits_canary (i j m : Nat) : (s.setBits i j m).canary = s.canary := rfl
@[simp] theorem State.setBits_col (i j m : Nat) : (s.setBits i j m).col = s.col := rfl
@[simp] theorem State.setBits_rtc (i j m : Nat) : (s.setBits i j m).rtc = s.rtc := rfl
@[simp] theorem State.setBits_assayer (i j m : Nat) : (s.setBits i j m).assayer = s.assayer := rfl
@[simp] theorem State.setBits_life (i j m : Nat) : (s.setBits i j m).life = s.life := rfl
@[simp] theorem State.setBits_fwt (i j m : Nat) : (s.setBits i j m).fwt = s.fwt := rfl
@[simp] theorem State.setBits_real (i j m : Nat) : (s.setBits i j m).real = s.real := rfl
@[simp] theorem State.setBits_sckFrom (i j m : Nat) : (s.setBits i j m).sckFrom = s.sckFrom := rfl
@[simp] theorem State.setBits_memByte (i j m : Nat) (x : Nat) : (s.setBits i j m).memByte x = s.memByte x := rfl
@[simp] theorem State.setBits_master (i j m : Nat) (x : Master) : (s.setBits i j m).master x = s.master x := rfl
@[simp] theorem State.setBits_t (i j m : Nat) : (s.setBits i j m).t = s.t := rfl

/-! `State.clrBits` changes `od` and `cyc` alone. -/

@[simp] theorem State.clrBits_pending (i j m : Nat) : (s.clrBits i j m).pending = s.pending := rfl
@[simp] theorem State.clrBits_now (i j m : Nat) : (s.clrBits i j m).now = s.now := rfl
@[simp] theorem State.clrBits_mem (i j m : Nat) : (s.clrBits i j m).mem = s.mem := rfl
@[simp] theorem State.clrBits_free (i j m : Nat) : (s.clrBits i j m).free = s.free := rfl
@[simp] theorem State.clrBits_resp (i j m : Nat) : (s.clrBits i j m).resp = s.resp := rfl
@[simp] theorem State.clrBits_masters (i j m : Nat) : (s.clrBits i j m).masters = s.masters := rfl
@[simp] theorem State.clrBits_raised (i j m : Nat) : (s.clrBits i j m).raised = s.raised := rfl
@[simp] theorem State.clrBits_postNet (i j m : Nat) : (s.clrBits i j m).postNet = s.postNet := rfl
@[simp] theorem State.clrBits_postTurn (i j m : Nat) : (s.clrBits i j m).postTurn = s.postTurn := rfl
@[simp] theorem State.clrBits_clk (i j m : Nat) : (s.clrBits i j m).clk = s.clk := rfl
@[simp] theorem State.clrBits_tide (i j m : Nat) : (s.clrBits i j m).tide = s.tide := rfl
@[simp] theorem State.clrBits_engines (i j m : Nat) : (s.clrBits i j m).engines = s.engines := rfl
@[simp] theorem State.clrBits_pool (i j m : Nat) : (s.clrBits i j m).pool = s.pool := rfl
@[simp] theorem State.clrBits_posted (i j m : Nat) : (s.clrBits i j m).posted = s.posted := rfl
@[simp] theorem State.clrBits_ports (i j m : Nat) : (s.clrBits i j m).ports = s.ports := rfl
@[simp] theorem State.clrBits_dbg (i j m : Nat) : (s.clrBits i j m).dbg = s.dbg := rfl
@[simp] theorem State.clrBits_ecc (i j m : Nat) : (s.clrBits i j m).ecc = s.ecc := rfl
@[simp] theorem State.clrBits_startup (i j m : Nat) : (s.clrBits i j m).startup = s.startup := rfl
@[simp] theorem State.clrBits_fm (i j m : Nat) : (s.clrBits i j m).fm = s.fm := rfl
@[simp] theorem State.clrBits_irq (i j m : Nat) : (s.clrBits i j m).irq = s.irq := rfl
@[simp] theorem State.clrBits_sense (i j m : Nat) : (s.clrBits i j m).sense = s.sense := rfl
@[simp] theorem State.clrBits_phases (i j m : Nat) : (s.clrBits i j m).phases = s.phases := rfl
@[simp] theorem State.clrBits_rails (i j m : Nat) : (s.clrBits i j m).rails = s.rails := rfl
@[simp] theorem State.clrBits_measures (i j m : Nat) : (s.clrBits i j m).measures = s.measures := rfl
@[simp] theorem State.clrBits_chg (i j m : Nat) : (s.clrBits i j m).chg = s.chg := rfl
@[simp] theorem State.clrBits_aon (i j m : Nat) : (s.clrBits i j m).aon = s.aon := rfl
@[simp] theorem State.clrBits_gauge (i j m : Nat) : (s.clrBits i j m).gauge = s.gauge := rfl
@[simp] theorem State.clrBits_nv (i j m : Nat) : (s.clrBits i j m).nv = s.nv := rfl
@[simp] theorem State.clrBits_hka (i j m : Nat) : (s.clrBits i j m).hka = s.hka := rfl
@[simp] theorem State.clrBits_tacho (i j m : Nat) : (s.clrBits i j m).tacho = s.tacho := rfl
@[simp] theorem State.clrBits_sup (i j m : Nat) : (s.clrBits i j m).sup = s.sup := rfl
@[simp] theorem State.clrBits_gds (i j m : Nat) : (s.clrBits i j m).gds = s.gds := rfl
@[simp] theorem State.clrBits_seq (i j m : Nat) : (s.clrBits i j m).seq = s.seq := rfl
@[simp] theorem State.clrBits_dom (i j m : Nat) : (s.clrBits i j m).dom = s.dom := rfl
@[simp] theorem State.clrBits_can (i j m : Nat) : (s.clrBits i j m).can = s.can := rfl
@[simp] theorem State.clrBits_agent (i j m : Nat) : (s.clrBits i j m).agent = s.agent := rfl
@[simp] theorem State.clrBits_bulk (i j m : Nat) : (s.clrBits i j m).bulk = s.bulk := rfl
@[simp] theorem State.clrBits_auth (i j m : Nat) : (s.clrBits i j m).auth = s.auth := rfl
@[simp] theorem State.clrBits_twb (i j m : Nat) : (s.clrBits i j m).twb = s.twb := rfl
@[simp] theorem State.clrBits_canary (i j m : Nat) : (s.clrBits i j m).canary = s.canary := rfl
@[simp] theorem State.clrBits_col (i j m : Nat) : (s.clrBits i j m).col = s.col := rfl
@[simp] theorem State.clrBits_rtc (i j m : Nat) : (s.clrBits i j m).rtc = s.rtc := rfl
@[simp] theorem State.clrBits_assayer (i j m : Nat) : (s.clrBits i j m).assayer = s.assayer := rfl
@[simp] theorem State.clrBits_life (i j m : Nat) : (s.clrBits i j m).life = s.life := rfl
@[simp] theorem State.clrBits_fwt (i j m : Nat) : (s.clrBits i j m).fwt = s.fwt := rfl
@[simp] theorem State.clrBits_real (i j m : Nat) : (s.clrBits i j m).real = s.real := rfl
@[simp] theorem State.clrBits_sckFrom (i j m : Nat) : (s.clrBits i j m).sckFrom = s.sckFrom := rfl
@[simp] theorem State.clrBits_memByte (i j m : Nat) (x : Nat) : (s.clrBits i j m).memByte x = s.memByte x := rfl
@[simp] theorem State.clrBits_master (i j m : Nat) (x : Master) : (s.clrBits i j m).master x = s.master x := rfl
@[simp] theorem State.clrBits_t (i j m : Nat) : (s.clrBits i j m).t = s.t := rfl

/-! `State.add` changes `od` and `cyc` alone. -/

@[simp] theorem State.add_pending (i j w n : Nat) : (s.add i j w n).pending = s.pending := rfl
@[simp] theorem State.add_now (i j w n : Nat) : (s.add i j w n).now = s.now := rfl
@[simp] theorem State.add_mem (i j w n : Nat) : (s.add i j w n).mem = s.mem := rfl
@[simp] theorem State.add_free (i j w n : Nat) : (s.add i j w n).free = s.free := rfl
@[simp] theorem State.add_resp (i j w n : Nat) : (s.add i j w n).resp = s.resp := rfl
@[simp] theorem State.add_masters (i j w n : Nat) : (s.add i j w n).masters = s.masters := rfl
@[simp] theorem State.add_raised (i j w n : Nat) : (s.add i j w n).raised = s.raised := rfl
@[simp] theorem State.add_postNet (i j w n : Nat) : (s.add i j w n).postNet = s.postNet := rfl
@[simp] theorem State.add_postTurn (i j w n : Nat) : (s.add i j w n).postTurn = s.postTurn := rfl
@[simp] theorem State.add_clk (i j w n : Nat) : (s.add i j w n).clk = s.clk := rfl
@[simp] theorem State.add_tide (i j w n : Nat) : (s.add i j w n).tide = s.tide := rfl
@[simp] theorem State.add_engines (i j w n : Nat) : (s.add i j w n).engines = s.engines := rfl
@[simp] theorem State.add_pool (i j w n : Nat) : (s.add i j w n).pool = s.pool := rfl
@[simp] theorem State.add_posted (i j w n : Nat) : (s.add i j w n).posted = s.posted := rfl
@[simp] theorem State.add_ports (i j w n : Nat) : (s.add i j w n).ports = s.ports := rfl
@[simp] theorem State.add_dbg (i j w n : Nat) : (s.add i j w n).dbg = s.dbg := rfl
@[simp] theorem State.add_ecc (i j w n : Nat) : (s.add i j w n).ecc = s.ecc := rfl
@[simp] theorem State.add_startup (i j w n : Nat) : (s.add i j w n).startup = s.startup := rfl
@[simp] theorem State.add_fm (i j w n : Nat) : (s.add i j w n).fm = s.fm := rfl
@[simp] theorem State.add_irq (i j w n : Nat) : (s.add i j w n).irq = s.irq := rfl
@[simp] theorem State.add_sense (i j w n : Nat) : (s.add i j w n).sense = s.sense := rfl
@[simp] theorem State.add_phases (i j w n : Nat) : (s.add i j w n).phases = s.phases := rfl
@[simp] theorem State.add_rails (i j w n : Nat) : (s.add i j w n).rails = s.rails := rfl
@[simp] theorem State.add_measures (i j w n : Nat) : (s.add i j w n).measures = s.measures := rfl
@[simp] theorem State.add_chg (i j w n : Nat) : (s.add i j w n).chg = s.chg := rfl
@[simp] theorem State.add_aon (i j w n : Nat) : (s.add i j w n).aon = s.aon := rfl
@[simp] theorem State.add_gauge (i j w n : Nat) : (s.add i j w n).gauge = s.gauge := rfl
@[simp] theorem State.add_nv (i j w n : Nat) : (s.add i j w n).nv = s.nv := rfl
@[simp] theorem State.add_hka (i j w n : Nat) : (s.add i j w n).hka = s.hka := rfl
@[simp] theorem State.add_tacho (i j w n : Nat) : (s.add i j w n).tacho = s.tacho := rfl
@[simp] theorem State.add_sup (i j w n : Nat) : (s.add i j w n).sup = s.sup := rfl
@[simp] theorem State.add_gds (i j w n : Nat) : (s.add i j w n).gds = s.gds := rfl
@[simp] theorem State.add_seq (i j w n : Nat) : (s.add i j w n).seq = s.seq := rfl
@[simp] theorem State.add_dom (i j w n : Nat) : (s.add i j w n).dom = s.dom := rfl
@[simp] theorem State.add_can (i j w n : Nat) : (s.add i j w n).can = s.can := rfl
@[simp] theorem State.add_agent (i j w n : Nat) : (s.add i j w n).agent = s.agent := rfl
@[simp] theorem State.add_bulk (i j w n : Nat) : (s.add i j w n).bulk = s.bulk := rfl
@[simp] theorem State.add_auth (i j w n : Nat) : (s.add i j w n).auth = s.auth := rfl
@[simp] theorem State.add_twb (i j w n : Nat) : (s.add i j w n).twb = s.twb := rfl
@[simp] theorem State.add_canary (i j w n : Nat) : (s.add i j w n).canary = s.canary := rfl
@[simp] theorem State.add_col (i j w n : Nat) : (s.add i j w n).col = s.col := rfl
@[simp] theorem State.add_rtc (i j w n : Nat) : (s.add i j w n).rtc = s.rtc := rfl
@[simp] theorem State.add_assayer (i j w n : Nat) : (s.add i j w n).assayer = s.assayer := rfl
@[simp] theorem State.add_life (i j w n : Nat) : (s.add i j w n).life = s.life := rfl
@[simp] theorem State.add_fwt (i j w n : Nat) : (s.add i j w n).fwt = s.fwt := rfl
@[simp] theorem State.add_real (i j w n : Nat) : (s.add i j w n).real = s.real := rfl
@[simp] theorem State.add_sckFrom (i j w n : Nat) : (s.add i j w n).sckFrom = s.sckFrom := rfl
@[simp] theorem State.add_memByte (i j w n : Nat) (x : Nat) : (s.add i j w n).memByte x = s.memByte x := rfl
@[simp] theorem State.add_master (i j w n : Nat) (x : Master) : (s.add i j w n).master x = s.master x := rfl
@[simp] theorem State.add_t (i j w n : Nat) : (s.add i j w n).t = s.t := rfl

/-! `State.bump` changes `od` and `cyc` alone. -/

@[simp] theorem State.bump_pending (i j w : Nat) : (s.bump i j w).pending = s.pending := rfl
@[simp] theorem State.bump_now (i j w : Nat) : (s.bump i j w).now = s.now := rfl
@[simp] theorem State.bump_mem (i j w : Nat) : (s.bump i j w).mem = s.mem := rfl
@[simp] theorem State.bump_free (i j w : Nat) : (s.bump i j w).free = s.free := rfl
@[simp] theorem State.bump_resp (i j w : Nat) : (s.bump i j w).resp = s.resp := rfl
@[simp] theorem State.bump_masters (i j w : Nat) : (s.bump i j w).masters = s.masters := rfl
@[simp] theorem State.bump_raised (i j w : Nat) : (s.bump i j w).raised = s.raised := rfl
@[simp] theorem State.bump_postNet (i j w : Nat) : (s.bump i j w).postNet = s.postNet := rfl
@[simp] theorem State.bump_postTurn (i j w : Nat) : (s.bump i j w).postTurn = s.postTurn := rfl
@[simp] theorem State.bump_clk (i j w : Nat) : (s.bump i j w).clk = s.clk := rfl
@[simp] theorem State.bump_tide (i j w : Nat) : (s.bump i j w).tide = s.tide := rfl
@[simp] theorem State.bump_engines (i j w : Nat) : (s.bump i j w).engines = s.engines := rfl
@[simp] theorem State.bump_pool (i j w : Nat) : (s.bump i j w).pool = s.pool := rfl
@[simp] theorem State.bump_posted (i j w : Nat) : (s.bump i j w).posted = s.posted := rfl
@[simp] theorem State.bump_ports (i j w : Nat) : (s.bump i j w).ports = s.ports := rfl
@[simp] theorem State.bump_dbg (i j w : Nat) : (s.bump i j w).dbg = s.dbg := rfl
@[simp] theorem State.bump_ecc (i j w : Nat) : (s.bump i j w).ecc = s.ecc := rfl
@[simp] theorem State.bump_startup (i j w : Nat) : (s.bump i j w).startup = s.startup := rfl
@[simp] theorem State.bump_fm (i j w : Nat) : (s.bump i j w).fm = s.fm := rfl
@[simp] theorem State.bump_irq (i j w : Nat) : (s.bump i j w).irq = s.irq := rfl
@[simp] theorem State.bump_sense (i j w : Nat) : (s.bump i j w).sense = s.sense := rfl
@[simp] theorem State.bump_phases (i j w : Nat) : (s.bump i j w).phases = s.phases := rfl
@[simp] theorem State.bump_rails (i j w : Nat) : (s.bump i j w).rails = s.rails := rfl
@[simp] theorem State.bump_measures (i j w : Nat) : (s.bump i j w).measures = s.measures := rfl
@[simp] theorem State.bump_chg (i j w : Nat) : (s.bump i j w).chg = s.chg := rfl
@[simp] theorem State.bump_aon (i j w : Nat) : (s.bump i j w).aon = s.aon := rfl
@[simp] theorem State.bump_gauge (i j w : Nat) : (s.bump i j w).gauge = s.gauge := rfl
@[simp] theorem State.bump_nv (i j w : Nat) : (s.bump i j w).nv = s.nv := rfl
@[simp] theorem State.bump_hka (i j w : Nat) : (s.bump i j w).hka = s.hka := rfl
@[simp] theorem State.bump_tacho (i j w : Nat) : (s.bump i j w).tacho = s.tacho := rfl
@[simp] theorem State.bump_sup (i j w : Nat) : (s.bump i j w).sup = s.sup := rfl
@[simp] theorem State.bump_gds (i j w : Nat) : (s.bump i j w).gds = s.gds := rfl
@[simp] theorem State.bump_seq (i j w : Nat) : (s.bump i j w).seq = s.seq := rfl
@[simp] theorem State.bump_dom (i j w : Nat) : (s.bump i j w).dom = s.dom := rfl
@[simp] theorem State.bump_can (i j w : Nat) : (s.bump i j w).can = s.can := rfl
@[simp] theorem State.bump_agent (i j w : Nat) : (s.bump i j w).agent = s.agent := rfl
@[simp] theorem State.bump_bulk (i j w : Nat) : (s.bump i j w).bulk = s.bulk := rfl
@[simp] theorem State.bump_auth (i j w : Nat) : (s.bump i j w).auth = s.auth := rfl
@[simp] theorem State.bump_twb (i j w : Nat) : (s.bump i j w).twb = s.twb := rfl
@[simp] theorem State.bump_canary (i j w : Nat) : (s.bump i j w).canary = s.canary := rfl
@[simp] theorem State.bump_col (i j w : Nat) : (s.bump i j w).col = s.col := rfl
@[simp] theorem State.bump_rtc (i j w : Nat) : (s.bump i j w).rtc = s.rtc := rfl
@[simp] theorem State.bump_assayer (i j w : Nat) : (s.bump i j w).assayer = s.assayer := rfl
@[simp] theorem State.bump_life (i j w : Nat) : (s.bump i j w).life = s.life := rfl
@[simp] theorem State.bump_fwt (i j w : Nat) : (s.bump i j w).fwt = s.fwt := rfl
@[simp] theorem State.bump_real (i j w : Nat) : (s.bump i j w).real = s.real := rfl
@[simp] theorem State.bump_sckFrom (i j w : Nat) : (s.bump i j w).sckFrom = s.sckFrom := rfl
@[simp] theorem State.bump_memByte (i j w : Nat) (x : Nat) : (s.bump i j w).memByte x = s.memByte x := rfl
@[simp] theorem State.bump_master (i j w : Nat) (x : Master) : (s.bump i j w).master x = s.master x := rfl
@[simp] theorem State.bump_t (i j w : Nat) : (s.bump i j w).t = s.t := rfl

/-! `State.sub` changes `od` alone. -/

@[simp] theorem State.sub_pending (i j n : Nat) : (s.sub i j n).pending = s.pending := rfl
@[simp] theorem State.sub_now (i j n : Nat) : (s.sub i j n).now = s.now := rfl
@[simp] theorem State.sub_mem (i j n : Nat) : (s.sub i j n).mem = s.mem := rfl
@[simp] theorem State.sub_free (i j n : Nat) : (s.sub i j n).free = s.free := rfl
@[simp] theorem State.sub_resp (i j n : Nat) : (s.sub i j n).resp = s.resp := rfl
@[simp] theorem State.sub_masters (i j n : Nat) : (s.sub i j n).masters = s.masters := rfl
@[simp] theorem State.sub_raised (i j n : Nat) : (s.sub i j n).raised = s.raised := rfl
@[simp] theorem State.sub_postNet (i j n : Nat) : (s.sub i j n).postNet = s.postNet := rfl
@[simp] theorem State.sub_postTurn (i j n : Nat) : (s.sub i j n).postTurn = s.postTurn := rfl
@[simp] theorem State.sub_clk (i j n : Nat) : (s.sub i j n).clk = s.clk := rfl
@[simp] theorem State.sub_tide (i j n : Nat) : (s.sub i j n).tide = s.tide := rfl
@[simp] theorem State.sub_engines (i j n : Nat) : (s.sub i j n).engines = s.engines := rfl
@[simp] theorem State.sub_pool (i j n : Nat) : (s.sub i j n).pool = s.pool := rfl
@[simp] theorem State.sub_posted (i j n : Nat) : (s.sub i j n).posted = s.posted := rfl
@[simp] theorem State.sub_ports (i j n : Nat) : (s.sub i j n).ports = s.ports := rfl
@[simp] theorem State.sub_dbg (i j n : Nat) : (s.sub i j n).dbg = s.dbg := rfl
@[simp] theorem State.sub_ecc (i j n : Nat) : (s.sub i j n).ecc = s.ecc := rfl
@[simp] theorem State.sub_startup (i j n : Nat) : (s.sub i j n).startup = s.startup := rfl
@[simp] theorem State.sub_fm (i j n : Nat) : (s.sub i j n).fm = s.fm := rfl
@[simp] theorem State.sub_irq (i j n : Nat) : (s.sub i j n).irq = s.irq := rfl
@[simp] theorem State.sub_sense (i j n : Nat) : (s.sub i j n).sense = s.sense := rfl
@[simp] theorem State.sub_phases (i j n : Nat) : (s.sub i j n).phases = s.phases := rfl
@[simp] theorem State.sub_rails (i j n : Nat) : (s.sub i j n).rails = s.rails := rfl
@[simp] theorem State.sub_measures (i j n : Nat) : (s.sub i j n).measures = s.measures := rfl
@[simp] theorem State.sub_chg (i j n : Nat) : (s.sub i j n).chg = s.chg := rfl
@[simp] theorem State.sub_aon (i j n : Nat) : (s.sub i j n).aon = s.aon := rfl
@[simp] theorem State.sub_gauge (i j n : Nat) : (s.sub i j n).gauge = s.gauge := rfl
@[simp] theorem State.sub_nv (i j n : Nat) : (s.sub i j n).nv = s.nv := rfl
@[simp] theorem State.sub_hka (i j n : Nat) : (s.sub i j n).hka = s.hka := rfl
@[simp] theorem State.sub_tacho (i j n : Nat) : (s.sub i j n).tacho = s.tacho := rfl
@[simp] theorem State.sub_sup (i j n : Nat) : (s.sub i j n).sup = s.sup := rfl
@[simp] theorem State.sub_gds (i j n : Nat) : (s.sub i j n).gds = s.gds := rfl
@[simp] theorem State.sub_seq (i j n : Nat) : (s.sub i j n).seq = s.seq := rfl
@[simp] theorem State.sub_dom (i j n : Nat) : (s.sub i j n).dom = s.dom := rfl
@[simp] theorem State.sub_can (i j n : Nat) : (s.sub i j n).can = s.can := rfl
@[simp] theorem State.sub_agent (i j n : Nat) : (s.sub i j n).agent = s.agent := rfl
@[simp] theorem State.sub_bulk (i j n : Nat) : (s.sub i j n).bulk = s.bulk := rfl
@[simp] theorem State.sub_auth (i j n : Nat) : (s.sub i j n).auth = s.auth := rfl
@[simp] theorem State.sub_twb (i j n : Nat) : (s.sub i j n).twb = s.twb := rfl
@[simp] theorem State.sub_canary (i j n : Nat) : (s.sub i j n).canary = s.canary := rfl
@[simp] theorem State.sub_col (i j n : Nat) : (s.sub i j n).col = s.col := rfl
@[simp] theorem State.sub_rtc (i j n : Nat) : (s.sub i j n).rtc = s.rtc := rfl
@[simp] theorem State.sub_assayer (i j n : Nat) : (s.sub i j n).assayer = s.assayer := rfl
@[simp] theorem State.sub_life (i j n : Nat) : (s.sub i j n).life = s.life := rfl
@[simp] theorem State.sub_fwt (i j n : Nat) : (s.sub i j n).fwt = s.fwt := rfl
@[simp] theorem State.sub_cyc (i j n : Nat) : (s.sub i j n).cyc = s.cyc := rfl
@[simp] theorem State.sub_real (i j n : Nat) : (s.sub i j n).real = s.real := rfl
@[simp] theorem State.sub_sckFrom (i j n : Nat) : (s.sub i j n).sckFrom = s.sckFrom := rfl
@[simp] theorem State.sub_memByte (i j n : Nat) (x : Nat) : (s.sub i j n).memByte x = s.memByte x := rfl
@[simp] theorem State.sub_master (i j n : Nat) (x : Master) : (s.sub i j n).master x = s.master x := rfl
@[simp] theorem State.sub_t (i j n : Nat) : (s.sub i j n).t = s.t := rfl

/-! `State.putPair` changes `od` alone. -/

@[simp] theorem State.putPair_pending (i j : Nat) (v : DWord) : (s.putPair i j v).pending = s.pending := rfl
@[simp] theorem State.putPair_now (i j : Nat) (v : DWord) : (s.putPair i j v).now = s.now := rfl
@[simp] theorem State.putPair_mem (i j : Nat) (v : DWord) : (s.putPair i j v).mem = s.mem := rfl
@[simp] theorem State.putPair_free (i j : Nat) (v : DWord) : (s.putPair i j v).free = s.free := rfl
@[simp] theorem State.putPair_resp (i j : Nat) (v : DWord) : (s.putPair i j v).resp = s.resp := rfl
@[simp] theorem State.putPair_masters (i j : Nat) (v : DWord) : (s.putPair i j v).masters = s.masters := rfl
@[simp] theorem State.putPair_raised (i j : Nat) (v : DWord) : (s.putPair i j v).raised = s.raised := rfl
@[simp] theorem State.putPair_postNet (i j : Nat) (v : DWord) : (s.putPair i j v).postNet = s.postNet := rfl
@[simp] theorem State.putPair_postTurn (i j : Nat) (v : DWord) : (s.putPair i j v).postTurn = s.postTurn := rfl
@[simp] theorem State.putPair_clk (i j : Nat) (v : DWord) : (s.putPair i j v).clk = s.clk := rfl
@[simp] theorem State.putPair_tide (i j : Nat) (v : DWord) : (s.putPair i j v).tide = s.tide := rfl
@[simp] theorem State.putPair_engines (i j : Nat) (v : DWord) : (s.putPair i j v).engines = s.engines := rfl
@[simp] theorem State.putPair_pool (i j : Nat) (v : DWord) : (s.putPair i j v).pool = s.pool := rfl
@[simp] theorem State.putPair_posted (i j : Nat) (v : DWord) : (s.putPair i j v).posted = s.posted := rfl
@[simp] theorem State.putPair_ports (i j : Nat) (v : DWord) : (s.putPair i j v).ports = s.ports := rfl
@[simp] theorem State.putPair_dbg (i j : Nat) (v : DWord) : (s.putPair i j v).dbg = s.dbg := rfl
@[simp] theorem State.putPair_ecc (i j : Nat) (v : DWord) : (s.putPair i j v).ecc = s.ecc := rfl
@[simp] theorem State.putPair_startup (i j : Nat) (v : DWord) : (s.putPair i j v).startup = s.startup := rfl
@[simp] theorem State.putPair_fm (i j : Nat) (v : DWord) : (s.putPair i j v).fm = s.fm := rfl
@[simp] theorem State.putPair_irq (i j : Nat) (v : DWord) : (s.putPair i j v).irq = s.irq := rfl
@[simp] theorem State.putPair_sense (i j : Nat) (v : DWord) : (s.putPair i j v).sense = s.sense := rfl
@[simp] theorem State.putPair_phases (i j : Nat) (v : DWord) : (s.putPair i j v).phases = s.phases := rfl
@[simp] theorem State.putPair_rails (i j : Nat) (v : DWord) : (s.putPair i j v).rails = s.rails := rfl
@[simp] theorem State.putPair_measures (i j : Nat) (v : DWord) : (s.putPair i j v).measures = s.measures := rfl
@[simp] theorem State.putPair_chg (i j : Nat) (v : DWord) : (s.putPair i j v).chg = s.chg := rfl
@[simp] theorem State.putPair_aon (i j : Nat) (v : DWord) : (s.putPair i j v).aon = s.aon := rfl
@[simp] theorem State.putPair_gauge (i j : Nat) (v : DWord) : (s.putPair i j v).gauge = s.gauge := rfl
@[simp] theorem State.putPair_nv (i j : Nat) (v : DWord) : (s.putPair i j v).nv = s.nv := rfl
@[simp] theorem State.putPair_hka (i j : Nat) (v : DWord) : (s.putPair i j v).hka = s.hka := rfl
@[simp] theorem State.putPair_tacho (i j : Nat) (v : DWord) : (s.putPair i j v).tacho = s.tacho := rfl
@[simp] theorem State.putPair_sup (i j : Nat) (v : DWord) : (s.putPair i j v).sup = s.sup := rfl
@[simp] theorem State.putPair_gds (i j : Nat) (v : DWord) : (s.putPair i j v).gds = s.gds := rfl
@[simp] theorem State.putPair_seq (i j : Nat) (v : DWord) : (s.putPair i j v).seq = s.seq := rfl
@[simp] theorem State.putPair_dom (i j : Nat) (v : DWord) : (s.putPair i j v).dom = s.dom := rfl
@[simp] theorem State.putPair_can (i j : Nat) (v : DWord) : (s.putPair i j v).can = s.can := rfl
@[simp] theorem State.putPair_agent (i j : Nat) (v : DWord) : (s.putPair i j v).agent = s.agent := rfl
@[simp] theorem State.putPair_bulk (i j : Nat) (v : DWord) : (s.putPair i j v).bulk = s.bulk := rfl
@[simp] theorem State.putPair_auth (i j : Nat) (v : DWord) : (s.putPair i j v).auth = s.auth := rfl
@[simp] theorem State.putPair_twb (i j : Nat) (v : DWord) : (s.putPair i j v).twb = s.twb := rfl
@[simp] theorem State.putPair_canary (i j : Nat) (v : DWord) : (s.putPair i j v).canary = s.canary := rfl
@[simp] theorem State.putPair_col (i j : Nat) (v : DWord) : (s.putPair i j v).col = s.col := rfl
@[simp] theorem State.putPair_rtc (i j : Nat) (v : DWord) : (s.putPair i j v).rtc = s.rtc := rfl
@[simp] theorem State.putPair_assayer (i j : Nat) (v : DWord) : (s.putPair i j v).assayer = s.assayer := rfl
@[simp] theorem State.putPair_life (i j : Nat) (v : DWord) : (s.putPair i j v).life = s.life := rfl
@[simp] theorem State.putPair_fwt (i j : Nat) (v : DWord) : (s.putPair i j v).fwt = s.fwt := rfl
@[simp] theorem State.putPair_cyc (i j : Nat) (v : DWord) : (s.putPair i j v).cyc = s.cyc := rfl
@[simp] theorem State.putPair_real (i j : Nat) (v : DWord) : (s.putPair i j v).real = s.real := rfl
@[simp] theorem State.putPair_sckFrom (i j : Nat) (v : DWord) : (s.putPair i j v).sckFrom = s.sckFrom := rfl
@[simp] theorem State.putPair_memByte (i j : Nat) (v : DWord) (x : Nat) : (s.putPair i j v).memByte x = s.memByte x := rfl
@[simp] theorem State.putPair_master (i j : Nat) (v : DWord) (x : Master) : (s.putPair i j v).master x = s.master x := rfl
@[simp] theorem State.putPair_t (i j : Nat) (v : DWord) : (s.putPair i j v).t = s.t := rfl

/-! `State.modBulk` changes `bulk` alone. -/

@[simp] theorem State.modBulk_pending (f : BulkSession → BulkSession) : (s.modBulk f).pending = s.pending := rfl
@[simp] theorem State.modBulk_now (f : BulkSession → BulkSession) : (s.modBulk f).now = s.now := rfl
@[simp] theorem State.modBulk_od (f : BulkSession → BulkSession) : (s.modBulk f).od = s.od := rfl
@[simp] theorem State.modBulk_mem (f : BulkSession → BulkSession) : (s.modBulk f).mem = s.mem := rfl
@[simp] theorem State.modBulk_free (f : BulkSession → BulkSession) : (s.modBulk f).free = s.free := rfl
@[simp] theorem State.modBulk_resp (f : BulkSession → BulkSession) : (s.modBulk f).resp = s.resp := rfl
@[simp] theorem State.modBulk_masters (f : BulkSession → BulkSession) : (s.modBulk f).masters = s.masters := rfl
@[simp] theorem State.modBulk_raised (f : BulkSession → BulkSession) : (s.modBulk f).raised = s.raised := rfl
@[simp] theorem State.modBulk_postNet (f : BulkSession → BulkSession) : (s.modBulk f).postNet = s.postNet := rfl
@[simp] theorem State.modBulk_postTurn (f : BulkSession → BulkSession) : (s.modBulk f).postTurn = s.postTurn := rfl
@[simp] theorem State.modBulk_clk (f : BulkSession → BulkSession) : (s.modBulk f).clk = s.clk := rfl
@[simp] theorem State.modBulk_tide (f : BulkSession → BulkSession) : (s.modBulk f).tide = s.tide := rfl
@[simp] theorem State.modBulk_engines (f : BulkSession → BulkSession) : (s.modBulk f).engines = s.engines := rfl
@[simp] theorem State.modBulk_pool (f : BulkSession → BulkSession) : (s.modBulk f).pool = s.pool := rfl
@[simp] theorem State.modBulk_posted (f : BulkSession → BulkSession) : (s.modBulk f).posted = s.posted := rfl
@[simp] theorem State.modBulk_ports (f : BulkSession → BulkSession) : (s.modBulk f).ports = s.ports := rfl
@[simp] theorem State.modBulk_dbg (f : BulkSession → BulkSession) : (s.modBulk f).dbg = s.dbg := rfl
@[simp] theorem State.modBulk_ecc (f : BulkSession → BulkSession) : (s.modBulk f).ecc = s.ecc := rfl
@[simp] theorem State.modBulk_startup (f : BulkSession → BulkSession) : (s.modBulk f).startup = s.startup := rfl
@[simp] theorem State.modBulk_fm (f : BulkSession → BulkSession) : (s.modBulk f).fm = s.fm := rfl
@[simp] theorem State.modBulk_irq (f : BulkSession → BulkSession) : (s.modBulk f).irq = s.irq := rfl
@[simp] theorem State.modBulk_sense (f : BulkSession → BulkSession) : (s.modBulk f).sense = s.sense := rfl
@[simp] theorem State.modBulk_phases (f : BulkSession → BulkSession) : (s.modBulk f).phases = s.phases := rfl
@[simp] theorem State.modBulk_rails (f : BulkSession → BulkSession) : (s.modBulk f).rails = s.rails := rfl
@[simp] theorem State.modBulk_measures (f : BulkSession → BulkSession) : (s.modBulk f).measures = s.measures := rfl
@[simp] theorem State.modBulk_chg (f : BulkSession → BulkSession) : (s.modBulk f).chg = s.chg := rfl
@[simp] theorem State.modBulk_aon (f : BulkSession → BulkSession) : (s.modBulk f).aon = s.aon := rfl
@[simp] theorem State.modBulk_gauge (f : BulkSession → BulkSession) : (s.modBulk f).gauge = s.gauge := rfl
@[simp] theorem State.modBulk_nv (f : BulkSession → BulkSession) : (s.modBulk f).nv = s.nv := rfl
@[simp] theorem State.modBulk_hka (f : BulkSession → BulkSession) : (s.modBulk f).hka = s.hka := rfl
@[simp] theorem State.modBulk_tacho (f : BulkSession → BulkSession) : (s.modBulk f).tacho = s.tacho := rfl
@[simp] theorem State.modBulk_sup (f : BulkSession → BulkSession) : (s.modBulk f).sup = s.sup := rfl
@[simp] theorem State.modBulk_gds (f : BulkSession → BulkSession) : (s.modBulk f).gds = s.gds := rfl
@[simp] theorem State.modBulk_seq (f : BulkSession → BulkSession) : (s.modBulk f).seq = s.seq := rfl
@[simp] theorem State.modBulk_dom (f : BulkSession → BulkSession) : (s.modBulk f).dom = s.dom := rfl
@[simp] theorem State.modBulk_can (f : BulkSession → BulkSession) : (s.modBulk f).can = s.can := rfl
@[simp] theorem State.modBulk_agent (f : BulkSession → BulkSession) : (s.modBulk f).agent = s.agent := rfl
@[simp] theorem State.modBulk_auth (f : BulkSession → BulkSession) : (s.modBulk f).auth = s.auth := rfl
@[simp] theorem State.modBulk_twb (f : BulkSession → BulkSession) : (s.modBulk f).twb = s.twb := rfl
@[simp] theorem State.modBulk_canary (f : BulkSession → BulkSession) : (s.modBulk f).canary = s.canary := rfl
@[simp] theorem State.modBulk_col (f : BulkSession → BulkSession) : (s.modBulk f).col = s.col := rfl
@[simp] theorem State.modBulk_rtc (f : BulkSession → BulkSession) : (s.modBulk f).rtc = s.rtc := rfl
@[simp] theorem State.modBulk_assayer (f : BulkSession → BulkSession) : (s.modBulk f).assayer = s.assayer := rfl
@[simp] theorem State.modBulk_life (f : BulkSession → BulkSession) : (s.modBulk f).life = s.life := rfl
@[simp] theorem State.modBulk_fwt (f : BulkSession → BulkSession) : (s.modBulk f).fwt = s.fwt := rfl
@[simp] theorem State.modBulk_cyc (f : BulkSession → BulkSession) : (s.modBulk f).cyc = s.cyc := rfl
@[simp] theorem State.modBulk_real (f : BulkSession → BulkSession) : (s.modBulk f).real = s.real := rfl
@[simp] theorem State.modBulk_sckFrom (f : BulkSession → BulkSession) : (s.modBulk f).sckFrom = s.sckFrom := rfl
@[simp] theorem State.modBulk_obj (f : BulkSession → BulkSession) (x y : Nat) : (s.modBulk f).obj x y = s.obj x y := rfl
@[simp] theorem State.modBulk_memByte (f : BulkSession → BulkSession) (x : Nat) : (s.modBulk f).memByte x = s.memByte x := rfl
@[simp] theorem State.modBulk_master (f : BulkSession → BulkSession) (x : Master) : (s.modBulk f).master x = s.master x := rfl
@[simp] theorem State.modBulk_t (f : BulkSession → BulkSession) : (s.modBulk f).t = s.t := rfl

/-! `State.modRtc` changes `rtc` alone. -/

@[simp] theorem State.modRtc_pending (f : Rtc → Rtc) : (s.modRtc f).pending = s.pending := rfl
@[simp] theorem State.modRtc_now (f : Rtc → Rtc) : (s.modRtc f).now = s.now := rfl
@[simp] theorem State.modRtc_od (f : Rtc → Rtc) : (s.modRtc f).od = s.od := rfl
@[simp] theorem State.modRtc_mem (f : Rtc → Rtc) : (s.modRtc f).mem = s.mem := rfl
@[simp] theorem State.modRtc_free (f : Rtc → Rtc) : (s.modRtc f).free = s.free := rfl
@[simp] theorem State.modRtc_resp (f : Rtc → Rtc) : (s.modRtc f).resp = s.resp := rfl
@[simp] theorem State.modRtc_masters (f : Rtc → Rtc) : (s.modRtc f).masters = s.masters := rfl
@[simp] theorem State.modRtc_raised (f : Rtc → Rtc) : (s.modRtc f).raised = s.raised := rfl
@[simp] theorem State.modRtc_postNet (f : Rtc → Rtc) : (s.modRtc f).postNet = s.postNet := rfl
@[simp] theorem State.modRtc_postTurn (f : Rtc → Rtc) : (s.modRtc f).postTurn = s.postTurn := rfl
@[simp] theorem State.modRtc_clk (f : Rtc → Rtc) : (s.modRtc f).clk = s.clk := rfl
@[simp] theorem State.modRtc_tide (f : Rtc → Rtc) : (s.modRtc f).tide = s.tide := rfl
@[simp] theorem State.modRtc_engines (f : Rtc → Rtc) : (s.modRtc f).engines = s.engines := rfl
@[simp] theorem State.modRtc_pool (f : Rtc → Rtc) : (s.modRtc f).pool = s.pool := rfl
@[simp] theorem State.modRtc_posted (f : Rtc → Rtc) : (s.modRtc f).posted = s.posted := rfl
@[simp] theorem State.modRtc_ports (f : Rtc → Rtc) : (s.modRtc f).ports = s.ports := rfl
@[simp] theorem State.modRtc_dbg (f : Rtc → Rtc) : (s.modRtc f).dbg = s.dbg := rfl
@[simp] theorem State.modRtc_ecc (f : Rtc → Rtc) : (s.modRtc f).ecc = s.ecc := rfl
@[simp] theorem State.modRtc_startup (f : Rtc → Rtc) : (s.modRtc f).startup = s.startup := rfl
@[simp] theorem State.modRtc_fm (f : Rtc → Rtc) : (s.modRtc f).fm = s.fm := rfl
@[simp] theorem State.modRtc_irq (f : Rtc → Rtc) : (s.modRtc f).irq = s.irq := rfl
@[simp] theorem State.modRtc_sense (f : Rtc → Rtc) : (s.modRtc f).sense = s.sense := rfl
@[simp] theorem State.modRtc_phases (f : Rtc → Rtc) : (s.modRtc f).phases = s.phases := rfl
@[simp] theorem State.modRtc_rails (f : Rtc → Rtc) : (s.modRtc f).rails = s.rails := rfl
@[simp] theorem State.modRtc_measures (f : Rtc → Rtc) : (s.modRtc f).measures = s.measures := rfl
@[simp] theorem State.modRtc_chg (f : Rtc → Rtc) : (s.modRtc f).chg = s.chg := rfl
@[simp] theorem State.modRtc_aon (f : Rtc → Rtc) : (s.modRtc f).aon = s.aon := rfl
@[simp] theorem State.modRtc_gauge (f : Rtc → Rtc) : (s.modRtc f).gauge = s.gauge := rfl
@[simp] theorem State.modRtc_nv (f : Rtc → Rtc) : (s.modRtc f).nv = s.nv := rfl
@[simp] theorem State.modRtc_hka (f : Rtc → Rtc) : (s.modRtc f).hka = s.hka := rfl
@[simp] theorem State.modRtc_tacho (f : Rtc → Rtc) : (s.modRtc f).tacho = s.tacho := rfl
@[simp] theorem State.modRtc_sup (f : Rtc → Rtc) : (s.modRtc f).sup = s.sup := rfl
@[simp] theorem State.modRtc_gds (f : Rtc → Rtc) : (s.modRtc f).gds = s.gds := rfl
@[simp] theorem State.modRtc_seq (f : Rtc → Rtc) : (s.modRtc f).seq = s.seq := rfl
@[simp] theorem State.modRtc_dom (f : Rtc → Rtc) : (s.modRtc f).dom = s.dom := rfl
@[simp] theorem State.modRtc_can (f : Rtc → Rtc) : (s.modRtc f).can = s.can := rfl
@[simp] theorem State.modRtc_agent (f : Rtc → Rtc) : (s.modRtc f).agent = s.agent := rfl
@[simp] theorem State.modRtc_bulk (f : Rtc → Rtc) : (s.modRtc f).bulk = s.bulk := rfl
@[simp] theorem State.modRtc_auth (f : Rtc → Rtc) : (s.modRtc f).auth = s.auth := rfl
@[simp] theorem State.modRtc_twb (f : Rtc → Rtc) : (s.modRtc f).twb = s.twb := rfl
@[simp] theorem State.modRtc_canary (f : Rtc → Rtc) : (s.modRtc f).canary = s.canary := rfl
@[simp] theorem State.modRtc_col (f : Rtc → Rtc) : (s.modRtc f).col = s.col := rfl
@[simp] theorem State.modRtc_assayer (f : Rtc → Rtc) : (s.modRtc f).assayer = s.assayer := rfl
@[simp] theorem State.modRtc_life (f : Rtc → Rtc) : (s.modRtc f).life = s.life := rfl
@[simp] theorem State.modRtc_fwt (f : Rtc → Rtc) : (s.modRtc f).fwt = s.fwt := rfl
@[simp] theorem State.modRtc_cyc (f : Rtc → Rtc) : (s.modRtc f).cyc = s.cyc := rfl
@[simp] theorem State.modRtc_real (f : Rtc → Rtc) : (s.modRtc f).real = s.real := rfl
@[simp] theorem State.modRtc_sckFrom (f : Rtc → Rtc) : (s.modRtc f).sckFrom = s.sckFrom := rfl
@[simp] theorem State.modRtc_obj (f : Rtc → Rtc) (x y : Nat) : (s.modRtc f).obj x y = s.obj x y := rfl
@[simp] theorem State.modRtc_memByte (f : Rtc → Rtc) (x : Nat) : (s.modRtc f).memByte x = s.memByte x := rfl
@[simp] theorem State.modRtc_master (f : Rtc → Rtc) (x : Master) : (s.modRtc f).master x = s.master x := rfl
@[simp] theorem State.modRtc_t (f : Rtc → Rtc) : (s.modRtc f).t = s.t := rfl

/-! `State.modStart` changes `startup` alone. -/

@[simp] theorem State.modStart_pending (f : Startup → Startup) : (s.modStart f).pending = s.pending := rfl
@[simp] theorem State.modStart_now (f : Startup → Startup) : (s.modStart f).now = s.now := rfl
@[simp] theorem State.modStart_od (f : Startup → Startup) : (s.modStart f).od = s.od := rfl
@[simp] theorem State.modStart_mem (f : Startup → Startup) : (s.modStart f).mem = s.mem := rfl
@[simp] theorem State.modStart_free (f : Startup → Startup) : (s.modStart f).free = s.free := rfl
@[simp] theorem State.modStart_resp (f : Startup → Startup) : (s.modStart f).resp = s.resp := rfl
@[simp] theorem State.modStart_masters (f : Startup → Startup) : (s.modStart f).masters = s.masters := rfl
@[simp] theorem State.modStart_raised (f : Startup → Startup) : (s.modStart f).raised = s.raised := rfl
@[simp] theorem State.modStart_postNet (f : Startup → Startup) : (s.modStart f).postNet = s.postNet := rfl
@[simp] theorem State.modStart_postTurn (f : Startup → Startup) : (s.modStart f).postTurn = s.postTurn := rfl
@[simp] theorem State.modStart_clk (f : Startup → Startup) : (s.modStart f).clk = s.clk := rfl
@[simp] theorem State.modStart_tide (f : Startup → Startup) : (s.modStart f).tide = s.tide := rfl
@[simp] theorem State.modStart_engines (f : Startup → Startup) : (s.modStart f).engines = s.engines := rfl
@[simp] theorem State.modStart_pool (f : Startup → Startup) : (s.modStart f).pool = s.pool := rfl
@[simp] theorem State.modStart_posted (f : Startup → Startup) : (s.modStart f).posted = s.posted := rfl
@[simp] theorem State.modStart_ports (f : Startup → Startup) : (s.modStart f).ports = s.ports := rfl
@[simp] theorem State.modStart_dbg (f : Startup → Startup) : (s.modStart f).dbg = s.dbg := rfl
@[simp] theorem State.modStart_ecc (f : Startup → Startup) : (s.modStart f).ecc = s.ecc := rfl
@[simp] theorem State.modStart_fm (f : Startup → Startup) : (s.modStart f).fm = s.fm := rfl
@[simp] theorem State.modStart_irq (f : Startup → Startup) : (s.modStart f).irq = s.irq := rfl
@[simp] theorem State.modStart_sense (f : Startup → Startup) : (s.modStart f).sense = s.sense := rfl
@[simp] theorem State.modStart_phases (f : Startup → Startup) : (s.modStart f).phases = s.phases := rfl
@[simp] theorem State.modStart_rails (f : Startup → Startup) : (s.modStart f).rails = s.rails := rfl
@[simp] theorem State.modStart_measures (f : Startup → Startup) : (s.modStart f).measures = s.measures := rfl
@[simp] theorem State.modStart_chg (f : Startup → Startup) : (s.modStart f).chg = s.chg := rfl
@[simp] theorem State.modStart_aon (f : Startup → Startup) : (s.modStart f).aon = s.aon := rfl
@[simp] theorem State.modStart_gauge (f : Startup → Startup) : (s.modStart f).gauge = s.gauge := rfl
@[simp] theorem State.modStart_nv (f : Startup → Startup) : (s.modStart f).nv = s.nv := rfl
@[simp] theorem State.modStart_hka (f : Startup → Startup) : (s.modStart f).hka = s.hka := rfl
@[simp] theorem State.modStart_tacho (f : Startup → Startup) : (s.modStart f).tacho = s.tacho := rfl
@[simp] theorem State.modStart_sup (f : Startup → Startup) : (s.modStart f).sup = s.sup := rfl
@[simp] theorem State.modStart_gds (f : Startup → Startup) : (s.modStart f).gds = s.gds := rfl
@[simp] theorem State.modStart_seq (f : Startup → Startup) : (s.modStart f).seq = s.seq := rfl
@[simp] theorem State.modStart_dom (f : Startup → Startup) : (s.modStart f).dom = s.dom := rfl
@[simp] theorem State.modStart_can (f : Startup → Startup) : (s.modStart f).can = s.can := rfl
@[simp] theorem State.modStart_agent (f : Startup → Startup) : (s.modStart f).agent = s.agent := rfl
@[simp] theorem State.modStart_bulk (f : Startup → Startup) : (s.modStart f).bulk = s.bulk := rfl
@[simp] theorem State.modStart_auth (f : Startup → Startup) : (s.modStart f).auth = s.auth := rfl
@[simp] theorem State.modStart_twb (f : Startup → Startup) : (s.modStart f).twb = s.twb := rfl
@[simp] theorem State.modStart_canary (f : Startup → Startup) : (s.modStart f).canary = s.canary := rfl
@[simp] theorem State.modStart_col (f : Startup → Startup) : (s.modStart f).col = s.col := rfl
@[simp] theorem State.modStart_rtc (f : Startup → Startup) : (s.modStart f).rtc = s.rtc := rfl
@[simp] theorem State.modStart_assayer (f : Startup → Startup) : (s.modStart f).assayer = s.assayer := rfl
@[simp] theorem State.modStart_life (f : Startup → Startup) : (s.modStart f).life = s.life := rfl
@[simp] theorem State.modStart_fwt (f : Startup → Startup) : (s.modStart f).fwt = s.fwt := rfl
@[simp] theorem State.modStart_cyc (f : Startup → Startup) : (s.modStart f).cyc = s.cyc := rfl
@[simp] theorem State.modStart_real (f : Startup → Startup) : (s.modStart f).real = s.real := rfl
@[simp] theorem State.modStart_sckFrom (f : Startup → Startup) : (s.modStart f).sckFrom = s.sckFrom := rfl
@[simp] theorem State.modStart_obj (f : Startup → Startup) (x y : Nat) : (s.modStart f).obj x y = s.obj x y := rfl
@[simp] theorem State.modStart_memByte (f : Startup → Startup) (x : Nat) : (s.modStart f).memByte x = s.memByte x := rfl
@[simp] theorem State.modStart_master (f : Startup → Startup) (x : Master) : (s.modStart f).master x = s.master x := rfl
@[simp] theorem State.modStart_t (f : Startup → Startup) : (s.modStart f).t = s.t := rfl

/-! `State.modCanary` changes `canary` alone. -/

@[simp] theorem State.modCanary_pending (f : Canary → Canary) : (s.modCanary f).pending = s.pending := rfl
@[simp] theorem State.modCanary_now (f : Canary → Canary) : (s.modCanary f).now = s.now := rfl
@[simp] theorem State.modCanary_od (f : Canary → Canary) : (s.modCanary f).od = s.od := rfl
@[simp] theorem State.modCanary_mem (f : Canary → Canary) : (s.modCanary f).mem = s.mem := rfl
@[simp] theorem State.modCanary_free (f : Canary → Canary) : (s.modCanary f).free = s.free := rfl
@[simp] theorem State.modCanary_resp (f : Canary → Canary) : (s.modCanary f).resp = s.resp := rfl
@[simp] theorem State.modCanary_masters (f : Canary → Canary) : (s.modCanary f).masters = s.masters := rfl
@[simp] theorem State.modCanary_raised (f : Canary → Canary) : (s.modCanary f).raised = s.raised := rfl
@[simp] theorem State.modCanary_postNet (f : Canary → Canary) : (s.modCanary f).postNet = s.postNet := rfl
@[simp] theorem State.modCanary_postTurn (f : Canary → Canary) : (s.modCanary f).postTurn = s.postTurn := rfl
@[simp] theorem State.modCanary_clk (f : Canary → Canary) : (s.modCanary f).clk = s.clk := rfl
@[simp] theorem State.modCanary_tide (f : Canary → Canary) : (s.modCanary f).tide = s.tide := rfl
@[simp] theorem State.modCanary_engines (f : Canary → Canary) : (s.modCanary f).engines = s.engines := rfl
@[simp] theorem State.modCanary_pool (f : Canary → Canary) : (s.modCanary f).pool = s.pool := rfl
@[simp] theorem State.modCanary_posted (f : Canary → Canary) : (s.modCanary f).posted = s.posted := rfl
@[simp] theorem State.modCanary_ports (f : Canary → Canary) : (s.modCanary f).ports = s.ports := rfl
@[simp] theorem State.modCanary_dbg (f : Canary → Canary) : (s.modCanary f).dbg = s.dbg := rfl
@[simp] theorem State.modCanary_ecc (f : Canary → Canary) : (s.modCanary f).ecc = s.ecc := rfl
@[simp] theorem State.modCanary_startup (f : Canary → Canary) : (s.modCanary f).startup = s.startup := rfl
@[simp] theorem State.modCanary_fm (f : Canary → Canary) : (s.modCanary f).fm = s.fm := rfl
@[simp] theorem State.modCanary_irq (f : Canary → Canary) : (s.modCanary f).irq = s.irq := rfl
@[simp] theorem State.modCanary_sense (f : Canary → Canary) : (s.modCanary f).sense = s.sense := rfl
@[simp] theorem State.modCanary_phases (f : Canary → Canary) : (s.modCanary f).phases = s.phases := rfl
@[simp] theorem State.modCanary_rails (f : Canary → Canary) : (s.modCanary f).rails = s.rails := rfl
@[simp] theorem State.modCanary_measures (f : Canary → Canary) : (s.modCanary f).measures = s.measures := rfl
@[simp] theorem State.modCanary_chg (f : Canary → Canary) : (s.modCanary f).chg = s.chg := rfl
@[simp] theorem State.modCanary_aon (f : Canary → Canary) : (s.modCanary f).aon = s.aon := rfl
@[simp] theorem State.modCanary_gauge (f : Canary → Canary) : (s.modCanary f).gauge = s.gauge := rfl
@[simp] theorem State.modCanary_nv (f : Canary → Canary) : (s.modCanary f).nv = s.nv := rfl
@[simp] theorem State.modCanary_hka (f : Canary → Canary) : (s.modCanary f).hka = s.hka := rfl
@[simp] theorem State.modCanary_tacho (f : Canary → Canary) : (s.modCanary f).tacho = s.tacho := rfl
@[simp] theorem State.modCanary_sup (f : Canary → Canary) : (s.modCanary f).sup = s.sup := rfl
@[simp] theorem State.modCanary_gds (f : Canary → Canary) : (s.modCanary f).gds = s.gds := rfl
@[simp] theorem State.modCanary_seq (f : Canary → Canary) : (s.modCanary f).seq = s.seq := rfl
@[simp] theorem State.modCanary_dom (f : Canary → Canary) : (s.modCanary f).dom = s.dom := rfl
@[simp] theorem State.modCanary_can (f : Canary → Canary) : (s.modCanary f).can = s.can := rfl
@[simp] theorem State.modCanary_agent (f : Canary → Canary) : (s.modCanary f).agent = s.agent := rfl
@[simp] theorem State.modCanary_bulk (f : Canary → Canary) : (s.modCanary f).bulk = s.bulk := rfl
@[simp] theorem State.modCanary_auth (f : Canary → Canary) : (s.modCanary f).auth = s.auth := rfl
@[simp] theorem State.modCanary_twb (f : Canary → Canary) : (s.modCanary f).twb = s.twb := rfl
@[simp] theorem State.modCanary_col (f : Canary → Canary) : (s.modCanary f).col = s.col := rfl
@[simp] theorem State.modCanary_rtc (f : Canary → Canary) : (s.modCanary f).rtc = s.rtc := rfl
@[simp] theorem State.modCanary_assayer (f : Canary → Canary) : (s.modCanary f).assayer = s.assayer := rfl
@[simp] theorem State.modCanary_life (f : Canary → Canary) : (s.modCanary f).life = s.life := rfl
@[simp] theorem State.modCanary_fwt (f : Canary → Canary) : (s.modCanary f).fwt = s.fwt := rfl
@[simp] theorem State.modCanary_cyc (f : Canary → Canary) : (s.modCanary f).cyc = s.cyc := rfl
@[simp] theorem State.modCanary_real (f : Canary → Canary) : (s.modCanary f).real = s.real := rfl
@[simp] theorem State.modCanary_sckFrom (f : Canary → Canary) : (s.modCanary f).sckFrom = s.sckFrom := rfl
@[simp] theorem State.modCanary_obj (f : Canary → Canary) (x y : Nat) : (s.modCanary f).obj x y = s.obj x y := rfl
@[simp] theorem State.modCanary_memByte (f : Canary → Canary) (x : Nat) : (s.modCanary f).memByte x = s.memByte x := rfl
@[simp] theorem State.modCanary_master (f : Canary → Canary) (x : Master) : (s.modCanary f).master x = s.master x := rfl
@[simp] theorem State.modCanary_t (f : Canary → Canary) : (s.modCanary f).t = s.t := rfl

/-! `State.modSup` changes `sup` alone. -/

@[simp] theorem State.modSup_pending (f : Supplies → Supplies) : (s.modSup f).pending = s.pending := rfl
@[simp] theorem State.modSup_now (f : Supplies → Supplies) : (s.modSup f).now = s.now := rfl
@[simp] theorem State.modSup_od (f : Supplies → Supplies) : (s.modSup f).od = s.od := rfl
@[simp] theorem State.modSup_mem (f : Supplies → Supplies) : (s.modSup f).mem = s.mem := rfl
@[simp] theorem State.modSup_free (f : Supplies → Supplies) : (s.modSup f).free = s.free := rfl
@[simp] theorem State.modSup_resp (f : Supplies → Supplies) : (s.modSup f).resp = s.resp := rfl
@[simp] theorem State.modSup_masters (f : Supplies → Supplies) : (s.modSup f).masters = s.masters := rfl
@[simp] theorem State.modSup_raised (f : Supplies → Supplies) : (s.modSup f).raised = s.raised := rfl
@[simp] theorem State.modSup_postNet (f : Supplies → Supplies) : (s.modSup f).postNet = s.postNet := rfl
@[simp] theorem State.modSup_postTurn (f : Supplies → Supplies) : (s.modSup f).postTurn = s.postTurn := rfl
@[simp] theorem State.modSup_clk (f : Supplies → Supplies) : (s.modSup f).clk = s.clk := rfl
@[simp] theorem State.modSup_tide (f : Supplies → Supplies) : (s.modSup f).tide = s.tide := rfl
@[simp] theorem State.modSup_engines (f : Supplies → Supplies) : (s.modSup f).engines = s.engines := rfl
@[simp] theorem State.modSup_pool (f : Supplies → Supplies) : (s.modSup f).pool = s.pool := rfl
@[simp] theorem State.modSup_posted (f : Supplies → Supplies) : (s.modSup f).posted = s.posted := rfl
@[simp] theorem State.modSup_ports (f : Supplies → Supplies) : (s.modSup f).ports = s.ports := rfl
@[simp] theorem State.modSup_dbg (f : Supplies → Supplies) : (s.modSup f).dbg = s.dbg := rfl
@[simp] theorem State.modSup_ecc (f : Supplies → Supplies) : (s.modSup f).ecc = s.ecc := rfl
@[simp] theorem State.modSup_startup (f : Supplies → Supplies) : (s.modSup f).startup = s.startup := rfl
@[simp] theorem State.modSup_fm (f : Supplies → Supplies) : (s.modSup f).fm = s.fm := rfl
@[simp] theorem State.modSup_irq (f : Supplies → Supplies) : (s.modSup f).irq = s.irq := rfl
@[simp] theorem State.modSup_sense (f : Supplies → Supplies) : (s.modSup f).sense = s.sense := rfl
@[simp] theorem State.modSup_phases (f : Supplies → Supplies) : (s.modSup f).phases = s.phases := rfl
@[simp] theorem State.modSup_rails (f : Supplies → Supplies) : (s.modSup f).rails = s.rails := rfl
@[simp] theorem State.modSup_measures (f : Supplies → Supplies) : (s.modSup f).measures = s.measures := rfl
@[simp] theorem State.modSup_chg (f : Supplies → Supplies) : (s.modSup f).chg = s.chg := rfl
@[simp] theorem State.modSup_aon (f : Supplies → Supplies) : (s.modSup f).aon = s.aon := rfl
@[simp] theorem State.modSup_gauge (f : Supplies → Supplies) : (s.modSup f).gauge = s.gauge := rfl
@[simp] theorem State.modSup_nv (f : Supplies → Supplies) : (s.modSup f).nv = s.nv := rfl
@[simp] theorem State.modSup_hka (f : Supplies → Supplies) : (s.modSup f).hka = s.hka := rfl
@[simp] theorem State.modSup_tacho (f : Supplies → Supplies) : (s.modSup f).tacho = s.tacho := rfl
@[simp] theorem State.modSup_gds (f : Supplies → Supplies) : (s.modSup f).gds = s.gds := rfl
@[simp] theorem State.modSup_seq (f : Supplies → Supplies) : (s.modSup f).seq = s.seq := rfl
@[simp] theorem State.modSup_dom (f : Supplies → Supplies) : (s.modSup f).dom = s.dom := rfl
@[simp] theorem State.modSup_can (f : Supplies → Supplies) : (s.modSup f).can = s.can := rfl
@[simp] theorem State.modSup_agent (f : Supplies → Supplies) : (s.modSup f).agent = s.agent := rfl
@[simp] theorem State.modSup_bulk (f : Supplies → Supplies) : (s.modSup f).bulk = s.bulk := rfl
@[simp] theorem State.modSup_auth (f : Supplies → Supplies) : (s.modSup f).auth = s.auth := rfl
@[simp] theorem State.modSup_twb (f : Supplies → Supplies) : (s.modSup f).twb = s.twb := rfl
@[simp] theorem State.modSup_canary (f : Supplies → Supplies) : (s.modSup f).canary = s.canary := rfl
@[simp] theorem State.modSup_col (f : Supplies → Supplies) : (s.modSup f).col = s.col := rfl
@[simp] theorem State.modSup_rtc (f : Supplies → Supplies) : (s.modSup f).rtc = s.rtc := rfl
@[simp] theorem State.modSup_assayer (f : Supplies → Supplies) : (s.modSup f).assayer = s.assayer := rfl
@[simp] theorem State.modSup_life (f : Supplies → Supplies) : (s.modSup f).life = s.life := rfl
@[simp] theorem State.modSup_fwt (f : Supplies → Supplies) : (s.modSup f).fwt = s.fwt := rfl
@[simp] theorem State.modSup_cyc (f : Supplies → Supplies) : (s.modSup f).cyc = s.cyc := rfl
@[simp] theorem State.modSup_real (f : Supplies → Supplies) : (s.modSup f).real = s.real := rfl
@[simp] theorem State.modSup_sckFrom (f : Supplies → Supplies) : (s.modSup f).sckFrom = s.sckFrom := rfl
@[simp] theorem State.modSup_obj (f : Supplies → Supplies) (x y : Nat) : (s.modSup f).obj x y = s.obj x y := rfl
@[simp] theorem State.modSup_memByte (f : Supplies → Supplies) (x : Nat) : (s.modSup f).memByte x = s.memByte x := rfl
@[simp] theorem State.modSup_master (f : Supplies → Supplies) (x : Master) : (s.modSup f).master x = s.master x := rfl
@[simp] theorem State.modSup_t (f : Supplies → Supplies) : (s.modSup f).t = s.t := rfl

/-! `State.modNv` changes `nv` alone. -/

@[simp] theorem State.modNv_pending (f : Nonvolatile → Nonvolatile) : (s.modNv f).pending = s.pending := rfl
@[simp] theorem State.modNv_now (f : Nonvolatile → Nonvolatile) : (s.modNv f).now = s.now := rfl
@[simp] theorem State.modNv_od (f : Nonvolatile → Nonvolatile) : (s.modNv f).od = s.od := rfl
@[simp] theorem State.modNv_mem (f : Nonvolatile → Nonvolatile) : (s.modNv f).mem = s.mem := rfl
@[simp] theorem State.modNv_free (f : Nonvolatile → Nonvolatile) : (s.modNv f).free = s.free := rfl
@[simp] theorem State.modNv_resp (f : Nonvolatile → Nonvolatile) : (s.modNv f).resp = s.resp := rfl
@[simp] theorem State.modNv_masters (f : Nonvolatile → Nonvolatile) : (s.modNv f).masters = s.masters := rfl
@[simp] theorem State.modNv_raised (f : Nonvolatile → Nonvolatile) : (s.modNv f).raised = s.raised := rfl
@[simp] theorem State.modNv_postNet (f : Nonvolatile → Nonvolatile) : (s.modNv f).postNet = s.postNet := rfl
@[simp] theorem State.modNv_postTurn (f : Nonvolatile → Nonvolatile) : (s.modNv f).postTurn = s.postTurn := rfl
@[simp] theorem State.modNv_clk (f : Nonvolatile → Nonvolatile) : (s.modNv f).clk = s.clk := rfl
@[simp] theorem State.modNv_tide (f : Nonvolatile → Nonvolatile) : (s.modNv f).tide = s.tide := rfl
@[simp] theorem State.modNv_engines (f : Nonvolatile → Nonvolatile) : (s.modNv f).engines = s.engines := rfl
@[simp] theorem State.modNv_pool (f : Nonvolatile → Nonvolatile) : (s.modNv f).pool = s.pool := rfl
@[simp] theorem State.modNv_posted (f : Nonvolatile → Nonvolatile) : (s.modNv f).posted = s.posted := rfl
@[simp] theorem State.modNv_ports (f : Nonvolatile → Nonvolatile) : (s.modNv f).ports = s.ports := rfl
@[simp] theorem State.modNv_dbg (f : Nonvolatile → Nonvolatile) : (s.modNv f).dbg = s.dbg := rfl
@[simp] theorem State.modNv_ecc (f : Nonvolatile → Nonvolatile) : (s.modNv f).ecc = s.ecc := rfl
@[simp] theorem State.modNv_startup (f : Nonvolatile → Nonvolatile) : (s.modNv f).startup = s.startup := rfl
@[simp] theorem State.modNv_fm (f : Nonvolatile → Nonvolatile) : (s.modNv f).fm = s.fm := rfl
@[simp] theorem State.modNv_irq (f : Nonvolatile → Nonvolatile) : (s.modNv f).irq = s.irq := rfl
@[simp] theorem State.modNv_sense (f : Nonvolatile → Nonvolatile) : (s.modNv f).sense = s.sense := rfl
@[simp] theorem State.modNv_phases (f : Nonvolatile → Nonvolatile) : (s.modNv f).phases = s.phases := rfl
@[simp] theorem State.modNv_rails (f : Nonvolatile → Nonvolatile) : (s.modNv f).rails = s.rails := rfl
@[simp] theorem State.modNv_measures (f : Nonvolatile → Nonvolatile) : (s.modNv f).measures = s.measures := rfl
@[simp] theorem State.modNv_chg (f : Nonvolatile → Nonvolatile) : (s.modNv f).chg = s.chg := rfl
@[simp] theorem State.modNv_aon (f : Nonvolatile → Nonvolatile) : (s.modNv f).aon = s.aon := rfl
@[simp] theorem State.modNv_gauge (f : Nonvolatile → Nonvolatile) : (s.modNv f).gauge = s.gauge := rfl
@[simp] theorem State.modNv_hka (f : Nonvolatile → Nonvolatile) : (s.modNv f).hka = s.hka := rfl
@[simp] theorem State.modNv_tacho (f : Nonvolatile → Nonvolatile) : (s.modNv f).tacho = s.tacho := rfl
@[simp] theorem State.modNv_sup (f : Nonvolatile → Nonvolatile) : (s.modNv f).sup = s.sup := rfl
@[simp] theorem State.modNv_gds (f : Nonvolatile → Nonvolatile) : (s.modNv f).gds = s.gds := rfl
@[simp] theorem State.modNv_seq (f : Nonvolatile → Nonvolatile) : (s.modNv f).seq = s.seq := rfl
@[simp] theorem State.modNv_dom (f : Nonvolatile → Nonvolatile) : (s.modNv f).dom = s.dom := rfl
@[simp] theorem State.modNv_can (f : Nonvolatile → Nonvolatile) : (s.modNv f).can = s.can := rfl
@[simp] theorem State.modNv_agent (f : Nonvolatile → Nonvolatile) : (s.modNv f).agent = s.agent := rfl
@[simp] theorem State.modNv_bulk (f : Nonvolatile → Nonvolatile) : (s.modNv f).bulk = s.bulk := rfl
@[simp] theorem State.modNv_auth (f : Nonvolatile → Nonvolatile) : (s.modNv f).auth = s.auth := rfl
@[simp] theorem State.modNv_twb (f : Nonvolatile → Nonvolatile) : (s.modNv f).twb = s.twb := rfl
@[simp] theorem State.modNv_canary (f : Nonvolatile → Nonvolatile) : (s.modNv f).canary = s.canary := rfl
@[simp] theorem State.modNv_col (f : Nonvolatile → Nonvolatile) : (s.modNv f).col = s.col := rfl
@[simp] theorem State.modNv_rtc (f : Nonvolatile → Nonvolatile) : (s.modNv f).rtc = s.rtc := rfl
@[simp] theorem State.modNv_assayer (f : Nonvolatile → Nonvolatile) : (s.modNv f).assayer = s.assayer := rfl
@[simp] theorem State.modNv_life (f : Nonvolatile → Nonvolatile) : (s.modNv f).life = s.life := rfl
@[simp] theorem State.modNv_fwt (f : Nonvolatile → Nonvolatile) : (s.modNv f).fwt = s.fwt := rfl
@[simp] theorem State.modNv_cyc (f : Nonvolatile → Nonvolatile) : (s.modNv f).cyc = s.cyc := rfl
@[simp] theorem State.modNv_real (f : Nonvolatile → Nonvolatile) : (s.modNv f).real = s.real := rfl
@[simp] theorem State.modNv_sckFrom (f : Nonvolatile → Nonvolatile) : (s.modNv f).sckFrom = s.sckFrom := rfl
@[simp] theorem State.modNv_obj (f : Nonvolatile → Nonvolatile) (x y : Nat) : (s.modNv f).obj x y = s.obj x y := rfl
@[simp] theorem State.modNv_memByte (f : Nonvolatile → Nonvolatile) (x : Nat) : (s.modNv f).memByte x = s.memByte x := rfl
@[simp] theorem State.modNv_master (f : Nonvolatile → Nonvolatile) (x : Master) : (s.modNv f).master x = s.master x := rfl
@[simp] theorem State.modNv_t (f : Nonvolatile → Nonvolatile) : (s.modNv f).t = s.t := rfl

/-! `State.modClk` changes `clk` alone. -/

@[simp] theorem State.modClk_pending (f : ClockGen → ClockGen) : (s.modClk f).pending = s.pending := rfl
@[simp] theorem State.modClk_now (f : ClockGen → ClockGen) : (s.modClk f).now = s.now := rfl
@[simp] theorem State.modClk_od (f : ClockGen → ClockGen) : (s.modClk f).od = s.od := rfl
@[simp] theorem State.modClk_mem (f : ClockGen → ClockGen) : (s.modClk f).mem = s.mem := rfl
@[simp] theorem State.modClk_free (f : ClockGen → ClockGen) : (s.modClk f).free = s.free := rfl
@[simp] theorem State.modClk_resp (f : ClockGen → ClockGen) : (s.modClk f).resp = s.resp := rfl
@[simp] theorem State.modClk_masters (f : ClockGen → ClockGen) : (s.modClk f).masters = s.masters := rfl
@[simp] theorem State.modClk_raised (f : ClockGen → ClockGen) : (s.modClk f).raised = s.raised := rfl
@[simp] theorem State.modClk_postNet (f : ClockGen → ClockGen) : (s.modClk f).postNet = s.postNet := rfl
@[simp] theorem State.modClk_postTurn (f : ClockGen → ClockGen) : (s.modClk f).postTurn = s.postTurn := rfl
@[simp] theorem State.modClk_tide (f : ClockGen → ClockGen) : (s.modClk f).tide = s.tide := rfl
@[simp] theorem State.modClk_engines (f : ClockGen → ClockGen) : (s.modClk f).engines = s.engines := rfl
@[simp] theorem State.modClk_pool (f : ClockGen → ClockGen) : (s.modClk f).pool = s.pool := rfl
@[simp] theorem State.modClk_posted (f : ClockGen → ClockGen) : (s.modClk f).posted = s.posted := rfl
@[simp] theorem State.modClk_ports (f : ClockGen → ClockGen) : (s.modClk f).ports = s.ports := rfl
@[simp] theorem State.modClk_dbg (f : ClockGen → ClockGen) : (s.modClk f).dbg = s.dbg := rfl
@[simp] theorem State.modClk_ecc (f : ClockGen → ClockGen) : (s.modClk f).ecc = s.ecc := rfl
@[simp] theorem State.modClk_startup (f : ClockGen → ClockGen) : (s.modClk f).startup = s.startup := rfl
@[simp] theorem State.modClk_fm (f : ClockGen → ClockGen) : (s.modClk f).fm = s.fm := rfl
@[simp] theorem State.modClk_irq (f : ClockGen → ClockGen) : (s.modClk f).irq = s.irq := rfl
@[simp] theorem State.modClk_sense (f : ClockGen → ClockGen) : (s.modClk f).sense = s.sense := rfl
@[simp] theorem State.modClk_phases (f : ClockGen → ClockGen) : (s.modClk f).phases = s.phases := rfl
@[simp] theorem State.modClk_rails (f : ClockGen → ClockGen) : (s.modClk f).rails = s.rails := rfl
@[simp] theorem State.modClk_measures (f : ClockGen → ClockGen) : (s.modClk f).measures = s.measures := rfl
@[simp] theorem State.modClk_chg (f : ClockGen → ClockGen) : (s.modClk f).chg = s.chg := rfl
@[simp] theorem State.modClk_aon (f : ClockGen → ClockGen) : (s.modClk f).aon = s.aon := rfl
@[simp] theorem State.modClk_gauge (f : ClockGen → ClockGen) : (s.modClk f).gauge = s.gauge := rfl
@[simp] theorem State.modClk_nv (f : ClockGen → ClockGen) : (s.modClk f).nv = s.nv := rfl
@[simp] theorem State.modClk_hka (f : ClockGen → ClockGen) : (s.modClk f).hka = s.hka := rfl
@[simp] theorem State.modClk_tacho (f : ClockGen → ClockGen) : (s.modClk f).tacho = s.tacho := rfl
@[simp] theorem State.modClk_sup (f : ClockGen → ClockGen) : (s.modClk f).sup = s.sup := rfl
@[simp] theorem State.modClk_gds (f : ClockGen → ClockGen) : (s.modClk f).gds = s.gds := rfl
@[simp] theorem State.modClk_seq (f : ClockGen → ClockGen) : (s.modClk f).seq = s.seq := rfl
@[simp] theorem State.modClk_dom (f : ClockGen → ClockGen) : (s.modClk f).dom = s.dom := rfl
@[simp] theorem State.modClk_can (f : ClockGen → ClockGen) : (s.modClk f).can = s.can := rfl
@[simp] theorem State.modClk_agent (f : ClockGen → ClockGen) : (s.modClk f).agent = s.agent := rfl
@[simp] theorem State.modClk_bulk (f : ClockGen → ClockGen) : (s.modClk f).bulk = s.bulk := rfl
@[simp] theorem State.modClk_auth (f : ClockGen → ClockGen) : (s.modClk f).auth = s.auth := rfl
@[simp] theorem State.modClk_twb (f : ClockGen → ClockGen) : (s.modClk f).twb = s.twb := rfl
@[simp] theorem State.modClk_canary (f : ClockGen → ClockGen) : (s.modClk f).canary = s.canary := rfl
@[simp] theorem State.modClk_col (f : ClockGen → ClockGen) : (s.modClk f).col = s.col := rfl
@[simp] theorem State.modClk_rtc (f : ClockGen → ClockGen) : (s.modClk f).rtc = s.rtc := rfl
@[simp] theorem State.modClk_assayer (f : ClockGen → ClockGen) : (s.modClk f).assayer = s.assayer := rfl
@[simp] theorem State.modClk_life (f : ClockGen → ClockGen) : (s.modClk f).life = s.life := rfl
@[simp] theorem State.modClk_fwt (f : ClockGen → ClockGen) : (s.modClk f).fwt = s.fwt := rfl
@[simp] theorem State.modClk_cyc (f : ClockGen → ClockGen) : (s.modClk f).cyc = s.cyc := rfl
@[simp] theorem State.modClk_real (f : ClockGen → ClockGen) : (s.modClk f).real = s.real := rfl
@[simp] theorem State.modClk_sckFrom (f : ClockGen → ClockGen) : (s.modClk f).sckFrom = s.sckFrom := rfl
@[simp] theorem State.modClk_obj (f : ClockGen → ClockGen) (x y : Nat) : (s.modClk f).obj x y = s.obj x y := rfl
@[simp] theorem State.modClk_memByte (f : ClockGen → ClockGen) (x : Nat) : (s.modClk f).memByte x = s.memByte x := rfl
@[simp] theorem State.modClk_master (f : ClockGen → ClockGen) (x : Master) : (s.modClk f).master x = s.master x := rfl
@[simp] theorem State.modClk_t (f : ClockGen → ClockGen) : (s.modClk f).t = s.t := rfl

/-! `State.modCol` changes `col` alone. -/

@[simp] theorem State.modCol_pending (f : Collector → Collector) : (s.modCol f).pending = s.pending := rfl
@[simp] theorem State.modCol_now (f : Collector → Collector) : (s.modCol f).now = s.now := rfl
@[simp] theorem State.modCol_od (f : Collector → Collector) : (s.modCol f).od = s.od := rfl
@[simp] theorem State.modCol_mem (f : Collector → Collector) : (s.modCol f).mem = s.mem := rfl
@[simp] theorem State.modCol_free (f : Collector → Collector) : (s.modCol f).free = s.free := rfl
@[simp] theorem State.modCol_resp (f : Collector → Collector) : (s.modCol f).resp = s.resp := rfl
@[simp] theorem State.modCol_masters (f : Collector → Collector) : (s.modCol f).masters = s.masters := rfl
@[simp] theorem State.modCol_raised (f : Collector → Collector) : (s.modCol f).raised = s.raised := rfl
@[simp] theorem State.modCol_postNet (f : Collector → Collector) : (s.modCol f).postNet = s.postNet := rfl
@[simp] theorem State.modCol_postTurn (f : Collector → Collector) : (s.modCol f).postTurn = s.postTurn := rfl
@[simp] theorem State.modCol_clk (f : Collector → Collector) : (s.modCol f).clk = s.clk := rfl
@[simp] theorem State.modCol_tide (f : Collector → Collector) : (s.modCol f).tide = s.tide := rfl
@[simp] theorem State.modCol_engines (f : Collector → Collector) : (s.modCol f).engines = s.engines := rfl
@[simp] theorem State.modCol_pool (f : Collector → Collector) : (s.modCol f).pool = s.pool := rfl
@[simp] theorem State.modCol_posted (f : Collector → Collector) : (s.modCol f).posted = s.posted := rfl
@[simp] theorem State.modCol_ports (f : Collector → Collector) : (s.modCol f).ports = s.ports := rfl
@[simp] theorem State.modCol_dbg (f : Collector → Collector) : (s.modCol f).dbg = s.dbg := rfl
@[simp] theorem State.modCol_ecc (f : Collector → Collector) : (s.modCol f).ecc = s.ecc := rfl
@[simp] theorem State.modCol_startup (f : Collector → Collector) : (s.modCol f).startup = s.startup := rfl
@[simp] theorem State.modCol_fm (f : Collector → Collector) : (s.modCol f).fm = s.fm := rfl
@[simp] theorem State.modCol_irq (f : Collector → Collector) : (s.modCol f).irq = s.irq := rfl
@[simp] theorem State.modCol_sense (f : Collector → Collector) : (s.modCol f).sense = s.sense := rfl
@[simp] theorem State.modCol_phases (f : Collector → Collector) : (s.modCol f).phases = s.phases := rfl
@[simp] theorem State.modCol_rails (f : Collector → Collector) : (s.modCol f).rails = s.rails := rfl
@[simp] theorem State.modCol_measures (f : Collector → Collector) : (s.modCol f).measures = s.measures := rfl
@[simp] theorem State.modCol_chg (f : Collector → Collector) : (s.modCol f).chg = s.chg := rfl
@[simp] theorem State.modCol_aon (f : Collector → Collector) : (s.modCol f).aon = s.aon := rfl
@[simp] theorem State.modCol_gauge (f : Collector → Collector) : (s.modCol f).gauge = s.gauge := rfl
@[simp] theorem State.modCol_nv (f : Collector → Collector) : (s.modCol f).nv = s.nv := rfl
@[simp] theorem State.modCol_hka (f : Collector → Collector) : (s.modCol f).hka = s.hka := rfl
@[simp] theorem State.modCol_tacho (f : Collector → Collector) : (s.modCol f).tacho = s.tacho := rfl
@[simp] theorem State.modCol_sup (f : Collector → Collector) : (s.modCol f).sup = s.sup := rfl
@[simp] theorem State.modCol_gds (f : Collector → Collector) : (s.modCol f).gds = s.gds := rfl
@[simp] theorem State.modCol_seq (f : Collector → Collector) : (s.modCol f).seq = s.seq := rfl
@[simp] theorem State.modCol_dom (f : Collector → Collector) : (s.modCol f).dom = s.dom := rfl
@[simp] theorem State.modCol_can (f : Collector → Collector) : (s.modCol f).can = s.can := rfl
@[simp] theorem State.modCol_agent (f : Collector → Collector) : (s.modCol f).agent = s.agent := rfl
@[simp] theorem State.modCol_bulk (f : Collector → Collector) : (s.modCol f).bulk = s.bulk := rfl
@[simp] theorem State.modCol_auth (f : Collector → Collector) : (s.modCol f).auth = s.auth := rfl
@[simp] theorem State.modCol_twb (f : Collector → Collector) : (s.modCol f).twb = s.twb := rfl
@[simp] theorem State.modCol_canary (f : Collector → Collector) : (s.modCol f).canary = s.canary := rfl
@[simp] theorem State.modCol_rtc (f : Collector → Collector) : (s.modCol f).rtc = s.rtc := rfl
@[simp] theorem State.modCol_assayer (f : Collector → Collector) : (s.modCol f).assayer = s.assayer := rfl
@[simp] theorem State.modCol_life (f : Collector → Collector) : (s.modCol f).life = s.life := rfl
@[simp] theorem State.modCol_fwt (f : Collector → Collector) : (s.modCol f).fwt = s.fwt := rfl
@[simp] theorem State.modCol_cyc (f : Collector → Collector) : (s.modCol f).cyc = s.cyc := rfl
@[simp] theorem State.modCol_real (f : Collector → Collector) : (s.modCol f).real = s.real := rfl
@[simp] theorem State.modCol_sckFrom (f : Collector → Collector) : (s.modCol f).sckFrom = s.sckFrom := rfl
@[simp] theorem State.modCol_obj (f : Collector → Collector) (x y : Nat) : (s.modCol f).obj x y = s.obj x y := rfl
@[simp] theorem State.modCol_memByte (f : Collector → Collector) (x : Nat) : (s.modCol f).memByte x = s.memByte x := rfl
@[simp] theorem State.modCol_master (f : Collector → Collector) (x : Master) : (s.modCol f).master x = s.master x := rfl
@[simp] theorem State.modCol_t (f : Collector → Collector) : (s.modCol f).t = s.t := rfl

/-! `State.modAgent` changes `agent` alone. -/

@[simp] theorem State.modAgent_pending (f : CanAgent → CanAgent) : (s.modAgent f).pending = s.pending := rfl
@[simp] theorem State.modAgent_now (f : CanAgent → CanAgent) : (s.modAgent f).now = s.now := rfl
@[simp] theorem State.modAgent_od (f : CanAgent → CanAgent) : (s.modAgent f).od = s.od := rfl
@[simp] theorem State.modAgent_mem (f : CanAgent → CanAgent) : (s.modAgent f).mem = s.mem := rfl
@[simp] theorem State.modAgent_free (f : CanAgent → CanAgent) : (s.modAgent f).free = s.free := rfl
@[simp] theorem State.modAgent_resp (f : CanAgent → CanAgent) : (s.modAgent f).resp = s.resp := rfl
@[simp] theorem State.modAgent_masters (f : CanAgent → CanAgent) : (s.modAgent f).masters = s.masters := rfl
@[simp] theorem State.modAgent_raised (f : CanAgent → CanAgent) : (s.modAgent f).raised = s.raised := rfl
@[simp] theorem State.modAgent_postNet (f : CanAgent → CanAgent) : (s.modAgent f).postNet = s.postNet := rfl
@[simp] theorem State.modAgent_postTurn (f : CanAgent → CanAgent) : (s.modAgent f).postTurn = s.postTurn := rfl
@[simp] theorem State.modAgent_clk (f : CanAgent → CanAgent) : (s.modAgent f).clk = s.clk := rfl
@[simp] theorem State.modAgent_tide (f : CanAgent → CanAgent) : (s.modAgent f).tide = s.tide := rfl
@[simp] theorem State.modAgent_engines (f : CanAgent → CanAgent) : (s.modAgent f).engines = s.engines := rfl
@[simp] theorem State.modAgent_pool (f : CanAgent → CanAgent) : (s.modAgent f).pool = s.pool := rfl
@[simp] theorem State.modAgent_posted (f : CanAgent → CanAgent) : (s.modAgent f).posted = s.posted := rfl
@[simp] theorem State.modAgent_ports (f : CanAgent → CanAgent) : (s.modAgent f).ports = s.ports := rfl
@[simp] theorem State.modAgent_dbg (f : CanAgent → CanAgent) : (s.modAgent f).dbg = s.dbg := rfl
@[simp] theorem State.modAgent_ecc (f : CanAgent → CanAgent) : (s.modAgent f).ecc = s.ecc := rfl
@[simp] theorem State.modAgent_startup (f : CanAgent → CanAgent) : (s.modAgent f).startup = s.startup := rfl
@[simp] theorem State.modAgent_fm (f : CanAgent → CanAgent) : (s.modAgent f).fm = s.fm := rfl
@[simp] theorem State.modAgent_irq (f : CanAgent → CanAgent) : (s.modAgent f).irq = s.irq := rfl
@[simp] theorem State.modAgent_sense (f : CanAgent → CanAgent) : (s.modAgent f).sense = s.sense := rfl
@[simp] theorem State.modAgent_phases (f : CanAgent → CanAgent) : (s.modAgent f).phases = s.phases := rfl
@[simp] theorem State.modAgent_rails (f : CanAgent → CanAgent) : (s.modAgent f).rails = s.rails := rfl
@[simp] theorem State.modAgent_measures (f : CanAgent → CanAgent) : (s.modAgent f).measures = s.measures := rfl
@[simp] theorem State.modAgent_chg (f : CanAgent → CanAgent) : (s.modAgent f).chg = s.chg := rfl
@[simp] theorem State.modAgent_aon (f : CanAgent → CanAgent) : (s.modAgent f).aon = s.aon := rfl
@[simp] theorem State.modAgent_gauge (f : CanAgent → CanAgent) : (s.modAgent f).gauge = s.gauge := rfl
@[simp] theorem State.modAgent_nv (f : CanAgent → CanAgent) : (s.modAgent f).nv = s.nv := rfl
@[simp] theorem State.modAgent_hka (f : CanAgent → CanAgent) : (s.modAgent f).hka = s.hka := rfl
@[simp] theorem State.modAgent_tacho (f : CanAgent → CanAgent) : (s.modAgent f).tacho = s.tacho := rfl
@[simp] theorem State.modAgent_sup (f : CanAgent → CanAgent) : (s.modAgent f).sup = s.sup := rfl
@[simp] theorem State.modAgent_gds (f : CanAgent → CanAgent) : (s.modAgent f).gds = s.gds := rfl
@[simp] theorem State.modAgent_seq (f : CanAgent → CanAgent) : (s.modAgent f).seq = s.seq := rfl
@[simp] theorem State.modAgent_dom (f : CanAgent → CanAgent) : (s.modAgent f).dom = s.dom := rfl
@[simp] theorem State.modAgent_can (f : CanAgent → CanAgent) : (s.modAgent f).can = s.can := rfl
@[simp] theorem State.modAgent_bulk (f : CanAgent → CanAgent) : (s.modAgent f).bulk = s.bulk := rfl
@[simp] theorem State.modAgent_auth (f : CanAgent → CanAgent) : (s.modAgent f).auth = s.auth := rfl
@[simp] theorem State.modAgent_twb (f : CanAgent → CanAgent) : (s.modAgent f).twb = s.twb := rfl
@[simp] theorem State.modAgent_canary (f : CanAgent → CanAgent) : (s.modAgent f).canary = s.canary := rfl
@[simp] theorem State.modAgent_col (f : CanAgent → CanAgent) : (s.modAgent f).col = s.col := rfl
@[simp] theorem State.modAgent_rtc (f : CanAgent → CanAgent) : (s.modAgent f).rtc = s.rtc := rfl
@[simp] theorem State.modAgent_assayer (f : CanAgent → CanAgent) : (s.modAgent f).assayer = s.assayer := rfl
@[simp] theorem State.modAgent_life (f : CanAgent → CanAgent) : (s.modAgent f).life = s.life := rfl
@[simp] theorem State.modAgent_fwt (f : CanAgent → CanAgent) : (s.modAgent f).fwt = s.fwt := rfl
@[simp] theorem State.modAgent_cyc (f : CanAgent → CanAgent) : (s.modAgent f).cyc = s.cyc := rfl
@[simp] theorem State.modAgent_real (f : CanAgent → CanAgent) : (s.modAgent f).real = s.real := rfl
@[simp] theorem State.modAgent_sckFrom (f : CanAgent → CanAgent) : (s.modAgent f).sckFrom = s.sckFrom := rfl
@[simp] theorem State.modAgent_obj (f : CanAgent → CanAgent) (x y : Nat) : (s.modAgent f).obj x y = s.obj x y := rfl
@[simp] theorem State.modAgent_memByte (f : CanAgent → CanAgent) (x : Nat) : (s.modAgent f).memByte x = s.memByte x := rfl
@[simp] theorem State.modAgent_master (f : CanAgent → CanAgent) (x : Master) : (s.modAgent f).master x = s.master x := rfl
@[simp] theorem State.modAgent_t (f : CanAgent → CanAgent) : (s.modAgent f).t = s.t := rfl

/-! `State.modFm` changes `fm` alone. -/

@[simp] theorem State.modFm_pending (f : Foreman → Foreman) : (s.modFm f).pending = s.pending := rfl
@[simp] theorem State.modFm_now (f : Foreman → Foreman) : (s.modFm f).now = s.now := rfl
@[simp] theorem State.modFm_od (f : Foreman → Foreman) : (s.modFm f).od = s.od := rfl
@[simp] theorem State.modFm_mem (f : Foreman → Foreman) : (s.modFm f).mem = s.mem := rfl
@[simp] theorem State.modFm_free (f : Foreman → Foreman) : (s.modFm f).free = s.free := rfl
@[simp] theorem State.modFm_resp (f : Foreman → Foreman) : (s.modFm f).resp = s.resp := rfl
@[simp] theorem State.modFm_masters (f : Foreman → Foreman) : (s.modFm f).masters = s.masters := rfl
@[simp] theorem State.modFm_raised (f : Foreman → Foreman) : (s.modFm f).raised = s.raised := rfl
@[simp] theorem State.modFm_postNet (f : Foreman → Foreman) : (s.modFm f).postNet = s.postNet := rfl
@[simp] theorem State.modFm_postTurn (f : Foreman → Foreman) : (s.modFm f).postTurn = s.postTurn := rfl
@[simp] theorem State.modFm_clk (f : Foreman → Foreman) : (s.modFm f).clk = s.clk := rfl
@[simp] theorem State.modFm_tide (f : Foreman → Foreman) : (s.modFm f).tide = s.tide := rfl
@[simp] theorem State.modFm_engines (f : Foreman → Foreman) : (s.modFm f).engines = s.engines := rfl
@[simp] theorem State.modFm_pool (f : Foreman → Foreman) : (s.modFm f).pool = s.pool := rfl
@[simp] theorem State.modFm_posted (f : Foreman → Foreman) : (s.modFm f).posted = s.posted := rfl
@[simp] theorem State.modFm_ports (f : Foreman → Foreman) : (s.modFm f).ports = s.ports := rfl
@[simp] theorem State.modFm_dbg (f : Foreman → Foreman) : (s.modFm f).dbg = s.dbg := rfl
@[simp] theorem State.modFm_ecc (f : Foreman → Foreman) : (s.modFm f).ecc = s.ecc := rfl
@[simp] theorem State.modFm_startup (f : Foreman → Foreman) : (s.modFm f).startup = s.startup := rfl
@[simp] theorem State.modFm_irq (f : Foreman → Foreman) : (s.modFm f).irq = s.irq := rfl
@[simp] theorem State.modFm_sense (f : Foreman → Foreman) : (s.modFm f).sense = s.sense := rfl
@[simp] theorem State.modFm_phases (f : Foreman → Foreman) : (s.modFm f).phases = s.phases := rfl
@[simp] theorem State.modFm_rails (f : Foreman → Foreman) : (s.modFm f).rails = s.rails := rfl
@[simp] theorem State.modFm_measures (f : Foreman → Foreman) : (s.modFm f).measures = s.measures := rfl
@[simp] theorem State.modFm_chg (f : Foreman → Foreman) : (s.modFm f).chg = s.chg := rfl
@[simp] theorem State.modFm_aon (f : Foreman → Foreman) : (s.modFm f).aon = s.aon := rfl
@[simp] theorem State.modFm_gauge (f : Foreman → Foreman) : (s.modFm f).gauge = s.gauge := rfl
@[simp] theorem State.modFm_nv (f : Foreman → Foreman) : (s.modFm f).nv = s.nv := rfl
@[simp] theorem State.modFm_hka (f : Foreman → Foreman) : (s.modFm f).hka = s.hka := rfl
@[simp] theorem State.modFm_tacho (f : Foreman → Foreman) : (s.modFm f).tacho = s.tacho := rfl
@[simp] theorem State.modFm_sup (f : Foreman → Foreman) : (s.modFm f).sup = s.sup := rfl
@[simp] theorem State.modFm_gds (f : Foreman → Foreman) : (s.modFm f).gds = s.gds := rfl
@[simp] theorem State.modFm_seq (f : Foreman → Foreman) : (s.modFm f).seq = s.seq := rfl
@[simp] theorem State.modFm_dom (f : Foreman → Foreman) : (s.modFm f).dom = s.dom := rfl
@[simp] theorem State.modFm_can (f : Foreman → Foreman) : (s.modFm f).can = s.can := rfl
@[simp] theorem State.modFm_agent (f : Foreman → Foreman) : (s.modFm f).agent = s.agent := rfl
@[simp] theorem State.modFm_bulk (f : Foreman → Foreman) : (s.modFm f).bulk = s.bulk := rfl
@[simp] theorem State.modFm_auth (f : Foreman → Foreman) : (s.modFm f).auth = s.auth := rfl
@[simp] theorem State.modFm_twb (f : Foreman → Foreman) : (s.modFm f).twb = s.twb := rfl
@[simp] theorem State.modFm_canary (f : Foreman → Foreman) : (s.modFm f).canary = s.canary := rfl
@[simp] theorem State.modFm_col (f : Foreman → Foreman) : (s.modFm f).col = s.col := rfl
@[simp] theorem State.modFm_rtc (f : Foreman → Foreman) : (s.modFm f).rtc = s.rtc := rfl
@[simp] theorem State.modFm_assayer (f : Foreman → Foreman) : (s.modFm f).assayer = s.assayer := rfl
@[simp] theorem State.modFm_life (f : Foreman → Foreman) : (s.modFm f).life = s.life := rfl
@[simp] theorem State.modFm_fwt (f : Foreman → Foreman) : (s.modFm f).fwt = s.fwt := rfl
@[simp] theorem State.modFm_cyc (f : Foreman → Foreman) : (s.modFm f).cyc = s.cyc := rfl
@[simp] theorem State.modFm_real (f : Foreman → Foreman) : (s.modFm f).real = s.real := rfl
@[simp] theorem State.modFm_sckFrom (f : Foreman → Foreman) : (s.modFm f).sckFrom = s.sckFrom := rfl
@[simp] theorem State.modFm_obj (f : Foreman → Foreman) (x y : Nat) : (s.modFm f).obj x y = s.obj x y := rfl
@[simp] theorem State.modFm_memByte (f : Foreman → Foreman) (x : Nat) : (s.modFm f).memByte x = s.memByte x := rfl
@[simp] theorem State.modFm_master (f : Foreman → Foreman) (x : Master) : (s.modFm f).master x = s.master x := rfl
@[simp] theorem State.modFm_t (f : Foreman → Foreman) : (s.modFm f).t = s.t := rfl

/-! `State.modGauge` changes `gauge` alone. -/

@[simp] theorem State.modGauge_pending (f : Gauge → Gauge) : (s.modGauge f).pending = s.pending := rfl
@[simp] theorem State.modGauge_now (f : Gauge → Gauge) : (s.modGauge f).now = s.now := rfl
@[simp] theorem State.modGauge_od (f : Gauge → Gauge) : (s.modGauge f).od = s.od := rfl
@[simp] theorem State.modGauge_mem (f : Gauge → Gauge) : (s.modGauge f).mem = s.mem := rfl
@[simp] theorem State.modGauge_free (f : Gauge → Gauge) : (s.modGauge f).free = s.free := rfl
@[simp] theorem State.modGauge_resp (f : Gauge → Gauge) : (s.modGauge f).resp = s.resp := rfl
@[simp] theorem State.modGauge_masters (f : Gauge → Gauge) : (s.modGauge f).masters = s.masters := rfl
@[simp] theorem State.modGauge_raised (f : Gauge → Gauge) : (s.modGauge f).raised = s.raised := rfl
@[simp] theorem State.modGauge_postNet (f : Gauge → Gauge) : (s.modGauge f).postNet = s.postNet := rfl
@[simp] theorem State.modGauge_postTurn (f : Gauge → Gauge) : (s.modGauge f).postTurn = s.postTurn := rfl
@[simp] theorem State.modGauge_clk (f : Gauge → Gauge) : (s.modGauge f).clk = s.clk := rfl
@[simp] theorem State.modGauge_tide (f : Gauge → Gauge) : (s.modGauge f).tide = s.tide := rfl
@[simp] theorem State.modGauge_engines (f : Gauge → Gauge) : (s.modGauge f).engines = s.engines := rfl
@[simp] theorem State.modGauge_pool (f : Gauge → Gauge) : (s.modGauge f).pool = s.pool := rfl
@[simp] theorem State.modGauge_posted (f : Gauge → Gauge) : (s.modGauge f).posted = s.posted := rfl
@[simp] theorem State.modGauge_ports (f : Gauge → Gauge) : (s.modGauge f).ports = s.ports := rfl
@[simp] theorem State.modGauge_dbg (f : Gauge → Gauge) : (s.modGauge f).dbg = s.dbg := rfl
@[simp] theorem State.modGauge_ecc (f : Gauge → Gauge) : (s.modGauge f).ecc = s.ecc := rfl
@[simp] theorem State.modGauge_startup (f : Gauge → Gauge) : (s.modGauge f).startup = s.startup := rfl
@[simp] theorem State.modGauge_fm (f : Gauge → Gauge) : (s.modGauge f).fm = s.fm := rfl
@[simp] theorem State.modGauge_irq (f : Gauge → Gauge) : (s.modGauge f).irq = s.irq := rfl
@[simp] theorem State.modGauge_sense (f : Gauge → Gauge) : (s.modGauge f).sense = s.sense := rfl
@[simp] theorem State.modGauge_phases (f : Gauge → Gauge) : (s.modGauge f).phases = s.phases := rfl
@[simp] theorem State.modGauge_rails (f : Gauge → Gauge) : (s.modGauge f).rails = s.rails := rfl
@[simp] theorem State.modGauge_measures (f : Gauge → Gauge) : (s.modGauge f).measures = s.measures := rfl
@[simp] theorem State.modGauge_chg (f : Gauge → Gauge) : (s.modGauge f).chg = s.chg := rfl
@[simp] theorem State.modGauge_aon (f : Gauge → Gauge) : (s.modGauge f).aon = s.aon := rfl
@[simp] theorem State.modGauge_nv (f : Gauge → Gauge) : (s.modGauge f).nv = s.nv := rfl
@[simp] theorem State.modGauge_hka (f : Gauge → Gauge) : (s.modGauge f).hka = s.hka := rfl
@[simp] theorem State.modGauge_tacho (f : Gauge → Gauge) : (s.modGauge f).tacho = s.tacho := rfl
@[simp] theorem State.modGauge_sup (f : Gauge → Gauge) : (s.modGauge f).sup = s.sup := rfl
@[simp] theorem State.modGauge_gds (f : Gauge → Gauge) : (s.modGauge f).gds = s.gds := rfl
@[simp] theorem State.modGauge_seq (f : Gauge → Gauge) : (s.modGauge f).seq = s.seq := rfl
@[simp] theorem State.modGauge_dom (f : Gauge → Gauge) : (s.modGauge f).dom = s.dom := rfl
@[simp] theorem State.modGauge_can (f : Gauge → Gauge) : (s.modGauge f).can = s.can := rfl
@[simp] theorem State.modGauge_agent (f : Gauge → Gauge) : (s.modGauge f).agent = s.agent := rfl
@[simp] theorem State.modGauge_bulk (f : Gauge → Gauge) : (s.modGauge f).bulk = s.bulk := rfl
@[simp] theorem State.modGauge_auth (f : Gauge → Gauge) : (s.modGauge f).auth = s.auth := rfl
@[simp] theorem State.modGauge_twb (f : Gauge → Gauge) : (s.modGauge f).twb = s.twb := rfl
@[simp] theorem State.modGauge_canary (f : Gauge → Gauge) : (s.modGauge f).canary = s.canary := rfl
@[simp] theorem State.modGauge_col (f : Gauge → Gauge) : (s.modGauge f).col = s.col := rfl
@[simp] theorem State.modGauge_rtc (f : Gauge → Gauge) : (s.modGauge f).rtc = s.rtc := rfl
@[simp] theorem State.modGauge_assayer (f : Gauge → Gauge) : (s.modGauge f).assayer = s.assayer := rfl
@[simp] theorem State.modGauge_life (f : Gauge → Gauge) : (s.modGauge f).life = s.life := rfl
@[simp] theorem State.modGauge_fwt (f : Gauge → Gauge) : (s.modGauge f).fwt = s.fwt := rfl
@[simp] theorem State.modGauge_cyc (f : Gauge → Gauge) : (s.modGauge f).cyc = s.cyc := rfl
@[simp] theorem State.modGauge_real (f : Gauge → Gauge) : (s.modGauge f).real = s.real := rfl
@[simp] theorem State.modGauge_sckFrom (f : Gauge → Gauge) : (s.modGauge f).sckFrom = s.sckFrom := rfl
@[simp] theorem State.modGauge_obj (f : Gauge → Gauge) (x y : Nat) : (s.modGauge f).obj x y = s.obj x y := rfl
@[simp] theorem State.modGauge_memByte (f : Gauge → Gauge) (x : Nat) : (s.modGauge f).memByte x = s.memByte x := rfl
@[simp] theorem State.modGauge_master (f : Gauge → Gauge) (x : Master) : (s.modGauge f).master x = s.master x := rfl
@[simp] theorem State.modGauge_t (f : Gauge → Gauge) : (s.modGauge f).t = s.t := rfl

/-! `State.modIrq` changes `irq` alone. -/

@[simp] theorem State.modIrq_pending (f : Interrupts → Interrupts) : (s.modIrq f).pending = s.pending := rfl
@[simp] theorem State.modIrq_now (f : Interrupts → Interrupts) : (s.modIrq f).now = s.now := rfl
@[simp] theorem State.modIrq_od (f : Interrupts → Interrupts) : (s.modIrq f).od = s.od := rfl
@[simp] theorem State.modIrq_mem (f : Interrupts → Interrupts) : (s.modIrq f).mem = s.mem := rfl
@[simp] theorem State.modIrq_free (f : Interrupts → Interrupts) : (s.modIrq f).free = s.free := rfl
@[simp] theorem State.modIrq_resp (f : Interrupts → Interrupts) : (s.modIrq f).resp = s.resp := rfl
@[simp] theorem State.modIrq_masters (f : Interrupts → Interrupts) : (s.modIrq f).masters = s.masters := rfl
@[simp] theorem State.modIrq_raised (f : Interrupts → Interrupts) : (s.modIrq f).raised = s.raised := rfl
@[simp] theorem State.modIrq_postNet (f : Interrupts → Interrupts) : (s.modIrq f).postNet = s.postNet := rfl
@[simp] theorem State.modIrq_postTurn (f : Interrupts → Interrupts) : (s.modIrq f).postTurn = s.postTurn := rfl
@[simp] theorem State.modIrq_clk (f : Interrupts → Interrupts) : (s.modIrq f).clk = s.clk := rfl
@[simp] theorem State.modIrq_tide (f : Interrupts → Interrupts) : (s.modIrq f).tide = s.tide := rfl
@[simp] theorem State.modIrq_engines (f : Interrupts → Interrupts) : (s.modIrq f).engines = s.engines := rfl
@[simp] theorem State.modIrq_pool (f : Interrupts → Interrupts) : (s.modIrq f).pool = s.pool := rfl
@[simp] theorem State.modIrq_posted (f : Interrupts → Interrupts) : (s.modIrq f).posted = s.posted := rfl
@[simp] theorem State.modIrq_ports (f : Interrupts → Interrupts) : (s.modIrq f).ports = s.ports := rfl
@[simp] theorem State.modIrq_dbg (f : Interrupts → Interrupts) : (s.modIrq f).dbg = s.dbg := rfl
@[simp] theorem State.modIrq_ecc (f : Interrupts → Interrupts) : (s.modIrq f).ecc = s.ecc := rfl
@[simp] theorem State.modIrq_startup (f : Interrupts → Interrupts) : (s.modIrq f).startup = s.startup := rfl
@[simp] theorem State.modIrq_fm (f : Interrupts → Interrupts) : (s.modIrq f).fm = s.fm := rfl
@[simp] theorem State.modIrq_sense (f : Interrupts → Interrupts) : (s.modIrq f).sense = s.sense := rfl
@[simp] theorem State.modIrq_phases (f : Interrupts → Interrupts) : (s.modIrq f).phases = s.phases := rfl
@[simp] theorem State.modIrq_rails (f : Interrupts → Interrupts) : (s.modIrq f).rails = s.rails := rfl
@[simp] theorem State.modIrq_measures (f : Interrupts → Interrupts) : (s.modIrq f).measures = s.measures := rfl
@[simp] theorem State.modIrq_chg (f : Interrupts → Interrupts) : (s.modIrq f).chg = s.chg := rfl
@[simp] theorem State.modIrq_aon (f : Interrupts → Interrupts) : (s.modIrq f).aon = s.aon := rfl
@[simp] theorem State.modIrq_gauge (f : Interrupts → Interrupts) : (s.modIrq f).gauge = s.gauge := rfl
@[simp] theorem State.modIrq_nv (f : Interrupts → Interrupts) : (s.modIrq f).nv = s.nv := rfl
@[simp] theorem State.modIrq_hka (f : Interrupts → Interrupts) : (s.modIrq f).hka = s.hka := rfl
@[simp] theorem State.modIrq_tacho (f : Interrupts → Interrupts) : (s.modIrq f).tacho = s.tacho := rfl
@[simp] theorem State.modIrq_sup (f : Interrupts → Interrupts) : (s.modIrq f).sup = s.sup := rfl
@[simp] theorem State.modIrq_gds (f : Interrupts → Interrupts) : (s.modIrq f).gds = s.gds := rfl
@[simp] theorem State.modIrq_seq (f : Interrupts → Interrupts) : (s.modIrq f).seq = s.seq := rfl
@[simp] theorem State.modIrq_dom (f : Interrupts → Interrupts) : (s.modIrq f).dom = s.dom := rfl
@[simp] theorem State.modIrq_can (f : Interrupts → Interrupts) : (s.modIrq f).can = s.can := rfl
@[simp] theorem State.modIrq_agent (f : Interrupts → Interrupts) : (s.modIrq f).agent = s.agent := rfl
@[simp] theorem State.modIrq_bulk (f : Interrupts → Interrupts) : (s.modIrq f).bulk = s.bulk := rfl
@[simp] theorem State.modIrq_auth (f : Interrupts → Interrupts) : (s.modIrq f).auth = s.auth := rfl
@[simp] theorem State.modIrq_twb (f : Interrupts → Interrupts) : (s.modIrq f).twb = s.twb := rfl
@[simp] theorem State.modIrq_canary (f : Interrupts → Interrupts) : (s.modIrq f).canary = s.canary := rfl
@[simp] theorem State.modIrq_col (f : Interrupts → Interrupts) : (s.modIrq f).col = s.col := rfl
@[simp] theorem State.modIrq_rtc (f : Interrupts → Interrupts) : (s.modIrq f).rtc = s.rtc := rfl
@[simp] theorem State.modIrq_assayer (f : Interrupts → Interrupts) : (s.modIrq f).assayer = s.assayer := rfl
@[simp] theorem State.modIrq_life (f : Interrupts → Interrupts) : (s.modIrq f).life = s.life := rfl
@[simp] theorem State.modIrq_fwt (f : Interrupts → Interrupts) : (s.modIrq f).fwt = s.fwt := rfl
@[simp] theorem State.modIrq_cyc (f : Interrupts → Interrupts) : (s.modIrq f).cyc = s.cyc := rfl
@[simp] theorem State.modIrq_real (f : Interrupts → Interrupts) : (s.modIrq f).real = s.real := rfl
@[simp] theorem State.modIrq_sckFrom (f : Interrupts → Interrupts) : (s.modIrq f).sckFrom = s.sckFrom := rfl
@[simp] theorem State.modIrq_obj (f : Interrupts → Interrupts) (x y : Nat) : (s.modIrq f).obj x y = s.obj x y := rfl
@[simp] theorem State.modIrq_memByte (f : Interrupts → Interrupts) (x : Nat) : (s.modIrq f).memByte x = s.memByte x := rfl
@[simp] theorem State.modIrq_master (f : Interrupts → Interrupts) (x : Master) : (s.modIrq f).master x = s.master x := rfl
@[simp] theorem State.modIrq_t (f : Interrupts → Interrupts) : (s.modIrq f).t = s.t := rfl

/-! `State.modSeq` changes `seq` alone. -/

@[simp] theorem State.modSeq_pending (f : Sequencer → Sequencer) : (s.modSeq f).pending = s.pending := rfl
@[simp] theorem State.modSeq_now (f : Sequencer → Sequencer) : (s.modSeq f).now = s.now := rfl
@[simp] theorem State.modSeq_od (f : Sequencer → Sequencer) : (s.modSeq f).od = s.od := rfl
@[simp] theorem State.modSeq_mem (f : Sequencer → Sequencer) : (s.modSeq f).mem = s.mem := rfl
@[simp] theorem State.modSeq_free (f : Sequencer → Sequencer) : (s.modSeq f).free = s.free := rfl
@[simp] theorem State.modSeq_resp (f : Sequencer → Sequencer) : (s.modSeq f).resp = s.resp := rfl
@[simp] theorem State.modSeq_masters (f : Sequencer → Sequencer) : (s.modSeq f).masters = s.masters := rfl
@[simp] theorem State.modSeq_raised (f : Sequencer → Sequencer) : (s.modSeq f).raised = s.raised := rfl
@[simp] theorem State.modSeq_postNet (f : Sequencer → Sequencer) : (s.modSeq f).postNet = s.postNet := rfl
@[simp] theorem State.modSeq_postTurn (f : Sequencer → Sequencer) : (s.modSeq f).postTurn = s.postTurn := rfl
@[simp] theorem State.modSeq_clk (f : Sequencer → Sequencer) : (s.modSeq f).clk = s.clk := rfl
@[simp] theorem State.modSeq_tide (f : Sequencer → Sequencer) : (s.modSeq f).tide = s.tide := rfl
@[simp] theorem State.modSeq_engines (f : Sequencer → Sequencer) : (s.modSeq f).engines = s.engines := rfl
@[simp] theorem State.modSeq_pool (f : Sequencer → Sequencer) : (s.modSeq f).pool = s.pool := rfl
@[simp] theorem State.modSeq_posted (f : Sequencer → Sequencer) : (s.modSeq f).posted = s.posted := rfl
@[simp] theorem State.modSeq_ports (f : Sequencer → Sequencer) : (s.modSeq f).ports = s.ports := rfl
@[simp] theorem State.modSeq_dbg (f : Sequencer → Sequencer) : (s.modSeq f).dbg = s.dbg := rfl
@[simp] theorem State.modSeq_ecc (f : Sequencer → Sequencer) : (s.modSeq f).ecc = s.ecc := rfl
@[simp] theorem State.modSeq_startup (f : Sequencer → Sequencer) : (s.modSeq f).startup = s.startup := rfl
@[simp] theorem State.modSeq_fm (f : Sequencer → Sequencer) : (s.modSeq f).fm = s.fm := rfl
@[simp] theorem State.modSeq_irq (f : Sequencer → Sequencer) : (s.modSeq f).irq = s.irq := rfl
@[simp] theorem State.modSeq_sense (f : Sequencer → Sequencer) : (s.modSeq f).sense = s.sense := rfl
@[simp] theorem State.modSeq_phases (f : Sequencer → Sequencer) : (s.modSeq f).phases = s.phases := rfl
@[simp] theorem State.modSeq_rails (f : Sequencer → Sequencer) : (s.modSeq f).rails = s.rails := rfl
@[simp] theorem State.modSeq_measures (f : Sequencer → Sequencer) : (s.modSeq f).measures = s.measures := rfl
@[simp] theorem State.modSeq_chg (f : Sequencer → Sequencer) : (s.modSeq f).chg = s.chg := rfl
@[simp] theorem State.modSeq_aon (f : Sequencer → Sequencer) : (s.modSeq f).aon = s.aon := rfl
@[simp] theorem State.modSeq_gauge (f : Sequencer → Sequencer) : (s.modSeq f).gauge = s.gauge := rfl
@[simp] theorem State.modSeq_nv (f : Sequencer → Sequencer) : (s.modSeq f).nv = s.nv := rfl
@[simp] theorem State.modSeq_hka (f : Sequencer → Sequencer) : (s.modSeq f).hka = s.hka := rfl
@[simp] theorem State.modSeq_tacho (f : Sequencer → Sequencer) : (s.modSeq f).tacho = s.tacho := rfl
@[simp] theorem State.modSeq_sup (f : Sequencer → Sequencer) : (s.modSeq f).sup = s.sup := rfl
@[simp] theorem State.modSeq_gds (f : Sequencer → Sequencer) : (s.modSeq f).gds = s.gds := rfl
@[simp] theorem State.modSeq_dom (f : Sequencer → Sequencer) : (s.modSeq f).dom = s.dom := rfl
@[simp] theorem State.modSeq_can (f : Sequencer → Sequencer) : (s.modSeq f).can = s.can := rfl
@[simp] theorem State.modSeq_agent (f : Sequencer → Sequencer) : (s.modSeq f).agent = s.agent := rfl
@[simp] theorem State.modSeq_bulk (f : Sequencer → Sequencer) : (s.modSeq f).bulk = s.bulk := rfl
@[simp] theorem State.modSeq_auth (f : Sequencer → Sequencer) : (s.modSeq f).auth = s.auth := rfl
@[simp] theorem State.modSeq_twb (f : Sequencer → Sequencer) : (s.modSeq f).twb = s.twb := rfl
@[simp] theorem State.modSeq_canary (f : Sequencer → Sequencer) : (s.modSeq f).canary = s.canary := rfl
@[simp] theorem State.modSeq_col (f : Sequencer → Sequencer) : (s.modSeq f).col = s.col := rfl
@[simp] theorem State.modSeq_rtc (f : Sequencer → Sequencer) : (s.modSeq f).rtc = s.rtc := rfl
@[simp] theorem State.modSeq_assayer (f : Sequencer → Sequencer) : (s.modSeq f).assayer = s.assayer := rfl
@[simp] theorem State.modSeq_life (f : Sequencer → Sequencer) : (s.modSeq f).life = s.life := rfl
@[simp] theorem State.modSeq_fwt (f : Sequencer → Sequencer) : (s.modSeq f).fwt = s.fwt := rfl
@[simp] theorem State.modSeq_cyc (f : Sequencer → Sequencer) : (s.modSeq f).cyc = s.cyc := rfl
@[simp] theorem State.modSeq_real (f : Sequencer → Sequencer) : (s.modSeq f).real = s.real := rfl
@[simp] theorem State.modSeq_sckFrom (f : Sequencer → Sequencer) : (s.modSeq f).sckFrom = s.sckFrom := rfl
@[simp] theorem State.modSeq_obj (f : Sequencer → Sequencer) (x y : Nat) : (s.modSeq f).obj x y = s.obj x y := rfl
@[simp] theorem State.modSeq_memByte (f : Sequencer → Sequencer) (x : Nat) : (s.modSeq f).memByte x = s.memByte x := rfl
@[simp] theorem State.modSeq_master (f : Sequencer → Sequencer) (x : Master) : (s.modSeq f).master x = s.master x := rfl
@[simp] theorem State.modSeq_t (f : Sequencer → Sequencer) : (s.modSeq f).t = s.t := rfl

/-! `State.modAsy` changes `assayer` alone. -/

@[simp] theorem State.modAsy_pending (k : Nat) (f : AssayerChannel → AssayerChannel) : (s.modAsy k f).pending = s.pending := rfl
@[simp] theorem State.modAsy_now (k : Nat) (f : AssayerChannel → AssayerChannel) : (s.modAsy k f).now = s.now := rfl
@[simp] theorem State.modAsy_od (k : Nat) (f : AssayerChannel → AssayerChannel) : (s.modAsy k f).od = s.od := rfl
@[simp] theorem State.modAsy_mem (k : Nat) (f : AssayerChannel → AssayerChannel) : (s.modAsy k f).mem = s.mem := rfl
@[simp] theorem State.modAsy_free (k : Nat) (f : AssayerChannel → AssayerChannel) : (s.modAsy k f).free = s.free := rfl
@[simp] theorem State.modAsy_resp (k : Nat) (f : AssayerChannel → AssayerChannel) : (s.modAsy k f).resp = s.resp := rfl
@[simp] theorem State.modAsy_masters (k : Nat) (f : AssayerChannel → AssayerChannel) : (s.modAsy k f).masters = s.masters := rfl
@[simp] theorem State.modAsy_raised (k : Nat) (f : AssayerChannel → AssayerChannel) : (s.modAsy k f).raised = s.raised := rfl
@[simp] theorem State.modAsy_postNet (k : Nat) (f : AssayerChannel → AssayerChannel) : (s.modAsy k f).postNet = s.postNet := rfl
@[simp] theorem State.modAsy_postTurn (k : Nat) (f : AssayerChannel → AssayerChannel) : (s.modAsy k f).postTurn = s.postTurn := rfl
@[simp] theorem State.modAsy_clk (k : Nat) (f : AssayerChannel → AssayerChannel) : (s.modAsy k f).clk = s.clk := rfl
@[simp] theorem State.modAsy_tide (k : Nat) (f : AssayerChannel → AssayerChannel) : (s.modAsy k f).tide = s.tide := rfl
@[simp] theorem State.modAsy_engines (k : Nat) (f : AssayerChannel → AssayerChannel) : (s.modAsy k f).engines = s.engines := rfl
@[simp] theorem State.modAsy_pool (k : Nat) (f : AssayerChannel → AssayerChannel) : (s.modAsy k f).pool = s.pool := rfl
@[simp] theorem State.modAsy_posted (k : Nat) (f : AssayerChannel → AssayerChannel) : (s.modAsy k f).posted = s.posted := rfl
@[simp] theorem State.modAsy_ports (k : Nat) (f : AssayerChannel → AssayerChannel) : (s.modAsy k f).ports = s.ports := rfl
@[simp] theorem State.modAsy_dbg (k : Nat) (f : AssayerChannel → AssayerChannel) : (s.modAsy k f).dbg = s.dbg := rfl
@[simp] theorem State.modAsy_ecc (k : Nat) (f : AssayerChannel → AssayerChannel) : (s.modAsy k f).ecc = s.ecc := rfl
@[simp] theorem State.modAsy_startup (k : Nat) (f : AssayerChannel → AssayerChannel) : (s.modAsy k f).startup = s.startup := rfl
@[simp] theorem State.modAsy_fm (k : Nat) (f : AssayerChannel → AssayerChannel) : (s.modAsy k f).fm = s.fm := rfl
@[simp] theorem State.modAsy_irq (k : Nat) (f : AssayerChannel → AssayerChannel) : (s.modAsy k f).irq = s.irq := rfl
@[simp] theorem State.modAsy_sense (k : Nat) (f : AssayerChannel → AssayerChannel) : (s.modAsy k f).sense = s.sense := rfl
@[simp] theorem State.modAsy_phases (k : Nat) (f : AssayerChannel → AssayerChannel) : (s.modAsy k f).phases = s.phases := rfl
@[simp] theorem State.modAsy_rails (k : Nat) (f : AssayerChannel → AssayerChannel) : (s.modAsy k f).rails = s.rails := rfl
@[simp] theorem State.modAsy_measures (k : Nat) (f : AssayerChannel → AssayerChannel) : (s.modAsy k f).measures = s.measures := rfl
@[simp] theorem State.modAsy_chg (k : Nat) (f : AssayerChannel → AssayerChannel) : (s.modAsy k f).chg = s.chg := rfl
@[simp] theorem State.modAsy_aon (k : Nat) (f : AssayerChannel → AssayerChannel) : (s.modAsy k f).aon = s.aon := rfl
@[simp] theorem State.modAsy_gauge (k : Nat) (f : AssayerChannel → AssayerChannel) : (s.modAsy k f).gauge = s.gauge := rfl
@[simp] theorem State.modAsy_nv (k : Nat) (f : AssayerChannel → AssayerChannel) : (s.modAsy k f).nv = s.nv := rfl
@[simp] theorem State.modAsy_hka (k : Nat) (f : AssayerChannel → AssayerChannel) : (s.modAsy k f).hka = s.hka := rfl
@[simp] theorem State.modAsy_tacho (k : Nat) (f : AssayerChannel → AssayerChannel) : (s.modAsy k f).tacho = s.tacho := rfl
@[simp] theorem State.modAsy_sup (k : Nat) (f : AssayerChannel → AssayerChannel) : (s.modAsy k f).sup = s.sup := rfl
@[simp] theorem State.modAsy_gds (k : Nat) (f : AssayerChannel → AssayerChannel) : (s.modAsy k f).gds = s.gds := rfl
@[simp] theorem State.modAsy_seq (k : Nat) (f : AssayerChannel → AssayerChannel) : (s.modAsy k f).seq = s.seq := rfl
@[simp] theorem State.modAsy_dom (k : Nat) (f : AssayerChannel → AssayerChannel) : (s.modAsy k f).dom = s.dom := rfl
@[simp] theorem State.modAsy_can (k : Nat) (f : AssayerChannel → AssayerChannel) : (s.modAsy k f).can = s.can := rfl
@[simp] theorem State.modAsy_agent (k : Nat) (f : AssayerChannel → AssayerChannel) : (s.modAsy k f).agent = s.agent := rfl
@[simp] theorem State.modAsy_bulk (k : Nat) (f : AssayerChannel → AssayerChannel) : (s.modAsy k f).bulk = s.bulk := rfl
@[simp] theorem State.modAsy_auth (k : Nat) (f : AssayerChannel → AssayerChannel) : (s.modAsy k f).auth = s.auth := rfl
@[simp] theorem State.modAsy_twb (k : Nat) (f : AssayerChannel → AssayerChannel) : (s.modAsy k f).twb = s.twb := rfl
@[simp] theorem State.modAsy_canary (k : Nat) (f : AssayerChannel → AssayerChannel) : (s.modAsy k f).canary = s.canary := rfl
@[simp] theorem State.modAsy_col (k : Nat) (f : AssayerChannel → AssayerChannel) : (s.modAsy k f).col = s.col := rfl
@[simp] theorem State.modAsy_rtc (k : Nat) (f : AssayerChannel → AssayerChannel) : (s.modAsy k f).rtc = s.rtc := rfl
@[simp] theorem State.modAsy_life (k : Nat) (f : AssayerChannel → AssayerChannel) : (s.modAsy k f).life = s.life := rfl
@[simp] theorem State.modAsy_fwt (k : Nat) (f : AssayerChannel → AssayerChannel) : (s.modAsy k f).fwt = s.fwt := rfl
@[simp] theorem State.modAsy_cyc (k : Nat) (f : AssayerChannel → AssayerChannel) : (s.modAsy k f).cyc = s.cyc := rfl
@[simp] theorem State.modAsy_real (k : Nat) (f : AssayerChannel → AssayerChannel) : (s.modAsy k f).real = s.real := rfl
@[simp] theorem State.modAsy_sckFrom (k : Nat) (f : AssayerChannel → AssayerChannel) : (s.modAsy k f).sckFrom = s.sckFrom := rfl
@[simp] theorem State.modAsy_obj (k : Nat) (f : AssayerChannel → AssayerChannel) (x y : Nat) : (s.modAsy k f).obj x y = s.obj x y := rfl
@[simp] theorem State.modAsy_memByte (k : Nat) (f : AssayerChannel → AssayerChannel) (x : Nat) : (s.modAsy k f).memByte x = s.memByte x := rfl
@[simp] theorem State.modAsy_master (k : Nat) (f : AssayerChannel → AssayerChannel) (x : Master) : (s.modAsy k f).master x = s.master x := rfl
@[simp] theorem State.modAsy_t (k : Nat) (f : AssayerChannel → AssayerChannel) : (s.modAsy k f).t = s.t := rfl

/-! `State.modCan` changes `can` alone. -/

@[simp] theorem State.modCan_pending (k : Nat) (f : CanChannel → CanChannel) : (s.modCan k f).pending = s.pending := rfl
@[simp] theorem State.modCan_now (k : Nat) (f : CanChannel → CanChannel) : (s.modCan k f).now = s.now := rfl
@[simp] theorem State.modCan_od (k : Nat) (f : CanChannel → CanChannel) : (s.modCan k f).od = s.od := rfl
@[simp] theorem State.modCan_mem (k : Nat) (f : CanChannel → CanChannel) : (s.modCan k f).mem = s.mem := rfl
@[simp] theorem State.modCan_free (k : Nat) (f : CanChannel → CanChannel) : (s.modCan k f).free = s.free := rfl
@[simp] theorem State.modCan_resp (k : Nat) (f : CanChannel → CanChannel) : (s.modCan k f).resp = s.resp := rfl
@[simp] theorem State.modCan_masters (k : Nat) (f : CanChannel → CanChannel) : (s.modCan k f).masters = s.masters := rfl
@[simp] theorem State.modCan_raised (k : Nat) (f : CanChannel → CanChannel) : (s.modCan k f).raised = s.raised := rfl
@[simp] theorem State.modCan_postNet (k : Nat) (f : CanChannel → CanChannel) : (s.modCan k f).postNet = s.postNet := rfl
@[simp] theorem State.modCan_postTurn (k : Nat) (f : CanChannel → CanChannel) : (s.modCan k f).postTurn = s.postTurn := rfl
@[simp] theorem State.modCan_clk (k : Nat) (f : CanChannel → CanChannel) : (s.modCan k f).clk = s.clk := rfl
@[simp] theorem State.modCan_tide (k : Nat) (f : CanChannel → CanChannel) : (s.modCan k f).tide = s.tide := rfl
@[simp] theorem State.modCan_engines (k : Nat) (f : CanChannel → CanChannel) : (s.modCan k f).engines = s.engines := rfl
@[simp] theorem State.modCan_pool (k : Nat) (f : CanChannel → CanChannel) : (s.modCan k f).pool = s.pool := rfl
@[simp] theorem State.modCan_posted (k : Nat) (f : CanChannel → CanChannel) : (s.modCan k f).posted = s.posted := rfl
@[simp] theorem State.modCan_ports (k : Nat) (f : CanChannel → CanChannel) : (s.modCan k f).ports = s.ports := rfl
@[simp] theorem State.modCan_dbg (k : Nat) (f : CanChannel → CanChannel) : (s.modCan k f).dbg = s.dbg := rfl
@[simp] theorem State.modCan_ecc (k : Nat) (f : CanChannel → CanChannel) : (s.modCan k f).ecc = s.ecc := rfl
@[simp] theorem State.modCan_startup (k : Nat) (f : CanChannel → CanChannel) : (s.modCan k f).startup = s.startup := rfl
@[simp] theorem State.modCan_fm (k : Nat) (f : CanChannel → CanChannel) : (s.modCan k f).fm = s.fm := rfl
@[simp] theorem State.modCan_irq (k : Nat) (f : CanChannel → CanChannel) : (s.modCan k f).irq = s.irq := rfl
@[simp] theorem State.modCan_sense (k : Nat) (f : CanChannel → CanChannel) : (s.modCan k f).sense = s.sense := rfl
@[simp] theorem State.modCan_phases (k : Nat) (f : CanChannel → CanChannel) : (s.modCan k f).phases = s.phases := rfl
@[simp] theorem State.modCan_rails (k : Nat) (f : CanChannel → CanChannel) : (s.modCan k f).rails = s.rails := rfl
@[simp] theorem State.modCan_measures (k : Nat) (f : CanChannel → CanChannel) : (s.modCan k f).measures = s.measures := rfl
@[simp] theorem State.modCan_chg (k : Nat) (f : CanChannel → CanChannel) : (s.modCan k f).chg = s.chg := rfl
@[simp] theorem State.modCan_aon (k : Nat) (f : CanChannel → CanChannel) : (s.modCan k f).aon = s.aon := rfl
@[simp] theorem State.modCan_gauge (k : Nat) (f : CanChannel → CanChannel) : (s.modCan k f).gauge = s.gauge := rfl
@[simp] theorem State.modCan_nv (k : Nat) (f : CanChannel → CanChannel) : (s.modCan k f).nv = s.nv := rfl
@[simp] theorem State.modCan_hka (k : Nat) (f : CanChannel → CanChannel) : (s.modCan k f).hka = s.hka := rfl
@[simp] theorem State.modCan_tacho (k : Nat) (f : CanChannel → CanChannel) : (s.modCan k f).tacho = s.tacho := rfl
@[simp] theorem State.modCan_sup (k : Nat) (f : CanChannel → CanChannel) : (s.modCan k f).sup = s.sup := rfl
@[simp] theorem State.modCan_gds (k : Nat) (f : CanChannel → CanChannel) : (s.modCan k f).gds = s.gds := rfl
@[simp] theorem State.modCan_seq (k : Nat) (f : CanChannel → CanChannel) : (s.modCan k f).seq = s.seq := rfl
@[simp] theorem State.modCan_dom (k : Nat) (f : CanChannel → CanChannel) : (s.modCan k f).dom = s.dom := rfl
@[simp] theorem State.modCan_agent (k : Nat) (f : CanChannel → CanChannel) : (s.modCan k f).agent = s.agent := rfl
@[simp] theorem State.modCan_bulk (k : Nat) (f : CanChannel → CanChannel) : (s.modCan k f).bulk = s.bulk := rfl
@[simp] theorem State.modCan_auth (k : Nat) (f : CanChannel → CanChannel) : (s.modCan k f).auth = s.auth := rfl
@[simp] theorem State.modCan_twb (k : Nat) (f : CanChannel → CanChannel) : (s.modCan k f).twb = s.twb := rfl
@[simp] theorem State.modCan_canary (k : Nat) (f : CanChannel → CanChannel) : (s.modCan k f).canary = s.canary := rfl
@[simp] theorem State.modCan_col (k : Nat) (f : CanChannel → CanChannel) : (s.modCan k f).col = s.col := rfl
@[simp] theorem State.modCan_rtc (k : Nat) (f : CanChannel → CanChannel) : (s.modCan k f).rtc = s.rtc := rfl
@[simp] theorem State.modCan_assayer (k : Nat) (f : CanChannel → CanChannel) : (s.modCan k f).assayer = s.assayer := rfl
@[simp] theorem State.modCan_life (k : Nat) (f : CanChannel → CanChannel) : (s.modCan k f).life = s.life := rfl
@[simp] theorem State.modCan_fwt (k : Nat) (f : CanChannel → CanChannel) : (s.modCan k f).fwt = s.fwt := rfl
@[simp] theorem State.modCan_cyc (k : Nat) (f : CanChannel → CanChannel) : (s.modCan k f).cyc = s.cyc := rfl
@[simp] theorem State.modCan_real (k : Nat) (f : CanChannel → CanChannel) : (s.modCan k f).real = s.real := rfl
@[simp] theorem State.modCan_sckFrom (k : Nat) (f : CanChannel → CanChannel) : (s.modCan k f).sckFrom = s.sckFrom := rfl
@[simp] theorem State.modCan_obj (k : Nat) (f : CanChannel → CanChannel) (x y : Nat) : (s.modCan k f).obj x y = s.obj x y := rfl
@[simp] theorem State.modCan_memByte (k : Nat) (f : CanChannel → CanChannel) (x : Nat) : (s.modCan k f).memByte x = s.memByte x := rfl
@[simp] theorem State.modCan_master (k : Nat) (f : CanChannel → CanChannel) (x : Master) : (s.modCan k f).master x = s.master x := rfl
@[simp] theorem State.modCan_t (k : Nat) (f : CanChannel → CanChannel) : (s.modCan k f).t = s.t := rfl

/-! `State.modEng` changes `engines` alone. -/

@[simp] theorem State.modEng_pending (k : Nat) (f : Engine → Engine) : (s.modEng k f).pending = s.pending := rfl
@[simp] theorem State.modEng_now (k : Nat) (f : Engine → Engine) : (s.modEng k f).now = s.now := rfl
@[simp] theorem State.modEng_od (k : Nat) (f : Engine → Engine) : (s.modEng k f).od = s.od := rfl
@[simp] theorem State.modEng_mem (k : Nat) (f : Engine → Engine) : (s.modEng k f).mem = s.mem := rfl
@[simp] theorem State.modEng_free (k : Nat) (f : Engine → Engine) : (s.modEng k f).free = s.free := rfl
@[simp] theorem State.modEng_resp (k : Nat) (f : Engine → Engine) : (s.modEng k f).resp = s.resp := rfl
@[simp] theorem State.modEng_masters (k : Nat) (f : Engine → Engine) : (s.modEng k f).masters = s.masters := rfl
@[simp] theorem State.modEng_raised (k : Nat) (f : Engine → Engine) : (s.modEng k f).raised = s.raised := rfl
@[simp] theorem State.modEng_postNet (k : Nat) (f : Engine → Engine) : (s.modEng k f).postNet = s.postNet := rfl
@[simp] theorem State.modEng_postTurn (k : Nat) (f : Engine → Engine) : (s.modEng k f).postTurn = s.postTurn := rfl
@[simp] theorem State.modEng_clk (k : Nat) (f : Engine → Engine) : (s.modEng k f).clk = s.clk := rfl
@[simp] theorem State.modEng_tide (k : Nat) (f : Engine → Engine) : (s.modEng k f).tide = s.tide := rfl
@[simp] theorem State.modEng_pool (k : Nat) (f : Engine → Engine) : (s.modEng k f).pool = s.pool := rfl
@[simp] theorem State.modEng_posted (k : Nat) (f : Engine → Engine) : (s.modEng k f).posted = s.posted := rfl
@[simp] theorem State.modEng_ports (k : Nat) (f : Engine → Engine) : (s.modEng k f).ports = s.ports := rfl
@[simp] theorem State.modEng_dbg (k : Nat) (f : Engine → Engine) : (s.modEng k f).dbg = s.dbg := rfl
@[simp] theorem State.modEng_ecc (k : Nat) (f : Engine → Engine) : (s.modEng k f).ecc = s.ecc := rfl
@[simp] theorem State.modEng_startup (k : Nat) (f : Engine → Engine) : (s.modEng k f).startup = s.startup := rfl
@[simp] theorem State.modEng_fm (k : Nat) (f : Engine → Engine) : (s.modEng k f).fm = s.fm := rfl
@[simp] theorem State.modEng_irq (k : Nat) (f : Engine → Engine) : (s.modEng k f).irq = s.irq := rfl
@[simp] theorem State.modEng_sense (k : Nat) (f : Engine → Engine) : (s.modEng k f).sense = s.sense := rfl
@[simp] theorem State.modEng_phases (k : Nat) (f : Engine → Engine) : (s.modEng k f).phases = s.phases := rfl
@[simp] theorem State.modEng_rails (k : Nat) (f : Engine → Engine) : (s.modEng k f).rails = s.rails := rfl
@[simp] theorem State.modEng_measures (k : Nat) (f : Engine → Engine) : (s.modEng k f).measures = s.measures := rfl
@[simp] theorem State.modEng_chg (k : Nat) (f : Engine → Engine) : (s.modEng k f).chg = s.chg := rfl
@[simp] theorem State.modEng_aon (k : Nat) (f : Engine → Engine) : (s.modEng k f).aon = s.aon := rfl
@[simp] theorem State.modEng_gauge (k : Nat) (f : Engine → Engine) : (s.modEng k f).gauge = s.gauge := rfl
@[simp] theorem State.modEng_nv (k : Nat) (f : Engine → Engine) : (s.modEng k f).nv = s.nv := rfl
@[simp] theorem State.modEng_hka (k : Nat) (f : Engine → Engine) : (s.modEng k f).hka = s.hka := rfl
@[simp] theorem State.modEng_tacho (k : Nat) (f : Engine → Engine) : (s.modEng k f).tacho = s.tacho := rfl
@[simp] theorem State.modEng_sup (k : Nat) (f : Engine → Engine) : (s.modEng k f).sup = s.sup := rfl
@[simp] theorem State.modEng_gds (k : Nat) (f : Engine → Engine) : (s.modEng k f).gds = s.gds := rfl
@[simp] theorem State.modEng_seq (k : Nat) (f : Engine → Engine) : (s.modEng k f).seq = s.seq := rfl
@[simp] theorem State.modEng_dom (k : Nat) (f : Engine → Engine) : (s.modEng k f).dom = s.dom := rfl
@[simp] theorem State.modEng_can (k : Nat) (f : Engine → Engine) : (s.modEng k f).can = s.can := rfl
@[simp] theorem State.modEng_agent (k : Nat) (f : Engine → Engine) : (s.modEng k f).agent = s.agent := rfl
@[simp] theorem State.modEng_bulk (k : Nat) (f : Engine → Engine) : (s.modEng k f).bulk = s.bulk := rfl
@[simp] theorem State.modEng_auth (k : Nat) (f : Engine → Engine) : (s.modEng k f).auth = s.auth := rfl
@[simp] theorem State.modEng_twb (k : Nat) (f : Engine → Engine) : (s.modEng k f).twb = s.twb := rfl
@[simp] theorem State.modEng_canary (k : Nat) (f : Engine → Engine) : (s.modEng k f).canary = s.canary := rfl
@[simp] theorem State.modEng_col (k : Nat) (f : Engine → Engine) : (s.modEng k f).col = s.col := rfl
@[simp] theorem State.modEng_rtc (k : Nat) (f : Engine → Engine) : (s.modEng k f).rtc = s.rtc := rfl
@[simp] theorem State.modEng_assayer (k : Nat) (f : Engine → Engine) : (s.modEng k f).assayer = s.assayer := rfl
@[simp] theorem State.modEng_life (k : Nat) (f : Engine → Engine) : (s.modEng k f).life = s.life := rfl
@[simp] theorem State.modEng_fwt (k : Nat) (f : Engine → Engine) : (s.modEng k f).fwt = s.fwt := rfl
@[simp] theorem State.modEng_cyc (k : Nat) (f : Engine → Engine) : (s.modEng k f).cyc = s.cyc := rfl
@[simp] theorem State.modEng_real (k : Nat) (f : Engine → Engine) : (s.modEng k f).real = s.real := rfl
@[simp] theorem State.modEng_sckFrom (k : Nat) (f : Engine → Engine) : (s.modEng k f).sckFrom = s.sckFrom := rfl
@[simp] theorem State.modEng_obj (k : Nat) (f : Engine → Engine) (x y : Nat) : (s.modEng k f).obj x y = s.obj x y := rfl
@[simp] theorem State.modEng_memByte (k : Nat) (f : Engine → Engine) (x : Nat) : (s.modEng k f).memByte x = s.memByte x := rfl
@[simp] theorem State.modEng_master (k : Nat) (f : Engine → Engine) (x : Master) : (s.modEng k f).master x = s.master x := rfl
@[simp] theorem State.modEng_t (k : Nat) (f : Engine → Engine) : (s.modEng k f).t = s.t := rfl

/-! `State.modTask` changes `fm` alone. -/

@[simp] theorem State.modTask_pending (k : Nat) (f : TaskState → TaskState) : (s.modTask k f).pending = s.pending := rfl
@[simp] theorem State.modTask_now (k : Nat) (f : TaskState → TaskState) : (s.modTask k f).now = s.now := rfl
@[simp] theorem State.modTask_od (k : Nat) (f : TaskState → TaskState) : (s.modTask k f).od = s.od := rfl
@[simp] theorem State.modTask_mem (k : Nat) (f : TaskState → TaskState) : (s.modTask k f).mem = s.mem := rfl
@[simp] theorem State.modTask_free (k : Nat) (f : TaskState → TaskState) : (s.modTask k f).free = s.free := rfl
@[simp] theorem State.modTask_resp (k : Nat) (f : TaskState → TaskState) : (s.modTask k f).resp = s.resp := rfl
@[simp] theorem State.modTask_masters (k : Nat) (f : TaskState → TaskState) : (s.modTask k f).masters = s.masters := rfl
@[simp] theorem State.modTask_raised (k : Nat) (f : TaskState → TaskState) : (s.modTask k f).raised = s.raised := rfl
@[simp] theorem State.modTask_postNet (k : Nat) (f : TaskState → TaskState) : (s.modTask k f).postNet = s.postNet := rfl
@[simp] theorem State.modTask_postTurn (k : Nat) (f : TaskState → TaskState) : (s.modTask k f).postTurn = s.postTurn := rfl
@[simp] theorem State.modTask_clk (k : Nat) (f : TaskState → TaskState) : (s.modTask k f).clk = s.clk := rfl
@[simp] theorem State.modTask_tide (k : Nat) (f : TaskState → TaskState) : (s.modTask k f).tide = s.tide := rfl
@[simp] theorem State.modTask_engines (k : Nat) (f : TaskState → TaskState) : (s.modTask k f).engines = s.engines := rfl
@[simp] theorem State.modTask_pool (k : Nat) (f : TaskState → TaskState) : (s.modTask k f).pool = s.pool := rfl
@[simp] theorem State.modTask_posted (k : Nat) (f : TaskState → TaskState) : (s.modTask k f).posted = s.posted := rfl
@[simp] theorem State.modTask_ports (k : Nat) (f : TaskState → TaskState) : (s.modTask k f).ports = s.ports := rfl
@[simp] theorem State.modTask_dbg (k : Nat) (f : TaskState → TaskState) : (s.modTask k f).dbg = s.dbg := rfl
@[simp] theorem State.modTask_ecc (k : Nat) (f : TaskState → TaskState) : (s.modTask k f).ecc = s.ecc := rfl
@[simp] theorem State.modTask_startup (k : Nat) (f : TaskState → TaskState) : (s.modTask k f).startup = s.startup := rfl
@[simp] theorem State.modTask_irq (k : Nat) (f : TaskState → TaskState) : (s.modTask k f).irq = s.irq := rfl
@[simp] theorem State.modTask_sense (k : Nat) (f : TaskState → TaskState) : (s.modTask k f).sense = s.sense := rfl
@[simp] theorem State.modTask_phases (k : Nat) (f : TaskState → TaskState) : (s.modTask k f).phases = s.phases := rfl
@[simp] theorem State.modTask_rails (k : Nat) (f : TaskState → TaskState) : (s.modTask k f).rails = s.rails := rfl
@[simp] theorem State.modTask_measures (k : Nat) (f : TaskState → TaskState) : (s.modTask k f).measures = s.measures := rfl
@[simp] theorem State.modTask_chg (k : Nat) (f : TaskState → TaskState) : (s.modTask k f).chg = s.chg := rfl
@[simp] theorem State.modTask_aon (k : Nat) (f : TaskState → TaskState) : (s.modTask k f).aon = s.aon := rfl
@[simp] theorem State.modTask_gauge (k : Nat) (f : TaskState → TaskState) : (s.modTask k f).gauge = s.gauge := rfl
@[simp] theorem State.modTask_nv (k : Nat) (f : TaskState → TaskState) : (s.modTask k f).nv = s.nv := rfl
@[simp] theorem State.modTask_hka (k : Nat) (f : TaskState → TaskState) : (s.modTask k f).hka = s.hka := rfl
@[simp] theorem State.modTask_tacho (k : Nat) (f : TaskState → TaskState) : (s.modTask k f).tacho = s.tacho := rfl
@[simp] theorem State.modTask_sup (k : Nat) (f : TaskState → TaskState) : (s.modTask k f).sup = s.sup := rfl
@[simp] theorem State.modTask_gds (k : Nat) (f : TaskState → TaskState) : (s.modTask k f).gds = s.gds := rfl
@[simp] theorem State.modTask_seq (k : Nat) (f : TaskState → TaskState) : (s.modTask k f).seq = s.seq := rfl
@[simp] theorem State.modTask_dom (k : Nat) (f : TaskState → TaskState) : (s.modTask k f).dom = s.dom := rfl
@[simp] theorem State.modTask_can (k : Nat) (f : TaskState → TaskState) : (s.modTask k f).can = s.can := rfl
@[simp] theorem State.modTask_agent (k : Nat) (f : TaskState → TaskState) : (s.modTask k f).agent = s.agent := rfl
@[simp] theorem State.modTask_bulk (k : Nat) (f : TaskState → TaskState) : (s.modTask k f).bulk = s.bulk := rfl
@[simp] theorem State.modTask_auth (k : Nat) (f : TaskState → TaskState) : (s.modTask k f).auth = s.auth := rfl
@[simp] theorem State.modTask_twb (k : Nat) (f : TaskState → TaskState) : (s.modTask k f).twb = s.twb := rfl
@[simp] theorem State.modTask_canary (k : Nat) (f : TaskState → TaskState) : (s.modTask k f).canary = s.canary := rfl
@[simp] theorem State.modTask_col (k : Nat) (f : TaskState → TaskState) : (s.modTask k f).col = s.col := rfl
@[simp] theorem State.modTask_rtc (k : Nat) (f : TaskState → TaskState) : (s.modTask k f).rtc = s.rtc := rfl
@[simp] theorem State.modTask_assayer (k : Nat) (f : TaskState → TaskState) : (s.modTask k f).assayer = s.assayer := rfl
@[simp] theorem State.modTask_life (k : Nat) (f : TaskState → TaskState) : (s.modTask k f).life = s.life := rfl
@[simp] theorem State.modTask_fwt (k : Nat) (f : TaskState → TaskState) : (s.modTask k f).fwt = s.fwt := rfl
@[simp] theorem State.modTask_cyc (k : Nat) (f : TaskState → TaskState) : (s.modTask k f).cyc = s.cyc := rfl
@[simp] theorem State.modTask_real (k : Nat) (f : TaskState → TaskState) : (s.modTask k f).real = s.real := rfl
@[simp] theorem State.modTask_sckFrom (k : Nat) (f : TaskState → TaskState) : (s.modTask k f).sckFrom = s.sckFrom := rfl
@[simp] theorem State.modTask_obj (k : Nat) (f : TaskState → TaskState) (x y : Nat) : (s.modTask k f).obj x y = s.obj x y := rfl
@[simp] theorem State.modTask_memByte (k : Nat) (f : TaskState → TaskState) (x : Nat) : (s.modTask k f).memByte x = s.memByte x := rfl
@[simp] theorem State.modTask_master (k : Nat) (f : TaskState → TaskState) (x : Master) : (s.modTask k f).master x = s.master x := rfl
@[simp] theorem State.modTask_t (k : Nat) (f : TaskState → TaskState) : (s.modTask k f).t = s.t := rfl

/-! `State.modConv` changes `hka` alone. -/

@[simp] theorem State.modConv_pending (k : Nat) (f : Converter → Converter) : (s.modConv k f).pending = s.pending := rfl
@[simp] theorem State.modConv_now (k : Nat) (f : Converter → Converter) : (s.modConv k f).now = s.now := rfl
@[simp] theorem State.modConv_od (k : Nat) (f : Converter → Converter) : (s.modConv k f).od = s.od := rfl
@[simp] theorem State.modConv_mem (k : Nat) (f : Converter → Converter) : (s.modConv k f).mem = s.mem := rfl
@[simp] theorem State.modConv_free (k : Nat) (f : Converter → Converter) : (s.modConv k f).free = s.free := rfl
@[simp] theorem State.modConv_resp (k : Nat) (f : Converter → Converter) : (s.modConv k f).resp = s.resp := rfl
@[simp] theorem State.modConv_masters (k : Nat) (f : Converter → Converter) : (s.modConv k f).masters = s.masters := rfl
@[simp] theorem State.modConv_raised (k : Nat) (f : Converter → Converter) : (s.modConv k f).raised = s.raised := rfl
@[simp] theorem State.modConv_postNet (k : Nat) (f : Converter → Converter) : (s.modConv k f).postNet = s.postNet := rfl
@[simp] theorem State.modConv_postTurn (k : Nat) (f : Converter → Converter) : (s.modConv k f).postTurn = s.postTurn := rfl
@[simp] theorem State.modConv_clk (k : Nat) (f : Converter → Converter) : (s.modConv k f).clk = s.clk := rfl
@[simp] theorem State.modConv_tide (k : Nat) (f : Converter → Converter) : (s.modConv k f).tide = s.tide := rfl
@[simp] theorem State.modConv_engines (k : Nat) (f : Converter → Converter) : (s.modConv k f).engines = s.engines := rfl
@[simp] theorem State.modConv_pool (k : Nat) (f : Converter → Converter) : (s.modConv k f).pool = s.pool := rfl
@[simp] theorem State.modConv_posted (k : Nat) (f : Converter → Converter) : (s.modConv k f).posted = s.posted := rfl
@[simp] theorem State.modConv_ports (k : Nat) (f : Converter → Converter) : (s.modConv k f).ports = s.ports := rfl
@[simp] theorem State.modConv_dbg (k : Nat) (f : Converter → Converter) : (s.modConv k f).dbg = s.dbg := rfl
@[simp] theorem State.modConv_ecc (k : Nat) (f : Converter → Converter) : (s.modConv k f).ecc = s.ecc := rfl
@[simp] theorem State.modConv_startup (k : Nat) (f : Converter → Converter) : (s.modConv k f).startup = s.startup := rfl
@[simp] theorem State.modConv_fm (k : Nat) (f : Converter → Converter) : (s.modConv k f).fm = s.fm := rfl
@[simp] theorem State.modConv_irq (k : Nat) (f : Converter → Converter) : (s.modConv k f).irq = s.irq := rfl
@[simp] theorem State.modConv_sense (k : Nat) (f : Converter → Converter) : (s.modConv k f).sense = s.sense := rfl
@[simp] theorem State.modConv_phases (k : Nat) (f : Converter → Converter) : (s.modConv k f).phases = s.phases := rfl
@[simp] theorem State.modConv_rails (k : Nat) (f : Converter → Converter) : (s.modConv k f).rails = s.rails := rfl
@[simp] theorem State.modConv_measures (k : Nat) (f : Converter → Converter) : (s.modConv k f).measures = s.measures := rfl
@[simp] theorem State.modConv_chg (k : Nat) (f : Converter → Converter) : (s.modConv k f).chg = s.chg := rfl
@[simp] theorem State.modConv_aon (k : Nat) (f : Converter → Converter) : (s.modConv k f).aon = s.aon := rfl
@[simp] theorem State.modConv_gauge (k : Nat) (f : Converter → Converter) : (s.modConv k f).gauge = s.gauge := rfl
@[simp] theorem State.modConv_nv (k : Nat) (f : Converter → Converter) : (s.modConv k f).nv = s.nv := rfl
@[simp] theorem State.modConv_tacho (k : Nat) (f : Converter → Converter) : (s.modConv k f).tacho = s.tacho := rfl
@[simp] theorem State.modConv_sup (k : Nat) (f : Converter → Converter) : (s.modConv k f).sup = s.sup := rfl
@[simp] theorem State.modConv_gds (k : Nat) (f : Converter → Converter) : (s.modConv k f).gds = s.gds := rfl
@[simp] theorem State.modConv_seq (k : Nat) (f : Converter → Converter) : (s.modConv k f).seq = s.seq := rfl
@[simp] theorem State.modConv_dom (k : Nat) (f : Converter → Converter) : (s.modConv k f).dom = s.dom := rfl
@[simp] theorem State.modConv_can (k : Nat) (f : Converter → Converter) : (s.modConv k f).can = s.can := rfl
@[simp] theorem State.modConv_agent (k : Nat) (f : Converter → Converter) : (s.modConv k f).agent = s.agent := rfl
@[simp] theorem State.modConv_bulk (k : Nat) (f : Converter → Converter) : (s.modConv k f).bulk = s.bulk := rfl
@[simp] theorem State.modConv_auth (k : Nat) (f : Converter → Converter) : (s.modConv k f).auth = s.auth := rfl
@[simp] theorem State.modConv_twb (k : Nat) (f : Converter → Converter) : (s.modConv k f).twb = s.twb := rfl
@[simp] theorem State.modConv_canary (k : Nat) (f : Converter → Converter) : (s.modConv k f).canary = s.canary := rfl
@[simp] theorem State.modConv_col (k : Nat) (f : Converter → Converter) : (s.modConv k f).col = s.col := rfl
@[simp] theorem State.modConv_rtc (k : Nat) (f : Converter → Converter) : (s.modConv k f).rtc = s.rtc := rfl
@[simp] theorem State.modConv_assayer (k : Nat) (f : Converter → Converter) : (s.modConv k f).assayer = s.assayer := rfl
@[simp] theorem State.modConv_life (k : Nat) (f : Converter → Converter) : (s.modConv k f).life = s.life := rfl
@[simp] theorem State.modConv_fwt (k : Nat) (f : Converter → Converter) : (s.modConv k f).fwt = s.fwt := rfl
@[simp] theorem State.modConv_cyc (k : Nat) (f : Converter → Converter) : (s.modConv k f).cyc = s.cyc := rfl
@[simp] theorem State.modConv_real (k : Nat) (f : Converter → Converter) : (s.modConv k f).real = s.real := rfl
@[simp] theorem State.modConv_sckFrom (k : Nat) (f : Converter → Converter) : (s.modConv k f).sckFrom = s.sckFrom := rfl
@[simp] theorem State.modConv_obj (k : Nat) (f : Converter → Converter) (x y : Nat) : (s.modConv k f).obj x y = s.obj x y := rfl
@[simp] theorem State.modConv_memByte (k : Nat) (f : Converter → Converter) (x : Nat) : (s.modConv k f).memByte x = s.memByte x := rfl
@[simp] theorem State.modConv_master (k : Nat) (f : Converter → Converter) (x : Master) : (s.modConv k f).master x = s.master x := rfl
@[simp] theorem State.modConv_t (k : Nat) (f : Converter → Converter) : (s.modConv k f).t = s.t := rfl

/-! `State.modTach` changes `tacho` alone. -/

@[simp] theorem State.modTach_pending (k : Nat) (f : Tacho → Tacho) : (s.modTach k f).pending = s.pending := rfl
@[simp] theorem State.modTach_now (k : Nat) (f : Tacho → Tacho) : (s.modTach k f).now = s.now := rfl
@[simp] theorem State.modTach_od (k : Nat) (f : Tacho → Tacho) : (s.modTach k f).od = s.od := rfl
@[simp] theorem State.modTach_mem (k : Nat) (f : Tacho → Tacho) : (s.modTach k f).mem = s.mem := rfl
@[simp] theorem State.modTach_free (k : Nat) (f : Tacho → Tacho) : (s.modTach k f).free = s.free := rfl
@[simp] theorem State.modTach_resp (k : Nat) (f : Tacho → Tacho) : (s.modTach k f).resp = s.resp := rfl
@[simp] theorem State.modTach_masters (k : Nat) (f : Tacho → Tacho) : (s.modTach k f).masters = s.masters := rfl
@[simp] theorem State.modTach_raised (k : Nat) (f : Tacho → Tacho) : (s.modTach k f).raised = s.raised := rfl
@[simp] theorem State.modTach_postNet (k : Nat) (f : Tacho → Tacho) : (s.modTach k f).postNet = s.postNet := rfl
@[simp] theorem State.modTach_postTurn (k : Nat) (f : Tacho → Tacho) : (s.modTach k f).postTurn = s.postTurn := rfl
@[simp] theorem State.modTach_clk (k : Nat) (f : Tacho → Tacho) : (s.modTach k f).clk = s.clk := rfl
@[simp] theorem State.modTach_tide (k : Nat) (f : Tacho → Tacho) : (s.modTach k f).tide = s.tide := rfl
@[simp] theorem State.modTach_engines (k : Nat) (f : Tacho → Tacho) : (s.modTach k f).engines = s.engines := rfl
@[simp] theorem State.modTach_pool (k : Nat) (f : Tacho → Tacho) : (s.modTach k f).pool = s.pool := rfl
@[simp] theorem State.modTach_posted (k : Nat) (f : Tacho → Tacho) : (s.modTach k f).posted = s.posted := rfl
@[simp] theorem State.modTach_ports (k : Nat) (f : Tacho → Tacho) : (s.modTach k f).ports = s.ports := rfl
@[simp] theorem State.modTach_dbg (k : Nat) (f : Tacho → Tacho) : (s.modTach k f).dbg = s.dbg := rfl
@[simp] theorem State.modTach_ecc (k : Nat) (f : Tacho → Tacho) : (s.modTach k f).ecc = s.ecc := rfl
@[simp] theorem State.modTach_startup (k : Nat) (f : Tacho → Tacho) : (s.modTach k f).startup = s.startup := rfl
@[simp] theorem State.modTach_fm (k : Nat) (f : Tacho → Tacho) : (s.modTach k f).fm = s.fm := rfl
@[simp] theorem State.modTach_irq (k : Nat) (f : Tacho → Tacho) : (s.modTach k f).irq = s.irq := rfl
@[simp] theorem State.modTach_sense (k : Nat) (f : Tacho → Tacho) : (s.modTach k f).sense = s.sense := rfl
@[simp] theorem State.modTach_phases (k : Nat) (f : Tacho → Tacho) : (s.modTach k f).phases = s.phases := rfl
@[simp] theorem State.modTach_rails (k : Nat) (f : Tacho → Tacho) : (s.modTach k f).rails = s.rails := rfl
@[simp] theorem State.modTach_measures (k : Nat) (f : Tacho → Tacho) : (s.modTach k f).measures = s.measures := rfl
@[simp] theorem State.modTach_chg (k : Nat) (f : Tacho → Tacho) : (s.modTach k f).chg = s.chg := rfl
@[simp] theorem State.modTach_aon (k : Nat) (f : Tacho → Tacho) : (s.modTach k f).aon = s.aon := rfl
@[simp] theorem State.modTach_gauge (k : Nat) (f : Tacho → Tacho) : (s.modTach k f).gauge = s.gauge := rfl
@[simp] theorem State.modTach_nv (k : Nat) (f : Tacho → Tacho) : (s.modTach k f).nv = s.nv := rfl
@[simp] theorem State.modTach_hka (k : Nat) (f : Tacho → Tacho) : (s.modTach k f).hka = s.hka := rfl
@[simp] theorem State.modTach_sup (k : Nat) (f : Tacho → Tacho) : (s.modTach k f).sup = s.sup := rfl
@[simp] theorem State.modTach_gds (k : Nat) (f : Tacho → Tacho) : (s.modTach k f).gds = s.gds := rfl
@[simp] theorem State.modTach_seq (k : Nat) (f : Tacho → Tacho) : (s.modTach k f).seq = s.seq := rfl
@[simp] theorem State.modTach_dom (k : Nat) (f : Tacho → Tacho) : (s.modTach k f).dom = s.dom := rfl
@[simp] theorem State.modTach_can (k : Nat) (f : Tacho → Tacho) : (s.modTach k f).can = s.can := rfl
@[simp] theorem State.modTach_agent (k : Nat) (f : Tacho → Tacho) : (s.modTach k f).agent = s.agent := rfl
@[simp] theorem State.modTach_bulk (k : Nat) (f : Tacho → Tacho) : (s.modTach k f).bulk = s.bulk := rfl
@[simp] theorem State.modTach_auth (k : Nat) (f : Tacho → Tacho) : (s.modTach k f).auth = s.auth := rfl
@[simp] theorem State.modTach_twb (k : Nat) (f : Tacho → Tacho) : (s.modTach k f).twb = s.twb := rfl
@[simp] theorem State.modTach_canary (k : Nat) (f : Tacho → Tacho) : (s.modTach k f).canary = s.canary := rfl
@[simp] theorem State.modTach_col (k : Nat) (f : Tacho → Tacho) : (s.modTach k f).col = s.col := rfl
@[simp] theorem State.modTach_rtc (k : Nat) (f : Tacho → Tacho) : (s.modTach k f).rtc = s.rtc := rfl
@[simp] theorem State.modTach_assayer (k : Nat) (f : Tacho → Tacho) : (s.modTach k f).assayer = s.assayer := rfl
@[simp] theorem State.modTach_life (k : Nat) (f : Tacho → Tacho) : (s.modTach k f).life = s.life := rfl
@[simp] theorem State.modTach_fwt (k : Nat) (f : Tacho → Tacho) : (s.modTach k f).fwt = s.fwt := rfl
@[simp] theorem State.modTach_cyc (k : Nat) (f : Tacho → Tacho) : (s.modTach k f).cyc = s.cyc := rfl
@[simp] theorem State.modTach_real (k : Nat) (f : Tacho → Tacho) : (s.modTach k f).real = s.real := rfl
@[simp] theorem State.modTach_sckFrom (k : Nat) (f : Tacho → Tacho) : (s.modTach k f).sckFrom = s.sckFrom := rfl
@[simp] theorem State.modTach_obj (k : Nat) (f : Tacho → Tacho) (x y : Nat) : (s.modTach k f).obj x y = s.obj x y := rfl
@[simp] theorem State.modTach_memByte (k : Nat) (f : Tacho → Tacho) (x : Nat) : (s.modTach k f).memByte x = s.memByte x := rfl
@[simp] theorem State.modTach_master (k : Nat) (f : Tacho → Tacho) (x : Master) : (s.modTach k f).master x = s.master x := rfl
@[simp] theorem State.modTach_t (k : Nat) (f : Tacho → Tacho) : (s.modTach k f).t = s.t := rfl

/-! `State.modIndicator` changes `life` alone. -/

@[simp] theorem State.modIndicator_pending (k : Nat) (f : Indicator → Indicator) : (s.modIndicator k f).pending = s.pending := rfl
@[simp] theorem State.modIndicator_now (k : Nat) (f : Indicator → Indicator) : (s.modIndicator k f).now = s.now := rfl
@[simp] theorem State.modIndicator_od (k : Nat) (f : Indicator → Indicator) : (s.modIndicator k f).od = s.od := rfl
@[simp] theorem State.modIndicator_mem (k : Nat) (f : Indicator → Indicator) : (s.modIndicator k f).mem = s.mem := rfl
@[simp] theorem State.modIndicator_free (k : Nat) (f : Indicator → Indicator) : (s.modIndicator k f).free = s.free := rfl
@[simp] theorem State.modIndicator_resp (k : Nat) (f : Indicator → Indicator) : (s.modIndicator k f).resp = s.resp := rfl
@[simp] theorem State.modIndicator_masters (k : Nat) (f : Indicator → Indicator) : (s.modIndicator k f).masters = s.masters := rfl
@[simp] theorem State.modIndicator_raised (k : Nat) (f : Indicator → Indicator) : (s.modIndicator k f).raised = s.raised := rfl
@[simp] theorem State.modIndicator_postNet (k : Nat) (f : Indicator → Indicator) : (s.modIndicator k f).postNet = s.postNet := rfl
@[simp] theorem State.modIndicator_postTurn (k : Nat) (f : Indicator → Indicator) : (s.modIndicator k f).postTurn = s.postTurn := rfl
@[simp] theorem State.modIndicator_clk (k : Nat) (f : Indicator → Indicator) : (s.modIndicator k f).clk = s.clk := rfl
@[simp] theorem State.modIndicator_tide (k : Nat) (f : Indicator → Indicator) : (s.modIndicator k f).tide = s.tide := rfl
@[simp] theorem State.modIndicator_engines (k : Nat) (f : Indicator → Indicator) : (s.modIndicator k f).engines = s.engines := rfl
@[simp] theorem State.modIndicator_pool (k : Nat) (f : Indicator → Indicator) : (s.modIndicator k f).pool = s.pool := rfl
@[simp] theorem State.modIndicator_posted (k : Nat) (f : Indicator → Indicator) : (s.modIndicator k f).posted = s.posted := rfl
@[simp] theorem State.modIndicator_ports (k : Nat) (f : Indicator → Indicator) : (s.modIndicator k f).ports = s.ports := rfl
@[simp] theorem State.modIndicator_dbg (k : Nat) (f : Indicator → Indicator) : (s.modIndicator k f).dbg = s.dbg := rfl
@[simp] theorem State.modIndicator_ecc (k : Nat) (f : Indicator → Indicator) : (s.modIndicator k f).ecc = s.ecc := rfl
@[simp] theorem State.modIndicator_startup (k : Nat) (f : Indicator → Indicator) : (s.modIndicator k f).startup = s.startup := rfl
@[simp] theorem State.modIndicator_fm (k : Nat) (f : Indicator → Indicator) : (s.modIndicator k f).fm = s.fm := rfl
@[simp] theorem State.modIndicator_irq (k : Nat) (f : Indicator → Indicator) : (s.modIndicator k f).irq = s.irq := rfl
@[simp] theorem State.modIndicator_sense (k : Nat) (f : Indicator → Indicator) : (s.modIndicator k f).sense = s.sense := rfl
@[simp] theorem State.modIndicator_phases (k : Nat) (f : Indicator → Indicator) : (s.modIndicator k f).phases = s.phases := rfl
@[simp] theorem State.modIndicator_rails (k : Nat) (f : Indicator → Indicator) : (s.modIndicator k f).rails = s.rails := rfl
@[simp] theorem State.modIndicator_measures (k : Nat) (f : Indicator → Indicator) : (s.modIndicator k f).measures = s.measures := rfl
@[simp] theorem State.modIndicator_chg (k : Nat) (f : Indicator → Indicator) : (s.modIndicator k f).chg = s.chg := rfl
@[simp] theorem State.modIndicator_aon (k : Nat) (f : Indicator → Indicator) : (s.modIndicator k f).aon = s.aon := rfl
@[simp] theorem State.modIndicator_gauge (k : Nat) (f : Indicator → Indicator) : (s.modIndicator k f).gauge = s.gauge := rfl
@[simp] theorem State.modIndicator_nv (k : Nat) (f : Indicator → Indicator) : (s.modIndicator k f).nv = s.nv := rfl
@[simp] theorem State.modIndicator_hka (k : Nat) (f : Indicator → Indicator) : (s.modIndicator k f).hka = s.hka := rfl
@[simp] theorem State.modIndicator_tacho (k : Nat) (f : Indicator → Indicator) : (s.modIndicator k f).tacho = s.tacho := rfl
@[simp] theorem State.modIndicator_sup (k : Nat) (f : Indicator → Indicator) : (s.modIndicator k f).sup = s.sup := rfl
@[simp] theorem State.modIndicator_gds (k : Nat) (f : Indicator → Indicator) : (s.modIndicator k f).gds = s.gds := rfl
@[simp] theorem State.modIndicator_seq (k : Nat) (f : Indicator → Indicator) : (s.modIndicator k f).seq = s.seq := rfl
@[simp] theorem State.modIndicator_dom (k : Nat) (f : Indicator → Indicator) : (s.modIndicator k f).dom = s.dom := rfl
@[simp] theorem State.modIndicator_can (k : Nat) (f : Indicator → Indicator) : (s.modIndicator k f).can = s.can := rfl
@[simp] theorem State.modIndicator_agent (k : Nat) (f : Indicator → Indicator) : (s.modIndicator k f).agent = s.agent := rfl
@[simp] theorem State.modIndicator_bulk (k : Nat) (f : Indicator → Indicator) : (s.modIndicator k f).bulk = s.bulk := rfl
@[simp] theorem State.modIndicator_auth (k : Nat) (f : Indicator → Indicator) : (s.modIndicator k f).auth = s.auth := rfl
@[simp] theorem State.modIndicator_twb (k : Nat) (f : Indicator → Indicator) : (s.modIndicator k f).twb = s.twb := rfl
@[simp] theorem State.modIndicator_canary (k : Nat) (f : Indicator → Indicator) : (s.modIndicator k f).canary = s.canary := rfl
@[simp] theorem State.modIndicator_col (k : Nat) (f : Indicator → Indicator) : (s.modIndicator k f).col = s.col := rfl
@[simp] theorem State.modIndicator_rtc (k : Nat) (f : Indicator → Indicator) : (s.modIndicator k f).rtc = s.rtc := rfl
@[simp] theorem State.modIndicator_assayer (k : Nat) (f : Indicator → Indicator) : (s.modIndicator k f).assayer = s.assayer := rfl
@[simp] theorem State.modIndicator_fwt (k : Nat) (f : Indicator → Indicator) : (s.modIndicator k f).fwt = s.fwt := rfl
@[simp] theorem State.modIndicator_cyc (k : Nat) (f : Indicator → Indicator) : (s.modIndicator k f).cyc = s.cyc := rfl
@[simp] theorem State.modIndicator_real (k : Nat) (f : Indicator → Indicator) : (s.modIndicator k f).real = s.real := rfl
@[simp] theorem State.modIndicator_sckFrom (k : Nat) (f : Indicator → Indicator) : (s.modIndicator k f).sckFrom = s.sckFrom := rfl
@[simp] theorem State.modIndicator_obj (k : Nat) (f : Indicator → Indicator) (x y : Nat) : (s.modIndicator k f).obj x y = s.obj x y := rfl
@[simp] theorem State.modIndicator_memByte (k : Nat) (f : Indicator → Indicator) (x : Nat) : (s.modIndicator k f).memByte x = s.memByte x := rfl
@[simp] theorem State.modIndicator_master (k : Nat) (f : Indicator → Indicator) (x : Master) : (s.modIndicator k f).master x = s.master x := rfl
@[simp] theorem State.modIndicator_t (k : Nat) (f : Indicator → Indicator) : (s.modIndicator k f).t = s.t := rfl

/-! `State.modMark` changes `tide` alone. -/

@[simp] theorem State.modMark_pending (k : Nat) (f : Mark → Mark) : (s.modMark k f).pending = s.pending := rfl
@[simp] theorem State.modMark_now (k : Nat) (f : Mark → Mark) : (s.modMark k f).now = s.now := rfl
@[simp] theorem State.modMark_od (k : Nat) (f : Mark → Mark) : (s.modMark k f).od = s.od := rfl
@[simp] theorem State.modMark_mem (k : Nat) (f : Mark → Mark) : (s.modMark k f).mem = s.mem := rfl
@[simp] theorem State.modMark_free (k : Nat) (f : Mark → Mark) : (s.modMark k f).free = s.free := rfl
@[simp] theorem State.modMark_resp (k : Nat) (f : Mark → Mark) : (s.modMark k f).resp = s.resp := rfl
@[simp] theorem State.modMark_masters (k : Nat) (f : Mark → Mark) : (s.modMark k f).masters = s.masters := rfl
@[simp] theorem State.modMark_raised (k : Nat) (f : Mark → Mark) : (s.modMark k f).raised = s.raised := rfl
@[simp] theorem State.modMark_postNet (k : Nat) (f : Mark → Mark) : (s.modMark k f).postNet = s.postNet := rfl
@[simp] theorem State.modMark_postTurn (k : Nat) (f : Mark → Mark) : (s.modMark k f).postTurn = s.postTurn := rfl
@[simp] theorem State.modMark_clk (k : Nat) (f : Mark → Mark) : (s.modMark k f).clk = s.clk := rfl
@[simp] theorem State.modMark_engines (k : Nat) (f : Mark → Mark) : (s.modMark k f).engines = s.engines := rfl
@[simp] theorem State.modMark_pool (k : Nat) (f : Mark → Mark) : (s.modMark k f).pool = s.pool := rfl
@[simp] theorem State.modMark_posted (k : Nat) (f : Mark → Mark) : (s.modMark k f).posted = s.posted := rfl
@[simp] theorem State.modMark_ports (k : Nat) (f : Mark → Mark) : (s.modMark k f).ports = s.ports := rfl
@[simp] theorem State.modMark_dbg (k : Nat) (f : Mark → Mark) : (s.modMark k f).dbg = s.dbg := rfl
@[simp] theorem State.modMark_ecc (k : Nat) (f : Mark → Mark) : (s.modMark k f).ecc = s.ecc := rfl
@[simp] theorem State.modMark_startup (k : Nat) (f : Mark → Mark) : (s.modMark k f).startup = s.startup := rfl
@[simp] theorem State.modMark_fm (k : Nat) (f : Mark → Mark) : (s.modMark k f).fm = s.fm := rfl
@[simp] theorem State.modMark_irq (k : Nat) (f : Mark → Mark) : (s.modMark k f).irq = s.irq := rfl
@[simp] theorem State.modMark_sense (k : Nat) (f : Mark → Mark) : (s.modMark k f).sense = s.sense := rfl
@[simp] theorem State.modMark_phases (k : Nat) (f : Mark → Mark) : (s.modMark k f).phases = s.phases := rfl
@[simp] theorem State.modMark_rails (k : Nat) (f : Mark → Mark) : (s.modMark k f).rails = s.rails := rfl
@[simp] theorem State.modMark_measures (k : Nat) (f : Mark → Mark) : (s.modMark k f).measures = s.measures := rfl
@[simp] theorem State.modMark_chg (k : Nat) (f : Mark → Mark) : (s.modMark k f).chg = s.chg := rfl
@[simp] theorem State.modMark_aon (k : Nat) (f : Mark → Mark) : (s.modMark k f).aon = s.aon := rfl
@[simp] theorem State.modMark_gauge (k : Nat) (f : Mark → Mark) : (s.modMark k f).gauge = s.gauge := rfl
@[simp] theorem State.modMark_nv (k : Nat) (f : Mark → Mark) : (s.modMark k f).nv = s.nv := rfl
@[simp] theorem State.modMark_hka (k : Nat) (f : Mark → Mark) : (s.modMark k f).hka = s.hka := rfl
@[simp] theorem State.modMark_tacho (k : Nat) (f : Mark → Mark) : (s.modMark k f).tacho = s.tacho := rfl
@[simp] theorem State.modMark_sup (k : Nat) (f : Mark → Mark) : (s.modMark k f).sup = s.sup := rfl
@[simp] theorem State.modMark_gds (k : Nat) (f : Mark → Mark) : (s.modMark k f).gds = s.gds := rfl
@[simp] theorem State.modMark_seq (k : Nat) (f : Mark → Mark) : (s.modMark k f).seq = s.seq := rfl
@[simp] theorem State.modMark_dom (k : Nat) (f : Mark → Mark) : (s.modMark k f).dom = s.dom := rfl
@[simp] theorem State.modMark_can (k : Nat) (f : Mark → Mark) : (s.modMark k f).can = s.can := rfl
@[simp] theorem State.modMark_agent (k : Nat) (f : Mark → Mark) : (s.modMark k f).agent = s.agent := rfl
@[simp] theorem State.modMark_bulk (k : Nat) (f : Mark → Mark) : (s.modMark k f).bulk = s.bulk := rfl
@[simp] theorem State.modMark_auth (k : Nat) (f : Mark → Mark) : (s.modMark k f).auth = s.auth := rfl
@[simp] theorem State.modMark_twb (k : Nat) (f : Mark → Mark) : (s.modMark k f).twb = s.twb := rfl
@[simp] theorem State.modMark_canary (k : Nat) (f : Mark → Mark) : (s.modMark k f).canary = s.canary := rfl
@[simp] theorem State.modMark_col (k : Nat) (f : Mark → Mark) : (s.modMark k f).col = s.col := rfl
@[simp] theorem State.modMark_rtc (k : Nat) (f : Mark → Mark) : (s.modMark k f).rtc = s.rtc := rfl
@[simp] theorem State.modMark_assayer (k : Nat) (f : Mark → Mark) : (s.modMark k f).assayer = s.assayer := rfl
@[simp] theorem State.modMark_life (k : Nat) (f : Mark → Mark) : (s.modMark k f).life = s.life := rfl
@[simp] theorem State.modMark_fwt (k : Nat) (f : Mark → Mark) : (s.modMark k f).fwt = s.fwt := rfl
@[simp] theorem State.modMark_cyc (k : Nat) (f : Mark → Mark) : (s.modMark k f).cyc = s.cyc := rfl
@[simp] theorem State.modMark_real (k : Nat) (f : Mark → Mark) : (s.modMark k f).real = s.real := rfl
@[simp] theorem State.modMark_sckFrom (k : Nat) (f : Mark → Mark) : (s.modMark k f).sckFrom = s.sckFrom := rfl
@[simp] theorem State.modMark_obj (k : Nat) (f : Mark → Mark) (x y : Nat) : (s.modMark k f).obj x y = s.obj x y := rfl
@[simp] theorem State.modMark_memByte (k : Nat) (f : Mark → Mark) (x : Nat) : (s.modMark k f).memByte x = s.memByte x := rfl
@[simp] theorem State.modMark_master (k : Nat) (f : Mark → Mark) (x : Master) : (s.modMark k f).master x = s.master x := rfl
@[simp] theorem State.modMark_t (k : Nat) (f : Mark → Mark) : (s.modMark k f).t = s.t := rfl

/-! `State.modPhase` changes `phases` alone. -/

@[simp] theorem State.modPhase_pending (k : Nat) (f : Phase → Phase) : (s.modPhase k f).pending = s.pending := rfl
@[simp] theorem State.modPhase_now (k : Nat) (f : Phase → Phase) : (s.modPhase k f).now = s.now := rfl
@[simp] theorem State.modPhase_od (k : Nat) (f : Phase → Phase) : (s.modPhase k f).od = s.od := rfl
@[simp] theorem State.modPhase_mem (k : Nat) (f : Phase → Phase) : (s.modPhase k f).mem = s.mem := rfl
@[simp] theorem State.modPhase_free (k : Nat) (f : Phase → Phase) : (s.modPhase k f).free = s.free := rfl
@[simp] theorem State.modPhase_resp (k : Nat) (f : Phase → Phase) : (s.modPhase k f).resp = s.resp := rfl
@[simp] theorem State.modPhase_masters (k : Nat) (f : Phase → Phase) : (s.modPhase k f).masters = s.masters := rfl
@[simp] theorem State.modPhase_raised (k : Nat) (f : Phase → Phase) : (s.modPhase k f).raised = s.raised := rfl
@[simp] theorem State.modPhase_postNet (k : Nat) (f : Phase → Phase) : (s.modPhase k f).postNet = s.postNet := rfl
@[simp] theorem State.modPhase_postTurn (k : Nat) (f : Phase → Phase) : (s.modPhase k f).postTurn = s.postTurn := rfl
@[simp] theorem State.modPhase_clk (k : Nat) (f : Phase → Phase) : (s.modPhase k f).clk = s.clk := rfl
@[simp] theorem State.modPhase_tide (k : Nat) (f : Phase → Phase) : (s.modPhase k f).tide = s.tide := rfl
@[simp] theorem State.modPhase_engines (k : Nat) (f : Phase → Phase) : (s.modPhase k f).engines = s.engines := rfl
@[simp] theorem State.modPhase_pool (k : Nat) (f : Phase → Phase) : (s.modPhase k f).pool = s.pool := rfl
@[simp] theorem State.modPhase_posted (k : Nat) (f : Phase → Phase) : (s.modPhase k f).posted = s.posted := rfl
@[simp] theorem State.modPhase_ports (k : Nat) (f : Phase → Phase) : (s.modPhase k f).ports = s.ports := rfl
@[simp] theorem State.modPhase_dbg (k : Nat) (f : Phase → Phase) : (s.modPhase k f).dbg = s.dbg := rfl
@[simp] theorem State.modPhase_ecc (k : Nat) (f : Phase → Phase) : (s.modPhase k f).ecc = s.ecc := rfl
@[simp] theorem State.modPhase_startup (k : Nat) (f : Phase → Phase) : (s.modPhase k f).startup = s.startup := rfl
@[simp] theorem State.modPhase_fm (k : Nat) (f : Phase → Phase) : (s.modPhase k f).fm = s.fm := rfl
@[simp] theorem State.modPhase_irq (k : Nat) (f : Phase → Phase) : (s.modPhase k f).irq = s.irq := rfl
@[simp] theorem State.modPhase_sense (k : Nat) (f : Phase → Phase) : (s.modPhase k f).sense = s.sense := rfl
@[simp] theorem State.modPhase_rails (k : Nat) (f : Phase → Phase) : (s.modPhase k f).rails = s.rails := rfl
@[simp] theorem State.modPhase_measures (k : Nat) (f : Phase → Phase) : (s.modPhase k f).measures = s.measures := rfl
@[simp] theorem State.modPhase_chg (k : Nat) (f : Phase → Phase) : (s.modPhase k f).chg = s.chg := rfl
@[simp] theorem State.modPhase_aon (k : Nat) (f : Phase → Phase) : (s.modPhase k f).aon = s.aon := rfl
@[simp] theorem State.modPhase_gauge (k : Nat) (f : Phase → Phase) : (s.modPhase k f).gauge = s.gauge := rfl
@[simp] theorem State.modPhase_nv (k : Nat) (f : Phase → Phase) : (s.modPhase k f).nv = s.nv := rfl
@[simp] theorem State.modPhase_hka (k : Nat) (f : Phase → Phase) : (s.modPhase k f).hka = s.hka := rfl
@[simp] theorem State.modPhase_tacho (k : Nat) (f : Phase → Phase) : (s.modPhase k f).tacho = s.tacho := rfl
@[simp] theorem State.modPhase_sup (k : Nat) (f : Phase → Phase) : (s.modPhase k f).sup = s.sup := rfl
@[simp] theorem State.modPhase_gds (k : Nat) (f : Phase → Phase) : (s.modPhase k f).gds = s.gds := rfl
@[simp] theorem State.modPhase_seq (k : Nat) (f : Phase → Phase) : (s.modPhase k f).seq = s.seq := rfl
@[simp] theorem State.modPhase_dom (k : Nat) (f : Phase → Phase) : (s.modPhase k f).dom = s.dom := rfl
@[simp] theorem State.modPhase_can (k : Nat) (f : Phase → Phase) : (s.modPhase k f).can = s.can := rfl
@[simp] theorem State.modPhase_agent (k : Nat) (f : Phase → Phase) : (s.modPhase k f).agent = s.agent := rfl
@[simp] theorem State.modPhase_bulk (k : Nat) (f : Phase → Phase) : (s.modPhase k f).bulk = s.bulk := rfl
@[simp] theorem State.modPhase_auth (k : Nat) (f : Phase → Phase) : (s.modPhase k f).auth = s.auth := rfl
@[simp] theorem State.modPhase_twb (k : Nat) (f : Phase → Phase) : (s.modPhase k f).twb = s.twb := rfl
@[simp] theorem State.modPhase_canary (k : Nat) (f : Phase → Phase) : (s.modPhase k f).canary = s.canary := rfl
@[simp] theorem State.modPhase_col (k : Nat) (f : Phase → Phase) : (s.modPhase k f).col = s.col := rfl
@[simp] theorem State.modPhase_rtc (k : Nat) (f : Phase → Phase) : (s.modPhase k f).rtc = s.rtc := rfl
@[simp] theorem State.modPhase_assayer (k : Nat) (f : Phase → Phase) : (s.modPhase k f).assayer = s.assayer := rfl
@[simp] theorem State.modPhase_life (k : Nat) (f : Phase → Phase) : (s.modPhase k f).life = s.life := rfl
@[simp] theorem State.modPhase_fwt (k : Nat) (f : Phase → Phase) : (s.modPhase k f).fwt = s.fwt := rfl
@[simp] theorem State.modPhase_cyc (k : Nat) (f : Phase → Phase) : (s.modPhase k f).cyc = s.cyc := rfl
@[simp] theorem State.modPhase_real (k : Nat) (f : Phase → Phase) : (s.modPhase k f).real = s.real := rfl
@[simp] theorem State.modPhase_sckFrom (k : Nat) (f : Phase → Phase) : (s.modPhase k f).sckFrom = s.sckFrom := rfl
@[simp] theorem State.modPhase_obj (k : Nat) (f : Phase → Phase) (x y : Nat) : (s.modPhase k f).obj x y = s.obj x y := rfl
@[simp] theorem State.modPhase_memByte (k : Nat) (f : Phase → Phase) (x : Nat) : (s.modPhase k f).memByte x = s.memByte x := rfl
@[simp] theorem State.modPhase_master (k : Nat) (f : Phase → Phase) (x : Master) : (s.modPhase k f).master x = s.master x := rfl
@[simp] theorem State.modPhase_t (k : Nat) (f : Phase → Phase) : (s.modPhase k f).t = s.t := rfl

/-! `State.modRail` changes `rails` alone. -/

@[simp] theorem State.modRail_pending (k : Nat) (f : Rail → Rail) : (s.modRail k f).pending = s.pending := rfl
@[simp] theorem State.modRail_now (k : Nat) (f : Rail → Rail) : (s.modRail k f).now = s.now := rfl
@[simp] theorem State.modRail_od (k : Nat) (f : Rail → Rail) : (s.modRail k f).od = s.od := rfl
@[simp] theorem State.modRail_mem (k : Nat) (f : Rail → Rail) : (s.modRail k f).mem = s.mem := rfl
@[simp] theorem State.modRail_free (k : Nat) (f : Rail → Rail) : (s.modRail k f).free = s.free := rfl
@[simp] theorem State.modRail_resp (k : Nat) (f : Rail → Rail) : (s.modRail k f).resp = s.resp := rfl
@[simp] theorem State.modRail_masters (k : Nat) (f : Rail → Rail) : (s.modRail k f).masters = s.masters := rfl
@[simp] theorem State.modRail_raised (k : Nat) (f : Rail → Rail) : (s.modRail k f).raised = s.raised := rfl
@[simp] theorem State.modRail_postNet (k : Nat) (f : Rail → Rail) : (s.modRail k f).postNet = s.postNet := rfl
@[simp] theorem State.modRail_postTurn (k : Nat) (f : Rail → Rail) : (s.modRail k f).postTurn = s.postTurn := rfl
@[simp] theorem State.modRail_clk (k : Nat) (f : Rail → Rail) : (s.modRail k f).clk = s.clk := rfl
@[simp] theorem State.modRail_tide (k : Nat) (f : Rail → Rail) : (s.modRail k f).tide = s.tide := rfl
@[simp] theorem State.modRail_engines (k : Nat) (f : Rail → Rail) : (s.modRail k f).engines = s.engines := rfl
@[simp] theorem State.modRail_pool (k : Nat) (f : Rail → Rail) : (s.modRail k f).pool = s.pool := rfl
@[simp] theorem State.modRail_posted (k : Nat) (f : Rail → Rail) : (s.modRail k f).posted = s.posted := rfl
@[simp] theorem State.modRail_ports (k : Nat) (f : Rail → Rail) : (s.modRail k f).ports = s.ports := rfl
@[simp] theorem State.modRail_dbg (k : Nat) (f : Rail → Rail) : (s.modRail k f).dbg = s.dbg := rfl
@[simp] theorem State.modRail_ecc (k : Nat) (f : Rail → Rail) : (s.modRail k f).ecc = s.ecc := rfl
@[simp] theorem State.modRail_startup (k : Nat) (f : Rail → Rail) : (s.modRail k f).startup = s.startup := rfl
@[simp] theorem State.modRail_fm (k : Nat) (f : Rail → Rail) : (s.modRail k f).fm = s.fm := rfl
@[simp] theorem State.modRail_irq (k : Nat) (f : Rail → Rail) : (s.modRail k f).irq = s.irq := rfl
@[simp] theorem State.modRail_sense (k : Nat) (f : Rail → Rail) : (s.modRail k f).sense = s.sense := rfl
@[simp] theorem State.modRail_phases (k : Nat) (f : Rail → Rail) : (s.modRail k f).phases = s.phases := rfl
@[simp] theorem State.modRail_measures (k : Nat) (f : Rail → Rail) : (s.modRail k f).measures = s.measures := rfl
@[simp] theorem State.modRail_chg (k : Nat) (f : Rail → Rail) : (s.modRail k f).chg = s.chg := rfl
@[simp] theorem State.modRail_aon (k : Nat) (f : Rail → Rail) : (s.modRail k f).aon = s.aon := rfl
@[simp] theorem State.modRail_gauge (k : Nat) (f : Rail → Rail) : (s.modRail k f).gauge = s.gauge := rfl
@[simp] theorem State.modRail_nv (k : Nat) (f : Rail → Rail) : (s.modRail k f).nv = s.nv := rfl
@[simp] theorem State.modRail_hka (k : Nat) (f : Rail → Rail) : (s.modRail k f).hka = s.hka := rfl
@[simp] theorem State.modRail_tacho (k : Nat) (f : Rail → Rail) : (s.modRail k f).tacho = s.tacho := rfl
@[simp] theorem State.modRail_sup (k : Nat) (f : Rail → Rail) : (s.modRail k f).sup = s.sup := rfl
@[simp] theorem State.modRail_gds (k : Nat) (f : Rail → Rail) : (s.modRail k f).gds = s.gds := rfl
@[simp] theorem State.modRail_seq (k : Nat) (f : Rail → Rail) : (s.modRail k f).seq = s.seq := rfl
@[simp] theorem State.modRail_dom (k : Nat) (f : Rail → Rail) : (s.modRail k f).dom = s.dom := rfl
@[simp] theorem State.modRail_can (k : Nat) (f : Rail → Rail) : (s.modRail k f).can = s.can := rfl
@[simp] theorem State.modRail_agent (k : Nat) (f : Rail → Rail) : (s.modRail k f).agent = s.agent := rfl
@[simp] theorem State.modRail_bulk (k : Nat) (f : Rail → Rail) : (s.modRail k f).bulk = s.bulk := rfl
@[simp] theorem State.modRail_auth (k : Nat) (f : Rail → Rail) : (s.modRail k f).auth = s.auth := rfl
@[simp] theorem State.modRail_twb (k : Nat) (f : Rail → Rail) : (s.modRail k f).twb = s.twb := rfl
@[simp] theorem State.modRail_canary (k : Nat) (f : Rail → Rail) : (s.modRail k f).canary = s.canary := rfl
@[simp] theorem State.modRail_col (k : Nat) (f : Rail → Rail) : (s.modRail k f).col = s.col := rfl
@[simp] theorem State.modRail_rtc (k : Nat) (f : Rail → Rail) : (s.modRail k f).rtc = s.rtc := rfl
@[simp] theorem State.modRail_assayer (k : Nat) (f : Rail → Rail) : (s.modRail k f).assayer = s.assayer := rfl
@[simp] theorem State.modRail_life (k : Nat) (f : Rail → Rail) : (s.modRail k f).life = s.life := rfl
@[simp] theorem State.modRail_fwt (k : Nat) (f : Rail → Rail) : (s.modRail k f).fwt = s.fwt := rfl
@[simp] theorem State.modRail_cyc (k : Nat) (f : Rail → Rail) : (s.modRail k f).cyc = s.cyc := rfl
@[simp] theorem State.modRail_real (k : Nat) (f : Rail → Rail) : (s.modRail k f).real = s.real := rfl
@[simp] theorem State.modRail_sckFrom (k : Nat) (f : Rail → Rail) : (s.modRail k f).sckFrom = s.sckFrom := rfl
@[simp] theorem State.modRail_obj (k : Nat) (f : Rail → Rail) (x y : Nat) : (s.modRail k f).obj x y = s.obj x y := rfl
@[simp] theorem State.modRail_memByte (k : Nat) (f : Rail → Rail) (x : Nat) : (s.modRail k f).memByte x = s.memByte x := rfl
@[simp] theorem State.modRail_master (k : Nat) (f : Rail → Rail) (x : Master) : (s.modRail k f).master x = s.master x := rfl
@[simp] theorem State.modRail_t (k : Nat) (f : Rail → Rail) : (s.modRail k f).t = s.t := rfl

/-! `State.modPort` changes `ports` alone. -/

@[simp] theorem State.modPort_pending (k : Nat) (f : PortPair → PortPair) : (s.modPort k f).pending = s.pending := rfl
@[simp] theorem State.modPort_now (k : Nat) (f : PortPair → PortPair) : (s.modPort k f).now = s.now := rfl
@[simp] theorem State.modPort_od (k : Nat) (f : PortPair → PortPair) : (s.modPort k f).od = s.od := rfl
@[simp] theorem State.modPort_mem (k : Nat) (f : PortPair → PortPair) : (s.modPort k f).mem = s.mem := rfl
@[simp] theorem State.modPort_free (k : Nat) (f : PortPair → PortPair) : (s.modPort k f).free = s.free := rfl
@[simp] theorem State.modPort_resp (k : Nat) (f : PortPair → PortPair) : (s.modPort k f).resp = s.resp := rfl
@[simp] theorem State.modPort_masters (k : Nat) (f : PortPair → PortPair) : (s.modPort k f).masters = s.masters := rfl
@[simp] theorem State.modPort_raised (k : Nat) (f : PortPair → PortPair) : (s.modPort k f).raised = s.raised := rfl
@[simp] theorem State.modPort_postNet (k : Nat) (f : PortPair → PortPair) : (s.modPort k f).postNet = s.postNet := rfl
@[simp] theorem State.modPort_postTurn (k : Nat) (f : PortPair → PortPair) : (s.modPort k f).postTurn = s.postTurn := rfl
@[simp] theorem State.modPort_clk (k : Nat) (f : PortPair → PortPair) : (s.modPort k f).clk = s.clk := rfl
@[simp] theorem State.modPort_tide (k : Nat) (f : PortPair → PortPair) : (s.modPort k f).tide = s.tide := rfl
@[simp] theorem State.modPort_engines (k : Nat) (f : PortPair → PortPair) : (s.modPort k f).engines = s.engines := rfl
@[simp] theorem State.modPort_pool (k : Nat) (f : PortPair → PortPair) : (s.modPort k f).pool = s.pool := rfl
@[simp] theorem State.modPort_posted (k : Nat) (f : PortPair → PortPair) : (s.modPort k f).posted = s.posted := rfl
@[simp] theorem State.modPort_dbg (k : Nat) (f : PortPair → PortPair) : (s.modPort k f).dbg = s.dbg := rfl
@[simp] theorem State.modPort_ecc (k : Nat) (f : PortPair → PortPair) : (s.modPort k f).ecc = s.ecc := rfl
@[simp] theorem State.modPort_startup (k : Nat) (f : PortPair → PortPair) : (s.modPort k f).startup = s.startup := rfl
@[simp] theorem State.modPort_fm (k : Nat) (f : PortPair → PortPair) : (s.modPort k f).fm = s.fm := rfl
@[simp] theorem State.modPort_irq (k : Nat) (f : PortPair → PortPair) : (s.modPort k f).irq = s.irq := rfl
@[simp] theorem State.modPort_sense (k : Nat) (f : PortPair → PortPair) : (s.modPort k f).sense = s.sense := rfl
@[simp] theorem State.modPort_phases (k : Nat) (f : PortPair → PortPair) : (s.modPort k f).phases = s.phases := rfl
@[simp] theorem State.modPort_rails (k : Nat) (f : PortPair → PortPair) : (s.modPort k f).rails = s.rails := rfl
@[simp] theorem State.modPort_measures (k : Nat) (f : PortPair → PortPair) : (s.modPort k f).measures = s.measures := rfl
@[simp] theorem State.modPort_chg (k : Nat) (f : PortPair → PortPair) : (s.modPort k f).chg = s.chg := rfl
@[simp] theorem State.modPort_aon (k : Nat) (f : PortPair → PortPair) : (s.modPort k f).aon = s.aon := rfl
@[simp] theorem State.modPort_gauge (k : Nat) (f : PortPair → PortPair) : (s.modPort k f).gauge = s.gauge := rfl
@[simp] theorem State.modPort_nv (k : Nat) (f : PortPair → PortPair) : (s.modPort k f).nv = s.nv := rfl
@[simp] theorem State.modPort_hka (k : Nat) (f : PortPair → PortPair) : (s.modPort k f).hka = s.hka := rfl
@[simp] theorem State.modPort_tacho (k : Nat) (f : PortPair → PortPair) : (s.modPort k f).tacho = s.tacho := rfl
@[simp] theorem State.modPort_sup (k : Nat) (f : PortPair → PortPair) : (s.modPort k f).sup = s.sup := rfl
@[simp] theorem State.modPort_gds (k : Nat) (f : PortPair → PortPair) : (s.modPort k f).gds = s.gds := rfl
@[simp] theorem State.modPort_seq (k : Nat) (f : PortPair → PortPair) : (s.modPort k f).seq = s.seq := rfl
@[simp] theorem State.modPort_dom (k : Nat) (f : PortPair → PortPair) : (s.modPort k f).dom = s.dom := rfl
@[simp] theorem State.modPort_can (k : Nat) (f : PortPair → PortPair) : (s.modPort k f).can = s.can := rfl
@[simp] theorem State.modPort_agent (k : Nat) (f : PortPair → PortPair) : (s.modPort k f).agent = s.agent := rfl
@[simp] theorem State.modPort_bulk (k : Nat) (f : PortPair → PortPair) : (s.modPort k f).bulk = s.bulk := rfl
@[simp] theorem State.modPort_auth (k : Nat) (f : PortPair → PortPair) : (s.modPort k f).auth = s.auth := rfl
@[simp] theorem State.modPort_twb (k : Nat) (f : PortPair → PortPair) : (s.modPort k f).twb = s.twb := rfl
@[simp] theorem State.modPort_canary (k : Nat) (f : PortPair → PortPair) : (s.modPort k f).canary = s.canary := rfl
@[simp] theorem State.modPort_col (k : Nat) (f : PortPair → PortPair) : (s.modPort k f).col = s.col := rfl
@[simp] theorem State.modPort_rtc (k : Nat) (f : PortPair → PortPair) : (s.modPort k f).rtc = s.rtc := rfl
@[simp] theorem State.modPort_assayer (k : Nat) (f : PortPair → PortPair) : (s.modPort k f).assayer = s.assayer := rfl
@[simp] theorem State.modPort_life (k : Nat) (f : PortPair → PortPair) : (s.modPort k f).life = s.life := rfl
@[simp] theorem State.modPort_fwt (k : Nat) (f : PortPair → PortPair) : (s.modPort k f).fwt = s.fwt := rfl
@[simp] theorem State.modPort_cyc (k : Nat) (f : PortPair → PortPair) : (s.modPort k f).cyc = s.cyc := rfl
@[simp] theorem State.modPort_real (k : Nat) (f : PortPair → PortPair) : (s.modPort k f).real = s.real := rfl
@[simp] theorem State.modPort_sckFrom (k : Nat) (f : PortPair → PortPair) : (s.modPort k f).sckFrom = s.sckFrom := rfl
@[simp] theorem State.modPort_obj (k : Nat) (f : PortPair → PortPair) (x y : Nat) : (s.modPort k f).obj x y = s.obj x y := rfl
@[simp] theorem State.modPort_memByte (k : Nat) (f : PortPair → PortPair) (x : Nat) : (s.modPort k f).memByte x = s.memByte x := rfl
@[simp] theorem State.modPort_master (k : Nat) (f : PortPair → PortPair) (x : Master) : (s.modPort k f).master x = s.master x := rfl
@[simp] theorem State.modPort_t (k : Nat) (f : PortPair → PortPair) : (s.modPort k f).t = s.t := rfl

/-! `State.modChan` changes `sense` alone. -/

@[simp] theorem State.modChan_pending (k : Nat) (f : SenseChan → SenseChan) : (s.modChan k f).pending = s.pending := rfl
@[simp] theorem State.modChan_now (k : Nat) (f : SenseChan → SenseChan) : (s.modChan k f).now = s.now := rfl
@[simp] theorem State.modChan_od (k : Nat) (f : SenseChan → SenseChan) : (s.modChan k f).od = s.od := rfl
@[simp] theorem State.modChan_mem (k : Nat) (f : SenseChan → SenseChan) : (s.modChan k f).mem = s.mem := rfl
@[simp] theorem State.modChan_free (k : Nat) (f : SenseChan → SenseChan) : (s.modChan k f).free = s.free := rfl
@[simp] theorem State.modChan_resp (k : Nat) (f : SenseChan → SenseChan) : (s.modChan k f).resp = s.resp := rfl
@[simp] theorem State.modChan_masters (k : Nat) (f : SenseChan → SenseChan) : (s.modChan k f).masters = s.masters := rfl
@[simp] theorem State.modChan_raised (k : Nat) (f : SenseChan → SenseChan) : (s.modChan k f).raised = s.raised := rfl
@[simp] theorem State.modChan_postNet (k : Nat) (f : SenseChan → SenseChan) : (s.modChan k f).postNet = s.postNet := rfl
@[simp] theorem State.modChan_postTurn (k : Nat) (f : SenseChan → SenseChan) : (s.modChan k f).postTurn = s.postTurn := rfl
@[simp] theorem State.modChan_clk (k : Nat) (f : SenseChan → SenseChan) : (s.modChan k f).clk = s.clk := rfl
@[simp] theorem State.modChan_tide (k : Nat) (f : SenseChan → SenseChan) : (s.modChan k f).tide = s.tide := rfl
@[simp] theorem State.modChan_engines (k : Nat) (f : SenseChan → SenseChan) : (s.modChan k f).engines = s.engines := rfl
@[simp] theorem State.modChan_pool (k : Nat) (f : SenseChan → SenseChan) : (s.modChan k f).pool = s.pool := rfl
@[simp] theorem State.modChan_posted (k : Nat) (f : SenseChan → SenseChan) : (s.modChan k f).posted = s.posted := rfl
@[simp] theorem State.modChan_ports (k : Nat) (f : SenseChan → SenseChan) : (s.modChan k f).ports = s.ports := rfl
@[simp] theorem State.modChan_dbg (k : Nat) (f : SenseChan → SenseChan) : (s.modChan k f).dbg = s.dbg := rfl
@[simp] theorem State.modChan_ecc (k : Nat) (f : SenseChan → SenseChan) : (s.modChan k f).ecc = s.ecc := rfl
@[simp] theorem State.modChan_startup (k : Nat) (f : SenseChan → SenseChan) : (s.modChan k f).startup = s.startup := rfl
@[simp] theorem State.modChan_fm (k : Nat) (f : SenseChan → SenseChan) : (s.modChan k f).fm = s.fm := rfl
@[simp] theorem State.modChan_irq (k : Nat) (f : SenseChan → SenseChan) : (s.modChan k f).irq = s.irq := rfl
@[simp] theorem State.modChan_phases (k : Nat) (f : SenseChan → SenseChan) : (s.modChan k f).phases = s.phases := rfl
@[simp] theorem State.modChan_rails (k : Nat) (f : SenseChan → SenseChan) : (s.modChan k f).rails = s.rails := rfl
@[simp] theorem State.modChan_measures (k : Nat) (f : SenseChan → SenseChan) : (s.modChan k f).measures = s.measures := rfl
@[simp] theorem State.modChan_chg (k : Nat) (f : SenseChan → SenseChan) : (s.modChan k f).chg = s.chg := rfl
@[simp] theorem State.modChan_aon (k : Nat) (f : SenseChan → SenseChan) : (s.modChan k f).aon = s.aon := rfl
@[simp] theorem State.modChan_gauge (k : Nat) (f : SenseChan → SenseChan) : (s.modChan k f).gauge = s.gauge := rfl
@[simp] theorem State.modChan_nv (k : Nat) (f : SenseChan → SenseChan) : (s.modChan k f).nv = s.nv := rfl
@[simp] theorem State.modChan_hka (k : Nat) (f : SenseChan → SenseChan) : (s.modChan k f).hka = s.hka := rfl
@[simp] theorem State.modChan_tacho (k : Nat) (f : SenseChan → SenseChan) : (s.modChan k f).tacho = s.tacho := rfl
@[simp] theorem State.modChan_sup (k : Nat) (f : SenseChan → SenseChan) : (s.modChan k f).sup = s.sup := rfl
@[simp] theorem State.modChan_gds (k : Nat) (f : SenseChan → SenseChan) : (s.modChan k f).gds = s.gds := rfl
@[simp] theorem State.modChan_seq (k : Nat) (f : SenseChan → SenseChan) : (s.modChan k f).seq = s.seq := rfl
@[simp] theorem State.modChan_dom (k : Nat) (f : SenseChan → SenseChan) : (s.modChan k f).dom = s.dom := rfl
@[simp] theorem State.modChan_can (k : Nat) (f : SenseChan → SenseChan) : (s.modChan k f).can = s.can := rfl
@[simp] theorem State.modChan_agent (k : Nat) (f : SenseChan → SenseChan) : (s.modChan k f).agent = s.agent := rfl
@[simp] theorem State.modChan_bulk (k : Nat) (f : SenseChan → SenseChan) : (s.modChan k f).bulk = s.bulk := rfl
@[simp] theorem State.modChan_auth (k : Nat) (f : SenseChan → SenseChan) : (s.modChan k f).auth = s.auth := rfl
@[simp] theorem State.modChan_twb (k : Nat) (f : SenseChan → SenseChan) : (s.modChan k f).twb = s.twb := rfl
@[simp] theorem State.modChan_canary (k : Nat) (f : SenseChan → SenseChan) : (s.modChan k f).canary = s.canary := rfl
@[simp] theorem State.modChan_col (k : Nat) (f : SenseChan → SenseChan) : (s.modChan k f).col = s.col := rfl
@[simp] theorem State.modChan_rtc (k : Nat) (f : SenseChan → SenseChan) : (s.modChan k f).rtc = s.rtc := rfl
@[simp] theorem State.modChan_assayer (k : Nat) (f : SenseChan → SenseChan) : (s.modChan k f).assayer = s.assayer := rfl
@[simp] theorem State.modChan_life (k : Nat) (f : SenseChan → SenseChan) : (s.modChan k f).life = s.life := rfl
@[simp] theorem State.modChan_fwt (k : Nat) (f : SenseChan → SenseChan) : (s.modChan k f).fwt = s.fwt := rfl
@[simp] theorem State.modChan_cyc (k : Nat) (f : SenseChan → SenseChan) : (s.modChan k f).cyc = s.cyc := rfl
@[simp] theorem State.modChan_real (k : Nat) (f : SenseChan → SenseChan) : (s.modChan k f).real = s.real := rfl
@[simp] theorem State.modChan_sckFrom (k : Nat) (f : SenseChan → SenseChan) : (s.modChan k f).sckFrom = s.sckFrom := rfl
@[simp] theorem State.modChan_obj (k : Nat) (f : SenseChan → SenseChan) (x y : Nat) : (s.modChan k f).obj x y = s.obj x y := rfl
@[simp] theorem State.modChan_memByte (k : Nat) (f : SenseChan → SenseChan) (x : Nat) : (s.modChan k f).memByte x = s.memByte x := rfl
@[simp] theorem State.modChan_master (k : Nat) (f : SenseChan → SenseChan) (x : Master) : (s.modChan k f).master x = s.master x := rfl
@[simp] theorem State.modChan_t (k : Nat) (f : SenseChan → SenseChan) : (s.modChan k f).t = s.t := rfl

/-! `State.modSlot` changes `seq` alone. -/

@[simp] theorem State.modSlot_pending (k : Nat) (f : Slot → Slot) : (s.modSlot k f).pending = s.pending := rfl
@[simp] theorem State.modSlot_now (k : Nat) (f : Slot → Slot) : (s.modSlot k f).now = s.now := rfl
@[simp] theorem State.modSlot_od (k : Nat) (f : Slot → Slot) : (s.modSlot k f).od = s.od := rfl
@[simp] theorem State.modSlot_mem (k : Nat) (f : Slot → Slot) : (s.modSlot k f).mem = s.mem := rfl
@[simp] theorem State.modSlot_free (k : Nat) (f : Slot → Slot) : (s.modSlot k f).free = s.free := rfl
@[simp] theorem State.modSlot_resp (k : Nat) (f : Slot → Slot) : (s.modSlot k f).resp = s.resp := rfl
@[simp] theorem State.modSlot_masters (k : Nat) (f : Slot → Slot) : (s.modSlot k f).masters = s.masters := rfl
@[simp] theorem State.modSlot_raised (k : Nat) (f : Slot → Slot) : (s.modSlot k f).raised = s.raised := rfl
@[simp] theorem State.modSlot_postNet (k : Nat) (f : Slot → Slot) : (s.modSlot k f).postNet = s.postNet := rfl
@[simp] theorem State.modSlot_postTurn (k : Nat) (f : Slot → Slot) : (s.modSlot k f).postTurn = s.postTurn := rfl
@[simp] theorem State.modSlot_clk (k : Nat) (f : Slot → Slot) : (s.modSlot k f).clk = s.clk := rfl
@[simp] theorem State.modSlot_tide (k : Nat) (f : Slot → Slot) : (s.modSlot k f).tide = s.tide := rfl
@[simp] theorem State.modSlot_engines (k : Nat) (f : Slot → Slot) : (s.modSlot k f).engines = s.engines := rfl
@[simp] theorem State.modSlot_pool (k : Nat) (f : Slot → Slot) : (s.modSlot k f).pool = s.pool := rfl
@[simp] theorem State.modSlot_posted (k : Nat) (f : Slot → Slot) : (s.modSlot k f).posted = s.posted := rfl
@[simp] theorem State.modSlot_ports (k : Nat) (f : Slot → Slot) : (s.modSlot k f).ports = s.ports := rfl
@[simp] theorem State.modSlot_dbg (k : Nat) (f : Slot → Slot) : (s.modSlot k f).dbg = s.dbg := rfl
@[simp] theorem State.modSlot_ecc (k : Nat) (f : Slot → Slot) : (s.modSlot k f).ecc = s.ecc := rfl
@[simp] theorem State.modSlot_startup (k : Nat) (f : Slot → Slot) : (s.modSlot k f).startup = s.startup := rfl
@[simp] theorem State.modSlot_fm (k : Nat) (f : Slot → Slot) : (s.modSlot k f).fm = s.fm := rfl
@[simp] theorem State.modSlot_irq (k : Nat) (f : Slot → Slot) : (s.modSlot k f).irq = s.irq := rfl
@[simp] theorem State.modSlot_sense (k : Nat) (f : Slot → Slot) : (s.modSlot k f).sense = s.sense := rfl
@[simp] theorem State.modSlot_phases (k : Nat) (f : Slot → Slot) : (s.modSlot k f).phases = s.phases := rfl
@[simp] theorem State.modSlot_rails (k : Nat) (f : Slot → Slot) : (s.modSlot k f).rails = s.rails := rfl
@[simp] theorem State.modSlot_measures (k : Nat) (f : Slot → Slot) : (s.modSlot k f).measures = s.measures := rfl
@[simp] theorem State.modSlot_chg (k : Nat) (f : Slot → Slot) : (s.modSlot k f).chg = s.chg := rfl
@[simp] theorem State.modSlot_aon (k : Nat) (f : Slot → Slot) : (s.modSlot k f).aon = s.aon := rfl
@[simp] theorem State.modSlot_gauge (k : Nat) (f : Slot → Slot) : (s.modSlot k f).gauge = s.gauge := rfl
@[simp] theorem State.modSlot_nv (k : Nat) (f : Slot → Slot) : (s.modSlot k f).nv = s.nv := rfl
@[simp] theorem State.modSlot_hka (k : Nat) (f : Slot → Slot) : (s.modSlot k f).hka = s.hka := rfl
@[simp] theorem State.modSlot_tacho (k : Nat) (f : Slot → Slot) : (s.modSlot k f).tacho = s.tacho := rfl
@[simp] theorem State.modSlot_sup (k : Nat) (f : Slot → Slot) : (s.modSlot k f).sup = s.sup := rfl
@[simp] theorem State.modSlot_gds (k : Nat) (f : Slot → Slot) : (s.modSlot k f).gds = s.gds := rfl
@[simp] theorem State.modSlot_dom (k : Nat) (f : Slot → Slot) : (s.modSlot k f).dom = s.dom := rfl
@[simp] theorem State.modSlot_can (k : Nat) (f : Slot → Slot) : (s.modSlot k f).can = s.can := rfl
@[simp] theorem State.modSlot_agent (k : Nat) (f : Slot → Slot) : (s.modSlot k f).agent = s.agent := rfl
@[simp] theorem State.modSlot_bulk (k : Nat) (f : Slot → Slot) : (s.modSlot k f).bulk = s.bulk := rfl
@[simp] theorem State.modSlot_auth (k : Nat) (f : Slot → Slot) : (s.modSlot k f).auth = s.auth := rfl
@[simp] theorem State.modSlot_twb (k : Nat) (f : Slot → Slot) : (s.modSlot k f).twb = s.twb := rfl
@[simp] theorem State.modSlot_canary (k : Nat) (f : Slot → Slot) : (s.modSlot k f).canary = s.canary := rfl
@[simp] theorem State.modSlot_col (k : Nat) (f : Slot → Slot) : (s.modSlot k f).col = s.col := rfl
@[simp] theorem State.modSlot_rtc (k : Nat) (f : Slot → Slot) : (s.modSlot k f).rtc = s.rtc := rfl
@[simp] theorem State.modSlot_assayer (k : Nat) (f : Slot → Slot) : (s.modSlot k f).assayer = s.assayer := rfl
@[simp] theorem State.modSlot_life (k : Nat) (f : Slot → Slot) : (s.modSlot k f).life = s.life := rfl
@[simp] theorem State.modSlot_fwt (k : Nat) (f : Slot → Slot) : (s.modSlot k f).fwt = s.fwt := rfl
@[simp] theorem State.modSlot_cyc (k : Nat) (f : Slot → Slot) : (s.modSlot k f).cyc = s.cyc := rfl
@[simp] theorem State.modSlot_real (k : Nat) (f : Slot → Slot) : (s.modSlot k f).real = s.real := rfl
@[simp] theorem State.modSlot_sckFrom (k : Nat) (f : Slot → Slot) : (s.modSlot k f).sckFrom = s.sckFrom := rfl
@[simp] theorem State.modSlot_obj (k : Nat) (f : Slot → Slot) (x y : Nat) : (s.modSlot k f).obj x y = s.obj x y := rfl
@[simp] theorem State.modSlot_memByte (k : Nat) (f : Slot → Slot) (x : Nat) : (s.modSlot k f).memByte x = s.memByte x := rfl
@[simp] theorem State.modSlot_master (k : Nat) (f : Slot → Slot) (x : Master) : (s.modSlot k f).master x = s.master x := rfl
@[simp] theorem State.modSlot_t (k : Nat) (f : Slot → Slot) : (s.modSlot k f).t = s.t := rfl

/-! `State.modReg` changes `sup` alone. -/

@[simp] theorem State.modReg_pending (k : Nat) (f : Regulator → Regulator) : (s.modReg k f).pending = s.pending := rfl
@[simp] theorem State.modReg_now (k : Nat) (f : Regulator → Regulator) : (s.modReg k f).now = s.now := rfl
@[simp] theorem State.modReg_od (k : Nat) (f : Regulator → Regulator) : (s.modReg k f).od = s.od := rfl
@[simp] theorem State.modReg_mem (k : Nat) (f : Regulator → Regulator) : (s.modReg k f).mem = s.mem := rfl
@[simp] theorem State.modReg_free (k : Nat) (f : Regulator → Regulator) : (s.modReg k f).free = s.free := rfl
@[simp] theorem State.modReg_resp (k : Nat) (f : Regulator → Regulator) : (s.modReg k f).resp = s.resp := rfl
@[simp] theorem State.modReg_masters (k : Nat) (f : Regulator → Regulator) : (s.modReg k f).masters = s.masters := rfl
@[simp] theorem State.modReg_raised (k : Nat) (f : Regulator → Regulator) : (s.modReg k f).raised = s.raised := rfl
@[simp] theorem State.modReg_postNet (k : Nat) (f : Regulator → Regulator) : (s.modReg k f).postNet = s.postNet := rfl
@[simp] theorem State.modReg_postTurn (k : Nat) (f : Regulator → Regulator) : (s.modReg k f).postTurn = s.postTurn := rfl
@[simp] theorem State.modReg_clk (k : Nat) (f : Regulator → Regulator) : (s.modReg k f).clk = s.clk := rfl
@[simp] theorem State.modReg_tide (k : Nat) (f : Regulator → Regulator) : (s.modReg k f).tide = s.tide := rfl
@[simp] theorem State.modReg_engines (k : Nat) (f : Regulator → Regulator) : (s.modReg k f).engines = s.engines := rfl
@[simp] theorem State.modReg_pool (k : Nat) (f : Regulator → Regulator) : (s.modReg k f).pool = s.pool := rfl
@[simp] theorem State.modReg_posted (k : Nat) (f : Regulator → Regulator) : (s.modReg k f).posted = s.posted := rfl
@[simp] theorem State.modReg_ports (k : Nat) (f : Regulator → Regulator) : (s.modReg k f).ports = s.ports := rfl
@[simp] theorem State.modReg_dbg (k : Nat) (f : Regulator → Regulator) : (s.modReg k f).dbg = s.dbg := rfl
@[simp] theorem State.modReg_ecc (k : Nat) (f : Regulator → Regulator) : (s.modReg k f).ecc = s.ecc := rfl
@[simp] theorem State.modReg_startup (k : Nat) (f : Regulator → Regulator) : (s.modReg k f).startup = s.startup := rfl
@[simp] theorem State.modReg_fm (k : Nat) (f : Regulator → Regulator) : (s.modReg k f).fm = s.fm := rfl
@[simp] theorem State.modReg_irq (k : Nat) (f : Regulator → Regulator) : (s.modReg k f).irq = s.irq := rfl
@[simp] theorem State.modReg_sense (k : Nat) (f : Regulator → Regulator) : (s.modReg k f).sense = s.sense := rfl
@[simp] theorem State.modReg_phases (k : Nat) (f : Regulator → Regulator) : (s.modReg k f).phases = s.phases := rfl
@[simp] theorem State.modReg_rails (k : Nat) (f : Regulator → Regulator) : (s.modReg k f).rails = s.rails := rfl
@[simp] theorem State.modReg_measures (k : Nat) (f : Regulator → Regulator) : (s.modReg k f).measures = s.measures := rfl
@[simp] theorem State.modReg_chg (k : Nat) (f : Regulator → Regulator) : (s.modReg k f).chg = s.chg := rfl
@[simp] theorem State.modReg_aon (k : Nat) (f : Regulator → Regulator) : (s.modReg k f).aon = s.aon := rfl
@[simp] theorem State.modReg_gauge (k : Nat) (f : Regulator → Regulator) : (s.modReg k f).gauge = s.gauge := rfl
@[simp] theorem State.modReg_nv (k : Nat) (f : Regulator → Regulator) : (s.modReg k f).nv = s.nv := rfl
@[simp] theorem State.modReg_hka (k : Nat) (f : Regulator → Regulator) : (s.modReg k f).hka = s.hka := rfl
@[simp] theorem State.modReg_tacho (k : Nat) (f : Regulator → Regulator) : (s.modReg k f).tacho = s.tacho := rfl
@[simp] theorem State.modReg_gds (k : Nat) (f : Regulator → Regulator) : (s.modReg k f).gds = s.gds := rfl
@[simp] theorem State.modReg_seq (k : Nat) (f : Regulator → Regulator) : (s.modReg k f).seq = s.seq := rfl
@[simp] theorem State.modReg_dom (k : Nat) (f : Regulator → Regulator) : (s.modReg k f).dom = s.dom := rfl
@[simp] theorem State.modReg_can (k : Nat) (f : Regulator → Regulator) : (s.modReg k f).can = s.can := rfl
@[simp] theorem State.modReg_agent (k : Nat) (f : Regulator → Regulator) : (s.modReg k f).agent = s.agent := rfl
@[simp] theorem State.modReg_bulk (k : Nat) (f : Regulator → Regulator) : (s.modReg k f).bulk = s.bulk := rfl
@[simp] theorem State.modReg_auth (k : Nat) (f : Regulator → Regulator) : (s.modReg k f).auth = s.auth := rfl
@[simp] theorem State.modReg_twb (k : Nat) (f : Regulator → Regulator) : (s.modReg k f).twb = s.twb := rfl
@[simp] theorem State.modReg_canary (k : Nat) (f : Regulator → Regulator) : (s.modReg k f).canary = s.canary := rfl
@[simp] theorem State.modReg_col (k : Nat) (f : Regulator → Regulator) : (s.modReg k f).col = s.col := rfl
@[simp] theorem State.modReg_rtc (k : Nat) (f : Regulator → Regulator) : (s.modReg k f).rtc = s.rtc := rfl
@[simp] theorem State.modReg_assayer (k : Nat) (f : Regulator → Regulator) : (s.modReg k f).assayer = s.assayer := rfl
@[simp] theorem State.modReg_life (k : Nat) (f : Regulator → Regulator) : (s.modReg k f).life = s.life := rfl
@[simp] theorem State.modReg_fwt (k : Nat) (f : Regulator → Regulator) : (s.modReg k f).fwt = s.fwt := rfl
@[simp] theorem State.modReg_cyc (k : Nat) (f : Regulator → Regulator) : (s.modReg k f).cyc = s.cyc := rfl
@[simp] theorem State.modReg_real (k : Nat) (f : Regulator → Regulator) : (s.modReg k f).real = s.real := rfl
@[simp] theorem State.modReg_sckFrom (k : Nat) (f : Regulator → Regulator) : (s.modReg k f).sckFrom = s.sckFrom := rfl
@[simp] theorem State.modReg_obj (k : Nat) (f : Regulator → Regulator) (x y : Nat) : (s.modReg k f).obj x y = s.obj x y := rfl
@[simp] theorem State.modReg_memByte (k : Nat) (f : Regulator → Regulator) (x : Nat) : (s.modReg k f).memByte x = s.memByte x := rfl
@[simp] theorem State.modReg_master (k : Nat) (f : Regulator → Regulator) (x : Master) : (s.modReg k f).master x = s.master x := rfl
@[simp] theorem State.modReg_t (k : Nat) (f : Regulator → Regulator) : (s.modReg k f).t = s.t := rfl

/-! `State.modGds` changes `gds` alone. -/

@[simp] theorem State.modGds_pending (k : Nat) (f : GateSupply → GateSupply) : (s.modGds k f).pending = s.pending := rfl
@[simp] theorem State.modGds_now (k : Nat) (f : GateSupply → GateSupply) : (s.modGds k f).now = s.now := rfl
@[simp] theorem State.modGds_od (k : Nat) (f : GateSupply → GateSupply) : (s.modGds k f).od = s.od := rfl
@[simp] theorem State.modGds_mem (k : Nat) (f : GateSupply → GateSupply) : (s.modGds k f).mem = s.mem := rfl
@[simp] theorem State.modGds_free (k : Nat) (f : GateSupply → GateSupply) : (s.modGds k f).free = s.free := rfl
@[simp] theorem State.modGds_resp (k : Nat) (f : GateSupply → GateSupply) : (s.modGds k f).resp = s.resp := rfl
@[simp] theorem State.modGds_masters (k : Nat) (f : GateSupply → GateSupply) : (s.modGds k f).masters = s.masters := rfl
@[simp] theorem State.modGds_raised (k : Nat) (f : GateSupply → GateSupply) : (s.modGds k f).raised = s.raised := rfl
@[simp] theorem State.modGds_postNet (k : Nat) (f : GateSupply → GateSupply) : (s.modGds k f).postNet = s.postNet := rfl
@[simp] theorem State.modGds_postTurn (k : Nat) (f : GateSupply → GateSupply) : (s.modGds k f).postTurn = s.postTurn := rfl
@[simp] theorem State.modGds_clk (k : Nat) (f : GateSupply → GateSupply) : (s.modGds k f).clk = s.clk := rfl
@[simp] theorem State.modGds_tide (k : Nat) (f : GateSupply → GateSupply) : (s.modGds k f).tide = s.tide := rfl
@[simp] theorem State.modGds_engines (k : Nat) (f : GateSupply → GateSupply) : (s.modGds k f).engines = s.engines := rfl
@[simp] theorem State.modGds_pool (k : Nat) (f : GateSupply → GateSupply) : (s.modGds k f).pool = s.pool := rfl
@[simp] theorem State.modGds_posted (k : Nat) (f : GateSupply → GateSupply) : (s.modGds k f).posted = s.posted := rfl
@[simp] theorem State.modGds_ports (k : Nat) (f : GateSupply → GateSupply) : (s.modGds k f).ports = s.ports := rfl
@[simp] theorem State.modGds_dbg (k : Nat) (f : GateSupply → GateSupply) : (s.modGds k f).dbg = s.dbg := rfl
@[simp] theorem State.modGds_ecc (k : Nat) (f : GateSupply → GateSupply) : (s.modGds k f).ecc = s.ecc := rfl
@[simp] theorem State.modGds_startup (k : Nat) (f : GateSupply → GateSupply) : (s.modGds k f).startup = s.startup := rfl
@[simp] theorem State.modGds_fm (k : Nat) (f : GateSupply → GateSupply) : (s.modGds k f).fm = s.fm := rfl
@[simp] theorem State.modGds_irq (k : Nat) (f : GateSupply → GateSupply) : (s.modGds k f).irq = s.irq := rfl
@[simp] theorem State.modGds_sense (k : Nat) (f : GateSupply → GateSupply) : (s.modGds k f).sense = s.sense := rfl
@[simp] theorem State.modGds_phases (k : Nat) (f : GateSupply → GateSupply) : (s.modGds k f).phases = s.phases := rfl
@[simp] theorem State.modGds_rails (k : Nat) (f : GateSupply → GateSupply) : (s.modGds k f).rails = s.rails := rfl
@[simp] theorem State.modGds_measures (k : Nat) (f : GateSupply → GateSupply) : (s.modGds k f).measures = s.measures := rfl
@[simp] theorem State.modGds_chg (k : Nat) (f : GateSupply → GateSupply) : (s.modGds k f).chg = s.chg := rfl
@[simp] theorem State.modGds_aon (k : Nat) (f : GateSupply → GateSupply) : (s.modGds k f).aon = s.aon := rfl
@[simp] theorem State.modGds_gauge (k : Nat) (f : GateSupply → GateSupply) : (s.modGds k f).gauge = s.gauge := rfl
@[simp] theorem State.modGds_nv (k : Nat) (f : GateSupply → GateSupply) : (s.modGds k f).nv = s.nv := rfl
@[simp] theorem State.modGds_hka (k : Nat) (f : GateSupply → GateSupply) : (s.modGds k f).hka = s.hka := rfl
@[simp] theorem State.modGds_tacho (k : Nat) (f : GateSupply → GateSupply) : (s.modGds k f).tacho = s.tacho := rfl
@[simp] theorem State.modGds_sup (k : Nat) (f : GateSupply → GateSupply) : (s.modGds k f).sup = s.sup := rfl
@[simp] theorem State.modGds_seq (k : Nat) (f : GateSupply → GateSupply) : (s.modGds k f).seq = s.seq := rfl
@[simp] theorem State.modGds_dom (k : Nat) (f : GateSupply → GateSupply) : (s.modGds k f).dom = s.dom := rfl
@[simp] theorem State.modGds_can (k : Nat) (f : GateSupply → GateSupply) : (s.modGds k f).can = s.can := rfl
@[simp] theorem State.modGds_agent (k : Nat) (f : GateSupply → GateSupply) : (s.modGds k f).agent = s.agent := rfl
@[simp] theorem State.modGds_bulk (k : Nat) (f : GateSupply → GateSupply) : (s.modGds k f).bulk = s.bulk := rfl
@[simp] theorem State.modGds_auth (k : Nat) (f : GateSupply → GateSupply) : (s.modGds k f).auth = s.auth := rfl
@[simp] theorem State.modGds_twb (k : Nat) (f : GateSupply → GateSupply) : (s.modGds k f).twb = s.twb := rfl
@[simp] theorem State.modGds_canary (k : Nat) (f : GateSupply → GateSupply) : (s.modGds k f).canary = s.canary := rfl
@[simp] theorem State.modGds_col (k : Nat) (f : GateSupply → GateSupply) : (s.modGds k f).col = s.col := rfl
@[simp] theorem State.modGds_rtc (k : Nat) (f : GateSupply → GateSupply) : (s.modGds k f).rtc = s.rtc := rfl
@[simp] theorem State.modGds_assayer (k : Nat) (f : GateSupply → GateSupply) : (s.modGds k f).assayer = s.assayer := rfl
@[simp] theorem State.modGds_life (k : Nat) (f : GateSupply → GateSupply) : (s.modGds k f).life = s.life := rfl
@[simp] theorem State.modGds_fwt (k : Nat) (f : GateSupply → GateSupply) : (s.modGds k f).fwt = s.fwt := rfl
@[simp] theorem State.modGds_cyc (k : Nat) (f : GateSupply → GateSupply) : (s.modGds k f).cyc = s.cyc := rfl
@[simp] theorem State.modGds_real (k : Nat) (f : GateSupply → GateSupply) : (s.modGds k f).real = s.real := rfl
@[simp] theorem State.modGds_sckFrom (k : Nat) (f : GateSupply → GateSupply) : (s.modGds k f).sckFrom = s.sckFrom := rfl
@[simp] theorem State.modGds_obj (k : Nat) (f : GateSupply → GateSupply) (x y : Nat) : (s.modGds k f).obj x y = s.obj x y := rfl
@[simp] theorem State.modGds_memByte (k : Nat) (f : GateSupply → GateSupply) (x : Nat) : (s.modGds k f).memByte x = s.memByte x := rfl
@[simp] theorem State.modGds_master (k : Nat) (f : GateSupply → GateSupply) (x : Master) : (s.modGds k f).master x = s.master x := rfl
@[simp] theorem State.modGds_t (k : Nat) (f : GateSupply → GateSupply) : (s.modGds k f).t = s.t := rfl

/-! `State.modWheel` changes `tide` alone. -/

@[simp] theorem State.modWheel_pending (k : Nat) (f : Wheel → Wheel) : (s.modWheel k f).pending = s.pending := rfl
@[simp] theorem State.modWheel_now (k : Nat) (f : Wheel → Wheel) : (s.modWheel k f).now = s.now := rfl
@[simp] theorem State.modWheel_od (k : Nat) (f : Wheel → Wheel) : (s.modWheel k f).od = s.od := rfl
@[simp] theorem State.modWheel_mem (k : Nat) (f : Wheel → Wheel) : (s.modWheel k f).mem = s.mem := rfl
@[simp] theorem State.modWheel_free (k : Nat) (f : Wheel → Wheel) : (s.modWheel k f).free = s.free := rfl
@[simp] theorem State.modWheel_resp (k : Nat) (f : Wheel → Wheel) : (s.modWheel k f).resp = s.resp := rfl
@[simp] theorem State.modWheel_masters (k : Nat) (f : Wheel → Wheel) : (s.modWheel k f).masters = s.masters := rfl
@[simp] theorem State.modWheel_raised (k : Nat) (f : Wheel → Wheel) : (s.modWheel k f).raised = s.raised := rfl
@[simp] theorem State.modWheel_postNet (k : Nat) (f : Wheel → Wheel) : (s.modWheel k f).postNet = s.postNet := rfl
@[simp] theorem State.modWheel_postTurn (k : Nat) (f : Wheel → Wheel) : (s.modWheel k f).postTurn = s.postTurn := rfl
@[simp] theorem State.modWheel_clk (k : Nat) (f : Wheel → Wheel) : (s.modWheel k f).clk = s.clk := rfl
@[simp] theorem State.modWheel_engines (k : Nat) (f : Wheel → Wheel) : (s.modWheel k f).engines = s.engines := rfl
@[simp] theorem State.modWheel_pool (k : Nat) (f : Wheel → Wheel) : (s.modWheel k f).pool = s.pool := rfl
@[simp] theorem State.modWheel_posted (k : Nat) (f : Wheel → Wheel) : (s.modWheel k f).posted = s.posted := rfl
@[simp] theorem State.modWheel_ports (k : Nat) (f : Wheel → Wheel) : (s.modWheel k f).ports = s.ports := rfl
@[simp] theorem State.modWheel_dbg (k : Nat) (f : Wheel → Wheel) : (s.modWheel k f).dbg = s.dbg := rfl
@[simp] theorem State.modWheel_ecc (k : Nat) (f : Wheel → Wheel) : (s.modWheel k f).ecc = s.ecc := rfl
@[simp] theorem State.modWheel_startup (k : Nat) (f : Wheel → Wheel) : (s.modWheel k f).startup = s.startup := rfl
@[simp] theorem State.modWheel_fm (k : Nat) (f : Wheel → Wheel) : (s.modWheel k f).fm = s.fm := rfl
@[simp] theorem State.modWheel_irq (k : Nat) (f : Wheel → Wheel) : (s.modWheel k f).irq = s.irq := rfl
@[simp] theorem State.modWheel_sense (k : Nat) (f : Wheel → Wheel) : (s.modWheel k f).sense = s.sense := rfl
@[simp] theorem State.modWheel_phases (k : Nat) (f : Wheel → Wheel) : (s.modWheel k f).phases = s.phases := rfl
@[simp] theorem State.modWheel_rails (k : Nat) (f : Wheel → Wheel) : (s.modWheel k f).rails = s.rails := rfl
@[simp] theorem State.modWheel_measures (k : Nat) (f : Wheel → Wheel) : (s.modWheel k f).measures = s.measures := rfl
@[simp] theorem State.modWheel_chg (k : Nat) (f : Wheel → Wheel) : (s.modWheel k f).chg = s.chg := rfl
@[simp] theorem State.modWheel_aon (k : Nat) (f : Wheel → Wheel) : (s.modWheel k f).aon = s.aon := rfl
@[simp] theorem State.modWheel_gauge (k : Nat) (f : Wheel → Wheel) : (s.modWheel k f).gauge = s.gauge := rfl
@[simp] theorem State.modWheel_nv (k : Nat) (f : Wheel → Wheel) : (s.modWheel k f).nv = s.nv := rfl
@[simp] theorem State.modWheel_hka (k : Nat) (f : Wheel → Wheel) : (s.modWheel k f).hka = s.hka := rfl
@[simp] theorem State.modWheel_tacho (k : Nat) (f : Wheel → Wheel) : (s.modWheel k f).tacho = s.tacho := rfl
@[simp] theorem State.modWheel_sup (k : Nat) (f : Wheel → Wheel) : (s.modWheel k f).sup = s.sup := rfl
@[simp] theorem State.modWheel_gds (k : Nat) (f : Wheel → Wheel) : (s.modWheel k f).gds = s.gds := rfl
@[simp] theorem State.modWheel_seq (k : Nat) (f : Wheel → Wheel) : (s.modWheel k f).seq = s.seq := rfl
@[simp] theorem State.modWheel_dom (k : Nat) (f : Wheel → Wheel) : (s.modWheel k f).dom = s.dom := rfl
@[simp] theorem State.modWheel_can (k : Nat) (f : Wheel → Wheel) : (s.modWheel k f).can = s.can := rfl
@[simp] theorem State.modWheel_agent (k : Nat) (f : Wheel → Wheel) : (s.modWheel k f).agent = s.agent := rfl
@[simp] theorem State.modWheel_bulk (k : Nat) (f : Wheel → Wheel) : (s.modWheel k f).bulk = s.bulk := rfl
@[simp] theorem State.modWheel_auth (k : Nat) (f : Wheel → Wheel) : (s.modWheel k f).auth = s.auth := rfl
@[simp] theorem State.modWheel_twb (k : Nat) (f : Wheel → Wheel) : (s.modWheel k f).twb = s.twb := rfl
@[simp] theorem State.modWheel_canary (k : Nat) (f : Wheel → Wheel) : (s.modWheel k f).canary = s.canary := rfl
@[simp] theorem State.modWheel_col (k : Nat) (f : Wheel → Wheel) : (s.modWheel k f).col = s.col := rfl
@[simp] theorem State.modWheel_rtc (k : Nat) (f : Wheel → Wheel) : (s.modWheel k f).rtc = s.rtc := rfl
@[simp] theorem State.modWheel_assayer (k : Nat) (f : Wheel → Wheel) : (s.modWheel k f).assayer = s.assayer := rfl
@[simp] theorem State.modWheel_life (k : Nat) (f : Wheel → Wheel) : (s.modWheel k f).life = s.life := rfl
@[simp] theorem State.modWheel_fwt (k : Nat) (f : Wheel → Wheel) : (s.modWheel k f).fwt = s.fwt := rfl
@[simp] theorem State.modWheel_cyc (k : Nat) (f : Wheel → Wheel) : (s.modWheel k f).cyc = s.cyc := rfl
@[simp] theorem State.modWheel_real (k : Nat) (f : Wheel → Wheel) : (s.modWheel k f).real = s.real := rfl
@[simp] theorem State.modWheel_sckFrom (k : Nat) (f : Wheel → Wheel) : (s.modWheel k f).sckFrom = s.sckFrom := rfl
@[simp] theorem State.modWheel_obj (k : Nat) (f : Wheel → Wheel) (x y : Nat) : (s.modWheel k f).obj x y = s.obj x y := rfl
@[simp] theorem State.modWheel_memByte (k : Nat) (f : Wheel → Wheel) (x : Nat) : (s.modWheel k f).memByte x = s.memByte x := rfl
@[simp] theorem State.modWheel_master (k : Nat) (f : Wheel → Wheel) (x : Master) : (s.modWheel k f).master x = s.master x := rfl
@[simp] theorem State.modWheel_t (k : Nat) (f : Wheel → Wheel) : (s.modWheel k f).t = s.t := rfl

/-! `State.modEnc` changes `tide` alone. -/

@[simp] theorem State.modEnc_pending (k : Nat) (f : Encoder → Encoder) : (s.modEnc k f).pending = s.pending := rfl
@[simp] theorem State.modEnc_now (k : Nat) (f : Encoder → Encoder) : (s.modEnc k f).now = s.now := rfl
@[simp] theorem State.modEnc_od (k : Nat) (f : Encoder → Encoder) : (s.modEnc k f).od = s.od := rfl
@[simp] theorem State.modEnc_mem (k : Nat) (f : Encoder → Encoder) : (s.modEnc k f).mem = s.mem := rfl
@[simp] theorem State.modEnc_free (k : Nat) (f : Encoder → Encoder) : (s.modEnc k f).free = s.free := rfl
@[simp] theorem State.modEnc_resp (k : Nat) (f : Encoder → Encoder) : (s.modEnc k f).resp = s.resp := rfl
@[simp] theorem State.modEnc_masters (k : Nat) (f : Encoder → Encoder) : (s.modEnc k f).masters = s.masters := rfl
@[simp] theorem State.modEnc_raised (k : Nat) (f : Encoder → Encoder) : (s.modEnc k f).raised = s.raised := rfl
@[simp] theorem State.modEnc_postNet (k : Nat) (f : Encoder → Encoder) : (s.modEnc k f).postNet = s.postNet := rfl
@[simp] theorem State.modEnc_postTurn (k : Nat) (f : Encoder → Encoder) : (s.modEnc k f).postTurn = s.postTurn := rfl
@[simp] theorem State.modEnc_clk (k : Nat) (f : Encoder → Encoder) : (s.modEnc k f).clk = s.clk := rfl
@[simp] theorem State.modEnc_engines (k : Nat) (f : Encoder → Encoder) : (s.modEnc k f).engines = s.engines := rfl
@[simp] theorem State.modEnc_pool (k : Nat) (f : Encoder → Encoder) : (s.modEnc k f).pool = s.pool := rfl
@[simp] theorem State.modEnc_posted (k : Nat) (f : Encoder → Encoder) : (s.modEnc k f).posted = s.posted := rfl
@[simp] theorem State.modEnc_ports (k : Nat) (f : Encoder → Encoder) : (s.modEnc k f).ports = s.ports := rfl
@[simp] theorem State.modEnc_dbg (k : Nat) (f : Encoder → Encoder) : (s.modEnc k f).dbg = s.dbg := rfl
@[simp] theorem State.modEnc_ecc (k : Nat) (f : Encoder → Encoder) : (s.modEnc k f).ecc = s.ecc := rfl
@[simp] theorem State.modEnc_startup (k : Nat) (f : Encoder → Encoder) : (s.modEnc k f).startup = s.startup := rfl
@[simp] theorem State.modEnc_fm (k : Nat) (f : Encoder → Encoder) : (s.modEnc k f).fm = s.fm := rfl
@[simp] theorem State.modEnc_irq (k : Nat) (f : Encoder → Encoder) : (s.modEnc k f).irq = s.irq := rfl
@[simp] theorem State.modEnc_sense (k : Nat) (f : Encoder → Encoder) : (s.modEnc k f).sense = s.sense := rfl
@[simp] theorem State.modEnc_phases (k : Nat) (f : Encoder → Encoder) : (s.modEnc k f).phases = s.phases := rfl
@[simp] theorem State.modEnc_rails (k : Nat) (f : Encoder → Encoder) : (s.modEnc k f).rails = s.rails := rfl
@[simp] theorem State.modEnc_measures (k : Nat) (f : Encoder → Encoder) : (s.modEnc k f).measures = s.measures := rfl
@[simp] theorem State.modEnc_chg (k : Nat) (f : Encoder → Encoder) : (s.modEnc k f).chg = s.chg := rfl
@[simp] theorem State.modEnc_aon (k : Nat) (f : Encoder → Encoder) : (s.modEnc k f).aon = s.aon := rfl
@[simp] theorem State.modEnc_gauge (k : Nat) (f : Encoder → Encoder) : (s.modEnc k f).gauge = s.gauge := rfl
@[simp] theorem State.modEnc_nv (k : Nat) (f : Encoder → Encoder) : (s.modEnc k f).nv = s.nv := rfl
@[simp] theorem State.modEnc_hka (k : Nat) (f : Encoder → Encoder) : (s.modEnc k f).hka = s.hka := rfl
@[simp] theorem State.modEnc_tacho (k : Nat) (f : Encoder → Encoder) : (s.modEnc k f).tacho = s.tacho := rfl
@[simp] theorem State.modEnc_sup (k : Nat) (f : Encoder → Encoder) : (s.modEnc k f).sup = s.sup := rfl
@[simp] theorem State.modEnc_gds (k : Nat) (f : Encoder → Encoder) : (s.modEnc k f).gds = s.gds := rfl
@[simp] theorem State.modEnc_seq (k : Nat) (f : Encoder → Encoder) : (s.modEnc k f).seq = s.seq := rfl
@[simp] theorem State.modEnc_dom (k : Nat) (f : Encoder → Encoder) : (s.modEnc k f).dom = s.dom := rfl
@[simp] theorem State.modEnc_can (k : Nat) (f : Encoder → Encoder) : (s.modEnc k f).can = s.can := rfl
@[simp] theorem State.modEnc_agent (k : Nat) (f : Encoder → Encoder) : (s.modEnc k f).agent = s.agent := rfl
@[simp] theorem State.modEnc_bulk (k : Nat) (f : Encoder → Encoder) : (s.modEnc k f).bulk = s.bulk := rfl
@[simp] theorem State.modEnc_auth (k : Nat) (f : Encoder → Encoder) : (s.modEnc k f).auth = s.auth := rfl
@[simp] theorem State.modEnc_twb (k : Nat) (f : Encoder → Encoder) : (s.modEnc k f).twb = s.twb := rfl
@[simp] theorem State.modEnc_canary (k : Nat) (f : Encoder → Encoder) : (s.modEnc k f).canary = s.canary := rfl
@[simp] theorem State.modEnc_col (k : Nat) (f : Encoder → Encoder) : (s.modEnc k f).col = s.col := rfl
@[simp] theorem State.modEnc_rtc (k : Nat) (f : Encoder → Encoder) : (s.modEnc k f).rtc = s.rtc := rfl
@[simp] theorem State.modEnc_assayer (k : Nat) (f : Encoder → Encoder) : (s.modEnc k f).assayer = s.assayer := rfl
@[simp] theorem State.modEnc_life (k : Nat) (f : Encoder → Encoder) : (s.modEnc k f).life = s.life := rfl
@[simp] theorem State.modEnc_fwt (k : Nat) (f : Encoder → Encoder) : (s.modEnc k f).fwt = s.fwt := rfl
@[simp] theorem State.modEnc_cyc (k : Nat) (f : Encoder → Encoder) : (s.modEnc k f).cyc = s.cyc := rfl
@[simp] theorem State.modEnc_real (k : Nat) (f : Encoder → Encoder) : (s.modEnc k f).real = s.real := rfl
@[simp] theorem State.modEnc_sckFrom (k : Nat) (f : Encoder → Encoder) : (s.modEnc k f).sckFrom = s.sckFrom := rfl
@[simp] theorem State.modEnc_obj (k : Nat) (f : Encoder → Encoder) (x y : Nat) : (s.modEnc k f).obj x y = s.obj x y := rfl
@[simp] theorem State.modEnc_memByte (k : Nat) (f : Encoder → Encoder) (x : Nat) : (s.modEnc k f).memByte x = s.memByte x := rfl
@[simp] theorem State.modEnc_master (k : Nat) (f : Encoder → Encoder) (x : Master) : (s.modEnc k f).master x = s.master x := rfl
@[simp] theorem State.modEnc_t (k : Nat) (f : Encoder → Encoder) : (s.modEnc k f).t = s.t := rfl

/-! `State.modTwb` changes `twb` alone. -/

@[simp] theorem State.modTwb_pending (k : Nat) (f : TwbPort → TwbPort) : (s.modTwb k f).pending = s.pending := rfl
@[simp] theorem State.modTwb_now (k : Nat) (f : TwbPort → TwbPort) : (s.modTwb k f).now = s.now := rfl
@[simp] theorem State.modTwb_od (k : Nat) (f : TwbPort → TwbPort) : (s.modTwb k f).od = s.od := rfl
@[simp] theorem State.modTwb_mem (k : Nat) (f : TwbPort → TwbPort) : (s.modTwb k f).mem = s.mem := rfl
@[simp] theorem State.modTwb_free (k : Nat) (f : TwbPort → TwbPort) : (s.modTwb k f).free = s.free := rfl
@[simp] theorem State.modTwb_resp (k : Nat) (f : TwbPort → TwbPort) : (s.modTwb k f).resp = s.resp := rfl
@[simp] theorem State.modTwb_masters (k : Nat) (f : TwbPort → TwbPort) : (s.modTwb k f).masters = s.masters := rfl
@[simp] theorem State.modTwb_raised (k : Nat) (f : TwbPort → TwbPort) : (s.modTwb k f).raised = s.raised := rfl
@[simp] theorem State.modTwb_postNet (k : Nat) (f : TwbPort → TwbPort) : (s.modTwb k f).postNet = s.postNet := rfl
@[simp] theorem State.modTwb_postTurn (k : Nat) (f : TwbPort → TwbPort) : (s.modTwb k f).postTurn = s.postTurn := rfl
@[simp] theorem State.modTwb_clk (k : Nat) (f : TwbPort → TwbPort) : (s.modTwb k f).clk = s.clk := rfl
@[simp] theorem State.modTwb_tide (k : Nat) (f : TwbPort → TwbPort) : (s.modTwb k f).tide = s.tide := rfl
@[simp] theorem State.modTwb_engines (k : Nat) (f : TwbPort → TwbPort) : (s.modTwb k f).engines = s.engines := rfl
@[simp] theorem State.modTwb_pool (k : Nat) (f : TwbPort → TwbPort) : (s.modTwb k f).pool = s.pool := rfl
@[simp] theorem State.modTwb_posted (k : Nat) (f : TwbPort → TwbPort) : (s.modTwb k f).posted = s.posted := rfl
@[simp] theorem State.modTwb_ports (k : Nat) (f : TwbPort → TwbPort) : (s.modTwb k f).ports = s.ports := rfl
@[simp] theorem State.modTwb_dbg (k : Nat) (f : TwbPort → TwbPort) : (s.modTwb k f).dbg = s.dbg := rfl
@[simp] theorem State.modTwb_ecc (k : Nat) (f : TwbPort → TwbPort) : (s.modTwb k f).ecc = s.ecc := rfl
@[simp] theorem State.modTwb_startup (k : Nat) (f : TwbPort → TwbPort) : (s.modTwb k f).startup = s.startup := rfl
@[simp] theorem State.modTwb_fm (k : Nat) (f : TwbPort → TwbPort) : (s.modTwb k f).fm = s.fm := rfl
@[simp] theorem State.modTwb_irq (k : Nat) (f : TwbPort → TwbPort) : (s.modTwb k f).irq = s.irq := rfl
@[simp] theorem State.modTwb_sense (k : Nat) (f : TwbPort → TwbPort) : (s.modTwb k f).sense = s.sense := rfl
@[simp] theorem State.modTwb_phases (k : Nat) (f : TwbPort → TwbPort) : (s.modTwb k f).phases = s.phases := rfl
@[simp] theorem State.modTwb_rails (k : Nat) (f : TwbPort → TwbPort) : (s.modTwb k f).rails = s.rails := rfl
@[simp] theorem State.modTwb_measures (k : Nat) (f : TwbPort → TwbPort) : (s.modTwb k f).measures = s.measures := rfl
@[simp] theorem State.modTwb_chg (k : Nat) (f : TwbPort → TwbPort) : (s.modTwb k f).chg = s.chg := rfl
@[simp] theorem State.modTwb_aon (k : Nat) (f : TwbPort → TwbPort) : (s.modTwb k f).aon = s.aon := rfl
@[simp] theorem State.modTwb_gauge (k : Nat) (f : TwbPort → TwbPort) : (s.modTwb k f).gauge = s.gauge := rfl
@[simp] theorem State.modTwb_nv (k : Nat) (f : TwbPort → TwbPort) : (s.modTwb k f).nv = s.nv := rfl
@[simp] theorem State.modTwb_hka (k : Nat) (f : TwbPort → TwbPort) : (s.modTwb k f).hka = s.hka := rfl
@[simp] theorem State.modTwb_tacho (k : Nat) (f : TwbPort → TwbPort) : (s.modTwb k f).tacho = s.tacho := rfl
@[simp] theorem State.modTwb_sup (k : Nat) (f : TwbPort → TwbPort) : (s.modTwb k f).sup = s.sup := rfl
@[simp] theorem State.modTwb_gds (k : Nat) (f : TwbPort → TwbPort) : (s.modTwb k f).gds = s.gds := rfl
@[simp] theorem State.modTwb_seq (k : Nat) (f : TwbPort → TwbPort) : (s.modTwb k f).seq = s.seq := rfl
@[simp] theorem State.modTwb_dom (k : Nat) (f : TwbPort → TwbPort) : (s.modTwb k f).dom = s.dom := rfl
@[simp] theorem State.modTwb_can (k : Nat) (f : TwbPort → TwbPort) : (s.modTwb k f).can = s.can := rfl
@[simp] theorem State.modTwb_agent (k : Nat) (f : TwbPort → TwbPort) : (s.modTwb k f).agent = s.agent := rfl
@[simp] theorem State.modTwb_bulk (k : Nat) (f : TwbPort → TwbPort) : (s.modTwb k f).bulk = s.bulk := rfl
@[simp] theorem State.modTwb_auth (k : Nat) (f : TwbPort → TwbPort) : (s.modTwb k f).auth = s.auth := rfl
@[simp] theorem State.modTwb_canary (k : Nat) (f : TwbPort → TwbPort) : (s.modTwb k f).canary = s.canary := rfl
@[simp] theorem State.modTwb_col (k : Nat) (f : TwbPort → TwbPort) : (s.modTwb k f).col = s.col := rfl
@[simp] theorem State.modTwb_rtc (k : Nat) (f : TwbPort → TwbPort) : (s.modTwb k f).rtc = s.rtc := rfl
@[simp] theorem State.modTwb_assayer (k : Nat) (f : TwbPort → TwbPort) : (s.modTwb k f).assayer = s.assayer := rfl
@[simp] theorem State.modTwb_life (k : Nat) (f : TwbPort → TwbPort) : (s.modTwb k f).life = s.life := rfl
@[simp] theorem State.modTwb_fwt (k : Nat) (f : TwbPort → TwbPort) : (s.modTwb k f).fwt = s.fwt := rfl
@[simp] theorem State.modTwb_cyc (k : Nat) (f : TwbPort → TwbPort) : (s.modTwb k f).cyc = s.cyc := rfl
@[simp] theorem State.modTwb_real (k : Nat) (f : TwbPort → TwbPort) : (s.modTwb k f).real = s.real := rfl
@[simp] theorem State.modTwb_sckFrom (k : Nat) (f : TwbPort → TwbPort) : (s.modTwb k f).sckFrom = s.sckFrom := rfl
@[simp] theorem State.modTwb_obj (k : Nat) (f : TwbPort → TwbPort) (x y : Nat) : (s.modTwb k f).obj x y = s.obj x y := rfl
@[simp] theorem State.modTwb_memByte (k : Nat) (f : TwbPort → TwbPort) (x : Nat) : (s.modTwb k f).memByte x = s.memByte x := rfl
@[simp] theorem State.modTwb_master (k : Nat) (f : TwbPort → TwbPort) (x : Master) : (s.modTwb k f).master x = s.master x := rfl
@[simp] theorem State.modTwb_t (k : Nat) (f : TwbPort → TwbPort) : (s.modTwb k f).t = s.t := rfl

end Sys2Proof.Machine
end

