-- ==== Sys2Proof/Laws/Ops.lean ====
section
/-! SUPPORT. What the shared operations do, said once: object words, memory bytes, canonical forms, the access path. -/
namespace Sys2Proof.Machine

/-! ### Object words -/

/-- Two object words with one key are one word. -/
theorem objKey_inj {i j i' j' : Nat} (hj : j < 256) (hj' : j' < 256) (h : objKey i j = objKey i' j') : i = i' ∧ j = j' := by
  unfold objKey at h; omega

/-- A word reads as what was last written to it, any other word as before. -/
@[simp] theorem State.put_obj (s : State) (i j : Nat) (v : Word) (x y : Nat) :
    (s.put i j v).obj x y = if objKey x y = objKey i j then v else s.obj x y := by
  unfold State.put State.obj
  by_cases h : objKey x y = objKey i j
  · simp [h]
  · simp [h, Sparse.get_put_other odDefault s.od _ _ v h]

theorem State.put_obj_self (s : State) (i j : Nat) (v : Word) : (s.put i j v).obj i j = v := by simp

theorem State.put_obj_other (s : State) (i j : Nat) (v : Word) (x y : Nat) (h : objKey x y ≠ objKey i j) :
    (s.put i j v).obj x y = s.obj x y := by simp [h]

@[simp] theorem State.putN_obj (s : State) (i j n x y : Nat) :
    (s.putN i j n).obj x y = if objKey x y = objKey i j then BitVec.ofNat 32 n else s.obj x y := State.put_obj ..

@[simp] theorem State.putI_obj (s : State) (i j : Nat) (n : Int) (x y : Nat) :
    (s.putI i j n).obj x y = if objKey x y = objKey i j then word32 n else s.obj x y := State.put_obj ..

@[simp] theorem State.setBits_obj (s : State) (i j m x y : Nat) :
    (s.setBits i j m).obj x y = if objKey x y = objKey i j then s.obj i j ||| BitVec.ofNat 32 m else s.obj x y :=
  State.put_obj ..

@[simp] theorem State.clrBits_obj (s : State) (i j m x y : Nat) :
    (s.clrBits i j m).obj x y = if objKey x y = objKey i j then s.obj i j &&& ~~~ BitVec.ofNat 32 m else s.obj x y :=
  State.put_obj ..

@[simp] theorem State.add_obj (s : State) (i j w n x y : Nat) :
    (s.add i j w n).obj x y = if objKey x y = objKey i j then BitVec.ofNat 32 (satN w (s.nat i j + n)) else s.obj x y :=
  State.put_obj ..

@[simp] theorem State.bump_obj (s : State) (i j w x y : Nat) :
    (s.bump i j w).obj x y = if objKey x y = objKey i j then BitVec.ofNat 32 (satN w (s.nat i j + 1)) else s.obj x y :=
  State.put_obj ..

@[simp] theorem State.sub_obj (s : State) (i j n x y : Nat) :
    (s.sub i j n).obj x y = if objKey x y = objKey i j then BitVec.ofNat 32 (s.nat i j - n) else s.obj x y :=
  State.put_obj ..

/-! ### Memory bytes -/

/-- A byte reads as what was last written to it, any other byte as before. -/
@[simp] theorem State.putByte_memByte (s : State) (a : Nat) (b : Byte) (x : Nat) :
    (s.putByte a b).memByte x = if x = a then b else s.memByte x := by
  unfold State.putByte State.memByte
  by_cases h : x = a
  · simp [h]
  · simp [h, Sparse.get_put_other memDefault s.mem _ _ b h]

theorem State.putWord_memByte (s : State) (a : Nat) (v : Word) (x : Nat) :
    (s.putWord a v).memByte x =
      if x = a then byteOf v 0 else if x = a + 1 then byteOf v 1 else if x = a + 2 then byteOf v 2
      else if x = a + 3 then byteOf v 3 else s.memByte x := by
  unfold State.putWord
  simp only [State.putByte_memByte]
  repeat' split
  all_goals first | rfl | omega

theorem bytesWord_byteOf (v : Word) : bytesWord (byteOf v 0) (byteOf v 1) (byteOf v 2) (byteOf v 3) = v := by
  apply BitVec.eq_of_toNat_eq
  have hv := v.isLt
  have hm : ∀ n : Nat, n % 2 ^ 8 < 2 ^ 8 := fun n => Nat.mod_lt _ (by norm_num)
  simp only [bytesWord, byteOf, BitVec.toNat_append, BitVec.toNat_setWidth, BitVec.toNat_ushiftRight, Nat.shiftRight_eq_div_pow]
  rw [← Nat.shiftLeft_add_eq_or_of_lt (hm _), ← Nat.shiftLeft_add_eq_or_of_lt (hm _), ← Nat.shiftLeft_add_eq_or_of_lt (hm _)]
  simp only [Nat.shiftLeft_eq]
  omega

/-- A word reads as it was written. -/
theorem State.putWord_memWord (s : State) (a : Nat) (v : Word) : (s.putWord a v).memWord a = v := by
  unfold State.memWord
  simp only [State.putWord_memByte]
  simp [bytesWord_byteOf]

/-- Bytes outside a written word read as before. -/
theorem State.putWord_memByte_other (s : State) (a : Nat) (v : Word) (x : Nat) (h : x < a ∨ a + 4 ≤ x) :
    (s.putWord a v).memByte x = s.memByte x := by
  rw [State.putWord_memByte]
  repeat' split
  all_goals first | rfl | omega

/-- A cleared region reads as unwritten memory, the rest as before. -/
theorem State.clearMem_memByte (s : State) (lo size x : Nat) :
    (s.clearMem lo size).memByte x = if lo ≤ x ∧ x < lo + size then memDefault x else s.memByte x := by
  unfold State.clearMem State.memByte
  rw [Sparse.get_filter memDefault (fun a => decide (a < lo) || decide (lo + size ≤ a)) s.mem x]
  by_cases h : lo ≤ x ∧ x < lo + size
  · have h1 : ¬ x < lo := by omega
    have h2 : ¬ lo + size ≤ x := by omega
    simp [h, h1, h2]
  · have h1 : x < lo ∨ lo + size ≤ x := by omega
    simp [h1, h]

/-! ### Canonical forms -/

/-- Writing an object word keeps the store canonical. -/
theorem State.put_wf (s : State) (i j : Nat) (v : Word) (h : Objects.wf s.od = true) : Objects.wf (s.put i j v).od = true :=
  Sparse.wf_put odDefault s.od _ v h

/-- Writing a byte keeps memory canonical. -/
theorem State.putByte_wf (s : State) (a : Nat) (b : Byte) (h : Memory.wf s.mem = true) :
    Memory.wf (s.putByte a b).mem = true := Sparse.wf_put memDefault s.mem a b h

/-- Writing a word keeps memory canonical. -/
theorem State.putWord_wf (s : State) (a : Nat) (v : Word) (h : Memory.wf s.mem = true) :
    Memory.wf (s.putWord a v).mem = true := by
  unfold State.putWord
  exact State.putByte_wf _ _ _ (State.putByte_wf _ _ _ (State.putByte_wf _ _ _ (State.putByte_wf _ _ _ h)))

/-- Writing a run of bytes keeps memory canonical. -/
theorem State.putBytes_wf (s : State) (a : Nat) (l : List Byte) (h : Memory.wf s.mem = true) :
    Memory.wf (s.putBytes a l).mem = true := by
  induction l generalizing s a with
  | nil => exact h
  | cons b t ih => exact ih _ _ (State.putByte_wf s a b h)

/-- Clearing a region keeps memory canonical. -/
theorem State.clearMem_wf (s : State) (lo size : Nat) (h : Memory.wf s.mem = true) :
    Memory.wf (s.clearMem lo size).mem = true := Sparse.wf_filter memDefault _ s.mem h

/-! ### The access path -/

/-- A write whose master can make no access changes nothing. -/
theorem accessWrite_dead (s : State) (w : Wr) (auth : Bool) (i j : Nat) (eff : WEff) (h : masterLive s w.master = false) :
    accessWrite s w auth i j eff = s := by
  simp [accessWrite, h]

/-- A write that passes the checks ends as its object's effect says. -/
theorem accessWrite_accepted (s : State) (w : Wr) (auth : Bool) (i j : Nat) (eff : WEff)
    (h : masterLive s w.master = true) (hc : checkWrite s w auth i j = .accepted) :
    accessWrite s w auth i j eff =
      endWrite (eff (typedWrite w i j) auth s).2 w.master i j (eff (typedWrite w i j) auth s).1
        (rangeResp i j w (eff (typedWrite w i j) auth s).1) := by
  simp [accessWrite, accessResult, h, hc]

/-- A write that the checks refuse changes nothing but the master's record, the counts, the answer and what an engine's
exception does. -/
theorem accessWrite_refused (s : State) (w : Wr) (auth : Bool) (i j : Nat) (eff : WEff)
    (h : masterLive s w.master = true) (hc : checkWrite s w auth i j ≠ .accepted) :
    accessWrite s w auth i j eff =
      endWrite s w.master i j (checkWrite s w auth i j) (rangeResp i j w (checkWrite s w auth i j)) := by
  unfold accessWrite accessResult
  rw [if_neg (by simp [h])]
  cases hr : checkWrite s w auth i j <;> first | exact absurd hr hc | rfl

/-- An accepted write leaves the counts of refused accesses and raises nothing. -/
theorem endWrite_accepted (s : State) (m : Master) (i j : Nat) (r : Resp) :
    endWrite s m i j .accepted r = { recordWrite s m i j .accepted with resp := some r } := by
  cases m <;> simp [endWrite, countRefusal, faultAccess, Res.faults]

end Sys2Proof.Machine
end

