-- ==== Sys2Proof/Laws/Access.lean ====
section
/-! SUPPORT. The access path in the terms of the statements: what an accepted write or read leaves. -/
namespace Sys2Proof.Machine

@[simp] theorem typedWrite_master (w : Wr) (i j : Nat) : (typedWrite w i j).master = w.master := by
  unfold typedWrite; split <;> rfl

@[simp] theorem typedWrite_len (w : Wr) (i j : Nat) : (typedWrite w i j).len = w.len := by
  unfold typedWrite; split <;> rfl

@[simp] theorem typedWrite_value (w : Wr) (i j : Nat) : (typedWrite w i j).value = carried w i j := rfl

theorem rangeResp_accepted (i j : Nat) (w : Wr) : rangeResp i j w .accepted = { result := .accepted, value := 0 } := by
  unfold rangeResp
  split <;> rfl

/-- A write that passes the checks and that its effect accepts leaves what the effect leaves, recorded and answered. -/
theorem accessWrite_done {s s' : State} {w : Wr} {i j : Nat} {eff : WEff} (h : writePasses s w i j)
    (he : eff (typedWrite w i j) false s = (.accepted, s')) :
    accessWrite s w false i j eff = s'.accepted w.master i j := by
  rw [accessWrite_accepted s w false i j eff h.1 h.2, he]
  simp only [rangeResp_accepted, endWrite_accepted]
  rfl

theorem endRead_accepted (s : State) (m : Master) (i j : Nat) (v : Word) : endRead s m i j .accepted v = s.returned v := by
  cases m <;> simp [endRead, countRefusal, faultAccess, Res.faults, State.returned]

/-- A write that passes the checks and that its effect discards for another reason than its value leaves what the effect
leaves, recorded with the result and answered with it. -/
theorem accessWrite_discarded {s s' : State} {w : Wr} {i j : Nat} {eff : WEff} {r : Res} (h : writePasses s w i j)
    (he : eff (typedWrite w i j) false s = (r, s')) (hr : r ≠ .range) :
    accessWrite s w false i j eff = endWrite s' w.master i j r { result := r, value := 0 } := by
  rw [accessWrite_accepted s w false i j eff h.1 h.2, he]
  unfold rangeResp
  split
  · simp [hr]
  · rfl

/-- A write that its effect discards with 4h. -/
theorem accessWrite_state {s s' : State} {w : Wr} {i j : Nat} {eff : WEff} (h : writePasses s w i j)
    (he : eff (typedWrite w i j) false s = (.state, s')) :
    accessWrite s w false i j eff = endWrite s' w.master i j .state { result := .state, value := 0 } :=
  accessWrite_discarded h he (by decide)

/-- A read that is not refused returns what its effect gives and leaves what its effect leaves. -/
theorem accessRead_done {s : State} {r : Rd} {i j : Nat} {eff : REff} (h : readPasses s r i j) :
    accessRead s r i j eff = (eff r s).2.returned (eff r s).1 := by
  unfold accessRead
  rw [if_neg (by simp [h.1]), h.2]
  exact endRead_accepted _ _ _ _ _

/-- What an access records touches neither the object words nor memory. -/
@[simp] theorem State.accepted_obj (s : State) (m : Master) (i j x y : Nat) : (s.accepted m i j).obj x y = s.obj x y := rfl
@[simp] theorem State.accepted_memByte (s : State) (m : Master) (i j a : Nat) :
    (s.accepted m i j).memByte a = s.memByte a := rfl
@[simp] theorem State.returned_obj (s : State) (v : Word) (x y : Nat) : (s.returned v).obj x y = s.obj x y := rfl
@[simp] theorem State.returned_memByte (s : State) (v : Word) (a : Nat) : (s.returned v).memByte a = s.memByte a := rfl

end Sys2Proof.Machine
end

