-- ==== Sys2Proof/Laws/Moves.lean ====
section
/-! SUPPORT. What an operation keeps, said once for each: `Moves k s t` says that `t` keeps of `s` everything whose bit of `k` is 1,
that is a field of State (bits 0 to 48, in the order of the declaration) or an invariant (bits 49 to 55). -/
namespace Sys2Proof.Machine

/-- `t` keeps of `s` what the bits of `k` name. -/
structure Moves (k : Nat) (s t : State) : Prop where
  pending : k.testBit 0 = true → t.pending = s.pending
  now : k.testBit 1 = true → t.now = s.now
  od : k.testBit 2 = true → t.od = s.od
  mem : k.testBit 3 = true → t.mem = s.mem
  free : k.testBit 4 = true → t.free = s.free
  resp : k.testBit 5 = true → t.resp = s.resp
  masters : k.testBit 6 = true → t.masters = s.masters
  raised : k.testBit 7 = true → t.raised = s.raised
  postNet : k.testBit 8 = true → t.postNet = s.postNet
  postTurn : k.testBit 9 = true → t.postTurn = s.postTurn
  clk : k.testBit 10 = true → t.clk = s.clk
  tide : k.testBit 11 = true → t.tide = s.tide
  engines : k.testBit 12 = true → t.engines = s.engines
  pool : k.testBit 13 = true → t.pool = s.pool
  posted : k.testBit 14 = true → t.posted = s.posted
  ports : k.testBit 15 = true → t.ports = s.ports
  dbg : k.testBit 16 = true → t.dbg = s.dbg
  ecc : k.testBit 17 = true → t.ecc = s.ecc
  startup : k.testBit 18 = true → t.startup = s.startup
  fm : k.testBit 19 = true → t.fm = s.fm
  irq : k.testBit 20 = true → t.irq = s.irq
  sense : k.testBit 21 = true → t.sense = s.sense
  phases : k.testBit 22 = true → t.phases = s.phases
  rails : k.testBit 23 = true → t.rails = s.rails
  measures : k.testBit 24 = true → t.measures = s.measures
  chg : k.testBit 25 = true → t.chg = s.chg
  aon : k.testBit 26 = true → t.aon = s.aon
  gauge : k.testBit 27 = true → t.gauge = s.gauge
  nv : k.testBit 28 = true → t.nv = s.nv
  hka : k.testBit 29 = true → t.hka = s.hka
  tacho : k.testBit 30 = true → t.tacho = s.tacho
  sup : k.testBit 31 = true → t.sup = s.sup
  gds : k.testBit 32 = true → t.gds = s.gds
  seq : k.testBit 33 = true → t.seq = s.seq
  dom : k.testBit 34 = true → t.dom = s.dom
  can : k.testBit 35 = true → t.can = s.can
  agent : k.testBit 36 = true → t.agent = s.agent
  bulk : k.testBit 37 = true → t.bulk = s.bulk
  auth : k.testBit 38 = true → t.auth = s.auth
  twb : k.testBit 39 = true → t.twb = s.twb
  canary : k.testBit 40 = true → t.canary = s.canary
  col : k.testBit 41 = true → t.col = s.col
  rtc : k.testBit 42 = true → t.rtc = s.rtc
  assayer : k.testBit 43 = true → t.assayer = s.assayer
  life : k.testBit 44 = true → t.life = s.life
  fwt : k.testBit 45 = true → t.fwt = s.fwt
  cyc : k.testBit 46 = true → t.cyc = s.cyc
  real : k.testBit 47 = true → t.real = s.real
  sckFrom : k.testBit 48 = true → t.sckFrom = s.sckFrom
  clock : k.testBit 49 = true → (t.now = s.now ∨ t.now = 0)
  canonOd : k.testBit 50 = true → (Objects.wf s.od = true → Objects.wf t.od = true)
  canonMem : k.testBit 51 = true → (Memory.wf s.mem = true → Memory.wf t.mem = true)
  otpStays : k.testBit 52 = true → (∀ x ∈ s.nv.otp, x ∈ t.nv.otp)
  fusesStay : k.testBit 53 = true → (∀ x ∈ s.nv.fuses, x ∈ t.nv.fuses)
  gates : k.testBit 54 = true → (s.gatesApart = true → t.gatesApart = true)
  shape : k.testBit 55 = true → (s.shaped = true → t.shaped = true)

theorem Moves.refl (k : Nat) (s : State) : Moves k s s :=
  ⟨fun _ => rfl, fun _ => rfl, fun _ => rfl, fun _ => rfl, fun _ => rfl, fun _ => rfl, fun _ => rfl, fun _ => rfl, fun _ => rfl, fun _ => rfl, fun _ => rfl, fun _ => rfl, fun _ => rfl, fun _ => rfl, fun _ => rfl, fun _ => rfl, fun _ => rfl, fun _ => rfl, fun _ => rfl, fun _ => rfl, fun _ => rfl, fun _ => rfl, fun _ => rfl, fun _ => rfl, fun _ => rfl, fun _ => rfl, fun _ => rfl, fun _ => rfl, fun _ => rfl, fun _ => rfl, fun _ => rfl, fun _ => rfl, fun _ => rfl, fun _ => rfl, fun _ => rfl, fun _ => rfl, fun _ => rfl, fun _ => rfl, fun _ => rfl, fun _ => rfl, fun _ => rfl, fun _ => rfl, fun _ => rfl, fun _ => rfl, fun _ => rfl, fun _ => rfl, fun _ => rfl, fun _ => rfl, fun _ => rfl, fun _ => Or.inl rfl, fun _ => id, fun _ => id, fun _ _ => id, fun _ _ => id, fun _ => id, fun _ => id⟩

theorem testBit_of_and {k k1 b : Nat} (hk : k &&& k1 = k) (hb : k.testBit b = true) : k1.testBit b = true := by
  rw [← hk, Nat.testBit_and, Bool.and_eq_true] at hb
  exact hb.2

/-- A later operation keeps at least what is asked. -/
theorem Moves.comp {k k1 : Nat} {s t u : State} (g : Moves k1 t u) (hk : k &&& k1 = k) (h : Moves k s t) : Moves k s u :=
  ⟨fun b => (g.pending (testBit_of_and hk b)).trans (h.pending b), fun b => (g.now (testBit_of_and hk b)).trans (h.now b), fun b => (g.od (testBit_of_and hk b)).trans (h.od b), fun b => (g.mem (testBit_of_and hk b)).trans (h.mem b), fun b => (g.free (testBit_of_and hk b)).trans (h.free b), fun b => (g.resp (testBit_of_and hk b)).trans (h.resp b), fun b => (g.masters (testBit_of_and hk b)).trans (h.masters b), fun b => (g.raised (testBit_of_and hk b)).trans (h.raised b), fun b => (g.postNet (testBit_of_and hk b)).trans (h.postNet b), fun b => (g.postTurn (testBit_of_and hk b)).trans (h.postTurn b), fun b => (g.clk (testBit_of_and hk b)).trans (h.clk b), fun b => (g.tide (testBit_of_and hk b)).trans (h.tide b), fun b => (g.engines (testBit_of_and hk b)).trans (h.engines b), fun b => (g.pool (testBit_of_and hk b)).trans (h.pool b), fun b => (g.posted (testBit_of_and hk b)).trans (h.posted b), fun b => (g.ports (testBit_of_and hk b)).trans (h.ports b), fun b => (g.dbg (testBit_of_and hk b)).trans (h.dbg b), fun b => (g.ecc (testBit_of_and hk b)).trans (h.ecc b), fun b => (g.startup (testBit_of_and hk b)).trans (h.startup b), fun b => (g.fm (testBit_of_and hk b)).trans (h.fm b), fun b => (g.irq (testBit_of_and hk b)).trans (h.irq b), fun b => (g.sense (testBit_of_and hk b)).trans (h.sense b), fun b => (g.phases (testBit_of_and hk b)).trans (h.phases b), fun b => (g.rails (testBit_of_and hk b)).trans (h.rails b), fun b => (g.measures (testBit_of_and hk b)).trans (h.measures b), fun b => (g.chg (testBit_of_and hk b)).trans (h.chg b), fun b => (g.aon (testBit_of_and hk b)).trans (h.aon b), fun b => (g.gauge (testBit_of_and hk b)).trans (h.gauge b), fun b => (g.nv (testBit_of_and hk b)).trans (h.nv b), fun b => (g.hka (testBit_of_and hk b)).trans (h.hka b), fun b => (g.tacho (testBit_of_and hk b)).trans (h.tacho b), fun b => (g.sup (testBit_of_and hk b)).trans (h.sup b), fun b => (g.gds (testBit_of_and hk b)).trans (h.gds b), fun b => (g.seq (testBit_of_and hk b)).trans (h.seq b), fun b => (g.dom (testBit_of_and hk b)).trans (h.dom b), fun b => (g.can (testBit_of_and hk b)).trans (h.can b), fun b => (g.agent (testBit_of_and hk b)).trans (h.agent b), fun b => (g.bulk (testBit_of_and hk b)).trans (h.bulk b), fun b => (g.auth (testBit_of_and hk b)).trans (h.auth b), fun b => (g.twb (testBit_of_and hk b)).trans (h.twb b), fun b => (g.canary (testBit_of_and hk b)).trans (h.canary b), fun b => (g.col (testBit_of_and hk b)).trans (h.col b), fun b => (g.rtc (testBit_of_and hk b)).trans (h.rtc b), fun b => (g.assayer (testBit_of_and hk b)).trans (h.assayer b), fun b => (g.life (testBit_of_and hk b)).trans (h.life b), fun b => (g.fwt (testBit_of_and hk b)).trans (h.fwt b), fun b => (g.cyc (testBit_of_and hk b)).trans (h.cyc b), fun b => (g.real (testBit_of_and hk b)).trans (h.real b), fun b => (g.sckFrom (testBit_of_and hk b)).trans (h.sckFrom b), fun b => (g.clock (testBit_of_and hk b)).elim (fun e => e ▸ h.clock b) Or.inr, fun b x => g.canonOd (testBit_of_and hk b) (h.canonOd b x), fun b x => g.canonMem (testBit_of_and hk b) (h.canonMem b x), fun b x m => g.otpStays (testBit_of_and hk b) x (h.otpStays b x m), fun b x m => g.fusesStay (testBit_of_and hk b) x (h.fusesStay b x m), fun b x => g.gates (testBit_of_and hk b) (h.gates b x), fun b x => g.shape (testBit_of_and hk b) (h.shape b x)⟩

theorem Moves.trans {k : Nat} {s t u : State} (h : Moves k s t) (g : Moves k t u) : Moves k s u :=
  Moves.comp g (Nat.and_self k) h

theorem Moves.sub {km k k' : Nat} (h : km &&& k = km) (g : k &&& k' = k) : km &&& k' = km := by
  rw [← h, Nat.and_assoc, g]

theorem Moves.mid {k : Nat} {s t u : State} (h : Moves k s t) (h' : Moves k s t → Moves k s u) : Moves k s u := h' h

theorem Moves.weaken {k k1 : Nat} {s t : State} (h1 : Moves k1 s t) (hk : k &&& k1 = k) : Moves k s t :=
  Moves.comp h1 hk (Moves.refl k s)

theorem Moves.foldl {α : Type} {k : Nat} {s t : State} (l : List α) (f : State → α → State)
    (hf : ∀ u a, Moves k u (f u a)) (h : Moves k s t) : Moves k s (l.foldl f t) := by
  induction l generalizing t with
  | nil => exact h
  | cons a l ih => exact ih (Moves.comp (hf t a) (Nat.and_self k) h)

theorem Moves.snd {α : Type} {k : Nat} {s t : State} {a : α} {p : α × State} (h : p = (a, t)) (hm : Moves k s p.2) :
    Moves k s t := by
  subst h; exact hm

theorem Moves.fst {α : Type} {k : Nat} {s t : State} {a : α} {p : State × α} (h : p = (t, a)) (hm : Moves k s p.1) :
    Moves k s t := by
  subst h; exact hm

/-- The state an outcome leaves; a command that would stop leaves its state. -/
def Out.left (s : State) (o : Out) : State :=
  match o with
  | .next t => t
  | _ => s

theorem Moves.congr {k : Nat} {s t u : State} (h : t = u) (g : Moves k s t) : Moves k s u := h ▸ g

theorem Moves.next {k : Nat} {s t u : State} (h : Moves k s t) : Moves k s (Out.left u (.next t)) := h

/-- The state an access leaves. -/
def Access.left : Access → State
  | .done _ s => s
  | .trapped s => s
  | .waits s => s

theorem Moves.done {k : Nat} {s t : State} (v : Word) (h : Moves k s t) : Moves k s (Access.left (.done v t)) := h

theorem Moves.trapped {k : Nat} {s t : State} (h : Moves k s t) : Moves k s (Access.left (.trapped t)) := h

theorem Moves.waits {k : Nat} {s t : State} (h : Moves k s t) : Moves k s (Access.left (.waits t)) := h

theorem Moves.ofDone {k : Nat} {s t : State} {v : Word} {p : Access} (h : p = .done v t) (hm : Moves k s (Access.left p)) :
    Moves k s t := by
  subst h; exact hm

theorem Moves.ofTrapped {k : Nat} {s t : State} {p : Access} (h : p = .trapped t) (hm : Moves k s (Access.left p)) :
    Moves k s t := by
  subst h; exact hm

theorem Moves.ofWaits {k : Nat} {s t : State} {p : Access} (h : p = .waits t) (hm : Moves k s (Access.left p)) :
    Moves k s t := by
  subst h; exact hm

theorem Moves.when {k : Nat} {s t u : State} (c : Bool) (h : Moves k s t) (h' : Moves k s u) :
    Moves k s (Out.left s (when c u t)) := by
  unfold Machine.when Out.left
  cases c
  · exact h'
  · exact h

/-! ### One field -/

theorem modAt_length {α : Type} (l : List α) (n : Nat) (f : α → α) : (modAt l n f).length = l.length := by
  induction l generalizing n with
  | nil => rfl
  | cons a t ih => cases n <;> simp [modAt, ih]

theorem all_modAt {α : Type} (p : α → Bool) (l : List α) (n : Nat) (f : α → α) (hf : ∀ x, p x = true → p (f x) = true)
    (h : l.all p = true) : (modAt l n f).all p = true := by
  induction l generalizing n with
  | nil => rfl
  | cons a t ih =>
    simp only [List.all_cons, Bool.and_eq_true] at h
    cases n with
    | zero => simp only [modAt, List.all_cons, Bool.and_eq_true]; exact ⟨hf a h.1, h.2⟩
    | succ n => simp only [modAt, List.all_cons, Bool.and_eq_true]; exact ⟨h.1, ih n h.2⟩

theorem all_modAt_at {α : Type} (p : α → Bool) (l : List α) (n : Nat) (f : α → α) (d : α)
    (hf : p (l.getD n d) = true → p (f (l.getD n d)) = true) (h : l.all p = true) : (modAt l n f).all p = true := by
  induction l generalizing n with
  | nil => rfl
  | cons a t ih =>
    simp only [List.all_cons, Bool.and_eq_true] at h
    cases n with
    | zero => simp only [modAt, List.all_cons, Bool.and_eq_true]; exact ⟨hf h.1, h.2⟩
    | succ n => simp only [modAt, List.all_cons, Bool.and_eq_true]; exact ⟨h.1, ih n hf h.2⟩

theorem Moves.of_pending {km : Nat} {s0 : State} (s : State) (x : _)
    (hk : km &&& 0xFFFFFFFFFFFFFE = km) (hs : Moves km s0 s) : Moves km s0 { s with pending := x } :=
  Moves.comp (k1 := 0xFFFFFFFFFFFFFE) (t := s) (⟨fun b => absurd b (by decide), fun _ => rfl, fun _ => rfl, fun _ => rfl, fun _ => rfl, fun _ => rfl, fun _ => rfl, fun _ => rfl, fun _ => rfl, fun _ => rfl, fun _ => rfl, fun _ => rfl, fun _ => rfl, fun _ => rfl, fun _ => rfl, fun _ => rfl, fun _ => rfl, fun _ => rfl, fun _ => rfl, fun _ => rfl, fun _ => rfl, fun _ => rfl, fun _ => rfl, fun _ => rfl, fun _ => rfl, fun _ => rfl, fun _ => rfl, fun _ => rfl, fun _ => rfl, fun _ => rfl, fun _ => rfl, fun _ => rfl, fun _ => rfl, fun _ => rfl, fun _ => rfl, fun _ => rfl, fun _ => rfl, fun _ => rfl, fun _ => rfl, fun _ => rfl, fun _ => rfl, fun _ => rfl, fun _ => rfl, fun _ => rfl, fun _ => rfl, fun _ => rfl, fun _ => rfl, fun _ => rfl, fun _ => rfl, fun _ => Or.inl rfl, fun _ => id, fun _ => id, fun _ _ => id, fun _ _ => id, fun _ => id, fun _ => id⟩) hk hs

theorem Moves.of_now {km : Nat} {s0 : State} (s : State) (x : _)
    (hk : km &&& 0xFDFFFFFFFFFFFD = km) (hs : Moves km s0 s) : Moves km s0 { s with now := x } :=
  Moves.comp (k1 := 0xFDFFFFFFFFFFFD) (t := s) (⟨fun _ => rfl, fun b => absurd b (by decide), fun _ => rfl, fun _ => rfl, fun _ => rfl, fun _ => rfl, fun _ => rfl, fun _ => rfl, fun _ => rfl, fun _ => rfl, fun _ => rfl, fun _ => rfl, fun _ => rfl, fun _ => rfl, fun _ => rfl, fun _ => rfl, fun _ => rfl, fun _ => rfl, fun _ => rfl, fun _ => rfl, fun _ => rfl, fun _ => rfl, fun _ => rfl, fun _ => rfl, fun _ => rfl, fun _ => rfl, fun _ => rfl, fun _ => rfl, fun _ => rfl, fun _ => rfl, fun _ => rfl, fun _ => rfl, fun _ => rfl, fun _ => rfl, fun _ => rfl, fun _ => rfl, fun _ => rfl, fun _ => rfl, fun _ => rfl, fun _ => rfl, fun _ => rfl, fun _ => rfl, fun _ => rfl, fun _ => rfl, fun _ => rfl, fun _ => rfl, fun _ => rfl, fun _ => rfl, fun _ => rfl, fun b => absurd b (by decide), fun _ => id, fun _ => id, fun _ _ => id, fun _ _ => id, fun _ => id, fun _ => id⟩) hk hs

theorem Moves.of_od {km : Nat} {s0 : State} (s : State) (x : _) (h : Objects.wf s.od = true → Objects.wf x = true)
    (hk : km &&& 0xFFFFFFFFFFFFFB = km) (hs : Moves km s0 s) : Moves km s0 { s with od := x } :=
  Moves.comp (k1 := 0xFFFFFFFFFFFFFB) (t := s) (⟨fun _ => rfl, fun _ => rfl, fun b => absurd b (by decide), fun _ => rfl, fun _ => rfl, fun _ => rfl, fun _ => rfl, fun _ => rfl, fun _ => rfl, fun _ => rfl, fun _ => rfl, fun _ => rfl, fun _ => rfl, fun _ => rfl, fun _ => rfl, fun _ => rfl, fun _ => rfl, fun _ => rfl, fun _ => rfl, fun _ => rfl, fun _ => rfl, fun _ => rfl, fun _ => rfl, fun _ => rfl, fun _ => rfl, fun _ => rfl, fun _ => rfl, fun _ => rfl, fun _ => rfl, fun _ => rfl, fun _ => rfl, fun _ => rfl, fun _ => rfl, fun _ => rfl, fun _ => rfl, fun _ => rfl, fun _ => rfl, fun _ => rfl, fun _ => rfl, fun _ => rfl, fun _ => rfl, fun _ => rfl, fun _ => rfl, fun _ => rfl, fun _ => rfl, fun _ => rfl, fun _ => rfl, fun _ => rfl, fun _ => rfl, fun _ => Or.inl rfl, fun _ => h, fun _ => id, fun _ _ => id, fun _ _ => id, fun _ => id, fun _ => id⟩) hk hs

theorem Moves.of_mem {km : Nat} {s0 : State} (s : State) (x : _) (h : Memory.wf s.mem = true → Memory.wf x = true)
    (hk : km &&& 0xFFFFFFFFFFFFF7 = km) (hs : Moves km s0 s) : Moves km s0 { s with mem := x } :=
  Moves.comp (k1 := 0xFFFFFFFFFFFFF7) (t := s) (⟨fun _ => rfl, fun _ => rfl, fun _ => rfl, fun b => absurd b (by decide), fun _ => rfl, fun _ => rfl, fun _ => rfl, fun _ => rfl, fun _ => rfl, fun _ => rfl, fun _ => rfl, fun _ => rfl, fun _ => rfl, fun _ => rfl, fun _ => rfl, fun _ => rfl, fun _ => rfl, fun _ => rfl, fun _ => rfl, fun _ => rfl, fun _ => rfl, fun _ => rfl, fun _ => rfl, fun _ => rfl, fun _ => rfl, fun _ => rfl, fun _ => rfl, fun _ => rfl, fun _ => rfl, fun _ => rfl, fun _ => rfl, fun _ => rfl, fun _ => rfl, fun _ => rfl, fun _ => rfl, fun _ => rfl, fun _ => rfl, fun _ => rfl, fun _ => rfl, fun _ => rfl, fun _ => rfl, fun _ => rfl, fun _ => rfl, fun _ => rfl, fun _ => rfl, fun _ => rfl, fun _ => rfl, fun _ => rfl, fun _ => rfl, fun _ => Or.inl rfl, fun _ => id, fun _ => h, fun _ _ => id, fun _ _ => id, fun _ => id, fun _ => id⟩) hk hs

theorem Moves.of_free {km : Nat} {s0 : State} (s : State) (x : _)
    (hk : km &&& 0xFFFFFFFFFFFFEF = km) (hs : Moves km s0 s) : Moves km s0 { s with free := x } :=
  Moves.comp (k1 := 0xFFFFFFFFFFFFEF) (t := s) (⟨fun _ => rfl, fun _ => rfl, fun _ => rfl, fun _ => rfl, fun b => absurd b (by decide), fun _ => rfl, fun _ => rfl, fun _ => rfl, fun _ => rfl, fun _ => rfl, fun _ => rfl, fun _ => rfl, fun _ => rfl, fun _ => rfl, fun _ => rfl, fun _ => rfl, fun _ => rfl, fun _ => rfl, fun _ => rfl, fun _ => rfl, fun _ => rfl, fun _ => rfl, fun _ => rfl, fun _ => rfl, fun _ => rfl, fun _ => rfl, fun _ => rfl, fun _ => rfl, fun _ => rfl, fun _ => rfl, fun _ => rfl, fun _ => rfl, fun _ => rfl, fun _ => rfl, fun _ => rfl, fun _ => rfl, fun _ => rfl, fun _ => rfl, fun _ => rfl, fun _ => rfl, fun _ => rfl, fun _ => rfl, fun _ => rfl, fun _ => rfl, fun _ => rfl, fun _ => rfl, fun _ => rfl, fun _ => rfl, fun _ => rfl, fun _ => Or.inl rfl, fun _ => id, fun _ => id, fun _ _ => id, fun _ _ => id, fun _ => id, fun _ => id⟩) hk hs

theorem Moves.of_resp {km : Nat} {s0 : State} (s : State) (x : _)
    (hk : km &&& 0xFFFFFFFFFFFFDF = km) (hs : Moves km s0 s) : Moves km s0 { s with resp := x } :=
  Moves.comp (k1 := 0xFFFFFFFFFFFFDF) (t := s) (⟨fun _ => rfl, fun _ => rfl, fun _ => rfl, fun _ => rfl, fun _ => rfl, fun b => absurd b (by decide), fun _ => rfl, fun _ => rfl, fun _ => rfl, fun _ => rfl, fun _ => rfl, fun _ => rfl, fun _ => rfl, fun _ => rfl, fun _ => rfl, fun _ => rfl, fun _ => rfl, fun _ => rfl, fun _ => rfl, fun _ => rfl, fun _ => rfl, fun _ => rfl, fun _ => rfl, fun _ => rfl, fun _ => rfl, fun _ => rfl, fun _ => rfl, fun _ => rfl, fun _ => rfl, fun _ => rfl, fun _ => rfl, fun _ => rfl, fun _ => rfl, fun _ => rfl, fun _ => rfl, fun _ => rfl, fun _ => rfl, fun _ => rfl, fun _ => rfl, fun _ => rfl, fun _ => rfl, fun _ => rfl, fun _ => rfl, fun _ => rfl, fun _ => rfl, fun _ => rfl, fun _ => rfl, fun _ => rfl, fun _ => rfl, fun _ => Or.inl rfl, fun _ => id, fun _ => id, fun _ _ => id, fun _ _ => id, fun _ => id, fun _ => id⟩) hk hs

theorem Moves.of_masters {km : Nat} {s0 : State} (s : State) (x : _) (hl : x.length = s.masters.length)
    (hk : km &&& 0xFFFFFFFFFFFFBF = km) (hs : Moves km s0 s) : Moves km s0 { s with masters := x } :=
  Moves.comp (k1 := 0xFFFFFFFFFFFFBF) (t := s) (⟨fun _ => rfl, fun _ => rfl, fun _ => rfl, fun _ => rfl, fun _ => rfl, fun _ => rfl, fun b => absurd b (by decide), fun _ => rfl, fun _ => rfl, fun _ => rfl, fun _ => rfl, fun _ => rfl, fun _ => rfl, fun _ => rfl, fun _ => rfl, fun _ => rfl, fun _ => rfl, fun _ => rfl, fun _ => rfl, fun _ => rfl, fun _ => rfl, fun _ => rfl, fun _ => rfl, fun _ => rfl, fun _ => rfl, fun _ => rfl, fun _ => rfl, fun _ => rfl, fun _ => rfl, fun _ => rfl, fun _ => rfl, fun _ => rfl, fun _ => rfl, fun _ => rfl, fun _ => rfl, fun _ => rfl, fun _ => rfl, fun _ => rfl, fun _ => rfl, fun _ => rfl, fun _ => rfl, fun _ => rfl, fun _ => rfl, fun _ => rfl, fun _ => rfl, fun _ => rfl, fun _ => rfl, fun _ => rfl, fun _ => rfl, fun _ => Or.inl rfl, fun _ => id, fun _ => id, fun _ _ => id, fun _ _ => id, fun _ => id, fun _ => by simp only [State.shaped, hl]; exact id⟩) hk hs

theorem Moves.of_raised {km : Nat} {s0 : State} (s : State) (x : _)
    (hk : km &&& 0xFFFFFFFFFFFF7F = km) (hs : Moves km s0 s) : Moves km s0 { s with raised := x } :=
  Moves.comp (k1 := 0xFFFFFFFFFFFF7F) (t := s) (⟨fun _ => rfl, fun _ => rfl, fun _ => rfl, fun _ => rfl, fun _ => rfl, fun _ => rfl, fun _ => rfl, fun b => absurd b (by decide), fun _ => rfl, fun _ => rfl, fun _ => rfl, fun _ => rfl, fun _ => rfl, fun _ => rfl, fun _ => rfl, fun _ => rfl, fun _ => rfl, fun _ => rfl, fun _ => rfl, fun _ => rfl, fun _ => rfl, fun _ => rfl, fun _ => rfl, fun _ => rfl, fun _ => rfl, fun _ => rfl, fun _ => rfl, fun _ => rfl, fun _ => rfl, fun _ => rfl, fun _ => rfl, fun _ => rfl, fun _ => rfl, fun _ => rfl, fun _ => rfl, fun _ => rfl, fun _ => rfl, fun _ => rfl, fun _ => rfl, fun _ => rfl, fun _ => rfl, fun _ => rfl, fun _ => rfl, fun _ => rfl, fun _ => rfl, fun _ => rfl, fun _ => rfl, fun _ => rfl, fun _ => rfl, fun _ => Or.inl rfl, fun _ => id, fun _ => id, fun _ _ => id, fun _ _ => id, fun _ => id, fun _ => id⟩) hk hs

theorem Moves.of_postNet {km : Nat} {s0 : State} (s : State) (x : _)
    (hk : km &&& 0xFFFFFFFFFFFEFF = km) (hs : Moves km s0 s) : Moves km s0 { s with postNet := x } :=
  Moves.comp (k1 := 0xFFFFFFFFFFFEFF) (t := s) (⟨fun _ => rfl, fun _ => rfl, fun _ => rfl, fun _ => rfl, fun _ => rfl, fun _ => rfl, fun _ => rfl, fun _ => rfl, fun b => absurd b (by decide), fun _ => rfl, fun _ => rfl, fun _ => rfl, fun _ => rfl, fun _ => rfl, fun _ => rfl, fun _ => rfl, fun _ => rfl, fun _ => rfl, fun _ => rfl, fun _ => rfl, fun _ => rfl, fun _ => rfl, fun _ => rfl, fun _ => rfl, fun _ => rfl, fun _ => rfl, fun _ => rfl, fun _ => rfl, fun _ => rfl, fun _ => rfl, fun _ => rfl, fun _ => rfl, fun _ => rfl, fun _ => rfl, fun _ => rfl, fun _ => rfl, fun _ => rfl, fun _ => rfl, fun _ => rfl, fun _ => rfl, fun _ => rfl, fun _ => rfl, fun _ => rfl, fun _ => rfl, fun _ => rfl, fun _ => rfl, fun _ => rfl, fun _ => rfl, fun _ => rfl, fun _ => Or.inl rfl, fun _ => id, fun _ => id, fun _ _ => id, fun _ _ => id, fun _ => id, fun _ => id⟩) hk hs

theorem Moves.of_postTurn {km : Nat} {s0 : State} (s : State) (x : _)
    (hk : km &&& 0xFFFFFFFFFFFDFF = km) (hs : Moves km s0 s) : Moves km s0 { s with postTurn := x } :=
  Moves.comp (k1 := 0xFFFFFFFFFFFDFF) (t := s) (⟨fun _ => rfl, fun _ => rfl, fun _ => rfl, fun _ => rfl, fun _ => rfl, fun _ => rfl, fun _ => rfl, fun _ => rfl, fun _ => rfl, fun b => absurd b (by decide), fun _ => rfl, fun _ => rfl, fun _ => rfl, fun _ => rfl, fun _ => rfl, fun _ => rfl, fun _ => rfl, fun _ => rfl, fun _ => rfl, fun _ => rfl, fun _ => rfl, fun _ => rfl, fun _ => rfl, fun _ => rfl, fun _ => rfl, fun _ => rfl, fun _ => rfl, fun _ => rfl, fun _ => rfl, fun _ => rfl, fun _ => rfl, fun _ => rfl, fun _ => rfl, fun _ => rfl, fun _ => rfl, fun _ => rfl, fun _ => rfl, fun _ => rfl, fun _ => rfl, fun _ => rfl, fun _ => rfl, fun _ => rfl, fun _ => rfl, fun _ => rfl, fun _ => rfl, fun _ => rfl, fun _ => rfl, fun _ => rfl, fun _ => rfl, fun _ => Or.inl rfl, fun _ => id, fun _ => id, fun _ _ => id, fun _ _ => id, fun _ => id, fun _ => id⟩) hk hs

theorem Moves.of_clk {km : Nat} {s0 : State} (s : State) (x : _)
    (hk : km &&& 0xFFFFFFFFFFFBFF = km) (hs : Moves km s0 s) : Moves km s0 { s with clk := x } :=
  Moves.comp (k1 := 0xFFFFFFFFFFFBFF) (t := s) (⟨fun _ => rfl, fun _ => rfl, fun _ => rfl, fun _ => rfl, fun _ => rfl, fun _ => rfl, fun _ => rfl, fun _ => rfl, fun _ => rfl, fun _ => rfl, fun b => absurd b (by decide), fun _ => rfl, fun _ => rfl, fun _ => rfl, fun _ => rfl, fun _ => rfl, fun _ => rfl, fun _ => rfl, fun _ => rfl, fun _ => rfl, fun _ => rfl, fun _ => rfl, fun _ => rfl, fun _ => rfl, fun _ => rfl, fun _ => rfl, fun _ => rfl, fun _ => rfl, fun _ => rfl, fun _ => rfl, fun _ => rfl, fun _ => rfl, fun _ => rfl, fun _ => rfl, fun _ => rfl, fun _ => rfl, fun _ => rfl, fun _ => rfl, fun _ => rfl, fun _ => rfl, fun _ => rfl, fun _ => rfl, fun _ => rfl, fun _ => rfl, fun _ => rfl, fun _ => rfl, fun _ => rfl, fun _ => rfl, fun _ => rfl, fun _ => Or.inl rfl, fun _ => id, fun _ => id, fun _ _ => id, fun _ _ => id, fun _ => id, fun _ => id⟩) hk hs

theorem Moves.of_tide {km : Nat} {s0 : State} (s : State) (x : _) (hl : x.wheels.length = s.tide.wheels.length ∧ x.encoders.length = s.tide.encoders.length)
    (hk : km &&& 0xFFFFFFFFFFF7FF = km) (hs : Moves km s0 s) : Moves km s0 { s with tide := x } :=
  Moves.comp (k1 := 0xFFFFFFFFFFF7FF) (t := s) (⟨fun _ => rfl, fun _ => rfl, fun _ => rfl, fun _ => rfl, fun _ => rfl, fun _ => rfl, fun _ => rfl, fun _ => rfl, fun _ => rfl, fun _ => rfl, fun _ => rfl, fun b => absurd b (by decide), fun _ => rfl, fun _ => rfl, fun _ => rfl, fun _ => rfl, fun _ => rfl, fun _ => rfl, fun _ => rfl, fun _ => rfl, fun _ => rfl, fun _ => rfl, fun _ => rfl, fun _ => rfl, fun _ => rfl, fun _ => rfl, fun _ => rfl, fun _ => rfl, fun _ => rfl, fun _ => rfl, fun _ => rfl, fun _ => rfl, fun _ => rfl, fun _ => rfl, fun _ => rfl, fun _ => rfl, fun _ => rfl, fun _ => rfl, fun _ => rfl, fun _ => rfl, fun _ => rfl, fun _ => rfl, fun _ => rfl, fun _ => rfl, fun _ => rfl, fun _ => rfl, fun _ => rfl, fun _ => rfl, fun _ => rfl, fun _ => Or.inl rfl, fun _ => id, fun _ => id, fun _ _ => id, fun _ _ => id, fun _ => id, fun _ => by simp only [State.shaped, hl]; exact id⟩) hk hs

theorem Moves.of_engines {km : Nat} {s0 : State} (s : State) (x : _) (hl : x.length = s.engines.length)
    (hk : km &&& 0xFFFFFFFFFFEFFF = km) (hs : Moves km s0 s) : Moves km s0 { s with engines := x } :=
  Moves.comp (k1 := 0xFFFFFFFFFFEFFF) (t := s) (⟨fun _ => rfl, fun _ => rfl, fun _ => rfl, fun _ => rfl, fun _ => rfl, fun _ => rfl, fun _ => rfl, fun _ => rfl, fun _ => rfl, fun _ => rfl, fun _ => rfl, fun _ => rfl, fun b => absurd b (by decide), fun _ => rfl, fun _ => rfl, fun _ => rfl, fun _ => rfl, fun _ => rfl, fun _ => rfl, fun _ => rfl, fun _ => rfl, fun _ => rfl, fun _ => rfl, fun _ => rfl, fun _ => rfl, fun _ => rfl, fun _ => rfl, fun _ => rfl, fun _ => rfl, fun _ => rfl, fun _ => rfl, fun _ => rfl, fun _ => rfl, fun _ => rfl, fun _ => rfl, fun _ => rfl, fun _ => rfl, fun _ => rfl, fun _ => rfl, fun _ => rfl, fun _ => rfl, fun _ => rfl, fun _ => rfl, fun _ => rfl, fun _ => rfl, fun _ => rfl, fun _ => rfl, fun _ => rfl, fun _ => rfl, fun _ => Or.inl rfl, fun _ => id, fun _ => id, fun _ _ => id, fun _ _ => id, fun _ => id, fun _ => by simp only [State.shaped, hl]; exact id⟩) hk hs

theorem Moves.of_pool {km : Nat} {s0 : State} (s : State) (x : _)
    (hk : km &&& 0xFFFFFFFFFFDFFF = km) (hs : Moves km s0 s) : Moves km s0 { s with pool := x } :=
  Moves.comp (k1 := 0xFFFFFFFFFFDFFF) (t := s) (⟨fun _ => rfl, fun _ => rfl, fun _ => rfl, fun _ => rfl, fun _ => rfl, fun _ => rfl, fun _ => rfl, fun _ => rfl, fun _ => rfl, fun _ => rfl, fun _ => rfl, fun _ => rfl, fun _ => rfl, fun b => absurd b (by decide), fun _ => rfl, fun _ => rfl, fun _ => rfl, fun _ => rfl, fun _ => rfl, fun _ => rfl, fun _ => rfl, fun _ => rfl, fun _ => rfl, fun _ => rfl, fun _ => rfl, fun _ => rfl, fun _ => rfl, fun _ => rfl, fun _ => rfl, fun _ => rfl, fun _ => rfl, fun _ => rfl, fun _ => rfl, fun _ => rfl, fun _ => rfl, fun _ => rfl, fun _ => rfl, fun _ => rfl, fun _ => rfl, fun _ => rfl, fun _ => rfl, fun _ => rfl, fun _ => rfl, fun _ => rfl, fun _ => rfl, fun _ => rfl, fun _ => rfl, fun _ => rfl, fun _ => rfl, fun _ => Or.inl rfl, fun _ => id, fun _ => id, fun _ _ => id, fun _ _ => id, fun _ => id, fun _ => id⟩) hk hs

theorem Moves.of_posted {km : Nat} {s0 : State} (s : State) (x : _)
    (hk : km &&& 0xFFFFFFFFFFBFFF = km) (hs : Moves km s0 s) : Moves km s0 { s with posted := x } :=
  Moves.comp (k1 := 0xFFFFFFFFFFBFFF) (t := s) (⟨fun _ => rfl, fun _ => rfl, fun _ => rfl, fun _ => rfl, fun _ => rfl, fun _ => rfl, fun _ => rfl, fun _ => rfl, fun _ => rfl, fun _ => rfl, fun _ => rfl, fun _ => rfl, fun _ => rfl, fun _ => rfl, fun b => absurd b (by decide), fun _ => rfl, fun _ => rfl, fun _ => rfl, fun _ => rfl, fun _ => rfl, fun _ => rfl, fun _ => rfl, fun _ => rfl, fun _ => rfl, fun _ => rfl, fun _ => rfl, fun _ => rfl, fun _ => rfl, fun _ => rfl, fun _ => rfl, fun _ => rfl, fun _ => rfl, fun _ => rfl, fun _ => rfl, fun _ => rfl, fun _ => rfl, fun _ => rfl, fun _ => rfl, fun _ => rfl, fun _ => rfl, fun _ => rfl, fun _ => rfl, fun _ => rfl, fun _ => rfl, fun _ => rfl, fun _ => rfl, fun _ => rfl, fun _ => rfl, fun _ => rfl, fun _ => Or.inl rfl, fun _ => id, fun _ => id, fun _ _ => id, fun _ _ => id, fun _ => id, fun _ => id⟩) hk hs

theorem Moves.of_ports {km : Nat} {s0 : State} (s : State) (x : _) (hl : x.length = s.ports.length)
    (hk : km &&& 0xFFFFFFFFFF7FFF = km) (hs : Moves km s0 s) : Moves km s0 { s with ports := x } :=
  Moves.comp (k1 := 0xFFFFFFFFFF7FFF) (t := s) (⟨fun _ => rfl, fun _ => rfl, fun _ => rfl, fun _ => rfl, fun _ => rfl, fun _ => rfl, fun _ => rfl, fun _ => rfl, fun _ => rfl, fun _ => rfl, fun _ => rfl, fun _ => rfl, fun _ => rfl, fun _ => rfl, fun _ => rfl, fun b => absurd b (by decide), fun _ => rfl, fun _ => rfl, fun _ => rfl, fun _ => rfl, fun _ => rfl, fun _ => rfl, fun _ => rfl, fun _ => rfl, fun _ => rfl, fun _ => rfl, fun _ => rfl, fun _ => rfl, fun _ => rfl, fun _ => rfl, fun _ => rfl, fun _ => rfl, fun _ => rfl, fun _ => rfl, fun _ => rfl, fun _ => rfl, fun _ => rfl, fun _ => rfl, fun _ => rfl, fun _ => rfl, fun _ => rfl, fun _ => rfl, fun _ => rfl, fun _ => rfl, fun _ => rfl, fun _ => rfl, fun _ => rfl, fun _ => rfl, fun _ => rfl, fun _ => Or.inl rfl, fun _ => id, fun _ => id, fun _ _ => id, fun _ _ => id, fun _ => id, fun _ => by simp only [State.shaped, hl]; exact id⟩) hk hs

theorem Moves.of_dbg {km : Nat} {s0 : State} (s : State) (x : _)
    (hk : km &&& 0xFFFFFFFFFEFFFF = km) (hs : Moves km s0 s) : Moves km s0 { s with dbg := x } :=
  Moves.comp (k1 := 0xFFFFFFFFFEFFFF) (t := s) (⟨fun _ => rfl, fun _ => rfl, fun _ => rfl, fun _ => rfl, fun _ => rfl, fun _ => rfl, fun _ => rfl, fun _ => rfl, fun _ => rfl, fun _ => rfl, fun _ => rfl, fun _ => rfl, fun _ => rfl, fun _ => rfl, fun _ => rfl, fun _ => rfl, fun b => absurd b (by decide), fun _ => rfl, fun _ => rfl, fun _ => rfl, fun _ => rfl, fun _ => rfl, fun _ => rfl, fun _ => rfl, fun _ => rfl, fun _ => rfl, fun _ => rfl, fun _ => rfl, fun _ => rfl, fun _ => rfl, fun _ => rfl, fun _ => rfl, fun _ => rfl, fun _ => rfl, fun _ => rfl, fun _ => rfl, fun _ => rfl, fun _ => rfl, fun _ => rfl, fun _ => rfl, fun _ => rfl, fun _ => rfl, fun _ => rfl, fun _ => rfl, fun _ => rfl, fun _ => rfl, fun _ => rfl, fun _ => rfl, fun _ => rfl, fun _ => Or.inl rfl, fun _ => id, fun _ => id, fun _ _ => id, fun _ _ => id, fun _ => id, fun _ => id⟩) hk hs

theorem Moves.of_ecc {km : Nat} {s0 : State} (s : State) (x : _)
    (hk : km &&& 0xFFFFFFFFFDFFFF = km) (hs : Moves km s0 s) : Moves km s0 { s with ecc := x } :=
  Moves.comp (k1 := 0xFFFFFFFFFDFFFF) (t := s) (⟨fun _ => rfl, fun _ => rfl, fun _ => rfl, fun _ => rfl, fun _ => rfl, fun _ => rfl, fun _ => rfl, fun _ => rfl, fun _ => rfl, fun _ => rfl, fun _ => rfl, fun _ => rfl, fun _ => rfl, fun _ => rfl, fun _ => rfl, fun _ => rfl, fun _ => rfl, fun b => absurd b (by decide), fun _ => rfl, fun _ => rfl, fun _ => rfl, fun _ => rfl, fun _ => rfl, fun _ => rfl, fun _ => rfl, fun _ => rfl, fun _ => rfl, fun _ => rfl, fun _ => rfl, fun _ => rfl, fun _ => rfl, fun _ => rfl, fun _ => rfl, fun _ => rfl, fun _ => rfl, fun _ => rfl, fun _ => rfl, fun _ => rfl, fun _ => rfl, fun _ => rfl, fun _ => rfl, fun _ => rfl, fun _ => rfl, fun _ => rfl, fun _ => rfl, fun _ => rfl, fun _ => rfl, fun _ => rfl, fun _ => rfl, fun _ => Or.inl rfl, fun _ => id, fun _ => id, fun _ _ => id, fun _ _ => id, fun _ => id, fun _ => id⟩) hk hs

theorem Moves.of_startup {km : Nat} {s0 : State} (s : State) (x : _)
    (hk : km &&& 0xFFFFFFFFFBFFFF = km) (hs : Moves km s0 s) : Moves km s0 { s with startup := x } :=
  Moves.comp (k1 := 0xFFFFFFFFFBFFFF) (t := s) (⟨fun _ => rfl, fun _ => rfl, fun _ => rfl, fun _ => rfl, fun _ => rfl, fun _ => rfl, fun _ => rfl, fun _ => rfl, fun _ => rfl, fun _ => rfl, fun _ => rfl, fun _ => rfl, fun _ => rfl, fun _ => rfl, fun _ => rfl, fun _ => rfl, fun _ => rfl, fun _ => rfl, fun b => absurd b (by decide), fun _ => rfl, fun _ => rfl, fun _ => rfl, fun _ => rfl, fun _ => rfl, fun _ => rfl, fun _ => rfl, fun _ => rfl, fun _ => rfl, fun _ => rfl, fun _ => rfl, fun _ => rfl, fun _ => rfl, fun _ => rfl, fun _ => rfl, fun _ => rfl, fun _ => rfl, fun _ => rfl, fun _ => rfl, fun _ => rfl, fun _ => rfl, fun _ => rfl, fun _ => rfl, fun _ => rfl, fun _ => rfl, fun _ => rfl, fun _ => rfl, fun _ => rfl, fun _ => rfl, fun _ => rfl, fun _ => Or.inl rfl, fun _ => id, fun _ => id, fun _ _ => id, fun _ _ => id, fun _ => id, fun _ => id⟩) hk hs

theorem Moves.of_fm {km : Nat} {s0 : State} (s : State) (x : _) (hl : x.tasks.length = s.fm.tasks.length)
    (hk : km &&& 0xFFFFFFFFF7FFFF = km) (hs : Moves km s0 s) : Moves km s0 { s with fm := x } :=
  Moves.comp (k1 := 0xFFFFFFFFF7FFFF) (t := s) (⟨fun _ => rfl, fun _ => rfl, fun _ => rfl, fun _ => rfl, fun _ => rfl, fun _ => rfl, fun _ => rfl, fun _ => rfl, fun _ => rfl, fun _ => rfl, fun _ => rfl, fun _ => rfl, fun _ => rfl, fun _ => rfl, fun _ => rfl, fun _ => rfl, fun _ => rfl, fun _ => rfl, fun _ => rfl, fun b => absurd b (by decide), fun _ => rfl, fun _ => rfl, fun _ => rfl, fun _ => rfl, fun _ => rfl, fun _ => rfl, fun _ => rfl, fun _ => rfl, fun _ => rfl, fun _ => rfl, fun _ => rfl, fun _ => rfl, fun _ => rfl, fun _ => rfl, fun _ => rfl, fun _ => rfl, fun _ => rfl, fun _ => rfl, fun _ => rfl, fun _ => rfl, fun _ => rfl, fun _ => rfl, fun _ => rfl, fun _ => rfl, fun _ => rfl, fun _ => rfl, fun _ => rfl, fun _ => rfl, fun _ => rfl, fun _ => Or.inl rfl, fun _ => id, fun _ => id, fun _ _ => id, fun _ _ => id, fun _ => id, fun _ => by simp only [State.shaped, hl]; exact id⟩) hk hs

theorem Moves.of_irq {km : Nat} {s0 : State} (s : State) (x : _) (hl : x.gatherAt.length = s.irq.gatherAt.length)
    (hk : km &&& 0xFFFFFFFFEFFFFF = km) (hs : Moves km s0 s) : Moves km s0 { s with irq := x } :=
  Moves.comp (k1 := 0xFFFFFFFFEFFFFF) (t := s) (⟨fun _ => rfl, fun _ => rfl, fun _ => rfl, fun _ => rfl, fun _ => rfl, fun _ => rfl, fun _ => rfl, fun _ => rfl, fun _ => rfl, fun _ => rfl, fun _ => rfl, fun _ => rfl, fun _ => rfl, fun _ => rfl, fun _ => rfl, fun _ => rfl, fun _ => rfl, fun _ => rfl, fun _ => rfl, fun _ => rfl, fun b => absurd b (by decide), fun _ => rfl, fun _ => rfl, fun _ => rfl, fun _ => rfl, fun _ => rfl, fun _ => rfl, fun _ => rfl, fun _ => rfl, fun _ => rfl, fun _ => rfl, fun _ => rfl, fun _ => rfl, fun _ => rfl, fun _ => rfl, fun _ => rfl, fun _ => rfl, fun _ => rfl, fun _ => rfl, fun _ => rfl, fun _ => rfl, fun _ => rfl, fun _ => rfl, fun _ => rfl, fun _ => rfl, fun _ => rfl, fun _ => rfl, fun _ => rfl, fun _ => rfl, fun _ => Or.inl rfl, fun _ => id, fun _ => id, fun _ _ => id, fun _ _ => id, fun _ => id, fun _ => by simp only [State.shaped, hl]; exact id⟩) hk hs

theorem Moves.of_sense {km : Nat} {s0 : State} (s : State) (x : _) (hl : x.length = s.sense.length)
    (hk : km &&& 0xFFFFFFFFDFFFFF = km) (hs : Moves km s0 s) : Moves km s0 { s with sense := x } :=
  Moves.comp (k1 := 0xFFFFFFFFDFFFFF) (t := s) (⟨fun _ => rfl, fun _ => rfl, fun _ => rfl, fun _ => rfl, fun _ => rfl, fun _ => rfl, fun _ => rfl, fun _ => rfl, fun _ => rfl, fun _ => rfl, fun _ => rfl, fun _ => rfl, fun _ => rfl, fun _ => rfl, fun _ => rfl, fun _ => rfl, fun _ => rfl, fun _ => rfl, fun _ => rfl, fun _ => rfl, fun _ => rfl, fun b => absurd b (by decide), fun _ => rfl, fun _ => rfl, fun _ => rfl, fun _ => rfl, fun _ => rfl, fun _ => rfl, fun _ => rfl, fun _ => rfl, fun _ => rfl, fun _ => rfl, fun _ => rfl, fun _ => rfl, fun _ => rfl, fun _ => rfl, fun _ => rfl, fun _ => rfl, fun _ => rfl, fun _ => rfl, fun _ => rfl, fun _ => rfl, fun _ => rfl, fun _ => rfl, fun _ => rfl, fun _ => rfl, fun _ => rfl, fun _ => rfl, fun _ => rfl, fun _ => Or.inl rfl, fun _ => id, fun _ => id, fun _ _ => id, fun _ _ => id, fun _ => id, fun _ => by simp only [State.shaped, hl]; exact id⟩) hk hs

theorem Moves.of_phases {km : Nat} {s0 : State} (s : State) (x : _) (hl : x.length = s.phases.length) (hg : s.phases.all Phase.apart = true → x.all Phase.apart = true)
    (hk : km &&& 0xFFFFFFFFBFFFFF = km) (hs : Moves km s0 s) : Moves km s0 { s with phases := x } :=
  Moves.comp (k1 := 0xFFFFFFFFBFFFFF) (t := s) (⟨fun _ => rfl, fun _ => rfl, fun _ => rfl, fun _ => rfl, fun _ => rfl, fun _ => rfl, fun _ => rfl, fun _ => rfl, fun _ => rfl, fun _ => rfl, fun _ => rfl, fun _ => rfl, fun _ => rfl, fun _ => rfl, fun _ => rfl, fun _ => rfl, fun _ => rfl, fun _ => rfl, fun _ => rfl, fun _ => rfl, fun _ => rfl, fun _ => rfl, fun b => absurd b (by decide), fun _ => rfl, fun _ => rfl, fun _ => rfl, fun _ => rfl, fun _ => rfl, fun _ => rfl, fun _ => rfl, fun _ => rfl, fun _ => rfl, fun _ => rfl, fun _ => rfl, fun _ => rfl, fun _ => rfl, fun _ => rfl, fun _ => rfl, fun _ => rfl, fun _ => rfl, fun _ => rfl, fun _ => rfl, fun _ => rfl, fun _ => rfl, fun _ => rfl, fun _ => rfl, fun _ => rfl, fun _ => rfl, fun _ => rfl, fun _ => Or.inl rfl, fun _ => id, fun _ => id, fun _ _ => id, fun _ _ => id, fun _ => hg, fun _ => by simp only [State.shaped, hl]; exact id⟩) hk hs

theorem Moves.of_rails {km : Nat} {s0 : State} (s : State) (x : _) (hl : x.length = s.rails.length)
    (hk : km &&& 0xFFFFFFFF7FFFFF = km) (hs : Moves km s0 s) : Moves km s0 { s with rails := x } :=
  Moves.comp (k1 := 0xFFFFFFFF7FFFFF) (t := s) (⟨fun _ => rfl, fun _ => rfl, fun _ => rfl, fun _ => rfl, fun _ => rfl, fun _ => rfl, fun _ => rfl, fun _ => rfl, fun _ => rfl, fun _ => rfl, fun _ => rfl, fun _ => rfl, fun _ => rfl, fun _ => rfl, fun _ => rfl, fun _ => rfl, fun _ => rfl, fun _ => rfl, fun _ => rfl, fun _ => rfl, fun _ => rfl, fun _ => rfl, fun _ => rfl, fun b => absurd b (by decide), fun _ => rfl, fun _ => rfl, fun _ => rfl, fun _ => rfl, fun _ => rfl, fun _ => rfl, fun _ => rfl, fun _ => rfl, fun _ => rfl, fun _ => rfl, fun _ => rfl, fun _ => rfl, fun _ => rfl, fun _ => rfl, fun _ => rfl, fun _ => rfl, fun _ => rfl, fun _ => rfl, fun _ => rfl, fun _ => rfl, fun _ => rfl, fun _ => rfl, fun _ => rfl, fun _ => rfl, fun _ => rfl, fun _ => Or.inl rfl, fun _ => id, fun _ => id, fun _ _ => id, fun _ _ => id, fun _ => id, fun _ => by simp only [State.shaped, hl]; exact id⟩) hk hs

theorem Moves.of_measures {km : Nat} {s0 : State} (s : State) (x : _)
    (hk : km &&& 0xFFFFFFFEFFFFFF = km) (hs : Moves km s0 s) : Moves km s0 { s with measures := x } :=
  Moves.comp (k1 := 0xFFFFFFFEFFFFFF) (t := s) (⟨fun _ => rfl, fun _ => rfl, fun _ => rfl, fun _ => rfl, fun _ => rfl, fun _ => rfl, fun _ => rfl, fun _ => rfl, fun _ => rfl, fun _ => rfl, fun _ => rfl, fun _ => rfl, fun _ => rfl, fun _ => rfl, fun _ => rfl, fun _ => rfl, fun _ => rfl, fun _ => rfl, fun _ => rfl, fun _ => rfl, fun _ => rfl, fun _ => rfl, fun _ => rfl, fun _ => rfl, fun b => absurd b (by decide), fun _ => rfl, fun _ => rfl, fun _ => rfl, fun _ => rfl, fun _ => rfl, fun _ => rfl, fun _ => rfl, fun _ => rfl, fun _ => rfl, fun _ => rfl, fun _ => rfl, fun _ => rfl, fun _ => rfl, fun _ => rfl, fun _ => rfl, fun _ => rfl, fun _ => rfl, fun _ => rfl, fun _ => rfl, fun _ => rfl, fun _ => rfl, fun _ => rfl, fun _ => rfl, fun _ => rfl, fun _ => Or.inl rfl, fun _ => id, fun _ => id, fun _ _ => id, fun _ _ => id, fun _ => id, fun _ => id⟩) hk hs

theorem Moves.of_chg {km : Nat} {s0 : State} (s : State) (x : _)
    (hk : km &&& 0xFFFFFFFDFFFFFF = km) (hs : Moves km s0 s) : Moves km s0 { s with chg := x } :=
  Moves.comp (k1 := 0xFFFFFFFDFFFFFF) (t := s) (⟨fun _ => rfl, fun _ => rfl, fun _ => rfl, fun _ => rfl, fun _ => rfl, fun _ => rfl, fun _ => rfl, fun _ => rfl, fun _ => rfl, fun _ => rfl, fun _ => rfl, fun _ => rfl, fun _ => rfl, fun _ => rfl, fun _ => rfl, fun _ => rfl, fun _ => rfl, fun _ => rfl, fun _ => rfl, fun _ => rfl, fun _ => rfl, fun _ => rfl, fun _ => rfl, fun _ => rfl, fun _ => rfl, fun b => absurd b (by decide), fun _ => rfl, fun _ => rfl, fun _ => rfl, fun _ => rfl, fun _ => rfl, fun _ => rfl, fun _ => rfl, fun _ => rfl, fun _ => rfl, fun _ => rfl, fun _ => rfl, fun _ => rfl, fun _ => rfl, fun _ => rfl, fun _ => rfl, fun _ => rfl, fun _ => rfl, fun _ => rfl, fun _ => rfl, fun _ => rfl, fun _ => rfl, fun _ => rfl, fun _ => rfl, fun _ => Or.inl rfl, fun _ => id, fun _ => id, fun _ _ => id, fun _ _ => id, fun _ => id, fun _ => id⟩) hk hs

theorem Moves.of_aon {km : Nat} {s0 : State} (s : State) (x : _)
    (hk : km &&& 0xFFFFFFFBFFFFFF = km) (hs : Moves km s0 s) : Moves km s0 { s with aon := x } :=
  Moves.comp (k1 := 0xFFFFFFFBFFFFFF) (t := s) (⟨fun _ => rfl, fun _ => rfl, fun _ => rfl, fun _ => rfl, fun _ => rfl, fun _ => rfl, fun _ => rfl, fun _ => rfl, fun _ => rfl, fun _ => rfl, fun _ => rfl, fun _ => rfl, fun _ => rfl, fun _ => rfl, fun _ => rfl, fun _ => rfl, fun _ => rfl, fun _ => rfl, fun _ => rfl, fun _ => rfl, fun _ => rfl, fun _ => rfl, fun _ => rfl, fun _ => rfl, fun _ => rfl, fun _ => rfl, fun b => absurd b (by decide), fun _ => rfl, fun _ => rfl, fun _ => rfl, fun _ => rfl, fun _ => rfl, fun _ => rfl, fun _ => rfl, fun _ => rfl, fun _ => rfl, fun _ => rfl, fun _ => rfl, fun _ => rfl, fun _ => rfl, fun _ => rfl, fun _ => rfl, fun _ => rfl, fun _ => rfl, fun _ => rfl, fun _ => rfl, fun _ => rfl, fun _ => rfl, fun _ => rfl, fun _ => Or.inl rfl, fun _ => id, fun _ => id, fun _ _ => id, fun _ _ => id, fun _ => id, fun _ => id⟩) hk hs

theorem Moves.of_gauge {km : Nat} {s0 : State} (s : State) (x : _)
    (hk : km &&& 0xFFFFFFF7FFFFFF = km) (hs : Moves km s0 s) : Moves km s0 { s with gauge := x } :=
  Moves.comp (k1 := 0xFFFFFFF7FFFFFF) (t := s) (⟨fun _ => rfl, fun _ => rfl, fun _ => rfl, fun _ => rfl, fun _ => rfl, fun _ => rfl, fun _ => rfl, fun _ => rfl, fun _ => rfl, fun _ => rfl, fun _ => rfl, fun _ => rfl, fun _ => rfl, fun _ => rfl, fun _ => rfl, fun _ => rfl, fun _ => rfl, fun _ => rfl, fun _ => rfl, fun _ => rfl, fun _ => rfl, fun _ => rfl, fun _ => rfl, fun _ => rfl, fun _ => rfl, fun _ => rfl, fun _ => rfl, fun b => absurd b (by decide), fun _ => rfl, fun _ => rfl, fun _ => rfl, fun _ => rfl, fun _ => rfl, fun _ => rfl, fun _ => rfl, fun _ => rfl, fun _ => rfl, fun _ => rfl, fun _ => rfl, fun _ => rfl, fun _ => rfl, fun _ => rfl, fun _ => rfl, fun _ => rfl, fun _ => rfl, fun _ => rfl, fun _ => rfl, fun _ => rfl, fun _ => rfl, fun _ => Or.inl rfl, fun _ => id, fun _ => id, fun _ _ => id, fun _ _ => id, fun _ => id, fun _ => id⟩) hk hs

theorem Moves.of_nv {km : Nat} {s0 : State} (s : State) (x : _) (h : (∀ y ∈ s.nv.otp, y ∈ x.otp) ∧ (∀ y ∈ s.nv.fuses, y ∈ x.fuses))
    (hk : km &&& 0xFFFFFFEFFFFFFF = km) (hs : Moves km s0 s) : Moves km s0 { s with nv := x } :=
  Moves.comp (k1 := 0xFFFFFFEFFFFFFF) (t := s) (⟨fun _ => rfl, fun _ => rfl, fun _ => rfl, fun _ => rfl, fun _ => rfl, fun _ => rfl, fun _ => rfl, fun _ => rfl, fun _ => rfl, fun _ => rfl, fun _ => rfl, fun _ => rfl, fun _ => rfl, fun _ => rfl, fun _ => rfl, fun _ => rfl, fun _ => rfl, fun _ => rfl, fun _ => rfl, fun _ => rfl, fun _ => rfl, fun _ => rfl, fun _ => rfl, fun _ => rfl, fun _ => rfl, fun _ => rfl, fun _ => rfl, fun _ => rfl, fun b => absurd b (by decide), fun _ => rfl, fun _ => rfl, fun _ => rfl, fun _ => rfl, fun _ => rfl, fun _ => rfl, fun _ => rfl, fun _ => rfl, fun _ => rfl, fun _ => rfl, fun _ => rfl, fun _ => rfl, fun _ => rfl, fun _ => rfl, fun _ => rfl, fun _ => rfl, fun _ => rfl, fun _ => rfl, fun _ => rfl, fun _ => rfl, fun _ => Or.inl rfl, fun _ => id, fun _ => id, fun _ => h.1, fun _ => h.2, fun _ => id, fun _ => id⟩) hk hs

theorem Moves.of_hka {km : Nat} {s0 : State} (s : State) (x : _) (hl : x.length = s.hka.length)
    (hk : km &&& 0xFFFFFFDFFFFFFF = km) (hs : Moves km s0 s) : Moves km s0 { s with hka := x } :=
  Moves.comp (k1 := 0xFFFFFFDFFFFFFF) (t := s) (⟨fun _ => rfl, fun _ => rfl, fun _ => rfl, fun _ => rfl, fun _ => rfl, fun _ => rfl, fun _ => rfl, fun _ => rfl, fun _ => rfl, fun _ => rfl, fun _ => rfl, fun _ => rfl, fun _ => rfl, fun _ => rfl, fun _ => rfl, fun _ => rfl, fun _ => rfl, fun _ => rfl, fun _ => rfl, fun _ => rfl, fun _ => rfl, fun _ => rfl, fun _ => rfl, fun _ => rfl, fun _ => rfl, fun _ => rfl, fun _ => rfl, fun _ => rfl, fun _ => rfl, fun b => absurd b (by decide), fun _ => rfl, fun _ => rfl, fun _ => rfl, fun _ => rfl, fun _ => rfl, fun _ => rfl, fun _ => rfl, fun _ => rfl, fun _ => rfl, fun _ => rfl, fun _ => rfl, fun _ => rfl, fun _ => rfl, fun _ => rfl, fun _ => rfl, fun _ => rfl, fun _ => rfl, fun _ => rfl, fun _ => rfl, fun _ => Or.inl rfl, fun _ => id, fun _ => id, fun _ _ => id, fun _ _ => id, fun _ => id, fun _ => by simp only [State.shaped, hl]; exact id⟩) hk hs

theorem Moves.of_tacho {km : Nat} {s0 : State} (s : State) (x : _) (hl : x.length = s.tacho.length)
    (hk : km &&& 0xFFFFFFBFFFFFFF = km) (hs : Moves km s0 s) : Moves km s0 { s with tacho := x } :=
  Moves.comp (k1 := 0xFFFFFFBFFFFFFF) (t := s) (⟨fun _ => rfl, fun _ => rfl, fun _ => rfl, fun _ => rfl, fun _ => rfl, fun _ => rfl, fun _ => rfl, fun _ => rfl, fun _ => rfl, fun _ => rfl, fun _ => rfl, fun _ => rfl, fun _ => rfl, fun _ => rfl, fun _ => rfl, fun _ => rfl, fun _ => rfl, fun _ => rfl, fun _ => rfl, fun _ => rfl, fun _ => rfl, fun _ => rfl, fun _ => rfl, fun _ => rfl, fun _ => rfl, fun _ => rfl, fun _ => rfl, fun _ => rfl, fun _ => rfl, fun _ => rfl, fun b => absurd b (by decide), fun _ => rfl, fun _ => rfl, fun _ => rfl, fun _ => rfl, fun _ => rfl, fun _ => rfl, fun _ => rfl, fun _ => rfl, fun _ => rfl, fun _ => rfl, fun _ => rfl, fun _ => rfl, fun _ => rfl, fun _ => rfl, fun _ => rfl, fun _ => rfl, fun _ => rfl, fun _ => rfl, fun _ => Or.inl rfl, fun _ => id, fun _ => id, fun _ _ => id, fun _ _ => id, fun _ => id, fun _ => by simp only [State.shaped, hl]; exact id⟩) hk hs

theorem Moves.of_sup {km : Nat} {s0 : State} (s : State) (x : _) (hl : x.regs.length = s.sup.regs.length)
    (hk : km &&& 0xFFFFFF7FFFFFFF = km) (hs : Moves km s0 s) : Moves km s0 { s with sup := x } :=
  Moves.comp (k1 := 0xFFFFFF7FFFFFFF) (t := s) (⟨fun _ => rfl, fun _ => rfl, fun _ => rfl, fun _ => rfl, fun _ => rfl, fun _ => rfl, fun _ => rfl, fun _ => rfl, fun _ => rfl, fun _ => rfl, fun _ => rfl, fun _ => rfl, fun _ => rfl, fun _ => rfl, fun _ => rfl, fun _ => rfl, fun _ => rfl, fun _ => rfl, fun _ => rfl, fun _ => rfl, fun _ => rfl, fun _ => rfl, fun _ => rfl, fun _ => rfl, fun _ => rfl, fun _ => rfl, fun _ => rfl, fun _ => rfl, fun _ => rfl, fun _ => rfl, fun _ => rfl, fun b => absurd b (by decide), fun _ => rfl, fun _ => rfl, fun _ => rfl, fun _ => rfl, fun _ => rfl, fun _ => rfl, fun _ => rfl, fun _ => rfl, fun _ => rfl, fun _ => rfl, fun _ => rfl, fun _ => rfl, fun _ => rfl, fun _ => rfl, fun _ => rfl, fun _ => rfl, fun _ => rfl, fun _ => Or.inl rfl, fun _ => id, fun _ => id, fun _ _ => id, fun _ _ => id, fun _ => id, fun _ => by simp only [State.shaped, hl]; exact id⟩) hk hs

theorem Moves.of_gds {km : Nat} {s0 : State} (s : State) (x : _) (hl : x.length = s.gds.length)
    (hk : km &&& 0xFFFFFEFFFFFFFF = km) (hs : Moves km s0 s) : Moves km s0 { s with gds := x } :=
  Moves.comp (k1 := 0xFFFFFEFFFFFFFF) (t := s) (⟨fun _ => rfl, fun _ => rfl, fun _ => rfl, fun _ => rfl, fun _ => rfl, fun _ => rfl, fun _ => rfl, fun _ => rfl, fun _ => rfl, fun _ => rfl, fun _ => rfl, fun _ => rfl, fun _ => rfl, fun _ => rfl, fun _ => rfl, fun _ => rfl, fun _ => rfl, fun _ => rfl, fun _ => rfl, fun _ => rfl, fun _ => rfl, fun _ => rfl, fun _ => rfl, fun _ => rfl, fun _ => rfl, fun _ => rfl, fun _ => rfl, fun _ => rfl, fun _ => rfl, fun _ => rfl, fun _ => rfl, fun _ => rfl, fun b => absurd b (by decide), fun _ => rfl, fun _ => rfl, fun _ => rfl, fun _ => rfl, fun _ => rfl, fun _ => rfl, fun _ => rfl, fun _ => rfl, fun _ => rfl, fun _ => rfl, fun _ => rfl, fun _ => rfl, fun _ => rfl, fun _ => rfl, fun _ => rfl, fun _ => rfl, fun _ => Or.inl rfl, fun _ => id, fun _ => id, fun _ _ => id, fun _ _ => id, fun _ => id, fun _ => by simp only [State.shaped, hl]; exact id⟩) hk hs

theorem Moves.of_seq {km : Nat} {s0 : State} (s : State) (x : _) (hl : x.slots.length = s.seq.slots.length)
    (hk : km &&& 0xFFFFFDFFFFFFFF = km) (hs : Moves km s0 s) : Moves km s0 { s with seq := x } :=
  Moves.comp (k1 := 0xFFFFFDFFFFFFFF) (t := s) (⟨fun _ => rfl, fun _ => rfl, fun _ => rfl, fun _ => rfl, fun _ => rfl, fun _ => rfl, fun _ => rfl, fun _ => rfl, fun _ => rfl, fun _ => rfl, fun _ => rfl, fun _ => rfl, fun _ => rfl, fun _ => rfl, fun _ => rfl, fun _ => rfl, fun _ => rfl, fun _ => rfl, fun _ => rfl, fun _ => rfl, fun _ => rfl, fun _ => rfl, fun _ => rfl, fun _ => rfl, fun _ => rfl, fun _ => rfl, fun _ => rfl, fun _ => rfl, fun _ => rfl, fun _ => rfl, fun _ => rfl, fun _ => rfl, fun _ => rfl, fun b => absurd b (by decide), fun _ => rfl, fun _ => rfl, fun _ => rfl, fun _ => rfl, fun _ => rfl, fun _ => rfl, fun _ => rfl, fun _ => rfl, fun _ => rfl, fun _ => rfl, fun _ => rfl, fun _ => rfl, fun _ => rfl, fun _ => rfl, fun _ => rfl, fun _ => Or.inl rfl, fun _ => id, fun _ => id, fun _ _ => id, fun _ _ => id, fun _ => id, fun _ => by simp only [State.shaped, hl]; exact id⟩) hk hs

theorem Moves.of_dom {km : Nat} {s0 : State} (s : State) (x : _)
    (hk : km &&& 0xFFFFFBFFFFFFFF = km) (hs : Moves km s0 s) : Moves km s0 { s with dom := x } :=
  Moves.comp (k1 := 0xFFFFFBFFFFFFFF) (t := s) (⟨fun _ => rfl, fun _ => rfl, fun _ => rfl, fun _ => rfl, fun _ => rfl, fun _ => rfl, fun _ => rfl, fun _ => rfl, fun _ => rfl, fun _ => rfl, fun _ => rfl, fun _ => rfl, fun _ => rfl, fun _ => rfl, fun _ => rfl, fun _ => rfl, fun _ => rfl, fun _ => rfl, fun _ => rfl, fun _ => rfl, fun _ => rfl, fun _ => rfl, fun _ => rfl, fun _ => rfl, fun _ => rfl, fun _ => rfl, fun _ => rfl, fun _ => rfl, fun _ => rfl, fun _ => rfl, fun _ => rfl, fun _ => rfl, fun _ => rfl, fun _ => rfl, fun b => absurd b (by decide), fun _ => rfl, fun _ => rfl, fun _ => rfl, fun _ => rfl, fun _ => rfl, fun _ => rfl, fun _ => rfl, fun _ => rfl, fun _ => rfl, fun _ => rfl, fun _ => rfl, fun _ => rfl, fun _ => rfl, fun _ => rfl, fun _ => Or.inl rfl, fun _ => id, fun _ => id, fun _ _ => id, fun _ _ => id, fun _ => id, fun _ => id⟩) hk hs

theorem Moves.of_can {km : Nat} {s0 : State} (s : State) (x : _) (hl : x.length = s.can.length)
    (hk : km &&& 0xFFFFF7FFFFFFFF = km) (hs : Moves km s0 s) : Moves km s0 { s with can := x } :=
  Moves.comp (k1 := 0xFFFFF7FFFFFFFF) (t := s) (⟨fun _ => rfl, fun _ => rfl, fun _ => rfl, fun _ => rfl, fun _ => rfl, fun _ => rfl, fun _ => rfl, fun _ => rfl, fun _ => rfl, fun _ => rfl, fun _ => rfl, fun _ => rfl, fun _ => rfl, fun _ => rfl, fun _ => rfl, fun _ => rfl, fun _ => rfl, fun _ => rfl, fun _ => rfl, fun _ => rfl, fun _ => rfl, fun _ => rfl, fun _ => rfl, fun _ => rfl, fun _ => rfl, fun _ => rfl, fun _ => rfl, fun _ => rfl, fun _ => rfl, fun _ => rfl, fun _ => rfl, fun _ => rfl, fun _ => rfl, fun _ => rfl, fun _ => rfl, fun b => absurd b (by decide), fun _ => rfl, fun _ => rfl, fun _ => rfl, fun _ => rfl, fun _ => rfl, fun _ => rfl, fun _ => rfl, fun _ => rfl, fun _ => rfl, fun _ => rfl, fun _ => rfl, fun _ => rfl, fun _ => rfl, fun _ => Or.inl rfl, fun _ => id, fun _ => id, fun _ _ => id, fun _ _ => id, fun _ => id, fun _ => by simp only [State.shaped, hl]; exact id⟩) hk hs

theorem Moves.of_agent {km : Nat} {s0 : State} (s : State) (x : _)
    (hk : km &&& 0xFFFFEFFFFFFFFF = km) (hs : Moves km s0 s) : Moves km s0 { s with agent := x } :=
  Moves.comp (k1 := 0xFFFFEFFFFFFFFF) (t := s) (⟨fun _ => rfl, fun _ => rfl, fun _ => rfl, fun _ => rfl, fun _ => rfl, fun _ => rfl, fun _ => rfl, fun _ => rfl, fun _ => rfl, fun _ => rfl, fun _ => rfl, fun _ => rfl, fun _ => rfl, fun _ => rfl, fun _ => rfl, fun _ => rfl, fun _ => rfl, fun _ => rfl, fun _ => rfl, fun _ => rfl, fun _ => rfl, fun _ => rfl, fun _ => rfl, fun _ => rfl, fun _ => rfl, fun _ => rfl, fun _ => rfl, fun _ => rfl, fun _ => rfl, fun _ => rfl, fun _ => rfl, fun _ => rfl, fun _ => rfl, fun _ => rfl, fun _ => rfl, fun _ => rfl, fun b => absurd b (by decide), fun _ => rfl, fun _ => rfl, fun _ => rfl, fun _ => rfl, fun _ => rfl, fun _ => rfl, fun _ => rfl, fun _ => rfl, fun _ => rfl, fun _ => rfl, fun _ => rfl, fun _ => rfl, fun _ => Or.inl rfl, fun _ => id, fun _ => id, fun _ _ => id, fun _ _ => id, fun _ => id, fun _ => id⟩) hk hs

theorem Moves.of_bulk {km : Nat} {s0 : State} (s : State) (x : _)
    (hk : km &&& 0xFFFFDFFFFFFFFF = km) (hs : Moves km s0 s) : Moves km s0 { s with bulk := x } :=
  Moves.comp (k1 := 0xFFFFDFFFFFFFFF) (t := s) (⟨fun _ => rfl, fun _ => rfl, fun _ => rfl, fun _ => rfl, fun _ => rfl, fun _ => rfl, fun _ => rfl, fun _ => rfl, fun _ => rfl, fun _ => rfl, fun _ => rfl, fun _ => rfl, fun _ => rfl, fun _ => rfl, fun _ => rfl, fun _ => rfl, fun _ => rfl, fun _ => rfl, fun _ => rfl, fun _ => rfl, fun _ => rfl, fun _ => rfl, fun _ => rfl, fun _ => rfl, fun _ => rfl, fun _ => rfl, fun _ => rfl, fun _ => rfl, fun _ => rfl, fun _ => rfl, fun _ => rfl, fun _ => rfl, fun _ => rfl, fun _ => rfl, fun _ => rfl, fun _ => rfl, fun _ => rfl, fun b => absurd b (by decide), fun _ => rfl, fun _ => rfl, fun _ => rfl, fun _ => rfl, fun _ => rfl, fun _ => rfl, fun _ => rfl, fun _ => rfl, fun _ => rfl, fun _ => rfl, fun _ => rfl, fun _ => Or.inl rfl, fun _ => id, fun _ => id, fun _ _ => id, fun _ _ => id, fun _ => id, fun _ => id⟩) hk hs

theorem Moves.of_auth {km : Nat} {s0 : State} (s : State) (x : _)
    (hk : km &&& 0xFFFFBFFFFFFFFF = km) (hs : Moves km s0 s) : Moves km s0 { s with auth := x } :=
  Moves.comp (k1 := 0xFFFFBFFFFFFFFF) (t := s) (⟨fun _ => rfl, fun _ => rfl, fun _ => rfl, fun _ => rfl, fun _ => rfl, fun _ => rfl, fun _ => rfl, fun _ => rfl, fun _ => rfl, fun _ => rfl, fun _ => rfl, fun _ => rfl, fun _ => rfl, fun _ => rfl, fun _ => rfl, fun _ => rfl, fun _ => rfl, fun _ => rfl, fun _ => rfl, fun _ => rfl, fun _ => rfl, fun _ => rfl, fun _ => rfl, fun _ => rfl, fun _ => rfl, fun _ => rfl, fun _ => rfl, fun _ => rfl, fun _ => rfl, fun _ => rfl, fun _ => rfl, fun _ => rfl, fun _ => rfl, fun _ => rfl, fun _ => rfl, fun _ => rfl, fun _ => rfl, fun _ => rfl, fun b => absurd b (by decide), fun _ => rfl, fun _ => rfl, fun _ => rfl, fun _ => rfl, fun _ => rfl, fun _ => rfl, fun _ => rfl, fun _ => rfl, fun _ => rfl, fun _ => rfl, fun _ => Or.inl rfl, fun _ => id, fun _ => id, fun _ _ => id, fun _ _ => id, fun _ => id, fun _ => id⟩) hk hs

theorem Moves.of_twb {km : Nat} {s0 : State} (s : State) (x : _) (hl : x.length = s.twb.length)
    (hk : km &&& 0xFFFF7FFFFFFFFF = km) (hs : Moves km s0 s) : Moves km s0 { s with twb := x } :=
  Moves.comp (k1 := 0xFFFF7FFFFFFFFF) (t := s) (⟨fun _ => rfl, fun _ => rfl, fun _ => rfl, fun _ => rfl, fun _ => rfl, fun _ => rfl, fun _ => rfl, fun _ => rfl, fun _ => rfl, fun _ => rfl, fun _ => rfl, fun _ => rfl, fun _ => rfl, fun _ => rfl, fun _ => rfl, fun _ => rfl, fun _ => rfl, fun _ => rfl, fun _ => rfl, fun _ => rfl, fun _ => rfl, fun _ => rfl, fun _ => rfl, fun _ => rfl, fun _ => rfl, fun _ => rfl, fun _ => rfl, fun _ => rfl, fun _ => rfl, fun _ => rfl, fun _ => rfl, fun _ => rfl, fun _ => rfl, fun _ => rfl, fun _ => rfl, fun _ => rfl, fun _ => rfl, fun _ => rfl, fun _ => rfl, fun b => absurd b (by decide), fun _ => rfl, fun _ => rfl, fun _ => rfl, fun _ => rfl, fun _ => rfl, fun _ => rfl, fun _ => rfl, fun _ => rfl, fun _ => rfl, fun _ => Or.inl rfl, fun _ => id, fun _ => id, fun _ _ => id, fun _ _ => id, fun _ => id, fun _ => by simp only [State.shaped, hl]; exact id⟩) hk hs

theorem Moves.of_canary {km : Nat} {s0 : State} (s : State) (x : _) (hl : s.canary.checkIns.length = 64 → x.checkIns.length = 64)
    (hk : km &&& 0xFFFEFFFFFFFFFF = km) (hs : Moves km s0 s) : Moves km s0 { s with canary := x } :=
  Moves.comp (k1 := 0xFFFEFFFFFFFFFF) (t := s) (⟨fun _ => rfl, fun _ => rfl, fun _ => rfl, fun _ => rfl, fun _ => rfl, fun _ => rfl, fun _ => rfl, fun _ => rfl, fun _ => rfl, fun _ => rfl, fun _ => rfl, fun _ => rfl, fun _ => rfl, fun _ => rfl, fun _ => rfl, fun _ => rfl, fun _ => rfl, fun _ => rfl, fun _ => rfl, fun _ => rfl, fun _ => rfl, fun _ => rfl, fun _ => rfl, fun _ => rfl, fun _ => rfl, fun _ => rfl, fun _ => rfl, fun _ => rfl, fun _ => rfl, fun _ => rfl, fun _ => rfl, fun _ => rfl, fun _ => rfl, fun _ => rfl, fun _ => rfl, fun _ => rfl, fun _ => rfl, fun _ => rfl, fun _ => rfl, fun _ => rfl, fun b => absurd b (by decide), fun _ => rfl, fun _ => rfl, fun _ => rfl, fun _ => rfl, fun _ => rfl, fun _ => rfl, fun _ => rfl, fun _ => rfl, fun _ => Or.inl rfl, fun _ => id, fun _ => id, fun _ _ => id, fun _ _ => id, fun _ => id, fun _ h => by simp only [State.shaped, Bool.and_eq_true, beq_iff_eq] at h ⊢; simp_all⟩) hk hs

theorem Moves.of_col {km : Nat} {s0 : State} (s : State) (x : _)
    (hk : km &&& 0xFFFDFFFFFFFFFF = km) (hs : Moves km s0 s) : Moves km s0 { s with col := x } :=
  Moves.comp (k1 := 0xFFFDFFFFFFFFFF) (t := s) (⟨fun _ => rfl, fun _ => rfl, fun _ => rfl, fun _ => rfl, fun _ => rfl, fun _ => rfl, fun _ => rfl, fun _ => rfl, fun _ => rfl, fun _ => rfl, fun _ => rfl, fun _ => rfl, fun _ => rfl, fun _ => rfl, fun _ => rfl, fun _ => rfl, fun _ => rfl, fun _ => rfl, fun _ => rfl, fun _ => rfl, fun _ => rfl, fun _ => rfl, fun _ => rfl, fun _ => rfl, fun _ => rfl, fun _ => rfl, fun _ => rfl, fun _ => rfl, fun _ => rfl, fun _ => rfl, fun _ => rfl, fun _ => rfl, fun _ => rfl, fun _ => rfl, fun _ => rfl, fun _ => rfl, fun _ => rfl, fun _ => rfl, fun _ => rfl, fun _ => rfl, fun _ => rfl, fun b => absurd b (by decide), fun _ => rfl, fun _ => rfl, fun _ => rfl, fun _ => rfl, fun _ => rfl, fun _ => rfl, fun _ => rfl, fun _ => Or.inl rfl, fun _ => id, fun _ => id, fun _ _ => id, fun _ _ => id, fun _ => id, fun _ => id⟩) hk hs

theorem Moves.of_rtc {km : Nat} {s0 : State} (s : State) (x : _)
    (hk : km &&& 0xFFFBFFFFFFFFFF = km) (hs : Moves km s0 s) : Moves km s0 { s with rtc := x } :=
  Moves.comp (k1 := 0xFFFBFFFFFFFFFF) (t := s) (⟨fun _ => rfl, fun _ => rfl, fun _ => rfl, fun _ => rfl, fun _ => rfl, fun _ => rfl, fun _ => rfl, fun _ => rfl, fun _ => rfl, fun _ => rfl, fun _ => rfl, fun _ => rfl, fun _ => rfl, fun _ => rfl, fun _ => rfl, fun _ => rfl, fun _ => rfl, fun _ => rfl, fun _ => rfl, fun _ => rfl, fun _ => rfl, fun _ => rfl, fun _ => rfl, fun _ => rfl, fun _ => rfl, fun _ => rfl, fun _ => rfl, fun _ => rfl, fun _ => rfl, fun _ => rfl, fun _ => rfl, fun _ => rfl, fun _ => rfl, fun _ => rfl, fun _ => rfl, fun _ => rfl, fun _ => rfl, fun _ => rfl, fun _ => rfl, fun _ => rfl, fun _ => rfl, fun _ => rfl, fun b => absurd b (by decide), fun _ => rfl, fun _ => rfl, fun _ => rfl, fun _ => rfl, fun _ => rfl, fun _ => rfl, fun _ => Or.inl rfl, fun _ => id, fun _ => id, fun _ _ => id, fun _ _ => id, fun _ => id, fun _ => id⟩) hk hs

theorem Moves.of_assayer {km : Nat} {s0 : State} (s : State) (x : _) (hl : x.length = s.assayer.length)
    (hk : km &&& 0xFFF7FFFFFFFFFF = km) (hs : Moves km s0 s) : Moves km s0 { s with assayer := x } :=
  Moves.comp (k1 := 0xFFF7FFFFFFFFFF) (t := s) (⟨fun _ => rfl, fun _ => rfl, fun _ => rfl, fun _ => rfl, fun _ => rfl, fun _ => rfl, fun _ => rfl, fun _ => rfl, fun _ => rfl, fun _ => rfl, fun _ => rfl, fun _ => rfl, fun _ => rfl, fun _ => rfl, fun _ => rfl, fun _ => rfl, fun _ => rfl, fun _ => rfl, fun _ => rfl, fun _ => rfl, fun _ => rfl, fun _ => rfl, fun _ => rfl, fun _ => rfl, fun _ => rfl, fun _ => rfl, fun _ => rfl, fun _ => rfl, fun _ => rfl, fun _ => rfl, fun _ => rfl, fun _ => rfl, fun _ => rfl, fun _ => rfl, fun _ => rfl, fun _ => rfl, fun _ => rfl, fun _ => rfl, fun _ => rfl, fun _ => rfl, fun _ => rfl, fun _ => rfl, fun _ => rfl, fun b => absurd b (by decide), fun _ => rfl, fun _ => rfl, fun _ => rfl, fun _ => rfl, fun _ => rfl, fun _ => Or.inl rfl, fun _ => id, fun _ => id, fun _ _ => id, fun _ _ => id, fun _ => id, fun _ => by simp only [State.shaped, hl]; exact id⟩) hk hs

theorem Moves.of_life {km : Nat} {s0 : State} (s : State) (x : _) (hl : x.indicators.length = s.life.indicators.length)
    (hk : km &&& 0xFFEFFFFFFFFFFF = km) (hs : Moves km s0 s) : Moves km s0 { s with life := x } :=
  Moves.comp (k1 := 0xFFEFFFFFFFFFFF) (t := s) (⟨fun _ => rfl, fun _ => rfl, fun _ => rfl, fun _ => rfl, fun _ => rfl, fun _ => rfl, fun _ => rfl, fun _ => rfl, fun _ => rfl, fun _ => rfl, fun _ => rfl, fun _ => rfl, fun _ => rfl, fun _ => rfl, fun _ => rfl, fun _ => rfl, fun _ => rfl, fun _ => rfl, fun _ => rfl, fun _ => rfl, fun _ => rfl, fun _ => rfl, fun _ => rfl, fun _ => rfl, fun _ => rfl, fun _ => rfl, fun _ => rfl, fun _ => rfl, fun _ => rfl, fun _ => rfl, fun _ => rfl, fun _ => rfl, fun _ => rfl, fun _ => rfl, fun _ => rfl, fun _ => rfl, fun _ => rfl, fun _ => rfl, fun _ => rfl, fun _ => rfl, fun _ => rfl, fun _ => rfl, fun _ => rfl, fun _ => rfl, fun b => absurd b (by decide), fun _ => rfl, fun _ => rfl, fun _ => rfl, fun _ => rfl, fun _ => Or.inl rfl, fun _ => id, fun _ => id, fun _ _ => id, fun _ _ => id, fun _ => id, fun _ => by simp only [State.shaped, hl]; exact id⟩) hk hs

theorem Moves.of_fwt {km : Nat} {s0 : State} (s : State) (x : _)
    (hk : km &&& 0xFFDFFFFFFFFFFF = km) (hs : Moves km s0 s) : Moves km s0 { s with fwt := x } :=
  Moves.comp (k1 := 0xFFDFFFFFFFFFFF) (t := s) (⟨fun _ => rfl, fun _ => rfl, fun _ => rfl, fun _ => rfl, fun _ => rfl, fun _ => rfl, fun _ => rfl, fun _ => rfl, fun _ => rfl, fun _ => rfl, fun _ => rfl, fun _ => rfl, fun _ => rfl, fun _ => rfl, fun _ => rfl, fun _ => rfl, fun _ => rfl, fun _ => rfl, fun _ => rfl, fun _ => rfl, fun _ => rfl, fun _ => rfl, fun _ => rfl, fun _ => rfl, fun _ => rfl, fun _ => rfl, fun _ => rfl, fun _ => rfl, fun _ => rfl, fun _ => rfl, fun _ => rfl, fun _ => rfl, fun _ => rfl, fun _ => rfl, fun _ => rfl, fun _ => rfl, fun _ => rfl, fun _ => rfl, fun _ => rfl, fun _ => rfl, fun _ => rfl, fun _ => rfl, fun _ => rfl, fun _ => rfl, fun _ => rfl, fun b => absurd b (by decide), fun _ => rfl, fun _ => rfl, fun _ => rfl, fun _ => Or.inl rfl, fun _ => id, fun _ => id, fun _ _ => id, fun _ _ => id, fun _ => id, fun _ => id⟩) hk hs

theorem Moves.of_cyc {km : Nat} {s0 : State} (s : State) (x : _)
    (hk : km &&& 0xFFBFFFFFFFFFFF = km) (hs : Moves km s0 s) : Moves km s0 { s with cyc := x } :=
  Moves.comp (k1 := 0xFFBFFFFFFFFFFF) (t := s) (⟨fun _ => rfl, fun _ => rfl, fun _ => rfl, fun _ => rfl, fun _ => rfl, fun _ => rfl, fun _ => rfl, fun _ => rfl, fun _ => rfl, fun _ => rfl, fun _ => rfl, fun _ => rfl, fun _ => rfl, fun _ => rfl, fun _ => rfl, fun _ => rfl, fun _ => rfl, fun _ => rfl, fun _ => rfl, fun _ => rfl, fun _ => rfl, fun _ => rfl, fun _ => rfl, fun _ => rfl, fun _ => rfl, fun _ => rfl, fun _ => rfl, fun _ => rfl, fun _ => rfl, fun _ => rfl, fun _ => rfl, fun _ => rfl, fun _ => rfl, fun _ => rfl, fun _ => rfl, fun _ => rfl, fun _ => rfl, fun _ => rfl, fun _ => rfl, fun _ => rfl, fun _ => rfl, fun _ => rfl, fun _ => rfl, fun _ => rfl, fun _ => rfl, fun _ => rfl, fun b => absurd b (by decide), fun _ => rfl, fun _ => rfl, fun _ => Or.inl rfl, fun _ => id, fun _ => id, fun _ _ => id, fun _ _ => id, fun _ => id, fun _ => id⟩) hk hs

theorem Moves.of_real {km : Nat} {s0 : State} (s : State) (x : _)
    (hk : km &&& 0xFF7FFFFFFFFFFF = km) (hs : Moves km s0 s) : Moves km s0 { s with real := x } :=
  Moves.comp (k1 := 0xFF7FFFFFFFFFFF) (t := s) (⟨fun _ => rfl, fun _ => rfl, fun _ => rfl, fun _ => rfl, fun _ => rfl, fun _ => rfl, fun _ => rfl, fun _ => rfl, fun _ => rfl, fun _ => rfl, fun _ => rfl, fun _ => rfl, fun _ => rfl, fun _ => rfl, fun _ => rfl, fun _ => rfl, fun _ => rfl, fun _ => rfl, fun _ => rfl, fun _ => rfl, fun _ => rfl, fun _ => rfl, fun _ => rfl, fun _ => rfl, fun _ => rfl, fun _ => rfl, fun _ => rfl, fun _ => rfl, fun _ => rfl, fun _ => rfl, fun _ => rfl, fun _ => rfl, fun _ => rfl, fun _ => rfl, fun _ => rfl, fun _ => rfl, fun _ => rfl, fun _ => rfl, fun _ => rfl, fun _ => rfl, fun _ => rfl, fun _ => rfl, fun _ => rfl, fun _ => rfl, fun _ => rfl, fun _ => rfl, fun _ => rfl, fun b => absurd b (by decide), fun _ => rfl, fun _ => Or.inl rfl, fun _ => id, fun _ => id, fun _ _ => id, fun _ _ => id, fun _ => id, fun _ => id⟩) hk hs

theorem Moves.of_sckFrom {km : Nat} {s0 : State} (s : State) (x : _) (hl : x.length = s.sckFrom.length)
    (hk : km &&& 0xFEFFFFFFFFFFFF = km) (hs : Moves km s0 s) : Moves km s0 { s with sckFrom := x } :=
  Moves.comp (k1 := 0xFEFFFFFFFFFFFF) (t := s) (⟨fun _ => rfl, fun _ => rfl, fun _ => rfl, fun _ => rfl, fun _ => rfl, fun _ => rfl, fun _ => rfl, fun _ => rfl, fun _ => rfl, fun _ => rfl, fun _ => rfl, fun _ => rfl, fun _ => rfl, fun _ => rfl, fun _ => rfl, fun _ => rfl, fun _ => rfl, fun _ => rfl, fun _ => rfl, fun _ => rfl, fun _ => rfl, fun _ => rfl, fun _ => rfl, fun _ => rfl, fun _ => rfl, fun _ => rfl, fun _ => rfl, fun _ => rfl, fun _ => rfl, fun _ => rfl, fun _ => rfl, fun _ => rfl, fun _ => rfl, fun _ => rfl, fun _ => rfl, fun _ => rfl, fun _ => rfl, fun _ => rfl, fun _ => rfl, fun _ => rfl, fun _ => rfl, fun _ => rfl, fun _ => rfl, fun _ => rfl, fun _ => rfl, fun _ => rfl, fun _ => rfl, fun _ => rfl, fun b => absurd b (by decide), fun _ => Or.inl rfl, fun _ => id, fun _ => id, fun _ _ => id, fun _ _ => id, fun _ => id, fun _ => by simp only [State.shaped, hl]; exact id⟩) hk hs

end Sys2Proof.Machine
end

