-- ==== Sys2Proof/Laws/MovesOps.lean ====
section
/-! SUPPORT. What every operation keeps, one lemma each, named after the operation, with the bits of `Moves`: the named operations over state, the object accesses, the queues and the emergency frames. -/
namespace Sys2Proof.Machine

set_option linter.all false

variable {km : Nat} {s0 : State}

theorem State.put_moves (s : State) (i j : Nat) (v : Word) (hk : km &&& 0xFFFFFFFFFFFFFB = km) (hs : Moves km s0 s) :
    Moves km s0 (s.put i j v) :=
  Moves.of_od s _ (fun h => Sparse.wf_put odDefault s.od _ v h) hk hs

theorem State.putN_moves (s : State) (i : ℕ) (j : ℕ) (x3 : ℕ) (hk : km &&& 0xFFFFFFFFFFFFFB = km) (hs : Moves km s0 s) :
    Moves km s0 (State.putN s i j x3) := by
  refine Moves.comp (k1 := 0xFFFFFFFFFFFFFB) ?_ hk hs
  unfold State.putN
  repeat' first
    | with_reducible apply Moves.refl | decide | with_reducible apply State.put_moves

theorem State.putByte_moves (s : State) (a : Nat) (b : Byte) (hk : km &&& 0xFFFFFFFFFFFFF7 = km) (hs : Moves km s0 s) :
    Moves km s0 (s.putByte a b) :=
  Moves.of_mem s _ (fun h => Sparse.wf_put memDefault s.mem a b h) hk hs

theorem State.freshByte_moves (s : State) (hk : km &&& 0xFFFFFFFFFFFFEF = km) (hs : Moves km s0 s) :
    Moves km s0 (State.freshByte s).2 := by
  refine Moves.comp (k1 := 0xFFFFFFFFFFFFEF) ?_ hk hs
  unfold State.freshByte
  repeat' first
    | with_reducible apply Moves.refl | decide | with_reducible apply Moves.of_free

theorem State.putWord_moves (s : State) (a : ℕ) (v : Word) (hk : km &&& 0xFFFFFFFFFFFFF7 = km) (hs : Moves km s0 s) :
    Moves km s0 (State.putWord s a v) := by
  refine Moves.comp (k1 := 0xFFFFFFFFFFFFF7) ?_ hk hs
  unfold State.putWord
  repeat' first
    | with_reducible apply Moves.refl | decide | with_reducible apply State.putByte_moves

theorem State.clearMem_moves (s : State) (lo size : Nat) (hk : km &&& 0xFFFFFFFFFFFFF7 = km) (hs : Moves km s0 s) :
    Moves km s0 (s.clearMem lo size) :=
  Moves.of_mem s _ (fun h => Sparse.wf_filter memDefault _ s.mem h) hk hs

theorem State.store_moves (s : State) (i : ℕ) (j : ℕ) (v : Word) (hk : km &&& 0xFFFFFFFFFFFFFB = km) (hs : Moves km s0 s) :
    Moves km s0 (State.store s i j v) := by
  refine Moves.comp (k1 := 0xFFFFFFFFFFFFFB) ?_ hk hs
  unfold State.store
  repeat' first
    | with_reducible apply Moves.refl | decide | with_reducible apply State.put_moves | split

theorem State.storeCount_moves (s : State) (i : ℕ) (j : ℕ) (v : Word) (hk : km &&& 0xFFFFFFFFFFFFFB = km) (hs : Moves km s0 s) :
    Moves km s0 (State.storeCount s i j v) := by
  refine Moves.comp (k1 := 0xFFFFFFFFFFFFFB) ?_ hk hs
  unfold State.storeCount
  repeat' first
    | with_reducible apply Moves.refl | with_reducible assumption | decide | with_reducible apply State.store_moves
    | with_reducible apply State.putN_moves
    | (lift_lets; intro x; first | (refine Moves.mid (t := x) ?_ (fun hx => ?_) <;> [dsimp +zetaDelta only; clear_value x]) | clear_value x)
    | split

theorem State.modMaster_moves (s : State) (m : Master) (f : MasterState → MasterState) (hk : km &&& 0xFFFFFFFFFFFFBF = km) (hs : Moves km s0 s) :
    Moves km s0 (s.modMaster m f) :=
  Moves.of_masters s _ (modAt_length _ _ _) hk hs

theorem State.takeCount_moves (s : State) (i : ℕ) (j : ℕ) (shown : Word) (hk : km &&& 0xFFBFFFFFFFFFFB = km) (hs : Moves km s0 s) :
    Moves km s0 (State.takeCount s i j shown).2 := by
  refine Moves.comp (k1 := 0xFFBFFFFFFFFFFB) ?_ hk hs
  unfold State.takeCount
  repeat' first
    | with_reducible apply Moves.refl | decide | with_reducible apply State.put_moves
    | (intro x; first | (refine Moves.mid (t := x) ?_ (fun hx => ?_) <;> [dsimp +zetaDelta only; clear_value x]) | clear_value x)
    | (lift_lets; intro x; first | (refine Moves.mid (t := x) ?_ (fun hx => ?_) <;> [dsimp +zetaDelta only; clear_value x]) | clear_value x)
    | split | with_reducible apply Moves.of_cyc

theorem State.noteCount_moves (s : State) (k : ℕ) (v : DWord) (f : DWord → DWord) (hk : km &&& 0xFFBFFFFFFFFFFF = km) (hs : Moves km s0 s) :
    Moves km s0 (State.noteCount s k v f) := by
  refine Moves.comp (k1 := 0xFFBFFFFFFFFFFF) ?_ hk hs
  unfold State.noteCount
  repeat' first
    | with_reducible apply Moves.refl | decide
    | (intro x; first | (refine Moves.mid (t := x) ?_ (fun hx => ?_) <;> [dsimp +zetaDelta only; clear_value x]) | clear_value x)
    | (lift_lets; intro x; first | (refine Moves.mid (t := x) ?_ (fun hx => ?_) <;> [dsimp +zetaDelta only; clear_value x]) | clear_value x)
    | with_reducible apply Moves.of_cyc

theorem State.add_moves (s : State) (i : ℕ) (j : ℕ) (x3 : ℕ) (x4 : ℕ) (hk : km &&& 0xFFBFFFFFFFFFFB = km) (hs : Moves km s0 s) :
    Moves km s0 (State.add s i j x3 x4) := by
  refine Moves.comp (k1 := 0xFFBFFFFFFFFFFB) ?_ hk hs
  unfold State.add
  repeat' first
    | with_reducible apply Moves.refl | decide | with_reducible apply State.noteCount_moves | with_reducible apply State.putN_moves

theorem State.bump_moves (s : State) (i : ℕ) (j : ℕ) (x3 : ℕ) (hk : km &&& 0xFFBFFFFFFFFFFB = km) (hs : Moves km s0 s) :
    Moves km s0 (State.bump s i j x3) := by
  refine Moves.comp (k1 := 0xFFBFFFFFFFFFFB) ?_ hk hs
  unfold State.bump
  repeat' first
    | with_reducible apply Moves.refl | decide | with_reducible apply State.add_moves

theorem State.noteBits_moves (s : State) (k : ℕ) (f : Word → Word) (hk : km &&& 0xFFBFFFFFFFFFFF = km) (hs : Moves km s0 s) :
    Moves km s0 (State.noteBits s k f) := by
  refine Moves.comp (k1 := 0xFFBFFFFFFFFFFF) ?_ hk hs
  unfold State.noteBits
  repeat' first
    | with_reducible apply Moves.refl | decide
    | (lift_lets; intro x; first | (refine Moves.mid (t := x) ?_ (fun hx => ?_) <;> [dsimp +zetaDelta only; clear_value x]) | clear_value x)
    | with_reducible apply Moves.of_cyc

theorem State.setBits_moves (s : State) (i : ℕ) (j : ℕ) (mask : ℕ) (hk : km &&& 0xFFBFFFFFFFFFFB = km) (hs : Moves km s0 s) :
    Moves km s0 (State.setBits s i j mask) := by
  refine Moves.comp (k1 := 0xFFBFFFFFFFFFFB) ?_ hk hs
  unfold State.setBits
  repeat' first
    | with_reducible apply Moves.refl | decide | with_reducible apply State.noteBits_moves | with_reducible apply State.put_moves

theorem State.report_moves (s : State) (src : ℕ) (cls : FClass) (detail : optParam ℕ 0) (hk : km &&& 0xFFFFFFFFFFFF7F = km) (hs : Moves km s0 s) :
    Moves km s0 (State.report s src cls detail) := by
  refine Moves.comp (k1 := 0xFFFFFFFFFFFF7F) ?_ hk hs
  unfold State.report
  repeat' first
    | with_reducible apply Moves.refl | decide | with_reducible apply Moves.of_raised

theorem State.putI_moves (s : State) (i : ℕ) (j : ℕ) (x3 : ℤ) (hk : km &&& 0xFFFFFFFFFFFFFB = km) (hs : Moves km s0 s) :
    Moves km s0 (State.putI s i j x3) := by
  refine Moves.comp (k1 := 0xFFFFFFFFFFFFFB) ?_ hk hs
  unfold State.putI
  repeat' first
    | with_reducible apply Moves.refl | decide | with_reducible apply State.put_moves

theorem State.freshWord_moves (s : State) (hk : km &&& 0xFFFFFFFFFFFFEF = km) (hs : Moves km s0 s) :
    Moves km s0 (State.freshWord s).2 := by
  refine Moves.comp (k1 := 0xFFFFFFFFFFFFEF) ?_ hk hs
  unfold State.freshWord
  repeat' first
    | with_reducible apply Moves.refl | decide | with_reducible apply Moves.of_free

theorem State.clrBits_moves (s : State) (i : ℕ) (j : ℕ) (mask : ℕ) (hk : km &&& 0xFFBFFFFFFFFFFB = km) (hs : Moves km s0 s) :
    Moves km s0 (State.clrBits s i j mask) := by
  refine Moves.comp (k1 := 0xFFBFFFFFFFFFFB) ?_ hk hs
  unfold State.clrBits
  repeat' first
    | with_reducible apply Moves.refl | decide | with_reducible apply State.noteBits_moves | with_reducible apply State.put_moves

theorem State.highWater_moves (s : State) (i : ℕ) (j : ℕ) (x3 : ℕ) (hk : km &&& 0xFFFFFFFFFFFFFB = km) (hs : Moves km s0 s) :
    Moves km s0 (State.highWater s i j x3) := by
  refine Moves.comp (k1 := 0xFFFFFFFFFFFFFB) ?_ hk hs
  unfold State.highWater
  repeat' first
    | with_reducible apply Moves.refl | decide | with_reducible apply State.putN_moves | split

theorem State.putBit_moves (s : State) (i : ℕ) (j : ℕ) (x3 : ℕ) (v : Bool) (hk : km &&& 0xFFBFFFFFFFFFFB = km) (hs : Moves km s0 s) :
    Moves km s0 (State.putBit s i j x3 v) := by
  refine Moves.comp (k1 := 0xFFBFFFFFFFFFFB) ?_ hk hs
  unfold State.putBit
  repeat' first
    | with_reducible apply Moves.refl | decide | with_reducible apply State.clrBits_moves | with_reducible apply State.setBits_moves | split

theorem State.recall_moves (s : State) (c : ChargeWrite) (i : ℕ) (j : ℕ) (hk : km &&& 0xFFFFFFFDFFFFFF = km) (hs : Moves km s0 s) :
    Moves km s0 (State.recall s c i j) := by
  refine Moves.comp (k1 := 0xFFFFFFFDFFFFFF) ?_ hk hs
  unfold State.recall
  repeat' first
    | with_reducible apply Moves.refl | decide
    | (lift_lets; intro x; first | (refine Moves.mid (t := x) ?_ (fun hx => ?_) <;> [dsimp +zetaDelta only; clear_value x]) | clear_value x)
    | with_reducible apply Moves.of_chg

theorem State.keepOld_moves (x0 : State) (s : State) (i : ℕ) (j : ℕ) (hk : km &&& 0xFFFFFFFDFFFFFF = km) (hs : Moves km s0 x0) :
    Moves km s0 (State.keepOld x0 s i j) := by
  refine Moves.comp (k1 := 0xFFFFFFFDFFFFFF) ?_ hk hs
  unfold State.keepOld
  repeat' first
    | with_reducible apply Moves.refl | decide
    | (lift_lets; intro x; first | (refine Moves.mid (t := x) ?_ (fun hx => ?_) <;> [dsimp +zetaDelta only; clear_value x]) | clear_value x)
    | split | with_reducible apply Moves.of_chg

theorem State.later_moves (s : State) (c : ChargeWrite) (hk : km &&& 0xFFFFFFFDFFFFFF = km) (hs : Moves km s0 s) :
    Moves km s0 (State.later s c) := by
  refine Moves.comp (k1 := 0xFFFFFFFDFFFFFF) ?_ hk hs
  unfold State.later
  repeat' first
    | with_reducible apply Moves.refl | decide
    | (lift_lets; intro x; first | (refine Moves.mid (t := x) ?_ (fun hx => ?_) <;> [dsimp +zetaDelta only; clear_value x]) | clear_value x)
    | with_reducible apply Moves.of_chg

theorem State.putPair_moves (s : State) (i : ℕ) (j : ℕ) (v : DWord) (hk : km &&& 0xFFFFFFFFFFFFFB = km) (hs : Moves km s0 s) :
    Moves km s0 (State.putPair s i j v) := by
  refine Moves.comp (k1 := 0xFFFFFFFFFFFFFB) ?_ hk hs
  unfold State.putPair
  repeat' first
    | with_reducible apply Moves.refl | decide | with_reducible apply State.put_moves

theorem State.sub_moves (s : State) (i : ℕ) (j : ℕ) (x3 : ℕ) (hk : km &&& 0xFFFFFFFFFFFFFB = km) (hs : Moves km s0 s) :
    Moves km s0 (State.sub s i j x3) := by
  refine Moves.comp (k1 := 0xFFFFFFFFFFFFFB) ?_ hk hs
  unfold State.sub
  repeat' first
    | with_reducible apply Moves.refl | decide | with_reducible apply State.putN_moves

theorem State.d1Event_moves (s : State) (c : ℕ) (hk : km &&& 0xFFFFFFFBFFFFFF = km) (hs : Moves km s0 s) :
    Moves km s0 (State.d1Event s c) := by
  refine Moves.comp (k1 := 0xFFFFFFFBFFFFFF) ?_ hk hs
  unfold State.d1Event
  repeat' first
    | with_reducible apply Moves.refl | decide
    | (lift_lets; intro x; first | (refine Moves.mid (t := x) ?_ (fun hx => ?_) <;> [dsimp +zetaDelta only; clear_value x]) | clear_value x)
    | with_reducible apply Moves.of_aon

theorem oscillatorStops_moves (s : State) (hk : km &&& 0xFFBFFFFFFFFF7B = km) (hs : Moves km s0 s) :
    Moves km s0 (oscillatorStops s) := by
  refine Moves.comp (k1 := 0xFFBFFFFFFFFF7B) ?_ hk hs
  unfold oscillatorStops
  repeat' first
    | with_reducible apply Moves.refl | decide | with_reducible apply State.report_moves | with_reducible apply State.setBits_moves
    | with_reducible apply State.bump_moves

theorem State.putBytes_moves (s : State) (a : ℕ) (x2 : List Byte) (hk : km &&& 0xFFFFFFFFFFFFF7 = km) (hs : Moves km s0 s) :
    Moves km s0 (State.putBytes s a x2) := by
  refine Moves.comp (k1 := 0xFFFFFFFFFFFFF7) ?_ hk hs
  clear hk hs
  induction x2 generalizing s a with
  | nil =>
    unfold State.putBytes
    repeat' first
      | with_reducible apply Moves.refl | decide | refine Moves.trans ?_ (ih _ _) | with_reducible apply State.putByte_moves
  | cons b l ih =>
    unfold State.putBytes
    repeat' first
      | with_reducible apply Moves.refl | decide | refine Moves.trans ?_ (ih _ _) | with_reducible apply State.putByte_moves

theorem State.reportAll_moves (s : State) (src : ℕ) (cls : FClass) (details : List ℕ) (hk : km &&& 0xFFFFFFFFFFFF7F = km) (hs : Moves km s0 s) :
    Moves km s0 (State.reportAll s src cls details) := by
  refine Moves.comp (k1 := 0xFFFFFFFFFFFF7F) ?_ hk hs
  unfold State.reportAll
  repeat' first
    | with_reducible apply Moves.refl | decide | with_reducible apply State.report_moves
    | ((with_reducible apply Moves.foldl) <;> try intro _ _)

theorem State.modEng_moves (s : State) (i : Nat) (f : Engine → Engine) (hk : km &&& 0xFFFFFFFFFFEFFF = km) (hs : Moves km s0 s) :
    Moves km s0 (s.modEng i f) :=
  Moves.of_engines s _ (modAt_length _ _ _) hk hs

theorem scoreException_moves (s : State) (x1 : ℕ) (hk : km &&& 0xFFBFFFFFFFEFFB = km) (hs : Moves km s0 s) :
    Moves km s0 (scoreException s x1) := by
  refine Moves.comp (k1 := 0xFFBFFFFFFFEFFB) ?_ hk hs
  unfold scoreException
  repeat' first
    | with_reducible apply Moves.refl | with_reducible assumption | decide | with_reducible apply State.modEng_moves
    | with_reducible apply State.bump_moves
    | (intro x; first | (refine Moves.mid (t := x) ?_ (fun hx => ?_) <;> [dsimp +zetaDelta only; clear_value x]) | clear_value x)
    | (lift_lets; intro x; first | (refine Moves.mid (t := x) ?_ (fun hx => ?_) <;> [dsimp +zetaDelta only; clear_value x]) | clear_value x)
    | split

theorem raiseException_moves (s : State) (x1 : ℕ) (cause : ℕ) (tval : Word) (hk : km &&& 0xFFBFFFFFFFEFFB = km) (hs : Moves km s0 s) :
    Moves km s0 (raiseException s x1 cause tval) := by
  refine Moves.comp (k1 := 0xFFBFFFFFFFEFFB) ?_ hk hs
  unfold raiseException
  repeat' first
    | with_reducible apply Moves.refl | decide | with_reducible apply scoreException_moves | with_reducible apply State.modEng_moves

theorem eccCorrected_moves (s : State) (r : Region) (a : ℕ) (hk : km &&& 0xFFBFFFFFFDFF7B = km) (hs : Moves km s0 s) :
    Moves km s0 (eccCorrected s r a) := by
  refine Moves.comp (k1 := 0xFFBFFFFFFDFF7B) ?_ hk hs
  unfold eccCorrected
  repeat' first
    | with_reducible apply Moves.refl | with_reducible assumption | decide | with_reducible apply State.report_moves
    | with_reducible apply State.setBits_moves | with_reducible apply State.bump_moves | with_reducible apply State.putN_moves
    | (intro x; first | (refine Moves.mid (t := x) ?_ (fun hx => ?_) <;> [dsimp +zetaDelta only; clear_value x]) | clear_value x)
    | (lift_lets; intro x; first | (refine Moves.mid (t := x) ?_ (fun hx => ?_) <;> [dsimp +zetaDelta only; clear_value x]) | clear_value x)
    | split | with_reducible apply Moves.of_ecc

theorem eccUncorrectable_moves (s : State) (r : Region) (a : ℕ) (hk : km &&& 0xFFBFFFFFFFFF7B = km) (hs : Moves km s0 s) :
    Moves km s0 (eccUncorrectable s r a) := by
  refine Moves.comp (k1 := 0xFFBFFFFFFFFF7B) ?_ hk hs
  unfold eccUncorrectable
  repeat' first
    | with_reducible apply Moves.refl | decide | with_reducible apply State.report_moves | with_reducible apply State.setBits_moves
    | with_reducible apply State.bump_moves | with_reducible apply State.putN_moves | split

theorem eccRead_moves (s : State) (r : Region) (a : ℕ) (hk : km &&& 0xFFBFFFFFFDFF7B = km) (hs : Moves km s0 s) :
    Moves km s0 (eccRead s r a).1 := by
  refine Moves.comp (k1 := 0xFFBFFFFFFDFF7B) ?_ hk hs
  unfold eccRead
  repeat' first
    | with_reducible apply Moves.refl | decide | with_reducible apply eccUncorrectable_moves | with_reducible apply eccCorrected_moves
    | (lift_lets; intro x; first | (refine Moves.mid (t := x) ?_ (fun hx => ?_) <;> [dsimp +zetaDelta only; clear_value x]) | clear_value x)
    | split

theorem eccWritten_moves (s : State) (a : ℕ) (hk : km &&& 0xFFFFFFFFFDFFFF = km) (hs : Moves km s0 s) :
    Moves km s0 (eccWritten s a) := by
  refine Moves.comp (k1 := 0xFFFFFFFFFDFFFF) ?_ hk hs
  unfold eccWritten
  repeat' first
    | with_reducible apply Moves.refl | decide
    | (lift_lets; intro x; first | (refine Moves.mid (t := x) ?_ (fun hx => ?_) <;> [dsimp +zetaDelta only; clear_value x]) | clear_value x)
    | with_reducible apply Moves.of_ecc

theorem clearReservations_moves (s : State) (a : ℕ) (hk : km &&& 0xFFFFFFFFFFEFFF = km) (hs : Moves km s0 s) :
    Moves km s0 (clearReservations s a) := by
  refine Moves.comp (k1 := 0xFFFFFFFFFFEFFF) ?_ hk hs
  unfold clearReservations
  repeat' first
    | with_reducible apply Moves.refl | decide | with_reducible apply Moves.of_engines
    | (simp only [modAt_length, List.length_map, List.length_replicate]; done)

theorem memStore_moves (s : State) (a : ℕ) (v : Word) (hk : km &&& 0xFFFFFFFFFDEFF7 = km) (hs : Moves km s0 s) :
    Moves km s0 (memStore s a v) := by
  refine Moves.comp (k1 := 0xFFFFFFFFFDEFF7) ?_ hk hs
  unfold memStore
  repeat' first
    | with_reducible apply Moves.refl | decide | with_reducible apply clearReservations_moves | with_reducible apply eccWritten_moves
    | with_reducible apply State.putWord_moves

theorem resetCore_moves (s : State) (x1 : ℕ) (hk : km &&& 0xFFFFFFFFFFEFBF = km) (hs : Moves km s0 s) :
    Moves km s0 (resetCore s x1) := by
  refine Moves.comp (k1 := 0xFFFFFFFFFFEFBF) ?_ hk hs
  unfold resetCore
  repeat' first
    | with_reducible apply Moves.refl | decide | with_reducible apply State.modEng_moves | with_reducible apply State.modMaster_moves

theorem busRead_moves (s : State) (a : ℕ) (hk : km &&& 0xFFBFFFFFFDFF7B = km) (hs : Moves km s0 s) :
    Moves km s0 (busRead s a).1 := by
  refine Moves.comp (k1 := 0xFFBFFFFFFDFF7B) ?_ hk hs
  unfold busRead
  repeat' first
    | with_reducible apply Moves.refl | decide | with_reducible apply eccRead_moves | split

theorem busWrite_moves (s : State) (a : ℕ) (v : Word) (hk : km &&& 0xFFFFFFFFFDEFF7 = km) (hs : Moves km s0 s) :
    Moves km s0 (busWrite s a v).1 := by
  refine Moves.comp (k1 := 0xFFFFFFFFFDEFF7) ?_ hk hs
  unfold busWrite
  repeat' first
    | with_reducible apply Moves.refl | decide | with_reducible apply memStore_moves | split

theorem State.modWheel_moves (s : State) (i : Nat) (f : Wheel → Wheel) (hk : km &&& 0xFFFFFFFFFFF7FF = km) (hs : Moves km s0 s) :
    Moves km s0 (s.modWheel i f) :=
  Moves.of_tide s _ ⟨modAt_length _ _ _, rfl⟩ hk hs

theorem State.modEnc_moves (s : State) (i : Nat) (f : Encoder → Encoder) (hk : km &&& 0xFFFFFFFFFFF7FF = km) (hs : Moves km s0 s) :
    Moves km s0 (s.modEnc i f) :=
  Moves.of_tide s _ ⟨rfl, modAt_length _ _ _⟩ hk hs

theorem recordRun_moves (s : State) (x1 : ℕ) (run : ℕ) (hk : km &&& 0xFFBFFFFFFFFF7B = km) (hs : Moves km s0 s) :
    Moves km s0 (recordRun s x1 run) := by
  refine Moves.comp (k1 := 0xFFBFFFFFFFFF7B) ?_ hk hs
  unfold recordRun
  repeat' first
    | with_reducible apply Moves.refl | with_reducible assumption | decide | with_reducible apply State.highWater_moves
    | with_reducible apply State.report_moves | with_reducible apply State.setBits_moves | with_reducible apply State.bump_moves
    | with_reducible apply State.putN_moves
    | (intro x; first | (refine Moves.mid (t := x) ?_ (fun hx => ?_) <;> [dsimp +zetaDelta only; clear_value x]) | clear_value x)
    | (lift_lets; intro x; first | (refine Moves.mid (t := x) ?_ (fun hx => ?_) <;> [dsimp +zetaDelta only; clear_value x]) | clear_value x)
    | split

theorem updateWarden_moves (s : State) (hk : km &&& 0xFFFFFFFFFFFFFB = km) (hs : Moves km s0 s) :
    Moves km s0 (updateWarden s) := by
  refine Moves.comp (k1 := 0xFFFFFFFFFFFFFB) ?_ hk hs
  unfold updateWarden
  repeat' first
    | with_reducible apply Moves.refl | decide | with_reducible apply State.put_moves

theorem State.modFm_moves (s : State) (f : Foreman → Foreman) (hf : ∀ x, (f x).tasks.length = x.tasks.length) (hk : km &&& 0xFFFFFFFFF7FFFF = km) (hs : Moves km s0 s) :
    Moves km s0 (s.modFm f) :=
  Moves.of_fm s _ (hf _) hk hs

theorem State.modTask_moves (s : State) (i : Nat) (f : TaskState → TaskState) (hk : km &&& 0xFFFFFFFFF7FFFF = km) (hs : Moves km s0 s) :
    Moves km s0 (s.modTask i f) :=
  Moves.of_fm s _ (modAt_length _ _ _) hk hs

theorem disableTask_moves (s : State) (x1 : ℕ) (hk : km &&& 0xFFFFFFFFF7FFFB = km) (hs : Moves km s0 s) :
    Moves km s0 (disableTask s x1) := by
  refine Moves.comp (k1 := 0xFFFFFFFFF7FFFB) ?_ hk hs
  unfold disableTask
  repeat' first
    | with_reducible apply Moves.refl | decide | with_reducible apply State.modTask_moves | with_reducible apply updateWarden_moves
    | with_reducible apply State.putN_moves | split

theorem finishStop_moves (s : State) (x1 : ℕ) (hk : km &&& 0xFFFFFFFFF7FFFB = km) (hs : Moves km s0 s) :
    Moves km s0 (finishStop s x1) := by
  refine Moves.comp (k1 := 0xFFFFFFFFF7FFFB) ?_ hk hs
  unfold finishStop
  repeat' first
    | with_reducible apply Moves.refl | decide | with_reducible apply disableTask_moves | split

theorem freeEngine_moves (s : State) (x1 : ℕ) (at' : ℕ) (hk : km &&& 0xFFFFFFFFF7EFFF = km) (hs : Moves km s0 s) :
    Moves km s0 (freeEngine s x1 at') := by
  refine Moves.comp (k1 := 0xFFFFFFFFF7EFFF) ?_ hk hs
  unfold freeEngine
  repeat' first
    | with_reducible apply Moves.refl | decide | with_reducible apply State.modFm_moves | with_reducible apply State.modEng_moves
    | exact fun _ => rfl

theorem abandon_moves (s : State) (x1 : ℕ) (x2 : ℕ) (since : ℕ) (hk : km &&& 0xFFBFFFFFF7EF7B = km) (hs : Moves km s0 s) :
    Moves km s0 (abandon s x1 x2 since) := by
  refine Moves.comp (k1 := 0xFFBFFFFFF7EF7B) ?_ hk hs
  unfold abandon
  repeat' first
    | with_reducible apply Moves.refl | decide | with_reducible apply freeEngine_moves | with_reducible apply finishStop_moves
    | with_reducible apply State.modTask_moves | with_reducible apply recordRun_moves | with_reducible apply State.setBits_moves
    | with_reducible apply State.bump_moves

theorem abandonOn_moves (s : State) (x1 : ℕ) (hk : km &&& 0xFFBFFFFFF7EF7B = km) (hs : Moves km s0 s) :
    Moves km s0 (abandonOn s x1) := by
  refine Moves.comp (k1 := 0xFFBFFFFFF7EF7B) ?_ hk hs
  unfold abandonOn
  repeat' first
    | with_reducible apply Moves.refl | decide | with_reducible apply abandon_moves | split

theorem refuseConsolidation_moves (s : State) (c : ℕ) (hk : km &&& 0xFFBFFBFFF7FF7B = km) (hs : Moves km s0 s) :
    Moves km s0 (refuseConsolidation s c) := by
  refine Moves.comp (k1 := 0xFFBFFBFFF7FF7B) ?_ hk hs
  unfold refuseConsolidation
  repeat' first
    | with_reducible apply Moves.refl | with_reducible assumption | decide | with_reducible apply State.modFm_moves
    | with_reducible apply State.report_moves | with_reducible apply State.setBits_moves | with_reducible apply State.bump_moves
    | with_reducible apply State.putN_moves
    | (intro x; first | (refine Moves.mid (t := x) ?_ (fun hx => ?_) <;> [dsimp +zetaDelta only; clear_value x]) | clear_value x)
    | (lift_lets; intro x; first | (refine Moves.mid (t := x) ?_ (fun hx => ?_) <;> [dsimp +zetaDelta only; clear_value x]) | clear_value x)
    | with_reducible apply Moves.of_dom | exact fun _ => rfl

theorem strand_moves (s : State) (hk : km &&& 0xFFBFFFFFFFFF7B = km) (hs : Moves km s0 s) :
    Moves km s0 (strand s) := by
  refine Moves.comp (k1 := 0xFFBFFFFFFFFF7B) ?_ hk hs
  unfold strand
  repeat' first
    | with_reducible apply Moves.refl | decide | with_reducible apply State.report_moves | with_reducible apply State.setBits_moves

theorem readSource_moves (s : State) (x1 : List ℕ) (hk : km &&& 0xFFBFFFFFFDFF6B = km) (hs : Moves km s0 s) :
    Moves km s0 (readSource s x1).1 := by
  refine Moves.comp (k1 := 0xFFBFFFFFFDFF6B) ?_ hk hs
  clear hk hs
  induction x1 generalizing s with
  | nil =>
    unfold readSource
    repeat' first
      | with_reducible apply Moves.refl | decide | refine Moves.trans ?_ (ih _) | with_reducible apply busRead_moves
      | with_reducible apply State.freshWord_moves | split
  | cons b l ih =>
    unfold readSource
    repeat' first
      | with_reducible apply Moves.refl | decide | refine Moves.trans ?_ (ih _) | with_reducible apply busRead_moves
      | with_reducible apply State.freshWord_moves | split

theorem codeCopy_moves (s : State) (x1 : ℕ) (hk : km &&& 0xFFBFFFFFFDFF6B = km) (hs : Moves km s0 s) :
    Moves km s0 (codeCopy s x1).1 := by
  refine Moves.comp (k1 := 0xFFBFFFFFFDFF6B) ?_ hk hs
  unfold codeCopy
  repeat' first
    | with_reducible apply Moves.refl | decide | with_reducible apply readSource_moves

theorem storeWords_moves (s : State) (a : ℕ) (x2 : List Word) (hk : km &&& 0xFFFFFFFFFDEFF7 = km) (hs : Moves km s0 s) :
    Moves km s0 (storeWords s a x2) := by
  refine Moves.comp (k1 := 0xFFFFFFFFFDEFF7) ?_ hk hs
  clear hk hs
  induction x2 generalizing s a with
  | nil =>
    unfold storeWords
    repeat' first
      | with_reducible apply Moves.refl | decide | refine Moves.trans ?_ (ih _ _) | with_reducible apply busWrite_moves
  | cons b l ih =>
    unfold storeWords
    repeat' first
      | with_reducible apply Moves.refl | decide | refine Moves.trans ?_ (ih _ _) | with_reducible apply busWrite_moves

theorem storeCode_moves (s : State) (x1 : ℕ) (x2 : ℕ) (x3 : List Word) (hk : km &&& 0xFFFFFFFFFDEFF7 = km) (hs : Moves km s0 s) :
    Moves km s0 (storeCode s x1 x2 x3) := by
  refine Moves.comp (k1 := 0xFFFFFFFFFDEFF7) ?_ hk hs
  unfold storeCode
  repeat' first
    | with_reducible apply Moves.refl | decide | with_reducible apply storeWords_moves

theorem countMigrations_moves (s : State) (hk : km &&& 0xFFFFFFFFFFFFFB = km) (hs : Moves km s0 s) :
    Moves km s0 (countMigrations s) := by
  refine Moves.comp (k1 := 0xFFFFFFFFFFFFFB) ?_ hk hs
  unfold countMigrations
  repeat' first
    | with_reducible apply Moves.refl | decide | with_reducible apply State.putN_moves

theorem acceptMigration_moves (s : State) (x1 : ℕ) (x2 : ℕ) (kind : MoveKind) (hk : km &&& 0xFFBFFFFFF5EF63 = km) (hs : Moves km s0 s) :
    Moves km s0 (acceptMigration s x1 x2 kind) := by
  refine Moves.comp (k1 := 0xFFBFFFFFF5EF63) ?_ hk hs
  unfold acceptMigration
  repeat' first
    | with_reducible apply Moves.refl | decide | with_reducible apply countMigrations_moves | with_reducible apply storeCode_moves
    | with_reducible apply codeCopy_moves | with_reducible apply State.modFm_moves | with_reducible apply State.setBits_moves
    | with_reducible apply State.putN_moves | split | exact fun _ => rfl

theorem startOne_moves (s : State) (hk : km &&& 0xFFBFFBFFF5EF63 = km) (hs : Moves km s0 s) :
    Moves km s0 (startOne s) := by
  refine Moves.comp (k1 := 0xFFBFFBFFF5EF63) ?_ hk hs
  unfold startOne
  repeat' first
    | with_reducible apply Moves.refl | with_reducible assumption | decide | with_reducible apply acceptMigration_moves
    | with_reducible apply strand_moves | with_reducible apply refuseConsolidation_moves | with_reducible apply State.modFm_moves
    | (lift_lets; intro x; first | (refine Moves.mid (t := x) ?_ (fun hx => ?_) <;> [dsimp +zetaDelta only; clear_value x]) | clear_value x)
    | split | exact fun _ => rfl

theorem startMigrations_moves (x0 : ℕ) (x1 : State) (hk : km &&& 0xFFBFFBFFF5EF63 = km) (hs : Moves km s0 x1) :
    Moves km s0 (startMigrations x0 x1) := by
  refine Moves.comp (k1 := 0xFFBFFBFFF5EF63) ?_ hk hs
  clear hk hs
  induction x0 generalizing x1 with
  | zero =>
    unfold startMigrations
    repeat' first
      | with_reducible apply Moves.refl | decide | refine Moves.trans ?_ (ih _) | with_reducible apply startOne_moves | split
  | succ n ih =>
    unfold startMigrations
    repeat' first
      | with_reducible apply Moves.refl | decide | refine Moves.trans ?_ (ih _) | with_reducible apply startOne_moves | split

theorem abortMigration_moves (s : State) (hk : km &&& 0xFFFFFFFFF7FFFB = km) (hs : Moves km s0 s) :
    Moves km s0 (abortMigration s) := by
  refine Moves.comp (k1 := 0xFFFFFFFFF7FFFB) ?_ hk hs
  unfold abortMigration
  repeat' first
    | with_reducible apply Moves.refl | with_reducible assumption | decide | with_reducible apply countMigrations_moves
    | with_reducible apply finishStop_moves | with_reducible apply State.modTask_moves | with_reducible apply State.modFm_moves
    | with_reducible apply State.putN_moves
    | (lift_lets; intro x; first | (refine Moves.mid (t := x) ?_ (fun hx => ?_) <;> [dsimp +zetaDelta only; clear_value x]) | clear_value x)
    | split | exact fun _ => rfl

theorem foremanAct_moves (s : State) (hk : km &&& 0xFFBFFBFFF5EF63 = km) (hs : Moves km s0 s) :
    Moves km s0 (foremanAct s) := by
  refine Moves.comp (k1 := 0xFFBFFBFFF5EF63) ?_ hk hs
  unfold foremanAct
  repeat' first
    | with_reducible apply Moves.refl | decide | with_reducible apply abortMigration_moves | with_reducible apply startMigrations_moves
    | with_reducible apply countMigrations_moves | with_reducible apply updateWarden_moves

theorem evacuateTask_moves (s : State) (x1 : ℕ) (hk : km &&& 0xFFBFFFFFF7FF7B = km) (hs : Moves km s0 s) :
    Moves km s0 (evacuateTask s x1) := by
  refine Moves.comp (k1 := 0xFFBFFFFFF7FF7B) ?_ hk hs
  unfold evacuateTask
  repeat' first
    | with_reducible apply Moves.refl | decide | with_reducible apply strand_moves | with_reducible apply State.modFm_moves | split
    | exact fun _ => rfl

theorem evacuate_moves (s : State) (x1 : ℕ) (hk : km &&& 0xFFBFFFFFF7FF7B = km) (hs : Moves km s0 s) :
    Moves km s0 (evacuate s x1) := by
  refine Moves.comp (k1 := 0xFFBFFFFFF7FF7B) ?_ hk hs
  unfold evacuate
  repeat' first
    | with_reducible apply Moves.refl | decide | with_reducible apply evacuateTask_moves | split
    | ((with_reducible apply Moves.foldl) <;> try intro _ _)

theorem engineLost_moves (s : State) (x1 : ℕ) (hk : km &&& 0xFFBFFBFFF5EF63 = km) (hs : Moves km s0 s) :
    Moves km s0 (engineLost s x1) := by
  refine Moves.comp (k1 := 0xFFBFFBFFF5EF63) ?_ hk hs
  unfold engineLost
  repeat' first
    | with_reducible apply Moves.refl | decide | with_reducible apply evacuate_moves | with_reducible apply foremanAct_moves
    | with_reducible apply State.modFm_moves | exact fun _ => rfl

theorem requestActivation_moves (s : State) (x1 : ℕ) (source : ℕ) (rec : DWord) (hk : km &&& 0xFFBFFFFFF7FFFB = km) (hs : Moves km s0 s) :
    Moves km s0 (requestActivation s x1 source rec) := by
  refine Moves.comp (k1 := 0xFFBFFFFFF7FFFB) ?_ hk hs
  unfold requestActivation
  repeat' first
    | with_reducible apply Moves.refl | decide | with_reducible apply State.modTask_moves | with_reducible apply State.bump_moves | split

theorem updateSpares_moves (s : State) (hk : km &&& 0xFFBFFFFFFFFF7B = km) (hs : Moves km s0 s) :
    Moves km s0 (updateSpares s) := by
  refine Moves.comp (k1 := 0xFFBFFFFFFFFF7B) ?_ hk hs
  unfold updateSpares
  repeat' first
    | with_reducible apply Moves.refl | with_reducible assumption | decide | with_reducible apply State.report_moves
    | with_reducible apply State.setBits_moves | with_reducible apply State.bump_moves | with_reducible apply State.putN_moves
    | (intro x; first | (refine Moves.mid (t := x) ?_ (fun hx => ?_) <;> [dsimp +zetaDelta only; clear_value x]) | clear_value x)
    | (lift_lets; intro x; first | (refine Moves.mid (t := x) ?_ (fun hx => ?_) <;> [dsimp +zetaDelta only; clear_value x]) | clear_value x)
    | split

theorem requestUnitReset_moves (s : State) (x1 : ℕ) (collector : Bool) (hk : km &&& 0xFFFFFFFFF7FFFF = km) (hs : Moves km s0 s) :
    Moves km s0 (requestUnitReset s x1 collector) := by
  refine Moves.comp (k1 := 0xFFFFFFFFF7FFFF) ?_ hk hs
  unfold requestUnitReset
  repeat' first
    | with_reducible apply Moves.refl | decide | with_reducible apply State.modFm_moves | exact fun _ => rfl

theorem storeState_moves (s : State) (x1 : ℕ) (x2 : ℕ) (x3 : List Word) (hk : km &&& 0xFFFFFFFFFDEFF7 = km) (hs : Moves km s0 s) :
    Moves km s0 (storeState s x1 x2 x3) := by
  refine Moves.comp (k1 := 0xFFFFFFFFFDEFF7) ?_ hk hs
  unfold storeState
  repeat' first
    | with_reducible apply Moves.refl | decide | with_reducible apply storeWords_moves

theorem markFaulty_moves (s : State) (x1 : ℕ) (hk : km &&& 0xFFBFFBFFF5EF63 = km) (hs : Moves km s0 s) :
    Moves km s0 (markFaulty s x1) := by
  refine Moves.comp (k1 := 0xFFBFFBFFF5EF63) ?_ hk hs
  unfold markFaulty
  repeat' first
    | with_reducible apply Moves.refl | decide | with_reducible apply evacuate_moves | with_reducible apply foremanAct_moves
    | with_reducible apply State.modFm_moves | with_reducible apply State.setBits_moves | exact fun _ => rfl

theorem readCopy_moves (s : State) (x1 : List ℕ) (hk : km &&& 0xFFBFFFFFFDFF7B = km) (hs : Moves km s0 s) :
    Moves km s0 (readCopy s x1).1 := by
  refine Moves.comp (k1 := 0xFFBFFFFFFDFF7B) ?_ hk hs
  clear hk hs
  induction x1 generalizing s with
  | nil =>
    unfold readCopy
    repeat' first
      | with_reducible apply Moves.refl | decide | refine Moves.trans ?_ (ih _) | with_reducible apply busRead_moves
      | (with_reducible apply Moves.fst (by assumption)) | split
  | cons b l ih =>
    unfold readCopy
    repeat' first
      | with_reducible apply Moves.refl | decide | refine Moves.trans ?_ (ih _) | with_reducible apply busRead_moves
      | (with_reducible apply Moves.fst (by assumption)) | split

theorem stateFill_moves (s : State) (x1 : ℕ) (hk : km &&& 0xFFBFFFFFFDFF6B = km) (hs : Moves km s0 s) :
    Moves km s0 (stateFill s x1).1 := by
  refine Moves.comp (k1 := 0xFFBFFFFFFDFF6B) ?_ hk hs
  unfold stateFill
  repeat' first
    | with_reducible apply Moves.refl | decide | with_reducible apply readSource_moves | split

theorem stateCopy_moves (s : State) (x1 : ℕ) (a : ℕ) (hk : km &&& 0xFFBFFFFFFDFF6B = km) (hs : Moves km s0 s) :
    Moves km s0 (stateCopy s x1 a).1 := by
  refine Moves.comp (k1 := 0xFFBFFFFFFDFF6B) ?_ hk hs
  unfold stateCopy
  repeat' first
    | with_reducible apply Moves.refl | decide | with_reducible apply stateFill_moves | with_reducible apply readCopy_moves
    | (with_reducible apply Moves.fst (by assumption)) | split

theorem lostEngines_moves (s : State) (hk : km &&& 0xFFBFFBFFF5EF63 = km) (hs : Moves km s0 s) :
    Moves km s0 (lostEngines s) := by
  refine Moves.comp (k1 := 0xFFBFFBFFF5EF63) ?_ hk hs
  unfold lostEngines
  repeat' first
    | with_reducible apply Moves.refl | decide | with_reducible apply engineLost_moves | with_reducible apply State.modFm_moves
    | ((with_reducible apply Moves.foldl) <;> try intro _ _) | exact fun _ => rfl

theorem loadTask_moves (s : State) (x1 : ℕ) (x2 : ℕ) (hk : km &&& 0xFFBFFFFFFDEF63 = km) (hs : Moves km s0 s) :
    Moves km s0 (loadTask s x1 x2) := by
  refine Moves.comp (k1 := 0xFFBFFFFFFDEF63) ?_ hk hs
  unfold loadTask
  repeat' first
    | with_reducible apply Moves.refl | decide | with_reducible apply stateFill_moves | with_reducible apply storeState_moves
    | with_reducible apply storeCode_moves | with_reducible apply codeCopy_moves

theorem placeTask_moves (s : State) (x1 : ℕ) (hk : km &&& 0xFFBFFFFFF5EF63 = km) (hs : Moves km s0 s) :
    Moves km s0 (placeTask s x1) := by
  refine Moves.comp (k1 := 0xFFBFFFFFF5EF63) ?_ hk hs
  unfold placeTask
  repeat' first
    | with_reducible apply Moves.refl | decide | with_reducible apply loadTask_moves | with_reducible apply State.modTask_moves
    | with_reducible apply State.setBits_moves | with_reducible apply State.putN_moves | split

theorem placeWaiting_moves (changed : Bool) (s : State) (hk : km &&& 0xFFBFFFFFF5EF63 = km) (hs : Moves km s0 s) :
    Moves km s0 (placeWaiting changed s) := by
  refine Moves.comp (k1 := 0xFFBFFFFFF5EF63) ?_ hk hs
  unfold placeWaiting
  repeat' first
    | with_reducible apply Moves.refl | decide | with_reducible apply placeTask_moves | split
    | ((with_reducible apply Moves.foldl) <;> try intro _ _)

theorem acc_moves (s : State) (hk : km &&& 0xFFFFFFFFFFFFFF = km) (hs : Moves km s0 s) :
    Moves km s0 (acc s).2 := by
  refine Moves.comp (k1 := 0xFFFFFFFFFFFFFF) ?_ hk hs
  unfold acc
  repeat' first
    | with_reducible apply Moves.refl

theorem rej_moves (r : Res) (s : State) (hk : km &&& 0xFFFFFFFFFFFFFF = km) (hs : Moves km s0 s) :
    Moves km s0 (rej r s).2 := by
  refine Moves.comp (k1 := 0xFFFFFFFFFFFFFF) ?_ hk hs
  unfold rej
  repeat' first
    | with_reducible apply Moves.refl

theorem plainWrite_moves (i : ℕ) (j : ℕ) (w' : Wr) (b' : Bool) (s' : State) (hk : km &&& 0xFFFFFFFFFFFFFB = km) (hs : Moves km s0 s') :
    Moves km s0 (plainWrite i j w' b' s').2 := by
  refine Moves.comp (k1 := 0xFFFFFFFFFFFFFB) ?_ hk hs
  unfold plainWrite
  repeat' first
    | with_reducible apply Moves.refl | decide | with_reducible apply State.storeCount_moves | with_reducible apply rej_moves
    | with_reducible apply acc_moves | with_reducible apply State.put_moves | split

theorem countRefusal_moves (s : State) (res : Res) (hk : km &&& 0xFFBFFFFFFFFFFB = km) (hs : Moves km s0 s) :
    Moves km s0 (countRefusal s res) := by
  refine Moves.comp (k1 := 0xFFBFFFFFFFFFFB) ?_ hk hs
  unfold countRefusal
  repeat' first
    | with_reducible apply Moves.refl | with_reducible assumption | decide | with_reducible apply State.bump_moves
    | (lift_lets; intro x; first | (refine Moves.mid (t := x) ?_ (fun hx => ?_) <;> [dsimp +zetaDelta only; clear_value x]) | clear_value x)
    | split

theorem faultAccess_moves (s : State) (m : Master) (res : Res) (cause : ℕ) (a : ℕ) (hk : km &&& 0xFFBFFFFFFFEFFB = km) (hs : Moves km s0 s) :
    Moves km s0 (faultAccess s m res cause a) := by
  refine Moves.comp (k1 := 0xFFBFFFFFFFEFFB) ?_ hk hs
  unfold faultAccess
  repeat' first
    | with_reducible apply Moves.refl | decide | with_reducible apply raiseException_moves | split

theorem endRead_moves (s : State) (m : Master) (i : ℕ) (j : ℕ) (res : Res) (v : Word) (hk : km &&& 0xFFBFFFFFFFEFDB = km) (hs : Moves km s0 s) :
    Moves km s0 (endRead s m i j res v) := by
  refine Moves.comp (k1 := 0xFFBFFFFFFFEFDB) ?_ hk hs
  unfold endRead
  repeat' first
    | with_reducible apply Moves.refl | decide | with_reducible apply faultAccess_moves | with_reducible apply countRefusal_moves
    | with_reducible apply Moves.of_resp

theorem plainPair_moves (i : ℕ) (j : ℕ) (x2 : DWord) (w' : Wr) (b' : Bool) (s' : State) (hk : km &&& 0xFFFFFFFFFFFFFB = km) (hs : Moves km s0 s') :
    Moves km s0 (plainPair i j x2 w' b' s').2 := by
  refine Moves.comp (k1 := 0xFFFFFFFFFFFFFB) ?_ hk hs
  unfold plainPair
  repeat' first
    | with_reducible apply Moves.refl | decide | with_reducible apply State.store_moves | with_reducible apply acc_moves
    | with_reducible apply State.put_moves

theorem commitPair_moves (eff : DWord → WEff) (w' : Wr) (b' : Bool) (s' : State) (hk : km &&& 0xFFFFFFFFFFFFBF = km) (hs : Moves km s0 s') (hf : ∀ v t, Moves km s0 t → Moves km s0 (eff v w' b' t).2) :
    Moves km s0 (commitPair eff w' b' s').2 := by
  unfold commitPair
  repeat' first
    | with_reducible assumption | exact Moves.sub hk (by decide) | (with_reducible apply hf) | with_reducible apply State.modMaster_moves
    | with_reducible apply rej_moves | split

theorem stageLow_moves (i : ℕ) (j : ℕ) (w' : Wr) (b' : Bool) (s' : State) (hk : km &&& 0xFFFFFFFFFFFFBF = km) (hs : Moves km s0 s') :
    Moves km s0 (stageLow i j w' b' s').2 := by
  refine Moves.comp (k1 := 0xFFFFFFFFFFFFBF) ?_ hk hs
  unfold stageLow
  repeat' first
    | with_reducible apply Moves.refl | decide | with_reducible apply State.modMaster_moves | with_reducible apply acc_moves

theorem recordWrite_moves (s : State) (m : Master) (i : ℕ) (j : ℕ) (res : Res) (hk : km &&& 0xFFFFFFFFFFFFBF = km) (hs : Moves km s0 s) :
    Moves km s0 (recordWrite s m i j res) := by
  refine Moves.comp (k1 := 0xFFFFFFFFFFFFBF) ?_ hk hs
  unfold recordWrite
  repeat' first
    | with_reducible apply Moves.refl | decide | with_reducible apply State.modMaster_moves

theorem endWrite_moves (s : State) (m : Master) (i : ℕ) (j : ℕ) (res : Res) (resp : Resp) (hk : km &&& 0xFFBFFFFFFFEF9B = km) (hs : Moves km s0 s) :
    Moves km s0 (endWrite s m i j res resp) := by
  refine Moves.comp (k1 := 0xFFBFFFFFFFEF9B) ?_ hk hs
  unfold endWrite
  repeat' first
    | with_reducible apply Moves.refl | decide | with_reducible apply recordWrite_moves | with_reducible apply faultAccess_moves
    | with_reducible apply countRefusal_moves | with_reducible apply Moves.of_resp

theorem accessResult_moves (s : State) (x1 : Wr) (auth : Bool) (i : ℕ) (j : ℕ) (eff : WEff) (hk : km &&& 0xFFFFFFFFFFFFFF = km) (hs : Moves km s0 s) (hf : ∀ w t, Moves km s0 t → Moves km s0 (eff w auth t).2) :
    Moves km s0 (accessResult s x1 auth i j eff).2 := by
  unfold accessResult
  repeat' first
    | with_reducible assumption | (with_reducible apply hf) | split

theorem accessWrite_moves (s : State) (x1 : Wr) (auth : Bool) (i : ℕ) (j : ℕ) (eff : WEff) (hk : km &&& 0xFFBFFFFFFFEF9B = km) (hs : Moves km s0 s) (hf : ∀ w t, Moves km s0 t → Moves km s0 (eff w auth t).2) :
    Moves km s0 (accessWrite s x1 auth i j eff) := by
  unfold accessWrite
  repeat' first
    | with_reducible assumption | exact Moves.sub hk (by decide) | (with_reducible apply hf)
    | ((with_reducible apply accessResult_moves) <;> try intro _ _ _) | with_reducible apply endWrite_moves | split

theorem endAbort_moves (s : State) (k : ℕ) (hk : km &&& 0xFFFFFFFFFFFFFB = km) (hs : Moves km s0 s) :
    Moves km s0 (endAbort s k) := by
  refine Moves.comp (k1 := 0xFFFFFFFFFFFFFB) ?_ hk hs
  unfold endAbort
  repeat' first
    | with_reducible apply Moves.refl | decide | with_reducible apply State.putN_moves

theorem State.modAsy_moves (s : State) (i : Nat) (f : AssayerChannel → AssayerChannel) (hk : km &&& 0xFFF7FFFFFFFFFF = km) (hs : Moves km s0 s) :
    Moves km s0 (s.modAsy i f) :=
  Moves.of_assayer s _ (modAt_length _ _ _) hk hs

theorem beginCheck_moves (s : State) (k : ℕ) (state : ℕ) (f : AssayerChannel → AssayerChannel) (hk : km &&& 0xFFF7FFFFFFFFFB = km) (hs : Moves km s0 s) :
    Moves km s0 (beginCheck s k state f) := by
  refine Moves.comp (k1 := 0xFFF7FFFFFFFFFB) ?_ hk hs
  unfold beginCheck
  repeat' first
    | with_reducible apply Moves.refl | decide | with_reducible apply State.modAsy_moves | with_reducible apply State.putN_moves

theorem endCheck_moves (s : State) (k : ℕ) (hk : km &&& 0xFFBFFFFFFFFF7B = km) (hs : Moves km s0 s) :
    Moves km s0 (endCheck s k) := by
  refine Moves.comp (k1 := 0xFFBFFFFFFFFF7B) ?_ hk hs
  unfold endCheck
  repeat' first
    | with_reducible apply Moves.refl | with_reducible assumption | decide | with_reducible apply State.report_moves
    | with_reducible apply State.setBits_moves | with_reducible apply State.bump_moves | with_reducible apply State.putN_moves
    | with_reducible apply State.put_moves
    | (intro x; first | (refine Moves.mid (t := x) ?_ (fun hx => ?_) <;> [dsimp +zetaDelta only; clear_value x]) | clear_value x)
    | (lift_lets; intro x; first | (refine Moves.mid (t := x) ?_ (fun hx => ?_) <;> [dsimp +zetaDelta only; clear_value x]) | clear_value x)
    | split

theorem assayerCommandEff_moves (k : ℕ) (w' : Wr) (b' : Bool) (s' : State) (hk : km &&& 0xFFB7FFFFFFFF7B = km) (hs : Moves km s0 s') :
    Moves km s0 (assayerCommandEff k w' b' s').2 := by
  refine Moves.comp (k1 := 0xFFB7FFFFFFFF7B) ?_ hk hs
  unfold assayerCommandEff
  repeat' first
    | with_reducible apply Moves.refl | decide | with_reducible apply endCheck_moves | with_reducible apply beginCheck_moves
    | with_reducible apply endAbort_moves | with_reducible apply rej_moves | with_reducible apply acc_moves
    | with_reducible apply State.putN_moves
    | (lift_lets; intro x; first | (refine Moves.mid (t := x) ?_ (fun hx => ?_) <;> [dsimp +zetaDelta only; clear_value x]) | clear_value x)
    | split

theorem takeBytes_moves (s : State) (k : ℕ) (x2 : List Byte) (hk : km &&& 0xFFF7FFFFFFFFFF = km) (hs : Moves km s0 s) :
    Moves km s0 (takeBytes s k x2) := by
  refine Moves.comp (k1 := 0xFFF7FFFFFFFFFF) ?_ hk hs
  unfold takeBytes
  repeat' first
    | with_reducible apply Moves.refl | decide | with_reducible apply State.modAsy_moves

theorem feedByteEff_moves (k : ℕ) (w' : Wr) (b' : Bool) (s' : State) (hk : km &&& 0xFFF7FFFFFFFFFF = km) (hs : Moves km s0 s') :
    Moves km s0 (feedByteEff k w' b' s').2 := by
  refine Moves.comp (k1 := 0xFFF7FFFFFFFFFF) ?_ hk hs
  unfold feedByteEff
  repeat' first
    | with_reducible apply Moves.refl | decide | with_reducible apply takeBytes_moves | with_reducible apply rej_moves
    | with_reducible apply acc_moves | split

theorem assayerPlainEff_moves (k : ℕ) (j : ℕ) (w' : Wr) (b' : Bool) (s' : State) (hk : km &&& 0xFFFFFFFFFFFFFB = km) (hs : Moves km s0 s') :
    Moves km s0 (assayerPlainEff k j w' b' s').2 := by
  refine Moves.comp (k1 := 0xFFFFFFFFFFFFFB) ?_ hk hs
  unfold assayerPlainEff
  repeat' first
    | with_reducible apply Moves.refl | decide | with_reducible apply plainWrite_moves | with_reducible apply rej_moves | split

theorem feedWordEff_moves (k : ℕ) (w' : Wr) (b' : Bool) (s' : State) (hk : km &&& 0xFFF7FFFFFFFFFF = km) (hs : Moves km s0 s') :
    Moves km s0 (feedWordEff k w' b' s').2 := by
  refine Moves.comp (k1 := 0xFFF7FFFFFFFFFF) ?_ hk hs
  unfold feedWordEff
  repeat' first
    | with_reducible apply Moves.refl | decide | with_reducible apply takeBytes_moves | with_reducible apply rej_moves
    | with_reducible apply acc_moves | split

theorem assayerStopped_moves (s : State) (k : ℕ) (hk : km &&& 0xFFBFFFFFFDFF7B = km) (hs : Moves km s0 s) :
    Moves km s0 (assayerStopped s k) := by
  refine Moves.comp (k1 := 0xFFBFFFFFFDFF7B) ?_ hk hs
  unfold assayerStopped
  repeat' first
    | with_reducible apply Moves.refl | decide | with_reducible apply endAbort_moves | with_reducible apply busRead_moves | split

theorem scanEff_moves (k : ℕ) (w' : Wr) (b' : Bool) (s' : State) (hk : km &&& 0xFFB7FFFFFFFF7B = km) (hs : Moves km s0 s') :
    Moves km s0 (scanEff k w' b' s').2 := by
  refine Moves.comp (k1 := 0xFFB7FFFFFFFF7B) ?_ hk hs
  unfold scanEff
  repeat' first
    | with_reducible apply Moves.refl | decide | with_reducible apply assayerCommandEff_moves

theorem execAssayerScan_moves (k : Fin 4) (x1 : Wr) (s : State) (hk : km &&& 0xFFB7FFFFFFEF1B = km) (hs : Moves km s0 s) :
    Moves km s0 (Out.left s (execAssayerScan k x1 s)) := by
  refine Moves.comp (k1 := 0xFFB7FFFFFFEF1B) ?_ hk hs
  unfold execAssayerScan
  repeat' first
    | with_reducible apply Moves.refl | with_reducible assumption | decide | with_reducible apply scanEff_moves
    | ((with_reducible apply accessWrite_moves) <;> try intro _ _ _) | with_reducible apply Moves.next

theorem beginFeedEff_moves (k : ℕ) (w' : Wr) (b' : Bool) (s' : State) (hk : km &&& 0xFFB7FFFFFFFF7B = km) (hs : Moves km s0 s') :
    Moves km s0 (beginFeedEff k w' b' s').2 := by
  refine Moves.comp (k1 := 0xFFB7FFFFFFFF7B) ?_ hk hs
  unfold beginFeedEff
  repeat' first
    | with_reducible apply Moves.refl | decide | with_reducible apply assayerCommandEff_moves

theorem execBeginFeed_moves (k : Fin 4) (x1 : Wr) (s : State) (hk : km &&& 0xFFB7FFFFFFEF1B = km) (hs : Moves km s0 s) :
    Moves km s0 (Out.left s (execBeginFeed k x1 s)) := by
  refine Moves.comp (k1 := 0xFFB7FFFFFFEF1B) ?_ hk hs
  unfold execBeginFeed
  repeat' first
    | with_reducible apply Moves.refl | with_reducible assumption | decide | with_reducible apply beginFeedEff_moves
    | ((with_reducible apply accessWrite_moves) <;> try intro _ _ _) | with_reducible apply Moves.next

theorem endFeedEff_moves (k : ℕ) (w' : Wr) (b' : Bool) (s' : State) (hk : km &&& 0xFFB7FFFFFFFF7B = km) (hs : Moves km s0 s') :
    Moves km s0 (endFeedEff k w' b' s').2 := by
  refine Moves.comp (k1 := 0xFFB7FFFFFFFF7B) ?_ hk hs
  unfold endFeedEff
  repeat' first
    | with_reducible apply Moves.refl | decide | with_reducible apply assayerCommandEff_moves

theorem execEndFeed_moves (k : Fin 4) (x1 : Wr) (s : State) (hk : km &&& 0xFFB7FFFFFFEF1B = km) (hs : Moves km s0 s) :
    Moves km s0 (Out.left s (execEndFeed k x1 s)) := by
  refine Moves.comp (k1 := 0xFFB7FFFFFFEF1B) ?_ hk hs
  unfold execEndFeed
  repeat' first
    | with_reducible apply Moves.refl | with_reducible assumption | decide | with_reducible apply endFeedEff_moves
    | ((with_reducible apply accessWrite_moves) <;> try intro _ _ _) | with_reducible apply Moves.next

theorem assayerAbortEff_moves (k : ℕ) (w' : Wr) (b' : Bool) (s' : State) (hk : km &&& 0xFFB7FFFFFFFF7B = km) (hs : Moves km s0 s') :
    Moves km s0 (assayerAbortEff k w' b' s').2 := by
  refine Moves.comp (k1 := 0xFFB7FFFFFFFF7B) ?_ hk hs
  unfold assayerAbortEff
  repeat' first
    | with_reducible apply Moves.refl | decide | with_reducible apply assayerCommandEff_moves

theorem execAssayerAbort_moves (k : Fin 4) (x1 : Wr) (s : State) (hk : km &&& 0xFFB7FFFFFFEF1B = km) (hs : Moves km s0 s) :
    Moves km s0 (Out.left s (execAssayerAbort k x1 s)) := by
  refine Moves.comp (k1 := 0xFFB7FFFFFFEF1B) ?_ hk hs
  unfold execAssayerAbort
  repeat' first
    | with_reducible apply Moves.refl | with_reducible assumption | decide | with_reducible apply assayerAbortEff_moves
    | ((with_reducible apply accessWrite_moves) <;> try intro _ _ _) | with_reducible apply Moves.next

theorem execFeedWord_moves (k : Fin 4) (x1 : Wr) (s : State) (hk : km &&& 0xFFB7FFFFFFEF9B = km) (hs : Moves km s0 s) :
    Moves km s0 (Out.left s (execFeedWord k x1 s)) := by
  refine Moves.comp (k1 := 0xFFB7FFFFFFEF9B) ?_ hk hs
  unfold execFeedWord
  repeat' first
    | with_reducible apply Moves.refl | with_reducible assumption | decide | ((with_reducible apply accessWrite_moves) <;> try intro _ _ _)
    | with_reducible apply feedWordEff_moves | with_reducible apply Moves.next

theorem execFeedByte_moves (k : Fin 4) (x1 : Wr) (s : State) (hk : km &&& 0xFFB7FFFFFFEF9B = km) (hs : Moves km s0 s) :
    Moves km s0 (Out.left s (execFeedByte k x1 s)) := by
  refine Moves.comp (k1 := 0xFFB7FFFFFFEF9B) ?_ hk hs
  unfold execFeedByte
  repeat' first
    | with_reducible apply Moves.refl | with_reducible assumption | decide | ((with_reducible apply accessWrite_moves) <;> try intro _ _ _)
    | with_reducible apply feedByteEff_moves | with_reducible apply Moves.next

theorem scanRead_moves (s : State) (k : ℕ) (hk : km &&& 0xFFB7FFFFFDFF7B = km) (hs : Moves km s0 s) :
    Moves km s0 (scanRead s k) := by
  refine Moves.comp (k1 := 0xFFB7FFFFFDFF7B) ?_ hk hs
  unfold scanRead
  repeat' first
    | with_reducible apply Moves.refl | decide | with_reducible apply takeBytes_moves | with_reducible apply State.modAsy_moves
    | with_reducible apply busRead_moves | with_reducible apply State.setBits_moves | with_reducible apply State.putN_moves
    | (with_reducible apply Moves.fst (by assumption))
    | (intro x; first | (refine Moves.mid (t := x) ?_ (fun hx => ?_) <;> [dsimp +zetaDelta only; clear_value x]) | clear_value x)
    | (lift_lets; intro x; first | (refine Moves.mid (t := x) ?_ (fun hx => ?_) <;> [dsimp +zetaDelta only; clear_value x]) | clear_value x)
    | split

theorem execScanReadReturn_moves (k : Fin 4) (s : State) (hk : km &&& 0xFFB7FFFFFDFF7B = km) (hs : Moves km s0 s) :
    Moves km s0 (Out.left s (execScanReadReturn k s)) := by
  refine Moves.comp (k1 := 0xFFB7FFFFFDFF7B) ?_ hk hs
  unfold execScanReadReturn
  repeat' first
    | with_reducible apply Moves.refl | decide | with_reducible apply scanRead_moves | with_reducible apply Moves.when

theorem execCheckEnd_moves (k : Fin 4) (s : State) (hk : km &&& 0xFFBFFFFFFFFF7B = km) (hs : Moves km s0 s) :
    Moves km s0 (Out.left s (execCheckEnd k s)) := by
  refine Moves.comp (k1 := 0xFFBFFFFFFFFF7B) ?_ hk hs
  unfold execCheckEnd
  repeat' first
    | with_reducible apply Moves.refl | decide | with_reducible apply endCheck_moves | with_reducible apply Moves.when

theorem assayerEnd_moves (s : State) (hk : km &&& 0xFFBFFFFFFFFF7B = km) (hs : Moves km s0 s) :
    Moves km s0 (assayerEnd s) := by
  refine Moves.comp (k1 := 0xFFBFFFFFFFFF7B) ?_ hk hs
  unfold assayerEnd
  repeat' first
    | with_reducible apply Moves.refl | decide | with_reducible apply endCheck_moves | split
    | ((with_reducible apply Moves.foldl) <;> try intro _ _)

theorem queueFlushEff_moves (q : ℕ) (w' : Wr) (b' : Bool) (s' : State) (hk : km &&& 0xFFFFFFFFFFFFFB = km) (hs : Moves km s0 s') :
    Moves km s0 (queueFlushEff q w' b' s').2 := by
  refine Moves.comp (k1 := 0xFFFFFFFFFFFFFB) ?_ hk hs
  unfold queueFlushEff
  repeat' first
    | with_reducible apply Moves.refl | decide | with_reducible apply rej_moves | with_reducible apply acc_moves
    | with_reducible apply State.put_moves
    | (lift_lets; intro x; first | (refine Moves.mid (t := x) ?_ (fun hx => ?_) <;> [dsimp +zetaDelta only; clear_value x]) | clear_value x)
    | split

theorem queuePlainEff_moves (q : ℕ) (j : ℕ) (w' : Wr) (b' : Bool) (s' : State) (hk : km &&& 0xFFFFFFFFFFFFFB = km) (hs : Moves km s0 s') :
    Moves km s0 (queuePlainEff q j w' b' s').2 := by
  refine Moves.comp (k1 := 0xFFFFFFFFFFFFFB) ?_ hk hs
  unfold queuePlainEff
  repeat' first
    | with_reducible apply Moves.refl | decide | with_reducible apply plainWrite_moves | with_reducible apply rej_moves
    | (lift_lets; intro x; first | (refine Moves.mid (t := x) ?_ (fun hx => ?_) <;> [dsimp +zetaDelta only; clear_value x]) | clear_value x)
    | split

theorem queueEnableEff_moves (q : ℕ) (w' : Wr) (b' : Bool) (s' : State) (hk : km &&& 0xFFBFFFFFFFFFFB = km) (hs : Moves km s0 s') :
    Moves km s0 (queueEnableEff q w' b' s').2 := by
  refine Moves.comp (k1 := 0xFFBFFFFFFFFFFB) ?_ hk hs
  unfold queueEnableEff
  repeat' first
    | with_reducible apply Moves.refl | decide | with_reducible apply State.bump_moves | with_reducible apply rej_moves
    | with_reducible apply acc_moves | with_reducible apply State.putN_moves
    | (lift_lets; intro x; first | (refine Moves.mid (t := x) ?_ (fun hx => ?_) <;> [dsimp +zetaDelta only; clear_value x]) | clear_value x)
    | split

theorem queuePop_moves (s : State) (q : ℕ) (hk : km &&& 0xFFBFFFFFFFFFFB = km) (hs : Moves km s0 s) :
    Moves km s0 (queuePop s q).2 := by
  refine Moves.comp (k1 := 0xFFBFFFFFFFFFFB) ?_ hk hs
  unfold queuePop
  repeat' first
    | with_reducible apply Moves.refl | with_reducible assumption | decide | with_reducible apply State.bump_moves
    | with_reducible apply State.put_moves
    | (intro x; first | (refine Moves.mid (t := x) ?_ (fun hx => ?_) <;> [dsimp +zetaDelta only; clear_value x]) | clear_value x)
    | (lift_lets; intro x; first | (refine Moves.mid (t := x) ?_ (fun hx => ?_) <;> [dsimp +zetaDelta only; clear_value x]) | clear_value x)
    | split | with_reducible apply Moves.of_cyc

theorem State.modPort_moves (s : State) (i : Nat) (f : PortPair → PortPair) (hk : km &&& 0xFFFFFFFFFF7FFF = km) (hs : Moves km s0 s) :
    Moves km s0 (s.modPort i f) :=
  Moves.of_ports s _ (modAt_length _ _ _) hk hs

theorem stageWord_moves (s : State) (m : Master) (v : Word) (hk : km &&& 0xFFFFFFFFFF6FFF = km) (hs : Moves km s0 s) :
    Moves km s0 (stageWord s m v) := by
  refine Moves.comp (k1 := 0xFFFFFFFFFF6FFF) ?_ hk hs
  unfold stageWord
  repeat' first
    | with_reducible apply Moves.refl | decide | with_reducible apply State.modPort_moves | with_reducible apply State.modEng_moves | split

theorem State.answer_moves (s : State) (lo : Word) (hi : Word) (hk : km &&& 0xFFFFFFFFFFFFDF = km) (hs : Moves km s0 s) :
    Moves km s0 (State.answer s lo hi) := by
  refine Moves.comp (k1 := 0xFFFFFFFFFFFFDF) ?_ hk hs
  unfold State.answer
  repeat' first
    | with_reducible apply Moves.refl | decide | with_reducible apply Moves.of_resp

theorem takePush_moves (s : State) (q : ℕ) (hk : km &&& 0xFFBFFFFFFFFFFF = km) (hs : Moves km s0 s) :
    Moves km s0 (takePush s q) := by
  refine Moves.comp (k1 := 0xFFBFFFFFFFFFFF) ?_ hk hs
  unfold takePush
  repeat' first
    | with_reducible apply Moves.refl | decide
    | (lift_lets; intro x; first | (refine Moves.mid (t := x) ?_ (fun hx => ?_) <;> [dsimp +zetaDelta only; clear_value x]) | clear_value x)
    | with_reducible apply Moves.of_cyc

theorem notePop_moves (s : State) (m : Master) (v : Option DWord) (hk : km &&& 0xFFFFFFFFFF6FFF = km) (hs : Moves km s0 s) :
    Moves km s0 (notePop s m v) := by
  refine Moves.comp (k1 := 0xFFFFFFFFFF6FFF) ?_ hk hs
  unfold notePop
  repeat' first
    | with_reducible apply Moves.refl | decide | with_reducible apply State.modPort_moves | with_reducible apply State.modEng_moves
    | (lift_lets; intro x; first | (refine Moves.mid (t := x) ?_ (fun hx => ?_) <;> [dsimp +zetaDelta only; clear_value x]) | clear_value x)
    | split

theorem notePush_moves (s : State) (m : Master) (ok : Bool) (hk : km &&& 0xFFFFFFFFFF6FFF = km) (hs : Moves km s0 s) :
    Moves km s0 (notePush s m ok) := by
  refine Moves.comp (k1 := 0xFFFFFFFFFF6FFF) ?_ hk hs
  unfold notePush
  repeat' first
    | with_reducible apply Moves.refl | decide | with_reducible apply State.modPort_moves | with_reducible apply State.modEng_moves | split

theorem reportFull_moves (s : State) (q : ℕ) (posted : Bool) (hk : km &&& 0xFFFFFFFFFFFF7F = km) (hs : Moves km s0 s) :
    Moves km s0 (reportFull s q posted) := by
  refine Moves.comp (k1 := 0xFFFFFFFFFFFF7F) ?_ hk hs
  unfold reportFull
  repeat' first
    | with_reducible apply Moves.refl | decide | with_reducible apply State.report_moves

theorem queueRequests_moves (s : State) (q : ℕ) (hk : km &&& 0xFFBFFFFFF7FFFB = km) (hs : Moves km s0 s) :
    Moves km s0 (queueRequests s q) := by
  refine Moves.comp (k1 := 0xFFBFFFFFF7FFFB) ?_ hk hs
  unfold queueRequests
  repeat' first
    | with_reducible apply Moves.refl | decide | with_reducible apply requestActivation_moves | split
    | ((with_reducible apply Moves.foldl) <;> try intro _ _)

theorem queueStore_moves (s : State) (q : ℕ) (entry : DWord) (posted : Bool) (was : ℕ) (hk : km &&& 0xFFBFFFFFF79FFB = km) (hs : Moves km s0 s) :
    Moves km s0 (queueStore s q entry posted was) := by
  refine Moves.comp (k1 := 0xFFBFFFFFF79FFB) ?_ hk hs
  have h1 : ∀ x0 x1 x2, Moves 0xFFBFFFFFF79FFB s { s with pool := x0, cyc := x1, posted := x2 } := fun x0 x1 x2 =>
    (Moves.of_posted ({ { s with pool := x0 } with cyc := x1 } : State) x2 (by decide) (Moves.of_cyc ({ s with pool := x0 } : State) x1 (by decide) (Moves.of_pool s x0 (by decide) (Moves.refl _ _))))
  unfold queueStore
  dsimp only
  repeat' first
    | decide | (with_reducible exact h1 _ _ _) | with_reducible apply queueRequests_moves | with_reducible apply State.highWater_moves
    | with_reducible apply State.setBits_moves | with_reducible apply State.bump_moves | with_reducible apply State.put_moves | split

theorem queuePush_moves (s : State) (q : ℕ) (entry : DWord) (src : PushFrom) (hk : km &&& 0xFFBFFFFFF79F7B = km) (hs : Moves km s0 s) :
    Moves km s0 (queuePush s q entry src).2 := by
  refine Moves.comp (k1 := 0xFFBFFFFFF79F7B) ?_ hk hs
  unfold queuePush
  dsimp only
  repeat' first
    | with_reducible apply Moves.refl | decide | with_reducible apply queueStore_moves | with_reducible apply reportFull_moves
    | with_reducible apply State.setBits_moves | with_reducible apply State.bump_moves | with_reducible apply State.put_moves | split

theorem postToRole_moves (s : State) (src : ℕ) (x2 : ℕ) (k : ℕ) (entry : DWord) {t0 : _} (ht : (postToRole s src x2 k entry) = some t0) (hk : km &&& 0xFFFFFFFFFFFEFF = km) (hs : Moves km s0 s) :
    Moves km s0 t0 := by
  refine Moves.comp (k1 := 0xFFFFFFFFFFFEFF) ?_ hk hs
  clear hk hs
  revert ht
  fun_cases postToRole s src x2 k entry
  all_goals intro ht
  all_goals first | contradiction | (injection ht with ht; subst ht) | skip
  all_goals repeat' first
    | with_reducible apply Moves.refl | decide | with_reducible apply Moves.of_postNet

theorem grantPost_moves (s : State) (hk : km &&& 0xFFBFFFFFF79C7B = km) (hs : Moves km s0 s) :
    Moves km s0 (grantPost s) := by
  refine Moves.comp (k1 := 0xFFBFFFFFF79C7B) ?_ hk hs
  have h1 : ∀ x0 x1 x2, Moves 0xFFBFFFFFF79C7B s { s with postNet := x0, postTurn := x1, cyc := x2 } := fun x0 x1 x2 =>
    (Moves.of_cyc ({ { s with postNet := x0 } with postTurn := x1 } : State) x2 (by decide) (Moves.of_postTurn ({ s with postNet := x0 } : State) x1 (by decide) (Moves.of_postNet s x0 (by decide) (Moves.refl _ _))))
  unfold grantPost
  dsimp only
  repeat' first
    | with_reducible apply Moves.refl | decide | exact h1 _ _ _ | with_reducible apply queuePush_moves | split

theorem execQueuePost_moves (s : State) (hk : km &&& 0xFFBFFFFFF79C7B = km) (hs : Moves km s0 s) :
    Moves km s0 (Out.left s (execQueuePost s)) := by
  refine Moves.comp (k1 := 0xFFBFFFFFF79C7B) ?_ hk hs
  unfold execQueuePost
  repeat' first
    | with_reducible apply Moves.refl | decide | with_reducible apply grantPost_moves | with_reducible apply Moves.when

theorem execQueueFlush_moves (q : Fin 32) (x1 : Wr) (s : State) (hk : km &&& 0xFFBFFFFFFFEF9B = km) (hs : Moves km s0 s) :
    Moves km s0 (Out.left s (execQueueFlush q x1 s)) := by
  refine Moves.comp (k1 := 0xFFBFFFFFFFEF9B) ?_ hk hs
  unfold execQueueFlush
  repeat' first
    | with_reducible apply Moves.refl | with_reducible assumption | decide | ((with_reducible apply accessWrite_moves) <;> try intro _ _ _)
    | with_reducible apply queueFlushEff_moves | with_reducible apply Moves.next

theorem execQueueEnable_moves (q : Fin 32) (x1 : Wr) (s : State) (hk : km &&& 0xFFBFFFFFFFEF9B = km) (hs : Moves km s0 s) :
    Moves km s0 (Out.left s (execQueueEnable q x1 s)) := by
  refine Moves.comp (k1 := 0xFFBFFFFFFFEF9B) ?_ hk hs
  unfold execQueueEnable
  repeat' first
    | with_reducible apply Moves.refl | with_reducible assumption | decide | ((with_reducible apply accessWrite_moves) <;> try intro _ _ _)
    | with_reducible apply queueEnableEff_moves | with_reducible apply Moves.next

theorem portRefused_moves (s : State) (m : Master) (q : ℕ) (off : ℕ) (cause : ℕ) (hk : km &&& 0xFFBFFFFFFFEFFB = km) (hs : Moves km s0 s) :
    Moves km s0 (portRefused s m q off cause) := by
  refine Moves.comp (k1 := 0xFFBFFFFFFFEFFB) ?_ hk hs
  unfold portRefused
  repeat' first
    | with_reducible apply Moves.refl | decide | with_reducible apply raiseException_moves | split

theorem execQueuePortStage_moves (m : Master) (q : Fin 32) (v : BitVec 32) (s : State) (hk : km &&& 0xFFBFFFFFFF6FFB = km) (hs : Moves km s0 s) :
    Moves km s0 (Out.left s (execQueuePortStage m q v s)) := by
  refine Moves.comp (k1 := 0xFFBFFFFFFF6FFB) ?_ hk hs
  unfold execQueuePortStage
  repeat' first
    | with_reducible apply Moves.refl | decide | with_reducible apply portRefused_moves | with_reducible apply stageWord_moves
    | with_reducible apply Moves.next | split

theorem execQueuePortPush_moves (m : Master) (q : Fin 32) (v : BitVec 32) (s : State) (hk : km &&& 0xFFBFFFFFF70F7B = km) (hs : Moves km s0 s) :
    Moves km s0 (Out.left s (execQueuePortPush m q v s)) := by
  refine Moves.comp (k1 := 0xFFBFFFFFF70F7B) ?_ hk hs
  unfold execQueuePortPush
  repeat' first
    | with_reducible apply Moves.refl | decide | with_reducible apply portRefused_moves | with_reducible apply queuePush_moves
    | with_reducible apply notePush_moves | with_reducible apply takePush_moves | with_reducible apply Moves.next | split

theorem execQueuePortPop_moves (m : Master) (q : Fin 32) (s : State) (hk : km &&& 0xFFBFFFFFFF6FDB = km) (hs : Moves km s0 s) :
    Moves km s0 (Out.left s (execQueuePortPop m q s)) := by
  refine Moves.comp (k1 := 0xFFBFFFFFFF6FDB) ?_ hk hs
  unfold execQueuePortPop
  repeat' first
    | with_reducible apply Moves.refl | decide | with_reducible apply portRefused_moves | with_reducible apply notePop_moves
    | with_reducible apply State.answer_moves | with_reducible apply queuePop_moves | with_reducible apply Moves.next | split

theorem State.modCan_moves (s : State) (i : Nat) (f : CanChannel → CanChannel) (hk : km &&& 0xFFFFF7FFFFFFFF = km) (hs : Moves km s0 s) :
    Moves km s0 (s.modCan i f) :=
  Moves.of_can s _ (modAt_length _ _ _) hk hs

theorem State.modAgent_moves (s : State) (f : CanAgent → CanAgent) (hk : km &&& 0xFFFFEFFFFFFFFF = km) (hs : Moves km s0 s) :
    Moves km s0 (s.modAgent f) :=
  Moves.of_agent s _  hk hs

theorem noteError_moves (s : State) (code : ℕ) (src : ℕ) (hk : km &&& 0xFFFFFFFFFFFFFB = km) (hs : Moves km s0 s) :
    Moves km s0 (noteError s code src) := by
  refine Moves.comp (k1 := 0xFFFFFFFFFFFFFB) ?_ hk hs
  unfold noteError
  repeat' first
    | with_reducible apply Moves.refl | decide | with_reducible apply State.putN_moves | with_reducible apply State.put_moves
    | ((with_reducible apply Moves.foldl) <;> try intro _ _)

theorem emcy_moves (s : State) (code : ℕ) (src : ℕ) (cls : ℕ) (hk : km &&& 0xFFBFEFFFFFFFFB = km) (hs : Moves km s0 s) :
    Moves km s0 (emcy s code src cls) := by
  refine Moves.comp (k1 := 0xFFBFEFFFFFFFFB) ?_ hk hs
  unfold emcy
  repeat' first
    | with_reducible apply Moves.refl | with_reducible assumption | decide | with_reducible apply noteError_moves
    | with_reducible apply State.modAgent_moves | with_reducible apply State.bump_moves
    | (lift_lets; intro x; first | (refine Moves.mid (t := x) ?_ (fun hx => ?_) <;> [dsimp +zetaDelta only; clear_value x]) | clear_value x)
    | split

theorem agentEmcy_moves (s : State) (code : ℕ) (hk : km &&& 0xFFBFEFFFFFFFEB = km) (hs : Moves km s0 s) :
    Moves km s0 (agentEmcy s code) := by
  refine Moves.comp (k1 := 0xFFBFEFFFFFFFEB) ?_ hk hs
  unfold agentEmcy
  repeat' first
    | with_reducible apply Moves.refl | decide | with_reducible apply emcy_moves | with_reducible apply State.freshByte_moves | split

end Sys2Proof.Machine
end

