-- ==== Sys2Proof/Laws/MovesEngine.lean ====
section
/-! SUPPORT. What every operation keeps, one lemma each, named after the operation, with the bits of `Moves`: the Tide, the engines and the Foreman, the marks and the sense channels. -/
namespace Sys2Proof.Machine

set_option linter.all false

variable {km : Nat} {s0 : State}

theorem settleLock_moves (s : State) (u : ℕ) (hk : km &&& 0xFFFFFFFFFFFFFB = km) (hs : Moves km s0 s) :
    Moves km s0 (settleLock s u) := by
  refine Moves.comp (k1 := 0xFFFFFFFFFFFFFB) ?_ hk hs
  unfold settleLock
  repeat' first
    | with_reducible apply Moves.refl | decide | with_reducible apply State.putN_moves | split

theorem settle_moves (s : State) (u : ℕ) (hk : km &&& 0xFFFFFFFFFFF7FB = km) (hs : Moves km s0 s) :
    Moves km s0 (settle s u) := by
  refine Moves.comp (k1 := 0xFFFFFFFFFFF7FB) ?_ hk hs
  unfold settle
  repeat' first
    | with_reducible apply Moves.refl | decide | with_reducible apply settleLock_moves | with_reducible apply State.modWheel_moves | split

theorem wheelPlainEff_moves (u : ℕ) (j : ℕ) (w' : Wr) (b' : Bool) (s' : State) (hk : km &&& 0xFFFFFFFFFFF7FB = km) (hs : Moves km s0 s') :
    Moves km s0 (wheelPlainEff u j w' b' s').2 := by
  refine Moves.comp (k1 := 0xFFFFFFFFFFF7FB) ?_ hk hs
  unfold wheelPlainEff
  repeat' first
    | with_reducible apply Moves.refl | decide | with_reducible apply settle_moves | with_reducible apply plainWrite_moves
    | with_reducible apply State.store_moves | with_reducible apply rej_moves | with_reducible apply acc_moves | split

theorem dropFrequencyStaging_moves (u : ℕ) (s : State) (hk : km &&& 0xFFFFFFFFFFFFFB = km) (hs : Moves km s0 s) :
    Moves km s0 (dropFrequencyStaging u s) := by
  refine Moves.comp (k1 := 0xFFFFFFFFFFFFFB) ?_ hk hs
  unfold dropFrequencyStaging
  repeat' first
    | with_reducible apply Moves.refl | decide | with_reducible apply State.putN_moves

theorem ownFrequencyEff_moves (u : ℕ) (w' : Wr) (b' : Bool) (s' : State) (hk : km &&& 0xFFFFFFFFFFF7FB = km) (hs : Moves km s0 s') :
    Moves km s0 (ownFrequencyEff u w' b' s').2 := by
  refine Moves.comp (k1 := 0xFFFFFFFFFFF7FB) ?_ hk hs
  unfold ownFrequencyEff
  repeat' first
    | with_reducible apply Moves.refl | decide | with_reducible apply dropFrequencyStaging_moves | with_reducible apply settle_moves
    | with_reducible apply State.modWheel_moves | with_reducible apply rej_moves | with_reducible apply acc_moves
    | with_reducible apply State.put_moves
    | (intro x; first | (refine Moves.mid (t := x) ?_ (fun hx => ?_) <;> [dsimp +zetaDelta only; clear_value x]) | clear_value x)
    | (lift_lets; intro x; first | (refine Moves.mid (t := x) ?_ (fun hx => ?_) <;> [dsimp +zetaDelta only; clear_value x]) | clear_value x)
    | split

theorem angleSetEff_moves (u : ℕ) (w' : Wr) (b' : Bool) (s' : State) (hk : km &&& 0xFFFFFFFFFFF7FF = km) (hs : Moves km s0 s') :
    Moves km s0 (angleSetEff u w' b' s').2 := by
  refine Moves.comp (k1 := 0xFFFFFFFFFFF7FF) ?_ hk hs
  unfold angleSetEff
  repeat' first
    | with_reducible apply Moves.refl | decide | with_reducible apply State.modWheel_moves | with_reducible apply rej_moves
    | with_reducible apply acc_moves | split

theorem loopRestart_moves (s : State) (u : ℕ) (hk : km &&& 0xFFFFFFFFFFF7FB = km) (hs : Moves km s0 s) :
    Moves km s0 (loopRestart s u) := by
  refine Moves.comp (k1 := 0xFFFFFFFFFFF7FB) ?_ hk hs
  unfold loopRestart
  repeat' first
    | with_reducible apply Moves.refl | decide | with_reducible apply State.modWheel_moves | with_reducible apply State.putN_moves

theorem zeroChannelEff_moves (u : ℕ) (w' : Wr) (b' : Bool) (s' : State) (hk : km &&& 0xFFFFFFFFFFF7FB = km) (hs : Moves km s0 s') :
    Moves km s0 (zeroChannelEff u w' b' s').2 := by
  refine Moves.comp (k1 := 0xFFFFFFFFFFF7FB) ?_ hk hs
  unfold zeroChannelEff
  repeat' first
    | with_reducible apply Moves.refl | decide | with_reducible apply loopRestart_moves | with_reducible apply State.modWheel_moves
    | with_reducible apply State.store_moves | with_reducible apply acc_moves | split

theorem multEff_moves (u : ℕ) (w' : Wr) (b' : Bool) (s' : State) (hk : km &&& 0xFFFFFFFFFFF7FB = km) (hs : Moves km s0 s') :
    Moves km s0 (multEff u w' b' s').2 := by
  refine Moves.comp (k1 := 0xFFFFFFFFFFF7FB) ?_ hk hs
  unfold multEff
  repeat' first
    | with_reducible apply Moves.refl | decide | with_reducible apply loopRestart_moves | with_reducible apply State.store_moves
    | with_reducible apply acc_moves | split

theorem syncEff_moves (j : ℕ) (w' : Wr) (b' : Bool) (s' : State) (hk : km &&& 0xFFFFFFFFFFF7FB = km) (hs : Moves km s0 s') :
    Moves km s0 (syncEff j w' b' s').2 := by
  refine Moves.comp (k1 := 0xFFFFFFFFFFF7FB) ?_ hk hs
  unfold syncEff
  repeat' first
    | with_reducible apply Moves.refl | with_reducible assumption | decide | with_reducible apply plainWrite_moves
    | with_reducible apply State.store_moves | with_reducible apply acc_moves
    | (lift_lets; intro x; first | (refine Moves.mid (t := x) ?_ (fun hx => ?_) <;> [dsimp +zetaDelta only; clear_value x]) | clear_value x)
    | split | with_reducible apply Moves.of_tide | exact ⟨rfl, rfl⟩

theorem encoderGlide_moves (s : State) (u : ℕ) (hk : km &&& 0xFFBFFFFFFFF7FB = km) (hs : Moves km s0 s) :
    Moves km s0 (encoderGlide s u) := by
  refine Moves.comp (k1 := 0xFFBFFFFFFFF7FB) ?_ hk hs
  unfold encoderGlide
  repeat' first
    | with_reducible apply Moves.refl | decide | with_reducible apply settle_moves | with_reducible apply State.modWheel_moves
    | with_reducible apply State.setBits_moves | with_reducible apply State.putN_moves

theorem dropFollowers_moves (s : State) (k : ℕ) (hk : km &&& 0xFFBFFFFFFFF7FB = km) (hs : Moves km s0 s) :
    Moves km s0 (dropFollowers s k) := by
  refine Moves.comp (k1 := 0xFFBFFFFFFFF7FB) ?_ hk hs
  unfold dropFollowers
  repeat' first
    | with_reducible apply Moves.refl | decide | with_reducible apply encoderGlide_moves | split
    | ((with_reducible apply Moves.foldl) <;> try intro _ _)

theorem encoderEnableEff_moves (k : ℕ) (w' : Wr) (b' : Bool) (s' : State) (hk : km &&& 0xFFBFFFFFFFF7FB = km) (hs : Moves km s0 s') :
    Moves km s0 (encoderEnableEff k w' b' s').2 := by
  refine Moves.comp (k1 := 0xFFBFFFFFFFF7FB) ?_ hk hs
  unfold encoderEnableEff
  repeat' first
    | with_reducible apply Moves.refl | decide | with_reducible apply dropFollowers_moves | with_reducible apply State.modEnc_moves
    | with_reducible apply acc_moves | with_reducible apply State.putN_moves
    | (lift_lets; intro x; first | (refine Moves.mid (t := x) ?_ (fun hx => ?_) <;> [dsimp +zetaDelta only; clear_value x]) | clear_value x)
    | split

theorem wheelModeEff_moves (u : ℕ) (w' : Wr) (b' : Bool) (s' : State) (hk : km &&& 0xFFFFFFFFFFF7FB = km) (hs : Moves km s0 s') :
    Moves km s0 (wheelModeEff u w' b' s').2 := by
  refine Moves.comp (k1 := 0xFFFFFFFFFFF7FB) ?_ hk hs
  unfold wheelModeEff
  repeat' first
    | with_reducible apply Moves.refl | decide | with_reducible apply settle_moves | with_reducible apply State.modWheel_moves
    | with_reducible apply rej_moves | with_reducible apply acc_moves | with_reducible apply State.putN_moves
    | (intro x; first | (refine Moves.mid (t := x) ?_ (fun hx => ?_) <;> [dsimp +zetaDelta only; clear_value x]) | clear_value x)
    | (lift_lets; intro x; first | (refine Moves.mid (t := x) ?_ (fun hx => ?_) <;> [dsimp +zetaDelta only; clear_value x]) | clear_value x)
    | split

theorem encoderPlainEff_moves (k : ℕ) (j : ℕ) (w' : Wr) (b' : Bool) (s' : State) (hk : km &&& 0xFFBFFFFFFFF7FB = km) (hs : Moves km s0 s') :
    Moves km s0 (encoderPlainEff k j w' b' s').2 := by
  refine Moves.comp (k1 := 0xFFBFFFFFFFF7FB) ?_ hk hs
  unfold encoderPlainEff
  repeat' first
    | with_reducible apply Moves.refl | decide | with_reducible apply State.clrBits_moves | with_reducible apply State.modEnc_moves
    | with_reducible apply plainWrite_moves | with_reducible apply State.store_moves | with_reducible apply rej_moves
    | with_reducible apply acc_moves
    | (lift_lets; intro x; first | (refine Moves.mid (t := x) ?_ (fun hx => ?_) <;> [dsimp +zetaDelta only; clear_value x]) | clear_value x)
    | split

theorem referenceLost_moves (s : State) (u : ℕ) (hk : km &&& 0xFFBFFFFFFFF77B = km) (hs : Moves km s0 s) :
    Moves km s0 (referenceLost s u) := by
  refine Moves.comp (k1 := 0xFFBFFFFFFFF77B) ?_ hk hs
  unfold referenceLost
  repeat' first
    | with_reducible apply Moves.refl | decide | with_reducible apply settle_moves | with_reducible apply State.report_moves
    | with_reducible apply State.setBits_moves | with_reducible apply State.putN_moves

theorem referenceEvent_moves (s : State) (u : ℕ) (L : ℕ) (hk : km &&& 0xFFBFFFFFFFF77B = km) (hs : Moves km s0 s) :
    Moves km s0 (referenceEvent s u L) := by
  refine Moves.comp (k1 := 0xFFBFFFFFFFF77B) ?_ hk hs
  unfold referenceEvent
  repeat' first
    | with_reducible apply Moves.refl | with_reducible assumption | decide | with_reducible apply referenceLost_moves
    | with_reducible apply State.modWheel_moves | with_reducible apply State.bump_moves
    | (intro x; first | (refine Moves.mid (t := x) ?_ (fun hx => ?_) <;> [dsimp +zetaDelta only; clear_value x]) | clear_value x)
    | (lift_lets; intro x; first | (refine Moves.mid (t := x) ?_ (fun hx => ?_) <;> [dsimp +zetaDelta only; clear_value x]) | clear_value x)
    | split

theorem zeroCrossing_moves (s : State) (u : ℕ) (x : ℤ) (valid : Bool) (L : ℕ) (hk : km &&& 0xFFBFFFFFFFF77B = km) (hs : Moves km s0 s) :
    Moves km s0 (zeroCrossing s u x valid L) := by
  refine Moves.comp (k1 := 0xFFBFFFFFFFF77B) ?_ hk hs
  unfold zeroCrossing
  repeat' first
    | with_reducible apply Moves.refl | with_reducible assumption | decide | with_reducible apply referenceEvent_moves
    | with_reducible apply State.modWheel_moves
    | (intro x; first | (refine Moves.mid (t := x) ?_ (fun hx => ?_) <;> [dsimp +zetaDelta only; clear_value x]) | clear_value x)
    | (lift_lets; intro x; first | (refine Moves.mid (t := x) ?_ (fun hx => ?_) <;> [dsimp +zetaDelta only; clear_value x]) | clear_value x)
    | split

theorem zeroCrossings_moves (s : State) (c : ℕ) (x : ℤ) (valid : Bool) (L : ℕ) (hk : km &&& 0xFFBFFFFFFFF77B = km) (hs : Moves km s0 s) :
    Moves km s0 (zeroCrossings s c x valid L) := by
  refine Moves.comp (k1 := 0xFFBFFFFFFFF77B) ?_ hk hs
  unfold zeroCrossings
  repeat' first
    | with_reducible apply Moves.refl | decide | with_reducible apply zeroCrossing_moves | split
    | ((with_reducible apply Moves.foldl) <;> try intro _ _)

theorem execEncoderEnable_moves (k : Fin 4) (x1 : Wr) (s : State) (hk : km &&& 0xFFBFFFFFFFE79B = km) (hs : Moves km s0 s) :
    Moves km s0 (Out.left s (execEncoderEnable k x1 s)) := by
  refine Moves.comp (k1 := 0xFFBFFFFFFFE79B) ?_ hk hs
  unfold execEncoderEnable
  repeat' first
    | with_reducible apply Moves.refl | with_reducible assumption | decide | ((with_reducible apply accessWrite_moves) <;> try intro _ _ _)
    | with_reducible apply encoderEnableEff_moves | with_reducible apply Moves.next

theorem execReferenceLost_moves (u : Fin 8) (s : State) (hk : km &&& 0xFFBFFFFFFFF77B = km) (hs : Moves km s0 s) :
    Moves km s0 (Out.left s (execReferenceLost u s)) := by
  refine Moves.comp (k1 := 0xFFBFFFFFFFF77B) ?_ hk hs
  unfold execReferenceLost
  repeat' first
    | with_reducible apply Moves.refl | decide | with_reducible apply referenceLost_moves | with_reducible apply Moves.when

theorem execSyncoPulseEnd_moves (s : State) (hk : km &&& 0xFFFFFFFFFFF7FF = km) (hs : Moves km s0 s) :
    Moves km s0 (Out.left s (execSyncoPulseEnd s)) := by
  refine Moves.comp (k1 := 0xFFFFFFFFFFF7FF) ?_ hk hs
  unfold execSyncoPulseEnd
  dsimp only
  repeat' first
    | with_reducible apply Moves.refl | decide | with_reducible apply Moves.next | with_reducible apply Moves.when | split
    | with_reducible apply Moves.of_tide | exact ⟨rfl, rfl⟩

theorem execTurnsPerReferenceWrite_moves (u : Fin 8) (x1 : Wr) (s : State) (hk : km &&& 0xFFBFFFFFFFE79B = km) (hs : Moves km s0 s) :
    Moves km s0 (Out.left s (execTurnsPerReferenceWrite u x1 s)) := by
  refine Moves.comp (k1 := 0xFFBFFFFFFFE79B) ?_ hk hs
  unfold execTurnsPerReferenceWrite
  repeat' first
    | with_reducible apply Moves.refl | with_reducible assumption | decide | ((with_reducible apply accessWrite_moves) <;> try intro _ _ _)
    | with_reducible apply multEff_moves | with_reducible apply Moves.next

theorem lockJudge_moves (s : State) (u : ℕ) (st : ℕ) (run : ℕ) (r : LoopResult) (hk : km &&& 0xFFBFFFFFFFF7FB = km) (hs : Moves km s0 s) :
    Moves km s0 (lockJudge s u st run r) := by
  refine Moves.comp (k1 := 0xFFBFFFFFFFF7FB) ?_ hk hs
  unfold lockJudge
  repeat' first
    | with_reducible apply Moves.refl | decide | with_reducible apply State.modWheel_moves | with_reducible apply State.setBits_moves
    | with_reducible apply State.putN_moves
    | (intro x; first | (refine Moves.mid (t := x) ?_ (fun hx => ?_) <;> [dsimp +zetaDelta only; clear_value x]) | clear_value x)
    | (lift_lets; intro x; first | (refine Moves.mid (t := x) ?_ (fun hx => ?_) <;> [dsimp +zetaDelta only; clear_value x]) | clear_value x)
    | split

theorem loopUpdate_moves (s : State) (u : ℕ) (r : LoopResult) (hk : km &&& 0xFFBFFFFFFFF7FB = km) (hs : Moves km s0 s) :
    Moves km s0 (loopUpdate s u r) := by
  refine Moves.comp (k1 := 0xFFBFFFFFFFF7FB) ?_ hk hs
  unfold loopUpdate
  repeat' first
    | with_reducible apply Moves.refl | decide | with_reducible apply lockJudge_moves | with_reducible apply State.putI_moves
    | with_reducible apply State.modWheel_moves | with_reducible apply State.setBits_moves | split

theorem execLockLoopUpdate_moves (u : Fin 8) (s : State) (hk : km &&& 0xFFBFFFFFFFF7FB = km) (hs : Moves km s0 s) :
    Moves km s0 (Out.left s (execLockLoopUpdate u s)) := by
  refine Moves.comp (k1 := 0xFFBFFFFFFFF7FB) ?_ hk hs
  unfold execLockLoopUpdate
  repeat' first
    | with_reducible apply Moves.refl | decide | with_reducible apply loopUpdate_moves | with_reducible apply Moves.next
    | with_reducible apply Moves.when | split

theorem glideStep_moves (s : State) (u : ℕ) (hk : km &&& 0xFFFFFFFFFFF7FB = km) (hs : Moves km s0 s) :
    Moves km s0 (glideStep s u) := by
  refine Moves.comp (k1 := 0xFFFFFFFFFFF7FB) ?_ hk hs
  unfold glideStep
  repeat' first
    | with_reducible apply Moves.refl | decide | with_reducible apply settleLock_moves | with_reducible apply State.modWheel_moves
    | (intro x; first | (refine Moves.mid (t := x) ?_ (fun hx => ?_) <;> [dsimp +zetaDelta only; clear_value x]) | clear_value x)
    | (lift_lets; intro x; first | (refine Moves.mid (t := x) ?_ (fun hx => ?_) <;> [dsimp +zetaDelta only; clear_value x]) | clear_value x)
    | split

theorem tideTick_moves (s : State) (hk : km &&& 0xFFFFFFFFFFF7FB = km) (hs : Moves km s0 s) :
    Moves km s0 (tideTick s) := by
  refine Moves.comp (k1 := 0xFFFFFFFFFFF7FB) ?_ hk hs
  unfold tideTick
  repeat' first
    | with_reducible apply Moves.refl | decide | with_reducible apply glideStep_moves | with_reducible apply State.sub_moves | split
    | ((with_reducible apply Moves.foldl) <;> try intro _ _)

theorem encoderLossCheck_moves (s : State) (k : ℕ) (hk : km &&& 0xFFBFFFFFFFF77B = km) (hs : Moves km s0 s) :
    Moves km s0 (encoderLossCheck s k) := by
  refine Moves.comp (k1 := 0xFFBFFFFFFFF77B) ?_ hk hs
  unfold encoderLossCheck
  repeat' first
    | with_reducible apply Moves.refl | decide | with_reducible apply dropFollowers_moves | with_reducible apply State.report_moves
    | with_reducible apply State.setBits_moves | split

theorem encoderScore_moves (s : State) (k : ℕ) (hk : km &&& 0xFFBFFFFFFFF77B = km) (hs : Moves km s0 s) :
    Moves km s0 (encoderScore s k) := by
  refine Moves.comp (k1 := 0xFFBFFFFFFFF77B) ?_ hk hs
  unfold encoderScore
  repeat' first
    | with_reducible apply Moves.refl | decide | with_reducible apply encoderLossCheck_moves | with_reducible apply State.bump_moves

theorem indexPulse_moves (s : State) (k : ℕ) (hk : km &&& 0xFFBFFFFFFFF77B = km) (hs : Moves km s0 s) :
    Moves km s0 (indexPulse s k) := by
  refine Moves.comp (k1 := 0xFFBFFFFFFFF77B) ?_ hk hs
  unfold indexPulse
  repeat' first
    | with_reducible apply Moves.refl | with_reducible assumption | decide | with_reducible apply encoderScore_moves
    | with_reducible apply State.modEnc_moves | with_reducible apply State.setBits_moves | with_reducible apply State.bump_moves
    | with_reducible apply State.put_moves
    | (intro x; first | (refine Moves.mid (t := x) ?_ (fun hx => ?_) <;> [dsimp +zetaDelta only; clear_value x]) | clear_value x)
    | (lift_lets; intro x; first | (refine Moves.mid (t := x) ?_ (fun hx => ?_) <;> [dsimp +zetaDelta only; clear_value x]) | clear_value x)
    | split

theorem execIndexPulse_moves (k : Fin 4) (held : ℕ) (s : State) (hk : km &&& 0xFFBFFFFFFFF77B = km) (hs : Moves km s0 s) :
    Moves km s0 (Out.left s (execIndexPulse k held s)) := by
  refine Moves.comp (k1 := 0xFFBFFFFFFFF77B) ?_ hk hs
  unfold execIndexPulse
  repeat' first
    | with_reducible apply Moves.refl | decide | with_reducible apply indexPulse_moves | with_reducible apply Moves.when

theorem execEncoderStall_moves (k : Fin 4) (s : State) (hk : km &&& 0xFFBFFFFFFFF7FB = km) (hs : Moves km s0 s) :
    Moves km s0 (Out.left s (execEncoderStall k s)) := by
  refine Moves.comp (k1 := 0xFFBFFFFFFFF7FB) ?_ hk hs
  unfold execEncoderStall
  repeat' first
    | with_reducible apply Moves.refl | decide | with_reducible apply State.modEnc_moves | with_reducible apply State.setBits_moves
    | with_reducible apply State.putN_moves | with_reducible apply Moves.next | with_reducible apply Moves.when | split

theorem countInterval_moves (s : State) (k : ℕ) (fwd : Bool) (hk : km &&& 0xFFBFFFFFFFF7FB = km) (hs : Moves km s0 s) :
    Moves km s0 (countInterval s k fwd) := by
  refine Moves.comp (k1 := 0xFFBFFFFFFFF7FB) ?_ hk hs
  unfold countInterval
  repeat' first
    | with_reducible apply Moves.refl | decide | with_reducible apply State.clrBits_moves | with_reducible apply State.putI_moves
    | with_reducible apply State.modEnc_moves | split

theorem indexOverrun_moves (s : State) (k : ℕ) (fwd : Bool) (hk : km &&& 0xFFBFFFFFFFF77B = km) (hs : Moves km s0 s) :
    Moves km s0 (indexOverrun s k fwd) := by
  refine Moves.comp (k1 := 0xFFBFFFFFFFF77B) ?_ hk hs
  unfold indexOverrun
  repeat' first
    | with_reducible apply Moves.refl | decide | with_reducible apply encoderScore_moves | with_reducible apply State.modEnc_moves
    | with_reducible apply State.bump_moves
    | (intro x; first | (refine Moves.mid (t := x) ?_ (fun hx => ?_) <;> [dsimp +zetaDelta only; clear_value x]) | clear_value x)
    | (lift_lets; intro x; first | (refine Moves.mid (t := x) ?_ (fun hx => ?_) <;> [dsimp +zetaDelta only; clear_value x]) | clear_value x)
    | split

theorem encoderStep_moves (s : State) (k : ℕ) (fwd : Bool) (hk : km &&& 0xFFBFFFFFFFF77B = km) (hs : Moves km s0 s) :
    Moves km s0 (encoderStep s k fwd) := by
  refine Moves.comp (k1 := 0xFFBFFFFFFFF77B) ?_ hk hs
  unfold encoderStep
  repeat' first
    | with_reducible apply Moves.refl | decide | with_reducible apply indexOverrun_moves | with_reducible apply countInterval_moves
    | with_reducible apply State.putN_moves

theorem execEncoderCount_moves (k : Fin 4) (a : Bool) (x2 : Bool) (heldA : ℕ) (heldB : ℕ) (s : State) (hk : km &&& 0xFFBFFFFFFFF77B = km) (hs : Moves km s0 s) :
    Moves km s0 (Out.left s (execEncoderCount k a x2 heldA heldB s)) := by
  refine Moves.comp (k1 := 0xFFBFFFFFFFF77B) ?_ hk hs
  unfold execEncoderCount
  repeat' first
    | with_reducible apply Moves.refl | with_reducible assumption | decide | with_reducible apply encoderStep_moves
    | with_reducible apply encoderScore_moves | with_reducible apply State.modEnc_moves | with_reducible apply State.bump_moves
    | with_reducible apply Moves.next
    | (intro x; first | (refine Moves.mid (t := x) ?_ (fun hx => ?_) <;> [dsimp +zetaDelta only; clear_value x]) | clear_value x)
    | (lift_lets; intro x; first | (refine Moves.mid (t := x) ?_ (fun hx => ?_) <;> [dsimp +zetaDelta only; clear_value x]) | clear_value x)
    | split

theorem execOwnFrequencyCommit_moves (u : Fin 8) (x1 : Wr) (s : State) (hk : km &&& 0xFFBFFFFFFFE79B = km) (hs : Moves km s0 s) :
    Moves km s0 (Out.left s (execOwnFrequencyCommit u x1 s)) := by
  refine Moves.comp (k1 := 0xFFBFFFFFFFE79B) ?_ hk hs
  unfold execOwnFrequencyCommit
  repeat' first
    | with_reducible apply Moves.refl | with_reducible assumption | decide | ((with_reducible apply accessWrite_moves) <;> try intro _ _ _)
    | with_reducible apply ownFrequencyEff_moves | with_reducible apply Moves.next

theorem execSynciEdge_moves (rising : Bool) (held : ℕ) (s : State) (hk : km &&& 0xFFBFFFFFFFF77B = km) (hs : Moves km s0 s) :
    Moves km s0 (Out.left s (execSynciEdge rising held s)) := by
  refine Moves.comp (k1 := 0xFFBFFFFFFFF77B) ?_ hk hs
  unfold execSynciEdge
  dsimp only
  repeat' first
    | with_reducible apply Moves.refl | decide | with_reducible apply referenceEvent_moves | with_reducible apply State.bump_moves
    | with_reducible apply Moves.next | split | ((with_reducible apply Moves.foldl) <;> try intro _ _) | with_reducible apply Moves.of_tide
    | exact ⟨rfl, rfl⟩

theorem syncoRequest_moves (s : State) (rise : ℕ) (hk : km &&& 0xFFFFFFFFFFF7FF = km) (hs : Moves km s0 s) :
    Moves km s0 (syncoRequest s rise) := by
  refine Moves.comp (k1 := 0xFFFFFFFFFFF7FF) ?_ hk hs
  unfold syncoRequest
  dsimp only
  repeat' first
    | with_reducible apply Moves.refl | decide | split | with_reducible apply Moves.of_tide | exact ⟨rfl, rfl⟩

theorem execAngleSet_moves (u : Fin 8) (x1 : Wr) (s : State) (hk : km &&& 0xFFBFFFFFFFE79B = km) (hs : Moves km s0 s) :
    Moves km s0 (Out.left s (execAngleSet u x1 s)) := by
  refine Moves.comp (k1 := 0xFFBFFFFFFFE79B) ?_ hk hs
  unfold execAngleSet
  repeat' first
    | with_reducible apply Moves.refl | with_reducible assumption | decide | ((with_reducible apply accessWrite_moves) <;> try intro _ _ _)
    | with_reducible apply angleSetEff_moves | with_reducible apply Moves.next

theorem execSyncoTurnCrossing_moves (s : State) (hk : km &&& 0xFFFFFFFFFFF7FF = km) (hs : Moves km s0 s) :
    Moves km s0 (Out.left s (execSyncoTurnCrossing s)) := by
  refine Moves.comp (k1 := 0xFFFFFFFFFFF7FF) ?_ hk hs
  unfold execSyncoTurnCrossing
  dsimp only
  repeat' first
    | with_reducible apply Moves.refl | decide | with_reducible apply syncoRequest_moves | with_reducible apply Moves.when
    | with_reducible apply Moves.of_tide | exact ⟨rfl, rfl⟩

theorem wheelTick_moves (s : State) (u : ℕ) (hk : km &&& 0xFFFFFFFFFFF7FF = km) (hs : Moves km s0 s) :
    Moves km s0 (wheelTick s u) := by
  refine Moves.comp (k1 := 0xFFFFFFFFFFF7FF) ?_ hk hs
  unfold wheelTick
  repeat' first
    | with_reducible apply Moves.refl | decide | with_reducible apply State.modWheel_moves | split

theorem syncoCount_moves (s : State) (hk : km &&& 0xFFFFFFFFFFF7FF = km) (hs : Moves km s0 s) :
    Moves km s0 (syncoCount s) := by
  refine Moves.comp (k1 := 0xFFFFFFFFFFF7FF) ?_ hk hs
  unfold syncoCount
  dsimp only
  repeat' first
    | with_reducible apply Moves.refl | decide | split | with_reducible apply Moves.of_tide | exact ⟨rfl, rfl⟩

theorem tideCycle_moves (s : State) (hk : km &&& 0xFFFFFFFFFFF7FF = km) (hs : Moves km s0 s) :
    Moves km s0 (tideCycle s) := by
  refine Moves.comp (k1 := 0xFFFFFFFFFFF7FF) ?_ hk hs
  unfold tideCycle
  repeat' first
    | with_reducible apply Moves.refl | decide | with_reducible apply syncoCount_moves | with_reducible apply wheelTick_moves | split
    | ((with_reducible apply Moves.foldl) <;> try intro _ _)

theorem enginePlainEff_moves (x0 : ℕ) (j : ℕ) (w' : Wr) (b' : Bool) (s' : State) (hk : km &&& 0xFFFFFFFFFFFFFB = km) (hs : Moves km s0 s') :
    Moves km s0 (enginePlainEff x0 j w' b' s').2 := by
  refine Moves.comp (k1 := 0xFFFFFFFFFFFFFB) ?_ hk hs
  unfold enginePlainEff
  repeat' first
    | with_reducible apply Moves.refl | decide | with_reducible apply plainWrite_moves | with_reducible apply rej_moves | split

theorem runControlEff_moves (x0 : ℕ) (w' : Wr) (b' : Bool) (s' : State) (hk : km &&& 0xFFBFFBFFF5EF23 = km) (hs : Moves km s0 s') :
    Moves km s0 (runControlEff x0 w' b' s').2 := by
  refine Moves.comp (k1 := 0xFFBFFBFFF5EF23) ?_ hk hs
  unfold runControlEff
  repeat' first
    | with_reducible apply Moves.refl | decide | with_reducible apply resetCore_moves | with_reducible apply engineLost_moves
    | with_reducible apply foremanAct_moves | with_reducible apply abandonOn_moves | with_reducible apply State.bump_moves
    | with_reducible apply rej_moves | with_reducible apply acc_moves | with_reducible apply State.put_moves | split

theorem writeReg_moves (s : State) (x1 : ℕ) (rd : ℕ) (v : Word) (hk : km &&& 0xFFFFFFFFFFEFFF = km) (hs : Moves km s0 s) :
    Moves km s0 (writeReg s x1 rd v) := by
  refine Moves.comp (k1 := 0xFFFFFFFFFFEFFF) ?_ hk hs
  unfold writeReg
  repeat' first
    | with_reducible apply Moves.refl | decide | with_reducible apply State.modEng_moves

theorem instruction_moves (s : State) (x1 : ℕ) (f : Engine → State) (hk : km &&& 0xFFFFFFFFFFFFFF = km) (hs : Moves km s0 s) (hf : ∀ g, Moves km s0 (f g)) :
    Moves km s0 (Out.left s (instruction s x1 f)) := by
  unfold instruction
  repeat' first
    | with_reducible assumption | (with_reducible apply hf) | with_reducible apply Moves.next | split

theorem execTreach_moves (x0 : Fin 16) (rd : Fin 32) (rs1 : Fin 32) (rs2 : Fin 32) (s : State) (hk : km &&& 0xFFFFFFFFFFEFFF = km) (hs : Moves km s0 s) :
    Moves km s0 (Out.left s (execTreach x0 rd rs1 rs2 s)) := by
  refine Moves.comp (k1 := 0xFFFFFFFFFFEFFF) ?_ hk hs
  unfold execTreach
  repeat' first
    | with_reducible apply Moves.refl | decide | ((with_reducible apply instruction_moves) <;> try intro _)
    | with_reducible apply writeReg_moves

theorem ownTcmError_moves (s : State) (x1 : ℕ) (r : Region) (hk : km &&& 0xFFFFFFFFFFEFFF = km) (hs : Moves km s0 s) :
    Moves km s0 (ownTcmError s x1 r) := by
  refine Moves.comp (k1 := 0xFFFFFFFFFFEFFF) ?_ hk hs
  unfold ownTcmError
  repeat' first
    | with_reducible apply Moves.refl | decide | with_reducible apply State.modEng_moves | split

theorem atomicAt_moves (s : State) (x1 : ℕ) (g : Engine) (a : Word) (misaligned : ℕ) (kinds : List PmpKind) (fault : ℕ) (f : ℕ → Region → State) (hk : km &&& 0xFFBFFFFFFFEFFB = km) (hs : Moves km s0 s) (hf : ∀ w r, Moves km s0 (f w r)) :
    Moves km s0 (atomicAt s x1 g a misaligned kinds fault f) := by
  unfold atomicAt
  repeat' first
    | with_reducible assumption | (with_reducible apply hf) | with_reducible apply raiseException_moves | split

theorem execLrW_moves (x0 : Fin 16) (rd : Fin 32) (rs1 : Fin 32) (s : State) (hk : km &&& 0xFFBFFFFFFDEF7B = km) (hs : Moves km s0 s) :
    Moves km s0 (Out.left s (execLrW x0 rd rs1 s)) := by
  refine Moves.comp (k1 := 0xFFBFFFFFFDEF7B) ?_ hk hs
  unfold execLrW
  repeat' first
    | with_reducible apply Moves.refl | decide | ((with_reducible apply atomicAt_moves) <;> try intro _ _)
    | with_reducible apply ownTcmError_moves | ((with_reducible apply instruction_moves) <;> try intro _)
    | with_reducible apply eccRead_moves | with_reducible apply raiseException_moves | with_reducible apply State.modEng_moves
    | (with_reducible apply Moves.fst (by assumption)) | split

theorem illegal_moves (s : State) (x1 : ℕ) (hk : km &&& 0xFFBFFFFFFFEFEB = km) (hs : Moves km s0 s) :
    Moves km s0 (illegal s x1) := by
  refine Moves.comp (k1 := 0xFFBFFFFFFFEFEB) ?_ hk hs
  unfold illegal
  repeat' first
    | with_reducible apply Moves.refl | decide | with_reducible apply State.freshWord_moves | with_reducible apply raiseException_moves

theorem finishPop_moves (s : State) (x1 : Fin 16) (rd : ℕ) (q : ℕ) (hk : km &&& 0xFFBFFFFFFF6FFB = km) (hs : Moves km s0 s) :
    Moves km s0 (finishPop s x1 rd q) := by
  refine Moves.comp (k1 := 0xFFBFFFFFFF6FFB) ?_ hk hs
  unfold finishPop
  repeat' first
    | with_reducible apply Moves.refl | decide | with_reducible apply notePop_moves | with_reducible apply queuePop_moves
    | with_reducible apply State.modEng_moves

theorem execQpop_moves (x0 : Fin 16) (rd : Fin 32) (rs1 : Fin 32) (s : State) (hk : km &&& 0xFFBFFFFFFF6FEB = km) (hs : Moves km s0 s) :
    Moves km s0 (Out.left s (execQpop x0 rd rs1 s)) := by
  refine Moves.comp (k1 := 0xFFBFFFFFFF6FEB) ?_ hk hs
  unfold execQpop
  repeat' first
    | with_reducible apply Moves.refl | decide | with_reducible apply finishPop_moves | with_reducible apply illegal_moves
    | ((with_reducible apply instruction_moves) <;> try intro _) | with_reducible apply raiseException_moves
    | with_reducible apply State.modEng_moves
    | (intro x; first | (refine Moves.mid (t := x) ?_ (fun hx => ?_) <;> [dsimp +zetaDelta only; clear_value x]) | clear_value x)
    | (lift_lets; intro x; first | (refine Moves.mid (t := x) ?_ (fun hx => ?_) <;> [dsimp +zetaDelta only; clear_value x]) | clear_value x)
    | split

theorem execQmul_moves (x0 : Fin 16) (rd : Fin 32) (rs1 : Fin 32) (rs2 : Fin 32) (s : State) (hk : km &&& 0xFFFFFFFFFFEFFF = km) (hs : Moves km s0 s) :
    Moves km s0 (Out.left s (execQmul x0 rd rs1 rs2 s)) := by
  refine Moves.comp (k1 := 0xFFFFFFFFFFEFFF) ?_ hk hs
  unfold execQmul
  repeat' first
    | with_reducible apply Moves.refl | decide | ((with_reducible apply instruction_moves) <;> try intro _)
    | with_reducible apply writeReg_moves

theorem enterDebug_moves (s : State) (x1 : ℕ) (cause : ℕ) (hk : km &&& 0xFFBFFBFFF5EF63 = km) (hs : Moves km s0 s) :
    Moves km s0 (enterDebug s x1 cause) := by
  refine Moves.comp (k1 := 0xFFBFFBFFF5EF63) ?_ hk hs
  unfold enterDebug
  repeat' first
    | with_reducible apply Moves.refl | decide | with_reducible apply engineLost_moves | with_reducible apply State.modEng_moves

theorem execQwait_moves (x0 : Fin 16) (rd : Fin 32) (rs1 : Fin 32) (rs2 : Fin 32) (s : State) (hk : km &&& 0xFFBFFFFFFFEFEB = km) (hs : Moves km s0 s) :
    Moves km s0 (Out.left s (execQwait x0 rd rs1 rs2 s)) := by
  refine Moves.comp (k1 := 0xFFBFFFFFFFEFEB) ?_ hk hs
  unfold execQwait
  repeat' first
    | with_reducible apply Moves.refl | decide | with_reducible apply illegal_moves
    | ((with_reducible apply instruction_moves) <;> try intro _) | with_reducible apply writeReg_moves
    | with_reducible apply raiseException_moves | with_reducible apply State.modEng_moves
    | (lift_lets; intro x; first | (refine Moves.mid (t := x) ?_ (fun hx => ?_) <;> [dsimp +zetaDelta only; clear_value x]) | clear_value x)
    | split

theorem execScW_moves (x0 : Fin 16) (rd : Fin 32) (rs1 : Fin 32) (rs2 : Fin 32) (s : State) (hk : km &&& 0xFFBFFFFFFDEFF3 = km) (hs : Moves km s0 s) :
    Moves km s0 (Out.left s (execScW x0 rd rs1 rs2 s)) := by
  refine Moves.comp (k1 := 0xFFBFFFFFFDEFF3) ?_ hk hs
  unfold execScW
  repeat' first
    | with_reducible apply Moves.refl | decide | ((with_reducible apply atomicAt_moves) <;> try intro _ _)
    | ((with_reducible apply instruction_moves) <;> try intro _) | with_reducible apply memStore_moves
    | with_reducible apply State.modEng_moves | split

theorem execAmo_moves (x0 : Fin 16) (op : AmoOp) (rd : Fin 32) (rs1 : Fin 32) (rs2 : Fin 32) (s : State) (hk : km &&& 0xFFBFFFFFFDEF73 = km) (hs : Moves km s0 s) :
    Moves km s0 (Out.left s (execAmo x0 op rd rs1 rs2 s)) := by
  refine Moves.comp (k1 := 0xFFBFFFFFFDEF73) ?_ hk hs
  unfold execAmo
  repeat' first
    | with_reducible apply Moves.refl | decide | ((with_reducible apply atomicAt_moves) <;> try intro _ _)
    | with_reducible apply ownTcmError_moves | ((with_reducible apply instruction_moves) <;> try intro _)
    | with_reducible apply memStore_moves | with_reducible apply eccRead_moves | with_reducible apply raiseException_moves
    | with_reducible apply State.modEng_moves | (with_reducible apply Moves.fst (by assumption))
    | (lift_lets; intro x; first | (refine Moves.mid (t := x) ?_ (fun hx => ?_) <;> [dsimp +zetaDelta only; clear_value x]) | clear_value x)
    | split

theorem execQpush_moves (x0 : Fin 16) (q : Fin 32) (rs1 : Fin 32) (rs2 : Fin 32) (s : State) (hk : km &&& 0xFFBFFFFFF70F7B = km) (hs : Moves km s0 s) :
    Moves km s0 (Out.left s (execQpush x0 q rs1 rs2 s)) := by
  refine Moves.comp (k1 := 0xFFBFFFFFF70F7B) ?_ hk hs
  unfold execQpush
  repeat' first
    | with_reducible apply Moves.refl | decide | ((with_reducible apply instruction_moves) <;> try intro _)
    | with_reducible apply queuePush_moves | with_reducible apply notePush_moves | with_reducible apply takePush_moves
    | with_reducible apply stageWord_moves | with_reducible apply raiseException_moves | with_reducible apply State.modEng_moves
    | (lift_lets; intro x; first | (refine Moves.mid (t := x) ?_ (fun hx => ?_) <;> [dsimp +zetaDelta only; clear_value x]) | clear_value x)
    | split

theorem execTang_moves (x0 : Fin 16) (rd : Fin 32) (rs1 : Fin 32) (s : State) (hk : km &&& 0xFFBFFFFFFFEFFB = km) (hs : Moves km s0 s) :
    Moves km s0 (Out.left s (execTang x0 rd rs1 s)) := by
  refine Moves.comp (k1 := 0xFFBFFFFFFFEFFB) ?_ hk hs
  unfold execTang
  repeat' first
    | with_reducible apply Moves.refl | decide | ((with_reducible apply instruction_moves) <;> try intro _)
    | with_reducible apply writeReg_moves | with_reducible apply raiseException_moves
    | (lift_lets; intro x; first | (refine Moves.mid (t := x) ?_ (fun hx => ?_) <;> [dsimp +zetaDelta only; clear_value x]) | clear_value x)
    | split

theorem execWfi_moves (x0 : Fin 16) (s : State) (hk : km &&& 0xFFBFFFFFFFEFEB = km) (hs : Moves km s0 s) :
    Moves km s0 (Out.left s (execWfi x0 s)) := by
  refine Moves.comp (k1 := 0xFFBFFFFFFFEFEB) ?_ hk hs
  unfold execWfi
  repeat' first
    | with_reducible apply Moves.refl | decide | with_reducible apply illegal_moves
    | ((with_reducible apply instruction_moves) <;> try intro _) | with_reducible apply State.modEng_moves
    | (lift_lets; intro x; first | (refine Moves.mid (t := x) ?_ (fun hx => ?_) <;> [dsimp +zetaDelta only; clear_value x]) | clear_value x)
    | split

theorem execRunControlWrite_moves (x0 : Fin 16) (x1 : Wr) (s : State) (hk : km &&& 0xFFBFFBFFF5EF03 = km) (hs : Moves km s0 s) :
    Moves km s0 (Out.left s (execRunControlWrite x0 x1 s)) := by
  refine Moves.comp (k1 := 0xFFBFFBFFF5EF03) ?_ hk hs
  unfold execRunControlWrite
  repeat' first
    | with_reducible apply Moves.refl | with_reducible assumption | decide | ((with_reducible apply accessWrite_moves) <;> try intro _ _ _)
    | with_reducible apply runControlEff_moves | with_reducible apply Moves.next

theorem execScrubInterval_moves (m : Fin 48) (s : State) (hk : km &&& 0xFFBFFFFFFDFF7B = km) (hs : Moves km s0 s) :
    Moves km s0 (Out.left s (execScrubInterval m s)) := by
  refine Moves.comp (k1 := 0xFFBFFFFFFDFF7B) ?_ hk hs
  unfold execScrubInterval
  repeat' first
    | with_reducible apply Moves.refl | decide | with_reducible apply eccRead_moves | with_reducible apply Moves.when
    | (lift_lets; intro x; first | (refine Moves.mid (t := x) ?_ (fun hx => ?_) <;> [dsimp +zetaDelta only; clear_value x]) | clear_value x)
    | with_reducible apply Moves.of_ecc

theorem endWait_moves (s : State) (x1 : ℕ) (rd : ℕ) (v : Word) (hk : km &&& 0xFFFFFFFFFFEFFF = km) (hs : Moves km s0 s) :
    Moves km s0 (endWait s x1 rd v) := by
  refine Moves.comp (k1 := 0xFFFFFFFFFFEFFF) ?_ hk hs
  unfold endWait
  repeat' first
    | with_reducible apply Moves.refl | decide | with_reducible apply State.modEng_moves

theorem execQwaitWake_moves (x0 : Fin 16) (s : State) (hk : km &&& 0xFFBFFFFFFF6FFB = km) (hs : Moves km s0 s) :
    Moves km s0 (Out.left s (execQwaitWake x0 s)) := by
  refine Moves.comp (k1 := 0xFFBFFFFFFF6FFB) ?_ hk hs
  unfold execQwaitWake
  repeat' first
    | with_reducible apply Moves.refl | decide | with_reducible apply endWait_moves | with_reducible apply finishPop_moves
    | with_reducible apply State.modEng_moves | with_reducible apply Moves.next | with_reducible apply Moves.when | split

theorem unitReset_moves (s : State) (x1 : ℕ) (collector : Bool) (hk : km &&& 0xFFBFFBFFF5EF23 = km) (hs : Moves km s0 s) :
    Moves km s0 (unitReset s x1 collector) := by
  refine Moves.comp (k1 := 0xFFBFFBFFF5EF23) ?_ hk hs
  unfold unitReset
  repeat' first
    | with_reducible apply Moves.refl | with_reducible assumption | decide | with_reducible apply markFaulty_moves
    | with_reducible apply resetCore_moves | with_reducible apply foremanAct_moves | with_reducible apply abandonOn_moves
    | with_reducible apply State.bump_moves
    | (lift_lets; intro x; first | (refine Moves.mid (t := x) ?_ (fun hx => ?_) <;> [dsimp +zetaDelta only; clear_value x]) | clear_value x)
    | split

theorem execUnitReset_moves (x0 : Fin 16) (s : State) (hk : km &&& 0xFFBFFBFFF5EF23 = km) (hs : Moves km s0 s) :
    Moves km s0 (Out.left s (execUnitReset x0 s)) := by
  refine Moves.comp (k1 := 0xFFBFFBFFF5EF23) ?_ hk hs
  unfold execUnitReset
  repeat' first
    | with_reducible apply Moves.refl | decide | with_reducible apply unitReset_moves | with_reducible apply State.modFm_moves
    | with_reducible apply Moves.next | split | exact fun _ => rfl

theorem execDebugEngineReset_moves (x0 : Fin 16) (s : State) (hk : km &&& 0xFFFFFFFFF7FFFF = km) (hs : Moves km s0 s) :
    Moves km s0 (Out.left s (execDebugEngineReset x0 s)) := by
  refine Moves.comp (k1 := 0xFFFFFFFFF7FFFF) ?_ hk hs
  unfold execDebugEngineReset
  repeat' first
    | with_reducible apply Moves.refl | decide | with_reducible apply requestUnitReset_moves | with_reducible apply Moves.when

theorem execReservationTimeout_moves (x0 : Fin 16) (s : State) (hk : km &&& 0xFFFFFFFFFFEFFF = km) (hs : Moves km s0 s) :
    Moves km s0 (Out.left s (execReservationTimeout x0 s)) := by
  refine Moves.comp (k1 := 0xFFFFFFFFFFEFFF) ?_ hk hs
  unfold execReservationTimeout
  repeat' first
    | with_reducible apply Moves.refl | decide | with_reducible apply State.modEng_moves | with_reducible apply Moves.next
    | with_reducible apply Moves.when | split

theorem engineTick_moves (s : State) (hk : km &&& 0xFFFFFFFFFFFFFB = km) (hs : Moves km s0 s) :
    Moves km s0 (engineTick s) := by
  refine Moves.comp (k1 := 0xFFFFFFFFFFFFFB) ?_ hk hs
  unfold engineTick
  repeat' first
    | with_reducible apply Moves.refl | decide | with_reducible apply State.sub_moves
    | ((with_reducible apply Moves.foldl) <;> try intro _ _)

theorem execQwaitTimeout_moves (x0 : Fin 16) (s : State) (hk : km &&& 0xFFFFFFFFFFEFFF = km) (hs : Moves km s0 s) :
    Moves km s0 (Out.left s (execQwaitTimeout x0 s)) := by
  refine Moves.comp (k1 := 0xFFFFFFFFFFEFFF) ?_ hk hs
  unfold execQwaitTimeout
  repeat' first
    | with_reducible apply Moves.refl | decide | with_reducible apply endWait_moves | with_reducible apply Moves.next
    | with_reducible apply Moves.when | split

theorem engineFault_moves (s : State) (x1 : ℕ) (hk : km &&& 0xFFBFFBFFF5EF63 = km) (hs : Moves km s0 s) :
    Moves km s0 (engineFault s x1) := by
  refine Moves.comp (k1 := 0xFFBFFBFFF5EF63) ?_ hk hs
  unfold engineFault
  repeat' first
    | with_reducible apply Moves.refl | decide | with_reducible apply markFaulty_moves | with_reducible apply State.report_moves
    | with_reducible apply State.setBits_moves | with_reducible apply State.modEng_moves

theorem execEngineFault_moves (x0 : Fin 16) (a : Option (BitVec 32)) (fetch : Bool) (s : State) (hk : km &&& 0xFFBFFBFFF5EF63 = km) (hs : Moves km s0 s) :
    Moves km s0 (Out.left s (execEngineFault x0 a fetch s)) := by
  refine Moves.comp (k1 := 0xFFBFFBFFF5EF63) ?_ hk hs
  unfold execEngineFault
  repeat' first
    | with_reducible apply Moves.refl | decide | with_reducible apply engineFault_moves | with_reducible apply eccRead_moves
    | with_reducible apply raiseException_moves | with_reducible apply Moves.next | with_reducible apply Moves.when
    | (with_reducible apply Moves.fst (by assumption)) | split

theorem execDebugResume_moves (x0 : Fin 16) (s : State) (hk : km &&& 0xFFBFFBFFF5EF63 = km) (hs : Moves km s0 s) :
    Moves km s0 (Out.left s (execDebugResume x0 s)) := by
  refine Moves.comp (k1 := 0xFFBFFBFFF5EF63) ?_ hk hs
  unfold execDebugResume
  repeat' first
    | with_reducible apply Moves.refl | decide | with_reducible apply foremanAct_moves | with_reducible apply State.modEng_moves
    | with_reducible apply Moves.when

theorem execInterruptTrap_moves (x0 : Fin 16) (s : State) (hk : km &&& 0xFFFFFFFFFFEFFF = km) (hs : Moves km s0 s) :
    Moves km s0 (Out.left s (execInterruptTrap x0 s)) := by
  refine Moves.comp (k1 := 0xFFFFFFFFFFEFFF) ?_ hk hs
  unfold execInterruptTrap
  repeat' first
    | with_reducible apply Moves.refl | decide | with_reducible apply State.modEng_moves | with_reducible apply Moves.next
    | with_reducible apply Moves.when
    | (lift_lets; intro x; first | (refine Moves.mid (t := x) ?_ (fun hx => ?_) <;> [dsimp +zetaDelta only; clear_value x]) | clear_value x)
    | split

theorem execDebugHalt_moves (x0 : Fin 16) (s : State) (hk : km &&& 0xFFBFFBFFF5EF63 = km) (hs : Moves km s0 s) :
    Moves km s0 (Out.left s (execDebugHalt x0 s)) := by
  refine Moves.comp (k1 := 0xFFBFFBFFF5EF63) ?_ hk hs
  unfold execDebugHalt
  repeat' first
    | with_reducible apply Moves.refl | decide | with_reducible apply enterDebug_moves | with_reducible apply Moves.when

theorem engineCycle_moves (s : State) (x1 : ℕ) (hk : km &&& 0xFFBFFFFFFFEFFB = km) (hs : Moves km s0 s) :
    Moves km s0 (engineCycle s x1) := by
  refine Moves.comp (k1 := 0xFFBFFFFFFFEFFB) ?_ hk hs
  unfold engineCycle
  repeat' first
    | with_reducible apply Moves.refl | decide | with_reducible apply State.modEng_moves | with_reducible apply State.bump_moves | split

theorem clearFaultEff_moves (w' : Wr) (b' : Bool) (s' : State) (hk : km &&& 0xFFFFFFFFFFFFFB = km) (hs : Moves km s0 s') :
    Moves km s0 (clearFaultEff  w' b' s').2 := by
  refine Moves.comp (k1 := 0xFFFFFFFFFFFFFB) ?_ hk hs
  unfold clearFaultEff
  repeat' first
    | with_reducible apply Moves.refl | decide | with_reducible apply acc_moves | with_reducible apply State.put_moves

theorem endActivation_moves (s : State) (x1 : ℕ) (x2 : ℕ) (since : ℕ) (hk : km &&& 0xFFBFFFFFF7EF7B = km) (hs : Moves km s0 s) :
    Moves km s0 (endActivation s x1 x2 since) := by
  refine Moves.comp (k1 := 0xFFBFFFFFF7EF7B) ?_ hk hs
  unfold endActivation
  repeat' first
    | with_reducible apply Moves.refl | decide | with_reducible apply freeEngine_moves | with_reducible apply finishStop_moves
    | with_reducible apply recordRun_moves

theorem endEff_moves (x0 : ℕ) (w' : Wr) (b' : Bool) (s' : State) (hk : km &&& 0xFFBFFFFFF7EF7B = km) (hs : Moves km s0 s') :
    Moves km s0 (endEff x0 w' b' s').2 := by
  refine Moves.comp (k1 := 0xFFBFFFFFF7EF7B) ?_ hk hs
  unfold endEff
  repeat' first
    | with_reducible apply Moves.refl | decide | with_reducible apply endActivation_moves | with_reducible apply rej_moves
    | with_reducible apply acc_moves | split

theorem taskEnableEff_moves (x0 : ℕ) (w' : Wr) (b' : Bool) (s' : State) (hk : km &&& 0xFFBFFFFFF7FFFB = km) (hs : Moves km s0 s') :
    Moves km s0 (taskEnableEff x0 w' b' s').2 := by
  refine Moves.comp (k1 := 0xFFBFFFFFF7FFFB) ?_ hk hs
  unfold taskEnableEff
  repeat' first
    | with_reducible apply Moves.refl | with_reducible assumption | decide | with_reducible apply finishStop_moves
    | with_reducible apply disableTask_moves | with_reducible apply State.modTask_moves | with_reducible apply State.bump_moves
    | with_reducible apply acc_moves | with_reducible apply State.putN_moves | with_reducible apply State.put_moves
    | (intro x; first | (refine Moves.mid (t := x) ?_ (fun hx => ?_) <;> [dsimp +zetaDelta only; clear_value x]) | clear_value x)
    | (lift_lets; intro x; first | (refine Moves.mid (t := x) ?_ (fun hx => ?_) <;> [dsimp +zetaDelta only; clear_value x]) | clear_value x)
    | split

theorem taskPlainEff_moves (x0 : ℕ) (j : ℕ) (w' : Wr) (b' : Bool) (s' : State) (hk : km &&& 0xFFFFFFFFFFFFFB = km) (hs : Moves km s0 s') :
    Moves km s0 (taskPlainEff x0 j w' b' s').2 := by
  refine Moves.comp (k1 := 0xFFFFFFFFFFFFFB) ?_ hk hs
  unfold taskPlainEff
  repeat' first
    | with_reducible apply Moves.refl | with_reducible assumption | decide | with_reducible apply updateWarden_moves
    | with_reducible apply plainWrite_moves | with_reducible apply rej_moves | with_reducible apply acc_moves
    | with_reducible apply State.putN_moves | with_reducible apply State.put_moves
    | (intro x; first | (refine Moves.mid (t := x) ?_ (fun hx => ?_) <;> [dsimp +zetaDelta only; clear_value x]) | clear_value x)
    | (lift_lets; intro x; first | (refine Moves.mid (t := x) ?_ (fun hx => ?_) <;> [dsimp +zetaDelta only; clear_value x]) | clear_value x)
    | split

theorem moveEff_moves (x0 : ℕ) (w' : Wr) (b' : Bool) (s' : State) (hk : km &&& 0xFFBFFBFFF5EF63 = km) (hs : Moves km s0 s') :
    Moves km s0 (moveEff x0 w' b' s').2 := by
  refine Moves.comp (k1 := 0xFFBFFBFFF5EF63) ?_ hk hs
  unfold moveEff
  repeat' first
    | with_reducible apply Moves.refl | decide | with_reducible apply foremanAct_moves | with_reducible apply State.modFm_moves
    | with_reducible apply rej_moves | with_reducible apply acc_moves
    | (lift_lets; intro x; first | (refine Moves.mid (t := x) ?_ (fun hx => ?_) <;> [dsimp +zetaDelta only; clear_value x]) | clear_value x)
    | split | exact fun _ => rfl

theorem activateEff_moves (x0 : ℕ) (w' : Wr) (b' : Bool) (s' : State) (hk : km &&& 0xFFBFFFFFF7FFFB = km) (hs : Moves km s0 s') :
    Moves km s0 (activateEff x0 w' b' s').2 := by
  refine Moves.comp (k1 := 0xFFBFFFFFF7FFFB) ?_ hk hs
  unfold activateEff
  repeat' first
    | with_reducible apply Moves.refl | decide | with_reducible apply requestActivation_moves | with_reducible apply State.modTask_moves
    | with_reducible apply acc_moves | split

theorem consolidate_moves (s : State) (c : ℕ) (hk : km &&& 0xFFBFFBFFF5EF63 = km) (hs : Moves km s0 s) :
    Moves km s0 (consolidate s c) := by
  refine Moves.comp (k1 := 0xFFBFFBFFF5EF63) ?_ hk hs
  unfold consolidate
  repeat' first
    | with_reducible apply Moves.refl | with_reducible assumption | decide | with_reducible apply updateSpares_moves
    | with_reducible apply foremanAct_moves | with_reducible apply refuseConsolidation_moves | with_reducible apply State.modFm_moves
    | with_reducible apply State.putN_moves
    | (intro x; first | (refine Moves.mid (t := x) ?_ (fun hx => ?_) <;> [dsimp +zetaDelta only; clear_value x]) | clear_value x)
    | (lift_lets; intro x; first | (refine Moves.mid (t := x) ?_ (fun hx => ?_) <;> [dsimp +zetaDelta only; clear_value x]) | clear_value x)
    | split | exact fun _ => rfl

theorem execEndWrite_moves (x0 : Fin 16) (x1 : Wr) (s : State) (hk : km &&& 0xFFBFFFFFF7EF1B = km) (hs : Moves km s0 s) :
    Moves km s0 (Out.left s (execEndWrite x0 x1 s)) := by
  refine Moves.comp (k1 := 0xFFBFFFFFF7EF1B) ?_ hk hs
  unfold execEndWrite
  repeat' first
    | with_reducible apply Moves.refl | with_reducible assumption | decide | ((with_reducible apply accessWrite_moves) <;> try intro _ _ _)
    | with_reducible apply endEff_moves | with_reducible apply Moves.next

theorem swapHost_moves (s : State) (m : Migration) (cut : ℕ) (hk : km &&& 0xFFBFFBFFF5EF63 = km) (hs : Moves km s0 s) :
    Moves km s0 (swapHost s m cut) := by
  refine Moves.comp (k1 := 0xFFBFFBFFF5EF63) ?_ hk hs
  unfold swapHost
  repeat' first
    | with_reducible apply Moves.refl | decide | with_reducible apply storeState_moves | with_reducible apply foremanAct_moves
    | with_reducible apply storeCode_moves | with_reducible apply finishStop_moves | with_reducible apply State.modTask_moves
    | with_reducible apply State.modFm_moves | with_reducible apply State.report_moves | with_reducible apply State.setBits_moves
    | with_reducible apply State.bump_moves | with_reducible apply State.putN_moves | with_reducible apply State.put_moves | split
    | exact fun _ => rfl

theorem execMigrationSwap_moves (s : State) (hk : km &&& 0xFFBFFBFFF5EF63 = km) (hs : Moves km s0 s) :
    Moves km s0 (Out.left s (execMigrationSwap s)) := by
  refine Moves.comp (k1 := 0xFFBFFBFFF5EF63) ?_ hk hs
  unfold execMigrationSwap
  repeat' first
    | with_reducible apply Moves.refl | decide | with_reducible apply swapHost_moves | with_reducible apply Moves.next
    | with_reducible apply Moves.when | split

theorem execConsolidationTimeout_moves (s : State) (hk : km &&& 0xFFBFFBFFF5EF63 = km) (hs : Moves km s0 s) :
    Moves km s0 (Out.left s (execConsolidationTimeout s)) := by
  refine Moves.comp (k1 := 0xFFBFFBFFF5EF63) ?_ hk hs
  unfold execConsolidationTimeout
  repeat' first
    | with_reducible apply Moves.refl | decide | with_reducible apply foremanAct_moves | with_reducible apply refuseConsolidation_moves
    | with_reducible apply Moves.next | with_reducible apply Moves.when | split

theorem execTaskTimer_moves (x0 : Fin 64) (s : State) (hk : km &&& 0xFFBFFFFFF7FFFB = km) (hs : Moves km s0 s) :
    Moves km s0 (Out.left s (execTaskTimer x0 s)) := by
  refine Moves.comp (k1 := 0xFFBFFFFFF7FFFB) ?_ hk hs
  unfold execTaskTimer
  repeat' first
    | with_reducible apply Moves.refl | decide | with_reducible apply requestActivation_moves | with_reducible apply State.modTask_moves
    | with_reducible apply Moves.next | with_reducible apply Moves.when | split

theorem cutMigration_moves (s : State) (m : Migration) (hk : km &&& 0xFFBFFFFFF5FF6B = km) (hs : Moves km s0 s) :
    Moves km s0 (cutMigration s m) := by
  refine Moves.comp (k1 := 0xFFBFFFFFF5FF6B) ?_ hk hs
  unfold cutMigration
  repeat' first
    | with_reducible apply Moves.refl | decide | with_reducible apply stateCopy_moves | with_reducible apply State.modFm_moves
    | with_reducible apply State.putN_moves | split | exact fun _ => rfl

theorem execMigrationCut_moves (s : State) (hk : km &&& 0xFFBFFFFFF5FF6B = km) (hs : Moves km s0 s) :
    Moves km s0 (Out.left s (execMigrationCut s)) := by
  refine Moves.comp (k1 := 0xFFBFFFFFF5FF6B) ?_ hk hs
  unfold execMigrationCut
  repeat' first
    | with_reducible apply Moves.refl | decide | with_reducible apply cutMigration_moves | with_reducible apply Moves.next
    | with_reducible apply Moves.when | split

theorem execTaskEnable_moves (x0 : Fin 64) (x1 : Wr) (s : State) (hk : km &&& 0xFFBFFFFFF7EF9B = km) (hs : Moves km s0 s) :
    Moves km s0 (Out.left s (execTaskEnable x0 x1 s)) := by
  refine Moves.comp (k1 := 0xFFBFFFFFF7EF9B) ?_ hk hs
  unfold execTaskEnable
  repeat' first
    | with_reducible apply Moves.refl | with_reducible assumption | decide | ((with_reducible apply accessWrite_moves) <;> try intro _ _ _)
    | with_reducible apply taskEnableEff_moves | with_reducible apply Moves.next

theorem execMoveCommand_moves (x0 : Fin 64) (x1 : Wr) (s : State) (hk : km &&& 0xFFBFFBFFF5EF03 = km) (hs : Moves km s0 s) :
    Moves km s0 (Out.left s (execMoveCommand x0 x1 s)) := by
  refine Moves.comp (k1 := 0xFFBFFBFFF5EF03) ?_ hk hs
  unfold execMoveCommand
  repeat' first
    | with_reducible apply Moves.refl | with_reducible assumption | decide | ((with_reducible apply accessWrite_moves) <;> try intro _ _ _)
    | with_reducible apply moveEff_moves | with_reducible apply Moves.next

theorem execClearEngineFault_moves (x0 : Wr) (s : State) (hk : km &&& 0xFFBFFFFFFFEF9B = km) (hs : Moves km s0 s) :
    Moves km s0 (Out.left s (execClearEngineFault x0 s)) := by
  refine Moves.comp (k1 := 0xFFBFFFFFFFEF9B) ?_ hk hs
  unfold execClearEngineFault
  repeat' first
    | with_reducible apply Moves.refl | with_reducible assumption | decide | ((with_reducible apply accessWrite_moves) <;> try intro _ _ _)
    | with_reducible apply clearFaultEff_moves | with_reducible apply Moves.next

theorem execTaskHang_moves (x0 : Fin 16) (s : State) (hk : km &&& 0xFFBFFBFFF5EF63 = km) (hs : Moves km s0 s) :
    Moves km s0 (Out.left s (execTaskHang x0 s)) := by
  refine Moves.comp (k1 := 0xFFBFFBFFF5EF63) ?_ hk hs
  unfold execTaskHang
  repeat' first
    | with_reducible apply Moves.refl | decide | with_reducible apply markFaulty_moves | with_reducible apply requestUnitReset_moves
    | with_reducible apply abandon_moves | with_reducible apply State.report_moves | with_reducible apply Moves.next
    | with_reducible apply Moves.when | split

theorem execActivateCommand_moves (x0 : Fin 64) (x1 : Wr) (s : State) (hk : km &&& 0xFFBFFFFFF7EF9B = km) (hs : Moves km s0 s) :
    Moves km s0 (Out.left s (execActivateCommand x0 x1 s)) := by
  refine Moves.comp (k1 := 0xFFBFFFFFF7EF9B) ?_ hk hs
  unfold execActivateCommand
  repeat' first
    | with_reducible apply Moves.refl | with_reducible assumption | decide | ((with_reducible apply accessWrite_moves) <;> try intro _ _ _)
    | with_reducible apply activateEff_moves | with_reducible apply Moves.next

theorem dispatchTask_moves (s : State) (x1 : ℕ) (x2 : ℕ) (hk : km &&& 0xFFBFFFFFF7EFFB = km) (hs : Moves km s0 s) :
    Moves km s0 (dispatchTask s x1 x2) := by
  refine Moves.comp (k1 := 0xFFBFFFFFF7EFFB) ?_ hk hs
  unfold dispatchTask
  repeat' first
    | with_reducible apply Moves.refl | decide | with_reducible apply State.modTask_moves | with_reducible apply State.modFm_moves
    | with_reducible apply State.modEng_moves | with_reducible apply State.bump_moves | with_reducible apply State.putN_moves
    | with_reducible apply State.put_moves | exact fun _ => rfl

theorem execDispatch_moves (x0 : Fin 16) (s : State) (hk : km &&& 0xFFBFFFFFF7EFFB = km) (hs : Moves km s0 s) :
    Moves km s0 (Out.left s (execDispatch x0 s)) := by
  refine Moves.comp (k1 := 0xFFBFFFFFF7EFFB) ?_ hk hs
  unfold execDispatch
  repeat' first
    | with_reducible apply Moves.refl | decide | with_reducible apply dispatchTask_moves | with_reducible apply Moves.next | split

theorem settlePlaced_moves (s : State) (x1 : ℕ) (x2 : ℕ) (hk : km &&& 0xFFBFFBFFF7FF7B = km) (hs : Moves km s0 s) :
    Moves km s0 (settlePlaced s x1 x2) := by
  refine Moves.comp (k1 := 0xFFBFFBFFF7FF7B) ?_ hk hs
  unfold settlePlaced
  repeat' first
    | with_reducible apply Moves.refl | decide | with_reducible apply evacuateTask_moves | with_reducible apply refuseConsolidation_moves
    | with_reducible apply State.modFm_moves | split | exact fun _ => rfl

theorem placedOn_moves (s : State) (x1 : ℕ) (x2 : ℕ) (hk : km &&& 0xFFBFFBFFF7FF7B = km) (hs : Moves km s0 s) :
    Moves km s0 (placedOn s x1 x2) := by
  refine Moves.comp (k1 := 0xFFBFFBFFF7FF7B) ?_ hk hs
  unfold placedOn
  repeat' first
    | with_reducible apply Moves.refl | with_reducible assumption | decide | with_reducible apply settlePlaced_moves
    | with_reducible apply finishStop_moves | with_reducible apply State.modTask_moves | with_reducible apply State.setBits_moves
    | with_reducible apply State.putN_moves
    | (intro x; first | (refine Moves.mid (t := x) ?_ (fun hx => ?_) <;> [dsimp +zetaDelta only; clear_value x]) | clear_value x)
    | (lift_lets; intro x; first | (refine Moves.mid (t := x) ?_ (fun hx => ?_) <;> [dsimp +zetaDelta only; clear_value x]) | clear_value x)
    | split

theorem endLoad_moves (s : State) (x1 : ℕ) (hk : km &&& 0xFFBFFBFFF5EF63 = km) (hs : Moves km s0 s) :
    Moves km s0 (endLoad s x1) := by
  refine Moves.comp (k1 := 0xFFBFFBFFF5EF63) ?_ hk hs
  unfold endLoad
  repeat' first
    | with_reducible apply Moves.refl | decide | with_reducible apply placedOn_moves | with_reducible apply foremanAct_moves | split

theorem execTaskPlaced_moves (x0 : Fin 64) (s : State) (hk : km &&& 0xFFBFFBFFF5EF63 = km) (hs : Moves km s0 s) :
    Moves km s0 (Out.left s (execTaskPlaced x0 s)) := by
  refine Moves.comp (k1 := 0xFFBFFBFFF5EF63) ?_ hk hs
  unfold execTaskPlaced
  repeat' first
    | with_reducible apply Moves.refl | decide | with_reducible apply endLoad_moves | with_reducible apply Moves.when

theorem dueCopies_moves (s : State) (hk : km &&& 0xFFBFFBFFF5EF63 = km) (hs : Moves km s0 s) :
    Moves km s0 (dueCopies s) := by
  refine Moves.comp (k1 := 0xFFBFFBFFF5EF63) ?_ hk hs
  unfold dueCopies
  repeat' first
    | with_reducible apply Moves.refl | with_reducible assumption | decide | with_reducible apply endLoad_moves
    | with_reducible apply cutMigration_moves | with_reducible apply swapHost_moves
    | (lift_lets; intro x; first | (refine Moves.mid (t := x) ?_ (fun hx => ?_) <;> [dsimp +zetaDelta only; clear_value x]) | clear_value x)
    | split | ((with_reducible apply Moves.foldl) <;> try intro _ _)

theorem foremanCycle_moves (s : State) (hk : km &&& 0xFFBFFBFFF5EF63 = km) (hs : Moves km s0 s) :
    Moves km s0 (foremanCycle s) := by
  refine Moves.comp (k1 := 0xFFBFFBFFF5EF63) ?_ hk hs
  unfold foremanCycle
  repeat' first
    | with_reducible apply Moves.refl | decide | with_reducible apply placeWaiting_moves | with_reducible apply lostEngines_moves
    | with_reducible apply dueCopies_moves | with_reducible apply updateSpares_moves | with_reducible apply foremanAct_moves
    | with_reducible apply State.modFm_moves | exact fun _ => rfl

theorem State.modMark_moves (s : State) (i : Nat) (f : Mark → Mark) (hk : km &&& 0xFFFFFFFFFFF7FF = km) (hs : Moves km s0 s) :
    Moves km s0 (s.modMark i f) :=
  Moves.of_tide s _ ⟨rfl, rfl⟩ hk hs

theorem writeMark_moves (s : State) (m : ℕ) (k : ℕ) (v : Word) (hk : km &&& 0xFFFFFFFFFFF7FB = km) (hs : Moves km s0 s) :
    Moves km s0 (writeMark s m k v) := by
  refine Moves.comp (k1 := 0xFFFFFFFFFFF7FB) ?_ hk hs
  unfold writeMark
  repeat' first
    | with_reducible apply Moves.refl | decide | with_reducible apply State.modMark_moves | with_reducible apply State.put_moves

theorem markControlEff_moves (m : ℕ) (w' : Wr) (b' : Bool) (s' : State) (hk : km &&& 0xFFFFFFFFFFF7FB = km) (hs : Moves km s0 s') :
    Moves km s0 (markControlEff m w' b' s').2 := by
  refine Moves.comp (k1 := 0xFFFFFFFFFFF7FB) ?_ hk hs
  unfold markControlEff
  repeat' first
    | with_reducible apply Moves.refl | decide | with_reducible apply writeMark_moves | with_reducible apply State.modMark_moves
    | with_reducible apply rej_moves | with_reducible apply acc_moves
    | (intro x; first | (refine Moves.mid (t := x) ?_ (fun hx => ?_) <;> [dsimp +zetaDelta only; clear_value x]) | clear_value x)
    | (lift_lets; intro x; first | (refine Moves.mid (t := x) ?_ (fun hx => ?_) <;> [dsimp +zetaDelta only; clear_value x]) | clear_value x)
    | split

theorem markWordEff_moves (i : ℕ) (j : ℕ) (w' : Wr) (b' : Bool) (s' : State) (hk : km &&& 0xFFFFFFFFFFF7FB = km) (hs : Moves km s0 s') :
    Moves km s0 (markWordEff i j w' b' s').2 := by
  refine Moves.comp (k1 := 0xFFFFFFFFFFF7FB) ?_ hk hs
  unfold markWordEff
  repeat' first
    | with_reducible apply Moves.refl | decide | with_reducible apply markControlEff_moves | with_reducible apply writeMark_moves
    | with_reducible apply acc_moves
    | (lift_lets; intro x; first | (refine Moves.mid (t := x) ?_ (fun hx => ?_) <;> [dsimp +zetaDelta only; clear_value x]) | clear_value x)
    | split

theorem markUnitEff_moves (w' : Wr) (b' : Bool) (s' : State) (hk : km &&& 0xFFFFFFFFFFFFFB = km) (hs : Moves km s0 s') :
    Moves km s0 (markUnitEff  w' b' s').2 := by
  refine Moves.comp (k1 := 0xFFFFFFFFFFFFFB) ?_ hk hs
  unfold markUnitEff
  repeat' first
    | with_reducible apply Moves.refl | with_reducible assumption | decide | with_reducible apply acc_moves
    | with_reducible apply State.putN_moves | with_reducible apply State.put_moves
    | (lift_lets; intro x; first | (refine Moves.mid (t := x) ?_ (fun hx => ?_) <;> [dsimp +zetaDelta only; clear_value x]) | clear_value x)
    | split

theorem markUnitStopped_moves (s : State) (hk : km &&& 0xFFFFFFFFFFFFFB = km) (hs : Moves km s0 s) :
    Moves km s0 (markUnitStopped s) := by
  refine Moves.comp (k1 := 0xFFFFFFFFFFFFFB) ?_ hk hs
  unfold markUnitStopped
  repeat' first
    | with_reducible apply Moves.refl | decide | with_reducible apply State.putN_moves | split

theorem takeActions_moves (s : State) (x1 : List MarkAct) (hk : km &&& 0xFFFFFFFFFFF7FF = km) (hs : Moves km s0 s) :
    Moves km s0 (takeActions s x1) := by
  refine Moves.comp (k1 := 0xFFFFFFFFFFF7FF) ?_ hk hs
  unfold takeActions
  dsimp only
  repeat' first
    | with_reducible apply Moves.refl | decide | with_reducible apply Moves.of_tide | exact ⟨rfl, rfl⟩

theorem onActions_moves (s : State) (code : ℕ) (f : List MarkAct → State → State) (hk : km &&& 0xFFFFFFFFFFF7FF = km) (hs : Moves km s0 s) (hf : ∀ l t, Moves km s0 t → Moves km s0 (f l t)) :
    Moves km s0 (Out.left s (onActions s code f)) := by
  unfold onActions
  repeat' first
    | with_reducible assumption | (with_reducible apply hf) | with_reducible apply takeActions_moves | with_reducible apply Moves.next
    | split

theorem rewriteMark_moves (s : State) (m : ℕ) (k : ℕ) (v : Word) (hk : km &&& 0xFFFFFFFFFFFFFB = km) (hs : Moves km s0 s) :
    Moves km s0 (rewriteMark s m k v) := by
  refine Moves.comp (k1 := 0xFFFFFFFFFFFFFB) ?_ hk hs
  unfold rewriteMark
  repeat' first
    | with_reducible apply Moves.refl | decide | with_reducible apply State.put_moves | split

theorem stepMark_moves (s : State) (m : ℕ) (back : Bool) (hk : km &&& 0xFFFFFFFFFFF7FB = km) (hs : Moves km s0 s) :
    Moves km s0 (stepMark s m back) := by
  refine Moves.comp (k1 := 0xFFFFFFFFFFF7FB) ?_ hk hs
  unfold stepMark
  repeat' first
    | with_reducible apply Moves.refl | decide | with_reducible apply rewriteMark_moves | with_reducible apply State.modMark_moves

theorem fireMark_moves (s : State) (m : ℕ) (back : Bool) (hk : km &&& 0xFFBFFFFFFFF7FB = km) (hs : Moves km s0 s) :
    Moves km s0 (fireMark s m back) := by
  refine Moves.comp (k1 := 0xFFBFFFFFFFF7FB) ?_ hk hs
  unfold fireMark
  repeat' first
    | with_reducible apply Moves.refl | with_reducible assumption | decide | with_reducible apply State.modMark_moves
    | with_reducible apply State.bump_moves
    | (intro x; first | (refine Moves.mid (t := x) ?_ (fun hx => ?_) <;> [dsimp +zetaDelta only; clear_value x]) | clear_value x)
    | (lift_lets; intro x; first | (refine Moves.mid (t := x) ?_ (fun hx => ?_) <;> [dsimp +zetaDelta only; clear_value x]) | clear_value x)
    | split | with_reducible apply Moves.of_tide | exact ⟨rfl, rfl⟩

theorem crossMark_moves (s : State) (m : ℕ) (back : Bool) (hk : km &&& 0xFFBFFFFFFFF7FB = km) (hs : Moves km s0 s) :
    Moves km s0 (crossMark s m back) := by
  refine Moves.comp (k1 := 0xFFBFFFFFFFF7FB) ?_ hk hs
  unfold crossMark
  repeat' first
    | with_reducible apply Moves.refl | decide | with_reducible apply fireMark_moves | with_reducible apply stepMark_moves
    | with_reducible apply rewriteMark_moves | with_reducible apply State.modMark_moves
    | (intro x; first | (refine Moves.mid (t := x) ?_ (fun hx => ?_) <;> [dsimp +zetaDelta only; clear_value x]) | clear_value x)
    | (lift_lets; intro x; first | (refine Moves.mid (t := x) ?_ (fun hx => ?_) <;> [dsimp +zetaDelta only; clear_value x]) | clear_value x)
    | split

theorem execMarkFire_moves (m : Fin 1024) (s : State) (hk : km &&& 0xFFBFFFFFFFF7FB = km) (hs : Moves km s0 s) :
    Moves km s0 (Out.left s (execMarkFire m s)) := by
  refine Moves.comp (k1 := 0xFFBFFFFFFFF7FB) ?_ hk hs
  unfold execMarkFire
  repeat' first
    | with_reducible apply Moves.refl | decide | with_reducible apply crossMark_moves | with_reducible apply Moves.next
    | with_reducible apply Moves.when | split

theorem handMark_moves (s : State) (hk : km &&& 0xFFBFFFFFF7F6FB = km) (hs : Moves km s0 s) :
    Moves km s0 (handMark s) := by
  refine Moves.comp (k1 := 0xFFBFFFFFF7F6FB) ?_ hk hs
  have h1 : ∀ x0 x1 (_ : x0.wheels.length = s.tide.wheels.length ∧ x0.encoders.length = s.tide.encoders.length), Moves 0xFFBFFFFFF7F6FB s { s with tide := x0, cyc := x1 } := fun x0 x1 hq =>
    (Moves.of_cyc ({ s with tide := x0 } : State) x1 (by decide) (Moves.of_tide s x0 hq (by decide) (Moves.refl _ _)))
  unfold handMark
  dsimp only
  repeat' first
    | with_reducible apply Moves.refl | decide | exact h1 _ _ ⟨rfl, rfl⟩ | (with_reducible apply postToRole_moves; next => assumption)
    | with_reducible apply requestActivation_moves | with_reducible apply State.bump_moves | with_reducible apply State.putN_moves | split

theorem execMarkFifoPost_moves (s : State) (hk : km &&& 0xFFBFFFFFF7F6FB = km) (hs : Moves km s0 s) :
    Moves km s0 (Out.left s (execMarkFifoPost s)) := by
  refine Moves.comp (k1 := 0xFFBFFFFFF7F6FB) ?_ hk hs
  unfold execMarkFifoPost
  repeat' first
    | with_reducible apply Moves.refl | decide | with_reducible apply handMark_moves | with_reducible apply Moves.when

theorem enterFifo_moves (s : State) (code : ℕ) (hk : km &&& 0xFFBFFFFFFFF77B = km) (hs : Moves km s0 s) :
    Moves km s0 (Out.left s (enterFifo s code)) := by
  refine Moves.comp (k1 := 0xFFBFFFFFFFF77B) ?_ hk hs
  unfold enterFifo
  repeat' first
    | with_reducible apply Moves.refl | with_reducible assumption | decide | with_reducible apply takeActions_moves
    | with_reducible apply State.highWater_moves | with_reducible apply State.report_moves | with_reducible apply State.bump_moves
    | with_reducible apply State.putN_moves | with_reducible apply Moves.next
    | (lift_lets; intro x; first | (refine Moves.mid (t := x) ?_ (fun hx => ?_) <;> [dsimp +zetaDelta only; clear_value x]) | clear_value x)
    | split | with_reducible apply Moves.of_tide | exact ⟨rfl, rfl⟩

theorem execMarkTaskActivation_moves (s : State) (hk : km &&& 0xFFBFFFFFFFF77B = km) (hs : Moves km s0 s) :
    Moves km s0 (Out.left s (execMarkTaskActivation s)) := by
  refine Moves.comp (k1 := 0xFFBFFFFFFFF77B) ?_ hk hs
  unfold execMarkTaskActivation
  repeat' first
    | with_reducible apply Moves.refl | decide | with_reducible apply enterFifo_moves

theorem execMarkQueuePost_moves (s : State) (hk : km &&& 0xFFBFFFFFFFF77B = km) (hs : Moves km s0 s) :
    Moves km s0 (Out.left s (execMarkQueuePost s)) := by
  refine Moves.comp (k1 := 0xFFBFFFFFFFF77B) ?_ hk hs
  unfold execMarkQueuePost
  repeat' first
    | with_reducible apply Moves.refl | decide | with_reducible apply enterFifo_moves

theorem execAngleCapture_moves (s : State) (hk : km &&& 0xFFFFFFFFFFF7FB = km) (hs : Moves km s0 s) :
    Moves km s0 (Out.left s (execAngleCapture s)) := by
  refine Moves.comp (k1 := 0xFFFFFFFFFFF7FB) ?_ hk hs
  unfold execAngleCapture
  repeat' first
    | with_reducible apply Moves.refl | with_reducible assumption | decide | ((with_reducible apply onActions_moves) <;> try intro _ _ _)
    | with_reducible apply State.put_moves | ((with_reducible apply Moves.foldl) <;> try intro _ _)

theorem execMarkUnitEnable_moves (x0 : Wr) (s : State) (hk : km &&& 0xFFBFFFFFFFEF9B = km) (hs : Moves km s0 s) :
    Moves km s0 (Out.left s (execMarkUnitEnable x0 s)) := by
  refine Moves.comp (k1 := 0xFFBFFFFFFFEF9B) ?_ hk hs
  unfold execMarkUnitEnable
  repeat' first
    | with_reducible apply Moves.refl | with_reducible assumption | decide | ((with_reducible apply accessWrite_moves) <;> try intro _ _ _)
    | with_reducible apply markUnitEff_moves | with_reducible apply Moves.next

theorem execMarkControlWrite_moves (m : Fin 1024) (x1 : Wr) (s : State) (hk : km &&& 0xFFBFFFFFFFE79B = km) (hs : Moves km s0 s) :
    Moves km s0 (Out.left s (execMarkControlWrite m x1 s)) := by
  refine Moves.comp (k1 := 0xFFBFFFFFFFE79B) ?_ hk hs
  unfold execMarkControlWrite
  repeat' first
    | with_reducible apply Moves.refl | with_reducible assumption | decide | ((with_reducible apply accessWrite_moves) <;> try intro _ _ _)
    | with_reducible apply markControlEff_moves | with_reducible apply Moves.next

theorem execMarkCatchUp_moves (m : Fin 1024) (s : State) (hk : km &&& 0xFFBFFFFFFFF7FB = km) (hs : Moves km s0 s) :
    Moves km s0 (Out.left s (execMarkCatchUp m s)) := by
  refine Moves.comp (k1 := 0xFFBFFFFFFFF7FB) ?_ hk hs
  unfold execMarkCatchUp
  repeat' first
    | with_reducible apply Moves.refl | decide | with_reducible apply fireMark_moves | with_reducible apply stepMark_moves
    | with_reducible apply State.bump_moves | with_reducible apply Moves.next | with_reducible apply Moves.when | split

theorem execSyncoPulse_moves (s : State) (hk : km &&& 0xFFFFFFFFFFF7FF = km) (hs : Moves km s0 s) :
    Moves km s0 (Out.left s (execSyncoPulse s)) := by
  refine Moves.comp (k1 := 0xFFFFFFFFFFF7FF) ?_ hk hs
  unfold execSyncoPulse
  repeat' first
    | with_reducible apply Moves.refl | with_reducible assumption | decide | with_reducible apply syncoRequest_moves
    | ((with_reducible apply onActions_moves) <;> try intro _ _ _) | split

theorem State.modChan_moves (s : State) (i : Nat) (f : SenseChan → SenseChan) (hk : km &&& 0xFFFFFFFFDFFFFF = km) (hs : Moves km s0 s) :
    Moves km s0 (s.modChan i f) :=
  Moves.of_sense s _ (modAt_length _ _ _) hk hs

theorem startAcquiring_moves (s : State) (c : ℕ) (hk : km &&& 0xFFFFFFFFDFFFFB = km) (hs : Moves km s0 s) :
    Moves km s0 (startAcquiring s c) := by
  refine Moves.comp (k1 := 0xFFFFFFFFDFFFFB) ?_ hk hs
  unfold startAcquiring
  repeat' first
    | with_reducible apply Moves.refl | decide | with_reducible apply State.modChan_moves | with_reducible apply State.putN_moves

theorem senseStopped_moves (s : State) (c : ℕ) (hk : km &&& 0xFFFFFFFFDFFFFB = km) (hs : Moves km s0 s) :
    Moves km s0 (senseStopped s c) := by
  refine Moves.comp (k1 := 0xFFFFFFFFDFFFFB) ?_ hk hs
  unfold senseStopped
  repeat' first
    | with_reducible apply Moves.refl | decide | with_reducible apply startAcquiring_moves | with_reducible apply State.putN_moves | split

theorem senseModeEff_moves (c : ℕ) (w' : Wr) (b' : Bool) (s' : State) (hk : km &&& 0xFFFFFFFFDFFFFB = km) (hs : Moves km s0 s') :
    Moves km s0 (senseModeEff c w' b' s').2 := by
  refine Moves.comp (k1 := 0xFFFFFFFFDFFFFB) ?_ hk hs
  unfold senseModeEff
  repeat' first
    | with_reducible apply Moves.refl | with_reducible assumption | decide | with_reducible apply senseStopped_moves
    | with_reducible apply startAcquiring_moves | with_reducible apply State.modChan_moves | with_reducible apply rej_moves
    | with_reducible apply acc_moves | with_reducible apply State.putN_moves
    | (intro x; first | (refine Moves.mid (t := x) ?_ (fun hx => ?_) <;> [dsimp +zetaDelta only; clear_value x]) | clear_value x)
    | (lift_lets; intro x; first | (refine Moves.mid (t := x) ?_ (fun hx => ?_) <;> [dsimp +zetaDelta only; clear_value x]) | clear_value x)
    | split

theorem takePair_moves (s : State) (c : ℕ) (hk : km &&& 0xFFFFFFFFDFFFFF = km) (hs : Moves km s0 s) :
    Moves km s0 (takePair s c) := by
  refine Moves.comp (k1 := 0xFFFFFFFFDFFFFF) ?_ hk hs
  unfold takePair
  repeat' first
    | with_reducible apply Moves.refl | decide | with_reducible apply State.modChan_moves | split

theorem sensePlainEff_moves (c : ℕ) (j : ℕ) (w' : Wr) (b' : Bool) (s' : State) (hk : km &&& 0xFFFFFFFFDFFFFB = km) (hs : Moves km s0 s') :
    Moves km s0 (sensePlainEff c j w' b' s').2 := by
  refine Moves.comp (k1 := 0xFFFFFFFFDFFFFB) ?_ hk hs
  unfold sensePlainEff
  repeat' first
    | with_reducible apply Moves.refl | decide | with_reducible apply takePair_moves | with_reducible apply plainWrite_moves
    | with_reducible apply rej_moves | split

theorem sckPlainEff_moves (k : ℕ) (j : ℕ) (w' : Wr) (b' : Bool) (s' : State) (hk : km &&& 0xFFFFFFFFFFFFFB = km) (hs : Moves km s0 s') :
    Moves km s0 (sckPlainEff k j w' b' s').2 := by
  refine Moves.comp (k1 := 0xFFFFFFFFFFFFFB) ?_ hk hs
  unfold sckPlainEff
  repeat' first
    | with_reducible apply Moves.refl | decide | with_reducible apply plainWrite_moves | with_reducible apply rej_moves | split

theorem senseRestartEff_moves (c : ℕ) (w' : Wr) (b' : Bool) (s' : State) (hk : km &&& 0xFFFFFFFFDFFFFB = km) (hs : Moves km s0 s') :
    Moves km s0 (senseRestartEff c w' b' s').2 := by
  refine Moves.comp (k1 := 0xFFFFFFFFDFFFFB) ?_ hk hs
  unfold senseRestartEff
  repeat' first
    | with_reducible apply Moves.refl | decide | with_reducible apply startAcquiring_moves | with_reducible apply acc_moves | split

theorem gainEff_moves (c : ℕ) (w' : Wr) (b' : Bool) (s' : State) (hk : km &&& 0xFFFFFFFFDFFFFB = km) (hs : Moves km s0 s') :
    Moves km s0 (gainEff c w' b' s').2 := by
  refine Moves.comp (k1 := 0xFFFFFFFFDFFFFB) ?_ hk hs
  unfold gainEff
  repeat' first
    | with_reducible apply Moves.refl | decide | with_reducible apply takePair_moves | with_reducible apply State.modChan_moves
    | with_reducible apply acc_moves | with_reducible apply State.put_moves

theorem sckEnableEff_moves (k : ℕ) (w' : Wr) (b' : Bool) (s' : State) (hk : km &&& 0xFEFFFFFFFFFFFB = km) (hs : Moves km s0 s') :
    Moves km s0 (sckEnableEff k w' b' s').2 := by
  refine Moves.comp (k1 := 0xFEFFFFFFFFFFFB) ?_ hk hs
  unfold sckEnableEff
  dsimp only
  repeat' first
    | with_reducible apply Moves.refl | decide | (exact modAt_length _ _ _) | with_reducible apply rej_moves
    | with_reducible apply acc_moves | with_reducible apply State.put_moves | split | with_reducible apply Moves.of_sckFrom

theorem senseFail_moves (s : State) (c : ℕ) (flags : ℕ) (hk : km &&& 0xFFBFFFFFDFFF7B = km) (hs : Moves km s0 s) :
    Moves km s0 (senseFail s c flags) := by
  refine Moves.comp (k1 := 0xFFBFFFFFDFFF7B) ?_ hk hs
  unfold senseFail
  repeat' first
    | with_reducible apply Moves.refl | decide | with_reducible apply State.modChan_moves | with_reducible apply State.report_moves
    | with_reducible apply State.setBits_moves | with_reducible apply State.putN_moves

theorem enterBit_moves (s : State) (c : ℕ) (bit : Bool) (hk : km &&& 0xFFFFFFFFDFFFFF = km) (hs : Moves km s0 s) :
    Moves km s0 (enterBit s c bit) := by
  refine Moves.comp (k1 := 0xFFFFFFFFDFFFFF) ?_ hk hs
  unfold enterBit
  repeat' first
    | with_reducible apply Moves.refl | decide | with_reducible apply State.modChan_moves

theorem evaluatePrecision_moves (s : State) (c : ℕ) (hk : km &&& 0xFFFFFFFFDFFFFF = km) (hs : Moves km s0 s) :
    Moves km s0 (evaluatePrecision s c) := by
  refine Moves.comp (k1 := 0xFFFFFFFFDFFFFF) ?_ hk hs
  unfold evaluatePrecision
  repeat' first
    | with_reducible apply Moves.refl | decide | with_reducible apply State.modChan_moves

theorem acquired_moves (s : State) (c : ℕ) (hk : km &&& 0xFFFFFFFFFFFFFB = km) (hs : Moves km s0 s) :
    Moves km s0 (acquired s c) := by
  refine Moves.comp (k1 := 0xFFFFFFFFFFFFFB) ?_ hk hs
  unfold acquired
  repeat' first
    | with_reducible apply Moves.refl | decide | with_reducible apply State.putN_moves | split

theorem evaluateFast_moves (s : State) (c : ℕ) (hk : km &&& 0xFFFFFFFFDFFFFF = km) (hs : Moves km s0 s) :
    Moves km s0 (evaluateFast s c) := by
  refine Moves.comp (k1 := 0xFFFFFFFFDFFFFF) ?_ hk hs
  unfold evaluateFast
  repeat' first
    | with_reducible apply Moves.refl | decide | with_reducible apply State.modChan_moves

theorem senseBit_moves (s : State) (c : ℕ) (bit : Bool) (hk : km &&& 0xFFBFFFFFDFFF7B = km) (hs : Moves km s0 s) :
    Moves km s0 (senseBit s c bit) := by
  refine Moves.comp (k1 := 0xFFBFFFFFDFFF7B) ?_ hk hs
  unfold senseBit
  repeat' first
    | with_reducible apply Moves.refl | with_reducible assumption | decide | with_reducible apply evaluateFast_moves
    | with_reducible apply acquired_moves | with_reducible apply evaluatePrecision_moves | with_reducible apply enterBit_moves
    | with_reducible apply senseFail_moves
    | (lift_lets; intro x; first | (refine Moves.mid (t := x) ?_ (fun hx => ?_) <;> [dsimp +zetaDelta only; clear_value x]) | clear_value x)
    | split

theorem codingError_moves (s : State) (c : ℕ) (hk : km &&& 0xFFBFFFFFDFFF7B = km) (hs : Moves km s0 s) :
    Moves km s0 (codingError s c) := by
  refine Moves.comp (k1 := 0xFFBFFFFFDFFF7B) ?_ hk hs
  unfold codingError
  repeat' first
    | with_reducible apply Moves.refl | with_reducible assumption | decide | with_reducible apply senseFail_moves
    | with_reducible apply State.modChan_moves | with_reducible apply State.setBits_moves | with_reducible apply State.bump_moves
    | with_reducible apply State.putN_moves
    | (intro x; first | (refine Moves.mid (t := x) ?_ (fun hx => ?_) <;> [dsimp +zetaDelta only; clear_value x]) | clear_value x)
    | (lift_lets; intro x; first | (refine Moves.mid (t := x) ?_ (fun hx => ?_) <;> [dsimp +zetaDelta only; clear_value x]) | clear_value x)
    | split

theorem senseTransition_moves (s : State) (c : ℕ) (rising : Bool) (hk : km &&& 0xFFBFFFFFDFFF7B = km) (hs : Moves km s0 s) :
    Moves km s0 (senseTransition s c rising) := by
  refine Moves.comp (k1 := 0xFFBFFFFFDFFF7B) ?_ hk hs
  unfold senseTransition
  repeat' first
    | with_reducible apply Moves.refl | with_reducible assumption | decide | with_reducible apply codingError_moves
    | with_reducible apply senseBit_moves | with_reducible apply State.modChan_moves
    | (lift_lets; intro x; first | (refine Moves.mid (t := x) ?_ (fun hx => ?_) <;> [dsimp +zetaDelta only; clear_value x]) | clear_value x)
    | split

theorem rangeEvents_moves (s : State) (c : ℕ) (sat : Bool) (wide : Bool) (hk : km &&& 0xFFBFFFFFDFFF7B = km) (hs : Moves km s0 s) :
    Moves km s0 (rangeEvents s c sat wide) := by
  refine Moves.comp (k1 := 0xFFBFFFFFDFFF7B) ?_ hk hs
  unfold rangeEvents
  repeat' first
    | with_reducible apply Moves.refl | decide | with_reducible apply State.modChan_moves | with_reducible apply State.report_moves
    | with_reducible apply State.setBits_moves | with_reducible apply State.bump_moves | split

theorem deliverFast_moves (s : State) (c : ℕ) (due : ℕ) (x : ℤ) (sat : Bool) (wide : Bool) (hk : km &&& 0xFFBFFFFFDFFF7B = km) (hs : Moves km s0 s) :
    Moves km s0 (deliverFast s c due x sat wide) := by
  refine Moves.comp (k1 := 0xFFBFFFFFDFFF7B) ?_ hk hs
  unfold deliverFast
  repeat' first
    | with_reducible apply Moves.refl | decide | with_reducible apply rangeEvents_moves | with_reducible apply senseStopped_moves
    | with_reducible apply State.modChan_moves | with_reducible apply State.putI_moves | with_reducible apply State.setBits_moves | split

theorem writePrecision_moves (s : State) (c : ℕ) (y : ℤ) (bitTime : ℕ) (hk : km &&& 0xFFFFFFFFFFFFFB = km) (hs : Moves km s0 s) :
    Moves km s0 (writePrecision s c y bitTime) := by
  refine Moves.comp (k1 := 0xFFFFFFFFFFFFFB) ?_ hk hs
  unfold writePrecision
  repeat' first
    | with_reducible apply Moves.refl | decide | with_reducible apply State.putI_moves | with_reducible apply State.put_moves

theorem snapshotChannel_moves (s : State) (c : ℕ) (hk : km &&& 0xFFBFFFFFDFFFFB = km) (hs : Moves km s0 s) :
    Moves km s0 (snapshotChannel s c) := by
  refine Moves.comp (k1 := 0xFFBFFFFFDFFFFB) ?_ hk hs
  unfold snapshotChannel
  dsimp only
  repeat' first
    | with_reducible apply Moves.refl | decide | with_reducible apply State.modChan_moves | with_reducible apply State.putI_moves
    | with_reducible apply State.bump_moves | with_reducible apply State.put_moves | split

theorem execSenseSnapshot_moves (s : State) (hk : km &&& 0xFFBFFFFFDFF7FB = km) (hs : Moves km s0 s) :
    Moves km s0 (Out.left s (execSenseSnapshot s)) := by
  refine Moves.comp (k1 := 0xFFBFFFFFDFF7FB) ?_ hk hs
  unfold execSenseSnapshot
  repeat' first
    | with_reducible apply Moves.refl | with_reducible assumption | decide | ((with_reducible apply onActions_moves) <;> try intro _ _ _)
    | with_reducible apply snapshotChannel_moves | ((with_reducible apply Moves.foldl) <;> try intro _ _)

theorem senseTick_moves (s : State) (hk : km &&& 0xFFFFFFFFFFFFFB = km) (hs : Moves km s0 s) :
    Moves km s0 (senseTick s) := by
  refine Moves.comp (k1 := 0xFFFFFFFFFFFFFB) ?_ hk hs
  unfold senseTick
  repeat' first
    | with_reducible apply Moves.refl | decide | with_reducible apply State.sub_moves | split
    | ((with_reducible apply Moves.foldl) <;> try intro _ _)

theorem execSckEnable_moves (k : Fin 8) (x1 : Wr) (s : State) (hk : km &&& 0xFEBFFFFFFFEF9B = km) (hs : Moves km s0 s) :
    Moves km s0 (Out.left s (execSckEnable k x1 s)) := by
  refine Moves.comp (k1 := 0xFEBFFFFFFFEF9B) ?_ hk hs
  unfold execSckEnable
  repeat' first
    | with_reducible apply Moves.refl | with_reducible assumption | decide | ((with_reducible apply accessWrite_moves) <;> try intro _ _ _)
    | with_reducible apply sckEnableEff_moves | with_reducible apply Moves.next

end Sys2Proof.Machine
end

