-- ==== Sys2Proof/Laws/MovesPhase.lean ====
section
/-! SUPPORT. What every operation keeps, one lemma each, named after the operation, with the bits of `Moves`: the phases, rails and their supervision, the charger path and the CAN agent. -/
namespace Sys2Proof.Machine

set_option linter.all false

variable {km : Nat} {s0 : State}

theorem State.modRail_moves (s : State) (i : Nat) (f : Rail → Rail) (hk : km &&& 0xFFFFFFFF7FFFFF = km) (hs : Moves km s0 s) :
    Moves km s0 (s.modRail i f) :=
  Moves.of_rails s _ (modAt_length _ _ _) hk hs

theorem State.modPhase_moves (s : State) (p : Nat) (f : Phase → Phase) (hk : km &&& 0xFFFFFFFFBFFFFF = km) (hs : Moves km s0 s)
    (hf : ∀ x, x.apart = true → (f x).apart = true) : Moves km s0 (s.modPhase p f) :=
  Moves.of_phases s _ (modAt_length _ _ _) (all_modAt _ _ _ _ hf) hk hs

theorem State.modPhase_moves_at (s : State) (p : Nat) (f : Phase → Phase) (hk : km &&& 0xFFFFFFFFBFFFFF = km) (hs : Moves km s0 s)
    (hf : (s.phase p).apart = true → (f (s.phase p)).apart = true) : Moves km s0 (s.modPhase p f) :=
  Moves.of_phases s _ (modAt_length _ _ _) (all_modAt_at _ _ _ _ {} hf) hk hs

theorem setPark_moves (s : State) (p : ℕ) (x2 : Bool) (hk : km &&& 0xFFFFFFFFBFFFFF = km) (hs : Moves km s0 s) :
    Moves km s0 (setPark s p x2) := by
  refine Moves.comp (k1 := 0xFFFFFFFFBFFFFF) ?_ hk hs
  unfold setPark
  repeat' first
    | with_reducible apply Moves.refl | decide | with_reducible apply State.modPhase_moves | exact fun _ h => h

theorem pilotTo_moves (s : State) (p : ℕ) (st : ℕ) (flags : ℕ) (hk : km &&& 0xFFBFFFFFBFFFFB = km) (hs : Moves km s0 s) :
    Moves km s0 (pilotTo s p st flags) := by
  refine Moves.comp (k1 := 0xFFBFFFFFBFFFFB) ?_ hk hs
  unfold pilotTo
  repeat' first
    | with_reducible apply Moves.refl | decide | with_reducible apply State.modPhase_moves | with_reducible apply State.setBits_moves
    | with_reducible apply State.putN_moves | exact fun _ h => h

theorem pilotSettle_moves (s : State) (p : ℕ) (hk : km &&& 0xFFBFFFFFBFFFFB = km) (hs : Moves km s0 s) :
    Moves km s0 (pilotSettle s p) := by
  refine Moves.comp (k1 := 0xFFBFFFFFBFFFFB) ?_ hk hs
  unfold pilotSettle
  repeat' first
    | with_reducible apply Moves.refl | with_reducible assumption | decide | with_reducible apply pilotTo_moves
    | with_reducible apply State.put_moves
    | (intro x; first | (refine Moves.mid (t := x) ?_ (fun hx => ?_) <;> [dsimp +zetaDelta only; clear_value x]) | clear_value x)
    | (lift_lets; intro x; first | (refine Moves.mid (t := x) ?_ (fun hx => ?_) <;> [dsimp +zetaDelta only; clear_value x]) | clear_value x)
    | split

theorem enterPhase_moves (s : State) (p : ℕ) (st : ℕ) (hk : km &&& 0xFFBFFFFFBFFFFB = km) (hs : Moves km s0 s) :
    Moves km s0 (enterPhase s p st) := by
  refine Moves.comp (k1 := 0xFFBFFFFFBFFFFB) ?_ hk hs
  unfold enterPhase
  repeat' first
    | with_reducible apply Moves.refl | decide | with_reducible apply pilotSettle_moves | with_reducible apply State.modPhase_moves
    | with_reducible apply State.putN_moves | split | (intro x hx; simp [Phase.apart] at *; split <;> simp_all; done)

theorem idleCheck_moves (s : State) (p : ℕ) (hk : km &&& 0xFFBFFFFFBFFFFB = km) (hs : Moves km s0 s) :
    Moves km s0 (idleCheck s p) := by
  refine Moves.comp (k1 := 0xFFBFFFFFBFFFFB) ?_ hk hs
  unfold idleCheck
  repeat' first
    | with_reducible apply Moves.refl | decide | with_reducible apply enterPhase_moves
    | (lift_lets; intro x; first | (refine Moves.mid (t := x) ?_ (fun hx => ?_) <;> [dsimp +zetaDelta only; clear_value x]) | clear_value x)
    | split

theorem setGrant_moves (s : State) (p : ℕ) (x2 : Bool) (hk : km &&& 0xFFBFFFFFBFFFFB = km) (hs : Moves km s0 s) :
    Moves km s0 (setGrant s p x2) := by
  refine Moves.comp (k1 := 0xFFBFFFFFBFFFFB) ?_ hk hs
  unfold setGrant
  repeat' first
    | with_reducible apply Moves.refl | with_reducible assumption | decide | with_reducible apply idleCheck_moves
    | with_reducible apply enterPhase_moves | with_reducible apply State.modPhase_moves
    | (intro x; first | (refine Moves.mid (t := x) ?_ (fun hx => ?_) <;> [dsimp +zetaDelta only; clear_value x]) | clear_value x)
    | (lift_lets; intro x; first | (refine Moves.mid (t := x) ?_ (fun hx => ?_) <;> [dsimp +zetaDelta only; clear_value x]) | clear_value x)
    | split | exact fun _ h => h

theorem setSlot_moves (s : State) (p : ℕ) (x2 : ℕ) (a : Word) (hk : km &&& 0xFFBFFFFFBFFFFB = km) (hs : Moves km s0 s) :
    Moves km s0 (setSlot s p x2 a) := by
  refine Moves.comp (k1 := 0xFFBFFFFFBFFFFB) ?_ hk hs
  unfold setSlot
  repeat' first
    | with_reducible apply Moves.refl | with_reducible assumption | decide | with_reducible apply pilotSettle_moves
    | with_reducible apply pilotTo_moves | with_reducible apply State.modPhase_moves | with_reducible apply State.putN_moves
    | with_reducible apply State.put_moves
    | (intro x; first | (refine Moves.mid (t := x) ?_ (fun hx => ?_) <;> [dsimp +zetaDelta only; clear_value x]) | clear_value x)
    | (lift_lets; intro x; first | (refine Moves.mid (t := x) ?_ (fun hx => ?_) <;> [dsimp +zetaDelta only; clear_value x]) | clear_value x)
    | split | exact fun _ h => h

theorem phaseReport_moves (s : State) (p : ℕ) (c : FClass) (hk : km &&& 0xFFFFFFFFFFFF7F = km) (hs : Moves km s0 s) :
    Moves km s0 (phaseReport s p c) := by
  refine Moves.comp (k1 := 0xFFFFFFFFFFFF7F) ?_ hk hs
  unfold phaseReport
  repeat' first
    | with_reducible apply Moves.refl | decide | with_reducible apply State.report_moves

theorem setRec_moves (s : State) (p : ℕ) (lo : ℕ) (x3 : ℕ) (v : ℕ) (hk : km &&& 0xFFFFFFFFFFFFFB = km) (hs : Moves km s0 s) :
    Moves km s0 (setRec s p lo x3 v) := by
  refine Moves.comp (k1 := 0xFFFFFFFFFFFFFB) ?_ hk hs
  unfold setRec
  repeat' first
    | with_reducible apply Moves.refl | decide | with_reducible apply State.putN_moves

theorem startEpisodes_moves (s : State) (p : ℕ) (hk : km &&& 0xFFFFFFFF7FFFFF = km) (hs : Moves km s0 s) :
    Moves km s0 (startEpisodes s p) := by
  refine Moves.comp (k1 := 0xFFFFFFFF7FFFFF) ?_ hk hs
  unfold startEpisodes
  repeat' first
    | with_reducible apply Moves.refl | decide | with_reducible apply State.modRail_moves
    | ((with_reducible apply Moves.foldl) <;> try intro _ _)

theorem noteVerdict_moves (s : State) (r : ℕ) (i : ℕ) (code : ℕ) (due : ℕ) (hk : km &&& 0xFFFFFFFF7FFFFF = km) (hs : Moves km s0 s) :
    Moves km s0 (noteVerdict s r i code due) := by
  refine Moves.comp (k1 := 0xFFFFFFFF7FFFFF) ?_ hk hs
  unfold noteVerdict
  repeat' first
    | with_reducible apply Moves.refl | decide | with_reducible apply State.modRail_moves

theorem lockOut_moves (s : State) (p : ℕ) (hk : km &&& 0xFFBFFFFF3FFF7B = km) (hs : Moves km s0 s) :
    Moves km s0 (lockOut s p) := by
  refine Moves.comp (k1 := 0xFFBFFFFF3FFF7B) ?_ hk hs
  unfold lockOut
  repeat' first
    | with_reducible apply Moves.refl | with_reducible assumption | decide | with_reducible apply noteVerdict_moves
    | with_reducible apply setRec_moves | with_reducible apply phaseReport_moves | with_reducible apply enterPhase_moves
    | with_reducible apply State.setBits_moves
    | (lift_lets; intro x; first | (refine Moves.mid (t := x) ?_ (fun hx => ?_) <;> [dsimp +zetaDelta only; clear_value x]) | clear_value x)
    | split | ((with_reducible apply Moves.foldl) <;> try intro _ _)

theorem phaseFault_moves (s : State) (p : ℕ) (cause : ℕ) (hk : km &&& 0xFFBFFFFF3FFF7B = km) (hs : Moves km s0 s) :
    Moves km s0 (phaseFault s p cause) := by
  refine Moves.comp (k1 := 0xFFBFFFFF3FFF7B) ?_ hk hs
  unfold phaseFault
  repeat' first
    | with_reducible apply Moves.refl | with_reducible assumption | decide | with_reducible apply lockOut_moves
    | with_reducible apply startEpisodes_moves | with_reducible apply setRec_moves | with_reducible apply enterPhase_moves
    | with_reducible apply State.modPhase_moves | with_reducible apply State.put_moves
    | (intro x; first | (refine Moves.mid (t := x) ?_ (fun hx => ?_) <;> [dsimp +zetaDelta only; clear_value x]) | clear_value x)
    | (lift_lets; intro x; first | (refine Moves.mid (t := x) ?_ (fun hx => ?_) <;> [dsimp +zetaDelta only; clear_value x]) | clear_value x)
    | split | exact fun _ h => h

theorem tripOnset_moves (s : State) (p : ℕ) (cause : ℕ) (hk : km &&& 0xFFBFFFFF3FFF7B = km) (hs : Moves km s0 s) :
    Moves km s0 (tripOnset s p cause) := by
  refine Moves.comp (k1 := 0xFFBFFFFF3FFF7B) ?_ hk hs
  unfold tripOnset
  repeat' first
    | with_reducible apply Moves.refl | decide | with_reducible apply phaseFault_moves | with_reducible apply phaseReport_moves
    | with_reducible apply State.setBits_moves | with_reducible apply State.bump_moves

theorem tripCheck_moves (s : State) (p : ℕ) (hk : km &&& 0xFFBFFFFF3FFF7B = km) (hs : Moves km s0 s) :
    Moves km s0 (tripCheck s p) := by
  refine Moves.comp (k1 := 0xFFBFFFFF3FFF7B) ?_ hk hs
  unfold tripCheck
  repeat' first
    | with_reducible apply Moves.refl | with_reducible assumption | decide | with_reducible apply tripOnset_moves
    | with_reducible apply State.modPhase_moves
    | (intro x; first | (refine Moves.mid (t := x) ?_ (fun hx => ?_) <;> [dsimp +zetaDelta only; clear_value x]) | clear_value x)
    | (lift_lets; intro x; first | (refine Moves.mid (t := x) ?_ (fun hx => ?_) <;> [dsimp +zetaDelta only; clear_value x]) | clear_value x)
    | split | exact fun _ h => h

theorem phaseWatch_moves (s : State) (p : ℕ) (hk : km &&& 0xFFBFFFFF3FFF7B = km) (hs : Moves km s0 s) :
    Moves km s0 (phaseWatch s p) := by
  refine Moves.comp (k1 := 0xFFBFFFFF3FFF7B) ?_ hk hs
  unfold phaseWatch
  repeat' first
    | with_reducible apply Moves.refl | decide | with_reducible apply tripCheck_moves | split

theorem pilotLimit_moves (s : State) (p : ℕ) (hk : km &&& 0xFFFFFFFFFFFFFB = km) (hs : Moves km s0 s) :
    Moves km s0 (pilotLimit s p) := by
  refine Moves.comp (k1 := 0xFFFFFFFFFFFFFB) ?_ hk hs
  unfold pilotLimit
  repeat' first
    | with_reducible apply Moves.refl | decide | with_reducible apply State.putI_moves

theorem manualCommands_moves (s : State) (p : ℕ) (v : ℕ) (hk : km &&& 0xFFFFFFFFBFFFFF = km) (hs : Moves km s0 s) :
    Moves km s0 (manualCommands s p v) := by
  refine Moves.comp (k1 := 0xFFFFFFFFBFFFFF) ?_ hk hs
  unfold manualCommands
  dsimp only
  repeat' first
    | with_reducible apply Moves.refl | decide | (intro x hx; cases h0 : bitN v 0 <;> simp_all [Phase.apart] <;> done)
    | with_reducible apply State.modPhase_moves | split | (intro x hx; simp [Phase.apart] at *; split <;> simp_all; done)

theorem resumePhase_moves (s : State) (p : ℕ) (hk : km &&& 0xFFBFFFFFBFFFFB = km) (hs : Moves km s0 s) :
    Moves km s0 (resumePhase s p) := by
  refine Moves.comp (k1 := 0xFFBFFFFFBFFFFB) ?_ hk hs
  unfold resumePhase
  repeat' first
    | with_reducible apply Moves.refl | decide | with_reducible apply enterPhase_moves | with_reducible apply State.modPhase_moves
    | exact fun _ h => h

theorem clearPhaseRecord_moves (s : State) (p : ℕ) (hk : km &&& 0xFFFFFFFFBFFFFB = km) (hs : Moves km s0 s) :
    Moves km s0 (clearPhaseRecord s p) := by
  refine Moves.comp (k1 := 0xFFFFFFFFBFFFFB) ?_ hk hs
  unfold clearPhaseRecord
  repeat' first
    | with_reducible apply Moves.refl | decide | with_reducible apply State.modPhase_moves | with_reducible apply State.put_moves
    | exact fun _ h => h

theorem pilotOff_moves (s : State) (p : ℕ) (hk : km &&& 0xFFBFFFFFBFFFFB = km) (hs : Moves km s0 s) :
    Moves km s0 (pilotOff s p) := by
  refine Moves.comp (k1 := 0xFFBFFFFFBFFFFB) ?_ hk hs
  unfold pilotOff
  repeat' first
    | with_reducible apply Moves.refl | decide | with_reducible apply pilotTo_moves | with_reducible apply State.modPhase_moves
    | with_reducible apply State.put_moves | exact fun _ h => h

theorem disablePhase_moves (s : State) (p : ℕ) (hk : km &&& 0xFFBFFFFFBFFFFB = km) (hs : Moves km s0 s) :
    Moves km s0 (disablePhase s p) := by
  refine Moves.comp (k1 := 0xFFBFFFFFBFFFFB) ?_ hk hs
  unfold disablePhase
  repeat' first
    | with_reducible apply Moves.refl | with_reducible assumption | decide | with_reducible apply pilotOff_moves
    | with_reducible apply clearPhaseRecord_moves | with_reducible apply enterPhase_moves | with_reducible apply State.modPhase_moves
    | with_reducible apply State.put_moves
    | (lift_lets; intro x; first | (refine Moves.mid (t := x) ?_ (fun hx => ?_) <;> [dsimp +zetaDelta only; clear_value x]) | clear_value x)
    | split | exact fun _ h => h

theorem latchGateFault_moves (s : State) (p : ℕ) (hk : km &&& 0xFFFFFFFFBFFFFF = km) (hs : Moves km s0 s) :
    Moves km s0 (latchGateFault s p) := by
  refine Moves.comp (k1 := 0xFFFFFFFFBFFFFF) ?_ hk hs
  unfold latchGateFault
  repeat' first
    | with_reducible apply Moves.refl | decide | with_reducible apply State.modPhase_moves | split | exact fun _ h => h

theorem latchIfLow_moves (s : State) (p : ℕ) (hk : km &&& 0xFFFFFFFFBFFFFF = km) (hs : Moves km s0 s) :
    Moves km s0 (latchIfLow s p) := by
  refine Moves.comp (k1 := 0xFFFFFFFFBFFFFF) ?_ hk hs
  unfold latchIfLow
  repeat' first
    | with_reducible apply Moves.refl | decide | with_reducible apply latchGateFault_moves | split

theorem takeOwner_moves (s : State) (p : ℕ) (hk : km &&& 0xFFBFFFFF3FFF7B = km) (hs : Moves km s0 s) :
    Moves km s0 (takeOwner s p) := by
  refine Moves.comp (k1 := 0xFFBFFFFF3FFF7B) ?_ hk hs
  unfold takeOwner
  repeat' first
    | with_reducible apply Moves.refl | decide | with_reducible apply lockOut_moves | with_reducible apply setRec_moves
    | with_reducible apply State.modPhase_moves | split | exact fun _ h => h

theorem pilotClamp_moves (s : State) (p : ℕ) (inside : Bool) (hk : km &&& 0xFFBFFFFFBFFF7B = km) (hs : Moves km s0 s) :
    Moves km s0 (pilotClamp s p inside) := by
  refine Moves.comp (k1 := 0xFFBFFFFFBFFF7B) ?_ hk hs
  unfold pilotClamp
  repeat' first
    | with_reducible apply Moves.refl | with_reducible assumption | decide | with_reducible apply phaseReport_moves
    | with_reducible apply State.modPhase_moves | with_reducible apply State.setBits_moves
    | (intro x; first | (refine Moves.mid (t := x) ?_ (fun hx => ?_) <;> [dsimp +zetaDelta only; clear_value x]) | clear_value x)
    | (lift_lets; intro x; first | (refine Moves.mid (t := x) ?_ (fun hx => ?_) <;> [dsimp +zetaDelta only; clear_value x]) | clear_value x)
    | split | exact fun _ h => h

theorem pilotLock_moves (s : State) (p : ℕ) (x2 : ℤ) (inside : Bool) (hk : km &&& 0xFFBFFFFFBFFFFB = km) (hs : Moves km s0 s) :
    Moves km s0 (pilotLock s p x2 inside) := by
  refine Moves.comp (k1 := 0xFFBFFFFFBFFFFB) ?_ hk hs
  unfold pilotLock
  dsimp only
  repeat' first
    | with_reducible apply Moves.refl | decide | with_reducible apply pilotTo_moves | with_reducible apply State.modPhase_moves | split
    | exact fun _ h => h

theorem pilotUpdate_moves (s : State) (p : ℕ) (hk : km &&& 0xFFBFFFFFBFFF7B = km) (hs : Moves km s0 s) :
    Moves km s0 (pilotUpdate s p) := by
  refine Moves.comp (k1 := 0xFFBFFFFFBFFF7B) ?_ hk hs
  unfold pilotUpdate
  repeat' first
    | with_reducible apply Moves.refl | with_reducible assumption | decide | with_reducible apply pilotLock_moves
    | with_reducible apply pilotClamp_moves | with_reducible apply State.putI_moves | with_reducible apply State.modPhase_moves
    | (intro x; first | (refine Moves.mid (t := x) ?_ (fun hx => ?_) <;> [dsimp +zetaDelta only; clear_value x]) | clear_value x)
    | (lift_lets; intro x; first | (refine Moves.mid (t := x) ?_ (fun hx => ?_) <;> [dsimp +zetaDelta only; clear_value x]) | clear_value x)
    | split | exact fun _ h => h

theorem giveVerdict_moves (s : State) (r : ℕ) (i : ℕ) (code : ℕ) (hk : km &&& 0xFFBFFFFFFFFF7B = km) (hs : Moves km s0 s) :
    Moves km s0 (giveVerdict s r i code) := by
  refine Moves.comp (k1 := 0xFFBFFFFFFFFF7B) ?_ hk hs
  unfold giveVerdict
  repeat' first
    | with_reducible apply Moves.refl | with_reducible assumption | decide | with_reducible apply State.report_moves
    | with_reducible apply State.setBits_moves | with_reducible apply State.putN_moves
    | (intro x; first | (refine Moves.mid (t := x) ?_ (fun hx => ?_) <;> [dsimp +zetaDelta only; clear_value x]) | clear_value x)
    | (lift_lets; intro x; first | (refine Moves.mid (t := x) ?_ (fun hx => ?_) <;> [dsimp +zetaDelta only; clear_value x]) | clear_value x)
    | split

theorem enforceVerdict_moves (s : State) (r : ℕ) (i : ℕ) (code : ℕ) (hk : km &&& 0xFFBFFFFFFFFF7B = km) (hs : Moves km s0 s) :
    Moves km s0 (enforceVerdict s r i code) := by
  refine Moves.comp (k1 := 0xFFBFFFFFFFFF7B) ?_ hk hs
  unfold enforceVerdict
  repeat' first
    | with_reducible apply Moves.refl | decide | with_reducible apply giveVerdict_moves | split

theorem blindCheck_moves (s : State) (p : ℕ) (hk : km &&& 0xFFBFFFFFBFFF7B = km) (hs : Moves km s0 s) :
    Moves km s0 (blindCheck s p) := by
  refine Moves.comp (k1 := 0xFFBFFFFFBFFF7B) ?_ hk hs
  unfold blindCheck
  repeat' first
    | with_reducible apply Moves.refl | decide | with_reducible apply resumePhase_moves | with_reducible apply phaseReport_moves
    | with_reducible apply enterPhase_moves | with_reducible apply State.modPhase_moves | with_reducible apply State.setBits_moves
    | with_reducible apply State.bump_moves | split | exact fun _ h => h

theorem phasesEnd_moves (s : State) (hk : km &&& 0xFFBFFFFFBFFF7B = km) (hs : Moves km s0 s) :
    Moves km s0 (phasesEnd s) := by
  refine Moves.comp (k1 := 0xFFBFFFFFBFFF7B) ?_ hk hs
  unfold phasesEnd
  repeat' first
    | with_reducible apply Moves.refl | decide | with_reducible apply blindCheck_moves | with_reducible apply State.modPhase_moves | split
    | ((with_reducible apply Moves.foldl) <;> try intro _ _) | exact fun _ h => h

theorem phasesBegin_moves (s : State) (hk : km &&& 0xFFBFFFFF3FFF7B = km) (hs : Moves km s0 s) :
    Moves km s0 (phasesBegin s) := by
  refine Moves.comp (k1 := 0xFFBFFFFF3FFF7B) ?_ hk hs
  unfold phasesBegin
  repeat' first
    | with_reducible apply Moves.refl | decide | with_reducible apply phaseWatch_moves
    | ((with_reducible apply Moves.foldl) <;> try intro _ _)

theorem disableUnadmitted_moves (s : State) (hk : km &&& 0xFFBFFFFFBFFFFB = km) (hs : Moves km s0 s) :
    Moves km s0 (disableUnadmitted s) := by
  refine Moves.comp (k1 := 0xFFBFFFFFBFFFFB) ?_ hk hs
  unfold disableUnadmitted
  repeat' first
    | with_reducible apply Moves.refl | decide | with_reducible apply disablePhase_moves | split
    | ((with_reducible apply Moves.foldl) <;> try intro _ _)

theorem setUnitWeight_moves (s : State) (r : ℕ) (u : ℕ) (x3 : ℕ) (hk : km &&& 0xFFFFFFFFFFFFFB = km) (hs : Moves km s0 s) :
    Moves km s0 (setUnitWeight s r u x3) := by
  refine Moves.comp (k1 := 0xFFFFFFFFFFFFFB) ?_ hk hs
  unfold setUnitWeight
  repeat' first
    | with_reducible apply Moves.refl | decide | with_reducible apply State.putN_moves
    | ((with_reducible apply Moves.foldl) <;> try intro _ _)

theorem setUnitPark_moves (s : State) (r : ℕ) (u : ℕ) (x3 : Bool) (hk : km &&& 0xFFFFFFFF3FFFFF = km) (hs : Moves km s0 s) :
    Moves km s0 (setUnitPark s r u x3) := by
  refine Moves.comp (k1 := 0xFFFFFFFF3FFFFF) ?_ hk hs
  unfold setUnitPark
  repeat' first
    | with_reducible apply Moves.refl | with_reducible assumption | decide | with_reducible apply setPark_moves
    | with_reducible apply State.modRail_moves
    | (lift_lets; intro x; first | (refine Moves.mid (t := x) ?_ (fun hx => ?_) <;> [dsimp +zetaDelta only; clear_value x]) | clear_value x)
    | ((with_reducible apply Moves.foldl) <;> try intro _ _)

theorem enterUnit_moves (s : State) (r : ℕ) (u : ℕ) (st : ℕ) (hk : km &&& 0xFFFFFFFF3FFFFB = km) (hs : Moves km s0 s) :
    Moves km s0 (enterUnit s r u st) := by
  refine Moves.comp (k1 := 0xFFFFFFFF3FFFFB) ?_ hk hs
  unfold enterUnit
  repeat' first
    | with_reducible apply Moves.refl | with_reducible assumption | decide | with_reducible apply setUnitPark_moves
    | with_reducible apply State.modRail_moves | with_reducible apply setUnitWeight_moves | with_reducible apply State.putN_moves
    | (intro x; first | (refine Moves.mid (t := x) ?_ (fun hx => ?_) <;> [dsimp +zetaDelta only; clear_value x]) | clear_value x)
    | (lift_lets; intro x; first | (refine Moves.mid (t := x) ?_ (fun hx => ?_) <;> [dsimp +zetaDelta only; clear_value x]) | clear_value x)
    | split | ((with_reducible apply Moves.foldl) <;> try intro _ _)

theorem settleMember_moves (s : State) (r : ℕ) (i : ℕ) (hk : km &&& 0xFFFFFFFF7FFFFF = km) (hs : Moves km s0 s) :
    Moves km s0 (settleMember s r i) := by
  refine Moves.comp (k1 := 0xFFFFFFFF7FFFFF) ?_ hk hs
  unfold settleMember
  repeat' first
    | with_reducible apply Moves.refl | decide | with_reducible apply State.modRail_moves

theorem restartWatch_moves (s : State) (r : ℕ) (hk : km &&& 0xFFFFFFFF7FFFFF = km) (hs : Moves km s0 s) :
    Moves km s0 (restartWatch s r) := by
  refine Moves.comp (k1 := 0xFFFFFFFF7FFFFF) ?_ hk hs
  unfold restartWatch
  repeat' first
    | with_reducible apply Moves.refl | decide | with_reducible apply State.modRail_moves

theorem shedAll_moves (s : State) (r : ℕ) (hk : km &&& 0xFFFFFFFF7FFFFB = km) (hs : Moves km s0 s) :
    Moves km s0 (shedAll s r) := by
  refine Moves.comp (k1 := 0xFFFFFFFF7FFFFB) ?_ hk hs
  unfold shedAll
  repeat' first
    | with_reducible apply Moves.refl | decide | with_reducible apply State.modRail_moves | with_reducible apply State.put_moves
    | ((with_reducible apply Moves.foldl) <;> try intro _ _)

theorem stopRail_moves (s : State) (r : ℕ) (hk : km &&& 0xFFBFFFFF3FFFFB = km) (hs : Moves km s0 s) :
    Moves km s0 (stopRail s r) := by
  refine Moves.comp (k1 := 0xFFBFFFFF3FFFFB) ?_ hk hs
  unfold stopRail
  repeat' first
    | with_reducible apply Moves.refl | with_reducible assumption | decide | with_reducible apply shedAll_moves
    | with_reducible apply restartWatch_moves | with_reducible apply settleMember_moves | with_reducible apply setGrant_moves
    | with_reducible apply setPark_moves | with_reducible apply State.modRail_moves | with_reducible apply State.putN_moves
    | with_reducible apply State.put_moves
    | (intro x; first | (refine Moves.mid (t := x) ?_ (fun hx => ?_) <;> [dsimp +zetaDelta only; clear_value x]) | clear_value x)
    | (lift_lets; intro x; first | (refine Moves.mid (t := x) ?_ (fun hx => ?_) <;> [dsimp +zetaDelta only; clear_value x]) | clear_value x)
    | split | ((with_reducible apply Moves.foldl) <;> try intro _ _)

theorem railFlag_moves (s : State) (r : ℕ) (mask : ℕ) (hk : km &&& 0xFFBFFFFFFFFFFB = km) (hs : Moves km s0 s) :
    Moves km s0 (railFlag s r mask) := by
  refine Moves.comp (k1 := 0xFFBFFFFFFFFFFB) ?_ hk hs
  unfold railFlag
  repeat' first
    | with_reducible apply Moves.refl | decide | with_reducible apply State.setBits_moves

theorem windStep_moves (s : State) (r : ℕ) (hk : km &&& 0xFFBFFFFF3FFFFB = km) (hs : Moves km s0 s) :
    Moves km s0 (windStep s r) := by
  refine Moves.comp (k1 := 0xFFBFFFFF3FFFFB) ?_ hk hs
  unfold windStep
  repeat' first
    | with_reducible apply Moves.refl | decide | with_reducible apply railFlag_moves | with_reducible apply stopRail_moves
    | with_reducible apply enterUnit_moves | split

theorem formCentres_moves (s : State) (r : ℕ) (hk : km &&& 0xFFBFFFFF7FFFFB = km) (hs : Moves km s0 s) :
    Moves km s0 (formCentres s r) := by
  refine Moves.comp (k1 := 0xFFBFFFFF7FFFFB) ?_ hk hs
  unfold formCentres
  repeat' first
    | with_reducible apply Moves.refl | decide | with_reducible apply State.putI_moves | with_reducible apply railFlag_moves
    | with_reducible apply State.modRail_moves | with_reducible apply State.bump_moves | split
    | ((with_reducible apply Moves.foldl) <;> try intro _ _)

theorem settleReg_moves (s : State) (r : ℕ) (hk : km &&& 0xFFFFFFFF7FFFFF = km) (hs : Moves km s0 s) :
    Moves km s0 (settleReg s r) := by
  refine Moves.comp (k1 := 0xFFFFFFFF7FFFFF) ?_ hk hs
  unfold settleReg
  repeat' first
    | with_reducible apply Moves.refl | decide | with_reducible apply State.modRail_moves

theorem recallUnit_moves (s : State) (r : ℕ) (u : ℕ) (hk : km &&& 0xFFBFFFFF3FFFFB = km) (hs : Moves km s0 s) :
    Moves km s0 (recallUnit s r u) := by
  refine Moves.comp (k1 := 0xFFBFFFFF3FFFFB) ?_ hk hs
  unfold recallUnit
  repeat' first
    | with_reducible apply Moves.refl | decide | with_reducible apply enterUnit_moves | with_reducible apply setUnitWeight_moves
    | with_reducible apply State.bump_moves | split

theorem recallDetector_moves (s : State) (r : ℕ) (hk : km &&& 0xFFBFFFFF3FFFFB = km) (hs : Moves km s0 s) :
    Moves km s0 (recallDetector s r) := by
  refine Moves.comp (k1 := 0xFFBFFFFF3FFFFB) ?_ hk hs
  unfold recallDetector
  repeat' first
    | with_reducible apply Moves.refl | with_reducible assumption | decide | with_reducible apply recallUnit_moves
    | with_reducible apply railFlag_moves | with_reducible apply State.modRail_moves | with_reducible apply State.bump_moves
    | (intro x; first | (refine Moves.mid (t := x) ?_ (fun hx => ?_) <;> [dsimp +zetaDelta only; clear_value x]) | clear_value x)
    | (lift_lets; intro x; first | (refine Moves.mid (t := x) ?_ (fun hx => ?_) <;> [dsimp +zetaDelta only; clear_value x]) | clear_value x)
    | split | ((with_reducible apply Moves.foldl) <;> try intro _ _)

theorem holdLoad_moves (s : State) (r : ℕ) (hk : km &&& 0xFFFFFFFFFFFFFB = km) (hs : Moves km s0 s) :
    Moves km s0 (holdLoad s r) := by
  refine Moves.comp (k1 := 0xFFFFFFFFFFFFFB) ?_ hk hs
  unfold holdLoad
  repeat' first
    | with_reducible apply Moves.refl | decide | with_reducible apply State.putN_moves

theorem settleLost_moves (s : State) (r : ℕ) (hk : km &&& 0xFFFFFFFF7FFFFF = km) (hs : Moves km s0 s) :
    Moves km s0 (settleLost s r) := by
  refine Moves.comp (k1 := 0xFFFFFFFF7FFFFF) ?_ hk hs
  unfold settleLost
  repeat' first
    | with_reducible apply Moves.refl | decide | with_reducible apply State.modRail_moves

theorem qualify_moves (s : State) (r : ℕ) (causes : List ℕ) (hk : km &&& 0xFFBFFFFF7FFF7B = km) (hs : Moves km s0 s) :
    Moves km s0 (qualify s r causes) := by
  refine Moves.comp (k1 := 0xFFBFFFFF7FFF7B) ?_ hk hs
  unfold qualify
  repeat' first
    | with_reducible apply Moves.refl | with_reducible assumption | decide | with_reducible apply State.modRail_moves
    | with_reducible apply State.report_moves | with_reducible apply State.setBits_moves | with_reducible apply State.bump_moves
    | with_reducible apply State.putN_moves | with_reducible apply State.put_moves
    | (lift_lets; intro x; first | (refine Moves.mid (t := x) ?_ (fun hx => ?_) <;> [dsimp +zetaDelta only; clear_value x]) | clear_value x)
    | split | ((with_reducible apply Moves.foldl) <;> try intro _ _)

theorem fewCheck_moves (s : State) (r : ℕ) (hk : km &&& 0xFFBFFFFF7FFF7B = km) (hs : Moves km s0 s) :
    Moves km s0 (fewCheck s r) := by
  refine Moves.comp (k1 := 0xFFBFFFFF7FFF7B) ?_ hk hs
  unfold fewCheck
  repeat' first
    | with_reducible apply Moves.refl | with_reducible assumption | decide | with_reducible apply qualify_moves
    | with_reducible apply State.modRail_moves
    | (intro x; first | (refine Moves.mid (t := x) ?_ (fun hx => ?_) <;> [dsimp +zetaDelta only; clear_value x]) | clear_value x)
    | (lift_lets; intro x; first | (refine Moves.mid (t := x) ?_ (fun hx => ?_) <;> [dsimp +zetaDelta only; clear_value x]) | clear_value x)
    | split

theorem formTotals_moves (s : State) (r : ℕ) (hk : km &&& 0xFFBFFFFD7FFF7B = km) (hs : Moves km s0 s) :
    Moves km s0 (formTotals s r) := by
  refine Moves.comp (k1 := 0xFFBFFFFD7FFF7B) ?_ hk hs
  unfold formTotals
  repeat' first
    | with_reducible apply Moves.refl | with_reducible assumption | decide | with_reducible apply State.putI_moves
    | with_reducible apply State.modRail_moves | with_reducible apply State.report_moves | with_reducible apply State.setBits_moves
    | with_reducible apply State.bump_moves
    | (lift_lets; intro x; first | (refine Moves.mid (t := x) ?_ (fun hx => ?_) <;> [dsimp +zetaDelta only; clear_value x]) | clear_value x)
    | split | ((with_reducible apply Moves.foldl) <;> try intro _ _) | with_reducible apply Moves.of_chg

theorem settleSlow_moves (s : State) (r : ℕ) (hk : km &&& 0xFFFFFFFF7FFFFF = km) (hs : Moves km s0 s) :
    Moves km s0 (settleSlow s r) := by
  refine Moves.comp (k1 := 0xFFFFFFFF7FFFFF) ?_ hk hs
  unfold settleSlow
  repeat' first
    | with_reducible apply Moves.refl | decide | with_reducible apply State.modRail_moves

theorem completeUnit_moves (s : State) (r : ℕ) (u : ℕ) (hk : km &&& 0xFFBFFFFF3FFFFB = km) (hs : Moves km s0 s) :
    Moves km s0 (completeUnit s r u) := by
  refine Moves.comp (k1 := 0xFFBFFFFF3FFFFB) ?_ hk hs
  unfold completeUnit
  repeat' first
    | with_reducible apply Moves.refl | decide | with_reducible apply railFlag_moves | with_reducible apply enterUnit_moves
    | with_reducible apply setUnitPark_moves
    | (lift_lets; intro x; first | (refine Moves.mid (t := x) ?_ (fun hx => ?_) <;> [dsimp +zetaDelta only; clear_value x]) | clear_value x)
    | split

theorem completeUnits_moves (s : State) (r : ℕ) (hk : km &&& 0xFFBFFFFF3FFFFB = km) (hs : Moves km s0 s) :
    Moves km s0 (completeUnits s r) := by
  refine Moves.comp (k1 := 0xFFBFFFFF3FFFFB) ?_ hk hs
  unfold completeUnits
  repeat' first
    | with_reducible apply Moves.refl | decide | with_reducible apply completeUnit_moves
    | ((with_reducible apply Moves.foldl) <;> try intro _ _)

theorem dropUnavailable_moves (s : State) (r : ℕ) (hk : km &&& 0xFFBFFFFF3FFFFB = km) (hs : Moves km s0 s) :
    Moves km s0 (dropUnavailable s r) := by
  refine Moves.comp (k1 := 0xFFBFFFFF3FFFFB) ?_ hk hs
  unfold dropUnavailable
  repeat' first
    | with_reducible apply Moves.refl | decide | with_reducible apply railFlag_moves | with_reducible apply enterUnit_moves
    | with_reducible apply State.modRail_moves | split | ((with_reducible apply Moves.foldl) <;> try intro _ _)

theorem respace_moves (s : State) (r : ℕ) (hk : km &&& 0xFFBFFFFFBFFFFB = km) (hs : Moves km s0 s) :
    Moves km s0 (respace s r) := by
  refine Moves.comp (k1 := 0xFFBFFFFFBFFFFB) ?_ hk hs
  unfold respace
  repeat' first
    | with_reducible apply Moves.refl | decide | with_reducible apply setSlot_moves
    | (intro x; first | (refine Moves.mid (t := x) ?_ (fun hx => ?_) <;> [dsimp +zetaDelta only; clear_value x]) | clear_value x)
    | (lift_lets; intro x; first | (refine Moves.mid (t := x) ?_ (fun hx => ?_) <;> [dsimp +zetaDelta only; clear_value x]) | clear_value x)
    | split | ((with_reducible apply Moves.foldl) <;> try intro _ _)

theorem settleRail_moves (s : State) (r : ℕ) (hk : km &&& 0xFFBFFFFD3FFF7B = km) (hs : Moves km s0 s) :
    Moves km s0 (settleRail s r) := by
  refine Moves.comp (k1 := 0xFFBFFFFD3FFF7B) ?_ hk hs
  unfold settleRail
  repeat' first
    | with_reducible apply Moves.refl | with_reducible assumption | decide | with_reducible apply respace_moves
    | with_reducible apply dropUnavailable_moves | with_reducible apply completeUnits_moves | with_reducible apply settleSlow_moves
    | with_reducible apply formTotals_moves | with_reducible apply fewCheck_moves | with_reducible apply settleLost_moves
    | with_reducible apply holdLoad_moves | with_reducible apply recallDetector_moves | with_reducible apply settleReg_moves
    | with_reducible apply formCentres_moves | with_reducible apply windStep_moves | with_reducible apply settleMember_moves
    | (lift_lets; intro x; first | (refine Moves.mid (t := x) ?_ (fun hx => ?_) <;> [dsimp +zetaDelta only; clear_value x]) | clear_value x)
    | split | ((with_reducible apply Moves.foldl) <;> try intro _ _)

theorem settleRails_moves (s : State) (hk : km &&& 0xFFBFFFFD3FFF7B = km) (hs : Moves km s0 s) :
    Moves km s0 (settleRails s) := by
  refine Moves.comp (k1 := 0xFFBFFFFD3FFF7B) ?_ hk hs
  unfold settleRails
  repeat' first
    | with_reducible apply Moves.refl | decide | with_reducible apply settleRail_moves | split
    | ((with_reducible apply Moves.foldl) <;> try intro _ _)

theorem restartSearch_moves (s : State) (hk : km &&& 0xFFFFFFFDFFFFFB = km) (hs : Moves km s0 s) :
    Moves km s0 (restartSearch s) := by
  refine Moves.comp (k1 := 0xFFFFFFFDFFFFFB) ?_ hk hs
  unfold restartSearch
  repeat' first
    | with_reducible apply Moves.refl | with_reducible assumption | decide | with_reducible apply State.putN_moves
    | with_reducible apply State.put_moves
    | (intro x; first | (refine Moves.mid (t := x) ?_ (fun hx => ?_) <;> [dsimp +zetaDelta only; clear_value x]) | clear_value x)
    | (lift_lets; intro x; first | (refine Moves.mid (t := x) ?_ (fun hx => ?_) <;> [dsimp +zetaDelta only; clear_value x]) | clear_value x)
    | split | with_reducible apply Moves.of_chg

theorem startRail_moves (s : State) (r : ℕ) (hk : km &&& 0xFFBFFFFD3FFF7B = km) (hs : Moves km s0 s) :
    Moves km s0 (startRail s r) := by
  refine Moves.comp (k1 := 0xFFBFFFFD3FFF7B) ?_ hk hs
  unfold startRail
  repeat' first
    | with_reducible apply Moves.refl | decide | with_reducible apply restartSearch_moves | with_reducible apply settleRail_moves
    | with_reducible apply respace_moves | with_reducible apply recallUnit_moves | with_reducible apply shedAll_moves
    | with_reducible apply setGrant_moves | with_reducible apply setUnitPark_moves | with_reducible apply State.modRail_moves
    | with_reducible apply State.putN_moves | with_reducible apply State.put_moves | split
    | ((with_reducible apply Moves.foldl) <;> try intro _ _)

theorem tryStart_moves (s : State) (r : ℕ) (hk : km &&& 0xFFBFFFFD3FFF7B = km) (hs : Moves km s0 s) :
    Moves km s0 (tryStart s r).2 := by
  refine Moves.comp (k1 := 0xFFBFFFFD3FFF7B) ?_ hk hs
  unfold tryStart
  repeat' first
    | with_reducible apply Moves.refl | decide | with_reducible apply startRail_moves | with_reducible apply railFlag_moves
    | with_reducible apply State.putN_moves | split

theorem windRail_moves (s : State) (r : ℕ) (hk : km &&& 0xFFFFFFFF3FFFFB = km) (hs : Moves km s0 s) :
    Moves km s0 (windRail s r) := by
  refine Moves.comp (k1 := 0xFFFFFFFF3FFFFB) ?_ hk hs
  unfold windRail
  repeat' first
    | with_reducible apply Moves.refl | with_reducible assumption | decide | with_reducible apply enterUnit_moves
    | with_reducible apply State.modRail_moves | with_reducible apply State.putN_moves
    | (lift_lets; intro x; first | (refine Moves.mid (t := x) ?_ (fun hx => ?_) <;> [dsimp +zetaDelta only; clear_value x]) | clear_value x)
    | split | ((with_reducible apply Moves.foldl) <;> try intro _ _)

theorem swapBank_moves (s : State) (f : ℕ) (hk : km &&& 0xFFBFFFFFFFFFFB = km) (hs : Moves km s0 s) :
    Moves km s0 (swapBank s f) := by
  refine Moves.comp (k1 := 0xFFBFFFFFFFFFFB) ?_ hk hs
  unfold swapBank
  repeat' first
    | with_reducible apply Moves.refl | decide | with_reducible apply State.bump_moves | with_reducible apply State.putN_moves
    | with_reducible apply State.put_moves

theorem railTick_moves (s : State) (r : ℕ) (hk : km &&& 0xFFFFFFFFFFFFFB = km) (hs : Moves km s0 s) :
    Moves km s0 (railTick s r) := by
  refine Moves.comp (k1 := 0xFFFFFFFFFFFFFB) ?_ hk hs
  unfold railTick
  repeat' first
    | with_reducible apply Moves.refl | decide | with_reducible apply State.putN_moves | split

theorem deliverTable_moves (s : State) (f : ℕ) (r : ℕ) (a1 : Word) (hk : km &&& 0xFFFFFFFF7FFFFF = km) (hs : Moves km s0 s) :
    Moves km s0 (deliverTable s f r a1) := by
  refine Moves.comp (k1 := 0xFFFFFFFF7FFFFF) ?_ hk hs
  unfold deliverTable
  repeat' first
    | with_reducible apply Moves.refl | decide | with_reducible apply State.modRail_moves | split
    | ((with_reducible apply Moves.foldl) <;> try intro _ _)

theorem sampleTable_moves (s : State) (f : ℕ) (a1 : Word) (hk : km &&& 0xFFBFFFFF7FFFFB = km) (hs : Moves km s0 s) :
    Moves km s0 (sampleTable s f a1) := by
  refine Moves.comp (k1 := 0xFFBFFFFF7FFFFB) ?_ hk hs
  unfold sampleTable
  repeat' first
    | with_reducible apply Moves.refl | with_reducible assumption | decide | with_reducible apply deliverTable_moves
    | with_reducible apply swapBank_moves | with_reducible apply State.bump_moves | with_reducible apply State.put_moves
    | (intro x; first | (refine Moves.mid (t := x) ?_ (fun hx => ?_) <;> [dsimp +zetaDelta only; clear_value x]) | clear_value x)
    | (lift_lets; intro x; first | (refine Moves.mid (t := x) ?_ (fun hx => ?_) <;> [dsimp +zetaDelta only; clear_value x]) | clear_value x)
    | split | ((with_reducible apply Moves.foldl) <;> try intro _ _)

theorem applyDemand_moves (s : State) (r : ℕ) (hk : km &&& 0xFFBFFFFF7FFFFB = km) (hs : Moves km s0 s) :
    Moves km s0 (applyDemand s r) := by
  refine Moves.comp (k1 := 0xFFBFFFFF7FFFFB) ?_ hk hs
  unfold applyDemand
  repeat' first
    | with_reducible apply Moves.refl | with_reducible assumption | decide | with_reducible apply State.putI_moves
    | with_reducible apply railFlag_moves | with_reducible apply State.modRail_moves | with_reducible apply State.bump_moves
    | (intro x; first | (refine Moves.mid (t := x) ?_ (fun hx => ?_) <;> [dsimp +zetaDelta only; clear_value x]) | clear_value x)
    | (lift_lets; intro x; first | (refine Moves.mid (t := x) ?_ (fun hx => ?_) <;> [dsimp +zetaDelta only; clear_value x]) | clear_value x)
    | split | ((with_reducible apply Moves.foldl) <;> try intro _ _)

theorem railAction_moves (s : State) (r : ℕ) (action : ℕ) (hk : km &&& 0xFFBFFFFF3FFF7B = km) (hs : Moves km s0 s) :
    Moves km s0 (railAction s r action) := by
  refine Moves.comp (k1 := 0xFFBFFFFF3FFF7B) ?_ hk hs
  unfold railAction
  repeat' first
    | with_reducible apply Moves.refl | with_reducible assumption | decide | with_reducible apply takeOwner_moves
    | with_reducible apply windRail_moves | with_reducible apply stopRail_moves
    | (lift_lets; intro x; first | (refine Moves.mid (t := x) ?_ (fun hx => ?_) <;> [dsimp +zetaDelta only; clear_value x]) | clear_value x)
    | split | ((with_reducible apply Moves.foldl) <;> try intro _ _)

theorem commitEnd_moves (s : State) (r : ℕ) (hk : km &&& 0xFFBFFFFF7FFFFB = km) (hs : Moves km s0 s) :
    Moves km s0 (commitEnd s r) := by
  refine Moves.comp (k1 := 0xFFBFFFFF7FFFFB) ?_ hk hs
  unfold commitEnd
  repeat' first
    | with_reducible apply Moves.refl | decide | with_reducible apply State.modRail_moves | with_reducible apply State.bump_moves | split

theorem railBegin_moves (s : State) (r : ℕ) (hk : km &&& 0xFFBFFFFF3FFF7B = km) (hs : Moves km s0 s) :
    Moves km s0 (railBegin s r) := by
  refine Moves.comp (k1 := 0xFFBFFFFF3FFF7B) ?_ hk hs
  unfold railBegin
  repeat' first
    | with_reducible apply Moves.refl | with_reducible assumption | decide | with_reducible apply railAction_moves
    | with_reducible apply enforceVerdict_moves | with_reducible apply applyDemand_moves | with_reducible apply State.modRail_moves
    | (intro x; first | (refine Moves.mid (t := x) ?_ (fun hx => ?_) <;> [dsimp +zetaDelta only; clear_value x]) | clear_value x)
    | (lift_lets; intro x; first | (refine Moves.mid (t := x) ?_ (fun hx => ?_) <;> [dsimp +zetaDelta only; clear_value x]) | clear_value x)
    | split | ((with_reducible apply Moves.foldl) <;> try intro _ _)

theorem railsBegin_moves (s : State) (hk : km &&& 0xFFBFFFFF3FFF7B = km) (hs : Moves km s0 s) :
    Moves km s0 (railsBegin s) := by
  refine Moves.comp (k1 := 0xFFBFFFFF3FFF7B) ?_ hk hs
  unfold railsBegin
  repeat' first
    | with_reducible apply Moves.refl | decide | with_reducible apply railBegin_moves
    | ((with_reducible apply Moves.foldl) <;> try intro _ _)

theorem railsEnd_moves (s : State) (hk : km &&& 0xFFBFFFFF7FFFFB = km) (hs : Moves km s0 s) :
    Moves km s0 (railsEnd s) := by
  refine Moves.comp (k1 := 0xFFBFFFFF7FFFFB) ?_ hk hs
  unfold railsEnd
  repeat' first
    | with_reducible apply Moves.refl | decide | with_reducible apply commitEnd_moves
    | ((with_reducible apply Moves.foldl) <;> try intro _ _)

theorem openTerm_moves (s : State) (hk : km &&& 0xFFFFFFFFFFFFEF = km) (hs : Moves km s0 s) :
    Moves km s0 (openTerm s).2 := by
  refine Moves.comp (k1 := 0xFFFFFFFFFFFFEF) ?_ hk hs
  unfold openTerm
  repeat' first
    | with_reducible apply Moves.refl | decide | with_reducible apply Moves.of_free

theorem State.modIndicator_moves (s : State) (i : Nat) (f : Indicator → Indicator) (hk : km &&& 0xFFEFFFFFFFFFFF = km) (hs : Moves km s0 s) :
    Moves km s0 (s.modIndicator i f) :=
  Moves.of_life s _ (modAt_length _ _ _) hk hs

theorem showWear_moves (s : State) (x1 : ℕ) (wear : ℕ) (hk : km &&& 0xFFEFFFFFFFFFFB = km) (hs : Moves km s0 s) :
    Moves km s0 (showWear s x1 wear) := by
  refine Moves.comp (k1 := 0xFFEFFFFFFFFFFB) ?_ hk hs
  unfold showWear
  repeat' first
    | with_reducible apply Moves.refl | decide | with_reducible apply State.modIndicator_moves | with_reducible apply State.putN_moves

theorem lifeThresholds_moves (s : State) (x1 : ℕ) (hk : km &&& 0xFFBFFFFFFFFF7B = km) (hs : Moves km s0 s) :
    Moves km s0 (lifeThresholds s x1) := by
  refine Moves.comp (k1 := 0xFFBFFFFFFFFF7B) ?_ hk hs
  unfold lifeThresholds
  repeat' first
    | with_reducible apply Moves.refl | with_reducible assumption | decide | with_reducible apply State.report_moves
    | with_reducible apply State.setBits_moves | with_reducible apply State.put_moves
    | (intro x; first | (refine Moves.mid (t := x) ?_ (fun hx => ?_) <;> [dsimp +zetaDelta only; clear_value x]) | clear_value x)
    | (lift_lets; intro x; first | (refine Moves.mid (t := x) ?_ (fun hx => ?_) <;> [dsimp +zetaDelta only; clear_value x]) | clear_value x)
    | split

theorem addWear_moves (s : State) (x1 : ℕ) (x : ℕ) (hk : km &&& 0xFFAFFFFFFFFF7B = km) (hs : Moves km s0 s) :
    Moves km s0 (addWear s x1 x) := by
  refine Moves.comp (k1 := 0xFFAFFFFFFFFF7B) ?_ hk hs
  unfold addWear
  repeat' first
    | with_reducible apply Moves.refl | decide | with_reducible apply lifeThresholds_moves | with_reducible apply showWear_moves

theorem nearTerm_moves (s : State) (x : ℕ) (hk : km &&& 0xFFFFFFFFFFFFEF = km) (hs : Moves km s0 s) :
    Moves km s0 (nearTerm s x).2 := by
  refine Moves.comp (k1 := 0xFFFFFFFFFFFFEF) ?_ hk hs
  unfold nearTerm
  repeat' first
    | with_reducible apply Moves.refl | decide | with_reducible apply State.freshWord_moves

theorem contactorWear_moves (s : State) (x1 : ℕ) (hk : km &&& 0xFFAFFFFFFFFF6B = km) (hs : Moves km s0 s) :
    Moves km s0 (contactorWear s x1) := by
  refine Moves.comp (k1 := 0xFFAFFFFFFFFF6B) ?_ hk hs
  unfold contactorWear
  repeat' first
    | with_reducible apply Moves.refl | decide | with_reducible apply nearTerm_moves | with_reducible apply addWear_moves
    | with_reducible apply openTerm_moves
    | (intro x; first | (refine Moves.mid (t := x) ?_ (fun hx => ?_) <;> [dsimp +zetaDelta only; clear_value x]) | clear_value x)
    | (lift_lets; intro x; first | (refine Moves.mid (t := x) ?_ (fun hx => ?_) <;> [dsimp +zetaDelta only; clear_value x]) | clear_value x)
    | split

theorem contactorOps_moves (s : State) (source : ℕ) (hk : km &&& 0xFFAFFFFFFFFF6B = km) (hs : Moves km s0 s) :
    Moves km s0 (contactorOps s source) := by
  refine Moves.comp (k1 := 0xFFAFFFFFFFFF6B) ?_ hk hs
  unfold contactorOps
  repeat' first
    | with_reducible apply Moves.refl | decide | with_reducible apply contactorWear_moves | split
    | ((with_reducible apply Moves.foldl) <;> try intro _ _)

theorem noPrediction_moves (s : State) (x1 : ℕ) (hk : km &&& 0xFFBFFFFFFFFFFB = km) (hs : Moves km s0 s) :
    Moves km s0 (noPrediction s x1) := by
  refine Moves.comp (k1 := 0xFFBFFFFFFFFFFB) ?_ hk hs
  unfold noPrediction
  repeat' first
    | with_reducible apply Moves.refl | decide | with_reducible apply State.clrBits_moves | with_reducible apply State.put_moves

theorem clearRing_moves (s : State) (x1 : ℕ) (hk : km &&& 0xFFAFFFFFFFFFFB = km) (hs : Moves km s0 s) :
    Moves km s0 (clearRing s x1) := by
  refine Moves.comp (k1 := 0xFFAFFFFFFFFFFB) ?_ hk hs
  unfold clearRing
  repeat' first
    | with_reducible apply Moves.refl | with_reducible assumption | decide | with_reducible apply noPrediction_moves
    | with_reducible apply State.modIndicator_moves
    | (lift_lets; intro x; first | (refine Moves.mid (t := x) ?_ (fun hx => ?_) <;> [dsimp +zetaDelta only; clear_value x]) | clear_value x)
    | split

theorem clearRings_moves (s : State) (c : ℕ → Bool) (hk : km &&& 0xFFAFFFFFFFFFFB = km) (hs : Moves km s0 s) :
    Moves km s0 (clearRings s c) := by
  refine Moves.comp (k1 := 0xFFAFFFFFFFFFFB) ?_ hk hs
  unfold clearRings
  repeat' first
    | with_reducible apply Moves.refl | decide | with_reducible apply clearRing_moves | split
    | ((with_reducible apply Moves.foldl) <;> try intro _ _)

theorem switchSettle_moves (s : State) (hk : km &&& 0xFFAFFFFBFFFF6B = km) (hs : Moves km s0 s) :
    Moves km s0 (switchSettle s) := by
  refine Moves.comp (k1 := 0xFFAFFFFBFFFF6B) ?_ hk hs
  unfold switchSettle
  repeat' first
    | with_reducible apply Moves.refl | with_reducible assumption | decide | with_reducible apply contactorOps_moves
    | with_reducible apply State.bump_moves | with_reducible apply State.putN_moves
    | (lift_lets; intro x; first | (refine Moves.mid (t := x) ?_ (fun hx => ?_) <;> [dsimp +zetaDelta only; clear_value x]) | clear_value x)
    | split | with_reducible apply Moves.of_aon

theorem pathTo_moves (s : State) (st : ℕ) (hk : km &&& 0xFFFFFFFDFFFFFB = km) (hs : Moves km s0 s) :
    Moves km s0 (pathTo s st) := by
  refine Moves.comp (k1 := 0xFFFFFFFDFFFFFB) ?_ hk hs
  unfold pathTo
  repeat' first
    | with_reducible apply Moves.refl | with_reducible assumption | decide | with_reducible apply State.putN_moves
    | (lift_lets; intro x; first | (refine Moves.mid (t := x) ?_ (fun hx => ?_) <;> [dsimp +zetaDelta only; clear_value x]) | clear_value x)
    | with_reducible apply Moves.of_chg

theorem pathLine_moves (s : State) (hk : km &&& 0xFFBFFFFDFFFFFB = km) (hs : Moves km s0 s) :
    Moves km s0 (pathLine s) := by
  refine Moves.comp (k1 := 0xFFBFFFFDFFFFFB) ?_ hk hs
  unfold pathLine
  repeat' first
    | with_reducible apply Moves.refl | decide | with_reducible apply pathTo_moves | with_reducible apply State.clrBits_moves
    | with_reducible apply State.setBits_moves

theorem pathRestart_moves (s : State) (hk : km &&& 0xFFBFFFFDFFFF7B = km) (hs : Moves km s0 s) :
    Moves km s0 (pathRestart s) := by
  refine Moves.comp (k1 := 0xFFBFFFFDFFFF7B) ?_ hk hs
  unfold pathRestart
  repeat' first
    | with_reducible apply Moves.refl | with_reducible assumption | decide | with_reducible apply pathTo_moves
    | with_reducible apply State.report_moves | with_reducible apply State.setBits_moves | with_reducible apply State.bump_moves
    | (intro x; first | (refine Moves.mid (t := x) ?_ (fun hx => ?_) <;> [dsimp +zetaDelta only; clear_value x]) | clear_value x)
    | (lift_lets; intro x; first | (refine Moves.mid (t := x) ?_ (fun hx => ?_) <;> [dsimp +zetaDelta only; clear_value x]) | clear_value x)
    | split | with_reducible apply Moves.of_chg

theorem noteBound_moves (s : State) (hk : km &&& 0xFFFFFFFDFFFFFF = km) (hs : Moves km s0 s) :
    Moves km s0 (noteBound s) := by
  refine Moves.comp (k1 := 0xFFFFFFFDFFFFFF) ?_ hk hs
  unfold noteBound
  repeat' first
    | with_reducible apply Moves.refl | decide
    | (lift_lets; intro x; first | (refine Moves.mid (t := x) ?_ (fun hx => ?_) <;> [dsimp +zetaDelta only; clear_value x]) | clear_value x)
    | with_reducible apply Moves.of_chg

theorem pathSettle_moves (s : State) (hk : km &&& 0xFFBFFFFDFFFF7B = km) (hs : Moves km s0 s) :
    Moves km s0 (pathSettle s) := by
  refine Moves.comp (k1 := 0xFFBFFFFDFFFF7B) ?_ hk hs
  unfold pathSettle
  repeat' first
    | with_reducible apply Moves.refl | with_reducible assumption | decide | with_reducible apply noteBound_moves
    | with_reducible apply pathRestart_moves | with_reducible apply pathLine_moves
    | (intro x; first | (refine Moves.mid (t := x) ?_ (fun hx => ?_) <;> [dsimp +zetaDelta only; clear_value x]) | clear_value x)
    | (lift_lets; intro x; first | (refine Moves.mid (t := x) ?_ (fun hx => ?_) <;> [dsimp +zetaDelta only; clear_value x]) | clear_value x)
    | split | with_reducible apply Moves.of_chg

theorem settleAll_moves (s : State) (hk : km &&& 0xFFAFFFF93FFF6B = km) (hs : Moves km s0 s) :
    Moves km s0 (settleAll s) := by
  refine Moves.comp (k1 := 0xFFAFFFF93FFF6B) ?_ hk hs
  unfold settleAll
  repeat' first
    | with_reducible apply Moves.refl | decide | with_reducible apply pathSettle_moves | with_reducible apply switchSettle_moves
    | with_reducible apply settleRails_moves | split

theorem setReason_moves (s : State) (mask : ℕ) (hk : km &&& 0xFFBFFFFFFFFFFB = km) (hs : Moves km s0 s) :
    Moves km s0 (setReason s mask) := by
  refine Moves.comp (k1 := 0xFFBFFFFFFFFFFB) ?_ hk hs
  unfold setReason
  repeat' first
    | with_reducible apply Moves.refl | decide | with_reducible apply State.setBits_moves

theorem toStage_moves (s : State) (st : ℕ) (hk : km &&& 0xFFBFFFFDFFFFFB = km) (hs : Moves km s0 s) :
    Moves km s0 (toStage s st) := by
  refine Moves.comp (k1 := 0xFFBFFFFDFFFFFB) ?_ hk hs
  unfold toStage
  repeat' first
    | with_reducible apply Moves.refl | with_reducible assumption | decide | with_reducible apply State.setBits_moves
    | with_reducible apply State.bump_moves | with_reducible apply State.putN_moves
    | (lift_lets; intro x; first | (refine Moves.mid (t := x) ?_ (fun hx => ?_) <;> [dsimp +zetaDelta only; clear_value x]) | clear_value x)
    | with_reducible apply Moves.of_chg

theorem chargeTick_moves (s : State) (hk : km &&& 0xFFFFFFFDFFFFFF = km) (hs : Moves km s0 s) :
    Moves km s0 (chargeTick s) := by
  refine Moves.comp (k1 := 0xFFFFFFFDFFFFFF) ?_ hk hs
  unfold chargeTick
  repeat' first
    | with_reducible apply Moves.refl | decide
    | (intro x; first | (refine Moves.mid (t := x) ?_ (fun hx => ?_) <;> [dsimp +zetaDelta only; clear_value x]) | clear_value x)
    | (lift_lets; intro x; first | (refine Moves.mid (t := x) ?_ (fun hx => ?_) <;> [dsimp +zetaDelta only; clear_value x]) | clear_value x)
    | split | with_reducible apply Moves.of_chg

theorem chargeFault_moves (s : State) (cause : ℕ) (hk : km &&& 0xFFBFFFFDFFFF7B = km) (hs : Moves km s0 s) :
    Moves km s0 (chargeFault s cause) := by
  refine Moves.comp (k1 := 0xFFBFFFFDFFFF7B) ?_ hk hs
  unfold chargeFault
  repeat' first
    | with_reducible apply Moves.refl | decide | with_reducible apply toStage_moves | with_reducible apply State.report_moves
    | with_reducible apply State.setBits_moves | with_reducible apply State.putN_moves | split

theorem zeroChargeTime_moves (s : State) (hk : km &&& 0xFFFFFFFDFFFFFF = km) (hs : Moves km s0 s) :
    Moves km s0 (zeroChargeTime s) := by
  refine Moves.comp (k1 := 0xFFFFFFFDFFFFFF) ?_ hk hs
  unfold zeroChargeTime
  repeat' first
    | with_reducible apply Moves.refl | decide
    | (lift_lets; intro x; first | (refine Moves.mid (t := x) ?_ (fun hx => ?_) <;> [dsimp +zetaDelta only; clear_value x]) | clear_value x)
    | with_reducible apply Moves.of_chg

theorem afterQualify.freshCharge_moves (s : State) (hk : km &&& 0xFFBFFFFDFFFFFB = km) (hs : Moves km s0 s) :
    Moves km s0 (afterQualify.freshCharge s) := by
  refine Moves.comp (k1 := 0xFFBFFFFDFFFFFB) ?_ hk hs
  unfold afterQualify.freshCharge
  repeat' first
    | with_reducible apply Moves.refl | decide | with_reducible apply zeroChargeTime_moves | with_reducible apply toStage_moves

theorem afterQualify_moves (s : State) (hk : km &&& 0xFFBFFFFDFFFFFB = km) (hs : Moves km s0 s) :
    Moves km s0 (afterQualify s) := by
  refine Moves.comp (k1 := 0xFFBFFFFDFFFFFB) ?_ hk hs
  unfold afterQualify
  repeat' first
    | with_reducible apply Moves.refl | with_reducible assumption | decide | with_reducible apply afterQualify.freshCharge_moves
    | with_reducible apply toStage_moves
    | (intro x; first | (refine Moves.mid (t := x) ?_ (fun hx => ?_) <;> [dsimp +zetaDelta only; clear_value x]) | clear_value x)
    | (lift_lets; intro x; first | (refine Moves.mid (t := x) ?_ (fun hx => ?_) <;> [dsimp +zetaDelta only; clear_value x]) | clear_value x)
    | split | with_reducible apply Moves.of_chg

theorem chargeIdle_moves (s : State) (hk : km &&& 0xFFBFFFFDFFFFFB = km) (hs : Moves km s0 s) :
    Moves km s0 (chargeIdle s) := by
  refine Moves.comp (k1 := 0xFFBFFFFDFFFFFB) ?_ hk hs
  unfold chargeIdle
  repeat' first
    | with_reducible apply Moves.refl | with_reducible assumption | decide | with_reducible apply toStage_moves
    | (intro x; first | (refine Moves.mid (t := x) ?_ (fun hx => ?_) <;> [dsimp +zetaDelta only; clear_value x]) | clear_value x)
    | (lift_lets; intro x; first | (refine Moves.mid (t := x) ?_ (fun hx => ?_) <;> [dsimp +zetaDelta only; clear_value x]) | clear_value x)
    | split | with_reducible apply Moves.of_chg

theorem chargeAbsent_moves (s : State) (hk : km &&& 0xFFBFFFFDFFFF7B = km) (hs : Moves km s0 s) :
    Moves km s0 (chargeAbsent s) := by
  refine Moves.comp (k1 := 0xFFBFFFFDFFFF7B) ?_ hk hs
  unfold chargeAbsent
  repeat' first
    | with_reducible apply Moves.refl | with_reducible assumption | decide | with_reducible apply toStage_moves
    | with_reducible apply setReason_moves | with_reducible apply State.report_moves | with_reducible apply State.setBits_moves
    | with_reducible apply State.bump_moves
    | (lift_lets; intro x; first | (refine Moves.mid (t := x) ?_ (fun hx => ?_) <;> [dsimp +zetaDelta only; clear_value x]) | clear_value x)
    | split

theorem switchInit_moves (s : State) (hk : km &&& 0xFFFFFFFFFFFFFB = km) (hs : Moves km s0 s) :
    Moves km s0 (switchInit s) := by
  refine Moves.comp (k1 := 0xFFFFFFFFFFFFFB) ?_ hk hs
  unfold switchInit
  repeat' first
    | with_reducible apply Moves.refl | decide | with_reducible apply State.putN_moves | split

theorem refusedStart_moves (s : State) (hk : km &&& 0xFFBFFFFDFFFF7B = km) (hs : Moves km s0 s) :
    Moves km s0 (refusedStart s) := by
  refine Moves.comp (k1 := 0xFFBFFFFDFFFF7B) ?_ hk hs
  unfold refusedStart
  repeat' first
    | with_reducible apply Moves.refl | decide | with_reducible apply pathRestart_moves | split

theorem pathStop_moves (s : State) (r : ℕ) (hk : km &&& 0xFFBFFFFF3FFFFB = km) (hs : Moves km s0 s) :
    Moves km s0 (pathStop s r) := by
  refine Moves.comp (k1 := 0xFFBFFFFF3FFFFB) ?_ hk hs
  unfold pathStop
  repeat' first
    | with_reducible apply Moves.refl | decide | with_reducible apply stopRail_moves | split

theorem pathLose_moves (s : State) (hk : km &&& 0xFFBFFFFD3FFFFB = km) (hs : Moves km s0 s) :
    Moves km s0 (pathLose s) := by
  refine Moves.comp (k1 := 0xFFBFFFFD3FFFFB) ?_ hk hs
  unfold pathLose
  repeat' first
    | with_reducible apply Moves.refl | with_reducible assumption | decide | with_reducible apply pathStop_moves
    | with_reducible apply noteBound_moves | with_reducible apply pathTo_moves | with_reducible apply State.setBits_moves
    | (intro x; first | (refine Moves.mid (t := x) ?_ (fun hx => ?_) <;> [dsimp +zetaDelta only; clear_value x]) | clear_value x)
    | (lift_lets; intro x; first | (refine Moves.mid (t := x) ?_ (fun hx => ?_) <;> [dsimp +zetaDelta only; clear_value x]) | clear_value x)
    | split | with_reducible apply Moves.of_chg

theorem pathStart_moves (s : State) (hk : km &&& 0xFFBFFFFD3FFF7B = km) (hs : Moves km s0 s) :
    Moves km s0 (pathStart s) := by
  refine Moves.comp (k1 := 0xFFBFFFFD3FFF7B) ?_ hk hs
  unfold pathStart
  repeat' first
    | with_reducible apply Moves.refl | with_reducible assumption | decide | with_reducible apply refusedStart_moves
    | with_reducible apply tryStart_moves | with_reducible apply restartSearch_moves | with_reducible apply noteBound_moves
    | with_reducible apply pathTo_moves | with_reducible apply State.bump_moves | (with_reducible apply Moves.snd (by assumption))
    | (intro x; first | (refine Moves.mid (t := x) ?_ (fun hx => ?_) <;> [dsimp +zetaDelta only; clear_value x]) | clear_value x)
    | (lift_lets; intro x; first | (refine Moves.mid (t := x) ?_ (fun hx => ?_) <;> [dsimp +zetaDelta only; clear_value x]) | clear_value x)
    | split | with_reducible apply Moves.of_chg

theorem pathPrecision_moves (s : State) (c : ℕ) (hk : km &&& 0xFFFFFFFDFFFFFF = km) (hs : Moves km s0 s) :
    Moves km s0 (pathPrecision s c) := by
  refine Moves.comp (k1 := 0xFFFFFFFDFFFFFF) ?_ hk hs
  unfold pathPrecision
  repeat' first
    | with_reducible apply Moves.refl | decide
    | (intro x; first | (refine Moves.mid (t := x) ?_ (fun hx => ?_) <;> [dsimp +zetaDelta only; clear_value x]) | clear_value x)
    | (lift_lets; intro x; first | (refine Moves.mid (t := x) ?_ (fun hx => ?_) <;> [dsimp +zetaDelta only; clear_value x]) | clear_value x)
    | split | with_reducible apply Moves.of_chg

theorem sagCheck_moves (s : State) (c : ℕ) (hk : km &&& 0xFFBFFFFDFFFF7B = km) (hs : Moves km s0 s) :
    Moves km s0 (sagCheck s c) := by
  refine Moves.comp (k1 := 0xFFBFFFFDFFFF7B) ?_ hk hs
  unfold sagCheck
  repeat' first
    | with_reducible apply Moves.refl | with_reducible assumption | decide | with_reducible apply State.putI_moves
    | with_reducible apply State.report_moves | with_reducible apply State.bump_moves | with_reducible apply State.putN_moves
    | (intro x; first | (refine Moves.mid (t := x) ?_ (fun hx => ?_) <;> [dsimp +zetaDelta only; clear_value x]) | clear_value x)
    | (lift_lets; intro x; first | (refine Moves.mid (t := x) ?_ (fun hx => ?_) <;> [dsimp +zetaDelta only; clear_value x]) | clear_value x)
    | split | with_reducible apply Moves.of_chg

theorem endCommand_moves (s : State) (code : ℕ) (hk : km &&& 0xFFBFBFFFFFFF7B = km) (hs : Moves km s0 s) :
    Moves km s0 (endCommand s code) := by
  refine Moves.comp (k1 := 0xFFBFBFFFFFFF7B) ?_ hk hs
  unfold endCommand
  repeat' first
    | with_reducible apply Moves.refl | with_reducible assumption | decide | with_reducible apply State.report_moves
    | with_reducible apply State.bump_moves | with_reducible apply State.putN_moves
    | (lift_lets; intro x; first | (refine Moves.mid (t := x) ?_ (fun hx => ?_) <;> [dsimp +zetaDelta only; clear_value x]) | clear_value x)
    | split | with_reducible apply Moves.of_auth

theorem tellAbandoned_moves (s : State) (r : ℕ) (hk : km &&& 0xFFBFBFFFFFFF7B = km) (hs : Moves km s0 s) :
    Moves km s0 (tellAbandoned s r) := by
  refine Moves.comp (k1 := 0xFFBFBFFFFFFF7B) ?_ hk hs
  unfold tellAbandoned
  repeat' first
    | with_reducible apply Moves.refl | decide | with_reducible apply endCommand_moves | with_reducible apply State.bump_moves
    | with_reducible apply State.putN_moves | split

theorem setPending_moves (s : State) (r : ℕ) (x2 : Bool) (hk : km &&& 0xFFBFFFFFFFFFFB = km) (hs : Moves km s0 s) :
    Moves km s0 (setPending s r x2) := by
  refine Moves.comp (k1 := 0xFFBFFFFFFFFFFB) ?_ hk hs
  unfold setPending
  repeat' first
    | with_reducible apply Moves.refl | decide | with_reducible apply State.putBit_moves

theorem requestRecord_moves (s : State) (r : ℕ) (hk : km &&& 0xFFBFBFFFFFFF7B = km) (hs : Moves km s0 s) :
    Moves km s0 (requestRecord s r) := by
  refine Moves.comp (k1 := 0xFFBFBFFFFFFF7B) ?_ hk hs
  unfold requestRecord
  repeat' first
    | with_reducible apply Moves.refl | decide | with_reducible apply setPending_moves | with_reducible apply tellAbandoned_moves | split

theorem abandonRecord_moves (s : State) (r : ℕ) (hk : km &&& 0xFFBFBFFFFFFF7B = km) (hs : Moves km s0 s) :
    Moves km s0 (abandonRecord s r) := by
  refine Moves.comp (k1 := 0xFFBFBFFFFFFF7B) ?_ hk hs
  unfold abandonRecord
  repeat' first
    | with_reducible apply Moves.refl | decide | with_reducible apply setPending_moves | with_reducible apply tellAbandoned_moves | split

theorem addField_moves (s : State) (i : ℕ) (j : ℕ) (lo : ℕ) (x4 : ℕ) (hk : km &&& 0xFFBFFFFFFFFFFB = km) (hs : Moves km s0 s) :
    Moves km s0 (addField s i j lo x4) := by
  refine Moves.comp (k1 := 0xFFBFFFFFFFFFFB) ?_ hk hs
  unfold addField
  repeat' first
    | with_reducible apply Moves.refl | decide | with_reducible apply State.noteCount_moves | with_reducible apply State.putN_moves

theorem sendDrop_moves (s : State) (x1 : ℕ) (k : ℕ) (hk : km &&& 0xFFBFFFFFFFFFFB = km) (hs : Moves km s0 s) :
    Moves km s0 (sendDrop s x1 k) := by
  refine Moves.comp (k1 := 0xFFBFFFFFFFFFFB) ?_ hk hs
  unfold sendDrop
  repeat' first
    | with_reducible apply Moves.refl | decide | with_reducible apply addField_moves

theorem offerFrame_moves (s : State) (x1 : ℕ) (f : Frame) (hk : km &&& 0xFFBFF7FFFFFFFB = km) (hs : Moves km s0 s) :
    Moves km s0 (offerFrame s x1 f) := by
  refine Moves.comp (k1 := 0xFFBFF7FFFFFFFB) ?_ hk hs
  unfold offerFrame
  repeat' first
    | with_reducible apply Moves.refl | decide | with_reducible apply State.modCan_moves | with_reducible apply sendDrop_moves | split

theorem canIntegrate_moves (s : State) (x1 : ℕ) (hk : km &&& 0xFFFFF7FFFFFFFB = km) (hs : Moves km s0 s) :
    Moves km s0 (canIntegrate s x1) := by
  refine Moves.comp (k1 := 0xFFFFF7FFFFFFFB) ?_ hk hs
  unfold canIntegrate
  repeat' first
    | with_reducible apply Moves.refl | decide | with_reducible apply State.modCan_moves | with_reducible apply State.putN_moves

theorem canStart_moves (s : State) (x1 : ℕ) (hk : km &&& 0xFFFFF7FFFFFFFB = km) (hs : Moves km s0 s) :
    Moves km s0 (canStart s x1) := by
  refine Moves.comp (k1 := 0xFFFFF7FFFFFFFB) ?_ hk hs
  unfold canStart
  repeat' first
    | with_reducible apply Moves.refl | decide | with_reducible apply canIntegrate_moves | with_reducible apply State.putN_moves | split

theorem canStopped_moves (s : State) (x1 : ℕ) (hk : km &&& 0xFFFFF7FFFFFFFB = km) (hs : Moves km s0 s) :
    Moves km s0 (canStopped s x1) := by
  refine Moves.comp (k1 := 0xFFFFF7FFFFFFFB) ?_ hk hs
  unfold canStopped
  repeat' first
    | with_reducible apply Moves.refl | decide | with_reducible apply canStart_moves | with_reducible apply State.modCan_moves
    | with_reducible apply State.putN_moves

theorem canDisable_moves (s : State) (x1 : ℕ) (hk : km &&& 0xFFBFF7FFFFFFFB = km) (hs : Moves km s0 s) :
    Moves km s0 (canDisable s x1) := by
  refine Moves.comp (k1 := 0xFFBFF7FFFFFFFB) ?_ hk hs
  unfold canDisable
  repeat' first
    | with_reducible apply Moves.refl | with_reducible assumption | decide | with_reducible apply canStopped_moves
    | with_reducible apply State.modCan_moves | with_reducible apply sendDrop_moves | with_reducible apply State.putN_moves
    | (lift_lets; intro x; first | (refine Moves.mid (t := x) ?_ (fun hx => ?_) <;> [dsimp +zetaDelta only; clear_value x]) | clear_value x)
    | split

theorem setNmt_moves (s : State) (v : ℕ) (hk : km &&& 0xFFBFFFFFFFFFFB = km) (hs : Moves km s0 s) :
    Moves km s0 (setNmt s v) := by
  refine Moves.comp (k1 := 0xFFBFFFFFFFFFFB) ?_ hk hs
  unfold setNmt
  repeat' first
    | with_reducible apply Moves.refl | decide | with_reducible apply State.setBits_moves | with_reducible apply State.putN_moves | split

theorem commError_moves (s : State) (hk : km &&& 0xFFBFFFFFFFFF7B = km) (hs : Moves km s0 s) :
    Moves km s0 (commError s) := by
  refine Moves.comp (k1 := 0xFFBFFFFFFFFF7B) ?_ hk hs
  unfold commError
  repeat' first
    | with_reducible apply Moves.refl | decide | with_reducible apply setNmt_moves | with_reducible apply State.report_moves | split

theorem busOff_moves (s : State) (x1 : ℕ) (hk : km &&& 0xFFBFF7FFFFFF7B = km) (hs : Moves km s0 s) :
    Moves km s0 (busOff s x1) := by
  refine Moves.comp (k1 := 0xFFBFF7FFFFFF7B) ?_ hk hs
  unfold busOff
  repeat' first
    | with_reducible apply Moves.refl | with_reducible assumption | decide | with_reducible apply commError_moves
    | with_reducible apply State.modCan_moves | with_reducible apply State.report_moves | with_reducible apply State.setBits_moves
    | with_reducible apply State.bump_moves | with_reducible apply State.putN_moves
    | (intro x; first | (refine Moves.mid (t := x) ?_ (fun hx => ?_) <;> [dsimp +zetaDelta only; clear_value x]) | clear_value x)
    | (lift_lets; intro x; first | (refine Moves.mid (t := x) ?_ (fun hx => ?_) <;> [dsimp +zetaDelta only; clear_value x]) | clear_value x)
    | split

theorem judgeErrors_moves (s : State) (x1 : ℕ) (hk : km &&& 0xFFBFE7FFFFFF6B = km) (hs : Moves km s0 s) :
    Moves km s0 (judgeErrors s x1) := by
  refine Moves.comp (k1 := 0xFFBFE7FFFFFF6B) ?_ hk hs
  unfold judgeErrors
  repeat' first
    | with_reducible apply Moves.refl | with_reducible assumption | decide | with_reducible apply agentEmcy_moves
    | with_reducible apply busOff_moves | with_reducible apply State.setBits_moves | with_reducible apply State.putN_moves
    | (intro x; first | (refine Moves.mid (t := x) ?_ (fun hx => ?_) <;> [dsimp +zetaDelta only; clear_value x]) | clear_value x)
    | (lift_lets; intro x; first | (refine Moves.mid (t := x) ?_ (fun hx => ?_) <;> [dsimp +zetaDelta only; clear_value x]) | clear_value x)
    | split

theorem sendBest_moves (s : State) (x1 : ℕ) (errs : ℕ) (hk : km &&& 0xFFBFE7FFFFFF6B = km) (hs : Moves km s0 s) :
    Moves km s0 (sendBest s x1 errs) := by
  refine Moves.comp (k1 := 0xFFBFE7FFFFFF6B) ?_ hk hs
  unfold sendBest
  repeat' first
    | with_reducible apply Moves.refl | with_reducible assumption | decide | with_reducible apply judgeErrors_moves
    | with_reducible apply State.sub_moves | with_reducible apply busOff_moves | with_reducible apply canStopped_moves
    | with_reducible apply State.modCan_moves | with_reducible apply sendDrop_moves | with_reducible apply addField_moves
    | with_reducible apply State.add_moves
    | (intro x; first | (refine Moves.mid (t := x) ?_ (fun hx => ?_) <;> [dsimp +zetaDelta only; clear_value x]) | clear_value x)
    | (lift_lets; intro x; first | (refine Moves.mid (t := x) ?_ (fun hx => ?_) <;> [dsimp +zetaDelta only; clear_value x]) | clear_value x)
    | split

theorem recAfter_moves (s : State) (x1 : ℕ) (hk : km &&& 0xFFFFFFFFFFFFEB = km) (hs : Moves km s0 s) :
    Moves km s0 (recAfter s x1) := by
  refine Moves.comp (k1 := 0xFFFFFFFFFFFFEB) ?_ hk hs
  unfold recAfter
  repeat' first
    | with_reducible apply Moves.refl | decide | with_reducible apply State.sub_moves | with_reducible apply State.freshByte_moves
    | with_reducible apply State.putN_moves
    | (lift_lets; intro x; first | (refine Moves.mid (t := x) ?_ (fun hx => ?_) <;> [dsimp +zetaDelta only; clear_value x]) | clear_value x)
    | split

theorem agentTake_moves (s : State) (f : Frame) (v : CanService) (hk : km &&& 0xFFFFEFFFFFFFFF = km) (hs : Moves km s0 s) :
    Moves km s0 (agentTake s f v) := by
  refine Moves.comp (k1 := 0xFFFFEFFFFFFFFF) ?_ hk hs
  unfold agentTake
  repeat' first
    | with_reducible apply Moves.refl | decide | with_reducible apply State.modAgent_moves | split

theorem agentConsume_moves (s : State) (x1 : ℕ) (f : Frame) (v : CanService) (hk : km &&& 0xFFBFEFFFFFFFFB = km) (hs : Moves km s0 s) :
    Moves km s0 (agentConsume s x1 f v) := by
  refine Moves.comp (k1 := 0xFFBFEFFFFFFFFB) ?_ hk hs
  unfold agentConsume
  repeat' first
    | with_reducible apply Moves.refl | decide | with_reducible apply agentTake_moves | with_reducible apply State.modAgent_moves
    | with_reducible apply State.bump_moves
    | (lift_lets; intro x; first | (refine Moves.mid (t := x) ?_ (fun hx => ?_) <;> [dsimp +zetaDelta only; clear_value x]) | clear_value x)
    | split

theorem receiveDrop_moves (s : State) (x1 : ℕ) (hk : km &&& 0xFFBFFFFFFFFFFB = km) (hs : Moves km s0 s) :
    Moves km s0 (receiveDrop s x1) := by
  refine Moves.comp (k1 := 0xFFBFFFFFFFFFFB) ?_ hk hs
  unfold receiveDrop
  repeat' first
    | with_reducible apply Moves.refl | decide | with_reducible apply addField_moves | with_reducible apply State.setBits_moves

theorem postRaw_moves (s : State) (x1 : ℕ) (f : Frame) (hk : km &&& 0xFFBFFFFFFFFEFB = km) (hs : Moves km s0 s) :
    Moves km s0 (postRaw s x1 f) := by
  refine Moves.comp (k1 := 0xFFBFFFFFFFFEFB) ?_ hk hs
  unfold postRaw
  repeat' first
    | with_reducible apply Moves.refl | decide | with_reducible apply receiveDrop_moves
    | (intro x; first | (refine Moves.mid (t := x) ?_ (fun hx => ?_) <;> [dsimp +zetaDelta only; clear_value x]) | clear_value x)
    | (lift_lets; intro x; first | (refine Moves.mid (t := x) ?_ (fun hx => ?_) <;> [dsimp +zetaDelta only; clear_value x]) | clear_value x)
    | split | with_reducible apply Moves.of_postNet

theorem bulkConsume_moves (s : State) (x1 : ℕ) (f : Frame) (hk : km &&& 0xFFBFDFFFFFFEFB = km) (hs : Moves km s0 s) :
    Moves km s0 (bulkConsume s x1 f) := by
  refine Moves.comp (k1 := 0xFFBFDFFFFFFEFB) ?_ hk hs
  unfold bulkConsume
  repeat' first
    | with_reducible apply Moves.refl | decide | with_reducible apply postRaw_moves
    | (lift_lets; intro x; first | (refine Moves.mid (t := x) ?_ (fun hx => ?_) <;> [dsimp +zetaDelta only; clear_value x]) | clear_value x)
    | split | with_reducible apply Moves.of_bulk

theorem receiveFrame_moves (s : State) (x1 : ℕ) (f : Frame) (errs : ℕ) (hk : km &&& 0xFFBFC7FFFFFE6B = km) (hs : Moves km s0 s) :
    Moves km s0 (receiveFrame s x1 f errs) := by
  refine Moves.comp (k1 := 0xFFBFC7FFFFFE6B) ?_ hk hs
  unfold receiveFrame
  repeat' first
    | with_reducible apply Moves.refl | with_reducible assumption | decide | with_reducible apply bulkConsume_moves
    | with_reducible apply postRaw_moves | with_reducible apply agentConsume_moves | with_reducible apply recAfter_moves
    | with_reducible apply judgeErrors_moves | with_reducible apply canIntegrate_moves | with_reducible apply State.modCan_moves
    | with_reducible apply addField_moves | with_reducible apply State.setBits_moves | with_reducible apply State.bump_moves
    | with_reducible apply State.add_moves
    | (intro x; first | (refine Moves.mid (t := x) ?_ (fun hx => ?_) <;> [dsimp +zetaDelta only; clear_value x]) | clear_value x)
    | (lift_lets; intro x; first | (refine Moves.mid (t := x) ?_ (fun hx => ?_) <;> [dsimp +zetaDelta only; clear_value x]) | clear_value x)
    | split

theorem agentSend_moves (s : State) (f : Frame) (hk : km &&& 0xFFBFF7FFFFFFFB = km) (hs : Moves km s0 s) :
    Moves km s0 (agentSend s f) := by
  refine Moves.comp (k1 := 0xFFBFF7FFFFFFFB) ?_ hk hs
  unfold agentSend
  repeat' first
    | with_reducible apply Moves.refl | decide | with_reducible apply offerFrame_moves
    | ((with_reducible apply Moves.foldl) <;> try intro _ _)

theorem nodeCobs_moves (s : State) (hk : km &&& 0xFFFFFFFFFFFFFB = km) (hs : Moves km s0 s) :
    Moves km s0 (nodeCobs s) := by
  refine Moves.comp (k1 := 0xFFFFFFFFFFFFFB) ?_ hk hs
  unfold nodeCobs
  repeat' first
    | with_reducible apply Moves.refl | with_reducible assumption | decide | with_reducible apply State.putN_moves
    | (intro x; first | (refine Moves.mid (t := x) ?_ (fun hx => ?_) <;> [dsimp +zetaDelta only; clear_value x]) | clear_value x)
    | (lift_lets; intro x; first | (refine Moves.mid (t := x) ?_ (fun hx => ?_) <;> [dsimp +zetaDelta only; clear_value x]) | clear_value x)
    | ((with_reducible apply Moves.foldl) <;> try intro _ _)

theorem loadComm_moves (s : State) (hk : km &&& 0xFFFFFFFFFFFFFB = km) (hs : Moves km s0 s) :
    Moves km s0 (loadComm s) := by
  refine Moves.comp (k1 := 0xFFFFFFFFFFFFFB) ?_ hk hs
  unfold loadComm
  repeat' first
    | with_reducible apply Moves.refl | with_reducible assumption | decide | with_reducible apply nodeCobs_moves
    | with_reducible apply State.put_moves
    | (lift_lets; intro x; first | (refine Moves.mid (t := x) ?_ (fun hx => ?_) <;> [dsimp +zetaDelta only; clear_value x]) | clear_value x)
    | split | ((with_reducible apply Moves.foldl) <;> try intro _ _) | with_reducible apply Moves.of_od
    | exact fun h => Sparse.wf_filter _ _ _ h

theorem freshAgent_moves (s : State) (hk : km &&& 0xFFFFEFFFFFFFFF = km) (hs : Moves km s0 s) :
    Moves km s0 (freshAgent s) := by
  refine Moves.comp (k1 := 0xFFFFEFFFFFFFFF) ?_ hk hs
  unfold freshAgent
  repeat' first
    | with_reducible apply Moves.refl | decide | with_reducible apply State.modAgent_moves

theorem resetCommunication_moves (s : State) (hk : km &&& 0xFFBFE7FFFFFFFB = km) (hs : Moves km s0 s) :
    Moves km s0 (resetCommunication s) := by
  refine Moves.comp (k1 := 0xFFBFE7FFFFFFFB) ?_ hk hs
  unfold resetCommunication
  repeat' first
    | with_reducible apply Moves.refl | with_reducible assumption | decide | with_reducible apply freshAgent_moves
    | with_reducible apply loadComm_moves | with_reducible apply agentSend_moves | with_reducible apply setNmt_moves
    | with_reducible apply State.put_moves
    | (lift_lets; intro x; first | (refine Moves.mid (t := x) ?_ (fun hx => ?_) <;> [dsimp +zetaDelta only; clear_value x]) | clear_value x)
    | split

theorem agentStart_moves (s : State) (hk : km &&& 0xFFBFE7FFFFFFFB = km) (hs : Moves km s0 s) :
    Moves km s0 (agentStart s) := by
  refine Moves.comp (k1 := 0xFFBFE7FFFFFFFB) ?_ hk hs
  unfold agentStart
  repeat' first
    | with_reducible apply Moves.refl | decide | with_reducible apply resetCommunication_moves | split

theorem pathPop_moves (s : State) (q : ℕ) (hk : km &&& 0xFFBFFFFFFFFFFB = km) (hs : Moves km s0 s) :
    Moves km s0 (pathPop s q).2 := by
  refine Moves.comp (k1 := 0xFFBFFFFFFFFFFB) ?_ hk hs
  unfold pathPop
  repeat' first
    | with_reducible apply Moves.refl | decide | with_reducible apply queuePop_moves
    | (lift_lets; intro x; first | (refine Moves.mid (t := x) ?_ (fun hx => ?_) <;> [dsimp +zetaDelta only; clear_value x]) | clear_value x)
    | with_reducible apply Moves.of_cyc

theorem popRaw_moves (s : State) (x1 : ℕ) (hk : km &&& 0xFFBFF7FFFFFFFB = km) (hs : Moves km s0 s) :
    Moves km s0 (popRaw s x1) := by
  refine Moves.comp (k1 := 0xFFBFF7FFFFFFFB) ?_ hk hs
  unfold popRaw
  repeat' first
    | with_reducible apply Moves.refl | decide | with_reducible apply pathPop_moves | with_reducible apply offerFrame_moves
    | with_reducible apply State.modCan_moves | with_reducible apply sendDrop_moves
    | (lift_lets; intro x; first | (refine Moves.mid (t := x) ?_ (fun hx => ?_) <;> [dsimp +zetaDelta only; clear_value x]) | clear_value x)
    | split | (dsimp only)

theorem canClockStop_moves (s : State) (hk : km &&& 0xFFFFEFFFFFFFFF = km) (hs : Moves km s0 s) :
    Moves km s0 (canClockStop s) := by
  refine Moves.comp (k1 := 0xFFFFEFFFFFFFFF) ?_ hk hs
  unfold canClockStop
  repeat' first
    | with_reducible apply Moves.refl | decide | with_reducible apply State.modAgent_moves

theorem canClockStart_moves (s : State) (hk : km &&& 0xFFFFE7FFFFFFFB = km) (hs : Moves km s0 s) :
    Moves km s0 (canClockStart s) := by
  refine Moves.comp (k1 := 0xFFFFE7FFFFFFFB) ?_ hk hs
  unfold canClockStart
  repeat' first
    | with_reducible apply Moves.refl | with_reducible assumption | decide | with_reducible apply State.modAgent_moves
    | with_reducible apply canIntegrate_moves
    | (intro x; first | (refine Moves.mid (t := x) ?_ (fun hx => ?_) <;> [dsimp +zetaDelta only; clear_value x]) | clear_value x)
    | (lift_lets; intro x; first | (refine Moves.mid (t := x) ?_ (fun hx => ?_) <;> [dsimp +zetaDelta only; clear_value x]) | clear_value x)
    | split | ((with_reducible apply Moves.foldl) <;> try intro _ _)

theorem bulkStartEff_moves (w' : Wr) (b' : Bool) (s' : State) (hk : km &&& 0xFFFFDFFFFFFFFB = km) (hs : Moves km s0 s') :
    Moves km s0 (bulkStartEff  w' b' s').2 := by
  refine Moves.comp (k1 := 0xFFFFDFFFFFFFFB) ?_ hk hs
  unfold bulkStartEff
  repeat' first
    | with_reducible apply Moves.refl | with_reducible assumption | decide | with_reducible apply rej_moves | with_reducible apply acc_moves
    | with_reducible apply State.putN_moves | with_reducible apply State.put_moves
    | (intro x; first | (refine Moves.mid (t := x) ?_ (fun hx => ?_) <;> [dsimp +zetaDelta only; clear_value x]) | clear_value x)
    | (lift_lets; intro x; first | (refine Moves.mid (t := x) ?_ (fun hx => ?_) <;> [dsimp +zetaDelta only; clear_value x]) | clear_value x)
    | split | with_reducible apply Moves.of_bulk

theorem bulkPlainEff_moves (j : ℕ) (w' : Wr) (b' : Bool) (s' : State) (hk : km &&& 0xFFFFFFFFFFFFFB = km) (hs : Moves km s0 s') :
    Moves km s0 (bulkPlainEff j w' b' s').2 := by
  refine Moves.comp (k1 := 0xFFFFFFFFFFFFFB) ?_ hk hs
  unfold bulkPlainEff
  repeat' first
    | with_reducible apply Moves.refl | decide | with_reducible apply plainWrite_moves | with_reducible apply rej_moves | split

theorem bulkSend_moves (s : State) (type : ℕ) (seq : ℕ) (data : List Byte) (hk : km &&& 0xFFBFF7FFFFFFFB = km) (hs : Moves km s0 s) :
    Moves km s0 (bulkSend s type seq data) := by
  refine Moves.comp (k1 := 0xFFBFF7FFFFFFFB) ?_ hk hs
  unfold bulkSend
  repeat' first
    | with_reducible apply Moves.refl | decide | with_reducible apply offerFrame_moves

theorem State.modBulk_moves (s : State) (f : BulkSession → BulkSession) (hk : km &&& 0xFFFFDFFFFFFFFF = km) (hs : Moves km s0 s) :
    Moves km s0 (s.modBulk f) :=
  Moves.of_bulk s _  hk hs

theorem bulkEnd_moves (s : State) (result : ℕ) (hk : km &&& 0xFFFFDFFFFFFFFB = km) (hs : Moves km s0 s) :
    Moves km s0 (bulkEnd s result) := by
  refine Moves.comp (k1 := 0xFFFFDFFFFFFFFB) ?_ hk hs
  unfold bulkEnd
  repeat' first
    | with_reducible apply Moves.refl | decide | with_reducible apply State.modBulk_moves | with_reducible apply State.putN_moves

theorem bulkAbortEff_moves (w' : Wr) (b' : Bool) (s' : State) (hk : km &&& 0xFFBFD7FFFFFFFB = km) (hs : Moves km s0 s') :
    Moves km s0 (bulkAbortEff  w' b' s').2 := by
  refine Moves.comp (k1 := 0xFFBFD7FFFFFFFB) ?_ hk hs
  unfold bulkAbortEff
  repeat' first
    | with_reducible apply Moves.refl | decide | with_reducible apply bulkEnd_moves | with_reducible apply bulkSend_moves
    | with_reducible apply acc_moves | split

theorem canPlainEff_moves (x0 : ℕ) (j : ℕ) (w' : Wr) (b' : Bool) (s' : State) (hk : km &&& 0xFFFFFFFFFFFFFB = km) (hs : Moves km s0 s') :
    Moves km s0 (canPlainEff x0 j w' b' s').2 := by
  refine Moves.comp (k1 := 0xFFFFFFFFFFFFFB) ?_ hk hs
  unfold canPlainEff
  repeat' first
    | with_reducible apply Moves.refl | decide | with_reducible apply plainWrite_moves | with_reducible apply rej_moves | split

theorem canEnableEff_moves (x0 : ℕ) (w' : Wr) (b' : Bool) (s' : State) (hk : km &&& 0xFFBFF7FFFFFFFB = km) (hs : Moves km s0 s') :
    Moves km s0 (canEnableEff x0 w' b' s').2 := by
  refine Moves.comp (k1 := 0xFFBFF7FFFFFFFB) ?_ hk hs
  unfold canEnableEff
  repeat' first
    | with_reducible apply Moves.refl | decide | with_reducible apply canDisable_moves | with_reducible apply canStart_moves
    | with_reducible apply rej_moves | with_reducible apply acc_moves | with_reducible apply State.putN_moves | split

theorem mapEff_moves (i : ℕ) (j : ℕ) (w' : Wr) (b' : Bool) (s' : State) (hk : km &&& 0xFFFFFFFFFFFFFB = km) (hs : Moves km s0 s') :
    Moves km s0 (mapEff i j w' b' s').2 := by
  refine Moves.comp (k1 := 0xFFFFFFFFFFFFFB) ?_ hk hs
  unfold mapEff
  repeat' first
    | with_reducible apply Moves.refl | decide | with_reducible apply plainWrite_moves | with_reducible apply rej_moves | split

theorem restoreEff_moves (w' : Wr) (b' : Bool) (s' : State) (hk : km &&& 0xFFBFAFFFFFFF7B = km) (hs : Moves km s0 s') :
    Moves km s0 (restoreEff  w' b' s').2 := by
  refine Moves.comp (k1 := 0xFFBFAFFFFFFF7B) ?_ hk hs
  unfold restoreEff
  repeat' first
    | with_reducible apply Moves.refl | decide | with_reducible apply State.modAgent_moves | with_reducible apply requestRecord_moves
    | with_reducible apply rej_moves | with_reducible apply acc_moves | split

theorem errorListEff_moves (w' : Wr) (b' : Bool) (s' : State) (hk : km &&& 0xFFFFFFFFFFFFFB = km) (hs : Moves km s0 s') :
    Moves km s0 (errorListEff  w' b' s').2 := by
  refine Moves.comp (k1 := 0xFFFFFFFFFFFFFB) ?_ hk hs
  unfold errorListEff
  repeat' first
    | with_reducible apply Moves.refl | decide | with_reducible apply acc_moves | with_reducible apply State.putN_moves
    | ((with_reducible apply Moves.foldl) <;> try intro _ _)

theorem storeEff_moves (w' : Wr) (b' : Bool) (s' : State) (hk : km &&& 0xFFBFAFFFFFFF7B = km) (hs : Moves km s0 s') :
    Moves km s0 (storeEff  w' b' s').2 := by
  refine Moves.comp (k1 := 0xFFBFAFFFFFFF7B) ?_ hk hs
  unfold storeEff
  repeat' first
    | with_reducible apply Moves.refl | decide | with_reducible apply State.modAgent_moves | with_reducible apply requestRecord_moves
    | with_reducible apply rej_moves | with_reducible apply acc_moves | split

theorem commEff_moves (i : ℕ) (j : ℕ) (w' : Wr) (b' : Bool) (s' : State) (hk : km &&& 0xFFBFAFFFFFFF7B = km) (hs : Moves km s0 s') :
    Moves km s0 (commEff i j w' b' s').2 := by
  refine Moves.comp (k1 := 0xFFBFAFFFFFFF7B) ?_ hk hs
  unfold commEff
  repeat' first
    | with_reducible apply Moves.refl | decide | with_reducible apply storeEff_moves | with_reducible apply errorListEff_moves
    | with_reducible apply restoreEff_moves | with_reducible apply State.modAgent_moves | with_reducible apply mapEff_moves
    | with_reducible apply plainWrite_moves | split

theorem execCanEnable_moves (x0 : Fin 2) (x1 : Wr) (s : State) (hk : km &&& 0xFFBFF7FFFFEF9B = km) (hs : Moves km s0 s) :
    Moves km s0 (Out.left s (execCanEnable x0 x1 s)) := by
  refine Moves.comp (k1 := 0xFFBFF7FFFFEF9B) ?_ hk hs
  unfold execCanEnable
  repeat' first
    | with_reducible apply Moves.refl | with_reducible assumption | decide | ((with_reducible apply accessWrite_moves) <;> try intro _ _ _)
    | with_reducible apply canEnableEff_moves | with_reducible apply Moves.next

theorem execCanFrameReceived_moves (x0 : Fin 2) (f : Frame) (errs : Fin 64) (s : State) (hk : km &&& 0xFFBFC7FFFFFE6B = km) (hs : Moves km s0 s) :
    Moves km s0 (Out.left s (execCanFrameReceived x0 f errs s)) := by
  refine Moves.comp (k1 := 0xFFBFC7FFFFFE6B) ?_ hk hs
  unfold execCanFrameReceived
  repeat' first
    | with_reducible apply Moves.refl | decide | with_reducible apply receiveFrame_moves | with_reducible apply Moves.when

theorem execBusIntegration_moves (x0 : Fin 2) (s : State) (hk : km &&& 0xFFBFE7FFFFFFFB = km) (hs : Moves km s0 s) :
    Moves km s0 (Out.left s (execBusIntegration x0 s)) := by
  refine Moves.comp (k1 := 0xFFBFE7FFFFFFFB) ?_ hk hs
  unfold execBusIntegration
  repeat' first
    | with_reducible apply Moves.refl | decide | with_reducible apply agentStart_moves | with_reducible apply State.putN_moves
    | with_reducible apply Moves.when

theorem execBusOffRecovery_moves (x0 : Fin 2) (s : State) (hk : km &&& 0xFFBFEFFFFFFFEB = km) (hs : Moves km s0 s) :
    Moves km s0 (Out.left s (execBusOffRecovery x0 s)) := by
  refine Moves.comp (k1 := 0xFFBFEFFFFFFFEB) ?_ hk hs
  unfold execBusOffRecovery
  repeat' first
    | with_reducible apply Moves.refl | decide | with_reducible apply agentEmcy_moves | with_reducible apply State.putN_moves
    | with_reducible apply Moves.when | split

theorem execRawFramePop_moves (x0 : Fin 2) (s : State) (hk : km &&& 0xFFBFF7FFFFFFFB = km) (hs : Moves km s0 s) :
    Moves km s0 (Out.left s (execRawFramePop x0 s)) := by
  refine Moves.comp (k1 := 0xFFBFF7FFFFFFFB) ?_ hk hs
  unfold execRawFramePop
  repeat' first
    | with_reducible apply Moves.refl | decide | with_reducible apply popRaw_moves | with_reducible apply Moves.next

theorem takeFrame_moves (s : State) (f : Frame) (hk : km &&& 0xFFFFEFFFFFFFFF = km) (hs : Moves km s0 s) :
    Moves km s0 (takeFrame s f) := by
  refine Moves.comp (k1 := 0xFFFFEFFFFFFFFF) ?_ hk hs
  unfold takeFrame
  repeat' first
    | with_reducible apply Moves.refl | decide | with_reducible apply State.modAgent_moves

theorem nmtCommand_moves (s : State) (f : Frame) (hk : km &&& 0xFFBFE7FFFFFFFB = km) (hs : Moves km s0 s) :
    Moves km s0 (nmtCommand s f) := by
  refine Moves.comp (k1 := 0xFFBFE7FFFFFFFB) ?_ hk hs
  unfold nmtCommand
  repeat' first
    | with_reducible apply Moves.refl | decide | with_reducible apply resetCommunication_moves | with_reducible apply setNmt_moves
    | with_reducible apply State.setBits_moves
    | (intro x; first | (refine Moves.mid (t := x) ?_ (fun hx => ?_) <;> [dsimp +zetaDelta only; clear_value x]) | clear_value x)
    | (lift_lets; intro x; first | (refine Moves.mid (t := x) ?_ (fun hx => ?_) <;> [dsimp +zetaDelta only; clear_value x]) | clear_value x)
    | split

theorem execNmtCommand_moves (s : State) (hk : km &&& 0xFFBFE7FFFFFFFB = km) (hs : Moves km s0 s) :
    Moves km s0 (Out.left s (execNmtCommand s)) := by
  refine Moves.comp (k1 := 0xFFBFE7FFFFFFFB) ?_ hk hs
  unfold execNmtCommand
  repeat' first
    | with_reducible apply Moves.refl | decide | with_reducible apply nmtCommand_moves | with_reducible apply takeFrame_moves
    | with_reducible apply Moves.next | split

theorem execHeartbeatProduce_moves (s : State) (hk : km &&& 0xFFBFE7FFFFFFFB = km) (hs : Moves km s0 s) :
    Moves km s0 (Out.left s (execHeartbeatProduce s)) := by
  refine Moves.comp (k1 := 0xFFBFE7FFFFFFFB) ?_ hk hs
  unfold execHeartbeatProduce
  repeat' first
    | with_reducible apply Moves.refl | decide | with_reducible apply agentSend_moves | with_reducible apply State.modAgent_moves
    | with_reducible apply Moves.when

theorem execHeartbeatTimeout_moves (k : Fin 4) (s : State) (hk : km &&& 0xFFBFEFFFFFFF6B = km) (hs : Moves km s0 s) :
    Moves km s0 (Out.left s (execHeartbeatTimeout k s)) := by
  refine Moves.comp (k1 := 0xFFBFEFFFFFFF6B) ?_ hk hs
  unfold execHeartbeatTimeout
  repeat' first
    | with_reducible apply Moves.refl | with_reducible assumption | decide | with_reducible apply agentEmcy_moves
    | with_reducible apply commError_moves | with_reducible apply State.modAgent_moves | with_reducible apply State.setBits_moves
    | with_reducible apply Moves.next | with_reducible apply Moves.when
    | (lift_lets; intro x; first | (refine Moves.mid (t := x) ?_ (fun hx => ?_) <;> [dsimp +zetaDelta only; clear_value x]) | clear_value x)
    | split

theorem execEmcySend_moves (s : State) (hk : km &&& 0xFFBFE7FFFFFFFB = km) (hs : Moves km s0 s) :
    Moves km s0 (Out.left s (execEmcySend s)) := by
  refine Moves.comp (k1 := 0xFFBFE7FFFFFFFB) ?_ hk hs
  unfold execEmcySend
  repeat' first
    | with_reducible apply Moves.refl | decide | with_reducible apply agentSend_moves | with_reducible apply State.modAgent_moves
    | with_reducible apply Moves.next | with_reducible apply Moves.when
    | (lift_lets; intro x; first | (refine Moves.mid (t := x) ?_ (fun hx => ?_) <;> [dsimp +zetaDelta only; clear_value x]) | clear_value x)
    | split

theorem execLineSwitchOver_moves (s : State) (hk : km &&& 0xFFBFEFFFFFFFEB = km) (hs : Moves km s0 s) :
    Moves km s0 (Out.left s (execLineSwitchOver s)) := by
  refine Moves.comp (k1 := 0xFFBFEFFFFFFFEB) ?_ hk hs
  unfold execLineSwitchOver
  repeat' first
    | with_reducible apply Moves.refl | decide | with_reducible apply agentEmcy_moves | with_reducible apply State.setBits_moves
    | with_reducible apply State.bump_moves | with_reducible apply State.putN_moves | with_reducible apply Moves.when

theorem modLss_moves (s : State) (f : Lss → Lss) (hk : km &&& 0xFFFFEFFFFFFFFF = km) (hs : Moves km s0 s) :
    Moves km s0 (modLss s f) := by
  refine Moves.comp (k1 := 0xFFFFEFFFFFFFFF) ?_ hk hs
  unfold modLss
  repeat' first
    | with_reducible apply Moves.refl | decide | with_reducible apply State.modAgent_moves

theorem lssReply_moves (s : State) (x1 : List ℕ) (hk : km &&& 0xFFBFF7FFFFFFFB = km) (hs : Moves km s0 s) :
    Moves km s0 (lssReply s x1) := by
  refine Moves.comp (k1 := 0xFFBFF7FFFFFFFB) ?_ hk hs
  unfold lssReply
  repeat' first
    | with_reducible apply Moves.refl | decide | with_reducible apply agentSend_moves

theorem serveLss_moves (s : State) (cs : List ℕ) (f : Frame → State → State) (hk : km &&& 0xFFFFEFFFFFFFFF = km) (hs : Moves km s0 s) (hf : ∀ x t, Moves km s0 t → Moves km s0 (f x t)) :
    Moves km s0 (Out.left s (serveLss s cs f)) := by
  unfold serveLss
  repeat' first
    | with_reducible assumption | (with_reducible apply hf) | with_reducible apply takeFrame_moves | with_reducible apply Moves.next | split

theorem execLssSwitchStateGlobal_moves (s : State) (hk : km &&& 0xFFBFE7FFFFFFFB = km) (hs : Moves km s0 s) :
    Moves km s0 (Out.left s (execLssSwitchStateGlobal s)) := by
  refine Moves.comp (k1 := 0xFFBFE7FFFFFFFB) ?_ hk hs
  unfold execLssSwitchStateGlobal
  repeat' first
    | with_reducible apply Moves.refl | with_reducible assumption | decide | ((with_reducible apply serveLss_moves) <;> try intro _ _ _)
    | with_reducible apply modLss_moves | with_reducible apply resetCommunication_moves
    | (lift_lets; intro x; first | (refine Moves.mid (t := x) ?_ (fun hx => ?_) <;> [dsimp +zetaDelta only; clear_value x]) | clear_value x)
    | split

theorem execLssSwitchStateSelective_moves (s : State) (hk : km &&& 0xFFBFE7FFFFFFFB = km) (hs : Moves km s0 s) :
    Moves km s0 (Out.left s (execLssSwitchStateSelective s)) := by
  refine Moves.comp (k1 := 0xFFBFE7FFFFFFFB) ?_ hk hs
  unfold execLssSwitchStateSelective
  repeat' first
    | with_reducible apply Moves.refl | with_reducible assumption | decide | ((with_reducible apply serveLss_moves) <;> try intro _ _ _)
    | with_reducible apply lssReply_moves | with_reducible apply modLss_moves
    | (intro x; first | (refine Moves.mid (t := x) ?_ (fun hx => ?_) <;> [dsimp +zetaDelta only; clear_value x]) | clear_value x)
    | (lift_lets; intro x; first | (refine Moves.mid (t := x) ?_ (fun hx => ?_) <;> [dsimp +zetaDelta only; clear_value x]) | clear_value x)
    | split

theorem execLssConfigureNodeId_moves (s : State) (hk : km &&& 0xFFBFE7FFFFFFFB = km) (hs : Moves km s0 s) :
    Moves km s0 (Out.left s (execLssConfigureNodeId s)) := by
  refine Moves.comp (k1 := 0xFFBFE7FFFFFFFB) ?_ hk hs
  unfold execLssConfigureNodeId
  repeat' first
    | with_reducible apply Moves.refl | with_reducible assumption | decide | ((with_reducible apply serveLss_moves) <;> try intro _ _ _)
    | with_reducible apply lssReply_moves | with_reducible apply State.putN_moves
    | (lift_lets; intro x; first | (refine Moves.mid (t := x) ?_ (fun hx => ?_) <;> [dsimp +zetaDelta only; clear_value x]) | clear_value x)
    | split

theorem execLssConfigureBitTiming_moves (s : State) (hk : km &&& 0xFFBFE7FFFFFFFB = km) (hs : Moves km s0 s) :
    Moves km s0 (Out.left s (execLssConfigureBitTiming s)) := by
  refine Moves.comp (k1 := 0xFFBFE7FFFFFFFB) ?_ hk hs
  unfold execLssConfigureBitTiming
  repeat' first
    | with_reducible apply Moves.refl | with_reducible assumption | decide | ((with_reducible apply serveLss_moves) <;> try intro _ _ _)
    | with_reducible apply lssReply_moves | with_reducible apply modLss_moves | split

theorem setBitTime_moves (s : State) (x1 : ℕ) (q : ℕ) (hk : km &&& 0xFFFFFFFFFFFFEB = km) (hs : Moves km s0 s) :
    Moves km s0 (setBitTime s x1 q) := by
  refine Moves.comp (k1 := 0xFFFFFFFFFFFFEB) ?_ hk hs
  unfold setBitTime
  repeat' first
    | with_reducible apply Moves.refl | decide | with_reducible apply State.freshWord_moves | with_reducible apply State.putN_moves

theorem execLssActivateBitTiming_moves (s : State) (hk : km &&& 0xFFFFE7FFFFFFEB = km) (hs : Moves km s0 s) :
    Moves km s0 (Out.left s (execLssActivateBitTiming s)) := by
  refine Moves.comp (k1 := 0xFFFFE7FFFFFFEB) ?_ hk hs
  unfold execLssActivateBitTiming
  repeat' first
    | with_reducible apply Moves.refl | with_reducible assumption | decide | with_reducible apply setBitTime_moves
    | ((with_reducible apply serveLss_moves) <;> try intro _ _ _) | with_reducible apply canIntegrate_moves
    | (lift_lets; intro x; first | (refine Moves.mid (t := x) ?_ (fun hx => ?_) <;> [dsimp +zetaDelta only; clear_value x]) | clear_value x)
    | split | ((with_reducible apply Moves.foldl) <;> try intro _ _)

theorem execLssStoreConfiguration_moves (s : State) (hk : km &&& 0xFFBFA7FFFFFF7B = km) (hs : Moves km s0 s) :
    Moves km s0 (Out.left s (execLssStoreConfiguration s)) := by
  refine Moves.comp (k1 := 0xFFBFA7FFFFFF7B) ?_ hk hs
  unfold execLssStoreConfiguration
  repeat' first
    | with_reducible apply Moves.refl | with_reducible assumption | decide | ((with_reducible apply serveLss_moves) <;> try intro _ _ _)
    | with_reducible apply lssReply_moves | with_reducible apply requestRecord_moves | split

theorem execLssInquire_moves (s : State) (hk : km &&& 0xFFBFE7FFFFFFFB = km) (hs : Moves km s0 s) :
    Moves km s0 (Out.left s (execLssInquire s)) := by
  refine Moves.comp (k1 := 0xFFBFE7FFFFFFFB) ?_ hk hs
  unfold execLssInquire
  repeat' first
    | with_reducible apply Moves.refl | with_reducible assumption | decide | ((with_reducible apply serveLss_moves) <;> try intro _ _ _)
    | with_reducible apply lssReply_moves
    | (intro x; first | (refine Moves.mid (t := x) ?_ (fun hx => ?_) <;> [dsimp +zetaDelta only; clear_value x]) | clear_value x)
    | (lift_lets; intro x; first | (refine Moves.mid (t := x) ?_ (fun hx => ?_) <;> [dsimp +zetaDelta only; clear_value x]) | clear_value x)
    | split

theorem execLssFastscan_moves (s : State) (hk : km &&& 0xFFBFE7FFFFFFFB = km) (hs : Moves km s0 s) :
    Moves km s0 (Out.left s (execLssFastscan s)) := by
  refine Moves.comp (k1 := 0xFFBFE7FFFFFFFB) ?_ hk hs
  unfold execLssFastscan
  repeat' first
    | with_reducible apply Moves.refl | with_reducible assumption | decide | ((with_reducible apply serveLss_moves) <;> try intro _ _ _)
    | with_reducible apply lssReply_moves | with_reducible apply modLss_moves
    | (intro x; first | (refine Moves.mid (t := x) ?_ (fun hx => ?_) <;> [dsimp +zetaDelta only; clear_value x]) | clear_value x)
    | (lift_lets; intro x; first | (refine Moves.mid (t := x) ?_ (fun hx => ?_) <;> [dsimp +zetaDelta only; clear_value x]) | clear_value x)
    | split

theorem execBulkAbort_moves (x0 : Wr) (s : State) (hk : km &&& 0xFFBFD7FFFFEF9B = km) (hs : Moves km s0 s) :
    Moves km s0 (Out.left s (execBulkAbort x0 s)) := by
  refine Moves.comp (k1 := 0xFFBFD7FFFFEF9B) ?_ hk hs
  unfold execBulkAbort
  repeat' first
    | with_reducible apply Moves.refl | with_reducible assumption | decide | ((with_reducible apply accessWrite_moves) <;> try intro _ _ _)
    | with_reducible apply bulkAbortEff_moves | with_reducible apply Moves.next

theorem submitEff_moves (w' : Wr) (b' : Bool) (s' : State) (hk : km &&& 0xFFBFBFFFFFFF7B = km) (hs : Moves km s0 s') :
    Moves km s0 (submitEff  w' b' s').2 := by
  refine Moves.comp (k1 := 0xFFBFBFFFFFFF7B) ?_ hk hs
  unfold submitEff
  repeat' first
    | with_reducible apply Moves.refl | with_reducible assumption | decide | with_reducible apply requestRecord_moves
    | with_reducible apply endCommand_moves | with_reducible apply rej_moves | with_reducible apply acc_moves
    | with_reducible apply State.putN_moves
    | (lift_lets; intro x; first | (refine Moves.mid (t := x) ?_ (fun hx => ?_) <;> [dsimp +zetaDelta only; clear_value x]) | clear_value x)
    | split | with_reducible apply Moves.of_auth

theorem execCommandSubmit_moves (x0 : Wr) (s : State) (hk : km &&& 0xFFBFBFFFFFEF1B = km) (hs : Moves km s0 s) :
    Moves km s0 (Out.left s (execCommandSubmit x0 s)) := by
  refine Moves.comp (k1 := 0xFFBFBFFFFFEF1B) ?_ hk hs
  unfold execCommandSubmit
  repeat' first
    | with_reducible apply Moves.refl | with_reducible assumption | decide | ((with_reducible apply accessWrite_moves) <;> try intro _ _ _)
    | with_reducible apply submitEff_moves | with_reducible apply Moves.next

theorem execAuthLockoutEnd_moves (s : State) (hk : km &&& 0xFFFFBFFFFFFFFF = km) (hs : Moves km s0 s) :
    Moves km s0 (Out.left s (execAuthLockoutEnd s)) := by
  refine Moves.comp (k1 := 0xFFFFBFFFFFFFFF) ?_ hk hs
  unfold execAuthLockoutEnd
  repeat' first
    | with_reducible apply Moves.refl | decide | with_reducible apply Moves.next | with_reducible apply Moves.when
    | (lift_lets; intro x; first | (refine Moves.mid (t := x) ?_ (fun hx => ?_) <;> [dsimp +zetaDelta only; clear_value x]) | clear_value x)
    | split | with_reducible apply Moves.of_auth

theorem counterStored_moves (s : State) (hk : km &&& 0xFFFFFFFFFFFFFB = km) (hs : Moves km s0 s) :
    Moves km s0 (counterStored s) := by
  refine Moves.comp (k1 := 0xFFFFFFFFFFFFFB) ?_ hk hs
  unfold counterStored
  repeat' first
    | with_reducible apply Moves.refl | decide | with_reducible apply State.putN_moves | with_reducible apply State.put_moves | split

theorem phasePlainEff_moves (p : ℕ) (j : ℕ) (w' : Wr) (b' : Bool) (s' : State) (hk : km &&& 0xFFFFFFFFBFFFFB = km) (hs : Moves km s0 s') :
    Moves km s0 (phasePlainEff p j w' b' s').2 := by
  refine Moves.comp (k1 := 0xFFFFFFFFBFFFFB) ?_ hk hs
  unfold phasePlainEff
  repeat' first
    | with_reducible apply Moves.refl | decide | with_reducible apply pilotLimit_moves | with_reducible apply State.modPhase_moves
    | with_reducible apply plainWrite_moves | with_reducible apply rej_moves | (with_reducible apply Moves.snd (by assumption))
    | (lift_lets; intro x; first | (refine Moves.mid (t := x) ?_ (fun hx => ?_) <;> [dsimp +zetaDelta only; clear_value x]) | clear_value x)
    | split | exact fun _ h => h

theorem manualEff_moves (p : ℕ) (w' : Wr) (b' : Bool) (s' : State) (hk : km &&& 0xFFFFFFFFBFFFFB = km) (hs : Moves km s0 s') :
    Moves km s0 (manualEff p w' b' s').2 := by
  refine Moves.comp (k1 := 0xFFFFFFFFBFFFFB) ?_ hk hs
  unfold manualEff
  repeat' first
    | with_reducible apply Moves.refl | with_reducible assumption | decide | with_reducible apply manualCommands_moves
    | with_reducible apply State.store_moves | with_reducible apply rej_moves | with_reducible apply acc_moves
    | (lift_lets; intro x; first | (refine Moves.mid (t := x) ?_ (fun hx => ?_) <;> [dsimp +zetaDelta only; clear_value x]) | clear_value x)
    | split

theorem rearmCommandEff_moves (p : ℕ) (w' : Wr) (b' : Bool) (s' : State) (hk : km &&& 0xFFAFFFF93FFF6B = km) (hs : Moves km s0 s') :
    Moves km s0 (rearmCommandEff p w' b' s').2 := by
  refine Moves.comp (k1 := 0xFFAFFFF93FFF6B) ?_ hk hs
  unfold rearmCommandEff
  repeat' first
    | with_reducible apply Moves.refl | decide | with_reducible apply clearPhaseRecord_moves | with_reducible apply resumePhase_moves
    | with_reducible apply settleAll_moves | with_reducible apply rej_moves | with_reducible apply acc_moves | split

theorem pilotEnableEff_moves (p : ℕ) (w' : Wr) (b' : Bool) (s' : State) (hk : km &&& 0xFFBFFFFFBFFFFB = km) (hs : Moves km s0 s') :
    Moves km s0 (pilotEnableEff p w' b' s').2 := by
  refine Moves.comp (k1 := 0xFFBFFFFFBFFFFB) ?_ hk hs
  unfold pilotEnableEff
  repeat' first
    | with_reducible apply Moves.refl | with_reducible assumption | decide | with_reducible apply pilotOff_moves
    | with_reducible apply pilotSettle_moves | with_reducible apply pilotTo_moves | with_reducible apply acc_moves
    | with_reducible apply State.put_moves
    | (lift_lets; intro x; first | (refine Moves.mid (t := x) ?_ (fun hx => ?_) <;> [dsimp +zetaDelta only; clear_value x]) | clear_value x)
    | split

theorem leaveDisabled_moves (s : State) (p : ℕ) (mode : ℕ) (hk : km &&& 0xFFBFFFFFBFFFFB = km) (hs : Moves km s0 s) :
    Moves km s0 (leaveDisabled s p mode) := by
  refine Moves.comp (k1 := 0xFFBFFFFFBFFFFB) ?_ hk hs
  unfold leaveDisabled
  repeat' first
    | with_reducible apply Moves.refl | decide | with_reducible apply latchIfLow_moves | with_reducible apply manualCommands_moves
    | with_reducible apply idleCheck_moves | with_reducible apply enterPhase_moves | with_reducible apply State.modPhase_moves
    | with_reducible apply State.putN_moves | split | exact fun _ h => h

theorem phaseModeEff_moves (p : ℕ) (w' : Wr) (b' : Bool) (s' : State) (hk : km &&& 0xFFAFFFF93FFF6B = km) (hs : Moves km s0 s') :
    Moves km s0 (phaseModeEff p w' b' s').2 := by
  refine Moves.comp (k1 := 0xFFAFFFF93FFF6B) ?_ hk hs
  unfold phaseModeEff
  repeat' first
    | with_reducible apply Moves.refl | decide | with_reducible apply leaveDisabled_moves | with_reducible apply disablePhase_moves
    | with_reducible apply settleAll_moves | with_reducible apply rej_moves | with_reducible apply acc_moves | split

theorem execPhasePark_moves (p : Fin 48) (s : State) (hk : km &&& 0xFFAFFFF93FFF6B = km) (hs : Moves km s0 s) :
    Moves km s0 (Out.left s (execPhasePark p s)) := by
  refine Moves.comp (k1 := 0xFFAFFFF93FFF6B) ?_ hk hs
  unfold execPhasePark
  repeat' first
    | with_reducible apply Moves.refl | decide | with_reducible apply settleAll_moves | with_reducible apply enterPhase_moves
    | with_reducible apply Moves.when

theorem execRearmCommand_moves (p : Fin 48) (x1 : Wr) (s : State) (hk : km &&& 0xFFAFFFF93FEF0B = km) (hs : Moves km s0 s) :
    Moves km s0 (Out.left s (execRearmCommand p x1 s)) := by
  refine Moves.comp (k1 := 0xFFAFFFF93FEF0B) ?_ hk hs
  unfold execRearmCommand
  repeat' first
    | with_reducible apply Moves.refl | with_reducible assumption | decide | ((with_reducible apply accessWrite_moves) <;> try intro _ _ _)
    | with_reducible apply rearmCommandEff_moves | with_reducible apply Moves.next

theorem execDeadTimeEnd_moves (p : Fin 48) (s : State) (hk : km &&& 0xFFFFFFFFBFFFFF = km) (hs : Moves km s0 s) :
    Moves km s0 (Out.left s (execDeadTimeEnd p s)) := by
  refine Moves.comp (k1 := 0xFFFFFFFFBFFFFF) ?_ hk hs
  unfold execDeadTimeEnd
  repeat' first
    | with_reducible apply Moves.refl | decide | with_reducible apply State.modPhase_moves_at
    | (intro hx; rename_i up _; cases up <;> simp_all [Phase.apart] <;> done) | with_reducible apply Moves.next
    | with_reducible apply Moves.when | split

theorem execGateRelease_moves (p : Fin 48) (s : State) (hk : km &&& 0xFFAFFFF93FFF6B = km) (hs : Moves km s0 s) :
    Moves km s0 (Out.left s (execGateRelease p s)) := by
  refine Moves.comp (k1 := 0xFFAFFFF93FFF6B) ?_ hk hs
  unfold execGateRelease
  repeat' first
    | with_reducible apply Moves.refl | decide | with_reducible apply settleAll_moves | with_reducible apply idleCheck_moves
    | with_reducible apply State.modPhase_moves | with_reducible apply Moves.when | split | exact fun _ h => h

theorem leadingEdge_moves (s : State) (p : ℕ) (forced : Bool) (hk : km &&& 0xFFBFFFFFBFFF7B = km) (hs : Moves km s0 s) :
    Moves km s0 (leadingEdge s p forced) := by
  refine Moves.comp (k1 := 0xFFBFFFFFBFFF7B) ?_ hk hs
  unfold leadingEdge
  repeat' first
    | with_reducible apply Moves.refl | decide | with_reducible apply pilotUpdate_moves | with_reducible apply State.modPhase_moves
    | with_reducible apply State.bump_moves | with_reducible apply State.putN_moves | split | exact fun _ h => h

theorem captureMeasure_moves (s : State) (p : ℕ) (forced : Bool) (hk : km &&& 0xFFFFFFFEFFFFFF = km) (hs : Moves km s0 s) :
    Moves km s0 (captureMeasure s p forced) := by
  refine Moves.comp (k1 := 0xFFFFFFFEFFFFFF) ?_ hk hs
  unfold captureMeasure
  dsimp only
  repeat' first
    | with_reducible apply Moves.refl | decide | split | with_reducible apply Moves.of_measures

theorem endState_moves (s : State) (p : ℕ) (forced : Bool) (hk : km &&& 0xFFBFFFFEBFFF7B = km) (hs : Moves km s0 s) :
    Moves km s0 (endState s p forced) := by
  refine Moves.comp (k1 := 0xFFBFFFFEBFFF7B) ?_ hk hs
  unfold endState
  repeat' first
    | with_reducible apply Moves.refl | decide | with_reducible apply captureMeasure_moves | with_reducible apply leadingEdge_moves
    | with_reducible apply enterPhase_moves | split

theorem countForced_moves (s : State) (p : ℕ) (hk : km &&& 0xFFBFFFFFFFFFFB = km) (hs : Moves km s0 s) :
    Moves km s0 (countForced s p) := by
  refine Moves.comp (k1 := 0xFFBFFFFFFFFFFB) ?_ hk hs
  unfold countForced
  repeat' first
    | with_reducible apply Moves.refl | decide | with_reducible apply State.setBits_moves | with_reducible apply State.bump_moves | split

theorem execForcedEdge_moves (p : Fin 48) (s : State) (hk : km &&& 0xFFAFFFF83FFF6B = km) (hs : Moves km s0 s) :
    Moves km s0 (Out.left s (execForcedEdge p s)) := by
  refine Moves.comp (k1 := 0xFFAFFFF83FFF6B) ?_ hk hs
  unfold execForcedEdge
  repeat' first
    | with_reducible apply Moves.refl | decide | with_reducible apply countForced_moves | with_reducible apply endState_moves
    | with_reducible apply settleAll_moves | with_reducible apply Moves.when

theorem execMissingEdge_moves (p : Fin 48) (s : State) (hk : km &&& 0xFFBFFFFFBFFFFB = km) (hs : Moves km s0 s) :
    Moves km s0 (Out.left s (execMissingEdge p s)) := by
  refine Moves.comp (k1 := 0xFFBFFFFFBFFFFB) ?_ hk hs
  unfold execMissingEdge
  repeat' first
    | with_reducible apply Moves.refl | decide | with_reducible apply pilotTo_moves | with_reducible apply State.modPhase_moves
    | with_reducible apply State.bump_moves | with_reducible apply Moves.when | split | exact fun _ h => h

theorem execPhaseTransition_moves (p : Fin 48) (s : State) (hk : km &&& 0xFFAFFFF83FFF6B = km) (hs : Moves km s0 s) :
    Moves km s0 (Out.left s (execPhaseTransition p s)) := by
  refine Moves.comp (k1 := 0xFFAFFFF83FFF6B) ?_ hk hs
  unfold execPhaseTransition
  repeat' first
    | with_reducible apply Moves.refl | decide | with_reducible apply endState_moves | with_reducible apply settleAll_moves
    | with_reducible apply Moves.when

theorem execPilotEnable_moves (p : Fin 48) (x1 : Wr) (s : State) (hk : km &&& 0xFFBFFFFFBFEF9B = km) (hs : Moves km s0 s) :
    Moves km s0 (Out.left s (execPilotEnable p x1 s)) := by
  refine Moves.comp (k1 := 0xFFBFFFFFBFEF9B) ?_ hk hs
  unfold execPilotEnable
  repeat' first
    | with_reducible apply Moves.refl | with_reducible assumption | decide | ((with_reducible apply accessWrite_moves) <;> try intro _ _ _)
    | with_reducible apply pilotEnableEff_moves | with_reducible apply Moves.next

theorem execPhaseUnpark_moves (p : Fin 48) (s : State) (hk : km &&& 0xFFAFFFF93FFF6B = km) (hs : Moves km s0 s) :
    Moves km s0 (Out.left s (execPhaseUnpark p s)) := by
  refine Moves.comp (k1 := 0xFFAFFFF93FFF6B) ?_ hk hs
  unfold execPhaseUnpark
  repeat' first
    | with_reducible apply Moves.refl | decide | with_reducible apply settleAll_moves | with_reducible apply enterPhase_moves
    | with_reducible apply Moves.when

theorem execGateFaultSeen_moves (p : Fin 48) (s : State) (hk : km &&& 0xFFAFFFF93FFF6B = km) (hs : Moves km s0 s) :
    Moves km s0 (Out.left s (execGateFaultSeen p s)) := by
  refine Moves.comp (k1 := 0xFFAFFFF93FFF6B) ?_ hk hs
  unfold execGateFaultSeen
  repeat' first
    | with_reducible apply Moves.refl | decide | with_reducible apply phaseFault_moves | with_reducible apply phaseReport_moves
    | with_reducible apply settleAll_moves | with_reducible apply State.modPhase_moves | with_reducible apply State.setBits_moves
    | with_reducible apply State.bump_moves | with_reducible apply Moves.when | exact fun _ h => h

theorem execRearmWindowExpiry_moves (p : Fin 48) (s : State) (hk : km &&& 0xFFAFFFF93FFF6B = km) (hs : Moves km s0 s) :
    Moves km s0 (Out.left s (execRearmWindowExpiry p s)) := by
  refine Moves.comp (k1 := 0xFFAFFFF93FFF6B) ?_ hk hs
  unfold execRearmWindowExpiry
  repeat' first
    | with_reducible apply Moves.refl | decide | with_reducible apply setRec_moves | with_reducible apply settleAll_moves
    | with_reducible apply State.modPhase_moves | with_reducible apply Moves.when | exact fun _ h => h

theorem execGateFaultInput_moves (p : Fin 48) (ns : ℕ) (s : State) (hk : km &&& 0xFFFFFFFFBFFFEF = km) (hs : Moves km s0 s) :
    Moves km s0 (Out.left s (execGateFaultInput p ns s)) := by
  refine Moves.comp (k1 := 0xFFFFFFFFBFFFEF) ?_ hk hs
  unfold execGateFaultInput
  repeat' first
    | with_reducible apply Moves.refl | decide | with_reducible apply latchGateFault_moves | with_reducible apply State.freshWord_moves
    | with_reducible apply State.modPhase_moves | with_reducible apply Moves.next | split | exact fun _ h => h

theorem execManualCommandsWrite_moves (p : Fin 48) (x1 : Wr) (s : State) (hk : km &&& 0xFFBFFFFFBFEF9B = km) (hs : Moves km s0 s) :
    Moves km s0 (Out.left s (execManualCommandsWrite p x1 s)) := by
  refine Moves.comp (k1 := 0xFFBFFFFFBFEF9B) ?_ hk hs
  unfold execManualCommandsWrite
  repeat' first
    | with_reducible apply Moves.refl | with_reducible assumption | decide | ((with_reducible apply accessWrite_moves) <;> try intro _ _ _)
    | with_reducible apply manualEff_moves | with_reducible apply Moves.next

theorem execPhaseModeWrite_moves (p : Fin 48) (x1 : Wr) (s : State) (hk : km &&& 0xFFAFFFF93FEF0B = km) (hs : Moves km s0 s) :
    Moves km s0 (Out.left s (execPhaseModeWrite p x1 s)) := by
  refine Moves.comp (k1 := 0xFFAFFFF93FEF0B) ?_ hk hs
  unfold execPhaseModeWrite
  repeat' first
    | with_reducible apply Moves.refl | with_reducible assumption | decide | ((with_reducible apply accessWrite_moves) <;> try intro _ _ _)
    | with_reducible apply phaseModeEff_moves | with_reducible apply Moves.next

theorem execPhaseRearm_moves (p : Fin 48) (s : State) (hk : km &&& 0xFFAFFFF93FFF6B = km) (hs : Moves km s0 s) :
    Moves km s0 (Out.left s (execPhaseRearm p s)) := by
  refine Moves.comp (k1 := 0xFFAFFFF93FFF6B) ?_ hk hs
  unfold execPhaseRearm
  repeat' first
    | with_reducible apply Moves.refl | decide | with_reducible apply resumePhase_moves | with_reducible apply setRec_moves
    | with_reducible apply settleAll_moves | with_reducible apply State.modPhase_moves | with_reducible apply Moves.when
    | exact fun _ h => h

theorem railPlainEff_moves (r : ℕ) (k : ℕ) (j : ℕ) (w' : Wr) (b' : Bool) (s' : State) (hk : km &&& 0xFFAFFFF93FFF6B = km) (hs : Moves km s0 s') :
    Moves km s0 (railPlainEff r k j w' b' s').2 := by
  refine Moves.comp (k1 := 0xFFAFFFF93FFF6B) ?_ hk hs
  unfold railPlainEff
  dsimp only
  repeat' first
    | with_reducible apply Moves.refl | decide | with_reducible apply settleAll_moves | with_reducible apply plainWrite_moves
    | with_reducible apply rej_moves | with_reducible apply State.putN_moves | split

theorem railModeEff_moves (r : ℕ) (w' : Wr) (b' : Bool) (s' : State) (hk : km &&& 0xFFAFFFF93FFF6B = km) (hs : Moves km s0 s') :
    Moves km s0 (railModeEff r w' b' s').2 := by
  refine Moves.comp (k1 := 0xFFAFFFF93FFF6B) ?_ hk hs
  unfold railModeEff
  repeat' first
    | with_reducible apply Moves.refl | decide | with_reducible apply windRail_moves | with_reducible apply tryStart_moves
    | with_reducible apply settleAll_moves | with_reducible apply stopRail_moves | with_reducible apply State.modRail_moves
    | with_reducible apply rej_moves | with_reducible apply acc_moves | with_reducible apply State.putN_moves
    | (with_reducible apply Moves.snd (by assumption))
    | (lift_lets; intro x; first | (refine Moves.mid (t := x) ?_ (fun hx => ?_) <;> [dsimp +zetaDelta only; clear_value x]) | clear_value x)
    | split

theorem applyEff_moves (r : ℕ) (w' : Wr) (b' : Bool) (s' : State) (hk : km &&& 0xFFFFFFFF7FFFFF = km) (hs : Moves km s0 s') :
    Moves km s0 (applyEff r w' b' s').2 := by
  refine Moves.comp (k1 := 0xFFFFFFFF7FFFFF) ?_ hk hs
  unfold applyEff
  repeat' first
    | with_reducible apply Moves.refl | decide | with_reducible apply State.modRail_moves | with_reducible apply acc_moves

theorem commitEff_moves (r : ℕ) (w' : Wr) (b' : Bool) (s' : State) (hk : km &&& 0xFFFFFFFF7FFFFF = km) (hs : Moves km s0 s') :
    Moves km s0 (commitEff r w' b' s').2 := by
  refine Moves.comp (k1 := 0xFFFFFFFF7FFFFF) ?_ hk hs
  unfold commitEff
  repeat' first
    | with_reducible apply Moves.refl | decide | with_reducible apply State.modRail_moves | with_reducible apply acc_moves

theorem tablePlainEff_moves (f : ℕ) (j : ℕ) (w' : Wr) (b' : Bool) (s' : State) (hk : km &&& 0xFFBFFFFFFFFFFB = km) (hs : Moves km s0 s') :
    Moves km s0 (tablePlainEff f j w' b' s').2 := by
  refine Moves.comp (k1 := 0xFFBFFFFFFFFFFB) ?_ hk hs
  unfold tablePlainEff
  repeat' first
    | with_reducible apply Moves.refl | decide | with_reducible apply swapBank_moves | with_reducible apply plainWrite_moves
    | (with_reducible apply Moves.snd (by assumption)) | split

theorem swapEff_moves (f : ℕ) (w' : Wr) (b' : Bool) (s' : State) (hk : km &&& 0xFFBFFFFFFFFFFB = km) (hs : Moves km s0 s') :
    Moves km s0 (swapEff f w' b' s').2 := by
  refine Moves.comp (k1 := 0xFFBFFFFFFFFFFB) ?_ hk hs
  unfold swapEff
  repeat' first
    | with_reducible apply Moves.refl | with_reducible assumption | decide | with_reducible apply swapBank_moves
    | with_reducible apply acc_moves | with_reducible apply State.putN_moves
    | (lift_lets; intro x; first | (refine Moves.mid (t := x) ?_ (fun hx => ?_) <;> [dsimp +zetaDelta only; clear_value x]) | clear_value x)
    | split

theorem bankEff_moves (f : ℕ) (x1 : ℕ) (i : ℕ) (j : ℕ) (w' : Wr) (b' : Bool) (s' : State) (hk : km &&& 0xFFBFFFFFFFFFFB = km) (hs : Moves km s0 s') :
    Moves km s0 (bankEff f x1 i j w' b' s').2 := by
  refine Moves.comp (k1 := 0xFFBFFFFFFFFFFB) ?_ hk hs
  unfold bankEff
  repeat' first
    | with_reducible apply Moves.refl | decide | with_reducible apply State.bump_moves | with_reducible apply plainWrite_moves
    | with_reducible apply rej_moves
    | (lift_lets; intro x; first | (refine Moves.mid (t := x) ?_ (fun hx => ?_) <;> [dsimp +zetaDelta only; clear_value x]) | clear_value x)
    | split

theorem execUnitShed_moves (r : Fin 12) (u : Fin 16) (s : State) (hk : km &&& 0xFFAFFFF93FFF6B = km) (hs : Moves km s0 s) :
    Moves km s0 (Out.left s (execUnitShed r u s)) := by
  refine Moves.comp (k1 := 0xFFAFFFF93FFF6B) ?_ hk hs
  unfold execUnitShed
  repeat' first
    | with_reducible apply Moves.refl | decide | with_reducible apply settleAll_moves | with_reducible apply railFlag_moves
    | with_reducible apply enterUnit_moves | with_reducible apply State.bump_moves | with_reducible apply Moves.when

theorem execTableBankWrite_moves (f : Fin 8) (x1 : Fin 2) (x2 : Fin 512) (x3 : Wr) (s : State) (hk : km &&& 0xFFBFFFFFFFEF9B = km) (hs : Moves km s0 s) :
    Moves km s0 (Out.left s (execTableBankWrite f x1 x2 x3 s)) := by
  refine Moves.comp (k1 := 0xFFBFFFFFFFEF9B) ?_ hk hs
  unfold execTableBankWrite
  repeat' first
    | with_reducible apply Moves.refl | with_reducible assumption | decide | ((with_reducible apply accessWrite_moves) <;> try intro _ _ _)
    | with_reducible apply bankEff_moves | with_reducible apply Moves.next

theorem execApplyCommand_moves (r : Fin 12) (x1 : Wr) (s : State) (hk : km &&& 0xFFBFFFFF7FEF9B = km) (hs : Moves km s0 s) :
    Moves km s0 (Out.left s (execApplyCommand r x1 s)) := by
  refine Moves.comp (k1 := 0xFFBFFFFF7FEF9B) ?_ hk hs
  unfold execApplyCommand
  repeat' first
    | with_reducible apply Moves.refl | with_reducible assumption | decide | ((with_reducible apply accessWrite_moves) <;> try intro _ _ _)
    | with_reducible apply applyEff_moves | with_reducible apply Moves.next

theorem execRampTick_moves (r : Fin 12) (u : Fin 16) (s : State) (hk : km &&& 0xFFAFFFF93FFF6B = km) (hs : Moves km s0 s) :
    Moves km s0 (Out.left s (execRampTick r u s)) := by
  refine Moves.comp (k1 := 0xFFAFFFF93FFF6B) ?_ hk hs
  unfold execRampTick
  repeat' first
    | with_reducible apply Moves.refl | decide | with_reducible apply settleAll_moves | with_reducible apply State.modRail_moves
    | with_reducible apply setUnitWeight_moves | with_reducible apply Moves.next | with_reducible apply Moves.when
    | (intro x; first | (refine Moves.mid (t := x) ?_ (fun hx => ?_) <;> [dsimp +zetaDelta only; clear_value x]) | clear_value x)
    | (lift_lets; intro x; first | (refine Moves.mid (t := x) ?_ (fun hx => ?_) <;> [dsimp +zetaDelta only; clear_value x]) | clear_value x)
    | split

theorem execTableSample_moves (s : State) (hk : km &&& 0xFFAFFFF93FF76B = km) (hs : Moves km s0 s) :
    Moves km s0 (Out.left s (execTableSample s)) := by
  refine Moves.comp (k1 := 0xFFAFFFF93FF76B) ?_ hk hs
  unfold execTableSample
  repeat' first
    | with_reducible apply Moves.refl | with_reducible assumption | decide | with_reducible apply sampleTable_moves
    | ((with_reducible apply onActions_moves) <;> try intro _ _ _) | with_reducible apply settleAll_moves
    | ((with_reducible apply Moves.foldl) <;> try intro _ _)

theorem execRailStart_moves (r : Fin 12) (x1 : Wr) (s : State) (hk : km &&& 0xFFAFFFF93FEF0B = km) (hs : Moves km s0 s) :
    Moves km s0 (Out.left s (execRailStart r x1 s)) := by
  refine Moves.comp (k1 := 0xFFAFFFF93FEF0B) ?_ hk hs
  unfold execRailStart
  repeat' first
    | with_reducible apply Moves.refl | with_reducible assumption | decide | ((with_reducible apply accessWrite_moves) <;> try intro _ _ _)
    | with_reducible apply railModeEff_moves | with_reducible apply Moves.next

theorem execRailStop_moves (r : Fin 12) (x1 : Wr) (s : State) (hk : km &&& 0xFFAFFFF93FEF0B = km) (hs : Moves km s0 s) :
    Moves km s0 (Out.left s (execRailStop r x1 s)) := by
  refine Moves.comp (k1 := 0xFFAFFFF93FEF0B) ?_ hk hs
  unfold execRailStop
  repeat' first
    | with_reducible apply Moves.refl | with_reducible assumption | decide | ((with_reducible apply accessWrite_moves) <;> try intro _ _ _)
    | with_reducible apply railModeEff_moves | with_reducible apply Moves.next

theorem execRecallDecision_moves (r : Fin 12) (s : State) (hk : km &&& 0xFFAFFFF93FFF6B = km) (hs : Moves km s0 s) :
    Moves km s0 (Out.left s (execRecallDecision r s)) := by
  refine Moves.comp (k1 := 0xFFAFFFF93FFF6B) ?_ hk hs
  unfold execRecallDecision
  repeat' first
    | with_reducible apply Moves.refl | decide | with_reducible apply settleAll_moves | with_reducible apply recallUnit_moves
    | with_reducible apply State.modRail_moves | with_reducible apply Moves.next | with_reducible apply Moves.when
    | (intro x; first | (refine Moves.mid (t := x) ?_ (fun hx => ?_) <;> [dsimp +zetaDelta only; clear_value x]) | clear_value x)
    | (lift_lets; intro x; first | (refine Moves.mid (t := x) ?_ (fun hx => ?_) <;> [dsimp +zetaDelta only; clear_value x]) | clear_value x)
    | split | ((with_reducible apply Moves.foldl) <;> try intro _ _)

theorem execSwapRequest_moves (f : Fin 8) (x1 : Wr) (s : State) (hk : km &&& 0xFFBFFFFFFFEF9B = km) (hs : Moves km s0 s) :
    Moves km s0 (Out.left s (execSwapRequest f x1 s)) := by
  refine Moves.comp (k1 := 0xFFBFFFFFFFEF9B) ?_ hk hs
  unfold execSwapRequest
  repeat' first
    | with_reducible apply Moves.refl | with_reducible assumption | decide | ((with_reducible apply accessWrite_moves) <;> try intro _ _ _)
    | with_reducible apply swapEff_moves | with_reducible apply Moves.next

theorem execShedDecision_moves (r : Fin 12) (s : State) (hk : km &&& 0xFFAFFFF93FFF6B = km) (hs : Moves km s0 s) :
    Moves km s0 (Out.left s (execShedDecision r s)) := by
  refine Moves.comp (k1 := 0xFFAFFFF93FFF6B) ?_ hk hs
  unfold execShedDecision
  repeat' first
    | with_reducible apply Moves.refl | decide | with_reducible apply settleAll_moves | with_reducible apply enterUnit_moves
    | with_reducible apply State.modRail_moves | with_reducible apply Moves.next | with_reducible apply Moves.when
    | (lift_lets; intro x; first | (refine Moves.mid (t := x) ?_ (fun hx => ?_) <;> [dsimp +zetaDelta only; clear_value x]) | clear_value x)
    | split

theorem execBandApply_moves (s : State) (hk : km &&& 0xFFAFFFF93FF76B = km) (hs : Moves km s0 s) :
    Moves km s0 (Out.left s (execBandApply s)) := by
  refine Moves.comp (k1 := 0xFFAFFFF93FF76B) ?_ hk hs
  unfold execBandApply
  repeat' first
    | with_reducible apply Moves.refl | with_reducible assumption | decide | with_reducible apply applyDemand_moves
    | ((with_reducible apply onActions_moves) <;> try intro _ _ _) | with_reducible apply settleAll_moves
    | ((with_reducible apply Moves.foldl) <;> try intro _ _)

theorem execDemandCommit_moves (r : Fin 12) (x1 : Wr) (s : State) (hk : km &&& 0xFFBFFFFF7FEF9B = km) (hs : Moves km s0 s) :
    Moves km s0 (Out.left s (execDemandCommit r x1 s)) := by
  refine Moves.comp (k1 := 0xFFBFFFFF7FEF9B) ?_ hk hs
  unfold execDemandCommit
  repeat' first
    | with_reducible apply Moves.refl | with_reducible assumption | decide | ((with_reducible apply accessWrite_moves) <;> try intro _ _ _)
    | with_reducible apply commitEff_moves | with_reducible apply Moves.next

theorem execRailWindDown_moves (r : Fin 12) (x1 : Wr) (s : State) (hk : km &&& 0xFFAFFFF93FEF0B = km) (hs : Moves km s0 s) :
    Moves km s0 (Out.left s (execRailWindDown r x1 s)) := by
  refine Moves.comp (k1 := 0xFFAFFFF93FEF0B) ?_ hk hs
  unfold execRailWindDown
  repeat' first
    | with_reducible apply Moves.refl | with_reducible assumption | decide | ((with_reducible apply accessWrite_moves) <;> try intro _ _ _)
    | with_reducible apply railModeEff_moves | with_reducible apply Moves.next

theorem releaseMember_moves (s : State) (r : ℕ) (i : ℕ) (hk : km &&& 0xFFBFFFFF3FFFFB = km) (hs : Moves km s0 s) :
    Moves km s0 (releaseMember s r i) := by
  refine Moves.comp (k1 := 0xFFBFFFFF3FFFFB) ?_ hk hs
  unfold releaseMember
  dsimp only
  repeat' first
    | with_reducible apply Moves.refl | decide | with_reducible apply clearPhaseRecord_moves | with_reducible apply resumePhase_moves
    | with_reducible apply State.clrBits_moves | with_reducible apply State.modRail_moves | with_reducible apply State.bump_moves
    | with_reducible apply State.put_moves | split

theorem releaseEff_moves (r : ℕ) (w' : Wr) (b' : Bool) (s' : State) (hk : km &&& 0xFFAFFFF93FFF6B = km) (hs : Moves km s0 s') :
    Moves km s0 (releaseEff r w' b' s').2 := by
  refine Moves.comp (k1 := 0xFFAFFFF93FFF6B) ?_ hk hs
  unfold releaseEff
  repeat' first
    | with_reducible apply Moves.refl | decide | with_reducible apply releaseMember_moves | with_reducible apply settleAll_moves
    | with_reducible apply acc_moves | ((with_reducible apply Moves.foldl) <;> try intro _ _)

theorem satReleaseEff_moves (r : ℕ) (w' : Wr) (b' : Bool) (s' : State) (hk : km &&& 0xFFAFFFF93FFF6B = km) (hs : Moves km s0 s') :
    Moves km s0 (satReleaseEff r w' b' s').2 := by
  refine Moves.comp (k1 := 0xFFAFFFF93FFF6B) ?_ hk hs
  unfold satReleaseEff
  repeat' first
    | with_reducible apply Moves.refl | decide | with_reducible apply settleAll_moves | with_reducible apply acc_moves
    | with_reducible apply State.putN_moves | ((with_reducible apply Moves.foldl) <;> try intro _ _)

theorem clearRecordEff_moves (r : ℕ) (w' : Wr) (b' : Bool) (s' : State) (hk : km &&& 0xFFFFFFFFFFFFFB = km) (hs : Moves km s0 s') :
    Moves km s0 (clearRecordEff r w' b' s').2 := by
  refine Moves.comp (k1 := 0xFFFFFFFFFFFFFB) ?_ hk hs
  unfold clearRecordEff
  repeat' first
    | with_reducible apply Moves.refl | decide | with_reducible apply acc_moves | with_reducible apply State.put_moves

theorem stopSlope_moves (s : State) (r : ℕ) (hk : km &&& 0xFFFFFFFFBFFFFF = km) (hs : Moves km s0 s) :
    Moves km s0 (stopSlope s r) := by
  refine Moves.comp (k1 := 0xFFFFFFFFBFFFFF) ?_ hk hs
  unfold stopSlope
  repeat' first
    | with_reducible apply Moves.refl | decide | with_reducible apply State.modPhase_moves | split
    | ((with_reducible apply Moves.foldl) <;> try intro _ _) | exact fun _ h => h

theorem svPlainEff_moves (r : ℕ) (k : ℕ) (j : ℕ) (w' : Wr) (b' : Bool) (s' : State) (hk : km &&& 0xFFAFFFF93FFF6B = km) (hs : Moves km s0 s') :
    Moves km s0 (svPlainEff r k j w' b' s').2 := by
  refine Moves.comp (k1 := 0xFFAFFFF93FFF6B) ?_ hk hs
  unfold svPlainEff
  repeat' first
    | with_reducible apply Moves.refl | decide | with_reducible apply stopSlope_moves | with_reducible apply settleAll_moves
    | with_reducible apply restartWatch_moves | with_reducible apply plainWrite_moves | with_reducible apply rej_moves
    | (intro x; first | (refine Moves.mid (t := x) ?_ (fun hx => ?_) <;> [dsimp +zetaDelta only; clear_value x]) | clear_value x)
    | (lift_lets; intro x; first | (refine Moves.mid (t := x) ?_ (fun hx => ?_) <;> [dsimp +zetaDelta only; clear_value x]) | clear_value x)
    | split

theorem watchResult_moves (s : State) (r : ℕ) (c : ℕ) (hk : km &&& 0xFFBFFFFF7FFF7B = km) (hs : Moves km s0 s) :
    Moves km s0 (watchResult s r c) := by
  refine Moves.comp (k1 := 0xFFBFFFFF7FFF7B) ?_ hk hs
  unfold watchResult
  repeat' first
    | with_reducible apply Moves.refl | decide | with_reducible apply qualify_moves | with_reducible apply State.modRail_moves
    | (intro x; first | (refine Moves.mid (t := x) ?_ (fun hx => ?_) <;> [dsimp +zetaDelta only; clear_value x]) | clear_value x)
    | (lift_lets; intro x; first | (refine Moves.mid (t := x) ?_ (fun hx => ?_) <;> [dsimp +zetaDelta only; clear_value x]) | clear_value x)
    | split

theorem execRegulationTimeout_moves (r : Fin 12) (s : State) (hk : km &&& 0xFFAFFFF93FFF6B = km) (hs : Moves km s0 s) :
    Moves km s0 (Out.left s (execRegulationTimeout r s)) := by
  refine Moves.comp (k1 := 0xFFAFFFF93FFF6B) ?_ hk hs
  unfold execRegulationTimeout
  repeat' first
    | with_reducible apply Moves.refl | decide | with_reducible apply settleAll_moves | with_reducible apply qualify_moves
    | with_reducible apply State.modRail_moves | with_reducible apply Moves.when

theorem execSaturationRelease_moves (r : Fin 12) (x1 : Wr) (s : State) (hk : km &&& 0xFFAFFFF93FEF0B = km) (hs : Moves km s0 s) :
    Moves km s0 (Out.left s (execSaturationRelease r x1 s)) := by
  refine Moves.comp (k1 := 0xFFAFFFF93FEF0B) ?_ hk hs
  unfold execSaturationRelease
  repeat' first
    | with_reducible apply Moves.refl | with_reducible assumption | decide | ((with_reducible apply accessWrite_moves) <;> try intro _ _ _)
    | with_reducible apply satReleaseEff_moves | with_reducible apply Moves.next

theorem execMemberRelease_moves (r : Fin 12) (x1 : Wr) (s : State) (hk : km &&& 0xFFAFFFF93FEF0B = km) (hs : Moves km s0 s) :
    Moves km s0 (Out.left s (execMemberRelease r x1 s)) := by
  refine Moves.comp (k1 := 0xFFAFFFF93FEF0B) ?_ hk hs
  unfold execMemberRelease
  repeat' first
    | with_reducible apply Moves.refl | with_reducible assumption | decide | ((with_reducible apply accessWrite_moves) <;> try intro _ _ _)
    | with_reducible apply releaseEff_moves | with_reducible apply Moves.next

theorem execBlindGraceExpiry_moves (r : Fin 12) (i : Fin 16) (s : State) (hk : km &&& 0xFFFFFFFF7FFFFF = km) (hs : Moves km s0 s) :
    Moves km s0 (Out.left s (execBlindGraceExpiry r i s)) := by
  refine Moves.comp (k1 := 0xFFFFFFFF7FFFFF) ?_ hk hs
  unfold execBlindGraceExpiry
  repeat' first
    | with_reducible apply Moves.refl | decide | with_reducible apply noteVerdict_moves | with_reducible apply State.modRail_moves
    | with_reducible apply Moves.next | with_reducible apply Moves.when
    | (lift_lets; intro x; first | (refine Moves.mid (t := x) ?_ (fun hx => ?_) <;> [dsimp +zetaDelta only; clear_value x]) | clear_value x)
    | split

theorem execRailTakeover_moves (r : Fin 12) (i : Fin 16) (s : State) (hk : km &&& 0xFFAFFFF93FFF6B = km) (hs : Moves km s0 s) :
    Moves km s0 (Out.left s (execRailTakeover r i s)) := by
  refine Moves.comp (k1 := 0xFFAFFFF93FFF6B) ?_ hk hs
  unfold execRailTakeover
  repeat' first
    | with_reducible apply Moves.refl | decide | with_reducible apply takeOwner_moves | with_reducible apply noteVerdict_moves
    | with_reducible apply settleAll_moves | with_reducible apply State.bump_moves | with_reducible apply Moves.when

theorem setScore_moves (s : State) (r : ℕ) (i : ℕ) (lo : ℕ) (v : ℕ) (hk : km &&& 0xFFFFFFFFFFFFFB = km) (hs : Moves km s0 s) :
    Moves km s0 (setScore s r i lo v) := by
  refine Moves.comp (k1 := 0xFFFFFFFFFFFFFB) ?_ hk hs
  unfold setScore
  repeat' first
    | with_reducible apply Moves.refl | decide | with_reducible apply State.putN_moves

theorem steepVerdict_moves (s : State) (r : ℕ) (i : ℕ) (hk : km &&& 0xFFBFFFFFFFFF7B = km) (hs : Moves km s0 s) :
    Moves km s0 (steepVerdict s r i) := by
  refine Moves.comp (k1 := 0xFFBFFFFFFFFF7B) ?_ hk hs
  unfold steepVerdict
  repeat' first
    | with_reducible apply Moves.refl | decide | with_reducible apply setScore_moves | with_reducible apply State.report_moves
    | with_reducible apply State.setBits_moves | with_reducible apply State.putN_moves

theorem verdictsDue_moves (s : State) (r : ℕ) (i : ℕ) (hk : km &&& 0xFFBFFFFF7FFF7B = km) (hs : Moves km s0 s) :
    Moves km s0 (verdictsDue s r i) := by
  refine Moves.comp (k1 := 0xFFBFFFFF7FFF7B) ?_ hk hs
  unfold verdictsDue
  repeat' first
    | with_reducible apply Moves.refl | with_reducible assumption | decide | with_reducible apply steepVerdict_moves
    | with_reducible apply noteVerdict_moves
    | (intro x; first | (refine Moves.mid (t := x) ?_ (fun hx => ?_) <;> [dsimp +zetaDelta only; clear_value x]) | clear_value x)
    | (lift_lets; intro x; first | (refine Moves.mid (t := x) ?_ (fun hx => ?_) <;> [dsimp +zetaDelta only; clear_value x]) | clear_value x)
    | split

theorem traceMeasure_moves (s : State) (m : Measure) (c : ℕ) (hk : km &&& 0xFFFFFFFF7FFFFF = km) (hs : Moves km s0 s) :
    Moves km s0 (traceMeasure s m c) := by
  refine Moves.comp (k1 := 0xFFFFFFFF7FFFFF) ?_ hk hs
  unfold traceMeasure
  repeat' first
    | with_reducible apply Moves.refl | decide | with_reducible apply State.modRail_moves

theorem applyClass_moves (s : State) (m : Measure) (c : ℕ) (hk : km &&& 0xFFFFFFFFFFFFFB = km) (hs : Moves km s0 s) :
    Moves km s0 (applyClass s m c) := by
  refine Moves.comp (k1 := 0xFFFFFFFFFFFFFB) ?_ hk hs
  unfold applyClass
  dsimp only
  repeat' first
    | with_reducible apply Moves.refl | decide | with_reducible apply setScore_moves | split
    | ((with_reducible apply Moves.foldl) <;> try intro _ _)

theorem classify_moves (s : State) (m : Measure) (hk : km &&& 0xFFBFFFFF7FFF7B = km) (hs : Moves km s0 s) :
    Moves km s0 (classify s m) := by
  refine Moves.comp (k1 := 0xFFBFFFFF7FFF7B) ?_ hk hs
  unfold classify
  repeat' first
    | with_reducible apply Moves.refl | with_reducible assumption | decide | with_reducible apply applyClass_moves
    | with_reducible apply traceMeasure_moves | with_reducible apply verdictsDue_moves | with_reducible apply State.bump_moves
    | (intro x; first | (refine Moves.mid (t := x) ?_ (fun hx => ?_) <;> [dsimp +zetaDelta only; clear_value x]) | clear_value x)
    | (lift_lets; intro x; first | (refine Moves.mid (t := x) ?_ (fun hx => ?_) <;> [dsimp +zetaDelta only; clear_value x]) | clear_value x)
    | split

theorem execSupervisionClassify_moves (r : Fin 12) (i : Fin 16) (s : State) (hk : km &&& 0xFFAFFFF83FFF6B = km) (hs : Moves km s0 s) :
    Moves km s0 (Out.left s (execSupervisionClassify r i s)) := by
  refine Moves.comp (k1 := 0xFFAFFFF83FFF6B) ?_ hk hs
  unfold execSupervisionClassify
  repeat' first
    | with_reducible apply Moves.refl | decide | with_reducible apply classify_moves | with_reducible apply settleAll_moves
    | with_reducible apply Moves.next | split | with_reducible apply Moves.of_measures

theorem execClearRecord_moves (r : Fin 12) (x1 : Wr) (s : State) (hk : km &&& 0xFFBFFFFFFFEF9B = km) (hs : Moves km s0 s) :
    Moves km s0 (Out.left s (execClearRecord r x1 s)) := by
  refine Moves.comp (k1 := 0xFFBFFFFFFFEF9B) ?_ hk hs
  unfold execClearRecord
  repeat' first
    | with_reducible apply Moves.refl | with_reducible assumption | decide | ((with_reducible apply accessWrite_moves) <;> try intro _ _ _)
    | with_reducible apply clearRecordEff_moves | with_reducible apply Moves.next

theorem execVoltageChannelLost_moves (r : Fin 12) (c : Fin 64) (s : State) (hk : km &&& 0xFFAFFFF93FFF6B = km) (hs : Moves km s0 s) :
    Moves km s0 (Out.left s (execVoltageChannelLost r c s)) := by
  refine Moves.comp (k1 := 0xFFAFFFF93FFF6B) ?_ hk hs
  unfold execVoltageChannelLost
  repeat' first
    | with_reducible apply Moves.refl | decide | with_reducible apply settleAll_moves | with_reducible apply qualify_moves
    | with_reducible apply State.modRail_moves | with_reducible apply Moves.next | with_reducible apply Moves.when | split

end Sys2Proof.Machine
end

