-- ==== Sys2Proof/Laws/MovesSupply.lean ====
section
/-! SUPPORT. What every operation keeps, one lemma each, named after the operation, with the bits of `Moves`: the gauge, the supplies, the sequencer, the resets, the clocks and the collector. -/
namespace Sys2Proof.Machine

set_option linter.all false

variable {km : Nat} {s0 : State}

theorem State.modGauge_moves (s : State) (f : Gauge → Gauge) (hk : km &&& 0xFFFFFFF7FFFFFF = km) (hs : Moves km s0 s) :
    Moves km s0 (s.modGauge f) :=
  Moves.of_gauge s _  hk hs

theorem gaugeCover_moves (s : State) (hk : km &&& 0xFFFFFFF7FFFFFF = km) (hs : Moves km s0 s) :
    Moves km s0 (gaugeCover s) := by
  refine Moves.comp (k1 := 0xFFFFFFF7FFFFFF) ?_ hk hs
  unfold gaugeCover
  repeat' first
    | with_reducible apply Moves.refl | decide | with_reducible apply State.modGauge_moves | split

theorem gaugeRestart_moves (s : State) (c : ℕ) (hk : km &&& 0xFFFFFFF7FFFFFF = km) (hs : Moves km s0 s) :
    Moves km s0 (gaugeRestart s c) := by
  refine Moves.comp (k1 := 0xFFFFFFF7FFFFFF) ?_ hk hs
  unfold gaugeRestart
  repeat' first
    | with_reducible apply Moves.refl | decide | with_reducible apply State.modGauge_moves | split

theorem State.putInt64_moves (s : State) (i : ℕ) (j : ℕ) (v : ℤ) (hk : km &&& 0xFFFFFFFFFFFFFB = km) (hs : Moves km s0 s) :
    Moves km s0 (State.putInt64 s i j v) := by
  refine Moves.comp (k1 := 0xFFFFFFFFFFFFFB) ?_ hk hs
  unfold State.putInt64
  repeat' first
    | with_reducible apply Moves.refl | decide | with_reducible apply State.putPair_moves

theorem showGauge_moves (s : State) (hk : km &&& 0xFFFFFFFFFFFFFB = km) (hs : Moves km s0 s) :
    Moves km s0 (showGauge s) := by
  refine Moves.comp (k1 := 0xFFFFFFFFFFFFFB) ?_ hk hs
  unfold showGauge
  repeat' first
    | with_reducible apply Moves.refl | decide | with_reducible apply State.putInt64_moves

theorem gaugePresence_moves (s : State) (hk : km &&& 0xFFBFFFF7FFFF7B = km) (hs : Moves km s0 s) :
    Moves km s0 (gaugePresence s) := by
  refine Moves.comp (k1 := 0xFFBFFFF7FFFF7B) ?_ hk hs
  unfold gaugePresence
  repeat' first
    | with_reducible apply Moves.refl | decide | with_reducible apply State.modGauge_moves | with_reducible apply State.putI_moves
    | with_reducible apply State.report_moves | with_reducible apply State.setBits_moves | with_reducible apply State.putN_moves | split

theorem addRc_moves (s : State) (d : ℤ) (hk : km &&& 0xFFBFFFF7FFFFFB = km) (hs : Moves km s0 s) :
    Moves km s0 (addRc s d) := by
  refine Moves.comp (k1 := 0xFFBFFFF7FFFFFB) ?_ hk hs
  unfold addRc
  repeat' first
    | with_reducible apply Moves.refl | decide | with_reducible apply State.modGauge_moves | with_reducible apply State.bump_moves | split

theorem gaugeRemoval_moves (s : State) (hk : km &&& 0xFFBFFFF7FFFFFB = km) (hs : Moves km s0 s) :
    Moves km s0 (gaugeRemoval s) := by
  refine Moves.comp (k1 := 0xFFBFFFF7FFFFFB) ?_ hk hs
  unfold gaugeRemoval
  repeat' first
    | with_reducible apply Moves.refl | decide | with_reducible apply State.modGauge_moves | with_reducible apply State.setBits_moves
    | with_reducible apply State.put_moves

theorem addErr_moves (s : State) (d : ℤ) (hk : km &&& 0xFFFFFFF7FFFFFF = km) (hs : Moves km s0 s) :
    Moves km s0 (addErr s d) := by
  refine Moves.comp (k1 := 0xFFFFFFF7FFFFFF) ?_ hk hs
  unfold addErr
  repeat' first
    | with_reducible apply Moves.refl | decide | with_reducible apply State.modGauge_moves

theorem endGap_moves (s : State) (hk : km &&& 0xFFBFFFF7FFFF7B = km) (hs : Moves km s0 s) :
    Moves km s0 (endGap s) := by
  refine Moves.comp (k1 := 0xFFBFFFF7FFFF7B) ?_ hk hs
  unfold endGap
  repeat' first
    | with_reducible apply Moves.refl | with_reducible assumption | decide | with_reducible apply addErr_moves
    | with_reducible apply State.modGauge_moves | with_reducible apply State.report_moves | with_reducible apply State.setBits_moves
    | with_reducible apply State.bump_moves | with_reducible apply State.put_moves
    | (lift_lets; intro x; first | (refine Moves.mid (t := x) ?_ (fun hx => ?_) <;> [dsimp +zetaDelta only; clear_value x]) | clear_value x)
    | split

theorem integrate_moves (s : State) (raw : ℤ) (dt2 : ℕ) (hk : km &&& 0xFFBFFFF7FFFFFB = km) (hs : Moves km s0 s) :
    Moves km s0 (integrate s raw dt2) := by
  refine Moves.comp (k1 := 0xFFBFFFF7FFFFFB) ?_ hk hs
  unfold integrate
  repeat' first
    | with_reducible apply Moves.refl | decide | with_reducible apply addErr_moves | with_reducible apply addRc_moves
    | with_reducible apply State.modGauge_moves

theorem gaugePrecision_moves (s : State) (c : ℕ) (hk : km &&& 0xFFBFFFF7FFFF7B = km) (hs : Moves km s0 s) :
    Moves km s0 (gaugePrecision s c) := by
  refine Moves.comp (k1 := 0xFFBFFFF7FFFF7B) ?_ hk hs
  unfold gaugePrecision
  repeat' first
    | with_reducible apply Moves.refl | with_reducible assumption | decide | with_reducible apply integrate_moves
    | with_reducible apply endGap_moves | with_reducible apply showGauge_moves | with_reducible apply gaugeCover_moves
    | with_reducible apply State.modGauge_moves
    | (lift_lets; intro x; first | (refine Moves.mid (t := x) ?_ (fun hx => ?_) <;> [dsimp +zetaDelta only; clear_value x]) | clear_value x)
    | split

theorem learnAt_moves (s : State) (sc : ℤ × ℤ) (hk : km &&& 0xFFBFBFF7FFFF7B = km) (hs : Moves km s0 s) :
    Moves km s0 (learnAt s sc) := by
  refine Moves.comp (k1 := 0xFFBFBFF7FFFF7B) ?_ hk hs
  unfold learnAt
  dsimp only
  repeat' first
    | with_reducible apply Moves.refl | decide | with_reducible apply addRc_moves | with_reducible apply State.putInt64_moves
    | with_reducible apply requestRecord_moves | with_reducible apply State.modGauge_moves | with_reducible apply State.putI_moves
    | with_reducible apply State.setBits_moves | with_reducible apply State.bump_moves | with_reducible apply State.putN_moves
    | with_reducible apply State.put_moves | split

theorem learnAge_moves (s : State) (hk : km &&& 0xFFFFFFF7FFFFFB = km) (hs : Moves km s0 s) :
    Moves km s0 (learnAge s) := by
  refine Moves.comp (k1 := 0xFFFFFFF7FFFFFB) ?_ hk hs
  unfold learnAge
  repeat' first
    | with_reducible apply Moves.refl | decide | with_reducible apply State.modGauge_moves | with_reducible apply State.put_moves | split

theorem keepExtremes_moves (s : State) (j : ℕ) (v : ℤ) (hk : km &&& 0xFFFFFFFFFFFFFB = km) (hs : Moves km s0 s) :
    Moves km s0 (keepExtremes s j v) := by
  refine Moves.comp (k1 := 0xFFFFFFFFFFFFFB) ?_ hk hs
  unfold keepExtremes
  repeat' first
    | with_reducible apply Moves.refl | with_reducible assumption | decide | with_reducible apply State.putI_moves
    | (lift_lets; intro x; first | (refine Moves.mid (t := x) ?_ (fun hx => ?_) <;> [dsimp +zetaDelta only; clear_value x]) | clear_value x)
    | split

theorem historyStep_moves (s : State) (hk : km &&& 0xFFBFFFFFFFFFFB = km) (hs : Moves km s0 s) :
    Moves km s0 (historyStep s) := by
  refine Moves.comp (k1 := 0xFFBFFFFFFFFFFB) ?_ hk hs
  unfold historyStep
  repeat' first
    | with_reducible apply Moves.refl | with_reducible assumption | decide | with_reducible apply keepExtremes_moves
    | with_reducible apply State.putI_moves | with_reducible apply State.bump_moves
    | (intro x; first | (refine Moves.mid (t := x) ?_ (fun hx => ?_) <;> [dsimp +zetaDelta only; clear_value x]) | clear_value x)
    | (lift_lets; intro x; first | (refine Moves.mid (t := x) ?_ (fun hx => ?_) <;> [dsimp +zetaDelta only; clear_value x]) | clear_value x)
    | split | ((with_reducible apply Moves.foldl) <;> try intro _ _)

theorem selfDischarge_moves (s : State) (secs : ℕ) (hk : km &&& 0xFFBFFFF7FFFFFB = km) (hs : Moves km s0 s) :
    Moves km s0 (selfDischarge s secs) := by
  refine Moves.comp (k1 := 0xFFBFFFF7FFFFFB) ?_ hk hs
  unfold selfDischarge
  repeat' first
    | with_reducible apply Moves.refl | decide | with_reducible apply addRc_moves | with_reducible apply State.modGauge_moves

theorem rescale.emptied_moves (s : State) (x1 : State) (hk : km &&& 0xFFBFFFFFFFFFFB = km) (hs : Moves km s0 x1) :
    Moves km s0 (rescale.emptied s x1) := by
  refine Moves.comp (k1 := 0xFFBFFFFFFFFFFB) ?_ hk hs
  unfold rescale.emptied
  repeat' first
    | with_reducible apply Moves.refl | decide | with_reducible apply State.bump_moves | split

theorem rescale_moves (s : State) (hk : km &&& 0xFFBFFFFFFFFFFB = km) (hs : Moves km s0 s) :
    Moves km s0 (rescale s) := by
  refine Moves.comp (k1 := 0xFFBFFFFFFFFFFB) ?_ hk hs
  unfold rescale
  repeat' first
    | with_reducible apply Moves.refl | with_reducible assumption | decide | with_reducible apply rescale.emptied_moves
    | with_reducible apply State.putInt64_moves | with_reducible apply State.putI_moves | with_reducible apply State.put_moves
    | (intro x; first | (refine Moves.mid (t := x) ?_ (fun hx => ?_) <;> [dsimp +zetaDelta only; clear_value x]) | clear_value x)
    | (lift_lets; intro x; first | (refine Moves.mid (t := x) ?_ (fun hx => ?_) <;> [dsimp +zetaDelta only; clear_value x]) | clear_value x)
    | split

theorem takeAnchor_moves (s : State) (kind : ℕ) (sc : ℤ × ℤ) (K : ℤ) (hk : km &&& 0xFFBFFFF7FFFFFB = km) (hs : Moves km s0 s) :
    Moves km s0 (takeAnchor s kind sc K) := by
  refine Moves.comp (k1 := 0xFFBFFFF7FFFFFB) ?_ hk hs
  unfold takeAnchor
  repeat' first
    | with_reducible apply Moves.refl | decide | with_reducible apply addRc_moves | with_reducible apply State.modGauge_moves
    | with_reducible apply State.putI_moves | with_reducible apply State.setBits_moves | with_reducible apply State.bump_moves
    | with_reducible apply State.putN_moves | with_reducible apply State.put_moves

theorem takeFcc_moves (s : State) (hk : km &&& 0xFFBFFFF7FFFFFB = km) (hs : Moves km s0 s) :
    Moves km s0 (takeFcc s) := by
  refine Moves.comp (k1 := 0xFFBFFFF7FFFFFB) ?_ hk hs
  unfold takeFcc
  repeat' first
    | with_reducible apply Moves.refl | decide | with_reducible apply addRc_moves | with_reducible apply State.putPair_moves
    | with_reducible apply State.modGauge_moves | split

theorem freshHistory_moves (s : State) (hk : km &&& 0xFFFFFFF7FFFFFB = km) (hs : Moves km s0 s) :
    Moves km s0 (freshHistory s) := by
  refine Moves.comp (k1 := 0xFFFFFFF7FFFFFB) ?_ hk hs
  unfold freshHistory
  repeat' first
    | with_reducible apply Moves.refl | decide | with_reducible apply State.modGauge_moves | with_reducible apply State.putI_moves
    | with_reducible apply State.put_moves | ((with_reducible apply Moves.foldl) <;> try intro _ _)

theorem gaugeSwap_moves (s : State) (hk : km &&& 0xFFAFBFF7FFFF7B = km) (hs : Moves km s0 s) :
    Moves km s0 (gaugeSwap s) := by
  refine Moves.comp (k1 := 0xFFAFBFF7FFFF7B) ?_ hk hs
  unfold gaugeSwap
  repeat' first
    | with_reducible apply Moves.refl | with_reducible assumption | decide | with_reducible apply clearRings_moves
    | with_reducible apply freshHistory_moves | with_reducible apply State.putPair_moves | with_reducible apply requestRecord_moves
    | with_reducible apply State.modGauge_moves | with_reducible apply State.report_moves | with_reducible apply State.setBits_moves
    | with_reducible apply State.bump_moves | with_reducible apply State.put_moves
    | (intro x; first | (refine Moves.mid (t := x) ?_ (fun hx => ?_) <;> [dsimp +zetaDelta only; clear_value x]) | clear_value x)
    | (lift_lets; intro x; first | (refine Moves.mid (t := x) ?_ (fun hx => ?_) <;> [dsimp +zetaDelta only; clear_value x]) | clear_value x)
    | split | ((with_reducible apply Moves.foldl) <;> try intro _ _)

theorem gaugeSecond_moves (s : State) (hk : km &&& 0xFFAFBFF5FFFF7B = km) (hs : Moves km s0 s) :
    Moves km s0 (gaugeSecond s) := by
  refine Moves.comp (k1 := 0xFFAFBFF5FFFF7B) ?_ hk hs
  unfold gaugeSecond
  repeat' first
    | with_reducible apply Moves.refl | decide | with_reducible apply gaugeSwap_moves | with_reducible apply takeFcc_moves
    | with_reducible apply takeAnchor_moves | with_reducible apply rescale_moves | with_reducible apply selfDischarge_moves
    | with_reducible apply historyStep_moves | with_reducible apply learnAge_moves | with_reducible apply learnAt_moves
    | with_reducible apply gaugePresence_moves | with_reducible apply showGauge_moves | with_reducible apply requestRecord_moves
    | with_reducible apply State.modGauge_moves | with_reducible apply State.putI_moves | with_reducible apply State.bump_moves | split
    | with_reducible apply Moves.of_chg

theorem resistanceStep_moves (s : State) (a : ℤ × ℤ) (x2 : ℤ × ℤ) (hk : km &&& 0xFFBFFFFFFFFFFB = km) (hs : Moves km s0 s) :
    Moves km s0 (resistanceStep s a x2) := by
  refine Moves.comp (k1 := 0xFFBFFFFFFFFFFB) ?_ hk hs
  unfold resistanceStep
  repeat' first
    | with_reducible apply Moves.refl | decide | with_reducible apply State.putI_moves | with_reducible apply State.bump_moves
    | with_reducible apply State.put_moves
    | (intro x; first | (refine Moves.mid (t := x) ?_ (fun hx => ?_) <;> [dsimp +zetaDelta only; clear_value x]) | clear_value x)
    | (lift_lets; intro x; first | (refine Moves.mid (t := x) ?_ (fun hx => ?_) <;> [dsimp +zetaDelta only; clear_value x]) | clear_value x)
    | split

theorem gaugeWindow_moves (s : State) (len2 : ℕ) (hk : km &&& 0xFFBFFFF7FFFFFB = km) (hs : Moves km s0 s) :
    Moves km s0 (gaugeWindow s len2) := by
  refine Moves.comp (k1 := 0xFFBFFFF7FFFFFB) ?_ hk hs
  unfold gaugeWindow
  repeat' first
    | with_reducible apply Moves.refl | decide | with_reducible apply resistanceStep_moves | with_reducible apply State.modGauge_moves
    | split

theorem gaugeCycle_moves (s : State) (hk : km &&& 0xFFBFFFF7FFFF7B = km) (hs : Moves km s0 s) :
    Moves km s0 (gaugeCycle s) := by
  refine Moves.comp (k1 := 0xFFBFFFF7FFFF7B) ?_ hk hs
  unfold gaugeCycle
  repeat' first
    | with_reducible apply Moves.refl | decide | with_reducible apply gaugePresence_moves | with_reducible apply gaugeCover_moves | split

theorem wheelModeAll_moves (u : ℕ) (w' : Wr) (b' : Bool) (s' : State) (hk : km &&& 0xFFAFFFF93FF76B = km) (hs : Moves km s0 s') :
    Moves km s0 (wheelModeAll u w' b' s').2 := by
  refine Moves.comp (k1 := 0xFFAFFFF93FF76B) ?_ hk hs
  unfold wheelModeAll
  repeat' first
    | with_reducible apply Moves.refl | decide | with_reducible apply wheelModeEff_moves | with_reducible apply settleAll_moves
    | with_reducible apply pilotSettle_moves | with_reducible apply acc_moves | (with_reducible apply Moves.snd (by assumption)) | split
    | ((with_reducible apply Moves.foldl) <;> try intro _ _)

theorem phasesWatch_moves (s : State) (c : ℕ) (hk : km &&& 0xFFBFFFFF3FFF7B = km) (hs : Moves km s0 s) :
    Moves km s0 (phasesWatch s c) := by
  refine Moves.comp (k1 := 0xFFBFFFFF3FFF7B) ?_ hk hs
  unfold phasesWatch
  repeat' first
    | with_reducible apply Moves.refl | decide | with_reducible apply phaseWatch_moves | split
    | ((with_reducible apply Moves.foldl) <;> try intro _ _)

theorem validChanged_moves (s : State) (c : ℕ) (hk : km &&& 0xFFAFFFF13FF76B = km) (hs : Moves km s0 s) :
    Moves km s0 (validChanged s c) := by
  refine Moves.comp (k1 := 0xFFAFFFF13FF76B) ?_ hk hs
  unfold validChanged
  repeat' first
    | with_reducible apply Moves.refl | decide | with_reducible apply phasesWatch_moves | with_reducible apply gaugeCover_moves
    | with_reducible apply zeroCrossings_moves | with_reducible apply settleAll_moves

theorem senseModeAll_moves (c : ℕ) (w' : Wr) (b' : Bool) (s' : State) (hk : km &&& 0xFFAFFFF11FF76B = km) (hs : Moves km s0 s') :
    Moves km s0 (senseModeAll c w' b' s').2 := by
  refine Moves.comp (k1 := 0xFFAFFFF11FF76B) ?_ hk hs
  unfold senseModeAll
  repeat' first
    | with_reducible apply Moves.refl | decide | with_reducible apply gaugeRestart_moves | with_reducible apply validChanged_moves
    | with_reducible apply senseModeEff_moves | with_reducible apply acc_moves | (with_reducible apply Moves.snd (by assumption)) | split

theorem senseRestartAll_moves (c : ℕ) (w' : Wr) (b' : Bool) (s' : State) (hk : km &&& 0xFFAFFFF11FF76B = km) (hs : Moves km s0 s') :
    Moves km s0 (senseRestartAll c w' b' s').2 := by
  refine Moves.comp (k1 := 0xFFAFFFF11FF76B) ?_ hk hs
  unfold senseRestartAll
  repeat' first
    | with_reducible apply Moves.refl | decide | with_reducible apply senseRestartEff_moves | with_reducible apply gaugeRestart_moves
    | with_reducible apply validChanged_moves | with_reducible apply acc_moves | (with_reducible apply Moves.snd (by assumption)) | split

theorem gainAll_moves (c : ℕ) (w' : Wr) (b' : Bool) (s' : State) (hk : km &&& 0xFFAFFFF91FFF6B = km) (hs : Moves km s0 s') :
    Moves km s0 (gainAll c w' b' s').2 := by
  refine Moves.comp (k1 := 0xFFAFFFF91FFF6B) ?_ hk hs
  unfold gainAll
  repeat' first
    | with_reducible apply Moves.refl | decide | with_reducible apply gainEff_moves | with_reducible apply settleAll_moves
    | with_reducible apply acc_moves | (with_reducible apply Moves.snd (by assumption)) | split

theorem markWindows_moves (s : State) (c : ℕ) (hk : km &&& 0xFFFFFFFFBFFFFF = km) (hs : Moves km s0 s) :
    Moves km s0 (markWindows s c) := by
  refine Moves.comp (k1 := 0xFFFFFFFFBFFFFF) ?_ hk hs
  unfold markWindows
  repeat' first
    | with_reducible apply Moves.refl | decide | with_reducible apply State.modPhase_moves
    | (lift_lets; intro x; first | (refine Moves.mid (t := x) ?_ (fun hx => ?_) <;> [dsimp +zetaDelta only; clear_value x]) | clear_value x)
    | split | ((with_reducible apply Moves.foldl) <;> try intro _ _) | exact fun _ h => h

theorem toConsumers_moves (s : State) (c : ℕ) (hk : km &&& 0xFFAFFFF13FF76B = km) (hs : Moves km s0 s) :
    Moves km s0 (toConsumers s c) := by
  refine Moves.comp (k1 := 0xFFAFFFF13FF76B) ?_ hk hs
  unfold toConsumers
  repeat' first
    | with_reducible apply Moves.refl | decide | with_reducible apply watchResult_moves | with_reducible apply phasesWatch_moves
    | with_reducible apply gaugeCover_moves | with_reducible apply zeroCrossings_moves | with_reducible apply settleAll_moves
    | ((with_reducible apply Moves.foldl) <;> try intro _ _)

theorem afterBit_moves (s : State) (x1 : State) (c : ℕ) (hk : km &&& 0xFFAFFFF13FF76B = km) (hs : Moves km s0 x1) :
    Moves km s0 (afterBit s x1 c) := by
  refine Moves.comp (k1 := 0xFFAFFFF13FF76B) ?_ hk hs
  unfold afterBit
  repeat' first
    | with_reducible apply Moves.refl | decide | with_reducible apply validChanged_moves | split

theorem execFastResultDelivery_moves (c : Fin 64) (x1 : SenseEvent) (s : State) (hk : km &&& 0xFFAFFFF11FF76B = km) (hs : Moves km s0 s) :
    Moves km s0 (Out.left s (execFastResultDelivery c x1 s)) := by
  refine Moves.comp (k1 := 0xFFAFFFF11FF76B) ?_ hk hs
  unfold execFastResultDelivery
  repeat' first
    | with_reducible apply Moves.refl | decide | with_reducible apply deliverFast_moves | with_reducible apply senseTransition_moves
    | with_reducible apply senseBit_moves | with_reducible apply afterBit_moves | with_reducible apply toConsumers_moves
    | with_reducible apply markWindows_moves | with_reducible apply Moves.next | with_reducible apply Moves.when | split

theorem execManchesterCodingError_moves (c : Fin 64) (s : State) (hk : km &&& 0xFFAFFFF11FF76B = km) (hs : Moves km s0 s) :
    Moves km s0 (Out.left s (execManchesterCodingError c s)) := by
  refine Moves.comp (k1 := 0xFFAFFFF11FF76B) ?_ hk hs
  unfold execManchesterCodingError
  repeat' first
    | with_reducible apply Moves.refl | decide | with_reducible apply codingError_moves | with_reducible apply afterBit_moves
    | with_reducible apply Moves.when

theorem execStreamSilence_moves (c : Fin 64) (s : State) (hk : km &&& 0xFFAFFFF11FF76B = km) (hs : Moves km s0 s) :
    Moves km s0 (Out.left s (execStreamSilence c s)) := by
  refine Moves.comp (k1 := 0xFFAFFFF11FF76B) ?_ hk hs
  unfold execStreamSilence
  repeat' first
    | with_reducible apply Moves.refl | decide | with_reducible apply senseFail_moves | with_reducible apply afterBit_moves
    | with_reducible apply Moves.when

theorem execPrecisionResult_moves (c : Fin 64) (s : State) (hk : km &&& 0xFFAFFFF11FFF6B = km) (hs : Moves km s0 s) :
    Moves km s0 (Out.left s (execPrecisionResult c s)) := by
  refine Moves.comp (k1 := 0xFFAFFFF11FFF6B) ?_ hk hs
  unfold execPrecisionResult
  repeat' first
    | with_reducible apply Moves.refl | with_reducible assumption | decide | with_reducible apply writePrecision_moves
    | with_reducible apply gaugePrecision_moves | with_reducible apply sagCheck_moves | with_reducible apply pathPrecision_moves
    | with_reducible apply State.modChan_moves | with_reducible apply settleAll_moves | with_reducible apply State.setBits_moves
    | with_reducible apply Moves.next | with_reducible apply Moves.when
    | (lift_lets; intro x; first | (refine Moves.mid (t := x) ?_ (fun hx => ?_) <;> [dsimp +zetaDelta only; clear_value x]) | clear_value x)
    | split

theorem execSenseModeWrite_moves (c : Fin 64) (x1 : Wr) (s : State) (hk : km &&& 0xFFAFFFF11FE70B = km) (hs : Moves km s0 s) :
    Moves km s0 (Out.left s (execSenseModeWrite c x1 s)) := by
  refine Moves.comp (k1 := 0xFFAFFFF11FE70B) ?_ hk hs
  unfold execSenseModeWrite
  repeat' first
    | with_reducible apply Moves.refl | with_reducible assumption | decide | ((with_reducible apply accessWrite_moves) <;> try intro _ _ _)
    | with_reducible apply senseModeAll_moves | with_reducible apply Moves.next

theorem execSenseRestart_moves (c : Fin 64) (x1 : Wr) (s : State) (hk : km &&& 0xFFAFFFF11FE70B = km) (hs : Moves km s0 s) :
    Moves km s0 (Out.left s (execSenseRestart c x1 s)) := by
  refine Moves.comp (k1 := 0xFFAFFFF11FE70B) ?_ hk hs
  unfold execSenseRestart
  repeat' first
    | with_reducible apply Moves.refl | with_reducible assumption | decide | ((with_reducible apply accessWrite_moves) <;> try intro _ _ _)
    | with_reducible apply senseRestartAll_moves | with_reducible apply Moves.next

theorem execGainCommit_moves (c : Fin 64) (x1 : Wr) (s : State) (hk : km &&& 0xFFAFFFF91FEF0B = km) (hs : Moves km s0 s) :
    Moves km s0 (Out.left s (execGainCommit c x1 s)) := by
  refine Moves.comp (k1 := 0xFFAFFFF91FEF0B) ?_ hk hs
  unfold execGainCommit
  repeat' first
    | with_reducible apply Moves.refl | with_reducible assumption | decide | ((with_reducible apply accessWrite_moves) <;> try intro _ _ _)
    | with_reducible apply gainAll_moves | with_reducible apply Moves.next

theorem execWheelModeWrite_moves (u : Fin 8) (x1 : Wr) (s : State) (hk : km &&& 0xFFAFFFF93FE70B = km) (hs : Moves km s0 s) :
    Moves km s0 (Out.left s (execWheelModeWrite u x1 s)) := by
  refine Moves.comp (k1 := 0xFFAFFFF93FE70B) ?_ hk hs
  unfold execWheelModeWrite
  repeat' first
    | with_reducible apply Moves.refl | with_reducible assumption | decide | ((with_reducible apply accessWrite_moves) <;> try intro _ _ _)
    | with_reducible apply wheelModeAll_moves | with_reducible apply Moves.next

theorem chargerEnableEff_moves (w' : Wr) (b' : Bool) (s' : State) (hk : km &&& 0xFFAFFFF93FFF6B = km) (hs : Moves km s0 s') :
    Moves km s0 (chargerEnableEff  w' b' s').2 := by
  refine Moves.comp (k1 := 0xFFAFFFF93FFF6B) ?_ hk hs
  unfold chargerEnableEff
  repeat' first
    | with_reducible apply Moves.refl | with_reducible assumption | decide | with_reducible apply State.later_moves
    | with_reducible apply State.keepOld_moves | with_reducible apply toStage_moves | with_reducible apply State.recall_moves
    | with_reducible apply settleAll_moves | with_reducible apply rej_moves | with_reducible apply acc_moves
    | with_reducible apply State.put_moves
    | (lift_lets; intro x; first | (refine Moves.mid (t := x) ?_ (fun hx => ?_) <;> [dsimp +zetaDelta only; clear_value x]) | clear_value x)
    | split

theorem chargerPlainEff_moves (i : ℕ) (j : ℕ) (w' : Wr) (b' : Bool) (s' : State) (hk : km &&& 0xFFAFFFF93FFF6B = km) (hs : Moves km s0 s') :
    Moves km s0 (chargerPlainEff i j w' b' s').2 := by
  refine Moves.comp (k1 := 0xFFAFFFF93FFF6B) ?_ hk hs
  unfold chargerPlainEff
  repeat' first
    | with_reducible apply Moves.refl | with_reducible assumption | decide | with_reducible apply State.later_moves
    | with_reducible apply State.keepOld_moves | with_reducible apply State.recall_moves | with_reducible apply restartSearch_moves
    | with_reducible apply settleAll_moves | with_reducible apply plainWrite_moves | with_reducible apply rej_moves
    | (with_reducible apply Moves.snd (by assumption))
    | (lift_lets; intro x; first | (refine Moves.mid (t := x) ?_ (fun hx => ?_) <;> [dsimp +zetaDelta only; clear_value x]) | clear_value x)
    | split

theorem pathEnableEff_moves (w' : Wr) (b' : Bool) (s' : State) (hk : km &&& 0xFFAFFFF93FFF6B = km) (hs : Moves km s0 s') :
    Moves km s0 (pathEnableEff  w' b' s').2 := by
  refine Moves.comp (k1 := 0xFFAFFFF93FFF6B) ?_ hk hs
  unfold pathEnableEff
  repeat' first
    | with_reducible apply Moves.refl | with_reducible assumption | decide | with_reducible apply State.later_moves
    | with_reducible apply State.keepOld_moves | with_reducible apply State.recall_moves | with_reducible apply settleAll_moves
    | with_reducible apply pathTo_moves | with_reducible apply acc_moves | with_reducible apply State.put_moves
    | (lift_lets; intro x; first | (refine Moves.mid (t := x) ?_ (fun hx => ?_) <;> [dsimp +zetaDelta only; clear_value x]) | clear_value x)
    | split | with_reducible apply Moves.of_chg

theorem switchCommandEff_moves (w' : Wr) (b' : Bool) (s' : State) (hk : km &&& 0xFFFFFFFDFFFFFB = km) (hs : Moves km s0 s') :
    Moves km s0 (switchCommandEff  w' b' s').2 := by
  refine Moves.comp (k1 := 0xFFFFFFFDFFFFFB) ?_ hk hs
  unfold switchCommandEff
  repeat' first
    | with_reducible apply Moves.refl | decide | with_reducible apply State.later_moves | with_reducible apply State.keepOld_moves
    | with_reducible apply acc_moves | with_reducible apply State.put_moves

theorem chargerClearEff_moves (w' : Wr) (b' : Bool) (s' : State) (hk : km &&& 0xFFFFFFFDFFFFFF = km) (hs : Moves km s0 s') :
    Moves km s0 (chargerClearEff  w' b' s').2 := by
  refine Moves.comp (k1 := 0xFFFFFFFDFFFFFF) ?_ hk hs
  unfold chargerClearEff
  repeat' first
    | with_reducible apply Moves.refl | decide | with_reducible apply State.later_moves | with_reducible apply acc_moves

theorem loadProfile_moves (s : State) (x1 : List ℤ) (x2 : ℕ) (hk : km &&& 0xFFFFFFFFFFFFFB = km) (hs : Moves km s0 s) :
    Moves km s0 (loadProfile s x1 x2) := by
  refine Moves.comp (k1 := 0xFFFFFFFFFFFFFB) ?_ hk hs
  clear hk hs
  induction x1 generalizing s x2 with
  | nil =>
    unfold loadProfile
    repeat' first
      | with_reducible apply Moves.refl | decide | refine Moves.trans ?_ (ih _ _) | with_reducible apply State.putI_moves
  | cons b l ih =>
    unfold loadProfile
    repeat' first
      | with_reducible apply Moves.refl | decide | refine Moves.trans ?_ (ih _ _) | with_reducible apply State.putI_moves

theorem chemistryEff_moves (w' : Wr) (b' : Bool) (s' : State) (hk : km &&& 0xFFBFFFFFFFFFFB = km) (hs : Moves km s0 s') :
    Moves km s0 (chemistryEff  w' b' s').2 := by
  refine Moves.comp (k1 := 0xFFBFFFFFFFFFFB) ?_ hk hs
  unfold chemistryEff
  repeat' first
    | with_reducible apply Moves.refl | with_reducible assumption | decide | with_reducible apply loadProfile_moves
    | with_reducible apply State.putBit_moves | with_reducible apply rej_moves | with_reducible apply acc_moves
    | with_reducible apply State.putN_moves | with_reducible apply State.put_moves
    | (lift_lets; intro x; first | (refine Moves.mid (t := x) ?_ (fun hx => ?_) <;> [dsimp +zetaDelta only; clear_value x]) | clear_value x)
    | split

theorem execChemistryWrite_moves (x0 : Wr) (s : State) (hk : km &&& 0xFFBFFFFFFFEF9B = km) (hs : Moves km s0 s) :
    Moves km s0 (Out.left s (execChemistryWrite x0 s)) := by
  refine Moves.comp (k1 := 0xFFBFFFFFFFEF9B) ?_ hk hs
  unfold execChemistryWrite
  repeat' first
    | with_reducible apply Moves.refl | with_reducible assumption | decide | ((with_reducible apply accessWrite_moves) <;> try intro _ _ _)
    | with_reducible apply chemistryEff_moves | with_reducible apply Moves.next

theorem execChargerEnable_moves (x0 : Wr) (s : State) (hk : km &&& 0xFFAFFFF93FEF0B = km) (hs : Moves km s0 s) :
    Moves km s0 (Out.left s (execChargerEnable x0 s)) := by
  refine Moves.comp (k1 := 0xFFAFFFF93FEF0B) ?_ hk hs
  unfold execChargerEnable
  repeat' first
    | with_reducible apply Moves.refl | with_reducible assumption | decide | ((with_reducible apply accessWrite_moves) <;> try intro _ _ _)
    | with_reducible apply chargerEnableEff_moves | with_reducible apply Moves.next

theorem execChargerClear_moves (x0 : Wr) (s : State) (hk : km &&& 0xFFBFFFFDFFEF9B = km) (hs : Moves km s0 s) :
    Moves km s0 (Out.left s (execChargerClear x0 s)) := by
  refine Moves.comp (k1 := 0xFFBFFFFDFFEF9B) ?_ hk hs
  unfold execChargerClear
  repeat' first
    | with_reducible apply Moves.refl | with_reducible assumption | decide | ((with_reducible apply accessWrite_moves) <;> try intro _ _ _)
    | with_reducible apply chargerClearEff_moves | with_reducible apply Moves.next

theorem absorbEnd_moves (s : State) (taper : Bool) (hk : km &&& 0xFFBFFFFDFFFFFB = km) (hs : Moves km s0 s) :
    Moves km s0 (absorbEnd s taper) := by
  refine Moves.comp (k1 := 0xFFBFFFFDFFFFFB) ?_ hk hs
  unfold absorbEnd
  repeat' first
    | with_reducible apply Moves.refl | with_reducible assumption | decide | with_reducible apply State.setBits_moves
    | (lift_lets; intro x; first | (refine Moves.mid (t := x) ?_ (fun hx => ?_) <;> [dsimp +zetaDelta only; clear_value x]) | clear_value x)
    | with_reducible apply Moves.of_chg

theorem stageRow_moves (s : State) {t0 : _} (ht : (stageRow s) = some t0) (hk : km &&& 0xFFBFFFFDFFFF7B = km) (hs : Moves km s0 s) :
    Moves km s0 t0 := by
  refine Moves.comp (k1 := 0xFFBFFFFDFFFF7B) ?_ hk hs
  clear hk hs
  revert ht
  fun_cases stageRow s
  all_goals intro ht
  all_goals first | contradiction | (injection ht with ht; subst ht) | skip
  all_goals repeat' first
    | with_reducible apply Moves.refl | decide | with_reducible apply absorbEnd_moves | with_reducible apply afterQualify_moves
    | with_reducible apply zeroChargeTime_moves | with_reducible apply chargeFault_moves | with_reducible apply toStage_moves
    | with_reducible apply State.setBits_moves

theorem stageChange_moves (s : State) {t0 : _} (ht : (stageChange s) = some t0) (hk : km &&& 0xFFBFFFF5FFFF7B = km) (hs : Moves km s0 s) :
    Moves km s0 t0 := by
  refine Moves.comp (k1 := 0xFFBFFFF5FFFF7B) ?_ hk hs
  clear hk hs
  unfold stageChange at ht
  try dsimp only at ht
  repeat' split at ht
  all_goals first | contradiction | skip
  all_goals first | (injection ht with ht; subst ht) | skip
  all_goals try dsimp only
  all_goals repeat' first
    | with_reducible apply Moves.refl | decide | with_reducible apply gaugeRemoval_moves
    | (with_reducible apply stageRow_moves; next => assumption) | with_reducible apply chargeAbsent_moves
    | with_reducible apply chargeIdle_moves | with_reducible apply chargeFault_moves | with_reducible apply setReason_moves

theorem execChargeStageChange_moves (s : State) (hk : km &&& 0xFFAFFFF13FFF6B = km) (hs : Moves km s0 s) :
    Moves km s0 (Out.left s (execChargeStageChange s)) := by
  refine Moves.comp (k1 := 0xFFAFFFF13FFF6B) ?_ hk hs
  unfold execChargeStageChange
  repeat' first
    | with_reducible apply Moves.refl | decide | (with_reducible apply stageChange_moves; next => assumption)
    | with_reducible apply settleAll_moves | with_reducible apply Moves.next | with_reducible apply Moves.when | split

theorem execCutbackEvaluation_moves (s : State) (hk : km &&& 0xFFAFFFF93FFF6B = km) (hs : Moves km s0 s) :
    Moves km s0 (Out.left s (execCutbackEvaluation s)) := by
  refine Moves.comp (k1 := 0xFFAFFFF93FFF6B) ?_ hk hs
  unfold execCutbackEvaluation
  repeat' first
    | with_reducible apply Moves.refl | decide | with_reducible apply settleAll_moves | with_reducible apply State.putI_moves
    | with_reducible apply State.setBits_moves | with_reducible apply Moves.when
    | (lift_lets; intro x; first | (refine Moves.mid (t := x) ?_ (fun hx => ?_) <;> [dsimp +zetaDelta only; clear_value x]) | clear_value x)
    | split | with_reducible apply Moves.of_chg

theorem execPowerPathEnable_moves (x0 : Wr) (s : State) (hk : km &&& 0xFFAFFFF93FEF0B = km) (hs : Moves km s0 s) :
    Moves km s0 (Out.left s (execPowerPathEnable x0 s)) := by
  refine Moves.comp (k1 := 0xFFAFFFF93FEF0B) ?_ hk hs
  unfold execPowerPathEnable
  repeat' first
    | with_reducible apply Moves.refl | with_reducible assumption | decide | ((with_reducible apply accessWrite_moves) <;> try intro _ _ _)
    | with_reducible apply pathEnableEff_moves | with_reducible apply Moves.next

theorem execSourcePresent_moves (s : State) (hk : km &&& 0xFFAFFFF93FFF6B = km) (hs : Moves km s0 s) :
    Moves km s0 (Out.left s (execSourcePresent s)) := by
  refine Moves.comp (k1 := 0xFFAFFFF93FFF6B) ?_ hk hs
  unfold execSourcePresent
  repeat' first
    | with_reducible apply Moves.refl | decide | with_reducible apply settleAll_moves | with_reducible apply pathTo_moves
    | with_reducible apply Moves.when

theorem execSourceLost_moves (s : State) (hk : km &&& 0xFFAFFFF93FFF6B = km) (hs : Moves km s0 s) :
    Moves km s0 (Out.left s (execSourceLost s)) := by
  refine Moves.comp (k1 := 0xFFAFFFF93FFF6B) ?_ hk hs
  unfold execSourceLost
  repeat' first
    | with_reducible apply Moves.refl | decide | with_reducible apply pathLose_moves | with_reducible apply settleAll_moves
    | with_reducible apply Moves.when

theorem execReturnDelayExpiry_moves (s : State) (hk : km &&& 0xFFAFFFF93FFF6B = km) (hs : Moves km s0 s) :
    Moves km s0 (Out.left s (execReturnDelayExpiry s)) := by
  refine Moves.comp (k1 := 0xFFAFFFF93FFF6B) ?_ hk hs
  unfold execReturnDelayExpiry
  repeat' first
    | with_reducible apply Moves.refl | decide | with_reducible apply pathStart_moves | with_reducible apply settleAll_moves
    | with_reducible apply Moves.when

theorem execOutage_moves (s : State) (hk : km &&& 0xFFAFFFF93FFF6B = km) (hs : Moves km s0 s) :
    Moves km s0 (Out.left s (execOutage s)) := by
  refine Moves.comp (k1 := 0xFFAFFFF93FFF6B) ?_ hk hs
  unfold execOutage
  repeat' first
    | with_reducible apply Moves.refl | decide | with_reducible apply settleAll_moves | with_reducible apply State.report_moves
    | with_reducible apply State.setBits_moves | with_reducible apply State.bump_moves | with_reducible apply Moves.when
    | (lift_lets; intro x; first | (refine Moves.mid (t := x) ?_ (fun hx => ?_) <;> [dsimp +zetaDelta only; clear_value x]) | clear_value x)
    | with_reducible apply Moves.of_chg

theorem execChgStartDelayExpiry_moves (s : State) (hk : km &&& 0xFFAFFFF93FFF6B = km) (hs : Moves km s0 s) :
    Moves km s0 (Out.left s (execChgStartDelayExpiry s)) := by
  refine Moves.comp (k1 := 0xFFAFFFF93FFF6B) ?_ hk hs
  unfold execChgStartDelayExpiry
  repeat' first
    | with_reducible apply Moves.refl | decide | with_reducible apply refusedStart_moves | with_reducible apply tryStart_moves
    | with_reducible apply settleAll_moves | with_reducible apply noteBound_moves | with_reducible apply Moves.when
    | (with_reducible apply Moves.snd (by assumption))
    | (lift_lets; intro x; first | (refine Moves.mid (t := x) ?_ (fun hx => ?_) <;> [dsimp +zetaDelta only; clear_value x]) | clear_value x)
    | split | with_reducible apply Moves.of_chg

theorem execSearchStepPeriod_moves (s : State) (hk : km &&& 0xFFAFFFF93FFF6B = km) (hs : Moves km s0 s) :
    Moves km s0 (Out.left s (execSearchStepPeriod s)) := by
  refine Moves.comp (k1 := 0xFFAFFFF93FFF6B) ?_ hk hs
  unfold execSearchStepPeriod
  repeat' first
    | with_reducible apply Moves.refl | with_reducible assumption | decide | with_reducible apply settleAll_moves
    | with_reducible apply State.putI_moves | with_reducible apply Moves.when
    | (lift_lets; intro x; first | (refine Moves.mid (t := x) ?_ (fun hx => ?_) <;> [dsimp +zetaDelta only; clear_value x]) | clear_value x)
    | with_reducible apply Moves.of_chg

theorem execSearchHoldExpiry_moves (s : State) (hk : km &&& 0xFFAFFFF93FFF6B = km) (hs : Moves km s0 s) :
    Moves km s0 (Out.left s (execSearchHoldExpiry s)) := by
  refine Moves.comp (k1 := 0xFFAFFFF93FFF6B) ?_ hk hs
  unfold execSearchHoldExpiry
  repeat' first
    | with_reducible apply Moves.refl | with_reducible assumption | decide | with_reducible apply settleAll_moves
    | with_reducible apply State.putN_moves | with_reducible apply Moves.when
    | (lift_lets; intro x; first | (refine Moves.mid (t := x) ?_ (fun hx => ?_) <;> [dsimp +zetaDelta only; clear_value x]) | clear_value x)
    | with_reducible apply Moves.of_chg

theorem execSwitchClose_moves (s : State) (hk : km &&& 0xFFAFFFF93FFF6B = km) (hs : Moves km s0 s) :
    Moves km s0 (Out.left s (execSwitchClose s)) := by
  refine Moves.comp (k1 := 0xFFAFFFF93FFF6B) ?_ hk hs
  unfold execSwitchClose
  repeat' first
    | with_reducible apply Moves.refl | with_reducible assumption | decide | with_reducible apply settleAll_moves
    | with_reducible apply contactorOps_moves | with_reducible apply State.bump_moves | with_reducible apply State.putN_moves
    | with_reducible apply Moves.when
    | (lift_lets; intro x; first | (refine Moves.mid (t := x) ?_ (fun hx => ?_) <;> [dsimp +zetaDelta only; clear_value x]) | clear_value x)
    | with_reducible apply Moves.of_aon

theorem execSwitchCommand_moves (x0 : Wr) (s : State) (hk : km &&& 0xFFBFFFFDFFEF9B = km) (hs : Moves km s0 s) :
    Moves km s0 (Out.left s (execSwitchCommand x0 s)) := by
  refine Moves.comp (k1 := 0xFFBFFFFDFFEF9B) ?_ hk hs
  unfold execSwitchCommand
  repeat' first
    | with_reducible apply Moves.refl | with_reducible assumption | decide | ((with_reducible apply accessWrite_moves) <;> try intro _ _ _)
    | with_reducible apply switchCommandEff_moves | with_reducible apply Moves.next

theorem execShutdownOpening_moves (s : State) (hk : km &&& 0xFFAFFFF93FFF6B = km) (hs : Moves km s0 s) :
    Moves km s0 (Out.left s (execShutdownOpening s)) := by
  refine Moves.comp (k1 := 0xFFAFFFF93FFF6B) ?_ hk hs
  unfold execShutdownOpening
  repeat' first
    | with_reducible apply Moves.refl | decide | with_reducible apply setReason_moves | with_reducible apply settleAll_moves
    | with_reducible apply State.report_moves | with_reducible apply State.setBits_moves | with_reducible apply Moves.when

theorem execButtonShortPress_moves (periods : ℕ) (s : State) (hk : km &&& 0xFFBFFFFFFFFFFB = km) (hs : Moves km s0 s) :
    Moves km s0 (Out.left s (execButtonShortPress periods s)) := by
  refine Moves.comp (k1 := 0xFFBFFFFFFFFFFB) ?_ hk hs
  unfold execButtonShortPress
  repeat' first
    | with_reducible apply Moves.refl | decide | with_reducible apply State.setBits_moves | with_reducible apply Moves.when

theorem execButtonLongPress_moves (periods : ℕ) (s : State) (hk : km &&& 0xFFFFFFFBFFFFFF = km) (hs : Moves km s0 s) :
    Moves km s0 (Out.left s (execButtonLongPress periods s)) := by
  refine Moves.comp (k1 := 0xFFFFFFFBFFFFFF) ?_ hk hs
  unfold execButtonLongPress
  repeat' first
    | with_reducible apply Moves.refl | decide | with_reducible apply State.d1Event_moves | with_reducible apply Moves.when
    | (lift_lets; intro x; first | (refine Moves.mid (t := x) ?_ (fun hx => ?_) <;> [dsimp +zetaDelta only; clear_value x]) | clear_value x)
    | with_reducible apply Moves.of_aon

theorem execWakeTaken_moves (s : State) (hk : km &&& 0xFFAFFFF93FFF6B = km) (hs : Moves km s0 s) :
    Moves km s0 (Out.left s (execWakeTaken s)) := by
  refine Moves.comp (k1 := 0xFFAFFFF93FFF6B) ?_ hk hs
  unfold execWakeTaken
  repeat' first
    | with_reducible apply Moves.refl | decide | with_reducible apply settleAll_moves | with_reducible apply State.clrBits_moves
    | with_reducible apply State.setBits_moves | with_reducible apply Moves.when
    | (lift_lets; intro x; first | (refine Moves.mid (t := x) ?_ (fun hx => ?_) <;> [dsimp +zetaDelta only; clear_value x]) | clear_value x)
    | split | with_reducible apply Moves.of_aon

theorem execButtonHeld10s_moves (periods : ℕ) (s : State) (hk : km &&& 0xFFFFFFFFFFFF7F = km) (hs : Moves km s0 s) :
    Moves km s0 (Out.left s (execButtonHeld10s periods s)) := by
  refine Moves.comp (k1 := 0xFFFFFFFFFFFF7F) ?_ hk hs
  unfold execButtonHeld10s
  repeat' first
    | with_reducible apply Moves.refl | decide | with_reducible apply State.report_moves | with_reducible apply Moves.when

theorem gaugeFallback_moves (s : State) (hk : km &&& 0xFFFFFFF7FFFFFB = km) (hs : Moves km s0 s) :
    Moves km s0 (gaugeFallback s) := by
  refine Moves.comp (k1 := 0xFFFFFFF7FFFFFB) ?_ hk hs
  unfold gaugeFallback
  repeat' first
    | with_reducible apply Moves.refl | with_reducible assumption | decide | with_reducible apply State.putInt64_moves
    | with_reducible apply State.modGauge_moves | with_reducible apply State.put_moves
    | (intro x; first | (refine Moves.mid (t := x) ?_ (fun hx => ?_) <;> [dsimp +zetaDelta only; clear_value x]) | clear_value x)
    | (lift_lets; intro x; first | (refine Moves.mid (t := x) ?_ (fun hx => ?_) <;> [dsimp +zetaDelta only; clear_value x]) | clear_value x)
    | split

theorem gaugeEnableEff_moves (w' : Wr) (b' : Bool) (s' : State) (hk : km &&& 0xFFBFFFF7FFFFFB = km) (hs : Moves km s0 s') :
    Moves km s0 (gaugeEnableEff  w' b' s').2 := by
  refine Moves.comp (k1 := 0xFFBFFFF7FFFFFB) ?_ hk hs
  unfold gaugeEnableEff
  repeat' first
    | with_reducible apply Moves.refl | with_reducible assumption | decide | with_reducible apply showGauge_moves
    | with_reducible apply gaugeFallback_moves | with_reducible apply setPending_moves | with_reducible apply gaugeCover_moves
    | with_reducible apply State.modGauge_moves | with_reducible apply acc_moves | with_reducible apply State.put_moves
    | (lift_lets; intro x; first | (refine Moves.mid (t := x) ?_ (fun hx => ?_) <;> [dsimp +zetaDelta only; clear_value x]) | clear_value x)
    | split

theorem gaugePlainEff_moves (i : ℕ) (j : ℕ) (w' : Wr) (b' : Bool) (s' : State) (hk : km &&& 0xFFBFFFF7FFFF7B = km) (hs : Moves km s0 s') :
    Moves km s0 (gaugePlainEff i j w' b' s').2 := by
  refine Moves.comp (k1 := 0xFFBFFFF7FFFF7B) ?_ hk hs
  unfold gaugePlainEff
  repeat' first
    | with_reducible apply Moves.refl | decide | with_reducible apply gaugePresence_moves | with_reducible apply plainWrite_moves
    | with_reducible apply rej_moves | (with_reducible apply Moves.snd (by assumption)) | split

theorem gaugeWriteEff_moves (w' : Wr) (b' : Bool) (s' : State) (hk : km &&& 0xFFBFBFFFFFFF7B = km) (hs : Moves km s0 s') :
    Moves km s0 (gaugeWriteEff  w' b' s').2 := by
  refine Moves.comp (k1 := 0xFFBFBFFFFFFF7B) ?_ hk hs
  unfold gaugeWriteEff
  repeat' first
    | with_reducible apply Moves.refl | decide | with_reducible apply requestRecord_moves | with_reducible apply acc_moves | split

theorem gaugePairEff_moves (i : ℕ) (j : ℕ) (x2 : DWord) (w' : Wr) (b' : Bool) (s' : State) (hk : km &&& 0xFFBFFFF7FFFFFB = km) (hs : Moves km s0 s') :
    Moves km s0 (gaugePairEff i j x2 w' b' s').2 := by
  refine Moves.comp (k1 := 0xFFBFFFF7FFFFFB) ?_ hk hs
  unfold gaugePairEff
  repeat' first
    | with_reducible apply Moves.refl | with_reducible assumption | decide | with_reducible apply addRc_moves
    | with_reducible apply plainPair_moves | with_reducible apply showGauge_moves | with_reducible apply State.modGauge_moves
    | with_reducible apply rej_moves | with_reducible apply acc_moves
    | (lift_lets; intro x; first | (refine Moves.mid (t := x) ?_ (fun hx => ?_) <;> [dsimp +zetaDelta only; clear_value x]) | clear_value x)
    | split

theorem execGaugeSecondStep_moves (s : State) (hk : km &&& 0xFFAFBFF5FFFF7B = km) (hs : Moves km s0 s) :
    Moves km s0 (Out.left s (execGaugeSecondStep s)) := by
  refine Moves.comp (k1 := 0xFFAFBFF5FFFF7B) ?_ hk hs
  unfold execGaugeSecondStep
  repeat' first
    | with_reducible apply Moves.refl | decide | with_reducible apply gaugeSecond_moves | with_reducible apply State.modGauge_moves
    | with_reducible apply Moves.when

theorem execGaugeEnable_moves (x0 : Wr) (s : State) (hk : km &&& 0xFFBFFFF7FFEF9B = km) (hs : Moves km s0 s) :
    Moves km s0 (Out.left s (execGaugeEnable x0 s)) := by
  refine Moves.comp (k1 := 0xFFBFFFF7FFEF9B) ?_ hk hs
  unfold execGaugeEnable
  repeat' first
    | with_reducible apply Moves.refl | with_reducible assumption | decide | ((with_reducible apply accessWrite_moves) <;> try intro _ _ _)
    | with_reducible apply gaugeEnableEff_moves | with_reducible apply Moves.next

theorem execGaugeWindow_moves (s : State) (hk : km &&& 0xFFBFFFF7FFFFFB = km) (hs : Moves km s0 s) :
    Moves km s0 (Out.left s (execGaugeWindow s)) := by
  refine Moves.comp (k1 := 0xFFBFFFF7FFFFFB) ?_ hk hs
  unfold execGaugeWindow
  repeat' first
    | with_reducible apply Moves.refl | decide | with_reducible apply gaugeWindow_moves | with_reducible apply State.modGauge_moves
    | with_reducible apply Moves.when

theorem execGaugeWriteCommand_moves (x0 : Wr) (s : State) (hk : km &&& 0xFFBFBFFFFFEF1B = km) (hs : Moves km s0 s) :
    Moves km s0 (Out.left s (execGaugeWriteCommand x0 s)) := by
  refine Moves.comp (k1 := 0xFFBFBFFFFFEF1B) ?_ hk hs
  unfold execGaugeWriteCommand
  repeat' first
    | with_reducible apply Moves.refl | with_reducible assumption | decide | ((with_reducible apply accessWrite_moves) <;> try intro _ _ _)
    | with_reducible apply gaugeWriteEff_moves | with_reducible apply Moves.next

theorem State.modTach_moves (s : State) (i : Nat) (f : Tacho → Tacho) (hk : km &&& 0xFFFFFFBFFFFFFF = km) (hs : Moves km s0 s) :
    Moves km s0 (s.modTach i f) :=
  Moves.of_tacho s _ (modAt_length _ _ _) hk hs

theorem gpioPlainEff_moves (j : ℕ) (w' : Wr) (b' : Bool) (s' : State) (hk : km &&& 0xFFFFFFBFFFFFFB = km) (hs : Moves km s0 s') :
    Moves km s0 (gpioPlainEff j w' b' s').2 := by
  refine Moves.comp (k1 := 0xFFFFFFBFFFFFFB) ?_ hk hs
  unfold gpioPlainEff
  repeat' first
    | with_reducible apply Moves.refl | decide | with_reducible apply State.modTach_moves | with_reducible apply plainWrite_moves
    | (with_reducible apply Moves.snd (by assumption)) | split

theorem State.modConv_moves (s : State) (i : Nat) (f : Converter → Converter) (hk : km &&& 0xFFFFFFDFFFFFFF = km) (hs : Moves km s0 s) :
    Moves km s0 (s.modConv i f) :=
  Moves.of_hka s _ (modAt_length _ _ _) hk hs

theorem scanAborted_moves (s : State) (k : ℕ) (hk : km &&& 0xFFBFFFFFFFFFFB = km) (hs : Moves km s0 s) :
    Moves km s0 (scanAborted s k) := by
  refine Moves.comp (k1 := 0xFFBFFFFFFFFFFB) ?_ hk hs
  unfold scanAborted
  repeat' first
    | with_reducible apply Moves.refl | decide | with_reducible apply State.bump_moves

theorem convDisable_moves (s : State) (k : ℕ) (hk : km &&& 0xFFBFFFDFFFFFFB = km) (hs : Moves km s0 s) :
    Moves km s0 (convDisable s k) := by
  refine Moves.comp (k1 := 0xFFBFFFDFFFFFFB) ?_ hk hs
  unfold convDisable
  repeat' first
    | with_reducible apply Moves.refl | with_reducible assumption | decide | with_reducible apply scanAborted_moves
    | with_reducible apply State.modConv_moves | with_reducible apply State.putN_moves
    | (intro x; first | (refine Moves.mid (t := x) ?_ (fun hx => ?_) <;> [dsimp +zetaDelta only; clear_value x]) | clear_value x)
    | (lift_lets; intro x; first | (refine Moves.mid (t := x) ?_ (fun hx => ?_) <;> [dsimp +zetaDelta only; clear_value x]) | clear_value x)
    | split

theorem startConv_moves (s : State) (k : ℕ) (hk : km &&& 0xFFFFFFDFFFFFFF = km) (hs : Moves km s0 s) :
    Moves km s0 (startConv s k) := by
  refine Moves.comp (k1 := 0xFFFFFFDFFFFFFF) ?_ hk hs
  unfold startConv
  repeat' first
    | with_reducible apply Moves.refl | decide | with_reducible apply State.modConv_moves

theorem convEnableEff_moves (k : ℕ) (w' : Wr) (b' : Bool) (s' : State) (hk : km &&& 0xFFBFFFDFFFFFFB = km) (hs : Moves km s0 s') :
    Moves km s0 (convEnableEff k w' b' s').2 := by
  refine Moves.comp (k1 := 0xFFBFFFDFFFFFFB) ?_ hk hs
  unfold convEnableEff
  repeat' first
    | with_reducible apply Moves.refl | with_reducible assumption | decide | with_reducible apply startConv_moves
    | with_reducible apply convDisable_moves | with_reducible apply acc_moves | with_reducible apply State.put_moves
    | (lift_lets; intro x; first | (refine Moves.mid (t := x) ?_ (fun hx => ?_) <;> [dsimp +zetaDelta only; clear_value x]) | clear_value x)
    | split

theorem convPlainEff_moves (k : ℕ) (j : ℕ) (w' : Wr) (b' : Bool) (s' : State) (hk : km &&& 0xFFFFFFFFFFFFFB = km) (hs : Moves km s0 s') :
    Moves km s0 (convPlainEff k j w' b' s').2 := by
  refine Moves.comp (k1 := 0xFFFFFFFFFFFFFB) ?_ hk hs
  unfold convPlainEff
  repeat' first
    | with_reducible apply Moves.refl | decide | with_reducible apply plainWrite_moves | with_reducible apply rej_moves | split

theorem triggerMissed_moves (s : State) (k : ℕ) (hk : km &&& 0xFFBFFFFFFFFFFB = km) (hs : Moves km s0 s) :
    Moves km s0 (triggerMissed s k) := by
  refine Moves.comp (k1 := 0xFFBFFFFFFFFFFB) ?_ hk hs
  unfold triggerMissed
  repeat' first
    | with_reducible apply Moves.refl | decide | with_reducible apply State.bump_moves

theorem trigger_moves (s : State) (k : ℕ) (bit : ℕ) (hk : km &&& 0xFFBFFFDFFFFFFB = km) (hs : Moves km s0 s) :
    Moves km s0 (trigger s k bit) := by
  refine Moves.comp (k1 := 0xFFBFFFDFFFFFFB) ?_ hk hs
  unfold trigger
  repeat' first
    | with_reducible apply Moves.refl | with_reducible assumption | decide | with_reducible apply triggerMissed_moves
    | with_reducible apply State.modConv_moves
    | (lift_lets; intro x; first | (refine Moves.mid (t := x) ?_ (fun hx => ?_) <;> [dsimp +zetaDelta only; clear_value x]) | clear_value x)
    | split

theorem softTriggerEff_moves (k : ℕ) (w' : Wr) (b' : Bool) (s' : State) (hk : km &&& 0xFFBFFFDFFFFFFB = km) (hs : Moves km s0 s') :
    Moves km s0 (softTriggerEff k w' b' s').2 := by
  refine Moves.comp (k1 := 0xFFBFFFDFFFFFFB) ?_ hk hs
  unfold softTriggerEff
  repeat' first
    | with_reducible apply Moves.refl | decide | with_reducible apply trigger_moves | with_reducible apply acc_moves

theorem convStopped_moves (s : State) (k : ℕ) (hk : km &&& 0xFFFFFFDFFFFFFF = km) (hs : Moves km s0 s) :
    Moves km s0 (convStopped s k) := by
  refine Moves.comp (k1 := 0xFFFFFFDFFFFFFF) ?_ hk hs
  unfold convStopped
  repeat' first
    | with_reducible apply Moves.refl | with_reducible assumption | decide | with_reducible apply startConv_moves
    | with_reducible apply State.modConv_moves
    | (lift_lets; intro x; first | (refine Moves.mid (t := x) ?_ (fun hx => ?_) <;> [dsimp +zetaDelta only; clear_value x]) | clear_value x)
    | split

theorem convertersAbort_moves (s : State) (hk : km &&& 0xFFBFFFDFFFFFFB = km) (hs : Moves km s0 s) :
    Moves km s0 (convertersAbort s) := by
  refine Moves.comp (k1 := 0xFFBFFFDFFFFFFB) ?_ hk hs
  unfold convertersAbort
  repeat' first
    | with_reducible apply Moves.refl | decide | with_reducible apply convStopped_moves | with_reducible apply scanAborted_moves
    | with_reducible apply State.modConv_moves | split | ((with_reducible apply Moves.foldl) <;> try intro _ _)

theorem execSoftwareTrigger_moves (k : Fin 4) (x1 : Wr) (s : State) (hk : km &&& 0xFFBFFFDFFFEF9B = km) (hs : Moves km s0 s) :
    Moves km s0 (Out.left s (execSoftwareTrigger k x1 s)) := by
  refine Moves.comp (k1 := 0xFFBFFFDFFFEF9B) ?_ hk hs
  unfold execSoftwareTrigger
  repeat' first
    | with_reducible apply Moves.refl | with_reducible assumption | decide | ((with_reducible apply accessWrite_moves) <;> try intro _ _ _)
    | with_reducible apply softTriggerEff_moves | with_reducible apply Moves.next

theorem execScanStart_moves (k : Fin 4) (s : State) (hk : km &&& 0xFFFFFFDFFFFFFF = km) (hs : Moves km s0 s) :
    Moves km s0 (Out.left s (execScanStart k s)) := by
  refine Moves.comp (k1 := 0xFFFFFFDFFFFFFF) ?_ hk hs
  unfold execScanStart
  repeat' first
    | with_reducible apply Moves.refl | decide | with_reducible apply State.modConv_moves | with_reducible apply Moves.next
    | with_reducible apply Moves.when
    | (intro x; first | (refine Moves.mid (t := x) ?_ (fun hx => ?_) <;> [dsimp +zetaDelta only; clear_value x]) | clear_value x)
    | (lift_lets; intro x; first | (refine Moves.mid (t := x) ?_ (fun hx => ?_) <;> [dsimp +zetaDelta only; clear_value x]) | clear_value x)
    | split

theorem tachStall_moves (s : State) (x1 : ℕ) (hk : km &&& 0xFFBFFFFFFFFFFB = km) (hs : Moves km s0 s) :
    Moves km s0 (tachStall s x1) := by
  refine Moves.comp (k1 := 0xFFBFFFFFFFFFFB) ?_ hk hs
  unfold tachStall
  repeat' first
    | with_reducible apply Moves.refl | decide | with_reducible apply State.setBits_moves | with_reducible apply State.put_moves

theorem execTachEdge_moves (x0 : Fin 8) (stable : ℕ) (s : State) (hk : km &&& 0xFFBFFFBFFFFFFB = km) (hs : Moves km s0 s) :
    Moves km s0 (Out.left s (execTachEdge x0 stable s)) := by
  refine Moves.comp (k1 := 0xFFBFFFBFFFFFFB) ?_ hk hs
  unfold execTachEdge
  repeat' first
    | with_reducible apply Moves.refl | decide | with_reducible apply tachStall_moves | with_reducible apply State.modTach_moves
    | with_reducible apply State.bump_moves | with_reducible apply State.putN_moves | with_reducible apply State.put_moves
    | with_reducible apply Moves.when
    | (lift_lets; intro x; first | (refine Moves.mid (t := x) ?_ (fun hx => ?_) <;> [dsimp +zetaDelta only; clear_value x]) | clear_value x)
    | split

theorem execConverterTrigger_moves (s : State) (hk : km &&& 0xFFBFFFDFFFF7FB = km) (hs : Moves km s0 s) :
    Moves km s0 (Out.left s (execConverterTrigger s)) := by
  refine Moves.comp (k1 := 0xFFBFFFDFFFF7FB) ?_ hk hs
  unfold execConverterTrigger
  repeat' first
    | with_reducible apply Moves.refl | with_reducible assumption | decide | ((with_reducible apply onActions_moves) <;> try intro _ _ _)
    | with_reducible apply trigger_moves | ((with_reducible apply Moves.foldl) <;> try intro _ _)

theorem execConverterTimer_moves (k : Fin 4) (s : State) (hk : km &&& 0xFFBFFFDFFFFFFB = km) (hs : Moves km s0 s) :
    Moves km s0 (Out.left s (execConverterTimer k s)) := by
  refine Moves.comp (k1 := 0xFFBFFFDFFFFFFB) ?_ hk hs
  unfold execConverterTimer
  repeat' first
    | with_reducible apply Moves.refl | decide | with_reducible apply trigger_moves | with_reducible apply State.modConv_moves
    | with_reducible apply Moves.when

theorem execTachStall_moves (x0 : Fin 8) (s : State) (hk : km &&& 0xFFBFFFBFFFFFFB = km) (hs : Moves km s0 s) :
    Moves km s0 (Out.left s (execTachStall x0 s)) := by
  refine Moves.comp (k1 := 0xFFBFFFBFFFFFFB) ?_ hk hs
  unfold execTachStall
  repeat' first
    | with_reducible apply Moves.refl | decide | with_reducible apply tachStall_moves | with_reducible apply State.modTach_moves
    | with_reducible apply Moves.when

theorem scanNext_moves (s : State) (k : ℕ) (rest : List ℕ) (hk : km &&& 0xFFBFFFDFFFFFFB = km) (hs : Moves km s0 s) :
    Moves km s0 (scanNext s k rest) := by
  refine Moves.comp (k1 := 0xFFBFFFDFFFFFFB) ?_ hk hs
  unfold scanNext
  repeat' first
    | with_reducible apply Moves.refl | decide | with_reducible apply convStopped_moves | with_reducible apply State.modConv_moves
    | with_reducible apply State.setBits_moves | split

theorem openCheck_moves (s : State) (k : ℕ) (i : ℕ) (code : ℤ) (hk : km &&& 0xFFBFFFFFFFFF7B = km) (hs : Moves km s0 s) :
    Moves km s0 (openCheck s k i code) := by
  refine Moves.comp (k1 := 0xFFBFFFFFFFFF7B) ?_ hk hs
  unfold openCheck
  repeat' first
    | with_reducible apply Moves.refl | decide | with_reducible apply State.clrBits_moves | with_reducible apply State.report_moves
    | with_reducible apply State.setBits_moves
    | (intro x; first | (refine Moves.mid (t := x) ?_ (fun hx => ?_) <;> [dsimp +zetaDelta only; clear_value x]) | clear_value x)
    | (lift_lets; intro x; first | (refine Moves.mid (t := x) ?_ (fun hx => ?_) <;> [dsimp +zetaDelta only; clear_value x]) | clear_value x)
    | split

theorem routeResult_moves (s : State) (k : ℕ) (word : ℕ) (sampled : ℕ) (hk : km &&& 0xFFBFFFDFFFFEFB = km) (hs : Moves km s0 s) :
    Moves km s0 (routeResult s k word sampled) := by
  refine Moves.comp (k1 := 0xFFBFFFDFFFFEFB) ?_ hk hs
  unfold routeResult
  repeat' first
    | with_reducible apply Moves.refl | decide | (with_reducible apply postToRole_moves; next => assumption)
    | with_reducible apply State.modConv_moves | with_reducible apply State.bump_moves
    | (lift_lets; intro x; first | (refine Moves.mid (t := x) ?_ (fun hx => ?_) <;> [dsimp +zetaDelta only; clear_value x]) | clear_value x)
    | split

theorem execConversionResult_moves (k : Fin 4) (v : ℤ) (x2 : ℤ) (s : State) (hk : km &&& 0xFFBFFFD7FFFE7B = km) (hs : Moves km s0 s) :
    Moves km s0 (Out.left s (execConversionResult k v x2 s)) := by
  refine Moves.comp (k1 := 0xFFBFFFD7FFFE7B) ?_ hk hs
  unfold execConversionResult
  dsimp only
  repeat' first
    | with_reducible apply Moves.refl | decide | with_reducible apply routeResult_moves | with_reducible apply openCheck_moves
    | with_reducible apply scanNext_moves | with_reducible apply gaugePresence_moves | with_reducible apply State.putN_moves
    | with_reducible apply Moves.next | with_reducible apply Moves.when | split

theorem execConverterEnable_moves (k : Fin 4) (x1 : Wr) (s : State) (hk : km &&& 0xFFBFFFDFFFEF9B = km) (hs : Moves km s0 s) :
    Moves km s0 (Out.left s (execConverterEnable k x1 s)) := by
  refine Moves.comp (k1 := 0xFFBFFFDFFFEF9B) ?_ hk hs
  unfold execConverterEnable
  repeat' first
    | with_reducible apply Moves.refl | with_reducible assumption | decide | ((with_reducible apply accessWrite_moves) <;> try intro _ _ _)
    | with_reducible apply convEnableEff_moves | with_reducible apply Moves.next

theorem resultLands_moves (s : State) (k : ℕ) (hk : km &&& 0xFFBFFFDFFFFF7B = km) (hs : Moves km s0 s) :
    Moves km s0 (resultLands s k) := by
  refine Moves.comp (k1 := 0xFFBFFFDFFFFF7B) ?_ hk hs
  unfold resultLands
  repeat' first
    | with_reducible apply Moves.refl | with_reducible assumption | decide | with_reducible apply State.modConv_moves
    | with_reducible apply State.report_moves | with_reducible apply State.setBits_moves | with_reducible apply State.bump_moves
    | with_reducible apply State.putN_moves
    | (intro x; first | (refine Moves.mid (t := x) ?_ (fun hx => ?_) <;> [dsimp +zetaDelta only; clear_value x]) | clear_value x)
    | (lift_lets; intro x; first | (refine Moves.mid (t := x) ?_ (fun hx => ?_) <;> [dsimp +zetaDelta only; clear_value x]) | clear_value x)
    | split

theorem resultsLand_moves (s : State) (hk : km &&& 0xFFBFFFDFFFFF7B = km) (hs : Moves km s0 s) :
    Moves km s0 (resultsLand s) := by
  refine Moves.comp (k1 := 0xFFBFFFDFFFFF7B) ?_ hk hs
  unfold resultsLand
  repeat' first
    | with_reducible apply Moves.refl | decide | with_reducible apply resultLands_moves
    | ((with_reducible apply Moves.foldl) <;> try intro _ _)

theorem State.modSeq_moves (s : State) (f : Sequencer → Sequencer) (hf : ∀ x, (f x).slots.length = x.slots.length) (hk : km &&& 0xFFFFFDFFFFFFFF = km) (hs : Moves km s0 s) :
    Moves km s0 (s.modSeq f) :=
  Moves.of_seq s _ (hf _) hk hs

theorem settleLines_moves (s : State) (hk : km &&& 0xFFBFFDFFFFFFFB = km) (hs : Moves km s0 s) :
    Moves km s0 (settleLines s) := by
  refine Moves.comp (k1 := 0xFFBFFDFFFFFFFB) ?_ hk hs
  unfold settleLines
  repeat' first
    | with_reducible apply Moves.refl | with_reducible assumption | decide | with_reducible apply State.modSeq_moves
    | with_reducible apply State.setBits_moves
    | (lift_lets; intro x; first | (refine Moves.mid (t := x) ?_ (fun hx => ?_) <;> [dsimp +zetaDelta only; clear_value x]) | clear_value x)
    | split | exact fun _ => rfl

theorem State.modGds_moves (s : State) (i : Nat) (f : GateSupply → GateSupply) (hk : km &&& 0xFFFFFEFFFFFFFF = km) (hs : Moves km s0 s) :
    Moves km s0 (s.modGds i f) :=
  Moves.of_gds s _ (modAt_length _ _ _) hk hs

theorem followGds_moves (s : State) (g : ℕ) (hk : km &&& 0xFFFFFEFFFFFFFF = km) (hs : Moves km s0 s) :
    Moves km s0 (followGds s g) := by
  refine Moves.comp (k1 := 0xFFFFFEFFFFFFFF) ?_ hk hs
  unfold followGds
  repeat' first
    | with_reducible apply Moves.refl | decide | with_reducible apply State.modGds_moves
    | (intro x; first | (refine Moves.mid (t := x) ?_ (fun hx => ?_) <;> [dsimp +zetaDelta only; clear_value x]) | clear_value x)
    | (lift_lets; intro x; first | (refine Moves.mid (t := x) ?_ (fun hx => ?_) <;> [dsimp +zetaDelta only; clear_value x]) | clear_value x)
    | split

theorem State.modReg_moves (s : State) (i : Nat) (f : Regulator → Regulator) (hk : km &&& 0xFFFFFF7FFFFFFF = km) (hs : Moves km s0 s) :
    Moves km s0 (s.modReg i f) :=
  Moves.of_sup s _ (modAt_length _ _ _) hk hs

theorem followReg_moves (s : State) (r : ℕ) (hk : km &&& 0xFFFFFF7FFFFFFF = km) (hs : Moves km s0 s) :
    Moves km s0 (followReg s r) := by
  refine Moves.comp (k1 := 0xFFFFFF7FFFFFFF) ?_ hk hs
  unfold followReg
  repeat' first
    | with_reducible apply Moves.refl | decide | with_reducible apply State.modReg_moves
    | (intro x; first | (refine Moves.mid (t := x) ?_ (fun hx => ?_) <;> [dsimp +zetaDelta only; clear_value x]) | clear_value x)
    | (lift_lets; intro x; first | (refine Moves.mid (t := x) ?_ (fun hx => ?_) <;> [dsimp +zetaDelta only; clear_value x]) | clear_value x)
    | split

theorem followTargets_moves (s : State) (hk : km &&& 0xFFFFFE7FFFFFFF = km) (hs : Moves km s0 s) :
    Moves km s0 (followTargets s) := by
  refine Moves.comp (k1 := 0xFFFFFE7FFFFFFF) ?_ hk hs
  unfold followTargets
  repeat' first
    | with_reducible apply Moves.refl | decide | with_reducible apply followReg_moves | with_reducible apply followGds_moves

theorem settleSlots_moves (s : State) (hk : km &&& 0xFFBFFC7FFFFFFB = km) (hs : Moves km s0 s) :
    Moves km s0 (settleSlots s) := by
  refine Moves.comp (k1 := 0xFFBFFC7FFFFFFB) ?_ hk hs
  unfold settleSlots
  repeat' first
    | with_reducible apply Moves.refl | decide | with_reducible apply followTargets_moves | with_reducible apply settleLines_moves
    | with_reducible apply State.putN_moves

theorem storageCheck_moves (s : State) (hk : km &&& 0xFFBFFFFDFFFFFB = km) (hs : Moves km s0 s) :
    Moves km s0 (storageCheck s) := by
  refine Moves.comp (k1 := 0xFFBFFFFDFFFFFB) ?_ hk hs
  unfold storageCheck
  repeat' first
    | with_reducible apply Moves.refl | decide | with_reducible apply setReason_moves
    | (lift_lets; intro x; first | (refine Moves.mid (t := x) ?_ (fun hx => ?_) <;> [dsimp +zetaDelta only; clear_value x]) | clear_value x)
    | split | with_reducible apply Moves.of_chg

theorem finishDown_moves (s : State) (hk : km &&& 0xFFBFFDFDFFFFFB = km) (hs : Moves km s0 s) :
    Moves km s0 (finishDown s) := by
  refine Moves.comp (k1 := 0xFFBFFDFDFFFFFB) ?_ hk hs
  unfold finishDown
  repeat' first
    | with_reducible apply Moves.refl | decide | with_reducible apply storageCheck_moves | with_reducible apply State.modSeq_moves
    | with_reducible apply State.setBits_moves | with_reducible apply State.putN_moves | exact fun _ => rfl

theorem State.modSlot_moves (s : State) (i : Nat) (f : Slot → Slot) (hk : km &&& 0xFFFFFDFFFFFFFF = km) (hs : Moves km s0 s) :
    Moves km s0 (s.modSlot i f) :=
  Moves.of_seq s _ (modAt_length _ _ _) hk hs

theorem setOutput_moves (s : State) (j : ℕ) (v : Bool) (hk : km &&& 0xFFAFFDFFFFFF6B = km) (hs : Moves km s0 s) :
    Moves km s0 (setOutput s j v) := by
  refine Moves.comp (k1 := 0xFFAFFDFFFFFF6B) ?_ hk hs
  unfold setOutput
  repeat' first
    | with_reducible apply Moves.refl | with_reducible assumption | decide | with_reducible apply State.modSlot_moves
    | with_reducible apply contactorOps_moves
    | (lift_lets; intro x; first | (refine Moves.mid (t := x) ?_ (fun hx => ?_) <;> [dsimp +zetaDelta only; clear_value x]) | clear_value x)
    | split

theorem dropOutput_moves (s : State) (j : ℕ) (hk : km &&& 0xFFAFFDFFFFFF6B = km) (hs : Moves km s0 s) :
    Moves km s0 (dropOutput s j) := by
  refine Moves.comp (k1 := 0xFFAFFDFFFFFF6B) ?_ hk hs
  unfold dropOutput
  repeat' first
    | with_reducible apply Moves.refl | decide | with_reducible apply setOutput_moves

theorem fastPosition_moves (s : State) (hk : km &&& 0xFFAFFDFDFFFF6B = km) (hs : Moves km s0 s) :
    Moves km s0 (fastPosition s) := by
  refine Moves.comp (k1 := 0xFFAFFDFDFFFF6B) ?_ hk hs
  unfold fastPosition
  repeat' first
    | with_reducible apply Moves.refl | decide | with_reducible apply dropOutput_moves | with_reducible apply finishDown_moves
    | with_reducible apply State.putN_moves | split | ((with_reducible apply Moves.foldl) <;> try intro _ _)

theorem dropWaiting_moves (s : State) (hk : km &&& 0xFFFFFFFFFFFFFB = km) (hs : Moves km s0 s) :
    Moves km s0 (dropWaiting s) := by
  refine Moves.comp (k1 := 0xFFFFFFFFFFFFFB) ?_ hk hs
  unfold dropWaiting
  repeat' first
    | with_reducible apply Moves.refl | decide | with_reducible apply State.putN_moves | split
    | ((with_reducible apply Moves.foldl) <;> try intro _ _)

theorem startDown_moves (s : State) (fast : Bool) (hk : km &&& 0xFFAFFC7DFFFF6B = km) (hs : Moves km s0 s) :
    Moves km s0 (startDown s fast) := by
  refine Moves.comp (k1 := 0xFFAFFC7DFFFF6B) ?_ hk hs
  unfold startDown
  repeat' first
    | with_reducible apply Moves.refl | with_reducible assumption | decide | with_reducible apply dropWaiting_moves
    | with_reducible apply fastPosition_moves | with_reducible apply finishDown_moves | with_reducible apply settleSlots_moves
    | with_reducible apply State.modSeq_moves | with_reducible apply State.bump_moves | with_reducible apply State.putN_moves
    | (lift_lets; intro x; first | (refine Moves.mid (t := x) ?_ (fun hx => ?_) <;> [dsimp +zetaDelta only; clear_value x]) | clear_value x)
    | split | exact fun _ => rfl

theorem takePosition_moves (s : State) (p : ℕ) (hk : km &&& 0xFFFFFDFFFFFFFB = km) (hs : Moves km s0 s) :
    Moves km s0 (takePosition s p) := by
  refine Moves.comp (k1 := 0xFFFFFDFFFFFFFB) ?_ hk hs
  unfold takePosition
  repeat' first
    | with_reducible apply Moves.refl | with_reducible assumption | decide | with_reducible apply State.modSeq_moves
    | with_reducible apply State.putN_moves
    | (lift_lets; intro x; first | (refine Moves.mid (t := x) ?_ (fun hx => ?_) <;> [dsimp +zetaDelta only; clear_value x]) | clear_value x)
    | split | exact fun _ => rfl

theorem startUp_moves (s : State) (hk : km &&& 0xFFBFFDFFFFFFFB = km) (hs : Moves km s0 s) :
    Moves km s0 (startUp s) := by
  refine Moves.comp (k1 := 0xFFBFFDFFFFFFFB) ?_ hk hs
  unfold startUp
  repeat' first
    | with_reducible apply Moves.refl | with_reducible assumption | decide | with_reducible apply takePosition_moves
    | with_reducible apply State.modSeq_moves | with_reducible apply State.setBits_moves | with_reducible apply State.bump_moves
    | with_reducible apply State.putN_moves
    | (lift_lets; intro x; first | (refine Moves.mid (t := x) ?_ (fun hx => ?_) <;> [dsimp +zetaDelta only; clear_value x]) | clear_value x)
    | split | ((with_reducible apply Moves.foldl) <;> try intro _ _) | exact fun _ => rfl

theorem seqOff_moves (s : State) (hk : km &&& 0xFFAFFC7DFFFF6B = km) (hs : Moves km s0 s) :
    Moves km s0 (seqOff s) := by
  refine Moves.comp (k1 := 0xFFAFFC7DFFFF6B) ?_ hk hs
  unfold seqOff
  repeat' first
    | with_reducible apply Moves.refl | decide | with_reducible apply dropOutput_moves | with_reducible apply storageCheck_moves
    | with_reducible apply settleSlots_moves | with_reducible apply State.modSeq_moves | with_reducible apply State.putN_moves
    | ((with_reducible apply Moves.foldl) <;> try intro _ _) | exact fun _ => rfl

theorem restartDrivers_moves (s : State) (hk : km &&& 0xFFBFFC7FFFFFFB = km) (hs : Moves km s0 s) :
    Moves km s0 (restartDrivers s) := by
  refine Moves.comp (k1 := 0xFFBFFC7FFFFFFB) ?_ hk hs
  unfold restartDrivers
  repeat' first
    | with_reducible apply Moves.refl | decide | with_reducible apply settleSlots_moves | with_reducible apply State.modGds_moves | split
    | ((with_reducible apply Moves.foldl) <;> try intro _ _)

theorem downAction_moves (s : State) (code : ℕ) (hk : km &&& 0xFFAFFC7DFFFF6B = km) (hs : Moves km s0 s) :
    Moves km s0 (downAction s code) := by
  refine Moves.comp (k1 := 0xFFAFFC7DFFFF6B) ?_ hk hs
  unfold downAction
  repeat' first
    | with_reducible apply Moves.refl | decide | with_reducible apply startDown_moves | split

theorem slotCause_moves (s : State) (j : ℕ) (cause : ℕ) (hk : km &&& 0xFFFFFFFFFFFFFB = km) (hs : Moves km s0 s) :
    Moves km s0 (slotCause s j cause) := by
  refine Moves.comp (k1 := 0xFFFFFFFFFFFFFB) ?_ hk hs
  unfold slotCause
  repeat' first
    | with_reducible apply Moves.refl | decide | with_reducible apply State.putN_moves | with_reducible apply State.put_moves | split

theorem upSettle_moves (s : State) (hk : km &&& 0xFFBFFDFFFFFFFB = km) (hs : Moves km s0 s) :
    Moves km s0 (upSettle s) := by
  refine Moves.comp (k1 := 0xFFBFFDFFFFFFFB) ?_ hk hs
  unfold upSettle
  repeat' first
    | with_reducible apply Moves.refl | decide | with_reducible apply takePosition_moves | with_reducible apply State.setBits_moves
    | with_reducible apply State.putN_moves | split

theorem failSlot_moves (s : State) (j : ℕ) (cause : ℕ) (hk : km &&& 0xFFAFFC7DFFFF6B = km) (hs : Moves km s0 s) :
    Moves km s0 (failSlot s j cause) := by
  refine Moves.comp (k1 := 0xFFAFFC7DFFFF6B) ?_ hk hs
  unfold failSlot
  repeat' first
    | with_reducible apply Moves.refl | decide | with_reducible apply upSettle_moves | with_reducible apply slotCause_moves
    | with_reducible apply startDown_moves | with_reducible apply dropWaiting_moves | with_reducible apply dropOutput_moves
    | with_reducible apply storageCheck_moves | with_reducible apply settleSlots_moves | with_reducible apply State.modSeq_moves
    | with_reducible apply State.report_moves | with_reducible apply State.setBits_moves | with_reducible apply State.bump_moves
    | with_reducible apply State.putN_moves | split | exact fun _ => rfl

theorem targetFault_moves (s : State) (target : ℕ) (hk : km &&& 0xFFAFFC7DFFFF6B = km) (hs : Moves km s0 s) :
    Moves km s0 (targetFault s target) := by
  refine Moves.comp (k1 := 0xFFAFFC7DFFFF6B) ?_ hk hs
  unfold targetFault
  repeat' first
    | with_reducible apply Moves.refl | decide | with_reducible apply failSlot_moves | with_reducible apply settleSlots_moves | split
    | ((with_reducible apply Moves.foldl) <;> try intro _ _)

theorem downSettle_moves (s : State) (hk : km &&& 0xFFBFFDFDFFFFFB = km) (hs : Moves km s0 s) :
    Moves km s0 (downSettle s) := by
  refine Moves.comp (k1 := 0xFFBFFDFDFFFFFB) ?_ hk hs
  unfold downSettle
  repeat' first
    | with_reducible apply Moves.refl | decide | with_reducible apply finishDown_moves | with_reducible apply State.modSeq_moves
    | with_reducible apply State.putN_moves
    | (intro x; first | (refine Moves.mid (t := x) ?_ (fun hx => ?_) <;> [dsimp +zetaDelta only; clear_value x]) | clear_value x)
    | (lift_lets; intro x; first | (refine Moves.mid (t := x) ?_ (fun hx => ?_) <;> [dsimp +zetaDelta only; clear_value x]) | clear_value x)
    | split | exact fun _ => rfl

theorem slotIsGood_moves (s : State) (j : ℕ) (hk : km &&& 0xFFBFFC7FFFFFFB = km) (hs : Moves km s0 s) :
    Moves km s0 (slotIsGood s j) := by
  refine Moves.comp (k1 := 0xFFBFFC7FFFFFFB) ?_ hk hs
  unfold slotIsGood
  repeat' first
    | with_reducible apply Moves.refl | decide | with_reducible apply upSettle_moves | with_reducible apply settleSlots_moves
    | with_reducible apply State.putN_moves

theorem targetGood_moves (s : State) (target : ℕ) (hk : km &&& 0xFFBFFC7FFFFFFB = km) (hs : Moves km s0 s) :
    Moves km s0 (targetGood s target) := by
  refine Moves.comp (k1 := 0xFFBFFC7FFFFFFB) ?_ hk hs
  unfold targetGood
  repeat' first
    | with_reducible apply Moves.refl | decide | with_reducible apply slotIsGood_moves | with_reducible apply settleSlots_moves | split
    | ((with_reducible apply Moves.foldl) <;> try intro _ _)

theorem seqTick_moves (s : State) (hk : km &&& 0xFFFFFFFFFFFFFB = km) (hs : Moves km s0 s) :
    Moves km s0 (seqTick s) := by
  refine Moves.comp (k1 := 0xFFFFFFFFFFFFFB) ?_ hk hs
  unfold seqTick
  repeat' first
    | with_reducible apply Moves.refl | decide | with_reducible apply State.sub_moves | split
    | ((with_reducible apply Moves.foldl) <;> try intro _ _)

theorem fastCycle_moves (s : State) (hk : km &&& 0xFFAFFC7DFFFF6B = km) (hs : Moves km s0 s) :
    Moves km s0 (fastCycle s) := by
  refine Moves.comp (k1 := 0xFFAFFC7DFFFF6B) ?_ hk hs
  unfold fastCycle
  repeat' first
    | with_reducible apply Moves.refl | decide | with_reducible apply fastPosition_moves | with_reducible apply settleSlots_moves | split

theorem slotPlainEff_moves (slot : ℕ) (j : ℕ) (w' : Wr) (b' : Bool) (s' : State) (hk : km &&& 0xFFBFFC7FFFFFFB = km) (hs : Moves km s0 s') :
    Moves km s0 (slotPlainEff slot j w' b' s').2 := by
  refine Moves.comp (k1 := 0xFFBFFC7FFFFFFB) ?_ hk hs
  unfold slotPlainEff
  repeat' first
    | with_reducible apply Moves.refl | decide | with_reducible apply settleSlots_moves | with_reducible apply plainWrite_moves
    | with_reducible apply rej_moves | split

theorem clearSequencer_moves (s : State) (hk : km &&& 0xFFBFFC7FFFFFFB = km) (hs : Moves km s0 s) :
    Moves km s0 (clearSequencer s) := by
  refine Moves.comp (k1 := 0xFFBFFC7FFFFFFB) ?_ hk hs
  unfold clearSequencer
  repeat' first
    | with_reducible apply Moves.refl | with_reducible assumption | decide | with_reducible apply settleSlots_moves
    | with_reducible apply State.modSeq_moves | with_reducible apply State.putN_moves | with_reducible apply State.put_moves
    | (lift_lets; intro x; first | (refine Moves.mid (t := x) ?_ (fun hx => ?_) <;> [dsimp +zetaDelta only; clear_value x]) | clear_value x)
    | split | ((with_reducible apply Moves.foldl) <;> try intro _ _) | exact fun _ => rfl

theorem sequencerEff_moves (w' : Wr) (b' : Bool) (s' : State) (hk : km &&& 0xFFAFFC793FFF6B = km) (hs : Moves km s0 s') :
    Moves km s0 (sequencerEff  w' b' s').2 := by
  refine Moves.comp (k1 := 0xFFAFFC793FFF6B) ?_ hk hs
  unfold sequencerEff
  repeat' first
    | with_reducible apply Moves.refl | decide | with_reducible apply startUp_moves | with_reducible apply clearSequencer_moves
    | with_reducible apply startDown_moves | with_reducible apply settleSlots_moves | with_reducible apply settleAll_moves
    | with_reducible apply rej_moves | with_reducible apply acc_moves | split

theorem sequencerEnableEff_moves (w' : Wr) (b' : Bool) (s' : State) (hk : km &&& 0xFFAFFC793FFF6B = km) (hs : Moves km s0 s') :
    Moves km s0 (sequencerEnableEff  w' b' s').2 := by
  refine Moves.comp (k1 := 0xFFAFFC793FFF6B) ?_ hk hs
  unfold sequencerEnableEff
  repeat' first
    | with_reducible apply Moves.refl | decide | with_reducible apply seqOff_moves | with_reducible apply settleAll_moves
    | with_reducible apply acc_moves | with_reducible apply State.put_moves | split

theorem driverEff_moves (w' : Wr) (b' : Bool) (s' : State) (hk : km &&& 0xFFBFFC7FFFFFFB = km) (hs : Moves km s0 s') :
    Moves km s0 (driverEff  w' b' s').2 := by
  refine Moves.comp (k1 := 0xFFBFFC7FFFFFFB) ?_ hk hs
  unfold driverEff
  repeat' first
    | with_reducible apply Moves.refl | decide | with_reducible apply settleSlots_moves | with_reducible apply State.store_moves
    | with_reducible apply acc_moves

theorem suppliesPlainEff_moves (j : ℕ) (w' : Wr) (b' : Bool) (s' : State) (hk : km &&& 0xFFFFFFFFFFFFFB = km) (hs : Moves km s0 s') :
    Moves km s0 (suppliesPlainEff j w' b' s').2 := by
  refine Moves.comp (k1 := 0xFFFFFFFFFFFFFB) ?_ hk hs
  unfold suppliesPlainEff
  repeat' first
    | with_reducible apply Moves.refl | decide | with_reducible apply plainWrite_moves | with_reducible apply rej_moves | split

theorem regulatorEff_moves (r : ℕ) (w' : Wr) (b' : Bool) (s' : State) (hk : km &&& 0xFFBFFC7FFFFFFB = km) (hs : Moves km s0 s') :
    Moves km s0 (regulatorEff r w' b' s').2 := by
  refine Moves.comp (k1 := 0xFFBFFC7FFFFFFB) ?_ hk hs
  unfold regulatorEff
  repeat' first
    | with_reducible apply Moves.refl | decide | with_reducible apply settleSlots_moves | with_reducible apply acc_moves
    | with_reducible apply State.put_moves

theorem sequencerPlainEff_moves (i : ℕ) (j : ℕ) (w' : Wr) (b' : Bool) (s' : State) (hk : km &&& 0xFFBFFC7FFFFFFB = km) (hs : Moves km s0 s') :
    Moves km s0 (sequencerPlainEff i j w' b' s').2 := by
  refine Moves.comp (k1 := 0xFFBFFC7FFFFFFB) ?_ hk hs
  unfold sequencerPlainEff
  repeat' first
    | with_reducible apply Moves.refl | decide | with_reducible apply settleSlots_moves | with_reducible apply plainWrite_moves

theorem storageEff_moves (w' : Wr) (b' : Bool) (s' : State) (hk : km &&& 0xFFFFFFFDFFFFFF = km) (hs : Moves km s0 s') :
    Moves km s0 (storageEff  w' b' s').2 := by
  refine Moves.comp (k1 := 0xFFFFFFFDFFFFFF) ?_ hk hs
  unfold storageEff
  repeat' first
    | with_reducible apply Moves.refl | decide | with_reducible apply State.later_moves | with_reducible apply acc_moves

theorem execReadyLoss_moves (held : ℕ) (s : State) (hk : km &&& 0xFFAFFC793FFF6B = km) (hs : Moves km s0 s) :
    Moves km s0 (Out.left s (execReadyLoss held s)) := by
  refine Moves.comp (k1 := 0xFFAFFC793FFF6B) ?_ hk hs
  unfold execReadyLoss
  repeat' first
    | with_reducible apply Moves.refl | decide | with_reducible apply startDown_moves | with_reducible apply State.modSeq_moves
    | with_reducible apply settleAll_moves | with_reducible apply State.setBits_moves | with_reducible apply Moves.when | split
    | exact fun _ => rfl

theorem execReadyRelease_moves (held : ℕ) (s : State) (hk : km &&& 0xFFBFFC7FFFFFFB = km) (hs : Moves km s0 s) :
    Moves km s0 (Out.left s (execReadyRelease held s)) := by
  refine Moves.comp (k1 := 0xFFBFFC7FFFFFFB) ?_ hk hs
  unfold execReadyRelease
  repeat' first
    | with_reducible apply Moves.refl | with_reducible assumption | decide | with_reducible apply settleSlots_moves
    | with_reducible apply State.modSeq_moves | with_reducible apply State.setBits_moves | with_reducible apply State.putN_moves
    | with_reducible apply Moves.next | with_reducible apply Moves.when
    | (lift_lets; intro x; first | (refine Moves.mid (t := x) ?_ (fun hx => ?_) <;> [dsimp +zetaDelta only; clear_value x]) | clear_value x)
    | split | exact fun _ => rfl

theorem execRegulatorFault_moves (r : Fin 3) (level : ℕ) (held : ℕ) (s : State) (hk : km &&& 0xFFAFFC7DFFFF6B = km) (hs : Moves km s0 s) :
    Moves km s0 (Out.left s (execRegulatorFault r level held s)) := by
  refine Moves.comp (k1 := 0xFFAFFC7DFFFF6B) ?_ hk hs
  unfold execRegulatorFault
  repeat' first
    | with_reducible apply Moves.refl | decide | with_reducible apply targetFault_moves | with_reducible apply State.modReg_moves
    | with_reducible apply State.report_moves | with_reducible apply State.setBits_moves | with_reducible apply State.bump_moves
    | with_reducible apply Moves.when | split

theorem execSlotDownDelayExpiry_moves (j : Fin 16) (s : State) (hk : km &&& 0xFFAFFC793FFF6B = km) (hs : Moves km s0 s) :
    Moves km s0 (Out.left s (execSlotDownDelayExpiry j s)) := by
  refine Moves.comp (k1 := 0xFFAFFC793FFF6B) ?_ hk hs
  unfold execSlotDownDelayExpiry
  repeat' first
    | with_reducible apply Moves.refl | decide | with_reducible apply downSettle_moves | with_reducible apply dropOutput_moves
    | with_reducible apply settleSlots_moves | with_reducible apply settleAll_moves | with_reducible apply State.putN_moves
    | with_reducible apply Moves.when | split

theorem execSequencerUp_moves (x0 : Wr) (s : State) (hk : km &&& 0xFFAFFC793FEF0B = km) (hs : Moves km s0 s) :
    Moves km s0 (Out.left s (execSequencerUp x0 s)) := by
  refine Moves.comp (k1 := 0xFFAFFC793FEF0B) ?_ hk hs
  unfold execSequencerUp
  repeat' first
    | with_reducible apply Moves.refl | with_reducible assumption | decide | ((with_reducible apply accessWrite_moves) <;> try intro _ _ _)
    | with_reducible apply sequencerEff_moves | with_reducible apply Moves.next

theorem execFltlineFault_moves (low : Bool) (held : ℕ) (s : State) (hk : km &&& 0xFFAFFC793FFF6B = km) (hs : Moves km s0 s) :
    Moves km s0 (Out.left s (execFltlineFault low held s)) := by
  refine Moves.comp (k1 := 0xFFAFFC793FFF6B) ?_ hk hs
  unfold execFltlineFault
  repeat' first
    | with_reducible apply Moves.refl | decide | with_reducible apply downAction_moves | with_reducible apply settleLines_moves
    | with_reducible apply State.modSeq_moves | with_reducible apply settleAll_moves | with_reducible apply State.report_moves
    | with_reducible apply State.setBits_moves | with_reducible apply State.bump_moves | with_reducible apply Moves.next | split
    | exact fun _ => rfl

theorem execDriverSoftStartEnd_moves (g : Fin 2) (s : State) (hk : km &&& 0xFFBFFC7FFFFFFB = km) (hs : Moves km s0 s) :
    Moves km s0 (Out.left s (execDriverSoftStartEnd g s)) := by
  refine Moves.comp (k1 := 0xFFBFFC7FFFFFFB) ?_ hk hs
  unfold execDriverSoftStartEnd
  repeat' first
    | with_reducible apply Moves.refl | decide | with_reducible apply targetGood_moves | with_reducible apply State.modGds_moves
    | with_reducible apply Moves.when

theorem execRegulatorEnable_moves (r : Fin 3) (x1 : Wr) (s : State) (hk : km &&& 0xFFBFFC7FFFEF9B = km) (hs : Moves km s0 s) :
    Moves km s0 (Out.left s (execRegulatorEnable r x1 s)) := by
  refine Moves.comp (k1 := 0xFFBFFC7FFFEF9B) ?_ hk hs
  unfold execRegulatorEnable
  repeat' first
    | with_reducible apply Moves.refl | with_reducible assumption | decide | ((with_reducible apply accessWrite_moves) <;> try intro _ _ _)
    | with_reducible apply regulatorEff_moves | with_reducible apply Moves.next

theorem State.modSup_moves (s : State) (f : Supplies → Supplies) (hf : ∀ x, (f x).regs.length = x.regs.length) (hk : km &&& 0xFFFFFF7FFFFFFF = km) (hs : Moves km s0 s) :
    Moves km s0 (s.modSup f) :=
  Moves.of_sup s _ (hf _) hk hs

theorem execVddioRestored_moves (mv : ℕ) (held : ℕ) (s : State) (hk : km &&& 0xFFFFFF7FFFFFFF = km) (hs : Moves km s0 s) :
    Moves km s0 (Out.left s (execVddioRestored mv held s)) := by
  refine Moves.comp (k1 := 0xFFFFFF7FFFFFFF) ?_ hk hs
  unfold execVddioRestored
  repeat' first
    | with_reducible apply Moves.refl | decide | with_reducible apply State.modSup_moves | with_reducible apply Moves.when
    | exact fun _ => rfl

theorem supervisorEvent_moves (s : State) (mask : ℕ) (hk : km &&& 0xFFBFFFFFFFFF7B = km) (hs : Moves km s0 s) :
    Moves km s0 (supervisorEvent s mask) := by
  refine Moves.comp (k1 := 0xFFBFFFFFFFFF7B) ?_ hk hs
  unfold supervisorEvent
  repeat' first
    | with_reducible apply Moves.refl | decide | with_reducible apply State.report_moves | with_reducible apply State.setBits_moves
    | with_reducible apply State.bump_moves | split

theorem execVauxOvervoltage_moves (mv : ℕ) (held : ℕ) (s : State) (hk : km &&& 0xFFBFFF7FFFFF7B = km) (hs : Moves km s0 s) :
    Moves km s0 (Out.left s (execVauxOvervoltage mv held s)) := by
  refine Moves.comp (k1 := 0xFFBFFF7FFFFF7B) ?_ hk hs
  unfold execVauxOvervoltage
  repeat' first
    | with_reducible apply Moves.refl | decide | with_reducible apply supervisorEvent_moves | with_reducible apply State.modSup_moves
    | with_reducible apply Moves.when | exact fun _ => rfl

theorem storageRequest_moves (s : State) (hk : km &&& 0xFFAFFC7DFFFF6B = km) (hs : Moves km s0 s) :
    Moves km s0 (storageRequest s) := by
  refine Moves.comp (k1 := 0xFFAFFC7DFFFF6B) ?_ hk hs
  unfold storageRequest
  repeat' first
    | with_reducible apply Moves.refl | with_reducible assumption | decide | with_reducible apply startDown_moves
    | with_reducible apply storageCheck_moves | with_reducible apply State.setBits_moves
    | (lift_lets; intro x; first | (refine Moves.mid (t := x) ?_ (fun hx => ?_) <;> [dsimp +zetaDelta only; clear_value x]) | clear_value x)
    | split | with_reducible apply Moves.of_chg

theorem chargeCommand_moves (s : State) (c : ChargeWrite) (hk : km &&& 0xFFAFFC7D3FFF6B = km) (hs : Moves km s0 s) :
    Moves km s0 (chargeCommand s c) := by
  refine Moves.comp (k1 := 0xFFAFFC7D3FFF6B) ?_ hk hs
  unfold chargeCommand
  repeat' first
    | with_reducible apply Moves.refl | with_reducible assumption | decide | with_reducible apply storageRequest_moves
    | with_reducible apply pathLose_moves | with_reducible apply toStage_moves | with_reducible apply setReason_moves
    | with_reducible apply restartSearch_moves | with_reducible apply State.clrBits_moves | with_reducible apply State.put_moves
    | (intro x; first | (refine Moves.mid (t := x) ?_ (fun hx => ?_) <;> [dsimp +zetaDelta only; clear_value x]) | clear_value x)
    | (lift_lets; intro x; first | (refine Moves.mid (t := x) ?_ (fun hx => ?_) <;> [dsimp +zetaDelta only; clear_value x]) | clear_value x)
    | split | with_reducible apply Moves.of_chg

theorem chargeArrive_moves (s : State) (hk : km &&& 0xFFAFFC7D3FFF6B = km) (hs : Moves km s0 s) :
    Moves km s0 (chargeArrive s) := by
  refine Moves.comp (k1 := 0xFFAFFC7D3FFF6B) ?_ hk hs
  unfold chargeArrive
  repeat' first
    | with_reducible apply Moves.refl | decide | with_reducible apply chargeCommand_moves
    | (lift_lets; intro x; first | (refine Moves.mid (t := x) ?_ (fun hx => ?_) <;> [dsimp +zetaDelta only; clear_value x]) | clear_value x)
    | split | ((with_reducible apply Moves.foldl) <;> try intro _ _) | with_reducible apply Moves.of_chg

theorem execStorageDelayExpiry_moves (s : State) (hk : km &&& 0xFFAFFFF93FFF6B = km) (hs : Moves km s0 s) :
    Moves km s0 (Out.left s (execStorageDelayExpiry s)) := by
  refine Moves.comp (k1 := 0xFFAFFFF93FFF6B) ?_ hk hs
  unfold execStorageDelayExpiry
  repeat' first
    | with_reducible apply Moves.refl | decide | with_reducible apply setReason_moves | with_reducible apply settleAll_moves
    | with_reducible apply Moves.when
    | (lift_lets; intro x; first | (refine Moves.mid (t := x) ?_ (fun hx => ?_) <;> [dsimp +zetaDelta only; clear_value x]) | clear_value x)
    | with_reducible apply Moves.of_chg

theorem execVddaUndervoltage_moves (mv : ℕ) (held : ℕ) (s : State) (hk : km &&& 0xFFBFFF7FFFFF7B = km) (hs : Moves km s0 s) :
    Moves km s0 (Out.left s (execVddaUndervoltage mv held s)) := by
  refine Moves.comp (k1 := 0xFFBFFF7FFFFF7B) ?_ hk hs
  unfold execVddaUndervoltage
  repeat' first
    | with_reducible apply Moves.refl | decide | with_reducible apply supervisorEvent_moves | with_reducible apply State.modSup_moves
    | with_reducible apply Moves.when | exact fun _ => rfl

theorem execDriverLimitStop_moves (g : Fin 2) (halves : ℕ) (s : State) (hk : km &&& 0xFFAFFC7DFFFF6B = km) (hs : Moves km s0 s) :
    Moves km s0 (Out.left s (execDriverLimitStop g halves s)) := by
  refine Moves.comp (k1 := 0xFFAFFC7DFFFF6B) ?_ hk hs
  unfold execDriverLimitStop
  repeat' first
    | with_reducible apply Moves.refl | decide | with_reducible apply targetFault_moves | with_reducible apply State.modGds_moves
    | with_reducible apply State.report_moves | with_reducible apply State.setBits_moves | with_reducible apply State.add_moves
    | with_reducible apply Moves.when | split

theorem vauxWarned_moves (s : State) (hk : km &&& 0xFFAFFC79FFFF6B = km) (hs : Moves km s0 s) :
    Moves km s0 (vauxWarned s) := by
  refine Moves.comp (k1 := 0xFFAFFC79FFFF6B) ?_ hk hs
  unfold vauxWarned
  repeat' first
    | with_reducible apply Moves.refl | with_reducible assumption | decide | with_reducible apply State.modSup_moves
    | with_reducible apply downAction_moves | with_reducible apply State.d1Event_moves | with_reducible apply settleLines_moves
    | with_reducible apply State.report_moves | with_reducible apply State.setBits_moves | with_reducible apply State.bump_moves
    | (lift_lets; intro x; first | (refine Moves.mid (t := x) ?_ (fun hx => ?_) <;> [dsimp +zetaDelta only; clear_value x]) | clear_value x)
    | split | exact fun _ => rfl

theorem execFltlineAssertionEnd_moves (s : State) (hk : km &&& 0xFFBFFDFFFFFFFB = km) (hs : Moves km s0 s) :
    Moves km s0 (Out.left s (execFltlineAssertionEnd s)) := by
  refine Moves.comp (k1 := 0xFFBFFDFFFFFFFB) ?_ hk hs
  unfold execFltlineAssertionEnd
  repeat' first
    | with_reducible apply Moves.refl | decide | with_reducible apply settleLines_moves | with_reducible apply Moves.next
    | with_reducible apply Moves.when | split

theorem execVddaRestored_moves (mv : ℕ) (held : ℕ) (s : State) (hk : km &&& 0xFFFFFF7FFFFFFF = km) (hs : Moves km s0 s) :
    Moves km s0 (Out.left s (execVddaRestored mv held s)) := by
  refine Moves.comp (k1 := 0xFFFFFF7FFFFFFF) ?_ hk hs
  unfold execVddaRestored
  repeat' first
    | with_reducible apply Moves.refl | decide | with_reducible apply State.modSup_moves | with_reducible apply Moves.when
    | exact fun _ => rfl

theorem execRegulatorRestart_moves (r : Fin 3) (s : State) (hk : km &&& 0xFFFFFF7FFFFFFF = km) (hs : Moves km s0 s) :
    Moves km s0 (Out.left s (execRegulatorRestart r s)) := by
  refine Moves.comp (k1 := 0xFFFFFF7FFFFFFF) ?_ hk hs
  unfold execRegulatorRestart
  repeat' first
    | with_reducible apply Moves.refl | decide | with_reducible apply State.modReg_moves | with_reducible apply Moves.next
    | with_reducible apply Moves.when | split

theorem execSequencerDisable_moves (x0 : Wr) (s : State) (hk : km &&& 0xFFAFFC793FEF0B = km) (hs : Moves km s0 s) :
    Moves km s0 (Out.left s (execSequencerDisable x0 s)) := by
  refine Moves.comp (k1 := 0xFFAFFC793FEF0B) ?_ hk hs
  unfold execSequencerDisable
  repeat' first
    | with_reducible apply Moves.refl | with_reducible assumption | decide | ((with_reducible apply accessWrite_moves) <;> try intro _ _ _)
    | with_reducible apply sequencerEnableEff_moves | with_reducible apply Moves.next

theorem execReadyWaitTimeout_moves (s : State) (hk : km &&& 0xFFAFFC793FFF6B = km) (hs : Moves km s0 s) :
    Moves km s0 (Out.left s (execReadyWaitTimeout s)) := by
  refine Moves.comp (k1 := 0xFFAFFC793FFF6B) ?_ hk hs
  unfold execReadyWaitTimeout
  repeat' first
    | with_reducible apply Moves.refl | decide | with_reducible apply dropWaiting_moves | with_reducible apply storageCheck_moves
    | with_reducible apply settleSlots_moves | with_reducible apply State.modSeq_moves | with_reducible apply settleAll_moves
    | with_reducible apply State.report_moves | with_reducible apply State.setBits_moves | with_reducible apply State.putN_moves
    | with_reducible apply Moves.next | with_reducible apply Moves.when | split | exact fun _ => rfl

theorem execStorageRequest_moves (periods : ℕ) (s : State) (hk : km &&& 0xFFAFFC793FFF6B = km) (hs : Moves km s0 s) :
    Moves km s0 (Out.left s (execStorageRequest periods s)) := by
  refine Moves.comp (k1 := 0xFFAFFC793FFF6B) ?_ hk hs
  unfold execStorageRequest
  repeat' first
    | with_reducible apply Moves.refl | decide | with_reducible apply storageRequest_moves | with_reducible apply settleAll_moves
    | with_reducible apply Moves.when

theorem execStorageCommand_moves (x0 : Wr) (s : State) (hk : km &&& 0xFFBFFFFDFFEF9B = km) (hs : Moves km s0 s) :
    Moves km s0 (Out.left s (execStorageCommand x0 s)) := by
  refine Moves.comp (k1 := 0xFFBFFFFDFFEF9B) ?_ hk hs
  unfold execStorageCommand
  repeat' first
    | with_reducible apply Moves.refl | with_reducible assumption | decide | ((with_reducible apply accessWrite_moves) <;> try intro _ _ _)
    | with_reducible apply storageEff_moves | with_reducible apply Moves.next

theorem execSlotGoodTimeout_moves (j : Fin 16) (s : State) (hk : km &&& 0xFFAFFC793FFF6B = km) (hs : Moves km s0 s) :
    Moves km s0 (Out.left s (execSlotGoodTimeout j s)) := by
  refine Moves.comp (k1 := 0xFFAFFC793FFF6B) ?_ hk hs
  unfold execSlotGoodTimeout
  repeat' first
    | with_reducible apply Moves.refl | decide | with_reducible apply failSlot_moves | with_reducible apply settleAll_moves
    | with_reducible apply Moves.when

theorem execVddioUndervoltage_moves (mv : ℕ) (held : ℕ) (s : State) (hk : km &&& 0xFFBFFF7FBFFF7B = km) (hs : Moves km s0 s) :
    Moves km s0 (Out.left s (execVddioUndervoltage mv held s)) := by
  refine Moves.comp (k1 := 0xFFBFFF7FBFFF7B) ?_ hk hs
  unfold execVddioUndervoltage
  repeat' first
    | with_reducible apply Moves.refl | decide | with_reducible apply supervisorEvent_moves | with_reducible apply State.modSup_moves
    | with_reducible apply latchGateFault_moves | with_reducible apply State.modPhase_moves | with_reducible apply Moves.when
    | ((with_reducible apply Moves.foldl) <;> try intro _ _) | exact fun _ h => h | exact fun _ => rfl

theorem execVauxWarningClear_moves (mv : ℕ) (held : ℕ) (s : State) (hk : km &&& 0xFFBFFD7BFFFFFB = km) (hs : Moves km s0 s) :
    Moves km s0 (Out.left s (execVauxWarningClear mv held s)) := by
  refine Moves.comp (k1 := 0xFFBFFD7BFFFFFB) ?_ hk hs
  unfold execVauxWarningClear
  repeat' first
    | with_reducible apply Moves.refl | decide | with_reducible apply State.modSup_moves | with_reducible apply State.d1Event_moves
    | with_reducible apply settleLines_moves | with_reducible apply Moves.when | exact fun _ => rfl

theorem execDriverEnable_moves (x0 : Wr) (s : State) (hk : km &&& 0xFFBFFC7FFFEF9B = km) (hs : Moves km s0 s) :
    Moves km s0 (Out.left s (execDriverEnable x0 s)) := by
  refine Moves.comp (k1 := 0xFFBFFC7FFFEF9B) ?_ hk hs
  unfold execDriverEnable
  repeat' first
    | with_reducible apply Moves.refl | with_reducible assumption | decide | ((with_reducible apply accessWrite_moves) <;> try intro _ _ _)
    | with_reducible apply driverEff_moves | with_reducible apply Moves.next

theorem execVauxOvervoltageEnd_moves (mv : ℕ) (held : ℕ) (s : State) (hk : km &&& 0xFFFFFF7FFFFFFF = km) (hs : Moves km s0 s) :
    Moves km s0 (Out.left s (execVauxOvervoltageEnd mv held s)) := by
  refine Moves.comp (k1 := 0xFFFFFF7FFFFFFF) ?_ hk hs
  unfold execVauxOvervoltageEnd
  repeat' first
    | with_reducible apply Moves.refl | decide | with_reducible apply State.modSup_moves | with_reducible apply Moves.when
    | exact fun _ => rfl

theorem execSlotGoodLost_moves (j : Fin 16) (held : ℕ) (s : State) (hk : km &&& 0xFFAFFC793FFF6B = km) (hs : Moves km s0 s) :
    Moves km s0 (Out.left s (execSlotGoodLost j held s)) := by
  refine Moves.comp (k1 := 0xFFAFFC793FFF6B) ?_ hk hs
  unfold execSlotGoodLost
  repeat' first
    | with_reducible apply Moves.refl | decide | with_reducible apply failSlot_moves | with_reducible apply State.modSlot_moves
    | with_reducible apply settleAll_moves | with_reducible apply Moves.when | split

theorem execSlotGood_moves (j : Fin 16) (held : ℕ) (s : State) (hk : km &&& 0xFFBFFC7FFFFFFB = km) (hs : Moves km s0 s) :
    Moves km s0 (Out.left s (execSlotGood j held s)) := by
  refine Moves.comp (k1 := 0xFFBFFC7FFFFFFB) ?_ hk hs
  unfold execSlotGood
  repeat' first
    | with_reducible apply Moves.refl | decide | with_reducible apply slotIsGood_moves | with_reducible apply State.modSlot_moves
    | with_reducible apply State.bump_moves | with_reducible apply Moves.when | split

theorem sequencerDownEff_moves (w' : Wr) (b' : Bool) (s' : State) (hk : km &&& 0xFFAFFC793FFF6B = km) (hs : Moves km s0 s') :
    Moves km s0 (sequencerDownEff  w' b' s').2 := by
  refine Moves.comp (k1 := 0xFFAFFC793FFF6B) ?_ hk hs
  unfold sequencerDownEff
  repeat' first
    | with_reducible apply Moves.refl | decide | with_reducible apply sequencerEff_moves

theorem execSequencerDown_moves (x0 : Wr) (s : State) (hk : km &&& 0xFFAFFC793FEF0B = km) (hs : Moves km s0 s) :
    Moves km s0 (Out.left s (execSequencerDown x0 s)) := by
  refine Moves.comp (k1 := 0xFFAFFC793FEF0B) ?_ hk hs
  unfold execSequencerDown
  repeat' first
    | with_reducible apply Moves.refl | with_reducible assumption | decide | with_reducible apply sequencerDownEff_moves
    | ((with_reducible apply accessWrite_moves) <;> try intro _ _ _) | with_reducible apply Moves.next

theorem execSlotUpDelayExpiry_moves (j : Fin 16) (s : State) (hk : km &&& 0xFFAFFC793FFF6B = km) (hs : Moves km s0 s) :
    Moves km s0 (Out.left s (execSlotUpDelayExpiry j s)) := by
  refine Moves.comp (k1 := 0xFFAFFC793FFF6B) ?_ hk hs
  unfold execSlotUpDelayExpiry
  repeat' first
    | with_reducible apply Moves.refl | decide | with_reducible apply slotIsGood_moves | with_reducible apply failSlot_moves
    | with_reducible apply setOutput_moves | with_reducible apply settleSlots_moves | with_reducible apply settleAll_moves
    | with_reducible apply State.putN_moves | with_reducible apply Moves.when | split

theorem execRegulatorGood_moves (r : Fin 3) (level : ℕ) (s : State) (hk : km &&& 0xFFBFFC7FFFFFFB = km) (hs : Moves km s0 s) :
    Moves km s0 (Out.left s (execRegulatorGood r level s)) := by
  refine Moves.comp (k1 := 0xFFBFFC7FFFFFFB) ?_ hk hs
  unfold execRegulatorGood
  repeat' first
    | with_reducible apply Moves.refl | decide | with_reducible apply targetGood_moves | with_reducible apply State.modReg_moves
    | with_reducible apply Moves.when | split

theorem execSlotFallComplete_moves (j : Fin 16) (held : ℕ) (s : State) (hk : km &&& 0xFFAFFC793FFF6B = km) (hs : Moves km s0 s) :
    Moves km s0 (Out.left s (execSlotFallComplete j held s)) := by
  refine Moves.comp (k1 := 0xFFAFFC793FFF6B) ?_ hk hs
  unfold execSlotFallComplete
  repeat' first
    | with_reducible apply Moves.refl | decide | with_reducible apply downSettle_moves | with_reducible apply slotCause_moves
    | with_reducible apply dropOutput_moves | with_reducible apply State.modSlot_moves | with_reducible apply settleSlots_moves
    | with_reducible apply settleAll_moves | with_reducible apply State.putN_moves | with_reducible apply Moves.when | split

theorem execSlotGlitch_moves (j : Fin 16) (held : ℕ) (s : State) (hk : km &&& 0xFFAFFC793FFF6B = km) (hs : Moves km s0 s) :
    Moves km s0 (Out.left s (execSlotGlitch j held s)) := by
  refine Moves.comp (k1 := 0xFFAFFC793FFF6B) ?_ hk hs
  unfold execSlotGlitch
  repeat' first
    | with_reducible apply Moves.refl | decide | with_reducible apply failSlot_moves | with_reducible apply settleAll_moves
    | with_reducible apply State.bump_moves | with_reducible apply Moves.when | split

theorem sequencerClearEff_moves (w' : Wr) (b' : Bool) (s' : State) (hk : km &&& 0xFFAFFC793FFF6B = km) (hs : Moves km s0 s') :
    Moves km s0 (sequencerClearEff  w' b' s').2 := by
  refine Moves.comp (k1 := 0xFFAFFC793FFF6B) ?_ hk hs
  unfold sequencerClearEff
  repeat' first
    | with_reducible apply Moves.refl | decide | with_reducible apply sequencerEff_moves

theorem execSequencerClear_moves (x0 : Wr) (s : State) (hk : km &&& 0xFFAFFC793FEF0B = km) (hs : Moves km s0 s) :
    Moves km s0 (Out.left s (execSequencerClear x0 s)) := by
  refine Moves.comp (k1 := 0xFFAFFC793FEF0B) ?_ hk hs
  unfold execSequencerClear
  repeat' first
    | with_reducible apply Moves.refl | with_reducible assumption | decide | with_reducible apply sequencerClearEff_moves
    | ((with_reducible apply accessWrite_moves) <;> try intro _ _ _) | with_reducible apply Moves.next

theorem execSlotFallTimeout_moves (j : Fin 16) (s : State) (hk : km &&& 0xFFAFFC793FFF6B = km) (hs : Moves km s0 s) :
    Moves km s0 (Out.left s (execSlotFallTimeout j s)) := by
  refine Moves.comp (k1 := 0xFFAFFC793FFF6B) ?_ hk hs
  unfold execSlotFallTimeout
  repeat' first
    | with_reducible apply Moves.refl | decide | with_reducible apply downSettle_moves | with_reducible apply slotCause_moves
    | with_reducible apply settleSlots_moves | with_reducible apply settleAll_moves | with_reducible apply State.putN_moves
    | with_reducible apply Moves.when

theorem supplyFlag_moves (s : State) (mask : ℕ) (hk : km &&& 0xFFBFFFFFFFFFFB = km) (hs : Moves km s0 s) :
    Moves km s0 (supplyFlag s mask) := by
  refine Moves.comp (k1 := 0xFFBFFFFFFFFFFB) ?_ hk hs
  unfold supplyFlag
  repeat' first
    | with_reducible apply Moves.refl | decide | with_reducible apply State.setBits_moves | split

theorem askReset_moves (s : State) (trigger : ℕ) (hk : km &&& 0xFFFFFFFFFBFFFF = km) (hs : Moves km s0 s) :
    Moves km s0 (askReset s trigger) := by
  refine Moves.comp (k1 := 0xFFFFFFFFFBFFFF) ?_ hk hs
  unfold askReset
  repeat' first
    | with_reducible apply Moves.refl | decide
    | (lift_lets; intro x; first | (refine Moves.mid (t := x) ?_ (fun hx => ?_) <;> [dsimp +zetaDelta only; clear_value x]) | clear_value x)
    | with_reducible apply Moves.of_startup

theorem resetRequestEff_moves (w' : Wr) (b' : Bool) (s' : State) (hk : km &&& 0xFFFFFFFFFBFFFF = km) (hs : Moves km s0 s') :
    Moves km s0 (resetRequestEff  w' b' s').2 := by
  refine Moves.comp (k1 := 0xFFFFFFFFFBFFFF) ?_ hk hs
  unfold resetRequestEff
  repeat' first
    | with_reducible apply Moves.refl | decide | with_reducible apply askReset_moves | with_reducible apply acc_moves

theorem restartCanary_moves (s : State) (hk : km &&& 0xFFFEFFFFFFFFFB = km) (hs : Moves km s0 s) :
    Moves km s0 (restartCanary s) := by
  refine Moves.comp (k1 := 0xFFFEFFFFFFFFFB) ?_ hk hs
  unfold restartCanary
  dsimp only
  repeat' first
    | with_reducible apply Moves.refl | decide | (exact fun _ => List.length_replicate) | with_reducible apply State.putN_moves
    | with_reducible apply Moves.of_canary

theorem recordCause_moves (s : State) (cls : ℕ) (trigger : ℕ) (hk : km &&& 0xFFFBFFFFFFFFFF = km) (hs : Moves km s0 s) :
    Moves km s0 (recordCause s cls trigger) := by
  refine Moves.comp (k1 := 0xFFFBFFFFFFFFFF) ?_ hk hs
  unfold recordCause
  repeat' first
    | with_reducible apply Moves.refl | decide
    | (lift_lets; intro x; first | (refine Moves.mid (t := x) ?_ (fun hx => ?_) <;> [dsimp +zetaDelta only; clear_value x]) | clear_value x)
    | with_reducible apply Moves.of_rtc

theorem clearObjects_moves (s : State) (d : ℕ) (hk : km &&& 0xFFFFFFFFFFFFFB = km) (hs : Moves km s0 s) :
    Moves km s0 (clearObjects s d) := by
  refine Moves.comp (k1 := 0xFFFFFFFFFFFFFB) ?_ hk hs
  unfold clearObjects
  repeat' first
    | with_reducible apply Moves.refl | decide | with_reducible apply Moves.of_od | exact fun h => Sparse.wf_filter _ _ _ h

theorem resetD7_moves (s : State) (hk : km &&& 0xFFFF47FFFFFFFB = km) (hs : Moves km s0 s) :
    Moves km s0 (resetD7 s) := by
  refine Moves.comp (k1 := 0xFFFF47FFFFFFFB) ?_ hk hs
  clear hk hs
  unfold resetD7
  dsimp only
  have hx : Moves 0xFFFF47FFFFFFFB s (clearObjects s 7) := clearObjects_moves _ _ (by decide) (Moves.refl _ _)
  refine Moves.trans hx ?_
  constructor <;> intro hb <;> first | rfl | exact Or.inl rfl | exact Or.inr rfl | exact id | exact fun _ h => h | exact absurd hb (by decide) | (intro h; simp only [State.shaped, Bool.and_eq_true, beq_iff_eq, List.length_replicate, List.length_map] at h ⊢; simp [h]; done)

theorem resetD6_moves (s : State) (hk : km &&& 0xFFFFFE9FFFFFFB = km) (hs : Moves km s0 s) :
    Moves km s0 (resetD6 s) := by
  refine Moves.comp (k1 := 0xFFFFFE9FFFFFFB) ?_ hk hs
  clear hk hs
  unfold resetD6
  dsimp only
  have hx : Moves 0xFFFFFE9FFFFFFB s (clearObjects s 6) := clearObjects_moves _ _ (by decide) (Moves.refl _ _)
  refine Moves.trans hx ?_
  constructor <;> intro hb <;> first | rfl | exact Or.inl rfl | exact Or.inr rfl | exact id | exact fun _ h => h | exact absurd hb (by decide) | (intro h; simp only [State.shaped, Bool.and_eq_true, beq_iff_eq, List.length_replicate, List.length_map] at h ⊢; simp [h]; done)

theorem resetD2_moves (s : State) (hk : km &&& 0xFF85B9E7E01831 = km) (hs : Moves km s0 s) :
    Moves km s0 (resetD2 s) := by
  refine Moves.comp (k1 := 0xFF85B9E7E01831) ?_ hk hs
  clear hk hs
  unfold resetD2
  constructor <;> intro hb <;> first | rfl | exact Or.inl rfl | exact Or.inr rfl | exact id | exact fun _ h => h | exact absurd hb (by decide) | exact fun h => Sparse.wf_filter _ _ _ h | (intro h; simp only [State.shaped, Bool.and_eq_true, beq_iff_eq, List.length_replicate, List.length_map, State.clearMem] at h ⊢; simp [h]; done)

theorem resetD5_moves (s : State) (hk : km &&& 0xFEFFFFFC1FF7FB = km) (hs : Moves km s0 s) :
    Moves km s0 (resetD5 s) := by
  refine Moves.comp (k1 := 0xFEFFFFFC1FF7FB) ?_ hk hs
  clear hk hs
  unfold resetD5 clearObjects
  constructor <;> intro hb <;> first | rfl | exact Or.inl rfl | exact Or.inr rfl | exact id | exact fun _ h => h | exact absurd hb (by decide) | exact fun h => Sparse.wf_filter _ _ _ h | (intro h; simp only [State.shaped, Bool.and_eq_true, beq_iff_eq, List.length_replicate, List.length_map] at h ⊢; simp [h]; done) | (intro _; simp [State.gatesApart, Phase.apart]; done)

theorem resetCluster_moves (s : State) (c : ℕ) (hk : km &&& 0xFFFFFFFFFFEFFB = km) (hs : Moves km s0 s) :
    Moves km s0 (resetCluster s c) := by
  refine Moves.comp (k1 := 0xFFFFFFFFFFEFFB) ?_ hk hs
  unfold resetCluster
  repeat' first
    | with_reducible apply Moves.refl | with_reducible assumption | decide | (simp only [resetSlice, List.length_mapIdx]; done)
    | with_reducible apply clearObjects_moves | with_reducible apply State.modEng_moves
    | (lift_lets; intro x; first | (refine Moves.mid (t := x) ?_ (fun hx => ?_) <;> [dsimp +zetaDelta only; clear_value x]) | clear_value x)
    | ((with_reducible apply Moves.foldl) <;> try intro _ _) | with_reducible apply Moves.of_engines

theorem resetFromD2_moves (s : State) (hk : km &&& 0xFE850004000031 = km) (hs : Moves km s0 s) :
    Moves km s0 (resetFromD2 s) := by
  refine Moves.comp (k1 := 0xFE850004000031) ?_ hk hs
  unfold resetFromD2
  repeat' first
    | with_reducible apply Moves.refl | decide | with_reducible apply resetCluster_moves | with_reducible apply resetD5_moves
    | with_reducible apply resetD2_moves | with_reducible apply resetD6_moves | with_reducible apply resetD7_moves
    | with_reducible apply followTargets_moves | with_reducible apply Moves.of_agent

theorem dropAnswer_moves (s : State) (hk : km &&& 0xFFFFFFFFFFFFDF = km) (hs : Moves km s0 s) :
    Moves km s0 (dropAnswer s) := by
  refine Moves.comp (k1 := 0xFFFFFFFFFFFFDF) ?_ hk hs
  unfold dropAnswer
  repeat' first
    | with_reducible apply Moves.refl | decide | with_reducible apply Moves.of_resp

theorem systemReset_moves (s : State) (trigger : ℕ) (hk : km &&& 0xFE800004000011 = km) (hs : Moves km s0 s) :
    Moves km s0 (systemReset s trigger) := by
  refine Moves.comp (k1 := 0xFE800004000011) ?_ hk hs
  unfold systemReset
  repeat' first
    | with_reducible apply Moves.refl | decide | with_reducible apply dropAnswer_moves | with_reducible apply resetFromD2_moves
    | with_reducible apply recordCause_moves | with_reducible apply restartCanary_moves

theorem copyCause_moves (s : State) (hk : km &&& 0xFFFFFFFFFFFFFB = km) (hs : Moves km s0 s) :
    Moves km s0 (copyCause s) := by
  refine Moves.comp (k1 := 0xFFFFFFFFFFFFFB) ?_ hk hs
  unfold copyCause
  repeat' first
    | with_reducible apply Moves.refl | decide | with_reducible apply State.putN_moves | split

theorem execDebugSystemReset_moves (s : State) (hk : km &&& 0xFE800004000011 = km) (hs : Moves km s0 s) :
    Moves km s0 (Out.left s (execDebugSystemReset s)) := by
  refine Moves.comp (k1 := 0xFE800004000011) ?_ hk hs
  unfold execDebugSystemReset
  repeat' first
    | with_reducible apply Moves.refl | decide | with_reducible apply systemReset_moves | with_reducible apply Moves.when

theorem resetD1_moves (s : State) (hk : km &&& 0xFFFEFF7BFFFFFB = km) (hs : Moves km s0 s) :
    Moves km s0 (resetD1 s) := by
  refine Moves.comp (k1 := 0xFFFEFF7BFFFFFB) ?_ hk hs
  clear hk hs
  unfold resetD1
  dsimp only
  have hx : Moves 0xFFFEFF7BFFFFFB s (clearObjects s 1) := clearObjects_moves _ _ (by decide) (Moves.refl _ _)
  refine Moves.trans hx ?_
  constructor <;> intro hb <;> first | rfl | exact Or.inl rfl | exact Or.inr rfl | exact id | exact fun _ h => h | exact absurd hb (by decide) | (intro h; simp only [State.shaped, Bool.and_eq_true, beq_iff_eq, List.length_replicate, List.length_map] at h ⊢; simp [h]; done) | exact fun h => Sparse.wf_filter _ _ _ h

theorem clearTcm_moves (s : State) (c : ℕ) (hk : km &&& 0xFFFFFFFFFDFFF7 = km) (hs : Moves km s0 s) :
    Moves km s0 (clearTcm s c) := by
  refine Moves.comp (k1 := 0xFFFFFFFFFDFFF7) ?_ hk hs
  unfold clearTcm
  repeat' first
    | with_reducible apply Moves.refl | with_reducible assumption | decide | with_reducible apply State.clearMem_moves
    | (intro x; first | (refine Moves.mid (t := x) ?_ (fun hx => ?_) <;> [dsimp +zetaDelta only; clear_value x]) | clear_value x)
    | (lift_lets; intro x; first | (refine Moves.mid (t := x) ?_ (fun hx => ?_) <;> [dsimp +zetaDelta only; clear_value x]) | clear_value x)
    | with_reducible apply Moves.of_ecc

theorem clearTcms_moves (s : State) (hk : km &&& 0xFFFFFFFFFDFFF7 = km) (hs : Moves km s0 s) :
    Moves km s0 (clearTcms s) := by
  refine Moves.comp (k1 := 0xFFFFFFFFFDFFF7) ?_ hk hs
  unfold clearTcms
  repeat' first
    | with_reducible apply Moves.refl | decide | with_reducible apply clearTcm_moves

theorem resetD0_moves (s : State) (hk : km &&& 0xFFFBFFFFFFFFFB = km) (hs : Moves km s0 s) :
    Moves km s0 (resetD0 s) := by
  refine Moves.comp (k1 := 0xFFFBFFFFFFFFFB) ?_ hk hs
  unfold resetD0
  repeat' first
    | with_reducible apply Moves.refl | with_reducible assumption | decide | with_reducible apply clearObjects_moves
    | (lift_lets; intro x; first | (refine Moves.mid (t := x) ?_ (fun hx => ?_) <;> [dsimp +zetaDelta only; clear_value x]) | clear_value x)
    | with_reducible apply Moves.of_rtc

theorem bedrockReset_moves (s : State) (hk : km &&& 0xFE800000000011 = km) (hs : Moves km s0 s) :
    Moves km s0 (bedrockReset s) := by
  refine Moves.comp (k1 := 0xFE800000000011) ?_ hk hs
  unfold bedrockReset
  repeat' first
    | with_reducible apply Moves.refl | decide | with_reducible apply resetD0_moves | with_reducible apply clearTcms_moves
    | with_reducible apply resetD1_moves | with_reducible apply dropAnswer_moves | with_reducible apply resetFromD2_moves
    | with_reducible apply recordCause_moves | with_reducible apply State.report_moves | with_reducible apply State.bump_moves

theorem execBedrockReset_moves (s : State) (hk : km &&& 0xFE800000000011 = km) (hs : Moves km s0 s) :
    Moves km s0 (Out.left s (execBedrockReset s)) := by
  refine Moves.comp (k1 := 0xFE800000000011) ?_ hk hs
  unfold execBedrockReset
  repeat' first
    | with_reducible apply Moves.refl | decide | with_reducible apply bedrockReset_moves | with_reducible apply Moves.next

theorem execResetRequest_moves (x0 : Wr) (s : State) (hk : km &&& 0xFFBFFFFFFBEF9B = km) (hs : Moves km s0 s) :
    Moves km s0 (Out.left s (execResetRequest x0 s)) := by
  refine Moves.comp (k1 := 0xFFBFFFFFFBEF9B) ?_ hk hs
  unfold execResetRequest
  repeat' first
    | with_reducible apply Moves.refl | with_reducible assumption | decide | ((with_reducible apply accessWrite_moves) <;> try intro _ _ _)
    | with_reducible apply resetRequestEff_moves | with_reducible apply Moves.next

theorem d1Present_moves (s : State) (away : Bool) (lost : Bool) (hk : km &&& 0xFFBBFFFFFFFF7B = km) (hs : Moves km s0 s) :
    Moves km s0 (d1Present s away lost) := by
  refine Moves.comp (k1 := 0xFFBBFFFFFFFF7B) ?_ hk hs
  unfold d1Present
  repeat' first
    | with_reducible apply Moves.refl | with_reducible assumption | decide | with_reducible apply oscillatorStops_moves
    | (intro x; first | (refine Moves.mid (t := x) ?_ (fun hx => ?_) <;> [dsimp +zetaDelta only; clear_value x]) | clear_value x)
    | (lift_lets; intro x; first | (refine Moves.mid (t := x) ?_ (fun hx => ?_) <;> [dsimp +zetaDelta only; clear_value x]) | clear_value x)
    | split | with_reducible apply Moves.of_rtc

theorem setPorst_moves (s : State) (v : Bool) (hk : km &&& 0xFFFFFFFBFFFFFF = km) (hs : Moves km s0 s) :
    Moves km s0 (setPorst s v) := by
  refine Moves.comp (k1 := 0xFFFFFFFBFFFFFF) ?_ hk hs
  unfold setPorst
  repeat' first
    | with_reducible apply Moves.refl | decide
    | (lift_lets; intro x; first | (refine Moves.mid (t := x) ?_ (fun hx => ?_) <;> [dsimp +zetaDelta only; clear_value x]) | clear_value x)
    | with_reducible apply Moves.of_aon

theorem powerOnReset_moves (s : State) (trigger : ℕ) (hk : km &&& 0xFE800000000011 = km) (hs : Moves km s0 s) :
    Moves km s0 (powerOnReset s trigger) := by
  refine Moves.comp (k1 := 0xFE800000000011) ?_ hk hs
  unfold powerOnReset
  repeat' first
    | with_reducible apply Moves.refl | decide | with_reducible apply clearTcms_moves | with_reducible apply resetD1_moves
    | with_reducible apply dropAnswer_moves | with_reducible apply resetFromD2_moves | with_reducible apply recordCause_moves

theorem execPowerOnReset_moves (trigger : Byte) (held : Bool) (s : State) (hk : km &&& 0xFE800000000011 = km) (hs : Moves km s0 s) :
    Moves km s0 (Out.left s (execPowerOnReset trigger held s)) := by
  refine Moves.comp (k1 := 0xFE800000000011) ?_ hk hs
  unfold execPowerOnReset
  repeat' first
    | with_reducible apply Moves.refl | decide | with_reducible apply powerOnReset_moves | with_reducible apply setPorst_moves
    | with_reducible apply d1Present_moves | with_reducible apply Moves.next

theorem domainReset_moves (s : State) (d : ℕ) (hk : km &&& 0xFEFF469C1DE7F3 = km) (hs : Moves km s0 s) :
    Moves km s0 (domainReset s d) := by
  refine Moves.comp (k1 := 0xFEFF469C1DE7F3) ?_ hk hs
  unfold domainReset
  repeat' first
    | with_reducible apply Moves.refl | decide | with_reducible apply clearTcm_moves | with_reducible apply switchInit_moves
    | with_reducible apply resetCluster_moves | with_reducible apply resetD5_moves | with_reducible apply resetD6_moves
    | with_reducible apply resetD7_moves | with_reducible apply State.put_moves | split

theorem execSystemReset_moves (trigger : Byte) (s : State) (hk : km &&& 0xFE800004000011 = km) (hs : Moves km s0 s) :
    Moves km s0 (Out.left s (execSystemReset trigger s)) := by
  refine Moves.comp (k1 := 0xFE800004000011) ?_ hk hs
  unfold execSystemReset
  repeat' first
    | with_reducible apply Moves.refl | decide | with_reducible apply systemReset_moves | with_reducible apply Moves.next

theorem dueReset_moves (s : State) (hk : km &&& 0xFE800004000011 = km) (hs : Moves km s0 s) :
    Moves km s0 (dueReset s) := by
  refine Moves.comp (k1 := 0xFE800004000011) ?_ hk hs
  unfold dueReset
  repeat' first
    | with_reducible apply Moves.refl | decide | with_reducible apply systemReset_moves | split

theorem State.modCanary_moves (s : State) (f : Canary → Canary) (hf : ∀ x, x.checkIns.length = 64 → (f x).checkIns.length = 64) (hk : km &&& 0xFFFEFFFFFFFFFF = km) (hs : Moves km s0 s) :
    Moves km s0 (s.modCanary f) :=
  Moves.of_canary s _ (hf _) hk hs

theorem ledgerJudge_moves (s : State) (hk : km &&& 0xFFFEFFFFFFFFFB = km) (hs : Moves km s0 s) :
    Moves km s0 (ledgerJudge s).2 := by
  refine Moves.comp (k1 := 0xFFFEFFFFFFFFFB) ?_ hk hs
  unfold ledgerJudge
  repeat' first
    | with_reducible apply Moves.refl | decide | with_reducible apply State.modCanary_moves | with_reducible apply State.putPair_moves
    | (intro x h; simp only [modAt_length, List.length_map, List.length_replicate, List.length_range, List.length_set, h]; done)

theorem canaryCapture_moves (s : State) (cause : ℕ) (hk : km &&& 0xFFFFFFFFFFFFFB = km) (hs : Moves km s0 s) :
    Moves km s0 (canaryCapture s cause) := by
  refine Moves.comp (k1 := 0xFFFFFFFFFFFFFB) ?_ hk hs
  unfold canaryCapture
  repeat' first
    | with_reducible apply Moves.refl | with_reducible assumption | decide | with_reducible apply State.putN_moves
    | with_reducible apply State.put_moves
    | (intro x; first | (refine Moves.mid (t := x) ?_ (fun hx => ?_) <;> [dsimp +zetaDelta only; clear_value x]) | clear_value x)
    | (lift_lets; intro x; first | (refine Moves.mid (t := x) ?_ (fun hx => ?_) <;> [dsimp +zetaDelta only; clear_value x]) | clear_value x)
    | split | ((with_reducible apply Moves.foldl) <;> try intro _ _)

theorem canaryBite_moves (s : State) (cause : ℕ) (hk : km &&& 0xFFFEFFFFFFFF7B = km) (hs : Moves km s0 s) :
    Moves km s0 (canaryBite s cause) := by
  refine Moves.comp (k1 := 0xFFFEFFFFFFFF7B) ?_ hk hs
  unfold canaryBite
  repeat' first
    | with_reducible apply Moves.refl | decide | with_reducible apply canaryCapture_moves | with_reducible apply State.modCanary_moves
    | with_reducible apply State.report_moves | with_reducible apply State.putN_moves | exact fun _ h => h

theorem canaryServiceEff_moves (w' : Wr) (b' : Bool) (s' : State) (hk : km &&& 0xFFBEFFFFFFFF7B = km) (hs : Moves km s0 s') :
    Moves km s0 (canaryServiceEff  w' b' s').2 := by
  refine Moves.comp (k1 := 0xFFBEFFFFFFFF7B) ?_ hk hs
  unfold canaryServiceEff
  repeat' first
    | with_reducible apply Moves.refl | with_reducible assumption | decide | with_reducible apply canaryBite_moves
    | with_reducible apply ledgerJudge_moves | with_reducible apply State.modCanary_moves | with_reducible apply State.report_moves
    | with_reducible apply State.setBits_moves | with_reducible apply State.bump_moves | with_reducible apply rej_moves
    | with_reducible apply acc_moves | (with_reducible apply Moves.snd (by assumption))
    | (lift_lets; intro x; first | (refine Moves.mid (t := x) ?_ (fun hx => ?_) <;> [dsimp +zetaDelta only; clear_value x]) | clear_value x)
    | split | exact fun _ h => h

theorem lockEff_moves (w' : Wr) (b' : Bool) (s' : State) (hk : km &&& 0xFFFFFFFFFFFFFB = km) (hs : Moves km s0 s') :
    Moves km s0 (lockEff  w' b' s').2 := by
  refine Moves.comp (k1 := 0xFFFFFFFFFFFFFB) ?_ hk hs
  unfold lockEff
  repeat' first
    | with_reducible apply Moves.refl | decide | with_reducible apply rej_moves | with_reducible apply acc_moves
    | with_reducible apply State.put_moves | split

theorem canaryWindow_moves (s : State) (hk : km &&& 0xFFFFFFFFFFFFFB = km) (hs : Moves km s0 s) :
    Moves km s0 (canaryWindow s) := by
  refine Moves.comp (k1 := 0xFFFFFFFFFFFFFB) ?_ hk hs
  unfold canaryWindow
  repeat' first
    | with_reducible apply Moves.refl | decide | with_reducible apply State.putN_moves | split

theorem canaryPlainEff_moves (i : ℕ) (j : ℕ) (w' : Wr) (b' : Bool) (s' : State) (hk : km &&& 0xFFFFFFFFFFFFFB = km) (hs : Moves km s0 s') :
    Moves km s0 (canaryPlainEff i j w' b' s').2 := by
  refine Moves.comp (k1 := 0xFFFFFFFFFFFFFB) ?_ hk hs
  unfold canaryPlainEff
  repeat' first
    | with_reducible apply Moves.refl | decide | with_reducible apply canaryWindow_moves | with_reducible apply plainWrite_moves
    | with_reducible apply rej_moves | (with_reducible apply Moves.snd (by assumption))
    | (lift_lets; intro x; first | (refine Moves.mid (t := x) ?_ (fun hx => ?_) <;> [dsimp +zetaDelta only; clear_value x]) | clear_value x)
    | split

theorem checkInEff_moves (w' : Wr) (b' : Bool) (s' : State) (hk : km &&& 0xFFBEFFFFFFFFFB = km) (hs : Moves km s0 s') :
    Moves km s0 (checkInEff  w' b' s').2 := by
  refine Moves.comp (k1 := 0xFFBEFFFFFFFFFB) ?_ hk hs
  unfold checkInEff
  repeat' first
    | with_reducible apply Moves.refl | decide | with_reducible apply State.modCanary_moves | with_reducible apply State.bump_moves
    | with_reducible apply rej_moves | with_reducible apply acc_moves
    | (intro x; first | (refine Moves.mid (t := x) ?_ (fun hx => ?_) <;> [dsimp +zetaDelta only; clear_value x]) | clear_value x)
    | (lift_lets; intro x; first | (refine Moves.mid (t := x) ?_ (fun hx => ?_) <;> [dsimp +zetaDelta only; clear_value x]) | clear_value x)
    | split | (intro x h; simp only [modAt_length, List.length_map, List.length_replicate, List.length_range, List.length_set, h]; done)

theorem canaryStep_moves (s : State) (hk : km &&& 0xFFFFFFFFFFFFFB = km) (hs : Moves km s0 s) :
    Moves km s0 (canaryStep s) := by
  refine Moves.comp (k1 := 0xFFFFFFFFFFFFFB) ?_ hk hs
  unfold canaryStep
  repeat' first
    | with_reducible apply Moves.refl | decide | with_reducible apply canaryWindow_moves | with_reducible apply State.putN_moves

theorem canaryEdge_moves (s : State) (hk : km &&& 0xFFFEFFFFFFFFFB = km) (hs : Moves km s0 s) :
    Moves km s0 (canaryEdge s) := by
  refine Moves.comp (k1 := 0xFFFEFFFFFFFFFB) ?_ hk hs
  unfold canaryEdge
  repeat' first
    | with_reducible apply Moves.refl | decide | with_reducible apply canaryStep_moves | with_reducible apply State.modCanary_moves | split
    | exact fun _ h => h

theorem canaryClock_moves (s : State) (hk : km &&& 0xFFFEFFFFFFFFFB = km) (hs : Moves km s0 s) :
    Moves km s0 (canaryClock s) := by
  refine Moves.comp (k1 := 0xFFFEFFFFFFFFFB) ?_ hk hs
  unfold canaryClock
  repeat' first
    | with_reducible apply Moves.refl | decide | with_reducible apply canaryEdge_moves | with_reducible apply State.modCanary_moves
    | (lift_lets; intro x; first | (refine Moves.mid (t := x) ?_ (fun hx => ?_) <;> [dsimp +zetaDelta only; clear_value x]) | clear_value x)
    | split | exact fun _ h => h

theorem takeService_moves (s : State) (hk : km &&& 0xFFBEFFFFFFFF7B = km) (hs : Moves km s0 s) :
    Moves km s0 (takeService s) := by
  refine Moves.comp (k1 := 0xFFBEFFFFFFFF7B) ?_ hk hs
  unfold takeService
  repeat' first
    | with_reducible apply Moves.refl | with_reducible assumption | decide | with_reducible apply canaryBite_moves
    | with_reducible apply State.modCanary_moves | with_reducible apply State.bump_moves | with_reducible apply State.putN_moves
    | with_reducible apply State.put_moves
    | (intro x; first | (refine Moves.mid (t := x) ?_ (fun hx => ?_) <;> [dsimp +zetaDelta only; clear_value x]) | clear_value x)
    | (lift_lets; intro x; first | (refine Moves.mid (t := x) ?_ (fun hx => ?_) <;> [dsimp +zetaDelta only; clear_value x]) | clear_value x)
    | split | exact fun _ h => h

theorem execCanaryServiceTaken_moves (s : State) (hk : km &&& 0xFFBEFFFFFFFF7B = km) (hs : Moves km s0 s) :
    Moves km s0 (Out.left s (execCanaryServiceTaken s)) := by
  refine Moves.comp (k1 := 0xFFBEFFFFFFFF7B) ?_ hk hs
  unfold execCanaryServiceTaken
  repeat' first
    | with_reducible apply Moves.refl | decide | with_reducible apply takeService_moves | with_reducible apply Moves.when

theorem canaryWarn_moves (s : State) (hk : km &&& 0xFFBEFFFBFFFFFB = km) (hs : Moves km s0 s) :
    Moves km s0 (canaryWarn s) := by
  refine Moves.comp (k1 := 0xFFBEFFFBFFFFFB) ?_ hk hs
  unfold canaryWarn
  repeat' first
    | with_reducible apply Moves.refl | decide | with_reducible apply State.d1Event_moves | with_reducible apply canaryStep_moves
    | with_reducible apply State.modCanary_moves | with_reducible apply State.setBits_moves | exact fun _ h => h

theorem execCanaryWarning_moves (s : State) (hk : km &&& 0xFFBEFFFBFFFFFB = km) (hs : Moves km s0 s) :
    Moves km s0 (Out.left s (execCanaryWarning s)) := by
  refine Moves.comp (k1 := 0xFFBEFFFBFFFFFB) ?_ hk hs
  unfold execCanaryWarning
  repeat' first
    | with_reducible apply Moves.refl | decide | with_reducible apply canaryWarn_moves | with_reducible apply Moves.when

theorem execCanaryExpiry_moves (s : State) (hk : km &&& 0xFFFEFFFFFFFF7B = km) (hs : Moves km s0 s) :
    Moves km s0 (Out.left s (execCanaryExpiry s)) := by
  refine Moves.comp (k1 := 0xFFFEFFFFFFFF7B) ?_ hk hs
  unfold execCanaryExpiry
  repeat' first
    | with_reducible apply Moves.refl | decide | with_reducible apply canaryBite_moves | with_reducible apply Moves.when

theorem biteReset_moves (s : State) (hk : km &&& 0xFE800004000011 = km) (hs : Moves km s0 s) :
    Moves km s0 (biteReset s) := by
  refine Moves.comp (k1 := 0xFE800004000011) ?_ hk hs
  unfold biteReset
  repeat' first
    | with_reducible apply Moves.refl | decide | with_reducible apply systemReset_moves | with_reducible apply State.setBits_moves
    | with_reducible apply State.bump_moves

theorem execBiteDelayExpiry_moves (s : State) (hk : km &&& 0xFE800004000011 = km) (hs : Moves km s0 s) :
    Moves km s0 (Out.left s (execBiteDelayExpiry s)) := by
  refine Moves.comp (k1 := 0xFE800004000011) ?_ hk hs
  unfold execBiteDelayExpiry
  repeat' first
    | with_reducible apply Moves.refl | decide | with_reducible apply biteReset_moves | with_reducible apply Moves.when

theorem canaryEnd_moves (s : State) (hk : km &&& 0xFE800000000011 = km) (hs : Moves km s0 s) :
    Moves km s0 (canaryEnd s) := by
  refine Moves.comp (k1 := 0xFE800000000011) ?_ hk hs
  unfold canaryEnd
  repeat' first
    | with_reducible apply Moves.refl | decide | with_reducible apply biteReset_moves | with_reducible apply canaryWarn_moves
    | with_reducible apply takeService_moves | with_reducible apply canaryBite_moves | split

theorem execCanaryService_moves (x0 : Wr) (s : State) (hk : km &&& 0xFFBEFFFFFFEF1B = km) (hs : Moves km s0 s) :
    Moves km s0 (Out.left s (execCanaryService x0 s)) := by
  refine Moves.comp (k1 := 0xFFBEFFFFFFEF1B) ?_ hk hs
  unfold execCanaryService
  repeat' first
    | with_reducible apply Moves.refl | with_reducible assumption | decide | ((with_reducible apply accessWrite_moves) <;> try intro _ _ _)
    | with_reducible apply canaryServiceEff_moves | with_reducible apply Moves.next

theorem execCheckIn_moves (x0 : Wr) (s : State) (hk : km &&& 0xFFBEFFFFFFEF9B = km) (hs : Moves km s0 s) :
    Moves km s0 (Out.left s (execCheckIn x0 s)) := by
  refine Moves.comp (k1 := 0xFFBEFFFFFFEF9B) ?_ hk hs
  unfold execCheckIn
  repeat' first
    | with_reducible apply Moves.refl | with_reducible assumption | decide | ((with_reducible apply accessWrite_moves) <;> try intro _ _ _)
    | with_reducible apply checkInEff_moves | with_reducible apply Moves.next

theorem execCanaryLock_moves (x0 : Wr) (s : State) (hk : km &&& 0xFFBFFFFFFFEF9B = km) (hs : Moves km s0 s) :
    Moves km s0 (Out.left s (execCanaryLock x0 s)) := by
  refine Moves.comp (k1 := 0xFFBFFFFFFFEF9B) ?_ hk hs
  unfold execCanaryLock
  repeat' first
    | with_reducible apply Moves.refl | with_reducible assumption | decide | ((with_reducible apply accessWrite_moves) <;> try intro _ _ _)
    | with_reducible apply lockEff_moves | with_reducible apply Moves.next

theorem State.modClk_moves (s : State) (f : ClockGen → ClockGen) (hk : km &&& 0xFFFFFFFFFFFBFF = km) (hs : Moves km s0 s) :
    Moves km s0 (s.modClk f) :=
  Moves.of_clk s _  hk hs

theorem returnEff_moves (w' : Wr) (b' : Bool) (s' : State) (hk : km &&& 0xFFFFFFFFFFFBFB = km) (hs : Moves km s0 s') :
    Moves km s0 (returnEff  w' b' s').2 := by
  refine Moves.comp (k1 := 0xFFFFFFFFFFFBFB) ?_ hk hs
  unfold returnEff
  repeat' first
    | with_reducible apply Moves.refl | with_reducible assumption | decide | with_reducible apply State.modClk_moves
    | with_reducible apply acc_moves | with_reducible apply State.putN_moves
    | (lift_lets; intro x; first | (refine Moves.mid (t := x) ?_ (fun hx => ?_) <;> [dsimp +zetaDelta only; clear_value x]) | clear_value x)
    | split

theorem clockStarted_moves (s : State) (hk : km &&& 0xFFFFFFFFFFFFFB = km) (hs : Moves km s0 s) :
    Moves km s0 (clockStarted s) := by
  refine Moves.comp (k1 := 0xFFFFFFFFFFFFFB) ?_ hk hs
  unfold clockStarted
  repeat' first
    | with_reducible apply Moves.refl | decide | with_reducible apply copyCause_moves | with_reducible apply State.putN_moves | split

theorem execXiQualified_moves (edges : List ℕ) (s : State) (hk : km &&& 0xFFFFFFFFFFFFFB = km) (hs : Moves km s0 s) :
    Moves km s0 (Out.left s (execXiQualified edges s)) := by
  refine Moves.comp (k1 := 0xFFFFFFFFFFFFFB) ?_ hk hs
  unfold execXiQualified
  repeat' first
    | with_reducible apply Moves.refl | decide | with_reducible apply clockStarted_moves | with_reducible apply State.putN_moves
    | with_reducible apply Moves.when | split

theorem execXiQualifyTimeout_moves (s : State) (hk : km &&& 0xFFFFFFFFFFFFFB = km) (hs : Moves km s0 s) :
    Moves km s0 (Out.left s (execXiQualifyTimeout s)) := by
  refine Moves.comp (k1 := 0xFFFFFFFFFFFFFB) ?_ hk hs
  unfold execXiQualifyTimeout
  repeat' first
    | with_reducible apply Moves.refl | decide | with_reducible apply clockStarted_moves | with_reducible apply State.putN_moves
    | with_reducible apply Moves.when

theorem execXiLoss_moves (test : XiTest) (s : State) (hk : km &&& 0xFFBFFFFFFFFB7B = km) (hs : Moves km s0 s) :
    Moves km s0 (Out.left s (execXiLoss test s)) := by
  refine Moves.comp (k1 := 0xFFBFFFFFFFFB7B) ?_ hk hs
  unfold execXiLoss
  repeat' first
    | with_reducible apply Moves.refl | decide | with_reducible apply State.modClk_moves | with_reducible apply State.report_moves
    | with_reducible apply State.bump_moves | with_reducible apply State.putN_moves | with_reducible apply Moves.when | split

theorem execPllUnlock_moves (s : State) (hk : km &&& 0xFFBFEFDFFFFB7B = km) (hs : Moves km s0 s) :
    Moves km s0 (Out.left s (execPllUnlock s)) := by
  refine Moves.comp (k1 := 0xFFBFEFDFFFFB7B) ?_ hk hs
  unfold execPllUnlock
  repeat' first
    | with_reducible apply Moves.refl | decide | with_reducible apply convertersAbort_moves | with_reducible apply canClockStop_moves
    | with_reducible apply State.modClk_moves | with_reducible apply State.report_moves | with_reducible apply State.bump_moves
    | with_reducible apply State.putN_moves | with_reducible apply Moves.when

theorem execReturnRequest_moves (x0 : Wr) (s : State) (hk : km &&& 0xFFBFFFFFFFEB9B = km) (hs : Moves km s0 s) :
    Moves km s0 (Out.left s (execReturnRequest x0 s)) := by
  refine Moves.comp (k1 := 0xFFBFFFFFFFEB9B) ?_ hk hs
  unfold execReturnRequest
  repeat' first
    | with_reducible apply Moves.refl | with_reducible assumption | decide | ((with_reducible apply accessWrite_moves) <;> try intro _ _ _)
    | with_reducible apply returnEff_moves | with_reducible apply Moves.next

theorem execAutomaticReturn_moves (s : State) (hk : km &&& 0xFFFFFFFFFFFBFB = km) (hs : Moves km s0 s) :
    Moves km s0 (Out.left s (execAutomaticReturn s)) := by
  refine Moves.comp (k1 := 0xFFFFFFFFFFFBFB) ?_ hk hs
  unfold execAutomaticReturn
  repeat' first
    | with_reducible apply Moves.refl | decide | with_reducible apply State.modClk_moves | with_reducible apply State.putN_moves
    | with_reducible apply Moves.when

theorem execPllRelock_moves (s : State) (hk : km &&& 0xFFBFE47FFFFBFB = km) (hs : Moves km s0 s) :
    Moves km s0 (Out.left s (execPllRelock s)) := by
  refine Moves.comp (k1 := 0xFFBFE47FFFFBFB) ?_ hk hs
  unfold execPllRelock
  repeat' first
    | with_reducible apply Moves.refl | decide | with_reducible apply restartDrivers_moves | with_reducible apply canClockStart_moves
    | with_reducible apply State.modClk_moves | with_reducible apply State.putN_moves | with_reducible apply Moves.next
    | with_reducible apply Moves.when | split

theorem execReturnFailure_moves (s : State) (hk : km &&& 0xFFBFFFFFFFFBFB = km) (hs : Moves km s0 s) :
    Moves km s0 (Out.left s (execReturnFailure s)) := by
  refine Moves.comp (k1 := 0xFFBFFFFFFFFBFB) ?_ hk hs
  unfold execReturnFailure
  repeat' first
    | with_reducible apply Moves.refl | decide | with_reducible apply State.modClk_moves | with_reducible apply State.bump_moves
    | with_reducible apply Moves.next | with_reducible apply Moves.when | split

theorem State.modCol_moves (s : State) (f : Collector → Collector) (hk : km &&& 0xFFFDFFFFFFFFFF = km) (hs : Moves km s0 s) :
    Moves km s0 (s.modCol f) :=
  Moves.of_col s _  hk hs

theorem popLog_moves (s : State) (hk : km &&& 0xFFFDFFFFFFFFFF = km) (hs : Moves km s0 s) :
    Moves km s0 (popLog s) := by
  refine Moves.comp (k1 := 0xFFFDFFFFFFFFFF) ?_ hk hs
  unfold popLog
  repeat' first
    | with_reducible apply Moves.refl | decide | with_reducible apply State.modCol_moves

theorem releaseHarbourEff_moves (w' : Wr) (b' : Bool) (s' : State) (hk : km &&& 0xFFFDFFFFFFFFFB = km) (hs : Moves km s0 s') :
    Moves km s0 (releaseHarbourEff  w' b' s').2 := by
  refine Moves.comp (k1 := 0xFFFDFFFFFFFFFB) ?_ hk hs
  unfold releaseHarbourEff
  repeat' first
    | with_reducible apply Moves.refl | decide | with_reducible apply State.modCol_moves | with_reducible apply rej_moves
    | with_reducible apply acc_moves | with_reducible apply State.putN_moves | split

theorem collectorPlainEff_moves (i : ℕ) (j : ℕ) (w' : Wr) (b' : Bool) (s' : State) (hk : km &&& 0xFFFDFFFFFFFFFB = km) (hs : Moves km s0 s') :
    Moves km s0 (collectorPlainEff i j w' b' s').2 := by
  refine Moves.comp (k1 := 0xFFFDFFFFFFFFFB) ?_ hk hs
  unfold collectorPlainEff
  repeat' first
    | with_reducible apply Moves.refl | decide | with_reducible apply State.modCol_moves | with_reducible apply plainWrite_moves
    | (with_reducible apply Moves.snd (by assumption)) | split

theorem enterHarbourEff_moves (w' : Wr) (b' : Bool) (s' : State) (hk : km &&& 0xFFFDFFFFFFFFFF = km) (hs : Moves km s0 s') :
    Moves km s0 (enterHarbourEff  w' b' s').2 := by
  refine Moves.comp (k1 := 0xFFFDFFFFFFFFFF) ?_ hk hs
  unfold enterHarbourEff
  repeat' first
    | with_reducible apply Moves.refl | decide | with_reducible apply State.modCol_moves | with_reducible apply acc_moves

theorem firmwareReportEff_moves (w' : Wr) (b' : Bool) (s' : State) (hk : km &&& 0xFFFFFFFFFFFF7F = km) (hs : Moves km s0 s') :
    Moves km s0 (firmwareReportEff  w' b' s').2 := by
  refine Moves.comp (k1 := 0xFFFFFFFFFFFF7F) ?_ hk hs
  unfold firmwareReportEff
  repeat' first
    | with_reducible apply Moves.refl | decide | with_reducible apply State.report_moves | with_reducible apply acc_moves

theorem setReportPending_moves (s : State) (r : Report) (hk : km &&& 0xFFBDFFFFFFFFFB = km) (hs : Moves km s0 s) :
    Moves km s0 (setReportPending s r) := by
  refine Moves.comp (k1 := 0xFFBDFFFFFFFFFB) ?_ hk hs
  unfold setReportPending
  repeat' first
    | with_reducible apply Moves.refl | decide | with_reducible apply State.setBits_moves | with_reducible apply State.modCol_moves | split

theorem logReport_moves (s : State) (x1 : DWord) (hk : km &&& 0xFFBDFFFFFFFFFB = km) (hs : Moves km s0 s) :
    Moves km s0 (logReport s x1) := by
  refine Moves.comp (k1 := 0xFFBDFFFFFFFFFB) ?_ hk hs
  unfold logReport
  repeat' first
    | with_reducible apply Moves.refl | decide | with_reducible apply State.setBits_moves | with_reducible apply State.bump_moves
    | with_reducible apply State.modCol_moves | split

theorem queueReportPost_moves (s : State) (x1 : DWord) (hk : km &&& 0xFFBDFFFFFFFFFB = km) (hs : Moves km s0 s) :
    Moves km s0 (queueReportPost s x1) := by
  refine Moves.comp (k1 := 0xFFBDFFFFFFFFFB) ?_ hk hs
  unfold queueReportPost
  repeat' first
    | with_reducible apply Moves.refl | decide | with_reducible apply State.bump_moves | with_reducible apply State.modCol_moves
    | (lift_lets; intro x; first | (refine Moves.mid (t := x) ?_ (fun hx => ?_) <;> [dsimp +zetaDelta only; clear_value x]) | clear_value x)
    | split

theorem reportEmcy_moves (s : State) (r : Report) (hk : km &&& 0xFFBFEFFFFFFFFB = km) (hs : Moves km s0 s) :
    Moves km s0 (reportEmcy s r) := by
  refine Moves.comp (k1 := 0xFFBFEFFFFFFFFB) ?_ hk hs
  unfold reportEmcy
  repeat' first
    | with_reducible apply Moves.refl | decide | with_reducible apply emcy_moves | split

theorem takeReport_moves (s : State) (r : Report) (hk : km &&& 0xFFBDEFFFFFFFFB = km) (hs : Moves km s0 s) :
    Moves km s0 (takeReport s r) := by
  refine Moves.comp (k1 := 0xFFBDEFFFFFFFFB) ?_ hk hs
  unfold takeReport
  repeat' first
    | with_reducible apply Moves.refl | decide | with_reducible apply reportEmcy_moves | with_reducible apply queueReportPost_moves
    | with_reducible apply logReport_moves | with_reducible apply setReportPending_moves | with_reducible apply State.bump_moves
    | with_reducible apply State.modCol_moves | split

theorem ownMembers_moves (s : State) (r : ℕ) (hk : km &&& 0xFFBFFFFF3FFF7B = km) (hs : Moves km s0 s) :
    Moves km s0 (ownMembers s r) := by
  refine Moves.comp (k1 := 0xFFBFFFFF3FFF7B) ?_ hk hs
  unfold ownMembers
  repeat' first
    | with_reducible apply Moves.refl | decide | with_reducible apply takeOwner_moves
    | ((with_reducible apply Moves.foldl) <;> try intro _ _)

theorem stopRails_moves (s : State) (hk : km &&& 0xFFAFFFF93FFF6B = km) (hs : Moves km s0 s) :
    Moves km s0 (stopRails s) := by
  refine Moves.comp (k1 := 0xFFAFFFF93FFF6B) ?_ hk hs
  unfold stopRails
  repeat' first
    | with_reducible apply Moves.refl | decide | with_reducible apply ownMembers_moves | with_reducible apply settleAll_moves
    | with_reducible apply stopRail_moves | split | ((with_reducible apply Moves.foldl) <;> try intro _ _)

theorem windRails_moves (s : State) (hk : km &&& 0xFFAFFFF93FFF6B = km) (hs : Moves km s0 s) :
    Moves km s0 (windRails s) := by
  refine Moves.comp (k1 := 0xFFAFFFF93FFF6B) ?_ hk hs
  unfold windRails
  repeat' first
    | with_reducible apply Moves.refl | decide | with_reducible apply ownMembers_moves | with_reducible apply windRail_moves
    | with_reducible apply settleAll_moves | split | ((with_reducible apply Moves.foldl) <;> try intro _ _)

theorem harbourOutputs_moves (s : State) (hk : km &&& 0xFFAFFC793FFF6B = km) (hs : Moves km s0 s) :
    Moves km s0 (harbourOutputs s) := by
  refine Moves.comp (k1 := 0xFFAFFC793FFF6B) ?_ hk hs
  unfold harbourOutputs
  repeat' first
    | with_reducible apply Moves.refl | decide | with_reducible apply downAction_moves | with_reducible apply ownMembers_moves
    | with_reducible apply settleLines_moves | with_reducible apply settleAll_moves | with_reducible apply noteBound_moves
    | with_reducible apply stopRail_moves | split | ((with_reducible apply Moves.foldl) <;> try intro _ _)

theorem enterHarbour_moves (s : State) (cause : ℕ) (src : ℕ) (hk : km &&& 0xFFADFC793FFF6B = km) (hs : Moves km s0 s) :
    Moves km s0 (enterHarbour s cause src) := by
  refine Moves.comp (k1 := 0xFFADFC793FFF6B) ?_ hk hs
  unfold enterHarbour
  repeat' first
    | with_reducible apply Moves.refl | with_reducible assumption | decide | with_reducible apply harbourOutputs_moves
    | with_reducible apply settleLines_moves | with_reducible apply State.setBits_moves | with_reducible apply State.bump_moves
    | with_reducible apply State.modCol_moves | with_reducible apply State.putN_moves | with_reducible apply State.put_moves
    | (lift_lets; intro x; first | (refine Moves.mid (t := x) ?_ (fun hx => ?_) <;> [dsimp +zetaDelta only; clear_value x]) | clear_value x)
    | split

theorem leaveHarbour_moves (s : State) (hk : km &&& 0xFFADEDF93FFF6B = km) (hs : Moves km s0 s) :
    Moves km s0 (leaveHarbour s) := by
  refine Moves.comp (k1 := 0xFFADEDF93FFF6B) ?_ hk hs
  unfold leaveHarbour
  repeat' first
    | with_reducible apply Moves.refl | decide | with_reducible apply emcy_moves | with_reducible apply settleLines_moves
    | with_reducible apply settleAll_moves | with_reducible apply State.setBits_moves | with_reducible apply State.modCol_moves
    | with_reducible apply State.putN_moves

theorem resetEngines_moves (s : State) (x1 : List (ℕ × ℕ)) (hk : km &&& 0xFFFFFFFFF7FFFF = km) (hs : Moves km s0 s) :
    Moves km s0 (resetEngines s x1) := by
  refine Moves.comp (k1 := 0xFFFFFFFFF7FFFF) ?_ hk hs
  unfold resetEngines
  repeat' first
    | with_reducible apply Moves.refl | decide | with_reducible apply requestUnitReset_moves | split
    | ((with_reducible apply Moves.foldl) <;> try intro _ _)

theorem lesserActs_moves (s : State) (x1 : List (ℕ × ℕ)) (harbour : Bool) (hk : km &&& 0xFFAFFC7937FF6B = km) (hs : Moves km s0 s) :
    Moves km s0 (lesserActs s x1 harbour) := by
  refine Moves.comp (k1 := 0xFFAFFC7937FF6B) ?_ hk hs
  unfold lesserActs
  repeat' first
    | with_reducible apply Moves.refl | with_reducible assumption | decide | with_reducible apply resetEngines_moves
    | with_reducible apply windRails_moves | with_reducible apply stopRails_moves | with_reducible apply startDown_moves
    | (intro x; first | (refine Moves.mid (t := x) ?_ (fun hx => ?_) <;> [dsimp +zetaDelta only; clear_value x]) | clear_value x)
    | (lift_lets; intro x; first | (refine Moves.mid (t := x) ?_ (fun hx => ?_) <;> [dsimp +zetaDelta only; clear_value x]) | clear_value x)
    | split

theorem collectorBegin_moves (s : State) (hk : km &&& 0xFE800000000001 = km) (hs : Moves km s0 s) :
    Moves km s0 (collectorBegin s) := by
  refine Moves.comp (k1 := 0xFE800000000001) ?_ hk hs
  unfold collectorBegin
  repeat' first
    | with_reducible apply Moves.refl | with_reducible assumption | decide | with_reducible apply lesserActs_moves
    | with_reducible apply leaveHarbour_moves | with_reducible apply enterHarbour_moves | with_reducible apply systemReset_moves
    | with_reducible apply State.modCol_moves
    | (intro x; first | (refine Moves.mid (t := x) ?_ (fun hx => ?_) <;> [dsimp +zetaDelta only; clear_value x]) | clear_value x)
    | (lift_lets; intro x; first | (refine Moves.mid (t := x) ?_ (fun hx => ?_) <;> [dsimp +zetaDelta only; clear_value x]) | clear_value x)
    | split

theorem takeReports_moves (s : State) (hk : km &&& 0xFFBDEFFFFFFF7B = km) (hs : Moves km s0 s) :
    Moves km s0 (takeReports s) := by
  refine Moves.comp (k1 := 0xFFBDEFFFFFFF7B) ?_ hk hs
  unfold takeReports
  repeat' first
    | with_reducible apply Moves.refl | decide | with_reducible apply takeReport_moves | with_reducible apply State.modCol_moves
    | ((with_reducible apply Moves.foldl) <;> try intro _ _) | with_reducible apply Moves.of_raised

theorem execFaultReport_moves (s : State) (hk : km &&& 0xFFBDEFFFFFFF7B = km) (hs : Moves km s0 s) :
    Moves km s0 (Out.left s (execFaultReport s)) := by
  refine Moves.comp (k1 := 0xFFBDEFFFFFFF7B) ?_ hk hs
  unfold execFaultReport
  repeat' first
    | with_reducible apply Moves.refl | decide | with_reducible apply takeReports_moves | with_reducible apply Moves.when

theorem collectorEnd_moves (s : State) (hk : km &&& 0xFFBDEFFFFFFF7B = km) (hs : Moves km s0 s) :
    Moves km s0 (collectorEnd s) := by
  refine Moves.comp (k1 := 0xFFBDEFFFFFFF7B) ?_ hk hs
  unfold collectorEnd
  repeat' first
    | with_reducible apply Moves.refl | decide | with_reducible apply takeReports_moves | split

theorem handFault_moves (s : State) (hk : km &&& 0xFFBDFFFFFFFEFB = km) (hs : Moves km s0 s) :
    Moves km s0 (handFault s) := by
  refine Moves.comp (k1 := 0xFFBDFFFFFFFEFB) ?_ hk hs
  unfold handFault
  repeat' first
    | with_reducible apply Moves.refl | with_reducible assumption | decide | with_reducible apply State.bump_moves
    | with_reducible apply State.modCol_moves
    | (lift_lets; intro x; first | (refine Moves.mid (t := x) ?_ (fun hx => ?_) <;> [dsimp +zetaDelta only; clear_value x]) | clear_value x)
    | split | with_reducible apply Moves.of_cyc | with_reducible apply Moves.of_postNet

theorem execFaultPost_moves (s : State) (hk : km &&& 0xFFBDFFFFFFFEFB = km) (hs : Moves km s0 s) :
    Moves km s0 (Out.left s (execFaultPost s)) := by
  refine Moves.comp (k1 := 0xFFBDFFFFFFFEFB) ?_ hk hs
  unfold execFaultPost
  repeat' first
    | with_reducible apply Moves.refl | decide | with_reducible apply handFault_moves | with_reducible apply Moves.when

theorem execHarbourRelease_moves (x0 : Wr) (s : State) (hk : km &&& 0xFFBDFFFFFFEF9B = km) (hs : Moves km s0 s) :
    Moves km s0 (Out.left s (execHarbourRelease x0 s)) := by
  refine Moves.comp (k1 := 0xFFBDFFFFFFEF9B) ?_ hk hs
  unfold execHarbourRelease
  repeat' first
    | with_reducible apply Moves.refl | with_reducible assumption | decide | ((with_reducible apply accessWrite_moves) <;> try intro _ _ _)
    | with_reducible apply releaseHarbourEff_moves | with_reducible apply Moves.next

theorem execHarbourEnterCommand_moves (x0 : Wr) (s : State) (hk : km &&& 0xFFBDFFFFFFEF9B = km) (hs : Moves km s0 s) :
    Moves km s0 (Out.left s (execHarbourEnterCommand x0 s)) := by
  refine Moves.comp (k1 := 0xFFBDFFFFFFEF9B) ?_ hk hs
  unfold execHarbourEnterCommand
  repeat' first
    | with_reducible apply Moves.refl | with_reducible assumption | decide | ((with_reducible apply accessWrite_moves) <;> try intro _ _ _)
    | with_reducible apply enterHarbourEff_moves | with_reducible apply Moves.next

theorem execHarbourAutomaticExit_moves (s : State) (hk : km &&& 0xFFADEDF93FFF6B = km) (hs : Moves km s0 s) :
    Moves km s0 (Out.left s (execHarbourAutomaticExit s)) := by
  refine Moves.comp (k1 := 0xFFADEDF93FFF6B) ?_ hk hs
  unfold execHarbourAutomaticExit
  repeat' first
    | with_reducible apply Moves.refl | decide | with_reducible apply leaveHarbour_moves | with_reducible apply State.bump_moves
    | with_reducible apply Moves.when

theorem execRecoveryWindowExpiry_moves (s : State) (hk : km &&& 0xFFFDFFFFFFFFFB = km) (hs : Moves km s0 s) :
    Moves km s0 (Out.left s (execRecoveryWindowExpiry s)) := by
  refine Moves.comp (k1 := 0xFFFDFFFFFFFFFB) ?_ hk hs
  unfold execRecoveryWindowExpiry
  repeat' first
    | with_reducible apply Moves.refl | decide | with_reducible apply State.sub_moves | with_reducible apply State.modCol_moves
    | with_reducible apply Moves.when

theorem rewriteStore_moves (s : State) (x1 : CollectorWord) (hk : km &&& 0xFFFDFFFFFFFFFB = km) (hs : Moves km s0 s) :
    Moves km s0 (rewriteStore s x1) := by
  refine Moves.comp (k1 := 0xFFFDFFFFFFFFFB) ?_ hk hs
  unfold rewriteStore
  repeat' first
    | with_reducible apply Moves.refl | decide | with_reducible apply State.modCol_moves | with_reducible apply State.put_moves | split

theorem execCollectorStorageError_moves (x : CollectorWord) (double : Bool) (s : State) (hk : km &&& 0xFFBDFFFFFFFF7B = km) (hs : Moves km s0 s) :
    Moves km s0 (Out.left s (execCollectorStorageError x double s)) := by
  refine Moves.comp (k1 := 0xFFBDFFFFFFFF7B) ?_ hk hs
  unfold execCollectorStorageError
  repeat' first
    | with_reducible apply Moves.refl | decide | with_reducible apply rewriteStore_moves | with_reducible apply State.report_moves
    | with_reducible apply State.setBits_moves | with_reducible apply State.bump_moves | with_reducible apply State.modCol_moves
    | with_reducible apply Moves.when | split

theorem execFirmwareReport_moves (x0 : Wr) (s : State) (hk : km &&& 0xFFBFFFFFFFEF1B = km) (hs : Moves km s0 s) :
    Moves km s0 (Out.left s (execFirmwareReport x0 s)) := by
  refine Moves.comp (k1 := 0xFFBFFFFFFFEF1B) ?_ hk hs
  unfold execFirmwareReport
  repeat' first
    | with_reducible apply Moves.refl | with_reducible assumption | decide | ((with_reducible apply accessWrite_moves) <;> try intro _ _ _)
    | with_reducible apply firmwareReportEff_moves | with_reducible apply Moves.next

theorem snapshotEff_moves (w' : Wr) (b' : Bool) (s' : State) (hk : km &&& 0xFFEFFFFFFFFFFF = km) (hs : Moves km s0 s') :
    Moves km s0 (snapshotEff  w' b' s').2 := by
  refine Moves.comp (k1 := 0xFFEFFFFFFFFFFF) ?_ hk hs
  unfold snapshotEff
  dsimp only
  repeat' first
    | with_reducible apply Moves.refl | decide | with_reducible apply acc_moves | with_reducible apply Moves.of_life | rfl

theorem countWriteEff_moves (i : ℕ) (j : ℕ) (x2 : DWord) (w' : Wr) (b' : Bool) (s' : State) (hk : km &&& 0xFFBFFFFFFFFF7B = km) (hs : Moves km s0 s') :
    Moves km s0 (countWriteEff i j x2 w' b' s').2 := by
  refine Moves.comp (k1 := 0xFFBFFFFFFFFF7B) ?_ hk hs
  unfold countWriteEff
  repeat' first
    | with_reducible apply Moves.refl | decide | with_reducible apply plainPair_moves | with_reducible apply State.putPair_moves
    | with_reducible apply State.report_moves | with_reducible apply State.setBits_moves | with_reducible apply acc_moves | split

theorem addCount_moves (s : State) (x1 : ℕ) (k : ℕ) (hk : km &&& 0xFFBFFFFFFFFF7B = km) (hs : Moves km s0 s) :
    Moves km s0 (addCount s x1 k) := by
  refine Moves.comp (k1 := 0xFFBFFFFFFFFF7B) ?_ hk hs
  unfold addCount
  repeat' first
    | with_reducible apply Moves.refl | with_reducible assumption | decide | with_reducible apply State.putPair_moves
    | with_reducible apply State.report_moves | with_reducible apply State.setBits_moves | with_reducible apply State.noteCount_moves
    | (intro x; first | (refine Moves.mid (t := x) ?_ (fun hx => ?_) <;> [dsimp +zetaDelta only; clear_value x]) | clear_value x)
    | (lift_lets; intro x; first | (refine Moves.mid (t := x) ?_ (fun hx => ?_) <;> [dsimp +zetaDelta only; clear_value x]) | clear_value x)
    | split

theorem execCounterEvent_moves (x0 : Fin 96) (k : BitVec 11) (s : State) (hk : km &&& 0xFFBFFFFFFFFF7B = km) (hs : Moves km s0 s) :
    Moves km s0 (Out.left s (execCounterEvent x0 k s)) := by
  refine Moves.comp (k1 := 0xFFBFFFFFFFFF7B) ?_ hk hs
  unfold execCounterEvent
  repeat' first
    | with_reducible apply Moves.refl | decide | with_reducible apply addCount_moves | with_reducible apply Moves.when

theorem countersEnd_moves (s : State) (hk : km &&& 0xFFBFFFFFFFFF7B = km) (hs : Moves km s0 s) :
    Moves km s0 (countersEnd s) := by
  refine Moves.comp (k1 := 0xFFBFFFFFFFFF7B) ?_ hk hs
  unfold countersEnd
  repeat' first
    | with_reducible apply Moves.refl | decide | with_reducible apply addCount_moves | split
    | ((with_reducible apply Moves.foldl) <;> try intro _ _)

theorem snapshotBlock_moves (s : State) (x1 : ℕ) (hk : km &&& 0xFFFFFFFFFFFFFB = km) (hs : Moves km s0 s) :
    Moves km s0 (snapshotBlock s x1) := by
  refine Moves.comp (k1 := 0xFFFFFFFFFFFFFB) ?_ hk hs
  unfold snapshotBlock
  repeat' first
    | with_reducible apply Moves.refl | decide | with_reducible apply State.put_moves
    | ((with_reducible apply Moves.foldl) <;> try intro _ _)

theorem snapshotBegin_moves (s : State) (hk : km &&& 0xFFEFFFFFFFFFFB = km) (hs : Moves km s0 s) :
    Moves km s0 (snapshotBegin s) := by
  refine Moves.comp (k1 := 0xFFEFFFFFFFFFFB) ?_ hk hs
  unfold snapshotBegin
  repeat' first
    | with_reducible apply Moves.refl | with_reducible assumption | decide | with_reducible apply snapshotBlock_moves
    | with_reducible apply State.putPair_moves
    | (lift_lets; intro x; first | (refine Moves.mid (t := x) ?_ (fun hx => ?_) <;> [dsimp +zetaDelta only; clear_value x]) | clear_value x)
    | split | ((with_reducible apply Moves.foldl) <;> try intro _ _) | with_reducible apply Moves.of_life | rfl

theorem execSnapshotMaskWrite_moves (x0 : Wr) (s : State) (hk : km &&& 0xFFAFFFFFFFEF9B = km) (hs : Moves km s0 s) :
    Moves km s0 (Out.left s (execSnapshotMaskWrite x0 s)) := by
  refine Moves.comp (k1 := 0xFFAFFFFFFFEF9B) ?_ hk hs
  unfold execSnapshotMaskWrite
  repeat' first
    | with_reducible apply Moves.refl | with_reducible assumption | decide | ((with_reducible apply accessWrite_moves) <;> try intro _ _ _)
    | with_reducible apply snapshotEff_moves | with_reducible apply Moves.next

end Sys2Proof.Machine
end

