-- ==== Sys2Proof/Laws/MovesStore.lean ====
section
/-! SUPPORT. What every operation keeps, one lemma each, named after the operation, with the bits of `Moves`: the clock, the stores, the ledger, the two-wire ports, the domains and the start-up. -/
namespace Sys2Proof.Machine

set_option linter.all false

variable {km : Nat} {s0 : State}

theorem State.modRtc_moves (s : State) (f : Rtc → Rtc) (hk : km &&& 0xFFFBFFFFFFFFFF = km) (hs : Moves km s0 s) :
    Moves km s0 (s.modRtc f) :=
  Moves.of_rtc s _  hk hs

theorem latchSet_moves (s : State) (sec : ℕ) (f : ℕ) (hk : km &&& 0xFFFBFFFFFFFFFF = km) (hs : Moves km s0 s) :
    Moves km s0 (latchSet s sec f) := by
  refine Moves.comp (k1 := 0xFFFBFFFFFFFFFF) ?_ hk hs
  unfold latchSet
  repeat' first
    | with_reducible apply Moves.refl | decide | with_reducible apply State.modRtc_moves

theorem timeSetEff_moves (w' : Wr) (b' : Bool) (s' : State) (hk : km &&& 0xFFBBFFFFFFFFFB = km) (hs : Moves km s0 s') :
    Moves km s0 (timeSetEff  w' b' s').2 := by
  refine Moves.comp (k1 := 0xFFBBFFFFFFFFFB) ?_ hk hs
  unfold timeSetEff
  repeat' first
    | with_reducible apply Moves.refl | decide | with_reducible apply latchSet_moves | with_reducible apply State.setBits_moves
    | with_reducible apply rej_moves | with_reducible apply acc_moves | with_reducible apply State.putN_moves
    | with_reducible apply State.put_moves
    | (lift_lets; intro x; first | (refine Moves.mid (t := x) ?_ (fun hx => ?_) <;> [dsimp +zetaDelta only; clear_value x]) | clear_value x)
    | split

theorem secondsSetEff_moves (w' : Wr) (b' : Bool) (s' : State) (hk : km &&& 0xFFFBFFFFFFFFBF = km) (hs : Moves km s0 s') :
    Moves km s0 (secondsSetEff  w' b' s').2 := by
  refine Moves.comp (k1 := 0xFFFBFFFFFFFFBF) ?_ hk hs
  unfold secondsSetEff
  repeat' first
    | with_reducible apply Moves.refl | with_reducible assumption | decide | ((with_reducible apply commitPair_moves) <;> try intro _ _ _)
    | with_reducible apply latchSet_moves | with_reducible apply acc_moves

theorem execAlarmFire_moves (s : State) (hk : km &&& 0xFFBBFFFBFFFFFB = km) (hs : Moves km s0 s) :
    Moves km s0 (Out.left s (execAlarmFire s)) := by
  refine Moves.comp (k1 := 0xFFBBFFFBFFFFFB) ?_ hk hs
  unfold execAlarmFire
  repeat' first
    | with_reducible apply Moves.refl | decide | with_reducible apply State.d1Event_moves | with_reducible apply State.modRtc_moves
    | with_reducible apply State.setBits_moves | with_reducible apply Moves.when

theorem execBedrockSupplySwitch_moves (toVbak : Bool) (s : State) (hk : km &&& 0xFFBFFFFFFFFFFB = km) (hs : Moves km s0 s) :
    Moves km s0 (Out.left s (execBedrockSupplySwitch toVbak s)) := by
  refine Moves.comp (k1 := 0xFFBFFFFFFFFFFB) ?_ hk hs
  unfold execBedrockSupplySwitch
  repeat' first
    | with_reducible apply Moves.refl | decide | with_reducible apply State.clrBits_moves | with_reducible apply State.setBits_moves
    | with_reducible apply State.bump_moves | with_reducible apply Moves.when | split

theorem execVbakLow_moves (risen : Bool) (s : State) (hk : km &&& 0xFFBBFFFFFFFF7B = km) (hs : Moves km s0 s) :
    Moves km s0 (Out.left s (execVbakLow risen s)) := by
  refine Moves.comp (k1 := 0xFFBBFFFFFFFF7B) ?_ hk hs
  unfold execVbakLow
  repeat' first
    | with_reducible apply Moves.refl | decide | with_reducible apply State.modRtc_moves | with_reducible apply State.report_moves
    | with_reducible apply State.setBits_moves | with_reducible apply Moves.when | split

theorem execCalendarSet_moves (x0 : Wr) (s : State) (hk : km &&& 0xFFBBFFFFFFEF9B = km) (hs : Moves km s0 s) :
    Moves km s0 (Out.left s (execCalendarSet x0 s)) := by
  refine Moves.comp (k1 := 0xFFBBFFFFFFEF9B) ?_ hk hs
  unfold execCalendarSet
  repeat' first
    | with_reducible apply Moves.refl | with_reducible assumption | decide | ((with_reducible apply accessWrite_moves) <;> try intro _ _ _)
    | with_reducible apply timeSetEff_moves | with_reducible apply Moves.next

theorem execTimebaseSelect_moves (crystal : Bool) (s : State) (hk : km &&& 0xFFFBFFFFFFFFFB = km) (hs : Moves km s0 s) :
    Moves km s0 (Out.left s (execTimebaseSelect crystal s)) := by
  refine Moves.comp (k1 := 0xFFFBFFFFFFFFFB) ?_ hk hs
  unfold execTimebaseSelect
  repeat' first
    | with_reducible apply Moves.refl | decide | with_reducible apply State.modRtc_moves | with_reducible apply State.putN_moves
    | with_reducible apply Moves.when

theorem putTime_moves (s : State) (sec : ℕ) (f : ℕ) (hk : km &&& 0xFFFFFFFFFFFFFB = km) (hs : Moves km s0 s) :
    Moves km s0 (putTime s sec f) := by
  refine Moves.comp (k1 := 0xFFFFFFFFFFFFFB) ?_ hk hs
  unfold putTime
  repeat' first
    | with_reducible apply Moves.refl | decide | with_reducible apply State.putPair_moves | with_reducible apply State.putN_moves

theorem countStep_moves (s : State) (hk : km &&& 0xFFFBFFFFFFFFFB = km) (hs : Moves km s0 s) :
    Moves km s0 (countStep s) := by
  refine Moves.comp (k1 := 0xFFFBFFFFFFFFFB) ?_ hk hs
  unfold countStep
  repeat' first
    | with_reducible apply Moves.refl | with_reducible assumption | decide | with_reducible apply putTime_moves
    | with_reducible apply State.modRtc_moves
    | (lift_lets; intro x; first | (refine Moves.mid (t := x) ?_ (fun hx => ?_) <;> [dsimp +zetaDelta only; clear_value x]) | clear_value x)
    | split

theorem countSteps_moves (x0 : ℕ) (x1 : State) (hk : km &&& 0xFFFBFFFFFFFFFB = km) (hs : Moves km s0 x1) :
    Moves km s0 (countSteps x0 x1) := by
  refine Moves.comp (k1 := 0xFFFBFFFFFFFFFB) ?_ hk hs
  clear hk hs
  induction x0 generalizing x1 with
  | zero =>
    unfold countSteps
    repeat' first
      | with_reducible apply Moves.refl | decide | refine Moves.trans ?_ (ih _) | with_reducible apply countStep_moves
  | succ n ih =>
    unfold countSteps
    repeat' first
      | with_reducible apply Moves.refl | decide | refine Moves.trans ?_ (ih _) | with_reducible apply countStep_moves

theorem edgeSeen_moves (s : State) (hk : km &&& 0xFFFBFFFFFFFFFF = km) (hs : Moves km s0 s) :
    Moves km s0 (edgeSeen s) := by
  refine Moves.comp (k1 := 0xFFFBFFFFFFFFFF) ?_ hk hs
  unfold edgeSeen
  repeat' first
    | with_reducible apply Moves.refl | decide | with_reducible apply State.modRtc_moves

theorem execRtcCountStep_moves (s : State) (hk : km &&& 0xFFFBFFFFFFFFFB = km) (hs : Moves km s0 s) :
    Moves km s0 (Out.left s (execRtcCountStep s)) := by
  refine Moves.comp (k1 := 0xFFFBFFFFFFFFFB) ?_ hk hs
  unfold execRtcCountStep
  repeat' first
    | with_reducible apply Moves.refl | decide | with_reducible apply edgeSeen_moves | with_reducible apply countSteps_moves
    | with_reducible apply State.modRtc_moves | with_reducible apply Moves.when

theorem execOscillatorStopped_moves (s : State) (hk : km &&& 0xFFBBFFFFFFFF7B = km) (hs : Moves km s0 s) :
    Moves km s0 (Out.left s (execOscillatorStopped s)) := by
  refine Moves.comp (k1 := 0xFFBBFFFFFFFF7B) ?_ hk hs
  unfold execOscillatorStopped
  repeat' first
    | with_reducible apply Moves.refl | decide | with_reducible apply oscillatorStops_moves | with_reducible apply State.modRtc_moves
    | with_reducible apply Moves.when | split

theorem execSecondsSet_moves (x0 : Wr) (s : State) (hk : km &&& 0xFFBBFFFFFFEF9B = km) (hs : Moves km s0 s) :
    Moves km s0 (Out.left s (execSecondsSet x0 s)) := by
  refine Moves.comp (k1 := 0xFFBBFFFFFFEF9B) ?_ hk hs
  unfold execSecondsSet
  repeat' first
    | with_reducible apply Moves.refl | with_reducible assumption | decide | ((with_reducible apply accessWrite_moves) <;> try intro _ _ _)
    | with_reducible apply secondsSetEff_moves | with_reducible apply Moves.next

theorem execSetApplied_moves (s : State) (hk : km &&& 0xFFABFFFFFFFFFB = km) (hs : Moves km s0 s) :
    Moves km s0 (Out.left s (execSetApplied s)) := by
  refine Moves.comp (k1 := 0xFFABFFFFFFFFFB) ?_ hk hs
  unfold execSetApplied
  repeat' first
    | with_reducible apply Moves.refl | decide | with_reducible apply clearRings_moves | with_reducible apply edgeSeen_moves
    | with_reducible apply putTime_moves | with_reducible apply State.modRtc_moves | with_reducible apply State.clrBits_moves
    | with_reducible apply Moves.next | with_reducible apply Moves.when | split

theorem execTrimApply_moves (s : State) (hk : km &&& 0xFFFBFFFFFFFFFF = km) (hs : Moves km s0 s) :
    Moves km s0 (Out.left s (execTrimApply s)) := by
  refine Moves.comp (k1 := 0xFFFBFFFFFFFFFF) ?_ hk hs
  unfold execTrimApply
  repeat' first
    | with_reducible apply Moves.refl | decide | with_reducible apply State.modRtc_moves | with_reducible apply Moves.when

theorem showLife_moves (s : State) (hk : km &&& 0xFFFFFFFFFFFFFB = km) (hs : Moves km s0 s) :
    Moves km s0 (showLife s) := by
  refine Moves.comp (k1 := 0xFFFFFFFFFFFFFB) ?_ hk hs
  unfold showLife
  repeat' first
    | with_reducible apply Moves.refl | decide | with_reducible apply State.putN_moves

theorem showRecord_moves (s : State) (r : ℕ) (hk : km &&& 0xFFFFFFFFFFFFFB = km) (hs : Moves km s0 s) :
    Moves km s0 (showRecord s r) := by
  refine Moves.comp (k1 := 0xFFFFFFFFFFFFFB) ?_ hk hs
  unfold showRecord
  repeat' first
    | with_reducible apply Moves.refl | decide | with_reducible apply State.putN_moves | with_reducible apply State.put_moves | split

theorem readSlots_moves (s : State) (r : ℕ) (hk : km &&& 0xFFBFFFFFFDFF7B = km) (hs : Moves km s0 s) :
    Moves km s0 (readSlots s r) := by
  refine Moves.comp (k1 := 0xFFBFFFFFFDFF7B) ?_ hk hs
  unfold readSlots
  repeat' first
    | with_reducible apply Moves.refl | decide | with_reducible apply eccRead_moves
    | (lift_lets; intro x; first | (refine Moves.mid (t := x) ?_ (fun hx => ?_) <;> [dsimp +zetaDelta only; clear_value x]) | clear_value x)
    | ((with_reducible apply Moves.foldl) <;> try intro _ _)

theorem firmwarePayload_moves (s : State) (x1 : ℕ) (x2 : ℕ) (hk : km &&& 0xFFBFFFFFFDFF6B = km) (hs : Moves km s0 s) :
    Moves km s0 (firmwarePayload s x1 x2).1 := by
  refine Moves.comp (k1 := 0xFFBFFFFFFDFF6B) ?_ hk hs
  clear hk hs
  induction x1 generalizing s x2 with
  | zero =>
    unfold firmwarePayload
    repeat' first
      | with_reducible apply Moves.refl | decide | refine Moves.trans ?_ (ih _ _) | with_reducible apply busRead_moves
      | with_reducible apply State.freshWord_moves | split
  | succ n ih =>
    unfold firmwarePayload
    repeat' first
      | with_reducible apply Moves.refl | decide | refine Moves.trans ?_ (ih _ _) | with_reducible apply busRead_moves
      | with_reducible apply State.freshWord_moves | split

theorem recordPayload_moves (s : State) (r : ℕ) (hk : km &&& 0xFFBFFFFFFDFF6B = km) (hs : Moves km s0 s) :
    Moves km s0 (recordPayload s r).1 := by
  refine Moves.comp (k1 := 0xFFBFFFFFFDFF6B) ?_ hk hs
  unfold recordPayload
  repeat' first
    | with_reducible apply Moves.refl | decide | with_reducible apply firmwarePayload_moves | split

theorem loadWords_moves (s : State) (i : ℕ) (j : ℕ) (x3 : ℕ) (x4 : List Word) (p : ℕ) (hk : km &&& 0xFFFFFFFFFFFFFB = km) (hs : Moves km s0 s) :
    Moves km s0 (loadWords s i j x3 x4 p) := by
  refine Moves.comp (k1 := 0xFFFFFFFFFFFFFB) ?_ hk hs
  unfold loadWords
  repeat' first
    | with_reducible apply Moves.refl | decide | with_reducible apply State.put_moves
    | ((with_reducible apply Moves.foldl) <;> try intro _ _)

theorem restoreIndicator_moves (x0 : List Word) (s : State) (k : ℕ) (hk : km &&& 0xFFEFFFFFFFFFFB = km) (hs : Moves km s0 s) :
    Moves km s0 (restoreIndicator x0 s k) := by
  refine Moves.comp (k1 := 0xFFEFFFFFFFFFFB) ?_ hk hs
  unfold restoreIndicator
  repeat' first
    | with_reducible apply Moves.refl | with_reducible assumption | decide | with_reducible apply State.put_moves
    | (lift_lets; intro x; first | (refine Moves.mid (t := x) ?_ (fun hx => ?_) <;> [dsimp +zetaDelta only; clear_value x]) | clear_value x)
    | ((with_reducible apply Moves.foldl) <;> try intro _ _) | with_reducible apply Moves.of_life
    | (simp only [modAt_length, List.length_map, List.length_replicate]; done)

theorem restoreGauge_moves (s : State) (x1 : List Word) (hk : km &&& 0xFFBFFFF7FFFFFB = km) (hs : Moves km s0 s) :
    Moves km s0 (restoreGauge s x1) := by
  refine Moves.comp (k1 := 0xFFBFFFF7FFFFFB) ?_ hk hs
  unfold restoreGauge
  repeat' first
    | with_reducible apply Moves.refl | with_reducible assumption | decide | with_reducible apply loadWords_moves
    | with_reducible apply selfDischarge_moves | with_reducible apply showGauge_moves | with_reducible apply State.modGauge_moves
    | with_reducible apply State.setBits_moves | with_reducible apply State.putN_moves
    | (lift_lets; intro x; first | (refine Moves.mid (t := x) ?_ (fun hx => ?_) <;> [dsimp +zetaDelta only; clear_value x]) | clear_value x)
    | split

theorem restoreDevice_moves (s : State) (r : ℕ) (p : Option (List Word)) (hk : km &&& 0xFFAFEFF7FFFFFB = km) (hs : Moves km s0 s) :
    Moves km s0 (restoreDevice s r p) := by
  refine Moves.comp (k1 := 0xFFAFEFF7FFFFFB) ?_ hk hs
  unfold restoreDevice
  repeat' first
    | with_reducible apply Moves.refl | with_reducible assumption | decide | with_reducible apply restoreGauge_moves
    | with_reducible apply restoreIndicator_moves | with_reducible apply loadWords_moves | with_reducible apply showLife_moves
    | with_reducible apply State.putN_moves | with_reducible apply State.put_moves
    | (lift_lets; intro x; first | (refine Moves.mid (t := x) ?_ (fun hx => ?_) <;> [dsimp +zetaDelta only; clear_value x]) | clear_value x)
    | split | ((with_reducible apply Moves.foldl) <;> try intro _ _) | with_reducible apply Moves.of_agent

theorem restoreRecord_moves (s : State) (r : ℕ) (hk : km &&& 0xFFAFEFF7FDFF7B = km) (hs : Moves km s0 s) :
    Moves km s0 (restoreRecord s r) := by
  refine Moves.comp (k1 := 0xFFAFEFF7FDFF7B) ?_ hk hs
  unfold restoreRecord
  repeat' first
    | with_reducible apply Moves.refl | decide | with_reducible apply restoreDevice_moves | with_reducible apply readSlots_moves
    | with_reducible apply showRecord_moves | with_reducible apply State.report_moves | with_reducible apply State.setBits_moves
    | with_reducible apply State.add_moves | split

theorem ledgerWriteEff_moves (w' : Wr) (b' : Bool) (s' : State) (hk : km &&& 0xFFBFBFFFFFFF7B = km) (hs : Moves km s0 s') :
    Moves km s0 (ledgerWriteEff  w' b' s').2 := by
  refine Moves.comp (k1 := 0xFFBFBFFFFFFF7B) ?_ hk hs
  unfold ledgerWriteEff
  repeat' first
    | with_reducible apply Moves.refl | decide | with_reducible apply requestRecord_moves | with_reducible apply acc_moves

theorem operateEff_moves (x0 : ℕ) (w' : Wr) (b' : Bool) (s' : State) (hk : km &&& 0xFFAFFFFFFFFF6B = km) (hs : Moves km s0 s') :
    Moves km s0 (operateEff x0 w' b' s').2 := by
  refine Moves.comp (k1 := 0xFFAFFFFFFFFF6B) ?_ hk hs
  unfold operateEff
  repeat' first
    | with_reducible apply Moves.refl | decide | with_reducible apply contactorWear_moves | with_reducible apply acc_moves | split

theorem replaceEff_moves (x0 : ℕ) (w' : Wr) (b' : Bool) (s' : State) (hk : km &&& 0xFFAFBFFFFFFF7B = km) (hs : Moves km s0 s') :
    Moves km s0 (replaceEff x0 w' b' s').2 := by
  refine Moves.comp (k1 := 0xFFAFBFFFFFFF7B) ?_ hk hs
  unfold replaceEff
  repeat' first
    | with_reducible apply Moves.refl | with_reducible assumption | decide | with_reducible apply showLife_moves
    | with_reducible apply noPrediction_moves | with_reducible apply requestRecord_moves | with_reducible apply State.modIndicator_moves
    | with_reducible apply acc_moves | with_reducible apply State.put_moves
    | (lift_lets; intro x; first | (refine Moves.mid (t := x) ?_ (fun hx => ?_) <;> [dsimp +zetaDelta only; clear_value x]) | clear_value x)
    | split

theorem lifePlainEff_moves (x0 : ℕ) (j : ℕ) (w' : Wr) (b' : Bool) (s' : State) (hk : km &&& 0xFFEFFFFFFFFFFB = km) (hs : Moves km s0 s') :
    Moves km s0 (lifePlainEff x0 j w' b' s').2 := by
  refine Moves.comp (k1 := 0xFFEFFFFFFFFFFB) ?_ hk hs
  unfold lifePlainEff
  repeat' first
    | with_reducible apply Moves.refl | decide | with_reducible apply State.modIndicator_moves | with_reducible apply plainWrite_moves
    | with_reducible apply rej_moves | (with_reducible apply Moves.snd (by assumption))
    | (lift_lets; intro x; first | (refine Moves.mid (t := x) ?_ (fun hx => ?_) <;> [dsimp +zetaDelta only; clear_value x]) | clear_value x)
    | split

theorem execIndicatorOperate_moves (x0 : Fin 16) (x1 : Wr) (s : State) (hk : km &&& 0xFFAFFFFFFFEF0B = km) (hs : Moves km s0 s) :
    Moves km s0 (Out.left s (execIndicatorOperate x0 x1 s)) := by
  refine Moves.comp (k1 := 0xFFAFFFFFFFEF0B) ?_ hk hs
  unfold execIndicatorOperate
  repeat' first
    | with_reducible apply Moves.refl | with_reducible assumption | decide | ((with_reducible apply accessWrite_moves) <;> try intro _ _ _)
    | with_reducible apply operateEff_moves | with_reducible apply Moves.next

theorem predict_moves (s : State) (x1 : ℕ) (hk : km &&& 0xFFBFFFFFFFFFFB = km) (hs : Moves km s0 s) :
    Moves km s0 (predict s x1) := by
  refine Moves.comp (k1 := 0xFFBFFFFFFFFFFB) ?_ hk hs
  unfold predict
  repeat' first
    | with_reducible apply Moves.refl | decide | with_reducible apply noPrediction_moves | with_reducible apply State.putPair_moves
    | with_reducible apply State.setBits_moves | with_reducible apply State.putN_moves
    | (intro x; first | (refine Moves.mid (t := x) ?_ (fun hx => ?_) <;> [dsimp +zetaDelta only; clear_value x]) | clear_value x)
    | (lift_lets; intro x; first | (refine Moves.mid (t := x) ?_ (fun hx => ?_) <;> [dsimp +zetaDelta only; clear_value x]) | clear_value x)
    | split

theorem dailyPoint_moves (s : State) (x1 : ℕ) (hk : km &&& 0xFFAFBFFFFFFF7B = km) (hs : Moves km s0 s) :
    Moves km s0 (dailyPoint s x1) := by
  refine Moves.comp (k1 := 0xFFAFBFFFFFFF7B) ?_ hk hs
  unfold dailyPoint
  repeat' first
    | with_reducible apply Moves.refl | decide | with_reducible apply predict_moves | with_reducible apply requestRecord_moves
    | with_reducible apply State.modIndicator_moves | split

theorem lifeStress_moves (s : State) (x1 : ℕ) (hk : km &&& 0xFFBFFFFFFFFFFB = km) (hs : Moves km s0 s) :
    Moves km s0 (lifeStress s x1).2 := by
  refine Moves.comp (k1 := 0xFFBFFFFFFFFFFB) ?_ hk hs
  unfold lifeStress
  repeat' first
    | with_reducible apply Moves.refl | decide | with_reducible apply State.bump_moves | split

theorem swingWear_moves (s : State) (x1 : ℕ) (swing : ℤ) (hk : km &&& 0xFFAFFFFFFFFF6B = km) (hs : Moves km s0 s) :
    Moves km s0 (swingWear s x1 swing) := by
  refine Moves.comp (k1 := 0xFFAFFFFFFFFF6B) ?_ hk hs
  unfold swingWear
  repeat' first
    | with_reducible apply Moves.refl | decide | with_reducible apply nearTerm_moves | with_reducible apply addWear_moves
    | with_reducible apply openTerm_moves
    | (intro x; first | (refine Moves.mid (t := x) ?_ (fun hx => ?_) <;> [dsimp +zetaDelta only; clear_value x]) | clear_value x)
    | (lift_lets; intro x; first | (refine Moves.mid (t := x) ?_ (fun hx => ?_) <;> [dsimp +zetaDelta only; clear_value x]) | clear_value x)
    | split

theorem cycleStep_moves (s : State) (x1 : ℕ) (T : ℤ) (hk : km &&& 0xFFAFFFFFFFFF6B = km) (hs : Moves km s0 s) :
    Moves km s0 (cycleStep s x1 T) := by
  refine Moves.comp (k1 := 0xFFAFFFFFFFFF6B) ?_ hk hs
  unfold cycleStep
  repeat' first
    | with_reducible apply Moves.refl | with_reducible assumption | decide | with_reducible apply swingWear_moves
    | with_reducible apply State.modIndicator_moves
    | (intro x; first | (refine Moves.mid (t := x) ?_ (fun hx => ?_) <;> [dsimp +zetaDelta only; clear_value x]) | clear_value x)
    | (lift_lets; intro x; first | (refine Moves.mid (t := x) ?_ (fun hx => ?_) <;> [dsimp +zetaDelta only; clear_value x]) | clear_value x)
    | split

theorem batteryWear_moves (s : State) (x1 : ℕ) (hk : km &&& 0xFFAFFFFFFFFF6B = km) (hs : Moves km s0 s) :
    Moves km s0 (batteryWear s x1) := by
  refine Moves.comp (k1 := 0xFFAFFFFFFFFF6B) ?_ hk hs
  unfold batteryWear
  repeat' first
    | with_reducible apply Moves.refl | decide | with_reducible apply nearTerm_moves | with_reducible apply lifeThresholds_moves
    | with_reducible apply showWear_moves | with_reducible apply openTerm_moves
    | (intro x; first | (refine Moves.mid (t := x) ?_ (fun hx => ?_) <;> [dsimp +zetaDelta only; clear_value x]) | clear_value x)
    | (lift_lets; intro x; first | (refine Moves.mid (t := x) ?_ (fun hx => ?_) <;> [dsimp +zetaDelta only; clear_value x]) | clear_value x)
    | split

theorem ageWear_moves (s : State) (x1 : ℕ) (T : ℤ) (hk : km &&& 0xFFAFFFFFFFFF6B = km) (hs : Moves km s0 s) :
    Moves km s0 (ageWear s x1 T) := by
  refine Moves.comp (k1 := 0xFFAFFFFFFFFF6B) ?_ hk hs
  unfold ageWear
  repeat' first
    | with_reducible apply Moves.refl | decide | with_reducible apply nearTerm_moves | with_reducible apply addWear_moves
    | with_reducible apply openTerm_moves
    | (intro x; first | (refine Moves.mid (t := x) ?_ (fun hx => ?_) <;> [dsimp +zetaDelta only; clear_value x]) | clear_value x)
    | (lift_lets; intro x; first | (refine Moves.mid (t := x) ?_ (fun hx => ?_) <;> [dsimp +zetaDelta only; clear_value x]) | clear_value x)
    | split

theorem indicatorStep_moves (s : State) (x1 : ℕ) (hk : km &&& 0xFFAFBFFFFFFF6B = km) (hs : Moves km s0 s) :
    Moves km s0 (indicatorStep s x1) := by
  refine Moves.comp (k1 := 0xFFAFBFFFFFFF6B) ?_ hk hs
  unfold indicatorStep
  repeat' first
    | with_reducible apply Moves.refl | decide | with_reducible apply ageWear_moves | with_reducible apply batteryWear_moves
    | with_reducible apply cycleStep_moves | with_reducible apply lifeStress_moves | with_reducible apply dailyPoint_moves
    | (with_reducible apply Moves.snd (by assumption)) | split

theorem ledgerStep_moves (s : State) (hk : km &&& 0xFFAFBFFFFFFF6B = km) (hs : Moves km s0 s) :
    Moves km s0 (ledgerStep s) := by
  refine Moves.comp (k1 := 0xFFAFBFFFFFFF6B) ?_ hk hs
  unfold ledgerStep
  repeat' first
    | with_reducible apply Moves.refl | with_reducible assumption | decide | with_reducible apply indicatorStep_moves
    | with_reducible apply requestRecord_moves
    | (lift_lets; intro x; first | (refine Moves.mid (t := x) ?_ (fun hx => ?_) <;> [dsimp +zetaDelta only; clear_value x]) | clear_value x)
    | split | ((with_reducible apply Moves.foldl) <;> try intro _ _) | with_reducible apply Moves.of_life | rfl

theorem execLedgerStep_moves (s : State) (hk : km &&& 0xFFAFBFFFFFFF6B = km) (hs : Moves km s0 s) :
    Moves km s0 (Out.left s (execLedgerStep s)) := by
  refine Moves.comp (k1 := 0xFFAFBFFFFFFF6B) ?_ hk hs
  unfold execLedgerStep
  repeat' first
    | with_reducible apply Moves.refl | decide | with_reducible apply ledgerStep_moves | with_reducible apply Moves.when

theorem execLedgerWriteCommand_moves (x0 : Wr) (s : State) (hk : km &&& 0xFFBFBFFFFFEF1B = km) (hs : Moves km s0 s) :
    Moves km s0 (Out.left s (execLedgerWriteCommand x0 s)) := by
  refine Moves.comp (k1 := 0xFFBFBFFFFFEF1B) ?_ hk hs
  unfold execLedgerWriteCommand
  repeat' first
    | with_reducible apply Moves.refl | with_reducible assumption | decide | ((with_reducible apply accessWrite_moves) <;> try intro _ _ _)
    | with_reducible apply ledgerWriteEff_moves | with_reducible apply Moves.next

theorem execIndicatorReplace_moves (x0 : Fin 16) (auth : Bool) (x2 : Wr) (s : State) (hk : km &&& 0xFFAFBFFFFFEF1B = km) (hs : Moves km s0 s) :
    Moves km s0 (Out.left s (execIndicatorReplace x0 auth x2 s)) := by
  refine Moves.comp (k1 := 0xFFAFBFFFFFEF1B) ?_ hk hs
  unfold execIndicatorReplace
  repeat' first
    | with_reducible apply Moves.refl | with_reducible assumption | decide | ((with_reducible apply accessWrite_moves) <;> try intro _ _ _)
    | with_reducible apply replaceEff_moves | with_reducible apply Moves.next

theorem State.modNv_moves (s : State) (f : Nonvolatile → Nonvolatile) (hf : ∀ x, (∀ y ∈ x.otp, y ∈ (f x).otp) ∧ (∀ y ∈ x.fuses, y ∈ (f x).fuses)) (hk : km &&& 0xFFFFFFEFFFFFFF = km) (hs : Moves km s0 s) :
    Moves km s0 (s.modNv f) :=
  Moves.of_nv s _ (hf _) hk hs

theorem otpCommandEff_moves (w' : Wr) (b' : Bool) (s' : State) (hk : km &&& 0xFFBFFFEFFFFFFB = km) (hs : Moves km s0 s') :
    Moves km s0 (otpCommandEff  w' b' s').2 := by
  refine Moves.comp (k1 := 0xFFBFFFEFFFFFFB) ?_ hk hs
  unfold otpCommandEff
  repeat' first
    | with_reducible apply Moves.refl | with_reducible assumption | decide | with_reducible apply State.modNv_moves
    | with_reducible apply State.bump_moves | with_reducible apply rej_moves | with_reducible apply acc_moves
    | with_reducible apply State.putN_moves
    | (lift_lets; intro x; first | (refine Moves.mid (t := x) ?_ (fun hx => ?_) <;> [dsimp +zetaDelta only; clear_value x]) | clear_value x)
    | split | exact fun _ => ⟨fun _ h => h, fun _ h => h⟩

theorem otpPlainEff_moves (j : ℕ) (w' : Wr) (b' : Bool) (s' : State) (hk : km &&& 0xFFFFFFFFFFFFFB = km) (hs : Moves km s0 s') :
    Moves km s0 (otpPlainEff j w' b' s').2 := by
  refine Moves.comp (k1 := 0xFFFFFFFFFFFFFB) ?_ hk hs
  unfold otpPlainEff
  repeat' first
    | with_reducible apply Moves.refl | decide | with_reducible apply plainWrite_moves

theorem otpEnd_moves (s : State) (code : ℕ) (hk : km &&& 0xFFBFFFEFFFFFFB = km) (hs : Moves km s0 s) :
    Moves km s0 (otpEnd s code) := by
  refine Moves.comp (k1 := 0xFFBFFFEFFFFFFB) ?_ hk hs
  unfold otpEnd
  repeat' first
    | with_reducible apply Moves.refl | decide | with_reducible apply State.modNv_moves | with_reducible apply State.setBits_moves
    | with_reducible apply State.putN_moves | exact fun _ => ⟨fun _ h => h, fun _ h => h⟩

theorem readShadow_moves (s : State) (x1 : ℕ) (hk : km &&& 0xFFFFFFFFFFFFFB = km) (hs : Moves km s0 s) :
    Moves km s0 (readShadow s x1) := by
  refine Moves.comp (k1 := 0xFFFFFFFFFFFFFB) ?_ hk hs
  unfold readShadow
  repeat' first
    | with_reducible apply Moves.refl | decide | with_reducible apply State.putN_moves
    | ((with_reducible apply Moves.foldl) <;> try intro _ _)

theorem recheckRegion_moves (s : State) (x1 : ℕ) (hk : km &&& 0xFFBFFFFFFFFF7B = km) (hs : Moves km s0 s) :
    Moves km s0 (recheckRegion s x1) := by
  refine Moves.comp (k1 := 0xFFBFFFFFFFFF7B) ?_ hk hs
  unfold recheckRegion
  repeat' first
    | with_reducible apply Moves.refl | with_reducible assumption | decide | with_reducible apply readShadow_moves
    | with_reducible apply State.report_moves | with_reducible apply State.setBits_moves | with_reducible apply State.putN_moves
    | (lift_lets; intro x; first | (refine Moves.mid (t := x) ?_ (fun hx => ?_) <;> [dsimp +zetaDelta only; clear_value x]) | clear_value x)
    | split

theorem endProgramBit_moves (s : State) (c : OtpCommand) (r : OtpRun) (hk : km &&& 0xFFBFFFEFFFFF7B = km) (hs : Moves km s0 s) :
    Moves km s0 (endProgramBit s c r) := by
  refine Moves.comp (k1 := 0xFFBFFFEFFFFF7B) ?_ hk hs
  unfold endProgramBit
  dsimp only
  repeat' first
    | with_reducible apply Moves.refl | decide | with_reducible apply recheckRegion_moves | with_reducible apply otpEnd_moves
    | with_reducible apply State.modNv_moves | with_reducible apply State.add_moves | split
    | exact fun _ => ⟨fun _ h => List.mem_append_left _ h, fun _ h => h⟩

theorem showFuses_moves (s : State) (hk : km &&& 0xFFFFFFFFFFFFFB = km) (hs : Moves km s0 s) :
    Moves km s0 (showFuses s) := by
  refine Moves.comp (k1 := 0xFFFFFFFFFFFFFB) ?_ hk hs
  unfold showFuses
  repeat' first
    | with_reducible apply Moves.refl | decide | with_reducible apply State.putN_moves | split

theorem endBlowFuse_moves (s : State) (f : ℕ) (c : OtpCommand) (r : OtpRun) (hk : km &&& 0xFFBFFFEFFFFFFB = km) (hs : Moves km s0 s) :
    Moves km s0 (endBlowFuse s f c r) := by
  refine Moves.comp (k1 := 0xFFBFFFEFFFFFFB) ?_ hk hs
  unfold endBlowFuse
  repeat' first
    | with_reducible apply Moves.refl | decide | with_reducible apply showFuses_moves | with_reducible apply otpEnd_moves
    | with_reducible apply State.modNv_moves | with_reducible apply State.add_moves
    | exact fun _ => ⟨fun _ h => h, fun _ h => List.mem_append_left _ h⟩

theorem execOtpCommandEnd_moves (run : OtpRun) (s : State) (hk : km &&& 0xFFBFFFEFFFFF7B = km) (hs : Moves km s0 s) :
    Moves km s0 (Out.left s (execOtpCommandEnd run s)) := by
  refine Moves.comp (k1 := 0xFFBFFFEFFFFF7B) ?_ hk hs
  unfold execOtpCommandEnd
  repeat' first
    | with_reducible apply Moves.refl | decide | with_reducible apply endBlowFuse_moves | with_reducible apply endProgramBit_moves
    | with_reducible apply recheckRegion_moves | with_reducible apply otpEnd_moves | with_reducible apply Moves.next
    | with_reducible apply Moves.when | split

theorem blowWriteLockEff_moves (w' : Wr) (b' : Bool) (s' : State) (hk : km &&& 0xFFBFFFEFFFFFFB = km) (hs : Moves km s0 s') :
    Moves km s0 (blowWriteLockEff  w' b' s').2 := by
  refine Moves.comp (k1 := 0xFFBFFFEFFFFFFB) ?_ hk hs
  unfold blowWriteLockEff
  repeat' first
    | with_reducible apply Moves.refl | decide | with_reducible apply otpCommandEff_moves

theorem execBlowWriteLock_moves (x0 : Wr) (s : State) (hk : km &&& 0xFFBFFFEFFFEF9B = km) (hs : Moves km s0 s) :
    Moves km s0 (Out.left s (execBlowWriteLock x0 s)) := by
  refine Moves.comp (k1 := 0xFFBFFFEFFFEF9B) ?_ hk hs
  unfold execBlowWriteLock
  repeat' first
    | with_reducible apply Moves.refl | with_reducible assumption | decide | with_reducible apply blowWriteLockEff_moves
    | ((with_reducible apply accessWrite_moves) <;> try intro _ _ _) | with_reducible apply Moves.next

theorem blowReadLockEff_moves (w' : Wr) (b' : Bool) (s' : State) (hk : km &&& 0xFFBFFFEFFFFFFB = km) (hs : Moves km s0 s') :
    Moves km s0 (blowReadLockEff  w' b' s').2 := by
  refine Moves.comp (k1 := 0xFFBFFFEFFFFFFB) ?_ hk hs
  unfold blowReadLockEff
  repeat' first
    | with_reducible apply Moves.refl | decide | with_reducible apply otpCommandEff_moves

theorem execBlowReadLock_moves (x0 : Wr) (s : State) (hk : km &&& 0xFFBFFFEFFFEF9B = km) (hs : Moves km s0 s) :
    Moves km s0 (Out.left s (execBlowReadLock x0 s)) := by
  refine Moves.comp (k1 := 0xFFBFFFEFFFEF9B) ?_ hk hs
  unfold execBlowReadLock
  repeat' first
    | with_reducible apply Moves.refl | with_reducible assumption | decide | with_reducible apply blowReadLockEff_moves
    | ((with_reducible apply accessWrite_moves) <;> try intro _ _ _) | with_reducible apply Moves.next

theorem programBitEff_moves (w' : Wr) (b' : Bool) (s' : State) (hk : km &&& 0xFFBFFFEFFFFFFB = km) (hs : Moves km s0 s') :
    Moves km s0 (programBitEff  w' b' s').2 := by
  refine Moves.comp (k1 := 0xFFBFFFEFFFFFFB) ?_ hk hs
  unfold programBitEff
  repeat' first
    | with_reducible apply Moves.refl | decide | with_reducible apply otpCommandEff_moves

theorem execOtpProgramBit_moves (x0 : Wr) (s : State) (hk : km &&& 0xFFBFFFEFFFEF9B = km) (hs : Moves km s0 s) :
    Moves km s0 (Out.left s (execOtpProgramBit x0 s)) := by
  refine Moves.comp (k1 := 0xFFBFFFEFFFEF9B) ?_ hk hs
  unfold execOtpProgramBit
  repeat' first
    | with_reducible apply Moves.refl | with_reducible assumption | decide | with_reducible apply programBitEff_moves
    | ((with_reducible apply accessWrite_moves) <;> try intro _ _ _) | with_reducible apply Moves.next

theorem blowDebugFuseEff_moves (w' : Wr) (b' : Bool) (s' : State) (hk : km &&& 0xFFBFFFEFFFFFFB = km) (hs : Moves km s0 s') :
    Moves km s0 (blowDebugFuseEff  w' b' s').2 := by
  refine Moves.comp (k1 := 0xFFBFFFEFFFFFFB) ?_ hk hs
  unfold blowDebugFuseEff
  repeat' first
    | with_reducible apply Moves.refl | decide | with_reducible apply otpCommandEff_moves

theorem execBlowDebugFuse_moves (x0 : Wr) (s : State) (hk : km &&& 0xFFBFFFEFFFEF9B = km) (hs : Moves km s0 s) :
    Moves km s0 (Out.left s (execBlowDebugFuse x0 s)) := by
  refine Moves.comp (k1 := 0xFFBFFFEFFFEF9B) ?_ hk hs
  unfold execBlowDebugFuse
  repeat' first
    | with_reducible apply Moves.refl | with_reducible assumption | decide | with_reducible apply blowDebugFuseEff_moves
    | ((with_reducible apply accessWrite_moves) <;> try intro _ _ _) | with_reducible apply Moves.next

theorem otpRecheckEff_moves (w' : Wr) (b' : Bool) (s' : State) (hk : km &&& 0xFFBFFFEFFFFFFB = km) (hs : Moves km s0 s') :
    Moves km s0 (otpRecheckEff  w' b' s').2 := by
  refine Moves.comp (k1 := 0xFFBFFFEFFFFFFB) ?_ hk hs
  unfold otpRecheckEff
  repeat' first
    | with_reducible apply Moves.refl | decide | with_reducible apply otpCommandEff_moves

theorem execOtpRecheck_moves (x0 : Wr) (s : State) (hk : km &&& 0xFFBFFFEFFFEF9B = km) (hs : Moves km s0 s) :
    Moves km s0 (Out.left s (execOtpRecheck x0 s)) := by
  refine Moves.comp (k1 := 0xFFBFFFEFFFEF9B) ?_ hk hs
  unfold execOtpRecheck
  repeat' first
    | with_reducible apply Moves.refl | with_reducible assumption | decide | with_reducible apply otpRecheckEff_moves
    | ((with_reducible apply accessWrite_moves) <;> try intro _ _ _) | with_reducible apply Moves.next

theorem journalEnableEff_moves (w' : Wr) (b' : Bool) (s' : State) (hk : km &&& 0xFFBFBFEFFFFF7B = km) (hs : Moves km s0 s') :
    Moves km s0 (journalEnableEff  w' b' s').2 := by
  refine Moves.comp (k1 := 0xFFBFBFEFFFFF7B) ?_ hk hs
  unfold journalEnableEff
  repeat' first
    | with_reducible apply Moves.refl | decide | with_reducible apply State.modNv_moves | with_reducible apply abandonRecord_moves
    | with_reducible apply acc_moves | with_reducible apply State.put_moves | split | ((with_reducible apply Moves.foldl) <;> try intro _ _)
    | exact fun _ => ⟨fun _ h => h, fun _ h => h⟩

theorem fwRecordPlainEff_moves (j : ℕ) (w' : Wr) (b' : Bool) (s' : State) (hk : km &&& 0xFFFFFFFFFFFFFB = km) (hs : Moves km s0 s') :
    Moves km s0 (fwRecordPlainEff j w' b' s').2 := by
  refine Moves.comp (k1 := 0xFFFFFFFFFFFFFB) ?_ hk hs
  unfold fwRecordPlainEff
  repeat' first
    | with_reducible apply Moves.refl | decide | with_reducible apply plainWrite_moves | with_reducible apply rej_moves
    | (lift_lets; intro x; first | (refine Moves.mid (t := x) ?_ (fun hx => ?_) <;> [dsimp +zetaDelta only; clear_value x]) | clear_value x)
    | split

theorem layoutEff_moves (r : ℕ) (w' : Wr) (b' : Bool) (s' : State) (hk : km &&& 0xFFFFFFEFFFFFFB = km) (hs : Moves km s0 s') :
    Moves km s0 (layoutEff r w' b' s').2 := by
  refine Moves.comp (k1 := 0xFFFFFFEFFFFFFB) ?_ hk hs
  unfold layoutEff
  repeat' first
    | with_reducible apply Moves.refl | decide | with_reducible apply State.modNv_moves | with_reducible apply State.store_moves
    | with_reducible apply rej_moves | with_reducible apply acc_moves
    | (intro x; first | (refine Moves.mid (t := x) ?_ (fun hx => ?_) <;> [dsimp +zetaDelta only; clear_value x]) | clear_value x)
    | (lift_lets; intro x; first | (refine Moves.mid (t := x) ?_ (fun hx => ?_) <;> [dsimp +zetaDelta only; clear_value x]) | clear_value x)
    | split | exact fun _ => ⟨fun _ h => h, fun _ h => h⟩

theorem firmwareRecordEff_moves (w' : Wr) (b' : Bool) (s' : State) (hk : km &&& 0xFFBFBFFFFFFF7B = km) (hs : Moves km s0 s') :
    Moves km s0 (firmwareRecordEff  w' b' s').2 := by
  refine Moves.comp (k1 := 0xFFBFBFFFFFFF7B) ?_ hk hs
  unfold firmwareRecordEff
  repeat' first
    | with_reducible apply Moves.refl | decide | with_reducible apply requestRecord_moves | with_reducible apply rej_moves
    | with_reducible apply acc_moves | with_reducible apply State.putN_moves
    | (lift_lets; intro x; first | (refine Moves.mid (t := x) ?_ (fun hx => ?_) <;> [dsimp +zetaDelta only; clear_value x]) | clear_value x)
    | split

theorem execJournalEnable_moves (x0 : Wr) (s : State) (hk : km &&& 0xFFBFBFEFFFEF1B = km) (hs : Moves km s0 s) :
    Moves km s0 (Out.left s (execJournalEnable x0 s)) := by
  refine Moves.comp (k1 := 0xFFBFBFEFFFEF1B) ?_ hk hs
  unfold execJournalEnable
  repeat' first
    | with_reducible apply Moves.refl | with_reducible assumption | decide | ((with_reducible apply accessWrite_moves) <;> try intro _ _ _)
    | with_reducible apply journalEnableEff_moves | with_reducible apply Moves.next

theorem execRecordLayoutJudged_moves (r : Fin 64) (s : State) (hk : km &&& 0xFFBFFFEFFDFF7B = km) (hs : Moves km s0 s) :
    Moves km s0 (Out.left s (execRecordLayoutJudged r s)) := by
  refine Moves.comp (k1 := 0xFFBFFFEFFDFF7B) ?_ hk hs
  unfold execRecordLayoutJudged
  repeat' first
    | with_reducible apply Moves.refl | decide | with_reducible apply readSlots_moves | with_reducible apply showRecord_moves
    | with_reducible apply State.modNv_moves | with_reducible apply Moves.when | exact fun _ => ⟨fun _ h => h, fun _ h => h⟩

theorem tellDone_moves (s : State) (r : ℕ) (hk : km &&& 0xFFBFEFFFFFFFFB = km) (hs : Moves km s0 s) :
    Moves km s0 (tellDone s r) := by
  refine Moves.comp (k1 := 0xFFBFEFFFFFFFFB) ?_ hk hs
  unfold tellDone
  repeat' first
    | with_reducible apply Moves.refl | decide | with_reducible apply counterStored_moves | with_reducible apply State.modAgent_moves
    | with_reducible apply State.bump_moves | with_reducible apply State.putN_moves | split

theorem recordDone_moves (s : State) (r : ℕ) (hk : km &&& 0xFFBFEFFFFFFFFB = km) (hs : Moves km s0 s) :
    Moves km s0 (recordDone s r) := by
  refine Moves.comp (k1 := 0xFFBFEFFFFFFFFB) ?_ hk hs
  unfold recordDone
  repeat' first
    | with_reducible apply Moves.refl | decide | with_reducible apply tellDone_moves | with_reducible apply showRecord_moves
    | with_reducible apply State.bump_moves

theorem putWords_moves (s : State) (a : ℕ) (x2 : List Word) (hk : km &&& 0xFFFFFFFFFDEFF7 = km) (hs : Moves km s0 s) :
    Moves km s0 (putWords s a x2) := by
  refine Moves.comp (k1 := 0xFFFFFFFFFDEFF7) ?_ hk hs
  clear hk hs
  induction x2 generalizing s a with
  | nil =>
    unfold putWords
    repeat' first
      | with_reducible apply Moves.refl | decide | refine Moves.trans ?_ (ih _ _) | with_reducible apply memStore_moves
  | cons b l ih =>
    unfold putWords
    repeat' first
      | with_reducible apply Moves.refl | decide | refine Moves.trans ?_ (ih _ _) | with_reducible apply memStore_moves

theorem writeSlot_moves (s : State) (r : ℕ) (hk : km &&& 0xFFBFFFFFFDEF63 = km) (hs : Moves km s0 s) :
    Moves km s0 (writeSlot s r) := by
  refine Moves.comp (k1 := 0xFFBFFFFFFDEF63) ?_ hk hs
  unfold writeSlot
  repeat' first
    | with_reducible apply Moves.refl | decide | with_reducible apply putWords_moves | with_reducible apply recordPayload_moves
    | with_reducible apply memStore_moves

theorem tellFailed_moves (s : State) (r : ℕ) (hk : km &&& 0xFFBFBFFFFFFF7B = km) (hs : Moves km s0 s) :
    Moves km s0 (tellFailed s r) := by
  refine Moves.comp (k1 := 0xFFBFBFFFFFFF7B) ?_ hk hs
  unfold tellFailed
  repeat' first
    | with_reducible apply Moves.refl | decide | with_reducible apply endCommand_moves | with_reducible apply State.report_moves
    | with_reducible apply State.setBits_moves | with_reducible apply State.bump_moves | with_reducible apply State.putN_moves | split

theorem recordFailed_moves (s : State) (r : ℕ) (hk : km &&& 0xFFBFBFFFFFFF7B = km) (hs : Moves km s0 s) :
    Moves km s0 (recordFailed s r) := by
  refine Moves.comp (k1 := 0xFFBFBFFFFFFF7B) ?_ hk hs
  unfold recordFailed
  repeat' first
    | with_reducible apply Moves.refl | decide | with_reducible apply tellFailed_moves | with_reducible apply showRecord_moves
    | with_reducible apply State.report_moves | with_reducible apply State.setBits_moves | with_reducible apply State.bump_moves

theorem execJournalWriteDone_moves (bad : Option (Fin 256 × BitVec 32)) (s : State) (hk : km &&& 0xFFBFAFEFFDEF63 = km) (hs : Moves km s0 s) :
    Moves km s0 (Out.left s (execJournalWriteDone bad s)) := by
  refine Moves.comp (k1 := 0xFFBFAFEFFDEF63) ?_ hk hs
  unfold execJournalWriteDone
  dsimp only
  repeat' first
    | with_reducible apply Moves.refl | decide | with_reducible apply recordFailed_moves | with_reducible apply writeSlot_moves
    | with_reducible apply recordDone_moves | with_reducible apply readSlots_moves | with_reducible apply State.modNv_moves
    | with_reducible apply memStore_moves | with_reducible apply Moves.next | split | exact fun _ => ⟨fun _ h => h, fun _ h => h⟩

theorem powerFailStores_moves (s : State) (hk : km &&& 0xFFBFBFEFFFFF7B = km) (hs : Moves km s0 s) :
    Moves km s0 (powerFailStores s) := by
  refine Moves.comp (k1 := 0xFFBFBFEFFFFF7B) ?_ hk hs
  unfold powerFailStores
  repeat' first
    | with_reducible apply Moves.refl | with_reducible assumption | decide | with_reducible apply State.modNv_moves
    | with_reducible apply abandonRecord_moves | with_reducible apply requestRecord_moves
    | (lift_lets; intro x; first | (refine Moves.mid (t := x) ?_ (fun hx => ?_) <;> [dsimp +zetaDelta only; clear_value x]) | clear_value x)
    | split | ((with_reducible apply Moves.foldl) <;> try intro _ _) | exact fun _ => ⟨fun _ h => h, fun _ h => h⟩

theorem execVauxWarning_moves (mv : ℕ) (held : ℕ) (s : State) (hk : km &&& 0xFFAFBC69FFFF6B = km) (hs : Moves km s0 s) :
    Moves km s0 (Out.left s (execVauxWarning mv held s)) := by
  refine Moves.comp (k1 := 0xFFAFBC69FFFF6B) ?_ hk hs
  unfold execVauxWarning
  repeat' first
    | with_reducible apply Moves.refl | decide | with_reducible apply powerFailStores_moves | with_reducible apply vauxWarned_moves
    | with_reducible apply Moves.when | split

theorem execJournalRecordWrite_moves (s : State) (hk : km &&& 0xFFBFFFEFFDEF63 = km) (hs : Moves km s0 s) :
    Moves km s0 (Out.left s (execJournalRecordWrite s)) := by
  refine Moves.comp (k1 := 0xFFBFFFEFFDEF63) ?_ hk hs
  unfold execJournalRecordWrite
  repeat' first
    | with_reducible apply Moves.refl | decide | with_reducible apply writeSlot_moves | with_reducible apply readSlots_moves
    | with_reducible apply State.modNv_moves | with_reducible apply setPending_moves | with_reducible apply Moves.next
    | with_reducible apply Moves.when | split | exact fun _ => ⟨fun _ h => h, fun _ h => h⟩

theorem execRecordLayoutWrite_moves (r : Fin 64) (x1 : Wr) (s : State) (hk : km &&& 0xFFBFFFEFFFEF9B = km) (hs : Moves km s0 s) :
    Moves km s0 (Out.left s (execRecordLayoutWrite r x1 s)) := by
  refine Moves.comp (k1 := 0xFFBFFFEFFFEF9B) ?_ hk hs
  unfold execRecordLayoutWrite
  repeat' first
    | with_reducible apply Moves.refl | with_reducible assumption | decide | ((with_reducible apply accessWrite_moves) <;> try intro _ _ _)
    | with_reducible apply layoutEff_moves | with_reducible apply Moves.next

theorem execFirmwareRecordCommand_moves (x0 : Wr) (s : State) (hk : km &&& 0xFFBFBFFFFFEF1B = km) (hs : Moves km s0 s) :
    Moves km s0 (Out.left s (execFirmwareRecordCommand x0 s)) := by
  refine Moves.comp (k1 := 0xFFBFBFFFFFEF1B) ?_ hk hs
  unfold execFirmwareRecordCommand
  repeat' first
    | with_reducible apply Moves.refl | with_reducible assumption | decide | ((with_reducible apply accessWrite_moves) <;> try intro _ _ _)
    | with_reducible apply firmwareRecordEff_moves | with_reducible apply Moves.next

theorem refreshAll_moves (s : State) (hk : km &&& 0xFFBFBFFFFFFF7B = km) (hs : Moves km s0 s) :
    Moves km s0 (refreshAll s) := by
  refine Moves.comp (k1 := 0xFFBFBFFFFFFF7B) ?_ hk hs
  unfold refreshAll
  repeat' first
    | with_reducible apply Moves.refl | decide | with_reducible apply requestRecord_moves | split
    | ((with_reducible apply Moves.foldl) <;> try intro _ _)

theorem execJournalRefreshHour_moves (s : State) (hk : km &&& 0xFFBFBFEFFFFF7B = km) (hs : Moves km s0 s) :
    Moves km s0 (Out.left s (execJournalRefreshHour s)) := by
  refine Moves.comp (k1 := 0xFFBFBFEFFFFF7B) ?_ hk hs
  unfold execJournalRefreshHour
  repeat' first
    | with_reducible apply Moves.refl | decide | with_reducible apply refreshAll_moves | with_reducible apply State.modNv_moves
    | with_reducible apply requestRecord_moves | with_reducible apply State.bump_moves | with_reducible apply State.putN_moves
    | with_reducible apply Moves.when | split | exact fun _ => ⟨fun _ h => h, fun _ h => h⟩

theorem State.modIrq_moves (s : State) (f : Interrupts → Interrupts) (hf : ∀ x, (f x).gatherAt.length = x.gatherAt.length) (hk : km &&& 0xFFFFFFFFEFFFFF = km) (hs : Moves km s0 s) :
    Moves km s0 (s.modIrq f) :=
  Moves.of_irq s _ (hf _) hk hs

theorem claimRead_moves (s : State) (x : ℕ) (hk : km &&& 0xFFBFFFFFEFFFFB = km) (hs : Moves km s0 s) :
    Moves km s0 (claimRead s x).2 := by
  refine Moves.comp (k1 := 0xFFBFFFFFEFFFFB) ?_ hk hs
  unfold claimRead
  repeat' first
    | with_reducible apply Moves.refl | decide | with_reducible apply State.modIrq_moves | with_reducible apply State.bump_moves | split
    | exact fun _ => rfl

theorem irqPlainEff_moves (i : ℕ) (j : ℕ) (w' : Wr) (b' : Bool) (s' : State) (hk : km &&& 0xFFFFFFFFEFFFFB = km) (hs : Moves km s0 s') :
    Moves km s0 (irqPlainEff i j w' b' s').2 := by
  refine Moves.comp (k1 := 0xFFFFFFFFEFFFFB) ?_ hk hs
  unfold irqPlainEff
  repeat' first
    | with_reducible apply Moves.refl | decide | with_reducible apply State.modIrq_moves | with_reducible apply plainWrite_moves
    | with_reducible apply rej_moves | with_reducible apply State.putN_moves | (with_reducible apply Moves.snd (by assumption))
    | (lift_lets; intro x; first | (refine Moves.mid (t := x) ?_ (fun hx => ?_) <;> [dsimp +zetaDelta only; clear_value x]) | clear_value x)
    | split | exact fun _ => List.length_set

theorem completeEff_moves (x : ℕ) (w' : Wr) (b' : Bool) (s' : State) (hk : km &&& 0xFFBFFFFFEFFFFB = km) (hs : Moves km s0 s') :
    Moves km s0 (completeEff x w' b' s').2 := by
  refine Moves.comp (k1 := 0xFFBFFFFFEFFFFB) ?_ hk hs
  unfold completeEff
  repeat' first
    | with_reducible apply Moves.refl | decide | with_reducible apply State.modIrq_moves | with_reducible apply State.bump_moves
    | with_reducible apply rej_moves | with_reducible apply acc_moves
    | (lift_lets; intro x; first | (refine Moves.mid (t := x) ?_ (fun hx => ?_) <;> [dsimp +zetaDelta only; clear_value x]) | clear_value x)
    | split | exact fun _ => rfl

theorem softSetEff_moves (w' : Wr) (b' : Bool) (s' : State) (hk : km &&& 0xFFBFFFFFFFFFFB = km) (hs : Moves km s0 s') :
    Moves km s0 (softSetEff  w' b' s').2 := by
  refine Moves.comp (k1 := 0xFFBFFFFFFFFFFB) ?_ hk hs
  unfold softSetEff
  repeat' first
    | with_reducible apply Moves.refl | decide | with_reducible apply State.setBits_moves | with_reducible apply acc_moves

theorem softClearEff_moves (w' : Wr) (b' : Bool) (s' : State) (hk : km &&& 0xFFFFFFFFFFFFFB = km) (hs : Moves km s0 s') :
    Moves km s0 (softClearEff  w' b' s').2 := by
  refine Moves.comp (k1 := 0xFFFFFFFFFFFFFB) ?_ hk hs
  unfold softClearEff
  repeat' first
    | with_reducible apply Moves.refl | decide | with_reducible apply acc_moves | with_reducible apply State.put_moves

theorem execSoftwareClear_moves (x0 : Wr) (s : State) (hk : km &&& 0xFFBFFFFFFFEF9B = km) (hs : Moves km s0 s) :
    Moves km s0 (Out.left s (execSoftwareClear x0 s)) := by
  refine Moves.comp (k1 := 0xFFBFFFFFFFEF9B) ?_ hk hs
  unfold execSoftwareClear
  repeat' first
    | with_reducible apply Moves.refl | with_reducible assumption | decide | ((with_reducible apply accessWrite_moves) <;> try intro _ _ _)
    | with_reducible apply softClearEff_moves | with_reducible apply Moves.next

theorem openGroup_moves (s : State) (g : ℕ) (hk : km &&& 0xFFBFFFFFFFFFFB = km) (hs : Moves km s0 s) :
    Moves km s0 (openGroup s g) := by
  refine Moves.comp (k1 := 0xFFBFFFFFFFFFFB) ?_ hk hs
  unfold openGroup
  repeat' first
    | with_reducible apply Moves.refl | decide | with_reducible apply State.bump_moves | with_reducible apply State.putN_moves

theorem execGroupTimeLimit_moves (g : Fin 32) (s : State) (hk : km &&& 0xFFBFFFFFFFFFFB = km) (hs : Moves km s0 s) :
    Moves km s0 (Out.left s (execGroupTimeLimit g s)) := by
  refine Moves.comp (k1 := 0xFFBFFFFFFFFFFB) ?_ hk hs
  unfold execGroupTimeLimit
  repeat' first
    | with_reducible apply Moves.refl | decide | with_reducible apply openGroup_moves | with_reducible apply Moves.when

theorem execSoftwareSet_moves (x0 : Wr) (s : State) (hk : km &&& 0xFFBFFFFFFFEF9B = km) (hs : Moves km s0 s) :
    Moves km s0 (Out.left s (execSoftwareSet x0 s)) := by
  refine Moves.comp (k1 := 0xFFBFFFFFFFEF9B) ?_ hk hs
  unfold execSoftwareSet
  repeat' first
    | with_reducible apply Moves.refl | with_reducible assumption | decide | ((with_reducible apply accessWrite_moves) <;> try intro _ _ _)
    | with_reducible apply softSetEff_moves | with_reducible apply Moves.next

theorem execGroupGather_moves (g : Fin 32) (x1 : Fin 256) (s : State) (hk : km &&& 0xFFBFFFFFEFFFFB = km) (hs : Moves km s0 s) :
    Moves km s0 (Out.left s (execGroupGather g x1 s)) := by
  refine Moves.comp (k1 := 0xFFBFFFFFEFFFFB) ?_ hk hs
  unfold execGroupGather
  repeat' first
    | with_reducible apply Moves.refl | decide | with_reducible apply openGroup_moves | with_reducible apply State.modIrq_moves
    | with_reducible apply State.putN_moves | with_reducible apply Moves.when | split | exact fun _ => rfl | exact fun _ => List.length_set

theorem execInterruptComplete_moves (x : Fin 16) (x1 : Wr) (s : State) (hk : km &&& 0xFFBFFFFFEFEF9B = km) (hs : Moves km s0 s) :
    Moves km s0 (Out.left s (execInterruptComplete x x1 s)) := by
  refine Moves.comp (k1 := 0xFFBFFFFFEFEF9B) ?_ hk hs
  unfold execInterruptComplete
  repeat' first
    | with_reducible apply Moves.refl | with_reducible assumption | decide | ((with_reducible apply accessWrite_moves) <;> try intro _ _ _)
    | with_reducible apply completeEff_moves | with_reducible apply Moves.next

theorem irqEnd_moves (s : State) (hk : km &&& 0xFFFFFFFFEFFFFB = km) (hs : Moves km s0 s) :
    Moves km s0 (irqEnd s) := by
  refine Moves.comp (k1 := 0xFFFFFFFFEFFFFB) ?_ hk hs
  unfold irqEnd
  repeat' first
    | with_reducible apply Moves.refl | with_reducible assumption | decide | with_reducible apply State.modIrq_moves
    | with_reducible apply State.putN_moves
    | (intro x; first | (refine Moves.mid (t := x) ?_ (fun hx => ?_) <;> [dsimp +zetaDelta only; clear_value x]) | clear_value x)
    | (lift_lets; intro x; first | (refine Moves.mid (t := x) ?_ (fun hx => ?_) <;> [dsimp +zetaDelta only; clear_value x]) | clear_value x)
    | split | ((with_reducible apply Moves.foldl) <;> try intro _ _) | exact fun _ => rfl

theorem twbPlainEff_moves (x0 : ℕ) (j : ℕ) (w' : Wr) (b' : Bool) (s' : State) (hk : km &&& 0xFFFFFFFFFFFFFB = km) (hs : Moves km s0 s') :
    Moves km s0 (twbPlainEff x0 j w' b' s').2 := by
  refine Moves.comp (k1 := 0xFFFFFFFFFFFFFB) ?_ hk hs
  unfold twbPlainEff
  repeat' first
    | with_reducible apply Moves.refl | decide | with_reducible apply plainWrite_moves | with_reducible apply rej_moves
    | with_reducible apply acc_moves | with_reducible apply State.putN_moves | with_reducible apply State.put_moves
    | (intro x; first | (refine Moves.mid (t := x) ?_ (fun hx => ?_) <;> [dsimp +zetaDelta only; clear_value x]) | clear_value x)
    | (lift_lets; intro x; first | (refine Moves.mid (t := x) ?_ (fun hx => ?_) <;> [dsimp +zetaDelta only; clear_value x]) | clear_value x)
    | split

theorem State.modTwb_moves (s : State) (i : Nat) (f : TwbPort → TwbPort) (hk : km &&& 0xFFFF7FFFFFFFFF = km) (hs : Moves km s0 s) :
    Moves km s0 (s.modTwb i f) :=
  Moves.of_twb s _ (modAt_length _ _ _) hk hs

theorem ctlStartEff_moves (x0 : ℕ) (w' : Wr) (b' : Bool) (s' : State) (hk : km &&& 0xFFFF7FFFFFFFFB = km) (hs : Moves km s0 s') :
    Moves km s0 (ctlStartEff x0 w' b' s').2 := by
  refine Moves.comp (k1 := 0xFFFF7FFFFFFFFB) ?_ hk hs
  unfold ctlStartEff
  repeat' first
    | with_reducible apply Moves.refl | with_reducible assumption | decide | with_reducible apply State.modTwb_moves
    | with_reducible apply rej_moves | with_reducible apply acc_moves | with_reducible apply State.putN_moves
    | (lift_lets; intro x; first | (refine Moves.mid (t := x) ?_ (fun hx => ?_) <;> [dsimp +zetaDelta only; clear_value x]) | clear_value x)
    | split

theorem clearBusEff_moves (x0 : ℕ) (w' : Wr) (b' : Bool) (s' : State) (hk : km &&& 0xFFFFFFFFFFFFFB = km) (hs : Moves km s0 s') :
    Moves km s0 (clearBusEff x0 w' b' s').2 := by
  refine Moves.comp (k1 := 0xFFFFFFFFFFFFFB) ?_ hk hs
  unfold clearBusEff
  repeat' first
    | with_reducible apply Moves.refl | decide | with_reducible apply rej_moves | with_reducible apply acc_moves
    | with_reducible apply State.putN_moves | split

theorem twbStart_moves (s : State) (x1 : ℕ) (hk : km &&& 0xFFFF7FFFFFFFFB = km) (hs : Moves km s0 s) :
    Moves km s0 (twbStart s x1) := by
  refine Moves.comp (k1 := 0xFFFF7FFFFFFFFB) ?_ hk hs
  unfold twbStart
  repeat' first
    | with_reducible apply Moves.refl | decide | with_reducible apply State.modTwb_moves | with_reducible apply State.putN_moves | split

theorem twbStopped_moves (s : State) (x1 : ℕ) (hk : km &&& 0xFFFF7FFFFFFFFB = km) (hs : Moves km s0 s) :
    Moves km s0 (twbStopped s x1) := by
  refine Moves.comp (k1 := 0xFFFF7FFFFFFFFB) ?_ hk hs
  unfold twbStopped
  repeat' first
    | with_reducible apply Moves.refl | decide | with_reducible apply twbStart_moves | with_reducible apply State.modTwb_moves
    | with_reducible apply State.putN_moves

theorem twbEnableEff_moves (x0 : ℕ) (w' : Wr) (b' : Bool) (s' : State) (hk : km &&& 0xFFFF7FFFFFFFFB = km) (hs : Moves km s0 s') :
    Moves km s0 (twbEnableEff x0 w' b' s').2 := by
  refine Moves.comp (k1 := 0xFFFF7FFFFFFFFB) ?_ hk hs
  unfold twbEnableEff
  repeat' first
    | with_reducible apply Moves.refl | with_reducible assumption | decide | with_reducible apply twbStopped_moves
    | with_reducible apply twbStart_moves | with_reducible apply State.modTwb_moves | with_reducible apply acc_moves
    | with_reducible apply State.putN_moves
    | (intro x; first | (refine Moves.mid (t := x) ?_ (fun hx => ?_) <;> [dsimp +zetaDelta only; clear_value x]) | clear_value x)
    | (lift_lets; intro x; first | (refine Moves.mid (t := x) ?_ (fun hx => ?_) <;> [dsimp +zetaDelta only; clear_value x]) | clear_value x)
    | split

theorem twbCtlPlainEff_moves (x0 : ℕ) (j : ℕ) (w' : Wr) (b' : Bool) (s' : State) (hk : km &&& 0xFFFFFFFFFFFFFB = km) (hs : Moves km s0 s') :
    Moves km s0 (twbCtlPlainEff x0 j w' b' s').2 := by
  refine Moves.comp (k1 := 0xFFFFFFFFFFFFFB) ?_ hk hs
  unfold twbCtlPlainEff
  repeat' first
    | with_reducible apply Moves.refl | decide | with_reducible apply plainWrite_moves | with_reducible apply rej_moves | split

theorem twbWake_moves (s : State) (x1 : ℕ) (hk : km &&& 0xFFFF7FFFFFFFFB = km) (hs : Moves km s0 s) :
    Moves km s0 (twbWake s x1) := by
  refine Moves.comp (k1 := 0xFFFF7FFFFFFFFB) ?_ hk hs
  unfold twbWake
  repeat' first
    | with_reducible apply Moves.refl | with_reducible assumption | decide | with_reducible apply State.modTwb_moves
    | with_reducible apply State.putN_moves
    | (lift_lets; intro x; first | (refine Moves.mid (t := x) ?_ (fun hx => ?_) <;> [dsimp +zetaDelta only; clear_value x]) | clear_value x)
    | split

theorem sleepEff_moves (x0 : ℕ) (w' : Wr) (b' : Bool) (s' : State) (hk : km &&& 0xFFFF7FFFFFFFFB = km) (hs : Moves km s0 s') :
    Moves km s0 (sleepEff x0 w' b' s').2 := by
  refine Moves.comp (k1 := 0xFFFF7FFFFFFFFB) ?_ hk hs
  unfold sleepEff
  repeat' first
    | with_reducible apply Moves.refl | decide | with_reducible apply twbWake_moves | with_reducible apply State.modTwb_moves
    | with_reducible apply acc_moves | with_reducible apply State.putN_moves
    | (lift_lets; intro x; first | (refine Moves.mid (t := x) ?_ (fun hx => ?_) <;> [dsimp +zetaDelta only; clear_value x]) | clear_value x)
    | split

theorem requestEff_moves (x0 : ℕ) (w' : Wr) (b' : Bool) (s' : State) (hk : km &&& 0xFFFF7FFFFFFFFB = km) (hs : Moves km s0 s') :
    Moves km s0 (requestEff x0 w' b' s').2 := by
  refine Moves.comp (k1 := 0xFFFF7FFFFFFFFB) ?_ hk hs
  unfold requestEff
  repeat' first
    | with_reducible apply Moves.refl | decide | with_reducible apply twbWake_moves | with_reducible apply State.modTwb_moves
    | with_reducible apply acc_moves | with_reducible apply State.put_moves | split

theorem twbEnd_moves (s : State) (x1 : ℕ) (hk : km &&& 0xFFFF7FFFFFFFFB = km) (hs : Moves km s0 s) :
    Moves km s0 (twbEnd s x1) := by
  refine Moves.comp (k1 := 0xFFFF7FFFFFFFFB) ?_ hk hs
  unfold twbEnd
  repeat' first
    | with_reducible apply Moves.refl | with_reducible assumption | decide | with_reducible apply twbStopped_moves
    | with_reducible apply State.modTwb_moves | with_reducible apply State.putN_moves
    | (lift_lets; intro x; first | (refine Moves.mid (t := x) ?_ (fun hx => ?_) <;> [dsimp +zetaDelta only; clear_value x]) | clear_value x)
    | split

theorem twbServed_moves (s : State) (x1 : ℕ) (hk : km &&& 0xFFBF7FFFFFFFFB = km) (hs : Moves km s0 s) :
    Moves km s0 (twbServed s x1) := by
  refine Moves.comp (k1 := 0xFFBF7FFFFFFFFB) ?_ hk hs
  unfold twbServed
  repeat' first
    | with_reducible apply Moves.refl | decide | with_reducible apply twbEnd_moves | with_reducible apply State.bump_moves

theorem twbAnswer_moves (s : State) (x1 : ℕ) (sent : List Byte) (answer : List Byte) (hk : km &&& 0xFFFFFFFFFFFFDF = km) (hs : Moves km s0 s) :
    Moves km s0 (twbAnswer s x1 sent answer) := by
  refine Moves.comp (k1 := 0xFFFFFFFFFFFFDF) ?_ hk hs
  unfold twbAnswer
  repeat' first
    | with_reducible apply Moves.refl | decide | with_reducible apply Moves.of_resp

theorem ctlEnd_moves (s : State) (x1 : ℕ) (code : ℕ) (hk : km &&& 0xFFBFFFFFFFFFFB = km) (hs : Moves km s0 s) :
    Moves km s0 (ctlEnd s x1 code) := by
  refine Moves.comp (k1 := 0xFFBFFFFFFFFFFB) ?_ hk hs
  unfold ctlEnd
  repeat' first
    | with_reducible apply Moves.refl | decide | with_reducible apply State.setBits_moves | with_reducible apply State.putN_moves

theorem execBusClear_moves (x0 : Fin 2) (held : ℕ) (freed : Bool) (s : State) (hk : km &&& 0xFFBF7FFFFFFF7B = km) (hs : Moves km s0 s) :
    Moves km s0 (Out.left s (execBusClear x0 held freed s)) := by
  refine Moves.comp (k1 := 0xFFBF7FFFFFFF7B) ?_ hk hs
  unfold execBusClear
  repeat' first
    | with_reducible apply Moves.refl | decide | with_reducible apply ctlEnd_moves | with_reducible apply twbEnd_moves
    | with_reducible apply State.modTwb_moves | with_reducible apply State.report_moves | with_reducible apply State.setBits_moves
    | with_reducible apply State.bump_moves | with_reducible apply Moves.when | split

theorem execWakeMatch_moves (x0 : Fin 2) (firmware : Bool) (s : State) (hk : km &&& 0xFFBFFFFFFFFFFB = km) (hs : Moves km s0 s) :
    Moves km s0 (Out.left s (execWakeMatch x0 firmware s)) := by
  refine Moves.comp (k1 := 0xFFBFFFFFFFFFFB) ?_ hk hs
  unfold execWakeMatch
  repeat' first
    | with_reducible apply Moves.refl | decide | with_reducible apply State.setBits_moves | with_reducible apply State.putN_moves
    | with_reducible apply Moves.when

theorem twbTimeout_moves (s : State) (x1 : ℕ) (hk : km &&& 0xFFBFFFFFFFFF7B = km) (hs : Moves km s0 s) :
    Moves km s0 (twbTimeout s x1) := by
  refine Moves.comp (k1 := 0xFFBFFFFFFFFF7B) ?_ hk hs
  unfold twbTimeout
  repeat' first
    | with_reducible apply Moves.refl | decide | with_reducible apply State.report_moves | with_reducible apply State.bump_moves

theorem execStretchLimitExpiry_moves (x0 : Fin 2) (s : State) (hk : km &&& 0xFFBF7FFFFFFF5B = km) (hs : Moves km s0 s) :
    Moves km s0 (Out.left s (execStretchLimitExpiry x0 s)) := by
  refine Moves.comp (k1 := 0xFFBF7FFFFFFF5B) ?_ hk hs
  unfold execStretchLimitExpiry
  repeat' first
    | with_reducible apply Moves.refl | with_reducible assumption | decide | with_reducible apply twbTimeout_moves
    | with_reducible apply State.modTwb_moves | with_reducible apply Moves.when
    | (lift_lets; intro x; first | (refine Moves.mid (t := x) ?_ (fun hx => ?_) <;> [dsimp +zetaDelta only; clear_value x]) | clear_value x)
    | with_reducible apply Moves.of_resp

theorem execRequestWrite_moves (x0 : Fin 2) (x1 : Wr) (s : State) (hk : km &&& 0xFFBF7FFFFFEF9B = km) (hs : Moves km s0 s) :
    Moves km s0 (Out.left s (execRequestWrite x0 x1 s)) := by
  refine Moves.comp (k1 := 0xFFBF7FFFFFEF9B) ?_ hk hs
  unfold execRequestWrite
  repeat' first
    | with_reducible apply Moves.refl | with_reducible assumption | decide | ((with_reducible apply accessWrite_moves) <;> try intro _ _ _)
    | with_reducible apply requestEff_moves | with_reducible apply Moves.next

theorem execTwbLastResult_moves (x0 : Fin 2) (s : State) (hk : km &&& 0xFFBF7FFFFFFFDB = km) (hs : Moves km s0 s) :
    Moves km s0 (Out.left s (execTwbLastResult x0 s)) := by
  refine Moves.comp (k1 := 0xFFBF7FFFFFFFDB) ?_ hk hs
  unfold execTwbLastResult
  repeat' first
    | with_reducible apply Moves.refl | decide | with_reducible apply twbAnswer_moves | with_reducible apply twbServed_moves
    | with_reducible apply State.modTwb_moves | with_reducible apply Moves.when

theorem execArbitrationLost_moves (x0 : Fin 2) (own : Bool) (s : State) (hk : km &&& 0xFFBF7FFFFFFFFB = km) (hs : Moves km s0 s) :
    Moves km s0 (Out.left s (execArbitrationLost x0 own s)) := by
  refine Moves.comp (k1 := 0xFFBF7FFFFFFFFB) ?_ hk hs
  unfold execArbitrationLost
  repeat' first
    | with_reducible apply Moves.refl | decide | with_reducible apply ctlEnd_moves | with_reducible apply twbEnd_moves
    | with_reducible apply State.modTwb_moves | with_reducible apply State.setBits_moves | with_reducible apply State.bump_moves
    | with_reducible apply State.putN_moves | with_reducible apply Moves.when | split

theorem execClearCommand_moves (x0 : Fin 2) (x1 : Wr) (s : State) (hk : km &&& 0xFFBFFFFFFFEF9B = km) (hs : Moves km s0 s) :
    Moves km s0 (Out.left s (execClearCommand x0 x1 s)) := by
  refine Moves.comp (k1 := 0xFFBFFFFFFFEF9B) ?_ hk hs
  unfold execClearCommand
  repeat' first
    | with_reducible apply Moves.refl | with_reducible assumption | decide | ((with_reducible apply accessWrite_moves) <;> try intro _ _ _)
    | with_reducible apply clearBusEff_moves | with_reducible apply Moves.next

theorem execTwbEnable_moves (x0 : Fin 2) (x1 : Wr) (s : State) (hk : km &&& 0xFFBF7FFFFFEF9B = km) (hs : Moves km s0 s) :
    Moves km s0 (Out.left s (execTwbEnable x0 x1 s)) := by
  refine Moves.comp (k1 := 0xFFBF7FFFFFEF9B) ?_ hk hs
  unfold execTwbEnable
  repeat' first
    | with_reducible apply Moves.refl | with_reducible assumption | decide | ((with_reducible apply accessWrite_moves) <;> try intro _ _ _)
    | with_reducible apply twbEnableEff_moves | with_reducible apply Moves.next

theorem stretchFrom_moves (s : State) (x1 : ℕ) (hk : km &&& 0xFFFF7FFFFFFFFF = km) (hs : Moves km s0 s) :
    Moves km s0 (stretchFrom s x1) := by
  refine Moves.comp (k1 := 0xFFFF7FFFFFFFFF) ?_ hk hs
  unfold stretchFrom
  repeat' first
    | with_reducible apply Moves.refl | decide | with_reducible apply State.modTwb_moves

theorem twbWait_moves (s : State) (x1 : ℕ) (hk : km &&& 0xFFFF7FFFFFFFFF = km) (hs : Moves km s0 s) :
    Moves km s0 (twbWait s x1) := by
  refine Moves.comp (k1 := 0xFFFF7FFFFFFFFF) ?_ hk hs
  unfold twbWait
  repeat' first
    | with_reducible apply Moves.refl | decide | with_reducible apply stretchFrom_moves | with_reducible apply State.modTwb_moves | split

theorem twbSend_moves (s : State) (x1 : ℕ) (hk : km &&& 0xFFBF7FFFFFFFDB = km) (hs : Moves km s0 s) :
    Moves km s0 (twbSend s x1) := by
  refine Moves.comp (k1 := 0xFFBF7FFFFFFFDB) ?_ hk hs
  unfold twbSend
  repeat' first
    | with_reducible apply Moves.refl | decide | with_reducible apply twbWait_moves | with_reducible apply pathPop_moves
    | with_reducible apply State.modTwb_moves
    | (intro x; first | (refine Moves.mid (t := x) ?_ (fun hx => ?_) <;> [dsimp +zetaDelta only; clear_value x]) | clear_value x)
    | (lift_lets; intro x; first | (refine Moves.mid (t := x) ?_ (fun hx => ?_) <;> [dsimp +zetaDelta only; clear_value x]) | clear_value x)
    | split | with_reducible apply Moves.of_resp

theorem execPopPathPop_moves (port : PopPort) (s : State) (hk : km &&& 0xFFBF77FFFFFFDB = km) (hs : Moves km s0 s) :
    Moves km s0 (Out.left s (execPopPathPop port s)) := by
  refine Moves.comp (k1 := 0xFFBF77FFFFFFDB) ?_ hk hs
  unfold execPopPathPop
  repeat' first
    | with_reducible apply Moves.refl | decide | with_reducible apply twbSend_moves | with_reducible apply popRaw_moves
    | with_reducible apply Moves.next | with_reducible apply Moves.when | split

theorem execRequestPulse_moves (x0 : Fin 2) (idle : ℕ) (sdaLow : Bool) (s : State) (hk : km &&& 0xFFFF7FFFFFFFFF = km) (hs : Moves km s0 s) :
    Moves km s0 (Out.left s (execRequestPulse x0 idle sdaLow s)) := by
  refine Moves.comp (k1 := 0xFFFF7FFFFFFFFF) ?_ hk hs
  unfold execRequestPulse
  repeat' first
    | with_reducible apply Moves.refl | decide | with_reducible apply State.modTwb_moves | with_reducible apply Moves.when

theorem execAlertResponse_moves (x0 : Fin 2) (won : Bool) (s : State) (hk : km &&& 0xFFFF7FFFFFFFDB = km) (hs : Moves km s0 s) :
    Moves km s0 (Out.left s (execAlertResponse x0 won s)) := by
  refine Moves.comp (k1 := 0xFFFF7FFFFFFFDB) ?_ hk hs
  unfold execAlertResponse
  repeat' first
    | with_reducible apply Moves.refl | decide | with_reducible apply twbAnswer_moves | with_reducible apply State.modTwb_moves
    | with_reducible apply State.putN_moves | with_reducible apply Moves.when | split

theorem putDataByte_moves (s : State) (x1 : ℕ) (k : ℕ) (x3 : Byte) (hk : km &&& 0xFFFFFFFFFFFFFB = km) (hs : Moves km s0 s) :
    Moves km s0 (putDataByte s x1 k x3) := by
  refine Moves.comp (k1 := 0xFFFFFFFFFFFFFB) ?_ hk hs
  unfold putDataByte
  repeat' first
    | with_reducible apply Moves.refl | decide | with_reducible apply State.putN_moves

theorem putDataBytes_moves (s : State) (x1 : ℕ) (k : ℕ) (x3 : List Byte) (hk : km &&& 0xFFFFFFFFFFFFFB = km) (hs : Moves km s0 s) :
    Moves km s0 (putDataBytes s x1 k x3) := by
  refine Moves.comp (k1 := 0xFFFFFFFFFFFFFB) ?_ hk hs
  clear hk hs
  induction x3 generalizing s k with
  | nil =>
    unfold putDataBytes
    repeat' first
      | with_reducible apply Moves.refl | decide | refine Moves.trans ?_ (ih _ _) | with_reducible apply putDataByte_moves
  | cons b l ih =>
    unfold putDataBytes
    repeat' first
      | with_reducible apply Moves.refl | decide | refine Moves.trans ?_ (ih _ _) | with_reducible apply putDataByte_moves

theorem execControllerTransferEnd_moves (x0 : Fin 2) (o : TwbOutcome) (s : State) (hk : km &&& 0xFFBF7FFFFFFFFB = km) (hs : Moves km s0 s) :
    Moves km s0 (Out.left s (execControllerTransferEnd x0 o s)) := by
  refine Moves.comp (k1 := 0xFFBF7FFFFFFFFB) ?_ hk hs
  unfold execControllerTransferEnd
  repeat' first
    | with_reducible apply Moves.refl | decide | with_reducible apply putDataBytes_moves | with_reducible apply ctlEnd_moves
    | with_reducible apply twbEnd_moves | with_reducible apply State.putN_moves | with_reducible apply Moves.when | split

theorem execControllerStart_moves (x0 : Fin 2) (x1 : Wr) (s : State) (hk : km &&& 0xFFBF7FFFFFEF9B = km) (hs : Moves km s0 s) :
    Moves km s0 (Out.left s (execControllerStart x0 x1 s)) := by
  refine Moves.comp (k1 := 0xFFBF7FFFFFEF9B) ?_ hk hs
  unfold execControllerStart
  repeat' first
    | with_reducible apply Moves.refl | with_reducible assumption | decide | ((with_reducible apply accessWrite_moves) <;> try intro _ _ _)
    | with_reducible apply ctlStartEff_moves | with_reducible apply Moves.next

theorem execRequestDetect_moves (x0 : Fin 2) (held : ℕ) (answer : Option Byte) (s : State) (hk : km &&& 0xFFBFFFFFFFFFFB = km) (hs : Moves km s0 s) :
    Moves km s0 (Out.left s (execRequestDetect x0 held answer s)) := by
  refine Moves.comp (k1 := 0xFFBFFFFFFFFFFB) ?_ hk hs
  unfold execRequestDetect
  repeat' first
    | with_reducible apply Moves.refl | decide | with_reducible apply State.setBits_moves | with_reducible apply State.putN_moves
    | with_reducible apply Moves.when | split

theorem execTwbSleep_moves (x0 : Fin 2) (x1 : Wr) (s : State) (hk : km &&& 0xFFBF7FFFFFEF9B = km) (hs : Moves km s0 s) :
    Moves km s0 (Out.left s (execTwbSleep x0 x1 s)) := by
  refine Moves.comp (k1 := 0xFFBF7FFFFFEF9B) ?_ hk hs
  unfold execTwbSleep
  repeat' first
    | with_reducible apply Moves.refl | with_reducible assumption | decide | ((with_reducible apply accessWrite_moves) <;> try intro _ _ _)
    | with_reducible apply sleepEff_moves | with_reducible apply Moves.next

theorem twbAck_moves (s : State) (ok : Bool) (hk : km &&& 0xFFFFFFFFFFFFDF = km) (hs : Moves km s0 s) :
    Moves km s0 (twbAck s ok) := by
  refine Moves.comp (k1 := 0xFFFFFFFFFFFFDF) ?_ hk hs
  unfold twbAck
  repeat' first
    | with_reducible apply Moves.refl | decide | split | with_reducible apply Moves.of_resp

theorem twbPost_moves (s : State) (x1 : ℕ) (q : ℕ) (kind : ℕ) (x4 : Byte) (hk : km &&& 0xFFFFFFFFFFFEFF = km) (hs : Moves km s0 s) :
    Moves km s0 (twbPost s x1 q kind x4) := by
  refine Moves.comp (k1 := 0xFFFFFFFFFFFEFF) ?_ hk hs
  unfold twbPost
  repeat' first
    | with_reducible apply Moves.refl | decide | with_reducible apply Moves.of_postNet

theorem twbAddressed_moves (s : State) (x1 : ℕ) (reading : Bool) (hk : km &&& 0xFFFF7FFFFFFEDB = km) (hs : Moves km s0 s) :
    Moves km s0 (twbAddressed s x1 reading) := by
  refine Moves.comp (k1 := 0xFFFF7FFFFFFEDB) ?_ hk hs
  unfold twbAddressed
  repeat' first
    | with_reducible apply Moves.refl | decide | with_reducible apply twbPost_moves | with_reducible apply twbAck_moves
    | with_reducible apply State.modTwb_moves | with_reducible apply State.putN_moves | split

theorem execFirmwareTargetByte_moves (x0 : Fin 2) (x1 : TwbByte) (s : State) (hk : km &&& 0xFFBF7FFFFFFEDB = km) (hs : Moves km s0 s) :
    Moves km s0 (Out.left s (execFirmwareTargetByte x0 x1 s)) := by
  refine Moves.comp (k1 := 0xFFBF7FFFFFFEDB) ?_ hk hs
  unfold execFirmwareTargetByte
  repeat' first
    | with_reducible apply Moves.refl | decide | with_reducible apply twbAddressed_moves | with_reducible apply twbPost_moves
    | with_reducible apply twbAck_moves | with_reducible apply twbSend_moves | with_reducible apply twbEnd_moves
    | with_reducible apply Moves.next | split

theorem execSclLowTimeout_moves (x0 : Fin 2) (held : ℕ) (s : State) (hk : km &&& 0xFFBF7FFFFFFF7B = km) (hs : Moves km s0 s) :
    Moves km s0 (Out.left s (execSclLowTimeout x0 held s)) := by
  refine Moves.comp (k1 := 0xFFBF7FFFFFFF7B) ?_ hk hs
  unfold execSclLowTimeout
  repeat' first
    | with_reducible apply Moves.refl | decide | with_reducible apply twbTimeout_moves | with_reducible apply ctlEnd_moves
    | with_reducible apply twbEnd_moves | with_reducible apply State.setBits_moves | with_reducible apply Moves.when | split

theorem offBy_moves (x0 : WEff) (s : State) (hk : km &&& 0xFFFFFFFFFFFFFF = km) (hs : Moves km s0 s) (hf : ∀ w t, Moves km s0 t → Moves km s0 (x0 w false t).2) :
    Moves km s0 (offBy x0 s) := by
  unfold offBy
  repeat' first
    | with_reducible assumption | (with_reducible apply hf)

theorem offEach_moves (x0 : ℕ) (x1 : ℕ → WEff) (s : State) (hk : km &&& 0xFFFFFFFFFFFFFF = km) (hs : Moves km s0 s) (hf : ∀ k w u t, Moves km u t → Moves km u (x1 k w false t).2) :
    Moves km s0 (offEach x0 x1 s) := by
  unfold offEach
  repeat' first
    | with_reducible apply Moves.refl | with_reducible assumption | (with_reducible apply hf)
    | ((with_reducible apply offBy_moves) <;> try intro _ _ _) | ((with_reducible apply Moves.foldl) <;> try intro _ _)

theorem stopField_moves (s : State) (hk : km &&& 0xFFBF57FFFFFFFB = km) (hs : Moves km s0 s) :
    Moves km s0 (stopField s) := by
  refine Moves.comp (k1 := 0xFFBF57FFFFFFFB) ?_ hk hs
  unfold stopField
  repeat' first
    | with_reducible apply Moves.refl | with_reducible assumption | decide | ((with_reducible apply offEach_moves) <;> try intro _ _ _ _ _)
    | ((with_reducible apply offBy_moves) <;> try intro _ _ _) | with_reducible apply twbEnableEff_moves
    | with_reducible apply canEnableEff_moves | with_reducible apply bulkAbortEff_moves

theorem stopFabric_moves (s : State) (hk : km &&& 0xFEAFFFF11FF76B = km) (hs : Moves km s0 s) :
    Moves km s0 (stopFabric s) := by
  refine Moves.comp (k1 := 0xFEAFFFF11FF76B) ?_ hk hs
  unfold stopFabric
  repeat' first
    | with_reducible apply Moves.refl | with_reducible assumption | decide | with_reducible apply pathEnableEff_moves
    | with_reducible apply chargerPlainEff_moves | with_reducible apply chargerEnableEff_moves
    | ((with_reducible apply offEach_moves) <;> try intro _ _ _ _ _) | ((with_reducible apply offBy_moves) <;> try intro _ _ _)
    | with_reducible apply svPlainEff_moves | with_reducible apply tablePlainEff_moves | with_reducible apply railModeEff_moves
    | with_reducible apply phaseModeEff_moves | with_reducible apply sckEnableEff_moves | with_reducible apply senseModeAll_moves
    | with_reducible apply markUnitEff_moves | with_reducible apply wheelModeAll_moves | with_reducible apply encoderEnableEff_moves

theorem abortCheck_moves (s : State) (k : ℕ) (hk : km &&& 0xFFB7FFFFFFFF7B = km) (hs : Moves km s0 s) :
    Moves km s0 (abortCheck s k) := by
  refine Moves.comp (k1 := 0xFFB7FFFFFFFF7B) ?_ hk hs
  unfold abortCheck
  repeat' first
    | with_reducible apply Moves.refl | decide | with_reducible apply assayerCommandEff_moves

theorem stopSystem_moves (s : State) (hk : km &&& 0xFFA7BC6127FF6B = km) (hs : Moves km s0 s) :
    Moves km s0 (stopSystem s) := by
  refine Moves.comp (k1 := 0xFFA7BC6127FF6B) ?_ hk hs
  unfold stopSystem
  repeat' first
    | with_reducible apply Moves.refl | with_reducible assumption | decide | with_reducible apply abortCheck_moves
    | with_reducible apply sequencerEnableEff_moves | with_reducible apply journalEnableEff_moves
    | with_reducible apply gaugeEnableEff_moves | with_reducible apply irqPlainEff_moves
    | ((with_reducible apply offEach_moves) <;> try intro _ _ _ _ _) | ((with_reducible apply offBy_moves) <;> try intro _ _ _)
    | with_reducible apply queueEnableEff_moves | with_reducible apply taskEnableEff_moves | with_reducible apply plainWrite_moves
    | (lift_lets; intro x; first | (refine Moves.mid (t := x) ?_ (fun hx => ?_) <;> [dsimp +zetaDelta only; clear_value x]) | clear_value x)
    | ((with_reducible apply Moves.foldl) <;> try intro _ _)

theorem stopDomain_moves (s : State) (d : ℕ) (hk : km &&& 0xFEA7144107F76B = km) (hs : Moves km s0 s) :
    Moves km s0 (stopDomain s d) := by
  refine Moves.comp (k1 := 0xFEA7144107F76B) ?_ hk hs
  unfold stopDomain
  repeat' first
    | with_reducible apply Moves.refl | with_reducible assumption | decide | with_reducible apply stopSystem_moves
    | with_reducible apply stopFabric_moves | with_reducible apply stopField_moves
    | ((with_reducible apply offEach_moves) <;> try intro _ _ _ _ _) | with_reducible apply convEnableEff_moves | split

theorem domainSafe_moves (s : State) (d : ℕ) (hk : km &&& 0xFFBFFC7FBFFFFB = km) (hs : Moves km s0 s) :
    Moves km s0 (domainSafe s d) := by
  refine Moves.comp (k1 := 0xFFBFFC7FBFFFFB) ?_ hk hs
  unfold domainSafe
  repeat' first
    | with_reducible apply Moves.refl | decide | (intro _; simp only [List.all_map]; rw [List.all_eq_true]; intro p _; rfl)
    | with_reducible apply settleSlots_moves | with_reducible apply followTargets_moves | split | with_reducible apply Moves.of_phases
    | (simp only [modAt_length, List.length_map, List.length_replicate]; done)

theorem withDescriptor_moves (s : State) (f : State → State) (hk : km &&& 0xFFBFFFFFFFFFFB = km) (hs : Moves km s0 s) (hf : Moves km s0 (f s)) :
    Moves km s0 (withDescriptor s f) := by
  unfold withDescriptor
  repeat' first
    | with_reducible assumption | exact Moves.sub hk (by decide) | with_reducible apply State.noteCount_moves
    | with_reducible apply State.put_moves
    | (lift_lets; intro x; first | (refine Moves.mid (t := x) ?_ (fun hx => ?_) <;> [dsimp +zetaDelta only; clear_value x]) | clear_value x)
    | split

theorem setDomain_moves (s : State) (d : ℕ) (v : ℕ) (hk : km &&& 0xFFBFFFFFFFFFFB = km) (hs : Moves km s0 s) :
    Moves km s0 (setDomain s d v) := by
  refine Moves.comp (k1 := 0xFFBFFFFFFFFFFB) ?_ hk hs
  unfold setDomain
  repeat' first
    | with_reducible apply Moves.refl | decide | with_reducible apply withDescriptor_moves | with_reducible apply State.putN_moves

theorem beginChange_moves (s : State) (d : ℕ) (target : ℕ) (hk : km &&& 0xFFBFF87FB7FFFB = km) (hs : Moves km s0 s) :
    Moves km s0 (beginChange s d target) := by
  refine Moves.comp (k1 := 0xFFBFF87FB7FFFB) ?_ hk hs
  unfold beginChange
  repeat' first
    | with_reducible apply Moves.refl | decide | with_reducible apply setDomain_moves | with_reducible apply domainSafe_moves
    | with_reducible apply State.modFm_moves | with_reducible apply State.putN_moves | split | with_reducible apply Moves.of_dom
    | exact fun _ => rfl

theorem takeChange_moves (s : State) (d : ℕ) (target : ℕ) (hk : km &&& 0xFEA7104105E763 = km) (hs : Moves km s0 s) :
    Moves km s0 (takeChange s d target) := by
  refine Moves.comp (k1 := 0xFEA7104105E763) ?_ hk hs
  unfold takeChange
  repeat' first
    | with_reducible apply Moves.refl | with_reducible assumption | decide | with_reducible apply consolidate_moves
    | with_reducible apply stopDomain_moves | with_reducible apply beginChange_moves
    | (lift_lets; intro x; first | (refine Moves.mid (t := x) ?_ (fun hx => ?_) <;> [dsimp +zetaDelta only; clear_value x]) | clear_value x)
    | split | with_reducible apply Moves.of_dom

theorem settleDomains_moves (s : State) (hk : km &&& 0xFEA7104105E763 = km) (hs : Moves km s0 s) :
    Moves km s0 (settleDomains s) := by
  refine Moves.comp (k1 := 0xFEA7104105E763) ?_ hk hs
  unfold settleDomains
  repeat' first
    | with_reducible apply Moves.refl | decide | with_reducible apply takeChange_moves | with_reducible apply beginChange_moves
    | with_reducible apply State.modFm_moves | split | exact fun _ => rfl

theorem acceptDomains_moves (s : State) (v : ℕ) (hk : km &&& 0xFEA7104105E763 = km) (hs : Moves km s0 s) :
    Moves km s0 (acceptDomains s v) := by
  refine Moves.comp (k1 := 0xFEA7104105E763) ?_ hk hs
  unfold acceptDomains
  repeat' first
    | with_reducible apply Moves.refl | decide | with_reducible apply settleDomains_moves | with_reducible apply State.modFm_moves
    | with_reducible apply State.putN_moves | exact fun _ => rfl

theorem domainRequestEff_moves (w' : Wr) (b' : Bool) (s' : State) (hk : km &&& 0xFEA7104105E763 = km) (hs : Moves km s0 s') :
    Moves km s0 (domainRequestEff  w' b' s').2 := by
  refine Moves.comp (k1 := 0xFEA7104105E763) ?_ hk hs
  unfold domainRequestEff
  repeat' first
    | with_reducible apply Moves.refl | decide | with_reducible apply acceptDomains_moves | with_reducible apply rej_moves
    | with_reducible apply acc_moves | with_reducible apply State.putN_moves
    | (lift_lets; intro x; first | (refine Moves.mid (t := x) ?_ (fun hx => ?_) <;> [dsimp +zetaDelta only; clear_value x]) | clear_value x)
    | split

theorem execDomainRequestWrite_moves (x0 : Wr) (s : State) (hk : km &&& 0xFEA7104105E703 = km) (hs : Moves km s0 s) :
    Moves km s0 (Out.left s (execDomainRequestWrite x0 s)) := by
  refine Moves.comp (k1 := 0xFEA7104105E703) ?_ hk hs
  unfold execDomainRequestWrite
  repeat' first
    | with_reducible apply Moves.refl | with_reducible assumption | decide | ((with_reducible apply accessWrite_moves) <;> try intro _ _ _)
    | with_reducible apply domainRequestEff_moves | with_reducible apply Moves.next

theorem wakeDomains_moves (s : State) (wake : ℕ) (hk : km &&& 0xFEA7104105E763 = km) (hs : Moves km s0 s) :
    Moves km s0 (wakeDomains s wake) := by
  refine Moves.comp (k1 := 0xFEA7104105E763) ?_ hk hs
  unfold wakeDomains
  repeat' first
    | with_reducible apply Moves.refl | with_reducible assumption | decide | with_reducible apply acceptDomains_moves
    | with_reducible apply State.putN_moves
    | (intro x; first | (refine Moves.mid (t := x) ?_ (fun hx => ?_) <;> [dsimp +zetaDelta only; clear_value x]) | clear_value x)
    | (lift_lets; intro x; first | (refine Moves.mid (t := x) ?_ (fun hx => ?_) <;> [dsimp +zetaDelta only; clear_value x]) | clear_value x)
    | split

theorem execLighthouseFire_moves (s : State) (hk : km &&& 0xFEA7104105E763 = km) (hs : Moves km s0 s) :
    Moves km s0 (Out.left s (execLighthouseFire s)) := by
  refine Moves.comp (k1 := 0xFEA7104105E763) ?_ hk hs
  unfold execLighthouseFire
  repeat' first
    | with_reducible apply Moves.refl | decide | with_reducible apply wakeDomains_moves | with_reducible apply State.bump_moves
    | with_reducible apply State.putN_moves | with_reducible apply State.put_moves | with_reducible apply Moves.next
    | (lift_lets; intro x; first | (refine Moves.mid (t := x) ?_ (fun hx => ?_) <;> [dsimp +zetaDelta only; clear_value x]) | clear_value x)
    | split | with_reducible apply Moves.of_aon

theorem domainContents_moves (s : State) (d : ℕ) (old : ℕ) (new : ℕ) (hk : km &&& 0xFEBF469C1DE7F3 = km) (hs : Moves km s0 s) :
    Moves km s0 (domainContents s d old new) := by
  refine Moves.comp (k1 := 0xFEBF469C1DE7F3) ?_ hk hs
  unfold domainContents
  repeat' first
    | with_reducible apply Moves.refl | decide | with_reducible apply domainReset_moves | with_reducible apply resetD5_moves
    | with_reducible apply resetCommunication_moves | split

theorem execDomainChangeComplete_moves (d : Fin 8) (s : State) (hk : km &&& 0xFEA7000005E763 = km) (hs : Moves km s0 s) :
    Moves km s0 (Out.left s (execDomainChangeComplete d s)) := by
  refine Moves.comp (k1 := 0xFEA7000005E763) ?_ hk hs
  unfold execDomainChangeComplete
  repeat' first
    | with_reducible apply Moves.refl | decide | with_reducible apply domainContents_moves | with_reducible apply settleDomains_moves
    | with_reducible apply setDomain_moves | with_reducible apply settleSlots_moves | with_reducible apply foremanAct_moves
    | with_reducible apply settleAll_moves | with_reducible apply State.bump_moves | with_reducible apply Moves.next
    | with_reducible apply Moves.when | split | with_reducible apply Moves.of_dom

theorem releaseEntries_moves (s : State) (hk : km &&& 0xFFFFFFFBFFFFFF = km) (hs : Moves km s0 s) :
    Moves km s0 (releaseEntries s) := by
  refine Moves.comp (k1 := 0xFFFFFFFBFFFFFF) ?_ hk hs
  unfold releaseEntries
  repeat' first
    | with_reducible apply Moves.refl | decide
    | (intro x; first | (refine Moves.mid (t := x) ?_ (fun hx => ?_) <;> [dsimp +zetaDelta only; clear_value x]) | clear_value x)
    | (lift_lets; intro x; first | (refine Moves.mid (t := x) ?_ (fun hx => ?_) <;> [dsimp +zetaDelta only; clear_value x]) | clear_value x)
    | with_reducible apply Moves.of_aon

theorem readWord_moves (i : ℕ) (j : ℕ) (r' : Rd) (s' : State) (hk : km &&& 0xFFBFFFFFFFFFBB = km) (hs : Moves km s0 s') :
    Moves km s0 (readWord i j r' s').2 := by
  refine Moves.comp (k1 := 0xFFBFFFFFFFFFBB) ?_ hk hs
  unfold readWord
  repeat' first
    | with_reducible apply Moves.refl | with_reducible assumption | decide | with_reducible apply State.takeCount_moves
    | with_reducible apply State.modMaster_moves | with_reducible apply State.put_moves
    | (intro x; first | (refine Moves.mid (t := x) ?_ (fun hx => ?_) <;> [dsimp +zetaDelta only; clear_value x]) | clear_value x)
    | (lift_lets; intro x; first | (refine Moves.mid (t := x) ?_ (fun hx => ?_) <;> [dsimp +zetaDelta only; clear_value x]) | clear_value x)
    | split

theorem accessRead_moves (s : State) (r : Rd) (i : ℕ) (j : ℕ) (eff : REff) (hk : km &&& 0xFFBFFFFFFFEFDB = km) (hs : Moves km s0 s) (hf : ∀ t, Moves km s0 t → Moves km s0 (eff r t).2) :
    Moves km s0 (accessRead s r i j eff) := by
  unfold accessRead
  repeat' first
    | with_reducible assumption | (with_reducible apply hf) | with_reducible apply endRead_moves | split

theorem fwReadValue_moves (s : State) (m : Master) (x : FwEntry) (i : ℕ) (j : ℕ) (r : ObjRow) (hk : km &&& 0xFFFFFFFFFFFFBF = km) (hs : Moves km s0 s) :
    Moves km s0 (fwReadValue s m x i j r).2 := by
  refine Moves.comp (k1 := 0xFFFFFFFFFFFFBF) ?_ hk hs
  unfold fwReadValue
  repeat' first
    | with_reducible apply Moves.refl | decide | with_reducible apply State.modMaster_moves
    | (intro x; first | (refine Moves.mid (t := x) ?_ (fun hx => ?_) <;> [dsimp +zetaDelta only; clear_value x]) | clear_value x)
    | (lift_lets; intro x; first | (refine Moves.mid (t := x) ?_ (fun hx => ?_) <;> [dsimp +zetaDelta only; clear_value x]) | clear_value x)
    | split

theorem readWords_moves (s : State) (x1 : List ℕ) (hk : km &&& 0xFFBFFFFFFDFF7B = km) (hs : Moves km s0 s) :
    Moves km s0 (readWords s x1).1 := by
  refine Moves.comp (k1 := 0xFFBFFFFFFDFF7B) ?_ hk hs
  clear hk hs
  induction x1 generalizing s with
  | nil =>
    unfold readWords
    repeat' first
      | with_reducible apply Moves.refl | decide | refine Moves.trans ?_ (ih _) | with_reducible apply eccRead_moves
      | (with_reducible apply Moves.fst (by assumption)) | split
  | cons b l ih =>
    unfold readWords
    repeat' first
      | with_reducible apply Moves.refl | decide | refine Moves.trans ?_ (ih _) | with_reducible apply eccRead_moves
      | (with_reducible apply Moves.fst (by assumption)) | split

theorem fwRead_moves (s : State) (rd : Rd) (i : ℕ) (j : ℕ) (hk : km &&& 0xFFBFFFFFFDEF1B = km) (hs : Moves km s0 s) :
    Moves km s0 (fwRead s rd i j) := by
  refine Moves.comp (k1 := 0xFFBFFFFFFDEF1B) ?_ hk hs
  unfold fwRead
  repeat' first
    | with_reducible apply Moves.refl | with_reducible assumption | decide | with_reducible apply readWords_moves
    | with_reducible apply fwReadValue_moves | with_reducible apply endRead_moves | with_reducible apply State.bump_moves
    | (with_reducible apply Moves.fst (by assumption))
    | (lift_lets; intro x; first | (refine Moves.mid (t := x) ?_ (fun hx => ?_) <;> [dsimp +zetaDelta only; clear_value x]) | clear_value x)
    | split

theorem tableInForce_moves (s : State) (a : ℕ) (x2 : ℕ) (hk : km &&& 0xFFDFFFFFFFFFFB = km) (hs : Moves km s0 s) :
    Moves km s0 (tableInForce s a x2) := by
  refine Moves.comp (k1 := 0xFFDFFFFFFFFFFB) ?_ hk hs
  unfold tableInForce
  repeat' first
    | with_reducible apply Moves.refl | with_reducible assumption | decide | with_reducible apply State.putN_moves
    | (lift_lets; intro x; first | (refine Moves.mid (t := x) ?_ (fun hx => ?_) <;> [dsimp +zetaDelta only; clear_value x]) | clear_value x)
    | ((with_reducible apply Moves.foldl) <;> try intro _ _) | with_reducible apply Moves.of_fwt

theorem tableCommitEff_moves (w' : Wr) (b' : Bool) (s' : State) (hk : km &&& 0xFFDFFFFFFFFFFB = km) (hs : Moves km s0 s') :
    Moves km s0 (tableCommitEff  w' b' s').2 := by
  refine Moves.comp (k1 := 0xFFDFFFFFFFFFFB) ?_ hk hs
  unfold tableCommitEff
  repeat' first
    | with_reducible apply Moves.refl | with_reducible assumption | decide | with_reducible apply tableInForce_moves
    | with_reducible apply rej_moves | with_reducible apply acc_moves | with_reducible apply State.putN_moves
    | (intro x; first | (refine Moves.mid (t := x) ?_ (fun hx => ?_) <;> [dsimp +zetaDelta only; clear_value x]) | clear_value x)
    | (lift_lets; intro x; first | (refine Moves.mid (t := x) ?_ (fun hx => ?_) <;> [dsimp +zetaDelta only; clear_value x]) | clear_value x)
    | split | with_reducible apply Moves.of_fwt

theorem fwNotify_moves (s : State) (x : FwEntry) (m : Master) (i : ℕ) (j : ℕ) (pair : Bool) (hk : km &&& 0xFFBFFFFFFFFFFB = km) (hs : Moves km s0 s) :
    Moves km s0 (fwNotify s x m i j pair) := by
  refine Moves.comp (k1 := 0xFFBFFFFFFFFFFB) ?_ hk hs
  unfold fwNotify
  repeat' first
    | with_reducible apply Moves.refl | decide | with_reducible apply State.setBits_moves | with_reducible apply State.putN_moves
    | (lift_lets; intro x; first | (refine Moves.mid (t := x) ?_ (fun hx => ?_) <;> [dsimp +zetaDelta only; clear_value x]) | clear_value x)
    | split

theorem fwStore_moves (s : State) (x : FwEntry) (x2 : Wr) (i : ℕ) (j : ℕ) (r : ObjRow) (hk : km &&& 0xFFBFFFFFFDEFB3 = km) (hs : Moves km s0 s) :
    Moves km s0 (fwStore s x x2 i j r) := by
  refine Moves.comp (k1 := 0xFFBFFFFFFDEFB3) ?_ hk hs
  unfold fwStore
  repeat' first
    | with_reducible apply Moves.refl | with_reducible assumption | decide | with_reducible apply fwNotify_moves
    | with_reducible apply memStore_moves | with_reducible apply State.bump_moves | with_reducible apply State.modMaster_moves
    | (intro x; first | (refine Moves.mid (t := x) ?_ (fun hx => ?_) <;> [dsimp +zetaDelta only; clear_value x]) | clear_value x)
    | (lift_lets; intro x; first | (refine Moves.mid (t := x) ?_ (fun hx => ?_) <;> [dsimp +zetaDelta only; clear_value x]) | clear_value x)
    | split

theorem fwResult_moves (s : State) (x1 : Wr) (auth : Bool) (i : ℕ) (j : ℕ) (hk : km &&& 0xFFBFFFFFFDEF33 = km) (hs : Moves km s0 s) :
    Moves km s0 (fwResult s x1 auth i j).2 := by
  refine Moves.comp (k1 := 0xFFBFFFFFFDEF33) ?_ hk hs
  unfold fwResult
  repeat' first
    | with_reducible apply Moves.refl | with_reducible assumption | decide | with_reducible apply fwStore_moves
    | with_reducible apply readWords_moves | with_reducible apply State.bump_moves | (with_reducible apply Moves.fst (by assumption))
    | (lift_lets; intro x; first | (refine Moves.mid (t := x) ?_ (fun hx => ?_) <;> [dsimp +zetaDelta only; clear_value x]) | clear_value x)
    | split

theorem fwWrite_moves (s : State) (x1 : Wr) (auth : Bool) (i : ℕ) (j : ℕ) (hk : km &&& 0xFFBFFFFFFDEF13 = km) (hs : Moves km s0 s) :
    Moves km s0 (fwWrite s x1 auth i j) := by
  refine Moves.comp (k1 := 0xFFBFFFFFFDEF13) ?_ hk hs
  unfold fwWrite
  repeat' first
    | with_reducible apply Moves.refl | decide | with_reducible apply endWrite_moves | with_reducible apply fwResult_moves | split

theorem execFirmwareObjectRead_moves (i : BitVec 16) (j : Byte) (rd : Rd) (s : State) (hk : km &&& 0xFFBFFFFFFDEF1B = km) (hs : Moves km s0 s) :
    Moves km s0 (Out.left s (execFirmwareObjectRead i j rd s)) := by
  refine Moves.comp (k1 := 0xFFBFFFFFFDEF1B) ?_ hk hs
  unfold execFirmwareObjectRead
  repeat' first
    | with_reducible apply Moves.refl | decide | with_reducible apply fwRead_moves | with_reducible apply Moves.when

theorem execFirmwareObjectWrite_moves (i : BitVec 16) (j : Byte) (x2 : Wr) (s : State) (hk : km &&& 0xFFBFFFFFFDEF13 = km) (hs : Moves km s0 s) :
    Moves km s0 (Out.left s (execFirmwareObjectWrite i j x2 s)) := by
  refine Moves.comp (k1 := 0xFFBFFFFFFDEF13) ?_ hk hs
  unfold execFirmwareObjectWrite
  repeat' first
    | with_reducible apply Moves.refl | decide | with_reducible apply fwWrite_moves | with_reducible apply Moves.when

theorem validateTable_moves (s : State) (a : ℕ) (x2 : ℕ) (hk : km &&& 0xFF9FFFFFFDFF6B = km) (hs : Moves km s0 s) :
    Moves km s0 (validateTable s a x2) := by
  refine Moves.comp (k1 := 0xFF9FFFFFFDFF6B) ?_ hk hs
  unfold validateTable
  dsimp only
  repeat' first
    | with_reducible apply Moves.refl | decide | with_reducible apply tableInForce_moves | with_reducible apply readWords_moves
    | with_reducible apply State.freshByte_moves | with_reducible apply State.putN_moves | split | with_reducible apply Moves.of_fwt

theorem execFirmwareTableValidated_moves (s : State) (hk : km &&& 0xFF9FFFFFFDFF6B = km) (hs : Moves km s0 s) :
    Moves km s0 (Out.left s (execFirmwareTableValidated s)) := by
  refine Moves.comp (k1 := 0xFF9FFFFFFDFF6B) ?_ hk hs
  unfold execFirmwareTableValidated
  repeat' first
    | with_reducible apply Moves.refl | decide | with_reducible apply validateTable_moves | with_reducible apply Moves.next
    | with_reducible apply Moves.when | split

theorem execFirmwareTableCommit_moves (x0 : Wr) (s : State) (hk : km &&& 0xFF9FFFFFFFEF9B = km) (hs : Moves km s0 s) :
    Moves km s0 (Out.left s (execFirmwareTableCommit x0 s)) := by
  refine Moves.comp (k1 := 0xFF9FFFFFFFEF9B) ?_ hk hs
  unfold execFirmwareTableCommit
  repeat' first
    | with_reducible apply Moves.refl | with_reducible assumption | decide | ((with_reducible apply accessWrite_moves) <;> try intro _ _ _)
    | with_reducible apply tableCommitEff_moves | with_reducible apply Moves.next

theorem admitDomain_moves (s : State) (d : ℕ) (hk : km &&& 0xFEA7104105E763 = km) (hs : Moves km s0 s) :
    Moves km s0 (admitDomain s d) := by
  refine Moves.comp (k1 := 0xFEA7104105E763) ?_ hk hs
  unfold admitDomain
  repeat' first
    | with_reducible apply Moves.refl | with_reducible assumption | decide | with_reducible apply settleDomains_moves
    | with_reducible apply State.modFm_moves | with_reducible apply State.setBits_moves | with_reducible apply State.putN_moves
    | (lift_lets; intro x; first | (refine Moves.mid (t := x) ?_ (fun hx => ?_) <;> [dsimp +zetaDelta only; clear_value x]) | clear_value x)
    | split | exact fun _ => rfl

theorem beginStep_moves (s : State) (hk : km &&& 0xFEA7104105E763 = km) (hs : Moves km s0 s) :
    Moves km s0 (beginStep s) := by
  refine Moves.comp (k1 := 0xFEA7104105E763) ?_ hk hs
  unfold beginStep
  repeat' first
    | with_reducible apply Moves.refl | decide | with_reducible apply admitDomain_moves | with_reducible apply State.putN_moves | split

theorem State.modStart_moves (s : State) (f : Startup → Startup) (hk : km &&& 0xFFFFFFFFFBFFFF = km) (hs : Moves km s0 s) :
    Moves km s0 (s.modStart f) :=
  Moves.of_startup s _  hk hs

theorem widenAgain_moves (s : State) (hk : km &&& 0xFEA7104101E763 = km) (hs : Moves km s0 s) :
    Moves km s0 (widenAgain s) := by
  refine Moves.comp (k1 := 0xFEA7104101E763) ?_ hk hs
  unfold widenAgain
  repeat' first
    | with_reducible apply Moves.refl | decide | with_reducible apply State.modStart_moves | with_reducible apply beginStep_moves

theorem retryEff_moves (w' : Wr) (b' : Bool) (s' : State) (hk : km &&& 0xFEA7104101E763 = km) (hs : Moves km s0 s') :
    Moves km s0 (retryEff  w' b' s').2 := by
  refine Moves.comp (k1 := 0xFEA7104101E763) ?_ hk hs
  unfold retryEff
  repeat' first
    | with_reducible apply Moves.refl | decide | with_reducible apply widenAgain_moves | with_reducible apply withDescriptor_moves
    | with_reducible apply rej_moves | with_reducible apply acc_moves | with_reducible apply State.putN_moves | split

theorem showLevel_moves (s : State) (hk : km &&& 0xFFBFFFFFFFFFFB = km) (hs : Moves km s0 s) :
    Moves km s0 (showLevel s) := by
  refine Moves.comp (k1 := 0xFFBFFFFFFFFFFB) ?_ hk hs
  unfold showLevel
  repeat' first
    | with_reducible apply Moves.refl | decide | with_reducible apply State.bump_moves | with_reducible apply State.putN_moves | split

theorem setPhaseBit_moves (s : State) (j : ℕ) (p : ℕ) (v : Bool) (hk : km &&& 0xFFBFFFFFFFFFFB = km) (hs : Moves km s0 s) :
    Moves km s0 (setPhaseBit s j p v) := by
  refine Moves.comp (k1 := 0xFFBFFFFFFFFFFB) ?_ hk hs
  unfold setPhaseBit
  repeat' first
    | with_reducible apply Moves.refl | decide | with_reducible apply State.putBit_moves | split

theorem removeEngine_moves (s : State) (x1 : ℕ) (hk : km &&& 0xFFBFFBFFF5EF63 = km) (hs : Moves km s0 s) :
    Moves km s0 (removeEngine s x1) := by
  refine Moves.comp (k1 := 0xFFBFFBFFF5EF63) ?_ hk hs
  unfold removeEngine
  repeat' first
    | with_reducible apply Moves.refl | decide | with_reducible apply State.putBit_moves | with_reducible apply engineLost_moves
    | with_reducible apply abandonOn_moves

theorem narrowTo_moves (s : State) (x1 : ℕ) (hk : km &&& 0xFFBFFBFFB5EF63 = km) (hs : Moves km s0 s) :
    Moves km s0 (narrowTo s x1) := by
  refine Moves.comp (k1 := 0xFFBFFBFFB5EF63) ?_ hk hs
  unfold narrowTo
  repeat' first
    | with_reducible apply Moves.refl | with_reducible assumption | decide | with_reducible apply removeEngine_moves
    | with_reducible apply setPhaseBit_moves | with_reducible apply disablePhase_moves
    | (intro x; first | (refine Moves.mid (t := x) ?_ (fun hx => ?_) <;> [dsimp +zetaDelta only; clear_value x]) | clear_value x)
    | (lift_lets; intro x; first | (refine Moves.mid (t := x) ?_ (fun hx => ?_) <;> [dsimp +zetaDelta only; clear_value x]) | clear_value x)
    | split | ((with_reducible apply Moves.foldl) <;> try intro _ _)

theorem targetEff_moves (w' : Wr) (b' : Bool) (s' : State) (hk : km &&& 0xFEA7104101E763 = km) (hs : Moves km s0 s') :
    Moves km s0 (targetEff  w' b' s').2 := by
  refine Moves.comp (k1 := 0xFEA7104101E763) ?_ hk hs
  unfold targetEff
  repeat' first
    | with_reducible apply Moves.refl | with_reducible assumption | decide | with_reducible apply narrowTo_moves
    | with_reducible apply showLevel_moves | with_reducible apply widenAgain_moves | with_reducible apply withDescriptor_moves
    | with_reducible apply requestRecord_moves | with_reducible apply foremanAct_moves | with_reducible apply settleAll_moves
    | with_reducible apply rej_moves | with_reducible apply acc_moves | with_reducible apply State.put_moves
    | (lift_lets; intro x; first | (refine Moves.mid (t := x) ?_ (fun hx => ?_) <;> [dsimp +zetaDelta only; clear_value x]) | clear_value x)
    | split

theorem wideningPlainEff_moves (j : ℕ) (w' : Wr) (b' : Bool) (s' : State) (hk : km &&& 0xFFBFBFFFFFFF7B = km) (hs : Moves km s0 s') :
    Moves km s0 (wideningPlainEff j w' b' s').2 := by
  refine Moves.comp (k1 := 0xFFBFBFFFFFFF7B) ?_ hk hs
  unfold wideningPlainEff
  repeat' first
    | with_reducible apply Moves.refl | decide | with_reducible apply requestRecord_moves | with_reducible apply plainWrite_moves
    | (with_reducible apply Moves.snd (by assumption)) | split

theorem releaseField_moves (s : State) (hk : km &&& 0xFFFF77FFFBFFFB = km) (hs : Moves km s0 s) :
    Moves km s0 (releaseField s) := by
  refine Moves.comp (k1 := 0xFFFF77FFFBFFFB) ?_ hk hs
  unfold releaseField
  repeat' first
    | with_reducible apply Moves.refl | decide | with_reducible apply State.modStart_moves | with_reducible apply twbStart_moves
    | with_reducible apply canStart_moves

theorem unitFailed_moves (s : State) (code : ℕ) (hk : km &&& 0xFFBFFFFFFFFF7B = km) (hs : Moves km s0 s) :
    Moves km s0 (unitFailed s code) := by
  refine Moves.comp (k1 := 0xFFBFFFFFFFFF7B) ?_ hk hs
  unfold unitFailed
  repeat' first
    | with_reducible apply Moves.refl | decide | with_reducible apply State.report_moves | with_reducible apply State.setBits_moves
    | with_reducible apply State.bump_moves | with_reducible apply State.putN_moves

theorem domainFailed_moves (s : State) (d : ℕ) (hk : km &&& 0xFEA7104105E763 = km) (hs : Moves km s0 s) :
    Moves km s0 (domainFailed s d) := by
  refine Moves.comp (k1 := 0xFEA7104105E763) ?_ hk hs
  unfold domainFailed
  repeat' first
    | with_reducible apply Moves.refl | with_reducible assumption | decide | with_reducible apply unitFailed_moves
    | with_reducible apply settleDomains_moves | with_reducible apply State.modFm_moves | with_reducible apply State.clrBits_moves
    | with_reducible apply State.putN_moves
    | (lift_lets; intro x; first | (refine Moves.mid (t := x) ?_ (fun hx => ?_) <;> [dsimp +zetaDelta only; clear_value x]) | clear_value x)
    | split | exact fun _ => rfl

theorem admitUnits_moves (s : State) (es : List ℕ) (ps : List ℕ) (hk : km &&& 0xFFBFFFFFFFEFBB = km) (hs : Moves km s0 s) :
    Moves km s0 (admitUnits s es ps) := by
  refine Moves.comp (k1 := 0xFFBFFFFFFFEFBB) ?_ hk hs
  unfold admitUnits
  repeat' first
    | with_reducible apply Moves.refl | with_reducible assumption | decide | with_reducible apply setPhaseBit_moves
    | with_reducible apply State.putBit_moves | with_reducible apply resetCore_moves | with_reducible apply State.bump_moves
    | with_reducible apply State.put_moves
    | (lift_lets; intro x; first | (refine Moves.mid (t := x) ?_ (fun hx => ?_) <;> [dsimp +zetaDelta only; clear_value x]) | clear_value x)
    | split | ((with_reducible apply Moves.foldl) <;> try intro _ _)

theorem leaveOut_moves (s : State) (es : List ℕ) (ps : List ℕ) (hk : km &&& 0xFFBFFFFFFFFFFB = km) (hs : Moves km s0 s) :
    Moves km s0 (leaveOut s es ps) := by
  refine Moves.comp (k1 := 0xFFBFFFFFFFFFFB) ?_ hk hs
  unfold leaveOut
  repeat' first
    | with_reducible apply Moves.refl | with_reducible assumption | decide | with_reducible apply setPhaseBit_moves
    | with_reducible apply State.putBit_moves
    | (lift_lets; intro x; first | (refine Moves.mid (t := x) ?_ (fun hx => ?_) <;> [dsimp +zetaDelta only; clear_value x]) | clear_value x)
    | ((with_reducible apply Moves.foldl) <;> try intro _ _)

theorem levelStepEnd_moves (s : State) (x1 : ℕ) (engFail : BitVec 16) (phFail : BitVec 48) (domFail : Bool) (hk : km &&& 0xFEA7104105E723 = km) (hs : Moves km s0 s) :
    Moves km s0 (levelStepEnd s x1 engFail phFail domFail) := by
  refine Moves.comp (k1 := 0xFEA7104105E723) ?_ hk hs
  unfold levelStepEnd
  repeat' first
    | with_reducible apply Moves.refl | with_reducible assumption | decide | with_reducible apply leaveOut_moves
    | with_reducible apply admitUnits_moves | with_reducible apply domainFailed_moves | with_reducible apply unitFailed_moves
    | (intro x; first | (refine Moves.mid (t := x) ?_ (fun hx => ?_) <;> [dsimp +zetaDelta only; clear_value x]) | clear_value x)
    | (lift_lets; intro x; first | (refine Moves.mid (t := x) ?_ (fun hx => ?_) <;> [dsimp +zetaDelta only; clear_value x]) | clear_value x)
    | split | ((with_reducible apply Moves.foldl) <;> try intro _ _)

theorem stepEnd_moves (s : State) (x1 : ℕ) (engFail : BitVec 16) (phFail : BitVec 48) (domFail : Bool) (hk : km &&& 0xFEA7104101E723 = km) (hs : Moves km s0 s) :
    Moves km s0 (stepEnd s x1 engFail phFail domFail) := by
  refine Moves.comp (k1 := 0xFEA7104101E723) ?_ hk hs
  unfold stepEnd
  repeat' first
    | with_reducible apply Moves.refl | decide | with_reducible apply levelStepEnd_moves | with_reducible apply domainFailed_moves
    | with_reducible apply releaseField_moves | with_reducible apply State.modStart_moves | split

theorem bootService_moves (s : State) (hk : km &&& 0xFFBEFFFFFFFF7B = km) (hs : Moves km s0 s) :
    Moves km s0 (bootService s) := by
  refine Moves.comp (k1 := 0xFFBEFFFFFFFF7B) ?_ hk hs
  unfold bootService
  repeat' first
    | with_reducible apply Moves.refl | decide | with_reducible apply canaryServiceEff_moves | split

theorem finishSteps_moves (s : State) (hk : km &&& 0xFFFFFFFFFBFFFF = km) (hs : Moves km s0 s) :
    Moves km s0 (finishSteps s) := by
  refine Moves.comp (k1 := 0xFFFFFFFFFBFFFF) ?_ hk hs
  unfold finishSteps
  repeat' first
    | with_reducible apply Moves.refl | decide | with_reducible apply State.modStart_moves | split

theorem execWideningStep_moves (refs : BitVec 64) (engFail : BitVec 16) (phFail : BitVec 48) (late : Bool) (s : State) (hk : km &&& 0xFEA6104101E723 = km) (hs : Moves km s0 s) :
    Moves km s0 (Out.left s (execWideningStep refs engFail phFail late s)) := by
  refine Moves.comp (k1 := 0xFEA6104101E723) ?_ hk hs
  unfold execWideningStep
  repeat' first
    | with_reducible apply Moves.refl | decide | with_reducible apply finishSteps_moves | with_reducible apply bootService_moves
    | with_reducible apply stepEnd_moves | with_reducible apply showLevel_moves | with_reducible apply State.modStart_moves
    | with_reducible apply beginStep_moves | with_reducible apply withDescriptor_moves | with_reducible apply foremanAct_moves
    | with_reducible apply settleAll_moves | with_reducible apply Moves.next | with_reducible apply Moves.when | split

theorem execTargetLevelWrite_moves (x0 : Wr) (s : State) (hk : km &&& 0xFEA7104101E703 = km) (hs : Moves km s0 s) :
    Moves km s0 (Out.left s (execTargetLevelWrite x0 s)) := by
  refine Moves.comp (k1 := 0xFEA7104101E703) ?_ hk hs
  unfold execTargetLevelWrite
  repeat' first
    | with_reducible apply Moves.refl | with_reducible assumption | decide | ((with_reducible apply accessWrite_moves) <;> try intro _ _ _)
    | with_reducible apply targetEff_moves | with_reducible apply Moves.next

theorem execWideningRetry_moves (x0 : Wr) (s : State) (hk : km &&& 0xFEA7104101E703 = km) (hs : Moves km s0 s) :
    Moves km s0 (Out.left s (execWideningRetry x0 s)) := by
  refine Moves.comp (k1 := 0xFEA7104101E703) ?_ hk hs
  unfold execWideningRetry
  repeat' first
    | with_reducible apply Moves.refl | with_reducible assumption | decide | ((with_reducible apply accessWrite_moves) <;> try intro _ _ _)
    | with_reducible apply retryEff_moves | with_reducible apply Moves.next

theorem execStartupJournal_moves (s : State) (hk : km &&& 0xFFAEEFF7F9FF7B = km) (hs : Moves km s0 s) :
    Moves km s0 (Out.left s (execStartupJournal s)) := by
  refine Moves.comp (k1 := 0xFFAEEFF7F9FF7B) ?_ hk hs
  unfold execStartupJournal
  repeat' first
    | with_reducible apply Moves.refl | decide | with_reducible apply restoreRecord_moves | with_reducible apply bootService_moves
    | with_reducible apply loadComm_moves | with_reducible apply State.modStart_moves | with_reducible apply State.putN_moves
    | with_reducible apply Moves.when | ((with_reducible apply Moves.foldl) <;> try intro _ _)

theorem storeBytes_moves (s : State) (a : ℕ) (x2 : List Byte) (hk : km &&& 0xFFFFFFFFFDEFF7 = km) (hs : Moves km s0 s) :
    Moves km s0 (storeBytes s a x2) := by
  refine Moves.comp (k1 := 0xFFFFFFFFFDEFF7) ?_ hk hs
  clear hk hs
  unfold storeBytes
  dsimp only
  have hx : Moves 0xFFFFFFFFFDEFF7 s (s.putBytes a x2) := State.putBytes_moves _ _ _ (by decide) (Moves.refl _ _)
  refine Moves.trans hx ?_
  constructor <;> intro hb <;> first | rfl | exact Or.inl rfl | exact Or.inr rfl | exact id | exact fun _ h => h | exact absurd hb (by decide) | (intro h; simp only [State.shaped, List.length_map] at h ⊢; exact h)

theorem copyPayload_moves (s : State) (x1 : ℕ) (hk : km &&& 0xFFFFFFFFFDEFF7 = km) (hs : Moves km s0 s) :
    Moves km s0 (copyPayload s x1) := by
  refine Moves.comp (k1 := 0xFFFFFFFFFDEFF7) ?_ hk hs
  unfold copyPayload
  repeat' first
    | with_reducible apply Moves.refl | decide | with_reducible apply storeBytes_moves

theorem startCheck_moves (s : State) (x1 : ℕ) (hk : km &&& 0xFFBFFFFFFFFFEB = km) (hs : Moves km s0 s) :
    Moves km s0 (startCheck s x1) := by
  refine Moves.comp (k1 := 0xFFBFFFFFFFFFEB) ?_ hk hs
  unfold startCheck
  repeat' first
    | with_reducible apply Moves.refl | decide | with_reducible apply State.freshWord_moves | with_reducible apply State.setBits_moves
    | with_reducible apply State.bump_moves | with_reducible apply State.putN_moves | with_reducible apply State.put_moves
    | ((with_reducible apply Moves.foldl) <;> try intro _ _)

theorem verifyBank_moves (s : State) (x1 : ℕ) (mode : ℕ) (hk : km &&& 0xFFBFFFFFF9EFE3 = km) (hs : Moves km s0 s) :
    Moves km s0 (verifyBank s x1 mode).2 := by
  refine Moves.comp (k1 := 0xFFBFFFFFF9EFE3) ?_ hk hs
  unfold verifyBank
  repeat' first
    | with_reducible apply Moves.refl | with_reducible assumption | decide | with_reducible apply startCheck_moves
    | with_reducible apply copyPayload_moves | with_reducible apply State.modStart_moves | with_reducible apply State.putN_moves
    | (lift_lets; intro x; first | (refine Moves.mid (t := x) ?_ (fun hx => ?_) <;> [dsimp +zetaDelta only; clear_value x]) | clear_value x)
    | split

theorem bankFails_moves (s : State) (x1 : ℕ) (code : ℕ) (hk : km &&& 0xFFBFFFFFFFFF7B = km) (hs : Moves km s0 s) :
    Moves km s0 (bankFails s x1 code) := by
  refine Moves.comp (k1 := 0xFFBFFFFFFFFF7B) ?_ hk hs
  unfold bankFails
  repeat' first
    | with_reducible apply Moves.refl | decide | with_reducible apply State.report_moves | with_reducible apply State.setBits_moves
    | with_reducible apply State.putN_moves

theorem execBankVerify_moves (density : BitVec 32) (mode : Fin 3) (s : State) (hk : km &&& 0xFFBEFFFFF9EF63 = km) (hs : Moves km s0 s) :
    Moves km s0 (Out.left s (execBankVerify density mode s)) := by
  refine Moves.comp (k1 := 0xFFBEFFFFF9EF63) ?_ hk hs
  unfold execBankVerify
  repeat' first
    | with_reducible apply Moves.refl | decide | with_reducible apply bankFails_moves | with_reducible apply verifyBank_moves
    | with_reducible apply bootService_moves | with_reducible apply State.modStart_moves | with_reducible apply State.putN_moves
    | with_reducible apply State.put_moves | with_reducible apply Moves.when | split

theorem loadLatches_moves (s : State) (hk : km &&& 0xFFBFFC7FFFFFFB = km) (hs : Moves km s0 s) :
    Moves km s0 (loadLatches s) := by
  refine Moves.comp (k1 := 0xFFBFFC7FFFFFFB) ?_ hk hs
  unfold loadLatches
  repeat' first
    | with_reducible apply Moves.refl | decide | with_reducible apply settleSlots_moves | with_reducible apply State.putN_moves | split
    | ((with_reducible apply Moves.foldl) <;> try intro _ _)

theorem loadIdentity_moves (s : State) (hk : km &&& 0xFFFFFFFFFFFFFB = km) (hs : Moves km s0 s) :
    Moves km s0 (loadIdentity s) := by
  refine Moves.comp (k1 := 0xFFFFFFFFFFFFFB) ?_ hk hs
  unfold loadIdentity
  repeat' first
    | with_reducible apply Moves.refl | decide | with_reducible apply State.putN_moves | with_reducible apply State.put_moves | split

theorem execStartupFuses_moves (s : State) (hk : km &&& 0xFFBEFC6FFBFF7B = km) (hs : Moves km s0 s) :
    Moves km s0 (Out.left s (execStartupFuses s)) := by
  refine Moves.comp (k1 := 0xFFBEFC6FFBFF7B) ?_ hk hs
  unfold execStartupFuses
  repeat' first
    | with_reducible apply Moves.refl | decide | with_reducible apply loadIdentity_moves | with_reducible apply loadLatches_moves
    | with_reducible apply bootService_moves | with_reducible apply showFuses_moves | with_reducible apply recheckRegion_moves
    | with_reducible apply State.modStart_moves | with_reducible apply State.modNv_moves | with_reducible apply State.putN_moves
    | with_reducible apply Moves.when | split | ((with_reducible apply Moves.foldl) <;> try intro _ _)
    | exact fun _ => ⟨fun _ h => h, fun _ h => h⟩

theorem placeBank_moves (s : State) (x1 : ℕ) (hk : km &&& 0xFFBFFFFFFDEFE3 = km) (hs : Moves km s0 s) :
    Moves km s0 (placeBank s x1).1 := by
  refine Moves.comp (k1 := 0xFFBFFFFFFDEFE3) ?_ hk hs
  unfold placeBank
  repeat' first
    | with_reducible apply Moves.refl | with_reducible assumption | decide | with_reducible apply startCheck_moves
    | with_reducible apply copyPayload_moves
    | (lift_lets; intro x; first | (refine Moves.mid (t := x) ?_ (fun hx => ?_) <;> [dsimp +zetaDelta only; clear_value x]) | clear_value x)
    | split

theorem setCeiling_moves (s : State) (hk : km &&& 0xFFBFFFFFFFFFFB = km) (hs : Moves km s0 s) :
    Moves km s0 (setCeiling s) := by
  refine Moves.comp (k1 := 0xFFBFFFFFFFFFFB) ?_ hk hs
  unfold setCeiling
  repeat' first
    | with_reducible apply Moves.refl | decide | with_reducible apply State.setBits_moves | with_reducible apply State.putN_moves
    | (intro x; first | (refine Moves.mid (t := x) ?_ (fun hx => ?_) <;> [dsimp +zetaDelta only; clear_value x]) | clear_value x)
    | (lift_lets; intro x; first | (refine Moves.mid (t := x) ?_ (fun hx => ?_) <;> [dsimp +zetaDelta only; clear_value x]) | clear_value x)
    | split

theorem releaseAssayer_moves (s : State) (hk : km &&& 0xFFFFFFFFFFFFFB = km) (hs : Moves km s0 s) :
    Moves km s0 (releaseAssayer s) := by
  refine Moves.comp (k1 := 0xFFFFFFFFFFFFFB) ?_ hk hs
  unfold releaseAssayer
  repeat' first
    | with_reducible apply Moves.refl | decide | with_reducible apply State.putN_moves

theorem bankChosen_moves (s : State) (x1 : ℕ) (hk : km &&& 0xFEA7104101E763 = km) (hs : Moves km s0 s) :
    Moves km s0 (bankChosen s x1) := by
  refine Moves.comp (k1 := 0xFEA7104101E763) ?_ hk hs
  unfold bankChosen
  repeat' first
    | with_reducible apply Moves.refl | decide | with_reducible apply releaseAssayer_moves | with_reducible apply setCeiling_moves
    | with_reducible apply State.modStart_moves | with_reducible apply beginStep_moves | with_reducible apply State.putN_moves
    | with_reducible apply State.put_moves

theorem chooseBank_moves (s : State) {t0 : _} (ht : (chooseBank s) = some t0) (hk : km &&& 0xFFBFFFFFFFFFFB = km) (hs : Moves km s0 s) :
    Moves km s0 t0.2 := by
  refine Moves.comp (k1 := 0xFFBFFFFFFFFFFB) ?_ hk hs
  clear hk hs
  revert ht
  fun_cases chooseBank s
  all_goals intro ht
  all_goals first | contradiction | (injection ht with ht; subst ht) | skip
  all_goals repeat' first
    | with_reducible apply Moves.refl | decide | with_reducible apply State.setBits_moves | with_reducible apply State.bump_moves

theorem chooseAgain_moves (x0 : ℕ) (x1 : State) (hk : km &&& 0xFEA7104101E763 = km) (hs : Moves km s0 x1) :
    Moves km s0 (chooseAgain x0 x1) := by
  refine Moves.comp (k1 := 0xFEA7104101E763) ?_ hk hs
  clear hk hs
  induction x0 generalizing x1 with
  | zero =>
    unfold chooseAgain
    repeat' first
      | with_reducible apply Moves.refl | decide | refine Moves.trans ?_ (ih _)
      | exact chooseBank_moves (t0 := (_, _)) _ (by assumption) (by decide) (Moves.refl _ _) | with_reducible apply bankChosen_moves
      | with_reducible apply placeBank_moves | with_reducible apply bankFails_moves | with_reducible apply State.modStart_moves
      | (with_reducible apply Moves.fst (by assumption)) | split
  | succ n ih =>
    unfold chooseAgain
    repeat' first
      | with_reducible apply Moves.refl | decide | refine Moves.trans ?_ (ih _)
      | exact chooseBank_moves (t0 := (_, _)) _ (by assumption) (by decide) (Moves.refl _ _) | with_reducible apply bankChosen_moves
      | with_reducible apply placeBank_moves | with_reducible apply bankFails_moves | with_reducible apply State.modStart_moves
      | (with_reducible apply Moves.fst (by assumption)) | split

theorem execBankChoice_moves (s : State) (hk : km &&& 0xFEA6104101E763 = km) (hs : Moves km s0 s) :
    Moves km s0 (Out.left s (execBankChoice s)) := by
  refine Moves.comp (k1 := 0xFEA6104101E763) ?_ hk hs
  unfold execBankChoice
  repeat' first
    | with_reducible apply Moves.refl | decide | with_reducible apply chooseAgain_moves | with_reducible apply bootService_moves
    | with_reducible apply Moves.when

theorem execServiceLoader_moves (s : State) (hk : km &&& 0xFFBE77FFFBFF7B = km) (hs : Moves km s0 s) :
    Moves km s0 (Out.left s (execServiceLoader s)) := by
  refine Moves.comp (k1 := 0xFFBE77FFFBFF7B) ?_ hk hs
  unfold execServiceLoader
  repeat' first
    | with_reducible apply Moves.refl | decide | with_reducible apply releaseAssayer_moves | with_reducible apply bootService_moves
    | with_reducible apply releaseField_moves | with_reducible apply twbStart_moves | with_reducible apply canStart_moves
    | with_reducible apply State.report_moves | with_reducible apply State.putN_moves | with_reducible apply Moves.when

theorem enterImage_moves (s : State) (x1 : ℕ) (hk : km &&& 0xFFFFFFFFF9EFE7 = km) (hs : Moves km s0 s) :
    Moves km s0 (enterImage s x1) := by
  refine Moves.comp (k1 := 0xFFFFFFFFF9EFE7) ?_ hk hs
  unfold enterImage
  repeat' first
    | with_reducible apply Moves.refl | decide | with_reducible apply storeBytes_moves | with_reducible apply State.modStart_moves
    | with_reducible apply State.freshWord_moves | with_reducible apply State.modEng_moves | split

theorem execStartupRunning_moves (s : State) (hk : km &&& 0xFFBDBFFFF9EF63 = km) (hs : Moves km s0 s) :
    Moves km s0 (Out.left s (execStartupRunning s)) := by
  refine Moves.comp (k1 := 0xFFBDBFFFF9EF63) ?_ hk hs
  unfold execStartupRunning
  repeat' first
    | with_reducible apply Moves.refl | decide | with_reducible apply enterImage_moves | with_reducible apply releaseHarbourEff_moves
    | with_reducible apply requestRecord_moves | with_reducible apply State.setBits_moves | with_reducible apply State.bump_moves
    | with_reducible apply State.putN_moves | with_reducible apply Moves.when | split

theorem loaderService_moves (s : State) (hk : km &&& 0xFFBEFFFFFFFF7B = km) (hs : Moves km s0 s) :
    Moves km s0 (loaderService s) := by
  refine Moves.comp (k1 := 0xFFBEFFFFFFFF7B) ?_ hk hs
  unfold loaderService
  repeat' first
    | with_reducible apply Moves.refl | decide | with_reducible apply bootService_moves | split

end Sys2Proof.Machine
end

