-- ==== Sys2Proof/Laws/MovesExec.lean ====
section
/-! SUPPORT. What every operation keeps, one lemma each, named after the operation, with the bits of `Moves`: the object accesses, the sessions, the engines by themselves, the fabric cycle, and every command by exec. -/
namespace Sys2Proof.Machine

set_option linter.all false

variable {km : Nat} {s0 : State}

theorem domainReadEff_moves (i : ℕ) (r' : Rd) (s' : State) (hk : km &&& 0xFFFFFFFFFFFFFB = km) (hs : Moves km s0 s') :
    Moves km s0 (domainReadEff i r' s').2 := by
  refine Moves.comp (k1 := 0xFFFFFFFFFFFFFB) ?_ hk hs
  unfold domainReadEff
  repeat' first
    | with_reducible apply Moves.refl | decide | with_reducible apply State.putN_moves
    | (lift_lets; intro x; first | (refine Moves.mid (t := x) ?_ (fun hx => ?_) <;> [dsimp +zetaDelta only; clear_value x]) | clear_value x)
    | split

theorem storeMessage_moves (s : State) (k : ℕ) (v : Word) (hk : km &&& 0xFFFFBFFFFFFFFF = km) (hs : Moves km s0 s) :
    Moves km s0 (storeMessage s k v) := by
  refine Moves.comp (k1 := 0xFFFFBFFFFFFFFF) ?_ hk hs
  unfold storeMessage
  repeat' first
    | with_reducible apply Moves.refl | decide
    | (intro x; first | (refine Moves.mid (t := x) ?_ (fun hx => ?_) <;> [dsimp +zetaDelta only; clear_value x]) | clear_value x)
    | (lift_lets; intro x; first | (refine Moves.mid (t := x) ?_ (fun hx => ?_) <;> [dsimp +zetaDelta only; clear_value x]) | clear_value x)
    | with_reducible apply Moves.of_auth

theorem flashUnknown_moves (s : State) (a : ℕ) (x2 : ℕ) (hk : km &&& 0xFFFFFFFFFFFFE7 = km) (hs : Moves km s0 s) :
    Moves km s0 (flashUnknown s a x2) := by
  refine Moves.comp (k1 := 0xFFFFFFFFFFFFE7) ?_ hk hs
  clear hk hs
  induction x2 generalizing s a with
  | zero =>
    unfold flashUnknown
    repeat' first
      | with_reducible apply Moves.refl | decide | refine Moves.trans ?_ (ih _ _) | exact Moves.of_free _ _ (by decide) (Moves.refl _ _)
      | with_reducible apply State.putByte_moves
  | succ n ih =>
    unfold flashUnknown
    repeat' first
      | with_reducible apply Moves.refl | decide | refine Moves.trans ?_ (ih _ _) | exact Moves.of_free _ _ (by decide) (Moves.refl _ _)
      | with_reducible apply State.putByte_moves

theorem flashWrite_moves (s : State) (a : ℕ) (v : Word) (good : Bool) (hk : km &&& 0xFFFFFFFFFFFFE7 = km) (hs : Moves km s0 s) :
    Moves km s0 (flashWrite s a v good) := by
  refine Moves.comp (k1 := 0xFFFFFFFFFFFFE7) ?_ hk hs
  unfold flashWrite
  repeat' first
    | with_reducible apply Moves.refl | with_reducible assumption | decide | with_reducible apply State.clearMem_moves
    | with_reducible apply State.putWord_moves | with_reducible apply flashUnknown_moves
    | (lift_lets; intro x; first | (refine Moves.mid (t := x) ?_ (fun hx => ?_) <;> [dsimp +zetaDelta only; clear_value x]) | clear_value x)
    | split

theorem bankDataEff_moves (i : ℕ) (good : Bool) (w' : Wr) (b' : Bool) (s' : State) (hk : km &&& 0xFFFFFFFFFFFFE3 = km) (hs : Moves km s0 s') :
    Moves km s0 (bankDataEff i good w' b' s').2 := by
  refine Moves.comp (k1 := 0xFFFFFFFFFFFFE3) ?_ hk hs
  unfold bankDataEff
  repeat' first
    | with_reducible apply Moves.refl | with_reducible assumption | decide | with_reducible apply rej_moves | with_reducible apply acc_moves
    | with_reducible apply flashWrite_moves | with_reducible apply State.putN_moves
    | (intro x; first | (refine Moves.mid (t := x) ?_ (fun hx => ?_) <;> [dsimp +zetaDelta only; clear_value x]) | clear_value x)
    | (lift_lets; intro x; first | (refine Moves.mid (t := x) ?_ (fun hx => ?_) <;> [dsimp +zetaDelta only; clear_value x]) | clear_value x)
    | split

theorem messageDataEff_moves (w' : Wr) (b' : Bool) (s' : State) (hk : km &&& 0xFFFFBFFFFFFFFB = km) (hs : Moves km s0 s') :
    Moves km s0 (messageDataEff  w' b' s').2 := by
  refine Moves.comp (k1 := 0xFFFFBFFFFFFFFB) ?_ hk hs
  unfold messageDataEff
  repeat' first
    | with_reducible apply Moves.refl | decide | with_reducible apply rej_moves | with_reducible apply acc_moves
    | with_reducible apply storeMessage_moves | with_reducible apply State.putN_moves
    | (lift_lets; intro x; first | (refine Moves.mid (t := x) ?_ (fun hx => ?_) <;> [dsimp +zetaDelta only; clear_value x]) | clear_value x)
    | split

theorem domainOffsetEff_moves (i : ℕ) (w' : Wr) (b' : Bool) (s' : State) (hk : km &&& 0xFFFFFFFFFFFFFB = km) (hs : Moves km s0 s') :
    Moves km s0 (domainOffsetEff i w' b' s').2 := by
  refine Moves.comp (k1 := 0xFFFFFFFFFFFFFB) ?_ hk hs
  unfold domainOffsetEff
  repeat' first
    | with_reducible apply Moves.refl | decide | with_reducible apply plainWrite_moves | with_reducible apply rej_moves | split

theorem domainEff_moves (i : ℕ) (j : ℕ) (w' : Wr) (b' : Bool) (s' : State) (hk : km &&& 0xFFFFBFFFFFFFE3 = km) (hs : Moves km s0 s') :
    Moves km s0 (domainEff i j w' b' s').2 := by
  refine Moves.comp (k1 := 0xFFFFBFFFFFFFE3) ?_ hk hs
  unfold domainEff
  repeat' first
    | with_reducible apply Moves.refl | decide | with_reducible apply domainOffsetEff_moves | with_reducible apply messageDataEff_moves
    | with_reducible apply bankDataEff_moves | split

theorem logReadEff_moves (j : ℕ) (r' : Rd) (s' : State) (hk : km &&& 0xFFBDFFFFFFFFBB = km) (hs : Moves km s0 s') :
    Moves km s0 (logReadEff j r' s').2 := by
  refine Moves.comp (k1 := 0xFFBDFFFFFFFFBB) ?_ hk hs
  unfold logReadEff
  repeat' first
    | with_reducible apply Moves.refl | decide | with_reducible apply popLog_moves | with_reducible apply readWord_moves
    | (with_reducible apply Moves.snd (by assumption))
    | (lift_lets; intro x; first | (refine Moves.mid (t := x) ?_ (fun hx => ?_) <;> [dsimp +zetaDelta only; clear_value x]) | clear_value x)
    | split

theorem readEff_moves (i : ℕ) (j : ℕ) (r' : Rd) (s' : State) (hk : km &&& 0xFFBDFFFFEFFFBB = km) (hs : Moves km s0 s') :
    Moves km s0 (readEff i j r' s').2 := by
  refine Moves.comp (k1 := 0xFFBDFFFFEFFFBB) ?_ hk hs
  unfold readEff
  repeat' first
    | with_reducible apply Moves.refl | decide | with_reducible apply claimRead_moves | with_reducible apply logReadEff_moves
    | with_reducible apply readWord_moves | with_reducible apply domainReadEff_moves | split

theorem readObject_moves (s : State) (rd : Rd) (i : ℕ) (j : ℕ) (hk : km &&& 0xFFBDFFFFEDEF1B = km) (hs : Moves km s0 s) :
    Moves km s0 (readObject s rd i j) := by
  refine Moves.comp (k1 := 0xFFBDFFFFEDEF1B) ?_ hk hs
  unfold readObject
  repeat' first
    | with_reducible apply Moves.refl | with_reducible assumption | decide | ((with_reducible apply accessRead_moves) <;> try intro _ _)
    | with_reducible apply fwRead_moves | with_reducible apply endRead_moves | with_reducible apply readEff_moves | split

theorem writeEff20_moves (i : ℕ) (j : ℕ) (w' : Wr) (b' : Bool) (s' : State) (hk : km &&& 0xFFDFFFFFFFFFFB = km) (hs : Moves km s0 s') :
    Moves km s0 (writeEff20 i j w' b' s').2 := by
  refine Moves.comp (k1 := 0xFFDFFFFFFFFFFB) ?_ hk hs
  unfold writeEff20
  repeat' first
    | with_reducible apply Moves.refl | decide | with_reducible apply tableCommitEff_moves | with_reducible apply plainWrite_moves | split

theorem writeEff21_moves (i : ℕ) (j : ℕ) (w' : Wr) (b' : Bool) (s' : State) (hk : km &&& 0xFFAFFFF93FF36B = km) (hs : Moves km s0 s') :
    Moves km s0 (writeEff21 i j w' b' s').2 := by
  refine Moves.comp (k1 := 0xFFAFFFF93FF36B) ?_ hk hs
  clear hk hs
  fun_cases writeEff21 i j
  all_goals repeat' first
    | with_reducible apply Moves.refl | decide | with_reducible apply encoderPlainEff_moves | with_reducible apply markUnitEff_moves
    | with_reducible apply markWordEff_moves | with_reducible apply wheelModeAll_moves | with_reducible apply encoderEnableEff_moves
    | with_reducible apply syncEff_moves | with_reducible apply multEff_moves | with_reducible apply zeroChannelEff_moves
    | with_reducible apply angleSetEff_moves | with_reducible apply ownFrequencyEff_moves | with_reducible apply wheelPlainEff_moves
    | with_reducible apply returnEff_moves | with_reducible apply plainWrite_moves

theorem writeEff22_moves (i : ℕ) (j : ℕ) (w' : Wr) (b' : Bool) (s' : State) (hk : km &&& 0xFEAFFFF11FF76B = km) (hs : Moves km s0 s') :
    Moves km s0 (writeEff22 i j w' b' s').2 := by
  refine Moves.comp (k1 := 0xFEAFFFF11FF76B) ?_ hk hs
  unfold writeEff22
  repeat' first
    | with_reducible apply Moves.refl | decide | with_reducible apply sckEnableEff_moves | with_reducible apply gainAll_moves
    | with_reducible apply senseRestartAll_moves | with_reducible apply sckPlainEff_moves | with_reducible apply sensePlainEff_moves
    | with_reducible apply senseModeAll_moves | with_reducible apply plainWrite_moves | split

theorem writeEff23_moves (i : ℕ) (j : ℕ) (w' : Wr) (b' : Bool) (s' : State) (hk : km &&& 0xFFAFFFF93FFF6B = km) (hs : Moves km s0 s') :
    Moves km s0 (writeEff23 i j w' b' s').2 := by
  refine Moves.comp (k1 := 0xFFAFFFF93FFF6B) ?_ hk hs
  unfold writeEff23
  repeat' first
    | with_reducible apply Moves.refl | decide | with_reducible apply phaseModeEff_moves | with_reducible apply pilotEnableEff_moves
    | with_reducible apply rearmCommandEff_moves | with_reducible apply manualEff_moves | with_reducible apply phasePlainEff_moves
    | with_reducible apply plainWrite_moves | split

theorem writeEff24_moves (i : ℕ) (j : ℕ) (w' : Wr) (b' : Bool) (s' : State) (hk : km &&& 0xFFAFFFF93FFF6B = km) (hs : Moves km s0 s') :
    Moves km s0 (writeEff24 i j w' b' s').2 := by
  refine Moves.comp (k1 := 0xFFAFFFF93FFF6B) ?_ hk hs
  unfold writeEff24
  repeat' first
    | with_reducible apply Moves.refl | decide | with_reducible apply commitEff_moves | with_reducible apply applyEff_moves
    | with_reducible apply railModeEff_moves | with_reducible apply railPlainEff_moves | split

theorem writeEff25_moves (i : ℕ) (j : ℕ) (w' : Wr) (b' : Bool) (s' : State) (hk : km &&& 0xFFBFFFFFFFFFFB = km) (hs : Moves km s0 s') :
    Moves km s0 (writeEff25 i j w' b' s').2 := by
  refine Moves.comp (k1 := 0xFFBFFFFFFFFFFB) ?_ hk hs
  unfold writeEff25
  repeat' first
    | with_reducible apply Moves.refl | decide | with_reducible apply bankEff_moves | with_reducible apply swapEff_moves
    | with_reducible apply tablePlainEff_moves | split

theorem writeEff26_moves (i : ℕ) (j : ℕ) (w' : Wr) (b' : Bool) (s' : State) (hk : km &&& 0xFFAFFFF93FFF6B = km) (hs : Moves km s0 s') :
    Moves km s0 (writeEff26 i j w' b' s').2 := by
  refine Moves.comp (k1 := 0xFFAFFFF93FFF6B) ?_ hk hs
  unfold writeEff26
  repeat' first
    | with_reducible apply Moves.refl | decide | with_reducible apply svPlainEff_moves | with_reducible apply clearRecordEff_moves
    | with_reducible apply satReleaseEff_moves | with_reducible apply releaseEff_moves | split

theorem writeEff27_moves (i : ℕ) (j : ℕ) (w' : Wr) (b' : Bool) (s' : State) (hk : km &&& 0xFFBFFBFFF5EF23 = km) (hs : Moves km s0 s') :
    Moves km s0 (writeEff27 i j w' b' s').2 := by
  refine Moves.comp (k1 := 0xFFBFFBFFF5EF23) ?_ hk hs
  unfold writeEff27
  repeat' first
    | with_reducible apply Moves.refl | decide | with_reducible apply endEff_moves | with_reducible apply clearFaultEff_moves
    | with_reducible apply runControlEff_moves | with_reducible apply enginePlainEff_moves | with_reducible apply plainWrite_moves | split

theorem writeEff28_moves (i : ℕ) (j : ℕ) (w' : Wr) (b' : Bool) (s' : State) (hk : km &&& 0xFFBFFBFFF5EF63 = km) (hs : Moves km s0 s') :
    Moves km s0 (writeEff28 i j w' b' s').2 := by
  refine Moves.comp (k1 := 0xFFBFFBFFF5EF63) ?_ hk hs
  unfold writeEff28
  repeat' first
    | with_reducible apply Moves.refl | decide | with_reducible apply activateEff_moves | with_reducible apply moveEff_moves
    | with_reducible apply taskPlainEff_moves | with_reducible apply taskEnableEff_moves | split

theorem writeEff29_moves (i : ℕ) (j : ℕ) (w' : Wr) (b' : Bool) (s' : State) (hk : km &&& 0xFFBFFFFFFFFFFB = km) (hs : Moves km s0 s') :
    Moves km s0 (writeEff29 i j w' b' s').2 := by
  refine Moves.comp (k1 := 0xFFBFFFFFFFFFFB) ?_ hk hs
  unfold writeEff29
  repeat' first
    | with_reducible apply Moves.refl | decide | with_reducible apply queueEnableEff_moves | with_reducible apply queuePlainEff_moves
    | with_reducible apply queueFlushEff_moves | with_reducible apply plainWrite_moves | split

theorem writeEff2A_moves (i : ℕ) (j : ℕ) (w' : Wr) (b' : Bool) (s' : State) (hk : km &&& 0xFFBF97FFFFFF63 = km) (hs : Moves km s0 s') :
    Moves km s0 (writeEff2A i j w' b' s').2 := by
  refine Moves.comp (k1 := 0xFFBF97FFFFFF63) ?_ hk hs
  unfold writeEff2A
  repeat' first
    | with_reducible apply Moves.refl | decide | with_reducible apply submitEff_moves | with_reducible apply canEnableEff_moves
    | with_reducible apply canPlainEff_moves | with_reducible apply bulkAbortEff_moves | with_reducible apply bulkPlainEff_moves
    | with_reducible apply bulkStartEff_moves | with_reducible apply domainEff_moves | with_reducible apply plainWrite_moves | split

theorem writeEff2B_moves (i : ℕ) (j : ℕ) (w' : Wr) (b' : Bool) (s' : State) (hk : km &&& 0xFFFF7FFFFFFFFB = km) (hs : Moves km s0 s') :
    Moves km s0 (writeEff2B i j w' b' s').2 := by
  refine Moves.comp (k1 := 0xFFFF7FFFFFFFFB) ?_ hk hs
  unfold writeEff2B
  repeat' first
    | with_reducible apply Moves.refl | decide | with_reducible apply requestEff_moves | with_reducible apply sleepEff_moves
    | with_reducible apply twbCtlPlainEff_moves | with_reducible apply twbEnableEff_moves | with_reducible apply clearBusEff_moves
    | with_reducible apply ctlStartEff_moves | with_reducible apply twbPlainEff_moves | split

theorem writeEff2C_moves (i : ℕ) (j : ℕ) (w' : Wr) (b' : Bool) (s' : State) (hk : km &&& 0xFFBFFF9FFFFFFB = km) (hs : Moves km s0 s') :
    Moves km s0 (writeEff2C i j w' b' s').2 := by
  refine Moves.comp (k1 := 0xFFBFFF9FFFFFFB) ?_ hk hs
  unfold writeEff2C
  repeat' first
    | with_reducible apply Moves.refl | decide | with_reducible apply softTriggerEff_moves | with_reducible apply convPlainEff_moves
    | with_reducible apply convEnableEff_moves | with_reducible apply gpioPlainEff_moves | with_reducible apply plainWrite_moves | split

theorem writeEff2D_moves (i : ℕ) (j : ℕ) (w' : Wr) (b' : Bool) (s' : State) (hk : km &&& 0xFEA7104105E763 = km) (hs : Moves km s0 s') :
    Moves km s0 (writeEff2D i j w' b' s').2 := by
  refine Moves.comp (k1 := 0xFEA7104105E763) ?_ hk hs
  unfold writeEff2D
  repeat' first
    | with_reducible apply Moves.refl | decide | with_reducible apply sequencerPlainEff_moves | with_reducible apply regulatorEff_moves
    | with_reducible apply suppliesPlainEff_moves | with_reducible apply driverEff_moves | with_reducible apply domainRequestEff_moves
    | with_reducible apply sequencerEnableEff_moves | with_reducible apply sequencerEff_moves | with_reducible apply slotPlainEff_moves
    | with_reducible apply plainWrite_moves | split

theorem writeEff2E_moves (i : ℕ) (j : ℕ) (w' : Wr) (b' : Bool) (s' : State) (hk : km &&& 0xFFAFFFF93FFF6B = km) (hs : Moves km s0 s') :
    Moves km s0 (writeEff2E i j w' b' s').2 := by
  refine Moves.comp (k1 := 0xFFAFFFF93FFF6B) ?_ hk hs
  unfold writeEff2E
  repeat' first
    | with_reducible apply Moves.refl | decide | with_reducible apply chemistryEff_moves | with_reducible apply chargerClearEff_moves
    | with_reducible apply storageEff_moves | with_reducible apply switchCommandEff_moves | with_reducible apply pathEnableEff_moves
    | with_reducible apply chargerPlainEff_moves | with_reducible apply chargerEnableEff_moves | split

theorem writeEff2F_moves (i : ℕ) (j : ℕ) (w' : Wr) (b' : Bool) (s' : State) (hk : km &&& 0xFFBFBFF7FFFF7B = km) (hs : Moves km s0 s') :
    Moves km s0 (writeEff2F i j w' b' s').2 := by
  refine Moves.comp (k1 := 0xFFBFBFF7FFFF7B) ?_ hk hs
  unfold writeEff2F
  repeat' first
    | with_reducible apply Moves.refl | decide | with_reducible apply gaugeWriteEff_moves | with_reducible apply gaugePlainEff_moves
    | with_reducible apply gaugeEnableEff_moves | split

theorem writeEff30_moves (i : ℕ) (j : ℕ) (w' : Wr) (b' : Bool) (s' : State) (hk : km &&& 0xFFBFFFFFEFFFFB = km) (hs : Moves km s0 s') :
    Moves km s0 (writeEff30 i j w' b' s').2 := by
  refine Moves.comp (k1 := 0xFFBFFFFFEFFFFB) ?_ hk hs
  unfold writeEff30
  repeat' first
    | with_reducible apply Moves.refl | decide | with_reducible apply softClearEff_moves | with_reducible apply softSetEff_moves
    | with_reducible apply completeEff_moves | with_reducible apply irqPlainEff_moves | split

theorem writeEff31_moves (i : ℕ) (j : ℕ) (w' : Wr) (b' : Bool) (s' : State) (hk : km &&& 0xFFBEFFFFFFFF7B = km) (hs : Moves km s0 s') :
    Moves km s0 (writeEff31 i j w' b' s').2 := by
  refine Moves.comp (k1 := 0xFFBEFFFFFFFF7B) ?_ hk hs
  unfold writeEff31
  repeat' first
    | with_reducible apply Moves.refl | decide | with_reducible apply checkInEff_moves | with_reducible apply canaryPlainEff_moves
    | with_reducible apply lockEff_moves | with_reducible apply canaryServiceEff_moves | split

theorem writeEff32_moves (i : ℕ) (j : ℕ) (w' : Wr) (b' : Bool) (s' : State) (hk : km &&& 0xFFFDFFFFFFFF7B = km) (hs : Moves km s0 s') :
    Moves km s0 (writeEff32 i j w' b' s').2 := by
  refine Moves.comp (k1 := 0xFFFDFFFFFFFF7B) ?_ hk hs
  unfold writeEff32
  repeat' first
    | with_reducible apply Moves.refl | decide | with_reducible apply firmwareReportEff_moves | with_reducible apply enterHarbourEff_moves
    | with_reducible apply collectorPlainEff_moves | with_reducible apply releaseHarbourEff_moves | split

theorem writeEff33_moves (i : ℕ) (j : ℕ) (w' : Wr) (b' : Bool) (s' : State) (hk : km &&& 0xFFBBFFFFFFFFFB = km) (hs : Moves km s0 s') :
    Moves km s0 (writeEff33 i j w' b' s').2 := by
  refine Moves.comp (k1 := 0xFFBBFFFFFFFFFB) ?_ hk hs
  unfold writeEff33
  repeat' first
    | with_reducible apply Moves.refl | decide | with_reducible apply timeSetEff_moves | with_reducible apply plainWrite_moves | split

theorem writeEff34_moves (i : ℕ) (j : ℕ) (w' : Wr) (b' : Bool) (s' : State) (hk : km &&& 0xFFBFBFEFFFFF7B = km) (hs : Moves km s0 s') :
    Moves km s0 (writeEff34 i j w' b' s').2 := by
  refine Moves.comp (k1 := 0xFFBFBFEFFFFF7B) ?_ hk hs
  unfold writeEff34
  repeat' first
    | with_reducible apply Moves.refl | decide | with_reducible apply otpPlainEff_moves | with_reducible apply firmwareRecordEff_moves
    | with_reducible apply layoutEff_moves | with_reducible apply otpCommandEff_moves | with_reducible apply fwRecordPlainEff_moves
    | with_reducible apply journalEnableEff_moves | with_reducible apply plainWrite_moves | split

theorem writeEff35_moves (i : ℕ) (j : ℕ) (w' : Wr) (b' : Bool) (s' : State) (hk : km &&& 0xFFB7FFFFFFFF7B = km) (hs : Moves km s0 s') :
    Moves km s0 (writeEff35 i j w' b' s').2 := by
  refine Moves.comp (k1 := 0xFFB7FFFFFFFF7B) ?_ hk hs
  unfold writeEff35
  repeat' first
    | with_reducible apply Moves.refl | decide | with_reducible apply feedWordEff_moves | with_reducible apply assayerPlainEff_moves
    | with_reducible apply feedByteEff_moves | with_reducible apply assayerCommandEff_moves | split

theorem writeEff36_moves (i : ℕ) (j : ℕ) (w' : Wr) (b' : Bool) (s' : State) (hk : km &&& 0xFFEFFFFFFFFFFB = km) (hs : Moves km s0 s') :
    Moves km s0 (writeEff36 i j w' b' s').2 := by
  refine Moves.comp (k1 := 0xFFEFFFFFFFFFFB) ?_ hk hs
  unfold writeEff36
  repeat' first
    | with_reducible apply Moves.refl | decide | with_reducible apply snapshotEff_moves | with_reducible apply plainWrite_moves | split

theorem writeEff37_moves (i : ℕ) (j : ℕ) (w' : Wr) (b' : Bool) (s' : State) (hk : km &&& 0xFFAFBFFFFFFF6B = km) (hs : Moves km s0 s') :
    Moves km s0 (writeEff37 i j w' b' s').2 := by
  refine Moves.comp (k1 := 0xFFAFBFFFFFFF6B) ?_ hk hs
  unfold writeEff37
  repeat' first
    | with_reducible apply Moves.refl | decide | with_reducible apply lifePlainEff_moves | with_reducible apply replaceEff_moves
    | with_reducible apply operateEff_moves | with_reducible apply ledgerWriteEff_moves | with_reducible apply plainWrite_moves | split

theorem writeEff38_moves (i : ℕ) (j : ℕ) (w' : Wr) (b' : Bool) (s' : State) (hk : km &&& 0xFEA7104101E763 = km) (hs : Moves km s0 s') :
    Moves km s0 (writeEff38 i j w' b' s').2 := by
  refine Moves.comp (k1 := 0xFEA7104101E763) ?_ hk hs
  unfold writeEff38
  repeat' first
    | with_reducible apply Moves.refl | decide | with_reducible apply wideningPlainEff_moves | with_reducible apply targetEff_moves
    | with_reducible apply retryEff_moves | with_reducible apply resetRequestEff_moves | with_reducible apply domainEff_moves
    | with_reducible apply plainWrite_moves | split

theorem wordEff_moves (i : ℕ) (j : ℕ) (w' : Wr) (b' : Bool) (s' : State) (hk : km &&& 0xFE80000101E323 = km) (hs : Moves km s0 s') :
    Moves km s0 (wordEff i j w' b' s').2 := by
  refine Moves.comp (k1 := 0xFE80000101E323) ?_ hk hs
  clear hk hs
  fun_cases wordEff i j
  all_goals repeat' first
    | with_reducible apply Moves.refl | decide | with_reducible apply commEff_moves | with_reducible apply writeEff38_moves
    | with_reducible apply writeEff37_moves | with_reducible apply writeEff36_moves | with_reducible apply writeEff35_moves
    | with_reducible apply writeEff34_moves | with_reducible apply writeEff33_moves | with_reducible apply writeEff32_moves
    | with_reducible apply writeEff31_moves | with_reducible apply writeEff30_moves | with_reducible apply writeEff2F_moves
    | with_reducible apply writeEff2E_moves | with_reducible apply writeEff2D_moves | with_reducible apply writeEff2C_moves
    | with_reducible apply writeEff2B_moves | with_reducible apply writeEff2A_moves | with_reducible apply writeEff29_moves
    | with_reducible apply writeEff28_moves | with_reducible apply writeEff27_moves | with_reducible apply writeEff26_moves
    | with_reducible apply writeEff25_moves | with_reducible apply writeEff24_moves | with_reducible apply writeEff23_moves
    | with_reducible apply writeEff22_moves | with_reducible apply writeEff21_moves | with_reducible apply writeEff20_moves

theorem pairEff_moves (i : ℕ) (j : ℕ) (x2 : DWord) (w' : Wr) (b' : Bool) (s' : State) (hk : km &&& 0xFFBFFFF7FFFF7B = km) (hs : Moves km s0 s') :
    Moves km s0 (pairEff i j x2 w' b' s').2 := by
  refine Moves.comp (k1 := 0xFFBFFFF7FFFF7B) ?_ hk hs
  unfold pairEff
  repeat' first
    | with_reducible apply Moves.refl | decide | with_reducible apply countWriteEff_moves | with_reducible apply gaugePairEff_moves
    | with_reducible apply plainPair_moves | split

theorem writeEff_moves (i : ℕ) (j : ℕ) (w' : Wr) (b' : Bool) (s' : State) (hk : km &&& 0xFE80000101E323 = km) (hs : Moves km s0 s') :
    Moves km s0 (writeEff i j w' b' s').2 := by
  refine Moves.comp (k1 := 0xFE80000101E323) ?_ hk hs
  clear hk hs
  fun_cases writeEff i j
  all_goals repeat' first
    | with_reducible apply Moves.refl | with_reducible assumption | decide | with_reducible apply stageLow_moves
    | with_reducible apply secondsSetEff_moves | ((with_reducible apply commitPair_moves) <;> try intro _ _ _)
    | with_reducible apply pairEff_moves | with_reducible apply plainPair_moves | with_reducible apply wordEff_moves
    | with_reducible apply plainWrite_moves

theorem writeObject_moves (s : State) (x1 : Wr) (auth : Bool) (i : ℕ) (j : ℕ) (hk : km &&& 0xFE80000101E303 = km) (hs : Moves km s0 s) :
    Moves km s0 (writeObject s x1 auth i j) := by
  refine Moves.comp (k1 := 0xFE80000101E303) ?_ hk hs
  unfold writeObject
  repeat' first
    | with_reducible apply Moves.refl | with_reducible assumption | decide | ((with_reducible apply accessWrite_moves) <;> try intro _ _ _)
    | with_reducible apply fwWrite_moves | with_reducible apply writeEff_moves | split

theorem commandWrite_moves (s : State) (x1 : Wr) (i : ℕ) (j : ℕ) (hk : km &&& 0xFE80000101E323 = km) (hs : Moves km s0 s) :
    Moves km s0 (commandWrite s x1 i j).2 := by
  refine Moves.comp (k1 := 0xFE80000101E323) ?_ hk hs
  unfold commandWrite
  repeat' first
    | with_reducible apply Moves.refl | with_reducible assumption | decide | ((with_reducible apply accessResult_moves) <;> try intro _ _ _)
    | with_reducible apply recordWrite_moves | with_reducible apply fwResult_moves | with_reducible apply writeEff_moves
    | with_reducible apply countRefusal_moves | split

theorem execObjectWrite_moves (i : BitVec 16) (j : Byte) (x2 : Wr) (s : State) (hk : km &&& 0xFE80000101E303 = km) (hs : Moves km s0 s) :
    Moves km s0 (Out.left s (execObjectWrite i j x2 s)) := by
  refine Moves.comp (k1 := 0xFE80000101E303) ?_ hk hs
  unfold execObjectWrite
  repeat' first
    | with_reducible apply Moves.refl | decide | with_reducible apply writeObject_moves | with_reducible apply Moves.next

theorem execRcRead_moves (i : BitVec 16) (j : Byte) (r : Rd) (s : State) (hk : km &&& 0xFFBDFFFFEDEF1B = km) (hs : Moves km s0 s) :
    Moves km s0 (Out.left s (execRcRead i j r s)) := by
  refine Moves.comp (k1 := 0xFFBDFFFFEDEF1B) ?_ hk hs
  unfold execRcRead
  repeat' first
    | with_reducible apply Moves.refl | decide | with_reducible apply readObject_moves | with_reducible apply Moves.next

theorem execPairLowWrite_moves (i : BitVec 16) (j : Byte) (x2 : Wr) (s : State) (hk : km &&& 0xFE80000101E303 = km) (hs : Moves km s0 s) :
    Moves km s0 (Out.left s (execPairLowWrite i j x2 s)) := by
  refine Moves.comp (k1 := 0xFE80000101E303) ?_ hk hs
  unfold execPairLowWrite
  repeat' first
    | with_reducible apply Moves.refl | decide | with_reducible apply writeObject_moves | with_reducible apply Moves.next

theorem execPairHighWrite_moves (i : BitVec 16) (j : Byte) (x2 : Wr) (s : State) (hk : km &&& 0xFE80000101E303 = km) (hs : Moves km s0 s) :
    Moves km s0 (Out.left s (execPairHighWrite i j x2 s)) := by
  refine Moves.comp (k1 := 0xFE80000101E303) ?_ hk hs
  unfold execPairHighWrite
  repeat' first
    | with_reducible apply Moves.refl | decide | with_reducible apply writeObject_moves | with_reducible apply Moves.next

theorem execPairReadSnapshot_moves (i : BitVec 16) (j : Byte) (r : Rd) (s : State) (hk : km &&& 0xFFBDFFFFEDEF1B = km) (hs : Moves km s0 s) :
    Moves km s0 (Out.left s (execPairReadSnapshot i j r s)) := by
  refine Moves.comp (k1 := 0xFFBDFFFFEDEF1B) ?_ hk hs
  unfold execPairReadSnapshot
  repeat' first
    | with_reducible apply Moves.refl | decide | with_reducible apply readObject_moves | with_reducible apply Moves.next

theorem execDomainDataRead_moves (i : DomainObject) (r : Rd) (s : State) (hk : km &&& 0xFFBDFFFFEDEF1B = km) (hs : Moves km s0 s) :
    Moves km s0 (Out.left s (execDomainDataRead i r s)) := by
  refine Moves.comp (k1 := 0xFFBDFFFFEDEF1B) ?_ hk hs
  unfold execDomainDataRead
  repeat' first
    | with_reducible apply Moves.refl | decide | with_reducible apply readObject_moves | with_reducible apply Moves.next

theorem execDomainDataWrite_moves (i : DomainObject) (x1 : Wr) (s : State) (hk : km &&& 0xFE80000101E303 = km) (hs : Moves km s0 s) :
    Moves km s0 (Out.left s (execDomainDataWrite i x1 s)) := by
  refine Moves.comp (k1 := 0xFE80000101E303) ?_ hk hs
  unfold execDomainDataWrite
  repeat' first
    | with_reducible apply Moves.refl | decide | with_reducible apply writeObject_moves | with_reducible apply Moves.next

theorem execBankDataWrite_moves (x0 : Fin 2) (x1 : Wr) (good : Bool) (s : State) (hk : km &&& 0xFFBFFFFFFFEF83 = km) (hs : Moves km s0 s) :
    Moves km s0 (Out.left s (execBankDataWrite x0 x1 good s)) := by
  refine Moves.comp (k1 := 0xFFBFFFFFFFEF83) ?_ hk hs
  unfold execBankDataWrite
  repeat' first
    | with_reducible apply Moves.refl | with_reducible assumption | decide | ((with_reducible apply accessWrite_moves) <;> try intro _ _ _)
    | with_reducible apply bankDataEff_moves | with_reducible apply Moves.next

theorem execInterruptClaim_moves (x : Fin 16) (r : Rd) (s : State) (hk : km &&& 0xFFBDFFFFEDEF1B = km) (hs : Moves km s0 s) :
    Moves km s0 (Out.left s (execInterruptClaim x r s)) := by
  refine Moves.comp (k1 := 0xFFBDFFFFEDEF1B) ?_ hk hs
  unfold execInterruptClaim
  repeat' first
    | with_reducible apply Moves.refl | decide | with_reducible apply readObject_moves | with_reducible apply Moves.next

theorem execLogPop_moves (r : Rd) (s : State) (hk : km &&& 0xFFBDFFFFEDEF1B = km) (hs : Moves km s0 s) :
    Moves km s0 (Out.left s (execLogPop r s)) := by
  refine Moves.comp (k1 := 0xFFBDFFFFEDEF1B) ?_ hk hs
  unfold execLogPop
  repeat' first
    | with_reducible apply Moves.refl | decide | with_reducible apply readObject_moves | with_reducible apply Moves.next

theorem commandWrites_moves (x0 : ℕ) (x1 : State) (x2 : ℕ) (hk : km &&& 0xFE80000101E323 = km) (hs : Moves km s0 x1) :
    Moves km s0 (commandWrites x0 x1 x2) := by
  refine Moves.comp (k1 := 0xFE80000101E323) ?_ hk hs
  clear hk hs
  induction x0 generalizing x1 x2 with
  | zero =>
    unfold commandWrites
    repeat' first
      | with_reducible apply Moves.refl | decide | refine Moves.trans ?_ (ih _ _) | with_reducible apply commandWrite_moves
      | with_reducible apply endCommand_moves | with_reducible apply State.putN_moves | (with_reducible apply Moves.snd (by assumption))
      | (lift_lets; intro x; first | (refine Moves.mid (t := x) ?_ (fun hx => ?_) <;> [dsimp +zetaDelta only; clear_value x]) | clear_value x)
      | split
  | succ n ih =>
    unfold commandWrites
    repeat' first
      | with_reducible apply Moves.refl | decide | refine Moves.trans ?_ (ih _ _) | with_reducible apply commandWrite_moves
      | with_reducible apply endCommand_moves | with_reducible apply State.putN_moves | (with_reducible apply Moves.snd (by assumption))
      | (lift_lets; intro x; first | (refine Moves.mid (t := x) ?_ (fun hx => ?_) <;> [dsimp +zetaDelta only; clear_value x]) | clear_value x)
      | split

theorem execCommandWrites_moves (s : State) (hk : km &&& 0xFE80000101E323 = km) (hs : Moves km s0 s) :
    Moves km s0 (Out.left s (execCommandWrites s)) := by
  refine Moves.comp (k1 := 0xFE80000101E323) ?_ hk hs
  unfold execCommandWrites
  repeat' first
    | with_reducible apply Moves.refl | decide | with_reducible apply commandWrites_moves | with_reducible apply Moves.when

theorem execTwbObjectRead_moves (x0 : Fin 2) (i : BitVec 16) (j : Byte) (s : State) (hk : km &&& 0xFFBD7FFFEDEF1B = km) (hs : Moves km s0 s) :
    Moves km s0 (Out.left s (execTwbObjectRead x0 i j s)) := by
  refine Moves.comp (k1 := 0xFFBD7FFFEDEF1B) ?_ hk hs
  unfold execTwbObjectRead
  repeat' first
    | with_reducible apply Moves.refl | decide | with_reducible apply twbAnswer_moves | with_reducible apply twbServed_moves
    | with_reducible apply State.modTwb_moves | with_reducible apply readObject_moves | with_reducible apply Moves.when

theorem frameError_moves (s : State) (x1 : ℕ) (hk : km &&& 0xFFBFFFFFFFFFFB = km) (hs : Moves km s0 s) :
    Moves km s0 (frameError s x1) := by
  refine Moves.comp (k1 := 0xFFBFFFFFFFFFFB) ?_ hk hs
  unfold frameError
  repeat' first
    | with_reducible apply Moves.refl | decide | with_reducible apply State.setBits_moves | with_reducible apply State.bump_moves

theorem twbWrite_moves (s : State) (x1 : ℕ) (i : ℕ) (j : ℕ) (x4 : List Byte) (hk : km &&& 0xFE80000101E303 = km) (hs : Moves km s0 s) :
    Moves km s0 (twbWrite s x1 i j x4) := by
  refine Moves.comp (k1 := 0xFE80000101E303) ?_ hk hs
  unfold twbWrite
  repeat' first
    | with_reducible apply Moves.refl | decide | with_reducible apply writeObject_moves | with_reducible apply State.modTwb_moves
    | with_reducible apply State.bump_moves

theorem execTwbObjectWrite_moves (x0 : Fin 2) (frame : List Byte) (s : State) (hk : km &&& 0xFE80000101E303 = km) (hs : Moves km s0 s) :
    Moves km s0 (Out.left s (execTwbObjectWrite x0 frame s)) := by
  refine Moves.comp (k1 := 0xFE80000101E303) ?_ hk hs
  unfold execTwbObjectWrite
  repeat' first
    | with_reducible apply Moves.refl | with_reducible assumption | decide | with_reducible apply twbWrite_moves
    | with_reducible apply frameError_moves | with_reducible apply twbEnd_moves | with_reducible apply Moves.when
    | (lift_lets; intro x; first | (refine Moves.mid (t := x) ?_ (fun hx => ?_) <;> [dsimp +zetaDelta only; clear_value x]) | clear_value x)
    | split

theorem execStoppingPhaseEnd_moves (f : StopFn) (s : State) (hk : km &&& 0xFEA7004105E763 = km) (hs : Moves km s0 s) :
    Moves km s0 (Out.left s (execStoppingPhaseEnd f s)) := by
  refine Moves.comp (k1 := 0xFEA7004105E763) ?_ hk hs
  unfold execStoppingPhaseEnd
  repeat' first
    | with_reducible apply Moves.refl | decide | with_reducible apply sendBest_moves | with_reducible apply convStopped_moves
    | with_reducible apply markUnitStopped_moves | with_reducible apply assayerStopped_moves | with_reducible apply twbEnd_moves
    | with_reducible apply settleDomains_moves | with_reducible apply foremanAct_moves | with_reducible apply finishStop_moves
    | with_reducible apply senseStopped_moves | with_reducible apply Moves.next | with_reducible apply Moves.when | split

theorem bulkAt_moves (s : State) (k : ℕ) (hk : km &&& 0xFFFFFFFFFFFFFB = km) (hs : Moves km s0 s) :
    Moves km s0 (bulkAt s k) := by
  refine Moves.comp (k1 := 0xFFFFFFFFFFFFFB) ?_ hk hs
  unfold bulkAt
  repeat' first
    | with_reducible apply Moves.refl | decide | with_reducible apply State.putN_moves

theorem bulkData_moves (s : State) (hk : km &&& 0xFFBFD7FFFFFFFB = km) (hs : Moves km s0 s) :
    Moves km s0 (bulkData s) := by
  refine Moves.comp (k1 := 0xFFBFD7FFFFFFFB) ?_ hk hs
  unfold bulkData
  repeat' first
    | with_reducible apply Moves.refl | decide | with_reducible apply bulkAt_moves | with_reducible apply State.modBulk_moves
    | with_reducible apply bulkSend_moves

theorem bulkFinish_moves (s : State) (hk : km &&& 0xFFBFF7FFFFFFFB = km) (hs : Moves km s0 s) :
    Moves km s0 (bulkFinish s) := by
  refine Moves.comp (k1 := 0xFFBFF7FFFFFFFB) ?_ hk hs
  unfold bulkFinish
  repeat' first
    | with_reducible apply Moves.refl | decide | with_reducible apply bulkSend_moves | with_reducible apply State.putN_moves

theorem bulkFrameOut_moves (s : State) (hk : km &&& 0xFFBFD7FFFFFFFB = km) (hs : Moves km s0 s) :
    Moves km s0 (bulkFrameOut s) := by
  refine Moves.comp (k1 := 0xFFBFD7FFFFFFFB) ?_ hk hs
  unfold bulkFrameOut
  repeat' first
    | with_reducible apply Moves.refl | decide | with_reducible apply bulkFinish_moves | with_reducible apply bulkData_moves | split

theorem bulkPump_moves (s : State) (hk : km &&& 0xFFBFD7FFFFFFFB = km) (hs : Moves km s0 s) :
    Moves km s0 (bulkPump s) := by
  refine Moves.comp (k1 := 0xFFBFD7FFFFFFFB) ?_ hk hs
  unfold bulkPump
  repeat' first
    | with_reducible apply Moves.refl | decide | with_reducible apply bulkFrameOut_moves
    | ((with_reducible apply Moves.foldl) <;> try intro _ _)

theorem bulkResume_moves (s : State) (seq : ℕ) (hk : km &&& 0xFFFFDFFFFFFFFB = km) (hs : Moves km s0 s) :
    Moves km s0 (bulkResume s seq) := by
  refine Moves.comp (k1 := 0xFFFFDFFFFFFFFB) ?_ hk hs
  unfold bulkResume
  repeat' first
    | with_reducible apply Moves.refl | decide | with_reducible apply bulkAt_moves | with_reducible apply State.modBulk_moves
    | with_reducible apply State.putN_moves

theorem execBulkStart_moves (x0 : Wr) (s : State) (hk : km &&& 0xFFBFD7FFFFEF9B = km) (hs : Moves km s0 s) :
    Moves km s0 (Out.left s (execBulkStart x0 s)) := by
  refine Moves.comp (k1 := 0xFFBFD7FFFFEF9B) ?_ hk hs
  unfold execBulkStart
  repeat' first
    | with_reducible apply Moves.refl | with_reducible assumption | decide | with_reducible apply bulkPump_moves
    | ((with_reducible apply accessWrite_moves) <;> try intro _ _ _) | with_reducible apply bulkStartEff_moves
    | with_reducible apply Moves.next

theorem execBulkTimeout_moves (s : State) (hk : km &&& 0xFFBFD7FFFFFFFB = km) (hs : Moves km s0 s) :
    Moves km s0 (Out.left s (execBulkTimeout s)) := by
  refine Moves.comp (k1 := 0xFFBFD7FFFFFFFB) ?_ hk hs
  unfold execBulkTimeout
  repeat' first
    | with_reducible apply Moves.refl | decide | with_reducible apply bulkResume_moves | with_reducible apply bulkPump_moves
    | with_reducible apply bulkEnd_moves | with_reducible apply State.modBulk_moves | with_reducible apply State.bump_moves
    | with_reducible apply Moves.when | split

theorem serveBulk_moves (s : State) (type : ℕ) (f : Frame → State → State) (hk : km &&& 0xFFFFDFFFFFFFFF = km) (hs : Moves km s0 s) (hf : ∀ x t, Moves km s0 t → Moves km s0 (f x t)) :
    Moves km s0 (Out.left s (serveBulk s type f)) := by
  unfold serveBulk
  repeat' first
    | with_reducible assumption | (with_reducible apply hf) | with_reducible apply State.modBulk_moves | with_reducible apply Moves.next
    | split

theorem bulkAcked_moves (s : State) (f : Frame) (hk : km &&& 0xFFBFD7FFFFFFFB = km) (hs : Moves km s0 s) :
    Moves km s0 (bulkAcked s f) := by
  refine Moves.comp (k1 := 0xFFBFD7FFFFFFFB) ?_ hk hs
  unfold bulkAcked
  repeat' first
    | with_reducible apply Moves.refl | decide | with_reducible apply bulkResume_moves | with_reducible apply bulkPump_moves
    | with_reducible apply bulkEnd_moves | with_reducible apply State.modBulk_moves
    | (lift_lets; intro x; first | (refine Moves.mid (t := x) ?_ (fun hx => ?_) <;> [dsimp +zetaDelta only; clear_value x]) | clear_value x)
    | split

theorem execBulkAckFrame_moves (s : State) (hk : km &&& 0xFFBFD7FFFFFFFB = km) (hs : Moves km s0 s) :
    Moves km s0 (Out.left s (execBulkAckFrame s)) := by
  refine Moves.comp (k1 := 0xFFBFD7FFFFFFFB) ?_ hk hs
  unfold execBulkAckFrame
  repeat' first
    | with_reducible apply Moves.refl | with_reducible assumption | decide | with_reducible apply bulkAcked_moves
    | ((with_reducible apply serveBulk_moves) <;> try intro _ _ _)

theorem bulkAck_moves (s : State) (status : ℕ) (hk : km &&& 0xFFBFD7FFFFFFFB = km) (hs : Moves km s0 s) :
    Moves km s0 (bulkAck s status) := by
  refine Moves.comp (k1 := 0xFFBFD7FFFFFFFB) ?_ hk hs
  unfold bulkAck
  repeat' first
    | with_reducible apply Moves.refl | decide | with_reducible apply State.modBulk_moves | with_reducible apply bulkSend_moves

theorem paddedWord_moves (s : State) (x1 : List Byte) (hk : km &&& 0xFFFFFFFFFFFFEF = km) (hs : Moves km s0 s) :
    Moves km s0 (paddedWord s x1).2 := by
  refine Moves.comp (k1 := 0xFFFFFFFFFFFFEF) ?_ hk hs
  unfold paddedWord
  repeat' first
    | with_reducible apply Moves.refl | decide | with_reducible apply State.freshWord_moves
    | (with_reducible apply Moves.snd (by assumption))
    | (lift_lets; intro x; first | (refine Moves.mid (t := x) ?_ (fun hx => ?_) <;> [dsimp +zetaDelta only; clear_value x]) | clear_value x)
    | split

theorem bulkStore_moves (x0 : ℕ) (x1 : State) (x2 : List Byte) (hk : km &&& 0xFE80000101E303 = km) (hs : Moves km s0 x1) :
    Moves km s0 (bulkStore x0 x1 x2).1 := by
  refine Moves.comp (k1 := 0xFE80000101E303) ?_ hk hs
  clear hk hs
  induction x0 generalizing x1 x2 with
  | zero =>
    unfold bulkStore
    repeat' first
      | with_reducible apply Moves.refl | with_reducible assumption | decide | refine Moves.trans ?_ (ih _ _)
      | with_reducible apply paddedWord_moves | with_reducible apply writeObject_moves | (with_reducible apply Moves.snd (by assumption))
      | (lift_lets; intro x; first | (refine Moves.mid (t := x) ?_ (fun hx => ?_) <;> [dsimp +zetaDelta only; clear_value x]) | clear_value x)
      | split
  | succ n ih =>
    unfold bulkStore
    repeat' first
      | with_reducible apply Moves.refl | with_reducible assumption | decide | refine Moves.trans ?_ (ih _ _)
      | with_reducible apply paddedWord_moves | with_reducible apply writeObject_moves | (with_reducible apply Moves.snd (by assumption))
      | (lift_lets; intro x; first | (refine Moves.mid (t := x) ?_ (fun hx => ?_) <;> [dsimp +zetaDelta only; clear_value x]) | clear_value x)
      | split

theorem bulkTaken_moves (s : State) (f : Frame) (hk : km &&& 0xFE80000101E303 = km) (hs : Moves km s0 s) :
    Moves km s0 (bulkTaken s f) := by
  refine Moves.comp (k1 := 0xFE80000101E303) ?_ hk hs
  unfold bulkTaken
  dsimp only
  repeat' first
    | with_reducible apply Moves.refl | decide | with_reducible apply bulkStore_moves | with_reducible apply bulkAck_moves
    | with_reducible apply bulkEnd_moves | with_reducible apply State.modBulk_moves | with_reducible apply State.bump_moves
    | with_reducible apply State.putN_moves | split

theorem execBulkDataFrame_moves (s : State) (hk : km &&& 0xFE80000101E303 = km) (hs : Moves km s0 s) :
    Moves km s0 (Out.left s (execBulkDataFrame s)) := by
  refine Moves.comp (k1 := 0xFE80000101E303) ?_ hk hs
  unfold execBulkDataFrame
  repeat' first
    | with_reducible apply Moves.refl | with_reducible assumption | decide | with_reducible apply bulkTaken_moves
    | ((with_reducible apply serveBulk_moves) <;> try intro _ _ _)

theorem bulkClosed_moves (s : State) (f : Frame) (hk : km &&& 0xFFBFD7FFFFFFFB = km) (hs : Moves km s0 s) :
    Moves km s0 (bulkClosed s f) := by
  refine Moves.comp (k1 := 0xFFBFD7FFFFFFFB) ?_ hk hs
  unfold bulkClosed
  repeat' first
    | with_reducible apply Moves.refl | decide | with_reducible apply bulkAck_moves | with_reducible apply bulkEnd_moves
    | (lift_lets; intro x; first | (refine Moves.mid (t := x) ?_ (fun hx => ?_) <;> [dsimp +zetaDelta only; clear_value x]) | clear_value x)
    | split

theorem execBulkEndFrame_moves (s : State) (hk : km &&& 0xFFBFD7FFFFFFFB = km) (hs : Moves km s0 s) :
    Moves km s0 (Out.left s (execBulkEndFrame s)) := by
  refine Moves.comp (k1 := 0xFFBFD7FFFFFFFB) ?_ hk hs
  unfold execBulkEndFrame
  repeat' first
    | with_reducible apply Moves.refl | with_reducible assumption | decide | with_reducible apply bulkClosed_moves
    | ((with_reducible apply serveBulk_moves) <;> try intro _ _ _)

theorem execBulkAbortFrame_moves (s : State) (hk : km &&& 0xFFFFDFFFFFFFFB = km) (hs : Moves km s0 s) :
    Moves km s0 (Out.left s (execBulkAbortFrame s)) := by
  refine Moves.comp (k1 := 0xFFFFDFFFFFFFFB) ?_ hk hs
  unfold execBulkAbortFrame
  repeat' first
    | with_reducible apply Moves.refl | with_reducible assumption | decide | ((with_reducible apply serveBulk_moves) <;> try intro _ _ _)
    | with_reducible apply bulkEnd_moves

theorem execCanFrameSent_moves (x0 : Fin 2) (errs : Fin 64) (s : State) (hk : km &&& 0xFFBFC7FFFFFF6B = km) (hs : Moves km s0 s) :
    Moves km s0 (Out.left s (execCanFrameSent x0 errs s)) := by
  refine Moves.comp (k1 := 0xFFBFC7FFFFFF6B) ?_ hk hs
  unfold execCanFrameSent
  repeat' first
    | with_reducible apply Moves.refl | decide | with_reducible apply bulkPump_moves | with_reducible apply sendBest_moves
    | with_reducible apply Moves.when

theorem sdoWrite_moves (s : State) (i : ℕ) (j : ℕ) (x3 : List Byte) (hk : km &&& 0xFE80000101E303 = km) (hs : Moves km s0 s) :
    Moves km s0 (sdoWrite s i j x3).2 := by
  refine Moves.comp (k1 := 0xFE80000101E303) ?_ hk hs
  unfold sdoWrite
  repeat' first
    | with_reducible apply Moves.refl | decide | with_reducible apply writeObject_moves

theorem sdoRead_moves (s : State) (i : ℕ) (j : ℕ) (hk : km &&& 0xFFBDFFFFEDEF1B = km) (hs : Moves km s0 s) :
    Moves km s0 (sdoRead s i j).2.2 := by
  refine Moves.comp (k1 := 0xFFBDFFFFEDEF1B) ?_ hk hs
  unfold sdoRead
  repeat' first
    | with_reducible apply Moves.refl | decide | with_reducible apply readObject_moves

theorem sdoSend_moves (s : State) (x1 : List Byte) (hk : km &&& 0xFFBFF7FFFFFFFB = km) (hs : Moves km s0 s) :
    Moves km s0 (sdoSend s x1) := by
  refine Moves.comp (k1 := 0xFFBFF7FFFFFFFB) ?_ hk hs
  unfold sdoSend
  repeat' first
    | with_reducible apply Moves.refl | decide | with_reducible apply agentSend_moves

theorem setSdo_moves (s : State) (x : Option SdoTransfer) (hk : km &&& 0xFFFFEFFFFFFFFF = km) (hs : Moves km s0 s) :
    Moves km s0 (setSdo s x) := by
  refine Moves.comp (k1 := 0xFFFFEFFFFFFFFF) ?_ hk hs
  unfold setSdo
  repeat' first
    | with_reducible apply Moves.refl | decide | with_reducible apply State.modAgent_moves

theorem sdoAbort_moves (s : State) (i : ℕ) (j : ℕ) (code : ℕ) (hk : km &&& 0xFFBFE7FFFFFFFB = km) (hs : Moves km s0 s) :
    Moves km s0 (sdoAbort s i j code) := by
  refine Moves.comp (k1 := 0xFFBFE7FFFFFFFB) ?_ hk hs
  unfold sdoAbort
  repeat' first
    | with_reducible apply Moves.refl | decide | with_reducible apply setSdo_moves | with_reducible apply sdoSend_moves

theorem sdoWritten_moves (s : State) (i : ℕ) (j : ℕ) (x3 : List Byte) (ok : List Byte) (hk : km &&& 0xFE80000101E303 = km) (hs : Moves km s0 s) :
    Moves km s0 (sdoWritten s i j x3 ok) := by
  refine Moves.comp (k1 := 0xFE80000101E303) ?_ hk hs
  unfold sdoWritten
  repeat' first
    | with_reducible apply Moves.refl | decide | with_reducible apply sdoAbort_moves | with_reducible apply setSdo_moves
    | with_reducible apply sdoSend_moves | with_reducible apply sdoWrite_moves | (with_reducible apply Moves.snd (by assumption)) | split

theorem sdoInitDownload_moves (s : State) (f : Frame) (i : ℕ) (j : ℕ) (hk : km &&& 0xFE80000101E303 = km) (hs : Moves km s0 s) :
    Moves km s0 (sdoInitDownload s f i j) := by
  refine Moves.comp (k1 := 0xFE80000101E303) ?_ hk hs
  unfold sdoInitDownload
  repeat' first
    | with_reducible apply Moves.refl | decide | with_reducible apply sdoWritten_moves | with_reducible apply setSdo_moves
    | with_reducible apply sdoSend_moves
    | (intro x; first | (refine Moves.mid (t := x) ?_ (fun hx => ?_) <;> [dsimp +zetaDelta only; clear_value x]) | clear_value x)
    | (lift_lets; intro x; first | (refine Moves.mid (t := x) ?_ (fun hx => ?_) <;> [dsimp +zetaDelta only; clear_value x]) | clear_value x)
    | split

theorem sdoDownload_moves (s : State) (f : Frame) (x : SdoTransfer) (hk : km &&& 0xFE80000101E303 = km) (hs : Moves km s0 s) :
    Moves km s0 (sdoDownload s f x) := by
  refine Moves.comp (k1 := 0xFE80000101E303) ?_ hk hs
  unfold sdoDownload
  repeat' first
    | with_reducible apply Moves.refl | decide | with_reducible apply sdoWritten_moves | with_reducible apply sdoAbort_moves
    | with_reducible apply setSdo_moves | with_reducible apply sdoSend_moves
    | (intro x; first | (refine Moves.mid (t := x) ?_ (fun hx => ?_) <;> [dsimp +zetaDelta only; clear_value x]) | clear_value x)
    | (lift_lets; intro x; first | (refine Moves.mid (t := x) ?_ (fun hx => ?_) <;> [dsimp +zetaDelta only; clear_value x]) | clear_value x)
    | split

theorem sdoInitUpload_moves (s : State) (i : ℕ) (j : ℕ) (hk : km &&& 0xFFBDE7FFEDEF1B = km) (hs : Moves km s0 s) :
    Moves km s0 (sdoInitUpload s i j) := by
  refine Moves.comp (k1 := 0xFFBDE7FFEDEF1B) ?_ hk hs
  unfold sdoInitUpload
  dsimp only
  repeat' first
    | with_reducible apply Moves.refl | decide | with_reducible apply sdoAbort_moves | with_reducible apply setSdo_moves
    | with_reducible apply sdoSend_moves | with_reducible apply sdoRead_moves | split

theorem sdoUpload_moves (s : State) (f : Frame) (x : SdoTransfer) (hk : km &&& 0xFFBFE7FFFFFFFB = km) (hs : Moves km s0 s) :
    Moves km s0 (sdoUpload s f x) := by
  refine Moves.comp (k1 := 0xFFBFE7FFFFFFFB) ?_ hk hs
  unfold sdoUpload
  repeat' first
    | with_reducible apply Moves.refl | decide | with_reducible apply sdoAbort_moves | with_reducible apply setSdo_moves
    | with_reducible apply sdoSend_moves
    | (intro x; first | (refine Moves.mid (t := x) ?_ (fun hx => ?_) <;> [dsimp +zetaDelta only; clear_value x]) | clear_value x)
    | (lift_lets; intro x; first | (refine Moves.mid (t := x) ?_ (fun hx => ?_) <;> [dsimp +zetaDelta only; clear_value x]) | clear_value x)
    | split

theorem sdoServe_moves (s : State) (f : Frame) (hk : km &&& 0xFE80000101E303 = km) (hs : Moves km s0 s) :
    Moves km s0 (sdoServe s f) := by
  refine Moves.comp (k1 := 0xFE80000101E303) ?_ hk hs
  unfold sdoServe
  repeat' first
    | with_reducible apply Moves.refl | decide | with_reducible apply sdoUpload_moves | with_reducible apply sdoInitUpload_moves
    | with_reducible apply sdoDownload_moves | with_reducible apply sdoInitDownload_moves | with_reducible apply sdoAbort_moves
    | with_reducible apply setSdo_moves
    | (intro x; first | (refine Moves.mid (t := x) ?_ (fun hx => ?_) <;> [dsimp +zetaDelta only; clear_value x]) | clear_value x)
    | (lift_lets; intro x; first | (refine Moves.mid (t := x) ?_ (fun hx => ?_) <;> [dsimp +zetaDelta only; clear_value x]) | clear_value x)
    | split

theorem usdoServe_moves (s : State) (f : Frame) (hk : km &&& 0xFE80000101E303 = km) (hs : Moves km s0 s) :
    Moves km s0 (usdoServe s f) := by
  refine Moves.comp (k1 := 0xFE80000101E303) ?_ hk hs
  unfold usdoServe
  repeat' first
    | with_reducible apply Moves.refl | decide | with_reducible apply sdoRead_moves | with_reducible apply sdoWrite_moves
    | with_reducible apply agentSend_moves | split

theorem execSdoRequest_moves (s : State) (hk : km &&& 0xFE80000101E303 = km) (hs : Moves km s0 s) :
    Moves km s0 (Out.left s (execSdoRequest s)) := by
  refine Moves.comp (k1 := 0xFE80000101E303) ?_ hk hs
  unfold execSdoRequest
  repeat' first
    | with_reducible apply Moves.refl | with_reducible assumption | decide | with_reducible apply usdoServe_moves
    | with_reducible apply sdoServe_moves | with_reducible apply takeFrame_moves | with_reducible apply Moves.next
    | (lift_lets; intro x; first | (refine Moves.mid (t := x) ?_ (fun hx => ?_) <;> [dsimp +zetaDelta only; clear_value x]) | clear_value x)
    | split

theorem execSdoTimeout_moves (s : State) (hk : km &&& 0xFFBFE7FFFFFFFB = km) (hs : Moves km s0 s) :
    Moves km s0 (Out.left s (execSdoTimeout s)) := by
  refine Moves.comp (k1 := 0xFFBFE7FFFFFFFB) ?_ hk hs
  unfold execSdoTimeout
  repeat' first
    | with_reducible apply Moves.refl | decide | with_reducible apply sdoAbort_moves | with_reducible apply Moves.next
    | with_reducible apply Moves.when | split

theorem writeEntries_moves (x0 : State) (x1 : List (ℕ × ℕ × ℕ)) (x2 : List Byte) (hk : km &&& 0xFE80000101E303 = km) (hs : Moves km s0 x0) :
    Moves km s0 (writeEntries x0 x1 x2) := by
  refine Moves.comp (k1 := 0xFE80000101E303) ?_ hk hs
  clear hk hs
  induction x1 generalizing x0 x2 with
  | nil =>
    unfold writeEntries
    repeat' first
      | with_reducible apply Moves.refl | decide | refine Moves.trans ?_ (ih _ _) | with_reducible apply agentEmcy_moves
      | with_reducible apply writeObject_moves | with_reducible apply State.bump_moves | split
  | cons b l ih =>
    unfold writeEntries
    repeat' first
      | with_reducible apply Moves.refl | decide | refine Moves.trans ?_ (ih _ _) | with_reducible apply agentEmcy_moves
      | with_reducible apply writeObject_moves | with_reducible apply State.bump_moves | split

theorem modRpdo_moves (s : State) (k : ℕ) (f : Pdo → Pdo) (hk : km &&& 0xFFFFEFFFFFFFFF = km) (hs : Moves km s0 s) :
    Moves km s0 (modRpdo s k f) := by
  refine Moves.comp (k1 := 0xFFFFEFFFFFFFFF) ?_ hk hs
  unfold modRpdo
  repeat' first
    | with_reducible apply Moves.refl | decide | with_reducible apply State.modAgent_moves

theorem modTpdo_moves (s : State) (k : ℕ) (f : Pdo → Pdo) (hk : km &&& 0xFFFFEFFFFFFFFF = km) (hs : Moves km s0 s) :
    Moves km s0 (modTpdo s k f) := by
  refine Moves.comp (k1 := 0xFFFFEFFFFFFFFF) ?_ hk hs
  unfold modTpdo
  repeat' first
    | with_reducible apply Moves.refl | decide | with_reducible apply State.modAgent_moves

theorem rpdoTake_moves (s : State) (k : ℕ) (x2 : List Byte) (hk : km &&& 0xFE80000101E303 = km) (hs : Moves km s0 s) :
    Moves km s0 (rpdoTake s k x2) := by
  refine Moves.comp (k1 := 0xFE80000101E303) ?_ hk hs
  unfold rpdoTake
  repeat' first
    | with_reducible apply Moves.refl | decide | with_reducible apply modRpdo_moves | with_reducible apply writeEntries_moves
    | with_reducible apply agentEmcy_moves | split

theorem execRpdoReceived_moves (s : State) (hk : km &&& 0xFE80000101E303 = km) (hs : Moves km s0 s) :
    Moves km s0 (Out.left s (execRpdoReceived s)) := by
  refine Moves.comp (k1 := 0xFE80000101E303) ?_ hk hs
  unfold execRpdoReceived
  repeat' first
    | with_reducible apply Moves.refl | decide | with_reducible apply rpdoTake_moves | with_reducible apply takeFrame_moves
    | with_reducible apply Moves.next | with_reducible apply Moves.when | split

theorem readEntries_moves (x0 : State) (x1 : List (ℕ × ℕ × ℕ)) (hk : km &&& 0xFFBDFFFFEDEF0B = km) (hs : Moves km s0 x0) :
    Moves km s0 (readEntries x0 x1).2 := by
  refine Moves.comp (k1 := 0xFFBDFFFFEDEF0B) ?_ hk hs
  clear hk hs
  induction x1 generalizing x0 with
  | nil =>
    unfold readEntries
    repeat' first
      | with_reducible apply Moves.refl | decide | refine Moves.trans ?_ (ih _) | with_reducible apply State.freshWord_moves
      | with_reducible apply readObject_moves | split
  | cons b l ih =>
    unfold readEntries
    repeat' first
      | with_reducible apply Moves.refl | decide | refine Moves.trans ?_ (ih _) | with_reducible apply State.freshWord_moves
      | with_reducible apply readObject_moves | split

theorem sendTpdo_moves (s : State) (k : ℕ) (hk : km &&& 0xFFBDE7FFEDEF0B = km) (hs : Moves km s0 s) :
    Moves km s0 (sendTpdo s k) := by
  refine Moves.comp (k1 := 0xFFBDE7FFEDEF0B) ?_ hk hs
  unfold sendTpdo
  repeat' first
    | with_reducible apply Moves.refl | decide | with_reducible apply readEntries_moves | with_reducible apply modTpdo_moves
    | with_reducible apply agentSend_moves

theorem syncTpdo_moves (s : State) (k : ℕ) (hk : km &&& 0xFFBDE7FFEDEF0B = km) (hs : Moves km s0 s) :
    Moves km s0 (syncTpdo s k) := by
  refine Moves.comp (k1 := 0xFFBDE7FFEDEF0B) ?_ hk hs
  unfold syncTpdo
  repeat' first
    | with_reducible apply Moves.refl | decide | with_reducible apply sendTpdo_moves | with_reducible apply modTpdo_moves
    | (intro x; first | (refine Moves.mid (t := x) ?_ (fun hx => ?_) <;> [dsimp +zetaDelta only; clear_value x]) | clear_value x)
    | (lift_lets; intro x; first | (refine Moves.mid (t := x) ?_ (fun hx => ?_) <;> [dsimp +zetaDelta only; clear_value x]) | clear_value x)
    | split

theorem syncRpdo_moves (s : State) (k : ℕ) (hk : km &&& 0xFE80000101E303 = km) (hs : Moves km s0 s) :
    Moves km s0 (syncRpdo s k) := by
  refine Moves.comp (k1 := 0xFE80000101E303) ?_ hk hs
  unfold syncRpdo
  repeat' first
    | with_reducible apply Moves.refl | decide | with_reducible apply modRpdo_moves | with_reducible apply writeEntries_moves | split

theorem syncAct_moves (s : State) (hk : km &&& 0xFE80000101E303 = km) (hs : Moves km s0 s) :
    Moves km s0 (syncAct s) := by
  refine Moves.comp (k1 := 0xFE80000101E303) ?_ hk hs
  unfold syncAct
  repeat' first
    | with_reducible apply Moves.refl | decide | with_reducible apply syncRpdo_moves | with_reducible apply syncTpdo_moves | split
    | ((with_reducible apply Moves.foldl) <;> try intro _ _)

theorem execSyncReceived_moves (s : State) (hk : km &&& 0xFE80000101E303 = km) (hs : Moves km s0 s) :
    Moves km s0 (Out.left s (execSyncReceived s)) := by
  refine Moves.comp (k1 := 0xFE80000101E303) ?_ hk hs
  unfold execSyncReceived
  repeat' first
    | with_reducible apply Moves.refl | decide | with_reducible apply syncAct_moves | with_reducible apply takeFrame_moves
    | with_reducible apply Moves.next | split

theorem execSyncProduce_moves (s : State) (hk : km &&& 0xFE80000101E303 = km) (hs : Moves km s0 s) :
    Moves km s0 (Out.left s (execSyncProduce s)) := by
  refine Moves.comp (k1 := 0xFE80000101E303) ?_ hk hs
  unfold execSyncProduce
  repeat' first
    | with_reducible apply Moves.refl | decide | with_reducible apply syncAct_moves | with_reducible apply agentSend_moves
    | with_reducible apply State.modAgent_moves | with_reducible apply Moves.when

theorem execTpdoEvent_moves (k : Fin 16) (timer : Bool) (s : State) (hk : km &&& 0xFFBDE7FFEDEF0B = km) (hs : Moves km s0 s) :
    Moves km s0 (Out.left s (execTpdoEvent k timer s)) := by
  refine Moves.comp (k1 := 0xFFBDE7FFEDEF0B) ?_ hk hs
  unfold execTpdoEvent
  repeat' first
    | with_reducible apply Moves.refl | decide | with_reducible apply sendTpdo_moves | with_reducible apply modTpdo_moves
    | with_reducible apply Moves.next | with_reducible apply Moves.when
    | (intro x; first | (refine Moves.mid (t := x) ?_ (fun hx => ?_) <;> [dsimp +zetaDelta only; clear_value x]) | clear_value x)
    | (lift_lets; intro x; first | (refine Moves.mid (t := x) ?_ (fun hx => ?_) <;> [dsimp +zetaDelta only; clear_value x]) | clear_value x)
    | split

theorem grantTarget_moves (s : State) (x1 : ℕ) (x2 : ℕ) (hk : km &&& 0xFFBFFFFFFFEFFF = km) (hs : Moves km s0 s) :
    Moves km s0 (grantTarget s x1 x2) := by
  refine Moves.comp (k1 := 0xFFBFFFFFFFEFFF) ?_ hk hs
  unfold grantTarget
  repeat' first
    | with_reducible apply Moves.refl | decide | with_reducible apply State.modEng_moves
    | (lift_lets; intro x; first | (refine Moves.mid (t := x) ?_ (fun hx => ?_) <;> [dsimp +zetaDelta only; clear_value x]) | clear_value x)
    | with_reducible apply Moves.of_cyc

theorem waitTarget_moves (s : State) (x1 : ℕ) (x2 : ℕ) (hk : km &&& 0xFFBFFFFFFFEFFB = km) (hs : Moves km s0 s) :
    Moves km s0 (waitTarget s x1 x2) := by
  refine Moves.comp (k1 := 0xFFBFFFFFFFEFFB) ?_ hk hs
  unfold waitTarget
  repeat' first
    | with_reducible apply Moves.refl | decide | with_reducible apply State.modEng_moves | with_reducible apply State.bump_moves | split

theorem withTarget_moves (s : State) (x1 : ℕ) (a : Word) (f : State → Access) (hk : km &&& 0xFFBFFFFFFFEFFB = km) (hs : Moves km s0 s) (hf : ∀ t, Moves km s0 t → Moves km s0 (Access.left (f t))) :
    Moves km s0 (Access.left (withTarget s x1 a f)) := by
  unfold withTarget
  repeat' first
    | with_reducible assumption | exact Moves.sub hk (by decide) | (with_reducible apply hf) | with_reducible apply waitTarget_moves
    | with_reducible apply grantTarget_moves | with_reducible apply Moves.waits | split

theorem portWrite_moves (s : State) (x1 : Fin 16) (user : Bool) (q : ℕ) (off : ℕ) (a : Word) (v : Word) (hk : km &&& 0xFFBFFFFFF70F7B = km) (hs : Moves km s0 s) :
    Moves km s0 (Access.left (portWrite s x1 user q off a v)) := by
  refine Moves.comp (k1 := 0xFFBFFFFFF70F7B) ?_ hk hs
  unfold portWrite
  repeat' first
    | with_reducible apply Moves.refl | decide | with_reducible apply queuePush_moves | with_reducible apply notePush_moves
    | with_reducible apply takePush_moves | with_reducible apply stageWord_moves | with_reducible apply waitTarget_moves | with_reducible apply raiseException_moves
    | with_reducible apply Moves.done | with_reducible apply Moves.trapped | with_reducible apply Moves.waits | split

theorem portStore_moves (s : State) (a : ℕ) (r : Region) (x3 : ℕ) (v : Word) (hk : km &&& 0xFFBFFFFFFDEFF7 = km) (hs : Moves km s0 s) :
    Moves km s0 (portStore s a r x3 v) := by
  refine Moves.comp (k1 := 0xFFBFFFFFFDEFF7) ?_ hk hs
  unfold portStore
  repeat' first
    | with_reducible apply Moves.refl | decide | with_reducible apply memStore_moves
    | (lift_lets; intro x; first | (refine Moves.mid (t := x) ?_ (fun hx => ?_) <;> [dsimp +zetaDelta only; clear_value x]) | clear_value x)
    | split | with_reducible apply Moves.of_cyc

theorem memWrite_moves (s : State) (x1 : ℕ) (a : Word) (v : Word) (x4 : ℕ) (r : Region) (x6 : ℕ) (hk : km &&& 0xFFBFFFFFFDEF73 = km) (hs : Moves km s0 s) :
    Moves km s0 (Access.left (memWrite s x1 a v x4 r x6)) := by
  refine Moves.comp (k1 := 0xFFBFFFFFFDEF73) ?_ hk hs
  unfold memWrite
  repeat' first
    | with_reducible apply Moves.refl | decide | with_reducible apply portStore_moves | with_reducible apply eccRead_moves
    | with_reducible apply raiseException_moves | (with_reducible apply Moves.fst (by assumption)) | with_reducible apply Moves.done
    | with_reducible apply Moves.trapped
    | (lift_lets; intro x; first | (refine Moves.mid (t := x) ?_ (fun hx => ?_) <;> [dsimp +zetaDelta only; clear_value x]) | clear_value x)
    | split

theorem objectOutcome_moves (before : State) (s : State) (hk : km &&& 0xFFFFFFFFFFFFDF = km) (hs : Moves km s0 s) :
    Moves km s0 (Access.left (objectOutcome before s)) := by
  refine Moves.comp (k1 := 0xFFFFFFFFFFFFDF) ?_ hk hs
  unfold objectOutcome
  repeat' first
    | with_reducible apply Moves.refl | decide | with_reducible apply Moves.done | with_reducible apply Moves.trapped | split
    | with_reducible apply Moves.of_resp

theorem storeAt_moves (s : State) (x1 : Fin 16) (a : Word) (v : Word) (x4 : ℕ) (hk : km &&& 0xFE800001010303 = km) (hs : Moves km s0 s) :
    Moves km s0 (Access.left (storeAt s x1 a v x4)) := by
  refine Moves.comp (k1 := 0xFE800001010303) ?_ hk hs
  unfold storeAt
  dsimp only
  repeat' first
    | with_reducible apply Moves.refl | decide | with_reducible apply objectOutcome_moves | with_reducible apply memWrite_moves
    | with_reducible apply portWrite_moves | with_reducible apply writeObject_moves | with_reducible apply raiseException_moves
    | with_reducible apply State.modEng_moves | with_reducible apply Moves.done | with_reducible apply Moves.trapped | split

theorem rvStore_moves (s : State) (x1 : Fin 16) (a : Word) (v : Word) (x4 : ℕ) (hk : km &&& 0xFE800001010303 = km) (hs : Moves km s0 s) :
    Moves km s0 (Access.left (rvStore s x1 a v x4)) := by
  refine Moves.comp (k1 := 0xFE800001010303) ?_ hk hs
  unfold rvStore
  repeat' first
    | with_reducible apply Moves.refl | with_reducible assumption | decide | with_reducible apply storeAt_moves
    | ((with_reducible apply withTarget_moves) <;> try intro _ _) | with_reducible apply raiseException_moves
    | with_reducible apply Moves.trapped | split

theorem portRead_moves (s : State) (x1 : Fin 16) (user : Bool) (q : ℕ) (off : ℕ) (a : Word) (hk : km &&& 0xFFBFFFFFFF6FFB = km) (hs : Moves km s0 s) :
    Moves km s0 (Access.left (portRead s x1 user q off a)) := by
  refine Moves.comp (k1 := 0xFFBFFFFFFF6FFB) ?_ hk hs
  unfold portRead
  repeat' first
    | with_reducible apply Moves.refl | decide | with_reducible apply notePop_moves | with_reducible apply queuePop_moves | with_reducible apply waitTarget_moves
    | with_reducible apply raiseException_moves | with_reducible apply Moves.done | with_reducible apply Moves.trapped
    | with_reducible apply Moves.waits
    | (lift_lets; intro x; first | (refine Moves.mid (t := x) ?_ (fun hx => ?_) <;> [dsimp +zetaDelta only; clear_value x]) | clear_value x)
    | split

theorem memRead_moves (s : State) (x1 : ℕ) (a : Word) (x3 : ℕ) (signed : Bool) (r : Region) (x6 : ℕ) (hk : km &&& 0xFFBFFFFFFDEF7B = km) (hs : Moves km s0 s) :
    Moves km s0 (Access.left (memRead s x1 a x3 signed r x6)) := by
  refine Moves.comp (k1 := 0xFFBFFFFFFDEF7B) ?_ hk hs
  unfold memRead
  repeat' first
    | with_reducible apply Moves.refl | with_reducible assumption | decide | with_reducible apply eccRead_moves
    | with_reducible apply raiseException_moves | with_reducible apply State.modEng_moves | (with_reducible apply Moves.fst (by assumption))
    | with_reducible apply Moves.done | with_reducible apply Moves.trapped
    | (lift_lets; intro x; first | (refine Moves.mid (t := x) ?_ (fun hx => ?_) <;> [dsimp +zetaDelta only; clear_value x]) | clear_value x)
    | split

theorem loadAt_moves (s : State) (x1 : Fin 16) (a : Word) (x3 : ℕ) (signed : Bool) (hk : km &&& 0xFFBDFFFFED6F1B = km) (hs : Moves km s0 s) :
    Moves km s0 (Access.left (loadAt s x1 a x3 signed)) := by
  refine Moves.comp (k1 := 0xFFBDFFFFED6F1B) ?_ hk hs
  unfold loadAt
  repeat' first
    | with_reducible apply Moves.refl | decide | with_reducible apply memRead_moves | with_reducible apply portRead_moves
    | with_reducible apply objectOutcome_moves | with_reducible apply readObject_moves | with_reducible apply raiseException_moves
    | with_reducible apply Moves.done | with_reducible apply Moves.trapped
    | (intro x; first | (refine Moves.mid (t := x) ?_ (fun hx => ?_) <;> [dsimp +zetaDelta only; clear_value x]) | clear_value x)
    | (lift_lets; intro x; first | (refine Moves.mid (t := x) ?_ (fun hx => ?_) <;> [dsimp +zetaDelta only; clear_value x]) | clear_value x)
    | split

theorem rvLoad_moves (s : State) (x1 : Fin 16) (a : Word) (x3 : ℕ) (signed : Bool) (hk : km &&& 0xFFBDFFFFED6F1B = km) (hs : Moves km s0 s) :
    Moves km s0 (Access.left (rvLoad s x1 a x3 signed)) := by
  refine Moves.comp (k1 := 0xFFBDFFFFED6F1B) ?_ hk hs
  unfold rvLoad
  repeat' first
    | with_reducible apply Moves.refl | with_reducible assumption | decide | with_reducible apply loadAt_moves
    | ((with_reducible apply withTarget_moves) <;> try intro _ _) | with_reducible apply raiseException_moves
    | with_reducible apply Moves.trapped | split

theorem fetchHalf_moves (s : State) (x1 : Fin 16) (a : Word) (hk : km &&& 0xFFBFFFFFFDEF7B = km) (hs : Moves km s0 s) :
    Moves km s0 (Access.left (fetchHalf s x1 a)) := by
  refine Moves.comp (k1 := 0xFFBFFFFFFDEF7B) ?_ hk hs
  unfold fetchHalf
  dsimp only
  repeat' first
    | with_reducible apply Moves.refl | decide | with_reducible apply eccRead_moves | with_reducible apply raiseException_moves
    | with_reducible apply State.modEng_moves | with_reducible apply Moves.done | with_reducible apply Moves.trapped | split

theorem fetchInstr_moves (s : State) (x1 : Fin 16) (hk : km &&& 0xFFBFFFFFFDEF7B = km) (hs : Moves km s0 s) :
    Moves km s0 (Access.left (fetchInstr s x1)) := by
  refine Moves.comp (k1 := 0xFFBFFFFFFDEF7B) ?_ hk hs
  unfold fetchInstr
  repeat' first
    | with_reducible apply Moves.refl | with_reducible assumption | decide | with_reducible apply fetchHalf_moves
    | ((with_reducible apply withTarget_moves) <;> try intro _ _) | (with_reducible apply Moves.ofDone (by assumption))
    | with_reducible apply Moves.done | split

theorem aliasWrites_moves (s : State) (hk : km &&& 0xFFBFFFFFFDEFF7 = km) (hs : Moves km s0 s) :
    Moves km s0 (aliasWrites s) := by
  refine Moves.comp (k1 := 0xFFBFFFFFFDEFF7) ?_ hk hs
  unfold aliasWrites
  repeat' first
    | with_reducible apply Moves.refl | with_reducible assumption | decide | with_reducible apply memStore_moves
    | (lift_lets; intro x; first | (refine Moves.mid (t := x) ?_ (fun hx => ?_) <;> [dsimp +zetaDelta only; clear_value x]) | clear_value x)
    | ((with_reducible apply Moves.foldl) <;> try intro _ _) | with_reducible apply Moves.of_cyc

theorem outState_moves (o : Out) (s : State) (h : Moves km s0 (Out.left s o)) : Moves km s0 (outState o s) := by
  cases o <;> exact h

theorem rvCommand_moves (s : State) (x1 : ℕ) (o : Out) (cycles : ℕ) (hk : km &&& 0xFFFFFFFFFFFFFF = km) (hs : Moves km s0 s) (ho : Moves km s0 (Out.left s o)) :
    Moves km s0 (rvCommand s x1 o cycles).s := by
  unfold rvCommand
  repeat' first
    | (exact outState_moves _ _ ho)

theorem rvPlace_moves (s : State) (x1 : ℕ) (n : ℕ) (taken : Bool) (d : RvDone) (hk : km &&& 0xFFBFFFFFFFEFFB = km) (hd : Moves km s0 d.s) :
    Moves km s0 (rvPlace s x1 n taken d).s := by
  unfold rvPlace
  split
  · exact waitTarget_moves _ _ _ hk hd
  · exact hd

theorem rvTrap_moves (s : State) (hk : km &&& 0xFFFFFFFFFFFFFF = km) (hs : Moves km s0 s) :
    Moves km s0 (rvTrap s).s := by
  refine Moves.comp (k1 := 0xFFFFFFFFFFFFFF) ?_ hk hs
  unfold rvTrap
  repeat' first
    | with_reducible apply Moves.refl

theorem rvCsr_moves (s : State) (x1 : ℕ) (op : CsrOp) (imm : Bool) (rd : ℕ) (rs1 : ℕ) (num : ℕ) (len : ℕ) (hk : km &&& 0xFFBFFFFFFFEFEB = km) (hs : Moves km s0 s) :
    Moves km s0 (rvCsr s x1 op imm rd rs1 num len).s := by
  refine Moves.comp (k1 := 0xFFBFFFFFFFEFEB) ?_ hk hs
  unfold rvCsr
  repeat' first
    | with_reducible apply Moves.refl | decide | with_reducible apply rvTrap_moves | with_reducible apply illegal_moves
    | with_reducible apply State.modEng_moves
    | (intro x; first | (refine Moves.mid (t := x) ?_ (fun hx => ?_) <;> [dsimp +zetaDelta only; clear_value x]) | clear_value x)
    | (lift_lets; intro x; first | (refine Moves.mid (t := x) ?_ (fun hx => ?_) <;> [dsimp +zetaDelta only; clear_value x]) | clear_value x)
    | split

theorem rvWrite_moves (s : State) (x1 : ℕ) (rd : ℕ) (v : Word) (len : ℕ) (hk : km &&& 0xFFFFFFFFFFEFFF = km) (hs : Moves km s0 s) :
    Moves km s0 (rvWrite s x1 rd v len) := by
  refine Moves.comp (k1 := 0xFFFFFFFFFFEFFF) ?_ hk hs
  unfold rvWrite
  repeat' first
    | with_reducible apply Moves.refl | decide | with_reducible apply State.modEng_moves

theorem rvAlu_moves (s : State) (x1 : ℕ) (op : AluOp) (rd : ℕ) (a : Word) (x5 : Word) (len : ℕ) (hk : km &&& 0xFFFFFFFFFFEFEF = km) (hs : Moves km s0 s) :
    Moves km s0 (rvAlu s x1 op rd a x5 len).s := by
  refine Moves.comp (k1 := 0xFFFFFFFFFFEFEF) ?_ hk hs
  unfold rvAlu
  repeat' first
    | with_reducible apply Moves.refl | decide | with_reducible apply rvWrite_moves | with_reducible apply State.freshWord_moves | split

theorem rvEbreak_moves (s : State) (x1 : ℕ) (hk : km &&& 0xFFBFFBFFF5EF63 = km) (hs : Moves km s0 s) :
    Moves km s0 (rvEbreak s x1).s := by
  refine Moves.comp (k1 := 0xFFBFFBFFF5EF63) ?_ hk hs
  unfold rvEbreak
  repeat' first
    | with_reducible apply Moves.refl | decide | with_reducible apply enterDebug_moves | with_reducible apply rvTrap_moves
    | with_reducible apply raiseException_moves
    | (lift_lets; intro x; first | (refine Moves.mid (t := x) ?_ (fun hx => ?_) <;> [dsimp +zetaDelta only; clear_value x]) | clear_value x)
    | split

theorem rvAtomic_moves (s : State) (x1 : Fin 16) (rs1 : ℕ) (f : State → Out) (hk : km &&& 0xFFBFFFFFFFEFFB = km) (hs : Moves km s0 s) (hf : ∀ t, Moves km s0 t → Moves km s0 (Out.left t (f t))) :
    Moves km s0 (rvAtomic s x1 rs1 f).s := by
  unfold rvAtomic
  repeat' first
    | with_reducible assumption | exact Moves.sub hk (by decide) | (with_reducible apply hf)
    | ((with_reducible apply withTarget_moves) <;> try intro _ _) | with_reducible apply rvTrap_moves | with_reducible apply rvCommand_moves
    | (with_reducible apply Moves.ofDone (by assumption)) | (with_reducible apply Moves.ofTrapped (by assumption))
    | (with_reducible apply Moves.ofWaits (by assumption)) | with_reducible apply Moves.done
    | (lift_lets; intro x; first | (refine Moves.mid (t := x) ?_ (fun hx => ?_) <;> [dsimp +zetaDelta only; clear_value x]) | clear_value x)
    | split

theorem rvAccess_moves (r : Access) (x1 : ℕ) (rd : ℕ) (len : ℕ) (cycles : ℕ) (hk : km &&& 0xFFFFFFFFFFEFFF = km) (hs : Moves km s0 (Access.left r)) :
    Moves km s0 (rvAccess r x1 rd len cycles).s := by
  refine Moves.comp (k1 := 0xFFFFFFFFFFEFFF) ?_ hk hs
  unfold rvAccess
  repeat' first
    | decide | exact Moves.refl _ _ | with_reducible apply rvWrite_moves | split

theorem rvMret_moves (s : State) (x1 : ℕ) (hk : km &&& 0xFFBFFFFFFFEFEB = km) (hs : Moves km s0 s) :
    Moves km s0 (rvMret s x1).s := by
  refine Moves.comp (k1 := 0xFFBFFFFFFFEFEB) ?_ hk hs
  unfold rvMret
  repeat' first
    | with_reducible apply Moves.refl | decide | with_reducible apply rvTrap_moves | with_reducible apply illegal_moves
    | with_reducible apply State.modEng_moves | split

theorem rvJump_moves (s : State) (x1 : ℕ) (target : Word) (hk : km &&& 0xFFFFFFFFFFEFFF = km) (hs : Moves km s0 s) :
    Moves km s0 (rvJump s x1 target).s := by
  refine Moves.comp (k1 := 0xFFFFFFFFFFEFFF) ?_ hk hs
  unfold rvJump
  repeat' first
    | with_reducible apply Moves.refl | decide | with_reducible apply State.modEng_moves

theorem rvExec_moves (s : State) (x1 : Fin 16) (op : RvOp) (len : ℕ) (hk : km &&& 0xFE800001010303 = km) (hs : Moves km s0 s) :
    Moves km s0 (rvExec s x1 op len).s := by
  refine Moves.comp (k1 := 0xFE800001010303) ?_ hk hs
  unfold rvExec
  repeat' first
    | with_reducible apply Moves.refl | with_reducible assumption | decide | with_reducible apply rvJump_moves
    | with_reducible apply rvLoad_moves | with_reducible apply rvMret_moves | with_reducible apply execWfi_moves
    | with_reducible apply execTang_moves | with_reducible apply rvAccess_moves | with_reducible apply execQpush_moves
    | with_reducible apply execAmo_moves | ((with_reducible apply rvAtomic_moves) <;> try intro _ _) | with_reducible apply execScW_moves
    | with_reducible apply execQwait_moves | with_reducible apply rvEbreak_moves | with_reducible apply rvAlu_moves
    | with_reducible apply execQmul_moves | with_reducible apply rvWrite_moves | with_reducible apply rvStore_moves
    | with_reducible apply execQpop_moves | with_reducible apply rvCsr_moves | with_reducible apply rvTrap_moves
    | with_reducible apply execLrW_moves | with_reducible apply execTreach_moves | with_reducible apply rvCommand_moves
    | with_reducible apply rvPlace_moves
    | with_reducible apply raiseException_moves | with_reducible apply State.modEng_moves
    | (intro x; first | (refine Moves.mid (t := x) ?_ (fun hx => ?_) <;> [dsimp +zetaDelta only; clear_value x]) | clear_value x)
    | (lift_lets; intro x; first | (refine Moves.mid (t := x) ?_ (fun hx => ?_) <;> [dsimp +zetaDelta only; clear_value x]) | clear_value x)
    | split

theorem triggerAct_moves (s : State) (x1 : ℕ) (action : ℕ) (a : Word) (hk : km &&& 0xFFBFFBFFF5EF63 = km) (hs : Moves km s0 s) :
    Moves km s0 (triggerAct s x1 action a) := by
  refine Moves.comp (k1 := 0xFFBFFBFFF5EF63) ?_ hk hs
  unfold triggerAct
  repeat' first
    | with_reducible apply Moves.refl | decide | with_reducible apply enterDebug_moves | with_reducible apply raiseException_moves | split

theorem rvIssue_moves (s : State) (x1 : Fin 16) (x2 : Word) (hk : km &&& 0xFE800001010303 = km) (hs : Moves km s0 s) :
    Moves km s0 (rvIssue s x1 x2).s := by
  refine Moves.comp (k1 := 0xFE800001010303) ?_ hk hs
  unfold rvIssue
  repeat' first
    | with_reducible apply Moves.refl | decide | with_reducible apply triggerAct_moves | with_reducible apply rvExec_moves
    | with_reducible apply rvTrap_moves | with_reducible apply illegal_moves
    | (lift_lets; intro x; first | (refine Moves.mid (t := x) ?_ (fun hx => ?_) <;> [dsimp +zetaDelta only; clear_value x]) | clear_value x)
    | split

theorem rvRun_moves (s : State) (x1 : Fin 16) (hk : km &&& 0xFE800001010303 = km) (hs : Moves km s0 s) :
    Moves km s0 (rvRun s x1) := by
  refine Moves.comp (k1 := 0xFE800001010303) ?_ hk hs
  unfold rvRun
  dsimp only
  repeat' first
    | with_reducible apply Moves.refl | decide | with_reducible apply fetchInstr_moves | with_reducible apply rvIssue_moves
    | with_reducible apply triggerAct_moves | with_reducible apply enterDebug_moves | with_reducible apply rvTrap_moves
    | with_reducible apply State.modEng_moves | (with_reducible apply Moves.ofDone (by assumption))
    | (with_reducible apply Moves.ofTrapped (by assumption)) | (with_reducible apply Moves.ofWaits (by assumption)) | split

theorem rvWait_moves (s : State) (x1 : Fin 16) (hk : km &&& 0xFFBFFFFFFF6FFB = km) (hs : Moves km s0 s) :
    Moves km s0 (rvWait s x1) := by
  refine Moves.comp (k1 := 0xFFBFFFFFFF6FFB) ?_ hk hs
  unfold rvWait
  repeat' first
    | with_reducible apply Moves.refl | decide | with_reducible apply execInterruptTrap_moves | with_reducible apply execQwaitTimeout_moves
    | with_reducible apply execQwaitWake_moves | with_reducible apply outState_moves

theorem popArrival_moves (t : ℕ) (s : State) (x1 : ℕ) (hk : km &&& 0xFFFFFFFFFFEFFF = km) (hs : Moves km s0 s) :
    Moves km s0 (popArrival t s x1) := by
  refine Moves.comp (k1 := 0xFFFFFFFFFFEFFF) ?_ hk hs
  unfold popArrival
  repeat' first
    | with_reducible apply Moves.refl | decide | with_reducible apply State.modEng_moves | split

theorem rvResident_moves (s : State) (x1 : Fin 16) (hk : km &&& 0xFE800001010303 = km) (hs : Moves km s0 s) :
    Moves km s0 (rvResident s x1) := by
  refine Moves.comp (k1 := 0xFE800001010303) ?_ hk hs
  unfold rvResident
  dsimp only
  repeat' first
    | with_reducible apply Moves.refl | decide | with_reducible apply rvStore_moves | with_reducible apply State.modEng_moves
    | (with_reducible apply Moves.ofDone (by assumption)) | (with_reducible apply Moves.ofTrapped (by assumption))
    | (with_reducible apply Moves.ofWaits (by assumption)) | split

theorem rvEngine_moves (s : State) (x1 : Fin 16) (hk : km &&& 0xFE800001010303 = km) (hs : Moves km s0 s) :
    Moves km s0 (rvEngine s x1) := by
  refine Moves.comp (k1 := 0xFE800001010303) ?_ hk hs
  unfold rvEngine
  repeat' first
    | with_reducible apply Moves.refl | decide | with_reducible apply popArrival_moves | with_reducible apply rvResident_moves | with_reducible apply rvWait_moves | with_reducible apply rvRun_moves
    | with_reducible apply execInterruptTrap_moves | with_reducible apply engineFault_moves | with_reducible apply outState_moves | split

theorem enginesRun_moves (s : State) (hk : km &&& 0xFE800001010303 = km) (hs : Moves km s0 s) :
    Moves km s0 (enginesRun s) := by
  refine Moves.comp (k1 := 0xFE800001010303) ?_ hk hs
  unfold enginesRun
  repeat' first
    | with_reducible apply Moves.refl | decide | with_reducible apply aliasWrites_moves | with_reducible apply rvEngine_moves
    | (lift_lets; intro x; first | (refine Moves.mid (t := x) ?_ (fun hx => ?_) <;> [dsimp +zetaDelta only; clear_value x]) | clear_value x)
    | ((with_reducible apply Moves.foldl) <;> try intro _ _) | with_reducible apply Moves.of_cyc

theorem busRefused_moves (s : State) (hk : km &&& 0xFFFFFFFFFFFFDF = km) (hs : Moves km s0 s) :
    Moves km s0 (busRefused s) := by
  refine Moves.comp (k1 := 0xFFFFFFFFFFFFDF) ?_ hk hs
  unfold busRefused
  repeat' first
    | with_reducible apply Moves.refl | decide | with_reducible apply Moves.of_resp

theorem debugPort_moves (s : State) (q : ℕ) (off : ℕ) (write : Bool) (v : Word) (hk : km &&& 0xFFBFFFFFF70F5B = km) (hs : Moves km s0 s) :
    Moves km s0 (debugPort s q off write v) := by
  refine Moves.comp (k1 := 0xFFBFFFFFF70F5B) ?_ hk hs
  unfold debugPort
  repeat' first
    | with_reducible apply Moves.refl | decide | with_reducible apply queuePush_moves | with_reducible apply notePush_moves
    | with_reducible apply notePop_moves | with_reducible apply takePush_moves | with_reducible apply State.answer_moves
    | with_reducible apply stageWord_moves | with_reducible apply busRefused_moves | with_reducible apply queuePop_moves
    | (lift_lets; intro x; first | (refine Moves.mid (t := x) ?_ (fun hx => ?_) <;> [dsimp +zetaDelta only; clear_value x]) | clear_value x)
    | split

theorem debugPrivate_moves (s : State) (a : ℕ) (write : Bool) (v : Word) (hk : km &&& 0xFFFFFFFFFFEFDF = km) (hs : Moves km s0 s) :
    Moves km s0 (debugPrivate s a write v) := by
  refine Moves.comp (k1 := 0xFFFFFFFFFFEFDF) ?_ hk hs
  unfold debugPrivate
  repeat' first
    | with_reducible apply Moves.refl | decide | with_reducible apply State.answer_moves | with_reducible apply busRefused_moves
    | with_reducible apply State.modEng_moves
    | (intro x; first | (refine Moves.mid (t := x) ?_ (fun hx => ?_) <;> [dsimp +zetaDelta only; clear_value x]) | clear_value x)
    | (lift_lets; intro x; first | (refine Moves.mid (t := x) ?_ (fun hx => ?_) <;> [dsimp +zetaDelta only; clear_value x]) | clear_value x)
    | split

theorem debugBus_moves (s : State) (a : ℕ) (write : Bool) (v : Word) (hk : km &&& 0xFE800001010303 = km) (hs : Moves km s0 s) :
    Moves km s0 (debugBus s a write v) := by
  refine Moves.comp (k1 := 0xFE800001010303) ?_ hk hs
  unfold debugBus
  repeat' first
    | with_reducible apply Moves.refl | decide | with_reducible apply debugPrivate_moves | with_reducible apply debugPort_moves
    | with_reducible apply State.answer_moves | with_reducible apply busRefused_moves | with_reducible apply writeObject_moves
    | with_reducible apply busWrite_moves | with_reducible apply busRead_moves | with_reducible apply readObject_moves
    | (with_reducible apply Moves.fst (by assumption))
    | (intro x; first | (refine Moves.mid (t := x) ?_ (fun hx => ?_) <;> [dsimp +zetaDelta only; clear_value x]) | clear_value x)
    | (lift_lets; intro x; first | (refine Moves.mid (t := x) ?_ (fun hx => ?_) <;> [dsimp +zetaDelta only; clear_value x]) | clear_value x)
    | split

theorem State.dropResp_moves (s : State) (old : State) (hk : km &&& 0xFFFFFFFFFFFFDF = km) (hs : Moves km s0 s) :
    Moves km s0 (State.dropResp s old) := by
  refine Moves.comp (k1 := 0xFFFFFFFFFFFFDF) ?_ hk hs
  unfold State.dropResp
  repeat' first
    | with_reducible apply Moves.refl | decide | with_reducible apply Moves.of_resp

theorem State.modDbg_moves (s : State) (f : DebugModule → DebugModule) (hk : km &&& 0xFFFFFFFFFEFFFF = km) (hs : Moves km s0 s) :
    Moves km s0 (State.modDbg s f) := by
  refine Moves.comp (k1 := 0xFFFFFFFFFEFFFF) ?_ hk hs
  unfold State.modDbg
  repeat' first
    | with_reducible apply Moves.refl | decide | with_reducible apply Moves.of_dbg

theorem systemBus_moves (s : State) (a : Word) (write : Bool) (v : Word) (hk : km &&& 0xFE800001000303 = km) (hs : Moves km s0 s) :
    Moves km s0 (systemBus s a write v) := by
  refine Moves.comp (k1 := 0xFE800001000303) ?_ hk hs
  unfold systemBus
  repeat' first
    | with_reducible apply Moves.refl | decide | with_reducible apply State.modDbg_moves | with_reducible apply debugBus_moves

theorem cmdError_moves (s : State) (c : ℕ) (hk : km &&& 0xFFFFFFFFFEFFFF = km) (hs : Moves km s0 s) :
    Moves km s0 (cmdError s c) := by
  refine Moves.comp (k1 := 0xFFFFFFFFFEFFFF) ?_ hk hs
  unfold cmdError
  repeat' first
    | with_reducible apply Moves.refl | decide | with_reducible apply State.modDbg_moves

theorem setData_moves (s : State) (x1 : ℕ) (v : Word) (hk : km &&& 0xFFFFFFFFFEFFFF = km) (hs : Moves km s0 s) :
    Moves km s0 (setData s x1 v) := by
  refine Moves.comp (k1 := 0xFFFFFFFFFEFFFF) ?_ hk hs
  unfold setData
  repeat' first
    | with_reducible apply Moves.refl | decide | with_reducible apply State.modDbg_moves

theorem debugSetRegister_moves (s : State) (x1 : ℕ) (num : ℕ) (v : Word) {t0 : _} (ht : (debugSetRegister s x1 num v) = some t0) (hk : km &&& 0xFFFFFFFFFFEFFF = km) (hs : Moves km s0 s) :
    Moves km s0 t0 := by
  refine Moves.comp (k1 := 0xFFFFFFFFFFEFFF) ?_ hk hs
  clear hk hs
  unfold debugSetRegister at ht
  try dsimp only at ht
  repeat' split at ht
  all_goals first | contradiction | skip
  all_goals first | (injection ht with ht; subst ht) | skip
  all_goals try dsimp only
  all_goals repeat' first
    | with_reducible apply Moves.refl | decide | with_reducible apply State.modEng_moves

theorem registerTransfer_moves (s : State) (e num : ℕ) (write : Bool) (hk : km &&& 0xFFFFFFFFFEEFFF = km) (hs : Moves km s0 s) :
    Moves km s0 (registerTransfer s e num write) := by
  refine Moves.comp (k1 := 0xFFFFFFFFFEEFFF) ?_ hk hs
  unfold registerTransfer
  split
  · exact cmdError_moves _ _ (by decide) (Moves.refl _ _)
  · split
    · cases h : debugSetRegister s e num (s.dbg.data.getD 0 0) with
      | none => exact cmdError_moves _ _ (by decide) (Moves.refl _ _)
      | some t => exact debugSetRegister_moves (t0 := t) _ _ _ _ h (by decide) (Moves.refl _ _)
    · exact setData_moves _ _ _ (by decide) (Moves.refl _ _)

theorem progStep_moves (s : State) (x1 : Fin 16) (op : RvOp) (len : ℕ) (hk : km &&& 0xFE800001000303 = km) (hs : Moves km s0 s) :
    Moves km s0 (progStep s x1 op len).1 := by
  refine Moves.comp (k1 := 0xFE800001000303) ?_ hk hs
  unfold progStep
  dsimp only
  repeat' first
    | with_reducible apply Moves.refl | decide | with_reducible apply rvExec_moves | with_reducible apply cmdError_moves
    | with_reducible apply State.modEng_moves | split

theorem progRun_moves (x0 : ℕ) (x1 : State) (x2 : Fin 16) (x3 : ℕ) (hk : km &&& 0xFE800001000303 = km) (hs : Moves km s0 x1) :
    Moves km s0 (progRun x0 x1 x2 x3) := by
  refine Moves.comp (k1 := 0xFE800001000303) ?_ hk hs
  clear hk hs
  induction x0 generalizing x1 x2 x3 with
  | zero =>
    unfold progRun
    repeat' first
      | with_reducible apply Moves.refl | decide | refine Moves.trans ?_ (ih _ _ _) | with_reducible apply progStep_moves
      | with_reducible apply cmdError_moves | (with_reducible apply Moves.fst (by assumption)) | split
  | succ n ih =>
    unfold progRun
    repeat' first
      | with_reducible apply Moves.refl | decide | refine Moves.trans ?_ (ih _ _ _) | with_reducible apply progStep_moves
      | with_reducible apply cmdError_moves | (with_reducible apply Moves.fst (by assumption)) | split

theorem abstractRegister_moves (s : State) (x1 : Fin 16) (num : ℕ) (transfer : Bool) (write : Bool) (postexec : Bool) (hk : km &&& 0xFE800001000303 = km) (hs : Moves km s0 s) :
    Moves km s0 (abstractRegister s x1 num transfer write postexec) := by
  refine Moves.comp (k1 := 0xFE800001000303) ?_ hk hs
  unfold abstractRegister
  repeat' first
    | with_reducible apply Moves.refl | with_reducible assumption | decide | with_reducible apply progRun_moves
    | with_reducible apply registerTransfer_moves
    | (lift_lets; intro x; first | (refine Moves.mid (t := x) ?_ (fun hx => ?_) <;> [dsimp +zetaDelta only; clear_value x]) | clear_value x)
    | split

theorem abstractMemory_moves (s : State) (x1 : ℕ) (x2 : ℕ) (write : Bool) (increment : Bool) (hk : km &&& 0xFE800001000303 = km) (hs : Moves km s0 s) :
    Moves km s0 (abstractMemory s x1 x2 write increment) := by
  refine Moves.comp (k1 := 0xFE800001000303) ?_ hk hs
  unfold abstractMemory
  repeat' first
    | with_reducible apply Moves.refl | with_reducible assumption | decide | with_reducible apply setData_moves
    | with_reducible apply cmdError_moves | with_reducible apply State.dropResp_moves | with_reducible apply debugBus_moves
    | (intro x; first | (refine Moves.mid (t := x) ?_ (fun hx => ?_) <;> [dsimp +zetaDelta only; clear_value x]) | clear_value x)
    | (lift_lets; intro x; first | (refine Moves.mid (t := x) ?_ (fun hx => ?_) <;> [dsimp +zetaDelta only; clear_value x]) | clear_value x)
    | split | with_reducible apply Moves.of_resp

theorem abstractCommand_moves (s : State) (f : Fin 16 → State) (hk : km &&& 0xFFFFFFFFFEFFFF = km) (hs : Moves km s0 s) (hf : ∀ e, Moves km s0 (f e)) :
    Moves km s0 (abstractCommand s f) := by
  unfold abstractCommand
  repeat' first
    | with_reducible assumption | (with_reducible apply hf) | with_reducible apply cmdError_moves
    | (lift_lets; intro x; first | (refine Moves.mid (t := x) ?_ (fun hx => ?_) <;> [dsimp +zetaDelta only; clear_value x]) | clear_value x)
    | split

theorem debugDo_moves (s : State) (op : DebugOp) (hk : km &&& 0xFE800001000303 = km) (hs : Moves km s0 s) :
    Moves km s0 (debugDo s op) := by
  refine Moves.comp (k1 := 0xFE800001000303) ?_ hk hs
  unfold debugDo
  repeat' first
    | with_reducible apply Moves.refl | decide | ((with_reducible apply abstractCommand_moves) <;> try intro _)
    | with_reducible apply abstractMemory_moves | with_reducible apply abstractRegister_moves | with_reducible apply setData_moves
    | with_reducible apply cmdError_moves | with_reducible apply systemBus_moves | with_reducible apply State.modDbg_moves | split

theorem execDebugSystemBusAccess_moves (op : DebugOp) (s : State) (hk : km &&& 0xFE800001000303 = km) (hs : Moves km s0 s) :
    Moves km s0 (Out.left s (execDebugSystemBusAccess op s)) := by
  refine Moves.comp (k1 := 0xFE800001000303) ?_ hk hs
  unfold execDebugSystemBusAccess
  repeat' first
    | with_reducible apply Moves.refl | decide | with_reducible apply debugDo_moves | with_reducible apply Moves.when

theorem millisecondTick_moves (s : State) (hk : km &&& 0xFFAFFC793FF36B = km) (hs : Moves km s0 s) :
    Moves km s0 (millisecondTick s) := by
  refine Moves.comp (k1 := 0xFFAFFC793FF36B) ?_ hk hs
  unfold millisecondTick
  repeat' first
    | with_reducible apply Moves.refl | decide | with_reducible apply chargeArrive_moves | with_reducible apply engineTick_moves
    | with_reducible apply seqTick_moves | with_reducible apply railTick_moves | with_reducible apply senseTick_moves
    | with_reducible apply tideTick_moves | with_reducible apply chargeTick_moves | with_reducible apply settleAll_moves
    | (lift_lets; intro x; first | (refine Moves.mid (t := x) ?_ (fun hx => ?_) <;> [dsimp +zetaDelta only; clear_value x]) | clear_value x)
    | split | ((with_reducible apply Moves.foldl) <;> try intro _ _) | with_reducible apply Moves.of_clk

theorem execMillisecondTick_moves (s : State) (hk : km &&& 0xFFAFFC793FF36B = km) (hs : Moves km s0 s) :
    Moves km s0 (Out.left s (execMillisecondTick s)) := by
  refine Moves.comp (k1 := 0xFFAFFC793FF36B) ?_ hk hs
  unfold execMillisecondTick
  repeat' first
    | with_reducible apply Moves.refl | decide | with_reducible apply millisecondTick_moves | with_reducible apply Moves.when

theorem heldCycle_moves (s : State) (hk : km &&& 0xFF3FFFFFFFFFFF = km) (hs : Moves km s0 s) :
    Moves km s0 (heldCycle s) := by
  refine Moves.comp (k1 := 0xFF3FFFFFFFFFFF) ?_ hk hs
  have h1 : ∀ x0 x1, Moves 0xFF3FFFFFFFFFFF s { s with real := x0, cyc := x1 } := fun x0 x1 =>
    (Moves.of_cyc ({ s with real := x0 } : State) x1 (by decide) (Moves.of_real s x0 (by decide) (Moves.refl _ _)))
  exact h1 _ _

theorem postsEnd_moves (s : State) (hk : km &&& 0xFFBDFFFFF7947B = km) (hs : Moves km s0 s) :
    Moves km s0 (postsEnd s) := by
  refine Moves.comp (k1 := 0xFFBDFFFFF7947B) ?_ hk hs
  unfold postsEnd
  repeat' first
    | with_reducible apply Moves.refl | with_reducible assumption | decide | with_reducible apply grantPost_moves
    | with_reducible apply handMark_moves | with_reducible apply handFault_moves
    | (lift_lets; intro x; first | (refine Moves.mid (t := x) ?_ (fun hx => ?_) <;> [dsimp +zetaDelta only; clear_value x]) | clear_value x)
    | split

theorem advance_moves (s : State) (hk : km &&& 0xFD3FFFFFFFFFFD = km) (hs : Moves km s0 s) :
    Moves km s0 (advance s) := by
  refine Moves.comp (k1 := 0xFD3FFFFFFFFFFD) ?_ hk hs
  have h1 : ∀ x0 x1 x2, Moves 0xFD3FFFFFFFFFFD s { s with now := x0, real := x1, cyc := x2 } := fun x0 x1 x2 =>
    (Moves.of_cyc ({ { s with now := x0 } with real := x1 } : State) x2 (by decide) (Moves.of_real ({ s with now := x0 } : State) x1 (by decide) (Moves.of_now s x0 (by decide) (Moves.refl _ _))))
  exact h1 _ _ _

theorem countSlow_moves (s : State) (hk : km &&& 0xFFFFFFFFFBFFFF = km) (hs : Moves km s0 s) :
    Moves km s0 (countSlow s) := by
  refine Moves.comp (k1 := 0xFFFFFFFFFBFFFF) ?_ hk hs
  unfold countSlow
  repeat' first
    | with_reducible apply Moves.refl | decide
    | (lift_lets; intro x; first | (refine Moves.mid (t := x) ?_ (fun hx => ?_) <;> [dsimp +zetaDelta only; clear_value x]) | clear_value x)
    | split | with_reducible apply Moves.of_startup

theorem powerCycle_moves (s : State) (hk : km &&& 0xFFAFFFF93FFF6B = km) (hs : Moves km s0 s) :
    Moves km s0 (powerCycle s) := by
  refine Moves.comp (k1 := 0xFFAFFFF93FFF6B) ?_ hk hs
  unfold powerCycle
  repeat' first
    | with_reducible apply Moves.refl | decide | with_reducible apply railsBegin_moves | with_reducible apply phasesBegin_moves
    | with_reducible apply settleAll_moves | split

theorem runCycle_moves (s : State) (hk : km &&& 0xFC000000000001 = km) (hs : Moves km s0 s) :
    Moves km s0 (runCycle s) := by
  refine Moves.comp (k1 := 0xFC000000000001) ?_ hk hs
  unfold runCycle
  repeat' first
    | with_reducible apply Moves.refl | decide | with_reducible apply powerCycle_moves | with_reducible apply countSlow_moves
    | with_reducible apply tideCycle_moves | with_reducible apply advance_moves | with_reducible apply postsEnd_moves
    | with_reducible apply loaderService_moves | with_reducible apply fastCycle_moves | with_reducible apply enginesRun_moves
    | with_reducible apply dueReset_moves | with_reducible apply railsEnd_moves | with_reducible apply phasesEnd_moves
    | with_reducible apply irqEnd_moves | with_reducible apply resultsLand_moves | with_reducible apply gaugeCycle_moves
    | with_reducible apply foremanCycle_moves | with_reducible apply engineCycle_moves | with_reducible apply releaseEntries_moves
    | with_reducible apply snapshotBegin_moves | with_reducible apply countersEnd_moves | with_reducible apply collectorEnd_moves
    | with_reducible apply collectorBegin_moves | with_reducible apply copyCause_moves | with_reducible apply canaryEnd_moves
    | with_reducible apply canaryClock_moves | with_reducible apply bulkPump_moves | with_reducible apply assayerEnd_moves
    | with_reducible apply settleDomains_moves | split | ((with_reducible apply Moves.foldl) <;> try intro _ _)

theorem fabricCycle_moves (s : State) (hk : km &&& 0xFC000000000001 = km) (hs : Moves km s0 s) :
    Moves km s0 (fabricCycle s) := by
  refine Moves.comp (k1 := 0xFC000000000001) ?_ hk hs
  unfold fabricCycle
  repeat' first
    | with_reducible apply Moves.refl | decide | with_reducible apply runCycle_moves | with_reducible apply heldCycle_moves | split

theorem exec_moves (i : Instr) (s : State) (hk : km &&& 0xFE800000000001 = km) (hs : Moves km s0 s) :
    Moves km s0 (Out.left s (exec i s)) := by
  refine Moves.comp (k1 := 0xFE800000000001) ?_ hk hs
  unfold exec
  repeat' first
    | with_reducible apply Moves.refl | decide | with_reducible apply execSlotFallTimeout_moves
    | with_reducible apply execJournalRefreshHour_moves | with_reducible apply execRailWindDown_moves
    | with_reducible apply execSystemReset_moves | with_reducible apply execSequencerClear_moves | with_reducible apply execSlotGlitch_moves
    | with_reducible apply execSyncoTurnCrossing_moves | with_reducible apply execStartupRunning_moves
    | with_reducible apply execSlotFallComplete_moves | with_reducible apply execRegulatorGood_moves
    | with_reducible apply execConverterEnable_moves | with_reducible apply execPhaseRearm_moves | with_reducible apply execDebugHalt_moves
    | with_reducible apply execSlotUpDelayExpiry_moves | with_reducible apply execServiceLoader_moves
    | with_reducible apply execTaskPlaced_moves | with_reducible apply execDemandCommit_moves | with_reducible apply execQueuePortPop_moves
    | with_reducible apply execTrimApply_moves | with_reducible apply execBankChoice_moves
    | with_reducible apply execFirmwareRecordCommand_moves | with_reducible apply execSclLowTimeout_moves
    | with_reducible apply execVoltageChannelLost_moves | with_reducible apply execDomainChangeComplete_moves
    | with_reducible apply execGaugeWriteCommand_moves | with_reducible apply execDispatch_moves
    | with_reducible apply execSequencerDown_moves | with_reducible apply execBandApply_moves | with_reducible apply execPowerOnReset_moves
    | with_reducible apply execActivateCommand_moves | with_reducible apply execStartupFuses_moves | with_reducible apply execSlotGood_moves
    | with_reducible apply execSlotGoodLost_moves | with_reducible apply execAngleSet_moves | with_reducible apply execInterruptTrap_moves
    | with_reducible apply execVauxOvervoltageEnd_moves | with_reducible apply execFirmwareTableCommit_moves
    | with_reducible apply execConversionResult_moves | with_reducible apply execDriverEnable_moves
    | with_reducible apply execInterruptComplete_moves | with_reducible apply execQueuePortPush_moves
    | with_reducible apply execVauxWarningClear_moves | with_reducible apply execPhaseModeWrite_moves
    | with_reducible apply execVddioUndervoltage_moves | with_reducible apply execGaugeWindow_moves
    | with_reducible apply execIndicatorReplace_moves | with_reducible apply execQueuePortStage_moves
    | with_reducible apply execSlotGoodTimeout_moves | with_reducible apply execManualCommandsWrite_moves
    | with_reducible apply execLedgerWriteCommand_moves | with_reducible apply execGroupGather_moves
    | with_reducible apply execDebugResume_moves | with_reducible apply execShedDecision_moves | with_reducible apply execTaskHang_moves
    | with_reducible apply execSckEnable_moves | with_reducible apply execTachStall_moves | with_reducible apply execStorageCommand_moves
    | with_reducible apply execStorageRequest_moves | with_reducible apply execSwapRequest_moves
    | with_reducible apply execSoftwareSet_moves | with_reducible apply execRecallDecision_moves | with_reducible apply execOtpRecheck_moves
    | with_reducible apply execClearEngineFault_moves | with_reducible apply execSyncoPulse_moves
    | with_reducible apply execQueueEnable_moves | with_reducible apply execReadyWaitTimeout_moves
    | with_reducible apply execClearRecord_moves | with_reducible apply execBlowDebugFuse_moves | with_reducible apply execSynciEdge_moves
    | with_reducible apply execOwnFrequencyCommit_moves | with_reducible apply execBankVerify_moves
    | with_reducible apply execGateFaultInput_moves | with_reducible apply execEncoderCount_moves
    | with_reducible apply execStartupJournal_moves | with_reducible apply execMarkCatchUp_moves
    | with_reducible apply execSupervisionClassify_moves | with_reducible apply execRecordLayoutWrite_moves
    | with_reducible apply execSequencerDisable_moves | with_reducible apply execQueueFlush_moves | with_reducible apply execQueuePost_moves
    | with_reducible apply execMoveCommand_moves | with_reducible apply execRearmWindowExpiry_moves
    | with_reducible apply execSetApplied_moves | with_reducible apply execGaugeEnable_moves
    | with_reducible apply execRegulatorRestart_moves | with_reducible apply execRailStop_moves | with_reducible apply execRailStart_moves
    | with_reducible apply execFirmwareTargetByte_moves | with_reducible apply execTwbSleep_moves
    | with_reducible apply execResetRequest_moves | with_reducible apply execVddaRestored_moves
    | with_reducible apply execEncoderStall_moves | with_reducible apply execOtpProgramBit_moves
    | with_reducible apply execRequestDetect_moves | with_reducible apply execGroupTimeLimit_moves
    | with_reducible apply execEngineFault_moves | with_reducible apply execRailTakeover_moves
    | with_reducible apply execMarkControlWrite_moves | with_reducible apply execTaskEnable_moves
    | with_reducible apply execSecondsSet_moves | with_reducible apply execControllerStart_moves
    | with_reducible apply execControllerTransferEnd_moves | with_reducible apply execBedrockReset_moves
    | with_reducible apply execJournalRecordWrite_moves | with_reducible apply execBlowReadLock_moves
    | with_reducible apply execBlindGraceExpiry_moves | with_reducible apply execMigrationCut_moves
    | with_reducible apply execMarkUnitEnable_moves | with_reducible apply execAngleCapture_moves
    | with_reducible apply execIndexPulse_moves | with_reducible apply execAlertResponse_moves
    | with_reducible apply execGateFaultSeen_moves | with_reducible apply execFirmwareTableValidated_moves
    | with_reducible apply execMarkQueuePost_moves | with_reducible apply execRequestPulse_moves
    | with_reducible apply execFltlineAssertionEnd_moves | with_reducible apply execWideningRetry_moves
    | with_reducible apply execTaskTimer_moves | with_reducible apply execMarkTaskActivation_moves
    | with_reducible apply execVauxWarning_moves | with_reducible apply execPhaseUnpark_moves | with_reducible apply execMemberRelease_moves
    | with_reducible apply execSaturationRelease_moves | with_reducible apply execPilotEnable_moves
    | with_reducible apply execGaugeSecondStep_moves | with_reducible apply execTableSample_moves
    | with_reducible apply execDriverLimitStop_moves | with_reducible apply execTargetLevelWrite_moves
    | with_reducible apply execQwaitTimeout_moves | with_reducible apply execConsolidationTimeout_moves
    | with_reducible apply execPhaseTransition_moves | with_reducible apply execVddaUndervoltage_moves
    | with_reducible apply execBlowWriteLock_moves | with_reducible apply execOscillatorStopped_moves
    | with_reducible apply execStorageDelayExpiry_moves | with_reducible apply execPopPathPop_moves
    | with_reducible apply execMillisecondTick_moves | with_reducible apply execVauxOvervoltage_moves
    | with_reducible apply execLedgerStep_moves | with_reducible apply execTwbEnable_moves | with_reducible apply execVddioRestored_moves
    | with_reducible apply execRampTick_moves | with_reducible apply execReservationTimeout_moves
    | with_reducible apply execRegulatorEnable_moves | with_reducible apply execLockLoopUpdate_moves
    | with_reducible apply execWideningStep_moves | with_reducible apply execRegulationTimeout_moves
    | with_reducible apply execConverterTimer_moves | with_reducible apply execSoftwareClear_moves
    | with_reducible apply execDriverSoftStartEnd_moves | with_reducible apply execApplyCommand_moves
    | with_reducible apply execConverterTrigger_moves | with_reducible apply execDebugEngineReset_moves
    | with_reducible apply execTurnsPerReferenceWrite_moves | with_reducible apply execRtcCountStep_moves
    | with_reducible apply execTachEdge_moves | with_reducible apply execLighthouseFire_moves
    | with_reducible apply execTimebaseSelect_moves | with_reducible apply execCalendarSet_moves
    | with_reducible apply execMissingEdge_moves | with_reducible apply execFirmwareObjectWrite_moves
    | with_reducible apply execClearCommand_moves | with_reducible apply execVbakLow_moves | with_reducible apply execUnitReset_moves
    | with_reducible apply execMarkFifoPost_moves | with_reducible apply execFltlineFault_moves
    | with_reducible apply execArbitrationLost_moves | with_reducible apply execQwaitWake_moves
    | with_reducible apply execBedrockSupplySwitch_moves | with_reducible apply execMarkFire_moves
    | with_reducible apply execFirmwareObjectRead_moves | with_reducible apply execIndicatorOperate_moves
    | with_reducible apply execForcedEdge_moves | with_reducible apply execScrubInterval_moves
    | with_reducible apply execJournalWriteDone_moves | with_reducible apply execTwbLastResult_moves
    | with_reducible apply execScanStart_moves | with_reducible apply execAlarmFire_moves | with_reducible apply execSequencerUp_moves
    | with_reducible apply execRequestWrite_moves | with_reducible apply execRecordLayoutJudged_moves
    | with_reducible apply execMigrationSwap_moves | with_reducible apply execSenseSnapshot_moves
    | with_reducible apply execStretchLimitExpiry_moves | with_reducible apply execSoftwareTrigger_moves
    | with_reducible apply execGateRelease_moves | with_reducible apply execSlotDownDelayExpiry_moves
    | with_reducible apply execDebugSystemReset_moves | with_reducible apply execRegulatorFault_moves
    | with_reducible apply execDeadTimeEnd_moves | with_reducible apply execSyncoPulseEnd_moves
    | with_reducible apply execTableBankWrite_moves | with_reducible apply execUnitShed_moves | with_reducible apply execRearmCommand_moves
    | with_reducible apply execWakeMatch_moves | with_reducible apply execPhasePark_moves | with_reducible apply execBusClear_moves
    | with_reducible apply execReferenceLost_moves | with_reducible apply execDomainRequestWrite_moves
    | with_reducible apply execReadyRelease_moves | with_reducible apply execEndWrite_moves | with_reducible apply execReadyLoss_moves
    | with_reducible apply execRunControlWrite_moves | with_reducible apply execEncoderEnable_moves
    | with_reducible apply execOtpCommandEnd_moves | with_reducible apply execJournalEnable_moves
    | with_reducible apply execWheelModeWrite_moves | with_reducible apply execGainCommit_moves
    | with_reducible apply execSenseRestart_moves | with_reducible apply execSenseModeWrite_moves
    | with_reducible apply execPrecisionResult_moves | with_reducible apply execStreamSilence_moves
    | with_reducible apply execManchesterCodingError_moves | with_reducible apply execFastResultDelivery_moves
    | with_reducible apply execDebugSystemBusAccess_moves | with_reducible apply execWfi_moves | with_reducible apply execTang_moves
    | with_reducible apply execQpush_moves | with_reducible apply execAmo_moves | with_reducible apply execScW_moves
    | with_reducible apply execQwait_moves | with_reducible apply execQmul_moves | with_reducible apply execQpop_moves
    | with_reducible apply execLrW_moves | with_reducible apply execTreach_moves | with_reducible apply execSnapshotMaskWrite_moves
    | with_reducible apply execCounterEvent_moves | with_reducible apply execFirmwareReport_moves
    | with_reducible apply execCollectorStorageError_moves | with_reducible apply execRecoveryWindowExpiry_moves
    | with_reducible apply execHarbourAutomaticExit_moves | with_reducible apply execHarbourEnterCommand_moves
    | with_reducible apply execHarbourRelease_moves | with_reducible apply execFaultPost_moves | with_reducible apply execFaultReport_moves
    | with_reducible apply execReturnFailure_moves | with_reducible apply execPllRelock_moves
    | with_reducible apply execAutomaticReturn_moves | with_reducible apply execReturnRequest_moves
    | with_reducible apply execPllUnlock_moves | with_reducible apply execXiLoss_moves | with_reducible apply execXiQualifyTimeout_moves
    | with_reducible apply execXiQualified_moves | with_reducible apply execButtonHeld10s_moves | with_reducible apply execWakeTaken_moves
    | with_reducible apply execButtonLongPress_moves | with_reducible apply execButtonShortPress_moves
    | with_reducible apply execShutdownOpening_moves | with_reducible apply execSwitchCommand_moves
    | with_reducible apply execSwitchClose_moves | with_reducible apply execSearchHoldExpiry_moves
    | with_reducible apply execSearchStepPeriod_moves | with_reducible apply execChgStartDelayExpiry_moves
    | with_reducible apply execOutage_moves | with_reducible apply execReturnDelayExpiry_moves | with_reducible apply execSourceLost_moves
    | with_reducible apply execSourcePresent_moves | with_reducible apply execPowerPathEnable_moves
    | with_reducible apply execCutbackEvaluation_moves | with_reducible apply execChargeStageChange_moves
    | with_reducible apply execChargerClear_moves | with_reducible apply execChargerEnable_moves
    | with_reducible apply execChemistryWrite_moves | with_reducible apply execCanaryLock_moves | with_reducible apply execCheckIn_moves
    | with_reducible apply execCanaryService_moves | with_reducible apply execBiteDelayExpiry_moves
    | with_reducible apply execCanaryExpiry_moves | with_reducible apply execCanaryWarning_moves
    | with_reducible apply execCanaryServiceTaken_moves | with_reducible apply execTpdoEvent_moves
    | with_reducible apply execSyncProduce_moves | with_reducible apply execSyncReceived_moves | with_reducible apply execRpdoReceived_moves
    | with_reducible apply execSdoTimeout_moves | with_reducible apply execSdoRequest_moves | with_reducible apply execBulkAbort_moves
    | with_reducible apply execLssFastscan_moves | with_reducible apply execLssInquire_moves
    | with_reducible apply execLssStoreConfiguration_moves | with_reducible apply execLssActivateBitTiming_moves
    | with_reducible apply execLssConfigureBitTiming_moves | with_reducible apply execLssConfigureNodeId_moves
    | with_reducible apply execLssSwitchStateSelective_moves | with_reducible apply execLssSwitchStateGlobal_moves
    | with_reducible apply execLineSwitchOver_moves | with_reducible apply execEmcySend_moves
    | with_reducible apply execHeartbeatTimeout_moves | with_reducible apply execHeartbeatProduce_moves
    | with_reducible apply execNmtCommand_moves | with_reducible apply execRawFramePop_moves | with_reducible apply execBusOffRecovery_moves
    | with_reducible apply execBusIntegration_moves | with_reducible apply execCanFrameReceived_moves
    | with_reducible apply execCanEnable_moves | with_reducible apply execCanFrameSent_moves | with_reducible apply execBulkAbortFrame_moves
    | with_reducible apply execBulkEndFrame_moves | with_reducible apply execBulkDataFrame_moves
    | with_reducible apply execBulkAckFrame_moves | with_reducible apply execBulkTimeout_moves | with_reducible apply execBulkStart_moves
    | with_reducible apply execAuthLockoutEnd_moves | with_reducible apply execCommandSubmit_moves | with_reducible apply execCheckEnd_moves
    | with_reducible apply execScanReadReturn_moves | with_reducible apply execFeedByte_moves | with_reducible apply execFeedWord_moves
    | with_reducible apply execAssayerAbort_moves | with_reducible apply execEndFeed_moves | with_reducible apply execBeginFeed_moves
    | with_reducible apply execAssayerScan_moves | with_reducible apply execStoppingPhaseEnd_moves
    | with_reducible apply execTwbObjectWrite_moves | with_reducible apply execTwbObjectRead_moves
    | with_reducible apply execCommandWrites_moves | with_reducible apply execLogPop_moves | with_reducible apply execInterruptClaim_moves
    | with_reducible apply execBankDataWrite_moves | with_reducible apply execDomainDataWrite_moves
    | with_reducible apply execDomainDataRead_moves | with_reducible apply execPairReadSnapshot_moves
    | with_reducible apply execPairHighWrite_moves | with_reducible apply execPairLowWrite_moves | with_reducible apply execRcRead_moves
    | with_reducible apply execObjectWrite_moves | split

theorem State.withFetchWord_moves (s : State) (nbits : ℕ) (x2 : ℕ) (hk : km &&& 0xFFFFFFFFFFFFFE = km) (hs : Moves km s0 s) :
    Moves km s0 (State.withFetchWord s nbits x2) := by
  refine Moves.comp (k1 := 0xFFFFFFFFFFFFFE) ?_ hk hs
  unfold State.withFetchWord
  repeat' first
    | with_reducible apply Moves.refl | decide | split | with_reducible apply Moves.of_pending

end Sys2Proof.Machine
end

