-- ==== Sys2Proof/WellFormed.lean ====
section
/-! DEFINITION. The commands that can be sent: lengths and values of accesses (R441, R447), CAN frames (R469), reset triggers
(R795), two-wire transfers (R523). -/
namespace Sys2Proof

/-- R441, R447: an access moves one to four bytes, and its value fits them. -/
def Wr.wf (w : Wr) : Bool := decide (1 ≤ w.len) && decide (w.len ≤ 4) && decide (w.value.toNat < 2 ^ (8 * w.len))

/-- R441, R447: a read moves one to four bytes. -/
def Rd.wf (r : Rd) : Bool := decide (1 ≤ r.len) && decide (r.len ≤ 4)

/-- R469: the data lengths of a format: CC to 8 bytes, FD the lengths it can code, XL 1 to 2048. -/
def frameLengthOk (format : Fin 5) (n : Nat) : Bool :=
  match format with
  | 0 => decide (n ≤ 8)
  | 1 => decide (n ≤ 8)
  | 2 => decide (n ≤ 8) || [12, 16, 20, 24, 32, 48, 64].contains n
  | 3 => decide (n ≤ 8) || [12, 16, 20, 24, 32, 48, 64].contains n
  | 4 => decide (1 ≤ n) && decide (n ≤ 2048)

/-- R469: a frame that can stand on a bus: 11 identifier bits in the base formats and in XL, a bit-rate switch only in FD, an
SDU type and an acceptance field only in XL. -/
def Frame.wf (f : Frame) : Bool :=
  frameLengthOk f.format f.data.length &&
  ((f.format == 1 || f.format == 3) || decide (f.ident.toNat < 2048)) &&
  (!f.brs || f.format == 2 || f.format == 3) &&
  (f.format == 4 || (f.sdt == 0 && f.acceptance == 0))

/-- R523: a transfer reads at most 32 bytes and acknowledges at most 32. -/
def TwbOutcome.wf (o : TwbOutcome) : Bool :=
  match o with
  | .done read _ => decide (read.length ≤ 32)
  | .addressNack => true
  | .dataNack count => decide (count.toNat ≤ 32)

/-- Whether a command can be sent. -/
def Instr.wf (c : Instr) : Bool :=
  match c with
  | .objectWrite _ _ w => w.wf
  | .rcRead _ _ r => r.wf
  | .pairLowWrite _ _ w => w.wf
  | .pairHighWrite _ _ w => w.wf
  | .pairReadSnapshot _ _ r => r.wf
  | .stoppingPhaseEnd _ => true
  | .bedrockReset => true
  | .powerOnReset trigger _ => decide (1 ≤ trigger.toNat) && decide (trigger.toNat ≤ 4)
  | .systemReset trigger => decide (1 ≤ trigger.toNat) && decide (trigger.toNat ≤ 5)
  | .xiQualified _ => true
  | .xiQualifyTimeout => true
  | .xiLoss _ => true
  | .pllUnlock => true
  | .returnRequest w => w.wf
  | .automaticReturn => true
  | .pllRelock => true
  | .returnFailure => true
  | .millisecondTick => true
  | .wheelModeWrite _ w => w.wf
  | .ownFrequencyCommit _ w => w.wf
  | .angleSet _ w => w.wf
  | .turnsPerReferenceWrite _ w => w.wf
  | .synciEdge _ _ => true
  | .lockLoopUpdate _ => true
  | .referenceLost _ => true
  | .encoderCount _ _ _ _ _ => true
  | .indexPulse _ _ => true
  | .encoderStall _ => true
  | .encoderEnable _ w => w.wf
  | .syncoPulseEnd => true
  | .markFire _ => true
  | .markCatchUp _ => true
  | .markControlWrite _ w => w.wf
  | .converterTrigger => true
  | .senseSnapshot => true
  | .bandApply => true
  | .tableSample => true
  | .markTaskActivation => true
  | .markQueuePost => true
  | .syncoPulse => true
  | .angleCapture => true
  | .markFifoPost => true
  | .markUnitEnable w => w.wf
  | .sckEnable _ w => w.wf
  | .fastResultDelivery _ _ => true
  | .manchesterCodingError _ => true
  | .streamSilence _ => true
  | .precisionResult _ => true
  | .senseModeWrite _ w => w.wf
  | .senseRestart _ w => w.wf
  | .gainCommit _ w => w.wf
  | .phaseTransition _ => true
  | .forcedEdge _ => true
  | .deadTimeEnd _ => true
  | .pilotEnable _ w => w.wf
  | .missingEdge _ => true
  | .gateFaultInput _ _ => true
  | .gateFaultSeen _ => true
  | .phaseRearm _ => true
  | .rearmWindowExpiry _ => true
  | .rearmCommand _ w => w.wf
  | .phasePark _ => true
  | .phaseUnpark _ => true
  | .phaseModeWrite _ w => w.wf
  | .manualCommandsWrite _ w => w.wf
  | .railStart _ w => w.wf
  | .railStop _ w => w.wf
  | .railWindDown _ w => w.wf
  | .demandCommit _ w => w.wf
  | .applyCommand _ w => w.wf
  | .swapRequest _ w => w.wf
  | .tableBankWrite _ _ _ w => w.wf
  | .rampTick _ _ => true
  | .unitShed _ _ => true
  | .shedDecision _ => true
  | .recallDecision _ => true
  | .supervisionClassify _ _ => true
  | .blindGraceExpiry _ _ => true
  | .voltageChannelLost _ _ => true
  | .regulationTimeout _ => true
  | .railTakeover _ _ => true
  | .memberRelease _ w => w.wf
  | .saturationRelease _ w => w.wf
  | .clearRecord _ w => w.wf
  | .activateCommand _ w => w.wf
  | .taskTimer _ => true
  | .dispatch _ => true
  | .endWrite _ w => w.wf
  | .taskHang _ => true
  | .taskEnable _ w => w.wf
  | .taskPlaced _ => true
  | .migrationCut => true
  | .migrationSwap => true
  | .consolidationTimeout => true
  | .moveCommand _ w => w.wf
  | .clearEngineFault w => w.wf
  | .tang _ _ _ => true
  | .treach _ _ _ _ => true
  | .qmul _ _ _ _ => true
  | .qpush _ _ _ _ => true
  | .qpop _ _ _ => true
  | .qwait _ _ _ _ => true
  | .qwaitWake _ => true
  | .qwaitTimeout _ => true
  | .lrW _ _ _ => true
  | .scW _ _ _ _ => true
  | .amo _ _ _ _ _ => true
  | .reservationTimeout _ => true
  | .wfi _ => true
  | .interruptTrap _ => true
  | .engineFault _ _ _ => true
  | .scrubInterval _ => true
  | .runControlWrite _ w => w.wf
  | .unitReset _ => true
  | .debugHalt _ => true
  | .debugResume _ => true
  | .debugEngineReset _ => true
  | .debugSystemReset => true
  | .debugSystemBusAccess _ => true
  | .queuePortPop _ _ => true
  | .queuePortStage _ _ _ => true
  | .queuePortPush _ _ _ => true
  | .queuePost => true
  | .popPathPop _ => true
  | .queueEnable _ w => w.wf
  | .queueFlush _ w => w.wf
  | .domainDataRead _ r => r.wf
  | .domainDataWrite _ w => w.wf
  | .firmwareTableCommit w => w.wf
  | .firmwareTableValidated => true
  | .firmwareObjectRead _ _ r => r.wf
  | .firmwareObjectWrite _ _ w => w.wf
  | .canEnable _ w => w.wf
  | .canFrameReceived _ f _ => f.wf
  | .canFrameSent _ _ => true
  | .busOffRecovery _ => true
  | .rawFramePop _ => true
  | .nmtCommand => true
  | .sdoRequest => true
  | .sdoTimeout => true
  | .rpdoReceived => true
  | .syncReceived => true
  | .syncProduce => true
  | .tpdoEvent _ _ => true
  | .heartbeatProduce => true
  | .heartbeatTimeout _ => true
  | .emcySend => true
  | .lssSwitchStateGlobal => true
  | .lssSwitchStateSelective => true
  | .lssConfigureNodeId => true
  | .lssConfigureBitTiming => true
  | .lssActivateBitTiming => true
  | .lssStoreConfiguration => true
  | .lssInquire => true
  | .lssFastscan => true
  | .lineSwitchOver => true
  | .bulkStart w => w.wf
  | .bulkDataFrame => true
  | .bulkAckFrame => true
  | .bulkEndFrame => true
  | .bulkAbortFrame => true
  | .bulkAbort w => w.wf
  | .bulkTimeout => true
  | .commandSubmit w => w.wf
  | .commandWrites => true
  | .authLockoutEnd => true
  | .twbEnable _ w => w.wf
  | .twbObjectRead _ _ _ => true
  | .twbObjectWrite _ _ => true
  | .twbLastResult _ => true
  | .stretchLimitExpiry _ => true
  | .sclLowTimeout _ _ => true
  | .firmwareTargetByte _ _ => true
  | .controllerStart _ w => w.wf
  | .controllerTransferEnd _ o => o.wf
  | .arbitrationLost _ _ => true
  | .busClear _ _ _ => true
  | .clearCommand _ w => w.wf
  | .requestWrite _ w => w.wf
  | .requestPulse _ _ _ => true
  | .alertResponse _ _ => true
  | .requestDetect _ _ _ => true
  | .twbSleep _ w => w.wf
  | .wakeMatch _ _ => true
  | .softwareTrigger _ w => w.wf
  | .converterTimer _ => true
  | .scanStart _ => true
  | .conversionResult _ _ _ => true
  | .converterEnable _ w => w.wf
  | .tachEdge _ _ => true
  | .tachStall _ => true
  | .vauxWarning _ _ => true
  | .vauxWarningClear _ _ => true
  | .vauxOvervoltage _ _ => true
  | .vddioUndervoltage _ _ => true
  | .vddaUndervoltage _ _ => true
  | .regulatorEnable _ w => w.wf
  | .regulatorGood _ _ => true
  | .regulatorFault _ _ _ => true
  | .regulatorRestart _ => true
  | .driverEnable w => w.wf
  | .driverLimitStop _ _ => true
  | .domainRequestWrite w => w.wf
  | .domainChangeComplete _ => true
  | .sequencerUp w => w.wf
  | .sequencerDown w => w.wf
  | .sequencerClear w => w.wf
  | .slotUpDelayExpiry _ => true
  | .slotGood _ _ => true
  | .slotGoodTimeout _ => true
  | .slotGoodLost _ _ => true
  | .slotGlitch _ _ => true
  | .readyWaitTimeout => true
  | .readyRelease _ => true
  | .slotDownDelayExpiry _ => true
  | .slotFallTimeout _ => true
  | .sequencerDisable w => w.wf
  | .fltlineFault _ _ => true
  | .fltlineAssertionEnd => true
  | .readyLoss _ => true
  | .chemistryWrite w => w.wf
  | .chargerEnable w => w.wf
  | .chargeStageChange => true
  | .chargerClear w => w.wf
  | .cutbackEvaluation => true
  | .powerPathEnable w => w.wf
  | .sourcePresent => true
  | .sourceLost => true
  | .returnDelayExpiry => true
  | .outage => true
  | .chgStartDelayExpiry => true
  | .searchStepPeriod => true
  | .searchHoldExpiry => true
  | .switchClose => true
  | .switchCommand w => w.wf
  | .shutdownOpening => true
  | .storageCommand w => w.wf
  | .storageDelayExpiry => true
  | .buttonShortPress _ => true
  | .buttonLongPress _ => true
  | .wakeTaken => true
  | .storageRequest _ => true
  | .buttonHeld10s _ => true
  | .gaugeWindow => true
  | .gaugeSecondStep => true
  | .gaugeEnable w => w.wf
  | .gaugeWriteCommand w => w.wf
  | .interruptClaim _ r => r.wf
  | .interruptComplete _ w => w.wf
  | .softwareSet w => w.wf
  | .softwareClear w => w.wf
  | .groupGather _ _ => true
  | .groupTimeLimit _ => true
  | .lighthouseFire => true
  | .canaryService w => w.wf
  | .canaryServiceTaken => true
  | .canaryWarning => true
  | .canaryExpiry => true
  | .checkIn w => w.wf
  | .biteDelayExpiry => true
  | .canaryLock w => w.wf
  | .faultReport => true
  | .faultPost => true
  | .harbourRelease w => w.wf
  | .harbourEnterCommand w => w.wf
  | .harbourAutomaticExit => true
  | .recoveryWindowExpiry => true
  | .collectorStorageError _ _ => true
  | .logPop r => r.wf
  | .firmwareReport w => w.wf
  | .timebaseSelect _ => true
  | .oscillatorStopped => true
  | .trimApply => true
  | .secondsSet w => w.wf
  | .calendarSet w => w.wf
  | .setApplied => true
  | .alarmFire => true
  | .bedrockSupplySwitch _ => true
  | .vbakLow _ => true
  | .otpProgramBit w => w.wf
  | .blowWriteLock w => w.wf
  | .blowReadLock w => w.wf
  | .blowDebugFuse w => w.wf
  | .otpRecheck w => w.wf
  | .otpCommandEnd _ => true
  | .journalRecordWrite => true
  | .journalWriteDone _ => true
  | .journalRefreshHour => true
  | .journalEnable w => w.wf
  | .recordLayoutWrite _ w => w.wf
  | .recordLayoutJudged _ => true
  | .firmwareRecordCommand w => w.wf
  | .assayerScan _ w => w.wf
  | .beginFeed _ w => w.wf
  | .endFeed _ w => w.wf
  | .assayerAbort _ w => w.wf
  | .feedWord _ w => w.wf
  | .feedByte _ w => w.wf
  | .scanReadReturn _ => true
  | .checkEnd _ => true
  | .snapshotMaskWrite w => w.wf
  | .counterEvent _ _ => true
  | .ledgerStep => true
  | .indicatorReplace _ _ w => w.wf
  | .indicatorOperate _ w => w.wf
  | .ledgerWriteCommand w => w.wf
  | .startupFuses => true
  | .startupJournal => true
  | .bankVerify _ _ => true
  | .bankChoice => true
  | .wideningStep _ _ _ _ => true
  | .startupRunning => true
  | .serviceLoader => true
  | .resetRequest w => w.wf
  | .targetLevelWrite w => w.wf
  | .wideningRetry w => w.wf
  | .bankDataWrite _ w _ => w.wf
  | .syncoTurnCrossing => true
  | .gateRelease _ => true
  | .busIntegration _ => true
  | .vddioRestored _ _ => true
  | .vddaRestored _ _ => true
  | .vauxOvervoltageEnd _ _ => true
  | .driverSoftStartEnd _ => true
  | .slotFallComplete _ _ => true
  | .rtcCountStep => true

end Sys2Proof
end

