-- ==== Sys2Proof/Tests/Slice0.lean ====
section
/-! SUPPORT. Tests: worked examples of the spec, ill-formed terms, and for each statement states and operands that meet the
hypotheses of its clauses. -/
namespace Sys2Proof.Tests
open Sys2Proof Sys2Proof.Machine
-- One theorem at a time: each kernel evaluation takes a thread of its own.
set_option Elab.async false

/-! ### Small states -/

/-- A state with some object words set. -/
def withWords (s : State) (l : List (Nat × Nat × Nat)) : State := l.foldl (fun s p => s.putN p.1 p.2.1 p.2.2) s

/-- Reset with every domain ON, start-up in state running, OTP and Journal defaults loaded, and every unit admitted. -/
def ready : State :=
  withWords { State.reset with startup := { State.reset.startup with otpLoaded := true, journalLoaded := true } }
    [(0x2D01, 2, 0xAAAA), (0x3800, 1, 5), (0x2001, 3, 4), (0x2001, 7, 0xFFFF), (0x2001, 8, 0xFFFFFFFF), (0x2001, 9, 0xFFFF)]

/-- The ready state with some object words set. -/
def st (l : List (Nat × Nat × Nat)) : State := withWords ready l

/-- A four-byte write by E0 in machine mode. -/
def wr (v : Nat) : Wr := { master := .engine 0 false, len := 4, value := BitVec.ofNat 32 v }

/-- A four-byte read by E0 in machine mode. -/
def rd : Rd := { master := .engine 0 false, len := 4 }

/-- Whether a write passes the checks. -/
def may (s : State) (w : Wr) (i j : Nat) : Bool := masterLive s w.master && checkWrite s w false i j == .accepted

/-- Whether a read is not refused. -/
def sees (s : State) (r : Rd) (i j : Nat) : Bool := masterLive s r.master && checkRead s r i j == .accepted

theorem may_writePasses {s : State} {w : Wr} {i j : Nat} (h : may s w i j = true) : writePasses s w i j := by
  simpa [may, writePasses] using h

theorem sees_readPasses {s : State} {r : Rd} {i j : Nat} (h : sees s r i j = true) : readPasses s r i j := by
  simpa [sees, readPasses] using h

/-- The next state of an outcome that has one. -/
def after (o : Out) : Option State :=
  match o with
  | .next t => some t
  | _ => none

/-! ### Witnesses: steps, accesses, resets -/

/-- A step from reset, and one held in reset, answer a next state that keeps the invariants. -/
theorem witness_steps :
  (((after (step State.reset)).map (fun t => t.canonical && t.gatesApart && t.shaped)) = some true) ∧
  (State.reset.pending = [] ∧ State.reset.held = false) ∧
  (({ State.reset with aon := { State.reset.aon with porst := true } } : State).held = true) ∧
  (((after (exec .millisecondTick State.reset)).map (fun t => t.nv.otp)) = some State.reset.nv.otp) := by decide +kernel

/-- R444: an access for each outcome of the checks, in their order. -/
theorem witness_AccessChecksInTableOrder :
  (checkWrite ready (wr 1) false 0x0001 0 = .noObject) ∧
  (checkWrite (st [(0x2D01, 2, 0x02AA)]) (wr 1) false 0x21C0 1 = .domain) ∧
  (checkWrite ready { master := .engine 0 true, len := 4, value := 1 } false 0x3800 0x0B = .privilege) ∧
  (checkWrite ready { master := .engine 0 false, len := 2, value := 1 } false 0x2100 2 = .length) ∧
  (checkWrite ready (wr 1) false 0x3300 0x0D = .pair) ∧
  (checkWrite ready (wr 1) false 0x2000 1 = .readOnly) ∧
  (checkWrite ready (wr 1) false 0x3710 0x0F = .authentication) ∧
  (checkWrite ready (wr 9) false 0x2100 1 = .range) ∧
  (checkWrite (withWords State.reset [(0x2D01, 2, 0xAAAA)]) (wr 1) false 0x2D00 1 = .state) ∧
  (checkWrite ready (wr 1) false 0x2100 1 = .accepted) := by decide +kernel

/-- R12, R21, R454: words of each access code, and their effects. -/
theorem witness_access_codes :
  (may ready (wr 1) 0x3801 3 = true ∧ (objRow 0x3801 3).map (·.acc) = some .rw) ∧
  (may ready (wr 1) 0x3800 0x0F = true ∧ (objRow 0x3800 0x0F).map (·.acc) = some .w1c) ∧
  ((objRow 0x21A0 8).map (·.acc) = some .rc ∨ (objRow 0x21A0 6).map (·.acc) = some .rc) := by decide +kernel

theorem witness_plain_effect : wordEff 0x3800 0x0F = plainWrite 0x3800 0x0F := rfl

/-- R454: the counter pair 3610h:0Ch, 0Dh, the alarm pair 3300h:0Ch, 0Dh and the learned pair 2F01h:01h, 02h take a high word
after their staged low word. -/
theorem witness_PairWritesStageAndCommit :
  (may ready (wr 1) 0x3610 0x0C = true) ∧
  (let s := ready.modMaster (.engine 0 false) (fun x => { x with staged := some (objKey 0x3610 0x0C, 7) })
   may s (wr 1) 0x3610 0x0D = true ∧ s.cycleCount (objKey 0x3610 0x0C) = none) ∧
  (may (ready.modMaster (.engine 0 false) (fun x => { x with staged := some (objKey 0x3300 0x0C, 7) })) (wr 0xFF) 0x3300 0x0D = true) ∧
  (may (ready.modMaster (.engine 0 false) (fun x => { x with staged := some (objKey 0x2F01 1, 7) })) (wr 1) 0x2F01 2 = true ∧
    0 ≤ (dw 7 1).toInt) := by decide +kernel

/-- R12, R13, R450, R451: reads of an RC word, one that events of the cycle have moved, and of both words of a pair. -/
theorem witness_ReadsClearAndBuffer :
  (sees ready rd 0x21B0 5 = true ∧ (objRow 0x21B0 5).map (·.acc) = some .rc ∧ latches 0x21B0 5 = [] ∧ latchedBy 0x21B0 5 = none) ∧
  (((ready.bump 0x21B0 5 16).cycleCount (objKey 0x21B0 5)).isSome = true ∧ sees (ready.bump 0x21B0 5 16) rd 0x21B0 5 = true) ∧
  (sees ready rd 0x3610 0x0C = true ∧ (objRow 0x3610 0x0C).map (·.ty.isLow) = some true ∧ latches 0x3610 0x0C = []) ∧
  (Sparse.find ((ready.modMaster (.engine 0 false) (fun x => { x with buffer := [(objKey 0x3610 0x0D, 5)] })).master
    (.engine 0 false)).buffer (objKey 0x3610 0x0D) = some 5) := by decide +kernel

theorem witness_plain_read : readEff 0x21B0 5 = readWord 0x21B0 5 ∧ readEff 0x3610 0x0C = readWord 0x3610 0x0C := ⟨rfl, rfl⟩

/-- R449, R507, R811: reads and writes of DOMAIN data words. -/
theorem witness_DomainObjectTransfers :
  (sees (st [(0x3802, 2, 24)]) rd (domainIndex .bankA) 3 = true ∧ domainOffset (st [(0x3802, 2, 24)]) (domainIndex .bankA) < domainSize (st [(0x3802, 2, 24)]) (domainIndex .bankA)) ∧
  (flashOff ready (domainIndex .bankA) 3 = false) ∧
  (may ready (wr 1) 0x2A81 3 = true ∧ domainOffset ready 0x2A81 < 152 ∧ ready.nat 0x2A80 1 = 0) ∧
  (let s := st [(0x3802, 2, 24), (0x3808, 2, 4)]
   may s (wr 1) 0x3808 3 = true ∧ s.on 7 = true ∧ domainOffset s 0x3808 < domainSize s 0x3808 ∧ s.nat 0x3800 4 ≠ 1 ∧
     s.sup.vddioLow = false ∧ (bankBase 0x3808 + domainOffset s 0x3808) % 4096 ≠ 0) := by decide +kernel

/-- A firmware object table of one entry at 1000_0000h: index 6000h, subindexes up to 01h, UNSIGNED32, backed at 1000_0100h. -/
def tabled : State :=
  ((((st [(0x2020, 5, 0x10000000), (0x2020, 6, 1)]).putWord 0x10000000 0x00016000).putWord 0x10000004 0x10000100).putWord
    0x10000008 0x00000107).putWord 0x1000000C 0

/-- R459 to R467: the table and its objects. -/
theorem witness_FirmwareTableAndObjects :
  (may ready (wr 1) 0x2020 2 = true ∧ ready.fwt.validating = none) ∧
  (let s := { tabled with fwt := { tabled.fwt with validating := some (0x10000000, 1) }, now := 100 }
   s.on 2 = true ∧ tableFault s 0x10000000 1 = 0 ∧ (readWords s (tableWords s 0x10000000 1)).2 = true ∧
     s.fwt.since + (tableWords s 0x10000000 1).length ≤ s.t) ∧
  (isFirmware 0x6000 = true ∧ (fwEntry tabled 0x6000).isSome = true) ∧
  ((match fwEntry tabled 0x6000 with
   | some x =>
     match fwRowOf tabled x 1 with
     | some r => !fwPrivileged tabled (.engine 0 false) false 0x6000 1 && !fwPrivileged tabled (.engine 0 false) true 0x6000 1 &&
         (readWords (tabled.bump 0x2020 8 32) (fwTouched tabled x 1 r)).2 && !readLength rd &&
         fwCheckWrite tabled (wr 5) false 0x6000 1 r true == .accepted
     | none => false
   | none => false) = true) := by decide +kernel

/-- R55, R56, R92: resets. -/
theorem witness_ResetsRecordCauseAndRestart :
  (masterLive (st [(0x3400, 4, 0)]) .debug = true) ∧ (may ready (wr 1) 0x3800 0x0B = true) ∧ (ready.rtc.away = false) := by decide +kernel

/-! ### Witnesses: clocks, Tide, encoders, marks -/

/-- The clock generator's part changed in a state. -/
def clocked (s : State) (f : ClockGen → ClockGen) : State := s.modClk f

/-- R84 to R90: the states of the clock generator in which each change comes to pass. -/
theorem witness_ClockGeneratorChangesState :
  (let s : State := { st [] with real := 400000, now := 320000 }
   100 ≤ (List.replicate 100 225).length ∧ (∀ n ∈ List.replicate 100 275, 225 ≤ n ∧ n ≤ 275) ∧
     s.clk.xiFrom + 400000 ≤ s.real ∧ clockState s = 0 ∧ s.clk.unlocked = false ∧ s.t ≤ 320000 ∧ 320000 ≤ s.t) ∧
  (clockState (st [(0x21B0, 1, 1)]) = 1 ∧ clockState (st [(0x21B0, 1, 2)]) = 2) ∧
  (ready.nat 0x3800 1 ≠ 0 ∧ State.reset.nat 0x3800 1 = 0) ∧
  (let s := st [(0x21B0, 1, 2), (0x21B0, 8, 1), (0x21B0, 3, 1)]
   may s (wr 1) 0x21B0 4 = true ∧ xiGood s = true ∧ s.flag 0x21B0 3 0 = true) ∧
  (xiGood (st [(0x21B0, 1, 2)]) = false ∧ may (st [(0x21B0, 1, 2)]) (wr 1) 0x21B0 4 = true) ∧
  (let s := clocked (st []) (fun c => { c with unlocked := true })
   may s (wr 1) 0x21B0 4 = true ∧ clockState s = 0 ∧ s.clk.relock = none) ∧
  (let s : State := { clocked (st []) (fun c => { c with relock := some (0, true) }) with now := 1600 }
   clockState s = 0 ∧ s.t ≤ 0 + 1600 ∧ 0 + 1600 ≤ s.t) ∧
  (let s : State := { clocked (st [(0x21B0, 1, 2)]) (fun c => { c with returnAt := some 0 }) with now := 20000000 }
   s.clk.relock = none ∧ s.clk.returnAt = some 0 ∧ 0 + 20000000 ≤ s.t) := by decide +kernel

/-- R101, R112, R130, R138: writes of a wheel's words, and an encoder that can drive one. -/
theorem witness_WheelWritesTakeEffect :
  (may ready (wr 0) (wheelIdx 0) 1 = true ∧ may ready (wr 1) (wheelIdx 7) 1 = true ∧ may ready (wr 2) (wheelIdx 0) 1 = true ∧
    may ready (wr 4) (wheelIdx 0) 1 = true ∧ wheelMode ready 0 = 0) ∧
  (let s := st [(encIdx 0, 1, 1), (encIdx 0, 2, 4), (wheelIdx 0, 0x19, 1)]
   may s (wr 3) (wheelIdx 0) 1 = true ∧ encoderDrives s (wheelEnc s 0) (wheelPP s 0) = true) ∧
  (may ready (wr 0) (wheelIdx 0) 2 = true ∧ (carried (wr 0) (wheelIdx 0) 2).toNat * 256 + ready.nat (wheelIdx 0) 3 = 0) ∧
  (may ready (wr 21474836) (wheelIdx 0) 2 = true ∧
    (carried (wr 21474836) (wheelIdx 0) 2).toNat * 256 + ready.nat (wheelIdx 0) 3 ≤ 5497558138) ∧
  (may (st [(wheelIdx 0, 3, 38)]) (wr 2) (wheelIdx 0) 2 = true ∧
    (carried (wr 2) (wheelIdx 0) 2).toNat * 256 + (st [(wheelIdx 0, 3, 38)]).nat (wheelIdx 0) 3 = 550) ∧
  (may ready (wr 5) (wheelIdx 0) 7 = true ∧ wheelLock ready 0 ≠ 5) ∧
  (may (st [(wheelIdx 0, 1, 2)]) (wr 5) (wheelIdx 0) 0x0D = true) := by decide +kernel

/-- A loop result that is due. -/
def dueLoop : LoopResult :=
  { due := 1, period := 1000, fper := 1000, range := 500, fown := 1000, ep := 10, kp := 1, ki := 1, window := 100, lockCount := 2 }

/-- R103, R108, R110, R111, R126: reference events, loop results and a lost reference. -/
theorem witness_LockLoopFollowsItsReference :
  (ready.on 5 = true ∧ synciDeglitch ready ≤ synciDeglitch ready ∧ ready.tide.synciLevel ≠ (true && !ready.sup.vddioLow) ∧
    (true = (ready.obj 0x21B2 1 == 0))) ∧
  (let s := st [(0x21B2, 1, 1)]
   s.tide.synciLevel ≠ (true && !s.sup.vddioLow) ∧ true ≠ (s.obj 0x21B2 1 == 0)) ∧
  (let s := (st [(wheelIdx 3, 1, 2), (wheelIdx 3, 0x0B, 1)]).modWheel 3 (fun x => { x with loop := some dueLoop })
   s.shaped = true ∧ (s.wheel 3).loop = some dueLoop ∧ dueLoop.due ≤ s.t + 1 ∧ wheelMode s 3 = 2 ∧ wheelLock s 3 = 1 ∧
     1 < dueLoop.lockCount) ∧
  (let s : State := { (st [(wheelIdx 3, 1, 2), (wheelIdx 3, 0x0B, 3)]).modWheel 3 (fun x => { x with
     start := some 0, own := 1099511627776, lossFactor := 12, mult := 2 }) with now := 3 }
   wheelLock s 3 = 3 ∧ (s.wheel 3).start = some 0 ∧
     (s.wheel 3).lossFactor * (s.wheel 3).mult * 1099511627776 ≤ (s.t - 0) * 8 * (s.wheel 3).own) := by decide +kernel

/-- An enabled encoder 0 of 400 counts, filter 0. -/
def encoded (l : List (Nat × Nat × Nat)) : State := st ([(encIdx 0, 1, 1), (encIdx 0, 2, 400), (encIdx 0, 4, 0)] ++ l)

/-- R113 to R125: levels, index pulses and stalls of encoders. -/
theorem witness_EncodersCountAndJudge :
  (ready.flag (encIdx 0) 1 0 = false ∧ (st [(0x2D01, 2, 0x02AA)]).on 5 = false) ∧
  (let s := encoded []
   s.on 5 = true ∧ s.flag (encIdx 0) 1 0 = true ∧ s.nat (encIdx 0) 4 + 1 ≤ 1 ∧ (s.enc 0).a = false ∧ (s.enc 0).b = false ∧
     s.sup.vddioLow = false) ∧
  (let s := encoded [(encIdx 0, 5, 1)]
   indexQualified s 0 = true ∧ s.nat (encIdx 0) 5 = 1) ∧
  (let s := encoded [(encIdx 0, 5, 2)]
   indexQualified s 0 = true ∧ s.flag (encIdx 0) 0x0F 0 = false) ∧
  (let s := encoded [(encIdx 0, 5, 3), (encIdx 0, 0x0F, 1), (encIdx 0, 8, 2), (encIdx 0, 0x0C, 2)]
   s.flag (encIdx 0) 0x0F 0 = true ∧ positionError (s.nat (encIdx 0) 2) (s.nat (encIdx 0) 0x0C) (s.nat (encIdx 0) 7) ≤
     s.nat (encIdx 0) 8) ∧
  (let s := encoded [(encIdx 0, 5, 3), (encIdx 0, 0x0F, 1), (encIdx 0, 8, 2), (encIdx 0, 0x0C, 3)]
   s.nat (encIdx 0) 8 < positionError (s.nat (encIdx 0) 2) (s.nat (encIdx 0) 0x0C) (s.nat (encIdx 0) 7)) ∧
  (let s : State := { (encoded [(encIdx 0, 0x0A, 1)]).modEnc 0 (fun e => { e with lastCount := some 0 }) with now := 200 }
   (s.enc 0).lastCount = some 0 ∧ 0 + 200 * s.nat (encIdx 0) 0x0A ≤ s.t) ∧
  (may ready (wr 1) (encIdx 0) 1 = true ∧ may (encoded []) (wr 0) (encIdx 0) 1 = true) := by decide +kernel

/-- A running mark unit, wheel 0 turning forward across the angle of mark 0, whose control word is given. -/
def marked (ctl : Nat) : State :=
  (st [(0x21A0, 1, 1), (0x21A0, 2, 1), (wheelIdx 0, 1, 1), (markIdx 0, markSub 0 0, ctl), (markIdx 0, markSub 0 1, 100)]).modWheel 0
    (fun w => { w with prev := phaseOf 99, phase := phaseOf 101 })

/-- R134 to R151: crossings by each repeat rule, a catch-up, a control word, a due capture. -/
theorem witness_MarksFireAndAct :
  (let s : State := { marked 0x81 with now := 5 }
   markArmed s 0 = true ∧ markCrossing s 0 = some false ∧ (s.mark 0).fired ≠ some s.t ∧ fieldN (markCtl s 0) 10 2 = 0) ∧
  (markArmed (marked 0x481) 0 = true ∧ fieldN (markCtl (marked 0x481) 0) 10 2 = 1) ∧
  (let s : State := { marked 0x1881 with now := 5 }
   markArmed s 0 = true ∧ fieldN (markCtl s 0) 10 2 = 2 ∧ (s.mark 0).count + 1 = fieldN (markCtl s 0) 12 20) ∧
  (let s : State := { marked 0x2881 with now := 5 }
   markArmed s 0 = true ∧ (s.mark 0).count + 1 ≠ fieldN (markCtl s 0) 12 20 ∧ (s.mark 0).written ≠ s.t) ∧
  (let s : State := { (marked 0x1C81).modMark 0 (fun x => { x with catchUp := some (5, false) }) with now := 5 }
   markArmed s 0 = true ∧ fieldN (markCtl s 0) 10 2 = 3 ∧ (s.mark 0).catchUp = some (s.t, false) ∧ (s.mark 0).fired ≠ some s.t) ∧
  (may ready (wr 0x81) (markIdx 0) (markSub 0 0) = true ∧ may ready (wr 0x7FFFFC81) (markIdx 0) (markSub 0 0) = true) ∧
  (may (st [(0x21A0, 2, 0)]) (wr 1) 0x21A0 1 = true ∧ may (st [(0x21A0, 1, 1), (0x21A0, 2, 1)]) (wr 0) 0x21A0 1 = true) := by
  decide +kernel

/-- An action of a code that is due, with a mask of unit 0. -/
def acting (code : Nat) : State :=
  { st [] with tide := { (st []).tide with
      acts := [{ due := 0, mark := 0, code := code, target := 1, arg := 0, angle := 0, back := false, wheel := 0 }] } }

/-- R127 to R129, R143, R146 to R149: due actions of each code, the FIFO, and SYNCO. -/
theorem witness_MarkActionsReachTheirUnits :
  (dueActions (acting 1) 1 ≠ [] ∧ dueActions (acting 2) 2 ≠ [] ∧ dueActions (acting 3) 3 ≠ [] ∧ dueActions (acting 4) 4 ≠ [] ∧
    dueActions (acting 7) 7 ≠ [] ∧ dueActions (acting 8) 8 ≠ [] ∧ dueActions ready 1 = [] ∧ dueActions ready 4 = []) ∧
  ((acting 7).tide.syncoSource ≠ 2 ∧ (acting 7).tide.syncoRise = none) ∧
  (((firstPost (acting 5)).map (·.code)) = some 5 ∧ ((firstPost (acting 6)).map (·.code)) = some 6 ∧ (acting 5).tide.fifo.length < 64) ∧
  (let s : State := { acting 5 with tide := { (acting 5).tide with fifo := List.replicate 64 ((acting 5).tide.acts.headD
     { due := 0, mark := 0, code := 5, target := 1, arg := 0, angle := 0, back := false, wheel := 0 }) } }
   ((firstPost s).map (·.code)) = some 5 ∧ 64 ≤ s.tide.fifo.length ∧ s.on 5 = true ∧ s.cyc.markHanded = false) ∧
  (let s : State := { st [(0x21B2, 5, 1)] with tide := { (st []).tide with syncoSource := 1, turnCount := 1 } }
   s.on 5 = true ∧ s.nat 0x21B2 5 ≤ s.tide.turnCount ∧ s.tide.syncoRise = none) ∧
  (postToRole (acting 6) 0 0 0 0 = none) := by decide +kernel

/-! ### Witnesses: sense channels, phases, rails, supervision -/

/-- Sense channel 0 in a mode and a status, its group's clock running with period 20, in cycle 1000. -/
def sensing (mode status : Nat) (l : List (Nat × Nat × Nat)) : State :=
  { st ([(senseIdx 0, 1, mode), (senseIdx 0, 0x0E, status), (senseIdx 0, 2, 0), (senseIdx 0, 3, 20), (sckIdx 0, 1, 1), (sckIdx 0, 2, 20)] ++ l)
    with now := 1000 }

/-- R158 to R182: bits captured and decoded, deliveries, precision results, coding errors and silence. -/
theorem witness_SenseChannelsConvertBits :
  (let s := sensing 1 1 []
   s.on 5 = true ∧ senseStatus s 0 = 1 ∧ senseMode s 0 = 1 ∧ s.nat (senseIdx 0) 2 ≤ s.t ∧ sckPlace s 0 (s.t - s.nat (senseIdx 0) 2) = 0 ∧
     (s.chan 0).from' + s.nat (senseIdx 0) 2 ≤ s.t ∧ s.sckFrom.getD 0 0 + s.nat (senseIdx 0) 2 ≤ s.t ∧ (s.chan 0).bitTime ≠ s.t) ∧
  (let s := sensing 2 2 []
   s.sup.vddioLow = false ∧ transitionMissed s 0 = false ∧ midBit s 0 = true) ∧
  (let s := (sensing 2 2 []).modChan 0 (fun x => { x with sync := true, taken := 990 })
   transitionMissed s 0 = false ∧ midBit s 0 = false) ∧
  (let s := (sensing 1 2 []).modChan 0 (fun x => { x with flight := some (1000, 5, false, false) })
   (s.chan 0).flight = some (1000, 5, false, false) ∧ 1000 ≤ s.t ∧ s.sense.length = 64) ∧
  (let s := (sensing 1 2 []).modChan 0 (fun x => { x with prec := some (1000, some (5, 996), true) })
   (s.chan 0).prec = some (1000, some (5, 996), true)) ∧
  (let s := (sensing 2 2 []).modChan 0 (fun x => { x with sync := true, taken := 974 })
   (s.chan 0).sync = true ∧ (s.chan 0).taken + 5 * s.nat (senseIdx 0) 3 / 4 < s.t) ∧
  ((((sensing 2 2 []).modChan 0 (fun x => { x with errLimit := 1 })).chan 0).errLimit ≤ min ((sensing 2 2 []).nat (senseIdx 0) 0x1C + 1) 255) ∧
  (let s := (sensing 2 2 []).modChan 0 (fun x => { x with edge := some 920 })
   max ((s.chan 0).edge.getD 0) (s.chan 0).from' + 4 * s.nat (senseIdx 0) 3 ≤ s.t) := by decide +kernel

/-- R158, R161, R170, R171, R183, R191: writes of the sense objects. -/
theorem witness_SenseWritesTakeEffect :
  (may ready (wr 1) (sckIdx 0) 1 = true ∧ ready.flag (sckIdx 0) 1 0 = false) ∧
  (may (sensing 0 0 []) (wr 1) (sckIdx 0) 1 = true ∧ (sensing 0 0 []).flag (sckIdx 0) 1 0 = true) ∧
  (may (sensing 0 0 []) (wr 0) (sckIdx 0) 1 = true ∧ groupClocked (sensing 0 0 []) 0 = false) ∧
  (may (sensing 1 1 []) (wr 0) (sckIdx 0) 1 = true ∧ groupClocked (sensing 1 1 []) 0 = true) ∧
  (0 < ready.nat (sckIdx 0) 2) ∧
  (may (sensing 1 1 []) (wr 0) (senseIdx 0) 1 = true ∧ senseMode (sensing 1 1 []) 0 ≠ 0) ∧
  (let s := sensing 0 0 []
   may s (wr 1) (senseIdx 0) 1 = true ∧ may s (wr 2) (senseIdx 0) 1 = true ∧ senseMode s 0 = 0 ∧ senseStatus s 0 ≠ 4 ∧
     s.flag (sckIdx 0) 1 0 = true ∧ s.nat (senseIdx 0) 2 < s.nat (sckIdx 0) 2) ∧
  (may (sensing 1 3 []) (wr 1) (senseIdx 0) 0x0D = true ∧ senseStatus (sensing 1 3 []) 0 = 3) ∧
  (may (sensing 1 2 []) (wr 1) (senseIdx 0) 0x0D = true ∧ senseStatus (sensing 1 2 []) 0 ≠ 3) ∧
  (may ready (wr 65536) (senseIdx 0) 0x0B = true) ∧
  (let s := (sensing 1 2 []).modChan 0 (fun x => { x with commit := some 999 })
   (s.chan 0).commit = some 999 ∧ 999 < s.t) := by decide +kernel

/-- Phase 0 in a state and mode 1h, its channel's fast result and its validity, in cycle 1000; centre 0, half-width 65536. -/
def phased (state : Nat) (x : Int) (l : List (Nat × Nat × Nat)) : State :=
  { (st ([(phaseIdx 0, 1, 1), (phaseIdx 0, 0x17, state), (senseIdx 0, 1, 1), (senseIdx 0, 0x0E, 2), (senseIdx 0, 0x0F, 1)] ++ l)).putI
      (senseIdx 0) 0x10 x with now := 1000 }

/-- R202 to R208, R231, R232, R237: bands, maximum hold, parking, dead time. -/
theorem witness_PhasesSwitchByTheirBands :
  (let s := phased 2 70000 []
   s.on 5 = true ∧ switching (phaseState s 0) = true ∧ minElapsed s 0 = true ∧ blindDue s 0 = false ∧ (s.phase 0).park = false ∧
     bandMet s 0 = true) ∧
  (let s := phased 3 (-70000) []
   minElapsed s 0 = true ∧ blindDue s 0 = false ∧ bandMet s 0 = true ∧ phaseState s 0 = fallingState s 0) ∧
  (let s := (phased 2 0 []).modPhase 0 (fun x => { x with tmax := 100 })
   minElapsed s 0 = true ∧ blindDue s 0 = false ∧ bandMet s 0 = false ∧ holdPassed s 0 = true ∧ (s.phase 0).park = false) ∧
  (let s := (phased 2 0 []).modPhase 0 (fun x => { x with tmax := 100, park := true })
   minElapsed s 0 = true ∧ blindDue s 0 = false ∧ bandMet s 0 = false ∧ holdPassed s 0 = true ∧ (s.phase 0).park = true ∧
     phaseState s 0 ≠ fallingState s 0) ∧
  (let s := (phased 4 0 []).modPhase 0 (fun x => { x with grant := true })
   phaseState s 0 = 4 ∧ (s.phase 0).park = false ∧ (s.phase 0).grant = true ∧ s.phases.length = 48) ∧
  (let s := (phased 2 0 []).modPhase 0 (fun x => { x with dead := some (1000, true) })
   (s.phase 0).dead = some (1000, true) ∧ 1000 ≤ s.t) := by decide +kernel

/-- R218 to R230: gate faults and re-arming. -/
theorem witness_GateFaultsTripAndRearm :
  (phaseState (phased 2 0 []) 0 ≠ 0) ∧
  (let s := (phased 2 0 []).modPhase 0 (fun x => { x with unseen := true, latchAt := 999 })
   (s.phase 0).unseen = true ∧ (s.phase 0).latchAt < s.t) ∧
  (let s := phased 2 0 [(phaseIdx 0, 0x13, 1)]
   switching (phaseState s 0) = true ∧ recCause s 0 = 0 ∧ recOwner s 0 < 2 ∧ phaseMode s 0 ≠ 2 ∧
     recAttempts s 0 < s.nat (phaseIdx 0) 0x13) ∧
  (let s := (phased 1 0 []).modPhase 0 (fun x => { x with gf := false })
   (s.phase 0).gf = false ∧ s.sup.vddioLow = false) ∧
  (let s := (phased 6 0 [(phaseIdx 0, 0x12, 5), (phaseIdx 0, 0x18, 0x10000000), (phaseIdx 0, 0x15, 1), (phaseIdx 0, 0x0F, 100)]).modPhase 0
     (fun x => { x with gf := true, grant := true })
   let s := s.putI (phaseIdx 0) 0x10 (-100)
   phaseState s 0 = 6 ∧ recOwner s 0 = 1 ∧ (s.phase 0).entry + 200 * s.nat (phaseIdx 0) 0x12 ≤ s.t ∧ rearmReady s 0 = true ∧
     (∀ m ∈ membershipsOf s 0, takeoverDue s m.1 m.2 = false) ∧ may s (wr 1) (phaseIdx 0) 0x16 = true) ∧
  (let s : State := { (phased 2 0 [(phaseIdx 0, 0x14, 1)]).modPhase 0 (fun x => { x with window := true, ranFrom := some 0 }) with now := 200000 }
   (s.phase 0).window = true ∧ 200000 * s.nat (phaseIdx 0) 0x14 ≤ ranUntil (s.phase 0) s.t) := by decide +kernel

/-- R212, R213, R234, R238, R242: modes, manual commands, the Pilot. -/
theorem witness_PhaseModeAndPilot :
  (may ready (wr 0) (phaseIdx 47) 1 = true ∧ may ready (wr 1) (phaseIdx 0) 1 = true ∧ may ready (wr 2) (phaseIdx 0) 1 = true) ∧
  (phaseState ready 0 = 0 ∧ ready.phaseAdmitted 47 = true ∧ memberOf ready 0 = none) ∧
  (may (phased 2 0 []) (wr 1) (phaseIdx 0) 1 = true ∧ phaseState (phased 2 0 []) 0 ≠ 0) ∧
  (may (phased 8 0 []) (wr 2) (phaseIdx 0) 0x1C = true) ∧
  (may ready (wr 0) (phaseIdx 0) 0x23 = true ∧ may ready (wr 1) (phaseIdx 0) 0x23 = true ∧ pilotState ready 0 = 0) ∧
  (let s := (phased 2 0 [(phaseIdx 0, 0x2C, 100), (phaseIdx 0, 0x2D, 3)]).modWheel 0 (fun w => { w with prev := phaseOf 99, phase := phaseOf 101 })
   crossesFwd (s.wheel (s.nat (phaseIdx 0) 0x2B)).prevAngle (s.wheel (s.nat (phaseIdx 0) 0x2B)).angle (s.obj (phaseIdx 0) 0x2C) = true ∧
     (s.phase 0).crossedAt ≠ some s.t ∧ (s.phase 0).crossed = false) ∧
  (let s := ((phased 2 0 [(phaseIdx 0, 0x2C, 100), (phaseIdx 0, 0x2D, 3)]).modWheel 0
     (fun w => { w with prev := phaseOf 99, phase := phaseOf 101 })).modPhase 0 (fun x => { x with crossed := true })
   (s.phase 0).crossed = true ∧ switching (phaseState s 0) = true ∧ pilotState s 0 = 3) := by decide +kernel

/-- Rail 0 in a status: a buck of phases 0 and 1 in mode 1h on wheel 0, its units in the states of the word given, in cycle
1000. -/
def railed (status units : Nat) (l : List (Nat × Nat × Nat)) : State :=
  { st ([(railIdx 0, 9, status), (railIdx 0, 2, 0), (railIdx 0, 6, 0), (0x3200, 1, 0), (railIdx 0 + 1, 1, 2), (railIdx 0 + 1, 2, 0), (railIdx 0 + 1, 3, 1),
      (phaseIdx 0, 1, 1), (phaseIdx 1, 1, 1), (wheelIdx 0, 1, 1), (railIdx 0 + 4, 0x13, units)] ++ l) with now := 1000 }

/-- R254 to R258, R706: starts, stops, wind-downs. -/
theorem witness_RailsStartStopAndWindDown :
  (let s := railed 0 0 []
   may s (wr 1) (railIdx 0) 1 = true ∧ inHarbour s = false ∧ railStatus s 0 = 0 ∧ startCode s 0 = 0) ∧
  (let s := railed 0 0 [(phaseIdx 1, 1, 0)]
   startCode s 0 = 2) ∧
  (startCode (railed 0 0 [(railIdx 0 + 1, 1, 0)]) 0 = 1 ∧ startCode (railed 0 0 [(wheelIdx 0, 1, 0)]) 0 = 5) ∧
  (may (railed 1 0 []) (wr 1) (railIdx 0) 1 = true ∧ railStatus (railed 1 0 []) 0 = 1 ∧ railStatus (railed 2 0 []) 0 = 2) ∧
  (inHarbour (railed 0 0 [(0x3200, 1, 1)]) = true ∧ may (railed 0 0 [(0x3200, 1, 1)]) (wr 2) (railIdx 0) 1 = true) ∧
  (may (railed 1 0 []) (wr 0) (railIdx 0) 1 = true ∧ may (railed 1 0 []) (wr 2) (railIdx 0) 1 = true) := by decide +kernel

/-- R261 to R264, R273, R274: demand sets and tables. -/
theorem witness_DemandSetsAndTables :
  (may ready (wr 1) (railIdx 0 + 3) 4 = true ∧ may ready (wr 1) (railIdx 0) 0x0B = true) ∧
  ((ready.rail 0).act = 0 ∧ (ready.rail 0).verdicts = [] ∧ (ready.rail 0).commit = false ∧ (ready.rail 0).applyNext = false) ∧
  (((ready.modRail 0 (fun x => { x with commit := true })).rail 0).commit = true) ∧
  (let s := (railed 1 0 []).modRail 0 (fun x => { x with coming := some ([1, 2, 3], [4, 5, 6, 7]) })
   (s.rail 0).coming = some ([1, 2, 3], [4, 5, 6, 7]) ∧ railStatus s 0 ≠ 0 ∧ s.rails.length = 12 ∧ (s.rail 0).appliedAt ≠ some s.t) ∧
  (let s := (railed 1 0 []).modRail 0 (fun x => { x with appliedAt := some 1000 })
   (s.rail 0).appliedAt = some s.t) ∧
  (may (st [(tableIdx 0, 5, 1)]) (wr 1) (tableIdx 0) 3 = true ∧ (st [(tableIdx 0, 5, 1)]).flag (tableIdx 0) 5 0 = true) ∧
  (may (st [(tableIdx 0, 1, 1)]) (wr 1) (tableIdx 0) 3 = true ∧ (st [(tableIdx 0, 1, 1)]).flag (tableIdx 0) 1 0 = true) ∧
  (may ready (wr 1) (tableIdx 0) 3 = true ∧ ready.flag (tableIdx 0) 5 0 = false ∧ ready.flag (tableIdx 0) 1 0 = false) ∧
  (may ready (wr 1) 0x2500 1 = true ∧ (objRow 0x2500 1).map (·.acc) = some .rw ∧ may ready (wr 1) 0x2577 0x80 = true) ∧
  (let s := st [(tableIdx 0, 1, 1)]
   s.flag (tableIdx 0) 1 0 = true ∧ s.nat (tableIdx 0) 2 = 0) := by decide +kernel

/-- R279 to R285: ramps, shedding and recalls. -/
theorem witness_UnitsShedAndReturn :
  (let s := (railed 1 1 []).modRail 0 (fun x => { x with ramps := x.ramps.set 0 (some (1000, false)) })
   s.on 5 = true ∧ railStatus s 0 ≠ 0 ∧ mayMove s 0 0 = true ∧ (s.rail 0).ramps.getD 0 none = some (1000, false) ∧ unitState s 0 0 = 1) ∧
  (let s := (railed 1 3 []).modRail 0 (fun x => { x with ramps := x.ramps.set 0 (some (1000, true)) })
   (s.rail 0).ramps.getD 0 none = some (1000, true) ∧ unitState s 0 0 = 3) ∧
  (let s := railed 1 1 [(railIdx 0 + 6, 1, 256)]
   unitState s 0 0 = 1 ∧ weightOf s 0 (0 * railGroups s 0) = 256) ∧
  (let s := railed 1 3 []
   unitState s 0 0 = 3 ∧ weightOf s 0 (0 * railGroups s 0) = 0 ∧ (s.rail 0).parks.getD 0 false = false) ∧
  (let s := (railed 1 3 [(phaseIdx 0, 0x17, 4)]).modRail 0 (fun x => { x with parks := x.parks.set 0 true })
   (s.rail 0).parks.getD 0 false = true ∧ (∀ i ∈ unitMembers s 0 0, phaseState s (memberPhase s 0 i) ∈ [1, 4, 5, 6, 7])) ∧
  (let s := railed 1 0xA [(railIdx 0 + 4, 1, 2), (railIdx 0 + 4, 4, 1), (railIdx 0 + 4, 2, 1), (railIdx 0 + 4, 0x0A, 1)]
   slowReady s 0 = true ∧ dwellEnd s 0 ≤ s.t ∧ (unitsIn s 0 2).getLast? = some 1 ∧ shedWanted s 0 = true ∧
     s.nat (railIdx 0 + 4) 1 ≠ 1) ∧
  (let s := railed 1 0x2 [(railIdx 0 + 4, 1, 2), (railIdx 0 + 4, 4, 2), (railIdx 0 + 4, 0x0A, 1)]
   slowReady s 0 = true ∧ dwellEnd s 0 ≤ s.t ∧ (shedAvailable s 0).head? = some 1 ∧ recallWanted s 0 = true) ∧
  (let s := (railed 1 0xA [(railIdx 0 + 4, 1, 1), (railIdx 0 + 4, 8, 1), (railIdx 0 + 4, 5, 100), (railIdx 0 + 4, 2, 1),
       (railIdx 0 + 4, 0x0A, 1)]).modRail 0 (fun x => { x with shedHeld := { acc := 200, since := none } })
   slowReady s 0 = true ∧ shedWanted s 0 = true ∧ 200 * s.nat (railIdx 0 + 4) 8 ≤ (s.rail 0).shedHeld.held s.t) ∧
  (let s := railed 1 0 []
   railStatus s 0 = 1 ∧ s.nat (railIdx 0 + 4) 1 = 0 ∧
     (unitsIn s 0 0 ++ unitsIn s 0 3).filter (fun u => unitAvail s 0 u && mayMove s 0 u) ≠ []) := by decide +kernel

/-- A measurement of member 0 of rail 0 with a measured change. -/
def measured (dx : Int) : Measure :=
  { rail := 0, member := 0, d := 0, wn := 1048576, xa := 0, xb := dx, vl := 1048576, valid := true, rising := true, forced := false }

/-- R304, R307 to R311: each class of a measurement, with a predicted change of 1000, a flat bound of 100 and a tolerance of
200. -/
theorem witness_MeasurementsAreClassified :
  (let s : State := { railed 1 2 [(svIdx 0, 2, 1000), (svIdx 0, 8, 26), (svIdx 0, 6, 0), (svIdx 0, 7, 200), (svIdx 0, 9, 10)] with
     measures := [measured 1000] }
   s.measures.find? (fun m => m.rail == 0 && m.member == 0 && decide (m.d + 2 ≤ s.t)) = some (measured 1000) ∧
     classOf s (measured 1000) = 1 ∧ classOf s (measured 500) = 2 ∧ classOf s (measured 1201) = 3 ∧ classOf s (measured 5) = 4 ∧
     classOf s (measured 50) = 5 ∧ classOf s (measured (-500)) = 6) := by decide +kernel

/-- R311 to R345: what supervision acts on. -/
theorem witness_SupervisionActsAndReleases :
  (let s := (railed 1 2 [(svIdx 0, 0x0B, 5)]).modRail 0
     (fun x => { x with members := modAt x.members 0 (fun m => { m with blindFrom := some 0 }) })
   0 < memberCount s 0 ∧ ((s.rail 0).members.getD 0 {}).blindFrom = some 0 ∧ ((s.rail 0).members.getD 0 {}).blindDone = false ∧
     0 + 200 * s.nat (svIdx 0) 0x0B ≤ s.t) ∧
  (let s := (railed 1 2 [(svIdx 0, 0x0B, 5), (svIdx 0, 1, 2)]).modRail 0 (fun x => { x with lost := [(3, 0, false)] })
   watchRuns s 0 = true ∧ (s.rail 0).lost.find? (fun e => e.1 == 3) = some (3, 0, false)) ∧
  (let s := (railed 1 2 [(svIdx 0, 1, 2), (senseIdx 0, 0x0F, 2), (senseIdx 0, 0x12, 5), (svIdx 0 + 1, 7, 4), (svIdx 0 + 1, 8, 0)])
   regOutside s 0 = true ∧ railStatus s 0 = 1 ∧ (s.rail 0).regDone = false ∧
     200000 * s.nat (svIdx 0 + 1) 8 ≤ (s.rail 0).reg.held s.t) ∧
  (let s := (railed 1 2 [(svIdx 0 + 1, 0x0D, 1), (phaseIdx 0, 0x18, 0x10000000)]).modRail 0
     (fun x => { x with members := modAt x.members 0 (fun m => { m with epFrom := some 0 }) })
   takeoverDue s 0 0 = true) ∧
  (may ready (wr 1) (svIdx 0 + 4) 2 = true ∧ may ready (wr 1) (svIdx 0 + 2) 0x0C = true) ∧
  (let s := (railed 1 2 []).modRail 0 (fun x => { x with verdicts := [(1000, 0, 4)] })
   (s.rail 0).act = 0 ∧ (s.rail 0).applyNext = false ∧ (s.rail 0).commit = false ∧ (s.rail 0).verdicts = [(1000, 0, 4)] ∧ 1000 ≤ s.t ∧
     verdict s 0 0 = 0) ∧
  (may ready (wr 1) (svIdx 0 + 4) 3 = true) ∧
  (carried (wr 2) (svIdx 0 + 4) 3 ≠ 1) := by decide +kernel

/-! ### Witnesses: engines, queues, the Foreman, debug -/

/-- The ready state with E0 changed. -/
def engined (f : Engine → Engine) : State := ready.modEng 0 f

/-- R349, R359, R362: an engine that executes, in both modes, with D5 ON and not. -/
theorem witness_EngineInstructionsWriteTheirRegister :
  (engineRuns ready 0 = true ∧ engineRuns (st [(0x270F, 1, 1)]) 15 = true ∧ ready.on 5 = true ∧ (ready.eng 0).user = false) ∧
  (engineRuns (st [(0x2D01, 2, 0x02AA)]) 0 = true ∧ (st [(0x2D01, 2, 0x02AA)]).on 5 = false) ∧
  (let g := (engined (fun g => { g with user := true })).eng 0
   g.user = true ∧ pmpAllows g true .load 0x40840018 = false) ∧
  (let g := (engined (fun g => { g with user := true, pmpcfg := g.pmpcfg.set 0 0x1F, pmpaddr := g.pmpaddr.set 0 0xFFFFFFFF })).eng 0
   pmpAllows g true .load (0x40840018 + 7 * 0x4000) = true) ∧
  (1 < (ready.eng 0).x.length) := by decide +kernel

/-- R355, R361, R406: an engine that takes an interrupt. -/
theorem witness_EngineTrapSavesAndVectors :
  (let s := engined (fun g => { g with mstatus := 8, mie := 0x80, mtimecmp := 0 })
   s.on 2 = true ∧ engineCode s 0 = 1 ∧ (s.eng 0).takesInterrupts = true ∧ waitCompletes s 0 = false ∧ pendingInterrupts s 0 = [7]) ∧
  (let s := engined (fun g => { g with mstatus := 8, mie := 0x80, mtimecmp := 0, wait := .wfi })
   engineCode s 0 = 2 ∧ waitCompletes s 0 = false) := by decide +kernel

/-- R349 to R353: atomic operations on SRAM and on the engine's own D-TCM. -/
theorem witness_AtomicOperationsWork :
  (atomicTarget 0 0x10000000 = some (.sram, 0x10000000) ∧ (atomicTarget 0 0x17FFC).isSome = true ∧ atomicTarget 0 0x30010000 ≠ none) ∧
  (pmpAllows (ready.eng 0) (ready.eng 0).accessUser .load 0x10000000 = true ∧
    pmpAllows (ready.eng 0) (ready.eng 0).accessUser .store 0x10000000 = true) ∧
  (eccRead ready .sram 0x10000000 = (ready, true)) ∧
  (reserved (engined (fun g => { g with reservation := some (0x10000000, 0) })) 0 0x10000000 = true ∧ reserved ready 0 0x10000000 = false) ∧
  (atomicTarget 0 0x40000000 = none) ∧
  (let s : State := { engined (fun g => { g with reservation := some (0x10000000, 0) }) with now := 256 }
   (s.eng 0).reservation = some (0x10000000, 0) ∧ 0 + 256 ≤ s.t) := by decide +kernel

/-- Queue 0 running at 16 entries of the pool from 0 on, with two words of counts. -/
def queued (pushed popped : Nat) : State :=
  st [(queueIdx 0, 1, 1), (queueIdx 0, 8, 1), (queueIdx 0, 2, 0), (queueIdx 0, 3, 16), (queueIdx 0, 0x12, pushed), (queueIdx 0, 0x13, popped)]

/-- R359 to R363, R389, R406: waits and what ends them. -/
theorem witness_EnginesWaitAndWake :
  (waitForbidden (ready.eng 0) = false ∧ readyQueue ready 1 = none ∧ heldInterrupt ready 0 = false) ∧
  (readyQueue (queued 1 0) 1 = some 0) ∧
  (heldInterrupt (engined (fun g => { g with mie := 0x80, mtimecmp := 0 })) 0 = true) ∧
  (let s := engined (fun g => { g with user := true, mstatus := 0x200000 })
   engineRuns s 0 = true ∧ waitForbidden (s.eng 0) = true) ∧
  (let s : State := { engined (fun g => { g with wait := .qwait 1 1 5 0 }) with now := 5 }
   engineCode s 0 = 2 ∧ (s.eng 0).wait = .qwait 1 1 5 0 ∧ readyQueue s 1 = none ∧ 0 + 5 ≤ s.t) ∧
  (let s := (queued 1 0).modEng 0 (fun g => { g with wait := .qpop 1 0 })
   (s.eng 0).wait = .qpop 1 0 ∧ popTaken s 0 = false ∧ popLevel s 0 ≠ 0) ∧
  (let s := engined (fun g => { g with wait := .wfi, mie := 0x80, mtimecmp := 0 })
   (s.eng 0).wait = .wfi ∧ (s.eng 0).takesInterrupts = false ∧ pendingInterrupts s 0 ≠ []) := by decide +kernel

/-- R384 to R394, R817: queues that run with room, full and empty, ones that are stopped, and a post. -/
theorem witness_QueuesHoldEntriesInOrder :
  (queueRuns (queued 5 5) 0 = true ∧ queueLevel (queued 5 5) 0 < (queued 5 5).nat (queueIdx 0) 3 ∧ popLevel (queued 5 5) 0 = 0) ∧
  ((queued 16 0).nat (queueIdx 0) 3 ≤ queueLevel (queued 16 0) 0 ∧ (queued 16 0).nat (queueIdx 0) 4 = 0 ∧ popLevel (queued 16 0) 0 ≠ 0) ∧
  (queueRuns ready 0 = false ∧ ready.cyc.posts = []) ∧
  (let p : Post := { src := 0, queue := 0, entry := 5 }
   nextPost { ready with postNet := [p] } = some (p, [])) ∧
  (let s := st [(queueIdx 0, 2, 0), (queueIdx 0, 3, 16)]
   may s (wr 1) (queueIdx 0) 1 = true ∧ s.nat (queueIdx 0) 8 ≠ 1 ∧ queueFits s 0 = true) ∧
  (queueFits (st [(queueIdx 0, 2, 1), (queueIdx 0, 3, 16)]) 0 = false) ∧
  (may (queued 0 0) (wr 1) (queueIdx 0) 1 = true ∧ may (queued 0 0) (wr 0) (queueIdx 0) 1 = true ∧ (queued 0 0).nat (queueIdx 0) 8 = 1) ∧
  (may ready (wr 1) (queueIdx 0) 7 = true ∧ ready.nat (queueIdx 0) 8 = 0 ∧ may (queued 0 0) (wr 1) (queueIdx 0) 7 = true) := by
  decide +kernel

/-- R359, R387 to R391: masters at a queue. -/
theorem witness_MastersPushAndPop :
  (pushTaken (queued 1 0) 0 = false ∧ popTaken (queued 1 0) 0 = false ∧ pushTaken (takePush (queued 1 0) 0) 0 = true ∧
    popTaken (queuePop (queued 1 0) 0).2 0 = true) ∧
  (let s := withWords (queued 0 0) [(queueIdx 0, 5, 1)]
   s.nat (queueIdx 0) 5 = 1 ∧ waitForbidden (s.eng 0) = false ∧ queueRuns s 0 = true ∧ popLevel s 0 = 0) ∧
  (masterLive ready (.engine 0 false) = true ∧ portReach ready (.engine 0 false) 0 0 .load = true ∧
    portReach ready (.engine 0 false) 31 4 .store = true ∧ portReach ready (.engine 0 false) 0 0 .store = true) := by decide +kernel

/-- Task 0 placed on E3, movable, with every source enabled; E3's run control at 1. -/
def tasked (l : List (Nat × Nat × Nat)) : State :=
  { st ([(taskIdx 0, 1, 1), (taskIdx 0, 2, 3), (taskIdx 0, 3, 3), (taskIdx 0, 4, 0xFFFF), (taskIdx 0, 7, 1), (taskIdx 0, 0x17, 0xF),
      (0x2703, 1, 1), (0x2704, 1, 1), (taskIdx 0, 9, 100), (taskIdx 0, 0x0A, 100000)] ++ l) with now := 1000 }

/-- R401 to R410: requests, dispatch, ends and hangs. -/
theorem witness_TasksAreActivatedAndEnd :
  ((tasked []).flag (taskIdx 0) 0x17 2 = true ∧ taskTakes (tasked []) 0 = true ∧ ((tasked []).task 0).pending = none) ∧
  ((((tasked []).modTask 0 (fun x => { x with pending := some 1 })).task 0).pending = some 1) ∧
  ((st [(taskIdx 0, 0x17, 0)]).flag (taskIdx 0) 0x17 0 = false ∧ (st [(taskIdx 0, 0x17, 1)]).flag (taskIdx 0) 0x17 0 = true ∧
    taskTakes (st [(taskIdx 0, 0x17, 1)]) 0 = false) ∧
  (may (tasked []) (wr 1) (taskIdx 0) 0x19 = true) ∧
  ((((tasked []).modTask 0 (fun x => { x with timer := some 1000 })).task 0).timer = some 1000) ∧
  (let s := (tasked []).modTask 0 (fun x => { x with pending := some 1, pendingAt := 998 })
   activation s 3 = none ∧ engineEligible s 3 = true ∧ s.fm.freeAt.getD 3 0 + 2 ≤ s.t ∧ dispatchChoice s 3 = some 0) ∧
  (let s := (tasked []).modFm (fun m => { m with running := m.running.set 0 (some (0, 0)) })
   may s (wr 1) 0x2790 5 = true ∧ activation s 0 = some (0, 0) ∧ carried (wr 1) 0x2790 5 = 1) ∧
  (may ready (wr 1) 0x2790 5 = true ∧ activation ready 0 = none) ∧
  (let s := (tasked [(taskIdx 0, 0x0B, 2)]).modFm (fun m => { m with running := m.running.set 3 (some (0, 0)) })
   activation s 3 = some (0, 0) ∧ 0 + s.nat (taskIdx 0) 0x0B * s.nat (taskIdx 0) 9 ≤ s.t) := by decide +kernel

/-- R412 to R432: enables, placements, migrations, moves, consolidations. -/
theorem witness_ForemanPlacesAndMoves :
  (may ready (wr 1) (taskIdx 0) 1 = true ∧ placement ready 0 = 0 ∧ may (tasked []) (wr 1) (taskIdx 0) 1 = true ∧ placement (tasked []) 0 = 3) ∧
  (may (tasked []) (wr 0) (taskIdx 0) 1 = true ∧ ((tasked []).task 0).pending = none ∧ (tasked []).fm.migration = none) ∧
  (may (st [(taskIdx 0, 1, 1), (taskIdx 0, 2, 1)]) (wr 0) (taskIdx 0) 1 = true ∧ placement (st [(taskIdx 0, 2, 1)]) 0 = 1) ∧
  (let s := (st [(taskIdx 0, 1, 1), (taskIdx 0, 2, 2)]).modTask 0 (fun x => { x with loadOn := some 3 })
   may s (wr 0) (taskIdx 0) 1 = true ∧ placement s 0 = 2 ∧ (s.task 0).loadOn = some 3 ∧
     (s.task 0).loadAt + (copyTime (s.nat (taskIdx 0) 0x0E) + copyTime (s.nat (taskIdx 0) 0x11)) ≤ s.t) ∧
  (let s := (tasked []).modFm (fun m => { m with migration := some { task := 0, dst := 4, kind := .command, since := 0 } })
   taskHost s 0 = some 3 ∧ placement s 0 = 3 ∧ s.flag (taskIdx 0) 6 0 = false ∧ 0 + copyTime (s.nat (taskIdx 0) 0x0E) ≤ s.t) ∧
  (let s := (tasked []).modFm (fun m => { m with migration := some { task := 0, dst := 4, kind := .command, since := 0, cut := some 999 } })
   999 + (copyTime (s.nat (taskIdx 0) 0x11) + 1) ≤ s.t) ∧
  (let s := tasked []
   may s (wr 4) (taskIdx 0) 0x1A = true ∧ s.flag (taskIdx 0) 7 0 = true ∧ (carried (wr 4) (taskIdx 0) 0x1A).toNat = 4 ∧
     taskHost s 0 ≠ some 4 ∧ engineTakes s 0 4 = true) ∧
  (may (tasked []) (wr 3) (taskIdx 0) 0x1A = true ∧ taskHost (tasked []) 0 = some 3) ∧
  (let s := (tasked [(0x2780, 9, 5)]).modFm (fun m => { m with consolidation := some (0, 0) })
   s.fm.consolidation = some (0, 0) ∧ 0 + 200 * s.nat 0x2780 9 ≤ s.t ∧ clusterEmpty s 0 = false) ∧
  (may ready (wr 1) 0x2780 6 = true) := by decide +kernel

/-- R371 to R383: run control, unit resets, engine faults, scrubbing, debug. -/
theorem witness_EnginesAreHeldResetAndDebugged :
  (may ready (wr 0) 0x2703 1 = true ∧ taskPlacedOn ready 3 = false ∧ taskPlacedOn (tasked []) 3 = true ∧ may (tasked []) (wr 0) 0x2703 1 = true) ∧
  (may ready (wr 1) 0x2703 1 = true ∧ ready.runControl 3 = false ∧ (tasked []).runControl 3 = true ∧ may (tasked []) (wr 1) 0x2703 1 = true) ∧
  ((st [(0x2001, 7, 1)]).engineAdmitted 3 = false ∧ may (st [(0x2001, 7, 1)]) (wr 1) 0x2703 1 = true) ∧
  (let s := st [(0x2D01, 2, 0xA8AA)]
   may s (wr 1) 0x270F 1 = true ∧ s.engineAdmitted 15 = true ∧ s.runControl 15 = false ∧ s.on (clusterDomain 15) = false) ∧
  (let s : State := { ready.modFm (fun m => { m with unitResets := [(3, false, 0)] }) with now := 1 }
   s.fm.unitResets.find? (fun r => r.1 == 3 && decide (r.2.2 < s.t)) = some (3, false, 0)) ∧
  (((engined (fun g => { g with faultDue := true })).eng 0).faultDue = true) ∧
  (let s := { ready with ecc := { ready.ecc with double := [0x30010000] } }
   engineRuns s 0 = true ∧ regionOf 0 0x10000 = some (.dtcm 0, 0x30010000) ∧ (eccRead s (.dtcm 0) 0x30010000).2 = false) ∧
  (let s : State := { st [(0x2710, 5, 100)] with now := 100 }
   scrubOn s 47 = true ∧ scrubInterval s 47 ≠ 0 ∧ s.ecc.scrubLast.getD 47 0 + scrubInterval s 47 ≤ s.t) ∧
  (let s := (engined (fun g => { g with halted := true })).putN 0x3400 4 0
   masterLive s .debug = true ∧ engineCode s 0 = 3 ∧ s.dbg.cmderr = 0 ∧ (debugRegister s (s.dbg.hart % 16) 0x1001).isSome = true) ∧
  (engineCode (st [(0x3400, 4, 0)]) 0 = 1) := by decide +kernel

/-- R407, R798: the resident dispatcher waits for an activation and calls its entry with the state and the record. -/
theorem test_residentDispatcher :
    (let s := (st [(0x2791, 1, 7), (0x2791, 2, 9), (0x2791, 3, 0x100), (0x2791, 4, 0x10000)]).modEng 1 (fun g => { g with xttask := 0x80000003 })
     let g := (rvResident s 1).eng 1
     resident s 1 = true ∧ g.pc = 0x100 ∧ g.reg 1 = dispatcherEnd ∧ g.reg 10 = 0x10000 ∧ g.reg 11 = 7 ∧ g.reg 12 = 9) ∧
    (let g := (rvResident ready 1).eng 1
     g.pc = dispatcherLoop ∧ g.wait = .wfi ∧ g.mie = 0x10000) := by decide +kernel

/-- R387: of two QPOPs that reach one queue in a cycle the lower engine's takes the place; the other waits a cycle. -/
theorem test_queueServiceOrder :
    (let s := ((queued 1 0).putWord 0x30000000 0x0005C50B).putWord 0x30020000 0x0005C50B
     let s := (s.modEng 0 (fun g => { g with pc := 0 })).modEng 1 (fun g => { g with pc := 0 })
     let r := enginesRun { s with now := 1 }
     (r.eng 0).pc = 4 ∧ (r.eng 1).pc = 0 ∧ (r.eng 1).waited = some (popPlace 0, 1) ∧
       ((enginesRun { r with now := 2, cyc := {} }).eng 1).pc = 4) := by decide +kernel

/-! ### Witnesses: ticks, stops, CAN, CANopen, sessions, two-wire ports -/

/-- R39, R42, R93: a tick that is due and one that is not; functions in their stopping phase. -/
theorem witness_TicksAndStoppingPhases :
  (let s : State := { ready with now := 200000 }
   s.t % 200000 = 0 ∧ s.clk.lastTick ≠ some s.t) ∧
  (({ ready with now := 199999 } : State).t % 200000 ≠ 0) ∧
  (senseStatus (sensing 0 4 []) 0 = 4 ∧ ((sensing 0 4 []).chan 0).flight = none) ∧
  ((((sensing 0 4 []).modChan 0 (fun x => { x with flight := some (1001, 5, false, false) })).chan 0).flight ≠ none) ∧
  (let s := st [(0x21A0, 2, 2)]
   s.nat 0x21A0 2 = 2 ∧ s.tide.fifo = [] ∧ s.tide.acts = []) ∧
  (canState (st [(canIdx 0, 0x1C, 5)]) 0 = 5 ∧ twbState (st [(twbIdx 0, 0x10, 6)]) 0 = 6 ∧ ready.on 7 = true ∧ ready.on 6 = true) := by
  decide +kernel

/-- CAN channel 0 enabled in a state, in clock state 1h, at 500 kbit/s (160 cycles), fabric time 10^9. -/
def lined (state : Nat) (l : List (Nat × Nat × Nat)) : State :=
  { st ([(0x21B0, 1, 1), (canIdx 0, 1, 1), (canIdx 0, 0x1C, state), (canIdx 0, 4, 1), (canIdx 0, 5, 127), (canIdx 0, 6, 32), (canIdx 0, 7, 32),
      (0x2A20, 3, 5)] ++ l) with now := 1000000000 }

/-- A classic frame. -/
def frame (ident : Nat) (data : List Nat) : Frame := { format := 0, ident := BitVec.ofNat 29 ident, data := data.map (BitVec.ofNat 8) }

/-- R471 to R493: channels in each state, frames received and sent, raw frames, the switch of lines. -/
theorem witness_CanChannelsSendAndReceive :
  (let s := withWords (lined 0 []) [(canIdx 0, 1, 0)]
   may s (wr 1) (canIdx 0) 1 = true ∧ canOn s 0 = false ∧ canUnready s 0 = false ∧ canUnready (withWords s [(canIdx 0, 5, 1)]) 0 = true) ∧
  (may (lined 2 []) (wr 1) (canIdx 0) 1 = true ∧ may (lined 2 []) (wr 0) (canIdx 0) 1 = true ∧ canOn (lined 2 []) 0 = true) ∧
  (canSees (lined 1 []) = true ∧ canState (lined 1 []) 0 = 1 ∧ bitsPassed (lined 1 []) 0 11 = true) ∧
  (canLive (lined 2 []) 0 = true ∧ (lined 2 []).flag (canIdx 0) 2 0 = false ∧ (lined 2 []).flag (canIdx 0) 3 0 = false) ∧
  (isBulk (lined 2 []) 0 (frame 5 [1]) = false ∧ agentService (lined 2 []) 0 (frame 5 [1]) = none) ∧
  (agentService (lined 2 []) 0 (frame 0 [1, 5]) = some .nmt) ∧
  (let f : Frame := { format := 4, ident := 3, sdt := 3, data := [1] }
   let s := lined 2 [(canIdx 0, 3, 1), (0x2A21, 1, 0), (0x2A21, 4, 3)]
   isBulk s 0 f = true) ∧
  (let s : State := { lined 2 [] with can := modAt (lined 2 []).can 0 (fun c => { c with tx := [frame 7 [1], frame 5 [2]] }) }
   bestFrame (s.canChan 0).tx = some (frame 5 [2]) ∧ canState s 0 ≠ 5 ∧ s.nat (canIdx 0) 0x1D < 256) ∧
  (let s := lined 4 [(canIdx 0, 0x16, 1)]
   canState s 0 = 4 ∧ s.flag (canIdx 0) 0x16 0 = true ∧ bitsPassed s 0 (128 * 11) = true) ∧
  (let s := lined 2 [(canIdx 0, 0x17, 0), (taskIdx 0, 2, 3), (taskIdx 0, 0x15, 0), (queueIdx 0, 8, 1), (queueIdx 0, 3, 16), (queueIdx 0, 0x12, 2)]
   rawQueue s 0 = some 0 ∧ rawNext s 0 0 = some (0, 2) ∧ rawRoom s 0 = true ∧ pathFree s 0 = true ∧ (s.canChan 0).raw.length < 2) ∧
  (let s : State := { ready with twb := modAt ready.twb 0 (fun p => { p with waiting := true }) }
   (s.port 0).waiting = true) ∧
  (let s := lined 4 [(0x2A20, 5, 2), (0x2A20, 8, 0), (canIdx 1, 0x1C, 2)]
   redundancy s = 2 ∧ canState s (s.nat 0x2A20 8) = 4 ∧ canState s (1 - s.nat 0x2A20 8) ≠ 4) := by decide +kernel

/-- The agent of node 5 in an NMT state, with frames that wait. -/
def node (state : Nat) (l : List Frame) (w : List (Nat × Nat × Nat)) : State :=
  (lined 2 ([(0x2A20, 4, state)] ++ w)).modAgent (fun a => { a with inbox := l })

/-- R446, R482 to R490: frames of each service, and what is due. -/
theorem witness_CanopenServices :
  (nextFrame (node 5 [frame 0 [1, 5]] []) (fun v _ => v == .nmt) = some (frame 0 [1, 5])) ∧
  (2 ≤ (frame 0 [1, 5]).data.length ∧ frameByte (frame 0 [1, 5]) 1 = nodeId (node 5 [] []) ∧ frameByte (frame 0 [0x82, 0]) 0 = 0x82) ∧
  (nextFrame (node 5 [frame 0x605 [0x40, 0, 0x20, 0]] []) (fun v _ => v == .sdo) = some (frame 0x605 [0x40, 0, 0x20, 0]) ∧
    agentServes (node 5 [] []) = true ∧ nmt (node 5 [] []) = 5 ∧ (node 5 [] []).agent.mode = 0) ∧
  (nmt (node 4 [frame 0x605 [0x40, 0, 0x20, 0]] []) ≠ 5 ∧ nmt (node 4 [] []) ≠ 0x7F ∧
    nextFrame (node 4 [frame 0x605 [0x40]] []) (fun v _ => v == .sdo) = some (frame 0x605 [0x40])) ∧
  (let s := (node 5 [] []).modAgent (fun a => { a with sdo := some { download := true, index := 0, sub := 0, last := 0 } })
   s.agent.sdo.isSome = true ∧ agentRuns s = true ∧ s.passed 0 200000000 = true) ∧
  (let s := node 5 [frame 0x205 [1]] [(0x1400, 1, 0x205), (0x1400, 2, 255)]
   nextRpdo s = some (frame 0x205 [1], 0) ∧ [(1 : Nat)].length ≠ mappedLength s 0x1600) ∧
  (let s := node 5 [frame 0x205 []] [(0x1400, 1, 0x205), (0x1400, 2, 1)]
   nextRpdo s = some (frame 0x205 [], 0) ∧ mappedLength s 0x1600 = 0 ∧ s.nat 0x1400 2 ≤ 240) ∧
  (nextFrame (node 5 [frame 0x80 []] []) (fun v _ => v == .sync) = some (frame 0x80 [])) ∧
  (let s := node 5 [] [(0x1005, 0, 0x40000080), (0x1006, 0, 1000), (0x1017, 0, 100)]
   s.agent.holdFrom = none ∧ s.flag 0x1005 0 30 = true ∧ s.nat 0x1006 0 ≠ 0 ∧ s.passed s.agent.sync (200 * s.nat 0x1006 0) = true ∧
     s.nat 0x1017 0 ≠ 0 ∧ s.passed s.agent.beat (200000 * s.nat 0x1017 0) = true) ∧
  (let s := (node 5 [] [(0x1016, 1, 0x70064)]).modAgent (fun a => { a with heard := a.heard.set 0 (some 0) })
   s.agent.heard.getD 0 none = some 0 ∧ watched s 0 ≠ 0 ∧ s.agent.lost.getD 0 false = false ∧
     s.passed 0 (200000 * (s.nat 0x1016 1 % 65536)) = true) ∧
  (let s := (node 5 [] []).modAgent (fun a => { a with emcy := [[1]] })
   s.agent.emcy = [[1]] ∧ s.agent.emcyAt = none ∧ agentRoom s = true ∧ s.flag 0x1014 0 31 = false) ∧
  (let s := node 5 [] [(0x1800, 1, 0x185), (0x1800, 2, 254), (0x1800, 5, 10)]
   tpdoValid s 0 = true ∧ timerOver s 0 = true ∧ 254 ≤ s.nat 0x1800 2 ∧
     s.passed (s.agent.tpdo.getD 0 {}).sent (200 * (100 * s.nat 0x1800 3)) = true) ∧
  ((node 5 [] [(0x1800, 1, 0x185), (0x1800, 2, 0)]).nat 0x1800 2 = 0) := by decide +kernel

/-- The agent in LSS configuration or not, with one LSS frame that waits. -/
def lss (configuring : Bool) (l : List Nat) (w : List (Nat × Nat × Nat)) : State :=
  modLss (node 5 [frame 0x7E5 l] w) (fun x => { x with configuring := configuring, timing := some 2 })

/-- R482 to R484: each LSS command. -/
theorem witness_LssSlaveServes :
  ((nextLss (lss false [0x04, 1] []) [0x04]).isSome = true) ∧
  (nextLss (lss false [0x40, 0, 0, 0, 0] []) [0x40, 0x41, 0x42, 0x43] = some (frame 0x7E5 [0x40, 0, 0, 0, 0])) ∧
  (frameWord (frame 0x7E5 [0x43, 0xFF, 0xFF, 0xFF, 0xFF]) 1 = lssIdent ready 3) ∧
  ((nextLss (lss true [0x11, 127] []) [0x11]).isSome = true ∧ (nextLss (lss true [0x13, 0, 8] []) [0x13]).isSome = true ∧
    (nextLss (lss true [0x15] []) [0x15]).isSome = true ∧ lssBit 2 = some 160 ∧ (nextLss (lss true [0x17] []) [0x17]).isSome = true ∧
    (nextLss (lss true [0x5E] []) [0x5A, 0x5B, 0x5C, 0x5D, 0x5E]).isSome = true) ∧
  (let s := lss false [0x51, 0, 0, 0, 0, 0x80] [(0x2A20, 3, 0xFF)]
   (nextLss s [0x51]).isSome = true ∧ nodeId s = 0xFF ∧ s.agent.lss.configuring = false) := by decide +kernel

/-- A bulk session in progress whose frames wait. -/
def bulked (l : List Frame) (w : List (Nat × Nat × Nat)) : State :=
  { st ([(0x2A21, 0x0B, 1), (0x2A21, 5, 0x2A81), (0x2A21, 0x0F, 1)] ++ w) with
    now := 200000, bulk := { inbox := l } }

/-- An XL frame of a type of the session. -/
def bulkFrame (type : Nat) : Frame := { format := 4, ident := 3, acceptance := BitVec.ofNat 32 (type * 2 ^ 28), data := [0] }

/-- R495 to R502: sessions and authenticated commands. -/
theorem witness_BulkSessionsAndAuthenticatedCommands :
  (may (bulked [] []) (wr 1) 0x2A21 9 = true ∧ bulkRuns (bulked [] []) = true ∧ isDomain 0 = false) ∧
  (let s := st [(0x2A21, 5, 0x2A81)]
   may s (wr 1) 0x2A21 9 = true ∧ bulkRuns s = false ∧ isDomain (s.nat 0x2A21 5) = true ∧ s.nat 0x2A21 6 = 0) ∧
  (isDomain 0x3808 = true) ∧
  (let s := bulked [bulkFrame 0, bulkFrame 1, bulkFrame 2, bulkFrame 3] []
   (s.bulk.inbox.find? (fun x => bulkType x == 0)).isSome = true ∧ (s.bulk.inbox.find? (fun x => bulkType x == 1)).isSome = true ∧
     (s.bulk.inbox.find? (fun x => bulkType x == 2)).isSome = true ∧ (s.bulk.inbox.find? (fun x => bulkType x == 3)).isSome = true) ∧
  (may (bulked [] []) (wr 1) 0x2A21 0x0A = true) ∧
  (bulkSends (bulked [] []) = true ∧ (bulked [] []).passed (bulked [] []).bulk.last (200000 * (bulked [] []).nat 0x2A21 0x0F) = true ∧
    (bulked [] []).bulk.timeouts < 2 ∧ 2 ≤ ({ bulked [] [] with bulk := { timeouts := 2 } } : State).bulk.timeouts) ∧
  (may (st [(0x2A80, 1, 2)]) (wr 32) 0x2A80 2 = true ∧ (st [(0x2A80, 1, 2)]).nat 0x2A80 1 ≠ 0) ∧
  (may ready (wr 32) 0x2A80 2 = true ∧ ready.nat 0x2A80 1 = 0 ∧ ready.startup.journalLoaded = true ∧
    checkMessage (ready.putN 0x2A80 5 (masterCode (.engine 0 false))) 32 ≠ 0) ∧
  ((st [(0x2A80, 1, 3)]).nat 0x2A80 1 = 3) ∧
  (({ ready with auth := { ready.auth with lockedTo := some 0 } } : State).auth.lockedTo = some 0) := by decide +kernel

/-- Port 0 enabled, in a state, with what it does, in cycle 1000000. -/
def twoWire (state : Nat) (f : TwbPort → TwbPort) (l : List (Nat × Nat × Nat)) : State :=
  { (st ([(twbIdx 0, 1, 1), (twbIdx 0, 0x10, state), (twbIdx 0, 3, 10), (twbIdx 0, 4, 10), (twbIdx 0, 9, 100), (twbIdx 0, 0x0A, 100)] ++ l)).modTwb 0 f with
    now := 1000000 }

/-- R513 to R530: what a port does in each phase. -/
theorem witness_TwoWirePortsServeAndControl :
  (may ready (wr 1) (twbIdx 0) 1 = true ∧ may ready (wr 0) (twbIdx 0) 1 = true ∧ ready.flag (twbIdx 0) 1 0 = false) ∧
  (may (twoWire 1 id []) (wr 0) (twbIdx 0) 1 = true ∧ ((twoWire 1 id []).port 0).phase = .idle) ∧
  (twbState (twoWire 4 id []) 0 = 4 ∧ twbState (twoWire 0 id []) 0 = 0) ∧
  (twbTarget (twoWire 1 id []) 0 = true ∧ masterLive (twoWire 1 id []) .twb = true) ∧
  (writeFrame (twoWire 1 id []) 0 [2, 0, 0x21, 1, 1, 5] = some (0x2100, 1, [5], false)) ∧
  (writeFrame (twoWire 1 id []) 0 [2, 0, 0x21, 1, 1, 5, 9] = some (0x2100, 1, [5], true)) ∧
  (writeFrame (twoWire 1 id []) 0 [1] = none ∧ ((twoWire 1 id []).port 0).last = none) ∧
  (let s := twoWire 1 (fun p => { p with phase := .firmware false }) [(twbIdx 0, 6, 0x20), (twbIdx 0, 7, 0), (taskIdx 0, 2, 3), (taskIdx 0, 0x14, 0),
     (queueIdx 0, 8, 1), (queueIdx 0, 3, 16)]
   s.nat (twbIdx 0) 6 ≠ 0xFF ∧ twbQueue s 0 2 = some 0 ∧ twbSees s = true ∧ (s.port 0).phase = .firmware false) ∧
  (let s := twoWire 1 (fun p => { p with phase := .firmware true }) [(twbIdx 0, 6, 0x20)]
   twbQueue s 0 2 = none ∧ (s.port 0).phase = .firmware true) := by decide +kernel

/-- R515 to R530: stretching, transfers, requests and clears. -/
theorem witness_TwoWirePortsControl :
  (let s := twoWire 2 (fun p => { p with waiting := true }) []
   stretchOver s 0 = true ∧ (s.port 0).waiting = true ∧ 200 * s.nat (twbIdx 0) 9 ≤ 20000 ∧ twbState s 0 ≠ 5) ∧
  (let s := twoWire 3 (fun p => { p with phase := .controller, job := { write := 1, read := 1, pec := true } }) []
   (s.port 0).phase = .controller ∧ s.passed (s.port 0).begun (byteCycles s 0 (s.port 0).job.bytes) = true ∧ (s.port 0).job.pec = true) ∧
  (let s := twoWire 1 id [(twbIdx 0, 0x0D, 1)]
   requestPending s 0 = true ∧ twbState s 0 = 1 ∧ (s.port 0).pulsed = none) ∧
  (let s := twoWire 1 id [(twbIdx 0, 0x0F, 1)]
   s.flag (twbIdx 0) 0x0F 0 = true) ∧
  (let s := twoWire 5 id [(twbIdx 0, 0x0C, 3), (twbIdx 0, 6, 0x20)]
   twbState s 0 = 5 ∧ s.flag (twbIdx 0) 0x0C 0 = true ∧ s.flag (twbIdx 0) 0x0C 1 = true) ∧
  (may (twoWire 1 id []) (wr 1) (twbCtl 0) 5 = true ∧ (twoWire 1 id []).nat (twbCtl 0) 6 ≠ 1 ∧
    may (twoWire 2 id [(twbCtl 0, 6, 1)]) (wr 1) (twbCtl 0) 5 = true) ∧
  (may (twoWire 1 id []) (wr 1) (twbIdx 0) 0x11 = true ∧ may (twoWire 1 id []) (wr 1) (twbIdx 0) 0x0D = true ∧
    may (twoWire 1 id []) (wr 1) (twbIdx 0) 0x0B = true ∧ may (twoWire 1 id []) (wr 0) (twbIdx 0) 0x0B = true) := by decide +kernel

/-! ### Witnesses: converters, supplies, domains, the sequencer -/

/-- Converter 0 enabled, triggered by both sources, reading inputs 0 and 1, in a cycle. -/
def converting (t : Nat) (f : Converter → Converter) (l : List (Nat × Nat × Nat)) : State :=
  { (st ([(hkaIdx 0, 1, 1), (hkaIdx 0, 2, 3), (hkaIdx 0, 4, 3), (0x21B0, 1, 1), (hkaIdx 0, 0x0A, 255)] ++ l)).modConv 0 f with now := BitVec.ofNat 64 t }

/-- R535 to R554: triggers free and not, scans, results of each kind, edges and stalls of a tachometer. -/
theorem witness_ConvertersScan :
  ((0 : Int) ≤ 1234000 ∧ (1234000 : Int) < 3000000) ∧
  (ready.nat (hkaIdx 0) 7 = 0 ∧ (converting 0 id [(hkaIdx 0, 7, 1)]).nat (hkaIdx 0) 7 = 1) ∧
  (let s := converting 1000 id []
   convRuns s 0 = true ∧ s.flag (hkaIdx 0) 2 0 = true ∧ s.flag (hkaIdx 0) 2 1 = true ∧ (s.conv 0).lastTrig ≠ some s.t ∧
     clockState s ≠ 0 ∧ (s.conv 0).trig = none ∧ (s.conv 0).scanning = false ∧ (s.conv 0).stop = false ∧ scanList s 0 ≠ [] ∧
     may s (wr 1) (hkaIdx 0) 8 = true) ∧
  (convRuns ready 0 = false ∧ (ready.conv 0).stop = false) ∧
  (let s := converting 1000 (fun c => { c with timer := 1000, trig := some 500 }) []
   convRuns s 0 = true ∧ clockState s ≠ 0 ∧ (s.conv 0).timer ≤ s.ct ∧ (s.conv 0).trig = some 500 ∧ 500 + 5 * (1 + s.nat (hkaIdx 0) 9) ≤ s.ct ∧
     ¬ (s.nat (hkaIdx 0) 0x11 ≠ 0 ∧ ((s.conv 0).scans + 1) % s.nat (hkaIdx 0) 0x11 = 0)) ∧
  (let s := converting 1000 (fun c => { c with trig := some 500, scans := 3 }) [(hkaIdx 0, 0x11, 4)]
   s.nat (hkaIdx 0) 0x11 ≠ 0 ∧ ((s.conv 0).scans + 1) % s.nat (hkaIdx 0) 0x11 = 0) ∧
  (let s := converting 1000 (fun c => { c with scanning := true, todo := [0, 1], conv := 0 }) []
   s.on 6 = true ∧ (s.conv 0).scanning = true ∧ clockState s ≠ 0 ∧ (s.conv 0).conv + 5 * (s.nat (hkaIdx 0) 6 + 15) ≤ s.ct ∧
     (s.conv 0).todo = [0, 1] ∧ (s.conv 0).check = false ∧ (s.conv 0).stop = false) ∧
  ((converting 1000 (fun c => { c with check := true }) []).conv 0).check = true ∧
  (let s := converting 1000 (fun c => { c with set := { c.set with task := 255 }, coming := some 5 }) []
   (s.conv 0).set.task = 255 ∧ (s.conv 0).coming = some 5 ∧ s.flag (hkaIdx 0) 0x0B 31 = false) ∧
  ((converting 1000 id [(hkaIdx 0, 0x0B, 0x80000000)]).flag (hkaIdx 0) 0x0B 31 = true) := by decide +kernel

/-- R543, R544: enables of a converter in each phase. -/
theorem witness_ConverterEnable :
  (may ready (wr 1) (hkaIdx 0) 1 = true ∧ may ready (wr 0) (hkaIdx 0) 1 = true ∧ ready.flag (hkaIdx 0) 1 0 = false ∧ (ready.conv 0).stop = false) ∧
  (let s := converting 1000 (fun c => { c with scanning := true }) []
   s.flag (hkaIdx 0) 1 0 = true ∧ (s.conv 0).stop = false ∧ (s.conv 0).scanning = true) ∧
  ((converting 1000 id []).conv 0).scanning = false := by decide +kernel

/-- GPIO 0 as a tachometer input in clock state 1h, with a last edge. -/
def turning (last : Option Nat) (t : Nat) (l : List (Nat × Nat × Nat)) : State :=
  { (st ([(0x21B0, 1, 1), (0x2C20, 1, 3)] ++ l)).modTach 0 (fun x => { x with last := last, since := 0 }) with now := BitVec.ofNat 64 t }

/-- R554: edges after an edge, after too long, and the first; a stall. -/
theorem witness_Tachometers :
  (let s := turning (some 0) 1000 []
   tachRuns s 0 = true ∧ s.sup.vddioLow = false ∧ (s.tach 0).last = some 0 ∧ (s.ct - 0) / 5 ≤ 4294967295) ∧
  (let s := turning (some 0) 30000000000 []
   tachRuns s 0 = true ∧ 4294967295 < (s.ct - 0) / 5) ∧
  ((turning none 1000 []).tach 0).last = none ∧
  (let s := turning none 1000000000 []
   s.flag (tachIdx 0) 4 0 = false ∧ (s.tach 0).since + cyclesMs (s.nat (tachIdx 0) 1) ≤ s.ct) := by decide +kernel

/-- The ready state with the supply supervisors changed, at a time. -/
def supplied (f : Supplies → Supplies) (n : Nat) (l : List (Nat × Nat × Nat)) : State :=
  { st ([(0x21B0, 1, 1)] ++ l) with sup := f ready.sup, real := n, now := BitVec.ofNat 64 n }

/-- Regulator 0 changed. -/
def regulated (f : Regulator → Regulator) (l : List (Nat × Nat × Nat)) : State := (supplied id 4000000000 l).modReg 0 f

/-- R556 to R572: each supervisor in both states, regulators and drivers in each phase. -/
theorem witness_SuppliesAreSupervised :
  (ready.sup.warn = false ∧ warningMillivolts ready ≠ 0 ∧ ready.sup.overVolt = false ∧ ready.sup.vddaLow = false ∧ ready.sup.vddioLow = false) ∧
  ((supplied (fun u => { u with warn := true }) 0 []).sup.warn = true) ∧
  (may ready (wr 1) 0x2D00 1 = true ∧ may ready (wr 1) 0x2D00 6 = true) ∧
  (let s := regulated (fun x => { x with on := true }) []
   let x := s.reg 0
   x.on = true ∧ x.restart = none ∧ x.latched = false ∧ x.good = false ∧ x.soft + realMs 1 ≤ s.real) ∧
  (let s := regulated (fun x => { x with on := true, good := true, goodAt := 100 }) []
   let x := s.reg 0
   x.good = true ∧ x.goodAt + realMs 100 ≤ s.real ∧ x.soft + realMs 1 + realUs 50 ≤ s.real ∧ 1 < s.nat 0x2D00 5) ∧
  (let s := regulated (fun x => { x with on := true, faults := 2 }) [(0x2D00, 5, 3)]
   s.nat 0x2D00 5 ≤ 2 + 1) ∧
  (let s := regulated (fun x => { x with restart := some 5 }) []
   (s.reg 0).restart = some 5 ∧ 5 ≤ s.real) ∧
  (let s := (supplied id 400000000 []).modGds 0 (fun y => { y with on := true })
   let x := s.gateSupply 0
   x.on = true ∧ x.stopped = false ∧ clockState s ≠ 0 ∧ x.good = false ∧ x.soft + cyclesUs (s.nat 0x2D00 0x0B) ≤ s.t ∧
     x.soft + 16 * s.nat 0x2D00 7 ≤ s.t) := by decide +kernel

/-- Slot 0 in the sequence at the position in progress, in a state, with what it does, at cycle 10^9. -/
def sequencing (seq state : Nat) (f : Slot → Slot) (l : List (Nat × Nat × Nat)) : State :=
  { (st ([(0x2D02, 1, 1), (0x2D02, 3, seq), (slotIdx 0, 1, 1), (slotIdx 0, 0x0C, state), (slotIdx 0, 3, 0), (slotIdx 0, 4, 0), (0x2D02, 4, 0)] ++ l)).modSlot 0 f
    with now := 1000000000 }

/-- R568, R569: requests carried out, refused and met by a change in progress; a change that completes. -/
theorem witness_DomainsChange :
  (may ready (wr 0xAAAA) 0x2D01 1 = true ∧ domainsBusy ready = false ∧
    domainRefusal (st [(0x3800, 8, 255)]) 0xAAAA = 0 ∧ domainRefusal ready 0xAAA8 ≠ 0) ∧
  (domainsBusy { ready with dom := { change := some (7, 0, some 2) } } = true) ∧
  (({ ready with dom := { change := some (7, 0, some 2) } } : State).dom.change = some (7, 0, some 2)) := by decide +kernel

/-- R577 to R580: sequencer commands in each state. -/
theorem witness_SequencerCommands :
  (let s := sequencing 0 0 id []
   may s (wr 1) 0x2D02 2 = true ∧ may s (wr 2) 0x2D02 2 = true ∧ may s (wr 3) 0x2D02 2 = true ∧ s.flag 0x2D02 1 0 = true ∧
     seqState s = 0 ∧ seqIdle s = true ∧ may s (wr 0) 0x2D02 1 = true ∧ may s (wr 1) 0x2D02 1 = true) ∧
  (seqState (sequencing 2 3 id []) ≠ 0 ∧ seqIdle (sequencing 2 3 id []) = false) ∧
  ((st [(0x2D02, 1, 0)]).flag 0x2D02 1 0 = false) ∧ (seqState (sequencing 3 3 id []) = 3) ∧
  ((sequencing 1 1 id []).nat (slotIdx 0) 0x0A = 0) := by decide +kernel

/-- R578 to R585: a slot in each phase. -/
theorem witness_SlotsStep :
  (let s := sequencing 1 1 id []
   s.on 2 = true ∧ seqState s = 1 ∧ slotState s 0 = 1 ∧ upSlots s = [0] ∧ s.seq.posFrom + cyclesUs (s.nat (slotIdx 0) 5) ≤ s.t ∧
     targetAvailable s 0 = true) ∧
  (slotGood (settleSlots ((setOutput (sequencing 1 1 (fun x => { x with good := true }) []) 0 true).putN (slotIdx 0) 0x0C 2)) 0 = true ∧
    slotGood (settleSlots ((setOutput (sequencing 1 1 id []) 0 true).putN (slotIdx 0) 0x0C 2)) 0 = false) ∧
  (targetAvailable (sequencing 1 1 id [(slotIdx 0, 2, 4), (0x2D01, 2, 0x8AAA)]) 0 = false) ∧
  (let s := sequencing 1 2 (fun x => { x with out := true, outAt := 0 }) []
   slotTarget s 0 = 0 ∧ (s.slot 0).good = false ∧ s.sup.vddioLow = false ∧ slotState s 0 = 2 ∧ 0 < cyclesUs (s.nat (slotIdx 0) 7) ∧
     (s.slot 0).outAt + cyclesMs (s.nat (slotIdx 0) 6) ≤ s.t) ∧
  (let s := sequencing 2 3 (fun x => { x with out := true, good := true, raw := true }) []
   seqState s ≠ 3 ∧ goodFalls s 0 1000000000 = true ∧ slotState s 0 = 3 ∧ inSequence s 0 = true ∧ slotTarget s 0 = 0 ∧
     (s.slot 0).good = true ∧ ((s.bump (slotIdx 0) 0x10 16).bump (slotIdx 0) 0x0F 8).nat (slotIdx 0) 0x0F < s.nat (slotIdx 0) 0x0B) ∧
  (let s := sequencing 2 3 (fun x => { x with good := true }) [(slotIdx 0, 0x0B, 1)]
   s.nat (slotIdx 0) 0x0B ≤ ((s.bump (slotIdx 0) 0x10 16).bump (slotIdx 0) 0x0F 8).nat (slotIdx 0) 0x0F ∧ seqState s ≠ 3) ∧
  (let s := sequencing 3 3 (fun x => { x with out := true, good := true }) [(slotIdx 0, 9, 10)]
   let down := settleSlots ((dropOutput s 0).putN (slotIdx 0) 0x0C 4)
   seqState s = 3 ∧ (s.slot 0).out = true ∧ s.nat (slotIdx 0) 4 = s.nat 0x2D02 4 ∧ s.seq.posFrom + cyclesUs (s.nat (slotIdx 0) 8) ≤ s.t ∧
     s.nat (slotIdx 0) 9 ≠ 0 ∧ slotGood down 0 = true ∧ goodFalls s 0 1000000000 = true ∧ slotState s 0 ≠ 4) ∧
  ((sequencing 3 3 id [(slotIdx 0, 9, 0)]).nat (slotIdx 0) 9 = 0) ∧
  (let s := sequencing 3 4 (fun x => { x with good := true, outAt := 0 }) []
   goodFalls s 0 1000000000 = true ∧ slotState s 0 = 4 ∧ slotGood s 0 = true ∧ (s.slot 0).outAt + cyclesMs (s.nat (slotIdx 0) 9) ≤ s.t) := by
  decide +kernel

/-- R585, R587: the lines between devices. -/
theorem witness_SequencerLines :
  (let s := (sequencing 5 1 id []).modSeq (fun q => { q with readyWait := some 0, released := some 0 })
   s.on 2 = true ∧ s.seq.readyWait = some 0 ∧ seqState s = 5 ∧ 0 + cyclesMs (s.nat 0x2D02 6) ≤ s.t ∧ s.seq.released = some 0 ∧
     0 + 2000 ≤ s.t ∧ s.sup.vddioLow = false) ∧
  (let s := (sequencing 2 3 id []).modSeq (fun q => { q with rdyline := true, released := some 0 })
   seqState s ≠ 5 ∧ seqState s = 2 ∧ s.seq.rdyline = true ∧ s.nat 0x2D02 9 ≠ 1) ∧
  ((sequencing 2 3 id [(0x2D02, 9, 1)]).nat 0x2D02 9 = 1) ∧
  (ready.seq.pulling = none ∧ ready.seq.others = false) ∧
  (let s := (sequencing 2 3 id []).modSeq (fun q => { q with pulling := some 0 })
   s.seq.pulling = some 0 ∧ 0 + minAssertion s ≤ s.t) := by decide +kernel

/-! ### Witnesses: the charger, the power path, the switch, the button and the gauge -/

/-- The charger enabled in a stage at a millisecond step, cycle 10^11, with a battery of one cell, voltage channel 5 and current channel 6. -/
def charging (stage : Nat) (f : Charger → Charger) (l : List (Nat × Nat × Nat)) : State :=
  { st ([(0x2E00, 1, 1), (0x2E00, 4, 1), (0x2E00, 5, stage), (0x2E00, 0x0D, 5), (0x2E00, 0x0E, 6), (0x2F04, 0x12, 1),
      (senseIdx 5, 0x0F, 2), (senseIdx 5, 0x12, 1000), (senseIdx 6, 0x0F, 2), (0x2E01, 5, 900)] ++ l) with
    now := 100000000000, real := 200000000000, chg := f {}, clk := { ready.clk with lastTick := some 100000000000 } }

/-- R597, R618: the profile, enables and clears of a charger that is ready and of one that is not. -/
theorem witness_ChargerCommands :
  (may (charging 0 id []) (wr 1) 0x2E00 3 = true ∧ (charging 0 id []).flag 0x2E00 1 0 = true) ∧
  (may ready (wr 0) 0x2E00 3 = true ∧ ready.flag 0x2E00 1 0 = false ∧ chemistryRow 0 = none ∧ (chemistryRow 1).isSome = true ∧
    may ready (wr 1) 0x2E00 3 = true) ∧
  (may ready (wr 1) 0x2E00 1 = true ∧ chargerUnready ready = true ∧
    chargerUnready (charging 0 id [(0x2E00, 2, 0), (0x2E00, 3, 1), (0x2E01, 0x0E, 1), (0x2E01, 0x0F, 1)]) = false) ∧
  (may (charging 3 id []) (wr 0) 0x2E00 1 = true ∧ chargeStage (charging 3 id []) ≠ 0 ∧ chargeStage (charging 0 id []) = 0) ∧
  ((charging 0 id []).on 5 = true ∧ pathState (charging 0 id []) = 0) ∧
  (chargeStage (charging 9 id []) = 9 ∧ chargeStage (charging 3 id []) ≠ 9 ∧ chargeStage (charging 3 id []) ≠ 10) ∧
  (may ready (wr 1) 0x2E00 7 = true) := by decide +kernel

/-- R602: a stage with each condition of the table. -/
theorem witness_ChargeStages :
  (let s := charging 3 (fun c => { c with removal := true }) []
   s.on 5 = true ∧ s.ticked = true ∧ s.chg.entered ≠ s.t ∧ s.cflag 0x2E00 1 0 = true ∧ (stageChange s).isSome = true ∧
     2 ≤ chargeStage s ∧ chargeStage s ≤ 8 ∧ s.chg.removal = true) ∧
  (batteryPresent (charging 3 id [(0x2F04, 0x12, 0)]) = false) ∧
  (let s := charging 3 (fun c => { c with held := [(2, 0)] }) []
   s.chg.removal = false ∧ batteryPresent s = true ∧ chargeHeld s 2 = true) ∧
  (chargeHeld (charging 3 id []) 2 = false ∧ idleCalled (charging 3 id []) = true) ∧
  (idleCalled (charging 3 id [(0x2E02, 0x0D, 4), (0x2E04, 6, 2)]) = false) := by decide +kernel

/-- R604: the cutback with the current within and beyond what is available, and with none valid. -/
theorem witness_Cutback :
  (let s := charging 3 id [(0x2E00, 0x0C, 6)]
   s.on 5 = true ∧ s.cflag 0x2E00 1 0 = true ∧ s.t % 200 = 0 ∧ systemCurrent s = (0, true) ∧ availableCurrent s = (2147483647, true) ∧
     0 + batteryLimit s ≤ 2147483647) ∧
  (let s := charging 3 id [(0x2E00, 0x0C, 6), (senseIdx 6, 0x12, 0x7FFFFFFF), (0x2E01, 0x0F, 1)]
   systemCurrent s = (2147483647, true) ∧ 2147483647 < 2147483647 + batteryLimit s ∧ s.chg.short = false) ∧
  ((charging 3 (fun c => { c with short := true }) []).chg.short = true) ∧
  ((systemCurrent (charging 3 id [(0x2E00, 0x0C, 7)])).2 = false) := by decide +kernel

/-- R607, R608, R611, R619, R620: the power path in each state, and the search. -/
theorem witness_PowerPath :
  (may ready (wr 1) 0x2E02 1 = true ∧ may ready (wr 0) 0x2E02 1 = true ∧ pathState ready = 0) ∧
  (let s := charging 0 (fun c => { c with presentSince := some 0 }) [(0x2E02, 0x0D, 1)]
   s.on 5 = true ∧ pathState s = 1 ∧ sourceHere s = true) ∧
  (let s := charging 0 (fun c => { c with lostSince := some 0 }) [(0x2E02, 0x0D, 4)]
   2 ≤ pathState s ∧ pathState s ≤ 4 ∧ lasted s s.chg.lostSince (cyclesUs (s.cnat 0x2E02 7)) = true) ∧
  (let s := charging 0 id [(0x2E02, 0x0D, 2), (0x3200, 1, 0)]
   pathState s = 2 ∧ s.chg.pathEntered + cyclesMs (s.cnat 0x2E02 8) ≤ s.t ∧ inHarbour s = false) ∧
  (let s := charging 0 (fun c => { c with episode := some 0 }) []
   s.chg.outage = false ∧ lasted s s.chg.episode (cyclesMs (s.cnat 0x2E02 9)) = true) ∧
  (let s := charging 0 id [(0x2E02, 0x0D, 3), (0x2E02, 3, 1), (0x2E00, 2, 0)]
   pathState s = 3 ∧ s.cflag 0x2E02 3 0 = true ∧ s.chg.chgStarted = false ∧ s.cnat 0x2E00 2 < 12 ∧ railStatus s (s.cnat 0x2E00 2) = 0 ∧
     lasted s (chgDelayFrom s) (cyclesMs (s.cnat 0x2E02 0x0A)) = true) ∧
  (let s := charging 0 id [(0x2E03, 0x0B, 2)]
   s.nat 0x2E03 0x0B = 2 ∧ s.chg.periodStart + cyclesMs (s.cnat 0x2E03 6) ≤ s.t) ∧
  (let s := charging 0 id [(0x2E03, 0x0B, 3)]
   s.nat 0x2E03 0x0B = 3 ∧ s.chg.holdStart + cyclesMs (1000 * s.cnat 0x2E03 9) ≤ s.t) := by decide +kernel

/-- R613 to R618, R75: the switch in each state, storage, and presses of each length. -/
theorem witness_SwitchAndButton :
  (let s := charging 0 (fun c => { c with held := [(21, 0)] }) [(0x2E04, 6, 1), (0x2E04, 7, 0), (0x2E00, 2, 0), (railIdx 0, 6, 7), (senseIdx 7, 0x0F, 2),
     (senseIdx 7, 0x12, 1000)]
   s.on 5 = true ∧ s.ticked = true ∧ switchState s = 1 ∧ s.obj 0x2E04 7 = 0 ∧ chargeHeld s 21 = true) ∧
  (let s := charging 0 id [(0x2E04, 6, 1), (0x2E04, 7, 0), (0x2E04, 5, 1), (0x2E04, 4, 2000), (0x2E00, 2, 0), (railIdx 0, 6, 7), (senseIdx 7, 0x0F, 2),
     (senseIdx 7, 0x12, 1000)]
   s.cflag 0x2E04 5 0 = true ∧ metBy (vBus s) (fun v => decide (v < s.cint 0x2E04 4)) = true) ∧
  (let s := charging 3 (fun c => { c with held := [(20, 0)] }) [(0x2E01, 6, 2000), (0x2E04, 7, 0)]
   chargeHeld s 20 = true ∧ s.flag 0x2E04 7 3 = false) ∧
  (let s := charging 0 id []
   pressSeen s (pressSeconds 3) = true ∧ pressSeconds 3 < pressSeconds 10 ∧ pressSeen s 10 = true ∧ 10 < pressSeconds 1 ∧
     pressSeen s (pressSeconds 10) = true ∧ pressSeconds 1 ≤ pressSeconds 10) ∧
  (let s := charging 0 (fun c => { c with storageAt := some 0 }) []
   lasted s s.chg.storageAt (cyclesMs (s.cnat 0x2E04 9)) = true ∧ s.chg.storageAt ≠ none ∧ seqState s = 0) ∧
  (let s : State := { charging 0 id [(0x2E04, 8, 1)] with aon := { wake := true } }
   s.aon.wake = true ∧ s.cflag 0x2E04 8 0 = true) ∧
  (let s : State := { charging 0 id [(0x2E04, 8, 0)] with aon := { wake := true } }
   s.aon.wake = true ∧ s.cflag 0x2E04 8 0 = false) ∧
  (ready.flag 0x2D02 1 0 = true ∧ ready.chg.storageAt = none) ∧
  (ready.obj 0x2E04 7 ≠ 0 ∧ switchState (st [(0x2E04, 6, 2)]) = 2 ∧ switchState (st [(0x2E04, 6, 1)]) = 1) ∧
  ((st [(0x2E04, 7, 0)]).obj 0x2E04 7 = 0 ∧ switchState (st [(0x2E04, 7, 0)]) = 0) ∧
  (may ready (wr 1) 0x2E04 1 = true ∧ may ready (wr 1) 0x2E04 0x0A = true) := by decide +kernel

/-- R646, R649, R629: the gauge at a window and at a second, and its enable. -/
theorem witness_GaugeActs :
  (may ready (wr 1) 0x2F09 2 = true ∧ may ready (wr 0) 0x2F00 1 = true ∧ may ready (wr 1) 0x2F00 1 = true ∧ ready.flag 0x2F00 1 0 = false) ∧
  (let s := charging 0 id [(0x2F00, 1, 1), (0x21B0, 1, 1)]
   s.on 2 = true ∧ s.flag 0x2F00 1 0 = true ∧ s.t % 200000 = 0 ∧ clockState s ≠ 0 ∧ tickNo s % 10 = 0 ∧ s.gauge.lastWindow ≠ some s.t ∧
     s.gauge.enabledTick < tickNo s ∧ (tickNo s - s.gauge.enabledTick) % 1000 = 0 ∧ s.gauge.lastSecond ≠ some s.t) ∧
  (clockState (charging 0 id [(0x2F00, 1, 1), (0x21B0, 1, 0)]) = 0 ∧ (tickNo (charging 0 id []) - 0) % 80 = 0) := by decide +kernel

/-! ### Witnesses: interrupts, the Lighthouse, the Canary -/

/-- Source 5 asserted for three cycles at priority 3 for target 0, in no group. -/
def asserted (l : List (Nat × Nat × Nat)) : State :=
  { st ([(0x3000, 1, 1), (0x3020, 5, 0x3FC00001)] ++ l) with irq := { levels := List.replicate 3 (BitVec.ofNat 256 32) } }

/-- R662, R665 to R667, R672, R674: a claim with a candidate, with none and while disabled; completions; the groups in each state. -/
theorem witness_InterruptsAct :
  (sees (st [(0x3000, 1, 0)]) rd 0x3010 3 = true ∧ (st [(0x3000, 1, 0)]).flag 0x3000 1 0 = false) ∧
  (sees (asserted []) rd 0x3010 3 = true ∧ (asserted []).flag 0x3000 1 0 = true ∧ candidate (asserted []) 0 = some 5) ∧
  (candidate ready 0 = none ∧ ready.flag 0x3000 1 0 = true) ∧
  (let s := (asserted []).modIrq (fun q => { q with claims := [(5, 0)] })
   may s (wr 5) (targetIdx 0) 4 = true ∧ ((5, 0) : Nat × Nat) ∈ s.irq.claims ∧ ((6, 0) : Nat × Nat) ∉ s.irq.claims) ∧
  (may ready (wr 1) 0x3000 5 = true ∧ may ready (wr 1) 0x3000 6 = true) ∧
  (let s := st [(0x3000, 7, 1), (0x3020, 144, 0), (groupIdx 0, 1, 2)]
   s.on 2 = true ∧ groupFree s 0 = false ∧ sourceNamed 144 = true ∧ sourceLevel s 144 = true ∧ (s.irq.levels.headD 0).getLsbD 144 = false ∧
     144 ∉ s.irq.edges ∧ 144 ∈ groupMembers s 0 ∧ s.nat (groupIdx 0) 3 = 0 ∧ s.nat (groupIdx 0) 1 ≠ 1) ∧
  (let s := st [(0x3000, 7, 1), (0x3020, 144, 0), (groupIdx 0, 1, 1), (groupIdx 0, 3, 2)]
   groupFree s 0 = false ∧ s.nat (groupIdx 0) 3 = 2 ∧ ((groupMembers s 0).filter (· != 144)).any (sourceLevel s) = false ∧ s.nat (groupIdx 0) 1 = 1) ∧
  (let s := st [(groupIdx 0, 1, 2), (groupIdx 0, 3, 1), (groupIdx 0, 4, 1)]
   s.nat (groupIdx 0) 3 = 1 ∧ s.nat (groupIdx 0) 1 ≤ satN 8 (s.nat (groupIdx 0) 4 + 1)) ∧
  (let s := st [(groupIdx 0, 1, 5), (groupIdx 0, 3, 1), (groupIdx 0, 4, 1)]
   satN 8 (s.nat (groupIdx 0) 4 + 1) < s.nat (groupIdx 0) 1) ∧
  (let s : State := { st [(groupIdx 0, 2, 1), (groupIdx 0, 3, 1)] with now := 1000 }
   s.nat (groupIdx 0) 3 = 1 ∧ s.nat (groupIdx 0) 2 ≠ 0 ∧ s.irq.gatherAt.getD 0 0 + cyclesUs (s.nat (groupIdx 0) 2) ≤ s.t) ∧
  (let s : State := { st [(0x3080, 1, 0x8101)] with aon := { events := [(1, 0)] } }
   (List.range 32).filter (entryFires s) = [0]) := by decide +kernel

/-- The Canary in a state at a count, changed, with E0 as the warden's host. -/
def canaried (state count : Nat) (f : Canary → Canary) (l : List (Nat × Nat × Nat)) : State :=
  { st ([(0x3100, 9, state), (0x3100, 0x0A, count)] ++ l) with canary := f {}, real := 1000 }

/-- R680: services by the host with the key, in both forms of the ledger, with another key, and by others. -/
theorem witness_CanaryService :
  (let s := canaried 1 5 id []
   may s (wr 0x5AA5) 0x3100 1 = true ∧ (0 : Nat) = wardenHost s ∧ canaryState s ≠ 3 ∧
     carried (wr 0x5AA5) 0x3100 1 = s.obj 0x3100 0x0B ∧ carried (wr 1) 0x3100 1 ≠ s.obj 0x3100 0x0B ∧ s.canary.service = none ∧
     (ledgerJudge s).1 = false) ∧
  ((canaried 1 5 (fun c => { c with service := some (0, 0) }) []).canary.service.isSome = true) ∧
  (let s := canaried 1 5 id [(0x3101, 1, 1), (taskIdx 0, 2, 3)]
   (ledgerJudge s).1 = true ∧ s.nat 0x3101 4 = 0) ∧
  ((canaried 1 5 id [(0x3101, 4, 1)]).nat 0x3101 4 = 1 ∧ (canaried 1 5 id [(0x3101, 4, 2)]).nat 0x3101 4 = 2) ∧
  (canaryState (canaried 3 5 id []) = 3) ∧
  (may ready { master := .can, len := 4, value := 0x5AA5 } 0x3100 1 = true) := by decide +kernel

/-- R682 to R688: the Canary's edges, the bite, check-ins and the lock. -/
theorem witness_CanaryEdges :
  (let s := canaried 1 0 (fun c => { c with edge := some .service, service := some (0, 0) }) [(0x3100, 2, 5)]
   s.canary.edge = some .service ∧ s.canary.service = some (0, 0) ∧ canaryState s ≠ 0 ∧ canaryCount s < s.nat 0x3100 2) ∧
  (let s := canaried 1 6 (fun c => { c with edge := some .service, service := some (0, 0) }) [(0x3100, 2, 5)]
   s.nat 0x3100 2 ≤ canaryCount s) ∧
  ((canaried 1 6 (fun c => { c with edge := some .expiry }) []).canary.edge = some .expiry) ∧
  ((canaried 1 6 (fun c => { c with edge := some .warning }) []).canary.edge = some .warning) ∧
  (let s := canaried 1 5 (fun c => { c with service := some (0, 0) }) []
   s.canary.biting = none ∧ canaryPaused s = false ∧ serviceReady s = true) ∧
  (let s := canaried 1 10 id [(0x3100, 3, 10)]
   serviceReady s = false ∧ canaryLimit s < canaryCount s + 1) ∧
  (let s := canaried 1 4 id [(0x3100, 3, 10), (0x3100, 5, 5)]
   serviceReady s = false ∧ canaryCount s + 1 ≤ canaryLimit s ∧ warningNext s = true) ∧
  (let s := canaried 1 2 id [(0x3100, 3, 10), (0x3100, 5, 5)]
   canaryCount s + 1 ≤ canaryLimit s ∧ warningNext s = false) ∧
  (let s := canaried 3 5 (fun c => { c with biting := some 0 }) []
   canaryState s = 3 ∧ s.canary.biting = some 0) ∧
  (may ready { master := .can, len := 4, value := 1 } 0x3101 3 = true ∧ may ready (wr 2) 0x3101 3 = true) ∧
  (let s := ready.modEng 0 (fun g => { g with xttask := 0x80000002 })
   may s (wr 2) 0x3101 3 = true ∧ (s.eng 0).xttask.getLsbD 31 = true ∧ fieldN (s.eng 0).xttask.toNat 0 6 = 2) ∧
  (may ready (wr 1) 0x3100 7 = true ∧ may (st [(0x3100, 7, 1)]) (wr 0) 0x3100 7 = true ∧ (st [(0x3100, 7, 1)]).flag 0x3100 7 0 = true) := by
  decide +kernel

/-! ### Witnesses: the collector, the real-time clock, the fuses and the journal -/

/-- Outside Harbour, with the collector changed, at a time. -/
def collected (f : Collector → Collector) (l : List (Nat × Nat × Nat)) : State :=
  { st ([(0x3200, 1, 0)] ++ l) with col := f {}, now := 1000, real := 1000000000000000 }

/-- R694 to R715: reports, the log full and not, actions of each kind, posts, Harbour inside and outside. -/
theorem witness_CollectorReportsLogsAndHarbours :
  (let s : State := { collected id [] with raised := [{ time := 5, src := 1, cls := .ce, detail := 0 }] }
   s.on 2 = true ∧ s.col.taken ≠ some s.t ∧ nextReports s.raised = ([{ time := 5, src := 1, cls := .ce, detail := 0 }], []) ∧ 5 ≤ s.t) ∧
  ((collected id []).col.log.length < 64 ∧ (collected (fun c => { c with log := List.replicate 64 0 }) []).col.log.length = 64) ∧
  (let s := collected (fun c => { c with acts := [(3, 6)] }) []
   s.col.acts ≠ [] ∧ s.col.acts.any (fun p => p.2 == 6) = true) ∧
  (let s := collected (fun c => { c with acts := [(3, 15)] }) []
   s.col.acts.any (fun p => p.2 == 6) = false ∧ harbourCalls s.col = some (1, 3) ∧ inHarbour s = false) ∧
  (let s := collected (fun c => { c with release := true }) [(0x3200, 1, 1), (0x3200, 2, 1)]
   s.col.release = true ∧ harbourCalls s.col = none ∧
     inHarbour (lesserActs (s.modCol (fun c => { c with acts := [], enter := [], release := false })) [] false) = true ∧
     inHarbour s = true ∧ s.nat 0x3200 2 ≠ 0) ∧
  (let s := (collected (fun c => { c with posts := [(0, 5)] }) [(taskIdx 0, 2, 3), (taskIdx 0, 0x13, 4)])
   s.cyc.faultHanded = false ∧ s.col.posts = [(0, 5)] ∧ roleQueue s 0 0 = some 4 ∧ taskTakes s 0 = true) ∧
  (roleQueue (collected id [(taskIdx 0, 0x13, 255)]) 0 0 = none) ∧
  (may ready (wr 1) 0x3200 0x0B = true ∧ ready.col.ft = [] ∧ (collected (fun c => { c with ft := [3] }) []).col.ft ≠ [] ∧
    may ready (wr 1) 0x3200 0x0C = true ∧ may ready (wr 0x00430005) 0x3204 1 = true ∧ may ready (wr 0x00830005) 0x3204 1 = true ∧
    may ready (wr 0x00C30005) 0x3204 1 = true ∧ fieldN (carried (wr 0x00430005) 0x3204 1).toNat 22 2 = 1 ∧
    fieldN (carried (wr 0x00830005) 0x3204 1).toNat 22 2 = 2 ∧ fieldN (carried (wr 0x00C30005) 0x3204 1).toNat 22 2 = 3) ∧
  (let s := collected id [(0x3200, 1, 1), (0x3200, 2, 1), (0x3200, 5, 1), (0x3200, 7, 3)]
   inHarbour s = true ∧ s.nat 0x3200 2 = 1 ∧ s.flag 0x3200 5 0 = true ∧ s.nat 0x3200 9 < s.nat 0x3200 7 ∧
     max s.col.entered s.col.lastBad + realMs (s.nat 0x3200 6) ≤ s.real ∧ harbourCalls s.col = none) ∧
  (let s := collected id []
   inHarbour s = false ∧ s.col.outside + realMs (1000 * s.nat 0x3200 8) ≤ s.real) ∧
  (let s := collected (fun c => { c with log := [5] }) []
   sees s rd 0x3203 1 = true ∧ Sparse.find (s.master rd.master).buffer (objKey 0x3203 1) = none) ∧
  (let s := (collected id []).modMaster rd.master (fun x => { x with buffer := [(objKey 0x3203 1, 5)] })
   sees s rd 0x3203 1 = true ∧ Sparse.find (s.master rd.master).buffer (objKey 0x3203 1) = some 5) := by decide +kernel

/-- The real-time clock on a timebase, changed, at a real time. -/
def timed (base : Nat) (f : Rtc → Rtc) (l : List (Nat × Nat × Nat)) : State :=
  { st ([(0x3300, 0x10, base)] ++ l) with rtc := f { ready.rtc with chosen := true }, real := 1000000000 }

/-- R716 to R733: timebases, edges with each trim, the fraction's wrap, sets, alarms and supplies. -/
theorem witness_RealTimeClockCountsSetsAndAlarms :
  (let s := timed 0 (fun r => { r with chosen := false, chooseAt := 5 }) []
   s.rtc.chosen = false ∧ s.rtc.chooseAt ≤ s.real) ∧
  (timebaseRuns (timed 0 id []) = true ∧ (timed 0 id []).rtc.latch = none ∧ (timed 0 id []).rtc.trim = 0 ∧
    (timed 0 id []).nat 0x3300 0x10 = 0 ∧ (timed 1 id []).nat 0x3300 0x10 = 1 ∧ timebaseRuns (timed 1 id []) = true) ∧
  (0 < (timed 0 (fun r => { r with trim := 5 }) []).rtc.trim ∧ (timed 0 (fun r => { r with trim := -5 }) []).rtc.trim < 0) ∧
  (rtcSeconds (timed 0 id []) ≤ maxSeconds ∧ rtcFraction (timed 0 id []) < 32767) ∧
  (let s := timed 0 id [(0x3300, 3, 65534)]
   rtcFraction s = 32767 ∧ rtcSeconds s < maxSeconds) ∧
  (let s := timed 0 id [(0x3300, 3, 65534), (0x3300, 1, 0xFFFFFFFF), (0x3300, 2, 0xFF)]
   rtcFraction s = 32767 ∧ rtcSeconds s = maxSeconds) ∧
  (2 ^ 20 ≤ (timed 0 (fun r => { r with steps := 2 ^ 20 }) []).rtc.steps) ∧
  (let s := timed 0 (fun r => { r with lastEdge := 0 }) [(0x3300, 0x12, 0)]
   s.rtc.chosen = true ∧ s.rtc.lastEdge + 400 * 500 ≤ s.real ∧ s.flag 0x3300 0x12 0 = false) ∧
  (let s := timed 0 (fun r => { r with lastEdge := 0, still := false }) [(0x3300, 0x12, 1)]
   s.flag 0x3300 0x12 0 = true ∧ s.rtc.still = false) ∧
  (let s := ready.modMaster (.engine 0 false) (fun x => { x with staged := some (objKey 0x3300 4, 5) })
   may s (wr 0) 0x3300 5 = true ∧ (s.master (.engine 0 false)).staged = some (objKey 0x3300 4, 5)) ∧
  (let s := timed 0 id [(0x3300, 9, 0x07E8021D)]
   may s (wr 0x000C0000) 0x3300 0x0A = true ∧ calendarCheck (s.nat 0x3300 9) (carried (wr 0x000C0000) 0x3300 0x0A).toNat = 0 ∧
     calendarCheck (s.nat 0x3300 9) (carried (wr 0x00180000) 0x3300 0x0A).toNat ≠ 0) ∧
  (let s := timed 0 (fun r => { r with latch := some (5, 0) }) []
   s.rtc.latch = some (5, 0) ∧ timebaseRuns s = true) ∧
  ((timed 0 (fun r => { r with alarm := true }) []).rtc.alarm = true) ∧
  ((timed 0 id [(0x3300, 0x11, 4)]).flag 0x3300 0x11 2 = true ∧ (timed 0 id [(0x3300, 0x11, 0)]).flag 0x3300 0x11 2 = false ∧
    ready.rtc.armed = true) := by decide +kernel

/-- An OTP command in progress. -/
def fusing (code region bit : Nat) (fell : Bool) (otp : List Nat) (l : List (Nat × Nat × Nat)) : State :=
  let run : OtpCommand := { code := code, region := region, bit := bit, start := 0, pump := true }
  ({ st l with now := 1000000000 } : State).modNv (fun x => { x with command := some run, vauxFell := fell, otp := otp })

/-- A run at 25 °C with good supplies, that programs what the bits say. -/
def warmRun (took : BitVec 3) : OtpRun := { tj := 25000, vppLow := 6000, vppHigh := 6000, settled := true, took := took }

/-- R741 to R747, R830: OTP commands that start, that are turned away, and that end in each way. -/
theorem witness_FusesAreProgrammed :
  (may ready (wr 1) 0x3401 4 = true ∧ ready.nv.command = none ∧ ready.sup.warn = false) ∧
  ((fusing 1 5 600 false [] []).nv.command ≠ none ∧ may (fusing 1 5 600 false [] []) (wr 1) 0x3401 4 = true) ∧
  (let c : OtpCommand := { code := 1, region := 5, bit := 600, start := 0, pump := true }
   let s := fusing 1 5 600 false [] [(0x3400, 2, 0)]
   s.nv.command = some c ∧ s.passed c.start (200 * otpLeast s c (warmRun 7)) = true ∧ 512 ≤ c.bit ∧ c.bit < 992 ∧
     otpWarm (warmRun 7) = true ∧ writeLocked s 5 600 = false ∧ s.nv.vauxFell = false ∧ otpSupplied c (warmRun 7) = true ∧
     1024 * c.region + c.bit ∉ s.nv.otp ∧ (warmRun 7).took.getLsbD 0 = true ∧ (warmRun 0).took.getLsbD 0 = false) ∧
  (writeLocked (fusing 1 5 600 false [] [(0x3400, 2, 32)]) 5 600 = true) ∧
  (∀ k : Fin 4, (fusing (2 + k) 5 600 false [] []).nv.command.map (·.code) = some (2 + k.val)) ∧
  (otpWarm { warmRun 7 with tj := 90000 } = false) ∧
  (({ ready with nv := { ready.nv with fuses := [0] } } : State).nv.fuses = [0]) := by decide +kernel

/-- R751 to R763: the journal's records, requests and layouts. -/
theorem witness_RecordsAreWritten :
  (let s := requestRecord (st [(0x3440, 1, 1)]) 5
   nextRecord s = some 5 ∧ s.on 2 = true ∧ journalRuns s = true ∧ s.startup.journalLoaded = true ∧ s.nv.writing = none) ∧
  (let s : State := { ready with nv := { ready.nv with writing := some (5, false) } }
   s.nv.writing = some (5, false) ∧
     slotComplete (memStore s (targetPlace s 5 + 12) (~~~ s.memWord (targetPlace s 5 + 8))) 5 ((newerSlot s 5).elim false not) = false) ∧
  (let s := writeSlot { ready with nv := { ready.nv with writing := some (5, true) } } 5
   s.nv.writing = some (5, true) ∧
     slotComplete (memStore s (targetPlace s 5 + 12) (~~~ s.memWord (targetPlace s 5 + 8))) 5 ((newerSlot s 5).elim false not) = true) ∧
  (let s : State := { st [(0x3440, 1, 1), (0x3440, 3, 5)] with now := 720000000000 }
   s.on 2 = true ∧ (s.nv.hour + 1) * 720000000000 ≤ s.t ∧
     (requestRecord ((s.modNv (fun n => { n with hour := s.t / 720000000000 })).bump 0x3440 4 32) 0).nat 0x3440 4 < s.nat 0x3440 3) ∧
  (let s : State := { st [(0x3440, 1, 1), (0x3440, 3, 1)] with now := 720000000000 }
   s.nat 0x3440 3 ≤ (requestRecord ((s.modNv (fun n => { n with hour := s.t / 720000000000 })).bump 0x3440 4 32) 0).nat 0x3440 4) ∧
  (may ready (wr 0) 0x3440 1 = true ∧ may ready (wr 1) 0x3440 1 = true ∧ recPending ready 5 = false ∧
    journalRuns (st [(0x3440, 1, 1)]) = true ∧ journalRuns (st [(0x3440, 1, 0)]) = false) ∧
  (may ready (wr (64 * 65536 + 1)) 0x3450 9 = true ∧ recPending ready 8 = false ∧ ready.nv.writing = none ∧
    (∀ q : Fin 64, fieldN (ready.nat 0x3450 (1 + q)) 0 10 = 0) ∧ may ready (wr 0) 0x3450 9 = true) ∧
  (8 ∈ ({ ready with nv := { ready.nv with judging := [8] } } : State).nv.judging) ∧
  (let s := st [(0x3441, 1, 8), (0x3441, 3, 4), (0x3450, 9, 64 * 65536 + 1)]
   may s (wr 1) 0x3441 4 = true ∧ (slotPlace s 8 false).2 ≠ 0 ∧ s.nat 0x3441 3 ≤ recordRoom s 8) ∧
  (let s := st [(0x3441, 1, 8), (0x3441, 3, 300), (0x3450, 9, 64 * 65536 + 1)]
   recordRoom s (s.nat 0x3441 1) < s.nat 0x3441 3 ∧ (slotPlace ready 8 false).2 = 0) := by decide +kernel

/-! ### Witnesses: checks, counters, the ledger, start-up -/

/-- Assayer channel 0 in a state, changed, at cycle 1000. -/
def assaying (state : Nat) (f : AssayerChannel → AssayerChannel) : State :=
  { (st [(assayerIdx 0, 2, state)]).modAsy 0 f with now := 1000 }

/-- R766 to R774: a channel idle, scanning, fed by its owner and by another, and its reads. -/
theorem witness_ChecksRun :
  (may ready (wr 1) (assayerIdx 0) 1 = true ∧ may ready (wr 2) (assayerIdx 0) 1 = true ∧ may ready (wr 3) (assayerIdx 0) 1 = true ∧
    may ready (wr 4) (assayerIdx 0) 1 = true ∧ chanState (assaying 0 id) 0 = 0 ∧ may (assaying 0 id) (wr 1) (assayerIdx 0) 1 = true ∧ chanState (assaying 1 id) 0 = 1 ∧ chanState (assaying 2 id) 0 = 2) ∧
  (((assaying 1 (fun c => { c with left := 8 })).asyChan 0).left ≠ 0 ∧ ((assaying 1 id).asyChan 0).left = 0) ∧
  (let s := assaying 2 (fun c => { c with owner := some (.engine 0 false) })
   may s (wr 5) (assayerIdx 0) 9 = true ∧ may s (wr 5) (assayerIdx 0) 0x0A = true ∧ (s.asyChan 0).owner = some (.engine 0 false) ∧
     masterSlot (.engine 0 false) = masterSlot (wr 5).master) ∧
  (let s := assaying 1 (fun c => { c with left := 8, addr := 0x10000000 })
   s.on 2 = true ∧ 0 < (s.asyChan 0).left ∧ (s.asyChan 0).lastAt < s.t ∧ (busRead s (s.asyChan 0).addr).2.isSome = true) ∧
  (let s := assaying 1 (fun c => { c with left := 8, addr := 0x80000000 })
   (busRead s (s.asyChan 0).addr).2 = none) ∧
  ((assaying 1 id).asyChan 0).count = 0 ∧
  (let s := (st [(assayerIdx 0, 8, 1), (assayerIdx 0, 7, 5), (assayerIdx 0, 6, 1)])
   s.nat (assayerIdx 0) 8 ≠ 0 ∧ crcEnd (s.asyChan 0).crc (s.asyChan 0).alive ≠ s.obj (assayerIdx 0) 7 ∧ s.nat (assayerIdx 0) 6 = 1) := by
  decide +kernel

/-- R776 to R792: counters before and at their wrap, a snapshot asked for, indicators and the ledger. -/
theorem witness_CountersAndLedgerRun :
  (let s := st [(blockIdx 0, 1, 1), (blockIdx 0, 4, 0x30)]
   s.on 2 = true ∧ s.flag (blockIdx 0) 1 0 = true ∧ countedNow s 0 + 1 ≤ eventMax s (counterEvent s 0) ∧ counterValue s 0 + 1 < 2 ^ 48) ∧
  (let s := st [(blockIdx 0, 1, 1), (blockIdx 0, 4, 0x30), (blockIdx 0, 0x0C, 0xFFFFFFFF), (blockIdx 0, 0x0D, 0xFFFF)]
   countedNow s 0 + 1 ≤ eventMax s (counterEvent s 0) ∧ 2 ^ 48 ≤ counterValue s 0 + 1) ∧
  (may ready (wr 1) 0x3600 1 = true ∧ ({ ready with life := { ready.life with snapshot := 1 } } : State).life.snapshot ≠ 0) ∧
  (let s : State := { st [(0x3700, 1, 1), (0x21B0, 1, 1)] with now := 200000000 }
   s.on 2 = true ∧ s.flag 0x3700 1 0 = true ∧ s.t % 200000 = 0 ∧ 0 < s.t ∧ tickNo s % 1000 = 0 ∧ clockState s ≠ 0 ∧
     s.life.last ≠ some s.t ∧ (s.life.steps + 1) % 3600 ≠ 0) ∧
  ((({ ready with life := { ready.life with steps := 3599 } } : State).life.steps + 1) % 3600 = 0) ∧
  (masterLive ready (wr 1).master = true ∧ checkWrite ready (wr 1) true (lifeIdx 0) 0x0F = .accepted ∧ carried (wr 1) (lifeIdx 0) 0x0F = 1) ∧
  (let s := st [(0x3700, 1, 1), (lifeIdx 0, 1, 4), (lifeIdx 0, 3, 0)]
   may s (wr 1) (lifeIdx 0) 0x12 = true ∧ carried (wr 1) (lifeIdx 0) 0x12 = 1 ∧ lifeRuns s = true ∧ s.nat (lifeIdx 0) 1 = 4 ∧
     s.nat (lifeIdx 0) 3 = 0) ∧
  (lifeRuns (st [(0x3700, 1, 0)]) = false) ∧
  (may ready (wr 1) 0x3700 2 = true) := by decide +kernel

/-- A state of start-up with start-up changed. -/
def starting (state : Nat) (f : Startup → Startup) (l : List (Nat × Nat × Nat)) : State :=
  (st ([(0x3800, 1, state)] ++ l)).modStart f

/-- Bank A with an image of four zero bytes for 1000_0000h, its checks as R801 lays them out. -/
def imaged : State :=
  let head := [0x42, 0x52, 0x4A, 0x52, 0x01, 0x00, 0x16, 0x48, 1, 0, 0, 0, 0, 0, 0, 0, 4, 0, 0, 0, 0, 0, 0, 0x10, 0, 0, 0, 0x10]
  let bytes := head.map (BitVec.ofNat 8) ++ wordBytes 1149822205 ++ List.replicate 220 0 ++ wordBytes 2866255193 ++ [0, 0, 0, 0]
  { starting 3 id [] with mem := (List.range 260).map (fun k => (0x70000000 + k, bytes.getD k 0)) }

theorem crcBytes_append (c : Word) (l m : List Byte) : crcBytes c (l ++ m) = crcBytes (crcBytes c l) m := by
  simp [crcBytes, List.foldl_append]

/-- R801: the header check of the image, in pieces of 44 bytes. -/
theorem imaged_headerCheck : assayerCheck (flashBytes imaged 0 0 252) 0 = headerWord imaged 0 252 := by
  have z : ∀ l : List Byte, flashBytes imaged 0 0 252 = l → headerWord imaged 0 252 = crcEnd (crcBytes crcStart l) 0 →
      assayerCheck (flashBytes imaged 0 0 252) 0 = headerWord imaged 0 252 := fun l h k => by rw [h, k]; rfl
  refine z ([0x42, 0x52, 0x4A, 0x52, 0x01, 0x00, 0x16, 0x48, 1, 0, 0, 0, 0, 0, 0, 0, 4, 0, 0, 0, 0, 0, 0, 0x10, 0, 0, 0, 0x10,
    0xFD, 0xE4, 0x88, 0x44] ++ (List.replicate 44 0 ++ (List.replicate 44 0 ++ (List.replicate 44 0 ++ (List.replicate 44 0 ++
    List.replicate 44 0))))) (by decide +kernel) ?_
  simp only [crcBytes_append]
  have h : crcBytes crcStart [0x42, 0x52, 0x4A, 0x52, 0x01, 0x00, 0x16, 0x48, 1, 0, 0, 0, 0, 0, 0, 0, 4, 0, 0, 0, 0, 0, 0, 0x10, 0, 0, 0, 0x10,
    0xFD, 0xE4, 0x88, 0x44] = 2155469043 := by decide +kernel
  have h1 : crcBytes 2155469043 (List.replicate 44 0) = 1075990189 := by decide +kernel
  have h2 : crcBytes 1075990189 (List.replicate 44 0) = 3399048633 := by decide +kernel
  have h3 : crcBytes 3399048633 (List.replicate 44 0) = 2058840847 := by decide +kernel
  have h4 : crcBytes 2058840847 (List.replicate 44 0) = 919502498 := by decide +kernel
  have h5 : crcBytes 919502498 (List.replicate 44 0) = 2077401466 := by decide +kernel
  rw [h, h1, h2, h3, h4, h5]
  decide +kernel

/-- R801, R802: the image passes the checks on which no cryptographic function bears. -/
theorem witness_BankVerify :
  imaged.on 2 = true ∧ startState imaged = 3 ∧ imaged.startup.bank = 0 ∧ headerCheck imaged 0 1 = 0 ∧
    payloadGood (copyPayload imaged 0) 0 = true := by
  have h : headerFormed imaged 0 = true := by decide +kernel
  have g : inSram (bankHeader imaged 0).load (bankHeader imaged 0).length = true := by decide +kernel
  have e : ¬ ((bankHeader imaged 0).entry < (bankHeader imaged 0).load ∨
    (bankHeader imaged 0).load + (bankHeader imaged 0).length ≤ (bankHeader imaged 0).entry) := by decide +kernel
  refine ⟨by decide +kernel, by decide +kernel, by decide +kernel, ?_, by decide +kernel⟩
  unfold headerCheck
  dsimp only
  rw [if_neg (by decide), if_neg (by rw [h]; decide), if_neg (not_not.mpr imaged_headerCheck.symm), if_neg]
  rintro (k | k)
  · rw [g] at k; cases k
  · exact e k

/-- R799, R802: a bank with no device and one with nothing written fail checks 1h and 2h. -/
theorem test_bank_checks_fail : (verifyBank ready 0 0).1 = 1 ∧ (verifyBank ready 0 1).1 = 2 := by decide +kernel

/-- What the remaining checks of an image come to. -/
theorem verifyBank_of_payloadGood {s : State} {b m : Nat} (h : headerCheck s b m = 0) (g : payloadGood (copyPayload s b) b = true) :
    (verifyBank s b m).1 = signatureCheck (verifyBank s b m).2 b := by
  simp [verifyBank, h, g]

/-- R741, R757, R797, R803: start-up in each state, with one bank, with two, newer A and newer B. -/
theorem witness_StartUpRuns :
  (let s := starting 1 id []
   s.on 2 = true ∧ startState s = 1 ∧ s.rtc.cause ≠ 3 ∧ ({ s with rtc := { s.rtc with cause := 3 } } : State).rtc.cause = 3) ∧
  (startState (starting 2 id []) = 2) ∧
  (∀ j : Fin 32, shadowWord ready 0 j = 0) ∧
  (let s := starting 3 (fun u => { u with bank := 2, valid := [0] }) []
   startState s = 3 ∧ s.startup.bank = 2 ∧ s.startup.valid = [0] ∧ fallbackBank s = none ∧ copiedOver s 0 = false) ∧
  ((starting 3 (fun u => { u with bank := 2 }) []).startup.valid = []) ∧
  (let s := starting 3 (fun u => { u with valid := [0, 1], banks := [{ sequence := 1 }, { sequence := 2 }] }) []
   0 < angDiff (bankInfo s 1).sequence (bankInfo s 0).sequence) ∧
  (let s := starting 3 (fun u => { u with valid := [0, 1], banks := [{ sequence := 2 }, { sequence := 2 }] }) []
   angDiff (bankInfo s 1).sequence (bankInfo s 0).sequence ≤ 0) := by decide +kernel

/-- R805 to R809: widening's steps, running, targets and retries. -/
theorem witness_WideningSteps :
  (let s := starting 4 (fun u => { u with steps := [3] }) []
   s.on 2 = true ∧ s.startup.steps = [3] ∧ stepReady s 3 false = true ∧ startState s = 4) ∧
  (let s := starting 5 (fun u => { u with steps := [4], again := true }) []
   startState s = 5 ∧ s.startup.again = true ∧ stepReady s 4 false = true ∧ widening s = true ∧ may s (wr 1) 0x3801 1 = true ∧
     may s (wr 1) 0x3801 5 = true) ∧
  (let s := starting 4 id [(0x3801, 2, 0)]
   startState s = 4 ∧ s.startup.steps = [] ∧ s.flag 0x3801 2 1 = false) ∧
  (ready.engines.length = 16) ∧
  (may ready (wr 1) 0x3801 1 = true ∧ widening ready = false ∧ (carried (wr 1) 0x3801 1).toNat < ready.nat 0x2001 3 ∧
    (carried (wr 4) 0x3801 1).toNat = ready.nat 0x2001 3 ∧ may ready (wr 4) 0x3801 1 = true) ∧
  (let s := st [(0x2001, 3, 2)]
   may s (wr 4) 0x3801 1 = true ∧ s.nat 0x2001 3 < (carried (wr 4) 0x3801 1).toNat ∧ startState s = 5) ∧
  (let s := starting 6 id [(0x2001, 3, 2)]
   widening s = false ∧ startState s ≠ 5 ∧ may s (wr 1) 0x3801 5 = true) := by decide +kernel

/-! ### Worked examples of the spec -/

/-- R336: a saturation release that its master can make, and one of another value. -/
theorem witness_SaturationReleaseSetsTheCaps :
  may ready (wr 1) (svIdx 0 + 4) 3 = true ∧ carried { master := .can, len := 4, value := 0 } (svIdx 0 + 4) 3 ≠ 1 := by decide +kernel

/-- Chapter 22, the clearing of a buffer: the check of 30 zero bytes with alive counter 0. -/
theorem test_assayer_zeros : assayerCheck (List.replicate 30 0) 0 = 0x8A9136AA := by decide +kernel

/-- Chapter 22, a message over two-wire: the check of 00h to 1Dh with alive counter 1F1Eh. -/
theorem test_assayer_message : assayerCheck ((List.range 30).map (BitVec.ofNat 8)) 0x1F1E = 0x46DD794E := by decide +kernel

/-- Chapter 20, 2024-02-29 at 12:00:00. -/
theorem test_calendar_seconds : calendarSeconds 0x07E8021D 0x000C0000 = 762523200 ∧ calendarCheck 0x07E8021D 0x000C0000 = 0 := by
  decide +kernel

/-- R729: 2023 has no 29 February. -/
theorem test_calendar_refused : calendarCheck 0x07E7021D 0x000C0000 = 3 := by decide +kernel

/-- Chapter 23, the date of the end of life, 2037-11-07. -/
theorem test_date_of_end : dateWordOf 1194523502 = 0x07F50B07 := by decide +kernel

/-- R51, chapter 01: a wheel that moves from FFFF_FC00h by 0432h. -/
theorem test_angle_step : (0xFFFFFC00 : Word) + 0x432 = 0x32 ∧ angDiff 0x32 0xFFFFFC00 = 1074 ∧ angReached 0x32 0xFFFFFFFF = true := by
  decide +kernel

/-- Chapter 03, an encoder example: F_app of 4 pole pairs at a CPR of 10 000 and an interval of 400. -/
theorem test_encoder_frequency :
  encoderF (st [(encIdx 0, 2, 10000), (encIdx 0, 0x0E, 400)]) 0 4 = 1099511 ∧
  encoderF (st [(encIdx 0, 2, 10000), (encIdx 0, 0x0E, 400)]) 0 1 = 274877 := by decide +kernel

/-- Chapter 03, the same example: the angle at position 1234 with 4 pole pairs. -/
theorem test_encoder_angle : encoderAngle (st [(encIdx 0, 2, 10000), (encIdx 0, 0x0C, 1234)]) 0 4 0 = 2119995857 := by decide +kernel

/-- R538: codes of a single input at 1.234 V and of a pair at -0.15 V. -/
theorem test_converter_codes : convCode false 1234000 0 = 1684 ∧ convCode true (-150000) 0 = -103 := by decide +kernel

/-- R359: the three encodings of the spec's table. -/
theorem test_xtide_words :
  decodeWide 0x0005C50B = some (.qpop 10 11) ∧ decodeWide 0x00D6318B = some (.qpush 3 12 13) ∧
  decodeWide 0x00C5D50B = some (.qwait 10 11 12) := by decide +kernel

/-- R350: an encoding of no extension of the profile, one of custom-0 with another funct7, and FENCE.I are illegal. -/
theorem test_illegal_words : decodeWide 0x00000007 = none ∧ decodeWide 0x0205C50B = none ∧ decodeWide 0x0000100F = none := by
  decide +kernel

/-- R350: the 16-bit word of zeros is illegal. -/
theorem test_narrow_zero : decodeNarrow 0 = none := by decide +kernel

/-- R54: products in Q16.16, rounded with ties away from zero and limited. -/
theorem test_qmul : qmul 0x00018000 0x00020000 = 0x00030000 ∧ qmul 0x00000001 0x00008000 = 1 ∧
    qmul 0xFFFFFFFF 0x00008000 = 0xFFFFFFFF ∧ qmul 0x7FFFFFFF 0x7FFFFFFF = 0x7FFFFFFF := by decide +kernel

/-! ### Reset, idle and the table -/

/-- R17: the state after reset has its invariants. -/
theorem reset_invariants : State.reset.canonical = true ∧ State.reset.gatesApart = true ∧ State.reset.shaped = true := by decide +kernel

/-- The table gives its rows no bits. -/
theorem test_table_word (n w : Nat) : decodeTableWord n w = none := rfl

/-- R92: an idle step from reset is one fabric cycle. -/
theorem test_idle_step : ((after (step State.reset)).map (·.now)) = some 1 := by decide +kernel

/-- R454: a low word is staged for its master and the high word then sets both. -/
theorem test_pair : ((after (exec (.pairLowWrite 0x3300 0x0C (wr 7)) ready)).bind (fun s =>
    (after (exec (.pairHighWrite 0x3300 0x0D (wr 1)) s)).map (fun t => (t.obj 0x3300 0x0C, t.obj 0x3300 0x0D)))) = some (7, 1) := by
  decide +kernel

/-! ### Ill-formed commands, one for each check -/

theorem refused_write_lengths : ¬ (Instr.objectWrite 0x2100 1 { wr 1 with len := 0 }).wf = true ∧
    ¬ (Instr.objectWrite 0x2100 1 { wr 1 with len := 5 }).wf = true ∧ ¬ (Instr.objectWrite 0x2100 1 { wr 256 with len := 1 }).wf = true ∧
    (Instr.objectWrite 0x2100 1 (wr 1)).wf = true := by decide

theorem refused_read_lengths : ¬ (Instr.rcRead 0x21B0 5 { rd with len := 0 }).wf = true ∧ ¬ (Instr.rcRead 0x21B0 5 { rd with len := 5 }).wf = true ∧
    (Instr.rcRead 0x21B0 5 rd).wf = true := by decide

theorem refused_triggers : ¬ (Instr.powerOnReset 0 false).wf = true ∧ ¬ (Instr.powerOnReset 5 false).wf = true ∧
    ¬ (Instr.systemReset 0).wf = true ∧ ¬ (Instr.systemReset 6).wf = true ∧ (Instr.systemReset 5).wf = true := by decide

/-- A frame on channel 0. -/
def sent (f : Frame) : Instr := .canFrameReceived 0 f 0

theorem refused_frame_lengths : ¬ (sent { format := 0, ident := 5, data := List.replicate 9 0 }).wf = true ∧
    ¬ (sent { format := 2, ident := 5, data := List.replicate 9 0 }).wf = true ∧ ¬ (sent { format := 4, ident := 5 }).wf = true ∧
    (sent { format := 2, ident := 5, data := List.replicate 12 0 }).wf = true := by decide

theorem refused_frame_fields : ¬ (sent { format := 0, ident := 2048 }).wf = true ∧ ¬ (sent { format := 0, ident := 5, brs := true }).wf = true ∧
    ¬ (sent { format := 0, ident := 5, sdt := 3 }).wf = true ∧ ¬ (sent { format := 0, ident := 5, acceptance := 3 }).wf = true ∧
    (sent { format := 1, ident := 2048 }).wf = true := by decide

theorem refused_transfers : ¬ (Instr.controllerTransferEnd 0 (.done (List.replicate 33 0) true)).wf = true ∧
    ¬ (Instr.controllerTransferEnd 0 (.dataNack 33)).wf = true ∧ (Instr.controllerTransferEnd 0 (.dataNack 32)).wf = true := by decide

end Sys2Proof.Tests
end

section
/-! PROOF. The invariants of chapter 00: what every step keeps, and that the reset state has it. -/
namespace Sys2Proof.Machine

/-- What every step keeps, whether it runs the front command or one fabric cycle: canonical stores, programmed bits, gates
apart and the shape (bits 50 to 55 of `Moves`). -/
theorem step_moves {s t : State} (h : step s = .next t) : Moves 0xFC000000000000 s t := by
  unfold step at h
  split at h
  case h_1 =>
    injection h with h
    exact h ▸ fabricCycle_moves s (by decide) (Moves.refl _ s)
  case h_2 c rest _ =>
    have hm := exec_moves c { s with pending := rest } (by decide)
      (Moves.of_pending s rest (by decide) (Moves.refl 0xFC000000000000 s))
    rwa [h] at hm

/-- Settles O4, by evaluating the three invariants at the reset state. -/
theorem resetMeetsTheInvariants : Obligations.ResetMeetsTheInvariants := by
  unfold Obligations.ResetMeetsTheInvariants
  refine ⟨?canonical, ?gatesApart, ?shaped⟩
  case canonical => decide +kernel
  case gatesApart => decide +kernel
  case shaped => decide +kernel

/-- Settles O5, by the shape's bit of what every step keeps. -/
theorem stepKeepsShape : Obligations.StepKeepsShape := by
  unfold Obligations.StepKeepsShape
  intro s t hs h
  exact (step_moves h).shape (by decide) hs

end Sys2Proof.Machine
end

section
/-! SUPPORT. Accesses to hardware object words: the commands as one access, and what the effects that the access codes give
do, one equation for each case (R12, R13, R47, R450). -/
namespace Sys2Proof.Machine

/-! ### Commands that are one access -/

theorem exec_objectWrite_hardware {i : BitVec 16} {j : Byte} (w : Wr) (s : State) (hf : isFirmware i.toNat = false) :
    exec (.objectWrite i j w) s = .next (accessWrite s w false i.toNat j.toNat (writeEff i.toNat j.toNat)) := by
  change Host.Outcome.next (writeObject s w false i.toNat j.toNat) = _
  simp [writeObject, hf]

theorem readObject_hardware {s : State} {i j : Nat} (rd : Rd) (hf : isFirmware i = false) (hd : flashOff s i j = false) :
    readObject s rd i j = accessRead s rd i j (readEff i j) := by
  simp [readObject, hf, hd]

/-- A read of a hardware word without an effect of its own that is not refused. -/
theorem readObject_word {s : State} {i j : Nat} {rd : Rd} (hf : isFirmware i = false) (hd : flashOff s i j = false)
    (he : readEff i j = readWord i j) (hp : readPasses s rd i j) :
    readObject s rd i j = (readWord i j rd s).2.returned (readWord i j rd s).1 := by
  rw [readObject_hardware rd hf hd, he, accessRead_done hp]

theorem exec_rcRead (i : BitVec 16) (j : Byte) (rd : Rd) (s : State) :
    exec (.rcRead i j rd) s = .next (readObject s rd i.toNat j.toNat) := rfl

theorem exec_pairReadSnapshot (i : BitVec 16) (j : Byte) (rd : Rd) (s : State) :
    exec (.pairReadSnapshot i j rd) s = .next (readObject s rd i.toNat j.toNat) := rfl

/-! ### Writes of words outside pairs -/

section
variable {i j : Nat} {r : ObjRow} (hr : objRow i j = some r)
include hr

theorem writeEff_of_no_pair (hl : r.ty.isLow = false) (hh : r.ty.isHigh = false) : writeEff i j = wordEff i j := by
  simp [writeEff, hr, hl, hh]

theorem plainWrite_w1c (ha : r.acc = .w1c) (w : Wr) (auth : Bool) (s : State) :
    plainWrite i j w auth s =
      (.accepted, s.put i j (s.obj i j &&& ~~~ w.value ||| s.cycleBits (objKey i j))) := by
  simp [plainWrite, hr, ha, acc]

theorem plainWrite_wo (ha : r.acc = .wo) (w : Wr) (auth : Bool) (s : State) :
    plainWrite i j w auth s = (.accepted, s) := by
  simp [plainWrite, hr, ha, acc]

theorem plainWrite_stored (h1 : r.acc ≠ .w1c) (h2 : r.acc ≠ .wo) (w : Wr) (auth : Bool) (s : State) :
    plainWrite i j w auth s = (.accepted, s.storeCount i j w.value) := by
  simp [plainWrite, hr, h1, h2, acc]

theorem State.store_row (s : State) (v : Word) : s.store i j v = s.put i j (r.rng.keep (r.ty.extend v)) := by
  simp [State.store, hr]

theorem State.storeCount_unmoved (s : State) (v : Word) (hc : s.cycleCount (objKey i j) = none) :
    s.storeCount i j v = s.put i j (r.rng.keep (r.ty.extend v)) := by
  simp [State.storeCount, hc, State.store_row hr]

theorem State.storeCount_moved (s : State) (v : Word) {c : CycleCount} (hc : s.cycleCount (objKey i j) = some c) :
    s.storeCount i j v =
      let x := s.put i j (r.rng.keep (r.ty.extend v))
      x.putN i j (satN (8 * r.ty.size) (x.nat i j + c.alone.toNat)) := by
  simp [State.storeCount, hc, hr, State.store_row hr]

end

/-! ### Reads -/

theorem State.takeCount_unmoved {s : State} {i j : Nat} (shown : Word) (hc : s.cycleCount (objKey i j) = none) :
    s.takeCount i j shown = (shown, s.put i j 0) := by
  simp [State.takeCount, hc]

theorem State.takeCount_moved_value {s : State} {i j : Nat} (shown : Word) {c : CycleCount}
    (hc : s.cycleCount (objKey i j) = some c) : (s.takeCount i j shown).1 = c.before.setWidth 32 := by
  simp [State.takeCount, hc]

theorem State.takeCount_moved_obj {s : State} {i j : Nat} (shown : Word) {c : CycleCount}
    (hc : s.cycleCount (objKey i j) = some c) (x y : Nat) :
    (s.takeCount i j shown).2.obj x y = if objKey x y = objKey i j then c.alone.setWidth 32 else s.obj x y := by
  simp only [State.takeCount, hc, State.put_obj]
  rfl

theorem State.takeCount_memByte (s : State) (i j : Nat) (shown : Word) (a : Nat) :
    (s.takeCount i j shown).2.memByte a = s.memByte a := by
  unfold State.takeCount
  split <;> rfl

section
variable {i j : Nat} {r : ObjRow} (hr : objRow i j = some r) (rd : Rd) (s : State)
include hr

theorem readWord_rc (ha : r.acc = .rc) (hl : r.ty.isLow = false) (hh : r.ty.isHigh = false)
    (hla : latches i j = []) (hby : latchedBy i j = none) :
    readWord i j rd s = s.takeCount i j (live s rd.master i j) := by
  simp [readWord, hr, hl, hh, hla, hby, ha]

theorem readWord_pair_unbuffered (hp : r.ty.isLow = true ∨ r.ty.isHigh = true) (ha : r.acc ≠ .rc)
    (hb : Sparse.find (s.master rd.master).buffer (objKey i j) = none) (hla : latches i j = []) :
    readWord i j rd s = (live s rd.master i j, s.modMaster rd.master (fun x =>
      { x with buffer := [(objKey i (pairOther r j), live s rd.master i (pairOther r j))] })) := by
  simp [readWord, hr, hp, hb, hla, ha]

theorem readWord_pair_buffered (hp : r.ty.isLow = true ∨ r.ty.isHigh = true) {u : Word}
    (hb : Sparse.find (s.master rd.master).buffer (objKey i j) = some u) :
    readWord i j rd s = (u, s.modMaster rd.master (fun x =>
      { x with buffer := x.buffer.filter (fun p => p.1 != objKey i j) })) := by
  simp [readWord, hr, hp, hb]

end

end Sys2Proof.Machine
end

section
/-! PROOF. The statements on accesses of chapter 00. -/
namespace Sys2Proof.Machine

/-- An OBJECT_WRITE that passes the checks, of a word outside pairs that its access code alone gives an effect. -/
theorem exec_objectWrite_plain {i : BitVec 16} {j : Byte} {w : Wr} {s s' : State} {r : ObjRow}
    (hf : isFirmware i.toNat = false) (hr : objRow i.toNat j.toNat = some r) (hl : r.ty.isLow = false)
    (hh : r.ty.isHigh = false) (he : wordEff i.toNat j.toNat = plainWrite i.toNat j.toNat)
    (hp : writePasses s w i.toNat j.toNat)
    (hw : plainWrite i.toNat j.toNat (typedWrite w i.toNat j.toNat) false s = (.accepted, s')) :
    exec (.objectWrite i j w) s = .next (s'.accepted w.master i.toNat j.toNat) := by
  rw [exec_objectWrite_hardware w s hf, writeEff_of_no_pair hr hl hh, he, accessWrite_done hp hw]

/-- Settles O11, by the effect of each access code (`plainWrite_stored`, `plainWrite_w1c`, `plainWrite_wo`). -/
theorem objectWriteByAccessCode : Obligations.ObjectWriteByAccessCode := by
  unfold Obligations.ObjectWriteByAccessCode
  intro i j w s r hf hr hl hh he hp v x
  refine ⟨fun ha => ?stored, fun ha => ?w1c, fun ha => ?wo⟩
  case stored =>
    have hw := plainWrite_stored hr (by rcases ha with ha | ha <;> simp [ha]) (by rcases ha with ha | ha <;> simp [ha])
      (typedWrite w i.toNat j.toNat) false s
    refine ⟨fun hc => ?_, fun c hc => ?_⟩
    · rw [State.storeCount_unmoved hr s _ hc] at hw
      exact exec_objectWrite_plain hf hr hl hh he hp hw
    · rw [State.storeCount_moved hr s _ hc] at hw
      exact exec_objectWrite_plain hf hr hl hh he hp hw
  case w1c => exact exec_objectWrite_plain hf hr hl hh he hp (plainWrite_w1c hr ha _ false s)
  case wo => exact exec_objectWrite_plain hf hr hl hh he hp (plainWrite_wo hr ha _ false s)

/-- Settles O13, by the value and the effect of a read in each of its cases (`readWord_rc` with `State.takeCount`,
`readWord_pair_unbuffered`, `readWord_pair_buffered`). -/
theorem readsClearAndBuffer : Obligations.ReadsClearAndBuffer := by
  unfold Obligations.ReadsClearAndBuffer
  intro i j rd s r hf hd he hr hp v o b
  have hread := readObject_word hf hd he hp
  refine ⟨fun ha hl hh hla hby => ?rc, fun hpair ha => ?pair⟩
  case rc =>
    rw [exec_rcRead, hread, readWord_rc hr rd s ha hl hh hla hby]
    refine ⟨fun hc => ?_, fun c hc => ⟨_, rfl, ?value, ?word, ?words, ?bytes⟩⟩
    · rw [State.takeCount_unmoved _ hc]
    case value => simp [State.returned, State.takeCount_moved_value _ hc]
    case word => simp [State.takeCount_moved_obj _ hc]
    case words =>
      intro x y hy hxy
      have hk : objKey x y ≠ objKey i.toNat j.toNat := fun h => by
        obtain ⟨rfl, rfl⟩ := objKey_inj hy j.isLt h
        exact hxy (List.mem_singleton_self _)
      simp [State.takeCount_moved_obj _ hc, hk]
    case bytes =>
      intro a
      rw [State.returned_memByte, State.takeCount_memByte]
  case pair =>
    rw [exec_pairReadSnapshot, hread]
    refine ⟨fun hb hla => ?_, fun u hb => ?_⟩
    · rw [readWord_pair_unbuffered hr rd s hpair ha hb hla]
    · rw [readWord_pair_buffered hr rd s hpair hb]

end Sys2Proof.Machine
end

section
/-! PROOF. A write that the checks refuse (R14, R444, R465): what it changes where the state holds a record for its master,
and the state without one that refutes the statement. -/
namespace Sys2Proof.Machine

/-! ### Recording and counting -/

theorem getD_modAt_self {α : Type} (l : List α) (n : Nat) (f : α → α) (d : α) (hn : n < l.length) :
    (modAt l n f).getD n d = f (l.getD n d) := by
  induction l generalizing n with
  | nil => simp at hn
  | cons a t ih =>
    cases n with
    | zero => rfl
    | succ n => simpa [modAt] using ih n (by simpa using hn)

/-- A master whose record the state holds has it changed. -/
theorem State.modMaster_master_self (s : State) (m : Master) (f : MasterState → MasterState)
    (hm : masterSlot m < s.masters.length) : (s.modMaster m f).master m = f (s.master m) :=
  getD_modAt_self s.masters (masterSlot m) f {} hm

/-- A shaped state holds a record for every master. -/
theorem masterSlot_lt_of_shaped {s : State} (hs : s.shaped = true) (m : Master) : masterSlot m < s.masters.length := by
  have hlen : s.masters.length = 20 := by
    simp only [State.shaped, Bool.and_eq_true, beq_iff_eq] at hs
    omega
  rw [hlen]
  cases m <;> simp only [masterSlot] <;> omega

/-- R445 raises exceptions in engines alone: for any other master the end of a write records, counts and answers. -/
theorem endWrite_no_engine (s : State) {m : Master} (hm : ∀ e u, m ≠ .engine e u) (i j : Nat) (res : Res) (resp : Resp) :
    endWrite s m i j res resp = { countRefusal (recordWrite s m i j res) res with resp := some resp } := by
  cases m with
  | engine e u => exact absurd rfl (hm e u)
  | _ => rfl

theorem countRefusal_count (s : State) {res : Res} (h : res ≠ .accepted) :
    (countRefusal s res).nat 0x2010 3 = min (s.nat 0x2010 3 + 1) 4294967295 := by
  cases res with
  | accepted => exact absurd rfl h
  | _ => simp [countRefusal, State.nat, objKey, satN]

theorem countRefusal_keepsWords (s : State) (res : Res) :
    s.keepsWords (countRefusal s res) [(0x2010, 3), (0x2010, 4), (0x2010, 5)] := by
  intro x y hy hxy
  have hk : ∀ b ∈ [3, 4, 5], objKey x y ≠ objKey 0x2010 b := by
    rintro b hb h
    obtain ⟨rfl, rfl⟩ := objKey_inj hy (by simp at hb; omega) h
    exact hxy (by simpa using hb)
  have h3 := hk 3 (by simp)
  have h4 := hk 4 (by simp)
  have h5 := hk 5 (by simp)
  cases res <;> simp [countRefusal, h3, h4, h5]

/-- A counter that counts changes the object words and the record of the cycle's events alone. -/
theorem State.bump_frame (s : State) (i j w : Nat) : ∃ od cyc, s.bump i j w = { s with od := od, cyc := cyc } :=
  ⟨_, _, rfl⟩

theorem countRefusal_frame (s : State) (res : Res) : ∃ od cyc, countRefusal s res = { s with od := od, cyc := cyc } := by
  obtain ⟨od, cyc, h⟩ := State.bump_frame s 0x2010 3 32
  cases res with
  | accepted => exact ⟨s.od, s.cyc, rfl⟩
  | noObject =>
    obtain ⟨od', cyc', h'⟩ := State.bump_frame { s with od := od, cyc := cyc } 0x2010 4 16
    exact ⟨od', cyc', by simp [countRefusal, h, h']⟩
  | domain =>
    obtain ⟨od', cyc', h'⟩ := State.bump_frame { s with od := od, cyc := cyc } 0x2010 5 16
    exact ⟨od', cyc', by simp [countRefusal, h, h']⟩
  | _ => exact ⟨od, cyc, by simp [countRefusal, h]⟩

@[simp] theorem countRefusal_masters (s : State) (res : Res) : (countRefusal s res).masters = s.masters := by
  obtain ⟨od, cyc, h⟩ := countRefusal_frame s res
  rw [h]

@[simp] theorem rangeResp_result (i j : Nat) (w : Wr) (res : Res) : (rangeResp i j w res).result = res := by
  unfold rangeResp
  split
  · split <;> rfl
  · rfl

/-- What O10 says holds of every state that holds a record for the writing master, as every shaped state does
(`masterSlot_lt_of_shaped`). -/
theorem exec_objectWrite_refused {i : BitVec 16} {j : Byte} {w : Wr} {s : State} (hf : isFirmware i.toNat = false)
    (hlive : masterLive s w.master = true) (hm : ∀ e u, w.master ≠ .engine e u)
    (hc : checkWrite s w false i.toNat j.toNat ≠ .accepted) (hslot : masterSlot w.master < s.masters.length) :
    ∃ t, exec (.objectWrite i j w) s = .next t ∧
      t.resp.map (·.result) = some (checkWrite s w false i.toNat j.toNat) ∧
      (t.master w.master).lastResult = (checkWrite s w false i.toNat j.toNat).code ∧
      (t.master w.master).lastObject = BitVec.ofNat 32 (i.toNat * 256 + j.toNat) ∧
      t.nat 0x2010 3 = min (s.nat 0x2010 3 + 1) 4294967295 ∧
      s.keepsWords t [(0x2010, 3), (0x2010, 4), (0x2010, 5)] ∧ s.keepsBytes t ∧ s.keepsRest t := by
  rw [exec_objectWrite_hardware w s hf, accessWrite_refused s w false _ _ _ hlive hc, endWrite_no_engine s hm]
  generalize checkWrite s w false i.toNat j.toNat = res at hc ⊢
  have hrec : ∀ resp, ({ countRefusal (recordWrite s w.master i.toNat j.toNat res) res with resp := resp } : State).master
      w.master = { s.master w.master with
        lastResult := res.code, lastObject := BitVec.ofNat 32 (i.toNat * 256 + j.toNat) } := by
    intro resp
    have h := State.modMaster_master_self s w.master (fun x =>
      { x with lastResult := res.code, lastObject := BitVec.ofNat 32 (i.toNat * 256 + j.toNat) }) hslot
    simpa [State.master, recordWrite] using h
  refine ⟨_, rfl, by simp, by rw [hrec], by rw [hrec], countRefusal_count _ hc, countRefusal_keepsWords _ res, ?_⟩
  obtain ⟨od, cyc, h⟩ := countRefusal_frame (recordWrite s w.master i.toNat j.toNat res) res
  rw [h]
  exact ⟨fun _ => rfl, rfl⟩

/-! ### The state that refutes the statement -/

/-- Reset, but with no record for any master: a list shorter than R450's twenty masters, which the statement, unlike those of
O4 and O5, does not exclude. -/
def State.withoutMasters : State := { State.reset with masters := [] }

/-- A write by the Foreman of object 0000h:00h, which does not exist. -/
def foremanWrite : Wr := { master := .foreman, len := 4, value := 0 }

theorem foremanWrite_refused :
    masterLive State.withoutMasters .foreman = true ∧
      checkWrite State.withoutMasters foremanWrite false 0 0 = .noObject := by
  decide +kernel

/-- Without a record there is none to change: after the write the Foreman's last result still reads 0. -/
theorem foremanWrite_unrecorded (t : State) (h : exec (.objectWrite 0 0 foremanWrite) State.withoutMasters = .next t) :
    (t.master .foreman).lastResult = 0 := by
  obtain ⟨hlive, hc⟩ := foremanWrite_refused
  have hw := exec_objectWrite_hardware (i := 0) (j := 0) foremanWrite State.withoutMasters rfl
  rw [h, accessWrite_refused _ _ _ _ _ _ hlive (by simp [hc])] at hw
  injection hw with hw
  rw [hw, endWrite_no_engine _ (by simp [foremanWrite])]
  simp [State.master, recordWrite, State.modMaster, State.withoutMasters, modAt]

/-- Refutes O10: in a state whose list of masters is empty, a refused write by the Foreman of object 0000h:00h (result 5h)
leaves its last result at 0, for the statement does not ask that the state hold a record for each master. With that
record it holds (`exec_objectWrite_refused`). -/
theorem not_refusedWriteChangesNothing : ¬ Obligations.RefusedWriteChangesNothing := by
  unfold Obligations.RefusedWriteChangesNothing
  intro h
  obtain ⟨hlive, hc⟩ := foremanWrite_refused
  obtain ⟨t, hexec, -, hlast, -⟩ := h 0 0 foremanWrite State.withoutMasters rfl hlive (by simp [foremanWrite])
    (by change checkWrite _ _ _ 0 0 ≠ _; simp [hc])
  rw [show foremanWrite.master = .foreman from rfl, foremanWrite_unrecorded t hexec] at hlast
  change 0 = (checkWrite State.withoutMasters foremanWrite false 0 0).code at hlast
  rw [hc] at hlast
  exact absurd hlast (by decide)

end Sys2Proof.Machine
end

section
/-! SUPPORT. Commands that act under a condition. -/
namespace Sys2Proof.Machine

/-- A command whose condition holds acts. -/
theorem when_true {c : Bool} (h : c = true) (s t : State) : when c s t = .next t := by rw [h]; rfl

/-- A command whose condition fails changes nothing. -/
theorem when_false {c : Bool} (h : c = false) (s t : State) : when c s t = .next s := by rw [h]; rfl

end Sys2Proof.Machine
end

section
/-! SUPPORT. What the resets of D2 and of the domains that depend on it leave (R55, R57, R92, R375): object words by domain, and
what every reset that restarts fabric time has in common. -/
namespace Sys2Proof.Machine

/-! ### Object words by domain -/

theorem objKey_div {i j : Nat} (hj : j < 256) : objKey i j / 256 = i := by unfold objKey; omega

theorem objKey_mod {i j : Nat} (hj : j < 256) : objKey i j % 256 = j := by unfold objKey; omega

theorem odDefault_objKey {i j : Nat} (hj : j < 256) : odDefault (objKey i j) = objDefault i j := by
  rw [odDefault, objKey_div hj, objKey_mod hj]

/-- Words whose key a reset takes out of the store read as their defaults, all others as before. -/
theorem obj_of_filtered {s t : State} (p : Nat → Bool) (ho : t.od = s.od.filter (fun c => p c.1)) {i j : Nat} (hj : j < 256) :
    t.obj i j = if p (objKey i j) then s.obj i j else objDefault i j := by
  rw [State.obj, ho, Sparse.get_filter odDefault p, odDefault_objKey hj]
  rfl

/-- An object word reads the object store alone. -/
theorem obj_of_od {s t : State} (ho : t.od = s.od) (i j : Nat) : t.obj i j = s.obj i j :=
  congrArg (fun l => Sparse.get odDefault l (objKey i j)) ho

theorem clearObjects_obj (s : State) (d : Nat) {i j : Nat} (hj : j < 256) :
    (clearObjects s d).obj i j = if objDomain i = d then objDefault i j else s.obj i j := by
  rw [obj_of_filtered (t := clearObjects s d) (fun k => objDomain (k / 256) != d) rfl hj, objKey_div hj]
  by_cases h : objDomain i = d <;> simp [h]

/-- R55: a reset of domain d keeps every word of the other domains. -/
theorem clearObjects_obj_other (s : State) {d i j : Nat} (hj : j < 256) (hd : objDomain i ≠ d) :
    (clearObjects s d).obj i j = s.obj i j := by
  rw [clearObjects_obj s d hj, if_neg hd]

theorem resetD1_obj_other (s : State) {i j : Nat} (hj : j < 256) (hd : objDomain i ≠ 1)
    (hl : isSupplyLatch (objKey i j) = false) : (resetD1 s).obj i j = s.obj i j := by
  rw [obj_of_filtered (s := clearObjects s 1) (t := resetD1 s) (fun k => !isSupplyLatch k) rfl hj, hl,
    clearObjects_obj_other s hj hd]
  rfl

/-- R561: the reset of D2 sets the words of D2 but the regulator latches to their defaults. -/
theorem resetD2_obj (s : State) {i j : Nat} (hj : j < 256) :
    (resetD2 s).obj i j =
      if objDomain i ≠ 2 ∨ isSupplyLatch (objKey i j) = true then s.obj i j else objDefault i j := by
  rw [obj_of_filtered (s := s) (t := resetD2 s) (fun k => objDomain (k / 256) != 2 || isSupplyLatch k) rfl hj, objKey_div hj]
  simp

theorem resetCluster_od (s : State) (c : Nat) : (resetCluster s c).od = (clearObjects s (3 + c)).od :=
  (Moves.foldl (k := 4) (List.range 8) (fun s k => s.modEng (8 * c + k) (fun _ => bootState s (8 * c + k)))
    (fun u a => State.modEng_moves u _ _ (by decide) (Moves.refl 4 u)) (Moves.refl 4 _)).od rfl

theorem resetCluster_obj_other (s : State) {c i j : Nat} (hj : j < 256) (hd : objDomain i ≠ 3 + c) :
    (resetCluster s c).obj i j = s.obj i j :=
  (obj_of_od (resetCluster_od s c) i j).trans (clearObjects_obj_other s hj hd)

theorem resetD5_obj_other (s : State) {i j : Nat} (hj : j < 256) (hd : objDomain i ≠ 5) :
    (resetD5 s).obj i j = s.obj i j := clearObjects_obj_other s hj hd

theorem resetD6_obj_other (s : State) {i j : Nat} (hj : j < 256) (hd : objDomain i ≠ 6) :
    (resetD6 s).obj i j = s.obj i j := clearObjects_obj_other s hj hd

theorem resetD7_obj_other (s : State) {i j : Nat} (hj : j < 256) (hd : objDomain i ≠ 7) :
    (resetD7 s).obj i j = s.obj i j := clearObjects_obj_other s hj hd

/-- R55: the resets of the domains that depend on D2 touch no word of D0 to D2. -/
theorem resetFromD2_obj (s : State) {i j : Nat} (hj : j < 256) (hd : objDomain i ≤ 2) :
    (resetFromD2 s).obj i j = (resetD2 s).obj i j := by
  have hfollow : ∀ x : State, (followTargets x).obj i j = x.obj i j := fun x =>
    obj_of_od ((followTargets_moves x (by decide) (Moves.refl 4 x)).od rfl) i j
  have hagent : ∀ (x : State) (a : CanAgent), ({ x with agent := a } : State).obj i j = x.obj i j := fun _ _ => rfl
  unfold resetFromD2
  rw [hfollow, hagent, resetD7_obj_other _ hj (by omega), resetD6_obj_other _ hj (by omega),
    resetD5_obj_other _ hj (by omega), resetCluster_obj_other _ hj (by omega), resetCluster_obj_other _ hj (by omega)]

/-- R55, R561: a reset from D2 keeps the words of D0 and D1 and the regulator latches. -/
theorem resetFromD2_obj_kept (s : State) {i j : Nat} (hj : j < 256) (hd : objDomain i ≤ 2)
    (hk : objDomain i ≠ 2 ∨ isSupplyLatch (objKey i j) = true) : (resetFromD2 s).obj i j = s.obj i j := by
  rw [resetFromD2_obj s hj hd, resetD2_obj s hj, if_pos hk]

/-! ### What a reset from D2 leaves -/

/-- The resets of D3 to D7 keep fabric time, memory, the reports raised, the entries of the queues and the record in D0
(bits 1, 3, 7, 13 and 42 of `Moves`). -/
theorem resetFromD2_moves_resetD2 (s : State) : Moves 0x4000000208A (resetD2 s) (resetFromD2 s) :=
  followTargets_moves _ (by decide) <| Moves.of_agent _ _ (by decide) <| resetD7_moves _ (by decide) <|
    resetD6_moves _ (by decide) <| resetD5_moves _ (by decide) <| resetCluster_moves _ _ (by decide) <|
    resetCluster_moves _ _ (by decide) <| Moves.refl _ _

@[simp] theorem resetFromD2_now (s : State) : (resetFromD2 s).now = 0 := (resetFromD2_moves_resetD2 s).now rfl
@[simp] theorem resetFromD2_raised (s : State) : (resetFromD2 s).raised = [] := (resetFromD2_moves_resetD2 s).raised rfl
@[simp] theorem resetFromD2_pool (s : State) : (resetFromD2 s).pool = [] := (resetFromD2_moves_resetD2 s).pool rfl
@[simp] theorem resetFromD2_rtc (s : State) : (resetFromD2 s).rtc = s.rtc := (resetFromD2_moves_resetD2 s).rtc rfl

/-- R375: system SRAM is zero after the reset of D2. -/
theorem resetFromD2_sram (s : State) {a : Nat} (lo : 0x10000000 ≤ a) (hi : a < 0x10100000) :
    (resetFromD2 s).memByte a = 0 := by
  have hmem : (resetFromD2 s).mem = (s.clearMem 0x10000000 0x100000).mem := (resetFromD2_moves_resetD2 s).mem rfl
  have hdef : memDefault a = 0 := by
    unfold memDefault
    rw [if_neg (by omega), if_neg (by omega)]
  rw [State.memByte, hmem]
  exact (State.clearMem_memByte s _ _ a).trans (by rw [if_pos ⟨lo, by omega⟩, hdef])

/-- R55, R92, R375: what every reset of D2 has in common: fabric time 0, start-up state 0h, empty queues, SRAM zero. -/
structure State.Restarted (t : State) : Prop where
  now : t.now = 0
  startup : t.obj 0x3800 1 = 0
  pool : t.pool = []
  sram : ∀ a, 0x10000000 ≤ a → a < 0x10100000 → t.memByte a = 0

theorem resetFromD2_restarted (s : State) : (resetFromD2 s).Restarted where
  now := resetFromD2_now s
  startup := by
    rw [resetFromD2_obj s (by decide) (by decide), resetD2_obj s (by decide), if_neg (by decide)]
    rfl
  pool := resetFromD2_pool s
  sram _ := resetFromD2_sram s

/-- What keeps fabric time, the start-up state, the queues and SRAM keeps a state restarted. -/
theorem State.Restarted.of_kept {s t : State} (h : s.Restarted) (hn : t.now = s.now) (hs : t.obj 0x3800 1 = s.obj 0x3800 1)
    (hp : t.pool = s.pool) (hm : ∀ a, a < 0x10100000 → t.memByte a = s.memByte a) : t.Restarted where
  now := hn.trans h.now
  startup := hs.trans h.startup
  pool := hp.trans h.pool
  sram a lo hi := (hm a hi).trans (h.sram a lo hi)

/-! ### The record of the cause, PORST_N, the TCMs and the supply of D1 -/

section
variable (s : State) (cls tr : Nat) (v : Bool)

@[simp] theorem dropAnswer_obj (i j : Nat) : (dropAnswer s).obj i j = s.obj i j := rfl
@[simp] theorem dropAnswer_now : (dropAnswer s).now = s.now := rfl
@[simp] theorem dropAnswer_pool : (dropAnswer s).pool = s.pool := rfl
@[simp] theorem dropAnswer_raised : (dropAnswer s).raised = s.raised := rfl
@[simp] theorem dropAnswer_rtc : (dropAnswer s).rtc = s.rtc := rfl
@[simp] theorem dropAnswer_memByte (a : Nat) : (dropAnswer s).memByte a = s.memByte a := rfl

@[simp] theorem recordCause_obj (i j : Nat) : (recordCause s cls tr).obj i j = s.obj i j := rfl
@[simp] theorem recordCause_now : (recordCause s cls tr).now = s.now := rfl
@[simp] theorem recordCause_pool : (recordCause s cls tr).pool = s.pool := rfl
@[simp] theorem recordCause_raised : (recordCause s cls tr).raised = s.raised := rfl
@[simp] theorem recordCause_rtc : (recordCause s cls tr).rtc = { s.rtc with cause := cls, trigger := tr } := rfl
@[simp] theorem recordCause_memByte (a : Nat) : (recordCause s cls tr).memByte a = s.memByte a := rfl

@[simp] theorem setPorst_obj (i j : Nat) : (setPorst s v).obj i j = s.obj i j := rfl
@[simp] theorem setPorst_now : (setPorst s v).now = s.now := rfl
@[simp] theorem setPorst_pool : (setPorst s v).pool = s.pool := rfl
@[simp] theorem setPorst_raised : (setPorst s v).raised = s.raised := rfl
@[simp] theorem setPorst_rtc : (setPorst s v).rtc = s.rtc := rfl
@[simp] theorem setPorst_porst : (setPorst s v).aon.porst = v := rfl
@[simp] theorem setPorst_memByte (a : Nat) : (setPorst s v).memByte a = s.memByte a := rfl

@[simp] theorem clearTcms_obj (i j : Nat) : (clearTcms s).obj i j = s.obj i j := rfl
@[simp] theorem clearTcms_now : (clearTcms s).now = s.now := rfl
@[simp] theorem clearTcms_pool : (clearTcms s).pool = s.pool := rfl
@[simp] theorem clearTcms_raised : (clearTcms s).raised = s.raised := rfl
@[simp] theorem clearTcms_rtc : (clearTcms s).rtc = s.rtc := rfl

/-- R678: of the object words, a system reset's restart of the Canary sets 3100h:09h to 0Bh alone. -/
theorem restartCanary_obj (i j : Nat) : (restartCanary s).obj i j =
    (((s.putN 0x3100 9 0).putN 0x3100 0x0A 0).putN 0x3100 0x0B 0x5AA5).obj i j := rfl
@[simp] theorem restartCanary_now : (restartCanary s).now = s.now := rfl
@[simp] theorem restartCanary_pool : (restartCanary s).pool = s.pool := rfl
@[simp] theorem restartCanary_raised : (restartCanary s).raised = s.raised := rfl
@[simp] theorem restartCanary_memByte (a : Nat) : (restartCanary s).memByte a = s.memByte a := rfl

end

theorem clearTcm_memByte_below (s : State) (c : Nat) {a : Nat} (h : a < 0x30000000) :
    (clearTcm s c).memByte a = s.memByte a :=
  (State.clearMem_memByte s _ _ a).trans (if_neg (by omega))

/-- The TCMs lie above SRAM: clearing them keeps a state restarted. -/
theorem State.Restarted.clearTcms {s : State} (h : s.Restarted) : (clearTcms s).Restarted :=
  h.of_kept rfl rfl rfl fun a ha => by
    rw [Machine.clearTcms, clearTcm_memByte_below _ _ (by omega), clearTcm_memByte_below _ _ (by omega)]

/-- R720: D1 whose supply was there and stays is as it was. -/
theorem d1Present_of_supplied (s : State) (h : s.rtc.away = false) : d1Present s false false = s := by
  unfold d1Present
  rw [if_neg (by simp [h]), ← h]

/-- R720, R721: beside the presence itself, D1's return changes at most what a stopped oscillator sets. -/
theorem d1Present_cases (s : State) (away lost : Bool) :
    let x : State := { s with rtc := { s.rtc with away := away } }
    d1Present s away lost = x ∨ d1Present s away lost = oscillatorStops x := by
  unfold d1Present
  split
  · exact .inr rfl
  · exact .inl rfl

theorem State.Restarted.oscillatorStops {s : State} (h : s.Restarted) : (oscillatorStops s).Restarted :=
  h.of_kept rfl (by simp [Machine.oscillatorStops, objKey]) rfl (fun _ _ => rfl)

theorem State.Restarted.d1Present {s : State} (h : s.Restarted) (away lost : Bool) : (d1Present s away lost).Restarted := by
  have hx : State.Restarted { s with rtc := { s.rtc with away := away } } := h.of_kept rfl rfl rfl (fun _ _ => rfl)
  rcases d1Present_cases s away lost with e | e <;> rw [e]
  · exact hx
  · exact hx.oscillatorStops

section
variable (s : State) (away lost : Bool)

/-- R57, R75, R720: the return of D1 keeps the record of the cause and the level of PORST_N. -/
@[simp] theorem d1Present_cause : (d1Present s away lost).rtc.cause = s.rtc.cause := by
  rcases d1Present_cases s away lost with e | e <;> exact congrArg (fun t => t.rtc.cause) e

@[simp] theorem d1Present_trigger : (d1Present s away lost).rtc.trigger = s.rtc.trigger := by
  rcases d1Present_cases s away lost with e | e <;> exact congrArg (fun t => t.rtc.trigger) e

@[simp] theorem d1Present_aon : (d1Present s away lost).aon = s.aon := by
  rcases d1Present_cases s away lost with e | e <;> exact congrArg (fun t => t.aon) e

end

end Sys2Proof.Machine
end

section
/-! PROOF. The reset classes of chapter 01 (R55 to R57, R383, R796). -/
namespace Sys2Proof.Machine

theorem exec_systemReset (tr : Byte) (s : State) : exec (.systemReset tr) s = .next (systemReset s tr.toNat) := rfl

theorem exec_powerOnReset (tr : Byte) (held : Bool) (s : State) : exec (.powerOnReset tr held) s =
    .next (d1Present (setPorst (powerOnReset s tr.toNat) (held && tr == 1)) (held && tr == 2) (tr == 2)) := rfl

theorem exec_bedrockReset (s : State) : exec .bedrockReset s = .next (bedrockReset s) := rfl

theorem exec_debugSystemReset (s : State) (h : masterLive s .debug = true) :
    exec .debugSystemReset s = .next (systemReset s 5) :=
  when_true h s _

theorem exec_resetRequest (w : Wr) (s : State) :
    exec (.resetRequest w) s = .next (accessWrite s w false 0x3800 0x0B resetRequestEff) := rfl

/-! ### Which words each class keeps -/

/-- R561: the regulator latches are words of 2D00h. -/
theorem isSupplyLatch_eq_false {i j : Nat} (hj : j < 256) (hi : i ≠ 0x2D00) : isSupplyLatch (objKey i j) = false := by
  unfold isSupplyLatch objKey
  simp only [Bool.and_eq_false_iff, decide_eq_false_iff_not]
  omega

theorem isSupplyLatch_regulator {j : Nat} (h1 : 1 ≤ j) (h3 : j ≤ 3) : isSupplyLatch (objKey 0x2D00 j) = true := by
  unfold isSupplyLatch objKey
  simp only [Bool.and_eq_true, decide_eq_true_eq]
  omega

theorem systemReset_restarted (s : State) (tr : Nat) : (systemReset s tr).Restarted :=
  (resetFromD2_restarted s).of_kept (by simp [systemReset]) (by simp [systemReset, restartCanary_obj, objKey])
    (by simp [systemReset]) (fun a _ => by simp [systemReset])

theorem systemReset_raised (s : State) (tr : Nat) : (systemReset s tr).raised = [] := by simp [systemReset]

/-- R55, R678: a system reset touches, of D0, D1 and the regulator latches, the Canary alone. -/
theorem systemReset_obj_kept (s : State) (tr : Nat) {i j : Nat} (hj : j < 256) (hd : objDomain i ≤ 2) (hc : i ≠ 0x3100)
    (hk : objDomain i ≠ 2 ∨ isSupplyLatch (objKey i j) = true) : (systemReset s tr).obj i j = s.obj i j := by
  have hcanary : ∀ b, b < 256 → objKey i j ≠ objKey 0x3100 b := fun b hb h => hc (objKey_inj hj hb h).1
  calc (systemReset s tr).obj i j
      = (restartCanary (resetFromD2 s)).obj i j := by simp [systemReset]
    _ = (resetFromD2 s).obj i j := by
        simp [restartCanary_obj, hcanary 9 (by decide), hcanary 0x0A (by decide), hcanary 0x0B (by decide)]
    _ = s.obj i j := resetFromD2_obj_kept s hj hd hk

theorem powerOnReset_restarted (s : State) (tr : Nat) : (powerOnReset s tr).Restarted :=
  (resetFromD2_restarted (resetD1 s)).clearTcms.of_kept (by simp [powerOnReset]) (by simp [powerOnReset])
    (by simp [powerOnReset]) (fun a _ => by simp [powerOnReset])

theorem powerOnReset_raised (s : State) (tr : Nat) : (powerOnReset s tr).raised = [] := by simp [powerOnReset]

/-- R57: a power-on reset keeps what D0 holds and records its class and trigger there. -/
theorem powerOnReset_rtc (s : State) (tr : Nat) :
    (powerOnReset s tr).rtc = { s.rtc with cause := 2, trigger := tr } := by
  have hD1 : (resetD1 s).rtc = s.rtc := rfl
  simp [powerOnReset, hD1]

/-- R55: a power-on reset keeps the words of the RTC. -/
theorem powerOnReset_obj_rtc (s : State) (tr : Nat) {j : Nat} (hj : j < 256) :
    (powerOnReset s tr).obj 0x3300 j = s.obj 0x3300 j := by
  have hl := isSupplyLatch_eq_false (i := 0x3300) hj (by decide)
  calc (powerOnReset s tr).obj 0x3300 j = (resetFromD2 (resetD1 s)).obj 0x3300 j := by simp [powerOnReset]
    _ = (resetD1 s).obj 0x3300 j := resetFromD2_obj_kept _ hj (by decide) (.inl (by decide))
    _ = s.obj 0x3300 j := resetD1_obj_other s hj (by decide) hl

/-- R721: the stop of the oscillator that a Bedrock reset counts and reports leaves the state restarted. -/
theorem bedrockReset_restarted (s : State) : (bedrockReset s).Restarted :=
  (resetFromD2_restarted (resetD1 (resetD0 s))).clearTcms.of_kept (by simp [bedrockReset])
    (by simp [bedrockReset, objKey]) (by simp [bedrockReset]) (fun a _ => by simp [bedrockReset])

theorem bedrockReset_rtc (s : State) : (bedrockReset s).rtc.cause = 1 ∧ (bedrockReset s).rtc.trigger = 1 := by
  simp [bedrockReset]

/-- R57, R721: a Bedrock reset sets the words of the RTC to their defaults, but for the count of stops. -/
theorem bedrockReset_obj_rtc (s : State) {j : Nat} (hj : j < 256) (h : j ≠ 0x14) :
    (bedrockReset s).obj 0x3300 j = objDefault 0x3300 j := by
  have hkey : objKey 0x3300 j ≠ objKey 0x3300 0x14 := fun e => h (objKey_inj hj (by decide) e).2
  have hl := isSupplyLatch_eq_false (i := 0x3300) hj (by decide)
  calc (bedrockReset s).obj 0x3300 j = (resetFromD2 (resetD1 (resetD0 s))).obj 0x3300 j := by simp [bedrockReset, hkey]
    _ = (resetD1 (resetD0 s)).obj 0x3300 j := resetFromD2_obj_kept _ hj (by decide) (.inl (by decide))
    _ = (clearObjects s 0).obj 0x3300 j := resetD1_obj_other _ hj (by decide) hl
    _ = objDefault 0x3300 j := by rw [clearObjects_obj s 0 hj, if_pos (by decide)]

/-! ### The reset request -/

/-- R383, R796: the trigger of a request outside an authenticated command. -/
theorem resetRequestEff_unauthenticated (w : Wr) (s : State) :
    resetRequestEff w false s = (.accepted, askReset s (if w.master = .debug then 5 else 3)) := by
  unfold resetRequestEff acc
  cases w.master <;> rfl

/-- Settles O16, class by class: what a reset from D2 leaves (`resetFromD2_restarted`) stands after each, and its words are kept
or set to their defaults by domain. -/
theorem resetsRecordCauseAndRestart : Obligations.ResetsRecordCauseAndRestart := by
  unfold Obligations.ResetsRecordCauseAndRestart
  refine ⟨fun s tr => ?system, fun s tr held => ?powerOn, fun s => ?bedrock, fun s hlive => ?debug, fun w s hp => ?request⟩
  case system =>
    have h := systemReset_restarted s tr.toNat
    refine ⟨_, exec_systemReset tr s, h.now, by simp [systemReset], by simp [systemReset], h.startup, systemReset_raised s _,
      h.pool, h.sram, fun j hj => ⟨?rtc, ?wake⟩, fun j h1 h3 => ?latches⟩
    case rtc => exact systemReset_obj_kept s _ hj (by decide) (by decide) (.inl (by decide))
    case wake => exact systemReset_obj_kept s _ hj (by decide) (by decide) (.inl (by decide))
    case latches => exact systemReset_obj_kept s _ (by omega) (by decide) (by decide) (.inr (isSupplyLatch_regulator h1 h3))
  case powerOn =>
    have hporst : (setPorst (powerOnReset s tr.toNat) (held && tr == 1)).Restarted :=
      (powerOnReset_restarted s tr.toNat).of_kept (by simp) (by simp) (by simp) (fun a _ => by simp)
    have h := hporst.d1Present (held && tr == 2) (tr == 2)
    refine ⟨_, exec_powerOnReset tr held s, h.now, by simp [powerOnReset_rtc], by simp [powerOnReset_rtc],
      h.startup, h.pool, h.sram, by simp, fun htr haway => ?_⟩
    have hsupplied : (setPorst (powerOnReset s tr.toNat) (held && tr == 1)).rtc.away = false := by
      simp [powerOnReset_rtc, haway]
    rw [beq_eq_false_iff_ne.mpr htr, Bool.and_false, d1Present_of_supplied _ hsupplied]
    exact ⟨by simp [powerOnReset_raised], fun j hj => by simp [powerOnReset_obj_rtc s _ hj]⟩
  case bedrock =>
    have h := bedrockReset_restarted s
    obtain ⟨hcause, htrigger⟩ := bedrockReset_rtc s
    exact ⟨_, exec_bedrockReset s, h.now, hcause, htrigger, h.startup, h.pool, h.sram,
      fun j hj hne => bedrockReset_obj_rtc s hj hne⟩
  case debug => exact ⟨_, exec_debugSystemReset s hlive, exec_systemReset 5 s⟩
  case request =>
    rw [exec_resetRequest, accessWrite_done hp (resetRequestEff_unauthenticated _ s), typedWrite_master]
    rfl

end Sys2Proof.Machine
end

section
/-! PROOF. The millisecond tick (R93) and the ends of stopping phases (R39, R42). -/
namespace Sys2Proof.Machine

/-! ### Scores that go down by one in each of several objects -/

/-- Taking one off word j of objects that differ takes one off each of them once. -/
theorem foldl_sub_nat {idx : Nat → Nat} (hidx : ∀ a b, idx a = idx b → a = b) (j n : Nat) (s : State) (c : Nat) :
    ((List.range n).foldl (fun s k => s.sub (idx k) j 1) s).nat (idx c) j =
      if c < n then s.nat (idx c) j - 1 else s.nat (idx c) j := by
  induction n with
  | zero => rfl
  | succ n ih =>
    rw [List.range_succ, List.foldl_append, List.foldl_cons, List.foldl_nil]
    by_cases hc : c = n
    · subst hc
      rw [if_neg (Nat.lt_irrefl c)] at ih
      have hlt : s.nat (idx c) j < 2 ^ 32 := (s.obj (idx c) j).isLt
      rw [if_pos (Nat.lt_succ_self c), State.nat, State.sub_obj, if_pos rfl, ih, BitVec.toNat_ofNat]
      omega
    · have hkey : objKey (idx c) j ≠ objKey (idx n) j := fun h => hc (hidx c n (by unfold objKey at h; omega))
      rw [State.nat, State.sub_obj, if_neg hkey]
      exact ih.trans (by simp only [Nat.lt_succ_iff_lt_or_eq, hc, or_false])

/-- R103, R104: a glide step writes no object word but its wheel's lock state. -/
theorem glideStep_obj (s : State) (u x y : Nat) (h : objKey x y ≠ objKey (wheelIdx u) 0x0B) :
    (glideStep s u).obj x y = s.obj x y := by
  have hlock : ∀ t : State, (settleLock t u).obj x y = t.obj x y := fun t => by
    unfold settleLock
    split
    · rw [State.putN_obj, if_neg h]
    · rfl
  unfold glideStep
  split
  · rfl
  · exact hlock _

/-- R103, R118: glides leave the encoders' loss scores alone. -/
theorem foldl_glideStep_score (l : List Nat) (s : State) (k : Nat) :
    (l.foldl glideStep s).nat (encIdx k) 0x12 = s.nat (encIdx k) 0x12 := by
  induction l generalizing s with
  | nil => rfl
  | cons u l ih =>
    rw [List.foldl_cons, ih, State.nat, glideStep_obj s u _ _ (by unfold objKey; omega)]
    rfl

theorem senseTick_score (s : State) {c : Nat} (h5 : s.on 5 = true) (hc : c < 64) :
    (senseTick s).nat (senseIdx c) 0x1C = s.nat (senseIdx c) 0x1C - 1 := by
  rw [senseTick, if_pos h5, foldl_sub_nat (fun a b h => by unfold senseIdx at h; omega), if_pos hc]

theorem tideTick_score (s : State) {k : Nat} (h5 : s.on 5 = true) (hk : k < 4) :
    (tideTick s).nat (encIdx k) 0x12 = s.nat (encIdx k) 0x12 - 1 := by
  rw [tideTick, if_pos h5, foldl_sub_nat (fun a b h => by unfold encIdx at h; omega), if_pos hk, foldl_glideStep_score]

theorem engineTick_score (s : State) {e : Nat} (he : e < 16) :
    (engineTick s).nat (0x2700 + e) 5 = s.nat (0x2700 + e) 5 - 1 := by
  rw [engineTick, foldl_sub_nat (idx := fun e => 0x2700 + e) (fun a b h => by omega), if_pos he]

/-! ### The tick -/

theorem tickDue_iff (s : State) : tickDue s = true ↔ s.t % 200000 = 0 ∧ s.clk.lastTick ≠ some s.t := by
  simp [tickDue]

theorem exec_millisecondTick (s : State) : exec .millisecondTick s = when (tickDue s) s (millisecondTick s) := rfl

/-! ### Stopping phases -/

/-- R39, R42, R191: a sense channel in stopping with no evaluation in flight has stopped, or starts in the mode written. -/
theorem senseStopped_idle {s : State} {c : Nat} (hs : senseStatus s c = 4) (hf : (s.chan c).flight = none) :
    senseStopped s c = if senseMode s c = 0 then s.putN (senseIdx c) 0x0E 0 else startAcquiring s c := by
  simp [senseStopped, hs, hf]

/-- R191: a sense channel waits for the evaluation in flight. -/
theorem senseStopped_busy {s : State} {c : Nat} (hf : (s.chan c).flight ≠ none) : senseStopped s c = s := by
  simp [senseStopped, hf]

/-- R39, R42, R151: the mark unit in stopping with nothing in flight has stopped, or runs where its enable is 1 again. -/
theorem markUnitStopped_idle {s : State} (hs : s.nat 0x21A0 2 = 2) (hfifo : s.tide.fifo = []) (hacts : s.tide.acts = []) :
    markUnitStopped s = s.putN 0x21A0 2 (if s.flag 0x21A0 1 0 then 1 else 0) := by
  simp [markUnitStopped, marksBusy, hs, hfifo, hacts]

/-- R42: a function whose unit of work is one command has stopped with its disable. -/
theorem stoppingPhaseEnd_of_command_unit {f : StopFn}
    (h : f ∈ [.foreman, .sequencer, .charger, .powerPath, .gauge, .interrupts, .journal]) (s : State) :
    exec (.stoppingPhaseEnd f) s = .next s := by
  simp only [List.mem_cons, List.not_mem_nil, or_false] at h
  rcases h with rfl | rfl | rfl | rfl | rfl | rfl | rfl <;> rfl

/-- Settles O44: the tick by its condition and its scores (`foldl_sub_nat`), the stopping phases by function. -/
theorem ticksAndStoppingPhases : Obligations.TicksAndStoppingPhases := by
  unfold Obligations.TicksAndStoppingPhases
  refine ⟨fun s ht hl => ?due, fun s h => ?notDue, fun s c h5 hc => senseTick_score s h5 hc,
    fun s k h5 hk => tideTick_score s h5 hk, fun s e he => engineTick_score s he,
    fun c s h5 hs => ⟨fun hf => ?idle, fun hf => ?busy⟩, fun s h5 hs hfifo hacts => ?marks,
    fun n k t s => ⟨fun h2 => ?task, fun h7 hs => ?can, fun h7 hs => ?twb, fun h6 => ?converter, fun h2 => ?assayer⟩,
    fun f s hf => stoppingPhaseEnd_of_command_unit hf s, fun s q d => ⟨rfl, rfl⟩⟩
  case due =>
    rw [exec_millisecondTick, when_true ((tickDue_iff s).mpr ⟨ht, hl⟩)]
    rfl
  case notDue =>
    have hno : tickDue s = false := Bool.eq_false_iff.mpr fun hd => by
      obtain ⟨ht, hl⟩ := (tickDue_iff s).mp hd
      exact h.elim (· ht) hl
    rw [exec_millisecondTick, when_false hno]
  case idle => exact (when_true h5 s _).trans (by rw [senseStopped_idle hs hf])
  case busy => exact (when_true h5 s _).trans (by rw [senseStopped_busy hf])
  case marks => exact (when_true h5 s _).trans (by rw [markUnitStopped_idle hs hfifo hacts])
  case task => exact when_true h2 s _
  case can => exact when_true (by rw [h7, hs]; rfl) s _
  case twb => exact when_true (by rw [h7, hs]; rfl) s _
  case converter => exact when_true h6 s _
  case assayer => exact when_true h2 s _

end Sys2Proof.Machine
end

section
/-! PROOF. The CAN channels (R471 to R481) and the switch of lines (R493). -/
namespace Sys2Proof.Machine

/-! ### The enable -/

theorem exec_canEnable (n : Fin 2) (w : Wr) (s : State) :
    exec (.canEnable n w) s = .next (accessWrite s w false (canIdx n) 1 (canEnableEff n)) := rfl

section
variable {n : Nat} {w : Wr} {s : State} (auth : Bool)

/-- R477: 0 disables the channel. -/
theorem canEnableEff_zero (h : w.value = 0) : canEnableEff n w auth s = (.accepted, canDisable s n) := by
  simp [canEnableEff, h, acc]

/-- 1 changes nothing of an enabled channel. -/
theorem canEnableEff_enabled (h : w.value ≠ 0) (hon : canOn s n = true) : canEnableEff n w auth s = (.accepted, s) := by
  simp only [canEnableEff, if_neg h, hon, if_true, acc]

/-- R471: rates that are not admitted end the write of a disabled channel with 4h. -/
theorem canEnableEff_unready (h : w.value ≠ 0) (hon : canOn s n = false) (hu : canUnready s n = true) :
    canEnableEff n w auth s = (.state, s) := by
  simp only [canEnableEff, if_neg h, hon, hu, Bool.false_eq_true, if_false, if_true, rej]

/-- R475: admitted rates enable a disabled channel. -/
theorem canEnableEff_ready (h : w.value ≠ 0) (hon : canOn s n = false) (hu : canUnready s n = false) :
    canEnableEff n w auth s = (.accepted, canStart (s.putN (canIdx n) 1 1) n) := by
  simp only [canEnableEff, if_neg h, hon, hu, Bool.false_eq_true, if_false, acc]

end

/-! ### Received frames -/

/-- R472: whether a frame is of a generation that is off on channel n. -/
def generationOff (s : State) (n : Nat) (f : Frame) : Prop :=
  (s.flag (canIdx n) 2 0 = false ∧ (f.format = 2 ∨ f.format = 3)) ∨ (s.flag (canIdx n) 3 0 = false ∧ f.format = 4)

/-- R474, R476: channel n after the receive errors of a frame, where errors are counted. -/
def receiveErrors (s : State) (n : Nat) (f : Frame) (errs : Nat) : State :=
  if errorSignalled s n f then s.add (canIdx n) 0x1E 16 errs else s

/-- R472, R476: the state in which a frame of a generation that is on finds its consumer: judged and counted. -/
def frameCounted (s : State) (n : Nat) (f : Frame) (errs : Nat) : State :=
  let x := receiveErrors s n f errs
  let z := if errorSignalled s n f then judgeErrors (recAfter (judgeErrors x n) n) n else x
  (addField z (canIdx n) 0x20 0 1).modCan n (fun c => { c with lastRx := some s.t })

/-- R480, R482, R494: the bulk session, the agent or firmware's queue takes a frame. -/
def consumeFrame (s : State) (n : Nat) (f : Frame) : State :=
  if isBulk s n f then bulkConsume s n f
  else
    match agentService s n f with
    | some v => agentConsume s n f v
    | none => postRaw s n f

section
variable {s : State} {n : Nat} {f : Frame} (errs : Nat)

/-- R472: a frame of a generation that is off is a protocol exception. -/
theorem receiveFrame_off (h : generationOff s n f) : receiveFrame s n f errs =
    canIntegrate (((receiveErrors s n f errs).bump (canIdx n) 0x21 16).setBits (canIdx n) 0x23 4) n := by
  simp only [generationOff, ← Fin.val_inj] at h
  exact if_pos h

/-- R472, R480: a frame of a generation that is on is judged, counted and consumed. -/
theorem receiveFrame_on (h : ¬ generationOff s n f) :
    receiveFrame s n f errs = consumeFrame (frameCounted s n f errs) n f := by
  simp only [generationOff, ← Fin.val_inj] at h
  exact if_neg h

/-- R494: the bulk session takes a frame of its SDT. -/
theorem consumeFrame_bulk (hb : isBulk s n f = true) : consumeFrame s n f = bulkConsume s n f := by
  simp [consumeFrame, hb]

/-- R482: the agent takes a frame of one of its services. -/
theorem consumeFrame_agent {v : CanService} (hb : isBulk s n f = false) (ha : agentService s n f = some v) :
    consumeFrame s n f = agentConsume s n f v := by
  simp [consumeFrame, hb, ha]

/-- R480: a frame that neither takes goes to firmware's queue. -/
theorem consumeFrame_raw (hb : isBulk s n f = false) (ha : agentService s n f = none) :
    consumeFrame s n f = postRaw s n f := by
  simp [consumeFrame, hb, ha]

end

/-- R475, R480: a live channel that sees the bus receives. -/
theorem exec_canFrameReceived {n : Fin 2} {f : Frame} (errs : Fin 64) {s : State} (hsees : canSees s = true)
    (hlive : canLive s n = true) : exec (.canFrameReceived n f errs) s = .next (receiveFrame s n f errs) :=
  when_true (by rw [hsees, hlive]; rfl) s _

/-! ### Sent frames -/

theorem bestFrame_eq_none {l : List Frame} (h : bestFrame l = none) : l = [] := by
  cases l with
  | nil => rfl
  | cons a t =>
    unfold bestFrame at h
    split at h
    · simp at h
    · split at h <;> simp at h

/-- R479: arbitration picks a frame of the buffer, and none of them has a lower key. -/
theorem bestFrame_wins (l : List Frame) (f : Frame) (h : bestFrame l = some f) :
    f ∈ l ∧ ∀ g ∈ l, frameKey f ≤ frameKey g := by
  induction l generalizing f with
  | nil => simp [bestFrame] at h
  | cons a t ih =>
    cases ht : bestFrame t with
    | none =>
      simp only [bestFrame, ht, Option.some.injEq] at h
      simp [bestFrame_eq_none ht, h]
    | some b =>
      obtain ⟨hmem, hmin⟩ := ih b ht
      simp only [bestFrame, ht] at h
      split at h
      next hlt =>
        cases h
        exact ⟨List.mem_cons_of_mem a hmem, List.forall_mem_cons.mpr ⟨hlt.le, hmin⟩⟩
      next hge =>
        cases h
        exact ⟨List.mem_cons_self, List.forall_mem_cons.mpr ⟨le_rfl, fun g hg => (not_lt.mp hge).trans (hmin g hg)⟩⟩

/-- R476, R479: a channel that is not stopping and does not go bus-off sends the frame that wins arbitration. -/
theorem sendBest_sends {s : State} {n : Nat} {f : Frame} (errs : Nat) (hf : bestFrame (s.canChan n).tx = some f)
    (hs : canState s n ≠ 5) :
    let x := if errorSignalled s n f then s.add (canIdx n) 0x1D 16 (8 * errs) else s
    let y := if errorSignalled s n f then x.sub (canIdx n) 0x1D 1 else x
    x.nat (canIdx n) 0x1D < 256 → sendBest s n errs = judgeErrors ((addField y (canIdx n) 0x20 16 1).modCan n
      (fun c => ({ c with tx := c.tx.erase f } : CanChannel).refill)) n := by
  intro x y hlt
  unfold sendBest
  rw [hf]
  simp only [if_neg hs]
  exact if_neg (not_le.mpr hlt)

/-! ### Raw frames -/

/-- R481: the entries of a raw frame are whole: the frame is offered, or discarded and counted. -/
def rawFrameWhole (s : State) (n : Nat) (l : List DWord) : State :=
  match rawFrame n l with
  | some f => offerFrame s n f
  | none => sendDrop s n 1

/-- R481: a channel that takes raw frames, whose next entry is at hand, pops it; the last entry makes the frame. -/
theorem popRaw_takes {s : State} {n q : Nat} {d : DWord} {k : Nat} (hq : rawQueue s n = some q)
    (hn : rawNext s n q = some (d, k)) (hroom : rawRoom s n = true) (hpath : pathFree s q = true)
    (hk : (s.canChan n).raw.length < k) (hxl : fieldN d.toNat 44 3 = 4 → rawNeed d ≤ k) :
    let l := (s.canChan n).raw ++ [(pathPop s q).1]
    popRaw s n =
      if l.length < rawNeed d then (pathPop s q).2.modCan n (fun c => { c with raw := l })
      else rawFrameWhole ((pathPop s q).2.modCan n (fun c => { c with raw := [] })) n l := by
  have hgo : ¬ (rawRoom s n = false ∨ pathFree s q = false ∨ k = (s.canChan n).raw.length ∨
      (fieldN d.toNat 44 3 = 4 ∧ k < rawNeed d)) := by
    rw [hroom, hpath]
    rintro (h | h | h | ⟨h4, h⟩)
    · cases h
    · cases h
    · omega
    · exact absurd (hxl h4) (by omega)
  unfold popRaw
  rw [hq]
  simp only [hn]
  exact if_neg hgo

/-! ### The switch of lines -/

/-- R493: a line is bus-off or silent and the other is not. -/
def lineLost (s : State) (a : Nat) : Prop :=
  (canState s a = 4 ∧ canState s (1 - a) ≠ 4) ∨
    (lineSilent s a = true ∧ (s.canChan (1 - a)).lastRx ≠ none ∧ lineSilent s (1 - a) = false)

/-- R493: in standby the agent leaves a line that is lost. -/
theorem exec_lineSwitchOver {s : State} (h7 : s.on 7 = true) (hmode : redundancy s = 2) (h : lineLost s (s.nat 0x2A20 8)) :
    exec .lineSwitchOver s = .next (agentEmcy (((s.putN 0x2A20 8 (1 - s.nat 0x2A20 8)).bump 0x2A20 9 16).setBits
      0x2A20 0x0F 4) 0xFF02) := by
  refine when_true ?_ s _
  rcases h with ⟨hoff, hother⟩ | ⟨hsilent, hheard, hother⟩
  · simp [h7, hmode, hoff, hother]
  · simp [h7, hmode, hsilent, Option.isSome_iff_ne_none.mpr hheard, hother]

/-- Settles O45, command by command: each acts under its condition (`when_true`), and what it does is said by the lemma of its
operation. -/
theorem canChannelsSendAndReceive : Obligations.CanChannelsSendAndReceive := by
  unfold Obligations.CanChannelsSendAndReceive
  refine ⟨fun n w s hp => ⟨fun hv hon hu => ?start, fun hv hon hu => ?refuse, fun hv hon => ?stay, fun hv => ?disable⟩,
    fun n s hsees hst hbits => ?integration,
    fun n f errs s hsees hlive => ⟨fun hoff => ?exception, fun hon =>
      ⟨fun hb => ?bulk, fun hb ha => ?raw, fun v hb ha => ?agent⟩⟩,
    fun n errs s hsees hlive => ?sent, fun n errs s f hf hs => sendBest_sends errs hf hs, bestFrame_wins,
    fun n s hsees hst hauto hbits => ?recovery,
    fun n s q d k hq hn hroom hpath hk hxl => ?pop, fun n s h7 hwait => ?port, fun s h7 hmode => exec_lineSwitchOver h7 hmode⟩
  case start => rw [exec_canEnable, accessWrite_done hp (canEnableEff_ready _ hv hon hu)]
  case refuse => rw [exec_canEnable, accessWrite_state hp (canEnableEff_unready _ hv hon hu)]
  case stay => rw [exec_canEnable, accessWrite_done hp (canEnableEff_enabled _ hv hon)]
  case disable => rw [exec_canEnable, accessWrite_done hp (canEnableEff_zero _ hv)]
  case integration => exact when_true (by rw [hsees, hst, hbits]; rfl) s _
  case exception =>
    rw [exec_canFrameReceived errs hsees hlive, receiveFrame_off _ hoff]
    rfl
  case bulk =>
    rw [exec_canFrameReceived errs hsees hlive, receiveFrame_on _ hon]
    exact congrArg _ (consumeFrame_bulk hb)
  case raw =>
    rw [exec_canFrameReceived errs hsees hlive, receiveFrame_on _ hon]
    exact congrArg _ (consumeFrame_raw hb ha)
  case agent =>
    rw [exec_canFrameReceived errs hsees hlive, receiveFrame_on _ hon]
    exact congrArg _ (consumeFrame_agent hb ha)
  case sent =>
    refine when_true ?_ s _
    rcases hlive with h | h <;> simp [hsees, h]
  case recovery =>
    refine (when_true (by rw [hsees, hst, hauto, hbits]; rfl) s _).trans ?_
    simp only [List.contains_iff_mem]
  case pop =>
    have h := popRaw_takes hq hn hroom hpath hk hxl
    exact ⟨congrArg _ h, congrArg _ h⟩
  case port => exact when_true (by rw [h7, hwait]; rfl) s _

end Sys2Proof.Machine
end

section
/-! PROOF. The battery switch (R613, R614), the service button (R616), storage (R617, R618) and the gauge's commands and steps
(R629, R646, R649). -/
namespace Sys2Proof.Machine

/-! ### The battery switch -/

/-- R614: the bus has matched the battery for the match time, or the dead-bus close applies. -/
def closeApplies (s : State) : Prop :=
  chargeHeld s 21 = true ∨
    (s.cflag 0x2E04 5 0 = true ∧ metBy (vBus s) (fun v => decide (v < s.cint 0x2E04 4)) = true)

/-- R613, R787: the switch machine in state v with BATSW as given, the change counted as an operation. -/
def switchOperated (s : State) (v : Nat) (batsw : Bool) : State :=
  { (s.putN 0x2E04 6 v).bump 0x2E04 0x0C 32 with aon := { s.aon with batsw := batsw } }

@[simp] theorem switchOperated_batsw (s : State) (v : Nat) (b : Bool) : (switchOperated s v b).aon.batsw = b := rfl

theorem switchOperated_obj (s : State) (v : Nat) (b : Bool) (x y : Nat) :
    (switchOperated s v b).obj x y = ((s.putN 0x2E04 6 v).bump 0x2E04 0x0C 32).obj x y := rfl

theorem switchOperated_state (s : State) {v : Nat} (hv : v < 4294967296) (b : Bool) :
    switchState (switchOperated s v b) = v := by
  simp [switchState, State.nat, switchOperated_obj, objKey, Nat.mod_eq_of_lt hv]

/-- R45: an operation adds one to the count of operations, which holds at its largest value. -/
theorem switchOperated_count (s : State) (v : Nat) (b : Bool) :
    (switchOperated s v b).nat 0x2E04 0x0C = min (s.nat 0x2E04 0x0C + 1) 4294967295 := by
  simp [State.nat, switchOperated_obj, objKey, satN]

/-- R614: a matching switch without an open reason closes at a millisecond step. -/
theorem exec_switchClose {s : State} (h5 : s.on 5 = true) (htick : s.ticked = true) (hst : switchState s = 1)
    (hreason : s.obj 0x2E04 7 = 0) (hclose : closeApplies s) :
    exec .switchClose s = .next (settleAll (contactorOps (switchOperated s 2 true) 1)) := by
  refine when_true ?_ s _
  rcases hclose with hheld | ⟨hdead, hbus⟩
  · simp [h5, htick, hst, hreason, hheld]
  · simp [h5, htick, hst, hreason, hdead, hbus]

/-- R613, R622: the shutdown voltage held for the shutdown time, for which reason 3 does not stand yet. -/
theorem exec_shutdownOpening {s : State} (h5 : s.on 5 = true) (htick : s.ticked = true) (hheld : chargeHeld s 20 = true)
    (hno : s.flag 0x2E04 7 3 = false) :
    exec .shutdownOpening s = .next (settleAll (((s.setBits 0x2E04 7 8).setBits 0x2E04 0x0B 8).report 75 .uc)) :=
  when_true (by rw [h5, htick, hheld, hno]; rfl) s _

section
variable {s : State} (h5 : s.on 5 = true)
include h5

/-- R613, R614, R787: an open reason opens a closed switch. -/
theorem switchSettle_opens (hreason : s.obj 0x2E04 7 ≠ 0) (hst : switchState s = 2) :
    switchSettle s = contactorOps (switchOperated s 0 false) 1 := by
  simp only [switchSettle, h5, Bool.true_eq_false, if_false, if_pos hreason, hst]
  rfl

/-- R613: an open reason ends matching. -/
theorem switchSettle_stops_matching (hreason : s.obj 0x2E04 7 ≠ 0) (hst : switchState s = 1) :
    switchSettle s = s.putN 0x2E04 6 0 := by
  simp only [switchSettle, h5, Bool.true_eq_false, if_false, if_pos hreason, hst]

/-- R613: an open switch without an open reason matches. -/
theorem switchSettle_matches (hreason : s.obj 0x2E04 7 = 0) (hst : switchState s = 0) :
    switchSettle s = s.putN 0x2E04 6 1 := by
  simp [switchSettle, h5, hreason, hst]

end

/-! ### Storage -/

/-- R617: a storage request that stands is served once the sequencer is off or failed. -/
theorem storageCheck_serves {s : State} (hreq : s.chg.storageAt ≠ none) (hseq : seqState s = 0 ∨ seqState s = 4) :
    storageCheck s = ({ s with chg := { s.chg with storageAt := none } } : State).setBits 0x2E04 7 4 :=
  if_pos ⟨Option.isSome_iff_ne_none.mpr hreq, hseq⟩

/-- R617: without a request, or while the sequencer is neither off nor failed, there is none to serve. -/
theorem storageCheck_waits {s : State} (h : s.chg.storageAt = none ∨ (seqState s ≠ 0 ∧ seqState s ≠ 4)) :
    storageCheck s = s := by
  refine if_neg fun ⟨hreq, hseq⟩ => ?_
  rcases h with hnone | ⟨h0, h4⟩
  · exact Option.isSome_iff_ne_none.mp hreq hnone
  · exact hseq.elim h0 h4

/-- R617: with the sequencer enabled a storage request starts a down sequence. -/
theorem storageRequest_of_enabled {s : State} (h : s.flag 0x2D02 1 0 = true) :
    storageRequest s = storageCheck (startDown
      { s.setBits 0x2E04 0x0B 4 with chg := { s.chg with storageAt := some s.t } } false) := by
  simp only [storageRequest, h, if_true]

/-- R617: the storage delay has passed since the request. -/
theorem exec_storageDelayExpiry {s : State} (h5 : s.on 5 = true)
    (hdelay : lasted s s.chg.storageAt (cyclesMs (s.cnat 0x2E04 9)) = true) :
    exec .storageDelayExpiry s =
      .next (settleAll (({ s with chg := { s.chg with storageAt := none } } : State).setBits 0x2E04 7 4)) :=
  when_true (by rw [h5, hdelay]; rfl) s _

/-! ### The service button -/

section
variable {s : State} {p : Nat} (hseen : pressSeen s p = true)
include hseen

/-- R616: a press under one second. -/
theorem exec_buttonShortPress (h5 : s.on 5 = true) (hp : p < pressSeconds 1) :
    exec (.buttonShortPress p) s = .next (s.setBits 0x2E04 0x0B 1) :=
  when_true (by simp [h5, hseen, hp]) s _

/-- R616: a press that reaches one second. -/
theorem exec_buttonLongPress (hp : pressSeconds 1 ≤ p) :
    exec (.buttonLongPress p) s = .next (({ s with aon := { s.aon with wake := true } } : State).d1Event 1) :=
  when_true (by simp [hseen, hp]) s _

/-- R616, R617: a press from three seconds to under ten. -/
theorem exec_storageRequest (h5 : s.on 5 = true) (hlo : pressSeconds 3 ≤ p) (hhi : p < pressSeconds 10) :
    exec (.storageRequest p) s = .next (settleAll (storageRequest s)) :=
  when_true (by simp [h5, hseen, hlo, hhi]) s _

/-- R75, R616: a press that reaches ten seconds. -/
theorem exec_buttonHeld10s (hp : pressSeconds 10 ≤ p) : exec (.buttonHeld10s p) s = .next (s.report 88 .uc) :=
  when_true (by simp [hseen, hp]) s _

end

/-- R616: the switch machine takes a pending wake, which acts where the button's wake is enabled. -/
theorem exec_wakeTaken {s : State} (h5 : s.on 5 = true) (hwake : s.aon.wake = true) :
    let x : State := { s with aon := { s.aon with wake := false } }
    exec .wakeTaken s = .next (if s.cflag 0x2E04 8 0 then settleAll ((x.clrBits 0x2E04 7 6).setBits 0x2E04 0x0B 2) else x) :=
  when_true (by rw [h5, hwake]; rfl) s _

/-! ### The writes -/

/-- R618: an accepted switch command is kept for the next millisecond step. -/
theorem exec_switchCommand {w : Wr} {s : State} (hp : writePasses s w 0x2E04 1) :
    exec (.switchCommand w) s = .next ((((s.put 0x2E04 1 (carried w 0x2E04 1)).keepOld s 0x2E04 1).later
      (.switch (carried w 0x2E04 1))).accepted w.master 0x2E04 1) :=
  congrArg Host.Outcome.next (accessWrite_done (eff := switchCommandEff) hp rfl)

/-- R618: an accepted storage command is kept for the next millisecond step. -/
theorem exec_storageCommand {w : Wr} {s : State} (hp : writePasses s w 0x2E04 0x0A) :
    exec (.storageCommand w) s =
      .next ((s.later (.storage (carried w 0x2E04 0x0A))).accepted w.master 0x2E04 0x0A) :=
  congrArg Host.Outcome.next (accessWrite_done (eff := storageEff) hp rfl)

/-- R646, R649: an accepted write command of the gauge. -/
theorem exec_gaugeWriteCommand {w : Wr} {s : State} (hp : writePasses s w 0x2F09 2) :
    exec (.gaugeWriteCommand w) s =
      .next ((if s.flag 0x2F00 1 0 then requestRecord s 3 else s).accepted w.master 0x2F09 2) :=
  congrArg Host.Outcome.next (accessWrite_done (eff := gaugeWriteEff) hp rfl)

theorem exec_gaugeEnable (w : Wr) (s : State) :
    exec (.gaugeEnable w) s = .next (accessWrite s w false 0x2F00 1 gaugeEnableEff) := rfl

/-- R649: the gauge's sums, windows and clock as an enable starts them. -/
def gaugeStarted (s : State) (wOk : Bool) (g : Gauge) : Gauge :=
  { g with
    enabledTick := tickNo s, lastWrite := s.real, prev := none, wCharge := 0, wVolt := 0, wCount := 0,
    wOk := wOk, prevWin := none, secI := 0, secV := 0, secFull := 0, secAll := 0, wins := [], quiet := 0 }

section
variable {w : Wr} (auth : Bool) (s : State)

/-- R649: 0 disables the gauge and drops its pending record. -/
theorem gaugeEnableEff_zero (h : w.value = 0) : gaugeEnableEff w auth s =
    (.accepted, showGauge (setPending (gaugeCover (s.put 0x2F00 1 w.value)) 3 false)) := by
  simp only [gaugeEnableEff, if_pos h, acc]

/-- R649: 1 changes nothing more of an enabled gauge. -/
theorem gaugeEnableEff_enabled (h : w.value ≠ 0) (hon : s.flag 0x2F00 1 0 = true) :
    gaugeEnableEff w auth s = (.accepted, s.put 0x2F00 1 w.value) := by
  simp only [gaugeEnableEff, if_neg h, hon, if_true, acc]

/-- R647, R649: 1 starts a disabled gauge with its tick. -/
theorem gaugeEnableEff_starts (h : w.value ≠ 0) (hoff : s.flag 0x2F00 1 0 = false) : gaugeEnableEff w auth s =
    (.accepted, showGauge ((gaugeFallback (s.put 0x2F00 1 w.value)).modGauge
      (gaugeStarted s (gaugeCovered (s.put 0x2F00 1 w.value))))) := by
  simp only [gaugeEnableEff, if_neg h, hoff, Bool.false_eq_true, if_false, acc]
  rfl

end

/-! ### Writes at the millisecond step -/

/-- R613, R618: 0 clears open reason 0, any other value sets it. -/
theorem chargeCommand_switch (s : State) (v : Word) :
    chargeCommand s (.switch v) = if v = 0 then s.clrBits 0x2E04 7 1 else s.setBits 0x2E04 7 1 := rfl

/-- R617: the storage command 1h is a storage request. -/
theorem chargeCommand_storage_one (s : State) : chargeCommand s (.storage 1) = storageRequest s := rfl

/-- R617: the storage command 2h withdraws the request and clears reason 2. -/
theorem chargeCommand_storage_two (s : State) :
    chargeCommand s (.storage 2) = { s.clrBits 0x2E04 7 4 with chg := { s.chg with storageAt := none } } := rfl

/-! ### The gauge's steps -/

section
variable {s : State} (h2 : s.on 2 = true) (hon : s.flag 0x2F00 1 0 = true) (htick : s.t % 200000 = 0)
include h2 hon htick

/-- R629: every tenth tick closes a window, in clock state 0h every tick. -/
theorem exec_gaugeWindow (hnew : s.gauge.lastWindow ≠ some s.t) (hdue : clockState s = 0 ∨ tickNo s % 10 = 0) :
    exec .gaugeWindow s = .next ((gaugeWindow s (if clockState s == 0 then 5000000 else 4000000)).modGauge
      (fun g => { g with lastWindow := some s.t })) := by
  refine when_true ?_ s _
  rcases hdue with hslow | htenth
  · simp [h2, hon, htick, hnew, hslow]
  · simp [h2, hon, htick, hnew, htenth]

/-- R629, R648: every thousandth tick from the enable takes the second step, in clock state 0h every 80th. -/
theorem exec_gaugeSecondStep (hnew : s.gauge.lastSecond ≠ some s.t) (hlater : s.gauge.enabledTick < tickNo s)
    (hdue : (tickNo s - s.gauge.enabledTick) % (if clockState s = 0 then 80 else 1000) = 0) :
    exec .gaugeSecondStep s = .next ((gaugeSecond s).modGauge (fun g => { g with lastSecond := some s.t })) :=
  when_true (by simp [h2, hon, htick, hnew, hlater, hdue]) s _

end

/-- Settles O54, command by command: each acts under its condition or once its write passes, and what the switch machine and
storage then do is said by the lemma of each case (`switchSettle_opens`, `storageCheck_serves`). -/
theorem switchButtonStorageAndGaugeAct : Obligations.SwitchButtonStorageAndGaugeAct := by
  unfold Obligations.SwitchButtonStorageAndGaugeAct
  refine ⟨fun s h5 htick => ⟨fun hst hreason hclose => exec_switchClose h5 htick hst hreason hclose,
      fun hheld hno => exec_shutdownOpening h5 htick hheld hno⟩,
    fun s h5 => ⟨fun p hseen hlo hhi => exec_storageRequest hseen h5 hlo hhi, exec_storageDelayExpiry h5,
      fun p hseen hp => exec_buttonShortPress hseen h5 hp, fun hwake hoff => ?wakeIgnored, fun hwake hon => ?wakeActs⟩,
    fun s p hseen => ⟨exec_buttonLongPress hseen, exec_buttonHeld10s hseen⟩,
    fun s => storageRequest_of_enabled,
    fun s => ⟨storageCheck_serves, storageCheck_waits⟩,
    fun s h5 => ⟨fun hreason hst => ?opens, switchSettle_stops_matching h5, switchSettle_matches h5⟩,
    fun w s => ⟨exec_switchCommand, exec_storageCommand, exec_gaugeWriteCommand,
      fun hp => ⟨fun hv => ?disable, fun hv hon => ?stay, fun hv hoff => ?start⟩⟩,
    fun s => ⟨chargeCommand_switch s, chargeCommand_storage_one s, chargeCommand_storage_two s⟩,
    fun s h2 hon htick => ⟨fun hfast htenth hnew => ?window, fun hslow hnew => ?slowWindow,
      fun hlater hdue hnew => exec_gaugeSecondStep h2 hon htick hnew hlater hdue⟩⟩
  case wakeIgnored => simp [exec_wakeTaken h5 hwake, hoff]
  case wakeActs => simp [exec_wakeTaken h5 hwake, hon]
  case opens =>
    exact ⟨_, switchSettle_opens h5 hreason hst, switchOperated_state s (by decide) false, switchOperated_batsw s 0 false,
      switchOperated_count s 0 false⟩
  case disable => rw [exec_gaugeEnable, accessWrite_done hp (gaugeEnableEff_zero _ s hv), typedWrite_value]
  case stay => rw [exec_gaugeEnable, accessWrite_done hp (gaugeEnableEff_enabled _ s hv hon), typedWrite_value]
  case start =>
    rw [exec_gaugeEnable, accessWrite_done hp (gaugeEnableEff_starts _ s hv hoff), typedWrite_value]
    rfl
  case window =>
    rw [exec_gaugeWindow h2 hon htick hnew (.inr htenth), if_neg (by simpa using hfast)]
  case slowWindow =>
    rw [exec_gaugeWindow h2 hon htick hnew (.inl hslow), if_pos (by simpa using hslow)]

end Sys2Proof.Machine
end

section
/-! PROOF. That every command answers a next state, keeps the queue and moves fabric time only by resetting it (R92). -/
namespace Sys2Proof.Machine

/-! ### Shapes that commands share -/

/-- The outcome is a next state. -/
abbrev Answers (o : Out) : Prop := ∃ t, o = .next t

theorem onActions_answers (s : State) (code : Nat) (f : List MarkAct → State → State) : Answers (onActions s code f) := by
  unfold onActions
  split <;> exact ⟨_, rfl⟩

theorem enterFifo_answers (s : State) (code : Nat) : Answers (enterFifo s code) := by
  cases h : firstPost s with
  | none => exact ⟨s, by simp only [enterFifo, h]⟩
  | some a =>
    simp only [enterFifo, h]
    repeat' split
    all_goals exact ⟨_, rfl⟩

theorem serveBulk_answers (s : State) (type : Nat) (f : Frame → State → State) : Answers (serveBulk s type f) := by
  unfold serveBulk
  repeat' split
  all_goals exact ⟨_, rfl⟩

theorem serveLss_answers (s : State) (cs : List Nat) (f : Frame → State → State) : Answers (serveLss s cs f) := by
  unfold serveLss
  split <;> exact ⟨_, rfl⟩

theorem instruction_answers (s : State) (e : Nat) (f : Engine → State) : Answers (instruction s e f) := by
  unfold instruction
  split <;> exact ⟨_, rfl⟩

/-! ### Every command -/

/-- Commands of a shape that others share answer by that shape; commands that are a write, an effect or an effect under a
condition (`when`) as they stand; the rest look into a record first and answer in every case of it. -/
theorem exec_answers (c : Instr) (s : State) : Answers (exec c s) := by
  cases c
  case converterTrigger | senseSnapshot | bandApply | tableSample | syncoPulse | angleCapture =>
    simp only [exec, execConverterTrigger, execSenseSnapshot, execBandApply, execTableSample, execSyncoPulse,
      execAngleCapture, onActions_answers]
  case markTaskActivation | markQueuePost => exact enterFifo_answers ..
  case bulkDataFrame | bulkAckFrame | bulkEndFrame | bulkAbortFrame =>
    simp only [exec, execBulkDataFrame, execBulkAckFrame, execBulkEndFrame, execBulkAbortFrame, serveBulk_answers]
  case lssSwitchStateGlobal | lssSwitchStateSelective | lssConfigureNodeId | lssConfigureBitTiming |
      lssActivateBitTiming | lssStoreConfiguration | lssInquire | lssFastscan =>
    simp only [exec, execLssSwitchStateGlobal, execLssSwitchStateSelective, execLssConfigureNodeId,
      execLssConfigureBitTiming, execLssActivateBitTiming, execLssStoreConfiguration, execLssInquire, execLssFastscan,
      serveLss_answers]
  case tang | treach | qmul | qpush | qpop | qwait | lrW | scW | amo | wfi =>
    simp only [exec, execTang, execTreach, execQmul, execQpush, execQpop, execQwait, execLrW, execScW, execAmo, execWfi,
      instruction_answers]
  case stoppingPhaseEnd f => cases f <;> exact ⟨_, rfl⟩
  case popPathPop port => cases port <;> exact ⟨_, rfl⟩
  all_goals try exact ⟨_, rfl⟩
  all_goals
    simp only [exec, execPllRelock, execReturnFailure, execSynciEdge, execLockLoopUpdate, execEncoderCount,
      execEncoderStall, execSyncoPulseEnd, execMarkFire, execMarkCatchUp, execFastResultDelivery,
      execPrecisionResult, execDeadTimeEnd, execGateFaultInput, execRampTick, execShedDecision, execRecallDecision,
      execSupervisionClassify, execBlindGraceExpiry, execVoltageChannelLost, execTaskTimer, execDispatch,
      execTaskHang, execMigrationCut, execMigrationSwap, execConsolidationTimeout, execQwaitWake, execQwaitTimeout,
      execReservationTimeout, execInterruptTrap, execEngineFault, execUnitReset, execQueuePortPop,
      execQueuePortStage, execQueuePortPush, execFirmwareTableValidated, execNmtCommand, execSdoRequest,
      execSdoTimeout, execRpdoReceived, execSyncReceived, execTpdoEvent, execHeartbeatTimeout, execEmcySend,
      execAuthLockoutEnd, execFirmwareTargetByte, execScanStart, execConversionResult, execRegulatorRestart,
      execDomainChangeComplete, execReadyWaitTimeout, execReadyRelease, execFltlineAssertionEnd,
      execChargeStageChange, execLighthouseFire, execSetApplied, execOtpCommandEnd, execJournalRecordWrite,
      execJournalWriteDone, execWideningStep]
    repeat' first
      | exact ⟨_, rfl⟩
      | split

/-- Settles O7: a command answers (`exec_answers`), and what it answers keeps the queue and the clock as every operation does
(`exec_moves`, bits 0 and 49 of `Moves`). -/
theorem everyCommandAnswersNextAndKeepsTheQueue : Obligations.EveryCommandAnswersNextAndKeepsTheQueue := by
  unfold Obligations.EveryCommandAnswersNextAndKeepsTheQueue
  intro c s
  obtain ⟨t, ht⟩ := exec_answers c s
  have hm := exec_moves c s (by decide) (Moves.refl 0x2000000000001 s)
  rw [ht] at hm
  exact ⟨t, ht, hm.pending rfl, hm.clock rfl⟩

end Sys2Proof.Machine
end

section
/-! SUPPORT. Counters, written words, wheels and marks, in the terms of the statements on the Tide. -/
namespace Sys2Proof.Machine

/-! ### Object words -/

/-- Two words of one object are one word only at one subindex. -/
@[simp] theorem objKey_index (i j j' : Nat) : objKey i j = objKey i j' ↔ j = j' := by
  unfold objKey; omega

/-- R45: a counter of at most 32 bits adds one and holds at its largest value. -/
theorem State.bump_nat (s : State) (i j : Nat) {w : Nat} (hw : w ≤ 32) :
    (s.bump i j w).nat i j = min (s.nat i j + 1) (2 ^ w - 1) := by
  have hle : 2 ^ w ≤ 2 ^ 32 := Nat.pow_le_pow_right (by decide) hw
  have hpos : 0 < 2 ^ w := Nat.two_pow_pos w
  rw [State.nat, State.bump_obj, if_pos rfl, BitVec.toNat_ofNat, satN]
  exact Nat.mod_eq_of_lt (by omega)

theorem State.keepsWords.refl (s : State) (l : List (Nat × Nat)) : s.keepsWords s l := fun _ _ _ _ => rfl

section
variable {s t u : State} {l : List (Nat × Nat)} {i j : Nat} (h : s.keepsWords t l) (hj : j < 256) (hm : (i, j) ∈ l)
include h

/-- What changes no object word keeps the words kept. -/
theorem State.keepsWords.of_od (ho : u.od = t.od) : s.keepsWords u l := fun x y hy hxy =>
  (obj_of_od ho x y).trans (h x y hy hxy)

include hj hm

/-- What changes a listed word alone keeps the words kept. -/
theorem State.keepsWords.of_word (hu : ∀ x y, objKey x y ≠ objKey i j → u.obj x y = t.obj x y) : s.keepsWords u l := by
  intro x y hy hxy
  have hk : objKey x y ≠ objKey i j := fun e => by
    obtain ⟨rfl, rfl⟩ := objKey_inj hy hj e
    exact hxy hm
  exact (hu x y hk).trans (h x y hy hxy)

theorem State.keepsWords.put (v : Word) : s.keepsWords (t.put i j v) l :=
  h.of_word hj hm fun _ _ hk => State.put_obj_other _ _ _ _ _ _ hk

theorem State.keepsWords.putN (n : Nat) : s.keepsWords (t.putN i j n) l := h.put hj hm _

theorem State.keepsWords.setBits (n : Nat) : s.keepsWords (t.setBits i j n) l :=
  h.of_word hj hm fun _ _ hk => by rw [State.setBits_obj, if_neg hk]

theorem State.keepsWords.bump (w : Nat) : s.keepsWords (t.bump i j w) l :=
  h.of_word hj hm fun _ _ hk => by rw [State.bump_obj, if_neg hk]

end

/-! ### Wheels -/

/-- A shaped state holds the eight wheels. -/
theorem wheel_lt_of_shaped {s : State} (hs : s.shaped = true) (u : Fin 8) : u.val < s.tide.wheels.length := by
  simp only [State.shaped, Bool.and_eq_true, beq_iff_eq] at hs
  omega

/-- A wheel that the state holds reads as it was changed. -/
theorem State.modWheel_wheel_self (s : State) (u : Nat) (f : Wheel → Wheel) (hu : u < s.tide.wheels.length) :
    (s.modWheel u f).wheel u = f (s.wheel u) :=
  getD_modAt_self s.tide.wheels u f {} hu

/-! ### Marks -/

/-- A mark is not found among marks of other numbers. -/
theorem find?_mark_filter {l : List Mark} {m : Nat} {p : Mark → Bool} (hp : ∀ x : Mark, x.index = m → p x = false) :
    (l.filter p).find? (fun x => x.index == m) = none := by
  rw [List.find?_eq_none]
  intro x hx hm
  simp [hp x (by simpa using hm)] at hx

/-- The list of marks with mark `x` in its place, which at its reset values it leaves out. -/
def placeMark (l : List Mark) (x : Mark) : List Mark :=
  let rest := l.filter (fun y => y.index != x.index)
  if x = { index := x.index } then rest
  else rest.filter (fun y => decide (y.index < x.index)) ++ [x] ++ rest.filter (fun y => decide (x.index < y.index))

theorem find?_placeMark (l : List Mark) (x : Mark) :
    ((placeMark l x).find? (fun y => y.index == x.index)).getD { index := x.index } = x := by
  unfold placeMark
  split
  next hx =>
    rw [find?_mark_filter (by simp)]
    exact hx.symm
  next =>
    rw [List.find?_append, List.find?_append, find?_mark_filter (by simp +contextual)]
    simp

theorem State.modMark_eq (s : State) (m : Nat) (f : Mark → Mark) : s.modMark m f =
    { s with tide := { s.tide with marks := placeMark s.tide.marks { f (s.mark m) with index := m } } } := rfl

/-- A mark reads as it was changed, its number apart. -/
theorem State.modMark_mark_self (s : State) (m : Nat) (f : Mark → Mark) :
    (s.modMark m f).mark m = { f (s.mark m) with index := m } := by
  rw [State.modMark_eq]
  exact find?_placeMark s.tide.marks { f (s.mark m) with index := m }

end Sys2Proof.Machine
end

section
/-! PROOF. Marks: how they fire, their actions and the mark unit (R134 to R151). -/
namespace Sys2Proof.Machine

/-! ### The words of a mark -/

section
variable {s : State} {m : Nat}

/-- R141: with no write in the present cycle no old word acts. -/
theorem oldWord_of_unwritten (h : (s.mark m).written ≠ s.t) (k : Nat) : oldWord s m k = none := if_neg h

/-- R141, R142: what the first write of a cycle leaves of the mark's record: the word as it was. -/
theorem writeMark_mark (h : (s.mark m).written ≠ s.t) (k : Nat) (v : Word) : (writeMark s m k v).mark m =
    { s.mark m with index := m, written := s.t, old := [(k, s.obj (markIdx m) (markSub m k))] } := by
  have hold : (if (s.mark m).written = s.t then (s.mark m).old else []) = [] := if_neg h
  simp only [writeMark, hold]
  exact State.modMark_mark_self _ m _

/-- R141: a written word acts from the next cycle; the old one acts in this. -/
theorem markWord_writeMark (h : (s.mark m).written ≠ s.t) (k : Nat) (v : Word) :
    markWord (writeMark s m k v) m k = s.obj (markIdx m) (markSub m k) := by
  have hold : oldWord (writeMark s m k v) m k = some (s.obj (markIdx m) (markSub m k)) := by
    rw [oldWord, writeMark_mark h]
    exact (if_pos rfl).trans (if_pos rfl)
  rw [markWord, hold, Option.getD_some]

end

/-! ### Firing -/

/-- R143, R145, R146: the action of mark m that fires in the present cycle. -/
def markAction (s : State) (m : Nat) (back : Bool) : MarkAct where
  due := s.t + 2
  mark := m
  code := markCode s m
  target := markWord s m 2
  arg := markWord s m 3
  angle := (s.wheel (markWheel s m)).angle
  back := back
  wheel := markWheel s m

/-- R151: a firing counted, before its action. -/
def firingCounted (s : State) (m : Nat) : State :=
  (s.bump 0x21A0 7 32).modMark m (fun x => { x with fired := some s.t })

section
variable {s : State} {m : Nat} {back : Bool}

/-- R143: the action of a firing is due in two cycles. -/
theorem fireMark_due (h : actionMissing s (markAction s m back) = false) : fireMark s m back =
    { firingCounted s m with tide := { (firingCounted s m).tide with acts := s.tide.acts ++ [markAction s m back] } } :=
  if_neg (Bool.eq_false_iff.mp h)

/-- R145: an action whose target is missing is discarded and counted. -/
theorem fireMark_discarded (h : actionMissing s (markAction s m back) = true) :
    fireMark s m back = (firingCounted s m).bump 0x21A0 6 16 := if_pos h

theorem firingCounted_count (s : State) (m : Nat) :
    (firingCounted s m).nat 0x21A0 7 = min (s.nat 0x21A0 7 + 1) 4294967295 := State.bump_nat s 0x21A0 7 (by decide)

theorem firingCounted_lost (s : State) (m : Nat) : (firingCounted s m).nat 0x21A0 6 = s.nat 0x21A0 6 := by
  simp [firingCounted, State.nat]

theorem firingCounted_fired (s : State) (m : Nat) : ((firingCounted s m).mark m).fired = some s.t := by
  rw [firingCounted, State.modMark_mark_self]

theorem firingCounted_keepsWords (s : State) (m : Nat) {l : List (Nat × Nat)} (hl : (0x21A0, 7) ∈ l) :
    s.keepsWords (firingCounted s m) l :=
  ((State.keepsWords.refl s l).bump (by decide) hl 32).of_od rfl

theorem fireMark_count : (fireMark s m back).nat 0x21A0 7 = min (s.nat 0x21A0 7 + 1) 4294967295 := by
  cases h : actionMissing s (markAction s m back) with
  | false => rw [fireMark_due h]; exact firingCounted_count s m
  | true =>
    rw [fireMark_discarded h, State.nat, State.bump_obj, if_neg (by simp)]
    exact firingCounted_count s m

theorem fireMark_fired : ((fireMark s m back).mark m).fired = some s.t := by
  cases h : actionMissing s (markAction s m back) with
  | false => rw [fireMark_due h]; exact firingCounted_fired s m
  | true => rw [fireMark_discarded h]; exact firingCounted_fired s m

theorem fireMark_keepsBytes : s.keepsBytes (fireMark s m back) := by
  intro a
  cases h : actionMissing s (markAction s m back) with
  | false => rw [fireMark_due h]; rfl
  | true => rw [fireMark_discarded h]; rfl

/-! ### The repeat rules -/

/-- R139, rule 0h: a mark that fires once clears its enable. -/
theorem crossMark_once (h : fieldN (markCtl s m) 10 2 = 0) : crossMark s m back =
    rewriteMark (fireMark s m back) m 0 (BitVec.ofNat 32 (markCtl s m - markCtl s m % 2)) := by
  simp only [crossMark, h]

/-- R139, rule 1h: a mark that fires at every crossing stays as it is. -/
theorem crossMark_every (h : fieldN (markCtl s m) 10 2 = 1) : crossMark s m back = fireMark s m back := by
  simp only [crossMark, h]

/-- R139, rule 2h: the Nth crossing fires and starts the count over. -/
theorem crossMark_nth (h : fieldN (markCtl s m) 10 2 = 2) (hn : (s.mark m).count + 1 = fieldN (markCtl s m) 12 20) :
    crossMark s m back = (fireMark s m back).modMark m (fun x => { x with count := 0 }) := by
  simp only [crossMark, h, if_pos hn]

/-- R139, rule 2h: a crossing before the Nth is counted alone. -/
theorem crossMark_before (h : fieldN (markCtl s m) 10 2 = 2) (hn : (s.mark m).count + 1 ≠ fieldN (markCtl s m) 12 20)
    (hw : (s.mark m).written ≠ s.t) : crossMark s m back =
      s.modMark m (fun x => { x with count := (s.mark m).count + 1, fired := some s.t }) := by
  simp only [crossMark, h, if_neg hn, oldWord_of_unwritten hw, Option.isSome_none, Bool.false_eq_true, if_false]

/-- R139, rule 3h: a firing steps the mark. -/
theorem crossMark_step (h : fieldN (markCtl s m) 10 2 = 3) :
    crossMark s m back = stepMark (fireMark s m back) m back := by
  simp only [crossMark, h]

end

section
variable {s : State} {m : Fin 1024} {back : Bool} (ha : markArmed s m = true)
include ha

/-- R136, R138: an armed mark crossed in an admitted direction, which has not fired in this cycle, acts by its repeat
rule. -/
theorem exec_markFire (hc : markCrossing s m = some back) (hf : (s.mark m).fired ≠ some s.t) :
    exec (.markFire m) s = .next (crossMark s m back) := by
  change execMarkFire m s = _
  unfold execMarkFire
  rw [hc]
  exact when_true (by simp [ha, hf]) s _

/-- R140: a catch-up that is due fires and steps again. -/
theorem exec_markCatchUp (hr : fieldN (markCtl s m) 10 2 = 3) (hc : (s.mark m).catchUp = some (s.t, back))
    (hf : (s.mark m).fired ≠ some s.t) : exec (.markCatchUp m) s =
      .next ((stepMark (fireMark s m back) m back).bump (wheelIdx (markWheel s m)) 0x1C 16) := by
  change execMarkCatchUp m s = _
  unfold execMarkCatchUp
  rw [hc]
  exact when_true (by simp [ha, hr, hf]) s _

end

/-! ### The writes -/

/-- R135, R144: a control word that the unit admits is stored, and the repeat count starts over. -/
theorem markControlEff_stores {m : Nat} {w : Wr} (auth : Bool) (s : State) (hcode : fieldN w.value.toNat 4 4 ≤ 8)
    (hdir : fieldN w.value.toNat 8 2 ≠ 3) (hnth : fieldN w.value.toNat 10 2 = 2 → fieldN w.value.toNat 12 20 ≠ 0)
    (hstep : fieldN w.value.toNat 10 2 = 3 → 1 ≤ fieldN w.value.toNat 12 20 ∧ fieldN w.value.toNat 12 20 ≤ 524287) :
    markControlEff m w auth s = (.accepted, (writeMark s m 0 w.value).modMark m (fun x => { x with count := 0 })) := by
  refine if_neg ?_
  rintro (h | h | ⟨h, h0⟩ | ⟨h, h0⟩)
  · omega
  · exact hdir h
  · exact hnth h h0
  · have := hstep h
    omega

theorem exec_markControlWrite (m : Fin 1024) (w : Wr) (s : State) : exec (.markControlWrite m w) s =
    .next (accessWrite s w false (markIdx m) (markSub m 0) (markControlEff m)) := rfl

theorem exec_markUnitEnable (w : Wr) (s : State) :
    exec (.markUnitEnable w) s = .next (accessWrite s w false 0x21A0 1 markUnitEff) := rfl

/-- R39: 1 starts the unit that is off. -/
theorem markUnitEff_starts {w : Wr} (auth : Bool) {s : State} (hv : w.value = 1) (h : s.nat 0x21A0 2 = 0) :
    markUnitEff w auth s = (.accepted, (s.put 0x21A0 1 1).putN 0x21A0 2 1) := by
  simp only [markUnitEff, hv, h, if_true, acc]

/-- R42, R151: 0 stops the unit that runs, at once when nothing is in flight. -/
theorem markUnitEff_stops {w : Wr} (auth : Bool) {s : State} (hv : w.value = 0) (h : s.nat 0x21A0 2 = 1) :
    markUnitEff w auth s = (.accepted, (s.put 0x21A0 1 0).putN 0x21A0 2
      (if s.tide.fifo = [] ∧ s.tide.acts = [] then 0 else 2)) := by
  have hbusy : (if marksBusy s = true then 2 else 0) = if s.tide.fifo = [] ∧ s.tide.acts = [] then 0 else 2 := by
    unfold marksBusy
    cases s.tide.fifo <;> cases s.tide.acts <;> rfl
  rw [markUnitEff, if_neg (by simp [hv]), if_pos h, hv, hbusy, acc]

/-! ### Actions that are due -/

/-- R146: the actions that are due act together, once taken. -/
theorem onActions_due {s : State} {code : Nat} (f : List MarkAct → State → State) (h : dueActions s code ≠ []) :
    onActions s code f = .next (f (dueActions s code) (takeActions s (dueActions s code))) := by
  unfold onActions
  split
  next hnone => exact absurd hnone h
  next => rfl

/-- R146: with none due nothing acts. -/
theorem onActions_none {s : State} {code : Nat} (f : List MarkAct → State → State) (h : dueActions s code = []) :
    onActions s code f = .next s := by
  simp only [onActions, h]

/-- R143: each wheel named latches its angle. -/
theorem exec_angleCapture (s : State) : exec .angleCapture s = onActions s 8 fun l x =>
    (bitsSet 8 (targetMask l)).foldl (fun y u => y.put (wheelIdx u) 0x1E (y.wheel u).angle) x := rfl

/-- Settles O21: a crossing by its repeat rule (`crossMark_once` and its companions), a firing by whether its target is there
(`fireMark_due`, `fireMark_discarded`), the old word by `markWord_writeMark`. -/
theorem marksFireAndAct : Obligations.MarksFireAndAct := by
  unfold Obligations.MarksFireAndAct
  refine ⟨fun m s back ha hc hf => ?fire, fun m s back _ => ?firing,
    fun m s back ha hr hc hf => exec_markCatchUp ha hr hc hf, fun m w s hp => ?control, fun m k v s _ hk hw => ?word,
    fun s h => ?capture, fun w s hp => ⟨fun hv h => ?start, fun hv h => ?stop⟩⟩
  case fire =>
    rw [exec_markFire ha hc hf]
    exact ⟨fun h => by rw [crossMark_once h], fun h => by rw [crossMark_every h], fun h hn => by rw [crossMark_nth h hn],
      fun h hn hw => by rw [crossMark_before h hn hw], fun h => by rw [crossMark_step h]⟩
  case firing =>
    refine ⟨fireMark_count, fireMark_fired, fun h => ?due, fun h => ?missing, fireMark_keepsBytes⟩
    case due =>
      rw [fireMark_due h]
      exact ⟨rfl, firingCounted_keepsWords s m (by simp)⟩
    case missing =>
      rw [fireMark_discarded h]
      exact ⟨rfl, by simp [State.bump_nat, firingCounted_lost],
        (firingCounted_keepsWords s m (by simp)).bump (by decide) (by simp) 16⟩
  case control =>
    intro v rep arg hcode hdir hnth hstep
    rw [exec_markControlWrite, accessWrite_done hp (markControlEff_stores _ s hcode hdir hnth hstep), typedWrite_value]
  case word =>
    have hsub : markSub m k < 256 := by unfold markSub; omega
    exact ⟨State.put_obj_self s _ _ v, markWord_writeMark hw k v,
      ((State.keepsWords.refl s _).put hsub (by simp) v).of_od rfl⟩
  case capture => rw [exec_angleCapture, onActions_due _ h]
  case start => rw [exec_markUnitEnable, accessWrite_done hp (markUnitEff_starts _ hv h)]
  case stop => rw [exec_markUnitEnable, accessWrite_done hp (markUnitEff_stops _ hv h)]

end Sys2Proof.Machine
end

section
/-! PROOF. Where the actions of marks go: in place, to the post FIFO and to SYNCO (R127, R146 to R149). -/
namespace Sys2Proof.Machine

/-! ### Actions in place -/

section
variable (s : State)

/-- R143: each converter named is triggered. -/
theorem exec_converterTrigger : exec .converterTrigger s = onActions s 1 fun l x =>
    (bitsSet 4 (targetMask l)).foldl (fun y k => trigger y k 2) x := rfl

/-- R184: each channel named is captured. -/
theorem exec_senseSnapshot : exec .senseSnapshot s = onActions s 2 fun l x =>
    (bitsSet 64 (targetMask l + argMask l * 4294967296)).foldl snapshotChannel x := rfl

/-- R262: each rail named applies its demand set. -/
theorem exec_bandApply : exec .bandApply s = onActions s 3 fun l x =>
    settleAll ((bitsSet 12 (targetMask l)).foldl applyDemand x) := rfl

/-- R271: each table named is sampled. -/
theorem exec_tableSample : exec .tableSample s = onActions s 4 fun l x =>
    settleAll ((bitsSet 8 (targetMask l)).foldl (fun y f => sampleTable y f (sampleAngle l f)) x) := rfl

/-- R127: with source 2h a pulse is requested. -/
theorem exec_syncoPulse : exec .syncoPulse s = onActions s 7 fun _ x =>
    if x.tide.syncoSource = 2 then syncoRequest x x.t else x := rfl

end

/-! ### SYNCO -/

/-- R128: a request while SYNCO is low rises as asked and lasts for the pulse width. -/
theorem syncoRequest_low {s : State} (h : s.tide.syncoRise = none) (rise : Nat) : syncoRequest s rise =
    { s with tide := { s.tide with syncoRise := some rise, syncoEnd := some (rise + ceilDiv (s.nat 0x21B2 6) 5) } } := by
  simp only [syncoRequest, h]
  rfl

/-- R127: the selected wheel has made its crossings, and a pulse is requested. -/
theorem exec_syncoTurnCrossing {s : State} (h5 : s.on 5 = true) (hsrc : s.tide.syncoSource = 1)
    (hcount : s.nat 0x21B2 5 ≤ s.tide.turnCount) : exec .syncoTurnCrossing s =
      .next (syncoRequest { s with tide := { s.tide with turnCount := 0 } } (s.t + 2)) :=
  when_true (by simp [h5, hsrc, hcount]) s _

/-- R128, R129: a pulse whose width has passed ends. -/
theorem exec_syncoPulseEnd {s : State} {e : Nat} (h : s.tide.syncoEnd = some e) (he : e ≤ s.t) : exec .syncoPulseEnd s =
    .next { s with tide := { s.tide with syncoRise := none, syncoEnd := none, syncoSource := s.nat 0x21B2 3 } } := by
  change execSyncoPulseEnd s = _
  unfold execSyncoPulseEnd
  rw [h]
  exact when_true (by simp [he]) s _

/-! ### The post FIFO -/

/-- R149: the state after a request that finds the FIFO full. -/
def requestDropped (s : State) (a : MarkAct) : State := ((takeActions s [a]).bump 0x21A0 5 16).report 2 .uc

section
variable {s : State} {a : MarkAct} (h : firstPost s = some a)
include h

/-- R148: the first request that is due enters a FIFO that has room. -/
theorem enterFifo_enters (hroom : s.tide.fifo.length < 64) :
    let x := takeActions s [a]
    let n := s.tide.fifo.length + 1
    enterFifo s a.code = .next ((({ x with tide := { x.tide with fifo := s.tide.fifo ++ [a] } } : State).putN
      0x21A0 3 n).highWater 0x21A0 4 n) := by
  intro x n
  have hfifo : ¬ 64 ≤ (takeActions s [a]).tide.fifo.length := not_le.mpr hroom
  simp only [enterFifo, h, ne_eq, not_true_eq_false, if_false, if_neg hfifo]
  rfl

/-- R149: the first request that is due and finds the FIFO full is dropped. -/
theorem enterFifo_full (hfull : 64 ≤ s.tide.fifo.length) : enterFifo s a.code = .next (requestDropped s a) := by
  have hfifo : 64 ≤ (takeActions s [a]).tide.fifo.length := hfull
  simp only [enterFifo, h, ne_eq, not_true_eq_false, if_false, if_pos hfifo]
  rfl

end

theorem exec_markTaskActivation (s : State) : exec .markTaskActivation s = enterFifo s 5 := rfl

theorem exec_markQueuePost (s : State) : exec .markQueuePost s = enterFifo s 6 := rfl

/-- R148: the FIFO hands over one request in a cycle. -/
theorem exec_markFifoPost {s : State} (h5 : s.on 5 = true) (hfree : s.cyc.markHanded = false) :
    exec .markFifoPost s = .next (handMark s) := when_true (by rw [h5, hfree]; rfl) s _

/-- R148: the state in which the oldest request has left the FIFO. -/
def requestTaken (s : State) (rest : List MarkAct) : State :=
  ({ s with tide := { s.tide with fifo := rest }, cyc := { s.cyc with markHanded := true } } : State).putN 0x21A0 3
    rest.length

section
variable {s : State} {a : MarkAct} {rest : List MarkAct} (h : s.tide.fifo = a :: rest)
include h

/-- R148: an activation goes to the Foreman. -/
theorem handMark_activation (hc : a.code = 5) : handMark s = requestActivation (requestTaken s rest) (a.target.toNat % 64) 0
    (activationRecord (a.target.toNat % 64) 0 a.angle a.mark a.wheel a.back) := by
  simp only [handMark, h, if_pos hc]
  rfl

/-- R150: a post goes to the queue of its task's role 0. -/
theorem handMark_post (hc : a.code ≠ 5) {y : State}
    (hq : postToRole (requestTaken s rest) 0 (a.target.toNat % 64) 0 (markEntry a) = some y) : handMark s = y := by
  unfold requestTaken at hq
  simp only [handMark, h, if_neg hc, hq]

/-- R150: a post that finds no queue is counted. -/
theorem handMark_lost (hc : a.code ≠ 5)
    (hq : postToRole (requestTaken s rest) 0 (a.target.toNat % 64) 0 (markEntry a) = none) :
    handMark s = (requestTaken s rest).bump 0x21A0 6 16 := by
  unfold requestTaken at hq
  simp only [handMark, h, if_neg hc, hq]
  rfl

end

/-- Settles O22: actions in place by `onActions_due`, requests by `enterFifo_enters` and the three ways out of the FIFO. -/
theorem markActionsReachTheirUnits : Obligations.MarkActionsReachTheirUnits := by
  unfold Obligations.MarkActionsReachTheirUnits
  refine ⟨fun s => ?inPlace, fun s h5 hsrc hcount hlow => ?turn, fun s e h he => exec_syncoPulseEnd h he,
    fun s a h hroom => ?enter, fun s a rest h5 hfree h => ?leave⟩
  case inPlace =>
    rw [exec_converterTrigger, exec_senseSnapshot, exec_bandApply, exec_tableSample, exec_syncoPulse]
    refine ⟨onActions_due _, onActions_due _, onActions_due _, onActions_due _, onActions_none _, onActions_none _,
      onActions_none _, onActions_none _, fun h => ⟨fun hsrc hlow => ?pulse, fun hsrc => ?other⟩⟩
    case pulse =>
      rw [onActions_due _ h]
      exact congrArg _ ((if_pos hsrc).trans (syncoRequest_low (by exact hlow) s.t))
    case other =>
      rw [onActions_due _ h]
      exact congrArg _ (if_neg hsrc)
  case turn => exact (exec_syncoTurnCrossing h5 hsrc hcount).trans (congrArg _ (syncoRequest_low (by exact hlow) _))
  case enter =>
    refine ⟨fun hc => ?_, fun hc => ?_⟩
    · rw [exec_markTaskActivation, ← hc, enterFifo_enters h hroom]
    · rw [exec_markQueuePost, ← hc, enterFifo_enters h hroom]
  case leave =>
    rw [exec_markFifoPost h5 hfree]
    exact ⟨fun hc => congrArg _ (handMark_activation h hc), fun hc hq => congrArg _ (handMark_lost h hc hq),
      fun y hc hq => congrArg _ (handMark_post h hc hq)⟩

/-- R149: what a dropped request leaves. -/
theorem requestDropped_frame (s : State) (a : MarkAct) :
    let t := requestDropped s a
    t.tide.fifo = s.tide.fifo ∧ t.tide.acts = s.tide.acts.filter (fun b => !([a].contains b)) ∧
      t.nat 0x21A0 5 = min (s.nat 0x21A0 5 + 1) 65535 ∧ t.raised = s.raised ++ [⟨s.t, 2, .uc, 0⟩] ∧
      s.keepsWords t [(0x21A0, 5)] ∧ s.keepsBytes t ∧
      { t with od := s.od, raised := s.raised, tide := s.tide, cyc := s.cyc } = s := by
  have hwords : s.keepsWords (s.bump 0x21A0 5 16) [(0x21A0, 5)] :=
    (State.keepsWords.refl s _).bump (by decide) (by simp) 16
  exact ⟨rfl, rfl, State.bump_nat s 0x21A0 5 (by decide), rfl, hwords.of_od rfl, fun _ => rfl, rfl⟩

/-- Settles O23, by what the drop leaves (`requestDropped_frame`). -/
theorem fullMarkFifoDropsRequests : Obligations.FullMarkFifoDropsRequests := by
  unfold Obligations.FullMarkFifoDropsRequests
  intro s a h hfull hcode
  refine ⟨requestDropped s a, ?_, requestDropped_frame s a⟩
  rcases hcode with hc | hc
  · rw [if_pos hc, exec_markTaskActivation, ← hc, enterFifo_full h hfull]
  · rw [if_neg (by simp [hc]), exec_markQueuePost, ← hc, enterFifo_full h hfull]

end Sys2Proof.Machine
end

section
/-! PROOF. Encoders: counts, index pulses, stalls and the enable (R113 to R125). -/
namespace Sys2Proof.Machine

/-! ### The words that a glide and a loss leave alone -/

/-- R104: settling a wheel writes no object word but its lock state. -/
theorem settleLock_obj (s : State) {u x y : Nat} (h : objKey x y ≠ objKey (wheelIdx u) 0x0B) :
    (settleLock s u).obj x y = s.obj x y := by
  unfold settleLock
  split
  · rw [State.putN_obj, if_neg h]
  · rfl

theorem settle_obj (s : State) {u x y : Nat} (h : objKey x y ≠ objKey (wheelIdx u) 0x0B) :
    (settle s u).obj x y = s.obj x y := by
  unfold settle
  split
  · exact settleLock_obj _ h
  · exact settleLock_obj _ h

section
variable {y : Nat} (hy : y < 256)
include hy

/-- Words of different subindices differ. -/
theorem objKey_ne_of_sub {j : Nat} (hj : j < 256) (h : y ≠ j) (x i : Nat) : objKey x y ≠ objKey i j := fun e =>
  h (objKey_inj hy hj e).2

/-- R124: a wheel that drops its encoder writes its lock state and its flags alone. -/
theorem encoderGlide_obj (s : State) (u x : Nat) (hlock : y ≠ 0x0B) (hflags : y ≠ 0x1D) :
    (encoderGlide s u).obj x y = s.obj x y := by
  unfold encoderGlide
  rw [settle_obj _ (objKey_ne_of_sub hy (by decide) hlock x _), State.setBits_obj,
    if_neg (objKey_ne_of_sub hy (by decide) hflags x _), State.putN_obj,
    if_neg (objKey_ne_of_sub hy (by decide) hlock x _), State.modWheel_obj]

theorem dropFollowers_obj (s : State) (k x : Nat) (hlock : y ≠ 0x0B) (hflags : y ≠ 0x1D) :
    (dropFollowers s k).obj x y = s.obj x y := by
  unfold dropFollowers
  generalize List.range 8 = l
  induction l generalizing s with
  | nil => rfl
  | cons u l ih =>
    rw [List.foldl_cons, ih]
    split
    · exact encoderGlide_obj hy s u x hlock hflags
    · rfl

/-- R119: a loss score that adds one writes the score, the encoder's flags and what its followers write. -/
theorem encoderScore_obj (s : State) (k x : Nat) (hlock : y ≠ 0x0B) (hflags : y ≠ 0x1D) (hscore : y ≠ 0x12)
    (hlost : y ≠ 0x0F) : (encoderScore s k).obj x y = s.obj x y := by
  have hbump : (s.bump (encIdx k) 0x12 8).obj x y = s.obj x y := by
    rw [State.bump_obj, if_neg (objKey_ne_of_sub hy (by decide) hscore x _)]
  unfold encoderScore encoderLossCheck
  split
  · rw [dropFollowers_obj hy _ k x hlock hflags, State.report_obj, State.setBits_obj,
      if_neg (objKey_ne_of_sub hy (by decide) hlost x _), hbump]
  · exact hbump

end

/-! ### A count -/

/-- R120: a count writes the interval and the stalled flag. -/
theorem countInterval_position (s : State) (k : Nat) (fwd : Bool) :
    (countInterval s k fwd).obj (encIdx k) 0x0C = s.obj (encIdx k) 0x0C := by
  unfold countInterval
  rw [State.modEnc_obj, State.clrBits_obj, if_neg (by simp)]
  split
  · rw [State.putI_obj, if_neg (by simp)]
  · rfl

theorem indexOverrun_position (s : State) (k : Nat) (fwd : Bool) :
    (indexOverrun s k fwd).obj (encIdx k) 0x0C = s.obj (encIdx k) 0x0C := by
  have herror : ∀ f, (encoderScore ((s.bump (encIdx k) 0x11 16).modEnc k f) k).obj (encIdx k) 0x0C =
      s.obj (encIdx k) 0x0C := fun f => by
    rw [encoderScore_obj (y := 0x0C) (by decide) _ k _ (by decide) (by decide) (by decide) (by decide), State.modEnc_obj,
      State.bump_obj, if_neg (by simp)]
  simp only [indexOverrun, apply_ite (fun t : State => t.obj (encIdx k) 0x0C), herror, State.modEnc_obj, ite_self]

/-- R113: a count moves the position by one modulo CPR. -/
theorem encoderStep_position (s : State) (k : Nat) (fwd : Bool) : (encoderStep s k fwd).obj (encIdx k) 0x0C =
    BitVec.ofNat 32 (if fwd then (s.nat (encIdx k) 0x0C + 1) % s.nat (encIdx k) 2
      else (s.nat (encIdx k) 0x0C + s.nat (encIdx k) 2 - 1) % s.nat (encIdx k) 2) := by
  unfold encoderStep
  rw [indexOverrun_position, countInterval_position, State.putN_obj, if_pos rfl]

/-- R114: the state with the levels of A and B accepted. -/
def levelsAccepted (s : State) (k : Nat) (a b : Bool) : State := s.modEnc k (fun e => { e with a := a, b := b })

section
variable {k : Fin 4} {a b : Bool} {ha hb : Nat} {s : State} {a1 b1 : Bool}
  (hA : acceptedLevel s k (s.enc k).a a ha = a1) (hB : acceptedLevel s k (s.enc k).b b hb = b1)
include hA hB

/-- R125: while the encoder is disabled or D5 is not ON the accepted levels follow alone. -/
theorem exec_encoderCount_off (h : s.on 5 = false ∨ s.flag (encIdx k) 1 0 = false) :
    exec (.encoderCount k a b ha hb) s = .next (levelsAccepted s k a1 b1) := by
  subst hA hB
  exact if_pos h

section
variable (h5 : s.on 5 = true) (hen : s.flag (encIdx k) 1 0 = true)
include h5 hen

/-- R113: levels that stand are no count. -/
theorem exec_encoderCount_none (ea : a1 = (s.enc k).a) (eb : b1 = (s.enc k).b) :
    exec (.encoderCount k a b ha hb) s = .next (levelsAccepted s k a1 b1) := by
  change execEncoderCount k a b ha hb s = _
  simp [execEncoderCount, hA, hB, h5, hen, ea, eb, levelsAccepted]

/-- R116: a change of both levels is a count error. -/
theorem exec_encoderCount_both (ea : a1 ≠ (s.enc k).a) (eb : b1 ≠ (s.enc k).b) :
    exec (.encoderCount k a b ha hb) s = .next (encoderScore ((levelsAccepted s k a1 b1).bump (encIdx k) 0x10 16) k) := by
  change execEncoderCount k a b ha hb s = _
  simp [execEncoderCount, hA, hB, h5, hen, ea.symm, eb.symm, levelsAccepted]

/-- R113: a change of A is a count, forward when A and B now differ. -/
theorem exec_encoderCount_a (ea : a1 ≠ (s.enc k).a) (eb : b1 = (s.enc k).b) : exec (.encoderCount k a b ha hb) s =
    .next (encoderStep (levelsAccepted s k a1 b1) k ((a1 != b1) != s.flag (encIdx k) 3 0)) := by
  change execEncoderCount k a b ha hb s = _
  simp [execEncoderCount, hA, hB, h5, hen, ea.symm, eb, levelsAccepted]

/-- R113: a change of B is a count, forward when A and B now agree. -/
theorem exec_encoderCount_b (ea : a1 = (s.enc k).a) (eb : b1 ≠ (s.enc k).b) : exec (.encoderCount k a b ha hb) s =
    .next (encoderStep (levelsAccepted s k a1 b1) k ((a1 == b1) != s.flag (encIdx k) 3 0)) := by
  change execEncoderCount k a b ha hb s = _
  simp [execEncoderCount, hA, hB, h5, hen, ea, eb.symm, levelsAccepted]

end

end

/-! ### Index pulses and stalls -/

/-- R117: a pulse that comes while the encoder counts, held for its cycles and qualified, acts by the index mode. -/
theorem exec_indexPulse {k : Fin 4} {held : Nat} {s : State} (h5 : s.on 5 = true) (hen : s.flag (encIdx k) 1 0 = true)
    (hio : s.sup.vddioLow = false) (hheld : s.nat (encIdx k) 4 + 1 ≤ held) (hq : indexQualified s k = true) :
    exec (.indexPulse k held) s = .next (indexPulse s k) :=
  when_true (by simp [h5, hen, hio, hheld, hq]) s _

/-- R117: the position captured by an index pulse. -/
def positionCaptured (s : State) (k : Nat) : State :=
  (s.put (encIdx k) 0x0D (s.obj (encIdx k) 0x0C)).modEnc k (fun e => { e with sinceIndex := 0 })

/-- R117: the encoder homed by an index pulse. -/
def encoderHomed (s : State) (k : Nat) : State :=
  ((positionCaptured s k).put (encIdx k) 0x0C (s.obj (encIdx k) 7)).setBits (encIdx k) 0x0F 1

section
variable {s : State} {k : Nat}

/-- R117, mode 0h: a pulse does nothing. -/
theorem indexPulse_ignored (hm : s.nat (encIdx k) 5 = 0) : indexPulse s k = s := by
  simp only [indexPulse, hm]

/-- R117, mode 1h, and mode 2h once homed: a pulse captures the position. -/
theorem indexPulse_captures (h : s.nat (encIdx k) 5 = 1 ∨ (s.nat (encIdx k) 5 = 2 ∧ s.flag (encIdx k) 0x0F 0 = true)) :
    indexPulse s k = positionCaptured s k := by
  rcases h with hm | ⟨hm, hhomed⟩
  · simp only [indexPulse, hm]
    rfl
  · simp only [indexPulse, hm, if_pos hhomed]
    rfl

/-- R117, modes 2h and 3h: a pulse homes an encoder that is not homed. -/
theorem indexPulse_homes (hm : s.nat (encIdx k) 5 = 2 ∨ s.nat (encIdx k) 5 = 3) (h : s.flag (encIdx k) 0x0F 0 = false) :
    indexPulse s k = encoderHomed s k := by
  rcases hm with hm | hm
  · simp only [indexPulse, hm, h, Bool.false_eq_true, if_false]
    rfl
  · simp only [indexPulse, hm, h, if_true]
    rfl

section
variable (hm : s.nat (encIdx k) 5 = 3) (hhomed : s.flag (encIdx k) 0x0F 0 = true)
include hm hhomed

/-- R117, mode 3h: a pulse within the tolerance restores the homed position. -/
theorem indexPulse_restores
    (h : positionError (s.nat (encIdx k) 2) (s.nat (encIdx k) 0x0C) (s.nat (encIdx k) 7) ≤ s.nat (encIdx k) 8) :
    indexPulse s k = (positionCaptured s k).put (encIdx k) 0x0C (s.obj (encIdx k) 7) := by
  simp only [indexPulse, hm, hhomed, Bool.true_eq_false, if_false]
  exact if_pos h

/-- R117, mode 3h: a pulse outside the tolerance is an index error. -/
theorem indexPulse_errs
    (h : s.nat (encIdx k) 8 < positionError (s.nat (encIdx k) 2) (s.nat (encIdx k) 0x0C) (s.nat (encIdx k) 7)) :
    indexPulse s k = encoderScore ((positionCaptured s k).bump (encIdx k) 0x11 16) k := by
  simp only [indexPulse, hm, hhomed, Bool.true_eq_false, if_false]
  exact if_neg (not_le.mpr h)

end

end

/-- R120: the stall time has passed since the last count. -/
theorem exec_encoderStall {k : Fin 4} {s : State} {c : Nat} (h5 : s.on 5 = true) (hen : s.flag (encIdx k) 1 0 = true)
    (hc : (s.enc k).lastCount = some c) (hdue : c + 200 * s.nat (encIdx k) 0x0A ≤ s.t) : exec (.encoderStall k) s =
      .next (((s.putN (encIdx k) 0x0E 0).setBits (encIdx k) 0x0F 4).modEnc k
        (fun e => { e with lastCount := none, rest := true })) := by
  change execEncoderStall k s = _
  unfold execEncoderStall
  rw [hc]
  exact when_true (by simp [h5, hen, State.passed, cyclesUs, hdue]) s _

/-! ### The enable -/

theorem exec_encoderEnable (k : Fin 4) (w : Wr) (s : State) :
    exec (.encoderEnable k w) s = .next (accessWrite s w false (encIdx k) 1 (encoderEnableEff k)) := rfl

/-- R125: the state of an encoder that an enable has started. -/
def encoderStarted (s : State) (k : Nat) : State :=
  (((((s.putN (encIdx k) 1 1).putN (encIdx k) 0x0C 0).putN (encIdx k) 0x0F 0).putN (encIdx k) 0x12 0).putN
    (encIdx k) 0x0E 0).modEnc k (fun e => { e with lastCount := none, rest := true, sinceIndex := 0 })

section
variable {k : Nat} {w : Wr} (auth : Bool) {s : State}

/-- R125: 1 starts a disabled encoder. -/
theorem encoderEnableEff_starts (hv : w.value = 1) (hoff : s.flag (encIdx k) 1 0 = false) :
    encoderEnableEff k w auth s = (.accepted, encoderStarted s k) := if_pos ⟨hv, hoff⟩

/-- R124, R125: 0 disables an enabled encoder, whose followers glide. -/
theorem encoderEnableEff_stops (hv : w.value = 0) (hon : s.flag (encIdx k) 1 0 = true) :
    encoderEnableEff k w auth s = (.accepted, (dropFollowers s k).putN (encIdx k) 1 0) :=
  (if_neg (by simp [hv])).trans (if_pos ⟨hv, hon⟩)

end

theorem encoderStarted_keepsWords (s : State) (k : Nat) : s.keepsWords (encoderStarted s k)
    [(encIdx k, 1), (encIdx k, 0x0C), (encIdx k, 0x0F), (encIdx k, 0x12), (encIdx k, 0x0E)] := by
  intro x y hy hxy
  have hk : ∀ j ∈ [1, 0x0C, 0x0F, 0x12, 0x0E], objKey x y ≠ objKey (encIdx k) j := by
    rintro j hj h
    obtain ⟨rfl, rfl⟩ := objKey_inj hy (by simp at hj; omega) h
    exact hxy (by simpa using hj)
  simp [encoderStarted, hk]

/-- Settles O20: a sample of A and B by what it changes (`exec_encoderCount_a` and its companions), a count by
`encoderStep_position`, an index pulse by its mode (`indexPulse_homes` and its companions). -/
theorem encodersCountAndJudge : Obligations.EncodersCountAndJudge := by
  unfold Obligations.EncodersCountAndJudge
  refine ⟨fun k a b ha hb s => ⟨exec_encoderCount_off rfl rfl, fun h5 hen =>
      ⟨exec_encoderCount_none rfl rfl h5 hen, exec_encoderCount_both rfl rfl h5 hen, exec_encoderCount_a rfl rfl h5 hen,
        exec_encoderCount_b rfl rfl h5 hen⟩⟩,
    fun k fwd s _ => ?position, fun k held s h5 hen hio hheld hq => ?index,
    fun k s c h5 hen hc hdue => exec_encoderStall h5 hen hc hdue,
    fun k w s hp => ⟨fun hv hoff => ?start, fun hv hon => ?stop⟩⟩
  case position =>
    intro t
    rw [State.nat, encoderStep_position, BitVec.toNat_ofNat]
  case index =>
    rw [exec_indexPulse h5 hen hio hheld hq]
    exact ⟨fun hm => by rw [indexPulse_ignored hm], fun hm => by rw [indexPulse_captures hm]; rfl,
      fun hm h => by rw [indexPulse_homes hm h]; rfl, fun hm hh h => by rw [indexPulse_restores hm hh h]; rfl,
      fun hm hh h => by rw [indexPulse_errs hm hh h]; rfl⟩
  case start =>
    rw [exec_encoderEnable, accessWrite_done hp (encoderEnableEff_starts _ hv hoff)]
    refine ⟨_, rfl, ?_, ?_, ?_, ?_, ?_, (encoderStarted_keepsWords s k).of_od rfl,
      fun _ => ?_⟩
    all_goals simp [State.nat, encoderStarted]
  case stop => rw [exec_encoderEnable, accessWrite_done hp (encoderEnableEff_stops _ hv hon)]

end Sys2Proof.Machine
end

section
/-! PROOF. The lock loop: SYNCI edges, loop updates and the loss of the reference (R98, R108 to R112, R126). -/
namespace Sys2Proof.Machine

/-! ### SYNCI -/

/-- R72, R126: the state in which a level of SYNCI is accepted. -/
def synciAccepted (s : State) (level : Bool) : State := { s with tide := { s.tide with synciLevel := level } }

section
variable {s : State} {rising : Bool} {held : Nat} (hheld : synciDeglitch s ≤ held)
  (hnew : s.tide.synciLevel ≠ (rising && !s.sup.vddioLow))
include hheld hnew

/-- R126: an edge of the selected polarity counts and is a reference event of every wheel in mode 2h. -/
theorem exec_synciEdge_selected (h5 : s.on 5 = true) (hpol : (rising && !s.sup.vddioLow) = (s.obj 0x21B2 1 == 0)) :
    exec (.synciEdge rising held) s = .next ((List.range 8).foldl (fun y u =>
      if wheelMode y u = 2 then referenceEvent y u (3 + synciDeglitch y) else y)
      ((synciAccepted s (rising && !s.sup.vddioLow)).bump 0x21B2 7 32)) :=
  (if_neg (by rintro (h | ⟨-, h⟩); exacts [hnew h, absurd h (not_lt.mpr hheld)])).trans (if_pos ⟨h5, hpol⟩)

/-- R126: an edge of the other polarity sets the level alone. -/
theorem exec_synciEdge_other (hpol : (rising && !s.sup.vddioLow) ≠ (s.obj 0x21B2 1 == 0)) :
    exec (.synciEdge rising held) s = .next (synciAccepted s (rising && !s.sup.vddioLow)) :=
  (if_neg (by rintro (h | ⟨-, h⟩); exacts [hnew h, absurd h (not_lt.mpr hheld)])).trans (if_neg fun h => hpol h.2)

end

/-! ### The loop update -/

/-- R110: the integral from which an update starts: 0 where the reference is regained. -/
def loopIntegral (s : State) (u : Nat) : Int := if wheelLock s u = 1 ∨ wheelLock s u = 4 then 0 else (s.wheel u).integral

/-- R108: the integral after the update. -/
def updatedIntegral (s : State) (u : Nat) (r : LoopResult) : Int :=
  clampI (loopIntegral s u + tdiv (r.ki * r.ep) r.period) (-r.range) r.range

/-- R98, R108: F_app after the update. -/
def updatedF (s : State) (u : Nat) (r : LoopResult) : Int :=
  boundF (clampI (r.fper + tdiv (r.kp * r.ep) r.period + updatedIntegral s u r) (r.fown - r.range) (r.fown + r.range))

/-- R108: the wheel after the update, before its lock state is judged. -/
def loopApplied (s : State) (u : Nat) (r : LoopResult) : State :=
  (s.modWheel u (fun x => { x with integral := updatedIntegral s u r, fapp := updatedF s u r, loop := none })).putI
    (wheelIdx u) 0x1A r.ep

/-- R110: the wheel after the update, with the flag reference regained where it is. -/
def loopFlagged (s : State) (u : Nat) (r : LoopResult) : State :=
  if wheelLock s u = 1 ∨ wheelLock s u = 4 then (loopApplied s u r).setBits (wheelIdx u) 0x1D 8 else loopApplied s u r

/-- R110, R111: an update from free or glide is judged in acquire, any other in the lock state that stands. -/
theorem loopUpdate_eq (s : State) (u : Nat) (r : LoopResult) : loopUpdate s u r =
    lockJudge (loopFlagged s u r) u (if wheelLock s u = 1 ∨ wheelLock s u = 4 then 2 else wheelLock s u)
      (if wheelLock s u = 1 ∨ wheelLock s u = 4 then 0 else (s.wheel u).run) r := rfl

theorem exec_lockLoopUpdate {u : Fin 8} {s : State} {r : LoopResult} (hr : (s.wheel u).loop = some r)
    (hdue : r.due ≤ s.t + 1) (hm : wheelMode s u = 2 ∨ wheelMode s u = 4) :
    exec (.lockLoopUpdate u) s = .next (loopUpdate s u r) := by
  change execLockLoopUpdate u s = _
  unfold execLockLoopUpdate
  rw [hr]
  exact when_true (by simpa [hdue] using hm) s _

/-! ### What the judgement of the lock state changes -/

/-- R110, R111: the judgement of the lock state writes the lock state, the flags and the run of the wheel. -/
theorem lockJudge_cases (s : State) (u st run : Nat) (r : LoopResult) :
    (∃ n m, lockJudge s u st run r =
      ((s.putN (wheelIdx u) 0x0B n).setBits (wheelIdx u) 0x1D m).modWheel u (fun x => { x with run := 0 })) ∨
    ∃ n, lockJudge s u st run r = (s.putN (wheelIdx u) 0x0B st).modWheel u (fun x => { x with run := n }) := by
  by_cases h : r.lockCount ≤ if decide (absI r.ep ≤ r.window) = (st == 2) then run + 1 else 0
  · exact .inl ⟨_, _, if_pos h⟩
  · exact .inr ⟨_, if_neg h⟩

section
variable {s : State} {u st run : Nat} {r : LoopResult}

/-- The judgement changes the run of the wheel alone. -/
theorem lockJudge_wheel (hu : u < s.tide.wheels.length) :
    ∃ n, (lockJudge s u st run r).wheel u = { s.wheel u with run := n } := by
  rcases lockJudge_cases s u st run r with ⟨n, m, h⟩ | ⟨n, h⟩
  · exact ⟨0, by rw [h]; exact State.modWheel_wheel_self _ u _ hu⟩
  · exact ⟨n, by rw [h]; exact State.modWheel_wheel_self _ u _ hu⟩

theorem lockJudge_keepsWords {x : State} {l : List (Nat × Nat)} (h : x.keepsWords s l) (hlock : (wheelIdx u, 0x0B) ∈ l)
    (hflags : (wheelIdx u, 0x1D) ∈ l) : x.keepsWords (lockJudge s u st run r) l := by
  rcases lockJudge_cases s u st run r with ⟨n, m, e⟩ | ⟨n, e⟩
  · rw [e]
    exact ((h.putN (by decide) hlock n).setBits (by decide) hflags m).of_od rfl
  · rw [e]
    exact (h.putN (by decide) hlock st).of_od rfl

theorem lockJudge_memByte (a : Nat) : (lockJudge s u st run r).memByte a = s.memByte a := by
  rcases lockJudge_cases s u st run r with ⟨n, m, e⟩ | ⟨n, e⟩ <;> simp [e]

theorem lockJudge_error : (lockJudge s u st run r).obj (wheelIdx u) 0x1A = s.obj (wheelIdx u) 0x1A := by
  rcases lockJudge_cases s u st run r with ⟨n, m, e⟩ | ⟨n, e⟩ <;> simp [e]

/-- The judgement sets flags and clears none. -/
theorem lockJudge_flag {b : Nat} (h : s.flag (wheelIdx u) 0x1D b = true) :
    (lockJudge s u st run r).flag (wheelIdx u) 0x1D b = true := by
  simp only [State.flag] at h ⊢
  rcases lockJudge_cases s u st run r with ⟨n, m, e⟩ | ⟨n, e⟩ <;> simp [e, h]

/-- R110: one update does not lock a wheel in acquire whose lock count is above 1. -/
theorem lockJudge_acquires (h : 1 < r.lockCount) : wheelLock (lockJudge s u 2 0 r) u = 2 := by
  have hrun : ∀ b : Prop, [Decidable b] → ¬ r.lockCount ≤ if b then 0 + 1 else 0 := fun b _ => by split <;> omega
  simp only [lockJudge, if_neg (hrun _)]
  simp [wheelLock, State.nat]

end

/-! ### The update as a whole -/

theorem loopApplied_wheel (s : State) {u : Nat} (r : LoopResult) (hu : u < s.tide.wheels.length) :
    (loopApplied s u r).wheel u =
      { s.wheel u with integral := updatedIntegral s u r, fapp := updatedF s u r, loop := none } :=
  State.modWheel_wheel_self s u _ hu

theorem loopFlagged_tide (s : State) (u : Nat) (r : LoopResult) : (loopFlagged s u r).tide = (loopApplied s u r).tide := by
  unfold loopFlagged
  split <;> rfl

/-- R98, R108: an update changes its wheel's integral, F_app and run, and takes the result. -/
theorem loopUpdate_wheel (s : State) {u : Nat} (r : LoopResult) (hu : u < s.tide.wheels.length) :
    ∃ n, (loopUpdate s u r).wheel u =
      { s.wheel u with integral := updatedIntegral s u r, fapp := updatedF s u r, loop := none, run := n } := by
  have htide := loopFlagged_tide s u r
  have hlen : u < (loopFlagged s u r).tide.wheels.length := by
    rw [htide]
    simpa [loopApplied, State.modWheel, modAt_length] using hu
  have hwheel : (loopFlagged s u r).wheel u = (loopApplied s u r).wheel u := by rw [State.wheel, htide]; rfl
  obtain ⟨n, hn⟩ := lockJudge_wheel hlen
  exact ⟨n, by rw [loopUpdate_eq, hn, hwheel, loopApplied_wheel s r hu]⟩

theorem loopUpdate_error (s : State) (u : Nat) (r : LoopResult) :
    (loopUpdate s u r).obj (wheelIdx u) 0x1A = word32 r.ep := by
  rw [loopUpdate_eq, lockJudge_error, loopFlagged]
  split <;> simp [loopApplied]

theorem loopUpdate_memByte (s : State) (u : Nat) (r : LoopResult) (a : Nat) :
    (loopUpdate s u r).memByte a = s.memByte a := by
  rw [loopUpdate_eq, lockJudge_memByte, loopFlagged]
  split <;> simp [loopApplied]

/-- R108, R110, R111: an update writes the phase error, the flags and the lock state. -/
theorem loopUpdate_keepsWords (s : State) (u : Nat) (r : LoopResult) :
    s.keepsWords (loopUpdate s u r) [(wheelIdx u, 0x0B), (wheelIdx u, 0x1A), (wheelIdx u, 0x1D)] := by
  have happlied : s.keepsWords (loopApplied s u r) [(wheelIdx u, 0x0B), (wheelIdx u, 0x1A), (wheelIdx u, 0x1D)] :=
    (State.keepsWords.refl s _).put (by decide) (by simp) _
  rw [loopUpdate_eq]
  refine lockJudge_keepsWords ?_ (by simp) (by simp)
  unfold loopFlagged
  split
  · exact happlied.setBits (by decide) (by simp) 8
  · exact happlied

section
variable {s : State} {u : Nat} {r : LoopResult} (h : wheelLock s u = 1 ∨ wheelLock s u = 4)
include h

/-- R110: an update from free or glide sets the flag reference regained. -/
theorem loopUpdate_regained : (loopUpdate s u r).flag (wheelIdx u) 0x1D 3 = true := by
  rw [loopUpdate_eq]
  exact lockJudge_flag (by simp [loopFlagged, h, State.flag])

theorem loopUpdate_acquires (hcount : 1 < r.lockCount) : wheelLock (loopUpdate s u r) u = 2 := by
  rw [loopUpdate_eq, if_pos h, if_pos h]
  exact lockJudge_acquires hcount

end

/-! ### The loss of the reference -/

/-- R111: a wheel in acquire or locked whose reference is overdue loses it. -/
theorem exec_referenceLost {u : Fin 8} {s : State} {st : Nat} (hlock : wheelLock s u = 2 ∨ wheelLock s u = 3)
    (hst : (s.wheel u).start = some st) (hown : (s.wheel u).own ≠ 0)
    (hdue : (s.wheel u).lossFactor * (s.wheel u).mult * 1099511627776 ≤ (s.t - st) * 8 * (s.wheel u).own) :
    exec (.referenceLost u) s = .next (referenceLost s u) := by
  have hover : referenceOverdue s u = true := by simp [referenceOverdue, hst, hown, hdue]
  exact when_true (by simpa [hover] using hlock) s _

/-- Settles O19: an edge by its polarity, an update by the equation of its wheel (`loopUpdate_wheel`) and the judgement of the
lock state, the loss as `referenceLost` says. -/
theorem lockLoopFollowsItsReference : Obligations.LockLoopFollowsItsReference := by
  unfold Obligations.LockLoopFollowsItsReference
  refine ⟨fun s rising held h5 hheld hnew => ⟨exec_synciEdge_selected hheld hnew h5, exec_synciEdge_other hheld hnew⟩,
    fun u s r hs hr hdue hm => ?update, fun u s st hlock hst hown hdue => exec_referenceLost hlock hst hown hdue⟩
  obtain ⟨n, hwheel⟩ := loopUpdate_wheel s r (wheel_lt_of_shaped hs u)
  refine ⟨_, exec_lockLoopUpdate hr hdue hm, loopUpdate_error s u r, ?integral, ?frequency, ?taken, ?phase,
    fun h => ⟨loopUpdate_regained h, loopUpdate_acquires h⟩, loopUpdate_keepsWords s u r, loopUpdate_memByte s u r⟩
  all_goals rw [hwheel]
  all_goals rfl

end Sys2Proof.Machine
end

section
/-! PROOF. Writes of a wheel's mode, own frequency, angle and MULT (R99 to R103, R112, R130). -/
namespace Sys2Proof.Machine

/-! ### The mode -/

theorem exec_wheelModeWrite (u : Fin 8) (w : Wr) (s : State) :
    exec (.wheelModeWrite u w) s = .next (accessWrite s w false (wheelIdx u) 1 (wheelModeAll u)) := rfl

/-- R103, R212: the Pilots and the rails settle after a mode. -/
def pilotsSettled (s : State) : State := settleAll ((List.range 48).foldl pilotSettle s)

section
variable {u : Nat} {w : Wr} (auth : Bool) {s : State}

/-- R212: an accepted mode is followed by the Pilots and the rails. -/
theorem wheelModeAll_accepted {t : State} (h : wheelModeEff u w auth s = (.accepted, t)) :
    wheelModeAll u w auth s = (.accepted, pilotsSettled t) := by
  simp only [wheelModeAll, h]
  rfl

/-- R101, mode 0h: the wheel stops. -/
theorem wheelModeEff_off (hv : w.value.toNat = 0) : wheelModeEff u w auth s =
    (.accepted, ((s.putN (wheelIdx u) 1 0).putN (wheelIdx u) 0x0B 0).modWheel u
      (fun x => { x with fapp := 0, integral := 0, start := none, loop := none })) := by
  simp only [wheelModeEff, hv]
  rfl

/-- R101, mode 1h: the wheel runs free from another mode. -/
theorem wheelModeEff_own (hv : w.value.toNat = 1) (hm : wheelMode s u ≠ 1) : wheelModeEff u w auth s =
    (.accepted, settle (((s.putN (wheelIdx u) 1 1).putN (wheelIdx u) 0x0B 1).modWheel u (fun x => { x with
      fapp := if wheelMode s u = 0 then (s.wheel u).fown else wheelF s u, loop := none })) u) := by
  simp only [wheelModeEff, hv, if_neg hm]
  rfl

/-- R101, mode 3h: the wheel follows an encoder that can drive it. -/
theorem wheelModeEff_encoder (hv : w.value.toNat = 3) (hd : encoderDrives s (wheelEnc s u) (wheelPP s u) = true) :
    wheelModeEff u w auth s =
      (.accepted, ((s.putN (wheelIdx u) 1 3).putN (wheelIdx u) 0x0B 5).modWheel u (fun x => { x with
        phase := phaseOf (encoderAngle s (wheelEnc s u) (wheelPP s u) (s.obj (wheelIdx u) 0x0C)),
        prev := phaseOf (encoderAngle s (wheelEnc s u) (wheelPP s u) (s.obj (wheelIdx u) 0x0C)), loop := none })) := by
  simp only [wheelModeEff, hv, if_pos hd]
  rfl

/-- R101: the wheel at the start of a lock loop. -/
def loopCleared (s : State) (u : Nat) (x : Wheel) : Wheel :=
  { x with
    fapp := if wheelMode s u = 0 then absI (s.wheel u).fown
      else if wheelMode s u = 3 then absI (wheelF s u) else wheelF s u,
    integral := 0, start := none, run := 0, rejects := 0, armed := false, loop := none }

/-- R101, modes 2h and 4h: the wheel runs free until its reference comes. -/
theorem wheelModeEff_locked {v : Nat} (hv : w.value.toNat = v) (h : v = 2 ∨ v = 4) : wheelModeEff u w auth s =
    (.accepted, settle (((s.putN (wheelIdx u) 1 v).putN (wheelIdx u) 0x0B 1).modWheel u (loopCleared s u)) u) := by
  rcases h with rfl | rfl
  · simp only [wheelModeEff, hv]
    rfl
  · simp only [wheelModeEff, hv]
    rfl

end

/-! ### Frequency, angle and MULT -/

theorem exec_ownFrequencyCommit (u : Fin 8) (w : Wr) (s : State) :
    exec (.ownFrequencyCommit u w) s = .next (accessWrite s w false (wheelIdx u) 2 (ownFrequencyEff u)) := rfl

theorem exec_angleSet (u : Fin 8) (w : Wr) (s : State) :
    exec (.angleSet u w) s = .next (accessWrite s w false (wheelIdx u) 7 (angleSetEff u)) := rfl

theorem exec_turnsPerReferenceWrite (u : Fin 8) (w : Wr) (s : State) :
    exec (.turnsPerReferenceWrite u w) s = .next (accessWrite s w false (wheelIdx u) 0x0D (multEff u)) := rfl

section
variable {u : Nat} {w : Wr} (auth : Bool) {s : State}

theorem fownValid_iff (mag : Nat) : fownValid mag = true ↔ mag = 0 ∨ (550 ≤ mag ∧ mag ≤ 5497558138) := by
  simp [fownValid]

/-- R99, R130: a frequency that F_own can hold is committed. -/
theorem ownFrequencyEff_commits (h : fownValid (w.value.toNat * 256 + s.nat (wheelIdx u) 3) = true) :
    ownFrequencyEff u w auth s = (.accepted, settle ((s.put (wheelIdx u) 2 w.value).modWheel u (fun x => { x with
      fown := if s.flag (wheelIdx u) 4 0 then -((w.value.toNat * 256 + s.nat (wheelIdx u) 3 : Nat) : Int)
        else (w.value.toNat * 256 + s.nat (wheelIdx u) 3 : Nat) })) u) := if_pos h

/-- R138: outside lock state follow the angle is set without a crossing. -/
theorem angleSetEff_sets (h : wheelLock s u ≠ 5) : angleSetEff u w auth s =
    (.accepted, s.modWheel u (fun x => { x with phase := phaseOf w.value, prev := phaseOf w.value })) := if_neg h

/-- R112: MULT is stored, and in modes 2h and 4h the loop starts over. -/
theorem multEff_stores : multEff u w auth s = (.accepted,
    if wheelMode s u = 2 ∨ wheelMode s u = 4 then loopRestart (s.store (wheelIdx u) 0x0D w.value) u
    else s.store (wheelIdx u) 0x0D w.value) := rfl

end

/-- Settles O18, mode by mode (`wheelModeEff_off` and its companions) and word by word. -/
theorem wheelWritesTakeEffect : Obligations.WheelWritesTakeEffect := by
  unfold Obligations.WheelWritesTakeEffect
  refine fun u w s => ⟨fun hp => ?mode, fun hp => ?frequency, fun hp hlock => ?angle, fun hp => ?mult⟩
  case mode =>
    have hdone : ∀ {t : State}, wheelModeEff u (typedWrite w (wheelIdx u) 1) false s = (.accepted, t) →
        exec (.wheelModeWrite u w) s = .next ((pilotsSettled t).accepted w.master (wheelIdx u) 1) := fun h => by
      rw [exec_wheelModeWrite, accessWrite_done hp (wheelModeAll_accepted false h)]
    exact ⟨fun hv => hdone (wheelModeEff_off _ hv), fun hv hm => hdone (wheelModeEff_own _ hv hm),
      fun hv hd => hdone (wheelModeEff_encoder _ hv hd), fun v hv h => hdone (wheelModeEff_locked _ hv h)⟩
  case frequency =>
    intro i v mag hmag
    rw [exec_ownFrequencyCommit, accessWrite_done hp (ownFrequencyEff_commits _ ((fownValid_iff _).mpr hmag))]
    rfl
  case angle => rw [exec_angleSet, accessWrite_done hp (angleSetEff_sets _ hlock), typedWrite_value]
  case mult =>
    rw [exec_turnsPerReferenceWrite, accessWrite_done hp (multEff_stores _), typedWrite_value]
    rfl

end Sys2Proof.Machine
end

section
/-! PROOF. The clock generator: qualification and loss of XI, loss of lock and the returns (R84 to R90). -/
namespace Sys2Proof.Machine

/-! ### The crystal -/

section
variable {s : State}

/-- R85: the last hundred windows of XI lie within their bounds, a millisecond after the windows began. -/
theorem xiQualifies_of_windows {edges : List Nat} (hlen : 100 ≤ edges.length)
    (hall : ∀ n ∈ edges.drop (edges.length - 100), 225 ≤ n ∧ n ≤ 275) (htime : s.clk.xiFrom + 400000 ≤ s.real) :
    xiQualifies s edges = true := by
  simp only [xiQualifies, Bool.and_eq_true, decide_eq_true_eq, List.all_eq_true]
  exact ⟨⟨hlen, hall⟩, htime⟩

section
variable {edges : List Nat} (hq : xiQualifies s edges = true)
include hq

/-- R84: XI that qualifies within start-up's 20 ms is the reference of state 1h. -/
theorem exec_xiQualified_starts (h0 : clockState s = 0) (hu : s.clk.unlocked = false) (ht : s.t ≤ 320000) :
    exec (.xiQualified edges) s = .next (clockStarted ((s.putN 0x21B0 8 1).putN 0x21B0 1 1)) :=
  (when_true hq s _).trans (congrArg Host.Outcome.next (if_pos ⟨h0, hu, ht⟩))

/-- R85: XI that qualifies at any other time reads qualified alone. -/
theorem exec_xiQualified_later (h : clockState s ≠ 0 ∨ s.clk.unlocked = true ∨ 320000 < s.t) :
    exec (.xiQualified edges) s = .next (s.putN 0x21B0 8 1) := by
  refine (when_true hq s _).trans (congrArg Host.Outcome.next (if_neg ?_))
  rintro ⟨h0, hu, ht⟩
  rcases h with h | h | h
  · exact h h0
  · rw [hu] at h
    cases h
  · exact absurd ht (not_le.mpr h)

end

/-- R84: start-up that has waited 20 ms runs on the backup RC. -/
theorem exec_xiQualifyTimeout (h0 : clockState s = 0) (hu : s.clk.unlocked = false) (ht : 320000 ≤ s.t) :
    exec .xiQualifyTimeout s = .next (clockStarted (s.putN 0x21B0 1 2)) :=
  when_true (by simp [h0, hu, xiQualifyLimit, ht]) s _

/-- R797: at the start of the clock start-up copies the cause of the reset and enters its state 1h. -/
theorem clockStarted_eq (h : s.nat 0x3800 1 = 0) : clockStarted s = (copyCause s).putN 0x3800 1 1 := if_pos h

theorem copyCause_keepsWords (s : State) {l : List (Nat × Nat)} (h2 : (0x3800, 2) ∈ l) (h3 : (0x3800, 3) ∈ l) :
    s.keepsWords (copyCause s) l := by
  unfold copyCause
  split
  · exact ((State.keepsWords.refl s l).putN (by decide) h2 _).putN (by decide) h3 _
  · exact State.keepsWords.refl s l

theorem copyCause_memByte (s : State) (a : Nat) : (copyCause s).memByte a = s.memByte a := by
  unfold copyCause
  split <;> simp

/-- R86: a test of XI that fails finds it lost. -/
theorem xiLost_of_test {test : XiTest} (hover : ∀ n, test = .over n → 276 ≤ n)
    (hunder : ∀ n, test = .under n → n < 225) (hsilent : ∀ n, test = .silent n → 7 ≤ n) : xiLost test = true := by
  rcases test with n | n | n
  · exact decide_eq_true (hover n rfl)
  · exact decide_eq_true (hunder n rfl)
  · exact decide_eq_true (hsilent n rfl)

/-- R85: XI no longer reads qualified, and its windows start anew. -/
def xiDropped (s : State) : State := (s.putN 0x21B0 8 0).modClk (fun c => { c with xiFrom := s.real })

/-- R87: the loss in state 1h. -/
def xiFallback (s : State) : State :=
  ((((xiDropped s).putN 0x21B0 1 2).bump 0x21B0 5 16).modClk (fun c => { c with returnAt := none })).report 0 .uc

theorem exec_xiLoss {test : XiTest} (h : xiLost test = true) :
    exec (.xiLoss test) s = .next (if clockState s = 1 then xiFallback s else xiDropped s) :=
  when_true h s _

theorem xiDropped_keepsWords (s : State) {l : List (Nat × Nat)} (h : (0x21B0, 8) ∈ l) : s.keepsWords (xiDropped s) l :=
  ((State.keepsWords.refl s l).putN (by decide) h 0).of_od rfl

theorem xiFallback_keepsWords (s : State) : s.keepsWords (xiFallback s) [(0x21B0, 8), (0x21B0, 1), (0x21B0, 5)] :=
  (((xiDropped_keepsWords s (by simp)).putN (by decide) (by simp) 2).bump (j := 5) (by decide) (by simp) 16).of_od rfl

theorem xiFallback_count (s : State) : (xiFallback s).nat 0x21B0 5 = min (s.nat 0x21B0 5 + 1) 65535 := by
  have hsame : ((xiDropped s).putN 0x21B0 1 2).nat 0x21B0 5 = s.nat 0x21B0 5 := by simp [State.nat, xiDropped]
  rw [← hsame]
  exact State.bump_nat _ 0x21B0 5 (by decide)

/-! ### Loss of lock and returns -/

/-- R89: the PLL that loses lock in state 1h or 2h. -/
theorem exec_pllUnlock (h : clockState s = 1 ∨ clockState s = 2) : exec .pllUnlock s =
    .next ((convertersAbort (canClockStop (((s.putN 0x21B0 1 0).bump 0x21B0 6 16).modClk (fun c => { c with
      unlocked := true, relock := none, returnAt := none })))).report 0 .ft) :=
  when_true (by simpa using h) s _

theorem exec_returnRequest (w : Wr) (s : State) :
    exec (.returnRequest w) s = .next (accessWrite s w false 0x21B0 4 returnEff) := rfl

section
variable (w : Wr) (auth : Bool)

/-- R88: with XI qualified a return from state 2h comes at once. -/
theorem returnEff_returns (h2 : clockState s = 2) (hx : xiGood s = true) : returnEff w auth s =
    (.accepted, ((s.modClk (fun c => { c with xiMode := s.nat 0x21B0 2 })).putN 0x21B0 1 1).modClk
      (fun c => { c with returnAt := none })) := by
  simp only [returnEff, if_pos h2, if_pos hx, acc]

/-- R88: a return from state 2h waits for XI. -/
theorem returnEff_waits (h2 : clockState s = 2) (hx : xiGood s = false) : returnEff w auth s =
    (.accepted, (s.modClk (fun c => { c with xiMode := s.nat 0x21B0 2 })).modClk
      (fun c => { c with returnAt := some s.t })) := by
  simp only [returnEff, if_pos h2, hx, Bool.false_eq_true, if_false, acc]

/-- R90: after a loss of lock the request restarts the PLL. -/
theorem returnEff_relocks (h0 : clockState s = 0) (hu : s.clk.unlocked = true) (hr : s.clk.relock = none) :
    returnEff w auth s =
      (.accepted, s.modClk (fun c => { c with relock := some (s.t, xiGood s), xiMode := s.nat 0x21B0 2 })) :=
  (if_neg (by omega)).trans (if_pos ⟨h0, hu, hr⟩)

end

/-- R88: the return that is permitted or requested comes with XI qualified. -/
theorem exec_automaticReturn (h2 : clockState s = 2) (hx : xiGood s = true)
    (h : s.flag 0x21B0 3 0 = true ∨ s.clk.returnAt.isSome = true) : exec .automaticReturn s =
      .next ((s.putN 0x21B0 1 1).modClk (fun c => { c with returnAt := none })) :=
  when_true (by simpa [h2, hx] using h) s _

/-- R90: the PLL locks again within its 100 µs. -/
theorem exec_pllRelock {t0 : Nat} {q : Bool} (h0 : clockState s = 0) (hr : s.clk.relock = some (t0, q))
    (ht : s.t ≤ t0 + 1600) : exec .pllRelock s =
      .next (restartDrivers (canClockStart ((s.putN 0x21B0 1 (if q then 1 else 2)).modClk
        (fun c => { c with unlocked := false, relock := none, returnAt := none })))) := by
  have hlate : s.passed t0 (relockLimit + 1) = false := decide_eq_false (by unfold relockLimit; omega)
  change execPllRelock s = _
  unfold execPllRelock
  rw [hr]
  exact when_true (by simp [h0, hlate]) s _

/-- R90: a relock that has not come in time is counted and dropped. -/
theorem exec_returnFailure_relock {t0 : Nat} {q : Bool} (hr : s.clk.relock = some (t0, q)) (ht : t0 + 1600 ≤ s.t) :
    exec .returnFailure s = .next ((s.bump 0x21B0 7 16).modClk (fun c => { c with relock := none })) := by
  change execReturnFailure s = _
  unfold execReturnFailure
  rw [hr]
  exact when_true (decide_eq_true ht) s _

/-- R88: a return that has not come in time is counted and dropped. -/
theorem exec_returnFailure_return {t0 : Nat} (hr : s.clk.relock = none) (ha : s.clk.returnAt = some t0)
    (ht : t0 + 20000000 ≤ s.t) :
    exec .returnFailure s = .next ((s.bump 0x21B0 7 16).modClk (fun c => { c with returnAt := none })) := by
  change execReturnFailure s = _
  unfold execReturnFailure
  rw [hr, ha]
  exact when_true (decide_eq_true ht) s _

end

/-- R88, R90: what a failed return or relock leaves. -/
theorem returnFailed_frame (s : State) (f : ClockGen → ClockGen) :
    let t := (s.bump 0x21B0 7 16).modClk f
    t.nat 0x21B0 7 = min (s.nat 0x21B0 7 + 1) 65535 ∧ s.keepsWords t [(0x21B0, 7)] ∧ s.keepsBytes t :=
  ⟨State.bump_nat s 0x21B0 7 (by decide), ((State.keepsWords.refl s _).bump (by decide) (by simp) 16).of_od rfl,
    fun _ => rfl⟩

/-- Settles O17, event by event: each acts under its condition (`when_true`), XI's loss by `xiFallback` and `xiDropped`, the
return request by the clock state (`returnEff_returns` and its companions). -/
theorem clockGeneratorChangesState : Obligations.ClockGeneratorChangesState := by
  unfold Obligations.ClockGeneratorChangesState
  refine ⟨fun s edges hlen hall htime => ?qualified, fun s => exec_xiQualifyTimeout, fun s h => ?started,
    fun s test hover hunder hsilent => ?loss, fun s => exec_pllUnlock, fun w s hp => ?request,
    fun s => exec_automaticReturn, fun s t0 q => exec_pllRelock, fun s t0 h => ?failure⟩
  case qualified =>
    have hq := xiQualifies_of_windows hlen hall htime
    exact ⟨exec_xiQualified_starts hq, exec_xiQualified_later hq⟩
  case started =>
    rw [clockStarted_eq h]
    exact ⟨by simp [State.nat], fun a => by rw [State.putN_memByte, copyCause_memByte],
      (copyCause_keepsWords s (by simp) (by simp)).putN (by decide) (by simp) 1⟩
  case loss =>
    rw [exec_xiLoss (xiLost_of_test hover hunder hsilent)]
    by_cases h1 : clockState s = 1
    · rw [if_pos h1]
      exact ⟨_, rfl, by simp [xiFallback, xiDropped], rfl,
        fun _ => ⟨by simp [xiFallback], xiFallback_count s, rfl⟩, fun h => absurd h1 h, xiFallback_keepsWords s,
        fun _ => rfl⟩
    · rw [if_neg h1]
      exact ⟨_, rfl, by simp [xiDropped], rfl, fun h => absurd h h1,
        fun _ => ⟨xiDropped_keepsWords s (by simp), rfl⟩, xiDropped_keepsWords s (by simp), fun _ => rfl⟩
  case request =>
    rw [exec_returnRequest]
    exact ⟨fun h2 hx => by rw [accessWrite_done hp (returnEff_returns _ _ h2 hx)],
      fun h2 hx => by rw [accessWrite_done hp (returnEff_waits _ _ h2 hx)],
      fun h0 hu hr => by rw [accessWrite_done hp (returnEff_relocks _ _ h0 hu hr)]⟩
  case failure =>
    rcases h with ⟨q, hr, ht⟩ | ⟨hr, ha, ht⟩
    · obtain ⟨hcount, hwords, hbytes⟩ := returnFailed_frame s (fun c => { c with relock := none })
      exact ⟨_, exec_returnFailure_relock hr ht, hcount, fun _ => rfl, fun hn => (by simp [hr] at hn), hwords, hbytes⟩
    · obtain ⟨hcount, hwords, hbytes⟩ := returnFailed_frame s (fun c => { c with returnAt := none })
      exact ⟨_, exec_returnFailure_return hr ha ht, hcount, fun ⟨q, hq⟩ => (by simp [hr] at hq), fun _ => rfl, hwords,
        hbytes⟩

end Sys2Proof.Machine
end

section
/-! SUPPORT. Sense channels in the terms of the statements: what a channel reads as, the words that its steps write and those
that they leave alone (R157 to R194). -/
namespace Sys2Proof.Machine

/-! ### Object words and flags -/

/-- Bits that are set join those that stand. -/
theorem State.setBits_flag (s : State) (i j m : Nat) {b : Nat} (hb : b < 32) :
    (s.setBits i j m).flag i j b = (s.flag i j b || m.testBit b) := by
  rw [State.flag, State.setBits_obj, if_pos rfl, BitVec.getLsbD_or, BitVec.getLsbD_ofNat, decide_eq_true hb, Bool.true_and]
  rfl

/-! ### Channels -/

section
variable {s : State} {c : Nat} (hc : c < s.sense.length)
include hc

/-- A channel that the state holds reads as it was changed. -/
theorem State.modChan_chan_self (f : SenseChan → SenseChan) : (s.modChan c f).chan c = f (s.chan c) :=
  getD_modAt_self s.sense c f {} hc

/-- R157: what a bit that enters leaves of its channel. -/
theorem enterBit_chan (bit : Bool) : (enterBit s c bit).chan c = { s.chan c with
    hist := (bit :: (s.chan c).hist).take histLimit, bits := (s.chan c).bits + 1, origin := (s.chan c).origin + 1,
    run := if (s.chan c).run != 0 && (s.chan c).hist.head? == some bit then (s.chan c).run + 1 else 1, bitTime := s.t,
    errLimit := s.nat (senseIdx c) 8, snapMode := s.nat (senseIdx c) 0x0C } :=
  State.modChan_chan_self hc _

/-- R173: the evaluation in flight. -/
theorem evaluateFast_chan : (evaluateFast s c).chan c = { s.chan c with
    flight := some (s.t + 3, filterResult (fastOrder s c) (fastRatio s c) (s.chan c).hist,
      (cascade (fastOrder s c) (fastRatio s c) (s.chan c).hist).natAbs == fastRatio s c ^ fastOrder s c,
      decide (s.int (senseIdx c) 9 ≤ absI (filterResult (fastOrder s c) (fastRatio s c) (s.chan c).hist))) } :=
  State.modChan_chan_self hc _

/-- R168: a channel that fails keeps its bits and loses its precision result alone. -/
theorem senseFail_chan (flags : Nat) : (senseFail s c flags).chan c = { s.chan c with prec := none } :=
  State.modChan_chan_self hc _

/-- R171: the filters of a channel that starts are cleared; the evaluation in flight stays. -/
theorem startAcquiring_chan : (startAcquiring s c).chan c = { s.chan c with
    hist := [], bits := 0, origin := 0, sync := false, run := 0, sat := false, overRange := false, from' := s.t + 1,
    prec := none } :=
  State.modChan_chan_self hc _

end

theorem State.modChan_sense_length (s : State) (c : Nat) (f : SenseChan → SenseChan) :
    (s.modChan c f).sense.length = s.sense.length := modAt_length _ _ _

/-- R171: the status that a bit gives is an object word. -/
theorem acquired_sense (s : State) (c : Nat) : (acquired s c).sense = s.sense := by
  unfold acquired
  split <;> rfl

theorem acquired_obj (s : State) (c : Nat) {j : Nat} (hj : j ≠ 0x0E) :
    (acquired s c).obj (senseIdx c) j = s.obj (senseIdx c) j := by
  unfold acquired
  split
  · simp [hj]
  · rfl

theorem acquired_t (s : State) (c : Nat) : (acquired s c).t = s.t := by
  unfold acquired
  split <;> rfl

/-! ### A bit -/

/-- R172: what follows four cycles after a bit changes the precision result of its channel alone. -/
theorem evaluatePrecision_chan {s : State} {c : Nat} (hc : c < s.sense.length) :
    ∃ q, (evaluatePrecision s c).chan c = { s.chan c with prec := q } := ⟨_, State.modChan_chan_self hc _⟩

/-- R165, R169: after its fast evaluation a bit changes the precision result of its channel alone. -/
theorem senseBit_chan {s : State} {c : Nat} (hc : c < s.sense.length) (bit : Bool) :
    ∃ p, (senseBit s c bit).chan c = { (evaluateFast (acquired (enterBit s c bit) c) c).chan c with prec := p } := by
  have hlen : c < (evaluateFast (acquired (enterBit s c bit) c) c).sense.length := by
    simpa only [evaluateFast, State.modChan_sense_length, acquired_sense, enterBit] using hc
  obtain ⟨q, hq⟩ := evaluatePrecision_chan hlen
  simp only [senseBit]
  split
  · exact ⟨none, by rw [senseFail_chan (by rwa [evaluatePrecision, State.modChan_sense_length]), hq]⟩
  · exact ⟨q, hq⟩

/-- R173, R174: the bits that the channel holds after a bit, and x of the newest of them in flight for three cycles. -/
theorem senseBit_enters {s : State} {c : Nat} (hc : c < s.sense.length) (bit : Bool) :
    let h := (bit :: (s.chan c).hist).take 766
    let t := senseBit s c bit
    (t.chan c).hist = h ∧ (t.chan c).bits = (s.chan c).bits + 1 ∧ (t.chan c).bitTime = s.t ∧
    (t.chan c).flight.map (fun f => (f.1, f.2.1)) = some (s.t + 3, filterResult (fastOrder s c) (fastRatio s c) h) := by
  intro h t
  have hlen : c < (acquired (enterBit s c bit) c).sense.length := by
    rwa [acquired_sense, enterBit, State.modChan_sense_length]
  have hchan : (acquired (enterBit s c bit) c).chan c = (enterBit s c bit).chan c := by
    rw [State.chan, acquired_sense, State.chan]
  have horder : fastOrder (acquired (enterBit s c bit) c) c = fastOrder s c := by
    rw [fastOrder, State.nat, acquired_obj _ _ (by decide)]
    rfl
  have hratio : fastRatio (acquired (enterBit s c bit) c) c = fastRatio s c := by
    rw [fastRatio, State.nat, acquired_obj _ _ (by decide)]
    rfl
  have ht : (acquired (enterBit s c bit) c).t = s.t := acquired_t _ _
  obtain ⟨p, hp⟩ := senseBit_chan hc bit
  rw [show t.chan c = _ from hp, evaluateFast_chan hlen, horder, hratio, ht, hchan, enterBit_chan hc]
  exact ⟨rfl, rfl, rfl, rfl⟩

/-! ### A delivery -/

/-- R176, R177: the edges into saturation and over range write their counts and their flags alone. -/
theorem rangeEvents_obj (s : State) (c : Nat) (sat wide : Bool) {j : Nat} (hj : j ∉ [0x1A, 0x1D, 0x1E]) :
    (rangeEvents s c sat wide).obj (senseIdx c) j = s.obj (senseIdx c) j := by
  simp only [List.mem_cons, List.not_mem_nil, or_false, not_or] at hj
  obtain ⟨hflags, hsat, hover⟩ := hj
  simp only [rangeEvents, State.modChan_obj, apply_ite (fun t : State => t.obj (senseIdx c) j), State.report_obj,
    State.setBits_obj, State.bump_obj, objKey_index, hflags, hsat, hover, if_false, ite_self]

theorem rangeEvents_sense (s : State) (c : Nat) (sat wide : Bool) : (rangeEvents s c sat wide).sense =
    modAt s.sense c (fun x => { x with sat := sat, overRange := wide }) := by
  simp only [rangeEvents, State.modChan, apply_ite State.sense, State.report_sense, State.setBits_sense, State.bump_sense,
    ite_self]

theorem startAcquiring_obj (s : State) (c : Nat) {j : Nat} (hj : j ∉ [0x0E, 0x0F, 0x1C]) :
    (startAcquiring s c).obj (senseIdx c) j = s.obj (senseIdx c) j := by
  simp only [List.mem_cons, List.not_mem_nil, or_false, not_or] at hj
  obtain ⟨hstatus, hvalid, hscore⟩ := hj
  simp [startAcquiring, hstatus, hvalid, hscore]

/-- R191: a channel that is not stopping has no stopping phase to end. -/
theorem senseStopped_runs {s : State} {c : Nat} (h : senseStatus s c ≠ 4) : senseStopped s c = s := if_neg (fun hs => h hs.1)

theorem senseStopped_obj (s : State) (c : Nat) {j : Nat} (hj : j ∉ [0x0E, 0x0F, 0x1C]) :
    (senseStopped s c).obj (senseIdx c) j = s.obj (senseIdx c) j := by
  unfold senseStopped
  split
  · split
    · rw [State.putN_obj, if_neg]
      rw [objKey_index]
      rintro rfl
      exact hj (List.mem_cons_self ..)
    · exact startAcquiring_obj s c hj
  · rfl

theorem senseStopped_flight {s : State} {c : Nat} (hc : c < s.sense.length) :
    ((senseStopped s c).chan c).flight = (s.chan c).flight := by
  unfold senseStopped
  split
  · split
    · rfl
    · rw [startAcquiring_chan hc]
  · rfl

/-- R174: x written, and a good channel's fast-valid bit set, before the range events. -/
def resultTaken (s : State) (c due : Nat) (x : Int) : State :=
  let s1 := (s.putI (senseIdx c) 0x10 x).modChan c (fun y => { y with flight := none, seenTime := due - 3 })
  if senseStatus s c = 2 then s1.setBits (senseIdx c) 0x0F 1 else s1

theorem deliverFast_eq (s : State) (c due : Nat) (x : Int) (sat wide : Bool) :
    deliverFast s c due x sat wide = senseStopped (rangeEvents (resultTaken s c due x) c sat wide) c := rfl

theorem resultTaken_sense (s : State) (c due : Nat) (x : Int) : (resultTaken s c due x).sense =
    modAt s.sense c (fun y => { y with flight := none, seenTime := due - 3 }) := by
  unfold resultTaken
  split <;> rfl

theorem resultTaken_result (s : State) (c due : Nat) (x : Int) :
    (resultTaken s c due x).obj (senseIdx c) 0x10 = word32 x := by
  unfold resultTaken
  split <;> simp

theorem resultTaken_status (s : State) (c due : Nat) (x : Int) :
    senseStatus (resultTaken s c due x) c = senseStatus s c := by
  unfold resultTaken senseStatus
  split <;> simp [State.nat]

theorem resultTaken_valid {s : State} {c : Nat} (due : Nat) (x : Int) (h : senseStatus s c = 2) :
    (resultTaken s c due x).flag (senseIdx c) 0x0F 0 = true := by
  unfold resultTaken
  rw [if_pos h, State.setBits_flag _ _ _ _ (by decide)]
  simp

/-- R174: what a delivery leaves of the result, the evaluation and the fast-valid bit. -/
theorem deliverFast_delivers {s : State} {c : Nat} (hc : c < s.sense.length) (due : Nat) (x : Int) (sat wide : Bool) :
    let t := deliverFast s c due x sat wide
    t.obj (senseIdx c) 0x10 = word32 x ∧ (t.chan c).flight = none ∧
    (senseStatus s c = 2 → t.flag (senseIdx c) 0x0F 0 = true) := by
  intro t
  have hrange : c < (rangeEvents (resultTaken s c due x) c sat wide).sense.length := by
    rwa [rangeEvents_sense, modAt_length, resultTaken_sense, modAt_length]
  refine ⟨?result, ?flight, fun hgood => ?valid⟩
  case result =>
    rw [show t = _ from deliverFast_eq .., senseStopped_obj _ _ (by decide), rangeEvents_obj _ _ _ _ (by decide),
      resultTaken_result]
  case flight =>
    rw [show t = _ from deliverFast_eq .., senseStopped_flight hrange, State.chan, rangeEvents_sense,
      getD_modAt_self _ _ _ _ (by rwa [resultTaken_sense, modAt_length]), resultTaken_sense, getD_modAt_self _ _ _ _ hc]
  case valid =>
    have hstatus : senseStatus (rangeEvents (resultTaken s c due x) c sat wide) c ≠ 4 := by
      rw [senseStatus, State.nat, rangeEvents_obj _ _ _ _ (by decide), ← State.nat, ← senseStatus, resultTaken_status, hgood]
      decide
    rw [show t = _ from deliverFast_eq .., senseStopped_runs hstatus, State.flag, rangeEvents_obj _ _ _ _ (by decide)]
    exact resultTaken_valid due x hgood

/-! ### A coding error -/

theorem senseFail_obj (s : State) (c flags : Nat) {j : Nat} (hj : j ∉ [0x0E, 0x0F, 0x1A]) :
    (senseFail s c flags).obj (senseIdx c) j = s.obj (senseIdx c) j := by
  simp only [List.mem_cons, List.not_mem_nil, or_false, not_or] at hj
  obtain ⟨hstatus, hvalid, hflags⟩ := hj
  simp [senseFail, hstatus, hvalid, hflags]

theorem senseFail_status (s : State) (c flags : Nat) : senseStatus (senseFail s c flags) c = 3 := by
  simp [senseFail, senseStatus, State.nat]

theorem senseFail_valid (s : State) (c flags : Nat) : (senseFail s c flags).nat (senseIdx c) 0x0F = 0 := by
  simp [senseFail, State.nat]

/-- R168: a failure adds its flags to those that stand. -/
theorem senseFail_flag (s : State) (c flags : Nat) {b : Nat} (hb : b < 32) :
    (senseFail s c flags).flag (senseIdx c) 0x1A b = (s.flag (senseIdx c) 0x1A b || (32 + flags).testBit b) := by
  rw [← State.setBits_flag _ _ _ _ hb]
  simp [senseFail, State.flag]

/-- R167: a coding error counted, scored and flagged; a good channel acquires again, out of sync, its valid bits clear. -/
def codingErrorNoted (s : State) (c : Nat) : State :=
  let i := senseIdx c
  let s1 := ((s.bump i 0x1B 16).bump i 0x1C 8).setBits i 0x1A 4
  ((if senseStatus s1 c = 2 then s1.putN i 0x0E 1 else s1).putN i 0x0F 0).modChan c
    (fun x => { x with sync := false, prec := x.prec.map (fun p => (p.1, p.2.1, false)) })

theorem codingErrorNoted_obj (s : State) (c : Nat) {j : Nat} (hstatus : j ≠ 0x0E) (hvalid : j ≠ 0x0F) :
    (codingErrorNoted s c).obj (senseIdx c) j =
      (((s.bump (senseIdx c) 0x1B 16).bump (senseIdx c) 0x1C 8).setBits (senseIdx c) 0x1A 4).obj (senseIdx c) j := by
  simp only [codingErrorNoted, State.modChan_obj, State.putN_obj, objKey_index, hstatus, hvalid, if_false,
    apply_ite (fun t : State => t.obj (senseIdx c) j), ite_self]

theorem codingErrorNoted_count (s : State) (c : Nat) :
    (codingErrorNoted s c).nat (senseIdx c) 0x1B = min (s.nat (senseIdx c) 0x1B + 1) 65535 := by
  rw [State.nat, codingErrorNoted_obj _ _ (by decide) (by decide), State.setBits_obj, if_neg (by simp), State.bump_obj,
    if_neg (by simp), ← State.nat, State.bump_nat _ _ _ (by decide)]
  rfl

theorem codingErrorNoted_score (s : State) (c : Nat) :
    (codingErrorNoted s c).nat (senseIdx c) 0x1C = min (s.nat (senseIdx c) 0x1C + 1) 255 := by
  rw [State.nat, codingErrorNoted_obj _ _ (by decide) (by decide), State.setBits_obj, if_neg (by simp), ← State.nat,
    State.bump_nat _ _ _ (by decide), State.nat, State.bump_obj, if_neg (by simp), ← State.nat]
  rfl

theorem codingErrorNoted_flag (s : State) (c : Nat) : (codingErrorNoted s c).flag (senseIdx c) 0x1A 2 = true := by
  rw [State.flag, codingErrorNoted_obj _ _ (by decide) (by decide), ← State.flag, State.setBits_flag _ _ _ _ (by decide)]
  exact Bool.or_true _

theorem codingErrorNoted_valid (s : State) (c : Nat) : (codingErrorNoted s c).nat (senseIdx c) 0x0F = 0 := by
  simp [codingErrorNoted, State.nat]

theorem codingErrorNoted_sense (s : State) (c : Nat) : (codingErrorNoted s c).sense =
    modAt s.sense c (fun x => { x with sync := false, prec := x.prec.map (fun p => (p.1, p.2.1, false)) }) := by
  simp only [codingErrorNoted, State.modChan, State.putN_sense, apply_ite State.sense, State.setBits_sense,
    State.bump_sense, ite_self]

/-- R167, R168: at the error limit a coding error fails its channel. -/
theorem codingError_eq (s : State) (c : Nat) : codingError s c =
    if (s.chan c).errLimit ≤ min (s.nat (senseIdx c) 0x1C + 1) 255 then senseFail (codingErrorNoted s c) c 4
    else codingErrorNoted s c := by
  rw [← codingErrorNoted_score]
  rfl

/-- R162, R167, R168: what a coding error leaves of its channel, failed or not. -/
theorem codingError_judges {s : State} {c : Nat} (hc : c < s.sense.length) :
    let t := codingError s c
    t.nat (senseIdx c) 0x1B = min (s.nat (senseIdx c) 0x1B + 1) 65535 ∧ t.flag (senseIdx c) 0x1A 2 = true ∧
    t.nat (senseIdx c) 0x0F = 0 ∧ (t.chan c).sync = false ∧
    ((s.chan c).errLimit ≤ min (s.nat (senseIdx c) 0x1C + 1) 255 → senseStatus t c = 3 ∧
      t.flag (senseIdx c) 0x1A 5 = true) := by
  intro t
  have hsync : ((codingErrorNoted s c).chan c).sync = false := by
    rw [State.chan, codingErrorNoted_sense, getD_modAt_self _ _ _ _ hc]
  have hlen : c < (codingErrorNoted s c).sense.length := by rwa [codingErrorNoted_sense, modAt_length]
  by_cases hlimit : (s.chan c).errLimit ≤ min (s.nat (senseIdx c) 0x1C + 1) 255
  · have ht : t = senseFail (codingErrorNoted s c) c 4 := by rw [show t = _ from codingError_eq .., if_pos hlimit]
    rw [ht]
    refine ⟨?count, ?flag, senseFail_valid _ _ _, ?sync, fun _ => ⟨senseFail_status _ _ _, ?failed⟩⟩
    case count => rw [State.nat, senseFail_obj _ _ _ (by decide), ← State.nat, codingErrorNoted_count]
    case flag =>
      rw [senseFail_flag _ _ _ (by decide), codingErrorNoted_flag]
      exact Bool.true_or _
    case sync => rw [senseFail_chan hlen, hsync]
    case failed =>
      rw [senseFail_flag _ _ _ (by decide)]
      exact Bool.or_true _
  · have ht : t = codingErrorNoted s c := by rw [show t = _ from codingError_eq .., if_neg hlimit]
    rw [ht]
    exact ⟨codingErrorNoted_count s c, codingErrorNoted_flag s c, codingErrorNoted_valid s c, hsync,
      fun h => absurd h hlimit⟩

end Sys2Proof.Machine
end

section
/-! PROOF. Sense channels: bits, fast and precision results, coding errors and silence (R157 to R182). -/
namespace Sys2Proof.Machine

/-- R171: whether a channel takes bits, by its status. -/
theorem senseFeeds_of_status {s : State} {c : Nat} (h5 : s.on 5 = true) (hs : senseStatus s c = 1 ∨ senseStatus s c = 2) :
    senseFeeds s c = true := by
  rcases hs with hs | hs <;> simp [senseFeeds, h5, hs]

section
variable {c : Fin 64} {s : State} (h5 : s.on 5 = true)
include h5

/-- R174: an evaluation whose three cycles have passed reaches the consumers. -/
theorem exec_fastResult_delivered {due : Nat} {x : Int} {sat wide : Bool}
    (hf : (s.chan c).flight = some (due, x, sat, wide)) (hdue : due ≤ s.t) :
    exec (.fastResultDelivery c .delivered) s =
      .next (toConsumers (deliverFast (markWindows s c) c due x sat wide) c) := by
  change execFastResultDelivery c .delivered s = _
  simp only [execFastResultDelivery, hf]
  exact when_true (by simp [h5, hdue]) s _

/-- R180, R182: a decimation bit's precision result whose four cycles have passed is written and taken. -/
theorem exec_precisionResult_written {y : Int} {bt at' : Nat} {valid : Bool}
    (hp : (s.chan c).prec = some (at', some (y, bt), valid)) (hdue : at' ≤ s.t) :
    exec (.precisionResult c) s =
      let x := s.modChan c (fun z => { z with prec := none })
      let x := if valid then x.setBits (senseIdx c) 0x0F 2 else x
      .next (settleAll (gaugePrecision (sagCheck (pathPrecision (writePrecision x c y bt) c) c) c)) := by
  change execPrecisionResult c s = _
  simp only [execPrecisionResult, hp]
  exact when_true (by simp [h5, hdue]) s _

/-- R162: a transition is decoded where the pad has its supply. -/
theorem exec_fastResult_transition (hm : senseMode s c = 2) (hio : s.sup.vddioLow = false) (rising : Bool) :
    exec (.fastResultDelivery c (.transition rising)) s = .next (afterBit s (senseTransition s c rising) c) :=
  when_true (by simp [h5, hm, hio]) s _

variable (hs : senseStatus s c = 1 ∨ senseStatus s c = 2)
include hs

/-- R158, R159: the bit of a channel whose capture is due enters. -/
theorem exec_fastResult_captured (hd : captureDue s c = true) (bit : Bool) :
    exec (.fastResultDelivery c (.captured bit)) s =
      .next (afterBit s (senseBit s c (bit && !s.sup.vddioLow)) c) :=
  when_true (by rw [senseFeeds_of_status h5 hs, hd]; rfl) s _

section
variable (hm : senseMode s c = 2)
include hm

/-- R162, R167: no transition was accepted within 1.25 bit times. -/
theorem exec_manchesterCodingError (hsync : (s.chan c).sync = true)
    (ht : (s.chan c).taken + 5 * s.nat (senseIdx c) 3 / 4 < s.t) :
    exec (.manchesterCodingError c) s = .next (afterBit s (codingError s c) c) :=
  when_true (by simp [hm, transitionMissed, senseFeeds_of_status h5 hs, hsync, ht]) s _

/-- R166, R168: no transition came for four bit times. -/
theorem exec_streamSilence
    (ht : max ((s.chan c).edge.getD 0) (s.chan c).from' + 4 * s.nat (senseIdx c) 3 ≤ s.t) :
    exec (.streamSilence c) s = .next (afterBit s (senseFail s c 8) c) :=
  when_true (by rw [senseFeeds_of_status h5 hs, hm, decide_eq_true ht]; rfl) s _

end

/-- R162 to R164: a mid-bit transition in time enters its bit. -/
theorem senseTransition_midBit (hmissed : transitionMissed s c = false) (hmid : midBit s c = true) (rising : Bool) :
    senseTransition s c rising = senseBit ((s.modChan c (fun z => { z with edge := some s.t })).modChan c
      (fun z => { z with sync := true, taken := s.t })) c rising := by
  simp [senseTransition, hmissed, senseFeeds_of_status h5 hs, hmid]

end

/-- R163: a transition between bits leaves its time alone. -/
theorem senseTransition_between {c : Nat} {s : State} (hmissed : transitionMissed s c = false) (hmid : midBit s c = false)
    (rising : Bool) : senseTransition s c rising = s.modChan c (fun z => { z with edge := some s.t }) := by
  simp [senseTransition, hmissed, hmid]

/-- R158, R159: the cycle D after the rise of an SCK period captures a bit that was not captured yet. -/
theorem captureDue_of_place {c : Nat} {s : State} (hm : senseMode s c = 1) (hd : s.nat (senseIdx c) 2 ≤ s.t)
    (hplace : sckPlace s (c / 8) (s.t - s.nat (senseIdx c) 2) = 0)
    (hfrom : (s.chan c).from' + s.nat (senseIdx c) 2 ≤ s.t)
    (hclock : s.sckFrom.getD (c / 8) 0 + s.nat (senseIdx c) 2 ≤ s.t) (hbit : (s.chan c).bitTime ≠ s.t) :
    captureDue s c = true := by
  simp only [captureDue, hm, hplace, decide_eq_true hd, decide_eq_true hfrom, decide_eq_true hclock, bne_iff_ne.mpr hbit]
  rfl

/-- Settles O24: each event by its condition (`exec_fastResult_captured` and its companions), a bit by `senseBit_enters`, a
delivery by `deliverFast_delivers`, a coding error by `codingError_judges`. -/
theorem senseChannelsConvertBits : Obligations.SenseChannelsConvertBits := by
  unfold Obligations.SenseChannelsConvertBits
  refine ⟨fun c bit s h5 hs hm => ?captured, fun c rising s h5 hm hio hs hmissed => ?transition,
    fun c s due x sat wide h5 => exec_fastResult_delivered h5,
    fun c bit s hc hlen => senseBit_enters (hlen ▸ hc) bit,
    fun c due x sat wide s hc hlen => deliverFast_delivers (hlen ▸ hc) due x sat wide,
    fun c s y bt at' valid h5 hp hdue => exec_precisionResult_written h5 hp hdue,
    fun c s h5 hm hs => exec_manchesterCodingError h5 hs hm,
    fun c s hc hlen => codingError_judges (hlen ▸ hc),
    fun c s h5 hm hs => exec_streamSilence h5 hs hm⟩
  case captured =>
    intro d k hd hplace hfrom hclock hbit
    exact exec_fastResult_captured h5 hs (captureDue_of_place hm hd hplace hfrom hclock hbit) bit
  case transition =>
    intro x
    rw [exec_fastResult_transition h5 hm hio]
    exact ⟨fun hmid => by rw [senseTransition_midBit h5 hs hmissed hmid],
      fun hmid => by rw [senseTransition_between hmissed hmid]⟩

end Sys2Proof.Machine
end

section
/-! PROOF. Writes of SCK enables, modes, restarts and gains (R158, R161, R170, R171, R183, R191). -/
namespace Sys2Proof.Machine

theorem exec_sckEnable (k : Fin 8) (w : Wr) (s : State) :
    exec (.sckEnable k w) s = .next (accessWrite s w false (sckIdx k) 1 (sckEnableEff k)) := rfl

theorem exec_senseModeWrite (c : Fin 64) (w : Wr) (s : State) :
    exec (.senseModeWrite c w) s = .next (accessWrite s w false (senseIdx c) 1 (senseModeAll c)) := rfl

theorem exec_senseRestart (c : Fin 64) (w : Wr) (s : State) :
    exec (.senseRestart c w) s = .next (accessWrite s w false (senseIdx c) 0x0D (senseRestartAll c)) := rfl

theorem exec_gainCommit (c : Fin 64) (w : Wr) (s : State) :
    exec (.gainCommit c w) s = .next (accessWrite s w false (senseIdx c) 0x0B (gainAll c)) := rfl

/-! ### The SCK enable -/

section
variable {k : Nat} {w : Wr} (auth : Bool) {s : State}

/-- R161: 1 to a stopped group starts its clock at the next rise. -/
theorem sckEnableEff_starts (hv : w.value = 1) (hoff : s.flag (sckIdx k) 1 0 = false) : sckEnableEff k w auth s =
    (.accepted, { s.put (sckIdx k) 1 1 with sckFrom := modAt s.sckFrom k (fun _ => sckStart s k) }) := by
  simp [sckEnableEff, hv, hoff, acc]

/-- R161: 1 to a running group is stored. -/
theorem sckEnableEff_runs (hv : w.value = 1) (hon : s.flag (sckIdx k) 1 0 = true) :
    sckEnableEff k w auth s = (.accepted, s.put (sckIdx k) 1 1) := by
  simp [sckEnableEff, hv, hon, acc]

/-- R161: 0 to a group that no channel in mode 1h uses is stored. -/
theorem sckEnableEff_stops (hv : w.value = 0) (hfree : groupClocked s k = false) :
    sckEnableEff k w auth s = (.accepted, s.put (sckIdx k) 1 0) := by
  simp [sckEnableEff, hv, hfree, acc]

/-- R161: 0 to a group that a channel in mode 1h uses is discarded. -/
theorem sckEnableEff_refused (hv : w.value = 0) (hused : groupClocked s k = true) :
    sckEnableEff k w auth s = (.state, s) := if_pos ⟨hv, hused⟩

end

/-- R158: SCKk next rises in one of the N cycles that follow the present one. -/
theorem sckStart_rises {k : Nat} {s : State} (hN : 0 < s.nat (sckIdx k) 2) :
    s.t < sckStart s k ∧ sckPlace s k (sckStart s k) = 0 ∧ sckStart s k ≤ s.t + s.nat (sckIdx k) 2 := by
  obtain ⟨N, hNs⟩ : ∃ N : Int, N = s.nat (sckIdx k) 2 := ⟨_, rfl⟩
  obtain ⟨a, ha⟩ : ∃ a : Int, a = (s.nat (sckIdx k) 3 : Int) - (s.t + 1 : Nat) := ⟨_, rfl⟩
  have hpos : 0 < N := by omega
  have hnonneg : 0 ≤ a.fmod N := Int.fmod_nonneg_of_pos a hpos
  have hlt : a.fmod N < N := Int.fmod_lt_of_pos a hpos
  have hstart : (sckStart s k : Int) = s.t + 1 + a.fmod N := by
    rw [sckStart, Nat.max_eq_left hN, ← hNs, ← ha, fmod]
    omega
  have hdvd : N ∣ (sckStart s k : Int) - s.nat (sckIdx k) 3 :=
    ⟨-a.fdiv N, by linarith [Int.fmod_add_mul_fdiv a N, (by omega : a = (s.nat (sckIdx k) 3 : Int) - s.t - 1)]⟩
  refine ⟨by omega, ?place, by omega⟩
  case place =>
    rw [sckPlace, ← hNs]
    exact Int.fmod_eq_zero_of_dvd hdvd

/-! ### The mode and the restart -/

/-- R174: the consumers of channel c follow a channel that was stopped, started or restarted. -/
def channelFollowed (s : State) (c : Nat) : State := validChanged (gaugeRestart s c) c

section
variable {c : Nat} {w : Wr} (auth : Bool) {s : State}

/-- R171, R174: an accepted mode is followed by the channel's consumers. -/
theorem senseModeAll_accepted {t : State} (h : senseModeEff c w auth s = (.accepted, t)) :
    senseModeAll c w auth s = (.accepted, channelFollowed t c) := by
  simp only [senseModeAll, h]
  rfl

/-- R191: mode 0h moves a channel to stopping, and on to off when nothing is in flight. -/
theorem senseModeEff_stops (hv : w.value.toNat = 0) (hm : senseMode s c ≠ 0) : senseModeEff c w auth s =
    (.accepted, senseStopped ((((s.putN (senseIdx c) 1 0).putN (senseIdx c) 0x0E 4).putN (senseIdx c) 0x0F 0).modChan c
      (fun x => { x with prec := none })) c) := by
  simp only [senseModeEff, hv, if_neg hm]
  rfl

/-- R171: modes 1h and 2h start a channel that is off; mode 1h needs a running clock whose period is above the delay. -/
theorem senseModeEff_starts {v : Nat} (hv : w.value.toNat = v) (h : v = 1 ∨ v = 2) (hm : senseMode s c = 0)
    (hs : senseStatus s c ≠ 4)
    (hclock : v = 1 → s.flag (sckIdx (c / 8)) 1 0 = true ∧ s.nat (senseIdx c) 2 < s.nat (sckIdx (c / 8)) 2) :
    senseModeEff c w auth s = (.accepted, startAcquiring (s.putN (senseIdx c) 1 v) c) := by
  rcases h with rfl | rfl
  · obtain ⟨hon, hdelay⟩ := hclock rfl
    simp [senseModeEff, hv, hm, hs, hon, not_le.mpr hdelay, acc]
  · simp [senseModeEff, hv, hm, hs, acc]

/-- R170: a failed channel restarts. -/
theorem senseRestartAll_failed (h : senseStatus s c = 3) :
    senseRestartAll c w auth s = (.accepted, channelFollowed (startAcquiring s c) c) := by
  simp only [senseRestartAll, senseRestartEff, acc, if_pos h]
  rfl

/-- R170: a restart of a channel that has not failed is ignored. -/
theorem senseRestartAll_ignored (h : senseStatus s c ≠ 3) : senseRestartAll c w auth s = (.accepted, s) := by
  simp only [senseRestartAll, senseRestartEff, acc, if_neg h]

/-- R183: a gain is stored and committed in the present cycle, and the rails settle. -/
theorem gainAll_commits : gainAll c w auth s = (.accepted, settleAll
    (((takePair s c).put (senseIdx c) 0x0B w.value).modChan c (fun x => { x with commit := some s.t }))) := rfl

end

/-- R170, R171: a channel that starts acquires with cleared filters, its valid bits clear, and changes nothing else but its
score. -/
theorem startAcquiring_starts {s : State} {c : Nat} (hc : c < s.sense.length) :
    let t := startAcquiring s c
    senseStatus t c = 1 ∧ t.nat (senseIdx c) 0x0F = 0 ∧ (t.chan c).hist = [] ∧ (t.chan c).bits = 0 ∧
    s.keepsWords t [(senseIdx c, 0x0E), (senseIdx c, 0x0F), (senseIdx c, 0x1C)] ∧ s.keepsBytes t := by
  refine ⟨?status, ?valid, ?hist, ?bits, ?words, fun _ => rfl⟩
  case status => simp [startAcquiring, senseStatus, State.nat]
  case valid => simp [startAcquiring, State.nat]
  case hist => rw [startAcquiring_chan hc]
  case bits => rw [startAcquiring_chan hc]
  case words =>
    exact ((((State.keepsWords.refl s _).putN (by decide) (by simp) 1).putN (by decide) (by simp) 0).putN (by decide)
      (by simp) 0).of_od rfl

/-- R183: a gain written in an earlier cycle stands committed. -/
theorem pairCommitted_of_earlier {s : State} {c t0 : Nat} (h : (s.chan c).commit = some t0) (ht : t0 < s.t) :
    pairCommitted s c = true := by
  simp only [pairCommitted, h, decide_eq_true ht]

/-- Settles O25, write by write: each passes (`accessWrite_done`) and does what its effect says (`sckEnableEff_starts`,
`senseModeEff_starts` and their companions). -/
theorem senseWritesTakeEffect : Obligations.SenseWritesTakeEffect := by
  unfold Obligations.SenseWritesTakeEffect
  refine ⟨fun k w s hp => ?enable, fun k s => sckStart_rises, fun c w s hp => ?mode,
    fun c s hc hlen => startAcquiring_starts (hlen ▸ hc), fun c w s hp => ?restart, fun c w s hp => ?gain,
    fun c s t0 h ht => ?pair⟩
  case enable =>
    rw [exec_sckEnable]
    exact ⟨fun hv hoff => by rw [accessWrite_done hp (sckEnableEff_starts _ hv hoff)],
      fun hv hon => by rw [accessWrite_done hp (sckEnableEff_runs _ hv hon)],
      fun hv hfree => by rw [accessWrite_done hp (sckEnableEff_stops _ hv hfree)],
      fun hv hused => by rw [accessWrite_state hp (sckEnableEff_refused _ hv hused)]⟩
  case mode =>
    rw [exec_senseModeWrite]
    exact ⟨fun hv hm => by rw [accessWrite_done hp (senseModeAll_accepted _ (senseModeEff_stops _ hv hm))]; rfl,
      fun hv hm hs hclock => by
        rw [accessWrite_done hp (senseModeAll_accepted _ (senseModeEff_starts _ rfl hv hm hs hclock))]; rfl⟩
  case restart =>
    rw [exec_senseRestart]
    exact ⟨fun h => by rw [accessWrite_done hp (senseRestartAll_failed _ h)]; rfl,
      fun h => by rw [accessWrite_done hp (senseRestartAll_ignored _ h)]⟩
  case gain =>
    rw [exec_gainCommit, accessWrite_done hp (gainAll_commits _)]
    rfl
  case pair =>
    have hcommitted := pairCommitted_of_earlier h ht
    exact ⟨if_pos hcommitted, if_pos hcommitted⟩

end Sys2Proof.Machine
end

section
/-! PROOF. The two gate commands of a phase (R205, R236): every step keeps them apart. -/
namespace Sys2Proof.Machine

/-- Settles O6, by the gates' bit of what every step keeps (`step_moves`). -/
theorem stepKeepsGatesApart : Obligations.StepKeepsGatesApart := by
  unfold Obligations.StepKeepsGatesApart
  intro s t hs h
  exact (step_moves h).gates (by decide) hs

end Sys2Proof.Machine
end

section
/-! SUPPORT. Phases in the terms of the statements: what a phase reads as, and what the Pilot's moves, the entry of a state, the
fault record and the disable path leave of its words and commands (R202 to R242). -/
namespace Sys2Proof.Machine

/-- A phase that the state holds reads as it was changed. -/
theorem State.modPhase_phase_self {s : State} {p : Nat} (hp : p < s.phases.length) (f : Phase → Phase) :
    (s.modPhase p f).phase p = f (s.phase p) := getD_modAt_self s.phases p f {} hp

@[simp] theorem State.put_phase (s : State) (i j : Nat) (v : Word) (p : Nat) : (s.put i j v).phase p = s.phase p := rfl

@[simp] theorem State.modPhase_phases_length (s : State) (p : Nat) (f : Phase → Phase) :
    (s.modPhase p f).phases.length = s.phases.length := modAt_length _ _ _

/-! ### The Pilot -/

section
variable (s : State) (p : Nat)

theorem pilotTo_obj (st flags : Nat) {j : Nat} (hj : j ∉ [0x1A, 0x2D]) :
    (pilotTo s p st flags).obj (phaseIdx p) j = s.obj (phaseIdx p) j := by
  simp only [List.mem_cons, List.not_mem_nil, or_false, not_or] at hj
  simp [pilotTo, hj]

theorem pilotTo_phase {s : State} {p : Nat} (hp : p < s.phases.length) (st flags : Nat) :
    (pilotTo s p st flags).phase p = { s.phase p with lockRun := 0 } := State.modPhase_phase_self hp _

/-- R212, R215: settling leaves the Pilot alone, or is one change of its state, which may clear the trim and the integral. -/
theorem pilotSettle_cases : pilotSettle s p = s ∨ ∃ st flags, pilotSettle s p = pilotTo s p st flags ∨
    pilotSettle s p = ((pilotTo s p st flags).put (phaseIdx p) 0x2E 0).put (phaseIdx p) 0x2F 0 := by
  simp only [pilotSettle]
  split
  · exact .inr ⟨_, _, .inl rfl⟩
  · split
    · split
      · exact .inr ⟨_, _, .inr rfl⟩
      · exact .inr ⟨_, _, .inl rfl⟩
    · exact .inl rfl

/-- R212: a Pilot that is off stays so. -/
theorem pilotSettle_off {s : State} {p : Nat} (h : pilotState s p = 0) : pilotSettle s p = s := by
  simp [pilotSettle, h]

theorem pilotSettle_obj {j : Nat} (hj : j ∉ [0x1A, 0x2D, 0x2E, 0x2F]) :
    (pilotSettle s p).obj (phaseIdx p) j = s.obj (phaseIdx p) j := by
  simp only [List.mem_cons, List.not_mem_nil, or_false, not_or] at hj
  rcases pilotSettle_cases s p with h | ⟨st, flags, h | h⟩
  · rw [h]
  · rw [h, pilotTo_obj _ _ _ _ (by simp [hj])]
  · rw [h, ← pilotTo_obj s p st flags (by simp [hj])]
    simp [hj]

theorem pilotSettle_phase {s : State} {p : Nat} (hp : p < s.phases.length) :
    ∃ run, (pilotSettle s p).phase p = { s.phase p with lockRun := run } := by
  rcases pilotSettle_cases s p with h | ⟨st, flags, h | h⟩
  · exact ⟨(s.phase p).lockRun, by rw [h]⟩
  · exact ⟨0, by rw [h, pilotTo_phase hp]⟩
  · exact ⟨0, by rw [h]; exact pilotTo_phase hp st flags⟩

theorem pilotOff_obj {j : Nat} (hj : j ∉ [0x1A, 0x2D, 0x2E, 0x2F]) :
    (pilotOff s p).obj (phaseIdx p) j = s.obj (phaseIdx p) j := by
  simp only [List.mem_cons, List.not_mem_nil, or_false, not_or] at hj
  simp [pilotOff, pilotTo, hj]

theorem pilotOff_state : pilotState (pilotOff s p) p = 0 := by
  simp [pilotState, State.nat, pilotOff, pilotTo]

theorem pilotOff_phase {s : State} {p : Nat} (hp : p < s.phases.length) :
    (pilotOff s p).phase p = { s.phase p with lockRun := 0, clampRun := 0, clampSaid := false } := by
  rw [pilotOff, State.modPhase_phase_self (by simpa [pilotTo] using hp)]
  exact congrArg (fun x : Phase => { x with clampRun := 0, clampSaid := false }) (pilotTo_phase hp 0 0)

end

/-! ### The entry of a state -/

section
variable (s : State) (p st : Nat)

/-- R205, R206: entering a state writes its code, puts both commands at 0 with the incoming one to come, and lets the Pilot
settle; the gate-fault latch stays. -/
theorem enterPhase_settles : ∃ f : Phase → Phase,
    enterPhase s p st = pilotSettle ((s.putN (phaseIdx p) 0x17 st).modPhase p f) p ∧
    ∀ x, (f x).gh = false ∧ (f x).gl = false ∧ (f x).entry = s.t + 1 ∧ (f x).dead = incoming s p st (s.t + 1) ∧
      (f x).latch = x.latch :=
  ⟨_, rfl, fun _ => ⟨rfl, rfl, rfl, rfl, rfl⟩⟩

theorem enterPhase_obj {j : Nat} (hj : j ∉ [0x17, 0x1A, 0x2D, 0x2E, 0x2F]) :
    (enterPhase s p st).obj (phaseIdx p) j = s.obj (phaseIdx p) j := by
  rw [List.mem_cons, not_or] at hj
  obtain ⟨f, h, -⟩ := enterPhase_settles s p st
  rw [h, pilotSettle_obj _ _ hj.2]
  simp [hj.1]

/-- R236: the state entered is the state shown. -/
theorem enterPhase_state {st : Nat} (hst : st < 9) : phaseState (enterPhase s p st) p = st := by
  obtain ⟨f, h, -⟩ := enterPhase_settles s p st
  rw [phaseState, State.nat, h, pilotSettle_obj _ _ (by decide)]
  simp only [State.modPhase_obj, State.putN_obj, if_pos, BitVec.toNat_ofNat]
  omega

/-- R212: entering a state leaves a Pilot off that is off. -/
theorem enterPhase_pilot_off {s : State} {p : Nat} (h0 : pilotState s p = 0) : pilotState (enterPhase s p st) p = 0 := by
  obtain ⟨f, h, -⟩ := enterPhase_settles s p st
  have hoff : pilotState ((s.putN (phaseIdx p) 0x17 st).modPhase p f) p = 0 := by
    simpa [pilotState, State.nat] using h0
  rw [h, pilotSettle_off hoff, hoff]

/-- R205, R206: the commands, the entry and the dead time of a state entered; the latch stays. -/
theorem enterPhase_commands {s : State} {p : Nat} (hp : p < s.phases.length) :
    let x := (enterPhase s p st).phase p
    x.gh = false ∧ x.gl = false ∧ x.entry = s.t + 1 ∧ x.dead = incoming s p st (s.t + 1) ∧ x.latch = (s.phase p).latch := by
  obtain ⟨f, h, hf⟩ := enterPhase_settles s p st
  have hp' : p < ((s.putN (phaseIdx p) 0x17 st).modPhase p f).phases.length := by simpa using hp
  obtain ⟨run, hrun⟩ := pilotSettle_phase hp'
  have hset : ((s.putN (phaseIdx p) 0x17 st).modPhase p f).phase p = f (s.phase p) :=
    State.modPhase_phase_self (s := s.putN (phaseIdx p) 0x17 st) hp f
  simpa only [h, hrun, hset] using hf (s.phase p)

/-- R205: the dead time that runs before a state's command, of the states whose command the gate usage drives. -/
theorem incoming_eq (e : Nat) : incoming s p st e =
    if st = 2 ∧ gateUse s p ≠ 2 then some (e + s.nat (phaseIdx p) 5, true)
    else if st = 3 ∧ gateUse s p ≠ 1 then some (e + s.nat (phaseIdx p) 6, false) else none := by
  simp only [incoming]
  split
  case isTrue h => simp [deadTime, h.2]
  case isFalse =>
    split
    case isTrue h => simp [deadTime, h.2]
    case isFalse => rfl

end

/-! ### The fault record -/

section
variable (s : State) (p : Nat)

theorem faultRec_setRec (lo n v : Nat) : faultRec (setRec s p lo n v) p = setFieldN (faultRec s p) lo n v % 2 ^ 32 := by
  simp [faultRec, setRec, State.nat]

theorem faultRec_lt : faultRec s p < 2 ^ 32 := (s.obj (phaseIdx p) 0x18).isLt

theorem recCause_setRec_cause {c : Nat} (hc : c < 16) : recCause (setRec s p 24 4 c) p = c := by
  have hlt := faultRec_lt s p
  rw [recCause, faultRec_setRec, setFieldN, fieldN, fieldN]
  omega

theorem recCause_setRec_owner (o : Nat) : recCause (setRec s p 28 4 o) p = recCause s p := by
  have hlt := faultRec_lt s p
  rw [recCause, recCause, faultRec_setRec, setFieldN, fieldN, fieldN, fieldN]
  omega

theorem recOwner_setRec_owner {o : Nat} (ho : o < 16) : recOwner (setRec s p 28 4 o) p = o := by
  have hlt := faultRec_lt s p
  rw [recOwner, faultRec_setRec, setFieldN, fieldN, fieldN]
  omega

end

/-- R225, R229: the first fault of a switching phase that may re-arm records its cause, the owner 1h and the time, and trips the
phase. -/
theorem phaseFault_first {s : State} {p : Nat} (c : Nat) (hsw : switching (phaseState s p) = true) (hempty : recCause s p = 0)
    (howner : recOwner s p < 2) (hmode : phaseMode s p ≠ 2) (hleft : recAttempts s p < s.nat (phaseIdx p) 0x13) :
    ∃ x, x.od = ((setRec (setRec s p 24 4 c) p 28 4 1).put (phaseIdx p) 0x19 (lo32 s.now)).od ∧
      phaseFault s p c = lockOut (enterPhase x p 6) p := by
  have hrearms : ¬(recOwner s p = 2 ∨ phaseMode s p = 2 ∨ s.nat (phaseIdx p) 0x13 ≤ recAttempts s p) := by omega
  have hlive : ¬(phaseState s p = 6 ∨ phaseState s p = 7) := by
    rintro (h | h) <;> simp [switching, h] at hsw
  simp only [phaseFault, if_neg hrearms, if_neg hlive, if_neg (not_not.mpr hempty)]
  refine ⟨_, ?_, rfl⟩
  split
  · exact (startEpisodes_moves (km := 4) _ p (by decide) (Moves.refl _ _)).od rfl
  · rfl

/-- R227: a phase whose owner is not 2h is not locked out. -/
theorem lockOut_of_owner {s : State} {p : Nat} (h : recOwner s p ≠ 2) : lockOut s p = s := if_neg fun hl => h hl.2

/-! ### The disable path -/

/-- R242: a phase on its way to disabled: its record, its trip and park memory gone, its Pilot off, its mode 0h. -/
def disabling (s : State) (p : Nat) : State :=
  (pilotOff ((clearPhaseRecord s p).modPhase p
    (fun x => { x with parkMem := false, tripHi := false, tripLo := false, off := true })) p).put (phaseIdx p) 1 0

theorem disablePhase_enters {s : State} {p : Nat} (h : phaseState s p ≠ 0) :
    disablePhase s p = enterPhase (disabling s p) p 0 := if_neg h

theorem disabling_pilot (s : State) (p : Nat) : pilotState (disabling s p) p = 0 := by
  rw [pilotState, State.nat, disabling, State.put_obj_other _ _ _ _ _ _ (by simp)]
  exact pilotOff_state _ p

theorem disabling_record (s : State) (p : Nat) : (disabling s p).obj (phaseIdx p) 0x18 = 0 := by
  rw [disabling, State.put_obj_other _ _ _ _ _ _ (by simp), pilotOff_obj _ _ (by decide)]
  simp [clearPhaseRecord]

theorem disabling_latch {s : State} {p : Nat} (hp : p < s.phases.length) : ((disabling s p).phase p).latch = false := by
  have hcleared : ((clearPhaseRecord s p).phase p).latch = false :=
    congrArg Phase.latch (State.modPhase_phase_self (s := s.put (phaseIdx p) 0x18 0) hp _)
  have hp1 : p < (clearPhaseRecord s p).phases.length := by simpa [clearPhaseRecord] using hp
  rw [disabling, State.put_phase, pilotOff_phase (by simpa using hp1), State.modPhase_phase_self hp1]
  exact hcleared

/-- R236, R242: a phase that is disabled is in state and mode 0h with its Pilot off, its record, commands and latch at 0. -/
theorem disablePhase_disables {s : State} {p : Nat} (hp : p < s.phases.length) (h : phaseState s p ≠ 0) :
    let t := disablePhase s p
    phaseState t p = 0 ∧ phaseMode t p = 0 ∧ pilotState t p = 0 ∧ t.obj (phaseIdx p) 0x18 = 0 ∧
    (t.phase p).gh = false ∧ (t.phase p).gl = false ∧ (t.phase p).latch = false := by
  have hp1 : p < (disabling s p).phases.length := by
    simpa [disabling, pilotOff, pilotTo, clearPhaseRecord] using hp
  obtain ⟨hgh, hgl, -, -, hlatch⟩ := enterPhase_commands 0 hp1
  simp only [disablePhase_enters h]
  refine ⟨enterPhase_state _ p (by decide), ?mode, enterPhase_pilot_off 0 (disabling_pilot s p), ?record, hgh, hgl,
    hlatch.trans (disabling_latch hp)⟩
  case mode =>
    rw [phaseMode, State.nat, enterPhase_obj _ _ _ (by decide), disabling, State.put_obj_self]
    rfl
  case record => rw [enterPhase_obj _ _ _ (by decide), disabling_record]

end Sys2Proof.Machine
end

section
/-! PROOF. Transitions of a phase: bands, forced edges, parking and dead times (R202 to R208, R231, R232, R237). -/
namespace Sys2Proof.Machine

section
variable (p : Fin 48) (s : State)

theorem exec_phaseTransition : exec (.phaseTransition p) s =
    when (mayEnd s p && bandMet s p) s (settleAll (endState s p false)) := rfl

theorem exec_forcedEdge : exec (.forcedEdge p) s =
    when (mayEnd s p && holdPassed s p && !bandMet s p) s (settleAll (endState (countForced s p) p true)) := rfl

theorem exec_phasePark : exec (.phasePark p) s =
    when (s.on 5 && (s.phase p).park && switching (phaseState s p) && minElapsed s p && !blindDue s p &&
      (phaseState s p == fallingState s p || bandMet s p || holdPassed s p)) s (settleAll (enterPhase s p 4)) := rfl

theorem exec_phaseUnpark : exec (.phaseUnpark p) s =
    when (s.on 5 && phaseState s p == 4 && !(s.phase p).park && (s.phase p).grant) s
      (settleAll (enterPhase s p (fallingState s p))) := rfl

end

/-- R68, R205: a command whose dead time has passed goes to 1. -/
theorem exec_deadTimeEnd {p : Fin 48} {s : State} {due : Nat} {up : Bool} (h5 : s.on 5 = true)
    (hdead : (s.phase p).dead = some (due, up)) (hdue : due ≤ s.t) : exec (.deadTimeEnd p) s =
    .next (s.modPhase p (fun x => { x with gh := x.gh || up, gl := x.gl || !up, dead := none })) := by
  change execDeadTimeEnd p s = _
  simp only [execDeadTimeEnd, hdead]
  exact when_true (by simp [h5, hdue]) _ _

/-- R206, R231, R237: a switching state may end past its minimum time when neither a blind condition nor the park request of
a falling state displaces its end. -/
theorem mayEnd_of {s : State} {p : Nat} (h5 : s.on 5 = true) (hsw : switching (phaseState s p) = true)
    (hmin : minElapsed s p = true) (hblind : blindDue s p = false)
    (hpark : (s.phase p).park = false ∨ phaseState s p ≠ fallingState s p) : mayEnd s p = true := by
  have hfirst : parkFirst s p = false := by rcases hpark with h | h <;> simp [parkFirst, h]
  simp [mayEnd, h5, hsw, hmin, hblind, hfirst]

/-- R207: a forced edge without a park request is counted and flagged. -/
theorem countForced_counts {s : State} {p : Nat} (h : (s.phase p).park = false) :
    countForced s p = (s.bump (phaseIdx p) 0x1E 16).setBits (phaseIdx p) 0x1A 4 := by simp [countForced, h]

/-- R231: a park request takes the place of a forced edge. -/
theorem countForced_parks {s : State} {p : Nat} (h : (s.phase p).park = true) : countForced s p = s := if_pos h

theorem risingState_lt (s : State) (p : Nat) : risingState s p < 9 := by unfold risingState; split <;> decide

theorem fallingState_lt (s : State) (p : Nat) : fallingState s p < 9 := by unfold fallingState; split <;> decide

/-- R204: without a park request the rising state is followed by the falling one. -/
theorem endState_rising {s : State} {p : Nat} (forced : Bool) (hpark : (s.phase p).park = false)
    (h : phaseState s p = risingState s p) : phaseState (endState s p forced) p = fallingState s p := by
  rw [endState, if_pos h, if_neg (by simp [hpark])]
  exact enterPhase_state _ p (fallingState_lt s p)

/-- R204: any other state that ends is followed by the rising one. -/
theorem endState_falling {s : State} {p : Nat} (forced : Bool) (h : phaseState s p ≠ risingState s p) :
    phaseState (endState s p forced) p = risingState s p := by
  rw [endState, if_neg h]
  exact enterPhase_state _ p (risingState_lt s p)

/-- Settles O26: a state ends where it may (`mayEnd_of`) and is followed as `endState_rising` and `endState_falling` say; parking
by its condition, the entry of a state by `enterPhase_commands` and `incoming_eq`. -/
theorem phasesSwitchByTheirBands : Obligations.PhasesSwitchByTheirBands := by
  unfold Obligations.PhasesSwitchByTheirBands
  refine ⟨fun p s h5 hsw hmin hblind hpark => ?ends, fun p forced s _ _ hpark => ?follows,
    fun p s h5 hpark hsw hmin hblind hend => ?park, fun p s h5 h4 hpark hgrant => ?unpark, fun p st s hp hlen hst => ?entry,
    fun p s due up h5 hdead hdue => exec_deadTimeEnd h5 hdead hdue⟩
  case ends =>
    have hmay := mayEnd_of h5 hsw hmin hblind hpark
    refine ⟨fun hband => ?band, fun hband hhold => ?forced⟩
    case band =>
      rw [exec_phaseTransition]
      exact when_true (by simp [hmay, hband]) _ _
    case forced =>
      rw [exec_forcedEdge, when_true (by simp [hmay, hhold, hband])]
      exact ⟨fun h => by rw [countForced_counts h], fun h => by rw [countForced_parks h]⟩
  case follows => exact ⟨endState_rising forced hpark, endState_falling forced⟩
  case park =>
    have hplace : (phaseState s p == fallingState s p || bandMet s p || holdPassed s p) = true := by
      simpa [or_assoc] using hend
    rw [exec_phasePark]
    exact when_true (by simp [h5, hpark, hsw, hmin, hblind, hplace]) _ _
  case unpark =>
    rw [exec_phaseUnpark]
    exact when_true (by simp [h5, h4, hpark, hgrant]) _ _
  case entry =>
    obtain ⟨hgh, hgl, hentry, hdead, -⟩ := enterPhase_commands (s := s) (p := p) st (by omega)
    exact ⟨enterPhase_state s p hst, hgh, hgl, hentry, hdead.trans (incoming_eq s p st _)⟩

end Sys2Proof.Machine
end

section
/-! PROOF. Gate faults, trips and re-arming (R218 to R230). -/
namespace Sys2Proof.Machine

/-! ### The gate fault -/

section
variable (p : Fin 48) (s : State)

/-- R218: a low level of 10 ns or more sets the latch. -/
theorem exec_gateFaultInput_long {ns : Nat} (h : 10 ≤ ns) : exec (.gateFaultInput p ns) s =
    .next (latchGateFault (s.modPhase p (fun x => { x with gf := false })) p) := if_pos h

/-- R218: a low level below 2 ns does nothing. -/
theorem exec_gateFaultInput_short {ns : Nat} (h : ns < 2) : exec (.gateFaultInput p ns) s = .next s := by
  change execGateFaultInput p ns s = _
  rw [execGateFaultInput, if_neg (by omega), if_neg (by omega)]

/-- R220: between, a free bit decides. -/
theorem exec_gateFaultInput_between {ns : Nat} (h2 : 2 ≤ ns) (h10 : ns < 10) : exec (.gateFaultInput p ns) s =
    .next (if s.freshWord.1.getLsbD 0 then latchGateFault s.freshWord.2 p else s.freshWord.2) := by
  change execGateFaultInput p ns s = _
  rw [execGateFaultInput, if_neg (by omega), if_pos h2]

theorem exec_gateFaultSeen : exec (.gateFaultSeen p) s =
    when (s.on 5 && (s.phase p).unseen && decide ((s.phase p).latchAt < s.t)) s
      (settleAll (phaseFault (phaseReport (((s.modPhase p (fun x => { x with unseen := false })).bump (phaseIdx p) 0x20 16
        ).setBits (phaseIdx p) 0x1A 2) p .uc) p 3)) := rfl

theorem exec_gateRelease : exec (.gateRelease p) s =
    when (!(s.phase p).gf && !s.sup.vddioLow) s
      (if s.on 5 then settleAll (idleCheck (s.modPhase p (fun x => { x with gf := true, gfSince := s.t })) p)
        else s.modPhase p (fun x => { x with gf := true, gfSince := s.t })) := rfl

end

/-- R218: a gate fault of a phase that is not disabled stands latched. -/
theorem latchGateFault_latches {s : State} {p : Nat} (hp : p < s.phases.length) (h : phaseState s p ≠ 0) :
    ((latchGateFault s p).phase p).latch = true := by
  unfold latchGateFault
  split
  case isTrue hset => exact hset.resolve_left h
  case isFalse => rw [State.modPhase_phase_self hp]

/-- R218: a latched gate fault holds both gate commands off. -/
theorem gates_low_of_latch {s : State} {p : Nat} (h : (s.phase p).latch = true) :
    gateHigh s p = false ∧ gateLow s p = false := by simp [gateHigh, gateLow, h]

/-- R225, R229: the first fault of a switching phase that may re-arm trips it and records its cause, owner and time. -/
theorem phaseFault_trips {s : State} {p c : Nat} (hc : c < 16) (hsw : switching (phaseState s p) = true)
    (hempty : recCause s p = 0) (howner : recOwner s p < 2) (hmode : phaseMode s p ≠ 2)
    (hleft : recAttempts s p < s.nat (phaseIdx p) 0x13) :
    let t := phaseFault s p c
    phaseState t p = 6 ∧ recCause t p = c ∧ recOwner t p = 1 ∧ t.obj (phaseIdx p) 0x19 = lo32 s.now := by
  obtain ⟨x, hod, hx⟩ := phaseFault_first c hsw hempty howner hmode hleft
  have hrec : faultRec (enterPhase x p 6) p = faultRec (setRec (setRec s p 24 4 c) p 28 4 1) p := by
    rw [faultRec, State.nat, enterPhase_obj _ _ _ (by decide), obj_of_od hod, State.put_obj_other _ _ _ _ _ _ (by simp)]
    rfl
  have hown : recOwner (enterPhase x p 6) p = 1 := by
    rw [recOwner, hrec]
    exact recOwner_setRec_owner _ p (by decide)
  have hcause : recCause (enterPhase x p 6) p = c := by
    rw [recCause, hrec]
    exact (recCause_setRec_owner _ p 1).trans (recCause_setRec_cause s p hc)
  simp only [hx, lockOut_of_owner (show recOwner (enterPhase x p 6) p ≠ 2 by omega)]
  refine ⟨enterPhase_state x p (by decide), hcause, hown, ?time⟩
  case time => rw [enterPhase_obj _ _ _ (by decide), obj_of_od hod, State.put_obj_self]

/-! ### Re-arming -/

section
variable (p : Fin 48) (s : State)

theorem exec_phaseRearm : exec (.phaseRearm p) s =
    when (s.on 5 && phaseState s p == 6 && recOwner s p == 1 &&
      decide ((s.phase p).entry + cyclesUs (s.nat (phaseIdx p) 0x12) ≤ s.t) && rearmReady s p &&
      !(membershipsOf s p).any (fun m => takeoverDue s m.1 m.2)) s
    (settleAll (resumePhase ((setRec (setRec s p 16 8 (min 255 (recAttempts s p + 1))) p 24 4 0).modPhase p (fun x => { x with
      latch := false, unseen := false, window := true, ran := 0, ranFrom := none })) p)) := rfl

theorem exec_rearmWindowExpiry : exec (.rearmWindowExpiry p) s =
    when (s.on 5 && (s.phase p).window && decide (cyclesMs (s.nat (phaseIdx p) 0x14) ≤ ranUntil (s.phase p) s.t)) s
    (settleAll ((setRec (setRec s p 16 8 0) p 28 4 0).modPhase p (fun x => { x with
      window := false, ran := 0, ranFrom := none }))) := rfl

theorem exec_rearmCommand (w : Wr) : exec (.rearmCommand p w) s =
    .next (accessWrite s w false (phaseIdx p) 0x16 (rearmCommandEff p)) := rfl

end

/-- R230: the re-arm command of a tripped or locked-out phase clears its record and resumes it. -/
theorem rearmCommandEff_resumes {p : Nat} {w : Wr} (auth : Bool) {s : State} (h : phaseState s p = 6 ∨ phaseState s p = 7)
    (hready : rearmReady s p = true) :
    rearmCommandEff p w auth s = (.accepted, settleAll (resumePhase (clearPhaseRecord s p) p)) := if_pos ⟨h, hready⟩

/-- Settles O27: the pulse by its length, the latch by `latchGateFault_latches`, the trip by `phaseFault_trips`, and the events of
release and re-arm under their conditions (`when_true`). -/
theorem gateFaultsTripAndRearm : Obligations.GateFaultsTripAndRearm := by
  unfold Obligations.GateFaultsTripAndRearm
  refine ⟨fun p ns s => ⟨exec_gateFaultInput_long p s, exec_gateFaultInput_short p s, exec_gateFaultInput_between p s⟩,
    fun p s hp hlen hstate => ?latch, fun p s h5 hunseen hat => ?seen,
    fun p c s _ _ hc hsw hempty howner hmode hleft => phaseFault_trips hc hsw hempty howner hmode hleft,
    fun p s hgf hio => ?release, fun p s h5 hstate howner hdelay hready hrail => ?rearm, fun p s h5 hwindow hran => ?window,
    fun p w s hp hstate hready => ?command⟩
  case latch =>
    have hlatch := latchGateFault_latches (hlen ▸ hp) hstate
    exact ⟨hlatch, gates_low_of_latch hlatch⟩
  case seen =>
    rw [exec_gateFaultSeen]
    exact when_true (by simp [h5, hunseen, hat]) _ _
  case release =>
    rw [exec_gateRelease, when_true (by simp [hgf, hio])]
    exact ⟨fun h5 => by rw [if_pos h5], fun h5 => by rw [if_neg (by simp [h5])]⟩
  case rearm =>
    have hdue : (s.phase p).entry + cyclesUs (s.nat (phaseIdx p) 0x12) ≤ s.t := hdelay
    have hfree : (membershipsOf s p).any (fun m => takeoverDue s m.1 m.2) = false := by simpa using hrail
    rw [exec_phaseRearm]
    exact when_true (by simp [h5, hstate, howner, hdue, hready, hfree]) _ _
  case window =>
    have hclean : cyclesMs (s.nat (phaseIdx p) 0x14) ≤ ranUntil (s.phase p) s.t := hran
    rw [exec_rearmWindowExpiry]
    exact when_true (by simp [h5, hwindow, hclean]) _ _
  case command => rw [exec_rearmCommand, accessWrite_done hp (rearmCommandEff_resumes _ hstate hready)]

end Sys2Proof.Machine
end

section
/-! PROOF. Writes of a phase's mode, manual commands and Pilot enable, and the slot angle (R212, R213, R234, R238, R242, R243). -/
namespace Sys2Proof.Machine

theorem exec_phaseModeWrite (p : Fin 48) (w : Wr) (s : State) :
    exec (.phaseModeWrite p w) s = .next (accessWrite s w false (phaseIdx p) 1 (phaseModeEff p)) := rfl

theorem exec_manualCommandsWrite (p : Fin 48) (w : Wr) (s : State) :
    exec (.manualCommandsWrite p w) s = .next (accessWrite s w false (phaseIdx p) 0x1C (manualEff p)) := rfl

theorem exec_pilotEnable (p : Fin 48) (w : Wr) (s : State) :
    exec (.pilotEnable p w) s = .next (accessWrite s w false (phaseIdx p) 0x23 (pilotEnableEff p)) := rfl

section
variable {p : Nat} {w : Wr} (auth : Bool) {s : State}

/-- R242: mode 0h takes the disable path. -/
theorem phaseModeEff_disables (hv : w.value.toNat = 0) :
    phaseModeEff p w auth s = (.accepted, settleAll (disablePhase s p)) := by
  simp only [phaseModeEff, hv]
  rfl

/-- R238: another mode takes an admitted phase out of disabled, manual mode only a phase of no running rail. -/
theorem phaseModeEff_leaves (hv : w.value.toNat ≠ 0) (hstate : phaseState s p = 0) (hadm : s.phaseAdmitted p = true)
    (hrail : w.value.toNat = 2 → memberOf s p = none) :
    phaseModeEff p w auth s = (.accepted, settleAll (leaveDisabled s p w.value.toNat)) := by
  have hfree : ¬(phaseState s p ≠ 0 ∨ s.phaseAdmitted p = false ∨ (w.value.toNat = 2 ∧ (memberOf s p).isSome)) := by
    rintro (h | h | ⟨h2, h⟩)
    · exact h hstate
    · simp [hadm] at h
    · simp [hrail h2] at h
  simp only [phaseModeEff]
  split
  case isTrue h => exact absurd h hfree
  case isFalse => rfl

/-- R238: another mode of a phase that is not disabled is discarded. -/
theorem phaseModeEff_refused (hv : w.value.toNat ≠ 0) (hstate : phaseState s p ≠ 0) :
    phaseModeEff p w auth s = (.state, s) := by
  simp only [phaseModeEff]
  split
  case isTrue => rfl
  case isFalse h => exact absurd (.inl hstate) h

/-- R234: manual commands other than 11b are stored, and in manual put in force. -/
theorem manualEff_stores (hv : w.value.toNat % 4 ≠ 3) : manualEff p w auth s = (.accepted,
    if phaseState s p = 8 then manualCommands (s.store (phaseIdx p) 0x1C w.value) p (w.value.toNat % 4)
      else s.store (phaseIdx p) 0x1C w.value) := if_neg hv

/-- R212: a Pilot that is disabled goes off. -/
theorem pilotEnableEff_off (hv : w.value = 0) :
    pilotEnableEff p w auth s = (.accepted, pilotOff (s.put (phaseIdx p) 0x23 w.value) p) := if_pos hv

/-- R212: a Pilot that was off acquires, or holds while its phase does not switch. -/
theorem pilotEnableEff_starts (hv : w.value ≠ 0) (hoff : pilotState s p = 0) : pilotEnableEff p w auth s = (.accepted,
    pilotSettle (pilotTo (s.put (phaseIdx p) 0x23 w.value) p (if switching (phaseState s p) then 2 else 1) 0) p) := by
  rw [pilotEnableEff, if_neg hv, if_pos hoff]
  rfl

end

/-! ### The slot angle -/

/-- R212: a crossing of the slot angle, kept with its time. -/
def slotCrossed (s : State) (p : Nat) : State := s.modPhase p (fun x => { x with crossed := true, crossedAt := some s.t })

/-- R212, R213: a new forward crossing is kept, and one without a leading edge since the one before is a missing edge. -/
theorem exec_missingEdge {p : Fin 48} {s : State} (h5 : s.on 5 = true)
    (hcross : crossesFwd (s.wheel (s.nat (phaseIdx p) 0x2B)).prevAngle (s.wheel (s.nat (phaseIdx p) 0x2B)).angle
      (s.obj (phaseIdx p) 0x2C) = true) (hnew : (s.phase p).crossedAt ≠ some s.t) :
    exec (.missingEdge p) s =
      .next (if (s.phase p).crossed && switching (phaseState s p) && (pilotState s p == 2 || pilotState s p == 3) then
        pilotTo ((slotCrossed s p).bump (phaseIdx p) 0x31 16) p 2 (lostIfLocked s p) else slotCrossed s p) :=
  when_true (by simp [h5, hcross, hnew]) _ _

/-- Settles O28: each write passes (`accessWrite_done`) and does what its effect says (`phaseModeEff_leaves` and its companions),
the disable path by `disablePhase_disables`, the crossing by `exec_missingEdge`. -/
theorem phaseModeAndPilot : Obligations.PhaseModeAndPilot := by
  unfold Obligations.PhaseModeAndPilot
  refine ⟨fun p w s hp => ?mode, fun p s hp hlen hstate => disablePhase_disables (hlen ▸ hp) hstate, fun p w s hp => ?manual,
    fun p w s hp => ?pilot, fun p s h5 hcross hnew => ?edge⟩
  case mode =>
    rw [exec_phaseModeWrite]
    exact ⟨fun hv => by rw [accessWrite_done hp (phaseModeEff_disables _ hv)],
      fun hv hstate hadm hrail => by rw [accessWrite_done hp (phaseModeEff_leaves _ hv hstate hadm hrail)]; rfl,
      fun hv hstate => by rw [accessWrite_state hp (phaseModeEff_refused _ hv hstate)]⟩
  case manual =>
    intro i v hv
    rw [exec_manualCommandsWrite, accessWrite_done hp (manualEff_stores _ hv)]
    rfl
  case pilot =>
    rw [exec_pilotEnable]
    exact ⟨fun hv => by rw [accessWrite_done hp (pilotEnableEff_off _ hv)]; rfl,
      fun hv hoff => by rw [accessWrite_done hp (pilotEnableEff_starts _ hv hoff)]; rfl⟩
  case edge =>
    rw [exec_missingEdge h5 hcross hnew]
    refine ⟨fun hkept => ?kept, fun hcrossed hsw hpilot => ?missing⟩
    case kept =>
      have hno : ((s.phase p).crossed && switching (phaseState s p) &&
          (pilotState s p == 2 || pilotState s p == 3)) = false := by
        rcases hkept with h | h | h
        · simp [h]
        · simp [h]
        · simp [show pilotState s p ≠ 2 by omega, show pilotState s p ≠ 3 by omega]
      rw [hno]
      rfl
    case missing =>
      have hmiss : ((s.phase p).crossed && switching (phaseState s p) &&
          (pilotState s p == 2 || pilotState s p == 3)) = true := by
        simp [hcrossed, hsw, hpilot]
      rw [hmiss]
      rfl

end Sys2Proof.Machine
end

section
/-! SUPPORT. Rails in the terms of the statements: fields of a word, words that a fold writes, and what the operations on units
write and leave alone (R249 to R285). -/
namespace Sys2Proof.Machine

/-! ### Fields of a word -/

section
variable (v lo n x : Nat)

/-- A word with a field replaced is what stands above the field, the field, and what stands below it. -/
theorem setFieldN_parts : setFieldN v lo n x = (v / 2 ^ lo / 2 ^ n * 2 ^ n + x % 2 ^ n) * 2 ^ lo + v % 2 ^ lo := by
  have hword := Nat.div_add_mod' v (2 ^ lo)
  have hupper := Nat.div_add_mod' (v / 2 ^ lo) (2 ^ n)
  have hsplit : v = v / 2 ^ lo / 2 ^ n * 2 ^ n * 2 ^ lo + v / 2 ^ lo % 2 ^ n * 2 ^ lo + v % 2 ^ lo := by
    rw [← Nat.add_mul, hupper, hword]
  rw [setFieldN, fieldN, Nat.add_mul]
  omega

/-- What stands below the field stays. -/
theorem setFieldN_mod : setFieldN v lo n x % 2 ^ lo = v % 2 ^ lo := by
  rw [setFieldN_parts, Nat.mul_add_mod', Nat.mod_mod]

theorem setFieldN_div : setFieldN v lo n x / 2 ^ lo = v / 2 ^ lo / 2 ^ n * 2 ^ n + x % 2 ^ n := by
  rw [setFieldN_parts, Nat.add_comm, Nat.add_mul_div_right _ _ (Nat.two_pow_pos lo),
    Nat.div_eq_of_lt (Nat.mod_lt _ (Nat.two_pow_pos lo)), Nat.zero_add]

/-- What stands above the field stays. -/
theorem setFieldN_div_above : setFieldN v lo n x / 2 ^ (lo + n) = v / 2 ^ (lo + n) := by
  rw [Nat.pow_add, ← Nat.div_div_eq_div_mul, ← Nat.div_div_eq_div_mul, setFieldN_div, Nat.add_comm,
    Nat.add_mul_div_right _ _ (Nat.two_pow_pos n), Nat.div_eq_of_lt (Nat.mod_lt _ (Nat.two_pow_pos n)), Nat.zero_add]

/-- The field reads as it was set. -/
theorem fieldN_setFieldN_self : fieldN (setFieldN v lo n x) lo n = x % 2 ^ n := by
  rw [fieldN, setFieldN_div, Nat.mul_add_mod', Nat.mod_mod]

end

/-- A field that ends below or begins above the field that is set stays. -/
theorem fieldN_setFieldN_other (v x : Nat) {lo n lo' n' : Nat} (h : lo' + n' ≤ lo ∨ lo + n ≤ lo') :
    fieldN (setFieldN v lo n x) lo' n' = fieldN v lo' n' := by
  rcases h with h | h
  · have hdvd : 2 ^ lo' * 2 ^ n' ∣ 2 ^ lo := by
      rw [← Nat.pow_add]
      exact Nat.pow_dvd_pow 2 h
    rw [fieldN, fieldN, ← Nat.mod_mul_right_div_self, ← Nat.mod_mul_right_div_self, ← Nat.mod_mod_of_dvd _ hdvd,
      setFieldN_mod, Nat.mod_mod_of_dvd _ hdvd]
  · obtain ⟨k, rfl⟩ := Nat.exists_eq_add_of_le h
    rw [fieldN, fieldN, Nat.pow_add, ← Nat.div_div_eq_div_mul, ← Nat.div_div_eq_div_mul, setFieldN_div_above]

/-- A field that lies within a word leaves it within the word. -/
theorem setFieldN_lt {v lo n x m : Nat} (hv : v < 2 ^ m) (h : lo + n ≤ m) : setFieldN v lo n x < 2 ^ m := by
  obtain ⟨k, rfl⟩ := Nat.exists_eq_add_of_le h
  rw [Nat.pow_add, Nat.mul_comm] at hv ⊢
  rw [← Nat.div_lt_iff_lt_mul (Nat.two_pow_pos _)] at hv ⊢
  rwa [setFieldN_div_above]

/-! ### Folds over object words -/

/-- What every step of a fold keeps, the fold keeps. -/
theorem foldl_keeps {α β : Type} (g : State → β) {l : List α} {f : State → α → State}
    (h : ∀ a ∈ l, ∀ s, g (f s a) = g s) (s : State) : g (l.foldl f s) = g s :=
  List.foldlRecOn l f (motive := fun t => g t = g s) rfl fun t ht a ha => (h a ha t).trans ht

/-- The words c + a of an object, for each a of a list, hold what a fold writes there. -/
theorem foldl_put_obj {i c : Nat} (v : Nat → Word) {l : List Nat} {a : Nat} (ha : a ∈ l) (s : State) :
    (l.foldl (fun s a => s.put i (c + a) (v a)) s).obj i (c + a) = v a := by
  induction l using List.reverseRecOn with
  | nil => cases ha
  | append_singleton l b ih =>
    rw [List.foldl_concat]
    by_cases hab : a = b
    · rw [hab, State.put_obj_self]
    · rw [State.put_obj_other _ _ _ _ _ _ (by simpa using hab)]
      exact ih (by simpa [hab] using ha)

/-- Every other word stays. -/
theorem foldl_put_obj_other {i c x y : Nat} (v : Nat → Word) {l : List Nat} (h : ∀ a ∈ l, objKey x y ≠ objKey i (c + a))
    (s : State) : (l.foldl (fun s a => s.put i (c + a) (v a)) s).obj x y = s.obj x y :=
  foldl_keeps (fun s => s.obj x y) (fun a ha s => State.put_obj_other s i (c + a) (v a) x y (h a ha)) s

theorem State.nat_lt (s : State) (i j : Nat) : s.nat i j < 2 ^ 32 := (s.obj i j).isLt

theorem State.nat_eq_of_obj {s t : State} {i j x y : Nat} (h : t.obj x y = s.obj i j) : t.nat x y = s.nat i j :=
  congrArg BitVec.toNat h

/-! ### Rails and units -/

/-- A rail that the state holds reads as it was changed. -/
theorem State.modRail_rail_self {s : State} {r : Nat} (hr : r < s.rails.length) (f : Rail → Rail) :
    (s.modRail r f).rail r = f (s.rail r) := getD_modAt_self s.rails r f {} hr

/-- Words of different objects of a rail differ. -/
theorem objKey_ne_of_object {a b y j : Nat} (hy : y < 256) (hj : j < 256) (h : a ≠ b) : objKey a y ≠ objKey b j := fun e =>
  h (objKey_inj hy hj e).1

/-- R249, R250: the members of a unit depend on the kind and the member count alone. -/
theorem unitMembers_congr {s t : State} {r : Nat} (hkind : t.obj (railIdx r) 2 = s.obj (railIdx r) 2)
    (hcount : t.obj (railIdx r + 1) 1 = s.obj (railIdx r + 1) 1) (u : Nat) : unitMembers t r u = unitMembers s r u := by
  have hk : railKind t r = railKind s r := State.nat_eq_of_obj hkind
  have hg : railGroups t r = railGroups s r := by rw [railGroups, railGroups, hk]
  have hc : memberCount t r = memberCount s r := State.nat_eq_of_obj hcount
  simp only [unitMembers, unitOf, hg, hc]

theorem lt_memberCount_of_mem {s : State} {r u i : Nat} (h : i ∈ unitMembers s r u) : i < memberCount s r := by
  rw [unitMembers, List.mem_filter, List.mem_range] at h
  exact h.1

section
variable (s : State) (r u : Nat)

/-- R281: a park request is no object word. -/
@[simp] theorem setUnitPark_obj (b : Bool) (x y : Nat) : (setUnitPark s r u b).obj x y = s.obj x y :=
  foldl_keeps (fun s => s.obj x y) (f := fun s i => setPark s (memberPhase s r i) b) (fun _ _ _ => rfl) _

/-- R279: the weight of a unit is the weight of its members. -/
theorem setUnitWeight_weight (w : Nat) {i : Nat} (hi : i ∈ unitMembers s r u) :
    (setUnitWeight s r u w).obj (railIdx r + 6) (1 + i) = BitVec.ofNat 32 w :=
  foldl_put_obj (fun _ => BitVec.ofNat 32 w) hi s

/-- R279: a unit's weight is kept in object B + 6h of its rail, and every word of a lower object stays. -/
theorem setUnitWeight_obj_below (w : Nat) {k y : Nat} (hk : k < 6) (hy : y < 256) :
    (setUnitWeight s r u w).obj (railIdx r + k) y = s.obj (railIdx r + k) y :=
  foldl_put_obj_other (fun _ => BitVec.ofNat 32 w) (fun _ _ => by unfold objKey; omega) s

/-- R281: the codes of a unit's members, set. -/
def setUnitCode (st : Nat) : State :=
  (unitMembers s r u).foldl (fun s i =>
    s.putN (railIdx r + 4) 0x13 (setFieldN (s.nat (railIdx r + 4) 0x13) (2 * i) 2 st)) s

theorem setUnitCode_obj_other (st : Nat) {x y : Nat} (h : objKey x y ≠ objKey (railIdx r + 4) 0x13) :
    (setUnitCode s r u st).obj x y = s.obj x y :=
  foldl_keeps (fun s => s.obj x y) (fun _ _ s => by rw [State.putN_obj, if_neg h]) s

end

/-- The codes of members below 16, set one after the other: each reads as it was set. -/
theorem foldl_setFieldN_code {i j st : Nat} (hst : st < 4) {l : List Nat} (hl : ∀ a ∈ l, a < 16) {a : Nat} (ha : a ∈ l)
    (s : State) :
    fieldN ((l.foldl (fun s a => s.putN i j (setFieldN (s.nat i j) (2 * a) 2 st)) s).nat i j) (2 * a) 2 = st := by
  induction l using List.reverseRecOn with
  | nil => cases ha
  | append_singleton l b ih =>
    have hb : b < 16 := hl b (by simp)
    rw [List.foldl_concat, State.nat, State.putN_obj, if_pos rfl, BitVec.toNat_ofNat,
      Nat.mod_eq_of_lt (setFieldN_lt (State.nat_lt _ _ _) (by omega))]
    by_cases hab : a = b
    · rw [hab, fieldN_setFieldN_self]
      exact Nat.mod_eq_of_lt hst
    · rw [fieldN_setFieldN_other _ _ (by omega)]
      exact ih (fun c hc => hl c (by simp [hc])) (by simpa [hab] using ha)

/-- R281: the members' codes of a unit that enters a state read that state. -/
theorem setUnitCode_code {s : State} {r u st : Nat} (hst : st < 4) (hcount : memberCount s r ≤ 16) {i : Nat}
    (hi : i ∈ unitMembers s r u) : fieldN ((setUnitCode s r u st).nat (railIdx r + 4) 0x13) (2 * i) 2 = st :=
  foldl_setFieldN_code hst (fun _ ha => Nat.lt_of_lt_of_le (lt_memberCount_of_mem ha) hcount) hi s

/-- R281: entering a state sets the members' codes, schedules the ramp and the dwell, and then parks a unit that sheds, at
weight 0, or releases its park request, but in TAPER. -/
theorem enterUnit_cases (s : State) (r u st : Nat) : ∃ f : Rail → Rail,
    let t := (setUnitCode s r u st).modRail r f
    enterUnit s r u st =
      if st = 0 then setUnitPark (setUnitWeight t r u 0) r u true else if st = 3 then t else setUnitPark t r u false :=
  ⟨_, rfl⟩

/-- R281: entering a state leaves a rail's words below B + 6h alone, but for the unit states. -/
theorem enterUnit_obj_below (s : State) (r u st : Nat) {k y : Nat} (hk : k < 6) (hy : y < 256) :
    (enterUnit s r u st).obj (railIdx r + k) y = (setUnitCode s r u st).obj (railIdx r + k) y := by
  obtain ⟨f, h⟩ := enterUnit_cases s r u st
  rw [h]
  split
  · rw [setUnitPark_obj, setUnitWeight_obj_below _ _ _ _ hk hy, State.modRail_obj]
  · split
    · rw [State.modRail_obj]
    · rw [setUnitPark_obj, State.modRail_obj]

theorem enterUnit_status (s : State) (r u st : Nat) : railStatus (enterUnit s r u st) r = railStatus s r :=
  State.nat_eq_of_obj ((enterUnit_obj_below s r u st (k := 0) (by decide) (by decide)).trans
    (setUnitCode_obj_other s r u st (by unfold objKey; omega)))

/-- R281: a unit that sheds has weight 0. -/
theorem enterUnit_shed_weight (s : State) (r u : Nat) {i : Nat} (hi : i ∈ unitMembers s r u) :
    weightOf (enterUnit s r u 0) r i = 0 := by
  obtain ⟨f, h⟩ := enterUnit_cases s r u 0
  have hmem : i ∈ unitMembers ((setUnitCode s r u 0).modRail r f) r u := by
    rwa [unitMembers_congr (s := s)]
    · exact setUnitCode_obj_other s r u 0 (by unfold objKey; omega)
    · exact setUnitCode_obj_other s r u 0 (by unfold objKey; omega)
  rw [h, if_pos rfl, weightOf, State.nat, setUnitPark_obj, setUnitWeight_weight _ _ _ _ hmem]
  rfl

end Sys2Proof.Machine
end

section
/-! PROOF. Rails start, stop and wind down (R254, R255, R257, R258, R706). -/
namespace Sys2Proof.Machine

theorem exec_railStart (r : Fin 12) (w : Wr) (s : State) :
    exec (.railStart r w) s = .next (accessWrite s w false (railIdx r) 1 (railModeEff r)) := rfl

theorem exec_railStop (r : Fin 12) (w : Wr) (s : State) :
    exec (.railStop r w) s = .next (accessWrite s w false (railIdx r) 1 (railModeEff r)) := rfl

theorem exec_railWindDown (r : Fin 12) (w : Wr) (s : State) :
    exec (.railWindDown r w) s = .next (accessWrite s w false (railIdx r) 1 (railModeEff r)) := rfl

/-! ### Starts -/

/-- R254: a start with no failing condition takes place. -/
theorem tryStart_starts {s : State} {r : Nat} (hh : inHarbour s = false) (hc : startCode s r = 0) :
    tryStart s r = (true, startRail s r) := by
  simp [tryStart, hh, hc]

/-- R254: a start that fails shows the code of its first failing condition. -/
theorem tryStart_fails {s : State} {r : Nat} (hh : inHarbour s = false) (hc : startCode s r ≠ 0) :
    tryStart s r = (false, railFlag (s.putN (railIdx r) 0x0A (startCode s r)) r 1) := by
  simp only [tryStart, hh, Bool.false_eq_true, if_false]

/-- R254: what code 0 rules out, condition by condition. -/
theorem startCode_zero {s : State} {r : Nat} (h : startCode s r = 0) :
    countAccepted (railKind s r) (memberCount s r) = true ∧
    (∀ p ∈ railMembers s r, s.phaseAdmitted p = true ∧ phaseMode s p = 1) ∧ wheelMode s (s.nat (railIdx r) 3) ≠ 0 ∧
    availUnits s r ≠ [] ∧ pathAllows s r = true := by
  simp only [startCode] at h
  split_ifs at h with hcount hmembers hshared hslots hwheel hunits hpath
  refine ⟨by simpa using hcount, fun p hp => ?member, fun h0 => hwheel (.inl h0), fun h0 => hunits (.inl (by simp [h0])),
    by simpa using hpath⟩
  case member =>
    have hfit := List.any_eq_false.mp (eq_false_of_ne_true hmembers) p hp
    simpa using hfit

/-! ### The mode written -/

section
variable {r : Nat} {w : Wr} (auth : Bool) {s : State}

/-- R257: mode 0h stops the rail. -/
theorem railModeEff_stops (hv : w.value.toNat = 0) :
    railModeEff r w auth s = (.accepted, settleAll (stopRail s r)) := by
  simp only [railModeEff, hv, acc]

section
variable (hv : w.value.toNat = 1)
include hv

/-- R706: no rail starts in Harbour. -/
theorem railModeEff_start_harbour (hh : inHarbour s = true) : railModeEff r w auth s = (.state, s) := by
  simp only [railModeEff, hv, hh, if_true, rej]

variable (hh : inHarbour s = false)
include hh

/-- R254, R255: mode 1h starts a stopped rail with no failing condition. -/
theorem railModeEff_starts (hst : railStatus s r = 0) (hc : startCode s r = 0) :
    railModeEff r w auth s = (.accepted, settleAll (startRail s r)) := by
  simp [railModeEff, hv, hh, hst, tryStart_starts hh hc, acc]

/-- R254: a start with a failing condition is discarded with its code. -/
theorem railModeEff_start_fails (hst : railStatus s r = 0) (hc : startCode s r ≠ 0) : railModeEff r w auth s =
    (.state, (s.putN (railIdx r) 0x0A (startCode s r)).setBits (railIdx r) 0x0C 1) := by
  simp [railModeEff, hv, hh, hst, tryStart_fails hh hc, rej, railFlag]

/-- R254: a start of a running rail is accepted without effect. -/
theorem railModeEff_start_running (hst : railStatus s r = 1) : railModeEff r w auth s = (.accepted, s) := by
  simp [railModeEff, hv, hh, hst, acc]

/-- R258: a start of a rail that winds down makes it run again. -/
theorem railModeEff_start_winding (hst : railStatus s r = 2) : railModeEff r w auth s = (.accepted, settleAll
    (((s.putN (railIdx r) 9 1).putN (railIdx r) 1 1).modRail r (fun x => { x with shedHeld := {}, recallHeld := {} }))) := by
  simp [railModeEff, hv, hh, hst, acc]

end

section
variable (hv : w.value.toNat = 2)
include hv

/-- R258, R706: a rail winds down neither in Harbour nor from stopped. -/
theorem railModeEff_wind_refused (h : inHarbour s = true ∨ railStatus s r = 0) : railModeEff r w auth s = (.state, s) := by
  simp [railModeEff, hv, h, rej]

/-- R258: mode 2h winds a rail down. -/
theorem railModeEff_winds (hh : inHarbour s = false) (hst : railStatus s r ≠ 0) :
    railModeEff r w auth s = (.accepted, settleAll (windRail s r)) := by
  simp [railModeEff, hv, hh, hst, acc]

end

end

/-! ### A rail that stops -/

section
variable {y : Nat} (hy : y < 256)
include hy

/-- R212: whatever phase a Pilot belongs to, settling it writes four subindices alone. -/
theorem pilotSettle_obj_of_sub (hsub : y ∉ [0x1A, 0x2D, 0x2E, 0x2F]) (s : State) (p x : Nat) :
    (pilotSettle s p).obj x y = s.obj x y := by
  simp only [List.mem_cons, List.not_mem_nil, or_false, not_or] at hsub
  obtain ⟨h1a, h2d, h2e, h2f⟩ := hsub
  have hto : ∀ st flags, (pilotTo s p st flags).obj x y = s.obj x y := fun st flags => by
    simp [pilotTo, objKey_ne_of_sub hy _ h1a, objKey_ne_of_sub hy _ h2d]
  rcases pilotSettle_cases s p with h | ⟨st, flags, h | h⟩
  · rw [h]
  · rw [h, hto]
  · rw [h, State.put_obj_other _ _ _ _ _ _ (objKey_ne_of_sub hy (by decide) h2f _ _),
      State.put_obj_other _ _ _ _ _ _ (objKey_ne_of_sub hy (by decide) h2e _ _), hto]

/-- R210, R257: a phase that a rail withdraws its grant and its park request from has its words written at the subindices of
its state, its Pilot and its centre alone. -/
theorem withdrawn_obj (hsub : y ∉ [0x0D, 0x17, 0x1A, 0x2D, 0x2E, 0x2F]) (s : State) (p x : Nat) :
    ((setPark (setGrant s p false) p false).put (phaseIdx p) 0x0D 0).obj x y = s.obj x y := by
  rw [List.mem_cons, not_or, List.mem_cons, not_or] at hsub
  obtain ⟨h0d, h17, hpilot⟩ := hsub
  rw [State.put_obj_other _ _ _ _ _ _ (objKey_ne_of_sub hy (by decide) h0d _ _)]
  change (setGrant s p false).obj x y = _
  simp only [setGrant, Bool.false_eq_true, if_false]
  split
  · obtain ⟨f, h, -⟩ := enterPhase_settles (s.modPhase p fun x => { x with grant := false }) p 1
    rw [h, pilotSettle_obj_of_sub hy hpilot, State.modPhase_obj, State.putN_obj,
      if_neg (objKey_ne_of_sub hy (by decide) h17 _ _), State.modPhase_obj]
  · rfl

end

section
variable (s : State) (r : Nat)

theorem shedAll_obj (x y : Nat) : (shedAll s r).obj x y =
    ((List.range 16).foldl (fun s i => s.put (railIdx r + 6) (1 + i) 0) (s.put (railIdx r + 4) 0x13 0)).obj x y := by
  rw [shedAll, State.modRail_obj]

/-- R257: the units of a stopped rail are all SHED, with weight 0. -/
theorem shedAll_sheds : (shedAll s r).obj (railIdx r + 4) 0x13 = 0 ∧
    ∀ i, i < 16 → (shedAll s r).obj (railIdx r + 6) (1 + i) = 0 := by
  refine ⟨?units, fun i hi => ?weight⟩
  case units =>
    rw [shedAll_obj, foldl_put_obj_other (fun _ => 0) (fun _ _ => by unfold objKey; omega), State.put_obj_self]
  case weight =>
    rw [shedAll_obj]
    exact foldl_put_obj (fun _ => 0) (List.mem_range.mpr hi) _

/-- R257: the words of the rail's own object stay as its units shed. -/
theorem shedAll_control {y : Nat} (hy : y < 256) : (shedAll s r).obj (railIdx r) y = s.obj (railIdx r) y := by
  rw [shedAll_obj, foldl_put_obj_other (fun _ => 0) (fun _ _ => by unfold objKey; omega),
    State.put_obj_other _ _ _ _ _ _ (by unfold objKey; omega)]

/-- R257: a rail that reads stopped in mode 0h, with its phases' grants and park requests withdrawn and their centres 0. -/
def railWithdrawn : State :=
  (railMembers s r).foldl (fun s p => (setPark (setGrant s p false) p false).put (phaseIdx p) 0x0D 0)
    (((s.putN (railIdx r) 9 0).put (railIdx r) 1 0).put (railIdx r + 4) 0x12 0)

theorem railWithdrawn_control : railStatus (railWithdrawn s r) r = 0 ∧ (railWithdrawn s r).nat (railIdx r) 1 = 0 := by
  have hkept : ∀ y, y = 9 ∨ y = 1 → (railWithdrawn s r).obj (railIdx r) y =
      (((s.putN (railIdx r) 9 0).put (railIdx r) 1 0).put (railIdx r + 4) 0x12 0).obj (railIdx r) y := by
    intro y hy
    exact foldl_keeps (fun s => s.obj (railIdx r) y) (fun p _ s => withdrawn_obj (by omega) (by simp; omega) s p _) _
  rw [railStatus, State.nat, State.nat, hkept 9 (.inl rfl), hkept 1 (.inr rfl)]
  constructor <;> simp [objKey_ne_of_object]

end

/-- R257: a rail that stops withdraws its grants and sheds its units; what follows concerns no object word. -/
theorem stopRail_obj {s : State} {r : Nat} (hst : railStatus s r ≠ 0) (x y : Nat) :
    (stopRail s r).obj x y = (shedAll (railWithdrawn s r) r).obj x y := by
  rw [stopRail, if_neg hst]
  simp only [restartWatch, State.modRail_obj]
  rw [foldl_keeps (fun s => s.obj x y) (f := fun s i => settleMember s r i) (fun _ _ _ => rfl), State.modRail_obj]
  rfl

/-- R258: a running rail that winds down reads so; its units in RECALL taper. -/
theorem windRail_status {s : State} {r : Nat} (hst : railStatus s r = 1) : railStatus (windRail s r) r = 2 := by
  simp only [windRail, hst, ne_eq, not_true_eq_false, if_false]
  rw [foldl_keeps (fun s => railStatus s r) (fun u _ s => enterUnit_status s r u 3)]
  simp [railStatus, State.nat]

/-- Settles O29: each write passes (`accessWrite_done`, `accessWrite_state`) and does what the mode says (`railModeEff_starts`
and its companions); code 0 by `startCode_zero`, a stop by `stopRail_obj`, a wind-down by `windRail_status`. -/
theorem railsStartStopAndWindDown : Obligations.RailsStartStopAndWindDown := by
  unfold Obligations.RailsStartStopAndWindDown
  refine ⟨fun r w s hp => ?write, fun r s => startCode_zero, fun r s _ hst => ?stop, fun r s _ => windRail_status⟩
  case write =>
    rw [exec_railStart, exec_railStop, exec_railWindDown]
    refine ⟨fun hv hh hst hc => ?_, fun c hv hh hst hc hne => ?_, fun hv hh hst => ?_, fun hv hh hst => ?_,
      fun hv hh => ?_, fun hv h => ?_, fun hv => ?_, fun hv hh hst => ?_⟩
    · rw [accessWrite_done hp (railModeEff_starts _ hv hh hst hc)]
    · subst hc
      rw [accessWrite_state hp (railModeEff_start_fails _ hv hh hst hne)]
    · rw [accessWrite_done hp (railModeEff_start_running _ hv hh hst)]
    · rw [accessWrite_done hp (railModeEff_start_winding _ hv hh hst)]
    · rw [accessWrite_state hp (railModeEff_start_harbour _ hv hh)]
    · rw [accessWrite_state hp (railModeEff_wind_refused _ hv h)]
    · rw [accessWrite_done hp (railModeEff_stops _ hv)]
    · rw [accessWrite_done hp (railModeEff_winds _ hv hh hst)]
  case stop =>
    have hcontrol : ∀ y, y < 256 → (stopRail s r).nat (railIdx r) y = (railWithdrawn s r).nat (railIdx r) y :=
      fun y hy => State.nat_eq_of_obj ((stopRail_obj hst _ _).trans (shedAll_control _ r hy))
    obtain ⟨hstatus, hmode⟩ := railWithdrawn_control s r
    obtain ⟨hunits, hweights⟩ := shedAll_sheds _ r
    exact ⟨(hcontrol 9 (by decide)).trans hstatus, (hcontrol 1 (by decide)).trans hmode, (stopRail_obj hst _ _).trans hunits,
      fun i hi => congrArg BitVec.toNat ((stopRail_obj hst _ _).trans (hweights i hi))⟩

end Sys2Proof.Machine
end

section
/-! PROOF. Demand sets, applies and feed-forward tables (R261 to R264, R273, R274). -/
namespace Sys2Proof.Machine

theorem exec_demandCommit (r : Fin 12) (w : Wr) (s : State) :
    exec (.demandCommit r w) s = .next (accessWrite s w false (railIdx r + 3) 4 (commitEff r)) := rfl

theorem exec_applyCommand (r : Fin 12) (w : Wr) (s : State) :
    exec (.applyCommand r w) s = .next (accessWrite s w false (railIdx r) 0x0B (applyEff r)) := rfl

/-! ### Commits -/

/-- R261, R262: a cycle with no action and no verdict to come into force takes the set committed and applies as it was told. -/
theorem railBegin_quiet {s : State} {r : Nat} (hact : (s.rail r).act = 0) (hv : (s.rail r).verdicts = []) :
    railBegin s r =
      let x := s.modRail r (fun y => { y with
        commit := false, coming := if (s.rail r).commit then some (stagedSet s r) else (s.rail r).coming, act := 0,
        applyNext := false, verdicts := [] })
      if (s.rail r).applyNext then applyDemand x r else x := by
  simp [railBegin, railAction, hact, hv]

/-- R261: the set taken from a commit, pending and new. -/
theorem commitEnd_pends {s : State} {r : Nat} {d g : List Int} (h : (s.rail r).coming = some (d, g)) :
    commitEnd s r = (if (s.rail r).new then s.bump (railIdx r + 3) 0x0D 16 else s).modRail r
      (fun x => { x with new := true, pend := d, pendGain := g, coming := none }) := by
  simp only [commitEnd, h]

/-- R261: at the end of the commit's cycle its set is pending and new, and a new set that it overwrites is counted. -/
theorem commitEnd_counts {s : State} {r : Nat} {d g : List Int} (hr : r < s.rails.length)
    (h : (s.rail r).coming = some (d, g)) :
    (commitEnd s r).rail r = { s.rail r with new := true, pend := d, pendGain := g, coming := none } ∧
    (commitEnd s r).nat (railIdx r + 3) 0x0D =
      if (s.rail r).new then min (s.nat (railIdx r + 3) 0x0D + 1) 65535 else s.nat (railIdx r + 3) 0x0D := by
  rw [commitEnd_pends h]
  cases (s.rail r).new with
  | true => exact ⟨State.modRail_rail_self (s := s.bump (railIdx r + 3) 0x0D 16) hr _, State.bump_nat s _ _ (by decide)⟩
  | false => exact ⟨State.modRail_rail_self hr _, rfl⟩

/-! ### Applies -/

/-- R262: the pending totals and gains applied, and the apply counted. -/
def demandApplied (s : State) (r : Nat) : State :=
  ((List.range 4).foldl (fun t b => t.putI (railIdx r + 5) (0x19 + b) ((s.rail r).pendGain.getD b 0))
    ((List.range 3).foldl (fun t h => t.putI (railIdx r + 3) (5 + h) ((s.rail r).pend.getD h 0)) s)).bump
      (railIdx r + 3) 0x0B 32

/-- R264: an apply of a set that was not new, counted and flagged. -/
def staleCounted (s : State) (r : Nat) : State := (s.bump (railIdx r + 3) 0x0C 16).setBits (railIdx r) 0x0C 32

theorem applyDemand_applies {s : State} {r : Nat} (hst : railStatus s r ≠ 0) (h : (s.rail r).appliedAt ≠ some s.t) :
    applyDemand s r = (if (s.rail r).new then demandApplied s r else staleCounted (demandApplied s r) r).modRail r
      (fun x => { x with new := false, appliedAt := some s.t }) := by
  rw [applyDemand, if_neg (by simp [hst, h])]
  rfl

/-- R263: a second apply of a cycle acts with the first. -/
theorem applyDemand_again {s : State} {r : Nat} (h : (s.rail r).appliedAt = some s.t) : applyDemand s r = s :=
  if_pos (.inr h)

section
variable (s : State) (r : Nat)

theorem demandApplied_total {h : Nat} (hh : h < 3) :
    (demandApplied s r).obj (railIdx r + 3) (5 + h) = word32 ((s.rail r).pend.getD h 0) := by
  rw [demandApplied, State.bump_obj, if_neg (by simp; omega)]
  exact (foldl_put_obj_other (fun b => word32 ((s.rail r).pendGain.getD b 0)) (fun b _ => by unfold objKey; omega) _).trans
    (foldl_put_obj (fun h => word32 ((s.rail r).pend.getD h 0)) (List.mem_range.mpr hh) s)

theorem demandApplied_gain {b : Nat} (hb : b < 4) :
    (demandApplied s r).obj (railIdx r + 5) (0x19 + b) = word32 ((s.rail r).pendGain.getD b 0) := by
  rw [demandApplied, State.bump_obj, if_neg (by unfold objKey; omega)]
  exact foldl_put_obj (fun b => word32 ((s.rail r).pendGain.getD b 0)) (List.mem_range.mpr hb) _

theorem demandApplied_count :
    (demandApplied s r).nat (railIdx r + 3) 0x0B = min (s.nat (railIdx r + 3) 0x0B + 1) 4294967295 := by
  rw [demandApplied, State.bump_nat _ _ _ (by decide)]
  refine congrArg (fun n => min (n + 1) 4294967295) (State.nat_eq_of_obj ?_)
  exact (foldl_put_obj_other (fun b => word32 ((s.rail r).pendGain.getD b 0)) (fun b _ => by unfold objKey; omega) _).trans
    (foldl_put_obj_other (fun h => word32 ((s.rail r).pend.getD h 0)) (fun h hh => by simp at hh ⊢; omega) s)

theorem demandApplied_rails : (demandApplied s r).rails = s.rails := by
  rw [demandApplied, State.bump_rails]
  rw [foldl_keeps State.rails (f := fun t b => t.putI (railIdx r + 5) (0x19 + b) _) fun _ _ _ => rfl]
  exact foldl_keeps State.rails (f := fun t h => t.putI (railIdx r + 3) (5 + h) _) (fun _ _ _ => rfl) s

/-- R264: a stale apply leaves the words that the apply has written. -/
theorem staleCounted_obj {x y : Nat} (hcount : objKey x y ≠ objKey (railIdx r + 3) 0x0C)
    (hflags : objKey x y ≠ objKey (railIdx r) 0x0C) : (staleCounted s r).obj x y = s.obj x y := by
  rw [staleCounted, State.setBits_obj, if_neg hflags, State.bump_obj, if_neg hcount]

theorem staleCounted_rails : (staleCounted s r).rails = s.rails := rfl

theorem staleCounted_flag : (staleCounted s r).flag (railIdx r) 0x0C 5 = true := by
  rw [staleCounted, State.setBits_flag _ _ _ _ (by decide), Bool.or_eq_true]
  exact .inr (by decide)

end

/-- R262, R264: what an apply leaves: the words of `demandApplied`, the rail's set no longer new, and a stale one flagged. -/
theorem applyDemand_leaves {s : State} {r : Nat} (hr : r < s.rails.length) (hst : railStatus s r ≠ 0)
    (h : (s.rail r).appliedAt ≠ some s.t) :
    (∀ x y, objKey x y ≠ objKey (railIdx r + 3) 0x0C → objKey x y ≠ objKey (railIdx r) 0x0C →
      (applyDemand s r).obj x y = (demandApplied s r).obj x y) ∧
    ((applyDemand s r).rail r).new = false ∧
    ((s.rail r).new = false → (applyDemand s r).flag (railIdx r) 0x0C 5 = true) := by
  rw [applyDemand_applies hst h]
  have hr' : r < (demandApplied s r).rails.length := (demandApplied_rails s r).symm ▸ hr
  cases (s.rail r).new with
  | true =>
    rw [if_pos rfl, State.modRail_rail_self hr']
    exact ⟨fun _ _ _ _ => State.modRail_obj .., rfl, nofun⟩
  | false =>
    rw [if_neg (by decide), State.modRail_rail_self (by rwa [staleCounted_rails])]
    refine ⟨fun _ _ hcount hflags => (State.modRail_obj ..).trans (staleCounted_obj _ r hcount hflags), rfl,
      fun _ => ?_⟩
    rw [State.flag, State.modRail_obj]
    exact staleCounted_flag _ r

/-! ### Tables -/

theorem exec_swapRequest (f : Fin 8) (w : Wr) (s : State) :
    exec (.swapRequest f w) s = .next (accessWrite s w false (tableIdx f) 3 (swapEff f)) := rfl

theorem exec_tableBankWrite (f : Fin 8) (b : Fin 2) (e : Fin 512) (w : Wr) (s : State) :
    let i := 0x2500 + 16 * f.val + 4 * b.val + e.val / 128
    let j := 1 + e.val % 128
    exec (.tableBankWrite f b e w) s = .next (accessWrite s w false i j (bankEff f b i j)) := rfl

section
variable {f : Nat} {w : Wr} (auth : Bool) {s : State}

/-- R273: a request while one is pending adds nothing. -/
theorem swapEff_pending (h : s.flag (tableIdx f) 5 0 = true) : swapEff f w auth s = (.accepted, s) := if_pos h

variable (h : s.flag (tableIdx f) 5 0 = false)
include h

/-- R273: the swap of an enabled table is pending. -/
theorem swapEff_waits (hon : s.flag (tableIdx f) 1 0 = true) :
    swapEff f w auth s = (.accepted, s.putN (tableIdx f) 5 1) := by
  simp [swapEff, h, hon, acc]

/-- R273: a disabled table swaps its banks at once. -/
theorem swapEff_swaps (hoff : s.flag (tableIdx f) 1 0 = false) :
    swapEff f w auth s = (.accepted, swapBank (s.putN (tableIdx f) 5 1) f) := by
  simp [swapEff, h, hoff, acc]

end

/-- R274: a bank word is stored outside the active bank of an enabled table with no swap pending. -/
theorem bankEff_stores {f b i j : Nat} {w : Wr} {s : State} {row : ObjRow} (hr : objRow i j = some row)
    (ha : row.acc = .rw) (hc : s.cycleCount (objKey i j) = none)
    (h : ¬ (s.flag (tableIdx f) 5 0 = true ∨ (s.flag (tableIdx f) 1 0 = true ∧ s.nat (tableIdx f) 2 = b))) (auth : Bool) :
    bankEff f b i j w auth s = (.accepted, s.store i j w.value) := by
  have hw : plainWrite i j w auth s = (.accepted, s.storeCount i j w.value) :=
    plainWrite_stored hr (by simp [ha]) (by simp [ha]) w auth s
  rw [bankEff, if_neg (by simpa using h), hw, State.storeCount_unmoved hr s _ hc, State.store_row hr]

/-- R274: any other write of a bank word is counted and discarded. -/
theorem bankEff_refused {f b i j : Nat} {w : Wr} {s : State}
    (h : s.flag (tableIdx f) 5 0 = true ∨ (s.flag (tableIdx f) 1 0 = true ∧ s.nat (tableIdx f) 2 = b)) (auth : Bool) :
    bankEff f b i j w auth s = (.state, s.bump (tableIdx f) 9 16) := if_pos (by simpa using h)

/-- What keeps the rest of a state that keeps the rest of another keeps the rest of that. -/
theorem State.keepsRest.trans {s t u : State} (h : s.keepsRest t) (g : t.keepsRest u) : s.keepsRest u :=
  Eq.trans (congrArg (fun x : State =>
    { x with od := s.od, masters := s.masters, resp := s.resp, raised := s.raised, cyc := s.cyc }) g) h

theorem State.keepsRest_put (s : State) (i j : Nat) (v : Word) : s.keepsRest (s.put i j v) := rfl

theorem State.keepsRest_bump (s : State) (i j w : Nat) : s.keepsRest (s.bump i j w) := by
  obtain ⟨od, cyc, h⟩ := State.bump_frame s i j w
  rw [State.keepsRest, h]

/-- R273: the banks swapped: the active bank changes, nothing is pending, the swap is counted, and nothing else moves. -/
theorem swapBank_frame (s : State) (f : Nat) :
    let t := swapBank (s.putN (tableIdx f) 5 1) f
    t.nat (tableIdx f) 2 = 1 - s.nat (tableIdx f) 2 ∧ t.obj (tableIdx f) 5 = 0 ∧
    t.nat (tableIdx f) 7 = min (s.nat (tableIdx f) 7 + 1) 65535 ∧
    s.keepsWords t [(tableIdx f, 2), (tableIdx f, 5), (tableIdx f, 7)] ∧ s.keepsBytes t ∧ s.keepsRest t := by
  refine ⟨?active, ?pending, ?count, ?words, fun _ => ?bytes, ?rest⟩
  case active =>
    have h : 1 - s.nat (tableIdx f) 2 < 2 ^ 32 := by omega
    simpa [swapBank, State.nat] using h
  case pending => simp [swapBank]
  case count =>
    rw [swapBank, State.bump_nat _ _ _ (by decide)]
    simp [State.nat]
  case words =>
    exact ((((State.keepsWords.refl s _).putN (j := 5) (by decide) (by simp) 1).putN (j := 2) (by decide) (by simp) _).put
      (j := 5) (by decide) (by simp) 0).bump (j := 7) (by decide) (by simp) 16
  case bytes => simp [swapBank]
  case rest =>
    exact (((s.keepsRest_put _ _ _).trans (State.keepsRest_put ..)).trans (State.keepsRest_put ..)).trans
      (State.keepsRest_bump ..)

/-- Settles O30: commits and applies by what the next cycle does with them (`railBegin_quiet`, `commitEnd_pends`,
`applyDemand_applies`), table writes by their effects (`swapEff_swaps`, `bankEff_stores` and their companions). -/
theorem demandSetsAndTables : Obligations.DemandSetsAndTables := by
  unfold Obligations.DemandSetsAndTables
  refine ⟨fun r w s hp => ?commit, fun r w s hp => ?apply, fun r s hact hv => ?next, fun r s d g hr hlen h => ?pend,
    fun r s hr hlen hst => ⟨fun h => applyDemand_again h, fun h => ?applied⟩, fun f w s hp h => ?again,
    fun f w s hp h => ?swap, ?bank⟩
  case commit => rw [exec_demandCommit, accessWrite_done hp rfl]
  case apply => rw [exec_applyCommand, accessWrite_done hp rfl]
  case next =>
    refine ⟨fun hcommit hno => ?_, fun hno happly => ?_⟩
    · rw [railBegin_quiet hact hv, hcommit, hno]
      rfl
    · rw [railBegin_quiet hact hv, hno, happly]
      rfl
  case pend =>
    obtain ⟨hrail, hcount⟩ := commitEnd_counts (hlen ▸ hr) h
    exact ⟨by rw [hrail], by rw [hrail], by rw [hrail], by rw [hrail], hcount⟩
  case applied =>
    obtain ⟨hwords, hnew, hstale⟩ := applyDemand_leaves (hlen ▸ hr) hst h
    refine ⟨fun k hk => ?_, fun b hb => ?_, ?_, hnew, hstale⟩
    · rw [hwords _ _ (by simp; omega) (by unfold objKey; omega), demandApplied_total s r hk]
    · rw [hwords _ _ (by unfold objKey; omega) (by unfold objKey; omega), demandApplied_gain s r hb]
    · rw [← demandApplied_count s r]
      exact State.nat_eq_of_obj (hwords _ _ (by simp) (by unfold objKey; omega))
  case again => rw [exec_swapRequest, accessWrite_done hp (swapEff_pending _ h)]
  case swap =>
    rw [exec_swapRequest]
    refine ⟨fun hon => ?_, fun hoff => ?_⟩
    · rw [accessWrite_done hp (swapEff_waits _ h hon)]
    · rw [accessWrite_done hp (swapEff_swaps _ h hoff)]
      have hframe := swapBank_frame s f
      generalize swapBank (s.putN (tableIdx f) 5 1) f = t at hframe ⊢
      exact ⟨_, rfl, hframe⟩
  case bank =>
    intro f b e w s row i j hp hr ha hc refused
    refine ⟨fun hfree => ?_, fun hrefused => ?_⟩
    · rw [exec_tableBankWrite, accessWrite_done hp (bankEff_stores hr ha hc hfree _)]
      rfl
    · rw [exec_tableBankWrite, accessWrite_state hp (bankEff_refused hrefused _)]

end Sys2Proof.Machine
end

section
/-! PROOF. Units of a rail ramp, shed and are recalled (R279, R281, R283, R285). -/
namespace Sys2Proof.Machine

/-! ### Ramps -/

/-- R279, R285: unit u moved to weight w' by the tick due, with the next tick scheduled short of the end of its ramp. -/
def rampMoved (s : State) (r u due st goal w' : Nat) : State :=
  (setUnitWeight s r u w').modRail r (fun x => { x with
    moved := modAt x.moved u (fun _ => s.t + 1),
    ramps := modAt x.ramps u (fun _ => if w' = goal then none else nextRamp s r st due) })

/-- R279, R285: the weight that a tick brings a unit to. -/
def rampWeight (s : State) (r u : Nat) (jump : Bool) : Nat :=
  if jump then (if unitState s r u = 3 then 0 else 256)
  else if unitState s r u = 3 then weightOf s r (u * railGroups s r) - 1 else weightOf s r (u * railGroups s r) + 1

theorem exec_rampTick {r : Fin 12} {u : Fin 16} {s : State} {due : Nat} {jump : Bool} (h5 : s.on 5 = true)
    (hrun : railStatus s r ≠ 0) (hmove : mayMove s r u = true) (hramp : (s.rail r).ramps.getD u none = some (due, jump))
    (hdue : due ≤ s.t) (hst : unitState s r u = 1 ∨ unitState s r u = 3) : exec (.rampTick r u) s = .next (settleAll
      (rampMoved s r u due (unitState s r u) (if unitState s r u = 3 then 0 else 256) (rampWeight s r u jump))) := by
  change execRampTick r u s = _
  unfold execRampTick
  rw [hramp]
  exact when_true (by simp [h5, hrun, hmove, hdue, hst]) s _

/-- R281: a unit in RECALL whose weight has reached 256 becomes ACTIVE. -/
theorem completeUnit_recalled {s : State} {r u : Nat} (hmove : mayMove s r u = true) (hst : unitState s r u = 1)
    (hw : weightOf s r (u * railGroups s r) = 256) :
    completeUnit s r u = (enterUnit s r u 2).setBits (railIdx r) 0x0C 4 := by
  simp [completeUnit, hmove, hst, hw, railFlag]

/-- R281: a unit in TAPER whose weight has reached 0 asks its members to park. -/
theorem completeUnit_tapered {s : State} {r u : Nat} (hmove : mayMove s r u = true) (hst : unitState s r u = 3)
    (hw : weightOf s r (u * railGroups s r) = 0) (hpark : (s.rail r).parks.getD u false = false) :
    completeUnit s r u = setUnitPark s r u true := by
  rw [completeUnit, if_neg (by simp [hmove]), if_neg (by omega), if_pos ⟨hst, hw, hpark⟩]

/-! ### Decisions -/

/-- R281: a tapered unit that has asked and whose members all rest is shed. -/
theorem exec_unitShed {r : Fin 12} {u : Fin 16} {s : State} (h5 : s.on 5 = true) (hrun : railStatus s r ≠ 0)
    (hst : unitState s r u = 3) (hmove : mayMove s r u = true) (hpark : (s.rail r).parks.getD u false = true)
    (hrest : ∀ i ∈ unitMembers s r u, phaseState s (memberPhase s r i) ∈ [1, 4, 5, 6, 7]) :
    exec (.unitShed r u) s =
      .next (settleAll ((enterUnit (s.bump (railIdx r + 4) 0x16 32) r u 0).setBits (railIdx r) 0x0C 2)) := by
  have hquiet : (unitMembers s r u).all (fun i =>
      let st := phaseState s (memberPhase s r i)
      st == 4 || st == 1 || st == 5 || st == 6 || st == 7) = true := by
    rw [List.all_eq_true]
    intro i hi
    have hi := hrest i hi
    simp at hi ⊢
    omega
  exact when_true (by rw [h5, hst, hmove, hpark, hquiet]; simp [hrun]) s _

section
variable {r : Fin 12} {u : Nat} {s : State} (h5 : s.on 5 = true)
include h5

section
variable (hready : slowReady s r = true) (hdwell : dwellEnd s r ≤ s.t) (hmove : mayMove s r u = true)
include hready hdwell hmove

/-- R283: a shed condition that has held through its delay starts to taper the highest ACTIVE unit. -/
theorem exec_shedDecision (hlast : (unitsIn s r 2).getLast? = some u) (hwanted : shedWanted s r = true)
    (hheld : (if s.nat (railIdx r + 4) 1 = 1 then 200 * s.nat (railIdx r + 4) 8 else 0) ≤ (s.rail r).shedHeld.held s.t) :
    exec (.shedDecision r) s =
      .next (settleAll ((enterUnit s r u 3).modRail r (fun x => { x with shedHeld := {} }))) := by
  change execShedDecision r s = _
  simp only [execShedDecision, hlast]
  exact when_true (by simp [h5, hready, hdwell, hmove, hwanted, cyclesUs, hheld]) s _

/-- R283: a recall condition that has held through its delay recalls the lowest available unit in SHED. -/
theorem exec_recallDecision (hmode : s.nat (railIdx r + 4) 1 ≠ 0) (hfirst : (shedAvailable s r).head? = some u)
    (hwanted : recallWanted s r = true)
    (hheld : (if s.nat (railIdx r + 4) 1 = 1 then 200 * s.nat (railIdx r + 4) 9 else 0) ≤
      (s.rail r).recallHeld.held s.t) : exec (.recallDecision r) s =
        .next (settleAll ((recallUnit s r u).modRail r (fun x => { x with recallHeld := {} }))) := by
  change execRecallDecision r s = _
  rw [execRecallDecision, if_neg hmode]
  simp only [hfirst]
  exact when_true (by simp [h5, hready, hdwell, hmove, hwanted, cyclesUs, hheld]) s _

end

/-- R283: in shed mode 0h every available unit in SHED or TAPER is recalled. -/
theorem exec_recallDecision_all (hrun : railStatus s r = 1) (hmode : s.nat (railIdx r + 4) 1 = 0)
    (hus : (unitsIn s r 0 ++ unitsIn s r 3).filter (fun u => unitAvail s r u && mayMove s r u) ≠ []) :
    exec (.recallDecision r) s = .next (settleAll
      (((unitsIn s r 0 ++ unitsIn s r 3).filter (fun u => unitAvail s r u && mayMove s r u)).foldl
        (fun y u => recallUnit y r u) s)) := by
  change execRecallDecision r s = _
  rw [execRecallDecision, if_pos hmode]
  exact when_true (by simpa [h5, hrun] using hus) s _

end

/-- R281: the code of every member of a unit that enters a state is that state. -/
theorem enterUnit_code {s : State} {r u st : Nat} (hst : st < 4) (hcount : memberCount s r ≤ 16) {i : Nat}
    (hi : i ∈ unitMembers s r u) : fieldN ((enterUnit s r u st).nat (railIdx r + 4) 0x13) (2 * i) 2 = st := by
  rw [State.nat_eq_of_obj (enterUnit_obj_below s r u st (k := 4) (by decide) (by decide)), setUnitCode_code hst hcount hi]

/-- Settles O31: ticks and decisions act under their conditions (`exec_rampTick`, `exec_unitShed`, `exec_shedDecision`,
`exec_recallDecision`), completions by `completeUnit_recalled` and `completeUnit_tapered`, the members' codes and weights by
`enterUnit_code` and `enterUnit_shed_weight`. -/
theorem unitsShedAndReturn : Obligations.UnitsShedAndReturn := by
  unfold Obligations.UnitsShedAndReturn
  refine ⟨fun r u s due jump h5 hrun hmove hramp hdue => ⟨fun hst => ?rises, fun hst => ?falls⟩,
    fun r u s hmove => ⟨completeUnit_recalled hmove, completeUnit_tapered hmove⟩,
    fun r u s h5 hrun hst hmove hpark hrest => exec_unitShed h5 hrun hst hmove hpark hrest,
    fun r u s h5 hready hdwell hmove => ⟨exec_shedDecision h5 hready hdwell hmove,
      exec_recallDecision h5 hready hdwell hmove⟩,
    fun r s h5 hrun hmode => exec_recallDecision_all h5 hrun hmode,
    fun r u st s _ hst hcount => ⟨fun i hi => enterUnit_code hst hcount hi, fun h0 i hi => ?weight⟩⟩
  case rises =>
    rw [exec_rampTick h5 hrun hmove hramp hdue (.inl hst), rampWeight, hst]
    rfl
  case falls =>
    rw [exec_rampTick h5 hrun hmove hramp hdue (.inr hst), rampWeight, hst]
    rfl
  case weight =>
    subst h0
    exact enterUnit_shed_weight s r u hi

end Sys2Proof.Machine
end

section
/-! PROOF. The classification of measurements and the scores of members (R304, R307 to R309, R311). -/
namespace Sys2Proof.Machine

/-! ### The oldest measurement that is due -/

theorem exec_supervisionClassify_due {r : Fin 12} {i : Fin 16} {s : State} {m : Measure}
    (h : s.measures.find? (fun m => m.rail == r.val && m.member == i.val && decide (m.d + 2 ≤ s.t)) = some m) :
    exec (.supervisionClassify r i) s = .next (settleAll (classify { s with measures := s.measures.erase m } m)) := by
  change execSupervisionClassify r i s = _
  simp only [execSupervisionClassify, h]

/-- R311: a member none of whose measurements is two cycles old has none classified. -/
theorem exec_supervisionClassify_none {r : Fin 12} {i : Fin 16} {s : State}
    (h : ∀ m ∈ s.measures, m.rail = r.val → m.member = i.val → s.t < m.d + 2) :
    exec (.supervisionClassify r i) s = .next s := by
  have hnone : s.measures.find? (fun m => m.rail == r.val && m.member == i.val && decide (m.d + 2 ≤ s.t)) = none := by
    simpa using h
  change execSupervisionClassify r i s = _
  simp only [execSupervisionClassify, hnone]

/-! ### The class -/

theorem absI_eq_natAbs (x : Int) : absI x = x.natAbs := by
  unfold absI; split <;> omega

/-- R24: for a positive divisor the floor is the quotient of the integers. -/
theorem floorDiv_256 (a : Int) : floorDiv a 256 = a / 256 := Int.fdiv_eq_ediv_of_nonneg a (by decide)

/-- R307: the bound up to which a measured change counts as flat. -/
def flatBound (s : State) (m : Measure) : Int := (s.nat (svIdx m.rail) 8 * ((predicted s m).natAbs : Int)) / 256

/-- R307: the tolerance about the predicted change. -/
def classTolerance (s : State) (m : Measure) : Int :=
  (s.nat (svIdx m.rail) 6 * ((predicted s m).natAbs : Int)) / 256 + s.nat (svIdx m.rail) 7

/-- R307: the measured change goes against the predicted one, beyond the flat bound. -/
def againstPrediction (s : State) (m : Measure) : Prop :=
  m.xb - m.xa ≠ 0 ∧ signI (m.xb - m.xa) ≠ signI (predicted s m) ∧ flatBound s m < ((m.xb - m.xa).natAbs : Int)

section
variable {s : State} {m : Measure}

/-- R307: class 6h. -/
theorem classOf_against (h : againstPrediction s m) : classOf s m = 6 := by
  simp only [againstPrediction, flatBound] at h
  simp only [classOf, absI_eq_natAbs, floorDiv_256]
  exact if_pos h

variable (h : ¬ againstPrediction s m)
include h

/-- R307: classes 4h and 5h. -/
theorem classOf_flat (hflat : ((m.xb - m.xa).natAbs : Int) ≤ flatBound s m) : classOf s m =
    if ((m.xb - chanOffset s (phaseChan s (memberPhase s m.rail m.member))).natAbs : Int) ≤ s.nat (svIdx m.rail) 9
      then 4 else 5 := by
  simp only [againstPrediction, flatBound] at h hflat
  simp only [classOf, absI_eq_natAbs, floorDiv_256]
  rw [if_neg h, if_pos hflat]

variable (hmoved : flatBound s m < ((m.xb - m.xa).natAbs : Int))
include hmoved

/-- R307: a change beyond the flat bound is judged by the tolerance alone. -/
theorem classOf_moved : classOf s m =
    if ((predicted s m).natAbs : Int) + classTolerance s m < ((m.xb - m.xa).natAbs : Int) then 3
    else if ((m.xb - m.xa).natAbs : Int) < ((predicted s m).natAbs : Int) - classTolerance s m then 2 else 1 := by
  simp only [againstPrediction, flatBound] at h hmoved
  simp only [classOf, classTolerance, absI_eq_natAbs, floorDiv_256]
  exact (if_neg h).trans (if_neg (not_le.mpr hmoved))

end

/-! ### The scores -/

section
variable (s : State) (r i v : Nat) {k lo : Nat}

/-- R346: the verdict word of a member holds its scores. -/
theorem setScore_word (hlo : lo ≤ 16) :
    (setScore s r i lo v).nat (svIdx r + 3) (1 + i) = setFieldN (s.nat (svIdx r + 3) (1 + i)) lo 8 v := by
  have hlt : setFieldN (s.nat (svIdx r + 3) (1 + i)) lo 8 v < 2 ^ 32 := setFieldN_lt (State.nat_lt ..) (by omega)
  rw [setScore, State.nat, State.putN_obj, if_pos rfl]
  exact Nat.mod_eq_of_lt hlt

/-- A score reads as it was set. -/
theorem score_setScore_self (hlo : lo ≤ 16) (hv : v ≤ 255) : score (setScore s r i lo v) r i lo = v := by
  rw [score, setScore_word s r i v hlo, fieldN_setFieldN_self]
  exact Nat.mod_eq_of_lt (by omega)

/-- The other scores stay. -/
theorem score_setScore_other (hlo : lo ≤ 16) (h : k + 8 ≤ lo ∨ lo + 8 ≤ k) :
    score (setScore s r i lo v) r i k = score s r i k := by
  rw [score, setScore_word s r i v hlo, fieldN_setFieldN_other _ _ h, score]

theorem score_le (k : Nat) : score s r i k ≤ 255 := Nat.le_of_lt_succ (Nat.mod_lt _ (by decide))

end

/-- R308: class 1h takes one off each of the three scores. -/
theorem score_applyClass_normal (s : State) (m : Measure) {k : Nat} (hk : k ∈ [0, 8, 16]) :
    score (applyClass s m 1) m.rail m.member k = score s m.rail m.member k - 1 := by
  have hle : ∀ (t : State) lo, score t m.rail m.member lo - 1 ≤ 255 := fun t lo =>
    (Nat.sub_le _ _).trans (score_le t _ _ lo)
  simp only [List.mem_cons, List.not_mem_nil, or_false] at hk
  simp only [applyClass, List.foldl_cons, List.foldl_nil]
  rcases hk with rfl | rfl | rfl
  · rw [score_setScore_other, score_setScore_other, score_setScore_self] <;> simp [hle]
  · rw [score_setScore_other, score_setScore_self, score_setScore_other] <;> simp [hle]
  · rw [score_setScore_self, score_setScore_other, score_setScore_other] <;> simp [hle]

/-- R308: class 4h of a state that was not forced adds one to the open score, which holds at 255. -/
theorem score_applyClass_open (s : State) {m : Measure} (h : m.forced = false) :
    score (applyClass s m 4) m.rail m.member 0 = min (score s m.rail m.member 0 + 1) 255 := by
  simp only [applyClass, h, Bool.and_false, Bool.false_eq_true, if_false]
  exact score_setScore_self _ _ _ _ (by decide) (Nat.min_le_right _ _)

/-- Settles O32: the measurement that is due is classified (`exec_supervisionClassify_due`), its class by the bounds of R307
(`classOf_against`, `classOf_flat`, `classOf_moved`), the scores by `score_applyClass_normal` and `score_applyClass_open`. -/
theorem measurementsAreClassified : Obligations.MeasurementsAreClassified := by
  unfold Obligations.MeasurementsAreClassified
  refine ⟨fun r i s m => exec_supervisionClassify_due, fun r i s => exec_supervisionClassify_none,
    fun s m => ⟨fun h => classOf_against h, fun h hflat => classOf_flat h hflat, fun h hmoved hsteep => ?steep,
      fun h hmoved hupper hlow => ?low, fun h hmoved hupper hlower => ?normal⟩,
    fun s m _ _ => ⟨fun k => score_applyClass_normal s m, score_applyClass_open s, rfl⟩⟩
  case steep => exact (classOf_moved h hmoved).trans (if_pos hsteep)
  case low => exact (classOf_moved h hmoved).trans ((if_neg (not_lt.mpr hupper)).trans (if_pos hlow))
  case normal =>
    exact (classOf_moved h hmoved).trans ((if_neg (not_lt.mpr hupper)).trans (if_neg (not_lt.mpr hlower)))

end Sys2Proof.Machine
end

section
/-! PROOF. What the rail supervisor does at its times, and the releases and clears of its records (R311, R313, R322, R323, R329,
R334, R345). -/
namespace Sys2Proof.Machine

/-! ### Times that have passed -/

section
variable {r : Fin 12} {s : State} (h5 : s.on 5 = true)
include h5

/-- R313: a member blind for the blind grace earns verdict 3h, once in its run. -/
theorem exec_blindGraceExpiry {i : Fin 16} {f : Nat} (hi : i.val < memberCount s r)
    (hblind : ((s.rail r).members.getD i {}).blindFrom = some f)
    (hnew : ((s.rail r).members.getD i {}).blindDone = false) (hdue : f + 200 * s.nat (svIdx r) 0x0B ≤ s.t) :
    exec (.blindGraceExpiry r i) s = .next (noteVerdict (s.modRail r (fun x => { x with
      members := modAt x.members i (fun m => { m with blindDone := true }) })) r i 3 (s.t + 1)) := by
  change execBlindGraceExpiry r i s = _
  simp only [execBlindGraceExpiry, hblind]
  exact when_true (by rw [h5, hnew]; simp [hi, cyclesUs, hdue]) s _

/-- R322: a watched channel without a valid result for the grace qualifies cause 6h, once in its run. -/
theorem exec_voltageChannelLost {c : Fin 64} {f : Nat} (hruns : watchRuns s r = true)
    (hlost : (s.rail r).lost.find? (fun e => e.1 == c.val) = some (c.val, f, false))
    (hdue : f + 200 * s.nat (svIdx r) 0x0B ≤ s.t) :
    exec (.voltageChannelLost r c) s = .next (settleAll (qualify (s.modRail r (fun x => { x with
      lost := x.lost.map (fun e => if e.1 = c.val then (e.1, e.2.1, true) else e) })) r [6])) := by
  change execVoltageChannelLost r c s = _
  simp only [execVoltageChannelLost, hlost]
  exact when_true (by simp [h5, hruns, cyclesUs, hdue]) s _

/-- R323: an output outside its window for the timeout qualifies cause 5h, once in its run. -/
theorem exec_regulationTimeout (hout : regOutside s r = true) (hrun : railStatus s r = 1)
    (hnew : (s.rail r).regDone = false) (hdue : 200000 * s.nat (svIdx r + 1) 8 ≤ (s.rail r).reg.held s.t) :
    exec (.regulationTimeout r) s =
      .next (settleAll (qualify (s.modRail r (fun x => { x with regDone := true })) r [5])) :=
  when_true (by simp [h5, hout, hrun, hnew, cyclesMs, hdue]) s _

/-- R329: a takeover that is due earns verdict 4h, is counted, and makes the rail the owner of the phase's fault. -/
theorem exec_railTakeover {i : Fin 16} (hdue : takeoverDue s r i = true) : exec (.railTakeover r i) s =
    .next (settleAll (takeOwner ((noteVerdict s r i 4 (s.t + 1)).bump (svIdx r + 2) 0x13 16) (memberPhase s r i))) :=
  when_true (by simp [h5, hdue]) s _

end

/-! ### Releases and clears -/

theorem exec_memberRelease (r : Fin 12) (w : Wr) (s : State) :
    exec (.memberRelease r w) s = .next (accessWrite s w false (svIdx r + 4) 2 (releaseEff r)) := rfl

theorem exec_clearRecord (r : Fin 12) (w : Wr) (s : State) :
    exec (.clearRecord r w) s = .next (accessWrite s w false (svIdx r + 2) 0x0C (clearRecordEff r)) := rfl

/-! ### Verdicts in force -/

/-- R311: a cycle with no action, no commit and no apply brings the one verdict due into force. -/
theorem railBegin_verdict {s : State} {r i c d : Nat} (hact : (s.rail r).act = 0) (happly : (s.rail r).applyNext = false)
    (hcommit : (s.rail r).commit = false) (hv : (s.rail r).verdicts = [(d, i, c)]) (hdue : d ≤ s.t) :
    railBegin s r = enforceVerdict (s.modRail r (fun y => { y with
      commit := false, coming := (s.rail r).coming, act := 0, applyNext := false, verdicts := [] })) r i c := by
  simp [railBegin, railAction, hact, happly, hcommit, hv, hdue]

/-- R311, R330: a verdict of another code than 5h takes force whatever the member holds. -/
theorem enforceVerdict_of_ne {c : Nat} (hc : c ≠ 5) (s : State) (r i : Nat) : enforceVerdict s r i c = giveVerdict s r i c :=
  if_neg (fun h => hc h.1)

/-- R311, R312, R342: the words of a verdict: the verdict itself, the member excluded, the rail's flag. -/
def verdictWritten (s : State) (r i code : Nat) : State :=
  ((s.putN (svIdx r + 3) (1 + i) (code * 268435456)).setBits (svIdx r + 4) 1 (2 ^ i)).setBits (svIdx r + 2) 0x0D
    (if code ≤ 3 then 1 else 2)

/-- R342: a first verdict other than 5h is written and reported. -/
theorem giveVerdict_first {s : State} {r i c : Nat} (hc : c ≠ 5) (h : verdict s r i = 0) :
    giveVerdict s r i c = (verdictWritten s r i c).report (24 + r) .uc i := by
  simp only [giveVerdict, h, if_true, if_neg hc, verdictWritten]

section
variable (s : State) (r : Nat) {i : Nat} (hi : i < 16)
include hi

/-- R346: the verdict stands in its word. -/
theorem verdictWritten_verdict {c : Nat} (hc : c < 16) : verdict (verdictWritten s r i c) r i = c := by
  have hword : (verdictWritten s r i c).obj (svIdx r + 3) (1 + i) = BitVec.ofNat 32 (c * 268435456) := by
    rw [verdictWritten, State.setBits_obj, if_neg (objKey_ne_of_object (by omega) (by decide) (by omega)),
      State.setBits_obj, if_neg (objKey_ne_of_object (by omega) (by decide) (by omega)), State.putN_obj, if_pos rfl]
  rw [verdict, State.nat, hword, fieldN, BitVec.toNat_ofNat]
  omega

/-- R312: the member is excluded. -/
theorem verdictWritten_excludes (c : Nat) : (verdictWritten s r i c).flag (svIdx r + 4) 1 i = true := by
  have hother : ∀ t : State, ∀ n, (t.setBits (svIdx r + 2) 0x0D n).flag (svIdx r + 4) 1 i = t.flag (svIdx r + 4) 1 i :=
    fun t n => by
      rw [State.flag, State.setBits_obj, if_neg (objKey_ne_of_object (by decide) (by decide) (by omega)), State.flag]
  rw [verdictWritten, hother, State.setBits_flag _ _ _ _ (by omega), Nat.testBit_two_pow_self, Bool.or_true]

theorem verdictWritten_keepsWords (c : Nat) :
    s.keepsWords (verdictWritten s r i c) [(svIdx r + 3, 1 + i), (svIdx r + 4, 1), (svIdx r + 2, 0x0D)] :=
  (((State.keepsWords.refl s _).putN (by omega) (by simp) _).setBits (by decide) (by simp) _).setBits (by decide) (by simp) _

end

section
variable (s : State) (r i c : Nat)

theorem verdictWritten_keepsBytes : s.keepsBytes (verdictWritten s r i c) := fun a => by
  rw [verdictWritten, State.setBits_memByte, State.setBits_memByte, State.putN_memByte]

theorem verdictWritten_raised : (verdictWritten s r i c).raised = s.raised := by
  rw [verdictWritten, State.setBits_raised, State.setBits_raised, State.putN_raised]

theorem verdictWritten_t : (verdictWritten s r i c).t = s.t := by
  rw [verdictWritten, State.setBits_t, State.setBits_t, State.putN_t]

end

/-- R693, R694: a report is the last raised, with the present time. -/
theorem State.report_raised (s : State) (src : Nat) (cls : FClass) {d : Nat} (hd : d < 65536) :
    (s.report src cls d).raised = s.raised ++ [⟨s.t, src, cls, d⟩] := by
  rw [State.report, Nat.mod_eq_of_lt hd]

/-- Settles O33: the times by their conditions (`exec_blindGraceExpiry` and its companions), the writes by their effects
(`accessWrite_done`), a verdict due by `railBegin_verdict`, and what it leaves by the words it writes (`verdictWritten`). -/
theorem supervisionActsAndReleases : Obligations.SupervisionActsAndReleases := by
  unfold Obligations.SupervisionActsAndReleases
  refine ⟨fun r i s f h5 => exec_blindGraceExpiry h5, fun r c s f h5 => exec_voltageChannelLost h5,
    fun r s h5 => exec_regulationTimeout h5, fun r i s h5 => exec_railTakeover h5,
    fun r w s => ⟨fun hp => ?release, fun hp => ?clear⟩,
    fun r i c d s hact happly hcommit hv hdue hc => ?due, fun r i c s _ hi _ hc h => ?force⟩
  case release => rw [exec_memberRelease, accessWrite_done hp rfl, typedWrite_value]
  case clear => rw [exec_clearRecord, accessWrite_done hp rfl]
  case due => rw [railBegin_verdict hact happly hcommit hv hdue, enforceVerdict_of_ne hc]
  case force =>
    rw [giveVerdict_first (by omega) h]
    refine ⟨?verdict, ?excluded, ?raised, (verdictWritten_keepsWords s r hi c).of_od (State.report_od ..), ?bytes⟩
    case verdict =>
      rw [verdict, State.nat, State.report_obj]
      exact verdictWritten_verdict s r hi (by omega)
    case excluded =>
      rw [State.flag, State.report_obj]
      exact verdictWritten_excludes s r hi c
    case raised => rw [State.report_raised _ _ _ (by omega), verdictWritten_raised, verdictWritten_t]
    case bytes => exact fun a => (State.report_memByte ..).trans (verdictWritten_keepsBytes s r i c a)

end Sys2Proof.Machine
end

section
/-! PROOF. The saturation release (R336). -/
namespace Sys2Proof.Machine

theorem exec_saturationRelease (r : Fin 12) (w : Wr) (s : State) :
    exec (.saturationRelease r w) s = .next (accessWrite s w false (svIdx r + 4) 3 (satReleaseEff r)) := rfl

/-! ### What the checks admit -/

/-- R444: a word that a write which passes the checks carries lies in the range of its row. -/
theorem checkWrite_accepted_admits {s : State} {w : Wr} {auth : Bool} {i j : Nat} {row : ObjRow}
    (hr : objRow i j = some row) (h : checkWrite s w auth i j = .accepted) : row.rng.admits (carried w i j) = true := by
  simp only [checkWrite, hr] at h
  split_ifs at h with hdomain hprivilege hlength hpair hreadOnly hauth hrange
  simpa [carried, typedWrite, hr] using hrange

/-- R348: the saturation release is a write-only byte that admits 1h alone. -/
theorem objRow_saturationRelease (r : Fin 12) : objRow (svIdx r + 4) 3 = some ⟨3, .u8, .wo, 0, .rng 1 1⟩ := by
  revert r
  decide

theorem carried_saturationRelease {r : Fin 12} {w : Wr} {s : State} (h : checkWrite s w false (svIdx r + 4) 3 = .accepted) :
    carried w (svIdx r + 4) 3 = 1 := by
  have hadmits := checkWrite_accepted_admits (objRow_saturationRelease r) h
  simp only [Rng.admits, Bool.and_eq_true, decide_eq_true_eq] at hadmits
  bv_omega

/-! ### A write that is not accepted -/

/-- R14, R465: a write by a master that is no engine, which can make no access or meets a condition of R444, leaves every
object word but the counts of refused accesses, and every byte of memory. -/
theorem accessWrite_refused_keeps {s : State} {w : Wr} {auth : Bool} {i j : Nat} (eff : WEff)
    (hm : ∀ e u, w.master ≠ .engine e u) (hc : checkWrite s w auth i j ≠ .accepted) :
    let t := accessWrite s w auth i j eff
    s.keepsWords t [(0x2010, 3), (0x2010, 4), (0x2010, 5)] ∧ s.keepsBytes t ∧ s.keepsRest t := by
  cases hlive : masterLive s w.master with
  | false =>
    rw [accessWrite_dead s w auth i j eff hlive]
    exact ⟨State.keepsWords.refl s _, fun _ => rfl, rfl⟩
  | true =>
    rw [accessWrite_refused s w auth i j eff hlive hc, endWrite_no_engine s hm]
    refine ⟨countRefusal_keepsWords _ _, ?_⟩
    obtain ⟨od, cyc, h⟩ := countRefusal_frame (recordWrite s w.master i j (checkWrite s w auth i j)) (checkWrite s w auth i j)
    rw [h]
    exact ⟨fun _ => rfl, rfl⟩

/-! ### The caps -/

/-- R336: the cap of every group at its largest value. -/
def capsReleased (s : State) (r : Nat) : State :=
  ((s.putN (svIdx r + 2) 4 134217727).putN (svIdx r + 2) 5 134217727).putN (svIdx r + 2) 6 134217727

theorem satReleaseEff_releases (r : Nat) (w : Wr) (auth : Bool) (s : State) :
    satReleaseEff r w auth s = (.accepted, settleAll (capsReleased s r)) := rfl

theorem capsReleased_cap (s : State) (r : Nat) {h : Nat} (hh : h < 3) :
    (capsReleased s r).nat (svIdx r + 2) (4 + h) = 134217727 := by
  have hcases : h = 0 ∨ h = 1 ∨ h = 2 := by omega
  rcases hcases with rfl | rfl | rfl <;> simp [capsReleased, State.nat]

/-- Settles O34: only 1h passes the checks (`carried_saturationRelease`) and releases the caps (`satReleaseEff_releases`); any
other value is refused (`accessWrite_refused_keeps`). -/
theorem saturationReleaseSetsTheCaps : Obligations.SaturationReleaseSetsTheCaps := by
  unfold Obligations.SaturationReleaseSetsTheCaps
  refine fun r w s => ⟨fun hp => ⟨carried_saturationRelease hp.2, ?released, fun h hh => capsReleased_cap s r hh⟩,
    fun hv hm => ⟨_, exec_saturationRelease r w s, ?discarded⟩⟩
  case released => rw [exec_saturationRelease, accessWrite_done hp (satReleaseEff_releases ..), capsReleased]
  case discarded => exact accessWrite_refused_keeps _ hm (fun h => hv (carried_saturationRelease h))

end Sys2Proof.Machine
end

section
/-! PROOF. The canonical form of object store and memory (R17, R375, R449): every step keeps it. -/
namespace Sys2Proof.Machine

/-- Settles O3, by the two canonical forms' bits of what every step keeps (`step_moves`). -/
theorem stepKeepsCanonicalStores : Obligations.StepKeepsCanonicalStores := by
  unfold Obligations.StepKeepsCanonicalStores
  intro s t hs h
  simp only [State.canonical, Bool.and_eq_true] at hs ⊢
  exact ⟨(step_moves h).canonOd (by decide) hs.1, (step_moves h).canonMem (by decide) hs.2⟩

end Sys2Proof.Machine
end

section
/-! SUPPORT. Engines in the terms of the statements: what an engine and a register read as, when an instruction executes, and
the bits of mstatus as fields (R349, R354, R355). -/
namespace Sys2Proof.Machine

/-! ### One element of a list -/

theorem getD_modAt_other {α : Type} (l : List α) {n k : Nat} (f : α → α) (d : α) (h : k ≠ n) :
    (modAt l n f).getD k d = l.getD k d := by
  induction l generalizing n k with
  | nil => rfl
  | cons a t ih =>
    cases n with
    | zero =>
      obtain ⟨m, rfl⟩ := Nat.exists_eq_succ_of_ne_zero h
      rfl
    | succ n =>
      cases k with
      | zero => rfl
      | succ k => exact ih (by omega)

/-- Changes that agree on the element there is leave the same list. -/
theorem modAt_congr {α : Type} (l : List α) (n : Nat) {f g : α → α} (d : α) (h : f (l.getD n d) = g (l.getD n d)) :
    modAt l n f = modAt l n g := by
  induction l generalizing n with
  | nil => rfl
  | cons a t ih =>
    cases n with
    | zero => exact congrArg (· :: t) h
    | succ n => exact congrArg (a :: ·) (ih n h)

/-! ### Engines and registers -/

section
variable (s : State) (e : Nat)

/-- An engine that the state holds reads as it was changed. -/
theorem State.modEng_eng_self (f : Engine → Engine) (he : e < s.engines.length) : (s.modEng e f).eng e = f (s.eng e) :=
  getD_modAt_self s.engines e f {} he

/-- A change of one engine leaves the others. -/
theorem State.modEng_eng_other {k : Nat} (f : Engine → Engine) (h : k ≠ e) : (s.modEng e f).eng k = s.eng k :=
  getD_modAt_other s.engines f {} h

/-- Changes of an engine that agree on it as it stands are one change. -/
theorem State.modEng_congr {f g : Engine → Engine} (h : f (s.eng e) = g (s.eng e)) : s.modEng e f = s.modEng e g :=
  congrArg (fun l => { s with engines := l }) (modAt_congr s.engines e {} h)

end

/-- R349: a write of x0 is discarded. -/
@[simp] theorem Engine.setReg_zero (g : Engine) (v : Word) : g.setReg 0 v = g := rfl

@[simp] theorem Engine.reg_zero (g : Engine) : g.reg 0 = 0 := rfl

/-- A register that the engine holds reads as it was written. -/
theorem Engine.setReg_reg_self (g : Engine) (v : Word) {n : Nat} (h0 : 0 < n) (hn : n < g.x.length) :
    (g.setReg n v).reg n = v := by
  rw [Engine.setReg, if_neg h0.ne', Engine.reg, if_neg h0.ne', getD_modAt_self _ _ _ _ hn]

/-- A write of one register leaves the others. -/
theorem Engine.setReg_reg_other (g : Engine) (v : Word) {n m : Nat} (h : m ≠ n) : (g.setReg n v).reg m = g.reg m := by
  rcases Nat.eq_zero_or_pos n with rfl | h0
  · rfl
  · rw [Engine.setReg, if_neg h0.ne', Engine.reg, getD_modAt_other _ _ _ h, Engine.reg]

@[simp] theorem Engine.setReg_waited (g : Engine) (n : Nat) (v : Word) : (g.setReg n v).waited = g.waited := by
  unfold Engine.setReg
  split <;> rfl

/-- R355: what a completed instruction leaves of an engine no access of which waits: the pc moves on, and it is counted. -/
theorem Engine.retire_of_no_wait {g : Engine} (h : g.waited = none) : g.retire =
    { g with pc := g.pc + 4, minstret := if g.inhibit.getLsbD 2 then g.minstret else g.minstret + 1 } := by
  unfold Engine.retire Engine.retireBy Engine.count
  rw [← h]

/-! ### Instructions -/

/-- An instruction of an engine that executes acts. -/
theorem instruction_runs {s : State} {e : Nat} (h : engineRuns s e = true) (f : Engine → State) :
    instruction s e f = .next (f (s.eng e)) := if_pos h

/-- R362: the check of an Xtide instruction, which user mode alone makes. -/
theorem xtidePasses_iff (g : Engine) (kind : PmpKind) (a : Nat) :
    xtidePasses g kind a = true ↔ (g.user = true → pmpAllows g true kind a = true) := by
  cases hu : g.user <;> simp [xtidePasses, hu]

end Sys2Proof.Machine
end

section
/-! PROOF. TANG, TREACH and QMUL (R354, R359, R362, R364, R54), and the engine with an access that waits, which refutes the
statement. -/
namespace Sys2Proof.Machine

/-! ### What the instructions write -/

section
variable {e : Fin 16} {s : State} (h : engineRuns s e = true) (rd rs1 rs2 : Fin 32)
include h

/-- R359, R364: with D5 ON and the PMP passed, TANG writes the angle. -/
theorem exec_tang_angle (h5 : s.on 5 = true)
    (hpmp : xtidePasses (s.eng e) .load (tangAddr (((s.eng e).reg rs1).toNat % 8)) = true) :
    exec (.tang e rd rs1) s = .next (writeReg s e rd (s.wheel (((s.eng e).reg rs1).toNat % 8)).angle) := by
  change execTang e rd rs1 s = _
  rw [execTang, instruction_runs h]
  exact congrArg _ (if_neg (by simp [h5, hpmp]))

/-- R362, R364: with D5 not ON, or refused by the PMP, TANG takes a load access fault. -/
theorem exec_tang_fault
    (hf : s.on 5 = false ∨ xtidePasses (s.eng e) .load (tangAddr (((s.eng e).reg rs1).toNat % 8)) = false) :
    exec (.tang e rd rs1) s =
      .next (raiseException s e 5 (BitVec.ofNat 32 (tangAddr (((s.eng e).reg rs1).toNat % 8)))) := by
  change execTang e rd rs1 s = _
  rw [execTang, instruction_runs h]
  exact congrArg _ (if_pos hf)

/-- R359: TREACH compares the angle difference with 0. -/
theorem exec_treach : exec (.treach e rd rs1 rs2) s =
    .next (writeReg s e rd (if 0 ≤ ((s.eng e).reg rs1 - (s.eng e).reg rs2).toInt then 1 else 0)) := by
  change execTreach e rd rs1 rs2 s = _
  rw [execTreach, instruction_runs h]
  simp [angReached, angDiff]

/-- R359, R54: QMUL writes the product, rounded and limited. -/
theorem exec_qmul : exec (.qmul e rd rs1 rs2) s = .next (writeReg s e rd (word32 (clamp32
    (roundDiv (((s.eng e).reg rs1).toInt * ((s.eng e).reg rs2).toInt) 65536)))) := by
  change execQmul e rd rs1 rs2 s = _
  rw [execQmul, instruction_runs h, qmul]

end

/-- R54: a quotient by 65536 rounded to the nearest lies within one half of it. -/
theorem roundDiv_nearest (n : Int) : |2 * (roundDiv n 65536 * 65536 - n)| ≤ 65536 := by
  rw [abs_le, roundDiv, Int.fdiv_eq_ediv_of_nonneg _ (by decide), Int.fdiv_eq_ediv_of_nonneg _ (by decide)]
  split <;> omega

/-! ### The engine that refutes the statement -/

/-- R355: what the statement says that an instruction leaves of an engine: register `rd` written, the pc and the retired count
moved on, and everything else as it was. -/
def Engine.stepWith (g : Engine) (rd : Nat) (v : Word) : Engine :=
  { g.setReg rd v with pc := g.pc + 4, minstret := if g.inhibit.getLsbD 2 then g.minstret else g.minstret + 1 }

theorem Engine.stepWith_waited (g : Engine) (rd : Nat) (v : Word) : (g.stepWith rd v).waited = g.waited :=
  Engine.setReg_waited g rd v

/-- Where no access of the engine waits, an instruction leaves what the statement says. -/
theorem writeReg_of_no_wait {s : State} {e : Nat} (h : (s.eng e).waited = none) (rd : Nat) (v : Word) :
    writeReg s e rd v = s.modEng e (fun g => g.stepWith rd v) := by
  refine State.modEng_congr s e ?_
  rw [Engine.retire_of_no_wait (by rw [Engine.setReg_waited, h]), Engine.stepWith, Engine.setReg]
  split <;> rfl

/-- What O35 says of the three instructions holds of an engine that executes with no access that waits. -/
theorem xtideInstructions_stepWith {e : Fin 16} {s : State} (h : engineRuns s e = true) (hwait : (s.eng e).waited = none)
    (rd rs1 rs2 : Fin 32) :
    let g := s.eng e
    let w := (g.reg rs1).toNat % 8
    let puts := fun v : Word => s.modEng e (fun g => g.stepWith rd v)
    (s.on 5 = true → (g.user = true → pmpAllows g true .load (tangAddr w) = true) →
      exec (.tang e rd rs1) s = .next (puts (s.wheel w).angle)) ∧
    (s.on 5 = false ∨ (g.user = true ∧ pmpAllows g true .load (tangAddr w) = false) →
      exec (.tang e rd rs1) s = .next (raiseException s e 5 (BitVec.ofNat 32 (tangAddr w)))) ∧
    exec (.treach e rd rs1 rs2) s = .next (puts (if 0 ≤ (g.reg rs1 - g.reg rs2).toInt then 1 else 0)) ∧
    exec (.qmul e rd rs1 rs2) s =
      .next (puts (word32 (clamp32 (roundDiv ((g.reg rs1).toInt * (g.reg rs2).toInt) 65536)))) := by
  intro g w puts
  have hputs : ∀ v, writeReg s e rd v = puts v := writeReg_of_no_wait hwait rd
  refine ⟨fun h5 hpmp => ?angle, fun hf => ?fault, ?treach, ?qmul⟩
  case angle => rw [exec_tang_angle h rd rs1 h5 ((xtidePasses_iff _ _ _).mpr hpmp), hputs]
  case fault =>
    refine exec_tang_fault h rd rs1 (hf.imp_right fun ⟨hu, hpmp⟩ => ?_)
    exact Bool.eq_false_iff.mpr fun hx => Bool.eq_false_iff.mp hpmp ((xtidePasses_iff _ _ _).mp hx hu)
  case treach => rw [exec_treach h, hputs]
  case qmul => rw [exec_qmul h, hputs]

/-- Reset, but with an access of E0 noted as waiting (R33, R387), which the statement does not exclude. -/
def State.accessWaits : State := State.reset.modEng 0 (fun g => { g with waited := some (0, 0) })

theorem accessWaits_runs : engineRuns State.accessWaits 0 = true := by decide +kernel

theorem accessWaits_waited : (State.accessWaits.eng 0).waited = some (0, 0) := by decide +kernel

theorem writeReg_waited (s : State) (e rd : Nat) (v : Word) (he : e < s.engines.length) :
    ((writeReg s e rd v).eng e).waited = none := by
  rw [writeReg, State.modEng_eng_self _ _ _ he]
  rfl

/-- The completed instruction has cleared the note that the statement keeps. -/
theorem accessWaits_writeReg_ne (v : Word) :
    writeReg State.accessWaits 0 0 v ≠ State.accessWaits.modEng 0 (fun g => g.stepWith 0 v) := by
  intro h
  have hlen : 0 < State.accessWaits.engines.length := by decide +kernel
  have hnone := writeReg_waited State.accessWaits 0 0 v hlen
  rw [h, State.modEng_eng_self _ _ _ hlen, Engine.stepWith_waited, accessWaits_waited] at hnone
  cases hnone

/-- Refutes O35: on E0 with an access noted as waiting (`Engine.waited`, the model's own record), TREACH x0, x0, x0 completes
and clears the note, while the statement has the instruction change nothing but rd, the pc and the retired count. Where no
access waits the three instructions leave what the statement says (`xtideInstructions_stepWith`), registers read as it says
(`Engine.setReg_zero`, `Engine.setReg_reg_self`, `Engine.setReg_reg_other`), and the quotient is the nearest
(`roundDiv_nearest`). -/
theorem not_engineInstructionsWriteTheirRegister : ¬ Obligations.EngineInstructionsWriteTheirRegister := by
  unfold Obligations.EngineInstructionsWriteTheirRegister
  rintro ⟨hall, -⟩
  obtain ⟨-, -, htreach, -⟩ := hall 0 0 0 0 State.accessWaits accessWaits_runs
  rw [exec_treach accessWaits_runs] at htreach
  exact accessWaits_writeReg_ne _ (Host.Outcome.next.inj htreach)

end Sys2Proof.Machine
end

section
/-! PROOF. Traps, interrupts and exceptions of an engine (R353, R355, R361, R378, R406). -/
namespace Sys2Proof.Machine

/-! ### The trap -/

/-- A bit of a word is its field of one bit. -/
theorem getLsbD_iff_fieldN (v : Word) (b : Nat) : v.getLsbD b = true ↔ fieldN v.toNat b 1 = 1 := by
  rw [BitVec.getLsbD, Nat.testBit_eq_decide_div_mod_eq, decide_eq_true_iff, fieldN, Nat.pow_one]

/-- R355: mstatus as a count after a trap: MIE at MPIE, 0 at MIE, the mode at MPP. -/
def Engine.trapStatus (g : Engine) : Nat :=
  setFieldN (setFieldN (setFieldN g.mstatus.toNat 7 1 (fieldN g.mstatus.toNat 3 1)) 3 1 0) 11 2 (if g.user then 0 else 3)

section
variable (g : Engine)

theorem Engine.trapStatus_mpie : fieldN g.trapStatus 7 1 = fieldN g.mstatus.toNat 3 1 := by
  rw [Engine.trapStatus, fieldN_setFieldN_other _ _ (by decide), fieldN_setFieldN_other _ _ (by decide),
    fieldN_setFieldN_self]
  exact Nat.mod_eq_of_lt (Nat.mod_lt _ (by decide))

theorem Engine.trapStatus_mie : fieldN g.trapStatus 3 1 = 0 := by
  rw [Engine.trapStatus, fieldN_setFieldN_other _ _ (by decide), fieldN_setFieldN_self, Nat.zero_mod]

theorem Engine.trapStatus_mpp : fieldN g.trapStatus 11 2 = if g.user then 0 else 3 := by
  rw [Engine.trapStatus, fieldN_setFieldN_self]
  split <;> rfl

variable (interrupt : Bool) (cause : Nat) (v : Word)

theorem Engine.trap_mstatus : (g.trap interrupt cause v).mstatus.toNat = g.trapStatus :=
  Nat.mod_eq_of_lt (setFieldN_lt (setFieldN_lt (setFieldN_lt g.mstatus.isLt (by decide)) (by decide)) (by decide))

theorem Engine.trap_mpie : (g.trap interrupt cause v).mstatus.getLsbD 7 = g.mstatus.getLsbD 3 := by
  rw [Bool.eq_iff_iff, getLsbD_iff_fieldN, getLsbD_iff_fieldN, Engine.trap_mstatus, Engine.trapStatus_mpie]

theorem Engine.trap_mie : (g.trap interrupt cause v).mstatus.getLsbD 3 = false := by
  rw [Bool.eq_false_iff, ne_eq, getLsbD_iff_fieldN, Engine.trap_mstatus, Engine.trapStatus_mie]
  decide

/-- The cause and, for an interrupt, bit 31. -/
theorem Engine.trap_mcause (h : cause < 2147483648) :
    (g.trap interrupt cause v).mcause.toNat = cause + if interrupt then 2147483648 else 0 := by
  refine Nat.mod_eq_of_lt ?_
  split <;> omega

/-- R355: a vectored interrupt enters at its place in the table, anything else at the base. -/
theorem Engine.trap_pc : (g.trap interrupt cause v).pc =
    if interrupt = true ∧ g.mtvec.getLsbD 0 = true then (g.mtvec &&& 0xFFFFFFFC) + BitVec.ofNat 32 (4 * cause)
      else g.mtvec &&& 0xFFFFFFFC := by
  simp only [Engine.trap, Bool.and_eq_true]

end

/-! ### Interrupts -/

/-- R361, R406: the first pending interrupt of an engine that takes it traps. -/
theorem exec_interruptTrap {e : Fin 16} {s : State} {c : Nat} {l : List Nat} (h2 : s.on 2 = true)
    (hcode : engineCode s e = 1 ∨ engineCode s e = 2) (htakes : (s.eng e).takesInterrupts = true)
    (hwait : waitCompletes s e = false) (hp : pendingInterrupts s e = c :: l) :
    exec (.interruptTrap e) s = .next (s.modEng e (fun g => g.trap true c 0)) := by
  change execInterruptTrap e s = _
  simp only [execInterruptTrap, hp]
  exact when_true (by simpa [h2, htakes, hwait] using hcode) s _

/-! ### Synchronous exceptions -/

/-- R378: the count and the score of an exception. -/
def exceptionCounted (s : State) (e : Nat) : State := (s.bump (0x2700 + e) 6 32).bump (0x2700 + e) 5 8

/-- What the score does to the engine itself changes no object word, no byte and no other engine. -/
theorem scoreException_cases (s : State) (e : Nat) :
    scoreException s e = exceptionCounted s e ∨
      scoreException s e = (exceptionCounted s e).modEng e (fun g => { g with faultDue := true }) := by
  unfold scoreException exceptionCounted
  dsimp only
  split
  · exact .inr rfl
  · exact .inl rfl

theorem exceptionCounted_count (s : State) (e : Nat) :
    (exceptionCounted s e).nat (0x2700 + e) 6 = min (s.nat (0x2700 + e) 6 + 1) 4294967295 := by
  rw [exceptionCounted, State.nat, State.bump_obj, if_neg (by simp)]
  exact State.bump_nat s _ _ (by decide)

theorem exceptionCounted_keepsWords (s : State) (e : Nat) :
    s.keepsWords (exceptionCounted s e) [(0x2700 + e, 5), (0x2700 + e, 6)] :=
  ((State.keepsWords.refl s _).bump (by decide) (by simp) 32).bump (by decide) (by simp) 8

section
variable (s : State) (e cause : Nat) (v : Word)

/-- R355, R378: what a synchronous exception leaves: the trap, the count and the score, and perhaps a fault due. -/
theorem raiseException_cases :
    let t := exceptionCounted (s.modEng e (fun g => g.trap false cause v)) e
    raiseException s e cause v = t ∨ raiseException s e cause v = t.modEng e (fun g => { g with faultDue := true }) :=
  scoreException_cases _ e

theorem raiseException_od :
    (raiseException s e cause v).od = (exceptionCounted (s.modEng e (fun g => g.trap false cause v)) e).od := by
  rcases raiseException_cases s e cause v with h | h <;> exact (congrArg State.od h).trans rfl

theorem raiseException_memByte (a : Nat) : (raiseException s e cause v).memByte a = s.memByte a := by
  rcases raiseException_cases s e cause v with h | h <;> exact (congrArg (fun t => t.memByte a) h).trans rfl

theorem raiseException_eng_other {k : Nat} (hk : k ≠ e) : (raiseException s e cause v).eng k = s.eng k := by
  have ht : (exceptionCounted (s.modEng e (fun g => g.trap false cause v)) e).eng k = s.eng k :=
    State.modEng_eng_other s e _ hk
  rcases raiseException_cases s e cause v with h | h
  · rwa [h]
  · rw [h]
    exact (State.modEng_eng_other _ e _ hk).trans ht

end

/-- Settles O36: the trap by its fields (`Engine.trap_mpie` and its companions), an interrupt by `exec_interruptTrap`, an
exception by the trap and what is counted (`raiseException_cases`). -/
theorem engineTrapSavesAndVectors : Obligations.EngineTrapSavesAndVectors := by
  unfold Obligations.EngineTrapSavesAndVectors
  refine ⟨fun g interrupt cause v hc => ?trap,
    fun e s c l h2 hcode htakes hwait hp => exec_interruptTrap h2 hcode htakes hwait hp, fun e cause v s _ => ?exception⟩
  case trap =>
    refine ⟨rfl, g.trap_mcause _ _ _ hc, rfl, rfl, g.trap_mpie _ _ _, g.trap_mie _ _ _, ?_, rfl, rfl, rfl, g.trap_pc _ _ _⟩
    rw [Engine.trap_mstatus, Engine.trapStatus_mpp]
  case exception =>
    have hod := raiseException_od s e cause v
    have hmod : ∀ x y, (s.modEng e (fun g => g.trap false cause v)).obj x y = s.obj x y := fun _ _ => rfl
    refine ⟨?_, ?_, fun a => raiseException_memByte s e cause v a, fun k hk => raiseException_eng_other s e cause v hk⟩
    · rw [State.nat, obj_of_od hod]
      exact exceptionCounted_count (s.modEng e _) e
    · exact (exceptionCounted_keepsWords (s.modEng e _) e).of_od hod

end Sys2Proof.Machine
end

section
/-! PROOF. LR.W, SC.W and AMO (R349 to R353). -/
namespace Sys2Proof.Machine

/-! ### The checks of an atomic operation -/

section
variable {s : State} {e : Nat} {g : Engine} {v : Word} {misaligned fault : Nat} {kinds : List PmpKind}
  {f : Nat → Region → State}

/-- R351: a misaligned address is an exception. -/
theorem atomicAt_misaligned (h : v.toNat % 4 ≠ 0) :
    atomicAt s e g v misaligned kinds fault f = raiseException s e misaligned v := if_pos h

/-- R352: an aligned address elsewhere than in the own D-TCM or system SRAM is a store access fault. -/
theorem atomicAt_elsewhere (h : v.toNat % 4 = 0) (ht : atomicTarget e v.toNat = none) :
    atomicAt s e g v misaligned kinds fault f = raiseException s e 7 v := by
  rw [atomicAt, if_neg (by simp [h]), ht]
  rfl

/-- R352, R365: an aligned address of either that the PMP lets pass is worked on. -/
theorem atomicAt_works {r : Region} {a : Nat} (h : v.toNat % 4 = 0) (ht : atomicTarget e v.toNat = some (r, a))
    (hpmp : ∀ k ∈ kinds, pmpAllows g g.accessUser k v.toNat = true) :
    atomicAt s e g v misaligned kinds fault f = f a r := by
  rw [atomicAt, if_neg (by simp [h]), ht]
  exact if_pos (List.all_eq_true.mpr hpmp)

end

/-! ### The operations -/

/-- R353: the word loaded, and reserved, where it reads without error. -/
def lrRead (s : State) (e : Nat) (rd : Nat) (v : Word) (a : Nat) (r : Region) : State :=
  let (s1, ok) := eccRead s r a
  if ok then (s1.modEng e (fun g => { g with reservation := some (a, s.t) })).modEng e
      (fun g => (g.setReg rd (s.memWord a)).retire)
  else raiseException (ownTcmError s1 e r) e causeLoadFault v

/-- R353: rs2 stored under the reservation, which ends. -/
def scStore (s : State) (e : Nat) (rd : Nat) (x : Word) (a : Nat) : State :=
  let ok := reserved s e a
  let s1 := if ok then memStore s a x else s
  s1.modEng e (fun g => { (g.setReg rd (if ok then 0 else 1)).retire with reservation := none })

/-- R352: the word read, modified and written, where it reads without error. -/
def amoModify (s : State) (e : Nat) (op : AmoOp) (rd : Nat) (v x : Word) (a : Nat) (r : Region) : State :=
  let (s1, ok) := eccRead s r a
  if ok then
    let m := s.memWord a
    (memStore s1 a (amoValue op m x)).modEng e (fun g => (g.setReg rd m).retire)
  else raiseException (ownTcmError s1 e r) e causeStoreFault v

section
variable {e : Fin 16} {s : State} (h : engineRuns s e = true) (rd rs1 rs2 : Fin 32)
include h

theorem exec_lrW : exec (.lrW e rd rs1) s = .next (atomicAt s e (s.eng e) ((s.eng e).reg rs1) 4 [.load] 5
    (lrRead s e rd ((s.eng e).reg rs1))) := by
  change execLrW e rd rs1 s = _
  rw [execLrW, instruction_runs h]
  rfl

theorem exec_scW : exec (.scW e rd rs1 rs2) s = .next (atomicAt s e (s.eng e) ((s.eng e).reg rs1) 6 [.store] 7
    (fun a _ => scStore s e rd ((s.eng e).reg rs2) a)) := by
  change execScW e rd rs1 rs2 s = _
  rw [execScW, instruction_runs h]
  rfl

theorem exec_amo (op : AmoOp) : exec (.amo e op rd rs1 rs2) s = .next (atomicAt s e (s.eng e) ((s.eng e).reg rs1) 6
    [.load, .store] 7 (amoModify s e op rd ((s.eng e).reg rs1) ((s.eng e).reg rs2))) := by
  change execAmo e op rd rs1 rs2 s = _
  rw [execAmo, instruction_runs h]
  rfl

end

section
variable {s : State} {r : Region} {a : Nat} (h : eccRead s r a = (s, true))
include h

theorem lrRead_reads (e rd : Nat) (v : Word) : lrRead s e rd v a r =
    (s.modEng e (fun g => { g with reservation := some (a, s.t) })).modEng e
      (fun g => (g.setReg rd (s.memWord a)).retire) := by
  simp only [lrRead, h, if_true]

theorem amoModify_writes (e : Nat) (op : AmoOp) (rd : Nat) (v x : Word) : amoModify s e op rd v x a r =
    (memStore s a (amoValue op (s.memWord a) x)).modEng e (fun g => (g.setReg rd (s.memWord a)).retire) := by
  simp only [amoModify, h, if_true]

end

theorem scStore_reserved {s : State} {e a : Nat} (h : reserved s e a = true) (rd : Nat) (x : Word) : scStore s e rd x a =
    (memStore s a x).modEng e (fun g => { (g.setReg rd 0).retire with reservation := none }) := by
  simp only [scStore, h, if_true]

theorem scStore_unreserved {s : State} {e a : Nat} (h : reserved s e a = false) (rd : Nat) (x : Word) :
    scStore s e rd x a = s.modEng e (fun g => { (g.setReg rd 1).retire with reservation := none }) := by
  simp only [scStore, h, Bool.false_eq_true, if_false]

/-- R353: 256 cycles after the LR.W the reservation ends. -/
theorem exec_reservationTimeout {e : Fin 16} {s : State} {a t0 : Nat} (h : (s.eng e).reservation = some (a, t0))
    (hdue : t0 + 256 ≤ s.t) :
    exec (.reservationTimeout e) s = .next (s.modEng e (fun g => { g with reservation := none })) := by
  change execReservationTimeout e s = _
  simp only [execReservationTimeout, h]
  exact when_true (decide_eq_true hdue) s _

/-! ### A word written -/

theorem memStore_memWord (s : State) (a : Nat) (v : Word) : (memStore s a v).memWord a = v := State.putWord_memWord s a v

/-- Bytes outside a written word read as before. -/
theorem memStore_memByte_other (s : State) {a x : Nat} (v : Word) (h : x < a ∨ a + 4 ≤ x) :
    (memStore s a v).memByte x = s.memByte x := State.putWord_memByte_other s a v x h

/-- R353: a word written by any master ends every reservation of it. -/
theorem memStore_unreserved (s : State) {a : Nat} (v : Word) (ha : a % 4 = 0) :
    ∀ g ∈ (memStore s a v).engines, ∀ t0, g.reservation ≠ some (a, t0) := by
  intro g hg t0 hres
  have hword : a / 4 * 4 = a := by omega
  obtain ⟨g0, -, rfl⟩ := List.mem_map.mp hg
  revert hres
  split
  next r t hr =>
    split
    next => simp
    next hne =>
      intro hg
      rw [hr, Option.some.injEq, Prod.mk.injEq] at hg
      exact hne (hg.1.trans hword.symm)
  next hr => simp [hr]

/-- Settles O37: an operation by the checks (`atomicAt_works`, `atomicAt_misaligned`, `atomicAt_elsewhere`) and what it does at
its word (`lrRead_reads`, `scStore_reserved`, `scStore_unreserved`, `amoModify_writes`), a write by `memStore_unreserved`. -/
theorem atomicOperationsWork : Obligations.AtomicOperationsWork := by
  unfold Obligations.AtomicOperationsWork
  refine ⟨fun e rd rs1 rs2 op s r a hruns => ?works, fun e rd rs1 rs2 op s hruns => ?refused,
    fun e s a t0 hres hdue => exec_reservationTimeout hres hdue, fun s a v ha => ?store⟩
  case works =>
    intro g p hp ht
    refine ⟨fun hl hecc => ?lr, fun hs => ⟨fun hres => ?sc, fun hres => ?scFails⟩, fun hl hs hecc => ?amo⟩
    case lr => rw [exec_lrW hruns, atomicAt_works hp ht (by simpa using hl), lrRead_reads hecc]
    case sc => rw [exec_scW hruns, atomicAt_works hp ht (by simpa using hs), scStore_reserved hres]
    case scFails => rw [exec_scW hruns, atomicAt_works hp ht (by simpa using hs), scStore_unreserved hres]
    case amo => rw [exec_amo hruns, atomicAt_works hp ht (by simpa using ⟨hl, hs⟩), amoModify_writes hecc]
  case refused =>
    intro v
    rw [exec_lrW hruns, exec_scW hruns, exec_amo hruns]
    refine ⟨fun hv => ?_, fun hv ht => ?_⟩
    · rw [atomicAt_misaligned hv, atomicAt_misaligned hv, atomicAt_misaligned hv]
      exact ⟨rfl, rfl, rfl⟩
    · rw [atomicAt_elsewhere hv ht, atomicAt_elsewhere hv ht, atomicAt_elsewhere hv ht]
      exact ⟨rfl, rfl, rfl⟩
  case store =>
    exact ⟨memStore_memWord s a v, fun x hx => memStore_memByte_other s v hx, memStore_unreserved s v ha⟩

end Sys2Proof.Machine
end

section
/-! PROOF. QWAIT, WFI and what ends their waits (R359 to R363, R389, R406). -/
namespace Sys2Proof.Machine

/-! ### Queues and interrupts that a wait looks at -/

/-- R360: the ready queue is the lowest of the mask that runs and holds an entry. -/
theorem readyQueue_spec {s : State} {mask : Word} {q : Nat} (h : readyQueue s mask = some q) :
    q < 32 ∧ mask.getLsbD q = true ∧ queueRuns s q = true ∧ queueLevel s q ≠ 0 ∧
      ∀ p, p < q → mask.getLsbD p = true → queueRuns s p = true → queueLevel s p = 0 := by
  obtain ⟨hq, hmem, hmin⟩ := List.find?_range_eq_some.mp h
  simp only [Bool.and_eq_true, bne_iff_ne, ne_eq] at hq
  obtain ⟨⟨hmask, hruns⟩, hlevel⟩ := hq
  refine ⟨List.mem_range.mp hmem, hmask, hruns, hlevel, fun p hp hm hr => ?_⟩
  simpa [hm, hr] using hmin p hp

/-- R362: QWAIT is refused at a queue of its mask whose level user mode may not read. -/
theorem qwait_queues_pass {g : Engine} {mask : Word}
    (h : g.user = true → ∀ q, q < 32 → mask.getLsbD q = true → pmpAllows g true .load (0x50000008 + q * 0x100) = true) :
    (List.range 32).find? (fun q => mask.getLsbD q && !xtidePasses g .load (0x50000008 + q * 0x100)) = none := by
  rw [List.find?_range_eq_none]
  intro q hq
  cases hm : mask.getLsbD q with
  | false => rfl
  | true =>
    have hx : xtidePasses g .load (0x50000008 + q * 0x100) = true :=
      (xtidePasses_iff _ _ _).mpr fun hu => h hu q hq hm
    rw [hx]
    rfl

/-! ### The instructions -/

section
variable {e : Fin 16} {s : State} (h : engineRuns s e = true)
include h

/-- R363: in user mode with TW at 1 a wait is an illegal instruction. -/
theorem exec_qwait_illegal (rd rs1 rs2 : Fin 32) (hw : waitForbidden (s.eng e) = true) :
    exec (.qwait e rd rs1 rs2) s = .next (raiseException s.freshWord.2 e 2 s.freshWord.1) := by
  change execQwait e rd rs1 rs2 s = _
  rw [execQwait, instruction_runs h]
  exact congrArg _ (if_pos hw)

theorem exec_wfi_illegal (hw : waitForbidden (s.eng e) = true) :
    exec (.wfi e) s = .next (raiseException s.freshWord.2 e 2 s.freshWord.1) := by
  change execWfi e s = _
  rw [execWfi, instruction_runs h]
  exact congrArg _ (if_pos hw)

/-- R406: WFI retires, and waits where no interrupt is pending. -/
theorem exec_wfi (hw : waitForbidden (s.eng e) = false) : exec (.wfi e) s =
    .next (s.modEng e (fun g => { g.retire with wait := if pendingInterrupts s e = [] then .wfi else .none })) := by
  change execWfi e s = _
  rw [execWfi, instruction_runs h]
  simp only [hw, Bool.false_eq_true, if_false, List.isEmpty_iff]

section
variable {rd rs1 rs2 : Fin 32} (hw : waitForbidden (s.eng e) = false)
  (hpmp : (List.range 32).find? (fun q => ((s.eng e).reg rs1).getLsbD q &&
    !xtidePasses (s.eng e) .load (0x50000008 + q * 0x100)) = none)
include hw hpmp

/-- R360: QWAIT takes the ready queue at once. -/
theorem exec_qwait_ready {q : Nat} (hq : readyQueue s ((s.eng e).reg rs1) = some q) :
    exec (.qwait e rd rs1 rs2) s = .next (writeReg s e rd (BitVec.ofNat 32 q)) := by
  change execQwait e rd rs1 rs2 s = _
  rw [execQwait, instruction_runs h]
  simp only [hw, Bool.false_eq_true, if_false, hpmp, hq]

/-- R361: a held interrupt completes QWAIT with 20h. -/
theorem exec_qwait_held (hq : readyQueue s ((s.eng e).reg rs1) = none) (hheld : heldInterrupt s e = true) :
    exec (.qwait e rd rs1 rs2) s = .next (writeReg s e rd 0x20) := by
  change execQwait e rd rs1 rs2 s = _
  rw [execQwait, instruction_runs h]
  simp only [hw, Bool.false_eq_true, if_false, hpmp, hq, hheld, if_true]

/-- R360: with neither QWAIT waits from now. -/
theorem exec_qwait_waits (hq : readyQueue s ((s.eng e).reg rs1) = none) (hheld : heldInterrupt s e = false) :
    exec (.qwait e rd rs1 rs2) s = .next (s.modEng e (fun g =>
      { g with wait := .qwait rd ((s.eng e).reg rs1) (g.reg rs2).toNat s.t })) := by
  change execQwait e rd rs1 rs2 s = _
  rw [execQwait, instruction_runs h]
  simp only [hw, Bool.false_eq_true, if_false, hpmp, hq, hheld]

end

end

/-! ### The ends of waits -/

section
variable {e : Fin 16} {s : State} (h : engineCode s e = 2)
include h

/-- R360: a waiting QWAIT takes the ready queue. -/
theorem exec_qwaitWake_ready {rd n since q : Nat} {mask : Word} (hwait : (s.eng e).wait = .qwait rd mask n since)
    (hq : readyQueue s mask = some q) : exec (.qwaitWake e) s = .next (endWait s e rd (BitVec.ofNat 32 q)) := by
  change execQwaitWake e s = _
  simp only [execQwaitWake, h, hwait, hq, ne_eq, not_true_eq_false, if_false]

/-- R361: a held interrupt ends a waiting QWAIT with 20h. -/
theorem exec_qwaitWake_held {rd n since : Nat} {mask : Word} (hwait : (s.eng e).wait = .qwait rd mask n since)
    (hq : readyQueue s mask = none) (hheld : heldInterrupt s e = true) :
    exec (.qwaitWake e) s = .next (endWait s e rd 0x20) := by
  change execQwaitWake e s = _
  simp only [execQwaitWake, h, hwait, hq, ne_eq, not_true_eq_false, if_false]
  exact when_true hheld s _

/-- R360: a timeout that has passed ends a waiting QWAIT with 21h. -/
theorem exec_qwaitTimeout {rd n since : Nat} {mask : Word} (hwait : (s.eng e).wait = .qwait rd mask n since)
    (hq : readyQueue s mask = none) (hheld : heldInterrupt s e = false) (hn : n ≠ 0) (hdue : since + n ≤ s.t) :
    exec (.qwaitTimeout e) s = .next (endWait s e rd 0x21) := by
  change execQwaitTimeout e s = _
  simp only [execQwaitTimeout, hwait]
  exact when_true (by simp [h, hn, State.passed, hdue, hq, hheld]) s _

/-- R389: a waiting QPOP pops once its queue has an entry or stops running, or an interrupt is held. -/
theorem exec_qwaitWake_pop {rd q : Nat} (hwait : (s.eng e).wait = .qpop rd q) (hfree : popTaken s q = false)
    (hend : queueRuns s q = false ∨ popLevel s q ≠ 0 ∨ heldInterrupt s e = true) :
    exec (.qwaitWake e) s = .next (finishPop s e rd q) := by
  change execQwaitWake e s = _
  simp only [execQwaitWake, h, hwait, ne_eq, not_true_eq_false, if_false]
  refine when_true ?_ s _
  rcases hend with hr | hl | hi
  · simp [hfree, hr]
  · simp [hfree, hl]
  · simp [hfree, hi]

/-- R406: a pending interrupt that is not taken ends a waiting WFI. -/
theorem exec_qwaitWake_wfi (hwait : (s.eng e).wait = .wfi) (htakes : (s.eng e).takesInterrupts = false)
    (hp : pendingInterrupts s e ≠ []) :
    exec (.qwaitWake e) s = .next (s.modEng e (fun g => { g with wait := .none })) := by
  change execQwaitWake e s = _
  simp only [execQwaitWake, h, hwait, ne_eq, not_true_eq_false, if_false]
  exact when_true (by simpa [htakes] using hp) s _

end

/-- Settles O38: QWAIT and WFI at once or waiting by `exec_qwait_ready` and its companions and `exec_wfi`, the ends of waits by
`exec_qwaitWake_ready` and its companions and `exec_qwaitTimeout`, the ready queue by `readyQueue_spec`. -/
theorem enginesWaitAndWake : Obligations.EnginesWaitAndWake := by
  unfold Obligations.EnginesWaitAndWake
  refine ⟨fun e rd rs1 rs2 s hruns hw => ?qwait, fun e s hruns hw => exec_wfi hruns hw,
    fun e rd rs1 rs2 s hruns hw => ⟨exec_wfi_illegal hruns hw, exec_qwait_illegal hruns rd rs1 rs2 hw⟩,
    fun e s hcode => ⟨fun rd mask n since hwait => ?wake,
      fun rd q hwait hfree hend => exec_qwaitWake_pop hcode hwait hfree hend,
      fun hwait htakes hp => exec_qwaitWake_wfi hcode hwait htakes hp⟩,
    fun s mask q hq => readyQueue_spec hq⟩
  case qwait =>
    intro g mask hpmp
    have hfind := qwait_queues_pass hpmp
    exact ⟨fun q hq => exec_qwait_ready hruns hw hfind hq, fun hq hheld => exec_qwait_held hruns hw hfind hq hheld,
      fun hq hheld => exec_qwait_waits hruns hw hfind hq hheld⟩
  case wake =>
    exact ⟨fun q hq => exec_qwaitWake_ready hcode hwait hq, fun hq hheld => exec_qwaitWake_held hcode hwait hq hheld,
      fun hq hheld hn hdue => exec_qwaitTimeout hcode hwait hq hheld hn hdue⟩

end Sys2Proof.Machine
end

section
/-! SUPPORT. Queues in the terms of the statements: what a push and a pop leave of a queue's words and of the pool (R384, R387,
R388, R394, R401). -/
namespace Sys2Proof.Machine

/-! ### Words that a request for an activation leaves alone -/

/-- R401, R404: a request changes words of its task and the count of marks alone. -/
theorem requestActivation_obj_other (s : State) (t src : Nat) (rec : DWord) {i j : Nat} (hj : j < 256)
    (ht : i ≠ taskIdx t) (hm : i ≠ 0x21A0) : (requestActivation s t src rec).obj i j = s.obj i j := by
  have hbump : ∀ (u : State) (x y : Nat), x ≠ i → y < 256 → (u.bump x y 16).obj i j = u.obj i j := fun u x y hx hy => by
    rw [State.bump_obj, if_neg (objKey_ne_of_object hj hy hx.symm)]
  unfold requestActivation
  split
  · rfl
  · split
    · split
      · exact hbump _ _ _ hm.symm (by decide)
      · exact hbump _ _ _ ht.symm (by decide)
    · split
      · exact hbump _ _ _ ht.symm (by decide)
      · rfl

/-- R401: the requests of a queue that reaches its threshold leave the words of every queue. -/
theorem queueRequests_obj (s : State) (q : Nat) {p j : Nat} (hj : j < 256) :
    (queueRequests s q).obj (queueIdx p) j = s.obj (queueIdx p) j := by
  refine foldl_keeps (fun u : State => u.obj (queueIdx p) j) (fun t ht u => ?_) s
  have ht64 := List.mem_range.mp ht
  split
  · refine requestActivation_obj_other u t 1 _ hj ?_ ?_
    · unfold queueIdx taskIdx
      omega
    · unfold queueIdx
      omega
  · rfl

theorem queueRequests_pool (s : State) (q : Nat) : (queueRequests s q).pool = s.pool :=
  (queueRequests_moves (km := 2 ^ 13) s q (by decide) (Moves.refl _ s)).pool (by decide)

/-! ### An entry stored -/

theorem State.highWater_obj_other (s : State) (i j n : Nat) {x y : Nat} (h : objKey x y ≠ objKey i j) :
    (s.highWater i j n).obj x y = s.obj x y := by
  unfold State.highWater
  split
  · rw [State.putN_obj, if_neg h]
  · rfl

theorem State.highWater_pool (s : State) (i j n : Nat) : (s.highWater i j n).pool = s.pool := by
  unfold State.highWater
  split <;> rfl

/-- R384: the state with an entry in the pool at the write count, before the counts move. -/
def entryStored (s : State) (q : Nat) (entry : DWord) (posted : Bool) : State :=
  let k := poolSlot s q (s.obj (queueIdx q) 0x12)
  let others := s.posted.filter (fun n => n != k)
  let s0 := { s with pool := Sparse.put poolDefault s.pool k entry, cyc := { s.cyc with fresh := q :: s.cyc.fresh } }
  { s0 with posted := if posted then k :: others else others }

/-- R384, R399: the state with an entry stored and counted, before its level is looked at. -/
def entryCounted (s : State) (q : Nat) (entry : DWord) (posted : Bool) : State :=
  ((entryStored s q entry posted).put (queueIdx q) 0x12 (s.obj (queueIdx q) 0x12 + 1)).bump (queueIdx q) 0x0B 32

/-- R399: and with its level in the high-water mark. -/
def entryMarked (s : State) (q : Nat) (entry : DWord) (posted : Bool) : State :=
  (entryCounted s q entry posted).highWater (queueIdx q) 0x0A (queueLevel (entryCounted s q entry posted) q)

section
variable (s : State) (q : Nat) (entry : DWord) (posted : Bool)

theorem entryMarked_obj {j : Nat} (hj : j ∉ [0x0A, 0x0B, 0x12]) :
    (entryMarked s q entry posted).obj (queueIdx q) j = s.obj (queueIdx q) j := by
  simp only [List.mem_cons, List.not_mem_nil, or_false, not_or] at hj
  obtain ⟨hA, hB, h12⟩ := hj
  rw [entryMarked, State.highWater_obj_other _ _ _ _ (by simpa using hA), entryCounted, State.bump_obj, if_neg (by simpa using hB),
    State.put_obj, if_neg (by simpa using h12)]
  rfl

theorem entryMarked_writeCount :
    (entryMarked s q entry posted).obj (queueIdx q) 0x12 = s.obj (queueIdx q) 0x12 + 1 := by
  rw [entryMarked, State.highWater_obj_other _ _ _ _ (by simp), entryCounted, State.bump_obj, if_neg (by simp), State.put_obj,
    if_pos rfl]

theorem entryMarked_pool : (entryMarked s q entry posted).pool =
    Sparse.put poolDefault s.pool (poolSlot s q (s.obj (queueIdx q) 0x12)) entry :=
  State.highWater_pool ..

variable (was : Nat)

theorem queueStore_eq : queueStore s q entry posted was =
    if was < s.nat (queueIdx q) 6 ∧ s.nat (queueIdx q) 6 ≤ queueLevel (entryCounted s q entry posted) q then
      queueRequests ((entryMarked s q entry posted).setBits (queueIdx q) 0x11 1) q
    else entryMarked s q entry posted := rfl

/-- R393, R401: an entry that takes the level to the threshold sets a flag and asks for activations. -/
theorem queueStore_cases : queueStore s q entry posted was = entryMarked s q entry posted ∨
    queueStore s q entry posted was = queueRequests ((entryMarked s q entry posted).setBits (queueIdx q) 0x11 1) q := by
  rw [queueStore_eq]
  split
  · exact .inr rfl
  · exact .inl rfl

theorem queueStore_obj {j : Nat} (hj : j < 256) (h : j ≠ 0x11) :
    (queueStore s q entry posted was).obj (queueIdx q) j = (entryMarked s q entry posted).obj (queueIdx q) j := by
  rcases queueStore_cases s q entry posted was with hs | hs
  · rw [hs]
  · rw [hs, queueRequests_obj _ _ hj, State.setBits_obj, if_neg (by simpa using h)]

theorem queueStore_writeCount :
    (queueStore s q entry posted was).obj (queueIdx q) 0x12 = s.obj (queueIdx q) 0x12 + 1 := by
  rw [queueStore_obj _ _ _ _ _ (by decide) (by decide), entryMarked_writeCount]

theorem queueStore_readCount : (queueStore s q entry posted was).obj (queueIdx q) 0x13 = s.obj (queueIdx q) 0x13 := by
  rw [queueStore_obj _ _ _ _ _ (by decide) (by decide), entryMarked_obj _ _ _ _ (by decide)]

/-- A flag that stands stays. -/
theorem queueStore_flag {b : Nat} (hb : b < 32) (h : s.flag (queueIdx q) 0x11 b = true) :
    (queueStore s q entry posted was).flag (queueIdx q) 0x11 b = true := by
  have hcounted : (entryMarked s q entry posted).flag (queueIdx q) 0x11 b = true := by
    rw [State.flag, entryMarked_obj _ _ _ _ (by decide)]
    exact h
  rcases queueStore_cases s q entry posted was with hs | hs
  · rw [hs, hcounted]
  · rw [hs, State.flag, queueRequests_obj _ _ (by decide), ← State.flag, State.setBits_flag _ _ _ _ hb, hcounted,
      Bool.true_or]

theorem queueStore_pool : (queueStore s q entry posted was).pool =
    Sparse.put poolDefault s.pool (poolSlot s q (s.obj (queueIdx q) 0x12)) entry := by
  rcases queueStore_cases s q entry posted was with hs | hs
  · rw [hs, entryMarked_pool]
  · rw [hs, queueRequests_pool, State.setBits_pool, entryMarked_pool]

end

/-! ### A push -/

/-- R388, R704: the loss of an entry is reported, unless the collector pushed. -/
def lossTold (s : State) (q : Nat) (src : PushFrom) (posted : Bool) : State :=
  if src = .collector then s else reportFull s q posted

section
variable (s : State) (q : Nat) (src : PushFrom) (posted : Bool)

theorem lossTold_od : (lossTold s q src posted).od = s.od := by
  unfold lossTold
  split <;> rfl

theorem lossTold_pool : (lossTold s q src posted).pool = s.pool := by
  unfold lossTold
  split <;> rfl

end

/-- R388: the state in which the oldest entry of a full queue is lost, counted, flagged and reported. -/
def oldestLost (s : State) (q : Nat) (src : PushFrom) : State :=
  lossTold (((s.put (queueIdx q) 0x13 (s.obj (queueIdx q) 0x13 + 1)).bump (queueIdx q) 0x0E 16).setBits (queueIdx q) 0x11 4)
    q src (s.posted.contains (poolSlot s q (s.obj (queueIdx q) 0x13)))

section
variable (s : State) (q : Nat) (src : PushFrom)

theorem oldestLost_obj {j : Nat} (hj : j ∉ [0x0E, 0x11, 0x13]) :
    (oldestLost s q src).obj (queueIdx q) j = s.obj (queueIdx q) j := by
  simp only [List.mem_cons, List.not_mem_nil, or_false, not_or] at hj
  obtain ⟨hE, h11, h13⟩ := hj
  rw [oldestLost, obj_of_od (lossTold_od ..), State.setBits_obj, if_neg (by simpa using h11), State.bump_obj,
    if_neg (by simpa using hE), State.put_obj, if_neg (by simpa using h13)]

theorem oldestLost_readCount : (oldestLost s q src).obj (queueIdx q) 0x13 = s.obj (queueIdx q) 0x13 + 1 := by
  rw [oldestLost, obj_of_od (lossTold_od ..), State.setBits_obj, if_neg (by simp), State.bump_obj, if_neg (by simp),
    State.put_obj, if_pos rfl]

theorem oldestLost_flag : (oldestLost s q src).flag (queueIdx q) 0x11 2 = true := by
  rw [oldestLost, State.flag, obj_of_od (lossTold_od ..), ← State.flag, State.setBits_flag _ _ _ _ (by decide)]
  exact Bool.or_true _

theorem oldestLost_pool : (oldestLost s q src).pool = s.pool := lossTold_pool ..

/-- The entry's place in the pool is the one that the write count names. -/
theorem oldestLost_slot :
    poolSlot (oldestLost s q src) q ((oldestLost s q src).obj (queueIdx q) 0x12) =
      poolSlot s q (s.obj (queueIdx q) 0x12) := by
  rw [poolSlot, State.nat, State.nat, oldestLost_obj _ _ _ (by decide), oldestLost_obj _ _ _ (by decide),
    oldestLost_obj _ _ _ (by decide)]
  rfl

end

section
variable {s : State} {q : Nat} (d : DWord) (src : PushFrom)

/-- R384: a push onto a running queue with room is stored. -/
theorem queuePush_room (hr : queueRuns s q = true) (hroom : queueLevel s q < s.nat (queueIdx q) 3) :
    queuePush s q d src = (true, queueStore s q d (src != .master) (queueLevel s q)) := by
  simp only [queuePush, hr, Bool.true_eq_false, if_false, hroom, if_true]

/-- R394: a push onto a queue that does not run is rejected. -/
theorem queuePush_stopped (hr : queueRuns s q = false) :
    queuePush s q d src = (false, (s.bump (queueIdx q) 0x10 16).setBits (queueIdx q) 0x11 8) := by
  simp only [queuePush, hr, if_true]

section
variable (hr : queueRuns s q = true) (hfull : s.nat (queueIdx q) 3 ≤ queueLevel s q)
include hr hfull

/-- R388: a push onto a full queue that drops the newest is lost. -/
theorem queuePush_dropped (hp : s.nat (queueIdx q) 4 = 0) : queuePush s q d src =
    (false, lossTold ((s.bump (queueIdx q) 0x0D 16).setBits (queueIdx q) 0x11 2) q src (src != .master)) := by
  simp only [queuePush, hr, Bool.true_eq_false, if_false, not_lt.mpr hfull, hp, if_true]
  rfl

/-- R388: a push onto a full queue that overwrites takes the place of the oldest. -/
theorem queuePush_overwrites (hp : s.nat (queueIdx q) 4 ≠ 0) : queuePush s q d src =
    (true, queueStore (oldestLost s q src) q d (src != .master) (queueLevel s q)) := by
  simp only [queuePush, hr, Bool.true_eq_false, if_false, not_lt.mpr hfull, hp]
  rfl

end

end

/-! ### A pop -/

/-- R387: the state in which the pop place of a queue is taken. -/
def popPlaceTaken (s : State) (q : Nat) : State := { s with cyc := { s.cyc with pops := q :: s.cyc.pops } }

/-- R391: a pop takes the entry at the read count. -/
theorem queuePop_takes {s : State} {q : Nat} (hr : queueRuns s q = true) (hl : popLevel s q ≠ 0) : queuePop s q =
    (some (Sparse.get poolDefault s.pool (poolSlot s q (s.obj (queueIdx q) 0x13))),
      ((popPlaceTaken s q).put (queueIdx q) 0x13 (s.obj (queueIdx q) 0x13 + 1)).bump (queueIdx q) 0x0C 32) :=
  if_neg (by simp [hr, hl])

/-- R389: a pop of a queue that is stopped or holds no earlier entry returns nothing. -/
theorem queuePop_empty {s : State} {q : Nat} (h : queueRuns s q = false ∨ popLevel s q = 0) :
    queuePop s q = (none, (popPlaceTaken s q).bump (queueIdx q) 0x0F 16) := if_pos h

end Sys2Proof.Machine
end

section
/-! PROOF. The queues: pushes, pops, posts, the enable and the flush (R384 to R394, R817). -/
namespace Sys2Proof.Machine

/-! ### Pushes and pops -/

section
variable (s : State) (q : Nat) (d : DWord) (src : PushFrom)

/-- R384: what a push with room leaves. -/
theorem queuePush_room_leaves (hr : queueRuns s q = true) (hroom : queueLevel s q < s.nat (queueIdx q) 3) :
    let o := queuePush s q d src
    let i := queueIdx q
    o.1 = true ∧ o.2.obj i 0x12 = s.obj i 0x12 + 1 ∧ o.2.obj i 0x13 = s.obj i 0x13 ∧
      Sparse.get poolDefault o.2.pool (poolSlot s q (s.obj i 0x12)) = d ∧
      ∀ k, k ≠ poolSlot s q (s.obj i 0x12) → Sparse.get poolDefault o.2.pool k = Sparse.get poolDefault s.pool k := by
  rw [queuePush_room d src hr hroom]
  refine ⟨rfl, queueStore_writeCount .., queueStore_readCount .., ?slot, fun k hk => ?others⟩
  case slot => rw [queueStore_pool, Sparse.get_put_self]
  case others => rw [queueStore_pool, Sparse.get_put_other _ _ _ _ _ hk]

/-- R388: what a push that is dropped leaves. -/
theorem queuePush_dropped_leaves (hr : queueRuns s q = true) (hfull : s.nat (queueIdx q) 3 ≤ queueLevel s q)
    (hp : s.nat (queueIdx q) 4 = 0) :
    let o := queuePush s q d src
    let i := queueIdx q
    o.1 = false ∧ o.2.pool = s.pool ∧ o.2.flag i 0x11 1 = true ∧ s.keepsWords o.2 [(i, 0x0D), (i, 0x11)] := by
  rw [queuePush_dropped d src hr hfull hp]
  refine ⟨rfl, lossTold_pool .., ?flag, ?words⟩
  case flag =>
    rw [State.flag, obj_of_od (lossTold_od ..), ← State.flag, State.setBits_flag _ _ _ _ (by decide)]
    exact Bool.or_true _
  case words =>
    exact (((State.keepsWords.refl s _).bump (by decide) (by simp) _).setBits (by decide) (by simp) _).of_od
      (lossTold_od ..)

/-- R388: what a push that takes the place of the oldest entry leaves. -/
theorem queuePush_overwrites_leaves (hr : queueRuns s q = true) (hfull : s.nat (queueIdx q) 3 ≤ queueLevel s q)
    (hp : s.nat (queueIdx q) 4 ≠ 0) :
    let o := queuePush s q d src
    let i := queueIdx q
    o.1 = true ∧ o.2.obj i 0x12 = s.obj i 0x12 + 1 ∧ o.2.obj i 0x13 = s.obj i 0x13 + 1 ∧ o.2.flag i 0x11 2 = true ∧
      Sparse.get poolDefault o.2.pool (poolSlot s q (s.obj i 0x12)) = d := by
  rw [queuePush_overwrites d src hr hfull hp]
  refine ⟨rfl, ?written, ?read, queueStore_flag _ _ _ _ _ (by decide) (oldestLost_flag ..), ?slot⟩
  case written => rw [queueStore_writeCount, oldestLost_obj _ _ _ (by decide)]
  case read => rw [queueStore_readCount, oldestLost_readCount]
  case slot => rw [queueStore_pool, oldestLost_slot, Sparse.get_put_self]

/-- R394: what a push that is rejected leaves. -/
theorem queuePush_stopped_leaves (hr : queueRuns s q = false) :
    let o := queuePush s q d src
    let i := queueIdx q
    o.1 = false ∧ o.2.flag i 0x11 3 = true ∧ o.2.pool = s.pool ∧ s.keepsWords o.2 [(i, 0x10), (i, 0x11)] := by
  rw [queuePush_stopped d src hr]
  refine ⟨rfl, ?flag, rfl, ((State.keepsWords.refl s _).bump (by decide) (by simp) _).setBits (by decide) (by simp) _⟩
  rw [State.setBits_flag _ _ _ _ (by decide)]
  exact Bool.or_true _

/-- R387, R391: what a pop that takes an entry leaves. -/
theorem queuePop_takes_leaves (hr : queueRuns s q = true) (hl : popLevel s q ≠ 0) :
    let o := queuePop s q
    let i := queueIdx q
    o.1 = some (Sparse.get poolDefault s.pool (poolSlot s q (s.obj i 0x13))) ∧ o.2.obj i 0x13 = s.obj i 0x13 + 1 ∧
      o.2.pool = s.pool ∧ s.keepsWords o.2 [(i, 0x13), (i, 0x0C)] := by
  have htaken : s.keepsWords (popPlaceTaken s q) [(queueIdx q, 0x13), (queueIdx q, 0x0C)] := State.keepsWords.refl s _
  rw [queuePop_takes hr hl]
  refine ⟨rfl, ?_, rfl, (htaken.put (by decide) (by simp) _).bump (by decide) (by simp) _⟩
  rw [State.bump_obj, if_neg (by simp), State.put_obj, if_pos rfl]

/-- R389: what a pop that finds nothing leaves. -/
theorem queuePop_empty_leaves (h : queueRuns s q = false ∨ popLevel s q = 0) :
    let o := queuePop s q
    let i := queueIdx q
    o.1 = none ∧ o.2.nat i 0x0F = min (s.nat i 0x0F + 1) 65535 ∧ o.2.pool = s.pool ∧ s.keepsWords o.2 [(i, 0x0F)] := by
  have htaken : s.keepsWords (popPlaceTaken s q) [(queueIdx q, 0x0F)] := State.keepsWords.refl s _
  rw [queuePop_empty h]
  exact ⟨rfl, State.bump_nat (popPlaceTaken s q) _ _ (by decide), rfl, htaken.bump (by decide) (by simp) _⟩

end

/-! ### Posts -/

/-- R817: a producer without a post is not granted. -/
theorem takePost_none {k : Nat} {l : List Post} (h : ∀ x ∈ l, x.src ≠ k) : takePost k l = none := by
  induction l with
  | nil => rfl
  | cons p t ih =>
    rw [takePost, if_neg (h p (by simp)), ih fun x hx => h x (List.mem_cons_of_mem _ hx)]
    rfl

/-- R817: every producer has its turn. -/
theorem mem_grantOrder (s : State) {k : Nat} (hk : k < 10) : k ∈ grantOrder s := by
  refine List.mem_map.mpr ⟨(k + 9 * (s.postTurn + 1)) % 10, List.mem_range.mpr (Nat.mod_lt _ (by decide)), ?_⟩
  omega

/-- R817: with posts of one producer alone, its oldest is granted. -/
theorem nextPost_single {s : State} {p : Post} {rest : List Post} (h : s.postNet = p :: rest) (hp : p.src < 10)
    (hall : ∀ x ∈ rest, x.src = p.src) : nextPost s = some (p, rest) := by
  have hfirst : takePost p.src s.postNet = some (p, rest) := by rw [h, takePost, if_pos rfl]
  have hother : ∀ k, k ≠ p.src → takePost k s.postNet = none := fun k hk => takePost_none fun x hx => by
    rw [h] at hx
    rcases List.mem_cons.mp hx with rfl | hx
    · exact hk.symm
    · exact (hall x hx).trans_ne hk.symm
  obtain ⟨a, b, hab, hnot⟩ := List.eq_append_cons_of_mem (mem_grantOrder s hp)
  exact List.findSome?_eq_some_iff.mpr ⟨a, p.src, b, hab, hfirst, fun k hk => hother k fun e => hnot (e ▸ hk)⟩

/-- R387, R817: the post granted reaches its queue. -/
theorem exec_queuePost {s : State} {p : Post} {rest : List Post} (h2 : s.on 2 = true) (hfree : s.cyc.posts = [])
    (h : nextPost s = some (p, rest)) : exec .queuePost s = .next (queuePush { s with
      postNet := rest, postTurn := p.src, cyc := { s.cyc with posts := [p.queue] } } p.queue p.entry
        (if p.quiet then .collector else .network)).2 := by
  change execQueuePost s = _
  rw [execQueuePost, when_true (by simp [h2, hfree]), grantPost, h]
  simp only [hfree]

/-! ### The enable and the flush -/

section
variable (q : Fin 32) (w : Wr) (s : State)

theorem exec_queueEnable : exec (.queueEnable q w) s =
    .next (accessWrite s w false (queueIdx q) 1 (queueEnableEff q)) := rfl

theorem exec_queueFlush : exec (.queueFlush q w) s =
    .next (accessWrite s w false (queueIdx q) 7 (queueFlushEff q)) := rfl

end

section
variable {q : Nat} {w : Wr} (auth : Bool) {s : State}

/-- R385: 1 leaves a queue that runs. -/
theorem queueEnableEff_runs (hv : w.value = 1) (hr : s.nat (queueIdx q) 8 = 1) :
    queueEnableEff q w auth s = (.accepted, s) := by
  simp only [queueEnableEff, hv, if_true, hr, acc]

/-- R385: 1 starts a stopped queue that fits. -/
theorem queueEnableEff_starts (hv : w.value = 1) (hr : s.nat (queueIdx q) 8 ≠ 1) (hf : queueFits s q = true) :
    queueEnableEff q w auth s = (.accepted, (s.putN (queueIdx q) 1 1).putN (queueIdx q) 8 1) := by
  simp only [queueEnableEff, hv, if_true, if_neg hr, hf, acc]

/-- R385: a queue that does not fit is counted. -/
theorem queueEnableEff_unfit (hv : w.value = 1) (hr : s.nat (queueIdx q) 8 ≠ 1) (hf : queueFits s q = false) :
    queueEnableEff q w auth s = (.state, s.bump 0x2920 3 16) := by
  simp only [queueEnableEff, hv, if_true, if_neg hr, hf, Bool.false_eq_true, if_false, rej]

/-- R394: 0 stops the queue. -/
theorem queueEnableEff_stops (hv : w.value = 0) :
    queueEnableEff q w auth s = (.accepted, (s.putN (queueIdx q) 1 0).putN (queueIdx q) 8 0) :=
  if_neg (by simp [hv])

/-- R394: a flush empties a stopped queue. -/
theorem queueFlushEff_empties (h : s.nat (queueIdx q) 8 = 0) :
    queueFlushEff q w auth s = (.accepted, s.put (queueIdx q) 0x13 (s.obj (queueIdx q) 0x12)) := if_pos h

/-- R394: in any other state it is discarded. -/
theorem queueFlushEff_refused (h : s.nat (queueIdx q) 8 ≠ 0) : queueFlushEff q w auth s = (.state, s) := if_neg h

end

/-- Settles O39: a push by the four ways it can go (`queuePush_room_leaves` and its companions), a pop by its two, posts by
`exec_queuePost` and `nextPost_single`, the writes by their effects. -/
theorem queuesHoldEntriesInOrder : Obligations.QueuesHoldEntriesInOrder := by
  unfold Obligations.QueuesHoldEntriesInOrder
  refine ⟨fun s q d src _ => ⟨queuePush_room_leaves s q d src, fun hr hfull =>
      ⟨queuePush_dropped_leaves s q d src hr hfull, queuePush_overwrites_leaves s q d src hr hfull⟩,
      queuePush_stopped_leaves s q d src⟩,
    fun s q _ => ⟨queuePop_takes_leaves s q, queuePop_empty_leaves s q⟩,
    fun s p rest h2 hfree h => exec_queuePost h2 hfree h, fun s p rest h hp hall => nextPost_single h hp hall,
    fun q w s => ⟨fun hp => ?enable, fun hp => ?flush⟩⟩
  case enable =>
    rw [exec_queueEnable]
    refine ⟨fun hv hr => ?_, fun hv hr hf => ?_, fun hv hr hf => ?_, fun hv => ?_⟩
    · rw [accessWrite_done hp (queueEnableEff_runs _ hv hr)]
    · rw [accessWrite_done hp (queueEnableEff_starts _ hv hr hf)]
    · rw [accessWrite_state hp (queueEnableEff_unfit _ hv hr hf)]
    · rw [accessWrite_done hp (queueEnableEff_stops _ hv)]
  case flush =>
    rw [exec_queueFlush]
    refine ⟨fun h => ?_, fun h => ?_⟩
    · rw [accessWrite_done hp (queueFlushEff_empties _ h)]
    · rw [accessWrite_state hp (queueFlushEff_refused _ h)]

end Sys2Proof.Machine
end

section
/-! PROOF. Queue instructions and queue ports (R359, R362, R387 to R391). -/
namespace Sys2Proof.Machine

/-! ### Queue instructions -/

/-- R389: whether a pop of a queue waits for an entry. -/
def popWaits (s : State) (q : Nat) : Prop := s.nat (queueIdx q) 5 = 1 ∧ queueRuns s q = true ∧ popLevel s q = 0

section
variable {e : Fin 16} {s : State} (h : engineRuns s e = true)
include h

/-- R359, R388: what QPUSH leaves where the PMP lets it and the push place is free. -/
theorem exec_qpush_pushes {q rs1 rs2 : Fin 32} (hpmp : xtidePasses (s.eng e) .store (0x50000004 + q * 0x100) = true)
    (hfree : pushTaken s q = false) :
    let o := queuePush (takePush s q) q (dw ((s.eng e).reg rs1) ((s.eng e).reg rs2)) .master
    exec (.qpush e q rs1 rs2) s = .next ((notePush (stageWord o.2 (.engine e (s.eng e).user) ((s.eng e).reg rs1))
      (.engine e (s.eng e).user) o.1).modEng e Engine.retire) := by
  change execQpush e q rs1 rs2 s = _
  rw [execQpush, instruction_runs h]
  exact congrArg _ ((if_neg (by simp [hpmp])).trans (if_neg (by simp [hfree])))

/-- R387: QPUSH waits while the push place is taken. -/
theorem exec_qpush_waits {q rs1 rs2 : Fin 32} (hpmp : xtidePasses (s.eng e) .store (0x50000004 + q * 0x100) = true)
    (htaken : pushTaken s q = true) : exec (.qpush e q rs1 rs2) s = .next s := by
  change execQpush e q rs1 rs2 s = _
  rw [execQpush, instruction_runs h]
  exact congrArg _ ((if_neg (by simp [hpmp])).trans (if_pos htaken))

section
variable {rd rs1 : Fin 32} {q : Nat} (hq : q = ((s.eng e).reg rs1).toNat % 32)
  (hpmp : xtidePasses (s.eng e) .load (0x50000000 + q * 0x100) = true)
  (hw : s.nat (queueIdx q) 5 = 1 → waitForbidden (s.eng e) = false)
include hq hpmp hw

/-- R387, R389: QPOP that is let pass waits for its place, waits for an entry, or pops. -/
theorem exec_qpop : exec (.qpop e rd rs1) s = .next (if popTaken s q then s
    else if s.nat (queueIdx q) 5 == 1 && queueRuns s q && popLevel s q == 0 then
      s.modEng e (fun g => { g with wait := .qpop rd q })
    else finishPop s e rd q) := by
  subst hq
  change execQpop e rd rs1 s = _
  rw [execQpop, instruction_runs h]
  refine congrArg _ ((if_neg ?_).trans (if_neg (by simp [hpmp])))
  simpa using hw

theorem exec_qpop_taken (htaken : popTaken s q = true) : exec (.qpop e rd rs1) s = .next s := by
  rw [exec_qpop h hq hpmp hw, if_pos htaken]

variable (hfree : popTaken s q = false)
include hfree

theorem exec_qpop_waits (hwaits : popWaits s q) :
    exec (.qpop e rd rs1) s = .next (s.modEng e (fun g => { g with wait := .qpop rd q })) := by
  obtain ⟨hpolicy, hr, hl⟩ := hwaits
  rw [exec_qpop h hq hpmp hw, if_neg (by simp [hfree]), if_pos (by simp [hpolicy, hr, hl])]

theorem exec_qpop_pops (hwaits : ¬ popWaits s q) : exec (.qpop e rd rs1) s = .next (finishPop s e rd q) := by
  rw [exec_qpop h hq hpmp hw, if_neg (by simp [hfree]), if_neg (by simpa [popWaits, and_assoc] using hwaits)]

end

end

/-! ### Queue ports -/

section
variable {m : Master} {q : Fin 32} {s : State}

/-- R387: a pop at a port waits while the pop place is taken. -/
theorem exec_queuePortPop_waits (htaken : popTaken s q = true) : exec (.queuePortPop m q) s = .next s :=
  if_pos (.inr htaken)

/-- R387: a push at a port waits while the push place is taken. -/
theorem exec_queuePortPush_waits {v : Word} (htaken : pushTaken s q = true) : exec (.queuePortPush m q v) s = .next s :=
  if_pos (.inr htaken)

variable (hlive : masterLive s m = true)
include hlive

/-- R390: a read of a port pops, answers both words and holds the high one. -/
theorem exec_queuePortPop_pops (hfree : popTaken s q = false) (hreach : portReach s m q 0 .load = true) :
    exec (.queuePortPop m q) s = .next ((notePop (queuePop s q).2 m (queuePop s q).1).answer
      (lo32 ((queuePop s q).1.getD 0)) (hi32 ((queuePop s q).1.getD 0))) := by
  change execQueuePortPop m q s = _
  rw [execQueuePortPop, if_neg (by simp [hlive, hfree]), if_neg (by simp [hreach])]

/-- R390: a write of offset 00h stages the low word. -/
theorem exec_queuePortStage {v : Word} (hreach : portReach s m q 0 .store = true) :
    exec (.queuePortStage m q v) s = .next (stageWord s m v) := by
  change execQueuePortStage m q v s = _
  rw [execQueuePortStage, if_neg (by simp [hlive]), if_neg (by simp [hreach])]

/-- R390: a write of offset 04h pushes the staged low word with the written high word. -/
theorem exec_queuePortPush_pushes {v : Word} (hfree : pushTaken s q = false) (hreach : portReach s m q 4 .store = true) :
    let o := queuePush (takePush s q) q (dw (stagedWord s m) v) .master
    exec (.queuePortPush m q v) s = .next (notePush o.2 m o.1) := by
  change execQueuePortPush m q v s = _
  rw [execQueuePortPush, if_neg (by simp [hlive, hfree]), if_neg (by simp [hreach])]

end

/-- Settles O40: QPUSH by `exec_qpush_pushes` and `exec_qpush_waits`, QPOP by the three branches of `exec_qpop`, the ports by
`exec_queuePortPop_pops` and its companions. -/
theorem mastersPushAndPop : Obligations.MastersPushAndPop := by
  unfold Obligations.MastersPushAndPop
  refine ⟨fun e q rs1 rs2 s hruns => ?push, fun e rd rs1 s hruns => ?pop, fun m q v s hlive =>
    ⟨fun hfree hreach => exec_queuePortPop_pops hlive hfree hreach, fun hreach => exec_queuePortStage hlive hreach,
      fun hfree hreach => exec_queuePortPush_pushes hlive hfree hreach, exec_queuePortPop_waits, exec_queuePortPush_waits⟩⟩
  case push =>
    intro g o free
    exact ⟨fun hpmp hfree => exec_qpush_pushes hruns ((xtidePasses_iff _ _ _).mpr hpmp) hfree,
      fun hpmp htaken => exec_qpush_waits hruns ((xtidePasses_iff _ _ _).mpr hpmp) htaken⟩
  case pop =>
    intro g q o hpmp hw waits
    have hpass := (xtidePasses_iff _ _ _).mpr hpmp
    exact ⟨fun htaken => exec_qpop_taken hruns rfl hpass hw htaken,
      fun hfree hwaits => exec_qpop_waits hruns rfl hpass hw hfree hwaits,
      fun hfree hwaits => exec_qpop_pops hruns rfl hpass hw hfree hwaits⟩

end Sys2Proof.Machine
end

section
/-! PROOF. Run control, unit resets, engine faults, the scrubbers and the debug module (R371 to R383). -/
namespace Sys2Proof.Machine

/-! ### Run control and unit resets -/

theorem exec_runControlWrite (e : Fin 16) (w : Wr) (s : State) : exec (.runControlWrite e w) s =
    .next (accessWrite s w false (0x2700 + e.val) 1 (runControlEff e)) := rfl

section
variable {e : Nat} {w : Wr} (auth : Bool) {s : State}

/-- R380: 0 holds an engine on which no task is placed. -/
theorem runControlEff_holds (hv : w.value = 0) (ht : taskPlacedOn s e = false) :
    runControlEff e w auth s = (.accepted, engineLost ((abandonOn s e).put (0x2700 + e) 1 0) e) := by
  simp only [runControlEff, hv, if_true, ht, Bool.false_eq_true, if_false, acc]

/-- R380: an engine with a task placed is not held. -/
theorem runControlEff_placed (hv : w.value = 0) (ht : taskPlacedOn s e = true) :
    runControlEff e w auth s = (.state, s) := by
  simp only [runControlEff, hv, if_true, ht, rej]

section
variable (hv : w.value = 1)
include hv

/-- R381: an engine beyond those of the level is not released. -/
theorem runControlEff_unadmitted (ha : s.engineAdmitted e = false) : runControlEff e w auth s = (.state, s) := by
  simp [runControlEff, hv, ha, rej]

variable (ha : s.engineAdmitted e = true)
include ha

/-- R379: an engine that is released stays so. -/
theorem runControlEff_released (hr : s.runControl e = true) : runControlEff e w auth s = (.accepted, s) := by
  simp [runControlEff, hv, ha, hr, acc]

variable (hr : s.runControl e = false)
include hr

/-- R379: a held engine whose cluster is ON is released by a unit reset, which is counted. -/
theorem runControlEff_resets (hon : s.on (clusterDomain e) = true) : runControlEff e w auth s =
    (.accepted, foremanAct (resetCore ((s.put (0x2700 + e) 1 1).bump (0x2700 + e) 0x0E 16) e)) := by
  simp [runControlEff, hv, ha, hr, hon, acc]

/-- R379: with its cluster not ON the run control alone is written. -/
theorem runControlEff_off (hoff : s.on (clusterDomain e) = false) :
    runControlEff e w auth s = (.accepted, s.put (0x2700 + e) 1 1) := by
  simp [runControlEff, hv, ha, hr, hoff, acc]

end

end

/-- R379: after a unit reset an engine that the state holds is in its boot state. -/
theorem resetCore_eng {e : Nat} {s : State} (he : e < s.engines.length) : (resetCore s e).eng e = bootState s e :=
  State.modEng_eng_self s e (fun _ => bootState s e) he

section
variable (s : State) (e : Nat)

theorem bootState_pc : (bootState s e).pc = s.obj (0x2700 + e) 3 := by
  unfold bootState
  dsimp only
  split <;> rfl

theorem bootState_user : (bootState s e).user = false := by
  unfold bootState
  dsimp only
  split <;> rfl

theorem bootState_mcycle : (bootState s e).mcycle = 0 := by
  unfold bootState
  dsimp only
  split <;> rfl

/-- R382: a core starts halted where halt-on-reset is asked for. -/
theorem bootState_halted : (bootState s e).halted = s.dbg.resetHalt.contains e := by
  unfold bootState
  dsimp only
  split
  next h => exact h.symm
  next h => exact (Bool.eq_false_iff.mpr h).symm

end

/-- R379: a unit reset that was requested in an earlier cycle acts. -/
theorem exec_unitReset {e : Fin 16} {s : State} {r : Nat × Bool × Nat}
    (h : s.fm.unitResets.find? (fun r => r.1 == e.val && decide (r.2.2 < s.t)) = some r) : exec (.unitReset e) s =
    .next (unitReset (s.modFm (fun m => { m with unitResets := m.unitResets.erase r })) e r.2.1) := by
  change execUnitReset e s = _
  simp only [execUnitReset, h]

/-! ### Engine faults and scrubbers -/

/-- R378: a fault that the exception score has made due. -/
theorem exec_engineFault_due {e : Fin 16} {s : State} (h : (s.eng e).faultDue = true) (f : Bool) :
    exec (.engineFault e none f) s = .next (engineFault s e) := when_true h s _

/-- R372, R373: a double-bit error in a fetch or load of the own TCM. -/
theorem exec_engineFault_tcm {e : Fin 16} {a : BitVec 32} {s s1 : State} {r : Region} {x : Nat}
    (hruns : engineRuns s e = true) (hr : regionOf e a.toNat = some (r, x)) (hown : r = .itcm e ∨ r = .dtcm e)
    (hecc : eccRead s r x = (s1, false)) (f : Bool) : exec (.engineFault e (some a) f) s =
    .next (engineFault (raiseException s1 e (if f then 1 else 5) a) e) := by
  change execEngineFault e (some a) f s = _
  simp only [execEngineFault, hruns, Bool.true_eq_false, if_false, hr, if_pos hown, hecc, Bool.false_eq_true]
  rfl

/-- R374: a scrubber whose interval has passed reads and corrects a word and moves on. -/
theorem exec_scrubInterval {m : Fin 48} {s : State} (hon : scrubOn s m = true) (hint : scrubInterval s m ≠ 0)
    (hdue : s.ecc.scrubLast.getD m 0 + scrubInterval s m ≤ s.t) :
    let p := s.ecc.scrub.getD m 0
    let x := (eccRead s (scrubMemory m).1 ((scrubMemory m).2.2 + 4 * p)).1
    exec (.scrubInterval m) s = .next { x with ecc := { x.ecc with
      scrub := modAt x.ecc.scrub m (fun _ => (p + 1) % (scrubMemory m).2.1),
      scrubLast := modAt x.ecc.scrubLast m (fun _ => s.t) } } :=
  when_true (by rw [hon, bne_iff_ne.mpr hint, State.passed, decide_eq_true hdue]; rfl) s _

/-! ### The debug module -/

section
variable {e : Fin 16} {s : State} (hlive : masterLive s .debug = true)
include hlive

/-- R361, R382: an engine that executes or waits halts. -/
theorem exec_debugHalt (h : engineCode s e = 1 ∨ engineCode s e = 2) :
    exec (.debugHalt e) s = .next (enterDebug s e 3) := when_true (by simpa [hlive] using h) s _

/-- R382: a halted engine resumes at dpc. -/
theorem exec_debugResume (h : engineCode s e = 3) : exec (.debugResume e) s =
    .next (foremanAct (s.modEng e (fun g => { g with
      halted := false, pc := g.dpc, user := fieldN g.dcsr.toNat 0 2 != 3, readyAt := s.t }))) :=
  when_true (by simp [hlive, h]) s _

theorem exec_debugEngineReset : exec (.debugEngineReset e) s = .next (requestUnitReset s e false) := when_true hlive s _

theorem exec_debugSystemBusAccess (op : DebugOp) : exec (.debugSystemBusAccess op) s = .next (debugDo s op) :=
  when_true hlive s _

end

section
variable {s : State} (herr : s.dbg.cmderr = 0) {num : BitVec 16}
include herr

/-- R382: a register of a halted hart is read into data register 0. -/
theorem debugDo_register_reads {d : Word} (hcode : engineCode s (s.dbg.hart % 16) = 3)
    (hd : debugRegister s (s.dbg.hart % 16) num.toNat = some d) :
    debugDo s (.register num true false false) = setData s 0 d := by
  simp [debugDo, abstractCommand, herr, hcode, abstractRegister, registerTransfer, hd]

/-- R382: an abstract command on a hart that is not halted ends with error 4. -/
theorem debugDo_register_running (hcode : engineCode s (s.dbg.hart % 16) ≠ 3) (write : Bool) :
    debugDo s (.register num true write false) = cmdError s 4 := by
  simp [debugDo, abstractCommand, herr, hcode]

end

/-- Settles O43: the run control by its effect (`runControlEff_holds` and its companions), a unit reset by `bootState`, faults,
scrubbers and the debug module by their conditions (`exec_engineFault_tcm`, `exec_scrubInterval`, `exec_debugHalt` and its
companions, `debugDo_register_reads`). -/
theorem enginesAreHeldResetAndDebugged : Obligations.EnginesAreHeldResetAndDebugged := by
  unfold Obligations.EnginesAreHeldResetAndDebugged
  refine ⟨fun e w s hp => ?runControl, fun e s he hlen => ?core, fun e s r h => exec_unitReset h,
    fun e f s h => exec_engineFault_due h f, fun e a f s s1 r x hruns hr hown hecc => exec_engineFault_tcm hruns hr hown hecc f,
    fun m s hon hint hdue => exec_scrubInterval hon hint hdue,
    fun e s hlive => ⟨exec_debugHalt hlive, exec_debugResume hlive, exec_debugEngineReset hlive⟩,
    fun a v write e n num s hlive => ?bus⟩
  case runControl =>
    intro i no
    rw [exec_runControlWrite]
    refine ⟨fun hv ht => ?_, fun hv ht => ?_, fun hv ha => ?_, fun hv ha hr => ?_, fun hv ha hr =>
      ⟨fun hon => ?_, fun hoff => ?_⟩⟩
    · rw [accessWrite_done hp (runControlEff_holds _ hv ht)]
    · rw [accessWrite_state hp (runControlEff_placed _ hv ht)]
    · rw [accessWrite_state hp (runControlEff_unadmitted _ hv ha)]
    · rw [accessWrite_done hp (runControlEff_released _ hv ha hr)]
    · rw [accessWrite_done hp (runControlEff_resets _ hv ha hr hon)]
    · rw [accessWrite_done hp (runControlEff_off _ hv ha hr hoff)]
  case core =>
    rw [resetCore_eng (by omega)]
    exact ⟨bootState_pc s e, bootState_user s e, bootState_mcycle s e, bootState_halted s e, rfl⟩
  case bus =>
    intro x
    refine ⟨?_, ?_, ?_, ?_, ?_, fun d herr hcode hd => ?reads, fun herr hcode => ?running⟩
    all_goals rw [exec_debugSystemBusAccess hlive]
    case reads => rw [debugDo_register_reads herr hcode hd, setData, State.modDbg]
    case running => rw [debugDo_register_running herr hcode, cmdError, State.modDbg]
    all_goals rfl

end Sys2Proof.Machine
end

section
/-! SUPPORT. Tasks in the terms of the statements: a task that is changed, what a request for an activation does in each of its
cases, and what the Foreman chooses and copies (R401 to R405, R417, R424). -/
namespace Sys2Proof.Machine

/-! ### Tasks and requests -/

/-- A task that the state holds reads as it was changed. -/
theorem State.modTask_task_self {s : State} {t : Nat} (f : TaskState → TaskState) (h : t < s.fm.tasks.length) :
    (s.modTask t f).task t = f (s.task t) := getD_modAt_self _ _ _ _ h

@[simp] theorem State.bump_task (s : State) (i j w t : Nat) : (s.bump i j w).task t = s.task t := rfl

section
variable {s : State} {t src : Nat} (rec : DWord)

/-- R401: a request from a source that the mask does not enable changes nothing. -/
theorem requestActivation_masked (hsrc : s.flag (taskIdx t) 0x17 src = false) : requestActivation s t src rec = s :=
  if_pos hsrc

variable (hsrc : s.flag (taskIdx t) 0x17 src = true)
include hsrc

/-- R404: a request for a task that takes none is counted. -/
theorem requestActivation_discarded (htakes : taskTakes s t = false) : requestActivation s t src rec =
    if src = 0 then s.bump 0x21A0 6 16 else s.bump (taskIdx t) 0x25 16 := by
  rw [requestActivation, if_neg (by simp [hsrc]), if_pos htakes]

variable (htakes : taskTakes s t = true)
include htakes

/-- R403: a request that finds none pending is pending from now. -/
theorem requestActivation_pends (hp : (s.task t).pending = none) : requestActivation s t src rec =
    s.modTask t (fun x => { x with pending := some rec, pendingAt := s.t }) := by
  rw [requestActivation, if_neg (by simp [hsrc]), if_neg (by simp [htakes]), hp]

/-- R403: a request that finds one pending takes its place and is counted as a merge. -/
theorem requestActivation_merges {old : DWord} (hp : (s.task t).pending = some old) : requestActivation s t src rec =
    (s.modTask t (fun x => { x with pending := some rec })).bump (taskIdx t) 0x1E 16 := by
  rw [requestActivation, if_neg (by simp [hsrc]), if_neg (by simp [htakes]), hp]

variable (hlen : t < s.fm.tasks.length)
include hlen

/-- R403: what a request that becomes pending leaves. -/
theorem requestActivation_pends_leaves (hp : (s.task t).pending = none) :
    let x := requestActivation s t src rec
    (x.task t).pending = some rec ∧ (x.task t).pendingAt = s.t ∧ x.od = s.od := by
  rw [requestActivation_pends rec hsrc htakes hp]
  dsimp only
  rw [State.modTask_task_self _ hlen]
  exact ⟨rfl, rfl, rfl⟩

/-- R403: what a request that merges leaves. -/
theorem requestActivation_merges_leaves {old : DWord} (hp : (s.task t).pending = some old) :
    let x := requestActivation s t src rec
    (x.task t).pending = some rec ∧ x.nat (taskIdx t) 0x1E = min (s.nat (taskIdx t) 0x1E + 1) 65535 := by
  rw [requestActivation_merges rec hsrc htakes hp]
  refine ⟨?_, State.bump_nat _ _ _ (by decide)⟩
  rw [State.bump_task, State.modTask_task_self _ hlen]

end

/-! ### The choice of a dispatch -/

/-- In an ascending list the element found no later is not the greater. -/
theorem le_of_idxOf_le {l : List Nat} (hl : l.Pairwise (· < ·)) {a b : Nat} (hb : b ∈ l) (h : l.idxOf a ≤ l.idxOf b) :
    a ≤ b := by
  have hib : l.idxOf b < l.length := List.idxOf_lt_length_of_mem hb
  have hia : l.idxOf a < l.length := by omega
  rw [← List.getElem_idxOf hia, ← List.getElem_idxOf hib]
  rcases h.eq_or_lt with he | hlt
  · simp [he]
  · exact (List.pairwise_iff_getElem.mp hl _ _ hia hib hlt).le

/-- R405: the choice is the first of the dispatchable tasks, in ascending order, whose priority is highest. -/
theorem dispatchChoice_eq_argmax (s : State) (e : Nat) : dispatchChoice s e =
    ((List.range 64).filter (fun t => dispatchable s t e)).argmax (fun t => s.nat (taskIdx t) 5) := by
  unfold dispatchChoice List.argmax
  congr 1
  funext best t
  cases best with
  | none => rfl
  | some b => rfl

/-- R405: the task chosen is dispatchable, and every other is of lower priority or of equal priority and higher number. -/
theorem dispatchChoice_highest {s : State} {e t : Nat} (h : dispatchChoice s e = some t) :
    dispatchable s t e = true ∧ ∀ u, u < 64 → dispatchable s u e = true →
      s.nat (taskIdx u) 5 < s.nat (taskIdx t) 5 ∨ (s.nat (taskIdx u) 5 = s.nat (taskIdx t) 5 ∧ t ≤ u) := by
  rw [dispatchChoice_eq_argmax] at h
  obtain ⟨hmem, hmax, hfirst⟩ := List.mem_argmax_iff.mp h
  refine ⟨(List.mem_filter.mp hmem).2, fun u hu hdisp => ?_⟩
  have hmemu : u ∈ (List.range 64).filter (fun t => dispatchable s t e) := by simp [hu, hdisp]
  rcases (hmax u hmemu).lt_or_eq with hlt | heq
  · exact .inl hlt
  · exact .inr ⟨heq, le_of_idxOf_le (List.pairwise_lt_range.filter _) hmemu (hfirst u hmemu heq.ge)⟩

/-! ### Copies -/

theorem copyTime_succ (n : Nat) : copyTime (n + 1) = 10 + 2 * n := by
  rw [copyTime, if_neg n.succ_ne_zero]
  omega

theorem copyLimit_succ (n : Nat) : copyLimit (n + 1) = 11 + 3 * n := by
  rw [copyLimit, if_neg n.succ_ne_zero]
  omega

/-- Words that memory gives as it holds them are copied as it holds them. -/
theorem readCopy_readable {s : State} {l : List Nat} (h : ∀ x ∈ l, busRead s x = (s, some (s.memWord x))) :
    readCopy s l = (s, some (l.map s.memWord)) := by
  induction l with
  | nil => rfl
  | cons a l ih =>
    obtain ⟨ha, hl⟩ := List.forall_mem_cons.mp h
    simp only [readCopy, ha, ih hl, Option.map_some, List.map_cons]

/-- R419: where every word of the state region can be read, the copy is what memory holds. -/
theorem stateCopy_readable {s : State} {t a : Nat} (h : ∀ x ∈ wordsFrom (aliasAddr a (s.nat (taskIdx t) 0x10))
    (s.nat (taskIdx t) 0x11), busRead s x = (s, some (s.memWord x))) : stateCopy s t a =
    (s, s.memWords (aliasAddr a (s.nat (taskIdx t) 0x10)) (s.nat (taskIdx t) 0x11), false) := by
  rw [stateCopy, readCopy_readable h, State.memWords]

end Sys2Proof.Machine
end

section
/-! PROOF. Tasks are activated, dispatched and ended, and found to hang (R401 to R410). -/
namespace Sys2Proof.Machine

/-! ### Requests by command and by timer -/

theorem exec_activateCommand (t : Fin 64) (w : Wr) (s : State) : exec (.activateCommand t w) s =
    .next (accessWrite s w false (taskIdx t) 0x19 (activateEff t)) := rfl

/-- R19, R401: an activation by command that finds none pending is pending from the next cycle. -/
theorem activateEff_requests {t : Nat} (w : Wr) (auth : Bool) {s : State} (hp : (s.task t).pending = none) :
    activateEff t w auth s = (.accepted, (requestActivation s t 2 (activationRecord t 2 0 0 0 false)).modTask t
      (fun x => { x with pendingAt := s.t + 1 })) := by
  simp [activateEff, hp, acc]

/-- R401: a timer that is due requests an activation and runs on. -/
theorem exec_taskTimer_due {t : Fin 64} {s : State} {due : Nat} (htimer : (s.task t).timer = some due) (hdue : due ≤ s.t) :
    exec (.taskTimer t) s =
      .next (requestActivation (s.modTask t (fun x => { x with timer := some (due + s.nat (taskIdx t) 0x0A) })) t 3
        (activationRecord t 3 (lo32 s.now) 0 0 false)) := by
  change execTaskTimer t s = _
  rw [execTaskTimer, htimer]
  exact when_true (decide_eq_true hdue) _ _

/-! ### Dispatch, end and hang -/

/-- R405: a free, eligible engine takes the task chosen. -/
theorem exec_dispatch_chosen {e : Fin 16} {s : State} {t : Nat} (hfree : activation s e = none)
    (helig : engineEligible s e = true) (hsince : s.fm.freeAt.getD e 0 + 2 ≤ s.t) (h : dispatchChoice s e = some t) :
    exec (.dispatch e) s = .next (dispatchTask s t e) := by
  have hpassed : s.passed (s.fm.freeAt.getD e 0) 2 = true := decide_eq_true hsince
  change execDispatch e s = _
  rw [execDispatch, if_neg (by rw [hfree, helig, hpassed]; simp), h]

theorem exec_endWrite (e : Fin 16) (w : Wr) (s : State) : exec (.endWrite e w) s =
    .next (accessWrite s w false (0x2790 + e.val) 5 (endEff e)) := rfl

section
variable {e : Fin 16} {w : Wr} (auth : Bool) {s : State}

/-- R407: 1h by the engine itself ends its activation. -/
theorem endEff_ends {u : Bool} {t since : Nat} (hm : w.master = .engine e u) (hv : w.value = 1)
    (hact : activation s e = some (t, since)) : endEff e w auth s = (.accepted, endActivation s t e since) := by
  simp [endEff, hm, hv, hact, acc]

/-- R407: any other write of the word is discarded. -/
theorem endEff_refused (h : (∀ u, w.master ≠ .engine e u) ∨ w.value ≠ 1 ∨ activation s e = none) :
    endEff e w auth s = (.state, s) := by
  unfold endEff
  split
  next g u t since hm hact =>
    refine if_neg fun ⟨hv, hg⟩ => ?_
    obtain rfl : g = e := Fin.ext hg
    rcases h with hother | hvalue | hnone
    · exact hother u hm
    · exact hvalue hv
    · exact absurd (hact.symm.trans hnone) (by simp)
  next => rfl

end

/-- R410: an activation that has run for X × B cycles hangs. -/
theorem exec_taskHang_due {e : Fin 16} {s : State} {t since : Nat} (hact : activation s e = some (t, since))
    (hdue : since + s.nat (taskIdx t) 0x0B * s.nat (taskIdx t) 9 ≤ s.t) : exec (.taskHang e) s =
    .next (markFaulty ((abandon (requestUnitReset s e false) t e since).report 58 .uc) e) := by
  change execTaskHang e s = _
  rw [execTaskHang, hact]
  exact when_true (decide_eq_true hdue) _ _

/-- Settles O41: requests by the four ways they can go (`requestActivation_pends_leaves` and its companions), a dispatch by
`dispatchChoice_highest`, ends by `endEff_ends` and `endEff_refused`, the timer and the hang by their times. -/
theorem tasksAreActivatedAndEnd : Obligations.TasksAreActivatedAndEnd := by
  unfold Obligations.TasksAreActivatedAndEnd
  refine ⟨fun s t src rec ht hlen hsrc htakes => ?requests,
    fun s t src rec => ⟨requestActivation_masked rec, requestActivation_discarded rec⟩, fun t w s hp hnone => ?command,
    fun t s due htimer hdue => exec_taskTimer_due htimer hdue,
    fun e s t hfree helig hsince h => exec_dispatch_chosen hfree helig hsince h, fun s e t h => dispatchChoice_highest h,
    fun e w s hp => ⟨fun u t since hm hv hact => ?ends, fun h => ?refused⟩,
    fun e s t since hact hdue => exec_taskHang_due hact hdue⟩
  case requests =>
    have htask : t < s.fm.tasks.length := hlen.symm ▸ ht
    exact ⟨requestActivation_pends_leaves rec hsrc htakes htask,
      fun old hold => requestActivation_merges_leaves rec hsrc htakes htask hold⟩
  case command => rw [exec_activateCommand, accessWrite_done hp (activateEff_requests _ _ hnone)]
  case ends => rw [exec_endWrite, accessWrite_done hp (endEff_ends _ ((typedWrite_master ..).trans hm) hv hact)]
  case refused =>
    rw [exec_endWrite, accessWrite_state hp (endEff_refused _ _)]
    rwa [typedWrite_master]

end Sys2Proof.Machine
end

section
/-! PROOF. Tasks are enabled, placed, moved and swapped; consolidations time out; faulty marks are cleared (R412 to R432). -/
namespace Sys2Proof.Machine

/-! ### The enable -/

theorem exec_taskEnable (t : Fin 64) (w : Wr) (s : State) : exec (.taskEnable t w) s =
    .next (accessWrite s w false (taskIdx t) 1 (taskEnableEff t)) := rfl

section
variable {t : Nat} {w : Wr} (auth : Bool) {s : State}

/-- R416: 1 makes a disabled task unplaced and untried, with its load shown. -/
theorem taskEnableEff_unplaces (hv : w.value = 1) (hp : placement s t = 0) : taskEnableEff t w auth s =
    (.accepted, (((s.put (taskIdx t) 1 1).putN (taskIdx t) 2 1).putN (taskIdx t) 0x18 (taskLoad s t)).modTask t
      (fun x => { x with tried := false })) := by
  simp only [taskEnableEff, hv, if_true, hp, acc]

/-- R416: 1 is all that a task that is not disabled takes. -/
theorem taskEnableEff_enabled (hv : w.value = 1) (hp : placement s t ≠ 0) :
    taskEnableEff t w auth s = (.accepted, s.put (taskIdx t) 1 1) := by
  simp only [taskEnableEff, hv, if_true, if_neg hp, acc]

variable (hv : w.value = 0)
include hv

/-- R432: 0 disables an unplaced task. -/
theorem taskEnableEff_disables (hp : placement s t = 1) :
    taskEnableEff t w auth s = (.accepted, disableTask (s.put (taskIdx t) 1 0) t) := by
  simp [taskEnableEff, hv, hp, acc]

/-- R432: 0 waits for a load. -/
theorem taskEnableEff_loading (hp : placement s t = 2) : taskEnableEff t w auth s =
    (.accepted, (s.put (taskIdx t) 1 0).modTask t (fun x => { x with stop := true })) := by
  simp [taskEnableEff, hv, hp, acc]

/-- R432: 0 makes a placed task that does not migrate stopping. -/
theorem taskEnableEff_stops (hp : placement s t = 3) (hpend : (s.task t).pending = none)
    (hm : ∀ m, s.fm.migration = some m → m.task ≠ t) : taskEnableEff t w auth s =
    (.accepted, finishStop ((s.put (taskIdx t) 1 0).putN (taskIdx t) 2 5) t) := by
  cases hmig : s.fm.migration with
  | none => simp [taskEnableEff, hv, hp, hpend, hmig, acc]
  | some m => simp [taskEnableEff, hv, hp, hpend, hmig, hm m hmig, acc]

end

/-! ### Loads and migrations -/

/-- R416, R417: a task whose copies have had their cycles is placed. -/
theorem exec_taskPlaced_complete {t : Fin 64} {s : State} {e : Nat} (hp : placement s t = 2)
    (hon : (s.task t).loadOn = some e) (hdue : (s.task t).loadAt +
      (copyTime (s.nat (taskIdx t) 0x0E) + copyTime (s.nat (taskIdx t) 0x11)) ≤ s.t) :
    exec (.taskPlaced t) s = .next (foremanAct (placedOn s t e)) := by
  have hpast : loadPast copyTime s t = true := by simp [loadPast, State.passed, hp, hdue]
  exact (when_true hpast _ _).trans (by rw [endLoad, hon])

/-- R419, R424: the cut carries the words of the state copy. -/
theorem cutMigration_copies {s s1 : State} {m : Migration} {a : Nat} {l : List Word} {bad : Bool}
    (hhost : taskHost s m.task = some a) (hcopy : stateCopy s m.task a = (s1, l, bad)) : cutMigration s m =
    (s1.putN (taskIdx m.task) 2 4).modFm (fun f => { f with
      migration := some { m with cut := some s.t, damaged := bad, image := l } }) := by
  simp only [cutMigration, hhost, hcopy]

/-- R419: with the preload complete and no activation running the migration is cut. -/
theorem exec_migrationCut_cuts {s : State} {m : Migration} (hm : s.fm.migration = some m) (hcut : m.cut = none)
    (hp : placement s m.task = 3) (hrun : s.flag (taskIdx m.task) 6 0 = false)
    (hdue : m.since + copyTime (s.nat (taskIdx m.task) 0x0E) ≤ s.t) :
    exec .migrationCut s = .next (cutMigration s m) := by
  change execMigrationCut s = _
  rw [execMigrationCut, hm]
  exact when_true (by simp [cutPast, State.passed, hcut, hp, hrun, hdue]) _ _

/-- R419: after the copy the target is the host. -/
theorem exec_migrationSwap_swaps {s : State} {m : Migration} {c : Nat} (hm : s.fm.migration = some m)
    (hcut : m.cut = some c) (hdue : c + (copyTime (s.nat (taskIdx m.task) 0x11) + 1) ≤ s.t) :
    exec .migrationSwap s = .next (swapHost s m c) := by
  change execMigrationSwap s = _
  simp only [execMigrationSwap, hm, hcut]
  exact when_true (decide_eq_true hdue) _ _

/-! ### Move commands -/

theorem exec_moveCommand (t : Fin 64) (w : Wr) (s : State) : exec (.moveCommand t w) s =
    .next (accessWrite s w false (taskIdx t) 0x1A (moveEff t)) := rfl

/-- R431: whether a move command of task t to engine b is accepted. -/
def moveFits (s : State) (t b : Nat) : Prop :=
  s.flag (taskIdx t) 7 0 = true ∧ placement s t = 3 ∧ b < 16 ∧ taskHost s t ≠ some b ∧ engineTakes s t b = true ∧
    (∀ m, s.fm.migration = some m → m.task ≠ t)

theorem migration_map_task_ne_iff (s : State) (t : Nat) :
    (s.fm.migration.map (·.task)) ≠ some t ↔ ∀ m, s.fm.migration = some m → m.task ≠ t := by
  simp [Option.map_eq_some_iff]

section
variable {t : Nat} {w : Wr} (auth : Bool) {s : State}

/-- R431: a move that fits is queued. -/
theorem moveEff_queues (h : moveFits s t w.value.toNat) : moveEff t w auth s =
    (.accepted, foremanAct (s.modFm (fun m => { m with
      wanted := m.wanted ++ [(MoveKind.command, t, some w.value.toNat)] }))) := by
  rw [moveFits, ← migration_map_task_ne_iff] at h
  exact if_pos h

/-- R431: any other is discarded. -/
theorem moveEff_refused (h : ¬ moveFits s t w.value.toNat) : moveEff t w auth s = (.state, s) := by
  rw [moveFits, ← migration_map_task_ne_iff] at h
  exact if_neg h

end

/-! ### Consolidations and faulty marks -/

/-- R428: a consolidation that has not emptied its cluster within its timeout is refused. -/
theorem exec_consolidationTimeout_refuses {s : State} {c t0 : Nat} (h : s.fm.consolidation = some (c, t0))
    (hdue : t0 + 200 * s.nat 0x2780 9 ≤ s.t) (hleft : clusterEmpty s c = false) :
    exec .consolidationTimeout s = .next (foremanAct (refuseConsolidation s c)) := by
  have hpassed : s.passed t0 (cyclesUs (s.nat 0x2780 9)) = true := decide_eq_true hdue
  change execConsolidationTimeout s = _
  rw [execConsolidationTimeout, h]
  exact when_true (by rw [hpassed, hleft]; rfl) _ _

theorem exec_clearEngineFault (w : Wr) (s : State) :
    exec (.clearEngineFault w) s = .next (accessWrite s w false 0x2780 6 clearFaultEff) := rfl

/-- Settles O42: the enable by its effect (`taskEnableEff_unplaces` and its companions), loads, cuts, swaps and timeouts by their
times, the state copy by `stateCopy_readable`, move commands by `moveEff_queues` and `moveEff_refused`. -/
theorem foremanPlacesAndMoves : Obligations.ForemanPlacesAndMoves := by
  unfold Obligations.ForemanPlacesAndMoves
  refine ⟨fun t w s hp => ?enable, fun t s e hp hon hdue => exec_taskPlaced_complete hp hon hdue,
    fun n => ⟨rfl, copyTime_succ n, rfl, copyLimit_succ n⟩, fun s s1 m a l bad hm hcut hhost hp hrun hdue hcopy => ?cut,
    fun s t a h => stateCopy_readable h, fun s m c hm hcut hdue => exec_migrationSwap_swaps hm hcut hdue,
    fun t w s hp => ?move, fun s c t0 h hdue hleft => exec_consolidationTimeout_refuses h hdue hleft, fun w s hp => ?clear⟩
  case enable =>
    intro i
    rw [exec_taskEnable]
    refine ⟨fun hv h => ?_, fun hv h => ?_, fun hv h => ?_, fun hv h => ?_, fun hv h hpend hm => ?_⟩
    · rw [accessWrite_done hp (taskEnableEff_unplaces _ hv h)]
    · rw [accessWrite_done hp (taskEnableEff_enabled _ hv h)]
    · rw [accessWrite_done hp (taskEnableEff_disables _ hv h)]
    · rw [accessWrite_done hp (taskEnableEff_loading _ hv h)]
    · rw [accessWrite_done hp (taskEnableEff_stops _ hv h hpend hm)]
  case cut => rw [exec_migrationCut_cuts hm hcut hp hrun hdue, cutMigration_copies hhost hcopy]
  case move =>
    intro b fit
    rw [exec_moveCommand]
    refine ⟨fun h => ?_, fun h => ?_⟩
    · rw [accessWrite_done hp (moveEff_queues _ h), typedWrite_value]
    · rw [accessWrite_state hp (moveEff_refused _ h)]
  case clear => rw [exec_clearEngineFault, accessWrite_done hp rfl, typedWrite_value]

end Sys2Proof.Machine
end

section
/-! PROOF. The checks of a write in the order of R444, and pairs of object words (R454). -/
namespace Sys2Proof.Machine

/-! ### The checks of a write -/

/-- R454: a write outside a command is of a lone high word: the pair takes writes outside commands, and the master has not
staged its low word. -/
theorem unpaired_iff (s : State) (w : Wr) (r : ObjRow) (i j : Nat) : unpaired s w false r i j = true ↔
    r.ty.isHigh = true ∧ r.acc.writable = true ∧ r.acc ≠ .rwa ∧
      ∀ lo, (s.master w.master).staged ≠ some (objKey i (j - 1), lo) := by
  have hlone : (s.master w.master).staged.map (·.1) ≠ some (objKey i (j - 1)) ↔
      ∀ lo, (s.master w.master).staged ≠ some (objKey i (j - 1), lo) := by
    simp [Option.map_eq_some_iff]
  rw [← hlone]
  simp [unpaired, and_assoc]

/-- R444: the checks of a write outside a command, of a word that exists. -/
theorem checkWrite_of_row {i j : Nat} {r : ObjRow} (hr : objRow i j = some r) (s : State) (w : Wr) :
    checkWrite s w false i j =
      if s.on (objDomain i) = false then .domain
      else if writePrivileged s w.master i j = true then .privilege
      else if wrongLength w.master r.ty w.len = true then .length
      else if unpaired s w false r i j = true then .pair
      else if r.acc.writable = false then .readOnly
      else if r.acc = .rwa ∨ remoteAuth w.master i j = true then .authentication
      else if r.rng.admits (r.ty.extend w.value) = false then .range
      else if (otpHeld i j && !s.startup.otpLoaded) || (journalHeld i j && !s.startup.journalLoaded) then .state
      else .accepted := by
  simp only [checkWrite, hr, and_true]

/-- Settles O9, check by check: each condition of R444 holds and gives its result (`if_pos`), or leaves the rest to the next
one (`if_neg`). -/
theorem accessChecksInTableOrder : Obligations.AccessChecksInTableOrder := by
  unfold Obligations.AccessChecksInTableOrder
  refine fun s w i j => ⟨fun h => by simp only [checkWrite, h], fun r hr => ?_⟩
  rw [checkWrite_of_row hr, ← unpaired_iff]
  intro v
  refine ⟨fun h => if_pos h, fun hdomain => ?_⟩
  rw [if_neg (by simp [hdomain])]
  refine ⟨fun h => if_pos h, fun hprivilege => ?_⟩
  rw [if_neg (by simp [hprivilege])]
  refine ⟨fun h => if_pos h, fun hlength => ?_⟩
  rw [if_neg (by simp [hlength])]
  refine ⟨fun h => if_pos h, fun hpair => ?_⟩
  rw [if_neg hpair]
  refine ⟨fun h => if_pos h, fun hwritable => ?_⟩
  rw [if_neg (by simp [hwritable])]
  refine ⟨fun h => if_pos h, fun hauth => ?_⟩
  rw [if_neg hauth]
  refine ⟨fun h => if_pos h, fun hrange => ?_⟩
  exact if_neg (by simp [v, hrange])

/-! ### Pairs -/

theorem writeObject_hardware {i : Nat} (s : State) (w : Wr) (auth : Bool) (j : Nat) (hf : isFirmware i = false) :
    writeObject s w auth i j = accessWrite s w auth i j (writeEff i j) := by
  simp [writeObject, hf]

theorem exec_pairLowWrite (i : BitVec 16) (j : Byte) (w : Wr) (s : State) :
    exec (.pairLowWrite i j w) s = .next (writeObject s w false i.toNat j.toNat) := rfl

theorem exec_pairHighWrite (i : BitVec 16) (j : Byte) (w : Wr) (s : State) :
    exec (.pairHighWrite i j w) s = .next (writeObject s w false i.toNat j.toNat) := rfl

/-- R11: no word is both words of a pair. -/
theorem OTy.isLow_of_isHigh {t : OTy} (h : t.isHigh = true) : t.isLow = false := by
  simp only [OTy.isHigh, Bool.or_eq_true, beq_iff_eq] at h
  rcases h with rfl | rfl <;> rfl

@[simp] theorem lo32_dw (lo hi : Word) : lo32 (dw lo hi) = lo := by
  ext b hb
  rw [lo32, BitVec.getElem_setWidth]
  exact (BitVec.getLsbD_append ..).trans (by simp [hb])

@[simp] theorem hi32_dw (lo hi : Word) : hi32 (dw lo hi) = hi := by
  ext b hb
  rw [hi32, BitVec.getElem_setWidth, BitVec.getLsbD_ushiftRight]
  exact (BitVec.getLsbD_append ..).trans (by simp [hb])

section
variable {i j : Nat} {r : ObjRow} (hr : objRow i j = some r)
include hr

theorem writeEff_low (hl : r.ty.isLow = true) : writeEff i j = stageLow i j := by
  simp [writeEff, hr, hl]

/-- R454: a high word commits its pair by the effect of the pair's block, but for the RTC's seconds set. -/
theorem writeEff_high (hh : r.ty.isHigh = true) (hsec : ¬ (i = 0x3300 ∧ j = 5)) :
    writeEff i j = commitPair (pairEff i (j - 1)) := by
  simp only [writeEff, hr, OTy.isLow_of_isHigh hh, hh, Bool.false_eq_true, if_false, if_true]
  by_cases hi : i = 0x3300
  · have hj : j ≠ 5 := fun hj => hsec ⟨hi, hj⟩
    subst hi
    rw [if_pos rfl, if_neg hj]
    rfl
  · rw [if_neg hi]

/-- R454: a committed pair that no event of the cycle has counted in holds both words. -/
theorem plainPair_uncounted {k : Nat} (hk : j = k + 1) {s : State} (hc : s.cycleCount (objKey i k) = none) (lo v : Word)
    (w : Wr) (auth : Bool) : plainPair i k (dw lo v) w auth s =
      (.accepted, (s.put i k lo).put i j (r.rng.keep (r.ty.extend v))) := by
  subst hk
  simp [plainPair, pairWritten, hc, acc, State.store, hr]

end

/-- R454: the pairs whose block adds no effect of its own: all but those of the gauge, which its settings 2F01h take where
the value is not negative (R652), and those of a counter that the cycle's events moved (R780). -/
theorem pairEff_plain {i j : Nat} {s : State} {v : DWord} (hb : i / 256 ≠ 0x2F ∨ (i = 0x2F01 ∧ 0 ≤ v.toInt))
    (hc : s.cycleCount (objKey i j) = none) (w : Wr) (auth : Bool) : pairEff i j v w auth s = plainPair i j v w auth s := by
  rcases hb with hb | ⟨rfl, hv⟩
  · unfold pairEff
    rw [if_neg hb]
    split
    · simp only [countWriteEff, hc]
    · rfl
  · have hneg : ¬ v.toInt < 0 := not_lt.mpr hv
    simp [pairEff, gaugePairEff, hneg]

/-- R454: the commit of a staged low word and the high word written sets both and clears the staging. -/
theorem commitPair_commits {i j k : Nat} {r : ObjRow} (hr : objRow i j = some r) (hk : j = k + 1) {s : State} {w : Wr}
    {n : Nat} {lo : Word} (hstaged : (s.master w.master).staged = some (n, lo))
    (hb : i / 256 ≠ 0x2F ∨ (i = 0x2F01 ∧ 0 ≤ (dw lo w.value).toInt)) (hc : s.cycleCount (objKey i k) = none)
    (auth : Bool) :
    commitPair (pairEff i k) w auth s =
      (.accepted, ((s.modMaster w.master (fun x => { x with staged := none })).put i k lo).put i j
        (r.rng.keep (r.ty.extend w.value))) := by
  have hc' : (s.modMaster w.master (fun x => { x with staged := none })).cycleCount (objKey i k) = none := hc
  simp only [commitPair, hstaged]
  rw [pairEff_plain hb hc', plainPair_uncounted hr hk hc']

/-- Settles O12: the low word by `stageLow`, the high word by the commit of what the master staged (`writeEff_high`,
`commitPair_commits`). -/
theorem pairWritesStageAndCommit : Obligations.PairWritesStageAndCommit := by
  unfold Obligations.PairWritesStageAndCommit
  intro i j w s r hf hr hp v
  rw [exec_pairLowWrite, exec_pairHighWrite, writeObject_hardware s w false _ hf]
  refine ⟨fun hl => ?low, fun lo hh hj hb hsec hstaged hc => ?high⟩
  case low => rw [writeEff_low hr hl, accessWrite_done hp rfl, typedWrite_master, typedWrite_value]
  case high =>
    have hstaged' : (s.master (typedWrite w i.toNat j.toNat).master).staged = some (objKey i.toNat (j.toNat - 1), lo) := by
      rw [typedWrite_master, hstaged]
    rw [writeEff_high hr hh hsec, accessWrite_done hp (commitPair_commits hr (by omega) hstaged' hb hc false),
      typedWrite_master, typedWrite_value]

end Sys2Proof.Machine
end

section
/-! PROOF. Transfers of DOMAIN objects (R449, R507, R811). -/
namespace Sys2Proof.Machine

theorem exec_domainDataRead (d : DomainObject) (rd : Rd) (s : State) :
    exec (.domainDataRead d rd) s = .next (readObject s rd (domainIndex d) 3) := rfl

theorem exec_domainDataWrite (d : DomainObject) (w : Wr) (s : State) :
    exec (.domainDataWrite d w) s = .next (writeObject s w false (domainIndex d) 3) := rfl

theorem exec_bankDataWrite (b : Fin 2) (w : Wr) (good : Bool) (s : State) : exec (.bankDataWrite b w good) s =
    .next (accessWrite s w false (0x3808 + b.val) 3 (bankDataEff (0x3808 + b.val) good)) := rfl

/-! ### Effects of the data word -/

theorem readEff_domain (d : DomainObject) : readEff (domainIndex d) 3 = domainReadEff (domainIndex d) := by
  cases d <;> rfl

theorem isFirmware_domainIndex (d : DomainObject) : isFirmware (domainIndex d) = false := by
  cases d <;> rfl

theorem writeEff_message : writeEff 0x2A81 3 = messageDataEff := rfl

theorem writeEff_bank (b : Fin 2) : writeEff (0x3808 + b.val) 3 = bankDataEff (0x3808 + b.val) true := by
  match b with
  | 0 => rfl
  | 1 => rfl

theorem domainIndex_bank (b : Fin 2) : domainIndex (if b = 0 then .bankA else .bankB) = 0x3808 + b.val := by
  match b with
  | 0 => rfl
  | 1 => rfl

/-- R449: a read within the size returns four bytes and moves the offset on. -/
theorem domainReadEff_within {s : State} {i : Nat} (h : domainOffset s i < domainSize s i) (rd : Rd) :
    domainReadEff i rd s = (domainWord s i (domainOffset s i), s.putN i 2 (domainOffset s i + 4)) := if_pos h

/-- R449, R507: a write within the message buffer while no message is judged stores four bytes and moves the offset on. -/
theorem messageDataEff_within {s : State} (h : domainOffset s 0x2A81 < 152) (hidle : s.nat 0x2A80 1 = 0) (w : Wr)
    (auth : Bool) : messageDataEff w auth s = (.accepted,
      (storeMessage s (domainOffset s 0x2A81) w.value).putN 0x2A81 2 (domainOffset s 0x2A81 + 4)) := by
  simp only [messageDataEff, if_neg (not_le.mpr h), hidle, ne_eq, not_true_eq_false, if_false, acc]

/-- R811: a program that does not erase, with the flash good and supplied, clears bits. -/
theorem flashWrite_clears {s : State} {a : Nat} (ha : a % 4096 ≠ 0) (hv : s.sup.vddioLow = false) (v : Word) :
    flashWrite s a v true = s.putWord a (s.memWord a &&& v) := by
  simp [flashWrite, ha, hv]

/-- R449, R811: a write of a bank that is not the running one, within the bank and off a sector's start. -/
theorem bankDataEff_programs {s : State} {i : Nat} (h7 : s.on 7 = true) (hk : domainOffset s i < domainSize s i)
    (hrun : s.nat 0x3800 4 ≠ i - 0x3807) (hv : s.sup.vddioLow = false)
    (ha : (bankBase i + domainOffset s i) % 4096 ≠ 0) (w : Wr) (auth : Bool) : bankDataEff i true w auth s =
      let a := bankBase i + domainOffset s i
      (.accepted, (s.putWord a (s.memWord a &&& w.value)).putN i 2 (domainOffset s i + 4)) := by
  simp only [bankDataEff, h7, Bool.true_eq_false, if_false, if_neg (not_le.mpr hk), if_neg hrun,
    flashWrite_clears ha hv, if_true, acc]

/-- Settles O14: each transfer is one access, whose effect within the object is said by `domainReadEff_within`,
`messageDataEff_within` and `bankDataEff_programs`. -/
theorem domainObjectTransfers : Obligations.DomainObjectTransfers := by
  unfold Obligations.DomainObjectTransfers
  refine ⟨fun d rd s hp hd hk => ?read, fun w s hp hk hidle => ?message, fun b w s hp h7 hk hrun hv ha => ?bank⟩
  case read =>
    rw [exec_domainDataRead, readObject_hardware rd (isFirmware_domainIndex d) hd, readEff_domain, accessRead_done hp,
      domainReadEff_within hk]
  case message =>
    have hw := accessWrite_done hp (messageDataEff_within hk hidle _ false)
    rw [exec_domainDataWrite, writeObject_hardware s w false 3 (isFirmware_domainIndex .message)]
    exact congrArg _ hw
  case bank =>
    intro a t
    have hw := accessWrite_done hp (bankDataEff_programs h7 hk (by omega) hv ha _ false)
    refine ⟨congrArg _ hw, ?_⟩
    have hf := isFirmware_domainIndex (if b = 0 then .bankA else .bankB)
    rw [domainIndex_bank] at hf
    rw [exec_domainDataWrite, domainIndex_bank, writeObject_hardware s w false 3 hf, writeEff_bank]
    exact congrArg _ hw

end Sys2Proof.Machine
end

section
/-! SUPPORT. Firmware objects in the terms of the statements: the search and the words that an access reads, a table that comes
into force, and one access (R442, R457 to R462, R466 to R468). -/
namespace Sys2Proof.Machine

/-! ### The search -/

/-- R460: the search finds a position of the range it looks through. -/
theorem fwSearch_lt {s : State} {i n lo hi k : Nat} (h : (fwSearch s i n lo hi).2 = some k) : k < hi := by
  induction n generalizing lo hi with
  | zero => cases h
  | succ n ih =>
    unfold fwSearch at h
    split at h
    next => cases h
    next hlt =>
      have hmid : (lo + hi) / 2 < hi := by omega
      dsimp only at h
      split at h
      next =>
        cases h
        exact hmid
      next =>
        split at h
        · exact ih h
        · exact (ih h).trans hmid

/-- R442: an entry stands at a position of the table in force. -/
theorem fwEntry_place_lt {s : State} {i : Nat} {x : FwEntry} (h : fwEntry s i = some x) : x.place < s.nat 0x2020 6 := by
  obtain ⟨k, hk, rfl⟩ := Option.map_eq_some_iff.mp h
  exact fwSearch_lt hk

/-! ### Words of system SRAM -/

/-- R371, R372: a read of system SRAM writes words of 2710h alone. -/
theorem eccRead_sram_obj (s : State) (a : Nat) {i j : Nat} (hj : j < 256) (hi : i ≠ 0x2710) :
    (eccRead s .sram a).1.obj i j = s.obj i j := by
  have hne : ∀ k, k < 256 → objKey i j ≠ objKey 0x2710 k := fun k hk => objKey_ne_of_object hj hk hi
  have h1 := hne 1 (by decide)
  have h2 := hne 2 (by decide)
  have h4 := hne 4 (by decide)
  have h6 := hne 6 (by decide)
  unfold eccRead
  dsimp only
  split
  · simp [eccUncorrectable, h2, h4, h6]
  · split
    · have hobj : ∀ e, ({ s with ecc := e } : State).obj i j = s.obj i j := fun _ => rfl
      simp [eccCorrected, h1, h4, h6, hobj]
    · rfl

theorem readWords_obj (l : List Nat) (s : State) {i j : Nat} (hj : j < 256) (hi : i ≠ 0x2710) :
    (readWords s l).1.obj i j = s.obj i j := by
  induction l generalizing s with
  | nil => rfl
  | cons a l ih =>
    have ha := eccRead_sram_obj s a hj hi
    unfold readWords
    dsimp only
    split
    · rw [ih, ha]
    · exact ha

/-! ### Object words -/

theorem State.putN_nat_self (s : State) (i j : Nat) {n : Nat} (hn : n < 2 ^ 32) : (s.putN i j n).nat i j = n := by
  rw [State.nat, State.putN_obj, if_pos rfl, BitVec.toNat_ofNat, Nat.mod_eq_of_lt hn]

theorem State.putN_nat_other (s : State) (n : Nat) {i j x y : Nat} (h : objKey x y ≠ objKey i j) :
    (s.putN i j n).nat x y = s.nat x y :=
  State.nat_eq_of_obj (State.put_obj_other _ _ _ _ _ _ h)

/-! ### A table in force -/

/-- R459, R466: the words that name the table in force. -/
def tableNamed (s : State) (a n : Nat) : State :=
  ((s.putN 0x2020 5 a).putN 0x2020 6 n).putN 0x2020 3 (if n = 0 then 0 else 1)

theorem State.fwt_obj (s : State) (f : FwTable) (i j : Nat) : ({ s with fwt := f } : State).obj i j = s.obj i j := rfl

/-- R466: a table that comes into force clears the change words 2021h and writes the words that name it. -/
theorem tableInForce_obj (s : State) (a n : Nat) {j : Nat} (hj : j < 256) :
    (tableInForce s a n).obj 0x2020 j = (tableNamed s a n).obj 0x2020 j := by
  have hother : ∀ k ∈ List.range 16, objKey 0x2020 j ≠ objKey 0x2021 (1 + k) := fun k hk =>
    objKey_ne_of_object hj (by have := List.mem_range.mp hk; omega) (by decide)
  unfold tableInForce
  exact (State.fwt_obj _ _ _ _).trans (foldl_put_obj_other (fun _ => BitVec.ofNat 32 0) hother (tableNamed s a n))

/-- R459: the state after a table that passes. -/
theorem validateTable_passes {s s1 : State} {a n : Nat} (hf : tableFault s a n = 0)
    (hr : readWords s (tableWords s a n) = (s1, true)) :
    validateTable s a n = (tableInForce s1 a n).putN 0x2020 4 0 := by
  simp only [validateTable, hf, hr, if_true]

theorem tableCommitEff_starts {s : State} {w : Wr} (hv : s.fwt.validating = none) (hn : w.value ≠ 0) (auth : Bool) :
    tableCommitEff w auth s = (.accepted, { (s.putN 0x2020 2 w.value.toNat).putN 0x2020 3 2 with
      fwt := { validating := some (s.nat 0x2020 1, w.value.toNat), since := s.t } }) := by
  have hn' : w.value.toNat ≠ 0 := fun h => hn (BitVec.eq_of_toNat_eq h)
  simp [tableCommitEff, hv, hn', acc]

/-! ### Accesses -/

section
variable {s s1 : State} {x : FwEntry} {i j : Nat} {r : ObjRow} (hx : fwEntry s i = some x) (hr : fwRowOf s x j = some r)
  (hw : readWords (s.bump 0x2020 8 32) (fwTouched s x j r) = (s1, true))
include hx hr hw

/-- R460, R461: a read that is not refused. -/
theorem fwRead_returned {rd : Rd} (hlive : masterLive s rd.master = true) (hp : fwPrivileged s rd.master false i j = false)
    (hl : readLength rd = false) :
    fwRead s rd i j = (fwReadValue s1 rd.master x i j r).2.returned (fwReadValue s1 rd.master x i j r).1 := by
  simp [fwRead, hlive, hx, hr, hp, hw, fwCheckRead, hl, endRead_accepted]

/-- R460, R462: a write that is not refused. -/
theorem fwWrite_stored {w : Wr} (hlive : masterLive s w.master = true) (hp : fwPrivileged s w.master true i j = false)
    (hc : fwCheckWrite s w false i j r true = .accepted) :
    fwWrite s w false i j = (fwStore s1 x w i j r).accepted w.master i j := by
  have hres : fwResult s w false i j = ({ result := .accepted, value := 0 }, fwStore s1 x w i j r) := by
    simp [fwResult, hx, hr, hp, hw, hc]
  simp only [fwWrite, hlive, Bool.true_eq_false, if_false, hres, endWrite_accepted]
  rfl

end

/-! ### The store of a written word -/

/-- R454, R462: memory as an accepted write of a word that is no low word leaves it: the word stored, after the staged low
word of its pair where it is a high word. -/
def fwStored (s : State) (x : FwEntry) (w : Wr) (j : Nat) (r : ObjRow) : State :=
  let s1 := if r.ty.isHigh then
      memStore (s.modMaster w.master (fun y => { y with staged := none })) (x.word (j - 1))
        (((s.master w.master).staged.map (·.2)).getD 0)
    else s
  memStore s1 (x.word j) (r.ty.extend w.value)

/-- R462, R467: such a write stores, counts and notifies. -/
theorem fwStore_not_low {r : ObjRow} (hl : r.ty.isLow = false) (s : State) (x : FwEntry) (w : Wr) (i j : Nat) :
    fwStore s x w i j r = fwNotify ((fwStored s x w j r).bump 0x2020 7 32) x w.master i j r.ty.isHigh := by
  cases hh : r.ty.isHigh <;> simp [fwStore, fwStored, hl, hh]

theorem fwStored_memWord (s : State) (x : FwEntry) (w : Wr) (j : Nat) (r : ObjRow) :
    (fwStored s x w j r).memWord (x.word j) = r.ty.extend w.value := memStore_memWord _ _ _

theorem memStore_obj (s : State) (a : Nat) (v : Word) (i j : Nat) : (memStore s a v).obj i j = s.obj i j := rfl

theorem fwStored_obj (s : State) (x : FwEntry) (w : Wr) (k : Nat) (r : ObjRow) (i j : Nat) :
    (fwStored s x w k r).obj i j = s.obj i j := by
  unfold fwStored
  rw [memStore_obj]
  split
  · rfl
  · rfl

/-- R462, R467: a write that NOTIFY admits sets the bit of the entry's position and the last write record. -/
theorem fwNotify_admitted {x : FwEntry} {m : Master} (h : notifies x m = true) (s : State) (i j : Nat) (pair : Bool) :
    ∃ n, fwNotify s x m i j pair = (s.setBits 0x2021 (1 + x.place / 32) (2 ^ (x.place % 32))).putN 0x2021 0x11 n :=
  ⟨_, if_pos h⟩

/-- R462: any other write notifies nobody. -/
theorem fwNotify_unadmitted {x : FwEntry} {m : Master} (h : notifies x m = false) (s : State) (i j : Nat) (pair : Bool) :
    fwNotify s x m i j pair = s := if_neg (by simp [h])

theorem fwNotify_memWord (s : State) (x : FwEntry) (m : Master) (i j : Nat) (pair : Bool) (a : Nat) :
    (fwNotify s x m i j pair).memWord a = s.memWord a := by
  cases h : notifies x m with
  | false => rw [fwNotify_unadmitted h]
  | true =>
    obtain ⟨n, hn⟩ := fwNotify_admitted h s i j pair
    rw [hn]
    rfl

section
variable {x : FwEntry} (hx : x.place < 512) (s : State) (m : Master) (i k : Nat) (pair : Bool)
include hx

/-- R462, R467: the notification writes words of 2021h alone. -/
theorem fwNotify_nat {j : Nat} (hj : j < 256) : (fwNotify s x m i k pair).nat 0x2020 j = s.nat 0x2020 j := by
  have hother : ∀ y, y < 256 → objKey 0x2020 j ≠ objKey 0x2021 y := fun y hy => objKey_ne_of_object hj hy (by decide)
  cases h : notifies x m with
  | false => rw [fwNotify_unadmitted h]
  | true =>
    obtain ⟨n, hn⟩ := fwNotify_admitted h s i k pair
    have hplace : 1 + x.place / 32 < 256 := by omega
    rw [hn, State.putN_nat_other _ _ (hother 0x11 (by decide))]
    exact State.nat_eq_of_obj (by rw [State.setBits_obj, if_neg (hother _ hplace)])

/-- R462: the bit of the entry's position is set where NOTIFY admits the write. -/
theorem fwNotify_bit (h : notifies x m = true) :
    ((fwNotify s x m i k pair).obj 0x2021 (1 + x.place / 32)).getLsbD (x.place % 32) = true := by
  obtain ⟨n, hn⟩ := fwNotify_admitted h s i k pair
  have hword : 1 + x.place / 32 ≠ 0x11 := by omega
  have hbit : x.place % 32 < 32 := Nat.mod_lt _ (by decide)
  rw [hn, State.putN_obj, if_neg (by simpa using hword), State.setBits_obj, if_pos rfl, BitVec.getLsbD_or,
    BitVec.getLsbD_ofNat, decide_eq_true hbit, Nat.testBit_two_pow_self, Bool.true_and, Bool.or_true]

end

end Sys2Proof.Machine
end

section
/-! PROOF. The firmware object table and its objects (R459 to R462, R467). -/
namespace Sys2Proof.Machine

theorem exec_firmwareTableCommit (w : Wr) (s : State) :
    exec (.firmwareTableCommit w) s = .next (accessWrite s w false 0x2020 2 tableCommitEff) := rfl

/-- R459: the validation of a table that passes ends once every word has had its cycle. -/
theorem exec_firmwareTableValidated {s : State} {a n : Nat} (h2 : s.on 2 = true) (hv : s.fwt.validating = some (a, n))
    (hdue : s.fwt.since + (tableWords s a n).length ≤ s.t) :
    exec .firmwareTableValidated s = .next (validateTable s a n) := by
  have hover : validationOver s a n = true := by simp [validationOver, State.passed, hdue]
  change execFirmwareTableValidated s = _
  rw [execFirmwareTableValidated, hv]
  exact when_true (by rw [h2, hover]; rfl) s _

theorem exec_firmwareObjectRead {i : BitVec 16} (j : Byte) (rd : Rd) (s : State) (hf : isFirmware i.toNat = true) :
    exec (.firmwareObjectRead i j rd) s = .next (fwRead s rd i.toNat j.toNat) := when_true hf s _

theorem exec_firmwareObjectWrite {i : BitVec 16} (j : Byte) (w : Wr) (s : State) (hf : isFirmware i.toNat = true) :
    exec (.firmwareObjectWrite i j w) s = .next (fwWrite s w false i.toNat j.toNat) := when_true hf s _

theorem fwReadValue_no_pair {r : ObjRow} (hl : r.ty.isLow = false) (hh : r.ty.isHigh = false) (s : State) (m : Master)
    (x : FwEntry) (i j : Nat) : fwReadValue s m x i j r = (if r.acc = .wo then 0 else fwValue s x j r, s) := by
  by_cases ha : r.acc = .wo <;> simp [fwReadValue, ha, hl, hh]

/-- R462: an access finds 2020h:07h as the words it reads leave it. -/
theorem readWords_changes {s s1 : State} {l : List Nat} (h : readWords (s.bump 0x2020 8 32) l = (s1, true)) :
    s1.nat 0x2020 7 = s.nat 0x2020 7 := by
  have hobj := readWords_obj l (s.bump 0x2020 8 32) (i := 0x2020) (j := 7) (by decide) (by decide)
  rw [h, State.bump_obj, if_neg (by decide)] at hobj
  exact State.nat_eq_of_obj hobj

/-- Settles O15: the commit by its effect (`tableCommitEff_starts`), the validation by `validateTable_passes`, the accesses by
`fwRead_returned` and `fwWrite_stored`, the store by `fwStore_not_low`. -/
theorem firmwareTableAndObjects : Obligations.FirmwareTableAndObjects := by
  unfold Obligations.FirmwareTableAndObjects
  refine ⟨fun w s hp hv hn => ?commit, fun s s1 a n h2 hv hpos hle ha hf hr hdue => ?validated,
    fun i j rd s s1 x r hf hlive hx hr hp hw hl => ⟨?read, fun hlow hhigh => fwReadValue_no_pair hlow hhigh _ _ _ _ _⟩,
    fun i j w s s1 x r h512 hf hlive hx hr hp hw hc => ?write⟩
  case commit =>
    rw [exec_firmwareTableCommit, accessWrite_done hp (tableCommitEff_starts (by exact hv) hn false)]
    refine ⟨_, rfl, rfl, ?state, ?count, ?words, fun _ => rfl⟩
    case state => exact State.putN_nat_self (s.putN 0x2020 2 _) 0x2020 3 (n := 2) (by decide)
    case count =>
      exact (State.putN_nat_other (s.putN 0x2020 2 _) 2 (i := 0x2020) (j := 3) (by decide)).trans
        (State.putN_nat_self s 0x2020 2 (carried w 0x2020 2).isLt)
    case words =>
      have hcount := (State.keepsWords.refl s [(0x2020, 2), (0x2020, 3)]).putN (i := 0x2020) (j := 2) (by decide) (by decide)
        (carried w 0x2020 2).toNat
      exact (hcount.putN (i := 0x2020) (j := 3) (by decide) (by decide) 2).of_od rfl
  case validated =>
    refine ⟨_, (exec_firmwareTableValidated h2 hv hdue).trans (by rw [validateTable_passes hf hr]), ?_⟩
    have hobj : ∀ j, j < 256 → j ≠ 4 →
        ((tableInForce s1 a n).putN 0x2020 4 0).nat 0x2020 j = (tableNamed s1 a n).nat 0x2020 j := fun j hj h4 =>
      (State.putN_nat_other _ _ (by simpa using h4)).trans (State.nat_eq_of_obj (tableInForce_obj s1 a n hj))
    have hn0 : n ≠ 0 := by omega
    refine ⟨?address, ?count, ?state, State.putN_nat_self _ _ _ (by decide), rfl⟩
    case address =>
      rw [hobj 5 (by decide) (by decide), tableNamed, State.putN_nat_other _ _ (by decide),
        State.putN_nat_other _ _ (by decide), State.putN_nat_self _ _ _ ha]
    case count =>
      rw [hobj 6 (by decide) (by decide), tableNamed, State.putN_nat_other _ _ (by decide),
        State.putN_nat_self _ _ _ (by omega)]
    case state =>
      rw [hobj 3 (by decide) (by decide), tableNamed, if_neg hn0, State.putN_nat_self _ _ _ (by decide)]
  case read => rw [exec_firmwareObjectRead j rd s hf, fwRead_returned hx hr hw hlive hp hl]
  case write =>
    intro t
    have hplace : x.place < 512 := (fwEntry_place_lt hx).trans_le h512
    refine ⟨?exec, fun hlow => ?staged, fun hlow => ?stored⟩
    case exec => rw [exec_firmwareObjectWrite j w s hf, fwWrite_stored hx hr hw hlive hp hc]
    case staged => exact if_pos hlow
    case stored =>
      have ht : t = _ := fwStore_not_low hlow s1 x w i.toNat j.toNat
      rw [ht]
      refine ⟨?word, ?changes, fun hn => fwNotify_bit hplace _ _ _ _ _ hn⟩
      case word =>
        rw [fwNotify_memWord]
        exact fwStored_memWord s1 x w j.toNat r
      case changes =>
        rw [fwNotify_nat hplace _ _ _ _ _ (by decide), State.bump_nat _ _ _ (by decide),
          State.nat_eq_of_obj (fwStored_obj ..), readWords_changes hw]
        rfl

end Sys2Proof.Machine
end

section
/-! PROOF. The CANopen services of the CAN object agent: NMT, SDO, PDO, SYNC, heartbeat and EMCY (R446, R482 to R490). -/
namespace Sys2Proof.Machine

/-! ### NMT -/

/-- R482: the oldest NMT command is taken and acts. -/
theorem exec_nmtCommand_takes {s : State} {f : Frame} (h : nextFrame s (fun v _ => v == .nmt) = some f) :
    exec .nmtCommand s = .next (nmtCommand (takeFrame s f) f) := by
  change execNmtCommand s = _
  rw [execNmtCommand, h]

/-- R483: what an NMT command of code c does to a node that it is addressed to. -/
def nmtAct (s : State) (c : Nat) : State :=
  match c with
  | 0x01 => setNmt s 5
  | 0x02 => setNmt s 4
  | 0x80 => setNmt s 0x7F
  | 0x81 => resetCommunication (s.setBits 0x2A20 0x0F 1)
  | 0x82 => resetCommunication s
  | _ => s

theorem nmtCommand_addressed {s : State} {f : Frame} (hlen : 2 ≤ f.data.length)
    (hnode : frameByte f 1 = 0 ∨ frameByte f 1 = nodeId s) : nmtCommand s f = nmtAct s (frameByte f 0) := by
  have hto : ¬ (f.data.length < 2 ∨ (frameByte f 1 ≠ 0 ∧ frameByte f 1 ≠ nodeId s)) := by omega
  exact if_neg hto

/-- R505: a node enters the state that is set. -/
theorem setNmt_nmt (s : State) {v : Nat} (hv : v < 2 ^ 32) : nmt (setNmt s v) = v := by
  unfold setNmt
  split
  next h => exact h
  next =>
    have hkeep : ((s.putN 0x2A20 4 v).setBits 0x2A20 0x0F 2).obj 0x2A20 4 = (s.putN 0x2A20 4 v).obj 0x2A20 4 := by
      rw [State.setBits_obj, if_neg (by decide)]
    exact (State.nat_eq_of_obj hkeep).trans (State.putN_nat_self s _ _ hv)

/-! ### SDO -/

/-- R482: the oldest SDO request is taken, and served by a node that is pre-operational or operational. -/
theorem exec_sdoRequest_takes {s : State} {f : Frame} (h : nextFrame s (fun v _ => v == .sdo) = some f) :
    exec .sdoRequest s = .next (
      if agentServes s = false ∨ (nmt s ≠ 5 ∧ nmt s ≠ 0x7F) then takeFrame s f
      else if s.agent.mode = 0 then sdoServe (takeFrame s f) f
      else usdoServe (takeFrame s f) f) := by
  change execSdoRequest s = _
  rw [execSdoRequest, h]
  simp only [apply_ite Host.Outcome.next]

/-- R482: a segmented transfer that has seen no segment for 1 s is aborted. -/
theorem exec_sdoTimeout_aborts {s : State} {x : SdoTransfer} (h : s.agent.sdo = some x) (hruns : agentRuns s = true)
    (hdue : s.passed x.last (cyclesMs 1000) = true) :
    exec .sdoTimeout s = .next (sdoAbort s x.index x.sub 0x05040000) := by
  change execSdoTimeout s = _
  rw [execSdoTimeout, h]
  exact when_true (by rw [hruns, hdue]; rfl) s _

/-! ### RPDO and SYNC -/

section
variable {s : State} {f : Frame} {k : Nat} (h : nextRpdo s = some (f, k))
include h

/-- R486: outside operational an RPDO is dropped. -/
theorem exec_rpdoReceived_drops (hno : agentServes s = false ∨ nmt s ≠ 5) :
    exec .rpdoReceived s = .next (takeFrame s f) := by
  change execRpdoReceived s = _
  rw [execRpdoReceived, h]
  refine when_false ?_ _ _
  rcases hno with hno | hno <;> simp [hno]

/-- R486: in operational an RPDO is processed. -/
theorem exec_rpdoReceived_takes (hserves : agentServes s = true) (hop : nmt s = 5) :
    exec .rpdoReceived s = .next (rpdoTake (takeFrame s f) k f.data) := by
  change execRpdoReceived s = _
  rw [execRpdoReceived, h]
  exact when_true (by rw [hserves, hop]; rfl) _ _

end

section
variable {s : State} {k : Nat} {l : List Byte}

/-- R486: an RPDO of another length than its mapping gives. -/
theorem rpdoTake_misfit (h : l.length ≠ mappedLength s (0x1600 + k)) : rpdoTake s k l = agentEmcy s 0x8210 := if_pos h

variable (h : l.length = mappedLength s (0x1600 + k))
include h

/-- R486: a synchronous RPDO waits for SYNC. -/
theorem rpdoTake_waits (ht : s.nat (0x1400 + k) 2 ≤ 240) :
    rpdoTake s k l = modRpdo s k (fun p => { p with waiting := some l }) := by
  simp [rpdoTake, h, ht]

/-- R486: any other is written at once. -/
theorem rpdoTake_writes (ht : 240 < s.nat (0x1400 + k) 2) :
    rpdoTake s k l = writeEntries s (mapped s (0x1600 + k)) l := by
  simp [rpdoTake, h, ht]

end

theorem exec_syncReceived_acts {s : State} {f : Frame} (h : nextFrame s (fun v _ => v == .sync) = some f) :
    exec .syncReceived s = .next (syncAct (takeFrame s f)) := by
  change execSyncReceived s = _
  rw [execSyncReceived, h]

/-! ### Services that are due -/

section
variable {s : State} (hruns : agentRuns s = true)
include hruns

/-- R482: the producer sends a SYNC in each communication cycle period. -/
theorem exec_syncProduce_sends (hhold : s.agent.holdFrom = none) (hst : nmt s = 5 ∨ nmt s = 0x7F)
    (hflag : s.flag 0x1005 0 30 = true) (hperiod : s.nat 0x1006 0 ≠ 0)
    (hdue : s.passed s.agent.sync (cyclesUs (s.nat 0x1006 0)) = true) : exec .syncProduce s =
      .next (syncAct (agentSend (s.modAgent (fun a => { a with sync := s.t })) (cobFrame s (s.obj 0x1005 0) []))) :=
  when_true (by simp [hruns, hhold, hst, hflag, hperiod, hdue]) s _

/-- R482: the producer heartbeat time has passed. -/
theorem exec_heartbeatProduce_sends (hhold : s.agent.holdFrom = none) (hst : nmt s ≠ 0) (htime : s.nat 0x1017 0 ≠ 0)
    (hdue : s.passed s.agent.beat (cyclesMs (s.nat 0x1017 0)) = true) : exec .heartbeatProduce s =
      .next (agentSend (s.modAgent (fun a => { a with beat := s.t }))
        (agentFrame s (0x700 + nodeId s) [BitVec.ofNat 8 (nmt s)])) :=
  when_true (by simp [hruns, hhold, hst, htime, hdue]) s _

/-- R490: a watched node that was heard and is not lost yet has been silent for its time. -/
theorem exec_heartbeatTimeout_loses {k : Fin 4} {h : Nat} (hhold : s.agent.holdFrom = none)
    (hheard : s.agent.heard.getD k none = some h) (hwatched : watched s k ≠ 0) (hlost : s.agent.lost.getD k false = false)
    (hdue : s.passed h (cyclesMs (s.nat 0x1016 (1 + k) % 65536)) = true) : exec (.heartbeatTimeout k) s =
      .next (agentEmcy ((commError (s.modAgent (fun a => { a with lost := modAt a.lost k (fun _ => true) }))).setBits
        0x2A20 0x0F 8) 0x8130) := by
  have hnode : (watched s k != 0) = true := bne_iff_ne.mpr hwatched
  change execHeartbeatTimeout k s = _
  rw [execHeartbeatTimeout, hheard]
  exact when_true (by rw [hruns, hnode, hhold, hlost, hdue]; rfl) s _

/-- R489: the inhibit time of EMCY has passed since the last one was sent, if any was. -/
def emcyFree (s : State) : Prop :=
  s.agent.emcyAt = none ∨ ∃ f, s.agent.emcyAt = some f ∧ s.passed f (cyclesUs (100 * s.nat 0x1015 0)) = true

/-- R489: the oldest EMCY is sent. -/
theorem exec_emcySend_sends {e : List Byte} {rest : List (List Byte)} (hst : nmt s = 5 ∨ nmt s = 0x7F)
    (hq : s.agent.emcy = e :: rest) (hfree : emcyFree s) (hroom : agentRoom s = true)
    (hvalid : s.flag 0x1014 0 31 = false) : exec .emcySend s =
      .next (agentSend (s.modAgent (fun a => { a with emcy := rest, emcyAt := some s.t }))
        (cobFrame s (s.obj 0x1014 0) e)) := by
  have hbit : (s.obj 0x1014 0)[31] = false := hvalid
  change execEmcySend s = _
  rw [execEmcySend, hq]
  refine when_true ?_ s _
  rcases hfree with hnone | ⟨f, hsome, hdue⟩
  · simp [hruns, hst, hroom, hbit, hnone]
  · simp [hruns, hst, hroom, hbit, hsome, hdue]

end

/-! ### TPDO -/

section
variable {k : Fin 16} {timer : Bool} {s : State} (hserves : agentServes s = true) (hop : nmt s = 5)
  (hvalid : tpdoValid s k = true) (hhold : s.agent.holdFrom = none) (htimer : timer = true → timerOver s k = true)
include hserves hop hvalid hhold htimer

/-- R487: the event of a valid TPDO in operational, by its type. -/
theorem exec_tpdoEvent_acts : exec (.tpdoEvent k timer) s =
    if s.nat (0x1800 + k.val) 2 = 0 then .next (modTpdo s k (fun p => { p with event := true }))
    else when (decide (254 ≤ s.nat (0x1800 + k.val) 2) &&
      s.passed (s.agent.tpdo.getD k {}).sent (cyclesUs (100 * s.nat (0x1800 + k.val) 3))) s (sendTpdo s k) := by
  have hgo : ¬ (agentServes s = false ∨ nmt s ≠ 5 ∨ tpdoValid s k.val = false ∨ s.agent.holdFrom.isSome = true ∨
      (timer = true ∧ timerOver s k.val = false)) := by
    simp only [hserves, hop, hvalid, hhold]
    simpa using htimer
  exact if_neg hgo

/-- R487: type 0 waits for SYNC. -/
theorem exec_tpdoEvent_waits (ht : s.nat (0x1800 + k.val) 2 = 0) :
    exec (.tpdoEvent k timer) s = .next (modTpdo s k (fun p => { p with event := true })) := by
  rw [exec_tpdoEvent_acts hserves hop hvalid hhold htimer, if_pos ht]

/-- R487: types 254 and 255 are sent once the inhibit time has passed. -/
theorem exec_tpdoEvent_sends (ht : 254 ≤ s.nat (0x1800 + k.val) 2)
    (hdue : s.passed (s.agent.tpdo.getD k {}).sent (cyclesUs (100 * s.nat (0x1800 + k.val) 3)) = true) :
    exec (.tpdoEvent k timer) s = .next (sendTpdo s k) := by
  rw [exec_tpdoEvent_acts hserves hop hvalid hhold htimer, if_neg (by omega)]
  exact when_true (by rw [hdue, decide_eq_true ht]; rfl) s _

end

/-- Settles O46, service by service: what is taken by the lemma of its command, what is due by `when_true`, the NMT commands by
`nmtCommand_addressed`, RPDOs by `rpdoTake_misfit`, `rpdoTake_waits` and `rpdoTake_writes`. -/
theorem canopenServices : Obligations.CanopenServices := by
  unfold Obligations.CanopenServices
  refine ⟨fun s f h => exec_nmtCommand_takes h, fun s f hlen hnode => ?nmt, fun s f h => ?sdo,
    fun s x h hruns hdue => exec_sdoTimeout_aborts h hruns hdue, fun s f k h => ?rpdo,
    fun s f h => exec_syncReceived_acts h, fun s hruns hhold => ?due,
    fun k timer s hserves hop hvalid hhold htimer =>
      ⟨fun ht => exec_tpdoEvent_waits hserves hop hvalid hhold htimer ht,
        fun ht hdue => exec_tpdoEvent_sends hserves hop hvalid hhold htimer ht hdue⟩⟩
  case nmt =>
    rw [nmtCommand_addressed hlen hnode]
    refine ⟨fun h => ?_, fun h => ?_, fun h => ?_, fun h => ?_, fun h => ?_⟩ <;> rw [h]
    · exact setNmt_nmt s (by decide)
    · exact setNmt_nmt s (by decide)
    · exact setNmt_nmt s (by decide)
    · rfl
    · rfl
  case sdo =>
    rw [exec_sdoRequest_takes h]
    refine ⟨fun hserves hst => ?served, fun hno => by rw [if_pos hno]⟩
    case served =>
      have hyes : ¬ (agentServes s = false ∨ (nmt s ≠ 5 ∧ nmt s ≠ 0x7F)) := by
        rintro (hno | ⟨h5, h7F⟩)
        · exact absurd hserves (by simp [hno])
        · exact hst.elim h5 h7F
      rw [if_neg hyes]
      exact ⟨fun hmode => by rw [if_pos hmode], fun hmode => by rw [if_neg hmode]⟩
  case rpdo =>
    refine ⟨fun hno => exec_rpdoReceived_drops h hno, fun hserves hop => ?_⟩
    rw [exec_rpdoReceived_takes h hserves hop]
    exact ⟨fun hl => congrArg _ (rpdoTake_misfit hl), fun hl ht => congrArg _ (rpdoTake_waits hl ht),
      fun hl ht => congrArg _ (rpdoTake_writes hl ht)⟩
  case due =>
    exact ⟨fun hst hflag hperiod hdue => exec_syncProduce_sends hruns hhold hst hflag hperiod hdue,
      fun hst htime hdue => exec_heartbeatProduce_sends hruns hhold hst htime hdue,
      fun k h hheard hwatched hlost hdue => exec_heartbeatTimeout_loses hruns hhold hheard hwatched hlost hdue,
      fun e rest hst hq hfree hroom hvalid => exec_emcySend_sends hruns hst hq hfree hroom hvalid⟩

end Sys2Proof.Machine
end

section
/-! PROOF. A step of a queue that is not empty, and the programmed bits of OTP and fuses (R92, R738, R745). -/
namespace Sys2Proof.Machine

/-- Settles O1: the front of the queue is the case of `step` that it takes. -/
theorem stepRunsFrontCommand : Obligations.StepRunsFrontCommand := by
  unfold Obligations.StepRunsFrontCommand
  intro c rest s
  rfl

/-- Settles O8, by what every command keeps (`exec_moves`, bits 52 and 53 of `Moves`). -/
theorem programmedBitsStay : Obligations.ProgrammedBitsStay := by
  unfold Obligations.ProgrammedBitsStay
  intro c s t h
  have hm := exec_moves c s (by decide) (Moves.refl 0x30000000000000 s)
  rw [h] at hm
  exact ⟨hm.otpStays rfl, hm.fusesStay rfl⟩

end Sys2Proof.Machine
end

section
/-! PROOF. Bulk sessions (R494 to R497) and authenticated commands (R499 to R502). -/
namespace Sys2Proof.Machine

/-! ### The start of a session -/

theorem exec_bulkStart (w : Wr) (s : State) :
    exec (.bulkStart w) s = .next (bulkPump (accessWrite s w false 0x2A21 9 bulkStartEff)) := rfl

/-- R449: the data word of every DOMAIN object takes writes outside authenticated commands. -/
theorem rowOf_domain_data {i : Nat} (s : State) (h : isDomain i = true) : (rowOf s i 3).map (·.acc) = some .rw := by
  simp only [isDomain, Bool.or_eq_true, beq_iff_eq] at h
  rcases h with (rfl | rfl) | rfl <;> rfl

section
variable {w : Wr} {s : State} (auth : Bool)

/-- R495: a start while a session runs, or of a target that is no DOMAIN object, ends with 4h. -/
theorem bulkStartEff_refused (h : bulkRuns s = true ∨ isDomain (s.nat 0x2A21 5) = false) :
    bulkStartEff w auth s = (.state, s) := by
  simp only [bulkStartEff, if_pos h, rej]

/-- R495: a start of a DOMAIN object without a session begins one. -/
theorem bulkStartEff_starts (hr : bulkRuns s = false) (hd : isDomain (s.nat 0x2A21 5) = true) :
    bulkStartEff w auth s = (.accepted,
      { (((((s.put (s.nat 0x2A21 5) 2 0).putN 0x2A21 0x0C ((s.nat 0x2A21 0x0C + 1) % 16)).putN 0x2A21 0x0B 1).putN
        0x2A21 0x0D 0).putN 0x2A21 0x0E 0) with bulk := { authorised := auth, last := s.t } }) := by
  simp only [bulkStartEff, hr, hd, rowOf_domain_data s hd, acc]
  simp

end

/-! ### The frames of a session -/

/-- R496, R497: while a session runs, the oldest frame of a type is taken from the inbox and acts. -/
theorem serveBulk_takes {s : State} {k : Nat} {f : Frame} (act : Frame → State → State) (h7 : s.on 7 = true)
    (hr : bulkRuns s = true) (hf : s.bulk.inbox.find? (fun x => bulkType x == k) = some f) :
    serveBulk s k act = .next (act f (s.modBulk (fun b => { b with inbox := b.inbox.erase f }))) := by
  simp [serveBulk, h7, hr, hf]

/-! ### The end of a session -/

theorem bulkEnd_obj (s : State) (v x y : Nat) : (bulkEnd s v).obj x y =
    ((s.putN 0x2A21 0x0B (if v = 0 then 3 else 4)).putN 0x2A21 0x0E v).obj x y := rfl

/-- R497: a session that ends with 0h is done, with any other result failed. -/
theorem bulkEnd_state (s : State) (v : Nat) : (bulkEnd s v).nat 0x2A21 0x0B = if v = 0 then 3 else 4 := by
  rw [State.nat, bulkEnd_obj]
  split <;> simp

theorem bulkEnd_result (s : State) {v : Nat} (h : v < 256) : (bulkEnd s v).nat 0x2A21 0x0E = v := by
  rw [State.nat, bulkEnd_obj, State.putN_obj, if_pos rfl, BitVec.toNat_ofNat]
  omega

theorem bulkEnd_keepsWords (s : State) (v : Nat) : s.keepsWords (bulkEnd s v) [(0x2A21, 0x0B), (0x2A21, 0x0E)] :=
  (((State.keepsWords.refl s _).putN (by decide) (by decide) _).putN (by decide) (by decide) _).of_od rfl

/-- R496: a sender without an acknowledgement within the timeout fails its session, or resends from the last sequence
acknowledged. -/
theorem exec_bulkTimeout {s : State} (h7 : s.on 7 = true) (hr : bulkRuns s = true) (hs : bulkSends s = true)
    (hp : s.passed s.bulk.last (cyclesMs (s.nat 0x2A21 0x0F)) = true) : exec .bulkTimeout s = .next
      (if 2 ≤ s.bulk.timeouts then bulkEnd s 2
       else bulkPump ((bulkResume (s.bump 0x2A21 0x10 16) s.bulk.acked).modBulk
        (fun b => { b with timeouts := b.timeouts + 1 }))) :=
  when_true (by rw [h7, hr, hs, hp]; rfl) s _

/-! ### Authenticated commands -/

theorem exec_commandSubmit (w : Wr) (s : State) :
    exec (.commandSubmit w) s = .next (accessWrite s w false 0x2A80 2 submitEff) := rfl

section
variable {w : Wr} {s : State} (auth : Bool)

/-- R500: a submit outside idle, or before the counters are loaded, ends with 4h. -/
theorem submitEff_refused (h : s.nat 0x2A80 1 ≠ 0 ∨ s.startup.journalLoaded = false) :
    submitEff w auth s = (.state, s) := by
  simp only [submitEff, if_pos h, rej]

section
variable (hi : s.nat 0x2A80 1 = 0) (hl : s.startup.journalLoaded = true)
include hi hl

/-- R500: a message that fails a check ends with the first failing code. -/
theorem submitEff_fails (hc : checkMessage (s.putN 0x2A80 5 (masterCode w.master)) w.value.toNat ≠ 0) :
    submitEff w auth s = (.accepted, endCommand (s.putN 0x2A80 5 (masterCode w.master))
      (checkMessage (s.putN 0x2A80 5 (masterCode w.master)) w.value.toNat)) := by
  unfold submitEff
  rw [if_neg (by simp [hi, hl])]
  dsimp only
  split
  next h0 => exact absurd h0 hc
  next => rfl

/-- R500, R501: a message that passes the checks goes on to the store of its counter. -/
theorem submitEff_passes (hc : checkMessage (s.putN 0x2A80 5 (masterCode w.master)) w.value.toNat = 0) :
    let x := s.putN 0x2A80 5 (masterCode w.master)
    submitEff w auth s = (.accepted, requestRecord { x.putN 0x2A80 1 2 with
      auth := { x.auth with master := w.master, slot := msgByte x 1, counter := msgWord x 12 } } 1) := by
  unfold submitEff
  rw [if_neg (by simp [hi, hl])]
  simp only [hc]
  rfl

end

end

/-- R502: the lockout ends at its time. -/
theorem exec_authLockoutEnd {s : State} {f : Nat} (hf : s.auth.lockedTo = some f) (ht : f ≤ s.t) :
    exec .authLockoutEnd s = .next { s with auth := { s.auth with lockedTo := none } } := by
  change execAuthLockoutEnd s = _
  rw [execAuthLockoutEnd, hf]
  exact when_true (decide_eq_true ht) s _

/-- Settles O48, command by command: a start and a submit by their effects once the write passes, the frames by
`serveBulk_takes`, the end of a session by its words. -/
theorem bulkSessionsAndAuthenticatedCommands : Obligations.BulkSessionsAndAuthenticatedCommands := by
  unfold Obligations.BulkSessionsAndAuthenticatedCommands
  refine ⟨fun w s hp h => ?refuse, fun w s hp hr hd => ?start, fun s i => rowOf_domain_data s,
    fun s f h7 hr => ⟨serveBulk_takes (fun f s => bulkTaken s f) h7 hr, serveBulk_takes (fun f s => bulkAcked s f) h7 hr,
      serveBulk_takes (fun f s => bulkClosed s f) h7 hr, serveBulk_takes (fun _ s => bulkEnd s 4) h7 hr⟩,
    fun s v => ⟨bulkEnd_state s v, bulkEnd_result s, bulkEnd_keepsWords s v⟩,
    fun w s hp => congrArg _ (accessWrite_done (eff := bulkAbortEff) hp rfl),
    fun s h7 hr hs hp => ⟨fun h => ?fail, fun h => ?resend⟩,
    fun w s hp h => ?busy, fun w s hp hi hl => ⟨fun hc => ?fails, fun hc => ?passes⟩,
    fun s h2 h3 => when_true (by simp [h2, h3]) s _, fun s f => exec_authLockoutEnd⟩
  case refuse => rw [exec_bulkStart, accessWrite_state hp (bulkStartEff_refused _ h)]
  case start => rw [exec_bulkStart, accessWrite_done hp (bulkStartEff_starts _ hr hd)]
  case fail => rw [exec_bulkTimeout h7 hr hs hp, if_pos h]
  case resend => rw [exec_bulkTimeout h7 hr hs hp, if_neg (not_le.mpr h)]
  case busy => rw [exec_commandSubmit, accessWrite_state hp (submitEff_refused _ h)]
  case fails =>
    rw [exec_commandSubmit, accessWrite_done hp (submitEff_fails _ hi hl (by simpa using hc)), typedWrite_master]
    rfl
  case passes =>
    rw [exec_commandSubmit, accessWrite_done hp (submitEff_passes _ hi hl (by simpa using hc)), typedWrite_master]

end Sys2Proof.Machine
end

section
/-! PROOF. The two-wire ports: enables, object transfers, firmware bytes, transfers of their own, requests and sleep (R509 to
R534). -/
namespace Sys2Proof.Machine

/-! ### The enable -/

theorem exec_twbEnable (n : Fin 2) (w : Wr) (s : State) :
    exec (.twbEnable n w) s = .next (accessWrite s w false (twbIdx n) 1 (twbEnableEff n)) := rfl

/-- R531: port n with its enable at 0 and no start that waits. -/
def twbDisabling (s : State) (n : Nat) : State :=
  if (s.port n).start then ((s.putN (twbIdx n) 1 0).putN (twbCtl n) 6 0).modTwb n (fun p => { p with start := false })
  else s.putN (twbIdx n) 1 0

section
variable {n : Nat} {w : Wr} {s : State} (auth : Bool)

theorem twbEnableEff_one (h : w.value = 1) :
    twbEnableEff n w auth s = (.accepted, twbStart (s.putN (twbIdx n) 1 1) n) := by
  simp only [twbEnableEff, if_pos h, acc]

section
variable (h : w.value ≠ 1)
include h

/-- 0 changes nothing of a disabled port. -/
theorem twbEnableEff_disabled (hoff : s.flag (twbIdx n) 1 0 = false) : twbEnableEff n w auth s = (.accepted, s) := by
  simp only [twbEnableEff, if_neg h, if_pos hoff, acc]

/-- R531: 0 stops an enabled port at once, or has it stop with the transfer in progress. -/
theorem twbEnableEff_enabled (hon : s.flag (twbIdx n) 1 0 = true) : twbEnableEff n w auth s = (.accepted,
    if (s.port n).phase = .idle ∧ twbState s n ≠ 4 then twbStopped (twbDisabling s n) n
    else (twbDisabling s n).putN (twbIdx n) 0x10 6) := by
  simp only [twbEnableEff, if_neg h, hon, acc]
  rfl

end

end

/-- R523, R531: a released port that is enabled is idle, or asleep where its sleep word says so. -/
theorem twbStart_starts {n : Nat} {s : State} (hon : s.flag (twbIdx n) 1 0 = true) (hs : twbState s n = 0)
    (hr : s.startup.released = true) : twbStart s n =
      ((s.putN (twbIdx n) 0x10 (if s.nat (twbIdx n) 0x0B = 1 then 5 else 1)).putN (twbCtl n) 6 0).modTwb n (fun _ => {}) :=
  if_pos ⟨hon, hs, hr⟩

/-! ### Object transfers -/

theorem twbTarget_sees {s : State} {n : Nat} (h : twbTarget s n = true) : twbSees s = true :=
  (Bool.and_eq_true .. ▸ h).1

section
variable {n : Fin 2} {s : State} (ht : twbTarget s n = true)
include ht

/-- R514, R515: a read by the object agent is answered. -/
theorem exec_twbObjectRead (i : BitVec 16) (j : Byte) (hm : masterLive s .twb = true) :
    let x := readObject s { master := .twb, len := 4 } i.toNat j.toNat
    let sent := [twbAddress s n false, 0x01, i.setWidth 8, (i >>> 8).setWidth 8, j, twbAddress s n true]
    exec (.twbObjectRead n i j) s = .next (twbServed ((twbAnswer x n sent (readAnswer x i.toNat j.toNat)).modTwb n
      (fun p => { p with answering := true, since := s.t })) n) :=
  when_true (by rw [ht, hm]; rfl) s _

/-- R517: a whole frame is written, with a frame error where bytes are left over. -/
theorem exec_twbObjectWrite_frame {frame l : List Byte} {i j : Nat} {more : Bool} (hm : masterLive s .twb = true)
    (hf : writeFrame s n frame = some (i, j, l, more)) : exec (.twbObjectWrite n frame) s =
      .next (twbEnd (if more then frameError (twbWrite s n i j l) n else twbWrite s n i j l) n) := by
  refine (when_true (by rw [ht, hm]; rfl) s _).trans ?_
  rw [hf]

/-- R517: bytes that are no frame are a frame error. -/
theorem exec_twbObjectWrite_none {frame : List Byte} (hm : masterLive s .twb = true)
    (hf : writeFrame s n frame = none) : exec (.twbObjectWrite n frame) s = .next (twbEnd (frameError s n) n) := by
  refine (when_true (by rw [ht, hm]; rfl) s _).trans ?_
  rw [hf]

/-- R518: the result of the last write is told. -/
theorem exec_twbLastResult : exec (.twbLastResult n) s =
    .next (twbServed ((twbAnswer s n [twbAddress s n false, 0x03, twbAddress s n true]
      (lastResultBytes s n)).modTwb n (fun p => { p with answering := false })) n) :=
  when_true ht s _

end

theorem lastResultBytes_none {s : State} {n : Nat} (h : (s.port n).last = none) : lastResultBytes s n = [0xFF, 0, 0, 0] := by
  simp only [lastResultBytes, h]

/-! ### Bytes at the firmware address -/

/-- With the lines seen, a byte or event at the firmware address acts by its kind and the port's phase. -/
theorem exec_firmwareTargetByte_addressed {n : Fin 2} {s : State} (hsees : twbSees s = true) :
    exec (.firmwareTargetByte n .addressedWrite) s = .next (twbAddressed s n false) ∧
    exec (.firmwareTargetByte n .addressedRead) s = .next (twbAddressed s n true) := by
  change execFirmwareTargetByte n .addressedWrite s = _ ∧ execFirmwareTargetByte n .addressedRead s = _
  simp [execFirmwareTargetByte, hsees]

section
variable {s : State} {n : Nat} (ht : twbTarget s n = true) (haddr : s.nat (twbIdx n) 6 ≠ 0xFF)
include ht haddr

/-- R520, R521: with two entries free the port takes part, and posts the address to role 1. -/
theorem twbAddressed_room {q : Nat} (reading : Bool) (hq : twbQueue s n 2 = some q) : twbAddressed s n reading =
    twbAck ((twbPost (s.putN (twbIdx n) 0x10 2) n q (if reading then 2 else 1) 0).modTwb n
      (fun p => { p with phase := .firmware reading, answering := false, stretched := 0 })) true := by
  simp [twbAddressed, ht, haddr, hq]

/-- R521: without them it acknowledges nothing. -/
theorem twbAddressed_full (reading : Bool) (hq : twbQueue s n 2 = none) : twbAddressed s n reading = twbAck s false := by
  simp [twbAddressed, ht, haddr, hq]

end

section
variable {n : Fin 2} {s : State} (hsees : twbSees s = true)
include hsees

/-- R520, R521: a byte written is posted while two entries are free. -/
theorem exec_firmwareTargetByte_data {q : Nat} (b : Byte) (hp : (s.port n).phase = .firmware false)
    (hq : twbQueue s n 2 = some q) :
    exec (.firmwareTargetByte n (.data b)) s = .next (twbAck (twbPost s n q 0 b) true) := by
  change execFirmwareTargetByte .. = _
  simp [execFirmwareTargetByte, hsees, hp, hq]

/-- R521: a byte read is one of role 2. -/
theorem exec_firmwareTargetByte_send (hp : (s.port n).phase = .firmware true) :
    exec (.firmwareTargetByte n .send) s = .next (twbSend s n) := by
  change execFirmwareTargetByte .. = _
  simp [execFirmwareTargetByte, hsees, hp]

end

/-! ### Timeouts -/

section
variable {n : Fin 2} {s : State} (h7 : s.on 7 = true)
include h7

/-- R512, R521: past the stretch limit the port releases SCL. -/
theorem exec_stretchLimitExpiry (hw : ((s.port n).waiting || (s.port n).answering) = true)
    (hover : stretchOver s n = true) : exec (.stretchLimitExpiry n) s =
      .next (({ twbTimeout s n with resp := some { result := .accepted, value := 0xFFFFFFFF, bytes := [0xFF] } }).modTwb n
        (fun x => { x with waiting := false, answering := false })) :=
  when_true (by rw [h7, Bool.true_and, hw, hover]; rfl) s _

/-- R513, R523: with SCL low for the timeout the transfer is abandoned. -/
theorem exec_sclLowTimeout {held : Nat} (hs : twbState s n ≠ 0) (hawake : twbState s n ≠ 5)
    (hh : cyclesUs (s.nat (twbIdx n) 9) ≤ held) : exec (.sclLowTimeout n held) s =
      .next (twbEnd (if (s.port n).phase = .controller then ctlEnd ((twbTimeout s n).setBits (twbIdx n) 0x12 8) n 7
        else (twbTimeout s n).setBits (twbIdx n) 0x12 8) n) :=
  when_true (by simp [h7, hs, hawake, hh]) s _

end

/-! ### Transfers of the port's own -/

theorem exec_controllerStart (n : Fin 2) (w : Wr) (s : State) :
    exec (.controllerStart n w) s = .next (accessWrite s w false (twbCtl n) 5 (ctlStartEff n)) := rfl

theorem exec_clearCommand (n : Fin 2) (w : Wr) (s : State) :
    exec (.clearCommand n w) s = .next (accessWrite s w false (twbIdx n) 0x11 (clearBusEff n)) := rfl

/-- R522: the transfer that the controller object asks for is taken. -/
def twbAsked (s : State) (n : Nat) : State :=
  ((s.putN (twbCtl n) 6 1).putN (twbCtl n) 8 0).modTwb n (fun p => { p with losses := 0, job := twbJob s n })

section
variable {n : Nat} {w : Wr} {s : State} (auth : Bool)

/-- R522: a start while a transfer is busy, or of a disabled port, ends with 4h. -/
theorem ctlStartEff_refused (h : s.nat (twbCtl n) 6 = 1 ∨ s.flag (twbIdx n) 1 0 = false) :
    ctlStartEff n w auth s = (.state, s) := by
  simp only [ctlStartEff, if_pos h, rej]

/-- R522, R525: an idle port begins the transfer, any other has it wait. -/
theorem ctlStartEff_starts (hc : s.nat (twbCtl n) 6 ≠ 1) (hon : s.flag (twbIdx n) 1 0 = true) :
    ctlStartEff n w auth s = (.accepted, if twbState s n = 1 then
      ((twbAsked s n).putN (twbIdx n) 0x10 3).modTwb n (fun p => { p with phase := .controller, begun := s.t })
      else (twbAsked s n).modTwb n (fun p => { p with start := true })) := by
  have hn : ¬(s.nat (twbCtl n) 6 = 1 ∨ s.flag (twbIdx n) 1 0 = false) := by simp [hc, hon]
  simp only [ctlStartEff, if_neg hn, acc, twbAsked]
  split <;> rfl

/-- R526: a clear of an idle port begins. -/
theorem clearBusEff_clears (hc : s.nat (twbCtl n) 6 ≠ 1) (hs : twbState s n = 1) :
    clearBusEff n w auth s = (.accepted, s.putN (twbIdx n) 0x10 4) := by
  simp only [clearBusEff, if_neg (not_or.mpr ⟨hc, not_not.mpr hs⟩), acc]

/-- R526: a clear of a busy port ends with 4h. -/
theorem clearBusEff_refused (h : s.nat (twbCtl n) 6 = 1 ∨ twbState s n ≠ 1) : clearBusEff n w auth s = (.state, s) := by
  simp only [clearBusEff, if_pos h, rej]

end

section
variable {n : Fin 2} {s : State} (hsees : twbSees s = true) (hp : (s.port n).phase = .controller)
include hsees hp

/-- R522, R523: a transfer whose address is not acknowledged. -/
theorem exec_controllerTransferEnd_addressNack (h : s.passed (s.port n).begun (byteCycles s n 1) = true) :
    exec (.controllerTransferEnd n .addressNack) s = .next (twbEnd (ctlEnd s n 3) n) :=
  when_true (by rw [hsees, hp]; exact h) s _

/-- R522, R523: a transfer whose byte k is not acknowledged. -/
theorem exec_controllerTransferEnd_dataNack {k : Byte}
    (h : s.passed (s.port n).begun (byteCycles s n (1 + k.toNat)) = true) :
    exec (.controllerTransferEnd n (.dataNack k)) s = .next (twbEnd (ctlEnd (s.putN (twbCtl n) 8 k.toNat) n 4) n) :=
  when_true (by rw [hsees, hp]; exact h) s _

/-- R522, R523: a whole transfer, with the code of its PEC. -/
theorem exec_controllerTransferEnd_done (l : List Byte) (good : Bool)
    (h : s.passed (s.port n).begun (byteCycles s n (s.port n).job.bytes) = true) :
    let j := (s.port n).job
    exec (.controllerTransferEnd n (.done l good)) s = .next (twbEnd (ctlEnd ((putDataBytes s n 0 (l.take j.read)).putN
      (twbCtl n) 8 (j.write + j.read)) n (if j.pec && decide (0 < j.read) && !good then 8 else 2)) n) :=
  when_true (by rw [hsees, hp]; exact h) s _

/-- R524, R525: the transfer is restarted or ended; in its own address the port serves as target. -/
theorem exec_arbitrationLost (own : Bool) :
    let i := twbIdx n
    let x := ((s.bump i 0x14 16).setBits i 0x12 2).modTwb n
      (fun y => { y with losses := (s.port n).losses + 1, phase := .idle })
    let z := if s.nat (twbCtl n) 7 < (s.port n).losses + 1 then ctlEnd x n 5 else x.modTwb n (fun y => { y with start := true })
    exec (.arbitrationLost n own) s = .next (if own then (z.setBits i 0x12 64).putN i 0x10 2 else twbEnd z n) :=
  when_true (by rw [hsees, hp]; rfl) s _

end

/-- R526: the bus is stuck: flagged and reported, and a start that waits is dropped. -/
def busStuck (s : State) (n : Nat) : State :=
  ((s.setBits (twbIdx n) 0x12 16).report (64 + n) .uc).modTwb n (fun y => { y with start := false })

section
variable {n : Fin 2} {held : Nat} {s : State} (hsees : twbSees s = true)
include hsees

theorem twbSees_on : s.on 7 = true := (Bool.and_eq_true .. ▸ (show (s.on 7 && !s.sup.vddioLow) = true from hsees)).1

theorem twbSees_vddio : s.sup.vddioLow = false := by simpa [twbSees, twbSees_on hsees] using hsees

/-- R526: pulses for a transfer of the port's own. -/
theorem exec_busClear_own (hp : (s.port n).phase = .controller) (hh : cyclesUs (s.nat (twbIdx n) 9) ≤ held) (freed : Bool) :
    exec (.busClear n held freed) s = .next (if freed then
      (s.bump (twbIdx n) 0x18 16).modTwb n (fun y => { y with begun := s.t })
      else twbEnd (ctlEnd (busStuck s n) n 6) n) := by
  refine (when_true (by simp [twbSees_on hsees, hp, hh]) s _).trans ?_
  simp [hp, twbSees_vddio hsees, busStuck]

/-- R526: pulses for a clear command. -/
theorem exec_busClear_command (hs : twbState s n = 4) (hp : (s.port n).phase ≠ .controller)
    (hst : (s.port n).start = false) (freed : Bool) : exec (.busClear n held freed) s =
      .next (twbEnd (if freed then s.bump (twbIdx n) 0x18 16 else busStuck s n) n) := by
  refine (when_true (by simp [twbSees_on hsees, hs]) s _).trans ?_
  cases freed <;> simp [hp, hst, twbSees_vddio hsees, busStuck]

end

/-! ### Requests and sleep -/

section
variable {n : Fin 2} {s : State} (hreq : requestPending s n = true)
include hreq

/-- R527, R528: a pending request is made as a pulse on a free bus. -/
theorem exec_requestPulse {idle : Nat} (low : Bool) (hs : twbState s n = 1) (hidle : 2 * busFreeCycles s n ≤ idle)
    (hdue : (s.port n).pulsed = none ∨
      ∃ f, (s.port n).pulsed = some f ∧ s.passed f (cyclesUs (s.nat (twbIdx n) 9)) = true) :
    exec (.requestPulse n idle low) s = .next (s.modTwb n (fun y => { y with
      pulsed := if low then none else some s.t, pulse := s.t + cyclesNs (s.nat (twbIdx n) 0x0E) })) := by
  refine when_true ?_ s _
  rcases hdue with hnone | ⟨f, hf, hpass⟩
  · simp [hreq, hs, hidle, hnone]
  · simp [hreq, hs, hidle, hf, hpass]

/-- R528: the alert response address is answered, and the winner's request cleared. -/
theorem exec_alertResponse (won : Bool) : exec (.alertResponse n won) s =
    .next ((if won then (twbAnswer s n [0x19] [twbAddress s n false]).putN (twbIdx n) 0x0D 0 else s).modTwb n
      (fun y => { y with pulsed := none })) :=
  when_true hreq s _

end

section
variable {n : Fin 2} {s : State} (hsees : twbSees s = true)
include hsees

/-- R529: a controller that sees a request reads the requester. -/
theorem exec_requestDetect {held : Nat} (answer : Option Byte) (hon : s.flag (twbIdx n) 1 0 = true)
    (hs : twbState s n = 1 ∨ twbState s n = 3) (hf : s.flag (twbIdx n) 0x0F 0 = true) (hh : 200 ≤ held) :
    exec (.requestDetect n held answer) s = .next (match answer with
      | some b => ((s.setBits (twbIdx n) 0x12 1).putN (twbIdx n) 0x13 (b.toNat / 2)).setBits (twbIdx n) 0x12 128
      | none => (s.setBits (twbIdx n) 0x12 1).putN (twbIdx n) 0x13 0xFF) := by
  refine when_true ?_ s _
  rcases hs with h | h <;> simp [hsees, hon, hf, h, cyclesUs, hh]

/-- R530: an asleep port wakes at an address that its wake mask enables. -/
theorem exec_wakeMatch (firmware : Bool) (hs : twbState s n = 5)
    (hen : (if firmware then s.flag (twbIdx n) 0x0C 1 && s.nat (twbIdx n) 6 != 0xFF else s.flag (twbIdx n) 0x0C 0) = true) :
    exec (.wakeMatch n firmware) s =
      .next (((s.putN (twbIdx n) 0x0B 0).setBits (twbIdx n) 0x12 32).putN (twbIdx n) 0x10 2) :=
  when_true (by rw [hsees, hs, hen]; rfl) s _

end

theorem exec_requestWrite {n : Fin 2} {w : Wr} {s : State} (hp : writePasses s w (twbIdx n) 0x0D) :
    let x := (s.put (twbIdx n) 0x0D (carried w (twbIdx n) 0x0D)).modTwb n (fun p => { p with pulsed := none })
    exec (.requestWrite n w) s =
      .next ((if carried w (twbIdx n) 0x0D = 1 then twbWake x n else x).accepted w.master (twbIdx n) 0x0D) :=
  congrArg _ (accessWrite_done (eff := requestEff n) hp rfl)

theorem exec_twbSleep (n : Fin 2) (w : Wr) (s : State) :
    exec (.twbSleep n w) s = .next (accessWrite s w false (twbIdx n) 0x0B (sleepEff n)) := rfl

section
variable {n : Nat} {w : Wr} {s : State} (auth : Bool)

theorem sleepEff_wakes (h : w.value = 0) : sleepEff n w auth s = (.accepted, twbWake s n) := by
  simp only [sleepEff, if_pos h, acc]

section
variable (h : w.value ≠ 0)
include h

/-- R530: an idle port is asleep. -/
theorem sleepEff_idle (hs : twbState s n = 1) :
    sleepEff n w auth s = (.accepted, (s.putN (twbIdx n) 0x0B 1).putN (twbIdx n) 0x10 5) := by
  simp only [sleepEff, if_neg h, if_pos hs, acc]

/-- R530: a disabled or asleep port keeps its state. -/
theorem sleepEff_still (hs : twbState s n = 0 ∨ twbState s n = 5) :
    sleepEff n w auth s = (.accepted, s.putN (twbIdx n) 0x0B 1) := by
  simp only [sleepEff, if_neg h, if_neg (show twbState s n ≠ 1 by omega), if_pos hs, acc]

/-- R530: a port in a transfer sleeps at its end. -/
theorem sleepEff_busy (h0 : twbState s n ≠ 0) (h1 : twbState s n ≠ 1) (h5 : twbState s n ≠ 5) :
    sleepEff n w auth s = (.accepted, (s.putN (twbIdx n) 0x0B 1).modTwb n (fun p => { p with drowsy := true })) := by
  simp only [sleepEff, if_neg h, if_neg h1, if_neg (not_or.mpr ⟨h0, h5⟩), acc]

end

end

/-- Settles O49, command by command: each acts under its condition (`when_true`) or, once its write passes, by its effect. -/
theorem twoWirePortsServeAndControl : Obligations.TwoWirePortsServeAndControl := by
  unfold Obligations.TwoWirePortsServeAndControl
  refine ⟨fun n w s hp => ⟨fun hv => ?enable, fun hv hoff => ?disabled, fun hv hon => ⟨fun hph hs => ?stop, fun h => ?stopping⟩⟩,
    fun n s => twbStart_starts,
    fun n s ht => ⟨fun i j hm => exec_twbObjectRead ht i j hm,
      fun frame hm => ⟨fun i j l hf => ?whole, fun i j l hf => ?leftOver, fun hf => ?noFrame⟩,
      exec_twbLastResult ht, lastResultBytes_none, fun q haddr hq => ?addressed, fun haddr hq => ?full⟩,
    fun s n q k b => rfl,
    fun n s hsees => ⟨fun b q => exec_firmwareTargetByte_data hsees b, exec_firmwareTargetByte_send hsees⟩,
    fun n s h7 => ⟨exec_stretchLimitExpiry h7, fun held h0 h5 hh => ⟨fun hph => ?target, fun hph => ?controller⟩⟩,
    fun n s hsees hph => ⟨exec_controllerTransferEnd_addressNack hsees hph,
      fun k => exec_controllerTransferEnd_dataNack hsees hph,
      fun l good hpass => ⟨fun h => ?done, fun hpec hread hbad => ?badPec⟩,
      ⟨exec_arbitrationLost hsees hph false, exec_arbitrationLost hsees hph true⟩,
      fun held hh => ⟨exec_busClear_own hsees hph hh true, exec_busClear_own hsees hph hh false⟩⟩,
    fun n held s hsees hs hph hst => ⟨exec_busClear_command hsees hs hph hst true, exec_busClear_command hsees hs hph hst false⟩,
    fun n s hreq => ⟨fun idle low hs hidle hdue => exec_requestPulse hreq low hs hidle hdue, exec_alertResponse hreq true,
      exec_alertResponse hreq false⟩,
    fun n s hsees => ⟨fun held hon hs hf hh => ⟨fun b => exec_requestDetect hsees (some b) hon hs hf hh,
        exec_requestDetect hsees none hon hs hf hh⟩,
      fun hs hw => exec_wakeMatch hsees false hs hw, fun hs hw haddr => exec_wakeMatch hsees true hs (by simp [hw, haddr])⟩,
    fun s n c => rfl,
    fun n w s => ⟨fun hp => ⟨fun hc hon hs => ?begins, fun hc hon hs => ?waits, fun h => ?busy⟩,
      fun hp hc hs => ?clears, fun hp h => ?clearBusy, exec_requestWrite,
      fun hp => ⟨fun hv => ?wake, fun hv hs => ?sleep, fun hv hs => ?still, fun hv h0 h1 h5 => ?drowsy⟩⟩⟩
  case enable => rw [exec_twbEnable, accessWrite_done hp (twbEnableEff_one _ hv)]
  case disabled => rw [exec_twbEnable, accessWrite_done hp (twbEnableEff_disabled _ hv hoff)]
  case stop =>
    rw [exec_twbEnable, accessWrite_done hp (twbEnableEff_enabled _ hv hon), if_pos ⟨hph, hs⟩]
    rfl
  case stopping =>
    rw [exec_twbEnable, accessWrite_done hp (twbEnableEff_enabled _ hv hon), if_neg (fun hc => h.elim (· hc.1) hc.2)]
    rfl
  case whole => rw [exec_twbObjectWrite_frame ht hm hf, if_neg Bool.false_ne_true]
  case leftOver => rw [exec_twbObjectWrite_frame ht hm hf, if_pos rfl]; rfl
  case noFrame => rw [exec_twbObjectWrite_none ht hm hf]; rfl
  case addressed => rw [(exec_firmwareTargetByte_addressed (twbTarget_sees ht)).1, twbAddressed_room ht haddr false hq]; rfl
  case full => rw [(exec_firmwareTargetByte_addressed (twbTarget_sees ht)).2, twbAddressed_full ht haddr true hq]
  case target => rw [exec_sclLowTimeout h7 h0 h5 hh, if_neg hph]; rfl
  case controller => rw [exec_sclLowTimeout h7 h0 h5 hh, if_pos hph]; rfl
  case done =>
    rw [exec_controllerTransferEnd_done hsees hph l good hpass, if_neg (by rcases h with h | h | h <;> simp [h])]
  case badPec => rw [exec_controllerTransferEnd_done hsees hph l good hpass, if_pos (by simp [hpec, hread, hbad])]
  case begins => rw [exec_controllerStart, accessWrite_done hp (ctlStartEff_starts _ hc hon), if_pos hs]; rfl
  case waits => rw [exec_controllerStart, accessWrite_done hp (ctlStartEff_starts _ hc hon), if_neg hs]; rfl
  case busy => rw [exec_controllerStart, accessWrite_state hp (ctlStartEff_refused _ h)]
  case clears => rw [exec_clearCommand, accessWrite_done hp (clearBusEff_clears _ hc hs)]
  case clearBusy => rw [exec_clearCommand, accessWrite_state hp (clearBusEff_refused _ h)]
  case wake => rw [exec_twbSleep, accessWrite_done hp (sleepEff_wakes _ hv)]
  case sleep => rw [exec_twbSleep, accessWrite_done hp (sleepEff_idle _ hv hs)]
  case still => rw [exec_twbSleep, accessWrite_done hp (sleepEff_still _ hv hs)]
  case drowsy => rw [exec_twbSleep, accessWrite_done hp (sleepEff_busy _ hv h0 h1 h5)]

end Sys2Proof.Machine
end

section
/-! PROOF. The housekeeping converters and the tachometers (R535 to R548, R554). -/
namespace Sys2Proof.Machine

/-! ### A converter record -/

theorem State.modConv_congr {s : State} {k : Nat} {f g : Converter → Converter} (h : f (s.conv k) = g (s.conv k)) :
    s.modConv k f = s.modConv k g := by
  simp only [State.modConv, modAt_congr _ _ _ h]

/-- A converter record is the changed one, or none of the four and unchanged. -/
theorem State.modConv_conv (s : State) (k : Nat) (f : Converter → Converter) :
    (s.modConv k f).conv k = f (s.conv k) ∨ (s.modConv k f).conv k = s.conv k := by
  by_cases hk : k < s.hka.length
  · exact .inl (getD_modAt_self _ _ _ _ hk)
  · right
    simp only [State.conv, State.modConv, List.getD_eq_getElem?_getD]
    rw [List.getElem?_eq_none (by rw [modAt_length]; omega), List.getElem?_eq_none (by omega)]

/-! ### Codes and triggers -/

/-- R536: the code of a single input within the range. -/
theorem convCode_single {v : Int} (w : Int) (h0 : 0 ≤ v) (h1 : v < 3000000) : convCode false v w = v * 4096 / 3000000 := by
  have hd : floorDiv (v * 4096) 3000000 = v * 4096 / 3000000 := Int.fdiv_eq_ediv_of_nonneg _ (by decide)
  simp only [convCode, Bool.false_eq_true, if_false, hd, clampI]
  split_ifs <;> omega

/-- R540: the converter may begin the trigger delay. -/
def convFree (s : State) (k : Nat) : Prop :=
  clockState s ≠ 0 ∧ (s.conv k).trig = none ∧ (s.conv k).scanning = false ∧ (s.conv k).stop = false ∧ scanList s k ≠ []

section
variable {s : State} {k bit : Nat}

section
variable (hr : convRuns s k = true ∨ (s.conv k).stop = true) (hb : s.flag (hkaIdx k) 2 bit = true)
  (ht : (s.conv k).lastTrig ≠ some s.t)
include hr hb ht

theorem trigger_reaches : ¬((convRuns s k || (s.conv k).stop) = false ∨ s.flag (hkaIdx k) 2 bit = false ∨
    (s.conv k).lastTrig = some s.t) := by
  rcases hr with h | h <;> simp [h, hb, ht]

/-- R539, R540: a trigger of a free converter waits out its delay. -/
theorem trigger_free (h : convFree s k) : trigger s k bit =
    (s.modConv k (fun c => { c with lastTrig := some s.t })).modConv k (fun c => { c with trig := some s.ct }) := by
  obtain ⟨hclk, htrig, hscan, hstop, hlist⟩ := h
  rw [trigger, if_neg (trigger_reaches hr hb ht)]
  exact if_neg (by simp [hclk, htrig, hscan, hstop, hlist])

/-- R540, R548: a trigger that finds a delay, a scan, a stop, or nothing to scan is missed. -/
theorem trigger_missed (h : ¬convFree s k) : trigger s k bit =
    (s.modConv k (fun c => { c with lastTrig := some s.t })).bump (hkaIdx k) 0x0F 16 := by
  rw [trigger, if_neg (trigger_reaches hr hb ht)]
  refine if_pos (by_contra fun hn => h ?_)
  simpa [convFree] using hn

end

/-- R539: a trigger of a disabled converter, or from a source it does not take, does nothing. -/
theorem trigger_ignored (h : (convRuns s k = false ∧ (s.conv k).stop = false) ∨ s.flag (hkaIdx k) 2 bit = false) :
    trigger s k bit = s := by
  refine if_pos ?_
  rcases h with ⟨hr, hs⟩ | hb
  · exact .inl (by rw [hr, hs]; rfl)
  · exact .inr (.inl hb)

end

/-- R539: the timer period has passed. -/
theorem exec_converterTimer {k : Fin 4} {s : State} (hr : convRuns s k = true) (hc : clockState s ≠ 0)
    (ht : (s.conv k).timer ≤ s.ct) : exec (.converterTimer k) s =
      .next (trigger (s.modConv k (fun x => { x with timer := (s.conv k).timer + 5 * s.nat (hkaIdx k) 3 })) k 1) := by
  rw [State.modConv_congr (g := fun c => { c with timer := c.timer + 5 * s.nat (hkaIdx k) 3 }) rfl]
  exact when_true (by simp [hr, hc, ht]) s _

/-! ### A scan -/

/-- R546: whether the next scan is one of checks. -/
def checkDue (s : State) (k : Nat) : Bool :=
  s.nat (hkaIdx k) 0x11 != 0 && ((s.conv k).scans + 1) % s.nat (hkaIdx k) 0x11 == 0

/-- R540, R546: the scan of `l` begins. -/
def scanBegun (s : State) (k : Nat) (check : Bool) (l : List Nat) : State :=
  s.modConv k (fun c => { c with
    trig := none, scanning := !l.isEmpty, todo := l, check, conv := s.ct, scans := (s.conv k).scans + 1,
    set := scanSettings s k })

theorem exec_scanStart {k : Fin 4} {s : State} {f : Nat} (hf : (s.conv k).trig = some f) (hr : convRuns s k = true)
    (hc : clockState s ≠ 0) (hd : f + 5 * (1 + s.nat (hkaIdx k) 9) ≤ s.ct) : exec (.scanStart k) s =
      .next (scanBegun s k (checkDue s k)
        (if checkDue s k then (scanList s k).filter (sourceOn s k) else scanList s k)) := by
  change execScanStart k s = _
  rw [execScanStart]
  simp only [hf]
  exact when_true (by simp [hr, hc, convClock, hd]) s _

/-- R538: an enabled input is scanned unless the pair of the even input before it takes it in. -/
theorem mem_scanList {s : State} {k n : Nat} (hn : n < 16) : n ∈ scanList s k ↔ s.flag (hkaIdx k) 4 n = true ∧
    ¬(n % 2 = 1 ∧ s.flag (hkaIdx k) 5 (n - 1) = true ∧ s.flag (hkaIdx k) 4 (n - 1) = true) := by
  have heven : n % 2 = 1 → (n - 1) % 2 = 0 := by omega
  simp only [scanList, isPair, List.mem_filter, List.mem_range, hn, true_and]
  by_cases h : n % 2 = 1
  · simp [h, heven h, imp_iff_not_or]
  · simp [h]

section
variable {k : Fin 4} {s : State} {n : Nat} {rest : List Nat} (v w : Int) (h6 : s.on 6 = true)
  (hs : (s.conv k).scanning = true) (hclk : clockState s ≠ 0)
  (hd : (s.conv k).conv + 5 * (s.nat (hkaIdx k) 6 + 15) ≤ s.ct) (ht : (s.conv k).todo = n :: rest)
include h6 hs hclk hd ht

/-- R541 to R546: a conversion that has taken its time delivers, and the scan goes on. -/
theorem exec_conversionResult : exec (.conversionResult k v w) s =
    let code := convCode (isPair s k n) v w
    .next (gaugePresence (scanNext (if (s.conv k).check then openCheck s k n code
      else routeResult (s.putN (0x2C10 + k.val) (0x11 + n) (convValue s k code).toNat) k
        (resultWord k n (rest == []) (isPair s k n) (convValue s k code))
        (s.t - s.ct + (s.conv k).conv + 5 * s.nat (hkaIdx k) 6)) k rest)) := by
  change execConversionResult k v w s = _
  rw [execConversionResult]
  simp only [ht]
  exact when_true (by simp [h6, hs, hclk, convClock, hd]) s _

end

section
variable {s : State} {k word : Nat} (hw : (s.conv k).coming = some word)
include hw

/-- R543: a result lands in a register that has been read. -/
theorem resultLands_read (h : s.flag (hkaIdx k) 0x0B 31 = false) : resultLands s k =
    (s.modConv k (fun c => { c with coming := none })).putN (hkaIdx k) 0x0B (word + 2147483648) := by
  simp [resultLands, hw, h]

/-- R543: a result overruns one that has not been read. -/
theorem resultLands_overrun (h : s.flag (hkaIdx k) 0x0B 31 = true) : resultLands s k =
    ((((s.modConv k (fun c => { c with coming := none })).putN (hkaIdx k) 0x0B
      (word + 2147483648 + 1073741824)).bump (hkaIdx k) 0x0E 16).setBits (hkaIdx k) 0x15 2).report (66 + k) .ce := by
  simp [resultLands, hw, h]

end

/-- R39: a converter that was not told to stop goes on. -/
theorem convStopped_of_running {s : State} {k : Nat} (h : (s.conv k).stop = false) : convStopped s k = s :=
  if_neg (by simp [h])

section
variable {s : State} {k : Nat} (h : (s.conv k).stop = false)
include h

/-- R540: the next input of the scan. -/
theorem scanNext_more (n : Nat) (rest : List Nat) : scanNext s k (n :: rest) =
    s.modConv k (fun c => { c with todo := n :: rest, conv := c.conv + 5 * (s.nat (hkaIdx k) 6 + 14) }) :=
  if_neg (by simp [h])

/-- R540, R548: the last input ends the scan. -/
theorem scanNext_last : scanNext s k [] =
    (s.setBits (hkaIdx k) 0x15 1).modConv k (fun c => { c with scanning := false, todo := [] }) := by
  refine (if_pos (.inl rfl)).trans (convStopped_of_running ?_)
  rcases State.modConv_conv (s.setBits (hkaIdx k) 0x15 1) k (fun c => { c with scanning := false, todo := [] }) with hc | hc
  · exact (congrArg Converter.stop hc).trans h
  · exact (congrArg Converter.stop hc).trans h

end

/-! ### The enable -/

theorem exec_converterEnable (k : Fin 4) (w : Wr) (s : State) :
    exec (.converterEnable k w) s = .next (accessWrite s w false (hkaIdx k) 1 (convEnableEff k)) := rfl

theorem startConv_enabled (s : State) (k : Nat) (v : Word) : startConv (s.put (hkaIdx k) 1 v) k =
    (s.put (hkaIdx k) 1 v).modConv k (fun _ => { coming := (s.conv k).coming, timer := s.ct + 5 * s.nat (hkaIdx k) 3 }) := by
  have hper : (s.put (hkaIdx k) 1 v).nat (hkaIdx k) 3 = s.nat (hkaIdx k) 3 :=
    State.nat_eq_of_obj (State.put_obj_other _ _ _ _ _ _ (objKey_ne_of_sub (by decide) (by decide) (by decide) _ _))
  rw [startConv, hper]
  exact State.modConv_congr rfl

/-- R548: the converter with its enable at 0 and its trigger and the rest of its scan discarded. -/
def convDiscarded (s : State) (k : Nat) : State :=
  (if (s.conv k).trig ≠ none ∨ 1 < (s.conv k).todo.length then (s.putN (hkaIdx k) 1 0).bump (hkaIdx k) 0x0D 16
    else s.putN (hkaIdx k) 1 0).modConv k (fun x => { x with trig := none })

section
variable {k : Nat} {w : Wr} {s : State} (auth : Bool)

/-- R539: an enable of a stopped converter starts it. -/
theorem convEnableEff_starts (hv : w.value ≠ 0) (hoff : s.flag (hkaIdx k) 1 0 = false) (hs : (s.conv k).stop = false) :
    convEnableEff k w auth s = (.accepted, (s.put (hkaIdx k) 1 w.value).modConv k
      (fun _ => { coming := (s.conv k).coming, timer := s.ct + 5 * s.nat (hkaIdx k) 3 })) := by
  have hn : ¬(s.flag (hkaIdx k) 1 0 = true ∨ (s.conv k).stop = true) := by simp [hoff, hs]
  simp only [convEnableEff, if_neg hv, if_neg hn, startConv_enabled, acc]

/-- R42: an enable of a running or stopping converter is only kept. -/
theorem convEnableEff_kept (hv : w.value ≠ 0) (h : s.flag (hkaIdx k) 1 0 = true ∨ (s.conv k).stop = true) :
    convEnableEff k w auth s = (.accepted, s.put (hkaIdx k) 1 w.value) := by
  simp only [convEnableEff, if_neg hv, if_pos h, acc]

/-- R40, R548: a disable of a running converter discards what waits; a conversion in flight goes on. -/
theorem convEnableEff_stops (hv : w.value = 0) (hon : s.flag (hkaIdx k) 1 0 = true) (hs : (s.conv k).stop = false) :
    convEnableEff k w auth s = (.accepted, if (s.conv k).scanning then
      (convDiscarded s k).modConv k (fun c => { c with stop := true }) else convDiscarded s k) := by
  have hn : ¬(s.flag (hkaIdx k) 1 0 = false ∨ (s.conv k).stop = true) := by simp [hon, hs]
  have ht : ((s.conv k).trig.isSome || decide (1 < (s.conv k).todo.length)) = true ↔
      (s.conv k).trig ≠ none ∨ 1 < (s.conv k).todo.length := by
    simp [Option.isSome_iff_ne_none]
  simp only [convEnableEff, if_pos hv, convDisable, if_neg hn, acc, convDiscarded, ht, scanAborted]

end

/-! ### Tachometers -/

section
variable {n : Fin 8} {s : State} (hr : tachRuns s n = true)
include hr

/-- R554: an edge of a level stable for 40 clocks is counted and times the period since the last. -/
theorem exec_tachEdge {stable : Nat} (hv : s.sup.vddioLow = false) (hs : 40 ≤ stable) : exec (.tachEdge n stable) s =
    let x := (s.bump (tachIdx n) 3 32).modTach n (fun _ => { last := some s.ct, since := s.ct })
    .next (match (s.tach n).last with
      | some f => if 4294967295 < (s.ct - f) / 5 then tachStall x n else (x.putN (tachIdx n) 2 ((s.ct - f) / 5)).put (tachIdx n) 4 0
      | none => x) :=
  when_true (by simp [hr, hv, hs]) s _

/-- R554: no edge for the stall time. -/
theorem exec_tachStall (hf : s.flag (tachIdx n) 4 0 = false)
    (ht : (s.tach n).since + cyclesMs (s.nat (tachIdx n) 1) ≤ s.ct) : exec (.tachStall n) s =
      .next ((tachStall s n).modTach n (fun _ => { since := s.ct })) :=
  when_true (by simp [hr, hf, ht]) s _

end

/-- Settles O50: the rules of codes, triggers and scans one by one, the enable by its effect, the edges by their period. -/
theorem convertersScanAndTachometersTime : Obligations.ConvertersScanAndTachometersTime := by
  unfold Obligations.ConvertersScanAndTachometersTime
  refine ⟨fun v w => convCode_single w, by decide +kernel, by decide +kernel, fun s k code => ⟨fun h => ?plain, fun h => ?left⟩,
    fun k s bit hr hb ht => ⟨trigger_free hr hb ht, trigger_missed hr hb ht⟩, fun s k bit => trigger_ignored,
    fun k s => ⟨fun w hp => congrArg _ (accessWrite_done (eff := softTriggerEff k) hp rfl), exec_converterTimer,
      fun f hf hr hc hd => ⟨fun h => ?scan, fun h => ?check⟩, fun n => mem_scanList,
      fun n rest v w h6 hs hclk hd ht => ⟨fun hc => ?deliver, fun hc => ?judge⟩,
      fun word f h => if_pos h, fun word hw => ⟨resultLands_read hw, resultLands_overrun hw⟩,
      scanNext_more, scanNext_last,
      fun w hp => ⟨fun hv hoff hs => ?starts, fun hv h => ?kept, fun hv hon hs => ⟨fun hscan => ?stopping, fun hscan => ?stopped⟩⟩⟩,
    fun n s hr => ⟨fun stable hv hs => ⟨fun f hf hle => ?period, fun f hf hlt => ?late, fun hf => ?first⟩, exec_tachStall hr⟩⟩
  case plain => simp [convValue, h]
  case left => simp [convValue, h]
  case scan =>
    have hcheck : checkDue s k = false := by simpa [checkDue] using h
    rw [exec_scanStart hf hr hc hd, hcheck]
    rfl
  case check =>
    have hcheck : checkDue s k = true := by simpa [checkDue] using h
    rw [exec_scanStart hf hr hc hd, hcheck]
    rfl
  case deliver => rw [exec_conversionResult v w h6 hs hclk hd ht, hc]; rfl
  case judge => rw [exec_conversionResult v w h6 hs hclk hd ht, hc]; rfl
  case starts => rw [exec_converterEnable, accessWrite_done hp (convEnableEff_starts _ hv hoff hs)]; rfl
  case kept => rw [exec_converterEnable, accessWrite_done hp (convEnableEff_kept _ hv h)]; rfl
  case stopping => rw [exec_converterEnable, accessWrite_done hp (convEnableEff_stops _ hv hon hs), if_pos hscan]; rfl
  case stopped =>
    rw [exec_converterEnable, accessWrite_done hp (convEnableEff_stops _ hv hon hs), if_neg (by simp [hscan])]
    rfl
  case period => rw [exec_tachEdge hr hv hs, hf]; exact congrArg _ (if_neg (not_lt.mpr hle))
  case late => rw [exec_tachEdge hr hv hs, hf]; exact congrArg _ (if_pos hlt)
  case first => rw [exec_tachEdge hr hv hs, hf]

end Sys2Proof.Machine
end

section
/-! PROOF. The supervisors, the board regulators and the gate-supply drivers (R556 to R566, R572). -/
namespace Sys2Proof.Machine

/-! ### Supervisor events -/

theorem fallsBelow_held {limit tol mv held : Nat} (hm : mv ≤ limit + tol) (hh : 2000 ≤ held) :
    fallsBelow limit tol mv held = true := by
  rw [fallsBelow, decide_eq_true hm, decide_eq_true hh, Bool.and_self]

theorem risesAbove_held {limit tol mv held : Nat} (hm : limit ≤ mv + tol) (hh : 2000 ≤ held) :
    risesAbove limit tol mv held = true := by
  rw [risesAbove, decide_eq_true hm, decide_eq_true hh, Bool.and_self]

/-- R556, R572: with D2 ON the warning sets flag bit 2, is counted and reported, and takes the power-fail action. -/
theorem vauxWarned_on {s : State} (h : s.on 2 = true) : vauxWarned s = settleLines (downAction
    ((((((s.modSup (fun x => { x with warn := true })).d1Event 2).setBits 0x2D00 0x11 4).bump 0x2D00 0x10 16).report 70 .ce))
      (s.nat 0x2D02 7)) :=
  if_pos h

/-- R572: every action but 1h and 2h does nothing. -/
theorem downAction_none {k : Nat} (s : State) (h1 : k ≠ 1) (h2 : k ≠ 2) : downAction s k = s := by
  unfold downAction
  split
  · exact absurd rfl h1
  · exact absurd rfl h2
  · rfl

/-! ### Regulators -/

/-- R560: the consecutive faults with the present one; 100 ms good before it start the count again. -/
def regulatorFaults (s : State) (r : Nat) : Nat :=
  if (s.reg r).good = true ∧ (s.reg r).goodAt + realMs 100 ≤ s.real then 1 else (s.reg r).faults + 1

theorem regulatorFaults_eq (s : State) (r : Nat) :
    (if (s.reg r).good && decide ((s.reg r).goodAt + realMs 100 ≤ s.real) then 1
      else (s.reg r).faults + 1) = regulatorFaults s r := by
  simp only [regulatorFaults, Bool.and_eq_true, decide_eq_true_eq]

/-- R560: the regulator off after a fault, latched where it stays off. -/
def regulatorFell (s : State) (r : Nat) (stay : Bool) : State :=
  s.modReg r (fun y => { y with
    good := false, faults := regulatorFaults s r, latched := stay, restart := if stay then none else some (s.real + realMs 20) })

section
variable {r : Fin 3} {s : State} {level : Nat} (hon : (s.reg r).on = true) (hrst : (s.reg r).restart = none)
  (hl : (s.reg r).latched = false)
include hon hrst hl

/-- R559: the soft start ends good. -/
theorem exec_regulatorGood (hg : (s.reg r).good = false) (hv : 930 ≤ level)
    (ht : (s.reg r).soft + realMs 1 ≤ s.real) : exec (.regulatorGood r level) s =
      let y := s.modReg r (fun y => { y with good := true, goodAt := s.real })
      .next (if s.on 2 then targetGood y (1 + r.val) else y) :=
  when_true (by simp [hon, hrst, hl, hg, hv, ht]) s _

/-- R559, R560: a fault is counted, flagged and reported; the regulator restarts, or stays latched at the limit. -/
theorem exec_regulatorFault {held : Nat} (hv : level < 900 ∨ 1100 < level) (hh : 50000 ≤ held)
    (ht : (s.reg r).soft + realMs 1 + realUs 50 ≤ s.real) : exec (.regulatorFault r level held) s =
      let y := regulatorFell s r (decide (s.nat 0x2D00 5 ≤ regulatorFaults s r))
      .next (if s.on 2 then targetFault (((y.bump 0x2D00 0x0F 16).setBits 0x2D00 0x11 1).report 70 .uc) (1 + r.val) else y) := by
  simp only [regulatorFell, ← regulatorFaults_eq]
  exact when_true (by simp [hon, hrst, hl, hv, hh, ht]) s _

end

/-- R560: the restart after 20 ms. -/
theorem exec_regulatorRestart {r : Fin 3} {s : State} {f : Nat} (hf : (s.reg r).restart = some f) (ht : f ≤ s.real) :
    exec (.regulatorRestart r) s = .next (s.modReg r (fun y => { y with restart := none, soft := s.real })) := by
  change execRegulatorRestart r s = _
  rw [execRegulatorRestart]
  simp only [hf]
  exact when_true (decide_eq_true ht) s _

/-! ### Drivers -/

section
variable {g : Fin 2} {s : State} (hon : (s.gateSupply g).on = true) (hst : (s.gateSupply g).stopped = false)
  (hc : clockState s ≠ 0)
include hon hst hc

/-- R564: the soft start of a driver ends. -/
theorem exec_driverSoftStartEnd (hg : (s.gateSupply g).good = false)
    (ht : (s.gateSupply g).soft + cyclesUs (s.nat 0x2D00 0x0B) ≤ s.t) : exec (.driverSoftStartEnd g) s =
      .next (targetGood (s.modGds g (fun y => { y with good := true })) (4 + g.val)) :=
  when_true (by simp [hon, hst, hc, hg, ht]) s _

/-- R564: limited half-periods are counted; 16 of them stop the driver. -/
theorem exec_driverLimitStop {halves : Nat} (ht : (s.gateSupply g).soft + halves * s.nat 0x2D00 7 ≤ s.t) :
    exec (.driverLimitStop g halves) s =
      let y := s.add 0x2D00 0x0D 16 halves
      .next (if halves < 16 then y else targetFault (((y.setBits 0x2D00 0x11 2).report 70 .uc).modGds g
        (fun y => { y with stopped := true, good := false })) (4 + g.val)) :=
  when_true (by simp [hon, hst, hc, ht]) s _

end

/-- Settles O51: each event under its threshold, each regulator and driver row under its condition, by `when_true`. -/
theorem suppliesAreSupervised : Obligations.SuppliesAreSupervised := by
  unfold Obligations.SuppliesAreSupervised
  refine ⟨fun mv held hh s => ⟨fun hw hm => ?warning, fun hw hm => ?clear, fun ho hm => ?overvoltage,
      fun hm => when_true (fallsBelow_held hm hh) s _, fun hv hm => ?vdda,
      fun hm => when_true (risesAbove_held hm hh) s _, fun hv hm => ?vddio,
      fun hm => when_true (risesAbove_held hm hh) s _⟩,
    fun s mask => rfl, fun s => vauxWarned_on, fun s => ⟨fun k => downAction_none s, rfl, rfl⟩,
    fun r w s hp => congrArg _ (accessWrite_done (eff := regulatorEff r) hp rfl),
    fun w s hp => congrArg _ (accessWrite_done (eff := driverEff) hp rfl),
    fun r s => ⟨fun level hon hrst hl hg hv ht => exec_regulatorGood hon hrst hl hg hv ht,
      fun level held hon hrst hl hv hh ht => ⟨fun (hn : regulatorFaults s r < _) => ?restarts,
        fun (hn : _ ≤ regulatorFaults s r) => ?latches⟩, fun f => exec_regulatorRestart⟩,
    fun g s hon hst hc => ⟨exec_driverSoftStartEnd hon hst hc, fun halves ht => ⟨fun h => ?counted, fun h => ?stops⟩⟩⟩
  case warning => exact when_true (by rw [hw, fallsBelow_held hm hh]; rfl) s _
  case clear => exact when_true (by rw [hw, risesAbove_held hm hh]; rfl) s _
  case overvoltage => exact when_true (by rw [ho, risesAbove_held hm hh]; rfl) s _
  case vdda => exact when_true (by rw [hv, fallsBelow_held hm hh]; rfl) s _
  case vddio => exact when_true (by rw [hv, fallsBelow_held hm hh]; rfl) s _
  case restarts => rw [exec_regulatorFault hon hrst hl hv hh ht, decide_eq_false (not_le.mpr hn)]; rfl
  case latches => rw [exec_regulatorFault hon hrst hl hv hh ht, decide_eq_true hn]; rfl
  case counted => rw [exec_driverLimitStop hon hst hc ht]; exact congrArg _ (if_pos h)
  case stops => rw [exec_driverLimitStop hon hst hc ht]; exact congrArg _ (if_neg (not_lt.mpr h))

end Sys2Proof.Machine
end

section
/-! PROOF. Domain requests, the sequencer's commands, slots and lines (R567 to R587). -/
namespace Sys2Proof.Machine

/-! ### Domain requests -/

theorem exec_domainRequestWrite (w : Wr) (s : State) :
    exec (.domainRequestWrite w) s = .next (accessWrite s w false 0x2D01 1 domainRequestEff) := rfl

section
variable {w : Wr} {s : State} (auth : Bool)

/-- R567, R569: a request that meets no condition is carried out. -/
theorem domainRequestEff_accepts (hb : domainsBusy s = false) (hr : domainRefusal s (w.value.toNat % 65536) = 0) :
    domainRequestEff w auth s = (.accepted, acceptDomains s (w.value.toNat % 65536)) := by
  simp only [domainRequestEff, hb, hr, acc, Bool.false_eq_true, if_false]

/-- R568: a request is refused with the code of the first condition it meets. -/
theorem domainRequestEff_refuses (hb : domainsBusy s = false) (hr : domainRefusal s (w.value.toNat % 65536) ≠ 0) :
    domainRequestEff w auth s = (.state, s.putN 0x2D01 3 (domainRefusal s (w.value.toNat % 65536))) := by
  simp only [domainRequestEff, hb, Bool.false_eq_true, if_false, rej]

/-- R569: a request while another is carried out ends with 4h. -/
theorem domainRequestEff_busy (hb : domainsBusy s = true) : domainRequestEff w auth s = (.state, s) := by
  simp only [domainRequestEff, hb, rej, if_true]

end

/-- R570: the domain has reached its state. -/
theorem exec_domainChangeComplete {d : Fin 8} {s : State} {v old : Nat} (h : s.dom.change = some (d.val, v, some old)) :
    exec (.domainChangeComplete d) s = .next (settleDomains (settleAll (settleSlots (foremanAct
      (domainContents ((setDomain { s with dom := {} } d v).bump 0x2D01 4 32) d old v))))) := by
  change execDomainChangeComplete d s = _
  rw [execDomainChangeComplete]
  simp only [h]
  exact when_true (beq_self_eq_true _) s _

/-! ### Sequencer commands -/

theorem exec_sequencerUp (w : Wr) (s : State) :
    exec (.sequencerUp w) s = .next (accessWrite s w false 0x2D02 2 sequencerEff) := rfl

theorem exec_sequencerDown (w : Wr) (s : State) :
    exec (.sequencerDown w) s = .next (accessWrite s w false 0x2D02 2 sequencerEff) := rfl

theorem exec_sequencerClear (w : Wr) (s : State) :
    exec (.sequencerClear w) s = .next (accessWrite s w false 0x2D02 2 sequencerEff) := rfl

theorem exec_sequencerDisable (w : Wr) (s : State) :
    exec (.sequencerDisable w) s = .next (accessWrite s w false 0x2D02 1 sequencerEnableEff) := rfl

section
variable {w : Wr} {s : State} (auth : Bool)

/-- R587: a disabled sequencer takes no command. -/
theorem sequencerEff_disabled (hoff : s.flag 0x2D02 1 0 = false) : sequencerEff w auth s = (.state, s) := by
  simp only [sequencerEff, if_pos hoff, rej]

section
variable (hon : s.flag 0x2D02 1 0 = true)
include hon

/-- R577: up starts from off alone. -/
theorem sequencerEff_up (hv : w.value = 1) : sequencerEff w auth s =
    if seqState s = 0 then (.accepted, settleSlots (startUp s)) else (.state, s) := by
  simp only [sequencerEff, hon, hv, acc, rej]
  rfl

/-- R580: down starts from any state but off. -/
theorem sequencerEff_down (hv : w.value = 2) : sequencerEff w auth s =
    if seqState s = 0 then (.state, s) else (.accepted, settleAll (startDown s false)) := by
  simp only [sequencerEff, hon, hv, acc, rej]
  rfl

/-- R583: a clear is taken in off, or failed with every output at 0. -/
theorem sequencerEff_clear (hv : w.value = 3) : sequencerEff w auth s =
    if seqIdle s then (.accepted, clearSequencer s) else (.state, s) := by
  simp only [sequencerEff, hon, hv, acc, rej]
  rfl

end

/-- R587: 0 in the enable puts every output to 0. -/
theorem sequencerEnableEff_off (hv : w.value = 0) :
    sequencerEnableEff w auth s = (.accepted, settleAll (seqOff (s.put 0x2D02 1 0))) := by
  simp only [sequencerEnableEff, hv, acc, if_true]

theorem sequencerEnableEff_on (hv : w.value ≠ 0) : sequencerEnableEff w auth s = (.accepted, s.put 0x2D02 1 w.value) := by
  simp only [sequencerEnableEff, if_neg hv, acc]

end

/-- R581: a down command during a down sequence is only counted. -/
theorem startDown_falling {s : State} (h : seqState s = 3) (fast : Bool) : startDown s fast = s.bump 0x2D02 0x0F 16 := by
  rw [startDown, if_neg (by rw [h]; decide), if_pos h]

/-- R579: a slot whose failure action is 0h makes the sequencer failed. -/
theorem failSlot_stays {s : State} {j : Nat} (k : Nat) (h : s.nat (slotIdx j) 0x0A = 0) :
    failSlot s j k = settleSlots (storageCheck ((dropWaiting
      (((((dropOutput (slotCause s j k) j).putN (slotIdx j) 0x0C 5).setBits 0x2D02 0x0D 1).bump 0x2D02 0x10 16).report 71 .uc
        |>.putN 0x2D02 3 4)).modSeq (fun q => { q with failed := true, readyWait := none }))) := by
  simp only [failSlot, h]

/-! ### Slots -/

theorem deglitched_held {s : State} {j held : Nat} (h : cyclesUs (s.nat (slotIdx j) 7) ≤ held) :
    deglitched s j held = true :=
  decide_eq_true h

theorem deglitched_short {s : State} {j held : Nat} (h : held < cyclesUs (s.nat (slotIdx j) 7)) :
    deglitched s j held = false :=
  decide_eq_false (not_le.mpr h)

/-- R577: slot j with its output asserted, rising. -/
def slotRisen (s : State) (j : Nat) : State := settleSlots ((setOutput s j true).putN (slotIdx j) 0x0C 2)

/-- R580: slot j with its output deasserted, falling. -/
def slotFalling (s : State) (j : Nat) : State := settleSlots ((dropOutput s j).putN (slotIdx j) 0x0C 4)

/-- R575: slot j with its good input fallen. -/
def slotLow (s : State) (j : Nat) : State := s.modSlot j (fun y => { y with raw := false, good := false })

section
variable {j : Fin 16} {s : State} (h2 : s.on 2 = true)
include h2

/-- R577: the up delay has passed. -/
theorem exec_slotUpDelayExpiry (hq : seqState s = 1) (hs : slotState s j = 1) (hj : j.val ∈ upSlots s)
    (ht : s.seq.posFrom + cyclesUs (s.nat (slotIdx j) 5) ≤ s.t) : exec (.slotUpDelayExpiry j) s =
      .next (settleAll (if targetAvailable s j then
        (if slotGood (slotRisen s j) j then slotIsGood (slotRisen s j) j else slotRisen s j) else failSlot s j 4)) :=
  when_true (by simp [h2, hq, hs, hj, ht]) s _

section
variable {held : Nat} (ht : slotTarget s j = 0) (hg : (s.slot j).good = false) (hv : s.sup.vddioLow = false)
include ht hg hv

/-- R577: after the deglitch time a rising slot is good. -/
theorem exec_slotGood_deglitched (hh : cyclesUs (s.nat (slotIdx j) 7) ≤ held) (hs : slotState s j = 2) :
    exec (.slotGood j held) s = .next (slotIsGood (s.modSlot j (fun y => { y with raw := true, good := true })) j) := by
  refine (when_true (by simp [h2, ht, hg, hv]) s _).trans ?_
  rw [deglitched_held hh, if_neg (by decide), if_pos hs]

/-- R575: before it the good is only seen. -/
theorem exec_slotGood_early (hh : held < cyclesUs (s.nat (slotIdx j) 7)) :
    exec (.slotGood j held) s = .next (s.modSlot j (fun y => { y with raw := true })) := by
  refine (when_true (by simp [h2, ht, hg, hv]) s _).trans ?_
  rw [if_pos (deglitched_short hh)]

end

/-- R577, R579: cause 1h at the good timeout. -/
theorem exec_slotGoodTimeout (hq : seqState s ≠ 3) (hs : slotState s j = 2)
    (ht : (s.slot j).outAt + cyclesMs (s.nat (slotIdx j) 6) ≤ s.t) :
    exec (.slotGoodTimeout j) s = .next (settleAll (failSlot s j 1)) :=
  when_true (by simp [h2, hq, hs, ht]) s _

/-- R575, R579: cause 2h as the good of a good slot falls. -/
theorem exec_slotGoodLost {held : Nat} (hq : seqState s ≠ 3) (hf : goodFalls s j held = true) (hs : slotState s j = 3) :
    exec (.slotGoodLost j held) s = .next (settleAll (failSlot (slotLow s j) j 2)) := by
  refine (when_true (by simp [h2, hf, hq]) s _).trans ?_
  rw [if_pos hs, slotLow]

/-- R575: a glitch of a good slot, which fails with cause 3h at the chatter limit outside a down sequence. -/
theorem exec_slotGlitch {held : Nat} (hi : inSequence s j = true) (ht : slotTarget s j = 0)
    (hh : held < cyclesUs (s.nat (slotIdx j) 7)) (hs : slotState s j = 3) (hg : (s.slot j).good = true) :
    exec (.slotGlitch j held) s =
      let g := (s.bump (slotIdx j) 0x10 16).bump (slotIdx j) 0x0F 8
      .next (if s.nat (slotIdx j) 0x0B ≤ g.nat (slotIdx j) 0x0F ∧ seqState s ≠ 3 then settleAll (failSlot g j 3) else g) := by
  refine (when_true (by simp [h2, hi, ht, deglitched_short hh]) s _).trans ?_
  rw [if_pos ⟨hs, hg⟩]

/-- R580: the down delay has passed. -/
theorem exec_slotDownDelayExpiry (hq : seqState s = 3) (ho : (s.slot j).out = true)
    (hp : s.nat (slotIdx j) 4 = s.nat 0x2D02 4) (ht : s.seq.posFrom + cyclesUs (s.nat (slotIdx j) 8) ≤ s.t) :
    exec (.slotDownDelayExpiry j) s =
      .next (settleAll (settleSlots (if s.nat (slotIdx j) 9 == 0 || !slotGood (slotFalling s j) j then
        downSettle ((slotFalling s j).putN (slotIdx j) 0x0C 0) else slotFalling s j))) :=
  when_true (by simp [h2, hq, ho, hp, ht]) s _

/-- R580, R582: the good has fallen; a slot that awaited its turn ends with cause 8h. -/
theorem exec_slotFallComplete {held : Nat} (hq : seqState s = 3) (hf : goodFalls s j held = true) :
    exec (.slotFallComplete j held) s =
      .next (settleAll (settleSlots (downSettle (if slotState s j = 4 then (slotLow s j).putN (slotIdx j) 0x0C 0
        else if (s.slot j).out then (dropOutput (slotCause (slotLow s j) j 8) j).putN (slotIdx j) 0x0C 0
        else slotLow s j)))) :=
  when_true (by simp [h2, hq, hf]) s _

/-- R580: cause 9h at the fall timeout. -/
theorem exec_slotFallTimeout (hq : seqState s = 3) (hs : slotState s j = 4) (hg : slotGood s j = true)
    (ht : (s.slot j).outAt + cyclesMs (s.nat (slotIdx j) 9) ≤ s.t) : exec (.slotFallTimeout j) s =
      .next (settleAll (settleSlots (downSettle ((slotCause s j 9).putN (slotIdx j) 0x0C 0)))) :=
  when_true (by simp [h2, hq, hs, hg, ht]) s _

/-! ### Lines -/

omit j

/-- R578: the wait for RDYLINE times out. -/
theorem exec_readyWaitTimeout {f : Nat} (hf : s.seq.readyWait = some f) (hq : seqState s = 5)
    (ht : f + cyclesMs (s.nat 0x2D02 6) ≤ s.t) : exec .readyWaitTimeout s =
      .next (settleAll (settleSlots (storageCheck ((((dropWaiting (s.putN 0x2D02 3 4)).modSeq (fun q => { q with
        failed := true, readyWait := none })).setBits 0x2D02 0x0D 8).report 71 .uc)))) := by
  change execReadyWaitTimeout s = _
  rw [execReadyWaitTimeout]
  simp only [hf]
  exact when_true (by simp [h2, hq, ht]) s _

/-- R578, R585: RDYLINE has read high for 10 µs. -/
theorem exec_readyRelease {f held : Nat} (hf : s.seq.released = some f) (ht : f + 2000 ≤ s.t) (hh : 2000 ≤ held)
    (hv : s.sup.vddioLow = false) : exec (.readyRelease held) s =
      let x := (s.modSeq (fun q => { q with rdyline := true })).setBits 0x2D03 7 (if s.seq.rdyline then 0 else 2)
      .next (settleSlots (if seqState s = 5 then (x.putN 0x2D02 3 1).modSeq
        (fun q => { q with ready := true, readyWait := none, posFrom := s.t }) else x)) := by
  change execReadyRelease held s = _
  rw [execReadyRelease]
  simp only [hf]
  exact when_true (by simp [h2, cyclesUs, ht, hh, hv]) s _

/-- R585: RDYLINE falls while the sequencer is up. -/
theorem exec_readyLoss {held : Nat} (hq : seqState s = 2) (hr : s.seq.rdyline = true) (hh : 2000 ≤ held) :
    exec (.readyLoss held) s =
      let x := ((s.modSeq (fun q => { q with rdyline := false })).setBits 0x2D03 7 2).setBits 0x2D02 0x0D 32
      .next (settleAll (if s.nat 0x2D02 9 = 1 then startDown x false else x)) :=
  when_true (by simp [h2, hq, hr, cyclesUs, hh]) s _

/-- R584: FLTLINE_N held low for 1 µs by others, while the device does not pull it, is one line fault. -/
theorem exec_fltlineFault_low {held : Nat} (hp : s.seq.pulling = none) (ho : s.seq.others = false) (hh : 200 ≤ held) :
    exec (.fltlineFault true held) s = .next (settleAll (settleLines (downAction
      (((((s.modSeq (fun q => { q with others := true, judged := true })).bump 0x2D03 6 16).setBits 0x2D03 7 1).setBits
        0x2D02 0x0D 16).report 72 .uc) (s.nat 0x2D02 8)))) := by
  change execFltlineFault true held s = _
  simp [execFltlineFault, hp, ho, h2, cyclesUs, hh]

omit h2 in
/-- R584: a line let go ends the fault. -/
theorem exec_fltlineFault_high (held : Nat) (hv : s.sup.vddioLow = false) : exec (.fltlineFault false held) s =
    .next (s.modSeq (fun q => { q with others := false, judged := false })) := by
  change execFltlineFault false held s = _
  simp [execFltlineFault, hv]

/-- R584: the minimum assertion has ended. -/
theorem exec_fltlineAssertionEnd {f : Nat} (hf : s.seq.pulling = some f) (ht : f + minAssertion s ≤ s.t) :
    exec .fltlineAssertionEnd s = .next (settleLines s) := by
  change execFltlineAssertionEnd s = _
  rw [execFltlineAssertionEnd]
  simp only [hf]
  exact when_true (by simp [h2, ht]) s _

end

/-- Settles O52: the writes by the effects of a domain request, a sequencer command and the enable; the rows of slots and lines
under their conditions. -/
theorem domainsChangeAndTheSequencerSteps : Obligations.DomainsChangeAndTheSequencerSteps := by
  unfold Obligations.DomainsChangeAndTheSequencerSteps
  refine ⟨fun w s hp => ⟨fun hb hr => ?accepts, fun hb hr => ?refuses, fun hb => ?busy⟩,
    fun d s v old => exec_domainChangeComplete,
    fun w s hp => ⟨fun hon => ⟨fun hv hs => ?up, fun hv hs => ?noUp, fun hv hs => ?down, fun hv hs => ?noDown,
      fun hv hi => ?clear, fun hv hi => ?noClear⟩, fun hoff => ?disabled⟩,
    fun w s hp => ⟨fun hv => ?off, fun hv => ?on⟩, fun s hs f => startDown_falling hs f, fun s j k => failSlot_stays k,
    fun j s h2 => ⟨fun hq hs hj ht => ⟨fun ha hg => ?good, fun ha hg => ?rising, fun ha => ?unavailable⟩,
      fun held ht hg hv => ⟨exec_slotGood_deglitched h2 ht hg hv, exec_slotGood_early h2 ht hg hv⟩, exec_slotGoodTimeout h2,
      fun held => exec_slotGoodLost h2, fun held hi ht hh hs hg => ⟨fun h => ?glitch, fun hl hq => ?chatter⟩,
      fun hq ho hp ht => ⟨fun h9 hg => ?falls, fun h => ?fallen⟩,
      fun held hq hf => ⟨fun hs => ?complete, fun hs ho => ?early⟩, exec_slotFallTimeout h2⟩,
    fun s h2 => ⟨fun f => exec_readyWaitTimeout h2,
      fun f held hf ht hh hv => ⟨fun hq => ?ready, fun hq => ?released⟩,
      fun held hq hr hh => ⟨fun h9 => ?told, fun h9 => ?acts⟩, fun held => exec_fltlineFault_low h2,
      exec_fltlineFault_high, fun f => exec_fltlineAssertionEnd h2⟩⟩
  case accepts => rw [exec_domainRequestWrite, accessWrite_done hp (domainRequestEff_accepts _ hb hr)]; rfl
  case refuses => rw [exec_domainRequestWrite, accessWrite_state hp (domainRequestEff_refuses _ hb hr)]; rfl
  case busy => rw [exec_domainRequestWrite, accessWrite_state hp (domainRequestEff_busy _ hb)]
  case up => rw [exec_sequencerUp, accessWrite_done hp ((sequencerEff_up _ hon hv).trans (if_pos hs))]
  case noUp => rw [exec_sequencerUp, accessWrite_state hp ((sequencerEff_up _ hon hv).trans (if_neg hs))]
  case down => rw [exec_sequencerDown, accessWrite_done hp ((sequencerEff_down _ hon hv).trans (if_neg hs))]
  case noDown => rw [exec_sequencerDown, accessWrite_state hp ((sequencerEff_down _ hon hv).trans (if_pos hs))]
  case clear => rw [exec_sequencerClear, accessWrite_done hp ((sequencerEff_clear _ hon hv).trans (if_pos hi))]
  case noClear =>
    rw [exec_sequencerClear, accessWrite_state hp ((sequencerEff_clear _ hon hv).trans (if_neg (by simp [hi])))]
  case disabled =>
    have hno := accessWrite_state hp (sequencerEff_disabled _ hoff)
    exact ⟨congrArg _ hno, congrArg _ hno, congrArg _ hno⟩
  case off => rw [exec_sequencerDisable, accessWrite_done hp (sequencerEnableEff_off _ hv)]
  case on => rw [exec_sequencerDisable, accessWrite_done hp (sequencerEnableEff_on _ hv)]; rfl
  case good => rw [exec_slotUpDelayExpiry h2 hq hs hj ht, if_pos ha]; exact congrArg _ (congrArg _ (if_pos hg))
  case rising =>
    rw [exec_slotUpDelayExpiry h2 hq hs hj ht, if_pos ha]
    exact congrArg _ (congrArg _ (if_neg (ne_true_of_eq_false hg)))
  case unavailable => rw [exec_slotUpDelayExpiry h2 hq hs hj ht, if_neg (ne_true_of_eq_false ha)]
  case glitch =>
    rw [exec_slotGlitch h2 hi ht hh hs hg]
    exact congrArg _ (if_neg (fun hn => h.elim (not_lt.mpr hn.1) hn.2))
  case chatter => rw [exec_slotGlitch h2 hi ht hh hs hg]; exact congrArg _ (if_pos ⟨hl, hq⟩)
  case falls =>
    have hg' : slotGood (slotFalling s j) j = true := hg
    rw [exec_slotDownDelayExpiry h2 hq ho hp ht, if_neg (by simp [h9, hg'])]
    rfl
  case fallen =>
    have h' : s.nat (slotIdx j) 9 = 0 ∨ slotGood (slotFalling s j) j = false := h
    rw [exec_slotDownDelayExpiry h2 hq ho hp ht, if_pos (by simpa using h')]
    rfl
  case complete => rw [exec_slotFallComplete h2 hq hf, if_pos hs]; rfl
  case early => rw [exec_slotFallComplete h2 hq hf, if_neg hs, if_pos ho]; rfl
  case ready => rw [exec_readyRelease h2 hf ht hh hv]; exact congrArg _ (congrArg _ (if_pos hq))
  case released => rw [exec_readyRelease h2 hf ht hh hv]; exact congrArg _ (congrArg _ (if_neg hq))
  case told => rw [exec_readyLoss h2 hq hr hh]; exact congrArg _ (congrArg _ (if_neg h9))
  case acts => rw [exec_readyLoss h2 hq hr hh]; exact congrArg _ (congrArg _ (if_pos h9))

end Sys2Proof.Machine
end

section
/-! PROOF. The charger, the power path and the source search (R597 to R611, R618 to R620). -/
namespace Sys2Proof.Machine

/-! ### Chemistry and enables -/

theorem exec_chemistryWrite (w : Wr) (s : State) :
    exec (.chemistryWrite w) s = .next (accessWrite s w false 0x2E00 3 chemistryEff) := rfl

theorem exec_chargerEnable (w : Wr) (s : State) :
    exec (.chargerEnable w) s = .next (accessWrite s w false 0x2E00 1 chargerEnableEff) := rfl

theorem exec_powerPathEnable (w : Wr) (s : State) :
    exec (.powerPathEnable w) s = .next (accessWrite s w false 0x2E02 1 pathEnableEff) := rfl

section
variable {w : Wr} {s : State} (auth : Bool)

/-- R618: the chemistry of an enabled charger stays. -/
theorem chemistryEff_enabled (hon : s.flag 0x2E00 1 0 = true) : chemistryEff w auth s = (.state, s) := by
  simp only [chemistryEff, if_pos hon, rej]

section
variable (hoff : s.flag 0x2E00 1 0 = false)
include hoff

/-- R597: a chemistry without a row loads nothing. -/
theorem chemistryEff_custom (hr : chemistryRow w.value.toNat = none) :
    chemistryEff w auth s = (.accepted, s.put 0x2E00 3 w.value) := by
  simp only [chemistryEff, hoff, hr, acc, Bool.false_eq_true, if_false]

/-- R597: the chemistry's row loads the profile. -/
theorem chemistryEff_profile {n absorb : Nat} {l : List Int} {fl : Bool}
    (hr : chemistryRow w.value.toNat = some (n, l, absorb, fl)) : chemistryEff w auth s = (.accepted,
      (((loadProfile (s.put 0x2E00 3 w.value) l 1).putN 0x2E00 4 n).putN 0x2E01 0x16 absorb).putBit 0x2E00 0x10 2 fl) := by
  simp only [chemistryEff, hoff, hr, acc, Bool.false_eq_true, if_false]

end

/-- R619: an enable of a charger that is not ready ends with 4h. -/
theorem chargerEnableEff_unready (hv : w.value ≠ 0) (hu : chargerUnready s = true) :
    chargerEnableEff w auth s = (.state, s) := by
  simp only [chargerEnableEff, if_neg hv, if_pos hu, rej]

/-- R618, R619: an enable of a ready charger waits for the millisecond step. -/
theorem chargerEnableEff_ready (hv : w.value ≠ 0) (hu : chargerUnready s = false) : chargerEnableEff w auth s =
    (.accepted, ((s.put 0x2E00 1 1).keepOld s 0x2E00 1).later .chargerOn) := by
  simp only [chargerEnableEff, if_neg hv, hu, acc, Bool.false_eq_true, if_false]

/-- R620: a disable puts the charger in stage off at once. -/
theorem chargerEnableEff_off (hv : w.value = 0) : chargerEnableEff w auth s = (.accepted,
    if chargeStage s = 0 then (s.put 0x2E00 1 0).recall .chargerOn 0x2E00 1
    else settleAll (toStage ((s.put 0x2E00 1 0).recall .chargerOn 0x2E00 1) 0)) := by
  simp only [chargerEnableEff, if_pos hv, acc]

/-- R618: an enable of the power path waits for the millisecond step. -/
theorem pathEnableEff_on (hv : w.value ≠ 0) : pathEnableEff w auth s =
    (.accepted, ((s.put 0x2E02 1 w.value).keepOld s 0x2E02 1).later .pathOn) := by
  simp only [pathEnableEff, if_neg hv, acc]

/-- R620: a disable takes the power path to off at once. -/
theorem pathEnableEff_off (hv : w.value = 0) : pathEnableEff w auth s =
    let x := (pathTo (s.put 0x2E02 1 0) 0).recall .pathOn 0x2E02 1
    (.accepted, settleAll { x with chg := { x.chg with episode := none, episodeMs := episodeTime s } }) := by
  simp only [pathEnableEff, if_pos hv, acc]

end

/-- R619: what keeps a charger from being enabled. -/
theorem chargerUnready_iff (s : State) : chargerUnready s = true ↔ s.nat 0x2E00 2 = 255 ∨ s.nat 0x2E00 3 = 0 ∨
    s.nat 0x2E00 4 = 0 ∨ s.int 0x2E01 0x0E ≤ 0 ∨ s.int 0x2E01 0x0F ≤ 0 := by
  simp only [chargerUnready, Bool.or_eq_true, beq_iff_eq, decide_eq_true_eq, or_assoc]

/-! ### Writes at the millisecond step -/

section
variable {s : State}

/-- R604: a clear takes fault and absent to idle, with the cause and reasons 4 and 5 cleared. -/
theorem chargeCommand_clear_freed (h : chargeStage s = 9 ∨ chargeStage s = 10) :
    chargeCommand s .clear = ((toStage s 1).put 0x2E00 6 0).clrBits 0x2E04 7 48 := by
  simp only [chargeCommand, if_pos h]

theorem chargeCommand_clear_other (h9 : chargeStage s ≠ 9) (h10 : chargeStage s ≠ 10) :
    chargeCommand s .clear = (s.put 0x2E00 6 0).clrBits 0x2E04 7 48 := by
  simp only [chargeCommand, if_neg (not_or.mpr ⟨h9, h10⟩)]

end

/-! ### Stages -/

/-- R602: at a millisecond step the stage changes as the table says. -/
theorem exec_chargeStageChange {s t : State} (h5 : s.on 5 = true) (ht : s.ticked = true) (he : s.chg.entered ≠ s.t)
    (hon : s.cflag 0x2E00 1 0 = true) (hc : stageChange s = some t) :
    exec .chargeStageChange s = .next (settleAll t) := by
  change execChargeStageChange s = _
  rw [execChargeStageChange]
  simp only [hc]
  exact when_true (by simp [h5, ht, he, hon]) s _

/-- R602: in stages 2 to 8 the first rows are removal, absence, overvoltage and idle. -/
theorem stageChange_of_active {s : State} (hlo : 2 ≤ chargeStage s) (hhi : chargeStage s ≤ 8) : stageChange s =
    if s.chg.removal then some (gaugeRemoval (chargeAbsent s))
    else if batteryPresent s = false then some (chargeAbsent s)
    else if chargeHeld s 2 then some (setReason (chargeFault s 3) 32)
    else if idleCalled s then some (chargeIdle s)
    else stageRow s := by
  simp only [stageChange, if_pos (And.intro hlo hhi)]

section
variable (s : State) (k : Nat)

/-- R602: the words of a stage that is entered. -/
theorem toStage_obj (x y : Nat) :
    (toStage s k).obj x y = (((s.putN 0x2E00 5 k).bump 0x2E00 0x12 32).setBits 0x2E00 0x11 2).obj x y := rfl

theorem toStage_stage {k : Nat} (hk : k < 11) : chargeStage (toStage s k) = k := by
  have h : (toStage s k).obj 0x2E00 5 = (s.putN 0x2E00 5 k).obj 0x2E00 5 := by simp [toStage_obj, objKey]
  rw [chargeStage, State.nat_eq_of_obj h, State.putN_nat_self _ _ _ (by omega)]

theorem toStage_flag : (toStage s k).flag 0x2E00 0x11 1 = true := by
  have h := State.setBits_flag ((s.putN 0x2E00 5 k).bump 0x2E00 0x12 32) 0x2E00 0x11 2 (b := 1) (by decide)
  exact h.trans (Bool.or_true _)

theorem toStage_count : (toStage s k).nat 0x2E00 0x12 = min (s.nat 0x2E00 0x12 + 1) 4294967295 := by
  have h : (toStage s k).obj 0x2E00 0x12 = ((s.putN 0x2E00 5 k).bump 0x2E00 0x12 32).obj 0x2E00 0x12 := by
    rw [toStage_obj, State.setBits_obj, if_neg (by decide)]
  rw [State.nat_eq_of_obj h, State.bump_nat _ _ _ (le_refl 32), State.putN_nat_other _ _ (by decide)]
  rfl

end

/-! ### Cut-back -/

/-- R607: a cut-back whose channels are valid forms the limit, with its flag as it begins to act. -/
theorem exec_cutbackEvaluation_valid {s : State} {i a : Int} (h5 : s.on 5 = true) (hon : s.cflag 0x2E00 1 0 = true)
    (ht : s.t % 200 = 0) (hi : systemCurrent s = (i, true)) (ha : availableCurrent s = (a, true)) :
    let x := (s.putI 0x2E00 0x0A (clamp32 (max 0 (min (i + batteryLimit s) a)))).putI 0x2E00 0x0B i
    let short := decide (a < i + batteryLimit s)
    exec .cutbackEvaluation s = .next (settleAll { (if short && !s.chg.short then x.setBits 0x2E00 0x11 4 else x) with
      chg := { s.chg with short := short } }) := by
  refine (when_true (by simp [h5, hon, ht]) s _).trans ?_
  simp only [hi, ha, Bool.and_self, Bool.true_and, if_true]
  split <;> rfl

/-- R607: a cut-back that uses an invalid channel forms 0. -/
theorem exec_cutbackEvaluation_invalid {s : State} (h5 : s.on 5 = true) (hon : s.cflag 0x2E00 1 0 = true)
    (ht : s.t % 200 = 0) (h : (systemCurrent s).2 = false ∨ (availableCurrent s).2 = false) :
    exec .cutbackEvaluation s = .next (settleAll
      { (s.putI 0x2E00 0x0A 0).putI 0x2E00 0x0B (systemCurrent s).1 with chg := { s.chg with short := false } }) := by
  have hg : ((systemCurrent s).2 && (availableCurrent s).2) = false := by
    rcases h with h | h <;> simp [h]
  refine (when_true (by simp [h5, hon, ht]) s _).trans ?_
  simp only [hg, Bool.false_and, Bool.false_eq_true, if_false]
  rfl

/-! ### Power path -/

/-- R608: a power path that leaves off begins an episode and is lost. -/
theorem pathLose_off {s : State} (h : pathState s = 0) : pathLose s =
    { pathTo s 1 with chg := { (pathTo s 1).chg with episode := some s.t, outage := false, idleEpisode := false } } := by
  simp [pathLose, h]

theorem lasted_some {s : State} {f len : Nat} (h : f + len ≤ s.t) : lasted s (some f) len = true :=
  decide_eq_true h

section
variable {s : State} (h5 : s.on 5 = true)
include h5

theorem exec_sourcePresent (hp : pathState s = 1) (hh : sourceHere s = true) :
    exec .sourcePresent s = .next (settleAll (pathTo s 2)) :=
  when_true (by simp [h5, hp, hh]) s _

theorem exec_sourceLost (hlo : 2 ≤ pathState s) (hhi : pathState s ≤ 4)
    (hl : lasted s s.chg.lostSince (cyclesUs (s.cnat 0x2E02 7)) = true) :
    exec .sourceLost s = .next (settleAll (pathLose s)) :=
  when_true (by simp [h5, hlo, hhi, hl]) s _

theorem exec_returnDelayExpiry (hp : pathState s = 2) (ht : s.chg.pathEntered + cyclesMs (s.cnat 0x2E02 8) ≤ s.t)
    (hh : inHarbour s = false) : exec .returnDelayExpiry s = .next (settleAll (pathStart s)) :=
  when_true (by simp [h5, hp, ht, hh]) s _

/-- R608, R622: an outage is flagged, counted and reported. -/
theorem exec_outage (ho : s.chg.outage = false) (hl : lasted s s.chg.episode (cyclesMs (s.cnat 0x2E02 9)) = true) :
    let x := ((s.setBits 0x2E02 0x0E 2).bump 0x2E02 0x0F 16).report 74 .ce
    exec .outage s = .next (settleAll { x with chg := { x.chg with
      outage := true, chargerOutage := s.chg.chargerOutage || s.chg.idleEpisode } }) :=
  when_true (by simp [h5, ho, hl]) s _

/-- R609: the CHG rail starts after its delay; a refused start counts as a stop. -/
theorem exec_chgStartDelayExpiry {ok : Bool} {t : State} (hp : pathState s = 3) (ha : s.cflag 0x2E02 3 0 = true)
    (hc : s.chg.chgStarted = false) (hr : s.cnat 0x2E00 2 < 12) (hst : railStatus s (s.cnat 0x2E00 2) = 0)
    (hl : lasted s (chgDelayFrom s) (cyclesMs (s.cnat 0x2E02 0x0A)) = true)
    (hs : tryStart { s with chg := { s.chg with chgStarted := true } } (s.cnat 0x2E00 2) = (ok, t)) :
    exec .chgStartDelayExpiry s = .next (settleAll (if ok then noteBound t else refusedStart t)) := by
  refine (when_true (by simp [h5, hp, ha, hc, hr, hst, hl]) s _).trans ?_
  rw [hs]
  cases ok <;> rfl

/-! ### Source search -/

/-- R611: a step period in which the limit acted raises the limit by the step. -/
theorem exec_searchStepPeriod (hs : s.nat 0x2E03 0x0B = 2)
    (ht : s.chg.periodStart + cyclesMs (s.cnat 0x2E03 6) ≤ s.t) :
    let x := s.putI 0x2E03 0x0A (if s.chg.limited then min (s.cint 0x2E03 2) (s.int 0x2E03 0x0A + s.cint 0x2E03 5)
      else s.int 0x2E03 0x0A)
    exec .searchStepPeriod s =
      .next (settleAll { x with chg := { s.chg with periodStart := s.t, limited := false } }) :=
  when_true (by simp [h5, hs, ht]) s _

/-- R611: the hold ends in probe. -/
theorem exec_searchHoldExpiry (hs : s.nat 0x2E03 0x0B = 3)
    (ht : s.chg.holdStart + cyclesMs (1000 * s.cnat 0x2E03 9) ≤ s.t) : exec .searchHoldExpiry s =
      .next (settleAll { s.putN 0x2E03 0x0B 2 with chg := { s.chg with periodStart := s.t, limited := false } }) :=
  when_true (by simp [h5, hs, ht]) s _

end

/-- Settles O53: writes by their effects, stages by the first row that applies (`stageChange_of_active`) and the words of
`toStage`, the rest under their conditions. -/
theorem chargerAndPowerPathFollowTheirTables : Obligations.ChargerAndPowerPathFollowTheirTables := by
  unfold Obligations.ChargerAndPowerPathFollowTheirTables
  refine ⟨fun w s hp => ⟨fun hon => ?kept, fun hoff hr => ?custom, fun n l absorb fl hoff hr => ?profile⟩,
    fun w s hp => ⟨fun hv hu => ?unready, fun hv hu => ?ready, fun hv hs => ?off, fun hv hs => ?still⟩,
    fun s h5 => if_pos h5,
    fun s => ⟨fun h => if_pos h, fun h => if_pos h, chargeCommand_clear_freed, chargeCommand_clear_other⟩,
    chargerUnready_iff, fun s t => exec_chargeStageChange,
    fun s hlo hhi => ⟨fun hr => ?removal, fun hr hb => ?absent, fun hr hb h2 => ?overvoltage, fun hr hb h2 hi => ?idle,
      fun hr hb h2 hi => ?row⟩,
    fun s k hk => ⟨toStage_stage s hk, toStage_flag s k, toStage_count s k⟩,
    fun w s hp => congrArg _ (accessWrite_done (eff := chargerClearEff) hp rfl),
    fun s h5 hon ht => ⟨fun i a hi ha => ⟨fun h => ?enough, fun h hs => ?stays, fun h hs => ?begins⟩,
      exec_cutbackEvaluation_invalid h5 hon ht⟩,
    fun w s hp => ⟨fun hv => ?pathOn, fun hv => ?pathOff⟩, fun s h => ?episode,
    fun s h5 => ⟨exec_sourcePresent h5, exec_sourceLost h5, exec_returnDelayExpiry h5, exec_outage h5,
      fun hp ha hc hr hst hl ok t => exec_chgStartDelayExpiry h5 hp ha hc hr hst hl,
      exec_searchStepPeriod h5, exec_searchHoldExpiry h5⟩⟩
  case kept => rw [exec_chemistryWrite, accessWrite_state hp (chemistryEff_enabled _ hon)]
  case custom => rw [exec_chemistryWrite, accessWrite_done hp (chemistryEff_custom _ hoff hr)]; rfl
  case profile => rw [exec_chemistryWrite, accessWrite_done hp (chemistryEff_profile _ hoff hr)]; rfl
  case unready => rw [exec_chargerEnable, accessWrite_state hp (chargerEnableEff_unready _ hv hu)]
  case ready => rw [exec_chargerEnable, accessWrite_done hp (chargerEnableEff_ready _ hv hu)]
  case off => rw [exec_chargerEnable, accessWrite_done hp (chargerEnableEff_off _ hv), if_neg hs]
  case still => rw [exec_chargerEnable, accessWrite_done hp (chargerEnableEff_off _ hv), if_pos hs]
  case removal => rw [stageChange_of_active hlo hhi, if_pos hr]
  case absent => rw [stageChange_of_active hlo hhi, hr, hb]; rfl
  case overvoltage => rw [stageChange_of_active hlo hhi, hr, hb, h2]; rfl
  case idle => rw [stageChange_of_active hlo hhi, hr, hb, h2, hi]; rfl
  case row => rw [stageChange_of_active hlo hhi, hr, hb, h2, hi]; rfl
  case enough => rw [exec_cutbackEvaluation_valid h5 hon ht hi ha, decide_eq_false (not_lt.mpr h)]; rfl
  case stays => rw [exec_cutbackEvaluation_valid h5 hon ht hi ha, decide_eq_true h, hs]; rfl
  case begins => rw [exec_cutbackEvaluation_valid h5 hon ht hi ha, decide_eq_true h, hs]; rfl
  case pathOn => rw [exec_powerPathEnable, accessWrite_done hp (pathEnableEff_on _ hv)]; rfl
  case pathOff => rw [exec_powerPathEnable, accessWrite_done hp (pathEnableEff_off _ hv)]
  case episode =>
    rw [pathLose_off h]
    exact ⟨rfl, rfl, State.putN_nat_self s 0x2E02 0x0D (by decide : 1 < 2 ^ 32)⟩

end Sys2Proof.Machine
end

section
/-! PROOF. The interrupt controller, the Lighthouse and the Canary (R659 to R692). -/
namespace Sys2Proof.Machine

/-! ### Claims and completes -/

theorem isFirmware_target (x : Fin 16) : isFirmware (0x3010 + x.val) = false := by
  revert x
  decide

theorem flashOff_target (s : State) (x : Fin 16) : flashOff s (0x3010 + x.val) 3 = false := by
  have h : ∀ x : Fin 16, (0x3010 + x.val == 0x3808 || 0x3010 + x.val == 0x3809) = false := by decide
  rw [flashOff, h]
  rfl

/-- R665: a read of a target's claim word is a claim. -/
theorem readEff_claim (x : Fin 16) : readEff (0x3010 + x.val) 3 = fun _ s => claimRead s x := by
  have hd : ∀ x : Fin 16, isDomain (0x3010 + x.val) = false := by decide
  rw [readEff, if_neg (by simp [hd]), if_pos ⟨by omega, by omega, rfl⟩, Nat.add_sub_cancel_left]

theorem exec_interruptClaim {x : Fin 16} {rd : Rd} {s : State} (hp : readPasses s rd (0x3010 + x.val) 3) :
    exec (.interruptClaim x rd) s = .next ((claimRead s x).2.returned (claimRead s x).1) := by
  change execInterruptClaim x rd s = _
  rw [execInterruptClaim, readObject_hardware rd (isFirmware_target x) (flashOff_target s x), readEff_claim, accessRead_done hp]

section
variable {s : State} {x : Nat}

/-- R669: a disabled controller answers 0. -/
theorem claimRead_disabled (h : s.flag 0x3000 1 0 = false) : claimRead s x = (0, s) :=
  if_pos h

section
variable (hon : s.flag 0x3000 1 0 = true)
include hon

/-- R665: the candidate is claimed, and returned with its priority. -/
theorem claimRead_candidate {n : Nat} (hc : candidate s x = some n) : claimRead s x =
    (BitVec.ofNat 32 (fieldN (sourceConfig s n) 28 4 * 256 + n),
      ((s.bump 0x3000 4 32).bump (targetIdx x) 6 32).modIrq (fun q => { q with claims := q.claims ++ [(n, x)] })) := by
  simp [claimRead, hon, hc]

/-- R665: a claim without a candidate is spurious. -/
theorem claimRead_spurious (hc : candidate s x = none) :
    claimRead s x = (0, (s.bump 0x3000 2 32).bump (targetIdx x) 7 16) := by
  simp [claimRead, hon, hc]

end

end

theorem exec_interruptComplete (x : Fin 16) (w : Wr) (s : State) :
    exec (.interruptComplete x w) s = .next (accessWrite s w false (targetIdx x) 4 (completeEff x)) := rfl

section
variable {x : Nat} {w : Wr} {s : State} (auth : Bool)

/-- R666: a source that the target holds is freed. -/
theorem completeEff_held (h : (w.value.toNat, x) ∈ s.irq.claims) : completeEff x w auth s =
    (.accepted, s.modIrq (fun q => { q with claims := q.claims.erase (w.value.toNat, x) })) := by
  simp only [completeEff, List.contains_iff_mem.mpr h, if_true, acc]

/-- R666: any other complete ends with 4h, counted. -/
theorem completeEff_other (h : (w.value.toNat, x) ∉ s.irq.claims) :
    completeEff x w auth s = (.state, s.bump 0x3000 3 16) := by
  simp only [completeEff, if_neg (mt List.contains_iff_mem.mp h), rej]

end

/-! ### Coalescing -/

/-- R667: group g has gathered member n as its k-th rise. -/
def groupSeen (s : State) (g n k : Nat) : State :=
  ((s.putN (groupIdx g) 3 1).putN (groupIdx g) 4 k).modIrq (fun q => { q with edges := n :: q.edges })

/-- R667: the first rise of a gathering begins its time. -/
def groupFirst (s : State) (g n : Nat) : State :=
  (groupSeen s g n 1).modIrq (fun q => { q with gatherAt := q.gatherAt.set g s.t })

section
variable {g : Fin 32} {n : Fin 256} {s : State} (h2 : s.on 2 = true) (hg : groupFree s g = false)
  (hn : sourceNamed n = true) (hl : sourceLevel s n = true) (hlast : (s.irq.levels.headD 0).getLsbD n = false)
  (he : n.val ∉ s.irq.edges) (hm : n.val ∈ groupMembers s g)
include h2 hg hn hl hlast he hm

/-- R667: the level of a member has risen. -/
theorem groupRise_seen : (s.on 2 && !groupFree s g && sourceNamed n &&
    (sourceLevel s n && !(s.irq.levels.headD 0).getLsbD n && !s.irq.edges.contains n.val) &&
    (groupMembers s g).contains n.val) = true := by
  rw [h2, hg, hn, hl, hlast, Bool.eq_false_iff.mpr (mt List.contains_iff_mem.mp he), List.contains_iff_mem.mpr hm]
  rfl

/-- R667, R668: a rise of an idle group, or of an open one whose other members are low, begins its gathering; a count of 1
opens it. -/
theorem exec_groupGather_first (h : s.nat (groupIdx g) 3 = 0 ∨
    (s.nat (groupIdx g) 3 = 2 ∧ ((groupMembers s g).filter (· != n.val)).any (sourceLevel s) = false)) :
    exec (.groupGather g n) s =
      .next (if s.nat (groupIdx g) 1 = 1 then openGroup (groupFirst s g n) g else groupFirst s g n) := by
  have hidle : (s.nat (groupIdx g) 3 == 0 ||
      (s.nat (groupIdx g) 3 == 2 && !((groupMembers s g).filter (· != n.val)).any (sourceLevel s))) = true := by
    rcases h with h | ⟨h, ho⟩
    · rw [h]; rfl
    · rw [h, ho]; rfl
  have hone : (s.nat (groupIdx g) 1 ≠ 0 ∧ s.nat (groupIdx g) 1 ≤ 1) ↔ s.nat (groupIdx g) 1 = 1 := by omega
  change execGroupGather g n s = _
  simp only [execGroupGather, hidle, if_true, hone]
  exact when_true (by rw [groupRise_seen h2 hg hn hl hlast he hm]; rfl) s _

/-- R667, R668: a further rise of a gathering group is counted; it opens at its count. -/
theorem exec_groupGather_further (h : s.nat (groupIdx g) 3 = 1) : exec (.groupGather g n) s =
    let k := satN 8 (s.nat (groupIdx g) 4 + 1)
    .next (if s.nat (groupIdx g) 1 ≠ 0 ∧ s.nat (groupIdx g) 1 ≤ k then openGroup (groupSeen s g n k) g
      else groupSeen s g n k) := by
  have hidle : (s.nat (groupIdx g) 3 == 0 ||
      (s.nat (groupIdx g) 3 == 2 && !((groupMembers s g).filter (· != n.val)).any (sourceLevel s))) = false := by
    rw [h]; rfl
  change execGroupGather g n s = _
  simp only [execGroupGather, hidle, Bool.false_eq_true, if_false]
  exact when_true (by rw [groupRise_seen h2 hg hn hl hlast he hm, h]; rfl) s _

end

/-- R667: a gathering group opens at its time. -/
theorem exec_groupTimeLimit {g : Fin 32} {s : State} (h2 : s.on 2 = true) (h1 : s.nat (groupIdx g) 3 = 1)
    (hl : s.nat (groupIdx g) 2 ≠ 0)
    (ht : s.irq.gatherAt.getD g.val 0 + cyclesUs (s.nat (groupIdx g) 2) ≤ s.t) :
    exec (.groupTimeLimit g) s = .next (openGroup s g) :=
  when_true (by simp only [h2, h1, decide_eq_true ht, bne_iff_ne.mpr hl]; rfl) s _

/-! ### The Lighthouse -/

/-- R571, R672: the entries that fire are recorded by the lowest and request their domains. -/
theorem exec_lighthouseFire {s : State} {n : Nat} {l : List Nat} (h : (List.range 32).filter (entryFires s) = n :: l) :
    let wake := (n :: l).foldl (fun m k => m ||| fieldN (wakeEntry s k) 26 6 * 4) 0
    let x := ((s.putN 0x3080 0x21 n).put 0x3080 0x22 (lo32 s.now)).bump 0x3080 0x23 16
    exec .lighthouseFire s = .next (wakeDomains { x with aon := { x.aon with
      events := [], fired := x.aon.fired ++ (n :: l).filter (fun k => !bitN (wakeEntry s k) 8) } } wake) := by
  change execLighthouseFire s = _
  rw [execLighthouseFire]
  simp only [h]

/-! ### Canary services -/

theorem exec_canaryService (w : Wr) (s : State) :
    exec (.canaryService w) s = .next (accessWrite s w false 0x3100 1 canaryServiceEff) := rfl

section
variable {w : Wr} {s : State} (auth : Bool)

/-- R682: what a service that is not the warden's leaves. -/
def serviceStray (s : State) : State := (s.bump 0x3100 0x0D 16).setBits 0x3100 0x0F 2

/-- R682: a service of a master that is no engine ends with 4h. -/
theorem canaryServiceEff_noEngine (h : w.master = .can ∨ w.master = .twb ∨ w.master = .debug) :
    canaryServiceEff w auth s = (.state, serviceStray s) := by
  rcases h with h | h | h <;> simp only [canaryServiceEff, h, rej, serviceStray]

section
variable {e : Fin 16} {u : Bool} (hm : w.master = .engine e u)
include hm

/-- R682: a service of another engine, or while biting, ends with 4h. -/
theorem canaryServiceEff_stray (h : e.val ≠ wardenHost s ∨ canaryState s = 3) :
    canaryServiceEff w auth s = (.state, serviceStray s) := by
  simp only [canaryServiceEff, hm, if_pos h, rej, serviceStray]

section
variable (hw : e.val = wardenHost s) (hs : canaryState s ≠ 3)
include hw hs

/-- R683: a wrong key bites. -/
theorem canaryServiceEff_wrongKey (hk : w.value ≠ s.obj 0x3100 0x0B) :
    canaryServiceEff w auth s = (.accepted, canaryBite s 3) := by
  simp only [canaryServiceEff, hm, if_neg (not_or.mpr ⟨not_not.mpr hw, hs⟩), if_pos hk, acc]

section
variable (hk : w.value = s.obj 0x3100 0x0B)
include hk

/-- R683: a second service before the edge is refused and counted. -/
theorem canaryServiceEff_waiting (hv : s.canary.service.isSome = true) :
    canaryServiceEff w auth s = (.state, (s.bump 0x3100 0x0E 16).setBits 0x3100 0x0F 1) := by
  simp only [canaryServiceEff, hm, if_neg (not_or.mpr ⟨not_not.mpr hw, hs⟩), if_neg (not_not.mpr hk), if_pos hv, rej]

/-- R685: the ledger judges a service, and its action acts where a task was missing or double. -/
theorem canaryServiceEff_judged (hv : s.canary.service = none) {bad : Bool} {x : State} (hj : ledgerJudge s = (bad, x)) :
    canaryServiceEff w auth s =
      let y := x.modCanary (fun c => { c with service := some (s.real, e.val) })
      if bad = false then (.accepted, y)
      else match s.nat 0x3101 4 with
        | 0 => (.accepted, (y.setBits 0x3100 0x0F 8).report 77 .ce)
        | 1 => (.state, x.setBits 0x3100 0x0F 8)
        | _ => (.accepted, canaryBite (x.setBits 0x3100 0x0F 8) 4) := by
  simp only [canaryServiceEff, hm, if_neg (not_or.mpr ⟨not_not.mpr hw, hs⟩), if_neg (not_not.mpr hk), hv, hj, acc, rej,
    Option.isSome_none, Bool.false_eq_true, if_false] <;> rfl

end

end

end

end

/-! ### The edges of the Canary -/

/-- R680: the Canary with its service taken off, for the capture. -/
def serviceTaken (s : State) (e : Nat) : State :=
  s.modCanary (fun c => { c with service := none, edge := none, lastTime := lo32 s.now, lastEngine := e })

/-- R680: the count restarts with the other key. -/
def countRestarted (s x : State) : State :=
  (((x.putN 0x3100 0x0A 0).put 0x3100 0x0B (if s.obj 0x3100 0x0B = 0x5AA5 then 0xA55A else 0x5AA5)).bump 0x3100 0x0C 32).putN
    0x3100 9 (if s.nat 0x3100 2 = 0 then 2 else 1)

/-- R680, R689: in the running image a service on time clears the bites in a row. -/
def serviceOnTime (s x : State) : State :=
  if s.nat 0x3800 1 = 5 then (countRestarted s x).putN 0x3100 0x11 0 else countRestarted s x

section
variable {s : State} {f e : Nat} (hs : s.canary.service = some (f, e))
include hs

/-- R680: an edge that takes a service: early it bites, otherwise the count restarts. -/
theorem takeService_eq : takeService s = if canaryCount s < s.nat 0x3100 2 ∧ canaryState s ≠ 0
    then canaryBite (serviceTaken s e) 2 else serviceOnTime s (serviceTaken s e) := by
  simp only [takeService, hs]
  rfl

end

theorem exec_canaryServiceTaken {s : State} (h : s.canary.edge = some .service) :
    exec .canaryServiceTaken s = .next (takeService s) :=
  when_true (by rw [h]; rfl) s _

section
variable (s x : State)

theorem serviceOnTime_obj {i j : Nat} (h : objKey i j ≠ objKey 0x3100 0x11) :
    (serviceOnTime s x).obj i j = (countRestarted s x).obj i j := by
  unfold serviceOnTime
  split
  · exact State.put_obj_other _ _ _ _ _ _ h
  · rfl

theorem serviceOnTime_count : canaryCount (serviceOnTime s x) = 0 := by
  have h : (serviceOnTime s x).obj 0x3100 0x0A = (x.putN 0x3100 0x0A 0).obj 0x3100 0x0A := by
    rw [serviceOnTime_obj s x (by decide)]
    simp [countRestarted, objKey]
  rw [canaryCount, State.nat_eq_of_obj h, State.putN_nat_self _ _ _ (by decide)]

theorem serviceOnTime_key : (serviceOnTime s x).obj 0x3100 0x0B = if s.obj 0x3100 0x0B = 0x5AA5 then 0xA55A else 0x5AA5 := by
  rw [serviceOnTime_obj s x (by decide)]
  simp [countRestarted, objKey]

theorem serviceOnTime_served (hx : x.nat 0x3100 0x0C = s.nat 0x3100 0x0C) :
    (serviceOnTime s x).nat 0x3100 0x0C = min (s.nat 0x3100 0x0C + 1) 4294967295 := by
  let y := (x.putN 0x3100 0x0A 0).put 0x3100 0x0B (if s.obj 0x3100 0x0B = 0x5AA5 then 0xA55A else 0x5AA5)
  have h : (serviceOnTime s x).obj 0x3100 0x0C = (y.bump 0x3100 0x0C 32).obj 0x3100 0x0C := by
    rw [serviceOnTime_obj s x (by decide), countRestarted, State.putN_obj, if_neg (by decide)]
  have hy : y.obj 0x3100 0x0C = x.obj 0x3100 0x0C := by simp [y, objKey]
  rw [State.nat_eq_of_obj h, State.bump_nat _ _ _ (le_refl 32), State.nat_eq_of_obj hy, hx]
  rfl

theorem serviceOnTime_state : canaryState (serviceOnTime s x) = if s.nat 0x3100 2 = 0 then 2 else 1 := by
  have h := serviceOnTime_obj s x (i := 0x3100) (j := 9) (by decide)
  rw [canaryState, State.nat_eq_of_obj h, countRestarted, State.putN_nat_self _ _ _ (by split <;> decide)]

theorem serviceOnTime_bites (hx : x.nat 0x3100 0x11 = s.nat 0x3100 0x11) :
    (serviceOnTime s x).nat 0x3100 0x11 = if s.nat 0x3800 1 = 5 then 0 else s.nat 0x3100 0x11 := by
  unfold serviceOnTime
  split
  · exact State.putN_nat_self _ _ _ (by decide)
  · have h : (countRestarted s x).obj 0x3100 0x11 = x.obj 0x3100 0x11 := by simp [countRestarted, objKey]
    rw [State.nat_eq_of_obj h, hx]

theorem serviceOnTime_canary : (serviceOnTime s x).canary = x.canary := by
  unfold serviceOnTime
  split <;> rfl

theorem serviceOnTime_keepsWords (hx : x.od = s.od) :
    s.keepsWords (serviceOnTime s x) [(0x3100, 0x0A), (0x3100, 0x0B), (0x3100, 0x0C), (0x3100, 9), (0x3100, 0x11)] := by
  have h : s.keepsWords (countRestarted s x) [(0x3100, 0x0A), (0x3100, 0x0B), (0x3100, 0x0C), (0x3100, 9), (0x3100, 0x11)] :=
    (((((State.keepsWords.refl s _).of_od hx).putN (by decide) (by decide) _).put (by decide) (by decide) _).bump
      (by decide) (by decide) _).putN (by decide) (by decide) _
  unfold serviceOnTime
  split
  · exact h.putN (by decide) (by decide) _
  · exact h

end

section
variable {s : State} (hb : s.canary.biting = none) (hp : canaryPaused s = false)
include hb hp

/-- R680: an edge takes a ready service, expires, warns, or counts. -/
theorem canaryEdge_counting : canaryEdge s =
    if serviceReady s then s.modCanary (fun c => { c with edge := some .service })
    else if canaryLimit s < canaryCount s + 1 then s.modCanary (fun c => { c with edge := some .expiry })
    else if warningNext s then s.modCanary (fun c => { c with edge := some .warning })
    else canaryStep s := by
  simp only [canaryEdge, hb, hp, Bool.false_eq_true, if_false]

end

/-! ### Check-ins and the lock -/

theorem exec_checkIn (w : Wr) (s : State) : exec (.checkIn w) s = .next (accessWrite s w false 0x3101 3 checkInEff) := rfl

theorem exec_canaryLock (w : Wr) (s : State) : exec (.canaryLock w) s = .next (accessWrite s w false 0x3100 7 lockEff) := rfl

section
variable {w : Wr} {s : State} (auth : Bool)

theorem checkInEff_noEngine (h : w.master = .can ∨ w.master = .twb ∨ w.master = .debug) :
    checkInEff w auth s = (.state, s.bump 0x3101 9 16) := by
  rcases h with h | h | h <;> simp only [checkInEff, h, rej, Bool.false_eq_true, if_false]

section
variable {e : Fin 16} {u : Bool} (hm : w.master = .engine e u)
include hm

/-- R684: a check-in of the engine's own task counts. -/
theorem checkInEff_own (h : (s.eng e).xttask.getLsbD 31 = true ∧ fieldN (s.eng e).xttask.toNat 0 6 = w.value.toNat) :
    checkInEff w auth s = (.accepted, s.modCanary (fun c => { c with
      checkIns := modAt c.checkIns w.value.toNat (fun n => satN 8 (n + 1)),
      recent := (s.t, w.value.toNat) :: c.recent.filter (fun p => p.1 == s.t) })) := by
  simp only [checkInEff, hm, h.1, h.2, beq_self_eq_true, Bool.and_self, if_true, acc]

/-- R684: any other check-in ends with 4h, counted. -/
theorem checkInEff_other (h : ¬((s.eng e).xttask.getLsbD 31 = true ∧ fieldN (s.eng e).xttask.toNat 0 6 = w.value.toNat)) :
    checkInEff w auth s = (.state, s.bump 0x3101 9 16) := by
  have hn : ((s.eng e).xttask.getLsbD 31 && fieldN (s.eng e).xttask.toNat 0 6 == w.value.toNat) = false := by
    simpa only [← Bool.not_eq_true, Bool.and_eq_true, beq_iff_eq] using h
  simp only [checkInEff, hm, hn, rej, Bool.false_eq_true, if_false]

end

/-- R688: the lock takes 1, and 0 while it is open. -/
theorem lockEff_taken (h : w.value ≠ 0 ∨ s.flag 0x3100 7 0 = false) :
    lockEff w auth s = (.accepted, s.put 0x3100 7 w.value) :=
  if_neg fun ⟨hv, hf⟩ => h.elim (· hv) (fun h0 => by simp [h0] at hf)

/-- R688: a closed lock stays. -/
theorem lockEff_holds (hv : w.value = 0) (hf : s.flag 0x3100 7 0 = true) : lockEff w auth s = (.state, s) :=
  if_pos ⟨hv, hf⟩

end

/-- Settles O55: claims and services by what the shared operations answer (`claimRead`, `ledgerJudge`, `takeService`), the
other rows under their conditions. -/
theorem interruptsLighthouseAndCanaryAct : Obligations.InterruptsLighthouseAndCanaryAct := by
  unfold Obligations.InterruptsLighthouseAndCanaryAct
  refine ⟨fun x rd s hp hoff => ?disabled, fun x rd s hp hon => ⟨fun n hc => ?claim, fun hc => ?spurious⟩,
    fun x w s hp => ⟨fun h => ?complete, fun h => ?notHeld⟩,
    fun w s => ⟨fun hp => congrArg _ (accessWrite_done (eff := softSetEff) hp rfl),
      fun hp => congrArg _ (accessWrite_done (eff := softClearEff) hp rfl)⟩,
    fun g n s h2 hg hn hl hlast he hm => ⟨fun h h1 => ?gathers, fun h h1 => ?opens, fun h hk => ?counts, fun h h0 hk => ?fills⟩,
    fun g s => exec_groupTimeLimit, fun s n l => exec_lighthouseFire,
    fun w s hp => ⟨fun e u hm hw hs => ⟨fun hk => ?bites, fun hk hv => ?second, fun x hk hv hj => ?passes,
        fun x hk hv hj => ⟨fun h => ?tells, fun h => ?refuses, fun h => ?bitesLedger⟩⟩,
      fun e u hm h => ?stray, fun h => ?noEngine⟩,
    fun s k => rfl,
    fun s => ⟨fun f e hedge hs => ⟨fun h0 hlt => ?early, fun h => ⟨serviceOnTime s (serviceTaken s e), ?onTime,
        serviceOnTime_count .., serviceOnTime_key .., serviceOnTime_served _ _ rfl, serviceOnTime_state ..,
        serviceOnTime_bites _ _ rfl, serviceOnTime_canary .., serviceOnTime_keepsWords _ _ rfl⟩⟩,
      fun h => when_true (by rw [h]; rfl) s _, fun h => when_true (by rw [h]; rfl) s _⟩,
    fun s hb hp => ⟨fun hr => ?service, fun hr hl => ?expiry, fun hr hl hw => ?warning, fun hr hl hw => ?step⟩,
    fun s h3 hb => when_true (by rw [h3, hb]; rfl) s _,
    fun w s hp h => ?checkNoEngine, fun w s hp e u hm => ⟨fun h => ?checkOwn, fun h => ?checkOther⟩,
    fun w s hp => ⟨fun h => ?lock, fun hv hf => ?locked⟩⟩
  case disabled => rw [exec_interruptClaim hp, claimRead_disabled hoff]
  case claim => rw [exec_interruptClaim hp, claimRead_candidate hon hc]
  case spurious => rw [exec_interruptClaim hp, claimRead_spurious hon hc]
  case complete => rw [exec_interruptComplete, accessWrite_done hp (completeEff_held _ h)]; rfl
  case notHeld => rw [exec_interruptComplete, accessWrite_state hp (completeEff_other _ h)]
  case gathers => rw [exec_groupGather_first h2 hg hn hl hlast he hm h, if_neg h1]; rfl
  case opens => rw [exec_groupGather_first h2 hg hn hl hlast he hm h, if_pos h1]; rfl
  case counts =>
    rw [exec_groupGather_further h2 hg hn hl hlast he hm h]
    exact congrArg _ (if_neg fun hc => hk.elim hc.1 (not_lt.mpr hc.2))
  case fills =>
    rw [exec_groupGather_further h2 hg hn hl hlast he hm h]
    exact congrArg _ (if_pos ⟨h0, hk⟩)
  case bites =>
    rw [exec_canaryService, accessWrite_done hp (canaryServiceEff_wrongKey _ ((typedWrite_master ..).trans hm) hw hs hk)]
  case second =>
    rw [exec_canaryService, accessWrite_state hp (canaryServiceEff_waiting _ ((typedWrite_master ..).trans hm) hw hs hk hv)]
  case passes =>
    rw [exec_canaryService,
      accessWrite_done hp (canaryServiceEff_judged _ ((typedWrite_master ..).trans hm) hw hs hk hv hj)]
  case tells =>
    have he := canaryServiceEff_judged false ((typedWrite_master ..).trans hm) hw hs hk hv hj
    rw [h] at he
    rw [exec_canaryService, accessWrite_done hp he]
  case refuses =>
    have he := canaryServiceEff_judged false ((typedWrite_master ..).trans hm) hw hs hk hv hj
    rw [h] at he
    rw [exec_canaryService, accessWrite_state hp he]
  case bitesLedger =>
    have he := canaryServiceEff_judged false ((typedWrite_master ..).trans hm) hw hs hk hv hj
    rw [h] at he
    rw [exec_canaryService, accessWrite_done hp he]
  case stray =>
    rw [exec_canaryService, accessWrite_state hp (canaryServiceEff_stray _ ((typedWrite_master ..).trans hm) h)]
    rfl
  case noEngine =>
    rw [exec_canaryService, accessWrite_state hp (canaryServiceEff_noEngine _ (by simpa using h))]
    rfl
  case early => rw [exec_canaryServiceTaken hedge, takeService_eq hs, if_pos ⟨hlt, h0⟩]; rfl
  case onTime =>
    rw [exec_canaryServiceTaken hedge, takeService_eq hs, if_neg fun hc => h.elim hc.2 (not_le.mpr hc.1)]
  case service => rw [canaryEdge_counting hb hp, if_pos hr]
  case expiry => rw [canaryEdge_counting hb hp, hr, if_pos hl]; rfl
  case warning => rw [canaryEdge_counting hb hp, hr, if_neg (not_lt.mpr hl), if_pos hw]; rfl
  case step => rw [canaryEdge_counting hb hp, hr, if_neg (not_lt.mpr hl), hw]; rfl
  case checkNoEngine => rw [exec_checkIn, accessWrite_state hp (checkInEff_noEngine _ (by simpa using h))]
  case checkOwn => rw [exec_checkIn, accessWrite_done hp (checkInEff_own _ ((typedWrite_master ..).trans hm) h)]; rfl
  case checkOther => rw [exec_checkIn, accessWrite_state hp (checkInEff_other _ ((typedWrite_master ..).trans hm) h)]
  case lock => rw [exec_canaryLock, accessWrite_done hp (lockEff_taken _ h)]; rfl
  case locked => rw [exec_canaryLock, accessWrite_state hp (lockEff_holds _ hv hf)]

end Sys2Proof.Machine
end

section
/-! PROOF. A read of the collector's log (R450, R453, R714). -/
namespace Sys2Proof.Machine

/-- R453, R714: the log's low word is half of a pair that a read clears. -/
theorem objRow_log : ∃ r, objRow 0x3203 1 = some r ∧ r.ty.isLow = true ∧ r.ty.isHigh = false ∧ r.acc = .rc :=
  ⟨_, rfl, rfl, rfl, rfl⟩

section
variable {rd : Rd} {s : State} (hb : Sparse.find (s.master rd.master).buffer (objKey 0x3203 1) = none)
include hb

/-- R450, R453, R714: a read that no buffered word answers shows the oldest entry, buffers its high word, and clears both
object words. -/
theorem readWord_log : ∃ f, readWord 0x3203 1 rd s =
    (lo32 (s.col.log.headD 0), ((s.modMaster rd.master f).put 0x3203 1 0).put 0x3203 2 0) := by
  obtain ⟨r, hr, hlow, hhigh, hacc⟩ := objRow_log
  exact ⟨_, by simp only [readWord, hr, hlow, Bool.true_or, if_true, hb, hacc, pairOther, hhigh]; rfl⟩

theorem readWord_log_clears : (readWord 0x3203 1 rd s).2.obj 0x3203 1 = 0 := by
  obtain ⟨f, hf⟩ := readWord_log hb
  rw [hf, State.put_obj, if_neg (by decide), State.put_obj, if_pos rfl]

/-- The words outside the pair stay. -/
theorem readWord_log_keepsWords : s.keepsWords (readWord 0x3203 1 rd s).2 [(0x3203, 1), (0x3203, 2)] := by
  obtain ⟨f, hf⟩ := readWord_log hb
  rw [hf]
  exact (((State.keepsWords.refl s _).of_od rfl).put (by decide) (by decide) _).put (by decide) (by decide) _

end

/-! ### The state that refutes the statement -/

/-- Reset, but with 1 stored in 3203h:01h. The word reads live from the log (R714), so no read tells, but the statement does
not exclude it. -/
def State.logWordStored : State := State.reset.put 0x3203 1 1

/-- A read by E0 in machine mode. -/
def logReader : Rd := { master := .engine 0 false, len := 4 }

theorem logReader_passes : readPasses State.logWordStored logReader 0x3203 1 := by
  unfold readPasses
  decide +kernel

theorem logReader_unbuffered :
    Sparse.find (State.logWordStored.master logReader.master).buffer (objKey 0x3203 1) = none := by
  decide +kernel

/-- Refutes O56: 3203h:01h is of access RC, so a read of the log clears the two words stored under the pair
(`readWord_log_clears`), while the statement has LOG_POP keep every object word; it fails where 3203h:01h holds 1. Every
word outside the pair is kept (`readWord_log_keepsWords`). -/
theorem not_collectorReportsLogsAndHarbours : ¬ Obligations.CollectorReportsLogsAndHarbours := by
  unfold Obligations.CollectorReportsLogsAndHarbours
  rintro ⟨-, -, -, -, -, -, -, -, -, -, -, hlog, -⟩
  obtain ⟨hpop, -⟩ := hlog logReader State.logWordStored logReader_passes
  obtain ⟨-, -, hkeeps⟩ := hpop logReader_unbuffered
  have hword := hkeeps 0x3203 1 (by decide) List.not_mem_nil
  rw [readWord_log_clears logReader_unbuffered, State.logWordStored, State.put_obj, if_pos rfl] at hword
  exact absurd hword (by decide)

end Sys2Proof.Machine
end

section
/-! PROOF. The real-time clock and the Bedrock supply (R716 to R733). -/
namespace Sys2Proof.Machine

/-! ### A pair -/

@[simp] theorem dw_lo32_hi32 (v : DWord) : dw (lo32 v) (hi32 v) = v := by
  ext b hb
  refine (BitVec.getLsbD_append ..).trans ?_
  by_cases h : b < 32
  · simp [lo32, h, BitVec.getLsbD_eq_getElem hb]
  · rw [if_neg h, hi32, BitVec.getLsbD_setWidth, decide_eq_true (by omega), Bool.true_and,
      BitVec.getLsbD_ushiftRight, show 32 + (b - 32) = b by omega, BitVec.getLsbD_eq_getElem hb]

/-- A pair that is written reads as the value. -/
theorem State.putPair_pair (s : State) (i j : Nat) (v : DWord) : (s.putPair i j v).pair i j = v := by
  have hne : objKey i j ≠ objKey i (j + 1) := by
    unfold objKey
    omega
  rw [State.pair, State.putPair, State.put_obj, if_neg hne, State.put_obj, if_pos rfl, State.put_obj, if_pos rfl,
    dw_lo32_hi32]

/-! ### The timebase -/

/-- R717: the crystal is chosen at once, the RC after 500 ms. -/
theorem exec_timebaseSelect {c : Bool} {s : State} (hn : s.rtc.chosen = false) (h : c = true ∨ s.rtc.chooseAt ≤ s.real) :
    exec (.timebaseSelect c) s = .next ((s.putN 0x3300 0x10 (if c then 0 else 1)).modRtc
      (fun r => { r with chosen := true, lastEdge := s.real })) :=
  when_true (by simpa [hn] using h) s _

theorem timebaseRuns_iff (s : State) :
    timebaseRuns s = true ↔ s.rtc.chosen = true ∧ (s.nat 0x3300 0x10 ≠ 1 ∨ s.rtc.away = false) := by
  simp [timebaseRuns]

section
variable {s : State}

/-- R717: the crystal takes one step an edge. -/
theorem edgeSteps_crystal (ht : s.rtc.trim = 0) (hb : s.nat 0x3300 0x10 = 0) : edgeSteps s = 1 := by
  simp [edgeSteps, ht, hb]

/-- R717: of the RC's 125 periods the 42nd, 84th and 125th take two steps. -/
theorem edgeSteps_rc (ht : s.rtc.trim = 0) (hb : s.nat 0x3300 0x10 = 1) : edgeSteps s =
    if s.rtc.period = 41 ∨ s.rtc.period = 83 ∨ s.rtc.period = 124 then 2 else 1 := by
  simp [edgeSteps, ht, hb]

/-- R718: a trim that runs adds or omits a step. -/
theorem edgeSteps_longer (ht : 0 < s.rtc.trim) (hb : s.nat 0x3300 0x10 = 0) : edgeSteps s = 2 := by
  simp [edgeSteps, ht, hb]

theorem edgeSteps_shorter (ht : s.rtc.trim < 0) (hb : s.nat 0x3300 0x10 = 0) : edgeSteps s = 0 := by
  simp [edgeSteps, ht, hb, not_lt.mpr ht.le]

end

/-! ### A count step -/

section
variable (s : State) {sec f : Nat}

theorem putTime_fraction (hf : f ≤ 32767) : rtcFraction (putTime s sec f) = f := by
  rw [rtcFraction, putTime, State.putN_nat_self _ _ _ (by omega)]
  omega

theorem putTime_seconds (f : Nat) (hs : sec ≤ maxSeconds) : rtcSeconds (putTime s sec f) = sec := by
  have hsec : sec < 2 ^ 64 := lt_of_le_of_lt hs (by decide)
  have hpair : (putTime s sec f).pair 0x3300 1 = (s.putPair 0x3300 1 (BitVec.ofNat 64 sec)).pair 0x3300 1 := by
    rw [State.pair, State.pair, putTime, State.putN_obj, if_neg (by decide), State.putN_obj, if_neg (by decide)]
  rw [rtcSeconds, hpair, State.putPair_pair, BitVec.toNat_ofNat, Nat.mod_eq_of_lt hsec]

theorem putTime_keepsWords {t : State} (h : s.keepsWords t [(0x3300, 1), (0x3300, 2), (0x3300, 3)]) (sec f : Nat) :
    s.keepsWords (putTime t sec f) [(0x3300, 1), (0x3300, 2), (0x3300, 3)] :=
  ((h.put (by decide) (by decide) _).put (by decide) (by decide) _).putN (by decide) (by decide) _

end

section
variable {s : State}

/-- R716: a step within a second adds one to F. -/
theorem countStep_within (hf : rtcFraction s < 32767) : countStep s =
    putTime (s.modRtc (fun r => { r with steps := r.steps + 1 })) (rtcSeconds s) (rtcFraction s + 1) :=
  if_pos hf

/-- R716: the last step of a second begins the next. -/
theorem countStep_second (hf : rtcFraction s = 32767) (hs : rtcSeconds s < maxSeconds) : countStep s =
    putTime (s.modRtc (fun r => { r with steps := r.steps + 1 })) (rtcSeconds s + 1) 0 := by
  rw [countStep, if_neg (by omega), if_neg hs.ne]

/-- R730: at the largest time the count stays. -/
theorem countStep_last (hf : rtcFraction s = 32767) (hs : rtcSeconds s = maxSeconds) :
    countStep s = s.modRtc (fun r => { r with steps := r.steps + 1 }) := by
  rw [countStep, if_neg (by omega), if_pos hs]

theorem countStep_rtc (s : State) : (countStep s).rtc = { s.rtc with steps := s.rtc.steps + 1 } := by
  unfold countStep
  split
  · rfl
  · split <;> rfl

theorem countStep_keepsWords (s : State) : s.keepsWords (countStep s) [(0x3300, 1), (0x3300, 2), (0x3300, 3)] := by
  have h : s.keepsWords (s.modRtc (fun r => { r with steps := r.steps + 1 })) [(0x3300, 1), (0x3300, 2), (0x3300, 3)] :=
    (State.keepsWords.refl s _).of_od rfl
  unfold countStep
  split
  · exact putTime_keepsWords s h _ _
  · split
    · exact h
    · exact putTime_keepsWords s h _ _

end

/-! ### Detector and trim -/

/-- R718: after 2^20 steps the trim is taken. -/
theorem exec_trimApply {s : State} (h : 2 ^ 20 ≤ s.rtc.steps) : exec .trimApply s =
    .next (s.modRtc (fun r => { r with steps := s.rtc.steps - 2 ^ 20, trim := s.int 0x3300 0x0F })) := by
  change execTrimApply s = _
  simp only [execTrimApply, decide_eq_true h, when_true, State.modRtc]

section
variable {s : State} (hc : s.rtc.chosen = true) (ht : s.rtc.lastEdge + 400 * 500 ≤ s.real)
include hc ht

/-- R721: half a millisecond without an edge sets the flag, counted and reported. -/
theorem exec_oscillatorStopped_sets (hf : s.flag 0x3300 0x12 0 = false) :
    exec .oscillatorStopped s = .next ((oscillatorStops s).modRtc (fun r => { r with still := true })) := by
  refine (when_true (by simp [hc, hf, realUs, ht]) s _).trans ?_
  rw [hf]
  rfl

/-- R721: with the flag set already the stop is only noted. -/
theorem exec_oscillatorStopped_set (hf : s.flag 0x3300 0x12 0 = true) (hs : s.rtc.still = false) :
    exec .oscillatorStopped s = .next (s.modRtc (fun r => { r with still := true })) := by
  refine (when_true (by simp [hc, hs, realUs, ht]) s _).trans ?_
  rw [hf]
  rfl

end

/-! ### Setting -/

theorem exec_secondsSet (w : Wr) (s : State) :
    exec (.secondsSet w) s = .next (accessWrite s w false 0x3300 5 secondsSetEff) := rfl

theorem exec_calendarSet (w : Wr) (s : State) :
    exec (.calendarSet w) s = .next (accessWrite s w false 0x3300 0x0A timeSetEff) := rfl

section
variable {w : Wr} {s : State} (auth : Bool)

/-- R725: the commit of a seconds set with its low word staged goes to the holding latch. -/
theorem secondsSetEff_staged {n : Nat} {lo : Word} (h : (s.master w.master).staged = some (n, lo)) :
    secondsSetEff w auth s = (.accepted, (s.modMaster w.master (fun x => { x with staged := none })).modRtc
      (fun r => { r with latch := some ((dw lo w.value).toNat, s.nat 0x3300 6 / 2) })) := by
  simp only [secondsSetEff, commitPair, h]
  rfl

/-- R725, R727: a calendar value that passes the checks goes to the holding latch. -/
theorem timeSetEff_valid (h : calendarCheck (s.nat 0x3300 9) w.value.toNat = 0) : timeSetEff w auth s =
    (.accepted, ((s.put 0x3300 0x0A w.value).putN 0x3300 0x0B 0).modRtc (fun r => { r with
      latch := some (calendarSeconds (s.nat 0x3300 9) w.value.toNat, s.nat 0x3300 6 / 2) })) := by
  simp only [timeSetEff, h]
  rfl

/-- R727: one that fails ends with 3h and its code. -/
theorem timeSetEff_invalid (h : calendarCheck (s.nat 0x3300 9) w.value.toNat ≠ 0) : timeSetEff w auth s =
    (.range, (s.putN 0x3300 0x0B (calendarCheck (s.nat 0x3300 9) w.value.toNat)).setBits 0x3300 0x12 16) := by
  simp only [timeSetEff, rej]

end

/-- R727: the fields of a date word and a time word, in the order of the conditions. -/
theorem calendarCheck_fields {y m d H M S : Nat} (hy : y < 65536) (hm : m < 256) (hd : d < 256) (hH : H < 32) (hM : M < 64)
    (hS : S < 64) : calendarCheck (y * 65536 + m * 256 + d) (H * 65536 + M * 256 + S) =
      if y < 2000 ∨ 9999 < y then 1 else if m < 1 ∨ 12 < m then 2 else if d < 1 ∨ monthDays y m < d then 3
      else if 23 < H ∨ 59 < M ∨ 59 < S then 4 else 0 := by
  have hyear : fieldN (y * 65536 + m * 256 + d) 16 16 = y := by simp only [fieldN]; omega
  have hmonth : fieldN (y * 65536 + m * 256 + d) 8 8 = m := by simp only [fieldN]; omega
  have hday : fieldN (y * 65536 + m * 256 + d) 0 8 = d := by simp only [fieldN]; omega
  have hhour : fieldN (H * 65536 + M * 256 + S) 16 5 = H := by simp only [fieldN]; omega
  have hminute : fieldN (H * 65536 + M * 256 + S) 8 6 = M := by simp only [fieldN]; omega
  have hsecond : fieldN (H * 65536 + M * 256 + S) 0 6 = S := by simp only [fieldN]; omega
  simp only [calendarCheck, hyear, hmonth, hday, hhour, hminute, hsecond]

/-- R725, R726: the edge that applies the set. -/
theorem exec_setApplied {s : State} {n f : Nat} (hl : s.rtc.latch = some (n, f)) (hr : timebaseRuns s = true) :
    exec .setApplied s = .next (clearRings (edgeSeen (((putTime s n f).clrBits 0x3300 0x12 1).modRtc
      (fun r => { r with latch := none }))) (fun _ => true)) := by
  change execSetApplied s = _
  rw [execSetApplied]
  simp only [hl]
  exact when_true hr s _

/-- Settles O57: the timebase by `edgeSteps`, the count by the three cases of `countStep`, the sets by the effects of their
writes. -/
theorem realTimeClockCountsSetsAndAlarms : Obligations.RealTimeClockCountsSetsAndAlarms := by
  unfold Obligations.RealTimeClockCountsSetsAndAlarms
  refine ⟨fun c s => exec_timebaseSelect, timebaseRuns_iff,
    fun s hr hl => ⟨when_true (by rw [hr, hl]; rfl) s _, edgeSteps_crystal, edgeSteps_rc, edgeSteps_longer, edgeSteps_shorter⟩,
    fun s hs hf => ⟨countStep_rtc s, fun hlt => ⟨?fraction, ?sameSecond⟩, fun heq hlt => ⟨?zero, ?nextSecond⟩,
      fun heq hmax => ?still, countStep_keepsWords s⟩,
    fun s => ⟨rfl, rfl⟩, fun s => exec_trimApply,
    fun s hc ht => ⟨exec_oscillatorStopped_sets hc ht, exec_oscillatorStopped_set hc ht⟩,
    fun w s lo hp hstaged => ?seconds, fun w s hp => ⟨fun h => ?valid, fun h => ⟨rangeResp 0x3300 0x0A w .range, rangeResp_result .., ?invalid⟩⟩,
    fun y m d H M S => calendarCheck_fields, by decide +kernel, fun s n f => exec_setApplied,
    fun s h => when_true h s _,
    fun s => ⟨fun h => ?toVbak, fun h => ?toAon, fun risen h => when_true (by simpa using h) s _⟩⟩
  case fraction => rw [countStep_within hlt, putTime_fraction _ (by omega)]
  case sameSecond => rw [countStep_within hlt, putTime_seconds _ _ hs]
  case zero => rw [countStep_second heq hlt, putTime_fraction _ (by omega)]
  case nextSecond => rw [countStep_second heq hlt, putTime_seconds _ _ hlt]
  case still => rw [countStep_last heq hmax]; rfl
  case seconds =>
    have hstaged' : (s.master (typedWrite w 0x3300 5).master).staged = some (objKey 0x3300 4, lo) := by
      rw [typedWrite_master, hstaged]
    rw [exec_secondsSet, accessWrite_done hp (secondsSetEff_staged _ hstaged'), typedWrite_master, typedWrite_value]
  case valid => rw [exec_calendarSet, accessWrite_done hp (timeSetEff_valid _ h)]; rfl
  case invalid =>
    rw [exec_calendarSet, accessWrite_accepted s w false _ _ _ hp.1 hp.2, timeSetEff_invalid _ h]
    rfl
  case toVbak => exact when_true (by rw [h]; rfl) s _
  case toAon => exact when_true (by rw [h]; rfl) s _

end Sys2Proof.Machine
end

section
/-! PROOF. OTP commands and the journal's records (R743 to R763, R830). -/
namespace Sys2Proof.Machine

/-! ### The start of an OTP command -/

/-- R746: the command of code `code` as it begins. -/
def otpBegun (s : State) (code : Nat) : State :=
  ((s.modNv (fun x => { x with
    command := some { code, region := s.nat 0x3401 1, bit := s.nat 0x3401 2, start := s.t, pump := s.flag 0x3401 3 0 },
    vauxFell := false })).putN 0x3401 5 0xFF).bump 0x3400 5 16

section
variable {w : Wr} {s : State} (auth : Bool)

theorem otpCommandEff_begins (hc : s.nv.command = none) (hw : s.sup.warn = false) :
    otpCommandEff w auth s = (.accepted, otpBegun s w.value.toNat) := by
  have hn : ¬(s.nv.command.isSome = true ∨ s.sup.warn = true) := by simp [hc, hw]
  simp only [otpCommandEff, if_neg hn, acc, otpBegun]

/-- R746, R747: a command during another, or with VAUX below its warning, ends with 4h. -/
theorem otpCommandEff_refused (h : s.nv.command ≠ none ∨ s.sup.warn = true) : otpCommandEff w auth s = (.state, s) := by
  rw [← Option.isSome_iff_ne_none] at h
  simp only [otpCommandEff, if_pos h, rej]

end

/-- R746: the five commands are one write. -/
theorem exec_otpCommands (w : Wr) (s : State) :
    let t := Host.Outcome.next (accessWrite s w false 0x3401 4 otpCommandEff)
    exec (.otpProgramBit w) s = t ∧ exec (.blowWriteLock w) s = t ∧ exec (.blowReadLock w) s = t ∧
      exec (.blowDebugFuse w) s = t ∧ exec (.otpRecheck w) s = t :=
  ⟨rfl, rfl, rfl, rfl, rfl⟩

/-! ### Its end -/

section
variable {s : State} {r : OtpRun} {c : OtpCommand}

/-- R747, R830: a command that has had its least time ends by its code. -/
theorem exec_otpCommandEnd (hc : s.nv.command = some c) (hp : s.passed c.start (200 * otpLeast s c r) = true) :
    exec (.otpCommandEnd r) s = .next (match c.code with
      | 1 => endProgramBit s c r
      | 2 => endBlowFuse s c.region c r
      | 3 => endBlowFuse s (16 + c.region) c r
      | 4 => endBlowFuse s 32 c r
      | _ => if otpWarm r then recheckRegion (otpEnd s 0) c.region else otpEnd s 2) := by
  change execOtpCommandEnd r s = _
  rw [execOtpCommandEnd]
  simp only [hc]
  exact when_true hp s _

theorem otpWarm_iff (r : OtpRun) : otpWarm r = true ↔ 0 ≤ r.tj ∧ r.tj ≤ 85000 := by
  simp only [otpWarm, Bool.and_eq_true, decide_eq_true_eq]

/-- R747: a supply that held allows the pulses. -/
theorem otpSupplied_settled (h : otpSupplied c r = true) : (c.pump && !r.settled) = false := by
  cases hp : c.pump with
  | false => rfl
  | true => simpa [otpSupplied, hp] using h

section
variable (hlo : 512 ≤ c.bit) (hhi : c.bit < 992)
include hlo hhi

/-- R745: a write-locked bit ends with 1h. -/
theorem endProgramBit_locked (hw : otpWarm r = true) (hl : writeLocked s c.region c.bit = true) :
    endProgramBit s c r = otpEnd s 1 := by
  simp only [endProgramBit, if_pos (And.intro hw hl), if_neg (show ¬(c.bit < 512 ∨ 992 ≤ c.bit) by omega)]

section
variable (hl : writeLocked s c.region c.bit = false) (hv : s.nv.vauxFell = false) (hw : otpWarm r = true)
  (hs : otpSupplied c r = true) (hb : 1024 * c.region + c.bit ∉ s.nv.otp)
include hw hs hb

omit hlo hhi in
/-- R747: the one pulse of a bit that does not read programmed. -/
theorem otpPulses_bit : otpPulses c r s.nv.otp [1024 * c.region + c.bit] =
    if r.took.getLsbD 0 then [1024 * c.region + c.bit] else [] := by
  have hn : ¬(otpWarm r = false ∨ (c.pump && !r.settled) = true) := by simp [hw, otpSupplied_settled hs]
  rw [otpPulses, if_neg hn]
  simp only [List.length_singleton, List.range_one, List.map_cons, List.map_nil, List.getD_cons_zero, pulses,
    if_neg (mt List.contains_iff_mem.mp hb)]

include hl hv

/-- R745, R747: a bit that takes is programmed and counted, and the command ends with 0h. -/
theorem endProgramBit_took (ht : r.took.getLsbD 0 = true) : endProgramBit s c r =
    otpEnd ((s.modNv (fun x => { x with otp := s.nv.otp ++ [1024 * c.region + c.bit] })).add 0x3400 6 16 1) 0 := by
  simp only [endProgramBit, hl, hw, otpPulses_bit hw hs hb, ht, programCode, hv, hs, State.modNv,
    if_neg (show ¬(c.bit < 512 ∨ 992 ≤ c.bit) by omega)]
  simp

/-- R747: one that does not take ends with 3h. -/
theorem endProgramBit_failed (ht : r.took.getLsbD 0 = false) : endProgramBit s c r = otpEnd (s.add 0x3400 6 16 0) 3 := by
  have hsame : s.modNv (fun x => { x with otp := x.otp ++ [] }) = s := by simp only [State.modNv, List.append_nil]
  simp only [endProgramBit, hl, hw, otpPulses_bit hw hs hb, ht, Bool.false_eq_true, and_false, if_false, hsame, programCode,
    hv, hs, if_neg (show ¬(c.bit < 512 ∨ 992 ≤ c.bit) by omega), List.length_nil]
  simp [hb]

end

end

end

/-- R743: a fuse reads blown with one of its three bits programmed. -/
theorem fuseBlown_of_bit {s : State} {f m : Nat} (hm : m < 3) (h : 3 * f + m ∈ s.nv.fuses) : fuseBlown s f = true :=
  List.any_eq_true.mpr ⟨m, List.mem_range.mpr hm, List.contains_iff_mem.mpr h⟩

/-- R745: the write-lock spares bits 516 to 519 of region 2. -/
theorem writeLocked_iff (s : State) (n b : Nat) :
    writeLocked s n b = true ↔ s.flag 0x3400 2 n = true ∧ ¬(n = 2 ∧ 516 ≤ b ∧ b ≤ 519) := by
  simp only [writeLocked, Bool.and_eq_true, Bool.not_eq_true', ← Bool.not_eq_true, beq_iff_eq, decide_eq_true_eq, and_assoc]

/-! ### Writes of records -/

/-- R751, R753: the lowest pending record is written. -/
theorem exec_journalRecordWrite {s : State} {r : Nat} (hr : nextRecord s = some r) (h2 : s.on 2 = true)
    (hj : journalRuns s = true) (hl : s.startup.journalLoaded = true) (hw : s.nv.writing = none) :
    exec .journalRecordWrite s =
      .next ((writeSlot (readSlots (setPending s r false) r) r).modNv (fun x => { x with writing := some (r, false) })) := by
  change execJournalRecordWrite s = _
  rw [execJournalRecordWrite]
  simp only [hr]
  exact when_true (by rw [h2, hj, hl, hw]; rfl) s _

/-- R751: the slot with COMMIT written, and with a word that reads back other than written. -/
def slotWritten (s : State) (r : Nat) (bad : Option (Fin 256 × BitVec 32)) : State :=
  let x := memStore s (targetPlace s r + 12) (~~~ s.memWord (targetPlace s r + 8))
  match bad with
  | some (k, v) =>
    if 4 * k.val < (slotPlace s r ((newerSlot s r).elim false not)).2 then memStore x (targetPlace s r + 4 * k.val) v else x
  | none => x

/-- R751: the journal at rest. -/
def journalIdle (s : State) : State := s.modNv (fun n => { n with writing := none, stopping := false })

/-- R751: a write that reads back complete is done; a first failure writes the same target again, a second is a failure. -/
theorem exec_journalWriteDone {s : State} {r : Nat} {again : Bool} (hw : s.nv.writing = some (r, again))
    (bad : Option (Fin 256 × BitVec 32)) : exec (.journalWriteDone bad) s =
      let y := slotWritten s r bad
      if slotComplete y r ((newerSlot s r).elim false not) then .next (journalIdle (recordDone (readSlots y r) r))
      else if again then .next (journalIdle (recordFailed (readSlots y r) r))
      else .next ((writeSlot (memStore (readSlots y r) (targetPlace s r + 12) 0) r).modNv
        (fun n => { n with writing := some (r, true) })) := by
  change execJournalWriteDone bad s = _
  rw [execJournalWriteDone]
  simp only [hw]
  cases hn : newerSlot s r <;>
    · simp only [slotWritten, hn, Option.elim]
      rfl

section
variable {s : State} (h2 : s.on 2 = true) (ht : (s.nv.hour + 1) * 720000000000 ≤ s.t)
include h2 ht

/-- R755: an hour ages record 0 and requests it, and at the refresh age every record. -/
theorem exec_journalRefreshHour : exec .journalRefreshHour s =
    let x := requestRecord ((s.modNv (fun n => { n with hour := s.t / 720000000000 })).bump 0x3440 4 32) 0
    .next (if s.nat 0x3440 3 ≤ x.nat 0x3440 4 then (refreshAll x).putN 0x3440 4 0 else x) := by
  change execJournalRefreshHour s = _
  rw [execJournalRefreshHour]
  exact when_true (by rw [h2, decide_eq_true ht]; rfl) s _

end

/-! ### Requests, the enable and layouts -/

theorem exec_journalEnable (w : Wr) (s : State) :
    exec (.journalEnable w) s = .next (accessWrite s w false 0x3440 1 journalEnableEff) := rfl

theorem exec_recordLayoutWrite (r : Fin 64) (w : Wr) (s : State) :
    exec (.recordLayoutWrite r w) s = .next (accessWrite s w false 0x3450 (1 + r.val) (layoutEff r)) := rfl

theorem exec_firmwareRecordCommand (w : Wr) (s : State) :
    exec (.firmwareRecordCommand w) s = .next (accessWrite s w false 0x3441 4 firmwareRecordEff) := rfl

/-- R754: what keeps record r from a layout word v: its request or write, a place outside the firmware's blocks, or another
record's. -/
def layoutTaken (s : State) (r v : Nat) : Prop :=
  recPending s r = true ∨ s.nv.writing.map (·.1) = some r ∨ fieldN v 16 10 < 64 ∨
    1024 < fieldN v 16 10 + 2 * fieldN v 0 10 ∨
    ∃ q, 8 ≤ q ∧ q < 64 ∧ q ≠ r ∧ fieldN (s.nat 0x3450 (1 + q)) 0 10 ≠ 0 ∧ fieldN v 0 10 ≠ 0 ∧
      fieldN v 16 10 < fieldN (s.nat 0x3450 (1 + q)) 16 10 + 2 * fieldN (s.nat 0x3450 (1 + q)) 0 10 ∧
      fieldN (s.nat 0x3450 (1 + q)) 16 10 < fieldN v 16 10 + 2 * fieldN v 0 10

section
variable {w : Wr} {s : State} (auth : Bool)

/-- R42, R758: a disable abandons every request, and lets a slot write in progress complete. -/
theorem journalEnableEff_off (hv : w.value = 0) : journalEnableEff w auth s = (.accepted,
    (List.range 64).foldl abandonRecord ((s.put 0x3440 1 0).modNv
      (fun x => { x with stopping := x.stopping || x.writing.isSome }))) := by
  simp [journalEnableEff, hv, acc]

theorem journalEnableEff_on (hv : w.value ≠ 0) : journalEnableEff w auth s = (.accepted, s.put 0x3440 1 w.value) := by
  have hb : (w.value == 0) = false := beq_eq_false_iff_ne.mpr hv
  simp only [journalEnableEff, hb, if_neg hv, acc, Bool.false_and, Bool.or_false, State.modNv]

variable {r : Nat}

theorem layoutEff_eq : layoutEff r w auth s = if (recPending s r || s.nv.writing.map (·.1) == some r) = true ∨
      fieldN w.value.toNat 16 10 < 64 ∨ 1024 < fieldN w.value.toNat 16 10 + 2 * fieldN w.value.toNat 0 10 ∨
      ((List.range 64).any (fun q => decide (8 ≤ q) && q != r && fieldN (s.nat 0x3450 (1 + q)) 0 10 != 0 &&
        fieldN w.value.toNat 0 10 != 0 && blocksMeet (fieldN w.value.toNat 16 10) (2 * fieldN w.value.toNat 0 10)
          (fieldN (s.nat 0x3450 (1 + q)) 16 10) (2 * fieldN (s.nat 0x3450 (1 + q)) 0 10))) = true
    then (.state, s)
    else (.accepted, (s.store 0x3450 (1 + r) w.value).modNv
      (fun x => { x with judging := r :: x.judging.filter (· != r) })) := rfl

/-- R754: the refusal's conditions. -/
theorem layoutEff_taken_iff (v : Nat) : ((recPending s r || s.nv.writing.map (·.1) == some r) = true ∨
      fieldN v 16 10 < 64 ∨ 1024 < fieldN v 16 10 + 2 * fieldN v 0 10 ∨
      ((List.range 64).any (fun q => decide (8 ≤ q) && q != r && fieldN (s.nat 0x3450 (1 + q)) 0 10 != 0 &&
        fieldN v 0 10 != 0 && blocksMeet (fieldN v 16 10) (2 * fieldN v 0 10)
          (fieldN (s.nat 0x3450 (1 + q)) 16 10) (2 * fieldN (s.nat 0x3450 (1 + q)) 0 10))) = true) ↔ layoutTaken s r v := by
  simp only [layoutTaken, blocksMeet, Bool.or_eq_true, beq_iff_eq, List.any_eq_true, List.mem_range, Bool.and_eq_true,
    decide_eq_true_eq, bne_iff_ne, ne_eq, or_assoc]
  refine or_congr_right (or_congr_right (or_congr_right (or_congr_right (exists_congr fun q => ?_))))
  omega

/-- R754: a layout of a free place is taken, and judged. -/
theorem layoutEff_free (h : ¬layoutTaken s r w.value.toNat) : layoutEff r w auth s = (.accepted,
    (s.store 0x3450 (1 + r) w.value).modNv (fun x => { x with judging := r :: x.judging.filter (· != r) })) := by
  rw [layoutEff_eq, if_neg (mt (layoutEff_taken_iff _).mp h)]

theorem layoutEff_refused (h : layoutTaken s r w.value.toNat) : layoutEff r w auth s = (.state, s) := by
  rw [layoutEff_eq, if_pos ((layoutEff_taken_iff _).mpr h)]

/-- R763: a record that has a layout with room is requested. -/
theorem firmwareRecordEff_fits (hp : (slotPlace s (s.nat 0x3441 1) false).2 ≠ 0)
    (hr : s.nat 0x3441 3 ≤ recordRoom s (s.nat 0x3441 1)) : firmwareRecordEff w auth s =
      (.accepted, requestRecord (s.putN 0x3441 5 1) (s.nat 0x3441 1)) := by
  simp only [firmwareRecordEff, if_neg (not_or.mpr ⟨hp, not_lt.mpr hr⟩), acc]

theorem firmwareRecordEff_refused
    (h : (slotPlace s (s.nat 0x3441 1) false).2 = 0 ∨ recordRoom s (s.nat 0x3441 1) < s.nat 0x3441 3) :
    firmwareRecordEff w auth s = (.state, s) := by
  simp only [firmwareRecordEff, if_pos h, rej]

end

/-- Settles O58: the five commands as one write and their end by its code; the journal's rows by what it reads back, and its
writes by their effects. -/
theorem fusesAreProgrammedAndRecordsWritten : Obligations.FusesAreProgrammedAndRecordsWritten := by
  unfold Obligations.FusesAreProgrammedAndRecordsWritten
  refine ⟨fun w s hp => ⟨fun hc hw => ?begins, fun h => ?refused⟩,
    fun s r c hc hp => ⟨fun h => ?program, fun h => ?writeLock, fun h => ?readLock, fun h => ?debugFuse,
      fun h hw => ?recheck, fun h hw => ?cold, fun hlo hhi => ⟨endProgramBit_locked hlo hhi,
        fun hl hv hw hs hb => ⟨endProgramBit_took hlo hhi hl hv hw hs hb, endProgramBit_failed hlo hhi hl hv hw hs hb⟩⟩⟩,
    fun s code => rfl, otpWarm_iff, fun s f m => fuseBlown_of_bit, writeLocked_iff,
    fun s r => exec_journalRecordWrite,
    fun s r again hw => fun bad => ⟨fun h => ?done, fun h hg => ?failed, fun h hg => ?again⟩,
    fun s h2 ht => ⟨fun h => ?ages, fun h => ?refreshes⟩,
    fun w s hp => ⟨fun hv => ?off, fun hv => ?on⟩,
    fun s r => ⟨fun h => if_neg (by simp [h]), fun h => if_pos h, fun h => if_neg (by simp [h])⟩,
    fun r w s hp => ⟨fun h => ?layout, fun h => ?noLayout⟩,
    fun r s h => when_true (List.contains_iff_mem.mpr h) s _,
    fun w s hp => ⟨fun h0 hr => ?record, fun h => ?noRecord⟩⟩
  case begins =>
    have he := accessWrite_done hp (otpCommandEff_begins false hc hw)
    obtain ⟨h1, h2, h3, h4, h5⟩ := exec_otpCommands w s
    rw [h1, h2, h3, h4, h5, he]
    exact ⟨rfl, rfl, rfl, rfl, rfl⟩
  case refused =>
    have he := accessWrite_state hp (otpCommandEff_refused false h)
    obtain ⟨h1, h2, h3, h4, h5⟩ := exec_otpCommands w s
    rw [h1, h2, h3, h4, h5, he]
    exact ⟨rfl, rfl, rfl, rfl, rfl⟩
  case program => simp only [exec_otpCommandEnd hc hp, h]
  case writeLock => simp only [exec_otpCommandEnd hc hp, h]
  case readLock => simp only [exec_otpCommandEnd hc hp, h]
  case debugFuse => simp only [exec_otpCommandEnd hc hp, h]
  case recheck => simp only [exec_otpCommandEnd hc hp, h, hw, if_true]
  case cold => simp only [exec_otpCommandEnd hc hp, h, hw, Bool.false_eq_true, if_false]
  case done => rw [exec_journalWriteDone hw]; exact if_pos h
  case failed =>
    rw [exec_journalWriteDone hw]
    exact (if_neg (ne_true_of_eq_false h)).trans (if_pos hg)
  case again =>
    rw [exec_journalWriteDone hw]
    exact (if_neg (ne_true_of_eq_false h)).trans (if_neg (ne_true_of_eq_false hg))
  case ages => rw [exec_journalRefreshHour h2 ht]; exact congrArg _ (if_neg (not_le.mpr h))
  case refreshes => rw [exec_journalRefreshHour h2 ht]; exact congrArg _ (if_pos h)
  case off => rw [exec_journalEnable, accessWrite_done hp (journalEnableEff_off _ hv)]
  case on => rw [exec_journalEnable, accessWrite_done hp (journalEnableEff_on _ hv)]; rfl
  case layout => rw [exec_recordLayoutWrite, accessWrite_done hp (layoutEff_free _ h)]; rfl
  case noLayout => rw [exec_recordLayoutWrite, accessWrite_state hp (layoutEff_refused _ h)]
  case record => rw [exec_firmwareRecordCommand, accessWrite_done hp (firmwareRecordEff_fits _ h0 hr)]
  case noRecord => rw [exec_firmwareRecordCommand, accessWrite_state hp (firmwareRecordEff_refused _ h)]

end Sys2Proof.Machine
end

section
/-! PROOF. The Assayer's checks, the performance counters and the life ledger (R765 to R794). -/
namespace Sys2Proof.Machine

/-! ### Checks: commands -/

theorem exec_assayerScan (k : Fin 4) (w : Wr) (s : State) :
    exec (.assayerScan k w) s = .next (accessWrite s w false (assayerIdx k) 1 (assayerCommandEff k)) := rfl

theorem exec_beginFeed (k : Fin 4) (w : Wr) (s : State) :
    exec (.beginFeed k w) s = .next (accessWrite s w false (assayerIdx k) 1 (assayerCommandEff k)) := rfl

theorem exec_endFeed (k : Fin 4) (w : Wr) (s : State) :
    exec (.endFeed k w) s = .next (accessWrite s w false (assayerIdx k) 1 (assayerCommandEff k)) := rfl

theorem exec_assayerAbort (k : Fin 4) (w : Wr) (s : State) :
    exec (.assayerAbort k w) s = .next (accessWrite s w false (assayerIdx k) 1 (assayerCommandEff k)) := rfl

theorem exec_feedWord (k : Fin 4) (w : Wr) (s : State) :
    exec (.feedWord k w) s = .next (accessWrite s w false (assayerIdx k) 9 (feedWordEff k)) := rfl

theorem exec_feedByte (k : Fin 4) (w : Wr) (s : State) :
    exec (.feedByte k w) s = .next (accessWrite s w false (assayerIdx k) 0x0A (feedByteEff k)) := rfl

section
variable {k : Nat} {w : Wr} {s : State} (auth : Bool)

/-- R767: an idle channel begins a scan. -/
theorem assayerCommandEff_scan (hv : w.value = 1) : assayerCommandEff k w auth s =
    if chanState s k ≠ 0 then (.state, s) else (.accepted, beginCheck s k 1 (fun c => { c with
      addr := s.nat (assayerIdx k) 3, left := s.nat (assayerIdx k) 4, owner := none })) := by
  simp only [assayerCommandEff, hv, acc, rej]
  rfl

/-- R768: an idle channel begins a feed of the writing master. -/
theorem assayerCommandEff_feed (hv : w.value = 2) : assayerCommandEff k w auth s =
    if chanState s k ≠ 0 then (.state, s) else (.accepted, beginCheck s k 2 (fun c => { c with
      owner := some w.master, left := 0 })) := by
  simp only [assayerCommandEff, hv, acc, rej]
  rfl

/-- R769: a feed ends with its check. -/
theorem assayerCommandEff_end (hv : w.value = 3) : assayerCommandEff k w auth s =
    if chanState s k ≠ 2 then (.state, s) else (.accepted, endCheck s k) := by
  simp only [assayerCommandEff, hv, acc, rej]
  rfl

/-- R772: a scan with a word to read stops when its read returns; a feed, or a scan without one, ends at once. -/
theorem assayerCommandEff_abort (hv : w.value = 4) : assayerCommandEff k w auth s =
    if chanState s k = 1 ∧ (s.asyChan k).left ≠ 0 then (.accepted, s.putN (assayerIdx k) 2 3)
    else if chanState s k = 1 ∨ chanState s k = 2 then (.accepted, endAbort s k) else (.state, s) := by
  simp only [assayerCommandEff, hv, acc, rej]
  rfl

/-! ### Checks: bytes -/

/-- R768: the owner of a feed in progress is the master that began it. -/
theorem ownsFeed_iff (s : State) (k : Nat) (m : Master) : ownsFeed s k m = true ↔
    chanState s k = 2 ∧ ∃ o, (s.asyChan k).owner = some o ∧ masterSlot o = masterSlot m := by
  simp [ownsFeed]

theorem feedWordEff_owner (h : ownsFeed s k w.master = true) :
    feedWordEff k w auth s = (.accepted, takeBytes s k (wordBytes w.value)) := by
  rw [feedWordEff, if_pos h, acc]

theorem feedWordEff_other (h : ¬ ownsFeed s k w.master = true) : feedWordEff k w auth s = (.state, s) := by
  rw [feedWordEff, if_neg h, rej]

theorem feedByteEff_owner (h : ownsFeed s k w.master = true) :
    feedByteEff k w auth s = (.accepted, takeBytes s k [byteOf w.value 0]) := by
  rw [feedByteEff, if_pos h, acc]

theorem feedByteEff_other (h : ¬ ownsFeed s k w.master = true) : feedByteEff k w auth s = (.state, s) := by
  rw [feedByteEff, if_neg h, rej]

end

/-! ### Checks: scans -/

section
variable {k : Fin 4} {s : State} (h2 : s.on 2 = true) (hs : chanState s k = 1)
include h2 hs

/-- R767, R770: a read returns one fabric cycle after the last at the earliest. -/
theorem exec_scanReadReturn (hl : 0 < (s.asyChan k).left) (ht : (s.asyChan k).lastAt < s.t) :
    exec (.scanReadReturn k) s = .next (scanRead s k) :=
  when_true (by simp [h2, hs, hl, ht]) s _

/-- R767: a scan ends eight cycles after its last read, or at once without one. -/
theorem exec_checkEnd (hl : (s.asyChan k).left = 0)
    (ht : (s.asyChan k).count = 0 ∨ (s.asyChan k).lastAt + 8 ≤ s.t) : exec (.checkEnd k) s = .next (endCheck s k) :=
  when_true (by simpa [scanEnds, h2, hs, hl, State.passed] using ht) s _

end

section
variable {s x : State} {k : Nat}

theorem scanRead_word {v : Word} (h : busRead s (s.asyChan k).addr = (x, some v)) : scanRead s k =
    (takeBytes x k ((wordBytes v).take (min 4 (s.asyChan k).left))).modAsy k (fun y => { y with
      addr := (s.asyChan k).addr + 4, left := (s.asyChan k).left - min 4 (s.asyChan k).left }) := by
  simp only [scanRead, h]

theorem scanRead_error (h : busRead s (s.asyChan k).addr = (x, none)) : scanRead s k =
    (((x.putN (assayerIdx k) 0x0C 3).putN (assayerIdx k) 0x0D (s.asyChan k).addr).setBits (assayerIdx k) 0x0F 4).putN
      (assayerIdx k) 2 0 := by
  simp only [scanRead, h]

end

/-! ### Checks: ends -/

/-- R771: whether a check whose result is r disagrees with the reference. -/
def checkFails (s : State) (k : Nat) (r : Word) : Bool := s.nat (assayerIdx k) 8 != 0 && r != s.obj (assayerIdx k) 7

/-- R769: a check that ended with result r and its outcome, counted. -/
def checkShown (s : State) (k : Nat) (r : Word) : State :=
  let i := assayerIdx k
  (((((s.put i 0x0B r).putN i 0x0E (s.asyChan k).count).putN i 0x0C (if checkFails s k r then 2 else 1)).bump
    i 0x10 32).setBits i 0x0F 1).putN i 2 0

/-- R771: a failed check is counted and reported. -/
def checkReported (s : State) (k : Nat) (r : Word) : State :=
  let i := assayerIdx k
  if checkFails s k r then (((checkShown s k r).bump i 0x11 16).setBits i 0x0F 2).report (81 + k)
    (if s.nat i 8 = 1 then .ce else .uc)
  else checkShown s k r

theorem endCheck_eq (s : State) (k : Nat) : endCheck s k =
    let x := checkReported s k (crcEnd (s.asyChan k).crc (s.asyChan k).alive)
    if s.nat (assayerIdx k) 6 = 1 then x.putN (assayerIdx k) 5 ((x.nat (assayerIdx k) 5 + 1) % 65536) else x := rfl

section
variable (s : State) (k : Nat) (r : Word)

/-- A report changes no word but the flags and the count of failed checks. -/
theorem checkReported_obj {y : Nat} (hy : y < 256) (hflags : y ≠ 0x0F) (hfailed : y ≠ 0x11) :
    (checkReported s k r).obj (assayerIdx k) y = (checkShown s k r).obj (assayerIdx k) y := by
  unfold checkReported
  split
  · rw [State.report_obj, State.setBits_obj, if_neg (objKey_ne_of_sub hy (by decide) hflags _ _), State.bump_obj,
      if_neg (objKey_ne_of_sub hy (by decide) hfailed _ _)]
  · rfl

theorem checkShown_result : (checkShown s k r).obj (assayerIdx k) 0x0B = r := by
  simp [checkShown, objKey]

theorem checkShown_state : (checkShown s k r).obj (assayerIdx k) 2 = 0 := by
  simp [checkShown]

theorem checkShown_outcome : (checkShown s k r).obj (assayerIdx k) 0x0C = if checkFails s k r then 2 else 1 := by
  cases h : checkFails s k r <;> simp [checkShown, objKey, h]

theorem checkShown_alive : (checkShown s k r).obj (assayerIdx k) 5 = s.obj (assayerIdx k) 5 := by
  simp [checkShown, objKey]

theorem checkReported_alive : (checkReported s k r).obj (assayerIdx k) 5 = s.obj (assayerIdx k) 5 :=
  (checkReported_obj s k r (by decide) (by decide) (by decide)).trans (checkShown_alive s k r)

theorem checkReported_assayer : (checkReported s k r).assayer = s.assayer := by
  unfold checkReported
  split <;> simp [checkShown]

/-- R774: an end changes the alive counter alone of what the report leaves. -/
theorem endCheck_obj {y : Nat} (hy : y < 256) (halive : y ≠ 5) : (endCheck s k).obj (assayerIdx k) y =
    (checkReported s k (crcEnd (s.asyChan k).crc (s.asyChan k).alive)).obj (assayerIdx k) y := by
  rw [endCheck_eq]
  dsimp only
  split
  · rw [State.putN_obj, if_neg (objKey_ne_of_sub hy (by decide) halive _ _)]
  · rfl

theorem endCheck_result :
    (endCheck s k).obj (assayerIdx k) 0x0B = crcEnd (s.asyChan k).crc (s.asyChan k).alive := by
  rw [endCheck_obj _ _ (by decide) (by decide), checkReported_obj _ _ _ (by decide) (by decide) (by decide),
    checkShown_result]

theorem endCheck_state : (endCheck s k).nat (assayerIdx k) 2 = 0 := by
  rw [State.nat, endCheck_obj _ _ (by decide) (by decide), checkReported_obj _ _ _ (by decide) (by decide) (by decide),
    checkShown_state]
  rfl

theorem endCheck_outcome : (endCheck s k).nat (assayerIdx k) 0x0C =
    if checkFails s k (crcEnd (s.asyChan k).crc (s.asyChan k).alive) then 2 else 1 := by
  rw [State.nat, endCheck_obj _ _ (by decide) (by decide), checkReported_obj _ _ _ (by decide) (by decide) (by decide),
    checkShown_outcome]
  split <;> rfl

theorem endCheck_assayer : (endCheck s k).assayer = s.assayer := by
  rw [endCheck_eq]
  dsimp only
  split <;> exact checkReported_assayer _ _ _

/-- R774: the alive counter stays where it does not count by itself. -/
theorem endCheck_alive_kept (h : s.nat (assayerIdx k) 6 = 0) :
    (endCheck s k).obj (assayerIdx k) 5 = s.obj (assayerIdx k) 5 := by
  rw [endCheck_eq, if_neg (by omega), checkReported_alive]

theorem endCheck_alive_counted (h : s.nat (assayerIdx k) 6 = 1) :
    (endCheck s k).nat (assayerIdx k) 5 = (s.nat (assayerIdx k) 5 + 1) % 65536 := by
  rw [endCheck_eq, if_pos h, State.putN_nat_self _ _ _ (by omega), State.nat_eq_of_obj (checkReported_alive _ _ _)]

end

/-! ### Counters -/

/-- R779: counter n and k more of its event, wrapped. -/
def countAdded (s : State) (n k : Nat) : State :=
  let i := blockIdx (n / 8)
  let j := 0x0C + 2 * (n % 8)
  (s.noteCount (objKey i j) (s.pair i j) (fun c => BitVec.ofNat 64 ((c.toNat + k) % 2 ^ 48))).putPair i j
    (BitVec.ofNat 64 ((counterValue s n + k) % 2 ^ 48))

theorem addCount_eq (s : State) (n k : Nat) : addCount s n k =
    if counterValue s n + k < 2 ^ 48 then countAdded s n k
    else ((countAdded s n k).setBits (blockIdx (n / 8)) 2 (2 ^ (n % 8))).report 85 .ce n := rfl

/-- R778: an enabled counter takes its event as often as a cycle can hold it. -/
theorem exec_counterEvent {n : Fin 96} {k : BitVec 11} {s : State} (h2 : s.on 2 = true)
    (hn : s.flag (blockIdx (n / 8)) 1 (n % 8) = true)
    (hk : countedNow s n + k.toNat ≤ eventMax s (counterEvent s n)) :
    exec (.counterEvent n k) s = .next (addCount s n k.toNat) :=
  when_true (by simp [counterOn, h2, hn, hk]) s _

theorem exec_snapshotMaskWrite (w : Wr) (s : State) :
    exec (.snapshotMaskWrite w) s = .next (accessWrite s w false 0x3600 1 snapshotEff) := rfl

theorem snapshotEff_asks (w : Wr) (auth : Bool) (s : State) : snapshotEff w auth s = (.accepted, { s with
    life := { s.life with snapshot := s.life.snapshot ||| w.value.toNat % 4096 } }) := rfl

theorem snapshotBegin_eq {s : State} (h : s.life.snapshot ≠ 0) : snapshotBegin s =
    let x := (bitsSet 12 s.life.snapshot).foldl snapshotBlock (s.putPair 0x3600 2 s.now)
    { x with life := { x.life with snapshot := 0 } } :=
  if_neg h

/-- The copy of a block leaves the words of every other object. -/
theorem snapshotBlock_obj_other {i j b : Nat} (hj : j < 256) (h : i ≠ blockIdx b) (s : State) :
    (snapshotBlock s b).obj i j = s.obj i j :=
  foldl_keeps (fun s => s.obj i j) (fun k hk s => State.put_obj_other _ _ _ _ _ _ fun e =>
    h (objKey_inj hj (by have := List.mem_range.mp hk; omega) e).1) s

theorem snapshotBegin_time {s : State} (h : s.life.snapshot ≠ 0) : (snapshotBegin s).pair 0x3600 2 = s.now := by
  have hobj (j : Nat) (hj : j < 256) :
      (snapshotBegin s).obj 0x3600 j = (s.putPair 0x3600 2 s.now).obj 0x3600 j := by
    rw [snapshotBegin_eq h]
    exact foldl_keeps (fun s => s.obj 0x3600 j)
      (fun b _ s => snapshotBlock_obj_other hj (by unfold blockIdx; omega) s) _
  rw [State.pair, hobj 2 (by decide), hobj 3 (by decide)]
  exact State.putPair_pair s 0x3600 2 s.now

theorem snapshotBegin_snapshot {s : State} (h : s.life.snapshot ≠ 0) : (snapshotBegin s).life.snapshot = 0 := by
  rw [snapshotBegin_eq h]

/-! ### The life ledger -/

/-- R786: the ledger steps each second, with the tick of the clock state. -/
theorem exec_ledgerStep {s : State} (h2 : s.on 2 = true) (hr : s.flag 0x3700 1 0 = true) (ht : s.t % 200000 = 0)
    (h0 : 0 < s.t) (hn : tickNo s % (if clockState s = 0 then 80 else 1000) = 0) (hl : s.life.last ≠ some s.t) :
    exec .ledgerStep s = .next (ledgerStep s) :=
  when_true (by simp [lifeRuns, h2, hr, ht, h0, hn, hl]) s _

/-- R786: the ledger with every indicator stepped, at its second. -/
def ledgerStepped (s : State) : State :=
  let x := (List.range 16).foldl indicatorStep s
  { x with life := { x.life with last := some s.t, steps := s.life.steps + 1 } }

/-- R792: record 4 is requested each hour. -/
theorem ledgerStep_eq (s : State) : ledgerStep s =
    if (s.life.steps + 1) % 3600 = 0 then requestRecord (ledgerStepped s) 4 else ledgerStepped s := rfl

theorem exec_indicatorReplace (l : Fin 16) (auth : Bool) (w : Wr) (s : State) :
    exec (.indicatorReplace l auth w) s = .next (accessWrite s w auth (lifeIdx l) 0x0F (replaceEff l)) := rfl

theorem exec_indicatorOperate (l : Fin 16) (w : Wr) (s : State) :
    exec (.indicatorOperate l w) s = .next (accessWrite s w false (lifeIdx l) 0x12 (operateEff l)) := rfl

theorem exec_ledgerWriteCommand (w : Wr) (s : State) :
    exec (.ledgerWriteCommand w) s = .next (accessWrite s w false 0x3700 2 ledgerWriteEff) := rfl

/-- A write inside an accepted command that passes the checks and that its effect accepts (R12). -/
theorem accessWrite_authenticated {s s' : State} {w : Wr} {i j : Nat} {eff : WEff} (hlive : masterLive s w.master = true)
    (hcheck : checkWrite s w true i j = .accepted) (he : eff (typedWrite w i j) true s = (.accepted, s')) :
    accessWrite s w true i j eff = s'.accepted w.master i j := by
  rw [accessWrite_accepted s w true i j eff hlive hcheck, he]
  simp only [rangeResp_accepted, endWrite_accepted]
  rfl

theorem ledgerWriteEff_requests (w : Wr) (auth : Bool) (s : State) :
    ledgerWriteEff w auth s = (.accepted, requestRecord s 4) := rfl

section
variable {l : Nat} {w : Wr} {s : State} (auth : Bool)

/-- R791: 1h clears the indicator and requests record 4. -/
theorem replaceEff_clears (hv : w.value = 1) : replaceEff l w auth s = (.accepted, requestRecord (showLife (noPrediction
    ((((s.modIndicator l (fun x => { x with wear := 0, ring := [] })).put (lifeIdx l) 0x0B 0).put (lifeIdx l) 0x10 0).put
      (lifeIdx l) 0x11 0) l)) 4) := by
  rw [replaceEff, if_pos hv, acc]

/-- R787: 1h is an operation of a contactor of source 0h. -/
theorem operateEff_wears (hv : w.value = 1) (hr : lifeRuns s = true) (hk : s.nat (lifeIdx l) 1 = 4)
    (h0 : s.nat (lifeIdx l) 3 = 0) : operateEff l w auth s = (.accepted, contactorWear s l) := by
  rw [operateEff, if_pos ⟨hv, hr, hk, h0⟩, acc]

theorem operateEff_ignored (h : lifeRuns s = false ∨ s.nat (lifeIdx l) 1 ≠ 4 ∨ s.nat (lifeIdx l) 3 ≠ 0) :
    operateEff l w auth s = (.accepted, s) := by
  rw [operateEff, if_neg, acc]
  rintro ⟨-, hr, hk, h0⟩
  simp [hr, hk, h0] at h

end

/-- Settles O59: each command's effect by its cases, the words of a check's end by what its report leaves. -/
theorem checksCountersAndLedgerRun : Obligations.ChecksCountersAndLedgerRun := by
  unfold Obligations.ChecksCountersAndLedgerRun
  refine ⟨?commands, ?feeds, ?scans, ?ends, ?zeroes, ?ascending, ?counters, ?mask, ?snapshots, ?ledger, ?replace,
    ?operate, ?record⟩
  case commands =>
    intro k w s hp
    refine ⟨fun hv h0 => ?scan, fun hv h0 => ?noScan, fun hv h0 => ?feed, fun hv h0 => ?noFeed, fun hv h2 => ?endFeed,
      fun hv h2 => ?noEnd, fun hv h1 hl => ?stop, fun hv h => ?abort, fun hv h1 h2 => ?noAbort⟩
    case scan =>
      exact congrArg _ (accessWrite_done hp ((assayerCommandEff_scan false hv).trans (if_neg (not_not.mpr h0))))
    case noScan =>
      exact congrArg _ (accessWrite_state hp ((assayerCommandEff_scan false hv).trans (if_pos h0)))
    case feed =>
      refine congrArg _ (accessWrite_done hp
        (((assayerCommandEff_feed false hv).trans (if_neg (not_not.mpr h0))).trans ?_))
      rw [typedWrite_master]
      rfl
    case noFeed =>
      exact congrArg _ (accessWrite_state hp ((assayerCommandEff_feed false hv).trans (if_pos h0)))
    case endFeed =>
      exact congrArg _ (accessWrite_done hp ((assayerCommandEff_end false hv).trans (if_neg (not_not.mpr h2))))
    case noEnd =>
      exact congrArg _ (accessWrite_state hp ((assayerCommandEff_end false hv).trans (if_pos h2)))
    case stop =>
      exact congrArg _ (accessWrite_done hp ((assayerCommandEff_abort false hv).trans (if_pos ⟨h1, hl⟩)))
    case abort =>
      refine congrArg _ (accessWrite_done hp ((assayerCommandEff_abort false hv).trans ?_))
      rw [if_neg (by omega), if_pos (by omega), endAbort]
    case noAbort =>
      refine congrArg _ (accessWrite_state hp ((assayerCommandEff_abort false hv).trans ?_))
      rw [if_neg (fun h => h1 h.1), if_neg (not_or.mpr ⟨h1, h2⟩)]
  case feeds =>
    intro k w s
    have howns (j : Nat) : ownsFeed s k (typedWrite w (assayerIdx k) j).master = true ↔ chanState s k = 2 ∧
        ∃ m, (s.asyChan k).owner = some m ∧ masterSlot m = masterSlot w.master := by
      rw [typedWrite_master, ownsFeed_iff]
    refine ⟨fun hp => ⟨fun h => ?word, fun h => ?noWord⟩, fun hp => ⟨fun h => ?byte, fun h => ?noByte⟩⟩
    case word => exact congrArg _ (accessWrite_done hp (feedWordEff_owner false ((howns 9).mpr h)))
    case noWord => exact congrArg _ (accessWrite_state hp (feedWordEff_other false (mt (howns 9).mp h)))
    case byte => exact congrArg _ (accessWrite_done hp (feedByteEff_owner false ((howns 0x0A).mpr h)))
    case noByte => exact congrArg _ (accessWrite_state hp (feedByteEff_other false (mt (howns 0x0A).mp h)))
  case scans =>
    intro k s h2 hs
    exact ⟨fun x v hl ht hb => (exec_scanReadReturn h2 hs hl ht).trans (congrArg _ (scanRead_word hb)),
      fun x hl ht hb => (exec_scanReadReturn h2 hs hl ht).trans (congrArg _ (scanRead_error hb)),
      exec_checkEnd h2 hs⟩
  case ends =>
    intro s k
    refine ⟨endCheck_result s k, endCheck_state s k, endCheck_assayer s k, (endCheck_outcome s k).trans ?_,
      endCheck_alive_kept s k, endCheck_alive_counted s k⟩
    simp [checkFails]
  case zeroes => decide +kernel
  case ascending => decide +kernel
  case counters =>
    intro n k s h2 i v hn hk j x
    exact ⟨fun hv => (exec_counterEvent h2 hn hk).trans (congrArg _ ((addCount_eq s n k.toNat).trans (if_pos hv))),
      fun hv => (exec_counterEvent h2 hn hk).trans
        (congrArg _ ((addCount_eq s n k.toNat).trans (if_neg (not_lt.mpr hv))))⟩
  case mask => exact fun w s hp => congrArg _ (accessWrite_done hp (snapshotEff_asks _ _ _))
  case snapshots => exact fun s h => ⟨snapshotBegin_time h, snapshotBegin_snapshot h⟩
  case ledger =>
    intro s h2 hr ht h0 hn hl
    exact ⟨fun hh => (exec_ledgerStep h2 hr ht h0 hn hl).trans
        (congrArg _ ((ledgerStep_eq s).trans (if_neg hh))),
      fun hh => (exec_ledgerStep h2 hr ht h0 hn hl).trans (congrArg _ ((ledgerStep_eq s).trans (if_pos hh)))⟩
  case replace =>
    exact fun l w s hlive hcheck hv =>
      congrArg _ (accessWrite_authenticated hlive hcheck (replaceEff_clears true hv))
  case operate =>
    exact fun l w s hp hv => ⟨fun hr hk h0 => congrArg _ (accessWrite_done hp (operateEff_wears false hv hr hk h0)),
      fun h => congrArg _ (accessWrite_done hp (operateEff_ignored false h))⟩
  case record => exact fun w s hp => congrArg _ (accessWrite_done hp (ledgerWriteEff_requests _ _ _))

end Sys2Proof.Machine
end

section
/-! PROOF. Start-up and the widening levels (R797 to R815). -/
namespace Sys2Proof.Machine

/-! ### Fuses and journal -/

/-- R797: what the reading of the fuses leaves, with the regulator latches loaded or not. -/
def fusesLoaded (s : State) : State :=
  bootService ((s.modStart (fun u => { u with otpLoaded := true })).putN 0x3800 1 2)

/-- R741: the state with the fuses, every region and the identity read. -/
def fusesRead (s : State) : State :=
  loadIdentity ((List.range 16).foldl recheckRegion (showFuses (s.modNv (fun n => { n with fuseRead := true }))))

/-- R561, R797: the latches follow the supply word unless a system reset began start-up. -/
theorem exec_startupFuses {s : State} (h2 : s.on 2 = true) (hs : startState s = 1) : exec .startupFuses s =
    .next (fusesLoaded (if s.rtc.cause = 3 then fusesRead s else loadLatches (fusesRead s))) :=
  when_true (by simp [h2, hs]) s _

theorem exec_startupJournal {s : State} (h2 : s.on 2 = true) (hs : startState s = 2) : exec .startupJournal s =
    .next (bootService (((loadComm ((List.range 8).foldl restoreRecord s)).modStart
      (fun u => { u with journalLoaded := true })).putN 0x3800 1 3)) :=
  when_true (by simp [h2, hs]) s _

/-- R740: a region is blank where each of its words is 0. -/
theorem judgeRegion_blank_iff (s : State) (n : Nat) : judgeRegion s n = 0 ↔ ∀ j, j < 32 → shadowWord s n j = 0 := by
  have hall : ((List.range 32).map (shadowWord s n)).all (fun v => v == 0) = true ↔ ∀ j, j < 32 → shadowWord s n j = 0 := by
    simp
  rw [← hall, judgeRegion]
  split
  case isTrue hblank => exact iff_of_true rfl hblank
  case isFalse hblank => exact iff_of_false (by split <;> decide) hblank

/-- R740: a region is good only where its check word agrees. -/
theorem judgeRegion_good {s : State} {n : Nat} (h : judgeRegion s n = 1) : shadowWord s n 31 =
    assayerCheck ((((List.range 32).map (shadowWord s n)).take 16).flatMap wordBytes) n := by
  rw [judgeRegion] at h
  split at h
  · cases h
  · split at h
    · assumption
    · cases h

/-! ### Banks -/

/-- R799: the ports' findings on bank b shown. -/
def bankFound (s : State) (b : Nat) (density : Word) (mode : Nat) : State :=
  (s.put 0x3802 (2 + b) (if mode = 0 then 0 else density)).putN 0x3802 (4 + b) mode

/-- R802: the code and the state of a bank's check kept. -/
def bankJudged (b : Nat) : Nat × State → State
  | (c, x) => if c = 0 then (x.putN 0x3800 (6 + b) 0).modStart (fun u => { u with valid := u.valid ++ [b] })
    else bankFails x b c

/-- R799: the next bank is found and verified. -/
theorem exec_bankVerify {s : State} (density : BitVec 32) (mode : Fin 3) (h2 : s.on 2 = true) (hs : startState s = 3)
    (hb : s.startup.bank < 2) : exec (.bankVerify density mode) s =
      .next (bootService ((bankJudged s.startup.bank (verifyBank (bankFound s s.startup.bank density mode)
        s.startup.bank mode)).modStart (fun u => { u with bank := s.startup.bank + 1 }))) :=
  when_true (by simp [h2, hs, hb]) s _

theorem bankJudged_valid (b : Nat) (x : State) : bankJudged b (0, x) =
    (x.putN 0x3800 (6 + b) 0).modStart (fun u => { u with valid := u.valid ++ [b] }) := rfl

theorem bankJudged_failed (b : Nat) {k : Nat} (hk : k ≠ 0) (x : State) :
    bankJudged b (k, x) = ((x.putN 0x3800 (6 + b) k).setBits 0x3800 0x0F 2).report 87 .ce (0x301 + b) :=
  if_neg hk

/-- R802: a bank without a device fails with code 1h. -/
theorem verifyBank_absent (s : State) (b : Nat) : verifyBank s b 0 = (1, s) := rfl

section
variable {s : State} (h2 : s.on 2 = true) (hs : startState s = 3) (hb : s.startup.bank = 2)
include h2 hs hb

theorem exec_bankChoice (hv : s.startup.valid ≠ []) : exec .bankChoice s = .next (bootService (chooseAgain 2 s)) :=
  when_true (by simp [h2, hs, hb, hv]) s _

/-- R810: with no valid bank the service loader runs. -/
theorem exec_serviceLoader (hv : s.startup.valid = []) : exec .serviceLoader s =
    .next (bootService ((canStart ((twbStart ((releaseField (releaseAssayer (s.putN 0x3800 1 6))).putN (twbIdx 0) 1 1)
      0).putN (canIdx 0) 1 1) 0).report 87 .uc 0)) :=
  when_true (by simp [h2, hs, hb, hv]) s _

end

/-- R803: the only valid bank is chosen. -/
theorem chooseAgain_only {s : State} {b : Nat} (hv : s.startup.valid = [b]) (hf : fallbackBank s = none)
    (hc : copiedOver s b = false) (n : Nat) : chooseAgain (n + 1) s = bankChosen s b := by
  have hn : newerBank s = some b := by
    rw [newerBank, hv]
  have hchoose : chooseBank s = some (b, s) := by
    rw [chooseBank, hf, hn]
  have hplace : placeBank s b = (s, true) := by
    rw [placeBank, hc]
    rfl
  simp only [chooseAgain, hchoose, hplace]

/-- R803: of two valid banks the newer one, A where they are equal. -/
theorem newerBank_two {s : State} (hv : s.startup.valid = [0, 1]) : newerBank s =
    some (if 0 < angDiff (bankInfo s 1).sequence (bankInfo s 0).sequence then 1 else 0) := by
  rw [newerBank, hv]

/-! ### Widening -/

/-- R805: the next step begins where step n has ended. -/
def wideningNext (s : State) (n : Nat) (l : List Nat) (engFail : BitVec 16) (phFail : BitVec 48) (domFail : Bool) : State :=
  finishSteps (beginStep (settleAll (foremanAct (withDescriptor (s.modStart (fun u => { u with steps := l }))
    (fun u => showLevel (stepEnd u n engFail phFail domFail))))))

/-- R805, R809: a step ends in state 4h, or in state 5h where the steps run again. -/
theorem exec_wideningStep {s : State} {n : Nat} {l : List Nat} {refs : BitVec 64} (engFail : BitVec 16)
    (phFail : BitVec 48) {late : Bool} (h2 : s.on 2 = true) (hl : s.startup.steps = n :: l)
    (hr : stepReady s n (late || (n == 1 && !referencesGood refs)) = true)
    (hs : startState s = 4 ∨ s.startup.again = true) : exec (.wideningStep refs engFail phFail late) s =
      let y := wideningNext s n l engFail phFail (late || (n == 1 && !referencesGood refs))
      .next (if startState s = 4 then bootService y else y) := by
  change execWideningStep refs engFail phFail late s = _
  simp only [execWideningStep, hl]
  exact when_true (by simpa [h2, hr] using hs) s _

/-- R797, R805: widening is over. -/
theorem exec_startupRunning {s : State} (h2 : s.on 2 = true) (hs : startState s = 4) (hl : s.startup.steps = [])
    (hf : s.flag 0x3801 2 1 = false) : exec .startupRunning s =
      .next (requestRecord (((((enterImage s (s.nat 0x3800 4 - 1)).putN 0x3800 1 5).putN 0x3800 0x0C
        (startTime s)).setBits 0x3800 0x0F 1).bump 0x3800 0x0D 32) 5) := by
  refine (when_true (by simp [h2, hs, hl]) s _).trans ?_
  rw [hf, if_neg fun h => Bool.false_ne_true h.1]

/-! ### The image -/

theorem storeBytes_engines_length (s : State) (a : Nat) (l : List Byte) :
    (storeBytes s a l).engines.length = s.engines.length :=
  (List.length_map _).trans
    (congrArg List.length ((State.putBytes_moves (km := 0x1000) s a l (by decide) (Moves.refl _ s)).engines rfl))

/-- R798: whether a copy of the header at h lies in system SRAM apart from the payload. -/
def headerFits (s : State) (b : Nat) (h : Word) : Bool :=
  inSram h.toNat 256 && (decide (h.toNat + 256 ≤ (bankInfo s b).load) ||
    decide ((bankInfo s b).load + (bankInfo s b).length ≤ h.toNat))

/-- R798: the state with the header's copy at h, where it lies apart from the payload. -/
def headerCopied (s : State) (b : Nat) (h : Word) : State :=
  if headerFits s b h then storeBytes s.freshWord.2 h.toNat (flashBytes s b 0 256) else s.freshWord.2

theorem headerCopied_engines_length (s : State) (b : Nat) (h : Word) :
    (headerCopied s b h).engines.length = s.engines.length := by
  unfold headerCopied
  split
  · exact storeBytes_engines_length _ _ _
  · rfl

theorem enterImage_eq (s : State) (b : Nat) : enterImage s b =
    ((headerCopied s b s.freshWord.1).modStart (fun x => { x with header := s.freshWord.1 })).modEng 0
      (fun g => { ((g.setReg 10 (s.obj 0x3800 4)).setReg 11 s.freshWord.1) with
        pc := BitVec.ofNat 32 (bankInfo s b).entry
        user := false }) := rfl

/-- R798: E0 is at the image's entry in machine mode. -/
theorem enterImage_engine {s : State} (b : Nat) (he : s.engines.length = 16) :
    ((enterImage s b).eng 0).pc = BitVec.ofNat 32 (bankInfo s b).entry ∧ ((enterImage s b).eng 0).user = false := by
  have hlen : 0 < ((headerCopied s b s.freshWord.1).modStart
      (fun x => { x with header := s.freshWord.1 })).engines.length :=
    (headerCopied_engines_length s b s.freshWord.1).trans he ▸ by decide
  rw [enterImage_eq, State.modEng_eng_self _ _ _ hlen]
  exact ⟨rfl, rfl⟩

/-! ### Levels -/

theorem exec_targetLevelWrite (w : Wr) (s : State) :
    exec (.targetLevelWrite w) s = .next (accessWrite s w false 0x3801 1 targetEff) := rfl

theorem exec_wideningRetry (w : Wr) (s : State) :
    exec (.wideningRetry w) s = .next (accessWrite s w false 0x3801 5 retryEff) := rfl

section
variable {w : Wr} {s : State} (auth : Bool)

theorem targetEff_busy (h : widening s = true) : targetEff w auth s = (.state, s) := by
  simp only [targetEff, h, if_true, rej]

theorem retryEff_busy (h : widening s = true) : retryEff w auth s = (.state, s) := by
  simp only [retryEff, h, if_true, rej]

section
variable (h : widening s = false)
include h

/-- R809: a lower target narrows the device at once. -/
theorem targetEff_lower (hv : w.value.toNat < s.nat 0x2001 3) : targetEff w auth s = (.accepted, settleAll (foremanAct
    (withDescriptor (requestRecord (s.put 0x3801 1 w.value) 5) (fun y => showLevel (narrowTo y w.value.toNat))))) := by
  simp only [targetEff, h, Bool.false_eq_true, if_false, if_pos hv, acc]

/-- R809: the level's own target, or a higher one before the image runs, is only kept. -/
theorem targetEff_kept (hv : w.value.toNat = s.nat 0x2001 3 ∨ (s.nat 0x2001 3 < w.value.toNat ∧ startState s ≠ 5)) :
    targetEff w auth s = (.accepted, requestRecord (s.put 0x3801 1 w.value) 5) := by
  have hup : ¬ (s.nat 0x2001 3 < w.value.toNat ∧ startState s = 5) := by omega
  simp only [targetEff, h, Bool.false_eq_true, if_false, if_neg (show ¬ w.value.toNat < s.nat 0x2001 3 by omega),
    if_neg hup, acc]

/-- R809: a higher target in state 5h runs the level steps again. -/
theorem targetEff_higher (hv : s.nat 0x2001 3 < w.value.toNat) (hs : startState s = 5) :
    targetEff w auth s = (.accepted, widenAgain (requestRecord (s.put 0x3801 1 w.value) 5)) := by
  simp only [targetEff, h, Bool.false_eq_true, if_false, if_neg hv.not_gt, if_pos (And.intro hv hs), acc]

theorem retryEff_early (hs : startState s ≠ 5) : retryEff w auth s = (.accepted, s) := by
  simp only [retryEff, h, Bool.false_eq_true, if_false, if_pos hs, acc]

/-- R809: a retry forgets what was left out and runs the level steps again. -/
theorem retryEff_again (hs : startState s = 5) : retryEff w auth s = (.accepted, widenAgain (withDescriptor s
    (fun x => ((x.putN 0x2001 0x0C 0).putN 0x2001 0x0D 0).putN 0x2001 0x0E 0))) := by
  simp only [retryEff, h, Bool.false_eq_true, if_false, if_neg (not_not.mpr hs), acc]

end

end

/-- Settles O60: each start-up command by the state it runs in, the level writes by the cases of their effects. -/
theorem startUpRunsItsStates : Obligations.StartUpRunsItsStates := by
  unfold Obligations.StartUpRunsItsStates
  refine ⟨?fuses, ?regions, fun s => exec_startupJournal, ?verify, ?choice, ?only, ?newer, ?step,
    fun s => exec_startupRunning, ?image, ?levels⟩
  case fuses =>
    exact fun s h2 hs => ⟨fun hc => (exec_startupFuses h2 hs).trans (by rw [if_pos hc]; rfl),
      fun hc => (exec_startupFuses h2 hs).trans (by rw [if_neg hc]; rfl)⟩
  case regions => exact fun s n => ⟨judgeRegion_blank_iff s n, judgeRegion_good⟩
  case verify =>
    intro s density mode h2 hs b hb p
    have hexec := exec_bankVerify density mode h2 hs hb
    refine ⟨fun x hx => ?valid, fun k x hk hx => ?failed, fun hm => ?absent⟩
    case valid =>
      rw [hexec, show verifyBank (bankFound s s.startup.bank density mode) s.startup.bank mode = (0, x) from hx,
        bankJudged_valid]
    case failed =>
      rw [hexec, show verifyBank (bankFound s s.startup.bank density mode) s.startup.bank mode = (k, x) from hx,
        bankJudged_failed _ hk]
    case absent =>
      rw [hm]
      exact verifyBank_absent p b
  case choice => exact fun s h2 hs hb => ⟨exec_bankChoice h2 hs hb, exec_serviceLoader h2 hs hb⟩
  case only => exact fun s b hv _ hf hc => chooseAgain_only hv hf hc 1
  case newer =>
    exact fun s hv => ⟨fun h => (newerBank_two hv).trans (congrArg some (if_pos h)),
      fun h => (newerBank_two hv).trans (congrArg some (if_neg (not_lt.mpr h)))⟩
  case step =>
    intro s n l refs ef pf late h2 df hl hr x y
    exact ⟨fun hs => (exec_wideningStep ef pf h2 hl hr (.inl hs)).trans (congrArg _ (if_pos hs)),
      fun hs ha => (exec_wideningStep ef pf h2 hl hr (.inr ha)).trans (congrArg _ (if_neg (by omega)))⟩
  case image =>
    intro s b he
    obtain ⟨hpc, huser⟩ := enterImage_engine b he
    exact ⟨hpc, huser, (enterImage_moves (km := 4) s b (by decide) (Moves.refl 4 s)).od rfl⟩
  case levels =>
    intro w s
    refine ⟨fun hp => ⟨fun h => ?targetBusy, fun h hv => ?lower, fun h hv => ?kept, fun h hv hs => ?higher⟩,
      fun hp => ⟨fun h => ?retryBusy, fun h hs => ?early, fun h hs => ?again⟩⟩
    case targetBusy => exact congrArg _ (accessWrite_state hp (targetEff_busy false h))
    case lower => exact congrArg _ (accessWrite_done hp (targetEff_lower false h hv))
    case kept => exact congrArg _ (accessWrite_done hp (targetEff_kept false h hv))
    case higher => exact congrArg _ (accessWrite_done hp (targetEff_higher false h hv hs))
    case retryBusy => exact congrArg _ (accessWrite_state hp (retryEff_busy false h))
    case early => exact congrArg _ (accessWrite_done hp (retryEff_early false h hs))
    case again => exact congrArg _ (accessWrite_done hp (retryEff_again false h hs))

end Sys2Proof.Machine
end
